-- ==== Sys2Proof/Word.lean ====
section
/-! DEFINITION. The word types of the block and the plainest arithmetic over them.
The device's own formats are little-endian (R11); bits are numbered from 0 at the least significant bit. -/
namespace Sys2Proof

/-- One byte of a value, a message or a memory. -/
abbrev Byte := BitVec 8

/-- A 32-bit register of an instance page or of the boot window (R87, R197). -/
abbrev Word32 := BitVec 32

/-- A 64-bit value. -/
abbrev Word64 := BitVec 64

end Sys2Proof
end

