-- ==== Sys2Proof/Syntax.lean ====
section
/-! DEFINITION. The commands of the block: one constructor per row of the opcode table, with the operands the rows need.
A command is an event at the present device time. The table states no operands, so the operands are the model's:
what a request carries, what a queue entry or block delivered by DMA holds, and what a sensor or a link measured
(log entries 2, 8 and 12). -/
namespace Sys2Proof

/-- The two worlds (R27 bit 15, R242). -/
inductive World where
  | normal | secure
deriving DecidableEq, Repr

/-- Who makes a directory request, and over which transport (R122). `core` is the firmware API of a management core on
a die; `tunnel` is a message written to 0x1F12 over MCAN (R170); `mailbox` is the PCIe mailbox of instance `inst` with the message's tag and,
with INDIRECT set, the host address and length its body names (R167, R169). -/
inductive Requester where
  | mailbox (inst tag : Nat) (indirect : Option (Nat × Nat))
  | mcan
  | core (die : Nat) (world : World)
  | tunnel (tag : Nat)
deriving DecidableEq, Repr

/-- Views of R120. `invalid` is code 3 of R167. -/
inductive View where
  | active | draft | previous | invalid
deriving DecidableEq, Repr

/-- One entry of a write group: index, sub, value bytes (R168). -/
structure GroupWrite where
  idx  : Nat
  sub  : Nat
  data : List Byte
deriving DecidableEq, Repr

/-- One entry of a read group: index, sub, view (R168). -/
structure GroupRead where
  idx  : Nat
  sub  : Nat
  view : View
deriving DecidableEq, Repr

/-- A directory service request (R127); `malformed` is a message that names no service or does not hold what its header says, with the status
it ends with (R167, R169). -/
inductive DirRequest where
  | read (idx sub : Nat) (view : View)
  | write (idx sub : Nat) (data : List Byte)
  | describe (idx sub : Nat)
  | readGroup (es : List GroupRead)
  | writeGroup (es : List GroupWrite)
  | malformed (service refusal : Nat)
deriving DecidableEq, Repr

/-- The common fields of a submission-queue entry as fetched (R200): the instance, its queue, flags and tag. -/
structure Entry where
  inst  : Nat
  q     : Nat
  flags : Nat
  tag   : Nat
deriving DecidableEq, Repr

/-- The supply rails of R62. -/
inductive Rail where
  | core (die : Nat) | shell | sram | aon | vddq | vdd2h | vdd1 | dpa | dph | pcie | io18 | io33
deriving DecidableEq, Repr

/-- State of a fabric link as R43 codes it: 0 not connected, 1 down, 2 up at x8, 3 up at x16. -/
structure LinkReport where
  a     : Nat
  b     : Nat
  state : Nat
deriving DecidableEq, Repr

/-- The element a PLL check found failing (R676). -/
inductive PllElement where
  | corePll | headPll (unit : Nat) | lanePll
deriving DecidableEq, Repr

/-- What a self-test slot measured: its failed checks (bit = code of R676), the head (0 or 1 of the die) whose line buffer
failed when that is the SRAM fault, the failing PLL, and the slot's length. -/
structure SlotResult where
  failed     : Nat
  lineBuffer : Option Nat
  pll        : PllElement
  durationUs : Nat
deriving DecidableEq, Repr

/-- What a fault of an instance's DMA was (R215, R221). -/
inductive DmaFault where
  | unsupportedRequest | completerAbort | completionTimeout | poison
deriving DecidableEq, Repr

/-- Host-side configuration-space controls that have no row of their own (R193, R198, R86). -/
inductive ConfigControl where
  | msixEnable | msixFunctionMask | ariHierarchy | d3hot | pmeEnable
deriving DecidableEq, Repr

/-- Registers of a function's configuration space (R193, R196, R198). -/
inductive PciRegister where
  | vendorId | deviceId | classCode | revisionId | totalVfs | initialVfs | firstVfOffset | vfStride | supportedPageSizes | numVfs | vfEnable
  | linkWidth | linkSpeed | maxPayloadSupported | msixTableSize | ariCapability | flrCapability | aerCapability | ptmCapability
  | tag10Supported | maxReadRequestSupported | aspmSupported | l1SubstatesSupported | ltrSupported | powerManagement
  | command | bar0 | bar2 | vfBar0 | vfBar2 | systemPageSize | maxPayload | maxReadRequest | tag10Enable | aspm | l1Substates | ltrEnable
deriving DecidableEq, Repr

/-- Register blocks of a die's control window by their world class (R248): the permission-table entry of a granule (device address / 4096),
the other SECURE_ONLY blocks, the clock and power controls of a claimable block (class and number of R260), all other blocks. -/
inductive ControlBlock where
  | permission (granule : Nat) | claimTable | crypto | fuses | debugUnlock | keypadRouting | power (cls resource : Nat) | other
deriving DecidableEq, Repr

/-- Words of the custom-0 opcode (R250). -/
inductive Custom0 where
  | wcall | wret | illegal
deriving DecidableEq, Repr

/-- What a plain register write names: an instance-page register, a boot-window register, a configuration-space control or register,
a directory entry, a word that a management core stores at a device address, or a register block that it writes; with the loads and reads that
meet the same checks. -/
inductive RegTarget where
  | pci (inst : Nat) (r : PciRegister) (value : Nat)
  | page (inst offset value : Nat)
  | boot (offset value : Nat)
  | config (inst : Nat) (c : ConfigControl) (on : Bool)
  | entry (req : Requester) (idx sub : Nat) (data : List Byte)
  | store (core address value : Nat)
  | block (core die : Nat) (b : ControlBlock) (value : Nat)
  | load (core address : Nat)
  | blockRead (core die : Nat) (b : ControlBlock)
deriving DecidableEq, Repr

/-- Privilege modes of a management core (R241). -/
inductive Privilege where
  | user | supervisor | machine
deriving DecidableEq, Repr

/-- How a monitor or applet service ended: its status and results a1 to a5 (R252). -/
structure ServiceResult where
  status : Nat
  values : List Nat := []
deriving DecidableEq, Repr

/-- What an applet asks of the keypad service (R258): head, region number n of the head, keys, and the mask action word the
applet supplies for each named key (in the order of `keys`). -/
structure KeypadRequest where
  applet : Nat
  head   : Nat
  region : Nat
  keys   : List Nat
  masks  : List Nat
deriving DecidableEq, Repr

/-- Domains woken on demand (R624). -/
inductive Domain where
  | managementCores | trunkRole | rasterCores | fabricLinks | dram
deriving DecidableEq, Repr

/-- A timing a sink declares (R293). -/
structure SinkTiming where
  pixelKhz : Nat
  hActive  : Nat
  hFront   : Nat
  hSync    : Nat
  hBack    : Nat
  vActive  : Nat
  vFront   : Nat
  vSync    : Nat
  vBack    : Nat
  polarity : Nat
deriving DecidableEq, Repr

/-- What READING_CAPS read from the sink (R272, R277, R293, R308): the raw data, and what the DisplayPort, EDID and DisplayID standards say
it declares: the highest rate code of R273, the lane count, the ranges of the Adaptive-Sync data block and of the Display Range Limits
descriptor, the preferred Type VII timing and the first detailed timing, whether the tiled topology places this sink to the right, and
whether an LTTPR on the way needs non-transparent mode for 128b/132b. -/
structure SinkData where
  dpcd      : List Byte
  edid      : List Byte
  displayid : List Byte
  rateMax   : Nat
  lanes     : Nat
  adaptive  : Option (Nat × Nat)
  limits    : Option (Nat × Nat)
  typeSeven : Option SinkTiming
  detailed  : Option SinkTiming
  tileRight : Bool := false
  lttpr     : Bool := false
deriving DecidableEq, Repr

/-- The range a sink declares (R277): its Adaptive-Sync data block's, otherwise the Display Range Limits descriptor's. -/
def SinkData.range (k : SinkData) : Option (Nat × Nat) := k.adaptive <|> k.limits
/-- A sink's preferred timing (R293): the Type VII timing with its preferred flag set, otherwise the first detailed timing. -/
def SinkData.preferred (k : SinkData) : Option SinkTiming := k.typeSeven <|> k.detailed
/-- The highest rate code the link to a sink trains at (R272). -/
def SinkData.rateLimit (k : SinkData) : Nat := if k.lttpr then min 3 k.rateMax else k.rateMax

/-- The content of one tile of an attachment as the raster cores left it (R430): attachment 0 to 3 colour, 4 depth, and the
tile's bytes line by line, each line covering the tile's pixels inside the pass in memory order (R436). -/
structure TileData where
  attachment : Nat
  tx         : Nat
  ty         : Nat
  data       : List Byte
deriving DecidableEq, Repr

/-- What the front end converted on one electrode in a window: the count of each burst (R459, R461). -/
structure BurstReading where
  electrode : Nat
  counts    : List Nat
deriving DecidableEq, Repr

/-- A frame received on a lane (R569, R570): on CAN FD its identifier; the bytes from SYNC or of the data field; whether no
two characters were more than 1.5 character times apart (R564); the lane-clock periods of 12.5 ns from the end of the
request to its start (R587); and the mean displacement of its edges in ps (R665). -/
structure LaneFrame where
  identifier : Nat
  bytes      : List Byte
  gapless    : Bool
  rtt        : Nat
  shift      : Int
deriving DecidableEq, Repr

/-- Body of a LANE queue entry (R583). -/
structure LaneEntry where
  partner      : Nat
  object       : Nat
  length       : Nat
  laneFlags    : Nat
  resultAddr   : Nat
  value        : List Byte
  reservedZero : Bool
deriving DecidableEq, Repr

/-- Body of a STREAM queue entry (R600), with the bytes that host DMA returned when the source is in the host; `none` when
its completion failed (R221). -/
structure StreamEntry where
  src          : Nat
  dst          : Nat
  length       : Nat
  streamFlags  : Nat
  reservedZero : Bool
  host         : Option (List Byte)
deriving DecidableEq, Repr

/-- The commands, one constructor per row of the opcode table. An operand that has a default (it stands last) says what happens besides the row's
own event; the default is the event as the row gives it. -/
inductive Instr where
  /-- R57: The internal power-on reset is released after VDD_AON and VDDIO18 become valid, which starts strap sampling. -/
  | powerOnResetRelease
  /-- R57: The straps are sampled at the later of the power-on reset release and the RESET_N release, and at every exit from OFF; SVC_REQ_N is released. -/
  | strapSampling (bootSrc vrMode : Bool) (mgmtId : Nat)
  /-- R80: RESET_N goes low, which resets everything outside the always-on domain and returns the device to POWERED. -/
  | resetNAssert
  /-- R66: RESET_N is released, which allows the device to leave POWERED and fixes the origin used to adjust PERST_N. -/
  | resetNRelease
  /-- R67: A monitored non-AON rail stays below its minimum longer than 2 µs, which counts as a loss of power and resets all but the always-on domain. -/
  | railLoss (rail : Rail)
  /-- R67: VDD_AON or VDDIO18 is lost, the internal power-on reset detects it, and the device restarts from POWERED when the rails return. -/
  | aonPowerLoss
  /-- R69: The monitors see the rails switched by PWREN_MAIN or PWREN_MEM become valid, and the exit continues. -/
  | switchedRailsValid
  /-- R69: The switched rails are not valid within 50 ms; the device lowers the outputs as the state requires, drives SVC_REQ_N low and stays in OFF or DEEP_SLEEP. -/
  | railValidTimeout
  /-- R80: PERST_N is asserted, which restarts the boot before OPERATIONAL, resets the endpoint while OPERATIONAL, or acts as RESET_N in FAILED. -/
  | perstNAssert
  /-- R66: PERST_N is released, as adjusted against RESET_N, and the ROM brings the LTSSM into Detect. -/
  | perstNRelease
  /-- R80: Strap sampling, the fuse read and the D0 stack at boot rate complete; the LTSSM starts and the device enters ROM_READY, or it halts on a failure. -/
  | poweredComplete (fusesOk dramOk : Bool) (romOk : Bool := true)
  /-- R80: Memory Space Enable is set in the physical function while BOOT_SRC is low; the boot window opens and the device enters AWAIT_IMAGE. -/
  | memorySpaceEnable (romOk : Bool := true)
  /-- R103: The ROM's recovery MCAN server starts with BOOT_SRC high, and the device enters AWAIT_IMAGE. -/
  | mcanServerStarted (romOk : Bool := true)
  /-- R88: A BAR0 aperture write lands in the boot region page selected by APERTURE_PAGE, only in AWAIT_IMAGE. -/
  | apertureWrite (offset : Nat) (data : List Byte)
  /-- R89: START in BOOT_CONTROL closes the window, latches IMAGE_LENGTH and RING_LENGTH, and enters AUTHENTICATING. -/
  | start (withRestart : Bool) (romOk : Bool := true)
  /-- R89: RESTART in BOOT_CONTROL clears the boot region and returns from AWAIT_IMAGE or BOOT_HALT. -/
  | restart
  /-- R88: The clearing of the 32 MiB boot region completes, and any held aperture write then lands. -/
  | bootRegionCleared (romOk : Bool := true)
  /-- R94: The image checks and fabric training end; the digest is recorded and the device enters DISTRIBUTING, or it halts with the first failing code. -/
  | authenticationDone (links : List LinkReport) (romOk : Bool := true)
  /-- R97: A released member Core reports ready to the ROM during DISTRIBUTING. -/
  | memberCoreReady (die : Nat)
  /-- R97: A reachable member Core does not report ready within 5 ms of release and is marked FAILED with cause CORE_WATCHDOG. -/
  | coreReadyTimeout (die : Nat)
  /-- R97: Every reachable present die is loaded and aligned; unreachable dies are marked failed and SELF_TEST begins. -/
  | distributionDone (romOk : Bool := true)
  /-- R98: A boot self-test slot ends, and the next die's slot starts or the transition out of SELF_TEST is taken. -/
  | bootSlotDone (die : Nat) (r : SlotResult) (romOk : Bool := true)
  /-- R100: Stack training ends; failed member stacks mark their Shells FAILED and the device enters RING_APPLY, or it halts if D0's stack failed. -/
  | memoryTrainingDone (failedStacks : List Nat) (romOk : Bool := true)
  /-- R101: The initial ring is checked, prepared and applied, or none is given; the runtime starts and the device enters OPERATIONAL. -/
  | ringApplyDone (applyFault : Bool) (romOk : Bool := true)
  /-- R104: The recovery tool writes the image to boot.recovery_image by segmented USDO. -/
  | recoveryImageWrite (data : List Byte)
  /-- R104: The recovery tool writes a ring image to boot.recovery_ring. -/
  | recoveryRingWrite (data : List Byte)
  /-- R104: A write of 0x01 to boot.recovery_start starts the boot as START does. -/
  | recoveryStart (value : Nat)
  /-- R105: No segment arrives for 10 s in AWAIT_IMAGE, so the ROM aborts the transfer and discards its data. -/
  | recoverySegmentTimeout (session : Nat)
  /-- R106: A write of 0xA5 to boot.status.reset resets the device as RESET_N does. -/
  | deviceReset (req : Requester) (value : Nat)
  /-- R108: A secure write to sv_advance burns the security counter up to the given version. -/
  | svAdvance (req : Requester) (value : Nat)
  /-- R108: A secure write to revoke_key revokes a fuse key slot. -/
  | revokeKey (req : Requester) (slot : Nat)
  /-- R23: A fabric link stays down for 100 µs, is declared down, and the trunk installs new route tables and reissues retried transactions. -/
  | linkDownDeclared (a b : Nat)
  /-- R39: The trunk sends its 1 ms time beacon, and each member die slews its device-time counter. -/
  | timeBeacon (errors : List (Nat × Int))
  /-- R41: A periodic PTM exchange records the master time and the device time of its midpoint. -/
  | ptmExchange (master midpoint : Nat)
  /-- R127: A directory READ returns the status and value of one entry in the selected view. -/
  | read (req : Requester) (idx sub : Nat) (view : View)
  /-- R127: A directory WRITE is checked by R123 and changes the draft or the live value. -/
  | write (req : Requester) (idx sub : Nat) (data : List Byte)
  /-- R127: A directory DESCRIBE returns the 32-byte description of an entry. -/
  | describe (req : Requester) (idx sub : Nat)
  /-- R139: A READ_GROUP of up to 64 entries is accepted and given a capture time T. -/
  | readGroup (req : Requester) (entries : List GroupRead)
  /-- R139: Each die captures its entries of a read group at the first tick at or after T. -/
  | readGroupCapture
  /-- R128: A write group is accepted, checked by checks 1 to 6, and prepares are sent to the holding dies. -/
  | writeGroup (req : Requester) (entries : List GroupWrite)
  /-- R130: A die's prepare answer for a write group reaches the trunk, and the last answer leads to the commit decision and commit time T. -/
  | prepareAnswer (die : Nat)
  /-- R132: A die's prepare answer is not sampled within 2 ms, so the group fails with TIMEOUT. -/
  | prepareTimeout (die : Nat)
  /-- R133: Each die applies its write-group entries at the first tick at or after T, and the trunk returns OK on confirmation. -/
  | groupApply
  /-- R171: The die holding an entry does not answer within transport_timeout_ms, and the request ends with TIMEOUT. -/
  | transportTimeout (req : Requester) (request : DirRequest)
  /-- R156: NMT command 0x01 moves the node to OPERATIONAL and sends held EMCYs when it leaves STOPPED. -/
  | nmtStart (node : Nat)
  /-- R156: NMT command 0x02 silently aborts open sessions and enters STOPPED. -/
  | nmtStop (node : Nat)
  /-- R156: NMT command 0x81 performs a communication reset. -/
  | nmtResetNode (node : Nat)
  /-- R156: NMT command 0x82 performs a communication reset. -/
  | nmtResetCommunication (node : Nat)
  /-- R152: An expedited USDO upload reads an entry in the active view. -/
  | usdoExpeditedUpload (idx sub : Nat)
  /-- R152: An expedited USDO download writes an entry in the active view. -/
  | usdoExpeditedDownload (idx sub : Nat) (data : List Byte)
  /-- R153: A segmented USDO upload opens a session and returns a value captured at one instant. -/
  | usdoSegmentedUpload (session idx sub : Nat)
  /-- R153: A segmented USDO download opens a session, and its value is applied after the last segment passes R123. -/
  | usdoSegmentedDownload (session idx sub : Nat)
  /-- R153: One segment of an open USDO session is received or sent. -/
  | usdoSegment (session : Nat) (data : List Byte) (last : Bool)
  /-- R151: A USDO block, bulk or routed transfer is answered with abort 0x05040001. -/
  | usdoBlockTransfer (idx sub : Nat)
  /-- R155: No segment arrives within usdo_timeout_ms, and the session is aborted with 0x05040000. -/
  | usdoTimeout (session : Nat)
  /-- R170: A segmented download of a mailbox message into 0x1F12 runs that directory request with MCAN's rights. -/
  | tunnelRequest (message : List Byte)
  /-- R158: The heartbeat period of 0x1017 elapses and a heartbeat frame is sent. -/
  | heartbeat
  /-- R148: MCAN recovers from bus-off after 128 occurrences of 11 recessive bits, then sends EMCY 0x8140 and counts the event. -/
  | mcanBusOffRecovery
  /-- R159: MCAN enters error passive and raises EMCY 0x8120. -/
  | mcanErrorPassive (state : Nat := 1)
  /-- R161: The inhibit time has passed and the next queued EMCY is sent in sequence order. -/
  | emcySend
  /-- R162: svc_repeat_s elapses while the health is SERVICE_REQUESTED, and EMCY 0xFF01 is repeated or absorbed. -/
  | svcRepeat
  /-- R164: A matching classic wake frame is received in SLEEP or DEEP_SLEEP and asserts wake. -/
  | wakeFrame (identifier : Nat) (fdf : Bool) (data : List Byte) (ide : Bool := false) (rtr : Bool := false)
  /-- R180: A write to ring.command.commit is accepted, enters APPLYING, and sends prepares for the changed entries. -/
  | ringCommit (req : Requester) (timeout : Nat)
  /-- R183: The last die answers the ring prepare; the commit decision is written and COMMIT(T) is sent, or the draft is refused with event FAILED. -/
  | ringPrepareDone
  /-- R183: A die gives no ring prepare answer within 25 ms, and the commit fails with TIMEOUT. -/
  | ringPrepareTimeout (die : Nat)
  /-- R180: Every die confirms the ring apply; the active ring becomes previous, the draft becomes active, and the phase becomes AWAIT_CONFIRM or CONFIRMED. -/
  | ringApplied
  /-- R182: A write to ring.command.confirm is accepted and clears the deadline. -/
  | ringConfirm (req : Requester) (version : Nat)
  /-- R182: The confirmation deadline expires with no confirm accepted, and the ring returns to the previous ring. -/
  | confirmDeadlineExpiry
  /-- R180: A write to ring.command.return starts the return to the previous ring. -/
  | ringReturn (req : Requester) (value : Nat)
  /-- R180: Every die confirms the return; the previous ring becomes active and no previous ring is held. -/
  | returnApplied
  /-- R178: A write to ring.draft.reset replaces the draft values with the active, previous or default ring. -/
  | draftReset (req : Requester) (value : Nat)
  /-- R179: A ring image written to ring.draft.image is checked by R185 and replaces the whole draft. -/
  | draftImage (req : Requester) (image : List Byte)
  /-- R117: A write to a register or directory entry that has no row of its own stores the value within its access code. -/
  | registerWrite (target : RegTarget)
  /-- R215: VF Enable is set, and I1 to I31 pass from DISABLED to ACTIVE. -/
  | vfEnableSet (numVfs : Nat)
  /-- R215: VF Enable is cleared or NumVFs is reduced, and the affected VFs are quiesced to DISABLED. -/
  | vfDisable (numVfs : Nat)
  /-- R217: A function-level reset starts quiescing the instance and moves it to RESETTING. -/
  | flr (inst : Nat)
  /-- R226: A write of 0x01 to the instance command resets the instance as an FLR does. -/
  | instanceReset (req : Requester) (inst value : Nat)
  /-- R221: A DMA completion for an instance returns UR or CA, times out or carries poison, and the instance enters FAULTED. -/
  | instanceFault (inst : Nat) (cause : DmaFault)
  /-- R215: The quiesce of an instance completes, and it enters ACTIVE with its live entries at their defaults. -/
  | quiesceDone (inst : Nat)
  /-- R201: A write to SQ_TAIL rings a submission queue's doorbell, and the device fetches and starts entries in order. -/
  | sqTail (inst q tail : Nat)
  /-- R203: Setting ENABLE in SQ_CONFIG checks the queue configuration and starts the queue empty. -/
  | sqEnable (inst q : Nat) (config : Word32)
  /-- R205: Clearing ENABLE stops fetching and discards fetched entries that have not started. -/
  | sqDisable (inst q : Nat)
  /-- R207: Setting ENABLE in EVQ_CONFIG checks the ring and resets EVQ_HEAD and EVQ_TAIL. -/
  | evqEnable (inst : Nat) (config : Word32)
  /-- R207: Clearing ENABLE in EVQ_CONFIG disables the event ring. -/
  | evqDisable (inst : Nat)
  /-- R209: EVQ_MODERATION µs pass with records unread, and the ring's vector is sent. -/
  | evqModerationExpiry (inst : Nat)
  /-- R197: A read of TIME_LO returns device time bits 31:0 and latches bits 63:32 into TIME_HI. -/
  | timeLoRead (inst : Nat)
  /-- R212: A host access through BAR2 is translated through the instance's table or completed with Unsupported Request. -/
  | bar2Access (inst offset : Nat) (store : Option (List Byte)) (length : Nat)
  /-- R224: I0 or MCAN writes the resource assignment entries of an instance, judged against the final assignments. -/
  | assignmentWrite (req : Requester) (entries : List GroupWrite)
  /-- R225: Every change of an assignment write has been taken up, and a type 0x0006 event is written for I0. -/
  | assignmentTakenUp (inst : Nat)
  /-- R229: The FREEZE command stops fetching and runs the freeze steps for each resource. -/
  | freeze (req : Requester)
  /-- R229: drain_ms elapses in DRAIN mode, and unfinished graphics jobs are pre-empted with their context kept. -/
  | drainLimit
  /-- R230: The freeze steps complete and the instance enters FROZEN. -/
  | freezeDone
  /-- R234: The THAW command writes the held records, resumes contexts, streams and fetching, and returns the instance to ACTIVE. -/
  | thaw (req : Requester)
  /-- R236: The SAVE command writes the shed image of a frozen instance to the host buffer. -/
  | save (req : Requester)
  /-- R228: The SAVE completes, and an event with reason 0x05 carries image_length. -/
  | saveDone (dmaOk : Bool)
  /-- R237: The RESTORE command checks a shed image and, if the checks pass, starts applying it into the target. -/
  | restore (req : Requester) (image : List Byte) (dmaOk : Bool)
  /-- R238: The pages and sections of a restore are applied, and the target returns to FROZEN, or to RESETTING on failure. -/
  | restoreApplyDone
  /-- R220: A malformed TLP is received on a function and the device reports it by AER as a fatal error. -/
  | malformedTlp (inst : Nat)
  /-- R220: A completion TLP that matches no outstanding request is received, and the device reports Unexpected Completion by AER as a non-fatal error. -/
  | unexpectedCompletion (inst : Nat)
  /-- R250, R251: WCALL in supervisor mode of the normal world switches the core to the secure world and enters the monitor; `word` is the word
  of the custom-0 opcode executed, and one that R250 does not list raises an illegal-instruction exception. -/
  | wcall (core : Nat) (mode : Privilege) (regs : List Nat) (word : Nat := 0x0000000B)
  /-- R251: WRET in machine mode of the secure world resumes the normal world after the WCALL. -/
  | wret (core : Nat) (mode : Privilege)
  /-- R252: Monitor function 0x0001 continues a suspended call by its token. -/
  | resume (core : Nat) (finished : Option ServiceResult)
  /-- R252: Monitor function 0x0002 returns the monitor version in a1. -/
  | version (core : Nat)
  /-- R252: A WCALL names an applet function that the monitor runs in the secure world. -/
  | appletCall (core : Nat) (offered : Bool) (finished : Option ServiceResult)
  /-- R253: A secure call runs longer than wcall_budget_us and is suspended, returning BUSY with a resume token. -/
  | wcallBudgetExpiry (core : Nat)
  /-- R254: An applet faults; the monitor marks it FAULTED, zeroises its granules and releases its claims. -/
  | appletFault (core applet : Nat)
  /-- R254: A fault in the monitor halts the core, and the die's Core is treated as failed. -/
  | monitorHalt (core : Nat)
  /-- R255: A write to world.applet_keys.burn fills the lowest empty applet-key slot. -/
  | appletKeyBurn (req : Requester) (hash : List Byte)
  /-- R269: A secure write to the revoke entry revokes applet key slot A or B. -/
  | appletKeyRevoke (req : Requester) (slot : Nat)
  /-- R257: An applet image written to world.applet_load.image is checked and loaded by the monitor. -/
  | appletLoad (req : Requester) (image : List Byte)
  /-- R258: The monitor's keypad service claims a head and keys and starts secure entry. -/
  | secureEntryStart (k : KeypadRequest)
  /-- R259: The applet ends secure entry; the claims are released and SECURE_ENTRY reason 2 is written. -/
  | secureEntryEnd
  /-- R259: Secure entry reaches max_s and ends with reason 3. -/
  | secureEntryLimit
  /-- R260: The monitor places a secure claim on a block for an applet within its claim_mask. -/
  | secureClaim (applet cls resource : Nat)
  /-- R260: The monitor releases a secure claim on a block. -/
  | claimRelease (applet cls resource : Nat)
  /-- R265: A read of the debug challenge returns a fresh nonce and the device unique ID. -/
  | debugChallenge (req : Option Requester)
  /-- R265: A signed unlock response is verified, and it opens the requested debug enables or returns DENIED_ACCESS. -/
  | debugResponse (req : Requester) (response : List Byte)
  /-- R269: A write of 0x01 to relock closes all unlocked debug enables. -/
  | debugRelock (req : Requester) (value : Nat)
  /-- R267: The JTAG IDCODE instruction selects the 32-bit identity register; a change of TRST_N's level (R77) selects it too. -/
  | idcode (trst : Option Bool := none)
  /-- R267: The JTAG SAMPLE/PRELOAD instruction selects the boundary-scan register. -/
  | samplePreload (pins : List Bool) (shiftIn : Option (List Bool) := none)
  /-- R268: The JTAG EXTEST instruction drives the boundary-scan register, only in the permitted states or under NID. -/
  | extest (shiftIn : Option (List Bool) := none)
  /-- R267: The JTAG DTMCS instruction selects the RISC-V debug transport control. -/
  | dtmcs
  /-- R267: The JTAG DMI instruction accesses the RISC-V debug module interface. -/
  | dmi (address data op : Nat)
  /-- R267: The JTAG UNLOCK instruction selects the 800-bit challenge and response register. -/
  | unlock (response : Option (List Byte))
  /-- R267: The JTAG BYPASS instruction or an unlisted code selects the 1-bit bypass register. -/
  | bypass (code : Nat)
  /-- R611: A write of 0x02 to power.command starts the SLEEP entry handshake. -/
  | powerSleep (req : Requester)
  /-- R611: A write of 0x03 to power.command starts the DEEP_SLEEP entry handshake, in RUN or from SLEEP. -/
  | powerDeepSleep (req : Requester)
  /-- R617: A write of 0x04 to power.command starts the non-refusable entry into OFF. -/
  | powerOff (req : Requester)
  /-- R616: A write of 0x00 to power.command has no effect in RUN, and it is an in-band wake in SLEEP. -/
  | powerRun (req : Requester)
  /-- R611: Every block's answer to the entry query is in, and the entry is refused, delayed or begun. -/
  | handshakeAnswers (delayNs : Nat) (linkUp l12Enabled : Bool)
  /-- R611: The largest requested delay has passed, and the query is sent again. -/
  | handshakeDelayExpiry
  /-- R613: The entry steps finish, and the device is in SLEEP or DEEP_SLEEP. -/
  | entryComplete
  /-- R610: The device has been in SLEEP for deep_after_s, and the DEEP_SLEEP handshake runs. -/
  | deepAfterExpiry
  /-- R263: The 10 ms secure notice ends; secrets are zeroised and the OFF steps proceed. -/
  | offNoticeExpiry
  /-- R620: A WAKE_N low of at least 1 µs wakes the device from IDLE, SLEEP, DEEP_SLEEP or OFF. -/
  | wakeN (lowNs : Nat) (heldLow : Bool)
  /-- R623: The exit steps finish, the device is in RUN, and POWER_STATE is written. -/
  | exitComplete
  /-- R609: A die meets every IDLE condition and enters IDLE without a handshake. -/
  | dieIdleEntry (die : Nat) (coresWaiting : Bool)
  /-- R609: An interrupt, doorbell or graphics work reaches an idle die, and it leaves IDLE within 2 µs. -/
  | dieIdleExit (die : Nat)
  /-- R625: A domain woken on demand has had no access for 1 ms and returns to sleep. -/
  | domainSleepTimer (die : Nat) (domain : Domain)
  /-- R666: The critical-path monitors are sampled every 10 µs, and the bias or regulator voltage is raised or lowered. -/
  | biasMonitor (die : Nat) (warning : Bool)
  /-- R631: A polled STATUS_WORD acknowledges the regulator command, and the clocks may rise. -/
  | vrAck (die status : Nat)
  /-- R631: No acknowledgement arrives within vr_timeout_us; the device retries once, and then puts the regulator in FAULT. -/
  | vrTimeout (die : Nat)
  /-- R631: VR_ALERT_N goes low, and the device reads and judges every regulator's STATUS_WORD. -/
  | vrAlert (statuses : List (Nat × Nat))
  /-- R727: A regulator holds SCL low for more than 10 ms, so the device ends the transaction, clocks SCL nine times, sends STOP and counts the attempt as unacknowledged. -/
  | clockStretchTimeout (die : Nat)
  /-- R640: At each 1 ms window boundary, Sapflow grants sheddable requests and graphics steps within the headroom. -/
  | grantRound (packageMw unshedMw : Nat) (floorMw : List Nat)
  /-- R641: Every 100 µs, Sapflow projects the window energy and cuts in shedding order if it would exceed the limit. -/
  | projectionCheck (projectedMw : Nat)
  /-- R644: Every 10 µs a die checks its VDD_COREd mean current and lowers its graphics clock if it is above peak_limit_ma. -/
  | peakCurrentCheck (die meanMa : Nat)
  /-- R645: A software PLAY held by an exhausted board budget waits board_wait_ms and ends BUSY. -/
  | boardWaitExpiry (channel : Nat)
  /-- R654: A 100 µs rail mean is formed and judged for RAIL_LOW, RAIL_HIGH or recovery. -/
  | railSample (die rail mv : Nat)
  /-- R655: A junction sensor reading is judged for TEMP_WARN, TEMP_LIMIT or recovery. -/
  | tempSample (die sensor : Nat) (deciC : Int)
  /-- R683: A rail stays out of range for 1 s, which is the health cause RAIL. -/
  | railPersistence (die rail : Nat)
  /-- R683: A sensor stays in TEMP_LIMIT for 10 s, which is the health cause TEMPERATURE. -/
  | tempPersistence (die sensor : Nat)
  /-- R657: A write of 0x01 to survey.piezo.request asks for a capacitance measurement when R657 holds. -/
  | piezoRequest (req : Requester) (channel value : Nat)
  /-- R657: piezo_interval_s elapses, and a capacitance measurement is requested. -/
  | piezoInterval (channel : Nat)
  /-- R658: A granted measurement ramps a 24 kHz sine in, holds it for 10 ms, ramps it out, and reports C. -/
  | piezoMeasurement (channel nf : Nat)
  /-- R674: A write of 0x01 to survey.speaker.request asks for a pilot impedance measurement. -/
  | speakerRequest (req : Requester) (output value : Nat)
  /-- R661: speaker_interval_s elapses, and a pilot measurement is requested. -/
  | speakerInterval (output : Nat)
  /-- R661: A 1 s programme block or a 2 s pilot measurement ends, and the impedance is judged. -/
  | speakerBlock (output mohm currentRmsMa : Nat)
  /-- R663: Each second, the lane's idle bias and termination are judged from the samples. -/
  | laneSurveySecond (lane idleTransitions edges glitched : Nat)
  /-- R667: dram_track_ms elapses or the temperature moves 3 °C, and a DRAM tracking step runs in a gap. -/
  | dramTrack (die correctionPs : Nat) (margin : Bool)
  /-- R680: A write of a die number to selftest.run requests a field self-test slot. -/
  | selftestRun (req : Requester) (die : Nat)
  /-- R681: A field slot ends; the Core restarts and SELF_TEST reason FIELD is written. -/
  | fieldSlotDone (r : SlotResult)
  /-- R681: A field slot request waits longer than defer_limit_s and ends ABORTED. -/
  | deferLimitExpiry
  /-- R682: A Core writes its 100 µs heartbeat and the Shell controller acknowledges it. -/
  | coreHeartbeat (die : Nat)
  /-- R682: A Shell controller samples no heartbeat for 1 ms and declares its Core failed. -/
  | heartbeatTimeout (die : Nat)
  /-- R682: A Core samples no acknowledgement for 1 ms and declares its Shell failed. -/
  | ackTimeout (die : Nat)
  /-- R689: The lender serves every resource of the failed die, and LENDING reason SERVED is written. -/
  | lendingServed (die : Nat)
  /-- R691: D1's Core takes the trunk role and restores the commit decisions, ring phase and crosspoint. -/
  | successionDone
  /-- R290: HPD rises on a disconnected head, and the 100 ms debounce timer starts. -/
  | hpdRising (head : Nat)
  /-- R289: A low HPD pulse of 0.25 ms to 2 ms makes the head read the link status DPCD and retrain if needed. -/
  | irqHpd (head : Nat) (linkLost : Bool)
  /-- R287: HPD is low for 2 ms or more; the timing generator stops and the link becomes DISCONNECTED. -/
  | hpdUnplug (head : Nat)
  /-- R290: The 100 ms timer expires with HPD high, and the cable measurement starts. -/
  | debounceExpiry (head : Nat)
  /-- R288: The TDR cable measurement completes and the head reads the sink capabilities. -/
  | cableMeasured (head cm : Nat)
  /-- R290: DPCD, EDID and DisplayID have been read; vertical limits and candidates are computed, and training or the mode policy follows. -/
  | capsReadDone (head : Nat) (caps : Option SinkData) (failed : Nat := 0)
  /-- R291: Training on one candidate succeeds, or it fails and the next candidate is tried. -/
  | trainingAttemptDone (head : Nat) (ok : Bool)
  /-- R310: A write of 0x01 to head.control.retrain starts retraining or rereads the sink data. -/
  | retrain (req : Requester) (head value : Nat)
  /-- R282: At the start of each line, the pixel domain evaluates the frame-start decision and the line-bound actions. -/
  | lineStart (head : Nat)
  /-- R282: A ready from a commit or a reflex start is first sampled in the pixel domain. -/
  | readySampled (head : Nat) (reflex : Bool)
  /-- R311: A COMMIT queue entry is fetched and its commit block is fetched and checked. -/
  | commit (e : Entry) (opcode blockLength commitFlags : Nat) (reservedZero : Bool) (block : Option (List Byte)) (blockAddr : Nat := 0)
  /-- R316: A checked commit reaches the head's pixel domain as pending and replaces the same instance's pending commit. -/
  | commitArrival (head inst : Nat)
  /-- R335: The link encoder needs a pixel that is missing from the line buffer; the rest of the line is filled, or the frame is aborted on a privileged head. -/
  | underrun (head column : Nat)
  /-- R346: The composer begins a line band once a slot is free and the latch decision has been made. -/
  | bandBegin (head : Nat)
  /-- R346: A line band's composed pixels are complete in the line buffer. -/
  | bandComplete (head band : Nat)
  /-- R369: The head's holder writes sprite.state, changing SHOWN or IMAGE without a commit. -/
  | spriteStateWrite (req : Requester) (sprite value : Nat)
  /-- R519: Reflex sprite operations reach the composing die and are applied in order of holder, pins, then keys. -/
  | spriteOperation (die count : Nat)
  /-- R378: A write to canopy.members sets the static member layers, taken up at the next latch decision. -/
  | canopyMembersWrite (req : Requester) (head members : Nat)
  /-- R398: A secure write of 0x01 to a region's update checks and submits its content set. -/
  | regionUpdate (req : Requester) (applet : Option Nat) (region value : Nat)
  /-- R399: A pending Heartwood update arrives at the head as a commit does and latches for both paths. -/
  | updateArrival (region : Nat)
  /-- R404: The secure world writes the Heartwood asset store, which is checked and replaced. -/
  | assetsWrite (req : Requester) (store : List Byte)
  /-- R407: The guard's region signature becomes available and is compared with the main-path signature, which changes the region state. -/
  | guardSignature (region : Nat)
  /-- R407: The guard signature is not available within 200 µs, and a GUARD_LATE mismatch is counted. -/
  | guardLate (region : Nat)
  /-- R421: A GRAPHICS queue JOB entry starts a command buffer on its context and on the dies of its split_mask. -/
  | job (e : Entry) (opcode addr length splitMask : Nat) (reservedZero : Bool)
  /-- R422: A SIGNAL entry writes its value once earlier jobs of the queue have completed and become visible. -/
  | signal (e : Entry) (addr value : Nat) (reservedZero : Bool)
  /-- R422: A WAIT entry holds the queue until the U64 at its address reaches its value. -/
  | wait (e : Entry) (addr value timeoutUs : Nat) (reservedZero : Bool)
  /-- R422: A write to the WAIT address makes the value reach the target, and the queue resumes. -/
  | waitSatisfied (context : Nat)
  /-- R423: A WAIT's timeout expires unsatisfied, and the queue stops with TIMEOUT. -/
  | waitTimeout (context : Nat)
  /-- R427: A pass begins; its descriptor is checked and AUTO chooses its mode. -/
  | passBegin (context : Nat)
  /-- R429: Draw command BIND_PIPELINE binds a pipeline object whose header is checked. -/
  | bindPipeline (context : Nat)
  /-- R428: Draw command BIND_TABLE binds a resource table. -/
  | bindTable (context : Nat)
  /-- R428: Draw command VIEWPORT sets the viewport. -/
  | viewport (context : Nat)
  /-- R428: Draw command SCISSOR sets the scissor rectangle. -/
  | scissor (context : Nat)
  /-- R428: Draw command DRAW issues primitives. -/
  | draw (context : Nat)
  /-- R428: Draw command DRAW_INDEXED issues indexed primitives. -/
  | drawIndexed (context : Nat)
  /-- R428: Draw command DRAW_INDIRECT issues primitives with arguments read from memory. -/
  | drawIndirect (context : Nat)
  /-- R434: A die's tile-list slice fills, causing a partial flush or, at the second overflow, a fallback to IMMEDIATE. -/
  | tileListOverflow (context die : Nat) (flushed : List TileData) (tiles : List Nat := [])
  /-- R442: A pass completes on every die of the split_mask with its tiles stored and signatures recorded. -/
  | passDone (context : Nat) (rendered : List TileData) (binned : List (List Nat) := [])
  /-- R424: A job ends with its writes visible, and its QUEUE or JOB_RESULT event is written. -/
  | jobDone (context : Nat)
  /-- R444: A requested pre-emption stops the running context at the next pre-emption point. -/
  | preemption (die : Nat)
  /-- R444: No pre-emption point is reached within 40 µs, so shader state is saved at an instruction boundary. -/
  | midshaderPreemption (die : Nat)
  /-- R443: A graphics scheduling period starts and budgets are given by weight. -/
  | schedPeriod (die : Nat)
  /-- R446: A job's running time exceeds job_limit_ms, and it ends with TIMEOUT. -/
  | jobTimeLimit (context die : Nat)
  /-- R460: A 200 µs key scan cycle starts on a die. -/
  | scanCycle (die : Nat)
  /-- R459: The self-frame window ends, and the self readings are formed from the usable bursts. -/
  | selfFrameDone (die : Nat) (bursts : List BurstReading)
  /-- R467: A mutual phase window ends, and the keys of that phase are evaluated. -/
  | mutualPhaseDone (die : Nat) (bursts : List BurstReading)
  /-- R483: A write of 0x01 to recapture makes every enabled key of the die capture its baselines. -/
  | recapture (req : Requester) (die value : Nat)
  /-- R477: Every 100 ms in SLEEP the wake key is scanned, and the key wake is raised if it is a candidate. -/
  | wakeScan (die : Nat) (selfBursts mutualBursts : List Nat)
  /-- R495: A HAPTIC queue PLAY entry is taken and placed at least 12 µs later, or at its start_time. -/
  | play (e : Entry) (opcode effect scale startTime : Nat) (reservedZero : Bool)
  /-- R495: A HAPTIC queue STOP entry sends the running software effect into braking. -/
  | stop (e : Entry) (reservedZero : Bool)
  /-- R497: A placed PLAY reaches its start_time, and the effect begins its onset. -/
  | playStartTime (channel : Nat)
  /-- R496: An accepted HTRIG edge starts its configured effect and fires the pin's reflex action. -/
  | htrigEdge (pin : Nat) (rising : Bool)
  /-- R499: A reflex haptic trigger reaches the channel's engine and starts, cuts or is held by the channel state. -/
  | reflexTrigger (channel : Nat)
  /-- R486: amp_ready_us passes after HENn rises; READY_WAIT ends and any held trigger starts. -/
  | ampReadyExpiry (channel : Nat)
  /-- R492: The overdrive or an effect segment ends; the next segment or braking begins. -/
  | segmentEnd (channel : Nat)
  /-- R501: A 96 kHz sense frame arrives; motional current is estimated, braking stop is tested, and PEAK and SENSE trips are checked. -/
  | senseFrame (bus : Nat) (slots : List Int)
  /-- R501: brake_max_us passes, braking ends, and the drive stops 12 µs to 14 µs later. -/
  | brakeTimeout (channel : Nat)
  /-- R502: Every 1 ms during an effect, res_tracked_hz moves toward the sensed resonance. -/
  | resonanceTrack (channel : Nat) (estimate : Int)
  /-- R488: HFLTn_N stays low for 2 µs; the channel trips AMP and enters FAULT. -/
  | ampFault (channel : Nat)
  /-- R504: The Shell receives no drive code for 5 µs while HENn is asserted, and the channel enters FAULT. -/
  | engineLost (channel : Nat)
  /-- R504: An effect reaches max_on_ms and is cut, without a channel fault. -/
  | onTimeLimit (channel : Nat)
  /-- R504: A 1 ms energy block ends; the window sum may set or clear LIMITED, and the draw is reported to the board budget. -/
  | energyBlock (channel : Nat)
  /-- R506: A write of 0x01 to clear clears a latched FAULT if the condition has gone. -/
  | hapticClear (req : Requester) (channel value : Nat)
  /-- R521: A reflex tone request reaches the crosspoint, and the generator starts at the next sample period. -/
  | toneRequest (gen : Nat)
  /-- R542: A write of 0x01 to tone.start requests the tone generator to start or restart. -/
  | toneStart (req : Requester) (gen value : Nat)
  /-- R534: A 48 kHz sample period starts; the crosspoint mixes and processes every output and performs due swaps. -/
  | samplePeriod (received : List (Nat × Int))
  /-- R537: A write to a row's safe_load requests a bank swap at the given time. -/
  | safeLoad (req : Requester) (row time : Nat)
  /-- R530: AUDIO_MCLK shows no edge for 1 µs, and the device switches to the synthesised clock. -/
  | mclkLost
  /-- R530: AUDIO_MCLK has been present for 100 ms, and the device returns to it with ramps. -/
  | mclkRestored
  /-- R532: A slave port's FIFO fill leaves 1 to 3 frames, and a whole frame is repeated or dropped. -/
  | tdmSlip (port : Nat) (dropped : Bool)
  /-- R532: A slave port sees no BCLK edge for two frame periods and enters NO_CLOCK. -/
  | tdmNoClock (port : Nat)
  /-- R532: A slave port's clock returns, and it resynchronises at the second FSYNC. -/
  | tdmClockRestored (port : Nat)
  /-- R541: An AUDIO queue BUFFER entry queues samples that play without a gap. -/
  | buffer (e : Entry) (opcode addr length format bufFlags startTime : Nat) (reservedZero : Bool) (host : List Byte)
  /-- R541: An AUDIO queue STOP entry fades the stream to 0 and ends started buffers ABORTED. -/
  | audioStop (e : Entry) (reservedZero : Bool)
  /-- R549: A node stays below its threshold for silence_hold_ms and becomes silent, which may switch an amplifier or gate a section. -/
  | silenceHoldExpiry (node : Nat)
  /-- R580: A lane becomes free with its gap served, and the scheduler sends the next request. -/
  | laneSchedule (lane : Nat)
  /-- R577: A DESCRIPTOR frame for a discovery page is received and checked. -/
  | descriptor (lane : Nat) (frame : LaneFrame)
  /-- R580: A RESPONSE frame to a POLL is received and replaces cyclic_in and status. -/
  | response (lane : Nat) (frame : LaneFrame)
  /-- R584: An ACK frame answers a COMMAND and ends its entry or group target. -/
  | ack (lane : Nat) (frame : LaneFrame)
  /-- R584: A DATA frame answers a READ and its value is written at result_addr. -/
  | data (lane : Nat) (frame : LaneFrame)
  /-- R582: An EVENT frame, fetched or unsolicited, is accepted, acknowledged and delivered as UPLINK. -/
  | event (lane : Nat) (frame : LaneFrame)
  /-- R568: A NAK frame ends the outstanding transaction by the rules of its request type. -/
  | nak (lane : Nat) (frame : LaneFrame)
  /-- R578: A lane response does not start before its timeout, and the request is retried or the transaction fails. -/
  | responseTimeout (lane : Nat)
  /-- R577: recovery_ms passes for a FAILED, NOT_FOUND or INVALID partner, and its descriptor is read again. -/
  | recoveryExpiry (partner : Nat)
  /-- R565: A CANFD lane recovers from bus-off by the ISO rule. -/
  | laneBusOffRecovery (lane : Nat)
  /-- R583: A LANE queue COMMAND entry sends a confirmed command to a partner. -/
  | laneCommand (e : Entry) (opcode : Nat) (body : LaneEntry)
  /-- R583: A LANE queue READ entry reads a partner object. -/
  | laneRead (e : Entry) (body : LaneEntry)
  /-- R585: A write of 0x01 to group start sends one COMMAND to every target on its lanes. -/
  | groupStart (req : Requester) (slot value : Nat)
  /-- R586: timeout_ms expires, and the group's still-pending targets receive TIMEOUT. -/
  | groupTimeout (slot : Nat)
  /-- R563: A character echoed on LRXDn differs from the one sent, so the frame ends at once, framing_errors counts it, and the attempt fails as a timeout would. -/
  | echoMismatch (lane : Nat)
  /-- R591: A CANFD lane's error counters move it into or out of ERROR_PASSIVE, and a LANE event with the new lane state is written. -/
  | laneErrorPassive (lane state : Nat)
  /-- R601: A STREAM queue COPY entry moves data through the stream unit's register. -/
  | copy (e : Entry) (opcode : Nat) (body : StreamEntry)
  /-- R601: A STREAM queue APPEND entry moves data and appends the finalised check value. -/
  | append (e : Entry) (body : StreamEntry)
  /-- R601: A STREAM queue CHECK entry moves data and compares the trailing check value. -/
  | check (e : Entry) (body : StreamEntry)
  /-- R602: A stream entry's last byte has been read; the entry ends and its QUEUE event follows. -/
  | streamEntryDone (unit : Nat)
  /-- R603: A write to preset sets all the unit's parameters and loads running with init. -/
  | streamPreset (req : Requester) (unit value : Nat)
deriving DecidableEq, Repr

end Sys2Proof
end

