-- ==== Sys2Proof/Decode.lean ====
section
/-! DEFINITION. Words. The opcode table gives no command any bits: commands reach the block as register writes, bus messages, queue entries
and pin events. R250 gives two of them a word, which a management core executes; the custom-0 opcode is read here. -/
namespace Sys2Proof

/-- WCALL's word (R250). -/
def wcallWord : Nat := 0x0000000B
/-- WRET's word (R250). -/
def wretWord : Nat := 0x0000100B

/-- What a word of the custom-0 opcode is (R250); none for a word of another opcode. -/
def custom0Of (word : Nat) : Option Custom0 :=
  if word % 128 ≠ 0xB then none
  else if word = wcallWord then some .wcall
  else if word = wretWord then some .wret
  else some .illegal

/-- The command that a 32-bit word of the custom-0 opcode spells (R250), executed by core 0 of the trunk die with every register 0: WCALL and
the encodings that R250 does not list in supervisor mode, WRET in machine mode (log entry 152). Every other command has no word. -/
def decodeTableWord (nbits w : Nat) : Option Instr :=
  if nbits ≠ 32 ∨ 2 ^ 32 ≤ w then none
  else match custom0Of w with
    | none => none
    | some .wret => some (.wret 0 .machine)
    | some .wcall => some (.wcall 0 .supervisor [] w)
    | some .illegal => some (.wcall 0 .supervisor [] w)

end Sys2Proof
end

