-- ==== Sys2Proof/Config.lean ====
section
/-! DEFINITION. What a release or a die fixes and the manual does not (R733), the functions the manual names
and does not define (SHA-384, ECDSA P-384), and the free values.
Every constant here is opaque: nothing in Lean can evaluate it, so a claim holds whatever it is.
Log entries 3 (free values), 4 (release constants), 9 (cryptography), 11 (page placement). -/
namespace Sys2Proof.Config

/-- ROM version, BOOT_ID bits 15:0 and 0x2100.05 (R733). -/
opaque romVersion : BitVec 16
/-- Object-map version of the running image, 0x1F00.01 (R733). -/
opaque mapVersion : BitVec 16
/-- Monitor version, 0x2300.01 (R733). -/
opaque monitorVersion : BitVec 32
/-- Graphics ABI version, 0x4800.03 (R733). -/
opaque abiVersion : BitVec 16
/-- Silicon step, IDCODE bits 31:28 and the PCIe Revision ID (R733). -/
opaque siliconStep : BitVec 4
/-- The device unique ID in fuses, as 16 bytes (R265). -/
opaque uniqueId : List Byte
/-- Fused SHA-384 hash of key slot n (R96). -/
opaque fuseKeyHash : Nat → List Byte
/-- Fused SHA-384 hash of the debug unlock key (R265). -/
opaque debugKeyHash : List Byte
/-- The debug unlock key (X‖Y), whose hash is fused (R265). -/
opaque debugKey : List Byte
/-- The granule (device address / 4096) that the monitor takes as the k-th secure DRAM granule of applet a on die d (R247). -/
opaque appletGranule : Nat → Nat → Nat → Nat
/-- SHA-384 of a byte string (48 bytes), named by R94 and not defined by the manual. -/
opaque sha384 : List Byte → List Byte
/-- ECDSA P-384: public key (X‖Y), digest, signature (r‖s), named by R93 and R94. -/
opaque ecdsaVerify : List Byte → List Byte → List Byte → Bool
/-- The n-th output of the device's random source, used for nonces (R265). -/
opaque random : Nat → List Byte
/-- The stack (die number) in which the runtime places page p of instance i (R735). -/
opaque pageStack : Nat → Nat → Nat
/-- Whether the runtime has given page p to instance i when a unit or the host first reaches for it (R212, R214). -/
opaque pageGiven : Nat → Nat → Bool
/-- The PCIe link as the partners trained it: how many times the width x8 and the rate 32.0 GT/s are halved (R193). -/
opaque pcieWidth : Nat
/-- See `pcieWidth`. -/
opaque pcieRate : Nat
/-- The runtime's reservation in die d's stack in MiB, fixed by the running image (R734). -/
opaque reservedMib : List Byte → Nat → Nat
/-- The context block of graphics context c, produced and read by the runtime (R235). -/
opaque contextBlock : Nat → List Byte
/-- A free value: the n-th value the manual leaves open in a run. -/
opaque freeInt : Nat → Int
/-- A free value that is a natural number. -/
opaque freeNat : Nat → Nat
/-- A free truth value, for a choice the manual leaves open. -/
opaque freeBool : Nat → Bool
/-- A free byte string. -/
opaque freeBytes : Nat → List Byte
/-- The drive and pre-emphasis levels (0 to 3) at which training starts for a cable length in cm (R288). -/
opaque startLevels : Nat → Nat × Nat
/-- What a unit takes for the byte at a device address whose read ends in the error response of R26. -/
opaque busError : Nat → Byte
/-- The offset in a die's control window at which a register block stands (R248), by the block's number. -/
opaque blockOffset : Nat → Nat
/-- The number of the register block at an offset of a die's control window (R248). -/
opaque blockAt : Nat → Nat
/-- What a management core's software left in a register of the core, by core, halt and register number (R241, R264): a free value for each. -/
opaque coreReg : Nat → Nat → Nat → Nat
/-- How many bytes of a started stream entry have run when a read shows it (R138, R603): a free value for each read and unit. -/
opaque streamProgress : Nat → Nat → Nat

end Sys2Proof.Config
end

