-- ==== Sys2Proof/Machine/Tab.lean ====
section
/-! DEFINITION. Sparse data by key: a list of (key, value) pairs with strictly rising keys.
Directory stores, register files and memories are held in this form, so that equal contents are equal lists. -/
namespace Sys2Proof.Machine

/-- Sparse data by key, keys strictly rising. -/
abbrev Tab (α : Type) := List (Nat × α)

/-- The value listed at a key, if any. -/
def Tab.find? {α : Type} : Tab α → Nat → Option α
  | [], _ => none
  | (j, v) :: r, k => if j = k then some v else Tab.find? r k

/-- The value at a key, or the value an unlisted key reads as. -/
def Tab.getD {α : Type} (t : Tab α) (k : Nat) (d : α) : α := (Tab.find? t k).getD d

/-- List a value at a key, keeping the keys rising. -/
def Tab.put {α : Type} : Tab α → Nat → α → Tab α
  | [], k, v => [(k, v)]
  | (j, w) :: r, k, v =>
    if k < j then (k, v) :: (j, w) :: r
    else if k = j then (k, v) :: r
    else (j, w) :: Tab.put r k v

/-- Remove the entry at a key. -/
def Tab.erase {α : Type} (t : Tab α) (k : Nat) : Tab α := t.filter (fun e => e.1 ≠ k)

/-- The keys listed. -/
def Tab.keys {α : Type} (t : Tab α) : List Nat := t.map (·.1)

/-- The canonical form: keys strictly rising. -/
abbrev Tab.Rising {α : Type} (t : Tab α) : Prop := t.Pairwise (fun a b => a.1 < b.1)

/-- A memory: the bytes that differ from 0, by address (log entry 7: an unlisted address reads as 0). -/
abbrev Memory := List Host.Cell

/-- What an unlisted address reads as. Log entry 7 (R88 and R214 state zeros for the boot region and for new pages). -/
def Memory.unlisted : Byte := 0

/-- Read one byte. -/
def Memory.read (m : Memory) (a : Nat) : Byte := Tab.getD m a Memory.unlisted

/-- Write one byte; writing what an unlisted address reads as removes the entry. -/
def Memory.write (m : Memory) (a : Nat) (b : Byte) : Memory :=
  if b = Memory.unlisted then Tab.erase m a else Tab.put m a b

/-- Write consecutive bytes, the first at the lowest address. -/
def Memory.writeBytes : Memory → Nat → List Byte → Memory
  | m, _, [] => m
  | m, a, b :: bs => Memory.writeBytes (Memory.write m a b) (a + 1) bs

/-- Read consecutive bytes. -/
def Memory.readBytes (m : Memory) (a : Nat) : Nat → List Byte
  | 0 => []
  | n + 1 => Memory.read m a :: Memory.readBytes m (a + 1) n

/-- The bytes of a window set to 0: every listed byte of the window is removed. -/
def Memory.clear (m : Memory) (a n : Nat) : Memory := m.filter (fun e => !(a ≤ e.1 && e.1 < a + n))

/-- The canonical form of a memory: addresses rising, no byte listed that an unlisted address reads as. -/
def Memory.wf (m : Memory) : Bool :=
  decide (Tab.Rising m) && m.all (fun e => e.2 ≠ Memory.unlisted)

end Sys2Proof.Machine
end

