-- ==== Sys2Proof/Machine/Bytes.lean ====
section
/-! DEFINITION. Byte order, bit fields and saturating counts, said once.
Little-endian values by R11; bit fields high:low as the manual writes them. -/
namespace Sys2Proof.Machine

/-- The n little-endian bytes of a natural number (R11). -/
def leBytes : Nat → Nat → List Byte
  | 0, _ => []
  | n + 1, v => BitVec.ofNat 8 v :: leBytes n (v / 256)

/-- The natural number of little-endian bytes (R11). -/
def leNat : List Byte → Nat
  | [] => 0
  | b :: bs => b.toNat + 256 * leNat bs

/-- The natural number of big-endian bytes (R93, and Ndemi frames where their table says so). -/
def beNat (bs : List Byte) : Nat := leNat bs.reverse

/-- The n big-endian bytes of a natural number. -/
def beBytes (n v : Nat) : List Byte := (leBytes n v).reverse

/-- Bits hi:lo of a natural number. -/
def bits (v hi lo : Nat) : Nat := (v / 2 ^ lo) % 2 ^ (hi + 1 - lo)

/-- Bit n of a natural number. -/
def bit (v n : Nat) : Bool := Nat.testBit v n

/-- A natural number with bit n set or cleared. -/
def setBit (v n : Nat) (b : Bool) : Nat :=
  if bit v n then (if b then v else v - 2 ^ n) else (if b then v + 2 ^ n else v)

/-- 1 for true, 0 for false. -/
def ofBool (b : Bool) : Nat := if b then 1 else 0

/-- Bit n of a bitmap held as bytes, bit set for resource n in little-endian byte order (R226). -/
def bitmapGet (bs : List Byte) (n : Nat) : Bool := bit ((bs.getD (n / 8) 0).toNat) (n % 8)

/-- A bitmap with one bit changed. -/
def bitmapSet (bs : List Byte) (n : Nat) (b : Bool) : List Byte :=
  bs.set (n / 8) (BitVec.ofNat 8 (setBit ((bs.getD (n / 8) 0).toNat) (n % 8) b))

/-- A two's complement value of w bits read as an integer. -/
def signedOf (w v : Nat) : Int := if v % 2 ^ w < 2 ^ (w - 1) then (v % 2 ^ w : Nat) else (v % 2 ^ w : Nat) - (2 ^ w : Nat)

/-- The w-bit two's complement encoding of an integer. -/
def unsignedOf (w : Nat) (v : Int) : Nat := (v % (2 ^ w : Nat)).toNat

/-- An integer held between two ends. -/
def clampInt (lo hi v : Int) : Int := max lo (min hi v)

/-- A natural number that saturates at a width (counters "saturate"). -/
def satAdd (w v n : Nat) : Nat := min (2 ^ w - 1) (v + n)

/-- The bytes from an offset, a length of them. -/
def slice (bs : List Byte) (off len : Nat) : List Byte := (bs.drop off).take len

/-- Little-endian field at an offset. -/
def field (bs : List Byte) (off len : Nat) : Nat := leNat (slice bs off len)

/-- Replace bytes at an offset. -/
def patch (bs : List Byte) (off : Nat) (v : List Byte) : List Byte :=
  bs.take off ++ v ++ bs.drop (off + v.length)

/-- All bytes are zero. -/
def allZero (bs : List Byte) : Bool := bs.all (· = 0)

/-- Milliseconds, microseconds and seconds in ns. -/
def ms (n : Nat) : Nat := n * 1000000
/-- Microseconds in ns. -/
def us (n : Nat) : Nat := n * 1000
/-- Seconds in ns. -/
def sec (n : Nat) : Nat := n * 1000000000

/-- The least element satisfying a test among 0 … n-1. -/
def firstBelow (n : Nat) (p : Nat → Bool) : Option Nat := (List.range n).find? p

end Sys2Proof.Machine
end

