-- ==== Sys2Proof/Machine/FilterTable.lean ====
section
/-! DEFINITION. The DEFAULT filter set of R356: per phase 0 to 63 the six horizontal Lanczos-3 taps (k = -2 to 3)
and the four vertical Catmull-Rom taps (k = -1 to 2), each the nearest 1/1,024, the tap at k = 0 adjusted so that the
phase sums to 1,024. The values were computed from the formulas of R356. -/
namespace Sys2Proof.Machine.Filter

/-- R356, DEFAULT, horizontal taps of phases 0 to 15. -/
def horizontal0 : List (List Int) := [
  [0, 0, 1024, 0, 0, 0],
  [3, -13, 1023, 14, -3, 0],
  [6, -25, 1022, 28, -7, 0],
  [9, -37, 1021, 42, -11, 0],
  [12, -48, 1018, 57, -15, 0],
  [14, -59, 1014, 73, -19, 1],
  [17, -69, 1009, 89, -23, 1],
  [19, -78, 1003, 106, -27, 1],
  [21, -87, 996, 123, -31, 2],
  [23, -95, 989, 141, -36, 2],
  [24, -103, 981, 159, -40, 3],
  [26, -110, 971, 178, -45, 4],
  [27, -116, 962, 197, -50, 4],
  [28, -122, 952, 216, -55, 5],
  [29, -127, 940, 236, -60, 6],
  [30, -132, 927, 256, -64, 7]]

/-- R356, DEFAULT, horizontal taps of phases 16 to 31. -/
def horizontal1 : List (List Int) := [
  [31, -136, 913, 277, -69, 8],
  [31, -140, 902, 297, -74, 8],
  [32, -143, 887, 318, -79, 9],
  [32, -145, 871, 340, -84, 10],
  [32, -147, 855, 361, -89, 12],
  [32, -149, 839, 383, -94, 13],
  [32, -150, 823, 404, -99, 14],
  [31, -151, 806, 426, -103, 15],
  [31, -151, 788, 448, -108, 16],
  [31, -151, 769, 470, -112, 17],
  [30, -150, 751, 492, -117, 18],
  [29, -149, 732, 514, -121, 19],
  [29, -147, 710, 536, -125, 21],
  [28, -146, 691, 558, -129, 22],
  [27, -144, 670, 580, -132, 23],
  [26, -141, 649, 601, -135, 24]]

/-- R356, DEFAULT, horizontal taps of phases 32 to 47. -/
def horizontal2 : List (List Int) := [
  [25, -138, 627, 623, -138, 25],
  [24, -135, 606, 644, -141, 26],
  [23, -132, 585, 665, -144, 27],
  [22, -129, 564, 685, -146, 28],
  [21, -125, 541, 705, -147, 29],
  [19, -121, 521, 725, -149, 29],
  [18, -117, 498, 745, -150, 30],
  [17, -112, 475, 764, -151, 31],
  [16, -108, 453, 783, -151, 31],
  [15, -103, 431, 801, -151, 31],
  [14, -99, 409, 818, -150, 32],
  [13, -94, 387, 835, -149, 32],
  [12, -89, 364, 852, -147, 32],
  [10, -84, 343, 868, -145, 32],
  [9, -79, 322, 883, -143, 32],
  [8, -74, 301, 898, -140, 31]]

/-- R356, DEFAULT, horizontal taps of phases 48 to 63. -/
def horizontal3 : List (List Int) := [
  [8, -69, 279, 911, -136, 31],
  [7, -64, 258, 925, -132, 30],
  [6, -60, 239, 937, -127, 29],
  [5, -55, 219, 949, -122, 28],
  [4, -50, 199, 960, -116, 27],
  [4, -45, 179, 970, -110, 26],
  [3, -40, 161, 979, -103, 24],
  [2, -36, 143, 987, -95, 23],
  [2, -31, 124, 995, -87, 21],
  [1, -27, 107, 1002, -78, 19],
  [1, -23, 90, 1008, -69, 17],
  [1, -19, 74, 1013, -59, 14],
  [0, -15, 58, 1017, -48, 12],
  [0, -11, 43, 1020, -37, 9],
  [0, -7, 28, 1022, -25, 6],
  [0, -3, 13, 1024, -13, 3]]

/-- R356, DEFAULT, vertical taps of phases 0 to 15. -/
def vertical0 : List (List Int) := [
  [0, 1024, 0, 0],
  [-8, 1024, 8, 0],
  [-15, 1021, 18, 0],
  [-22, 1019, 28, -1],
  [-28, 1014, 40, -2],
  [-34, 1009, 52, -3],
  [-39, 1002, 65, -4],
  [-44, 995, 78, -5],
  [-49, 987, 93, -7],
  [-53, 978, 108, -9],
  [-57, 968, 124, -11],
  [-60, 956, 141, -13],
  [-63, 944, 158, -15],
  [-66, 931, 176, -17],
  [-68, 917, 194, -19],
  [-70, 903, 213, -22]]

/-- R356, DEFAULT, vertical taps of phases 16 to 31. -/
def vertical1 : List (List Int) := [
  [-72, 888, 232, -24],
  [-73, 872, 252, -27],
  [-74, 855, 272, -29],
  [-75, 839, 292, -32],
  [-76, 821, 313, -34],
  [-76, 803, 334, -37],
  [-76, 784, 356, -40],
  [-76, 765, 377, -42],
  [-75, 745, 399, -45],
  [-74, 725, 421, -48],
  [-73, 704, 443, -50],
  [-72, 684, 465, -53],
  [-71, 663, 487, -55],
  [-69, 640, 510, -57],
  [-68, 620, 532, -60],
  [-66, 598, 554, -62]]

/-- R356, DEFAULT, vertical taps of phases 32 to 47. -/
def vertical2 : List (List Int) := [
  [-64, 576, 576, -64],
  [-62, 554, 598, -66],
  [-60, 532, 620, -68],
  [-57, 509, 641, -69],
  [-55, 487, 663, -71],
  [-53, 465, 684, -72],
  [-50, 443, 704, -73],
  [-48, 421, 725, -74],
  [-45, 399, 745, -75],
  [-42, 377, 765, -76],
  [-40, 356, 784, -76],
  [-37, 334, 803, -76],
  [-34, 313, 821, -76],
  [-32, 292, 839, -75],
  [-29, 271, 856, -74],
  [-27, 252, 872, -73]]

/-- R356, DEFAULT, vertical taps of phases 48 to 63. -/
def vertical3 : List (List Int) := [
  [-24, 232, 888, -72],
  [-22, 213, 903, -70],
  [-19, 193, 918, -68],
  [-17, 176, 931, -66],
  [-15, 158, 944, -63],
  [-13, 141, 956, -60],
  [-11, 125, 967, -57],
  [-9, 108, 978, -53],
  [-7, 93, 987, -49],
  [-5, 78, 995, -44],
  [-4, 64, 1003, -39],
  [-3, 52, 1009, -34],
  [-2, 40, 1014, -28],
  [-1, 28, 1019, -22],
  [0, 17, 1022, -15],
  [0, 9, 1023, -8]]

/-- R356, DEFAULT: horizontal taps by phase. -/
def horizontal : List (List Int) := horizontal0 ++ horizontal1 ++ horizontal2 ++ horizontal3
/-- R356, DEFAULT: vertical taps by phase. -/
def vertical : List (List Int) := vertical0 ++ vertical1 ++ vertical2 ++ vertical3

/-- The DEFAULT set in the byte layout of `layer.filter_coeffs` (R356): I16, horizontal phases then vertical phases. -/
def defaultBytes : List Byte :=
  (horizontal.flatten ++ vertical.flatten).flatMap (fun v => leBytes 2 (unsignedOf 16 v))

end Sys2Proof.Machine.Filter
end

