-- ==== Sys2Proof/Machine/ObjectTypes.lean ====
section
/-! DEFINITION. The vocabulary of the object tables: types (R115), access codes (R117), scopes (R118), kinds (R119),
ranges (R116), the grant units of the index range map (R121), and the values entries hold. -/
namespace Sys2Proof.Machine

/-- The three parts of the family (R1). -/
inductive Part where
  | ux3804 | ux3808 | ux3816
deriving DecidableEq, Repr

/-- Temperature grades (R5). -/
inductive Grade where
  | commercial | industrial
deriving DecidableEq, Repr

/-- Entry types of R115. -/
inductive Ty where
  | bool | u8 | u16 | u32 | u64 | i16 | i32 | q16 | str | blob
deriving DecidableEq, Repr

/-- Access codes of R117. -/
inductive Acc where
  | ro | rw | wo | const | rws
deriving DecidableEq, Repr

/-- Kinds of R119. -/
inductive Kind where
  | ring | live
deriving DecidableEq, Repr

/-- Scopes of R118. -/
inductive Scope where
  | device | die | head | inst | lane | partner
deriving DecidableEq, Repr

/-- What an object describes one of: it decides how many indices the object has on each part (R2, R3, R33). -/
inductive Cls where
  | device | die | head | inst | layer | sprite | region | context | electrode | key | channel | effect
  | tone | xpRow | xpOutput | lane | partner | group | streamUnit | board
deriving DecidableEq, Repr

/-- Grant units of R121. `none` opens nothing to I1 to I31; `readable` is "None; read by R124"; `anyContext` is opened by every context slot. -/
inductive Grant where
  | none | readable | ownInstance | head | headOf8 | canopy | region | layer | context | compositor | key | haptic
  | xpRow | lane | partner | group | laneCheck | streamCheck | anyContext
deriving DecidableEq, Repr

/-- The range an entry's table states (R116). `step` and `stepSpan` state multiples; the last two depend on the part. -/
inductive Rng where
  | any
  | span (lo hi : Int)
  | orSpan (x lo hi : Int)
  | only (xs : List Int)
  | step (m : Int)
  | stepSpan (m lo hi : Int)
  | layerHead | pkgLimit | tempWarn
deriving DecidableEq, Repr

/-- The default a table states. The last group depends on the part or on the object's number. -/
inductive Dflt where
  | num (v : Int) | blank | fill (n : Nat) (b : Nat)
  | partCode | grade | dies | romVersion | mapVersion | abiVersion | objectCount | none | identity | postTable
  | headOfDie | local | preTable | filterDefault | quietHaptic | ownIndex | mute | presetMute | pkgLimit | tempWarn
deriving DecidableEq, Repr

/-- One row of an object table. -/
structure SubEntry where
  lo     : Nat
  hi     : Nat
  name   : String
  ty     : Ty
  acc    : Acc
  kind   : Kind
  dflt   : Dflt
  rng    : Rng
  maxLen : Nat
deriving DecidableEq, Repr

/-- One object, or one family of objects at base, base + stride, … -/
structure ObjectRow where
  base   : Nat
  stride : Nat
  cls    : Cls
  grant  : Grant
  scope  : Scope
  name   : String
  subs   : List SubEntry
deriving DecidableEq, Repr

/-- The value of an entry: a number (any numeric type) or bytes (STR and BLOB). -/
inductive Val where
  | num (v : Int)
  | bytes (bs : List Byte)
deriving DecidableEq, Repr

/-- The number of a value; bytes read as 0. -/
def Val.toInt : Val → Int
  | .num v => v
  | .bytes _ => 0

/-- The bytes of a value; a number has none. -/
def Val.toBytes : Val → List Byte
  | .num _ => []
  | .bytes bs => bs

/-- Dies present (table of R1). -/
def Part.dies : Part → Nat
  | .ux3804 => 2 | .ux3808 => 4 | .ux3816 => 8

/-- Part code of R42 and R87. -/
def Part.code : Part → Nat
  | .ux3804 => 0x3804 | .ux3808 => 0x3808 | .ux3816 => 0x3816

/-- The part's bit in a part_mask (R91). -/
def Part.maskBit : Part → Nat
  | .ux3804 => 0 | .ux3808 => 1 | .ux3816 => 2

/-- Default of `package_limit_qw` in 0.25 W units: 48, 92 or 180 by part (R648). -/
def Part.packageQw : Part → Nat
  | .ux3804 => 48 | .ux3808 => 92 | .ux3816 => 180

/-- How many of a resource a part carries (R2, R33). -/
def Cls.count (p : Part) : Cls → Nat
  | .device => 1
  | .die => p.dies
  | .head => 2 * p.dies
  | .inst => 32
  | .layer => 32 * p.dies
  | .sprite => 16 * p.dies
  | .region => 16 * p.dies
  | .context => 16 * p.dies
  | .electrode => 16 * p.dies
  | .key => 64 * p.dies
  | .channel => 2 * p.dies
  | .effect => 256
  | .tone => 8
  | .xpRow => 128
  | .xpOutput => 64
  | .lane => 8 * p.dies
  | .partner => 256 * p.dies
  | .group => 16
  | .streamUnit => 2 * p.dies
  | .board => 8

/-- How many of a resource die d carries: the die of resource n is n / perDie (R33). -/
def Cls.perDie : Cls → Nat
  | .die => 1 | .head => 2 | .layer => 32 | .sprite => 16 | .region => 16 | .context => 16 | .electrode => 16
  | .key => 64 | .channel => 2 | .lane => 8 | .partner => 256 | .streamUnit => 2
  | _ => 0

/-- Type codes of R115. -/
def Ty.code : Ty → Nat
  | .bool => 1 | .u8 => 2 | .u16 => 3 | .u32 => 4 | .u64 => 5 | .i16 => 6 | .i32 => 7 | .q16 => 8 | .str => 9 | .blob => 10

/-- Size in bytes of a fixed-size type (R115); 0 for STR and BLOB. -/
def Ty.size : Ty → Nat
  | .bool => 1 | .u8 => 1 | .u16 => 2 | .u32 => 4 | .u64 => 8 | .i16 => 2 | .i32 => 4 | .q16 => 4 | .str => 0 | .blob => 0

/-- Whether a numeric type is two's complement (R115). -/
def Ty.signed : Ty → Bool
  | .i16 => true | .i32 => true | .q16 => true | _ => false

/-- The lowest value of a numeric type. -/
def Ty.lowest (t : Ty) : Int := if t.signed then -((2 : Int) ^ (8 * t.size - 1)) else 0

/-- The highest value of a numeric type; BOOL takes 0 and 1 only (R115). -/
def Ty.highest : Ty → Int
  | .bool => 1
  | .str => 0
  | .blob => 0
  | t => if t.signed then (2 : Int) ^ (8 * t.size - 1) - 1 else (2 : Int) ^ (8 * t.size) - 1

/-- Access codes of R117. -/
def Acc.code : Acc → Nat
  | .ro => 1 | .rw => 2 | .wo => 3 | .const => 4 | .rws => 5

/-- Scope codes of R118. -/
def Scope.code : Scope → Nat
  | .device => 1 | .die => 2 | .head => 3 | .inst => 4 | .lane => 5 | .partner => 6

/-- Kind codes of R119. -/
def Kind.code : Kind → Nat
  | .ring => 1 | .live => 2

end Sys2Proof.Machine
end

