-- ==== Sys2Proof/Machine/ObjectsDevice.lean ====
section
/-! DEFINITION. Indices 0x1000 to 0x2FFF. The object tables of the parameter directory,
transcribed row by row from the object tables of spec/ (the rule of each table stands in its docstring).
A row reads: first sub, last sub, name, type, access, kind, default, range, largest length of a STR or BLOB. -/
namespace Sys2Proof.Machine.Objects

/-- R172: `0x1001`. -/
def o1001 : List SubEntry := [
  ⟨0, 0, "error_register", .u8, .ro, .live, (.num 0), .any, 0⟩]

/-- R172: `0x1017`. -/
def o1017 : List SubEntry := [
  ⟨0, 0, "heartbeat_ms", .u16, .rw, .ring, (.num 1000), (.orSpan 0 10 65535), 0⟩]

/-- R172: `0x1018`. -/
def o1018 : List SubEntry := [
  ⟨0, 0, "count", .u8, .const, .live, (.num 2), .any, 0⟩,
  ⟨1, 1, "vendor_id", .u32, .const, .live, (.num 1481), .any, 0⟩,
  ⟨2, 2, "product_code", .u32, .const, .live, .partCode, .any, 0⟩]

/-- R144: `directory.info`. -/
def o1F00 : List SubEntry := [
  ⟨0, 0, "count", .u8, .const, .live, (.num 4), .any, 0⟩,
  ⟨1, 1, "map_version", .u16, .const, .live, .mapVersion, .any, 0⟩,
  ⟨2, 2, "objects", .u16, .const, .live, .objectCount, .any, 0⟩,
  ⟨3, 3, "groups_waiting", .u8, .ro, .live, (.num 0), .any, 0⟩,
  ⟨4, 4, "mcan_rights", .u8, .rw, .ring, (.num 2), (.span 0 2), 0⟩]

/-- R145: `directory.stats`. -/
def o1F01 : List SubEntry := [
  ⟨0, 0, "count", .u8, .const, .live, (.num 5), .any, 0⟩,
  ⟨1, 1, "groups_applied", .u32, .ro, .live, (.num 0), .any, 0⟩,
  ⟨2, 2, "groups_failed", .u32, .ro, .live, (.num 0), .any, 0⟩,
  ⟨3, 3, "prepare_timeouts", .u32, .ro, .live, (.num 0), .any, 0⟩,
  ⟨4, 4, "group_time_max_us", .u32, .ro, .live, (.num 0), .any, 0⟩,
  ⟨5, 5, "denied", .u32, .ro, .live, (.num 0), .any, 0⟩]

/-- R172: `0x1F10`. -/
def o1F10 : List SubEntry := [
  ⟨0, 0, "count", .u8, .const, .live, (.num 11), .any, 0⟩,
  ⟨1, 1, "nominal_rate", .u8, .rw, .ring, (.num 3), (.span 0 3), 0⟩,
  ⟨2, 2, "data_rate", .u8, .rw, .ring, (.num 4), (.span 0 4), 0⟩,
  ⟨3, 3, "sp_nominal", .u16, .rw, .ring, (.num 800), (.span 600 900), 0⟩,
  ⟨4, 4, "sp_data", .u16, .rw, .ring, (.num 750), (.span 600 900), 0⟩,
  ⟨5, 5, "node_offset", .u8, .rw, .ring, (.num 16), (.span 1 112), 0⟩,
  ⟨6, 6, "wake_id", .u16, .rw, .ring, (.num 126), (.span 1 2047), 0⟩,
  ⟨7, 7, "wake_broadcast", .bool, .rw, .ring, (.num 0), .any, 0⟩,
  ⟨8, 8, "auto_start", .bool, .rw, .ring, (.num 0), .any, 0⟩,
  ⟨9, 9, "usdo_timeout_ms", .u16, .rw, .ring, (.num 1000), (.span 100 60000), 0⟩,
  ⟨10, 10, "svc_repeat_s", .u16, .rw, .ring, (.num 60), (.span 0 3600), 0⟩,
  ⟨11, 11, "emcy_inhibit_ms", .u16, .rw, .ring, (.num 10), (.span 0 1000), 0⟩]

/-- R172: `0x1F11`. -/
def o1F11 : List SubEntry := [
  ⟨0, 0, "count", .u8, .const, .live, (.num 6), .any, 0⟩,
  ⟨1, 1, "node_id", .u8, .ro, .live, .blank, .any, 0⟩,
  ⟨2, 2, "nmt_state", .u8, .ro, .live, .blank, .any, 0⟩,
  ⟨3, 3, "bus_state", .u8, .ro, .live, (.num 0), .any, 0⟩,
  ⟨4, 4, "last_status", .u16, .ro, .live, (.num 0), .any, 0⟩,
  ⟨5, 5, "emcy_dropped", .u32, .ro, .live, (.num 0), .any, 0⟩,
  ⟨6, 6, "bus_off_count", .u32, .ro, .live, (.num 0), .any, 0⟩]

/-- R172: `0x1F12`. -/
def o1F12 : List SubEntry := [
  ⟨0, 0, "tunnel_request", .blob, .wo, .live, .blank, .any, 8192⟩]

/-- R172: `0x1F13`. -/
def o1F13 : List SubEntry := [
  ⟨0, 0, "tunnel_response", .blob, .ro, .live, .blank, .any, 8192⟩]

/-- R172: `0x1F14`. -/
def o1F14 : List SubEntry := [
  ⟨0, 0, "transport_timeout_ms", .u16, .rw, .ring, (.num 50), (.span 10 1000), 0⟩]

/-- R42: `device.identity`. -/
def o2000 : List SubEntry := [
  ⟨0, 0, "count", .u8, .const, .live, (.num 4), .any, 0⟩,
  ⟨1, 1, "part_code", .u16, .const, .live, .partCode, .any, 0⟩,
  ⟨2, 2, "grade", .u8, .const, .live, .grade, .any, 0⟩,
  ⟨3, 3, "dies_present", .u8, .const, .live, .dies, .any, 0⟩,
  ⟨4, 4, "trunk_die", .u8, .ro, .live, (.num 0), .any, 0⟩]

/-- R59: `device.straps`. -/
def o2002 : List SubEntry := [
  ⟨0, 0, "count", .u8, .const, .live, (.num 3), .any, 0⟩,
  ⟨1, 1, "boot_src", .u8, .ro, .live, .blank, .any, 0⟩,
  ⟨2, 2, "vr_mode", .u8, .ro, .live, .blank, .any, 0⟩,
  ⟨3, 3, "mgmt_id", .u8, .ro, .live, .blank, .any, 0⟩]

/-- R43: `die.status`. -/
def o2008 : List SubEntry := [
  ⟨0, 0, "count", .u8, .const, .live, (.num 5), .any, 0⟩,
  ⟨1, 1, "role", .u8, .ro, .live, .blank, .any, 0⟩,
  ⟨2, 2, "core_state", .u8, .ro, .live, .blank, .any, 0⟩,
  ⟨3, 3, "shell_state", .u8, .ro, .live, .blank, .any, 0⟩,
  ⟨4, 4, "links", .u16, .ro, .live, .blank, .any, 0⟩,
  ⟨5, 5, "retries", .u32, .ro, .live, (.num 0), .any, 0⟩]

/-- R44: `time`. -/
def o2010 : List SubEntry := [
  ⟨0, 0, "count", .u8, .const, .live, (.num 6), .any, 0⟩,
  ⟨1, 1, "now", .u64, .ro, .live, .blank, .any, 0⟩,
  ⟨2, 2, "ptm_enable", .bool, .rw, .ring, (.num 0), .any, 0⟩,
  ⟨3, 3, "ptm_interval_ms", .u16, .rw, .ring, (.num 10), (.span 1 1000), 0⟩,
  ⟨4, 4, "ptm_device_time", .u64, .ro, .live, (.num 0), .any, 0⟩,
  ⟨5, 5, "ptm_master_time", .u64, .ro, .live, (.num 0), .any, 0⟩,
  ⟨6, 6, "skew_max_ns", .u16, .ro, .live, (.num 0), .any, 0⟩]

/-- R106: `boot.status`. -/
def o2100 : List SubEntry := [
  ⟨0, 0, "count", .u8, .const, .live, (.num 7), .any, 0⟩,
  ⟨1, 1, "state", .u8, .ro, .live, .blank, .any, 0⟩,
  ⟨2, 2, "halt_code", .u16, .ro, .live, (.num 0), .any, 0⟩,
  ⟨3, 3, "source", .u8, .ro, .live, .blank, .any, 0⟩,
  ⟨4, 4, "cause", .u8, .ro, .live, .blank, .any, 0⟩,
  ⟨5, 5, "rom_version", .u16, .const, .live, .romVersion, .any, 0⟩,
  ⟨6, 6, "operational_time", .u64, .ro, .live, (.num 0), .any, 0⟩,
  ⟨7, 7, "reset", .u8, .wo, .live, .blank, (.only [165]), 0⟩]

/-- R107: `firmware.image`. -/
def o2101 : List SubEntry := [
  ⟨0, 0, "count", .u8, .const, .live, (.num 5), .any, 0⟩,
  ⟨1, 1, "fw_version", .u32, .ro, .live, .blank, .any, 0⟩,
  ⟨2, 2, "security_version", .u16, .ro, .live, .blank, .any, 0⟩,
  ⟨3, 3, "key_index", .u8, .ro, .live, .blank, .any, 0⟩,
  ⟨4, 4, "length", .u32, .ro, .live, .blank, .any, 0⟩,
  ⟨5, 5, "digest", .blob, .ro, .live, .blank, .any, 48⟩]

/-- R108: `firmware.fuses`. -/
def o2102 : List SubEntry := [
  ⟨0, 0, "count", .u8, .const, .live, (.num 4), .any, 0⟩,
  ⟨1, 1, "sv_fused", .u8, .ro, .live, .blank, .any, 0⟩,
  ⟨2, 2, "sv_advance", .u8, .rws, .live, (.num 0), (.span 0 255), 0⟩,
  ⟨3, 3, "keys_revoked", .u8, .ro, .live, .blank, .any, 0⟩,
  ⟨4, 4, "revoke_key", .u8, .rws, .live, .blank, (.span 0 3), 0⟩]

/-- R109: `boot.timing`. -/
def o2103 : List SubEntry := [
  ⟨0, 0, "count", .u8, .const, .live, (.num 8), .any, 0⟩,
  ⟨1, 8, "time", .u32, .ro, .live, (.num 0), .any, 0⟩]

/-- R110: `boot.recovery_image`; a longer write returns TYPE_LENGTH (DESIGN CHOICE, log entry 126). -/
def o2104 : List SubEntry := [
  ⟨0, 0, "recovery_image", .blob, .wo, .live, .blank, .any, 25165824⟩]

/-- R110: `boot.recovery_ring`; a longer write returns TYPE_LENGTH (DESIGN CHOICE, log entry 126). -/
def o2105 : List SubEntry := [
  ⟨0, 0, "recovery_ring", .blob, .wo, .live, .blank, .any, 8388608⟩]

/-- R110: `boot.recovery_start`; in AWAIT_IMAGE a value other than 0x01 returns RANGE (DESIGN CHOICE, log entry 126). -/
def o2106 : List SubEntry := [
  ⟨0, 0, "recovery_start", .u8, .wo, .live, .blank, (.only [1]), 0⟩]

/-- R190: `ring.state`. -/
def o2110 : List SubEntry := [
  ⟨0, 0, "count", .u8, .const, .live, (.num 12), .any, 0⟩,
  ⟨1, 1, "active_version", .u32, .ro, .live, .blank, .any, 0⟩,
  ⟨2, 2, "active_label", .str, .ro, .live, .blank, .any, 8⟩,
  ⟨3, 3, "previous_present", .bool, .ro, .live, .blank, .any, 0⟩,
  ⟨4, 4, "previous_version", .u32, .ro, .live, (.num 0), .any, 0⟩,
  ⟨5, 5, "previous_label", .str, .ro, .live, .blank, .any, 8⟩,
  ⟨6, 6, "phase", .u8, .ro, .live, (.num 0), .any, 0⟩,
  ⟨7, 7, "deadline", .u64, .ro, .live, (.num 0), .any, 0⟩,
  ⟨8, 8, "version_high", .u32, .ro, .live, .blank, .any, 0⟩,
  ⟨9, 9, "last_result", .u16, .ro, .live, (.num 0), .any, 0⟩,
  ⟨10, 10, "last_fail_index", .u16, .ro, .live, (.num 0), .any, 0⟩,
  ⟨11, 11, "last_fail_sub", .u8, .ro, .live, (.num 0), .any, 0⟩,
  ⟨12, 12, "returns", .u32, .ro, .live, (.num 0), .any, 0⟩]

/-- R191: `ring.draft`. -/
def o2111 : List SubEntry := [
  ⟨0, 0, "count", .u8, .const, .live, (.num 5), .any, 0⟩,
  ⟨1, 1, "version", .u32, .rw, .live, .none, .any, 0⟩,
  ⟨2, 2, "label", .str, .rw, .live, .none, .any, 8⟩,
  ⟨3, 3, "reset", .u8, .wo, .live, .blank, (.span 1 3), 0⟩,
  ⟨4, 4, "image", .blob, .wo, .live, .blank, .any, 8388608⟩,
  ⟨5, 5, "load_record", .u32, .ro, .live, (.num 0), .any, 0⟩]

/-- R192: `ring.command`. -/
def o2112 : List SubEntry := [
  ⟨0, 0, "count", .u8, .const, .live, (.num 3), .any, 0⟩,
  ⟨1, 1, "commit", .u16, .wo, .live, .blank, (.orSpan 65535 0 600), 0⟩,
  ⟨2, 2, "confirm", .u32, .wo, .live, .blank, .any, 0⟩,
  ⟨3, 3, "return", .u8, .wo, .live, .blank, (.only [1]), 0⟩]

/-- R226: `instance`. -/
def o2200 : List SubEntry := [
  ⟨0, 0, "count", .u8, .const, .live, (.num 21), .any, 0⟩,
  ⟨1, 1, "state", .u8, .ro, .live, (.num 0), .any, 0⟩,
  ⟨2, 2, "fallback_colour", .u32, .rw, .live, (.num 0), (.span 0 1073741823), 0⟩,
  ⟨3, 3, "msix_vectors", .u16, .rw, .live, (.num 56), (.span 1 256), 0⟩,
  ⟨4, 4, "memory_quota_mib", .u32, .rw, .live, (.num 0), (.step 64), 0⟩,
  ⟨5, 5, "memory_stacks", .u8, .rw, .live, (.num 255), .any, 0⟩,
  ⟨6, 6, "heads", .u16, .rw, .live, (.num 0), .any, 0⟩,
  ⟨7, 7, "layers", .blob, .rw, .live, (.fill 32 0), .any, 32⟩,
  ⟨8, 8, "contexts", .blob, .rw, .live, (.fill 16 0), .any, 16⟩,
  ⟨9, 9, "gfx_weights", .blob, .rw, .live, (.fill 8 0), .any, 8⟩,
  ⟨10, 10, "keys", .blob, .rw, .live, (.fill 64 0), .any, 64⟩,
  ⟨11, 11, "haptic", .u16, .rw, .live, (.num 0), .any, 0⟩,
  ⟨12, 12, "xp_rows", .blob, .rw, .live, (.fill 16 0), .any, 16⟩,
  ⟨13, 13, "lanes", .u64, .rw, .live, (.num 0), .any, 0⟩,
  ⟨14, 14, "partners", .blob, .rw, .live, (.fill 256 0), .any, 256⟩,
  ⟨15, 15, "group_slots", .u16, .rw, .live, (.num 0), .any, 0⟩,
  ⟨16, 16, "check_units", .blob, .rw, .live, (.fill 10 0), .any, 10⟩,
  ⟨17, 17, "aperture_base", .u32, .rw, .live, (.num 0), (.step 256), 0⟩,
  ⟨18, 18, "events_lost", .u32, .ro, .live, (.num 0), .any, 0⟩,
  ⟨19, 19, "resets", .u32, .ro, .live, (.num 0), .any, 0⟩,
  ⟨20, 20, "faults", .u32, .ro, .live, (.num 0), .any, 0⟩,
  ⟨21, 21, "command", .u8, .wo, .live, .blank, (.only [1]), 0⟩]

/-- R734: `instance_pool`. -/
def o2220 : List SubEntry := [
  ⟨0, 0, "count", .u8, .const, .live, (.num 2), .any, 0⟩,
  ⟨1, 1, "memory_pool_mib", .u32, .ro, .live, .blank, .any, 0⟩,
  ⟨2, 2, "reserved_mib", .blob, .ro, .live, .blank, .any, 16⟩]

/-- R227: `shed.control`. -/
def o2221 : List SubEntry := [
  ⟨0, 0, "count", .u8, .const, .live, (.num 11), .any, 0⟩,
  ⟨1, 1, "instance", .u8, .rw, .live, (.num 1), (.span 1 31), 0⟩,
  ⟨2, 2, "command", .u8, .wo, .live, .blank, (.span 1 4), 0⟩,
  ⟨3, 3, "freeze_mode", .u8, .rw, .live, (.num 0), (.span 0 1), 0⟩,
  ⟨4, 4, "drain_ms", .u16, .rw, .live, (.num 100), (.span 1 1000), 0⟩,
  ⟨5, 5, "buffer_addr", .u64, .rw, .live, (.num 0), (.step 4096), 0⟩,
  ⟨6, 6, "buffer_len", .u64, .rw, .live, (.num 0), .any, 0⟩,
  ⟨7, 7, "source", .u8, .rw, .live, (.num 255), (.orSpan 255 1 31), 0⟩,
  ⟨8, 8, "required_bytes", .u64, .ro, .live, (.num 0), .any, 0⟩,
  ⟨9, 9, "result", .u16, .ro, .live, (.num 0), .any, 0⟩,
  ⟨10, 10, "failing_section", .u8, .ro, .live, (.num 0), .any, 0⟩,
  ⟨11, 11, "image_length", .u64, .ro, .live, (.num 0), .any, 0⟩]

/-- R269: `0x2300`. -/
def o2300 : List SubEntry := [
  ⟨0, 0, "count", .u8, .const, .live, (.num 7), .any, 0⟩,
  ⟨1, 1, "monitor_version", .u32, .ro, .live, .blank, .any, 0⟩,
  ⟨2, 2, "applets_loaded", .u16, .ro, .live, (.num 0), .any, 0⟩,
  ⟨3, 3, "claims_active", .u8, .ro, .live, (.num 0), .any, 0⟩,
  ⟨4, 4, "violations", .u32, .ro, .live, (.num 0), .any, 0⟩,
  ⟨5, 5, "last_violation_attr", .u16, .ro, .live, (.num 0), .any, 0⟩,
  ⟨6, 6, "last_violation_addr", .u64, .ro, .live, (.num 0), .any, 0⟩,
  ⟨7, 7, "wcall_budget_us", .u16, .rw, .ring, (.num 200), (.span 20 2000), 0⟩]

/-- R269: `0x2301`. -/
def o2301 : List SubEntry := [
  ⟨0, 0, "count", .u8, .const, .live, (.num 6), .any, 0⟩,
  ⟨1, 1, "fused", .u8, .ro, .live, .blank, .any, 0⟩,
  ⟨2, 2, "effective", .u8, .ro, .live, .blank, .any, 0⟩,
  ⟨3, 3, "tainted", .bool, .ro, .live, (.num 0), .any, 0⟩,
  ⟨4, 4, "challenge", .blob, .ro, .live, .blank, .any, 48⟩,
  ⟨5, 5, "response", .blob, .wo, .live, .blank, .any, 100⟩,
  ⟨6, 6, "relock", .u8, .wo, .live, .blank, (.only [1]), 0⟩]

/-- R269: `0x2302`. -/
def o2302 : List SubEntry := [
  ⟨0, 0, "count", .u8, .const, .live, (.num 4), .any, 0⟩,
  ⟨1, 1, "active", .bool, .ro, .live, (.num 0), .any, 0⟩,
  ⟨2, 2, "head", .u8, .ro, .live, (.num 255), .any, 0⟩,
  ⟨3, 3, "start_time", .u64, .ro, .live, (.num 0), .any, 0⟩,
  ⟨4, 4, "max_s", .u16, .rw, .ring, (.num 120), (.span 10 600), 0⟩]

/-- R269: `0x2303`. -/
def o2303 : List SubEntry := [
  ⟨0, 0, "count", .u8, .const, .live, (.num 3), .any, 0⟩,
  ⟨1, 1, "slot_state", .u8, .ro, .live, .blank, .any, 0⟩,
  ⟨2, 2, "burn", .blob, .wo, .live, .blank, .any, 48⟩,
  ⟨3, 3, "revoke", .u8, .rws, .live, .blank, (.span 0 1), 0⟩]

/-- R269: `0x2304`. -/
def o2304 : List SubEntry := [
  ⟨0, 0, "count", .u8, .const, .live, (.num 2), .any, 0⟩,
  ⟨1, 1, "image", .blob, .wo, .live, .blank, .any, 1048960⟩,
  ⟨2, 2, "result", .u16, .ro, .live, (.num 0), .any, 0⟩]

/-- R269: `0x2308+d`. -/
def o2308 : List SubEntry := [
  ⟨0, 0, "count", .u8, .const, .live, (.num 2), .any, 0⟩,
  ⟨1, 1, "secure_sram_kib", .u16, .ro, .live, (.num 0), .any, 0⟩,
  ⟨2, 2, "secure_dram_mib", .u32, .ro, .live, (.num 0), .any, 0⟩]

/-- R417: `heartwood`. -/
def o2310 : List SubEntry := [
  ⟨0, 0, "count", .u8, .const, .live, (.num 2), .any, 0⟩,
  ⟨1, 1, "assets", .blob, .rws, .live, .blank, .any, 4194304⟩,
  ⟨2, 2, "assets_digest", .blob, .ro, .live, .blank, .any, 48⟩]

/-- R634: `power`. -/
def o2400 : List SubEntry := [
  ⟨0, 0, "count", .u8, .const, .live, (.num 14), .any, 0⟩,
  ⟨1, 1, "state", .u8, .ro, .live, (.num 0), .any, 0⟩,
  ⟨2, 2, "command", .u8, .wo, .live, .blank, (.only [0, 2, 3, 4]), 0⟩,
  ⟨3, 3, "phase", .u8, .ro, .live, (.num 0), .any, 0⟩,
  ⟨4, 4, "idle_enable", .bool, .rw, .ring, (.num 1), .any, 0⟩,
  ⟨5, 5, "delay_limit_ms", .u16, .rw, .ring, (.num 500), (.span 1 10000), 0⟩,
  ⟨6, 6, "deep_after_s", .u32, .rw, .ring, (.num 0), (.orSpan 0 10 86400), 0⟩,
  ⟨7, 7, "last_result", .u16, .ro, .live, (.num 0), .any, 0⟩,
  ⟨8, 8, "last_refusal", .u8, .ro, .live, (.num 0), .any, 0⟩,
  ⟨9, 9, "last_wake", .u8, .ro, .live, (.num 0), .any, 0⟩,
  ⟨10, 10, "last_change_time", .u64, .ro, .live, (.num 0), .any, 0⟩,
  ⟨11, 11, "wakes_during_entry", .u32, .ro, .live, (.num 0), .any, 0⟩,
  ⟨12, 12, "sleep_entries", .u32, .ro, .live, (.num 0), .any, 0⟩,
  ⟨13, 13, "deep_sleep_entries", .u32, .ro, .live, (.num 0), .any, 0⟩,
  ⟨14, 14, "refusals", .u32, .ro, .live, (.num 0), .any, 0⟩]

/-- R635: `power.die`. -/
def o2408 : List SubEntry := [
  ⟨0, 0, "count", .u8, .const, .live, (.num 10), .any, 0⟩,
  ⟨1, 1, "state", .u8, .ro, .live, (.num 0), .any, 0⟩,
  ⟨2, 2, "idle_permille", .u16, .ro, .live, (.num 0), .any, 0⟩,
  ⟨3, 3, "bias_mv", .i16, .ro, .live, (.num 0), .any, 0⟩,
  ⟨4, 4, "assist", .u8, .ro, .live, (.num 0), .any, 0⟩,
  ⟨5, 5, "vr_mv", .u16, .ro, .live, (.num 0), .any, 0⟩,
  ⟨6, 6, "vr_state", .u8, .ro, .live, (.num 0), .any, 0⟩,
  ⟨7, 7, "vr_status", .u16, .ro, .live, (.num 0), .any, 0⟩,
  ⟨8, 8, "vr_timeouts", .u32, .ro, .live, (.num 0), .any, 0⟩,
  ⟨9, 9, "demand_wakes", .u32, .ro, .live, (.num 0), .any, 0⟩,
  ⟨10, 10, "stall_max_ns", .u32, .ro, .live, (.num 0), .any, 0⟩]

/-- R636: `voltage`. -/
def o2410 : List SubEntry := [
  ⟨0, 0, "count", .u8, .const, .live, (.num 5), .any, 0⟩,
  ⟨1, 1, "bias_run_min_mv", .i16, .rw, .ring, (.num (-200)), (.span (-600) 0), 0⟩,
  ⟨2, 2, "bias_sleep_mv", .i16, .rw, .ring, (.num (-300)), (.span (-600) 0), 0⟩,
  ⟨3, 3, "vr_sleep_mv", .u16, .rw, .ring, (.num 0), (.orSpan 0 550 850), 0⟩,
  ⟨4, 4, "vr_timeout_us", .u16, .rw, .ring, (.num 500), (.span 100 10000), 0⟩,
  ⟨5, 5, "vr_pec", .bool, .rw, .ring, (.num 1), .any, 0⟩]

/-- R648: `sapflow.config`. -/
def o2500 : List SubEntry := [
  ⟨0, 0, "count", .u8, .const, .live, (.num 9), .any, 0⟩,
  ⟨1, 1, "package_limit_qw", .u16, .rw, .ring, .pkgLimit, .pkgLimit, 0⟩,
  ⟨2, 2, "margin_mw", .u16, .rw, .ring, (.num 500), (.span 0 2000), 0⟩,
  ⟨3, 3, "gfx_floor_mhz", .u16, .rw, .ring, (.num 400), (.stepSpan 50 200 1000), 0⟩,
  ⟨4, 4, "gfx_max_mhz", .u16, .rw, .ring, (.num 1000), (.stepSpan 50 200 1000), 0⟩,
  ⟨5, 5, "gfx_mw_per_ghz", .u16, .rw, .ring, (.num 4000), (.span 500 10000), 0⟩,
  ⟨6, 6, "canopy_build_mw", .u16, .rw, .ring, (.num 200), (.span 0 2000), 0⟩,
  ⟨7, 7, "calibration_mw", .u16, .rw, .ring, (.num 300), (.span 0 2000), 0⟩,
  ⟨8, 8, "selftest_mw", .u16, .const, .live, (.num 6000), .any, 0⟩,
  ⟨9, 9, "board_wait_ms", .u16, .rw, .ring, (.num 100), (.span 1 10000), 0⟩]

/-- R649: `sapflow.status`. -/
def o2501 : List SubEntry := [
  ⟨0, 0, "count", .u8, .const, .live, (.num 11), .any, 0⟩,
  ⟨1, 1, "package_mw", .u32, .ro, .live, (.num 0), .any, 0⟩,
  ⟨2, 2, "unshed_mw", .u32, .ro, .live, (.num 0), .any, 0⟩,
  ⟨3, 3, "headroom_mw", .i32, .ro, .live, (.num 0), .any, 0⟩,
  ⟨4, 4, "shed_level", .u8, .ro, .live, (.num 0), .any, 0⟩,
  ⟨5, 5, "rounds", .u64, .ro, .live, (.num 0), .any, 0⟩,
  ⟨6, 6, "windows_over", .u32, .ro, .live, (.num 0), .any, 0⟩,
  ⟨7, 7, "gfx_reductions", .u32, .ro, .live, (.num 0), .any, 0⟩,
  ⟨8, 8, "canopy_shed", .u32, .ro, .live, (.num 0), .any, 0⟩,
  ⟨9, 9, "calibration_shed", .u32, .ro, .live, (.num 0), .any, 0⟩,
  ⟨10, 10, "selftest_deferred", .u32, .ro, .live, (.num 0), .any, 0⟩,
  ⟨11, 11, "fast_cuts", .u32, .ro, .live, (.num 0), .any, 0⟩]

/-- R650: `sapflow.die`. -/
def o2508 : List SubEntry := [
  ⟨0, 0, "count", .u8, .const, .live, (.num 7), .any, 0⟩,
  ⟨1, 1, "peak_limit_ma", .u16, .rw, .ring, (.num 6500), (.span 1000 6500), 0⟩,
  ⟨2, 2, "core_ma", .u16, .ro, .live, (.num 0), .any, 0⟩,
  ⟨3, 3, "core_ma_max", .u16, .ro, .live, (.num 0), .any, 0⟩,
  ⟨4, 4, "gfx_requested_mhz", .u16, .ro, .live, (.num 0), .any, 0⟩,
  ⟨5, 5, "gfx_granted_mhz", .u16, .ro, .live, (.num 0), .any, 0⟩,
  ⟨6, 6, "floor_mw", .u32, .ro, .live, (.num 0), .any, 0⟩,
  ⟨7, 7, "peak_cuts", .u32, .ro, .live, (.num 0), .any, 0⟩]

/-- R651: `sapflow.board`. -/
def o2510 : List SubEntry := [
  ⟨0, 0, "count", .u8, .const, .live, (.num 6), .any, 0⟩,
  ⟨1, 1, "limit_mw", .u32, .rw, .ring, (.num 0), (.span 0 1000000), 0⟩,
  ⟨2, 2, "draw_mw", .u32, .ro, .live, (.num 0), .any, 0⟩,
  ⟨3, 3, "draw_max_mw", .u32, .ro, .live, (.num 0), .any, 0⟩,
  ⟨4, 4, "plays_waiting", .u16, .ro, .live, (.num 0), .any, 0⟩,
  ⟨5, 5, "plays_held", .u32, .ro, .live, (.num 0), .any, 0⟩,
  ⟨6, 6, "overs", .u32, .ro, .live, (.num 0), .any, 0⟩]

/-- R671: `survey.config`. -/
def o2600 : List SubEntry := [
  ⟨0, 0, "count", .u8, .const, .live, (.num 8), .any, 0⟩,
  ⟨1, 1, "temp_warn_c", .i16, .rw, .ring, .tempWarn, .tempWarn, 0⟩,
  ⟨2, 2, "events", .bool, .rw, .ring, (.num 1), .any, 0⟩,
  ⟨3, 3, "piezo_interval_s", .u32, .rw, .ring, (.num 3600), (.orSpan 0 60 86400), 0⟩,
  ⟨4, 4, "piezo_tolerance_permille", .u16, .rw, .ring, (.num 150), (.span 10 900), 0⟩,
  ⟨5, 5, "speaker_interval_s", .u32, .rw, .ring, (.num 3600), (.orSpan 0 60 86400), 0⟩,
  ⟨6, 6, "dram_track_ms", .u16, .rw, .ring, (.num 50), (.span 10 1000), 0⟩,
  ⟨7, 7, "sp_trim_enable", .bool, .rw, .ring, (.num 1), .any, 0⟩,
  ⟨8, 8, "calibration_paused", .bool, .ro, .live, (.num 0), .any, 0⟩]

/-- R672: `survey.die`. -/
def o2608 : List SubEntry := [
  ⟨0, 0, "count", .u8, .const, .live, (.num 10), .any, 0⟩,
  ⟨1, 1, "rails_mv", .blob, .ro, .live, .blank, .any, 24⟩,
  ⟨2, 2, "rail_state", .u16, .ro, .live, (.num 0), .any, 0⟩,
  ⟨3, 3, "temps", .blob, .ro, .live, .blank, .any, 12⟩,
  ⟨4, 4, "temp_max", .i16, .ro, .live, (.num (-400)), .any, 0⟩,
  ⟨5, 5, "rail_events", .u32, .ro, .live, (.num 0), .any, 0⟩,
  ⟨6, 6, "bias_raises", .u32, .ro, .live, (.num 0), .any, 0⟩,
  ⟨7, 7, "bias_lowers", .u32, .ro, .live, (.num 0), .any, 0⟩,
  ⟨8, 8, "dram_steps", .u32, .ro, .live, (.num 0), .any, 0⟩,
  ⟨9, 9, "dram_margin_events", .u32, .ro, .live, (.num 0), .any, 0⟩,
  ⟨10, 10, "dram_last_track", .u64, .ro, .live, (.num 0), .any, 0⟩]

/-- R673: `survey.piezo`. -/
def o2610 : List SubEntry := [
  ⟨0, 0, "count", .u8, .const, .live, (.num 6), .any, 0⟩,
  ⟨1, 1, "c0_measured_nf", .u32, .ro, .live, (.num 0), .any, 0⟩,
  ⟨2, 2, "state", .u8, .ro, .live, (.num 0), .any, 0⟩,
  ⟨3, 3, "last_time", .u64, .ro, .live, (.num 0), .any, 0⟩,
  ⟨4, 4, "measurements", .u32, .ro, .live, (.num 0), .any, 0⟩,
  ⟨5, 5, "abandoned", .u32, .ro, .live, (.num 0), .any, 0⟩,
  ⟨6, 6, "request", .u8, .wo, .live, .blank, (.only [1]), 0⟩]

/-- R674: `survey.speaker`. -/
def o2620 : List SubEntry := [
  ⟨0, 0, "count", .u8, .const, .live, (.num 12), .any, 0⟩,
  ⟨1, 1, "method", .u8, .rw, .ring, (.num 0), (.span 0 2), 0⟩,
  ⟨2, 2, "v_input", .u8, .rw, .ring, (.num 255), (.orSpan 255 0 63), 0⟩,
  ⟨3, 3, "i_input", .u8, .rw, .ring, (.num 255), (.orSpan 255 0 63), 0⟩,
  ⟨4, 4, "v_full_scale_mv", .u32, .rw, .ring, (.num 20000), (.span 100 200000), 0⟩,
  ⟨5, 5, "i_full_scale_ma", .u32, .rw, .ring, (.num 4000), (.span 10 40000), 0⟩,
  ⟨6, 6, "nominal_mohm", .u32, .rw, .ring, (.num 4000), (.span 500 64000), 0⟩,
  ⟨7, 7, "impedance_mohm", .u32, .ro, .live, (.num 0), .any, 0⟩,
  ⟨8, 8, "state", .u8, .ro, .live, (.num 0), .any, 0⟩,
  ⟨9, 9, "last_time", .u64, .ro, .live, (.num 0), .any, 0⟩,
  ⟨10, 10, "measurements", .u32, .ro, .live, (.num 0), .any, 0⟩,
  ⟨11, 11, "abandoned", .u32, .ro, .live, (.num 0), .any, 0⟩,
  ⟨12, 12, "request", .u8, .wo, .live, .blank, (.only [1]), 0⟩]

/-- R675: `survey.lane`. -/
def o2660 : List SubEntry := [
  ⟨0, 0, "count", .u8, .const, .live, (.num 6), .any, 0⟩,
  ⟨1, 1, "bias_state", .u8, .ro, .live, (.num 0), .any, 0⟩,
  ⟨2, 2, "termination_state", .u8, .ro, .live, (.num 0), .any, 0⟩,
  ⟨3, 3, "glitch_permille", .u16, .ro, .live, (.num 0), .any, 0⟩,
  ⟨4, 4, "sample_offsets", .blob, .ro, .live, (.fill 64 0), .any, 64⟩,
  ⟨5, 5, "trims", .u32, .ro, .live, (.num 0), .any, 0⟩,
  ⟨6, 6, "idle_transitions", .u32, .ro, .live, (.num 0), .any, 0⟩]

/-- R699: `health`. -/
def o2700 : List SubEntry := [
  ⟨0, 0, "count", .u8, .const, .live, (.num 7), .any, 0⟩,
  ⟨1, 1, "state", .u8, .ro, .live, (.num 0), .any, 0⟩,
  ⟨2, 2, "causes", .u32, .ro, .live, (.num 0), .any, 0⟩,
  ⟨3, 3, "first_cause", .u8, .ro, .live, (.num 0), .any, 0⟩,
  ⟨4, 4, "first_time", .u64, .ro, .live, (.num 0), .any, 0⟩,
  ⟨5, 5, "svc_req", .bool, .ro, .live, (.num 0), .any, 0⟩,
  ⟨6, 6, "succession_time", .u64, .ro, .live, (.num 0), .any, 0⟩,
  ⟨7, 7, "resources_lost", .u32, .ro, .live, (.num 0), .any, 0⟩]

/-- R700: `health.die`. -/
def o2708 : List SubEntry := [
  ⟨0, 0, "count", .u8, .const, .live, (.num 4), .any, 0⟩,
  ⟨1, 1, "core_cause", .u8, .ro, .live, (.num 0), .any, 0⟩,
  ⟨2, 2, "shell_cause", .u8, .ro, .live, (.num 0), .any, 0⟩,
  ⟨3, 3, "lender", .u8, .ro, .live, (.num 255), .any, 0⟩,
  ⟨4, 4, "fail_time", .u64, .ro, .live, (.num 0), .any, 0⟩]

/-- R701: `selftest`. -/
def o2710 : List SubEntry := [
  ⟨0, 0, "count", .u8, .const, .live, (.num 6), .any, 0⟩,
  ⟨1, 1, "run", .u8, .wo, .live, .blank, (.span 0 7), 0⟩,
  ⟨2, 2, "state", .u8, .ro, .live, (.num 0), .any, 0⟩,
  ⟨3, 3, "die", .u8, .ro, .live, (.num 255), .any, 0⟩,
  ⟨4, 4, "defer_limit_s", .u16, .rw, .ring, (.num 600), (.span 10 3600), 0⟩,
  ⟨5, 5, "runs", .u32, .ro, .live, (.num 0), .any, 0⟩,
  ⟨6, 6, "failures", .u32, .ro, .live, (.num 0), .any, 0⟩]

/-- R702: `selftest.die`. -/
def o2718 : List SubEntry := [
  ⟨0, 0, "count", .u8, .const, .live, (.num 6), .any, 0⟩,
  ⟨1, 1, "last_result", .u16, .ro, .live, (.num 0), .any, 0⟩,
  ⟨2, 2, "failed_checks", .u16, .ro, .live, (.num 0), .any, 0⟩,
  ⟨3, 3, "last_time", .u64, .ro, .live, (.num 0), .any, 0⟩,
  ⟨4, 4, "duration_us", .u32, .ro, .live, (.num 0), .any, 0⟩,
  ⟨5, 5, "boot_failed_checks", .u16, .ro, .live, (.num 0), .any, 0⟩,
  ⟨6, 6, "lost_items", .u16, .ro, .live, (.num 0), .any, 0⟩]

end Sys2Proof.Machine.Objects
end

