-- ==== Sys2Proof/Machine/ObjectsDisplay.lean ====
section
/-! DEFINITION. Indices 0x3000 to 0x4FFF. The object tables of the parameter directory,
transcribed row by row from the object tables of spec/ (the rule of each table stands in its docstring).
A row reads: first sub, last sub, name, type, access, kind, default, range, largest length of a STR or BLOB. -/
namespace Sys2Proof.Machine.Objects

/-- R305: `head.mode`. -/
def o3000 : List SubEntry := [
  ⟨0, 0, "count", .u8, .const, .live, (.num 17), .any, 0⟩,
  ⟨1, 1, "enable", .bool, .rw, .ring, (.num 0), .any, 0⟩,
  ⟨2, 2, "pixel_clock_khz", .u32, .rw, .ring, (.num 148500), .any, 0⟩,
  ⟨3, 3, "h_active", .u16, .rw, .ring, (.num 1920), .any, 0⟩,
  ⟨4, 4, "h_front", .u16, .rw, .ring, (.num 88), .any, 0⟩,
  ⟨5, 5, "h_sync", .u16, .rw, .ring, (.num 44), .any, 0⟩,
  ⟨6, 6, "h_back", .u16, .rw, .ring, (.num 148), .any, 0⟩,
  ⟨7, 7, "v_active", .u16, .rw, .ring, (.num 1080), .any, 0⟩,
  ⟨8, 8, "v_front", .u16, .rw, .ring, (.num 4), .any, 0⟩,
  ⟨9, 9, "v_sync", .u16, .rw, .ring, (.num 5), .any, 0⟩,
  ⟨10, 10, "v_back", .u16, .rw, .ring, (.num 36), .any, 0⟩,
  ⟨11, 11, "polarity", .u8, .rw, .ring, (.num 3), (.span 0 3), 0⟩,
  ⟨12, 12, "bpc", .u8, .rw, .ring, (.num 8), (.only [8, 10]), 0⟩,
  ⟨13, 13, "timing", .u8, .rw, .ring, (.num 0), (.span 0 1), 0⟩,
  ⟨14, 14, "refresh_min_hz", .u16, .rw, .ring, (.num 24), .any, 0⟩,
  ⟨15, 15, "refresh_max_hz", .u16, .rw, .ring, (.num 144), .any, 0⟩,
  ⟨16, 16, "vtotal_min", .u16, .rw, .ring, (.num 0), .any, 0⟩,
  ⟨17, 17, "vtotal_max", .u16, .rw, .ring, (.num 0), .any, 0⟩]

/-- R306: `head.link_config`. -/
def o3001 : List SubEntry := [
  ⟨0, 0, "count", .u8, .const, .live, (.num 5), .any, 0⟩,
  ⟨1, 1, "rate_max", .u8, .rw, .ring, (.num 4), (.span 0 4), 0⟩,
  ⟨2, 2, "lanes_max", .u8, .rw, .ring, (.num 4), (.only [1, 2, 4]), 0⟩,
  ⟨3, 3, "downspread", .bool, .rw, .ring, (.num 1), .any, 0⟩,
  ⟨4, 4, "mode_policy", .u8, .rw, .ring, (.num 0), (.span 0 1), 0⟩,
  ⟨5, 5, "pair", .bool, .rw, .ring, (.num 0), .any, 0⟩]

/-- R307: `head.link_status`. -/
def o3002 : List SubEntry := [
  ⟨0, 0, "count", .u8, .const, .live, (.num 13), .any, 0⟩,
  ⟨1, 1, "state", .u8, .ro, .live, (.num 0), .any, 0⟩,
  ⟨2, 2, "rate", .u8, .ro, .live, (.num 255), .any, 0⟩,
  ⟨3, 3, "lanes", .u8, .ro, .live, (.num 0), .any, 0⟩,
  ⟨4, 4, "cable_cm", .u16, .ro, .live, (.num 65535), .any, 0⟩,
  ⟨5, 5, "hpd", .bool, .ro, .live, (.num 0), .any, 0⟩,
  ⟨6, 6, "trainings", .u32, .ro, .live, (.num 0), .any, 0⟩,
  ⟨7, 7, "retrains", .u32, .ro, .live, (.num 0), .any, 0⟩,
  ⟨8, 8, "fallbacks", .u32, .ro, .live, (.num 0), .any, 0⟩,
  ⟨9, 9, "irq_count", .u32, .ro, .live, (.num 0), .any, 0⟩,
  ⟨10, 10, "aux_errors", .u32, .ro, .live, (.num 0), .any, 0⟩,
  ⟨11, 11, "sink_min_hz", .u16, .ro, .live, (.num 0), .any, 0⟩,
  ⟨12, 12, "sink_max_hz", .u16, .ro, .live, (.num 0), .any, 0⟩,
  ⟨13, 13, "last_change", .u64, .ro, .live, (.num 0), .any, 0⟩]

/-- R308: `head.sink`. -/
def o3003 : List SubEntry := [
  ⟨0, 0, "count", .u8, .const, .live, (.num 4), .any, 0⟩,
  ⟨1, 1, "dpcd", .blob, .ro, .live, .blank, .any, 32⟩,
  ⟨2, 2, "edid", .blob, .ro, .live, .blank, .any, 2048⟩,
  ⟨3, 3, "displayid", .blob, .ro, .live, .blank, .any, 1792⟩,
  ⟨4, 4, "changes", .u32, .ro, .live, (.num 0), .any, 0⟩]

/-- R309: `head.timing_status`. -/
def o3004 : List SubEntry := [
  ⟨0, 0, "count", .u8, .const, .live, (.num 9), .any, 0⟩,
  ⟨1, 1, "timing", .u8, .ro, .live, (.num 0), .any, 0⟩,
  ⟨2, 2, "vt_min", .u16, .ro, .live, (.num 0), .any, 0⟩,
  ⟨3, 3, "vt_max", .u16, .ro, .live, (.num 0), .any, 0⟩,
  ⟨4, 4, "last_vtotal", .u16, .ro, .live, (.num 0), .any, 0⟩,
  ⟨5, 5, "frames", .u64, .ro, .live, (.num 0), .any, 0⟩,
  ⟨6, 6, "repeats", .u32, .ro, .live, (.num 0), .any, 0⟩,
  ⟨7, 7, "reflex_starts", .u32, .ro, .live, (.num 0), .any, 0⟩,
  ⟨8, 8, "clipped", .u64, .ro, .live, (.num 0), .any, 0⟩,
  ⟨9, 9, "mode_state", .u8, .ro, .live, (.num 0), .any, 0⟩]

/-- R310: `head.control`. -/
def o3005 : List SubEntry := [
  ⟨0, 0, "count", .u8, .const, .live, (.num 2), .any, 0⟩,
  ⟨1, 1, "reflex_start_enable", .bool, .rw, .live, (.num 0), .any, 0⟩,
  ⟨2, 2, "retrain", .u8, .wo, .live, .blank, (.only [1]), 0⟩]

/-- R342: `head.commit_config`. -/
def o3006 : List SubEntry := [
  ⟨0, 0, "count", .u8, .const, .live, (.num 6), .any, 0⟩,
  ⟨1, 1, "commit_guard", .u8, .rw, .ring, (.num 4), (.span 1 64), 0⟩,
  ⟨2, 2, "event_set", .u8, .rw, .ring, (.num 1), (.span 0 1), 0⟩,
  ⟨3, 3, "raster_mask", .u8, .rw, .ring, (.num 31), (.span 0 31), 0⟩,
  ⟨4, 4, "line_a", .u16, .rw, .ring, (.num 65535), (.orSpan 65535 0 16382), 0⟩,
  ⟨5, 5, "line_b", .u16, .rw, .ring, (.num 65535), (.orSpan 65535 0 16382), 0⟩,
  ⟨6, 6, "privileged", .bool, .rw, .ring, (.num 0), .any, 0⟩]

/-- R343: `head.commit_status`. -/
def o3007 : List SubEntry := [
  ⟨0, 0, "count", .u8, .const, .live, (.num 15), .any, 0⟩,
  ⟨1, 1, "privileged_effective", .bool, .ro, .live, (.num 0), .any, 0⟩,
  ⟨2, 2, "latched", .u32, .ro, .live, (.num 0), .any, 0⟩,
  ⟨3, 3, "late", .u32, .ro, .live, (.num 0), .any, 0⟩,
  ⟨4, 4, "replaced", .u32, .ro, .live, (.num 0), .any, 0⟩,
  ⟨5, 5, "discarded", .u32, .ro, .live, (.num 0), .any, 0⟩,
  ⟨6, 6, "refused", .u32, .ro, .live, (.num 0), .any, 0⟩,
  ⟨7, 7, "vblanks", .u32, .ro, .live, (.num 0), .any, 0⟩,
  ⟨8, 8, "line_a_matches", .u32, .ro, .live, (.num 0), .any, 0⟩,
  ⟨9, 9, "line_b_matches", .u32, .ro, .live, (.num 0), .any, 0⟩,
  ⟨10, 10, "underrun_lines", .u32, .ro, .live, (.num 0), .any, 0⟩,
  ⟨11, 11, "underrun_frames", .u32, .ro, .live, (.num 0), .any, 0⟩,
  ⟨12, 12, "aborts", .u32, .ro, .live, (.num 0), .any, 0⟩,
  ⟨13, 13, "consecutive_aborts", .u16, .ro, .live, (.num 0), .any, 0⟩,
  ⟨14, 14, "last_underrun_line", .u16, .ro, .live, (.num 65535), .any, 0⟩,
  ⟨15, 15, "last_underrun_time", .u64, .ro, .live, (.num 0), .any, 0⟩]

/-- R344: `head.flip`. -/
def o3008 : List SubEntry := [
  ⟨0, 0, "count", .u8, .const, .live, (.num 5), .any, 0⟩,
  ⟨1, 1, "frame", .u64, .ro, .live, (.num 0), .any, 0⟩,
  ⟨2, 2, "time", .u64, .ro, .live, (.num 0), .any, 0⟩,
  ⟨3, 3, "tag", .u32, .ro, .live, (.num 0), .any, 0⟩,
  ⟨4, 4, "instance", .u8, .ro, .live, (.num 255), .any, 0⟩,
  ⟨5, 5, "status", .u16, .ro, .live, (.num 0), .any, 0⟩]

/-- R374: `head.compose`. -/
def o3009 : List SubEntry := [
  ⟨0, 0, "count", .u8, .const, .live, (.num 6), .any, 0⟩,
  ⟨1, 1, "background", .u32, .ro, .live, (.num 0), (.span 0 1073741823), 0⟩,
  ⟨2, 2, "matrix_enable", .bool, .rw, .ring, (.num 0), .any, 0⟩,
  ⟨3, 3, "matrix", .blob, .rw, .ring, .identity, .any, 48⟩,
  ⟨4, 4, "post_table_enable", .bool, .rw, .ring, (.num 0), .any, 0⟩,
  ⟨5, 5, "post_table", .blob, .rw, .ring, .postTable, .any, 24576⟩,
  ⟨6, 6, "dither", .bool, .rw, .ring, (.num 0), .any, 0⟩]

/-- R375: `head.compose_status`. -/
def o300A : List SubEntry := [
  ⟨0, 0, "count", .u8, .const, .live, (.num 6), .any, 0⟩,
  ⟨1, 1, "fetch_mbs", .u32, .ro, .live, (.num 0), .any, 0⟩,
  ⟨2, 2, "die_fetch_mbs", .u32, .ro, .live, (.num 0), .any, 0⟩,
  ⟨3, 3, "over_budget", .bool, .ro, .live, (.num 0), .any, 0⟩,
  ⟨4, 4, "lead_min_lines", .u16, .ro, .live, (.num 65535), .any, 0⟩,
  ⟨5, 5, "bands", .u64, .ro, .live, (.num 0), .any, 0⟩,
  ⟨6, 6, "pool_used_kib", .u16, .ro, .live, (.num 0), .any, 0⟩]

/-- R376: `layer`. -/
def o4000 : List SubEntry := [
  ⟨0, 0, "count", .u8, .const, .live, (.num 28), .any, 0⟩,
  ⟨1, 1, "head", .u8, .rw, .ring, .headOfDie, .layerHead, 0⟩,
  ⟨2, 2, "enable", .bool, .ro, .live, (.num 0), .any, 0⟩,
  ⟨3, 3, "format", .u8, .ro, .live, (.num 1), .any, 0⟩,
  ⟨4, 4, "z", .u8, .ro, .live, .local, (.span 0 31), 0⟩,
  ⟨5, 5, "plane0_addr", .u64, .ro, .live, (.num 0), .any, 0⟩,
  ⟨6, 6, "plane0_pitch", .u32, .ro, .live, (.num 0), .any, 0⟩,
  ⟨7, 7, "plane1_addr", .u64, .ro, .live, (.num 0), .any, 0⟩,
  ⟨8, 8, "plane1_pitch", .u32, .ro, .live, (.num 0), .any, 0⟩,
  ⟨9, 9, "plane2_addr", .u64, .ro, .live, (.num 0), .any, 0⟩,
  ⟨10, 10, "plane2_pitch", .u32, .ro, .live, (.num 0), .any, 0⟩,
  ⟨11, 11, "src_x", .u16, .ro, .live, (.num 0), .any, 0⟩,
  ⟨12, 12, "src_y", .u16, .ro, .live, (.num 0), .any, 0⟩,
  ⟨13, 13, "src_w", .u16, .ro, .live, (.num 0), .any, 0⟩,
  ⟨14, 14, "src_h", .u16, .ro, .live, (.num 0), .any, 0⟩,
  ⟨15, 15, "dst_x", .i16, .ro, .live, (.num 0), .any, 0⟩,
  ⟨16, 16, "dst_y", .i16, .ro, .live, (.num 0), .any, 0⟩,
  ⟨17, 17, "dst_w", .u16, .ro, .live, (.num 0), .any, 0⟩,
  ⟨18, 18, "dst_h", .u16, .ro, .live, (.num 0), .any, 0⟩,
  ⟨19, 19, "alpha_mode", .u8, .ro, .live, (.num 1), (.span 0 2), 0⟩,
  ⟨20, 20, "global_alpha", .u8, .ro, .live, (.num 255), .any, 0⟩,
  ⟨21, 21, "ycbcr_coeff", .u8, .ro, .live, (.num 1), (.span 0 2), 0⟩,
  ⟨22, 22, "ycbcr_range", .u8, .ro, .live, (.num 0), (.span 0 1), 0⟩,
  ⟨23, 23, "chroma_siting", .u8, .ro, .live, (.num 2), (.span 0 3), 0⟩,
  ⟨24, 24, "filter", .u8, .ro, .live, (.num 0), (.span 0 3), 0⟩,
  ⟨25, 25, "pre_table_enable", .bool, .ro, .live, (.num 0), .any, 0⟩,
  ⟨26, 26, "pre_table", .blob, .ro, .live, .preTable, .any, 6144⟩,
  ⟨27, 27, "filter_coeffs", .blob, .ro, .live, .filterDefault, .any, 1280⟩,
  ⟨28, 28, "fetch_mbs", .u32, .ro, .live, (.num 0), .any, 0⟩]

/-- R377: `sprite`. -/
def o4100 : List SubEntry := [
  ⟨0, 0, "count", .u8, .const, .live, (.num 12), .any, 0⟩,
  ⟨1, 1, "enable", .bool, .ro, .live, (.num 0), .any, 0⟩,
  ⟨2, 2, "format", .u8, .ro, .live, (.num 1), .any, 0⟩,
  ⟨3, 3, "width", .u16, .ro, .live, (.num 0), .any, 0⟩,
  ⟨4, 4, "height", .u16, .ro, .live, (.num 0), .any, 0⟩,
  ⟨5, 5, "dst_x", .i16, .ro, .live, (.num 0), .any, 0⟩,
  ⟨6, 6, "dst_y", .i16, .ro, .live, (.num 0), .any, 0⟩,
  ⟨7, 7, "image0_addr", .u64, .ro, .live, (.num 0), .any, 0⟩,
  ⟨8, 8, "image1_addr", .u64, .ro, .live, (.num 18446744073709551615), .any, 0⟩,
  ⟨9, 9, "pitch", .u32, .ro, .live, (.num 0), .any, 0⟩,
  ⟨10, 10, "alpha_mode", .u8, .ro, .live, (.num 1), (.span 1 2), 0⟩,
  ⟨11, 11, "state", .u8, .rw, .live, (.num 0), (.span 0 3), 0⟩,
  ⟨12, 12, "state_time", .u64, .ro, .live, (.num 0), .any, 0⟩]

/-- R392: `canopy`. -/
def o4200 : List SubEntry := [
  ⟨0, 0, "count", .u8, .const, .live, (.num 16), .any, 0⟩,
  ⟨1, 1, "enable", .bool, .rw, .ring, (.num 0), .any, 0⟩,
  ⟨2, 2, "carve_mib", .u8, .rw, .ring, (.num 12), (.span 0 56), 0⟩,
  ⟨3, 3, "settle_frames", .u8, .rw, .ring, (.num 2), (.span 1 255), 0⟩,
  ⟨4, 4, "events", .bool, .rw, .ring, (.num 0), .any, 0⟩,
  ⟨5, 5, "members", .u32, .rw, .live, (.num 0), .any, 0⟩,
  ⟨6, 6, "state", .u8, .ro, .live, (.num 0), .any, 0⟩,
  ⟨7, 7, "box", .u64, .ro, .live, (.num 0), .any, 0⟩,
  ⟨8, 8, "surface_mbs", .u32, .ro, .live, (.num 0), .any, 0⟩,
  ⟨9, 9, "saved_mbs", .u32, .ro, .live, (.num 0), .any, 0⟩,
  ⟨10, 10, "frames_hit", .u64, .ro, .live, (.num 0), .any, 0⟩,
  ⟨11, 11, "frames_direct", .u64, .ro, .live, (.num 0), .any, 0⟩,
  ⟨12, 12, "hit_permille", .u16, .ro, .live, (.num 0), .any, 0⟩,
  ⟨13, 13, "rebuilds", .u32, .ro, .live, (.num 0), .any, 0⟩,
  ⟨14, 14, "invalidations", .u32, .ro, .live, (.num 0), .any, 0⟩,
  ⟨15, 15, "builds_abandoned", .u32, .ro, .live, (.num 0), .any, 0⟩,
  ⟨16, 16, "last_valid_time", .u64, .ro, .live, (.num 0), .any, 0⟩]

/-- R416: `region`. -/
def o4300 : List SubEntry := [
  ⟨0, 0, "count", .u8, .const, .live, (.num 27), .any, 0⟩,
  ⟨1, 1, "enable", .bool, .rw, .ring, (.num 0), .any, 0⟩,
  ⟨2, 2, "x", .u16, .rw, .ring, (.num 0), .any, 0⟩,
  ⟨3, 3, "y", .u16, .rw, .ring, (.num 0), .any, 0⟩,
  ⟨4, 4, "width", .u16, .rw, .ring, (.num 64), (.span 1 1024), 0⟩,
  ⟨5, 5, "height", .u16, .rw, .ring, (.num 16), (.span 1 256), 0⟩,
  ⟨6, 6, "layer", .u8, .rw, .ring, (.num 255), (.orSpan 255 8 31), 0⟩,
  ⟨7, 7, "action", .u8, .rw, .ring, (.num 1), (.span 0 3), 0⟩,
  ⟨8, 8, "blank_colour", .u32, .rw, .ring, (.num 0), (.span 0 1073741823), 0⟩,
  ⟨9, 9, "hold_frames", .u8, .rw, .ring, (.num 30), (.span 1 255), 0⟩,
  ⟨10, 10, "abort_limit", .u8, .rw, .ring, (.num 3), (.span 1 255), 0⟩,
  ⟨11, 11, "owner_applet", .u8, .rw, .ring, (.num 0), (.span 0 15), 0⟩,
  ⟨12, 12, "format", .u8, .rws, .live, (.num 2), .any, 0⟩,
  ⟨13, 13, "buffer_addr", .u64, .rws, .live, (.num 0), .any, 0⟩,
  ⟨14, 14, "buffer_pitch", .u32, .rws, .live, (.num 0), .any, 0⟩,
  ⟨15, 15, "script", .blob, .rws, .live, .blank, .any, 16384⟩,
  ⟨16, 16, "sprite_permit", .u8, .rws, .live, (.num 0), .any, 0⟩,
  ⟨17, 17, "mask_assets", .blob, .rws, .live, .blank, .any, 32⟩,
  ⟨18, 18, "update", .u8, .rws, .live, (.num 0), (.only [1]), 0⟩,
  ⟨19, 19, "state", .u8, .ro, .live, (.num 0), .any, 0⟩,
  ⟨20, 20, "guard_die", .u8, .ro, .live, (.num 255), .any, 0⟩,
  ⟨21, 21, "main_sig", .u32, .ro, .live, (.num 0), .any, 0⟩,
  ⟨22, 22, "guard_sig", .u32, .ro, .live, (.num 0), .any, 0⟩,
  ⟨23, 23, "matches", .u32, .ro, .live, (.num 0), .any, 0⟩,
  ⟨24, 24, "mismatches", .u32, .ro, .live, (.num 0), .any, 0⟩,
  ⟨25, 25, "consecutive", .u16, .ro, .live, (.num 0), .any, 0⟩,
  ⟨26, 26, "last_mismatch_time", .u64, .ro, .live, (.num 0), .any, 0⟩,
  ⟨27, 27, "updates_latched", .u32, .ro, .live, (.num 0), .any, 0⟩]

/-- R453: `gfx.config`. -/
def o4800 : List SubEntry := [
  ⟨0, 0, "count", .u8, .const, .live, (.num 3), .any, 0⟩,
  ⟨1, 1, "compositor_owner", .u8, .rw, .ring, (.num 0), (.span 0 31), 0⟩,
  ⟨2, 2, "sched_period_us", .u16, .rw, .ring, (.num 2000), (.span 500 20000), 0⟩,
  ⟨3, 3, "abi_version", .u16, .const, .live, .abiVersion, .any, 0⟩]

/-- R454: `gfx.die`. -/
def o4808 : List SubEntry := [
  ⟨0, 0, "count", .u8, .const, .live, (.num 10), .any, 0⟩,
  ⟨1, 1, "clock_mhz", .u16, .ro, .live, .blank, .any, 0⟩,
  ⟨2, 2, "busy_permille", .u16, .ro, .live, (.num 0), .any, 0⟩,
  ⟨3, 3, "passes_binned", .u32, .ro, .live, (.num 0), .any, 0⟩,
  ⟨4, 4, "passes_immediate", .u32, .ro, .live, (.num 0), .any, 0⟩,
  ⟨5, 5, "overflows", .u32, .ro, .live, (.num 0), .any, 0⟩,
  ⟨6, 6, "immediate_fallbacks", .u32, .ro, .live, (.num 0), .any, 0⟩,
  ⟨7, 7, "tiles_written", .u64, .ro, .live, (.num 0), .any, 0⟩,
  ⟨8, 8, "tiles_skipped", .u64, .ro, .live, (.num 0), .any, 0⟩,
  ⟨9, 9, "midshader_preemptions", .u32, .ro, .live, (.num 0), .any, 0⟩,
  ⟨10, 10, "compositor_preemptions", .u32, .ro, .live, (.num 0), .any, 0⟩]

/-- R455: `gfx.context`. -/
def o4820 : List SubEntry := [
  ⟨0, 0, "count", .u8, .const, .live, (.num 8), .any, 0⟩,
  ⟨1, 1, "state", .u8, .ro, .live, (.num 0), .any, 0⟩,
  ⟨2, 2, "job_limit_ms", .u32, .rw, .live, (.num 2000), (.span 0 600000), 0⟩,
  ⟨3, 3, "overflow_events", .bool, .rw, .live, (.num 0), .any, 0⟩,
  ⟨4, 4, "jobs", .u64, .ro, .live, (.num 0), .any, 0⟩,
  ⟨5, 5, "failed", .u32, .ro, .live, (.num 0), .any, 0⟩,
  ⟨6, 6, "busy_ns", .u64, .ro, .live, (.num 0), .any, 0⟩,
  ⟨7, 7, "preemptions", .u32, .ro, .live, (.num 0), .any, 0⟩,
  ⟨8, 8, "last_status", .u16, .ro, .live, (.num 0), .any, 0⟩]

end Sys2Proof.Machine.Objects
end

