-- ==== Sys2Proof/Machine/ObjectsIo.lean ====
section
/-! DEFINITION. Indices 0x6000 to 0x7FFF. The object tables of the parameter directory,
transcribed row by row from the object tables of spec/ (the rule of each table stands in its docstring).
A row reads: first sub, last sub, name, type, access, kind, default, range, largest length of a STR or BLOB. -/
namespace Sys2Proof.Machine.Objects

/-- R482: `electrode`. -/
def o6000 : List SubEntry := [
  ⟨0, 0, "count", .u8, .const, .live, (.num 6), .any, 0⟩,
  ⟨1, 1, "role", .u8, .rw, .ring, (.num 0), (.span 0 3), 0⟩,
  ⟨2, 2, "self_range", .u8, .rw, .ring, (.num 1), (.span 0 1), 0⟩,
  ⟨3, 3, "raw_self", .u16, .ro, .live, (.num 0), .any, 0⟩,
  ⟨4, 4, "baseline_self", .u16, .ro, .live, (.num 0), .any, 0⟩,
  ⟨5, 5, "status", .u8, .ro, .live, (.num 0), .any, 0⟩,
  ⟨6, 6, "saturations", .u32, .ro, .live, (.num 0), .any, 0⟩]

/-- R483: `key_engine`. -/
def o6100 : List SubEntry := [
  ⟨0, 0, "count", .u8, .const, .live, (.num 15), .any, 0⟩,
  ⟨1, 1, "enable", .bool, .rw, .ring, (.num 0), .any, 0⟩,
  ⟨2, 2, "cycle_offset_us", .u8, .rw, .ring, (.num 0), (.span 0 199), 0⟩,
  ⟨3, 3, "quiet_haptic", .u16, .rw, .ring, .quietHaptic, .any, 0⟩,
  ⟨4, 4, "quiet_head", .u8, .rw, .ring, (.num 255), (.orSpan 255 0 15), 0⟩,
  ⟨5, 5, "quiet_line_first", .u16, .rw, .ring, (.num 0), .any, 0⟩,
  ⟨6, 6, "quiet_line_count", .u16, .rw, .ring, (.num 0), .any, 0⟩,
  ⟨7, 7, "water_self_threshold", .u16, .rw, .ring, (.num 200), (.span 1 65535), 0⟩,
  ⟨8, 8, "water_min_electrodes", .u8, .rw, .ring, (.num 3), (.span 2 16), 0⟩,
  ⟨9, 9, "water_clear_cycles", .u16, .rw, .ring, (.num 25), (.span 1 5000), 0⟩,
  ⟨10, 10, "drift_cycles", .u16, .rw, .ring, (.num 50), (.span 1 5000), 0⟩,
  ⟨11, 11, "water", .u8, .ro, .live, (.num 0), .any, 0⟩,
  ⟨12, 12, "wet_electrodes", .u16, .ro, .live, (.num 0), .any, 0⟩,
  ⟨13, 13, "cycles", .u64, .ro, .live, (.num 0), .any, 0⟩,
  ⟨14, 14, "invalid_results", .u32, .ro, .live, (.num 0), .any, 0⟩,
  ⟨15, 15, "recapture", .u8, .wo, .live, .blank, (.only [1]), 0⟩]

/-- R484: `key`. -/
def o6200 : List SubEntry := [
  ⟨0, 0, "count", .u8, .const, .live, (.num 23), .any, 0⟩,
  ⟨1, 1, "enable", .bool, .rw, .ring, (.num 0), .any, 0⟩,
  ⟨2, 2, "tx", .u8, .rw, .ring, (.num 255), (.orSpan 255 0 15), 0⟩,
  ⟨3, 3, "rx", .u8, .rw, .ring, (.num 255), (.orSpan 255 0 15), 0⟩,
  ⟨4, 4, "self_elec", .u8, .rw, .ring, (.num 255), (.orSpan 255 0 15), 0⟩,
  ⟨5, 5, "touch_threshold", .u16, .rw, .ring, (.num 120), (.span 1 32767), 0⟩,
  ⟨6, 6, "release_threshold", .u16, .rw, .ring, (.num 80), .any, 0⟩,
  ⟨7, 7, "self_threshold", .u16, .rw, .ring, (.num 60), .any, 0⟩,
  ⟨8, 8, "press_debounce", .u8, .rw, .ring, (.num 2), (.span 1 8), 0⟩,
  ⟨9, 9, "release_debounce", .u8, .rw, .ring, (.num 2), (.span 1 8), 0⟩,
  ⟨10, 10, "max_hold_s", .u16, .rw, .ring, (.num 30), (.span 0 3600), 0⟩,
  ⟨11, 11, "negative_threshold", .u16, .rw, .ring, (.num 60), (.span 1 32767), 0⟩,
  ⟨12, 12, "presence_margin", .u16, .rw, .ring, (.num 100), .any, 0⟩,
  ⟨13, 13, "ref_mutual", .u16, .rw, .ring, (.num 0), .any, 0⟩,
  ⟨14, 14, "ref_self", .u16, .rw, .ring, (.num 0), .any, 0⟩,
  ⟨15, 15, "wake", .bool, .rw, .ring, (.num 0), .any, 0⟩,
  ⟨16, 16, "state", .u8, .ro, .live, (.num 0), .any, 0⟩,
  ⟨17, 17, "raw_mutual", .u16, .ro, .live, (.num 0), .any, 0⟩,
  ⟨18, 18, "baseline_mutual", .u16, .ro, .live, (.num 0), .any, 0⟩,
  ⟨19, 19, "delta_mutual", .i16, .ro, .live, (.num 0), .any, 0⟩,
  ⟨20, 20, "delta_self", .i16, .ro, .live, (.num 0), .any, 0⟩,
  ⟨21, 21, "presses", .u32, .ro, .live, (.num 0), .any, 0⟩,
  ⟨22, 22, "timeouts", .u32, .ro, .live, (.num 0), .any, 0⟩,
  ⟨23, 23, "last_press_time", .u64, .ro, .live, (.num 0), .any, 0⟩]

/-- R511: `haptic`. -/
def o6400 : List SubEntry := [
  ⟨0, 0, "count", .u8, .const, .live, (.num 35), .any, 0⟩,
  ⟨1, 1, "enable", .bool, .rw, .ring, (.num 0), .any, 0⟩,
  ⟨2, 2, "amp_full_scale_v", .q16, .rw, .ring, (.num 9830400), (.span 65536 26214400), 0⟩,
  ⟨3, 3, "nominal_v", .q16, .rw, .ring, (.num 3932160), .any, 0⟩,
  ⟨4, 4, "peak_limit_v", .q16, .rw, .ring, (.num 6553600), (.span 65536 28835840), 0⟩,
  ⟨5, 5, "max_on_ms", .u16, .rw, .ring, (.num 200), (.span 1 2000), 0⟩,
  ⟨6, 6, "energy_limit_mj", .u32, .rw, .ring, (.num 500), (.span 1 100000), 0⟩,
  ⟨7, 7, "sense_v_fs", .q16, .rw, .ring, (.num 13107200), .any, 0⟩,
  ⟨8, 8, "sense_i_fs", .q16, .rw, .ring, (.num 32768000), .any, 0⟩,
  ⟨9, 9, "c0_nf", .u32, .rw, .ring, (.num 1000), (.span 1 100000), 0⟩,
  ⟨10, 10, "res_nominal_hz", .u16, .rw, .ring, (.num 230), (.span 20 4000), 0⟩,
  ⟨11, 11, "res_min_hz", .u16, .rw, .ring, (.num 150), (.span 20 4000), 0⟩,
  ⟨12, 12, "res_max_hz", .u16, .rw, .ring, (.num 320), (.span 20 4000), 0⟩,
  ⟨13, 13, "track_step_hz", .u16, .rw, .ring, (.num 2), (.span 0 50), 0⟩,
  ⟨14, 14, "brake_stop_ua", .u32, .rw, .ring, (.num 2000), .any, 0⟩,
  ⟨15, 15, "merge_threshold_us", .u16, .rw, .ring, (.num 3000), (.span 0 20000), 0⟩,
  ⟨16, 16, "amp_ready_us", .u16, .rw, .ring, (.num 500), (.span 0 50000), 0⟩,
  ⟨17, 17, "budget", .u8, .rw, .ring, (.num 255), (.orSpan 255 0 7), 0⟩,
  ⟨18, 18, "supply_idle_mw", .u16, .rw, .ring, (.num 0), .any, 0⟩,
  ⟨19, 19, "supply_per_w", .q16, .rw, .ring, (.num 81920), (.span 0 655360), 0⟩,
  ⟨20, 20, "htrig_edge", .u8, .rw, .ring, (.num 0), (.span 0 3), 0⟩,
  ⟨21, 21, "htrig_channel", .u8, .rw, .ring, .ownIndex, (.span 0 15), 0⟩,
  ⟨22, 22, "htrig_effect", .u8, .rw, .ring, (.num 0), (.span 0 255), 0⟩,
  ⟨23, 23, "htrig_rearm_us", .u16, .rw, .ring, (.num 1000), (.span 0 60000), 0⟩,
  ⟨24, 24, "state", .u8, .ro, .live, (.num 0), .any, 0⟩,
  ⟨25, 25, "fault", .u8, .ro, .live, (.num 0), .any, 0⟩,
  ⟨26, 26, "clear", .u8, .wo, .live, .blank, (.only [1]), 0⟩,
  ⟨27, 27, "res_tracked_hz", .q16, .ro, .live, .blank, .any, 0⟩,
  ⟨28, 28, "energy_mj", .u32, .ro, .live, (.num 0), .any, 0⟩,
  ⟨29, 29, "peak_v", .q16, .ro, .live, (.num 0), .any, 0⟩,
  ⟨30, 30, "effects", .u32, .ro, .live, (.num 0), .any, 0⟩,
  ⟨31, 31, "cut_on_time", .u32, .ro, .live, (.num 0), .any, 0⟩,
  ⟨32, 32, "triggers_dropped", .u32, .ro, .live, (.num 0), .any, 0⟩,
  ⟨33, 33, "last_onset_time", .u64, .ro, .live, (.num 0), .any, 0⟩,
  ⟨34, 34, "motional_ref_ua", .u32, .rw, .ring, (.num 0), (.span 0 10000000), 0⟩,
  ⟨35, 35, "motional_ref_learned_ua", .u32, .ro, .live, (.num 0), .any, 0⟩]

/-- R512: `effect`. -/
def o6500 : List SubEntry := [
  ⟨0, 0, "count", .u8, .const, .live, (.num 3), .any, 0⟩,
  ⟨1, 1, "descriptor", .blob, .rw, .ring, .blank, .any, 400⟩,
  ⟨2, 2, "duration_us", .u32, .ro, .live, (.num 0), .any, 0⟩,
  ⟨3, 3, "plays", .u32, .ro, .live, (.num 0), .any, 0⟩]

/-- R513: `reflex`. -/
def o6600 : List SubEntry := [
  ⟨0, 0, "count", .u8, .const, .live, (.num 69), .any, 0⟩,
  ⟨1, 64, "key_action", .u64, .rw, .ring, (.num 0), .any, 0⟩,
  ⟨65, 66, "pin_action", .u64, .rw, .ring, (.num 0), .any, 0⟩,
  ⟨67, 67, "actions", .u32, .ro, .live, (.num 0), .any, 0⟩,
  ⟨68, 68, "dispatch_max_ns", .u32, .ro, .live, (.num 0), .any, 0⟩,
  ⟨69, 69, "dropped", .u32, .ro, .live, (.num 0), .any, 0⟩]

/-- R557: `audio`. -/
def o6800 : List SubEntry := [
  ⟨0, 0, "count", .u8, .const, .live, (.num 8), .any, 0⟩,
  ⟨1, 1, "clock_source", .u8, .rw, .ring, (.num 0), (.span 0 1), 0⟩,
  ⟨2, 2, "ramp_ms", .u8, .rw, .ring, (.num 8), (.span 1 64), 0⟩,
  ⟨3, 3, "section_gating", .bool, .rw, .ring, (.num 1), .any, 0⟩,
  ⟨4, 4, "return_source", .blob, .rw, .ring, (.fill 8 255), .any, 8⟩,
  ⟨5, 5, "clock_state", .u8, .ro, .live, (.num 0), .any, 0⟩,
  ⟨6, 6, "sample_count", .u64, .ro, .live, (.num 0), .any, 0⟩,
  ⟨7, 7, "sample_time", .u64, .ro, .live, (.num 0), .any, 0⟩,
  ⟨8, 8, "sections_gated", .u8, .ro, .live, (.num 0), .any, 0⟩]

/-- R558: `tdm_port`. -/
def o6808 : List SubEntry := [
  ⟨0, 0, "count", .u8, .const, .live, (.num 19), .any, 0⟩,
  ⟨1, 1, "enable", .bool, .rw, .ring, (.num 0), .any, 0⟩,
  ⟨2, 2, "master", .bool, .rw, .ring, (.num 1), .any, 0⟩,
  ⟨3, 3, "fsync_width", .u8, .rw, .ring, (.num 0), (.span 0 1), 0⟩,
  ⟨4, 4, "fsync_delay", .u8, .rw, .ring, (.num 1), (.span 0 1), 0⟩,
  ⟨5, 5, "bclk_edge", .u8, .rw, .ring, (.num 0), (.span 0 1), 0⟩,
  ⟨6, 6, "fsync_invert", .bool, .rw, .ring, (.num 0), .any, 0⟩,
  ⟨7, 7, "amp_control", .u8, .rw, .ring, (.num 0), (.span 0 2), 0⟩,
  ⟨8, 8, "amp_gpio", .u8, .rw, .ring, (.num 255), (.orSpan 255 0 31), 0⟩,
  ⟨9, 9, "amp_slot", .u8, .rw, .ring, (.num 7), (.span 0 7), 0⟩,
  ⟨10, 10, "amp_cmd_on", .u32, .rw, .ring, (.num 1), (.span 0 16777215), 0⟩,
  ⟨11, 11, "amp_cmd_off", .u32, .rw, .ring, (.num 0), (.span 0 16777215), 0⟩,
  ⟨12, 12, "amp_outputs", .u8, .rw, .ring, (.num 255), .any, 0⟩,
  ⟨13, 13, "budget", .u8, .rw, .ring, (.num 255), (.orSpan 255 0 7), 0⟩,
  ⟨14, 14, "supply_on_mw", .u16, .rw, .ring, (.num 0), .any, 0⟩,
  ⟨15, 15, "state", .u8, .ro, .live, (.num 0), .any, 0⟩,
  ⟨16, 16, "amp_on", .bool, .ro, .live, (.num 0), .any, 0⟩,
  ⟨17, 17, "slips", .u32, .ro, .live, (.num 0), .any, 0⟩,
  ⟨18, 18, "amp_switches", .u32, .ro, .live, (.num 0), .any, 0⟩,
  ⟨19, 19, "last_slip_time", .u64, .ro, .live, (.num 0), .any, 0⟩]

/-- R559: `tone`. -/
def o6810 : List SubEntry := [
  ⟨0, 0, "count", .u8, .const, .live, (.num 9), .any, 0⟩,
  ⟨1, 1, "enable", .bool, .rw, .ring, (.num 0), .any, 0⟩,
  ⟨2, 2, "freq_hz", .u16, .rw, .ring, (.num 1000), (.span 20 20000), 0⟩,
  ⟨3, 3, "level", .i16, .rw, .ring, (.num (-200)), (.span (-1200) 0), 0⟩,
  ⟨4, 4, "duration_ms", .u16, .rw, .ring, (.num 40), (.span 1 10000), 0⟩,
  ⟨5, 5, "attack_ms", .u8, .rw, .ring, (.num 2), (.span 1 64), 0⟩,
  ⟨6, 6, "release_ms", .u8, .rw, .ring, (.num 8), (.span 1 64), 0⟩,
  ⟨7, 7, "start", .u8, .wo, .live, .blank, (.only [1]), 0⟩,
  ⟨8, 8, "playing", .bool, .ro, .live, (.num 0), .any, 0⟩,
  ⟨9, 9, "starts", .u32, .ro, .live, (.num 0), .any, 0⟩]

/-- R560: `xp_row`. -/
def o6900 : List SubEntry := [
  ⟨0, 0, "count", .u8, .const, .live, (.num 75), .any, 0⟩,
  ⟨1, 64, "gain", .i16, .rw, .live, .mute, (.orSpan (-32768) (-1200) 120), 0⟩,
  ⟨65, 65, "safe_load", .u64, .wo, .live, .blank, .any, 0⟩,
  ⟨66, 66, "pending", .bool, .ro, .live, (.num 0), .any, 0⟩,
  ⟨67, 67, "active_bank", .u8, .ro, .live, (.num 0), .any, 0⟩,
  ⟨68, 68, "active_gains", .blob, .ro, .live, .blank, .any, 128⟩,
  ⟨69, 69, "preset", .blob, .rw, .ring, .presetMute, .any, 128⟩,
  ⟨70, 70, "silence_threshold", .i16, .rw, .ring, (.num (-700)), (.span (-900) (-400)), 0⟩,
  ⟨71, 71, "silence_hold_ms", .u32, .rw, .ring, (.num 2000), (.span 100 60000), 0⟩,
  ⟨72, 72, "silent", .bool, .ro, .live, (.num 1), .any, 0⟩,
  ⟨73, 73, "peak_dbfs", .i16, .ro, .live, (.num (-1440)), .any, 0⟩,
  ⟨74, 74, "connected", .bool, .ro, .live, .blank, .any, 0⟩,
  ⟨75, 75, "last_swap_time", .u64, .ro, .live, (.num 0), .any, 0⟩]

/-- R561: `xp_output`. -/
def o6A00 : List SubEntry := [
  ⟨0, 0, "count", .u8, .const, .live, (.num 23), .any, 0⟩,
  ⟨1, 1, "eq_enable", .bool, .rw, .ring, (.num 0), .any, 0⟩,
  ⟨2, 2, "eq", .blob, .rw, .ring, (.fill 80 0), .any, 80⟩,
  ⟨3, 3, "limiter_enable", .bool, .rw, .ring, (.num 0), .any, 0⟩,
  ⟨4, 4, "limiter_threshold", .i16, .rw, .ring, (.num (-10)), (.span (-400) 0), 0⟩,
  ⟨5, 5, "limiter_attack_us", .u16, .rw, .ring, (.num 500), (.span 20 10000), 0⟩,
  ⟨6, 6, "limiter_release_ms", .u16, .rw, .ring, (.num 100), (.span 1 5000), 0⟩,
  ⟨7, 7, "delay_us", .u32, .rw, .ring, (.num 0), (.span 0 100000), 0⟩,
  ⟨8, 8, "duck_source", .u8, .rw, .ring, (.num 255), (.orSpan 255 0 127), 0⟩,
  ⟨9, 9, "duck_threshold", .i16, .rw, .ring, (.num (-400)), (.span (-900) 0), 0⟩,
  ⟨10, 10, "duck_depth", .u16, .rw, .ring, (.num 120), (.span 0 1200), 0⟩,
  ⟨11, 11, "duck_attack_ms", .u16, .rw, .ring, (.num 50), (.span 1 5000), 0⟩,
  ⟨12, 12, "duck_release_ms", .u16, .rw, .ring, (.num 500), (.span 1 5000), 0⟩,
  ⟨13, 13, "pilot_enable", .bool, .rw, .ring, (.num 0), .any, 0⟩,
  ⟨14, 14, "silence_threshold", .i16, .rw, .ring, (.num (-700)), (.span (-900) (-400)), 0⟩,
  ⟨15, 15, "silence_hold_ms", .u32, .rw, .ring, (.num 2000), (.span 100 60000), 0⟩,
  ⟨16, 16, "active_bank", .u8, .ro, .live, (.num 0), .any, 0⟩,
  ⟨17, 17, "silent", .bool, .ro, .live, (.num 1), .any, 0⟩,
  ⟨18, 18, "peak_dbfs", .i16, .ro, .live, (.num (-1440)), .any, 0⟩,
  ⟨19, 19, "reduction_db", .i16, .ro, .live, (.num 0), .any, 0⟩,
  ⟨20, 20, "ducking", .bool, .ro, .live, (.num 0), .any, 0⟩,
  ⟨21, 21, "limits", .u32, .ro, .live, (.num 0), .any, 0⟩,
  ⟨22, 22, "connected", .bool, .ro, .live, .blank, .any, 0⟩,
  ⟨23, 23, "pilot_active", .bool, .ro, .live, (.num 0), .any, 0⟩]

/-- R591: `lane`. -/
def o7000 : List SubEntry := [
  ⟨0, 0, "count", .u8, .const, .live, (.num 16), .any, 0⟩,
  ⟨1, 1, "mode", .u8, .rw, .ring, (.num 0), (.span 0 2), 0⟩,
  ⟨2, 2, "bitrate", .u32, .rw, .ring, (.num 1000000), .any, 0⟩,
  ⟨3, 3, "data_rate", .u32, .rw, .ring, (.num 0), .any, 0⟩,
  ⟨4, 4, "parity", .u8, .rw, .ring, (.num 0), (.span 0 2), 0⟩,
  ⟨5, 5, "sample_point", .u16, .rw, .ring, (.num 750), (.span 600 900), 0⟩,
  ⟨6, 6, "gap_bits", .u16, .rw, .ring, (.num 20), (.span 10 1000), 0⟩,
  ⟨7, 7, "xcvr_delay_ns", .u16, .rw, .ring, (.num 150), .any, 0⟩,
  ⟨8, 8, "velocity_permille", .u16, .rw, .ring, (.num 660), (.span 500 990), 0⟩,
  ⟨9, 9, "state", .u8, .ro, .live, (.num 0), .any, 0⟩,
  ⟨10, 10, "utilisation_permille", .u16, .ro, .live, (.num 0), .any, 0⟩,
  ⟨11, 11, "frames_tx", .u32, .ro, .live, (.num 0), .any, 0⟩,
  ⟨12, 12, "frames_rx", .u32, .ro, .live, (.num 0), .any, 0⟩,
  ⟨13, 13, "timeouts", .u32, .ro, .live, (.num 0), .any, 0⟩,
  ⟨14, 14, "framing_errors", .u32, .ro, .live, (.num 0), .any, 0⟩,
  ⟨15, 15, "polls_missed", .u32, .ro, .live, (.num 0), .any, 0⟩,
  ⟨16, 16, "bus_off_count", .u32, .ro, .live, (.num 0), .any, 0⟩]

/-- R592: `partner`. -/
def o7100 : List SubEntry := [
  ⟨0, 0, "count", .u8, .const, .live, (.num 20), .any, 0⟩,
  ⟨1, 1, "enable", .bool, .rw, .ring, (.num 0), .any, 0⟩,
  ⟨2, 2, "poll_period_us", .u32, .rw, .ring, (.num 20000), (.orSpan 0 200 10000000), 0⟩,
  ⟨3, 3, "timeout_us", .u32, .rw, .ring, (.num 0), (.orSpan 0 20 1000000), 0⟩,
  ⟨4, 4, "retries", .u8, .rw, .ring, (.num 2), (.span 0 7), 0⟩,
  ⟨5, 5, "fail_limit", .u8, .rw, .ring, (.num 3), (.span 1 255), 0⟩,
  ⟨6, 6, "recovery_ms", .u32, .rw, .ring, (.num 1000), (.span 10 3600000), 0⟩,
  ⟨7, 7, "alive_check", .bool, .rw, .ring, (.num 1), .any, 0⟩,
  ⟨8, 8, "state", .u8, .ro, .live, (.num 0), .any, 0⟩,
  ⟨9, 9, "descriptor", .blob, .ro, .live, .blank, .any, 280⟩,
  ⟨10, 10, "cyclic_out", .blob, .rw, .live, .blank, .any, 60⟩,
  ⟨11, 11, "cyclic_in", .blob, .ro, .live, .blank, .any, 59⟩,
  ⟨12, 12, "status", .u8, .ro, .live, (.num 0), .any, 0⟩,
  ⟨13, 13, "rtt_ns", .u32, .ro, .live, (.num 0), .any, 0⟩,
  ⟨14, 14, "cable_dm", .u16, .ro, .live, (.num 65535), .any, 0⟩,
  ⟨15, 15, "transactions", .u32, .ro, .live, (.num 0), .any, 0⟩,
  ⟨16, 16, "failures", .u32, .ro, .live, (.num 0), .any, 0⟩,
  ⟨17, 17, "consecutive_failures", .u8, .ro, .live, (.num 0), .any, 0⟩,
  ⟨18, 18, "events", .u32, .ro, .live, (.num 0), .any, 0⟩,
  ⟨19, 19, "last_seen", .u64, .ro, .live, (.num 0), .any, 0⟩,
  ⟨20, 20, "effective_period_us", .u32, .ro, .live, (.num 0), .any, 0⟩]

/-- R593: `group`. -/
def o7900 : List SubEntry := [
  ⟨0, 0, "count", .u8, .const, .live, (.num 12), .any, 0⟩,
  ⟨1, 1, "targets", .blob, .rw, .live, (.fill 256 0), .any, 256⟩,
  ⟨2, 2, "object", .u8, .rw, .live, (.num 1), (.span 1 254), 0⟩,
  ⟨3, 3, "value", .blob, .rw, .live, .blank, .any, 40⟩,
  ⟨4, 4, "start", .u8, .wo, .live, .blank, (.only [1]), 0⟩,
  ⟨5, 5, "timeout_ms", .u32, .rw, .live, (.num 1000), (.span 1 60000), 0⟩,
  ⟨6, 6, "state", .u8, .ro, .live, (.num 0), .any, 0⟩,
  ⟨7, 7, "status", .u16, .ro, .live, (.num 0), .any, 0⟩,
  ⟨8, 8, "results", .blob, .ro, .live, (.fill 1024 0), .any, 1024⟩,
  ⟨9, 9, "done", .u16, .ro, .live, (.num 0), .any, 0⟩,
  ⟨10, 10, "not_done", .u16, .ro, .live, (.num 0), .any, 0⟩,
  ⟨11, 11, "start_time", .u64, .ro, .live, (.num 0), .any, 0⟩,
  ⟨12, 12, "end_time", .u64, .ro, .live, (.num 0), .any, 0⟩]

/-- R606: `lane_check`. -/
def o7A00 : List SubEntry := [
  ⟨0, 0, "count", .u8, .const, .live, (.num 14), .any, 0⟩,
  ⟨1, 1, "width", .u8, .ro, .live, (.num 0), .any, 0⟩,
  ⟨2, 2, "polynomial", .u32, .ro, .live, (.num 0), .any, 0⟩,
  ⟨3, 3, "init", .u32, .ro, .live, (.num 0), .any, 0⟩,
  ⟨4, 4, "reflect", .u8, .ro, .live, (.num 0), .any, 0⟩,
  ⟨5, 5, "xorout", .u32, .ro, .live, (.num 0), .any, 0⟩,
  ⟨6, 6, "running", .u32, .ro, .live, (.num 0), .any, 0⟩,
  ⟨7, 7, "frames_checked", .u32, .ro, .live, (.num 0), .any, 0⟩,
  ⟨8, 8, "crc_errors", .u32, .ro, .live, (.num 0), .any, 0⟩,
  ⟨9, 9, "alive_repeats", .u32, .ro, .live, (.num 0), .any, 0⟩,
  ⟨10, 10, "alive_skips", .u32, .ro, .live, (.num 0), .any, 0⟩,
  ⟨11, 11, "alive_fail_limit", .u8, .rw, .ring, (.num 3), (.span 1 15), 0⟩,
  ⟨12, 12, "events", .bool, .rw, .ring, (.num 0), .any, 0⟩,
  ⟨13, 13, "last_error_time", .u64, .ro, .live, (.num 0), .any, 0⟩,
  ⟨14, 14, "last_alive_partner", .u16, .ro, .live, (.num 65535), .any, 0⟩]

/-- R607: `stream_check`. -/
def o7A40 : List SubEntry := [
  ⟨0, 0, "count", .u8, .const, .live, (.num 12), .any, 0⟩,
  ⟨1, 1, "width", .u8, .rw, .live, (.num 32), (.span 1 32), 0⟩,
  ⟨2, 2, "polynomial", .u32, .rw, .live, (.num 517762881), .any, 0⟩,
  ⟨3, 3, "init", .u32, .rw, .live, (.num 4294967295), .any, 0⟩,
  ⟨4, 4, "reflect", .u8, .rw, .live, (.num 3), (.span 0 3), 0⟩,
  ⟨5, 5, "xorout", .u32, .rw, .live, (.num 4294967295), .any, 0⟩,
  ⟨6, 6, "value_order", .u8, .rw, .live, (.num 0), (.span 0 1), 0⟩,
  ⟨7, 7, "preset", .u8, .wo, .live, .blank, (.span 1 3), 0⟩,
  ⟨8, 8, "running", .u32, .rw, .live, (.num 4294967295), .any, 0⟩,
  ⟨9, 9, "bytes", .u64, .rw, .live, (.num 0), .any, 0⟩,
  ⟨10, 10, "entries", .u32, .ro, .live, (.num 0), .any, 0⟩,
  ⟨11, 11, "check_failures", .u32, .ro, .live, (.num 0), .any, 0⟩,
  ⟨12, 12, "last_value", .u32, .ro, .live, (.num 0), .any, 0⟩]

end Sys2Proof.Machine.Objects
end

