-- ==== Sys2Proof/Machine/ObjectMap.lean ====
section
/-! DEFINITION. The whole object map: which indices exist (R121), what each describes and who is granted it. -/
namespace Sys2Proof.Machine.Objects

/-- The rows of the index range map of R121 held in this part. -/
def deviceMap : List ObjectRow := [
  ⟨0x1001, 1, .device, .readable, .device, "0x1001", o1001⟩,
  ⟨0x1017, 1, .device, .readable, .device, "0x1017", o1017⟩,
  ⟨0x1018, 1, .device, .readable, .device, "0x1018", o1018⟩,
  ⟨0x1F00, 1, .device, .readable, .device, "directory.info", o1F00⟩,
  ⟨0x1F01, 1, .device, .readable, .device, "directory.stats", o1F01⟩,
  ⟨0x1F10, 1, .device, .readable, .device, "0x1F10", o1F10⟩,
  ⟨0x1F11, 1, .device, .readable, .device, "0x1F11", o1F11⟩,
  ⟨0x1F12, 1, .device, .readable, .device, "0x1F12", o1F12⟩,
  ⟨0x1F13, 1, .device, .readable, .device, "0x1F13", o1F13⟩,
  ⟨0x1F14, 1, .device, .readable, .device, "0x1F14", o1F14⟩,
  ⟨0x2000, 1, .device, .readable, .device, "device.identity", o2000⟩,
  ⟨0x2002, 1, .device, .readable, .device, "device.straps", o2002⟩,
  ⟨0x2008, 1, .die, .readable, .die, "die.status", o2008⟩,
  ⟨0x2010, 1, .device, .readable, .device, "time", o2010⟩,
  ⟨0x2100, 1, .device, .readable, .device, "boot.status", o2100⟩,
  ⟨0x2101, 1, .device, .readable, .device, "firmware.image", o2101⟩,
  ⟨0x2102, 1, .device, .readable, .device, "firmware.fuses", o2102⟩,
  ⟨0x2103, 1, .device, .readable, .device, "boot.timing", o2103⟩,
  ⟨0x2104, 1, .device, .none, .device, "boot.recovery_image", o2104⟩,
  ⟨0x2105, 1, .device, .none, .device, "boot.recovery_ring", o2105⟩,
  ⟨0x2106, 1, .device, .none, .device, "boot.recovery_start", o2106⟩,
  ⟨0x2110, 1, .device, .readable, .device, "ring.state", o2110⟩,
  ⟨0x2111, 1, .device, .readable, .device, "ring.draft", o2111⟩,
  ⟨0x2112, 1, .device, .readable, .device, "ring.command", o2112⟩,
  ⟨0x2200, 1, .inst, .ownInstance, .inst, "instance", o2200⟩,
  ⟨0x2220, 1, .device, .readable, .device, "instance_pool", o2220⟩,
  ⟨0x2221, 1, .device, .none, .device, "shed.control", o2221⟩,
  ⟨0x2300, 1, .device, .readable, .device, "0x2300", o2300⟩,
  ⟨0x2301, 1, .device, .readable, .device, "0x2301", o2301⟩,
  ⟨0x2302, 1, .device, .readable, .device, "0x2302", o2302⟩,
  ⟨0x2303, 1, .device, .readable, .device, "0x2303", o2303⟩,
  ⟨0x2304, 1, .device, .readable, .device, "0x2304", o2304⟩,
  ⟨0x2308, 1, .die, .readable, .die, "0x2308+d", o2308⟩,
  ⟨0x2310, 1, .device, .readable, .device, "heartwood", o2310⟩,
  ⟨0x2400, 1, .device, .readable, .device, "power", o2400⟩,
  ⟨0x2408, 1, .die, .readable, .die, "power.die", o2408⟩,
  ⟨0x2410, 1, .device, .readable, .device, "voltage", o2410⟩,
  ⟨0x2500, 1, .device, .readable, .device, "sapflow.config", o2500⟩,
  ⟨0x2501, 1, .device, .readable, .device, "sapflow.status", o2501⟩,
  ⟨0x2508, 1, .die, .readable, .die, "sapflow.die", o2508⟩,
  ⟨0x2510, 1, .board, .readable, .device, "sapflow.board", o2510⟩,
  ⟨0x2600, 1, .device, .readable, .device, "survey.config", o2600⟩,
  ⟨0x2608, 1, .die, .readable, .die, "survey.die", o2608⟩,
  ⟨0x2610, 1, .channel, .readable, .die, "survey.piezo", o2610⟩,
  ⟨0x2620, 1, .xpOutput, .readable, .device, "survey.speaker", o2620⟩,
  ⟨0x2660, 1, .lane, .readable, .lane, "survey.lane", o2660⟩,
  ⟨0x2700, 1, .device, .readable, .device, "health", o2700⟩,
  ⟨0x2708, 1, .die, .readable, .die, "health.die", o2708⟩,
  ⟨0x2710, 1, .device, .readable, .device, "selftest", o2710⟩,
  ⟨0x2718, 1, .die, .readable, .die, "selftest.die", o2718⟩]

/-- The rows of the index range map of R121 held in this part. -/
def displayMap : List ObjectRow := [
  ⟨0x3000, 256, .head, .head, .head, "head.mode", o3000⟩,
  ⟨0x3001, 256, .head, .head, .head, "head.link_config", o3001⟩,
  ⟨0x3002, 256, .head, .head, .head, "head.link_status", o3002⟩,
  ⟨0x3003, 256, .head, .head, .head, "head.sink", o3003⟩,
  ⟨0x3004, 256, .head, .head, .head, "head.timing_status", o3004⟩,
  ⟨0x3005, 256, .head, .head, .head, "head.control", o3005⟩,
  ⟨0x3006, 256, .head, .head, .head, "head.commit_config", o3006⟩,
  ⟨0x3007, 256, .head, .head, .head, "head.commit_status", o3007⟩,
  ⟨0x3008, 256, .head, .head, .head, "head.flip", o3008⟩,
  ⟨0x3009, 256, .head, .head, .head, "head.compose", o3009⟩,
  ⟨0x300A, 256, .head, .head, .head, "head.compose_status", o300A⟩,
  ⟨0x4000, 1, .layer, .layer, .head, "layer", o4000⟩,
  ⟨0x4100, 1, .sprite, .headOf8, .head, "sprite", o4100⟩,
  ⟨0x4200, 1, .head, .canopy, .head, "canopy", o4200⟩,
  ⟨0x4300, 1, .region, .region, .head, "region", o4300⟩,
  ⟨0x4800, 1, .device, .anyContext, .device, "gfx.config", o4800⟩,
  ⟨0x4808, 1, .die, .anyContext, .die, "gfx.die", o4808⟩,
  ⟨0x4820, 1, .context, .context, .die, "gfx.context", o4820⟩,
  ⟨0x48A0, 1, .die, .compositor, .die, "gfx.context", o4820⟩]

/-- The rows of the index range map of R121 held in this part. -/
def ioMap : List ObjectRow := [
  ⟨0x6000, 1, .electrode, .none, .die, "electrode", o6000⟩,
  ⟨0x6100, 1, .die, .none, .die, "key_engine", o6100⟩,
  ⟨0x6200, 1, .key, .key, .die, "key", o6200⟩,
  ⟨0x6400, 1, .channel, .haptic, .die, "haptic", o6400⟩,
  ⟨0x6500, 1, .effect, .readable, .device, "effect", o6500⟩,
  ⟨0x6600, 1, .die, .none, .die, "reflex", o6600⟩,
  ⟨0x6800, 1, .device, .readable, .device, "audio", o6800⟩,
  ⟨0x6808, 1, .die, .readable, .die, "tdm_port", o6808⟩,
  ⟨0x6810, 1, .tone, .readable, .device, "tone", o6810⟩,
  ⟨0x6900, 1, .xpRow, .xpRow, .device, "xp_row", o6900⟩,
  ⟨0x6A00, 1, .xpOutput, .none, .device, "xp_output", o6A00⟩,
  ⟨0x7000, 1, .lane, .lane, .lane, "lane", o7000⟩,
  ⟨0x7100, 1, .partner, .partner, .partner, "partner", o7100⟩,
  ⟨0x7900, 1, .group, .group, .device, "group", o7900⟩,
  ⟨0x7A00, 1, .lane, .laneCheck, .lane, "lane_check", o7A00⟩,
  ⟨0x7A40, 1, .streamUnit, .streamCheck, .die, "stream_check", o7A40⟩]

/-- Every allocated object of the directory (R121). -/
def map : List ObjectRow := deviceMap ++ displayMap ++ ioMap

end Sys2Proof.Machine.Objects
end

