-- ==== Sys2Proof/Machine/Lookup.lean ====
section
/-! DEFINITION. Finding an entry of the directory (R113, R114, R121), its default, its range and its encoding (R115, R116). -/
namespace Sys2Proof.Machine

/-- Key of an entry in a store: index × 256 + sub. -/
def entryKey (idx sub : Nat) : Nat := idx * 256 + sub

/-- The number of the object an index names within a row, if the row covers the index on the largest part. -/
def ObjectRow.number? (o : ObjectRow) (idx : Nat) : Option Nat :=
  if o.base ≤ idx ∧ (idx - o.base) % o.stride = 0 ∧ (idx - o.base) / o.stride < o.cls.count .ux3816
  then some ((idx - o.base) / o.stride) else none

/-- The row and object number of an index (R121). -/
def objectAt (idx : Nat) : Option (ObjectRow × Nat) :=
  Objects.map.findSome? (fun o => (o.number? idx).map (fun k => (o, k)))

/-- The table row of a sub-entry. -/
def ObjectRow.sub? (o : ObjectRow) (sub : Nat) : Option SubEntry := o.subs.find? (fun e => e.lo ≤ sub && sub ≤ e.hi)

/-- An entry as a request finds it: its object, the object's number and its row. -/
structure Found where
  obj : ObjectRow
  num : Nat
  row : SubEntry
deriving DecidableEq, Repr

/-- Check 1 of R123: the index is allocated, the sub exists, and the resource is present on this part.
Sub 0xFF is never an entry (R113). -/
def lookup (p : Part) (idx sub : Nat) : Option Found :=
  match objectAt idx with
  | none => none
  | some (o, k) =>
    if k < o.cls.count p then
      match o.sub? sub with
      | none => none
      | some e => if sub = 0xFF then none else some ⟨o, k, e⟩
    else none

/-- Number of indices of the object map present on a part (0x1F00.02, R144). -/
def objectCount (p : Part) : Nat := (Objects.map.map (fun o => o.cls.count p)).sum

/-- The default of an entry (R120), for the object number k of its row. -/
def defaultOf (p : Part) (g : Grade) (o : ObjectRow) (k : Nat) (e : SubEntry) : Val :=
  match e.dflt with
  | .num v => if o.base = 0x2200 ∧ e.lo = 3 ∧ k = 0 then .num 256 else .num v
  | .blank => match e.ty with
    | .str => .bytes []
    | .blob => .bytes []
    | _ => .num 0
  | .none => match e.ty with
    | .str => .bytes []
    | .blob => .bytes []
    | _ => .num 0
  | .fill n b => .bytes (List.replicate n (BitVec.ofNat 8 b))
  | .partCode => .num p.code
  | .grade => .num (match g with | .commercial => 0 | .industrial => 1)
  | .dies => .num ((2 ^ p.dies - 1 : Nat))
  | .romVersion => .num Config.romVersion.toNat
  | .mapVersion => .num Config.mapVersion.toNat
  | .abiVersion => .num Config.abiVersion.toNat
  | .objectCount => .num (objectCount p)
  | .identity => .bytes (([1, 0, 0, 0, 0, 1, 0, 0, 0, 0, 1, 0] : List Nat).flatMap (fun v => leBytes 4 (v * 65536)))
  | .postTable => .bytes (let c := (List.range 4096).flatMap (fun i => leBytes 2 (16 * i + i / 256)); c ++ c ++ c)
  | .headOfDie => .num ((2 * (k / 32) : Nat))
  | .local => .num ((k % 32 : Nat))
  | .preTable => .bytes (let c := (List.range 1024).flatMap (fun i => leBytes 2 (64 * i + i / 16)); c ++ c ++ c)
  | .filterDefault => .bytes Filter.defaultBytes
  | .quietHaptic => .num ((3 * 2 ^ (2 * k) : Nat))
  | .ownIndex => .num k
  | .mute => .num (-32768)
  | .presetMute => .bytes ((List.replicate 64 ([0x00, 0x80] : List Byte)).flatten)
  | .pkgLimit => .num p.packageQw
  | .tempWarn => .num (match g with | .commercial => 85 | .industrial => 95)

/-- Default of the entry at an index and sub; an entry that does not exist reads as 0. -/
def defaultAt (p : Part) (g : Grade) (idx sub : Nat) : Val :=
  match objectAt idx with
  | none => .num 0
  | some (o, k) => match o.sub? sub with
    | none => .num 0
    | some e => defaultOf p g o k e

/-- Lower end of an entry's range (R116, R127). -/
def SubEntry.minimum (e : SubEntry) (p : Part) (k : Nat) : Int :=
  match e.rng with
  | .any => e.ty.lowest
  | .span lo _ => lo
  | .orSpan x lo _ => min x lo
  | .only xs => xs.foldl min (xs.headD 0)
  | .step _ => 0
  | .stepSpan _ lo _ => lo
  | .layerHead => (2 * (k / 32) : Nat)
  | .pkgLimit => let _ := p; 48
  | .tempWarn => -40

/-- Upper end of an entry's range (R116, R127). -/
def SubEntry.maximum (e : SubEntry) (p : Part) (g : Grade) (k : Nat) : Int :=
  match e.rng with
  | .any => e.ty.highest
  | .span _ hi => hi
  | .orSpan x _ hi => max x hi
  | .only xs => xs.foldl max (xs.headD 0)
  | .step _ => e.ty.highest
  | .stepSpan _ _ hi => hi
  | .layerHead => (2 * (k / 32) + 1 : Nat)
  | .pkgLimit => p.packageQw
  | .tempWarn => match g with | .commercial => 95 | .industrial => 105

/-- Whether a number lies in an entry's range: within its type, and as its table states (R12, R115, R116). -/
def SubEntry.inRange (e : SubEntry) (p : Part) (g : Grade) (k : Nat) (v : Int) : Bool :=
  decide (e.ty.lowest ≤ v ∧ v ≤ e.ty.highest) &&
  match e.rng with
  | .any => true
  | .span lo hi => decide (lo ≤ v ∧ v ≤ hi)
  | .orSpan x lo hi => decide (v = x ∨ (lo ≤ v ∧ v ≤ hi))
  | .only xs => xs.contains v
  | .step m => decide (v % m = 0)
  | .stepSpan m lo hi => decide (v % m = 0 ∧ lo ≤ v ∧ v ≤ hi)
  | .layerHead => decide (e.minimum p k ≤ v ∧ v ≤ e.maximum p g k)
  | .pkgLimit => decide (e.minimum p k ≤ v ∧ v ≤ e.maximum p g k)
  | .tempWarn => decide (e.minimum p k ≤ v ∧ v ≤ e.maximum p g k)

/-- Whether an entry's type is STR or BLOB. -/
def Ty.isBytes : Ty → Bool
  | .str => true | .blob => true | _ => false

/-- R116: whether a data length fits the type: exact for fixed sizes, at most the declared maximum for STR and BLOB. -/
def SubEntry.lengthOk (e : SubEntry) (n : Nat) : Bool :=
  if e.ty.isBytes then decide (n ≤ e.maxLen) else decide (n = e.ty.size)

/-- The value that transport bytes encode for an entry (R115). -/
def SubEntry.decode (e : SubEntry) (bs : List Byte) : Val :=
  if e.ty.isBytes then .bytes bs
  else if e.ty.signed then .num (signedOf (8 * e.ty.size) (leNat bs))
  else .num (leNat bs)

/-- The transport bytes of an entry's value (R115). -/
def SubEntry.encode (e : SubEntry) (v : Val) : List Byte :=
  if e.ty.isBytes then v.toBytes else leBytes e.ty.size (unsignedOf (8 * e.ty.size) v.toInt)

/-- Check 6 of R123 on a value: numbers in range, STR bytes 0x20 to 0x7E (R115). -/
def SubEntry.valueOk (e : SubEntry) (p : Part) (g : Grade) (k : Nat) (v : Val) : Bool :=
  match e.ty with
  | .str => v.toBytes.all (fun b => decide (0x20 ≤ b.toNat ∧ b.toNat ≤ 0x7E))
  | .blob => true
  | _ => e.inRange p g k v.toInt

end Sys2Proof.Machine
end

