-- ==== Sys2Proof/Machine/State.lean ====
section
/-! DEFINITION. The state of the block as plain data, the reasons a step can stop, and the state after reset.
Directory entries live in four stores keyed by index × 256 + sub: `live` (live entries and the latched entries),
`active`, `draft` and the previous ring. An entry that a store does not list reads as its default (R120).
Everything the manual gives the device outside the directory is held by the block structures below. -/
namespace Sys2Proof.Machine

/-- A record of an event ring (R208): the standard payload, or for type 0x0001 the 20 EMCY bytes in `raw`. -/
structure EvRecord where
  type     : Nat
  flags    : Nat := 0
  length   : Nat := 24
  sequence : Nat := 0
  time     : Nat
  resource : Nat := 0
  status   : Nat := 0
  die      : Nat := 0xFF
  reason   : Nat := 0
  detail   : Nat := 0
  raw      : List Byte := []
deriving DecidableEq, Repr

/-- The event ring of an instance page (R197, R206 to R210). `slots` holds the record the device last wrote at each index. -/
structure Evq where
  baseLo     : Nat := 0
  baseHi     : Nat := 0
  config     : Word32 := 0
  moderation : Nat := 0
  head       : Nat := 0
  tail       : Nat := 0
  phase      : Bool := true
  lost       : Bool := false
  sequence   : Nat := 0
  lastIrq    : Option Nat := none
  slots      : Tab EvRecord := []
deriving DecidableEq, Repr

/-- One submission queue of an instance page (R197, R200 to R205). `progress` is what a restored queue has consumed of the audio entry
at its head (R235). -/
structure Sq where
  baseLo       : Nat := 0
  baseHi       : Nat := 0
  config       : Word32 := 0
  target       : Nat := 0
  tail         : Nat := 0
  head         : Nat := 0
  stopped      : Bool := false
  status       : Nat := 0
  progress     : Nat := 0
deriving DecidableEq, Repr

/-- A response of the directory (R167, R168). -/
structure Reply where
  service : Nat
  tag     : Nat := 0
  status  : Nat
  failPos : Nat := 0
  body    : List Byte := []
  moved   : Nat := 0
deriving DecidableEq, Repr

/-- The mailbox of an instance page (R166): a request outstanding, the doorbell recorded while frozen (R231), the response. -/
structure Mailbox where
  vector      : Nat := 0
  outstanding : Bool := false
  ready       : Bool := false
  recorded    : Option (Requester × DirRequest) := none
  response    : Option Reply := none
  request     : Tab Byte := []
deriving DecidableEq, Repr

/-- One MSI-X vector (R198): its table entry and its pending bit. -/
structure MsixVector where
  addrLo  : Nat := 0
  addrHi  : Nat := 0
  data    : Nat := 0
  masked  : Bool := true
  pending : Bool := false
deriving DecidableEq, Repr

/-- Writable registers of a function's configuration space (R193, R196): memory space and bus master enables, base addresses, codes of
Max_Payload_Size and Max_Read_Request_Size, 10-bit tags, ASPM and L1 substate enables, LTR, and in the PF's SR-IOV capability the system page size
and the VFs' base addresses. -/
structure PciConfig where
  memorySpace : Bool := false
  busMaster   : Bool := false
  bar0        : Nat := 0
  bar2        : Nat := 0
  payload     : Nat := 0
  readRequest : Nat := 2
  tag10       : Bool := false
  aspmL1      : Bool := false
  l1Substates : Nat := 0
  ltr         : Bool := false
  pageSize    : Nat := 1
  vfBar0      : Nat := 0
  vfBar2      : Nat := 0
deriving DecidableEq, Repr

/-- The per-instance state outside the directory entries: the instance page (R197), MSI-X, the hold buffer of a frozen
instance (R233) and how many of its records the last SAVE wrote out (R239), the pages mapped and the die whose stack holds each (R212 to R214, R735, log entry 11), configuration registers. -/
structure Inst where
  mbox         : Mailbox := {}
  timeHi       : Nat := 0
  evq          : Evq := {}
  sqs          : Tab Sq := []
  msixEnabled  : Bool := false
  functionMask : Bool := false
  msixSize     : Nat := 0
  vectors      : Tab MsixVector := []
  changeStatus : Nat := 0
  held         : List EvRecord := []
  heldSaved    : Nat := 0
  mapped       : List Nat := []
  d3hot        : Bool := false
  pmeEnable    : Bool := false
  frozenMode   : Nat := 0
  frozenTime   : Nat := 0
  takenFrom    : Option Nat := none
  pageDies     : Tab Nat := []
  pci          : PciConfig := {}
deriving DecidableEq, Repr

/-- An EMCY (R159). -/
structure Emcy where
  code     : Nat
  register : Nat
  health   : Nat
  status   : Nat
  die      : Nat
  cls      : Nat
  resource : Nat
  sequence : Nat
  time     : Nat
deriving DecidableEq, Repr

/-- An open segmented USDO session (R151, R153). -/
structure UsdoSession where
  id       : Nat
  idx      : Nat
  sub      : Nat
  download : Bool
  data     : List Byte := []
  deadline : Nat
deriving DecidableEq, Repr

/-- The management CAN FD port (R146 to R165) outside 0x1F10 and 0x1F11. `failure` is the EMCY 0xFF02 of R697 while it waits: it leaves last. -/
structure Mcan where
  serving        : Bool := false
  sessions       : List UsdoSession := []
  queue          : List Emcy := []
  replacement    : Option Emcy := none
  failure        : Option Emcy := none
  nextSequence   : Nat := 0
  lastEmcy       : Option Nat := none
  heartbeatDue   : Option Nat := none
  repeatDue      : Option Nat := none
  firstRequest   : Option Emcy := none
  tunnelRunning  : Bool := false
  wakeMatched    : Bool := false
  busOff         : Bool := false
deriving DecidableEq, Repr

/-- A ring that the device holds besides the active one (R173, R174). -/
structure HeldRing where
  version : Nat := 0
  label   : List Byte := []
  values  : Tab Val := []
deriving DecidableEq, Repr

/-- A ring commit or return in progress (R180, R183). `asked` names each die sent a prepare and the lowest entry it holds; `waiting` lists the
dies whose answer is awaited. `values`, `version` and `label` are those of the draft as the commit took it (log entry 133). -/
structure RingWork where
  asked     : List (Nat × Nat × Nat) := []
  timeoutS  : Nat := 0
  waiting   : List Nat := []
  decided   : Bool := false
  commitT   : Nat := 0
  cause     : Nat := 0
  timedOut  : List Nat := []
  prepareAt : Nat := 0
  degraded  : Bool := false
  values    : Tab Val := []
  version   : Nat := 0
  label     : List Byte := []
deriving DecidableEq, Repr

/-- A write group accepted by the trunk (R128 to R136). `dies` names, entry by entry, the die that its prepare went to. -/
structure WriteGroup where
  req      : Requester
  entries  : List GroupWrite
  accepted : Nat
  dies     : List Nat := []
  waiting  : List Nat := []
  failPos  : Nat := 0
  failWith : Nat := 0
  sentAt   : Nat := 0
  commitT  : Option Nat := none
  degraded : Bool := false
  silent   : Bool := false
deriving DecidableEq, Repr

/-- A read group given a capture time (R139). -/
structure ReadGroup where
  req      : Requester
  entries  : List GroupRead
  captureT : Nat
deriving DecidableEq, Repr

/-- What a WRITE brings beside its value: nothing, the applet that submits it (R405), or what a host buffer holds and whether its DMA
succeeded (R237). -/
inductive WriteExtra where
  | plain
  | applet (a : Nat)
  | image (bytes : List Byte) (dmaOk : Bool)
deriving DecidableEq, Repr

/-- A request that waits: accepted and waiting for an entry a write group holds (R134), or recorded while its instance was frozen and
due after THAW (R234). A `silent` one is carried out and not answered (R141). -/
structure WaitingRequest where
  req      : Requester
  request  : DirRequest
  accepted : Bool
  silent   : Bool := false
  extra    : WriteExtra := .plain
deriving DecidableEq, Repr

/-- The directory engine on the trunk: the running write group, those waiting (at most 16, R129), read groups, and requests that wait. -/
structure DirEngine where
  running : Option WriteGroup := none
  queued  : List WriteGroup := []
  reads   : List ReadGroup := []
  blocked : List WaitingRequest := []
deriving DecidableEq, Repr

/-- Fuses (R96, R255, R264). Fuses survive every reset. -/
structure Fuses where
  securityCount : Nat := 0
  keysRevoked   : Nat := 0
  debugEnables  : Nat := 0
  debugKey      : Bool := false
  appletHash    : Tab (List Byte) := []
  appletState   : Nat := 0
deriving DecidableEq, Repr

/-- The boot ROM and the boot window of BAR0 (R79 to R105). `resetDriven` says that RESET_N has been low since the last entry into
POWERED (R66); `coordinator` is the die whose Core holds the boot coordination (R98). -/
structure Boot where
  porReleased    : Bool := false
  strapsSampled  : Bool := false
  perstHigh      : Bool := false
  perstOrigin    : Nat := 0
  resetHigh      : Bool := true
  resetRelease   : Nat := 0
  origin         : Nat := 0
  memorySpace    : Bool := false
  ltssm          : Bool := false
  aperturePage   : Nat := 0
  imageLength    : Nat := 0
  ringLength     : Nat := 0
  latchedImage   : Nat := 0
  latchedRing    : Nat := 0
  clearing       : Bool := false
  heldWrites     : List (Nat × List Byte) := []
  recovery       : Option Nat := none
  reachable      : List Nat := []
  awaitingReady  : List Nat := []
  readyDeadline  : Nat := 0
  slotsDone      : List Nat := []
  coresPassed    : List Nat := []
  slotCause      : Option (Nat × Nat × Nat) := none
  coordinator    : Nat := 0
  slotEvents     : List EvRecord := []
  resetDriven    : Bool := false
deriving DecidableEq, Repr

/-- Levels the device drives that no block's own state gives (R54, R68, R71, R78); `gpioKept` holds the GPIO outputs while the bank is
isolated in DEEP_SLEEP (R55), `trstHigh` is the level of TRST_N, which its pull-down holds
low (R77), and `hpd` names the heads whose DPn_HPD the board drives high, also where the device does not sample it (R287). -/
structure Pins where
  svcReqLow  : Bool := false
  pwrenMain  : Bool := true
  pwrenMem   : Bool := true
  mcanStby   : Bool := true
  clkreqLow  : Bool := false
  pcieIdle   : Bool := true
  tdoDriven  : Bool := false
  gpio       : Tab Bool := []
  gpioKept   : Tab Bool := []
  trstHigh   : Bool := false
  hpd        : List Nat := []
deriving DecidableEq, Repr

/-- The slewing of a member's device-time counter (R39): how far it stood from the trunk's at `since`, in ns, and the correction begun there. -/
structure Slew where
  since      : Nat := 0
  skew       : Int := 0
  correction : Int := 0
deriving DecidableEq, Repr

/-- Fabric links and the alignment of member counters (R21 to R24, R39). A key is 16 × lower die + higher die
(plus 256 for the second parallel link of the UX-3804); the value is the state code of R43. `slews` holds the slewing of each member's
counter; `aligned` says that the members have aligned; `kept` holds the link states while DEEP_SLEEP has
the links down (R26); `beaconLast` is when the last beacon was sent (R39) and `ptmLast` when the last PTM exchange was run (R41). -/
structure Fabric where
  links      : Tab Nat := []
  routes     : Tab Nat := []
  slews      : Tab Slew := []
  aligned    : Bool := false
  kept       : Tab Nat := []
  beaconLast : Option Nat := none
  ptmLast    : Option Nat := none
deriving DecidableEq, Repr

/-- Shed control outside 0x2221 (R227 to R240): the command running (its code) and its instance, the end of DRAIN, the image
being saved or restored, the source of a restore, and whether its pages and sections have been applied. -/
structure ShedWork where
  running       : Option Nat := none
  target        : Nat := 0
  drainDeadline : Option Nat := none
  image         : List Byte := []
  sourceInst    : Option Nat := none
  applied       : Bool := false
deriving DecidableEq, Repr

/-- A frame the device sends on MCAN (R146 to R164): a base frame, whether it is an FD frame, and whether its bit rate switches (R147). -/
structure McanFrame where
  identifier : Nat
  data       : List Byte
  fdf        : Bool := true
  brs        : Bool := true
deriving DecidableEq, Repr

/-- Errors reported by AER (R220). -/
inductive AerError where
  | poisoned | completionTimeout | completerAbort | unexpectedCompletion | unsupportedRequest
  | malformedTlp | uncorrectableInternal
deriving DecidableEq, Repr

/-- How a USDO transfer ended (R163): its status, the abort code when it was aborted, and the value returned. Its frames are FD frames (`fdf`),
with bit-rate switching as MCAN has it then (`brs`, R147). -/
structure UsdoAnswer where
  status : Nat
  abort  : Option Nat := none
  body   : List Byte := []
  fdf    : Bool := true
  brs    : Bool := false
deriving DecidableEq, Repr

/-- What the device has sent to the outside, oldest first (log entry 10): MCAN frames, USDO answers, MSI-X messages, AER reports, answers to
management cores, bytes written to host memory, completions of host reads by function, and functions whose access got Unsupported Request. -/
structure Outputs where
  mcan      : List McanFrame := []
  usdo      : List UsdoAnswer := []
  msix      : List (Nat × Nat) := []
  aer       : List (Nat × AerError) := []
  coreReply : List (Nat × World × Reply) := []
  hostData  : List (Nat × Nat × List Byte) := []
  reads     : List (Nat × List Byte) := []
  refused   : List Nat := []
deriving DecidableEq, Repr

/-- Health outside 0x2700 to 0x2718 (R676 to R697). -/
structure HealthWork where
  stopped      : Bool := false
  lending      : Tab Nat := []
  lostClasses  : Tab Nat := []
  succession   : Bool := false
  succHeld     : Tab (List EvRecord) := []
  pendingRail  : Bool := false
  slot         : Option Nat := none
  heartbeat    : Tab Nat := []
  ack          : Tab Nat := []
  noTrunkNext  : Bool := false
deriving DecidableEq, Repr

/-- One management core (R241, R242): world, privilege mode, the causes of the last exceptions, the integer registers at a WCALL, the
service called and the result it leaves for WRET, the mode that took the last exception, whether the call is a resumed one and since when
it runs, whether a fault or a debugger has halted it, the secure interrupts it has taken (R253), its registers as a debugger wrote them
since the halt, its four hardware triggers (R267) with the one selected, and whether it halts again after one instruction; the world and mode
that a secure interrupt suspended (R253), the number of its last halt, which names the free values that its registers then hold, the cause of
that halt and the break bits of dcsr, and what its last load returned (R247). -/
structure CpuCore where
  world   : World := .normal
  mode    : Privilege := .supervisor
  mcause  : Nat := 0
  regs    : Tab Nat := []
  service : Option Nat := none
  result  : Option ServiceResult := none
  trap    : Option Privilege := none
  resumes : Bool := false
  halted  : Bool := false
  scause  : Nat := 0
  callAt  : Nat := 0
  secureTaken : Nat := 0
  debugHalted : Bool := false
  debugRegs   : Tab Nat := []
  triggers    : Tab (Nat × Nat) := []
  trigger     : Nat := 0
  stepping    : Bool := false
  irqFrom     : Option (World × Privilege) := none
  haltKey     : Nat := 0
  haltCause   : Nat := 0
  breaks      : Nat := 0
  loaded      : Option Nat := none
deriving DecidableEq, Repr

/-- A loaded secure applet (R254, R256, R257). -/
structure Applet where
  version   : Nat := 0
  keySlot   : Nat := 0
  dieMask   : Nat := 0
  sramBytes : Nat := 0
  dramBytes : Nat := 0
  entry     : Nat := 0
  claimMask : Nat := 0
  program   : List Byte := []
  faulted   : Bool := false
  suspended : Option Nat := none
  resumes   : Nat := 0
deriving DecidableEq, Repr

/-- A secure claim (R260). -/
structure Claim where
  applet   : Nat
  cls      : Nat
  resource : Nat
deriving DecidableEq, Repr

/-- The debug module (R267, log entry 148): whether it is active, the core selected, the data registers, the error of the last abstract
command, the access size, flags and error of the system bus, its address and data, what the last DMI read captured, its address, the request
to reset the rest, the cores whose resume is acknowledged, and those whose reset has been seen. -/
structure DebugModule where
  active    : Bool := false
  hart      : Nat := 0
  data      : Tab Nat := []
  cmdErr    : Nat := 0
  sbcs      : Nat := 0
  sbError   : Nat := 0
  sbAddress : Nat := 0
  sbData    : Nat := 0
  captured  : Nat := 0
  address   : Nat := 0
  ndmreset  : Bool := false
  resumed   : List Nat := []
  resetSeen : List Nat := []
deriving DecidableEq, Repr

/-- The secure world outside 0x2300 to 0x230F: cores, applets, claims, the permission tables by 4 KiB granule of the device
address space (R246, default NORMAL), the secure entry, the status of the monitor's last claim or keypad service, and the debug port (R264 to R268): `boundary` is what EXTEST drives, `sampled` what was captured.
An event for the applet stands with the attribute word of its delivery (R245, R258). `secureWaiting` secure interrupts wait for a core that
runs. -/
structure Worlds where
  cores      : Tab CpuCore := []
  applets    : Tab Applet := []
  claims     : List Claim := []
  perm       : Tab Nat := []
  entry      : Option KeypadRequest := none
  nextToken  : Nat := 1
  secureIrq  : Nat := 0
  secureWaiting : Nat := 0
  unlocked   : Nat := 0
  challenge  : Option (List Byte) := none
  nonces     : Nat := 0
  jtagIr     : Nat := 1
  jtagDr     : List Byte := []
  boundary   : List Bool := []
  sampled    : List Bool := []
  extest     : Bool := false
  appletEvents : List (Nat × EvRecord) := []
  serviceStatus : Nat := 0
  dm         : DebugModule := {}
deriving DecidableEq, Repr

/-- A regulator command awaiting its acknowledgement (R630, R631). -/
structure VrCommand where
  targetMv : Nat
  oldMv    : Nat
  retried  : Bool := false
deriving DecidableEq, Repr

/-- A transaction on VR_SCL and VR_SDA (R628): address, command code, data. -/
structure PmbusOp where
  address : Nat
  command : Nat
  data    : List Byte
deriving DecidableEq, Repr

/-- Power outside 0x2400 to 0x2410: the handshake, entry and exit in progress (R611 to R623). Device time stands still from `sleepStart` while
DEEP_SLEEP counts CLK32K periods, and `sleepClock` is the physical clock at that moment (R40). -/
structure PowerWork where
  target        : Nat := 0
  secureRequest : Bool := false
  automatic     : Bool := false
  secondQuery   : Bool := false
  delayUntil    : Option Nat := none
  wakeDuring    : Option Nat := none
  wakeLow       : Bool := false
  exitSource    : Nat := 0
  exitFrom      : Nat := 0
  offAfterExit  : Bool := false
  offNotice     : Option Nat := none
  railsWait     : Option Nat := none
  deepAfter     : Option Nat := none
  sleepStart    : Nat := 0
  sleepClock    : Nat := 0
  awake         : List (Nat × Domain) := []
  idleSince     : Tab Nat := []
  idleSpans     : Tab (List (Nat × Nat)) := []
  runBias       : Tab Int := []
  runVr         : Tab Nat := []
  vrExponent    : Tab Int := []
  lastWarning   : Tab Nat := []
  lastFall      : Tab Nat := []
  vr            : Tab VrCommand := []
  pmbus         : List PmbusOp := []
  zeroised      : Bool := false
  pmpme         : Nat := 0
deriving DecidableEq, Repr

/-- Sapflow outside 0x2500 to 0x2517 (R637 to R646). -/
structure SapflowWork where
  calibration   : Bool := false
  canopyWant    : List Nat := []
  canopyGranted : List Nat := []
  lastShedEvent : Option Nat := none
  lastShedLevel : Nat := 0
  overLimit     : List Nat := []
  windowDraw    : Tab Nat := []
  heldBudgets   : List Nat := []
  pausedDies    : List Nat := []
deriving DecidableEq, Repr

/-- Survey outside 0x2600 to 0x269F. Rail and sensor keys are die × 16 + index (R654, R655): the condition is
1 low, 2 high for rails and 1 warn, 2 limit for sensors; `since` is when it was entered, `inside` since when readings
have been within the recovery band. -/
structure Condition where
  state  : Nat := 0
  since  : Nat := 0
  inside : Option Nat := none
  raised : Bool := false
deriving DecidableEq, Repr

/-- Survey work in progress (R657 to R669). -/
structure SurveyWork where
  rails         : Tab Condition := []
  sensors       : Tab Condition := []
  piezoWaiting  : List Nat := []
  piezoRunning  : Tab Nat := []
  pilotWaiting  : List Nat := []
  pilotRunning  : List Nat := []
  margin        : List Nat := []
deriving DecidableEq, Repr

/-- A mode as a head runs it: the values of `head.mode` (R305), or a sink's preferred timing (R293). -/
structure HeadMode where
  pixelKhz : Nat := 148500
  hActive  : Nat := 1920
  hFront   : Nat := 88
  hSync    : Nat := 44
  hBack    : Nat := 148
  vActive  : Nat := 1080
  vFront   : Nat := 4
  vSync    : Nat := 5
  vBack    : Nat := 36
  polarity : Nat := 3
  bpc      : Nat := 8
  adaptive : Bool := false
  refMin   : Nat := 24
  refMax   : Nat := 144
  vtMin    : Nat := 0
  vtMax    : Nat := 0
deriving DecidableEq, Repr

/-- A link configuration: rate code and lanes (R273, R274). -/
structure LinkConfig where
  rate  : Nat
  lanes : Nat
deriving DecidableEq, Repr

/-- A checked commit (R311 to R317, R368): its instance, queue entry, records in ascending order, and the images loaded for its sprites. -/
structure PendingCommit where
  inst       : Nat
  q          : Nat
  tag        : Nat
  completion : Bool
  records    : List (Nat × Nat × Val)
  images     : List (Nat × List (List Byte)) := []
  late       : Bool := false
deriving DecidableEq, Repr

/-- The head-level ring values a head has taken up (R186, R330, R337): commit guard, event set, masks, matches. -/
structure CommitConfig where
  guard      : Nat := 4
  flipSet    : Bool := true
  rasterMask : Nat := 0x1F
  lineA      : Nat := 0xFFFF
  lineB      : Nat := 0xFFFF
  privileged : Bool := false
deriving DecidableEq, Repr

/-- Why a frame starts (R282, R331). -/
inductive FrameKind where
  | fixed | content | repeated | reflex | abort
deriving DecidableEq, Repr

/-- One head outside 0x3h00 to 0x3h0A: link, timing generator, pending and latched commits (R270 to R341). `toLine0` counts
the lines left from a frame start to line 0; `aborting` holds the line of an abort and the line at which its frame start falls; `spread`,
`drive`, `preEmphasis` and `ffe` are the transmitter's down-spread and levels (R271, R288). `nextMode` is the mode a head that runs is to hold
from its next frame start; `reflexStart` is `reflex_start_enable` as the present line sampled it (R310); `latchedCommit` says that a commit has
latched for the next frame (R324); `lineAt` is when the present line began; `joining` names layers that have left the other head and join this
one at its next frame start (R350); `fallbackFlr` says that the fallback colour shown is R217's. -/
structure Head where
  debounce      : Option Nat := none
  connected     : Bool := false
  candidates    : List LinkConfig := []
  attempt       : Nat := 0
  link          : Option LinkConfig := none
  sink          : Option SinkData := none
  lastEdid      : List Byte := []
  mode          : HeadMode := {}
  preferred     : Bool := false
  nextMode      : Option HeadMode := none
  newSize       : Bool := false
  running       : Bool := false
  startPending  : Bool := false
  line          : Nat := 0
  toLine0       : Option Nat := none
  sMin          : Nat := 0
  sMax          : Nat := 0
  ready         : Option (Nat × Bool) := none
  readyCarried  : Bool := false
  latchedNext   : Bool := false
  aborting      : Option (Nat × Nat) := none
  aborted       : Bool := false
  frameTotal    : Nat := 0
  filled        : Nat := 0
  underran      : Bool := false
  underCol      : Option Nat := none
  readyRaised   : Bool := false
  stopping      : Bool := false
  firstCand     : Option LinkConfig := none
  checked       : List PendingCommit := []
  pending       : List PendingCommit := []
  toShow        : List PendingCommit := []
  cfg           : CommitConfig := {}
  uptake        : Bool := false
  fallback      : Option Nat := none
  flrColour     : Option Nat := none
  takeWhole     : Bool := false
  takeLayers    : List Nat := []
  takeArmed     : Bool := false
  hideLayers    : List Nat := []
  pairedTaken   : Bool := false
  dpcd107       : Bool := false
  sinkD3        : Bool := false
  idlePattern   : Bool := false
  lit           : Bool := false
  reflexStart   : Bool := false
  latchedCommit : Bool := false
  lineAt        : Nat := 0
  joining       : List Nat := []
  fallbackFlr   : Bool := false
  spread        : Bool := false
  drive         : Nat := 0
  preEmphasis   : Nat := 0
  ffe           : Nat := 0
deriving DecidableEq, Repr

/-- A band slot of a head's line buffer (R346): the frame and band it holds, whether its composition has ended, and its
composed pixels, 12 bits per component, line by line, and the lines of the Canopy surface that a build writes with it, by their offset (R385). -/
structure BandSlot where
  frame    : Nat
  band     : Nat
  complete : Bool := false
  lines    : List (List (Nat × Nat × Nat)) := []
  surface  : List (Nat × List Byte) := []
deriving DecidableEq, Repr

/-- The composer's work for one head (R345 to R351, R368, R369): the frame being composed and its next band, whether its
composition may begin, the sprite states sampled (key: n + 8 × the frame number's parity), values and images that latched
entries had before (for bands of the earlier frame), the frame from which a fallback colour no longer applies, the frame
that shows the background only (R295), the instance that last latched each layer (key: local number) and sprite (key:
32 + n) and, for bands of the earlier frame, the one before it, the output words of the last line sent, and the sprite carve-out of the
die's stack with the images of the head's sprites (R368). -/
structure Composer where
  decidedFrame : Nat := 0
  latchFrame   : Nat := 0
  nextBand     : Nat := 0
  frameNumber  : Nat := 0
  slots        : List BandSlot := []
  sampled      : Tab Nat := []
  before       : Tab Val := []
  poolBefore   : Tab (List (List Byte)) := []
  clearAt      : Option Nat := none
  bgFrame      : Option Nat := none
  loadedBy     : Tab Nat := []
  lastLine     : List Nat := []
  loadedBefore : Tab Nat := []
  carve        : Tab (List (List Byte)) := []
deriving DecidableEq, Repr

/-- Canopy of one head outside 0x4200 + h (R378 to R391); `bandsWritten` holds the frame and number of each band written to the surface;
`counted` says that the last latch decision has taken a member change which the frame start applies; `validNext` that the next frame is the first
of a new surface; the frames composed from the surface are those from `validFrom` on and before `validUntil`; `surface` is the carve-out, line by
line of the box, each under its offset (R385). -/
structure Canopy where
  settle       : Nat := 0
  change       : Bool := false
  bandsWritten : List (Nat × Nat) := []
  granted      : Bool := false
  spoiled      : Bool := false
  newMembers   : Option Nat := none
  history      : List Bool := []
  counted      : Bool := false
  validNext    : Bool := false
  validFrom    : Option Nat := none
  validUntil   : Option Nat := none
  surface      : Tab (List Byte) := []
deriving DecidableEq, Repr

/-- A content set of a region (R396 to R398). -/
structure ContentSet where
  format       : Nat := 2
  bufferAddr   : Nat := 0
  bufferPitch  : Nat := 0
  script       : List Byte := []
  spritePermit : Nat := 0
  maskAssets   : List Byte := []
deriving DecidableEq, Repr

/-- A region outside 0x4300 + r (R393 to R413): the submitted, pending and latched content sets and the one of the frame now
shown; the frames shown held; the running main-path value and output words of the frame being sent; the main-path signature, words,
frame number and end time of the last complete frame, and the guard's signature of it, whether its comparison is still to be made; the verified copy; whether
the next mismatch is the first (R412); the state that the frame now shown and the next frame were begun in. -/
structure Region where
  submitted   : Option ContentSet := none
  pending     : Option ContentSet := none
  latched     : Option ContentSet := none
  shown       : Option ContentSet := none
  heldFrames  : Nat := 0
  run         : Nat := 0xFFFFFFFF
  tapped      : List (List Nat) := []
  mainSig     : Nat := 0
  captured    : List (List Nat) := []
  frame       : Nat := 0
  doneAt      : Nat := 0
  compareDue  : Bool := false
  verified    : Option (List (List Nat)) := none
  freshEvent  : Bool := true
  shownState  : Nat := 0
  nextState   : Nat := 0
  guardSig    : Nat := 0
deriving DecidableEq, Repr

/-- One die's part of a job (R440, R442): the context it runs on, the time it has held the cores, and its tile lists. -/
structure GfxPart where
  die       : Nat
  ctx       : Nat
  taken     : Bool := false
  ran       : Nat := 0
  binned    : Bool := false
  overflows : Nat := 0
  flushed   : List (Nat × Nat) := []
deriving DecidableEq, Repr

/-- The pass in progress of a job (R426, R428): descriptor, mode, place in the draw stream, bindings, draws issued. -/
structure GfxPass where
  desc     : List Byte
  binned   : Bool
  cursor   : Nat
  ending   : Nat
  pipeline : Option Nat := none
  table    : Option Nat := none
  viewport : List Byte := []
  scissor  : List Byte := []
  draws    : List (List Nat) := []
deriving DecidableEq, Repr

/-- Why a job fails (R447, R450): status, reason, failed dies, pass, offset in the command buffer. -/
structure GfxFailure where
  status : Nat
  reason : Nat
  dies   : Nat := 0
  pass   : Nat := 0
  offset : Nat := 0
deriving DecidableEq, Repr

/-- A job of a context (R420, R421). -/
structure GfxJob where
  inst       : Nat
  q          : Nat
  tag        : Nat
  completion : Bool
  addr       : Nat
  length     : Nat
  parts      : List GfxPart
  passes     : Nat := 0
  index      : Nat := 0
  offset     : Nat := 16
  pass       : Option GfxPass := none
  failure    : Option GfxFailure := none
deriving DecidableEq, Repr

/-- A WAIT that holds its queue (R422, R423). -/
structure GfxWait where
  inst       : Nat
  q          : Nat
  tag        : Nat
  completion : Bool
  addr       : Nat
  value      : Nat
  deadline   : Option Nat
deriving DecidableEq, Repr

/-- A graphics context (R420), keyed by its SQ_TARGET (R419): its job, the home context of a split job it takes part in, its
WAIT, and whether it is pre-empted. -/
structure GfxContext where
  job       : Option GfxJob := none
  guest     : Option Nat := none
  wait      : Option GfxWait := none
  preempted : Bool := false
deriving DecidableEq, Repr

/-- The raster cores of a die (R443, R444): the context running and since when, the budgets of the period in ns, when the
period started, the pre-emption requested, the last context served per instance, and spans of core use in the last 10 ms. -/
structure GfxDie where
  running : Option Nat := none
  since   : Nat := 0
  budgets : Tab Nat := []
  period  : Option Nat := none
  request : Option Nat := none
  last    : Tab Nat := []
  busy    : List (Nat × Nat) := []
deriving DecidableEq, Repr

/-- Graphics outside 0x4800 to 0x48A7. -/
structure Graphics where
  ctxs : Tab GfxContext := []
  dies : Tab GfxDie := []
deriving DecidableEq, Repr

/-- One electrode outside 0x6000 + e (R461, R470, R474, R479): the self reading of the cycle (none when INVALID), the runs
of railed and inside readings, the capture of its self baseline, and its drift count. -/
structure ElectrodeWork where
  reading   : Option Nat := none
  railed    : Nat := 0
  inside    : Nat := 0
  capturing : Bool := false
  capSum    : Nat := 0
  capCount  : Nat := 0
  drift     : Nat := 0
deriving DecidableEq, Repr

/-- One key outside 0x6200 + k (R467 to R474): debounce counts, crossing time, origin of the hold, runs of R472 and R473,
the capture of its mutual baseline, its drift count, whether its capture ends a suspension or an uncovering, the mutual reading
of the cycle, whether its next release is reported to no one, and the old holder until the next cycle (R225). -/
structure KeyWork where
  np        : Nat := 0
  nr        : Nat := 0
  crossing  : Nat := 0
  heldFrom  : Nat := 0
  negative  : Nat := 0
  uncover   : Nat := 0
  capSum    : Nat := 0
  capCount  : Nat := 0
  drift     : Nat := 0
  resuming  : Bool := false
  uncovered : Bool := false
  node      : Option Nat := none
  silent    : Bool := false
  oldHolder : Option Nat := none
deriving DecidableEq, Repr

/-- The key engine of a die (R459 to R477): the start of the cycle in progress, the next phase, the runs of wet and dry
cycles, the quiet-line spans (numerators over the denominator, ns), and when the next wake scan is due. -/
structure KeyDie where
  cycle     : Option Nat := none
  lastStart : Option Nat := none
  nextPhase : Nat := 0
  wetRun    : Nat := 0
  dryRun    : Nat := 0
  quiet     : List (Int × Int × Nat) := []
  wakeDue   : Option Nat := none
deriving DecidableEq, Repr

/-- The keys outside their objects. -/
structure Keys where
  elecs : Tab ElectrodeWork := []
  keys  : Tab KeyWork := []
  dies  : Tab KeyDie := []
deriving DecidableEq, Repr

/-- Who started an effect (R499), in ascending rank. -/
inductive TriggerSource where
  | software | reflex | pin
deriving DecidableEq, Repr

/-- A PLAY entry taken from its queue (R494, R495). -/
structure HapticPlay where
  inst       : Nat
  q          : Nat
  tag        : Nat
  completion : Bool
  effect     : Nat
  scale      : Nat
  startTime  : Nat := 0
  dueAt      : Nat
  late       : Bool := false
  placed     : Bool := true
deriving DecidableEq, Repr

/-- A trigger that reached a channel (R498, R499): effect, scale in per mille, who sent it, and the key or 512 + pin. -/
structure HapticTrigger where
  effect : Nat
  scale  : Nat
  source : TriggerSource
  origin : Nat
deriving DecidableEq, Repr

/-- The stage of a running effect (R492). `ending` is the drive stop 12 µs to 14 µs after braking ends (R501). -/
inductive HapticStage where
  | overdrive | segment (n : Nat) | braking
deriving DecidableEq, Repr

/-- A running effect (R492, R499 to R504): its descriptor at onset, trigger, overdrive level, carrier start, stage and its
end, braking start, the PLAY it belongs to, the clock in which its trigger met the channel, and the carrier phase (in units of
1/`phaseCycle` of a cycle) at a time. -/
structure HapticEffect where
  trigger    : HapticTrigger
  descriptor : List Byte
  level      : Nat
  motionPhase : Bool := false
  onset      : Nat
  stage      : HapticStage
  stageEnd   : Nat
  brakeStart : Nat := 0
  play       : Option HapticPlay := none
  fullDrive  : Bool := false
  largest    : Nat := 0
  triggered  : Nat := 0
  phase      : Nat := 0
  phaseAt    : Nat := 0
deriving DecidableEq, Repr

/-- A haptic channel outside 0x6400 + c (R485 to R510): READY_WAIT's end, the running effect, a held trigger, a PLAY taken,
the announced drive edges, the sensed motion (numerators over 8,388,607 × 65,536 µA), the run of SENSE frames, the energy
blocks of the last second and the block in progress (numerators), the last accepted edge of its pin, when HEN fell, since when an effect may
give the learned reference (R500), HFLTn_N as last known. -/
structure Haptic where
  hen      : Bool := false
  ready    : Option Nat := none
  running  : Option HapticEffect := none
  held     : Option HapticTrigger := none
  play     : Option HapticPlay := none
  edges    : List Nat := []
  lastV    : Option Int := none
  voltage  : Int := 0
  motion   : List Nat := []
  senseRun : Nat := 0
  window   : List Nat := []
  block    : Nat := 0
  blockAt  : Nat := 0
  limited  : Bool := false
  lastEdge : Option Nat := none
  learnFrom : Nat := 0
  idleAt   : Nat := 0
  henFell  : Option Nat := none
  ampLow   : Bool := false
deriving DecidableEq, Repr

/-- A haptic onset as it leaves the ball: channel, effect, overdrive level in per mille, time (R487). -/
structure OnsetRecord where
  channel : Nat
  effect  : Nat
  level   : Nat
  code    : Int
  time    : Nat
deriving DecidableEq, Repr

/-- Reflex parts in flight on the fabric (R517): haptic triggers by channel, sprite operations, tone requests. -/
structure Reflex where
  haptics : List (Nat × HapticTrigger) := []
  sprites : List (Nat × Nat × Nat) := []
  tones   : List Nat := []
deriving DecidableEq, Repr

/-- A BUFFER of an instance stream (R540, R541): its samples, the time it may start, how far it has played,
and the bytes of a sample as queued. -/
structure AudioBuffer where
  inst       : Nat
  q          : Nat
  tag        : Nat
  completion : Bool
  samples    : List Int
  start      : Nat
  late       : Bool := false
  started    : Bool := false
  consumed   : Nat := 0
  size       : Nat := 4
deriving DecidableEq, Repr

/-- A ramp of a gain in dB (R538): its value and its step per sample in 0.1 dB, and its goal (none is mute). -/
structure Ramp where
  value : Rat
  step  : Rat
  goal  : Option Int
deriving DecidableEq, Repr

/-- An instance stream (R541, R229, R234): queued buffers, the sample of this period, the tag of the buffer last played, a
fade to 0 in samples left, whether a buffer plays, a freeze or thaw ramp, whether its position is held, and whether the row
has left its holder. -/
structure AudioStream where
  buffers  : List AudioBuffer := []
  last     : Int := 0
  tag      : Nat := 0
  fade     : Nat := 0
  fadeFrom : Int := 0
  playing  : Bool := false
  ramp     : Option Ramp := none
  held     : Bool := false
  leaving  : Bool := false
deriving DecidableEq, Repr

/-- A crosspoint row outside 0x6900 + i (R536 to R538, R549, R554): the banks (gain by output, unlisted mute), the pending
safe-load (requested time, moment of the write), the end of the bank copy, node ramps by output, whether the row is muted
until its next safe-load, the input's sample, its ramp after a clock's return, its fade, and its silence state: the time of
the last loud sample and the magnitudes of the last 100 ms. -/
structure XpRow where
  bankA     : Tab Int := []
  bankB     : Tab Int := []
  pending   : Option Nat := none
  copyUntil : Nat := 0
  ramps     : Tab Ramp := []
  muted     : Bool := false
  level     : Rat := 0
  ramp      : Option Ramp := none
  fade      : Nat := 0
  fadeFrom  : Rat := 0
  loudAt    : Nat := 0
  peaks     : List Rat := []
deriving DecidableEq, Repr

/-- A crosspoint output outside 0x6A00 + o (R538, R543 to R552): its mute ramp, the delay in force, samples left of an
equaliser ramp, the ducking gain in 0.1 dB and the duck source's magnitudes of the last 10 ms, the limiter's reduction in
0.1 dB, the delay line (newest first), the sample after the delay, the pilot's ramp and its samples so far, the samples
computed and not yet transmitted, and its silence state. -/
structure XpOutput where
  mute      : Option Ramp := none
  delay     : Nat := 0
  eqRamp    : Nat := 0
  duck      : Rat := 0
  duckPeaks : List Rat := []
  reduction : Rat := 0
  line      : List Rat := []
  tap       : Rat := 0
  pilot     : Option Ramp := none
  pilotAt   : Nat := 0
  transmit  : List Int := [0, 0, 0]
  loudAt    : Nat := 0
  peaks     : List Rat := []
deriving DecidableEq, Repr

/-- A tone generator outside 0x6810 + g (R542): whether a request waits, or came in this sample period
to a generator not enabled, samples since the phase was 0, samples since the
last request, the level's ramp, and whether the release runs. -/
structure ToneGen where
  requested : Bool := false
  ignored   : Bool := false
  phase     : Nat := 0
  sinceReq  : Nat := 0
  ramp      : Option Ramp := none
  releasing : Bool := false
deriving DecidableEq, Repr

/-- The audio crosspoint outside its objects (R528 to R555): the clock switch awaited, whether the interrupted period of
R530 is still to be sent, and the samples of the frame being transmitted. -/
structure Audio where
  rows      : Tab XpRow := []
  outputs   : Tab XpOutput := []
  streams   : Tab AudioStream := []
  tones     : Tab ToneGen := []
  switching : Option Nat := none
  lostZero  : Bool := false
  sent      : List (Nat × Int) := []
deriving DecidableEq, Repr

/-- Where a COMMAND or READ came from (R580): a queue entry, or a group slot; `nobody` when its result is
discarded (R217, R586). -/
inductive LaneOrigin where
  | entry (inst q tag : Nat) (completion : Bool) (body : LaneEntry)
  | group (slot : Nat)
  | nobody
deriving DecidableEq, Repr

/-- A request of Ndemi (R568). -/
inductive LaneRequest where
  | discover (page : Nat)
  | poll
  | command (seq object : Nat) (value : List Byte) (origin : LaneOrigin)
  | read (object : Nat) (origin : LaneOrigin)
  | fetch
  | eventAck (seq : Nat)
deriving DecidableEq, Repr

/-- A transaction awaiting its response (R578, R579): attempts left, when the attempt began, when its timeout expires, whether
the next attempt is to be sent, and whether the last attempt's response was discarded for an alive error (R586). -/
structure LaneTransaction where
  partner    : Nat
  request    : LaneRequest
  left       : Nat
  started    : Nat
  deadline   : Nat
  resend     : Bool := false
  aliveError : Bool := false
deriving DecidableEq, Repr

/-- A frame sent on a lane: the identifier on CAN FD, and the bytes (R569, R570). -/
structure SentFrame where
  lane       : Nat
  identifier : Nat
  data       : List Byte
deriving DecidableEq, Repr

/-- A lane outside 0x7000 + n (R578 to R589): the transaction in progress, requests accepted from queues with their
partners, EVENT_ACKs pending (partner, event_seq), group targets pending (slot, partner), when the gap has been served, spans
of the lane's use, discards of R604 not yet reported and the time of the last report, whether polling has stopped, and the
sample offset of each node in steps of 12.5 ns (R665). -/
structure LaneWork where
  current   : Option LaneTransaction := none
  queue     : List (Nat × LaneRequest) := []
  acks      : List (Nat × Nat) := []
  groups    : List (Nat × Nat) := []
  freeAt    : Nat := 0
  wire      : List (Nat × Nat) := []
  crcCount  : Nat := 0
  crcAt     : Option Nat := none
  stopped   : Bool := false
  offsets   : Tab Int := []
deriving DecidableEq, Repr

/-- A partner outside 0x7100 + p (R572, R575 to R582, R587, R597 to R599): the ALIVE value of the next frame sent, the value a
last accepted, the requests m sent since, the consecutive alive errors, whether its descriptor sets ALIVE, the next cmd_seq, the
last event_seq, a FETCH pending, when the next poll is due, the pages read and announced, whether the first page 0 is awaited,
class, vendor and product of the last ONLINE descriptor, the last 64 rtt measurements in 12.5 ns periods, and when the last
discovery or transaction failed (`recovery_ms` runs from there). -/
structure PartnerWork where
  txAlive    : Nat := 0
  rxAlive    : Option Nat := none
  requests   : Nat := 0
  aliveRun   : Nat := 0
  alive      : Bool := false
  cmdSeq     : Nat := 0
  eventSeq   : Option Nat := none
  fetch      : Bool := false
  nextDue    : Nat := 0
  page       : Nat := 0
  pageCount  : Nat := 0
  pages      : List Byte := []
  fresh      : Bool := true
  identity   : Option (Nat × Nat × Nat) := none
  rtts       : List Nat := []
  attempted  : Nat := 0
deriving DecidableEq, Repr

/-- Lanes and partners outside their objects, and the frames sent. -/
structure Lanes where
  lanes    : Tab LaneWork := []
  partners : Tab PartnerWork := []
  sent     : List SentFrame := []
  owners   : Tab Nat := []
deriving DecidableEq, Repr

/-- A started entry of a stream unit (R601): its opcode, its body, the data it feeds and the trailing bytes of a CHECK. -/
structure StreamRun where
  inst       : Nat
  q          : Nat
  tag        : Nat
  completion : Bool
  opcode     : Nat
  body       : StreamEntry
  data       : List Byte
  trailing   : List Byte := []
deriving DecidableEq, Repr

/-- The whole state of the block. -/
structure State where
  pending  : List Instr := []
  now      : Nat := 0
  clock    : Nat := 0
  timeRuns : Bool := false
  part     : Part := .ux3816
  grade    : Grade := .commercial
  free     : Nat := 0
  live     : Tab Val := []
  active   : Tab Val := []
  draft    : Tab Val := []
  taken    : Tab Val := []
  previous : Option HeldRing := none
  mem      : Memory := []
  imem     : Memory := []
  ringWork : Option RingWork := none
  dir      : DirEngine := {}
  fuses    : Fuses := {}
  boot     : Boot := {}
  pins     : Pins := {}
  fabric   : Fabric := {}
  mcan     : Mcan := {}
  insts    : Tab Inst := []
  vfEnable : Bool := false
  numVfs   : Nat := 0
  ari      : Bool := false
  shed     : ShedWork := {}
  worlds   : Worlds := {}
  power    : PowerWork := {}
  sapflow  : SapflowWork := {}
  survey   : SurveyWork := {}
  health   : HealthWork := {}
  heads    : Tab Head := []
  compose  : Tab Composer := []
  canopy   : Tab Canopy := []
  regions  : Tab Region := []
  pool     : Tab (List (List Byte)) := []
  gfx      : Graphics := {}
  keys     : Keys := {}
  haptics  : Tab Haptic := []
  reflex   : Reflex := {}
  onsets   : List OnsetRecord := []
  audio    : Audio := {}
  lanes    : Lanes := {}
  streams  : Tab StreamRun := []
  out      : Outputs := {}
deriving DecidableEq, Repr

/-- Why the machine stops. No command of the manual stops it: every behaviour the manual describes is a next state. -/
inductive Fault where
  /-- Never raised by a command; kept so that the type of reasons is inhabited. Safe. -/
  | unreachable
deriving DecidableEq, Repr

/-- Why a command has no meaning. -/
inductive Refusal where
  /-- Raised by an arm of Dispatch.lean whose command has no meaning yet. Safe: the machine stops. -/
  | notModelled (mnemonic : String)
deriving DecidableEq, Repr

/-- The state after reset: power has just become valid and the internal power-on reset is still held (R54, R57, R79).
Every directory entry reads as its default; boot.status reads POWERED with cause 1 (log entries 4, 5 and 6). -/
def State.reset : State := { live := [(0x210004, .num 1)] }

end Sys2Proof.Machine
end

