-- ==== Sys2Proof/Machine/Attributes.lean ====
section
/-! DEFINITION. The attribute word of a fabric or bus transaction (R27 to R30, R245): the class of the unit, its world, die and instance. -/
namespace Sys2Proof.Machine

/-- Originating unit classes (R27). -/
inductive BusSource where
  | core | host | raster | composer | stream | lane | audio | reflex | bootRom | survey | debug
deriving DecidableEq, Repr

/-- SOURCE (R27). -/
def BusSource.code : BusSource → Nat
  | .core => 0
  | .host => 1
  | .raster => 2
  | .composer => 3
  | .stream => 4
  | .lane => 5
  | .audio => 6
  | .reflex => 7
  | .bootRom => 8
  | .survey => 9
  | .debug => 0xF

/-- WORLD of a unit's transaction (R30, R245): `holds` says that the condition of its row in R245 holds. -/
def BusSource.world (b : BusSource) (holds : Bool) : World :=
  match b with
  | .core => if holds then .secure else .normal
  | .composer => if holds then .secure else .normal
  | .reflex => if holds then .secure else .normal
  | .debug => if holds then .secure else .normal
  | .bootRom => .secure
  | .host => .normal
  | .raster => .normal
  | .stream => .normal
  | .lane => .normal
  | .audio => .normal
  | .survey => .normal

/-- What a transaction carries (R27). -/
structure BusAttr where
  world  : World
  die    : Nat
  inst   : Nat
  source : BusSource
deriving DecidableEq, Repr

/-- INSTANCE of the transactions that the device issues for itself (R27, R29). -/
def ownInstance : Nat := 0x3F

/-- The 16-bit attribute word (R27). -/
def BusAttr.word (a : BusAttr) : Nat :=
  (if a.world = .secure then 0x8000 else 0) + a.die % 8 * 0x1000 + a.inst % 64 * 64 + a.source.code

/-- What a unit's transaction for an instance's queue, job or stream carries (R28, R29): WORLD 0 and the owner's INSTANCE. -/
def BusSource.serving (b : BusSource) (die inst : Nat) : BusAttr := { world := b.world false, die := die, inst := inst, source := b }

/-- What a unit's transaction for the device itself carries (R29): WORLD 0 and INSTANCE 0x3F. -/
def BusSource.own (b : BusSource) (die : Nat) : BusAttr := b.serving die ownInstance

/-- What the host's transaction through function i carries (R28); the endpoint stands on D0. -/
def hostAttr (i : Nat) : BusAttr := BusSource.host.serving 0 i

end Sys2Proof.Machine
end

