-- ==== Sys2Proof/Machine/Ops.lean ====
section
/-! DEFINITION. The named operations every family shares: registers (directory entries), holders of resources, MSI-X,
event rings, EMCYs, health causes, submission queues, replies. Each follows the rule its docstring cites. -/
namespace Sys2Proof.Machine

/-! ### Status codes of R126 -/
namespace Status
abbrev ok : Nat := 0x0000
abbrev pending : Nat := 0x0001
abbrev deniedAccess : Nat := 0x0101
abbrev deniedWorld : Nat := 0x0102
abbrev deniedInstance : Nat := 0x0103
abbrev deniedSecureClaim : Nat := 0x0104
abbrev range : Nat := 0x0201
abbrev typeLength : Nat := 0x0202
abbrev notPresent : Nat := 0x0203
abbrev busy : Nat := 0x0301
abbrev late : Nat := 0x0302
abbrev partly : Nat := 0x0303
abbrev timeout : Nat := 0x0304
abbrev aborted : Nat := 0x0305
abbrev degraded : Nat := 0x0401
abbrev hwFault : Nat := 0x0402
end Status

/-! ### Block structures held by number -/

/-- Instance i's page and buffers. I0's MSI-X table holds 256 vectors (R198). -/
def State.inst (s : State) (i : Nat) : Inst := Tab.getD s.insts i { msixSize := if i = 0 then 256 else 0 }
/-- The configuration space of an instance's function at its reset values (R82, R198). -/
def Inst.configReset (x : Inst) : Inst := { x with msixEnabled := false, functionMask := false, d3hot := false, pmeEnable := false, pci := {} }
/-- Replace instance i's page and buffers. -/
def State.setInst (s : State) (i : Nat) (x : Inst) : State := { s with insts := Tab.put s.insts i x }
/-- Change instance i's page and buffers. -/
def State.modInst (s : State) (i : Nat) (f : Inst → Inst) : State := s.setInst i (f (s.inst i))
/-- Head h. -/
def State.head (s : State) (h : Nat) : Head := Tab.getD s.heads h {}
/-- Change head h. -/
def State.modHead (s : State) (h : Nat) (f : Head → Head) : State := { s with heads := Tab.put s.heads h (f (s.head h)) }
/-- Composer state of head h. -/
def State.comp (s : State) (h : Nat) : Composer := Tab.getD s.compose h {}
/-- Change the composer state of head h. -/
def State.modComp (s : State) (h : Nat) (f : Composer → Composer) : State :=
  { s with compose := Tab.put s.compose h (f (s.comp h)) }
/-- Canopy state of head h. -/
def State.cano (s : State) (h : Nat) : Canopy := Tab.getD s.canopy h {}
/-- Change the Canopy state of head h. -/
def State.modCano (s : State) (h : Nat) (f : Canopy → Canopy) : State :=
  { s with canopy := Tab.put s.canopy h (f (s.cano h)) }
/-- Region r. -/
def State.region (s : State) (r : Nat) : Region := Tab.getD s.regions r {}
/-- Change region r. -/
def State.modRegion (s : State) (r : Nat) (f : Region → Region) : State :=
  { s with regions := Tab.put s.regions r (f (s.region r)) }

/-! ### Directory entries -/

/-- A live entry's value (R120). -/
def State.liveAt (s : State) (i sub : Nat) : Val := Tab.getD s.live (entryKey i sub) (defaultAt s.part s.grade i sub)
/-- A ring entry's value in the active ring. -/
def State.activeAt (s : State) (i sub : Nat) : Val := Tab.getD s.active (entryKey i sub) (defaultAt s.part s.grade i sub)
/-- A ring entry's value in the draft. -/
def State.draftAt (s : State) (i sub : Nat) : Val := Tab.getD s.draft (entryKey i sub) (defaultAt s.part s.grade i sub)
/-- A live register as a number. -/
def State.regI (s : State) (i sub : Nat) : Int := (s.liveAt i sub).toInt
/-- A live register as a natural number. -/
def State.reg (s : State) (i sub : Nat) : Nat := (s.regI i sub).toNat
/-- A live register as bytes. -/
def State.regBytes (s : State) (i sub : Nat) : List Byte := (s.liveAt i sub).toBytes
/-- An active ring value as a number. -/
def State.cfgI (s : State) (i sub : Nat) : Int := (s.activeAt i sub).toInt
/-- An active ring value as a natural number. -/
def State.cfg (s : State) (i sub : Nat) : Nat := (s.cfgI i sub).toNat
/-- An active ring value as bytes. -/
def State.cfgBytes (s : State) (i sub : Nat) : List Byte := (s.activeAt i sub).toBytes
/-- A ring value as the unit that uses it has taken it up (R186). -/
def State.takenAt (s : State) (i sub : Nat) : Val := Tab.getD s.taken (entryKey i sub) (defaultAt s.part s.grade i sub)
/-- A taken-up ring value as an integer. -/
def State.useI (s : State) (i sub : Nat) : Int := (s.takenAt i sub).toInt
/-- A taken-up ring value as a natural number. -/
def State.use (s : State) (i sub : Nat) : Nat := (s.useI i sub).toNat
/-- A taken-up ring value as bytes. -/
def State.useBytes (s : State) (i sub : Nat) : List Byte := (s.takenAt i sub).toBytes
/-- Take up the active values of every entry whose key satisfies a test (R186). -/
def State.takeUpWhere (s : State) (p : Nat → Bool) : State :=
  let kept := s.taken.filter (fun e => !p e.1)
  { s with taken := (s.active.filter (fun e => p e.1)).foldl (fun t e => Tab.put t e.1 e.2) kept }
/-- Take up the active values of every entry whose index satisfies a test (R186). -/
def State.takeUp (s : State) (p : Nat → Bool) : State := s.takeUpWhere (fun k => p (k / 256))
/-- Whether the active values of an index differ from those taken up. -/
def State.changed (s : State) (i : Nat) : Bool :=
  decide (s.active.filter (fun e => e.1 / 256 = i) ≠ s.taken.filter (fun e => e.1 / 256 = i))
/-- Set a live entry. -/
def State.setLive (s : State) (i sub : Nat) (v : Val) : State := { s with live := Tab.put s.live (entryKey i sub) v }
/-- Set a live register to a natural number. -/
def State.setReg (s : State) (i sub v : Nat) : State := s.setLive i sub (.num v)
/-- Set a live register to an integer. -/
def State.setRegI (s : State) (i sub : Nat) (v : Int) : State := s.setLive i sub (.num v)
/-- Set a live register to bytes. -/
def State.setRegBytes (s : State) (i sub : Nat) (v : List Byte) : State := s.setLive i sub (.bytes v)

/-- The width in bits of a numeric entry, for saturating counts. -/
def entryBits (i sub : Nat) : Nat :=
  match objectAt i with
  | none => 32
  | some (o, _) => match o.sub? sub with
    | none => 32
    | some e => 8 * e.ty.size

/-- Add to a saturating counter. -/
def State.count (s : State) (i sub n : Nat) : State := s.setReg i sub (satAdd (entryBits i sub) (s.reg i sub) n)
/-- Add 1 to a saturating counter. -/
def State.inc (s : State) (i sub : Nat) : State := s.count i sub 1
/-- Raise a register to a larger value. -/
def State.raise (s : State) (i sub v : Nat) : State := s.setReg i sub (max (s.reg i sub) v)

/-! ### Time and free values -/

/-- The moment of a due event: device time is at least that moment (log entry 2). -/
def State.arriveAt (s : State) (t : Nat) : State := { s with now := max s.now t, clock := s.clock + (max s.now t - s.now) }
/-- A fresh free value: the counter is advanced (log entry 3). -/
def State.useFree (s : State) : State := { s with free := s.free + 1 }

/-! ### The device as a whole -/

/-- Boot state code (0x2100.01, R79). -/
def State.bootState (s : State) : Nat := s.reg 0x2100 1
/-- The device is OPERATIONAL. -/
def State.operational (s : State) : Bool := s.bootState = 8
/-- Power state code (0x2400.01, R608). -/
def State.powerState (s : State) : Nat := s.reg 0x2400 1
/-- Health state (0x2700.01, R684). -/
def State.healthState (s : State) : Nat := s.reg 0x2700 1
/-- The trunk die (0x2000.04). -/
def State.trunk (s : State) : Nat := s.reg 0x2000 4
/-- Dies present. -/
def State.dies (s : State) : Nat := s.part.dies
/-- The numbers of the dies present. -/
def State.dieList (s : State) : List Nat := List.range s.dies
/-- Core state of a die is ACTIVE (0x2008+d.02). -/
def State.coreActive (s : State) (d : Nat) : Bool := s.reg (0x2008 + d) 2 = 2
/-- Shell of a die is not FAILED (0x2008+d.03). -/
def State.shellUp (s : State) (d : Nat) : Bool := s.reg (0x2008 + d) 3 ≠ 3
/-- The device serves its work: OPERATIONAL, awake and not FAILED. -/
def State.serving (s : State) : Bool := s.operational && decide (s.powerState ≤ 1) && !s.health.stopped

/-! ### Holders of resources (R223, R226) -/

/-- The state code of instance i (0x2200+i.01, R215). -/
def State.instState (s : State) (i : Nat) : Nat := s.reg (0x2200 + i) 1
/-- An instance in FREEZING, FROZEN or RESTORING: what it has started goes on, and nothing new starts (R229, R231). -/
def State.isShed (s : State) (i : Nat) : Bool := decide (4 ≤ s.instState i ∧ s.instState i ≤ 6)

/-- Instance i's assignment bitmap `sub` names resource n; masks are numbers, bitmaps are bytes (R226). -/
def State.assigned (s : State) (i sub n : Nat) : Bool :=
  match s.liveAt (0x2200 + i) sub with
  | .num v => bit v.toNat n
  | .bytes bs => bitmapGet bs n

/-- The instance that holds resource n of an assignment sub: the one of I1 to I31 it is assigned to, else I0 (R223). -/
def State.holderOf (s : State) (sub n : Nat) : Nat :=
  ((List.range 31).map (· + 1)).find? (fun i => s.assigned i sub n) |>.getD 0

/-- Holder of a whole head. -/
def State.headHolder (s : State) (h : Nat) : Nat := s.holderOf 6 h
/-- The head a layer names (`layer.head`, R350). -/
def State.layerHead (s : State) (l : Nat) : Nat := s.use (0x4000 + l) 1
/-- Holder of a layer: by its own bit, or with its whole head. -/
def State.layerHolder (s : State) (l : Nat) : Nat :=
  let i := s.holderOf 7 l
  if i ≠ 0 then i else s.headHolder (s.layerHead l)
/-- Holder of a context slot. -/
def State.contextHolder (s : State) (c : Nat) : Nat := s.holderOf 8 c
/-- Holder of a key. -/
def State.keyHolder (s : State) (k : Nat) : Nat := s.holderOf 0xA k
/-- Holder of a haptic channel. -/
def State.hapticHolder (s : State) (c : Nat) : Nat := s.holderOf 0xB c
/-- Holder of a crosspoint row. -/
def State.rowHolder (s : State) (r : Nat) : Nat := s.holderOf 0xC r
/-- Holder of a whole lane. -/
def State.laneHolder (s : State) (n : Nat) : Nat := s.holderOf 0xD n
/-- Holder of a partner: by its partner range, or with its whole lane. -/
def State.partnerHolder (s : State) (p lane : Nat) : Nat :=
  let i := s.holderOf 0xE p
  if i ≠ 0 then i else s.laneHolder lane
/-- Holder of a group slot. -/
def State.groupHolder (s : State) (g : Nat) : Nat := s.holderOf 0xF g
/-- Holder of a check unit, bit (index − 0x7A00). -/
def State.unitHolder (s : State) (n : Nat) : Nat := s.holderOf 0x10 n

/-! ### MSI-X (R198, R199) and event rings (R206 to R211) -/

/-- Send a vector of instance i (R199): a vector beyond the table, or masked, sets the pending bit and sends nothing. With the function's MSI-X
disabled nothing is sent and no pending bit is set; the spec does not speak of that case (DESIGN CHOICE, log entry 177). -/
def State.sendVector (s : State) (i v : Nat) : State :=
  let x := s.inst i
  if !x.msixEnabled then s
  else
    let e := Tab.getD x.vectors v {}
    if x.msixSize ≤ v ∨ e.masked ∨ x.functionMask then
      s.setInst i { x with vectors := Tab.put x.vectors v { e with pending := true } }
    else { s with out := { s.out with msix := s.out.msix ++ [(i, v)] } }

/-- ENABLE of an event ring (EVQ_CONFIG bit 31). -/
def Evq.enabled (e : Evq) : Bool := e.config.getLsbD 31
/-- Size of an event ring in records: 64 × 2^s, s in bits 19:16. -/
def Evq.size (e : Evq) : Nat := 64 * 2 ^ bits e.config.toNat 19 16
/-- Base address of an event ring. -/
def Evq.base (e : Evq) : Nat := e.baseHi * 2 ^ 32 + e.baseLo
/-- MSI-X vector of an event ring. -/
def Evq.vector (e : Evq) : Nat := bits e.config.toNat 10 0
/-- The ring is full when EVQ_TAIL + 1 equals EVQ_HEAD modulo the size (R206). -/
def Evq.full (e : Evq) : Bool := (e.tail + 1) % e.size = e.head

/-- Layout of a record in memory (R208). -/
def EvRecord.encode (r : EvRecord) : List Byte :=
  leBytes 2 r.type ++ leBytes 1 r.flags ++ leBytes 1 r.length ++ leBytes 4 r.sequence ++
  (if r.type = 1 then r.raw ++ leBytes 4 0
   else leBytes 8 r.time ++ leBytes 2 r.resource ++ leBytes 2 r.status ++ leBytes 1 r.die ++ leBytes 1 r.reason ++
     leBytes 2 0 ++ leBytes 8 r.detail)

/-- Key of an instance device address in the instances' memory: instance × 2^40 + IDA (R212). -/
def idaKey (i a : Nat) : Nat := i * 2 ^ 40 + a

/-- Pages of 64 KiB that n bytes from an IDA touch. -/
def pagesOf (a n : Nat) : List Nat := if n = 0 then [] else (List.range ((a + n - 1) / 65536 + 1 - a / 65536)).map (· + a / 65536)

/-- Quota of instance i in bytes (R213). -/
def State.quota (s : State) (i : Nat) : Nat := s.reg (0x2200 + i) 4 * 1048576

/-- n bytes from an IDA lie below the quota (R212). -/
def State.belowQuota (s : State) (i a n : Nat) : Bool := decide (a + n ≤ s.quota i)

/-- The stack in which the runtime places a page: one that `memory_stacks` permits and whose Shell is in service (R735); none when no stack is. -/
def State.stackFor (s : State) (i p : Nat) : Option Nat :=
  let ds := s.dieList.filter (fun d => bit (s.reg (0x2200 + i) 5) d && s.shellUp d)
  ds[Config.pageStack i p % ds.length]?

/-- A page of instance i is mapped, or the runtime maps it when it is first reached (R212, R735, log entry 11). -/
def State.pageReached (s : State) (i p : Nat) : Bool := (s.inst i).mapped.contains p || (Config.pageGiven i p && (s.stackFor i p).isSome)

/-- An access of n bytes at an IDA translates: below the quota and to mapped pages (R212). -/
def State.idaOk (s : State) (i a n : Nat) : Bool := s.belowQuota i a n && (pagesOf a n).all (s.pageReached i)

/-- Map the pages of a list that are not mapped yet. -/
def State.mapPages (s : State) (i : Nat) (ps : List Nat) : State :=
  let new := ps.filter (fun p => !(s.inst i).mapped.contains p)
  s.modInst i (fun x => { x with mapped := x.mapped ++ new,
                                 pageDies := new.foldl (fun (t : Tab Nat) p => Tab.put t p ((s.stackFor i p).getD 0)) x.pageDies })

/-- Device units write an instance's memory: not while it is FROZEN or RESTORING (R231). Work that R229 lets end in FREEZING still writes (log
entry 141). -/
def State.unitsWrite (s : State) (i : Nat) : Bool := decide (s.instState i ≠ 5 ∧ s.instState i ≠ 6)

/-- A transaction writes bytes at an IDA of the instance its attribute word names (R28, R29); the runtime maps the pages touched (log entry 11).
A refused write is dropped (R212). -/
def State.writeIda (s : State) (at' : BusAttr) (a : Nat) (bs : List Byte) : State :=
  let i := at'.inst
  if s.unitsWrite i && s.idaOk i a bs.length then { s.mapPages i (pagesOf a bs.length) with imem := s.imem.writeBytes (idaKey i a) bs } else s

/-- A transaction reads bytes at an IDA of the instance its attribute word names (R28, R29); a refused read returns zeros (R212). -/
def State.readIda (s : State) (at' : BusAttr) (a n : Nat) : List Byte :=
  let i := at'.inst
  if s.idaOk i a n then s.imem.readBytes (idaKey i a) n else List.replicate n 0

/-- Write the record an enabled ring with room takes next, then apply R209. -/
def State.ringWrite (s : State) (i : Nat) (r : EvRecord) : State :=
  let x := s.inst i
  let q := x.evq
  let rec1 : EvRecord := { r with flags := ofBool q.phase + 2 * ofBool q.lost, sequence := q.sequence }
  let t := (q.tail + 1) % q.size
  let due : Bool := decide (q.head = q.tail) || decide (q.moderation = 0) ||
    (match q.lastIrq with | none => true | some l => decide (l + us q.moderation ≤ s.now))
  let q1 : Evq := { q with
    slots := Tab.put q.slots q.tail rec1, tail := t, phase := if t = 0 then !q.phase else q.phase, lost := false,
    sequence := (q.sequence + 1) % 2 ^ 32, lastIrq := if due then some s.now else q.lastIrq }
  let s1 := s.setInst i { x with evq := q1 }
  let s2 := if q.config.getLsbD 30 then s1.writeIda (BusSource.core.serving s.trunk i) (q.base + 32 * q.tail) rec1.encode else s1
  if due then s2.sendVector i q.vector else s2

/-- A record the ring cannot take is dropped, counted in `events_lost`, and marks the next record (R210). -/
def State.dropRecord (s : State) (i : Nat) : State :=
  (s.modInst i (fun x => { x with evq := { x.evq with lost := true } })).inc (0x2200 + i) 0x12

/-- Write a record to instance i's ring, or to the hold buffer of a frozen instance (R233) or of a trunk succession (R692);
512 records at most are held, in a succession by each die. In FAILED, and before OPERATIONAL, no event is written (R697, R79). -/
def State.deliver (s : State) (i : Nat) (r : EvRecord) : State :=
  let x := s.inst i
  if s.health.stopped ∨ !s.operational then s
  else if s.health.succession then
    let h := Tab.getD s.health.succHeld i []
    if (h.filter (fun x => decide (x.die = r.die))).length < 512 then { s with health := { s.health with succHeld := Tab.put s.health.succHeld i (h ++ [r]) } }
    else s.dropRecord i
  else if s.isShed i then
    if x.held.length < 512 then s.setInst i { x with held := x.held ++ [r] } else s.dropRecord i
  else if x.evq.enabled ∧ !x.evq.full then s.ringWrite i r
  else s.dropRecord i

/-- Source rank of an event type (R709), 1 the first. -/
def eventRank (t : Nat) : Nat :=
  if 0x98 ≤ t ∧ t ≤ 0x9A then 1 else if t = 1 then 2 else if 0x90 ≤ t ∧ t ≤ 0x92 then 3 else if 0x9E ≤ t ∧ t ≤ 0x9F then 4
  else if 0x40 ≤ t ∧ t ≤ 0x4F then 5 else if 0x30 ≤ t ∧ t ≤ 0x3F then 6 else if 0x20 ≤ t ∧ t ≤ 0x2F then 7
  else if 0x10 ≤ t ∧ t ≤ 0x1F then 8 else if 0x50 ≤ t ∧ t ≤ 0x5F then 9 else if 0x60 ≤ t ∧ t ≤ 0x6F then 10
  else if 0x70 ≤ t ∧ t ≤ 0x7F then 11 else if 0x80 ≤ t ∧ t ≤ 0x8F then 12 else if t = 2 then 13
  else if 3 ≤ t ∧ t ≤ 6 then 14 else if 0x93 ≤ t ∧ t ≤ 0x97 then 15 else 16

/-- The keys of the event order (R708). `first` is the sequence of a record written before both, from which write order counts. -/
def EvRecord.orderKey (r : EvRecord) (first : Nat) : List Nat :=
  [r.time, eventRank r.type, r.type, r.resource, (r.sequence + 2 ^ 32 - first) % 2 ^ 32]
/-- One record precedes another in the event order of their ring (R708), which need not be the order they were written in (R211). -/
def EvRecord.before (a b : EvRecord) (first : Nat) : Bool := decide (a.orderKey first < b.orderKey first)

/-- Write records in order. -/
def State.deliverAll (s : State) (i : Nat) : List EvRecord → State
  | [] => s
  | r :: rs => (s.deliver i r).deliverAll i rs

/-- A record with the standard payload (R208), stamped now. -/
def State.record (s : State) (type resource status die reason detail : Nat) : EvRecord :=
  { type := type, time := s.now, resource := resource, status := status, die := die, reason := reason, detail := detail }

/-- Write an event for instance i. -/
def State.event (s : State) (i type resource status die reason detail : Nat) : State :=
  s.deliver i (s.record type resource status die reason detail)

/-- Apply an operation for each number of a list, in order. -/
def State.each (s : State) : List Nat → (State → Nat → State) → State
  | [], _ => s
  | n :: ns, f => (f s n).each ns f

/-- Write an event to every instance whose event ring is enabled. -/
def State.eventAll (s : State) (type resource status die reason detail : Nat) : State :=
  s.each ((List.range 32).filter (fun i => (s.inst i).evq.enabled))
    (fun t i => t.event i type resource status die reason detail)

/-! ### EMCY (R159 to R162) and health (R683 to R685) -/

/-- The 20 bytes of an EMCY (R159). -/
def Emcy.bytes (e : Emcy) : List Byte :=
  leBytes 2 e.code ++ leBytes 1 e.register ++ leBytes 1 e.health ++ leBytes 2 e.status ++ leBytes 1 e.die ++
  leBytes 1 e.cls ++ leBytes 2 e.resource ++ leBytes 2 e.sequence ++ leBytes 8 e.time

/-- Queue an EMCY: 0xFF01 takes the replacement slot, 0xFF02 is sent last (R697); a sixteenth ordinary one is dropped and counted (R161).
The copy of R162 is written for I0 in every case. -/
def State.queueEmcy (s : State) (e : Emcy) : State :=
  let m := s.mcan
  let full := m.queue.length ≥ 15
  let m1 : Mcan := { m with nextSequence := (m.nextSequence + 1) % 65536 }
  let m2 : Mcan :=
    if e.code = 0xFF01 then { m1 with replacement := some e }
    else if e.code = 0xFF02 then { m1 with failure := some e }
    else if full then m1 else { m1 with queue := m1.queue ++ [e] }
  let s1 : State := { s with mcan := m2 }
  let s2 := if e.code ≠ 0xFF01 ∧ e.code ≠ 0xFF02 ∧ full then s1.inc 0x1F11 5 else s1
  s2.deliver 0 { type := 1, length := 20, time := e.time, resource := e.resource, raw := e.bytes }

/-- Raise an EMCY with the present error register and health (R159). -/
def State.raiseEmcy (s : State) (code status die cls resource : Nat) : State :=
  s.queueEmcy { code := code, register := s.reg 0x1001 0, health := s.healthState, status := status, die := die, cls := cls,
                resource := resource, sequence := s.mcan.nextSequence, time := s.now }

/-- The error register with a bit changed; bit 0 (generic) is set while any other bit is (R160). -/
def errorRegister (v n : Nat) (b : Bool) : Nat :=
  let w := setBit (setBit v 0 false) n b
  if w = 0 then 0 else w + 1

/-- Set a bit of 0x1001. -/
def State.errorBit (s : State) (n : Nat) : State := s.setReg 0x1001 0 (errorRegister (s.reg 0x1001 0) n true)
/-- Clear a bit of 0x1001; EMCY 0x0000 when the register returns to 0 (R159). -/
def State.clearErrorBit (s : State) (n : Nat) : State :=
  let v := errorRegister (s.reg 0x1001 0) n false
  let s1 := s.setReg 0x1001 0 v
  if v = 0 ∧ s.reg 0x1001 0 ≠ 0 then s1.raiseEmcy 0 Status.ok 0xFF 0 0 else s1

/-- Drive SVC_REQ_N low and show it (R685, 0x2700.05). -/
def State.driveSvc (s : State) : State := { s with pins := { s.pins with svcReqLow := true } }.setReg 0x2700 5 1

/-- Resource of a HEALTH event: the die, or 0xFFFF (R698). -/
def healthDie (die : Nat) : Nat := if die = 0xFF then 0xFFFF else die

/-- A cause of R683: in HEALTHY, the replacement request of R685; later causes are recorded with a HEALTH event (R684).
In FAILED nothing changes. -/
def State.cause (s : State) (c die cls resource : Nat) : State :=
  if s.healthState = 2 then s
  else
    let s1 := s.setReg 0x2700 2 (setBit (s.reg 0x2700 2) c true)
    if s.healthState = 0 then
      let s2 := ((((s1.setReg 0x2700 1 1).setReg 0x2700 3 c).setReg 0x2700 4 s.now).driveSvc).errorBit 7
      let s3 := s2.raiseEmcy 0xFF01 Status.degraded die cls resource
      let due : Option Nat := if s3.cfg 0x1F10 0xA = 0 then none else some (s3.now + sec (s3.cfg 0x1F10 0xA))
      let s4 : State := { s3 with mcan := { s3.mcan with firstRequest := s3.mcan.replacement, repeatDue := due } }
      s4.eventAll 0x0098 (healthDie die) Status.degraded die c (1 + 256 * cls + 65536 * resource)
    else s1.eventAll 0x0098 (healthDie die) Status.degraded die c (1 + 256 * cls + 65536 * resource)

/-! ### Submission queues (R200 to R205) -/

/-- Queue q of instance i. -/
def State.sq (s : State) (i q : Nat) : Sq := Tab.getD (s.inst i).sqs q {}
/-- Change queue q of instance i. -/
def State.modSq (s : State) (i q : Nat) (f : Sq → Sq) : State :=
  s.modInst i (fun x => { x with sqs := Tab.put x.sqs q (f (Tab.getD x.sqs q {})) })
/-- ENABLE of a queue (SQ_CONFIG bit 31). -/
def Sq.enabled (q : Sq) : Bool := q.config.getLsbD 31
/-- Queue type (SQ_CONFIG 23:16, R202). -/
def Sq.type (q : Sq) : Nat := bits q.config.toNat 23 16
/-- Entries of a queue: 16 × 2^s, s in bits 15:12. -/
def Sq.size (q : Sq) : Nat := 16 * 2 ^ bits q.config.toNat 15 12

/-- Stop a queue: STOPPED, SQ_STATUS and a QUEUE_ERROR event (R204). -/
def State.stopQueue (s : State) (i q status : Nat) : State :=
  (s.modSq i q (fun x => { x with stopped := true, status := status })).event i 0x0005 q status 0xFF 0 0

/-- Base address of a queue. -/
def Sq.base (q : Sq) : Nat := q.baseHi * 2 ^ 32 + q.baseLo

/-- A queue of a type fetches: the instance is ACTIVE, the queue enabled, running and not empty. -/
def State.fetchOpen (s : State) (e : Entry) (type : Nat) : Bool :=
  let q := s.sq e.inst e.q
  s.serving && !s.health.succession && decide (s.reg 0x2400 3 ≠ 2) && decide (s.instState e.inst = 1) && q.enabled && !q.stopped && decide (q.type = type ∧ q.head ≠ q.tail)

/-- The next entry translates: it lies in host memory, or at an IDA that is mapped (R204, R212). -/
def State.fetchLands (s : State) (e : Entry) : Bool :=
  let q := s.sq e.inst e.q
  !q.config.getLsbD 30 || s.idaOk e.inst (q.base + 64 * q.head) 64

/-- The next entry of a queue of a type can be fetched. -/
def State.canFetch (s : State) (e : Entry) (type : Nat) : Bool := s.fetchOpen e type && s.fetchLands e

/-- An entry that cannot be fetched: a fetch that fails translation stops the queue with DENIED_INSTANCE (R204). -/
def State.fetchFails (s : State) (e : Entry) (type : Nat) : State :=
  if s.fetchOpen e type && !s.fetchLands e then s.stopQueue e.inst e.q Status.deniedInstance else s

/-- Fetch the next entry: SQ_HEAD advances (R201). -/
def State.fetched (s : State) (e : Entry) : State :=
  s.modSq e.inst e.q (fun q => { q with head := (q.head + 1) % q.size })

/-- COMPLETION flag of an entry (R200). -/
def entryCompletion (e : Entry) : Bool := bit e.flags 0
/-- Reserved flag bits of an entry are 0 (R200). -/
def entryFlagsOk (e : Entry) : Bool := decide (e.flags ≤ 1)

/-- A QUEUE event (type 0x0004): resource the queue number, detail the tag (R208). -/
def State.queueEvent (s : State) (i q tag status : Nat) : State := s.event i 0x0004 q status 0xFF 0 tag

/-- The end of an entry: a QUEUE event when COMPLETION is set. -/
def State.endEntry (s : State) (i q tag : Nat) (completion : Bool) (status : Nat) : State :=
  if completion then s.queueEvent i q tag status else s

/-- Stop every enabled queue of a type and target, of any instance (R204, R677). -/
def State.stopTargeting (s : State) (type target status : Nat) : State :=
  s.each (List.range 512) (fun t n =>
    let q := t.sq (n / 16) (n % 16)
    if q.enabled ∧ !q.stopped ∧ q.type = type ∧ q.target = target then t.stopQueue (n / 16) (n % 16) status else t)

/-- An enabled queue of a type and target exists. -/
def State.queueOn (s : State) (type target : Nat) : Bool :=
  (List.range 512).any (fun n => let q := s.sq (n / 16) (n % 16); q.enabled && decide (q.type = type ∧ q.target = target))

/-! ### Secure claims (R260, R261) -/

/-- A block carries a secure claim. -/
def State.claimed (s : State) (cls resource : Nat) : Bool := s.worlds.claims.any (fun c => c.cls = cls && c.resource = resource)

/-- The SECURITY event of R261 (reason 1) or R262 (reason 2) for I0. -/
def State.securityEvent (s : State) (reason cls resource : Nat) : State :=
  s.event 0 0x009F resource Status.deniedSecureClaim 0xFF reason cls

/-- A key is named by the active secure entry (R258). -/
def State.keySecure (s : State) (k : Nat) : Bool := (s.worlds.entry.map (fun e => e.keys.contains k)).getD false
/-- A head carries the active secure entry. -/
def State.headSecure (s : State) (h : Nat) : Bool := (s.worlds.entry.map (fun e => e.head == h)).getD false

/-! ### Replies (R126, R166 to R169) -/

/-- Count a request ended with DENIED_WORLD or DENIED_INSTANCE, from entry into OPERATIONAL on (0x1F01.05, R145). -/
def State.countDenied (s : State) (status : Nat) : State :=
  if s.operational ∧ (status = Status.deniedWorld ∨ status = Status.deniedInstance) then s.inc 0x1F01 5 else s

/-- Return a response to its requester. No mailbox response is written for an instance that was reset, faulted or disabled
(R141, R166). With INDIRECT the value moves by DMA to the address the request gives and the body is empty (R169); a value longer than
that request's length, or without INDIRECT than 8,176 bytes, returns TYPE_LENGTH; the tunnel carries the same message (R170). -/
def State.reply (s : State) (req : Requester) (service status failPos : Nat) (body : List Byte) (moved : Nat := body.length) : State :=
  let s := s.countDenied status
  match req with
  | .mailbox i tag indirect =>
    if s.instState i = 0 ∨ s.instState i = 2 ∨ s.instState i = 3 then s
    else
    let x := s.inst i
    let tooLong := decide ((indirect.map (·.2)).getD 8176 < body.length)
    let st := if tooLong then Status.typeLength else status
    let rp : Reply := { service := service % 128 + 0x80, tag := tag, status := st, failPos := failPos,
                        body := if indirect.isSome ∨ tooLong then [] else body,
                        moved := if tooLong then 0 else moved }
    let s1 := if indirect.isSome ∧ !tooLong ∧ body ≠ [] then
        { s with out := { s.out with hostData := s.out.hostData ++ [(i, (indirect.map (·.1)).getD 0, body)] } } else s
    (s1.setInst i { x with mbox := { x.mbox with outstanding := false, ready := true, response := some rp } }).sendVector
      i x.mbox.vector
  | .mcan => ({ s with out := { s.out with usdo := s.out.usdo ++ [{ status := status, body := body }] } } : State).setReg 0x1F11 4 status
  | .tunnel tag =>
    let tooLong := decide (8176 < body.length)
    let data := if tooLong then [] else body
    let bs := leBytes 1 (service % 128 + 0x80) ++ leBytes 1 0 ++ leBytes 2 tag ++ leBytes 2 (if tooLong then Status.typeLength else status) ++
      leBytes 1 failPos ++ leBytes 1 0 ++ leBytes 4 data.length ++ leBytes 4 0 ++ data
    ({ s with mcan := { s.mcan with tunnelRunning := false } } : State).setRegBytes 0x1F13 0 bs
  | .core d w =>
    { s with out := { s.out with coreReply := s.out.coreReply ++
      [(d, w, { service := service % 128 + 0x80, status := status, failPos := failPos, body := body, moved := body.length })] } }

end Sys2Proof.Machine
end

