-- ==== Sys2Proof/Machine/Bus.lean ====
section
/-! DEFINITION. The bus (R26 to R32, R245 to R248): the device address space and its targets, the permission of a
granule, what a read and a write give, and the management cores that see a refusal. -/
namespace Sys2Proof.Machine

/-! ### Management cores (R241, R242, R253) -/

/-- Core c. -/
def State.cpu (s : State) (c : Nat) : CpuCore := Tab.getD s.worlds.cores c {}
/-- Change core c. -/
def State.modCpu (s : State) (c : Nat) (f : CpuCore → CpuCore) : State :=
  { s with worlds := { s.worlds with cores := Tab.put s.worlds.cores c (f (s.cpu c)) } }
/-- A core runs: it exists, neither a fault nor a debugger has halted it, and its die's Core is ACTIVE. -/
def State.cpuRuns (s : State) (c : Nat) : Bool :=
  decide (c < 4 * s.dies) && !(s.cpu c).halted && !(s.cpu c).debugHalted && s.coreActive (c / 4)
/-- A core's transactions (R29, R30): the device's own, in the world the core executes in. -/
def State.coreAttr (s : State) (c : Nat) : BusAttr :=
  { world := BusSource.core.world (decide ((s.cpu c).world = .secure)), die := c / 4, inst := ownInstance, source := .core }

/-- A core takes n secure interrupts: it enters the monitor in machine mode, from whatever world and mode it executes in; a core that is in the
monitor stays there (R242, R253). The cause it records is not stated: a free value. -/
def State.enterMonitor (s : State) (c n : Nat) : State :=
  let x := s.cpu c
  let inside := decide (x.world = .secure ∧ x.mode = .machine)
  s.useFree.modCpu c (fun y => { y with
    secureTaken := y.secureTaken + n, world := .secure, mode := .machine,
    irqFrom := if inside then y.irqFrom else some (y.world, y.mode), mcause := if inside then y.mcause else Config.freeNat s.free })

/-- Core 4 × trunk takes the secure interrupts that wait, once it runs (R253, log entry 147). -/
def State.takeSecure (s : State) : State :=
  let c := 4 * s.trunk
  if s.worlds.secureWaiting = 0 ∨ !s.cpuRuns c then s
  else { s.enterMonitor c s.worlds.secureWaiting with worlds := { (s.enterMonitor c s.worlds.secureWaiting).worlds with secureWaiting := 0 } }

/-- A secure interrupt is raised (R253). -/
def State.secureInterrupt (s : State) : State :=
  ({ s with worlds := { s.worlds with secureIrq := s.worlds.secureIrq + 1, secureWaiting := s.worlds.secureWaiting + 1 } } : State).takeSecure

/-! ### The device address space (R31, R32) -/

/-- Size of the boot ROM. -/
def romSize : Nat := 0x40000
/-- First device address of a die's control window. -/
def controlBase (d : Nat) : Nat := 0x100000000 + d * 0x10000000
/-- First device address of a die's management SRAM. -/
def sramBase (d : Nat) : Nat := 0x200000000 + d * 0x100000
/-- First device address of a die's stack. -/
def stackBase (d : Nat) : Nat := 0x1000000000 + d * 0x80000000

/-- The targets of R31. -/
inductive BusTarget where
  | rom | control (die : Nat) | sram (die : Nat) | stack (die : Nat)
deriving DecidableEq, Repr

/-- The target at a device address; none outside the regions, in the unused part of an SRAM window and in the windows of an absent die (R32). -/
def State.targetAt (s : State) (a : Nat) : Option BusTarget :=
  if a < romSize then some .rom
  else match s.dieList.find? (fun d => decide (controlBase d ≤ a ∧ a < controlBase d + 0x10000000)) with
    | some d => some (.control d)
    | none => match s.dieList.find? (fun d => decide (sramBase d ≤ a ∧ a < sramBase d + 0x80000)) with
      | some d => some (.sram d)
      | none => (s.dieList.find? (fun d => decide (stackBase d ≤ a ∧ a < stackBase d + 0x80000000))).map .stack

/-- The failure domain of a target is in service (R16, R26): the ROM in D0's Shell, stacks in Shells, SRAM in Cores. A die's control window
answers while either of its domains does (log entry 146). -/
def State.targetServes (s : State) : BusTarget → Bool
  | .rom => decide (s.reg 0x2008 3 ≠ 3)
  | .control d => decide (s.reg (0x2008 + d) 2 ≠ 3 ∨ s.reg (0x2008 + d) 3 ≠ 3)
  | .sram d => decide (s.reg (0x2008 + d) 2 ≠ 3)
  | .stack d => decide (s.reg (0x2008 + d) 3 ≠ 3)

/-! ### Permission and outcome (R26, R246, R247) -/

/-- The code of the granule that holds a device address (R246, default NORMAL). -/
def State.granuleCode (s : State) (a : Nat) : Nat := Tab.getD s.worlds.perm (a / 4096) 0

/-- R246: a code permits an access; the reserved code 3 is treated as SECURE. -/
def permits (code : Nat) (w : World) (isWrite : Bool) : Bool :=
  decide (w = .secure) || decide (code = 0) || (decide (code = 2) && !isWrite)

/-- The world class of a register block refuses a requester (R248). -/
def State.blockRefuses (s : State) (b : ControlBlock) (w : World) : Bool :=
  decide (w = .normal) && (match b with
    | .permission _ => true
    | .claimTable => true
    | .crypto => true
    | .fuses => true
    | .debugUnlock => true
    | .keypadRouting => true
    | .power cls resource => s.claimed cls resource
    | .other => false)

/-- The number of a register block, by which its offset in the control window is named. -/
def blockNumber : ControlBlock → Nat
  | .permission _ => 0
  | .claimTable => 1
  | .crypto => 2
  | .fuses => 3
  | .debugUnlock => 4
  | .keypadRouting => 5
  | .power cls resource => 16 + 4096 * cls + resource
  | .other => 6

/-- The register block with a number. -/
def numberedBlock (n : Nat) : ControlBlock :=
  if n = 0 then .permission 0 else if n = 1 then .claimTable else if n = 2 then .crypto else if n = 3 then .fuses
  else if n = 4 then .debugUnlock else if n = 5 then .keypadRouting else if 16 ≤ n then .power ((n - 16) / 4096) ((n - 16) % 4096) else .other

/-- The register block at a device address of a die's control window; which block stands where, the manual does not say (log entry 146). -/
def blockOf (d a : Nat) : ControlBlock := numberedBlock (Config.blockAt (a - controlBase d))

/-- How an access ends: permitted, refused by the permission table or the block's world class (R247), or answered by the error response of R26. -/
inductive BusOutcome where
  | done | refused | error
deriving DecidableEq, Repr

/-- The outcome of an access at one address (R26, R32, R246, R248). -/
def State.busOutcome (s : State) (at' : BusAttr) (a : Nat) (isWrite : Bool) : BusOutcome :=
  match s.targetAt a with
  | none => .error
  | some t =>
    if !s.targetServes t then .error
    else match t with
      | .control d => if s.blockRefuses (blockOf d a) at'.world then .refused else .done
      | _ => if permits (s.granuleCode a) at'.world isWrite then .done else .refused

/-- The target counts a refusal and records its attribute word and address (R247). -/
def State.busRefused (s : State) (at' : BusAttr) (a : Nat) : State :=
  ((s.inc 0x2300 4).setReg 0x2300 5 at'.word).setReg 0x2300 6 a

/-- What reads of consecutive bytes give: zeros where refused (R247); where there is no target, or none in service, a value the manual does
not state (R26, log entry 146). -/
def State.busBytes (s : State) (at' : BusAttr) (a n : Nat) : List Byte :=
  (List.range n).map (fun k => match s.busOutcome at' (a + k) false with
    | .done => Memory.read s.mem (a + k)
    | .refused => 0
    | .error => (Config.busError (a + k)))

/-- A refused write that meets a secure claim is reported (R262). -/
def State.gateReported (s : State) (die : Nat) : ControlBlock → State
  | .power cls resource => s.event 0 0x009F resource Status.deniedSecureClaim die 2 cls
  | _ => s

/-- A write of one unit's bytes within one granule: done, dropped and counted, or dropped with the error response (R247). The ROM keeps its
contents, and a control window's registers are named apart (log entry 146). -/
def State.busWrite (s : State) (at' : BusAttr) (a : Nat) (bs : List Byte) : State × BusOutcome :=
  match s.busOutcome at' a true with
  | .done => (match s.targetAt a with
    | some (.sram _) => { s with mem := s.mem.writeBytes a bs }
    | some (.stack _) => { s with mem := s.mem.writeBytes a bs }
    | _ => s, .done)
  | .refused => ((match s.targetAt a with
    | some (.control d) => (s.busRefused at' a).gateReported d (blockOf d a)
    | _ => s.busRefused at' a), .refused)
  | .error => (s, .error)

/-- A read of one unit's bytes within one granule, with its count where it is refused (R247). -/
def State.busRead (s : State) (at' : BusAttr) (a : Nat) : State × BusOutcome :=
  match s.busOutcome at' a false with
  | .refused => (s.busRefused at' a, .refused)
  | o => (s, o)

/-- R31: the granules of a die's management SRAM, from the top down; k = 0 is the topmost. -/
def sramGranule (d k : Nat) : Nat := sramBase d / 4096 + 127 - k

/-- The secure memory shown for each die: granules of its SRAM and of its stack that are not NORMAL (R246, R269). -/
def State.secureUse (s : State) : State :=
  let count (a n : Nat) : Nat := (s.worlds.perm.filter (fun e => decide (a / 4096 ≤ e.1 ∧ e.1 < (a + n) / 4096 ∧ e.2 ≠ 0))).length
  s.each s.dieList (fun t d =>
    (t.setReg (0x2308 + d) 1 (4 * count (sramBase d) 0x80000)).setReg (0x2308 + d) 2 ((count (stackBase d) 0x80000000 + 255) / 256))

/-- Secure SRAM granules of die d: the monitor's 8 on the trunk die and on each die with an applet, then the applets' (R244). -/
def State.secureGranules (s : State) (d : Nat) : Nat :=
  let mine := s.worlds.applets.filter (fun e => bit e.2.dieMask d)
  (if mine ≠ [] ∨ d = s.trunk then 8 else 0) + (mine.map (fun e => e.2.sramBytes / 4096)).sum

/-- The monitor marks the secure SRAM of each die from its top down (R244, R246), and the secure memory is shown (R269). -/
def State.markSram (s : State) : State :=
  (s.each s.dieList (fun t d =>
    { t with worlds := { t.worlds with
        perm := (List.range 64).foldl (fun p k => if k < t.secureGranules d then Tab.put p (sramGranule d k) 1 else Tab.erase p (sramGranule d k)) t.worlds.perm } })).secureUse

end Sys2Proof.Machine
end

