-- ==== Sys2Proof/Machine/Access.lean ====
section
/-! DEFINITION. Who may access what (R122 to R125), checks 1 to 6 of R123, resources out of service (R142),
and the die that holds an entry (R118, R130). -/
namespace Sys2Proof.Machine

/-- WORLD of a requester (R28, R30, R152). -/
def worldOf : Requester → World
  | .core _ w => w
  | _ => .normal

/-- INSTANCE field of a requester's transactions (R27 to R29, R152); management cores act for the device. -/
def instanceOf? : Requester → Option Nat
  | .mailbox i _ _ => some i
  | _ => none

/-- A requester with the rights of I0 or of the runtime (R122): not one of the mailboxes of I1 to I31. -/
def isPrivileged : Requester → Bool
  | .mailbox i _ _ => decide (i = 0)
  | _ => true

/-- What a grant unit gives instance i on an object (R121, R124, R296, R392, R416): none, reading only, or reading and
writing. `num` is the object number within its row. -/
inductive Right where
  | none | read | full
deriving DecidableEq, Repr

/-- Instance i holds a layer of head h (a layer set gives reading, R121). -/
def State.holdsLayerOf (s : State) (i h : Nat) : Bool :=
  (List.range 32).any (fun l => let n := 32 * (h / 2) + l; decide (s.layerHead n = h) && s.assigned i 7 n)

/-- Instance i holds a context slot (R121, log entry 127). -/
def State.holdsContext (s : State) (i : Nat) : Bool := (List.range (16 * s.dies)).any (fun c => s.assigned i 8 c)

/-- The right of instance i (1 to 31) on object `num` of a row, by its grant unit (R121). -/
def State.grantRight (s : State) (i : Nat) (o : ObjectRow) (num : Nat) : Right :=
  match o.grant with
  | .none => .none
  | .readable => .none
  | .ownInstance => if num = i then .read else .none
  | .head => if s.assigned i 6 num then .full else if s.holdsLayerOf i num then .read else .none
  | .headOf8 => if s.assigned i 6 (num / 8) then .full else .none
  | .canopy => if s.assigned i 6 num then .full else .none
  | .region => if s.assigned i 6 (num / 8) then .read else .none
  | .layer => if s.assigned i 7 num ∨ s.assigned i 6 (s.layerHead num) then .full else .none
  | .context => if s.assigned i 8 num then .full else .none
  | .anyContext => if s.holdsContext i then .full else .none
  | .compositor => if s.cfg 0x4800 1 = i then .full else .none
  | .key => if s.assigned i 0xA num then .full else .none
  | .haptic => if s.assigned i 0xB num then .full else .none
  | .xpRow => if s.assigned i 0xC num then .full else .none
  | .lane => if s.assigned i 0xD num then .full else .none
  | .partner => if s.assigned i 0xE num ∨ s.assigned i 0xD (num / 32) then .full else .none
  | .group => if s.assigned i 0xF num then .full else .none
  | .laneCheck => if s.assigned i 0x10 num then .full else .none
  | .streamCheck => if s.assigned i 0x10 (64 + num) then .full else .none

/-- Whether a request of instance i (1 to 31) for a read or write of an entry in a view passes R124. Its own
`aperture_base` (0x2200+i.11) is the one entry of its instance object that an instance writes (R226). -/
def State.entitled (s : State) (i : Nat) (f : Found) (isWrite : Bool) (v : View) : Bool :=
  let r := s.grantRight i f.obj f.num
  if f.obj.grant = .readable then !isWrite && decide (f.row.acc = .ro ∨ f.row.acc = .const) && decide (v = .active ∨ f.row.kind = .live)
  else if f.obj.grant = .ownInstance then
    decide (f.num = i) && (if isWrite then decide (f.row.lo = 0x11) else true)
  else if f.row.kind = .ring then decide (r ≠ .none) && !isWrite && decide (v = .active)
  else if isWrite then decide (r = .full) else decide (r ≠ .none)

/-- Check 3 of R123: the requester's instance is entitled by R122 and R124; MCAN as `directory.mcan_rights` gives (R144). The device
reset and the first burn of an applet key are for I0 and MCAN alone (R106, R255); an applet image comes from I0, MCAN or the secure world
(R257, log entry 151). -/
def State.rightsOk (s : State) (req : Requester) (f : Found) (isWrite : Bool) (v : View) : Bool :=
  match req with
  | .core _ w =>
    !(isWrite && (decide (f.obj.base = 0x2100 ∧ f.row.lo = 7) || decide (f.obj.base = 0x2303 ∧ f.row.lo = 2 ∧ bits s.fuses.appletState 1 0 = 0) ||
      decide (f.obj.base = 0x2304 ∧ f.row.lo = 1 ∧ w = .normal)))
  | .mcan => let r := s.cfg 0x1F00 4; decide (r = 2) || (decide (r = 1) && !isWrite)
  | .tunnel _ => let r := s.cfg 0x1F00 4; decide (r = 2) || (decide (r = 1) && !isWrite)
  | .mailbox i _ _ => if i = 0 then true else s.entitled i f isWrite v

/-- Check 2 of R123: only the secure world writes RWS entries (R117). -/
def worldOk (req : Requester) (e : SubEntry) (isWrite : Bool) : Bool :=
  !(isWrite && decide (e.acc = .rws) && decide (worldOf req = .normal))

/-- A write that only the secure world may make now: the burn of an applet key while a slot is burned (R255). -/
def State.secureOnly (s : State) (req : Requester) (f : Found) : Bool :=
  decide (f.obj.base = 0x2303 ∧ f.row.lo = 2 ∧ bits s.fuses.appletState 1 0 ≠ 0 ∧ worldOf req = .normal)

/-- Check 4 of R123: the access code permits the operation (R117). -/
def accessOk (e : SubEntry) (isWrite : Bool) : Bool :=
  match e.acc with
  | .ro => !isWrite
  | .const => !isWrite
  | .wo => isWrite
  | .rw => true
  | .rws => true

/-- The first access code of I0's own `msix_vectors` is CONST (R226). -/
def Found.row' (f : Found) : SubEntry :=
  if f.obj.base = 0x2200 ∧ f.num = 0 ∧ f.row.lo = 3 then { f.row with acc := .const } else f.row

/-- The declared length of a group's or partner's value can depend on the state: `cyclic_out` takes exactly the
descriptor's length (R592), a group value 1 to 40 bytes (R593), a label 1 to 8 bytes (R176). -/
def State.lengthFits (s : State) (idx : Nat) (f : Found) (n : Nat) : Bool :=
  let e := f.row'
  if f.obj.base = 0x7100 ∧ e.lo = 0xA then decide (n = field (s.regBytes idx 9) 0x14 1)
  else if f.obj.base = 0x7900 ∧ e.lo = 3 then decide (1 ≤ n ∧ n ≤ 40)
  else if f.obj.base = 0x2111 ∧ e.lo = 2 then decide (1 ≤ n ∧ n ≤ 8)
  else e.lengthOk n

/-- A gain is −1,200 to +120 in 0.1 dB, or 0x8000 for mute (R535). -/
def gainOk (v : Int) : Bool := decide (v = -32768 ∨ (-1200 ≤ v ∧ v ≤ 120))

/-- A band of the equaliser keeps the layout of R544; an OFF band may hold zeros. -/
def bandOk (b : List Byte) : Bool :=
  let g := signedOf 16 (field b 4 2)
  decide (field b 0 1 ≤ 5 ∧ field b 1 1 = 0) && (decide (field b 0 1 = 0) ||
    decide (20 ≤ field b 2 2 ∧ field b 2 2 ≤ 20000 ∧ -240 ≤ g ∧ g ≤ 120 ∧ 100 ≤ field b 6 2 ∧ field b 6 2 ≤ 20000))

/-- The reserved fields of an effect descriptor are 0 (R12, R491). -/
def descriptorReserved (d : List Byte) : Bool :=
  decide (field d 2 2 ≤ 1 ∧ field d 14 2 = 0) &&
  (List.range 32).all (fun k => decide (field d (17 + 12 * k) 1 ≤ 1 ∧ field d (26 + 12 * k) 2 = 0))

/-- The reserved bits of an action word are 0 (R12, R514). -/
def wordReserved (w : Nat) : Bool := decide (w < 2 ^ 41 ∧ bits w 23 23 = 0)

/-- The owning chapters' rules on the contents of a BLOB (R115, check 6 of R123): tables of a stated length have exactly it, and
`return_source`, `eq` and `preset` hold values of R548, R544 and R535. -/
def Found.blobOk (f : Found) (bs : List Byte) : Bool :=
  let b := f.obj.base
  let sub := f.row.lo
  let whole := decide (bs.length = f.row.maxLen)
  if b = 0x2200 ∨ (b = 0x3009 ∧ (sub = 3 ∨ sub = 5)) ∨ (b = 0x7900 ∧ sub = 1) then whole
  else if b = 0x6500 then descriptorReserved bs
  else if b = 0x6800 ∧ sub = 4 then whole && bs.all (fun x => decide (x.toNat < 64 ∨ x.toNat = 0xFF))
  else if b = 0x6900 ∧ sub = 0x45 then whole && (List.range 64).all (fun o => gainOk (signedOf 16 (field bs (2 * o) 2)))
  else if b = 0x6A00 ∧ sub = 2 then whole && (List.range 10).all (fun n => bandOk (slice bs (8 * n) 8))
  else true

/-- A value lies in range for its entry (check 6 of R123); reserved bits inside it are 0 (R12). -/
def Found.valueOk (f : Found) (p : Part) (g : Grade) (data : List Byte) : Bool :=
  let e := f.row'
  e.valueOk p g f.num (e.decode data) && (!decide (e.ty = .blob) || f.blobOk data) &&
  (!decide (f.obj.base = 0x6600) || wordReserved (leNat data))

/-- The recovery objects outside AWAIT_IMAGE: every access returns DENIED_ACCESS (R110, log entry 126). -/
def State.recoveryShut (s : State) (f : Found) : Bool :=
  decide (0x2104 ≤ f.obj.base ∧ f.obj.base ≤ 0x2106) && !(s.mcan.serving && decide (s.bootState = 2))

/-- Checks 1 to 6 of R123 on a write. OK when all pass. -/
def State.checkWrite (s : State) (req : Requester) (idx sub : Nat) (data : List Byte) : Nat :=
  match lookup s.part idx sub with
  | none => Status.notPresent
  | some f =>
    let e := f.row'
    if s.recoveryShut f then Status.deniedAccess
    else if !worldOk req e true ∨ s.secureOnly req f then Status.deniedWorld
    else if !s.rightsOk req f true .active then Status.deniedInstance
    else if !accessOk e true then Status.deniedAccess
    else if !s.lengthFits idx f data.length then Status.typeLength
    else if !f.valueOk s.part s.grade data then Status.range
    else Status.ok

/-- Checks 1 to 6 of R123 on a read: the views of R120. -/
def State.checkRead (s : State) (req : Requester) (idx sub : Nat) (v : View) : Nat :=
  match lookup s.part idx sub with
  | none => Status.notPresent
  | some f =>
    let e := f.row'
    if s.recoveryShut f then Status.deniedAccess
    else if !worldOk req e false then Status.deniedWorld
    else if !s.rightsOk req f false v then Status.deniedInstance
    else if !accessOk e false then Status.deniedAccess
    else if v = .invalid then Status.range
    else if e.kind = .live ∧ v ≠ .active then Status.range
    else if e.kind = .ring ∧ v = .previous ∧ s.previous = none then Status.deniedAccess
    else Status.ok

/-- Objects that need the die's Core to be served, and are not lent (R687): contexts and stream units. -/
def ObjectRow.notLent (o : ObjectRow) : Bool :=
  decide (o.cls = .context ∨ o.cls = .streamUnit ∨ o.base = 0x48A0 ∨ o.base = 0x4808)

/-- The die whose Core serves the lent resources of die d: its lender once head lending serves them (R687, R689), else d itself. -/
def State.servingDie (s : State) (d : Nat) : Nat := if Tab.getD s.health.lending d 0 = 1 then s.reg (0x2708 + d) 3 else d

/-- The die that holds an entry (R118): the trunk for device and instance scope, else the Core that serves the resource. -/
def State.dieOf (s : State) (idx : Nat) : Nat :=
  match objectAt idx with
  | none => s.trunk
  | some (o, k) =>
    if o.scope = .device ∨ o.scope = .inst ∨ o.cls.perDie = 0 then s.trunk
    else if o.notLent then k / o.cls.perDie
    else s.servingDie (k / o.cls.perDie)

/-- Resources put in HW_FAULT (R142, R677): a die whose Shell failed, or one item of a die. `lostClasses` holds per die the
bit mask of lost items of R702. -/
def State.lostItems (s : State) (d : Nat) : Nat := Tab.getD s.health.lostClasses d 0

/-- The item bits of R702 that take an object's entries out of service. -/
def ObjectRow.itemMask (o : ObjectRow) (num : Nat) : Nat :=
  match o.cls with
  | .head => if o.base < 0x4000 ∨ o.base = 0x4200 then 4 * 2 ^ (num % 2) else 0
  | .sprite => 4 * 2 ^ (num / 8 % 2)
  | .region => 4 * 2 ^ (num / 8 % 2)
  | .lane => 16
  | .partner => 16
  | .electrode => 64
  | .key => 64
  | .die => if o.base = 0x6808 then 128 else if o.base = 0x2608 then 32 else if o.base = 0x6100 then 64 else 0
  | _ => 0

/-- R142 and R681: the status an entry's resource gives: HW_FAULT with a failed Shell or a lost item, BUSY while a failed
Core waits for head lending or a field slot runs on the die, OK otherwise. `die.status` and `health.die` stay readable (R142, R700). -/
def State.serviceStatus (s : State) (idx : Nat) : Nat :=
  match objectAt idx with
  | none => Status.ok
  | some (o, k) =>
    if o.scope = .device ∨ o.scope = .inst ∨ o.cls.perDie = 0 ∨ o.base = 0x2008 ∨ o.base = 0x2708 then Status.ok
    else
      let d := k / o.cls.perDie
      if s.reg (0x2008 + d) 3 = 3 then Status.hwFault
      else if s.lostItems d &&& o.itemMask k ≠ 0 then Status.hwFault
      else if s.reg (0x2008 + d) 2 = 3 then
        if o.notLent ∨ Tab.getD s.health.lending d 0 = 2 then Status.hwFault
        else if Tab.getD s.health.lending d 0 = 1 then Status.ok else Status.busy
      else if s.reg 0x2710 2 = 2 ∧ s.reg 0x2710 3 = d then Status.busy
      else Status.ok

end Sys2Proof.Machine
end

