-- ==== Sys2Proof/Machine/WakeOps.lean ====
section
/-! DEFINITION. Wake sources (R614, R619): 1 WAKE_N, 2 MCAN wake frame, 3 wake key, 4 PCIe in-band. -/
namespace Sys2Proof.Machine

/-- R619: a source acts in a power state. -/
def wakeMarked (source state : Nat) : Bool :=
  if source = 1 then decide (2 ≤ state) else if source = 2 then decide (state = 2 ∨ state = 3) else decide (state = 2)

/-- A handshake or an entry runs (R611, R613). -/
def State.entryRuns (s : State) : Bool := decide (s.power.target ≠ 0)
/-- An exit runs (R623). -/
def State.exitRuns (s : State) : Bool := decide (s.power.exitSource ≠ 0)

/-- Device time resumes after DEEP_SLEEP (R40): the CLK32K periods slept are added, within two periods and the clock's own error (a free value,
log entry 3), and it never stands below its value at the entry. -/
def State.timeResumes (s : State) : State :=
  let asleep := s.clock - s.power.sleepClock
  let err := (Config.freeInt s.free % (61036 + asleep / 10000 : Nat)).toNat
  let t := if Config.freeBool s.free then s.now + asleep + err else s.now + asleep - err
  { s.useFree with now := max s.now t, timeRuns := true }

/-- Device time stops as DEEP_SLEEP begins, or begins again where an exit fails (R40, R69). -/
def State.timeStops (s : State) : State :=
  { s with timeRuns := false, power := { s.power with sleepStart := s.now, sleepClock := s.clock } }

/-- An exit begins (R623): from DEEP_SLEEP and OFF the switched rails are raised and awaited (R68, R69, R618), and from DEEP_SLEEP device time
resumes (R40). -/
def State.beginExit (s : State) (source : Nat) : State :=
  let deep := decide (3 ≤ s.powerState)
  let s := if s.powerState = 3 then s.timeResumes else s
  let s1 : State := { s with
    power := { s.power with exitSource := source, exitFrom := s.powerState, deepAfter := none,
                            railsWait := if deep then some (s.now + ms 50) else none }
    pins := if deep then { s.pins with pwrenMain := true, pwrenMem := true } else s.pins }
  s1.setReg 0x2400 3 3

/-- A wake source acts: an exit begins, or during a handshake or entry the wake is kept and counted (R614). -/
def State.wakeFrom (s : State) (source : Nat) : State :=
  let p := s.power
  if s.exitRuns then s
  else if s.entryRuns then
    if p.target = 4 ∨ !(wakeMarked source s.powerState || wakeMarked source p.target) then s
    else ({ s with power := { p with wakeDuring := some (p.wakeDuring.getD source) } } : State).inc 0x2400 0xB
  else if wakeMarked source s.powerState then s.beginExit source
  else s

/-- The quotient nearest to n ÷ d; a tie goes up when `up` holds (the manual says "nearest" and leaves ties open). -/
def nearest (n d : Nat) (up : Bool) : Nat :=
  if d = 0 then 0 else if 2 * n % (2 * d) = d then n / d + ofBool up else (2 * n + d) / (2 * d)

/-- A quotient whose rounding the manual does not state: exact where it is whole, else one of its two neighbours (log entry 3). -/
def State.inexact (s : State) (n d : Nat) : Nat := if d = 0 ∨ n % d = 0 then n / d else n / d + ofBool (Config.freeBool s.free)

end Sys2Proof.Machine
end

