-- ==== Sys2Proof/Machine/AudioOps.lean ====
section
/-! DEFINITION. The audio crosspoint (R528 to R555): gains in dB, ramps, banks, streams, tone generators, silence and
amplifiers. Samples are rationals in steps of 2^−23, gains and levels in 0.1 dB. -/
namespace Sys2Proof.Machine

/-! ### Decibels -/

/-- x ≥ 2^n × 10^(p ÷ (200 q)), compared exactly. -/
def atLeastDb (x : Rat) (n : Nat) (p : Int) (q : Nat) : Bool :=
  if x.num < 0 then false
  else
    let a := x.num.toNat ^ (200 * q)
    let b := (2 ^ n * x.den) ^ (200 * q)
    if p < 0 then decide (b ≤ a * 10 ^ p.natAbs) else decide (b * 10 ^ p.toNat ≤ a)

/-- Binary search of the largest number below 2^k, from a base, that passes a test which holds up to some number. -/
def largestBelow (p : Nat → Bool) : Nat → Nat → Nat
  | 0, base => base
  | k + 1, base => if p (base + 2 ^ k) then largestBelow p k (base + 2 ^ k) else largestBelow p k base

/-- A whole number c is at most 2^n × 10^(p ÷ (200 q)). -/
def atMostDb (c n : Nat) (p : Int) (q : Nat) : Bool :=
  let a := c ^ (200 * q)
  let b := 2 ^ (n * (200 * q))
  if p < 0 then decide (a * 10 ^ p.natAbs ≤ b) else decide (a ≤ b * 10 ^ p.toNat)

/-- A gain's coefficient: 10^(dB ÷ 20) rounded to the nearest 2^−22, in units of 2^−22 (R534). -/
def coefOf (g : Rat) : Nat := largestBelow (fun c => atMostDb (2 * c - 1) 23 g.num g.den) 25 0

/-- The magnitude x reaches t × 0.1 dBFS. -/
def reaches (x : Rat) (t : Int) : Bool := atLeastDb x 23 t 1

/-- The largest level in 0.1 dBFS that a magnitude reaches, not below −144 dBFS. -/
def dbFloor (x : Rat) : Int :=
  if reaches x (-1440) then -1440 + (largestBelow (fun n => reaches x (-1440 + n)) 13 0 : Nat) else -1440

/-- The rational rounded to the nearest integer; a tie goes up when `up` holds (R534 leaves ties open). -/
def roundRat (x : Rat) (up : Bool) : Int :=
  let f := x.floor
  let r := x - f
  if r < 1 / 2 then f else if r = 1 / 2 then f + ofBool up else f + 1

/-- A sample multiplied by a gain (R534). -/
def scaleBy (x : Rat) (g : Rat) : Rat := x * (coefOf g : Int) / (2 ^ 22 : Nat)

/-- Magnitude of a sample. -/
def magnitude (x : Rat) : Rat := if x < 0 then -x else x

/-- sin of m ÷ 48,000 turns times 2^80: exact at the quarter turns, else to within 2^−60 by its power series. -/
def sinTurn (m : Nat) : Int :=
  let q := m % 48000 / 12000
  let r := m % 12000
  let k : Nat := if q % 2 = 0 then r else 12000 - r
  let th : Int := (1898976236818169290393996 * k / 12000 : Nat)
  let sq := th * th / 2 ^ 80
  let step := fun (a : Int × Int) (j : Nat) =>
    let t := -(a.2 * sq / 2 ^ 80) / ((2 * j * (2 * j + 1) : Nat) : Int)
    (a.1 + t, t)
  let v := ((List.range 14).map (· + 1)).foldl step (th, th)
  let w : Int := if k = 0 then 0 else if k = 12000 then 2 ^ 80 else v.1
  if q < 2 then w else -w

/-- A sine sample of peak level g: the manual does not state its rounding, so a value next to it is free (log entry 3). -/
def sineSample (g : Rat) (m n : Nat) : Int :=
  let v : Rat := ((coefOf g : Int) * 2 * sinTurn m : Int) / (2 ^ 80 : Nat)
  if m % 12000 = 0 then roundRat v false else roundRat v false + (Config.freeNat n % 3 : Nat) - 1

/-! ### Ramps (R538) -/

/-- A ramp over n samples from a value; a node opening from mute starts at −120 dB, one closing to mute goes to −120 dB. -/
def rampOver (v : Option Rat) (goal : Option Int) (n : Nat) : Ramp :=
  let a : Rat := v.getD (-1200)
  let b : Rat := match goal with | none => -1200 | some g => g
  { value := a, step := (b - a) / (max n 1 : Nat), goal := goal }

/-- A ramp after one sample; none when it has reached its goal. -/
def Ramp.next (r : Ramp) : Option Ramp :=
  let v := r.value + r.step
  let g : Rat := match r.goal with | none => -1200 | some x => x
  if r.step = 0 ∨ (0 < r.step ∧ g ≤ v) ∨ (r.step < 0 ∧ v ≤ g) then none else some { r with value := v }

/-! ### Block structures -/

def State.row (s : State) (i : Nat) : XpRow := Tab.getD s.audio.rows i {}
def State.modRow (s : State) (i : Nat) (f : XpRow → XpRow) : State :=
  { s with audio := { s.audio with rows := Tab.put s.audio.rows i (f (s.row i)) } }
def State.xpo (s : State) (o : Nat) : XpOutput := Tab.getD s.audio.outputs o {}
def State.modXpo (s : State) (o : Nat) (f : XpOutput → XpOutput) : State :=
  { s with audio := { s.audio with outputs := Tab.put s.audio.outputs o (f (s.xpo o)) } }
def State.stream (s : State) (n : Nat) : AudioStream := Tab.getD s.audio.streams n {}
def State.modStream (s : State) (n : Nat) (f : AudioStream → AudioStream) : State :=
  { s with audio := { s.audio with streams := Tab.put s.audio.streams n (f (s.stream n)) } }
def State.toneGen (s : State) (g : Nat) : ToneGen := Tab.getD s.audio.tones g {}
def State.modTone (s : State) (g : Nat) (f : ToneGen → ToneGen) : State :=
  { s with audio := { s.audio with tones := Tab.put s.audio.tones g (f (s.toneGen g)) } }

/-- Samples of `ramp_ms` (R538). -/
def State.rampSamples (s : State) : Nat := 48 * s.use 0x6800 2
/-- State of a TDM port (0x6808+p.0F). -/
def State.tdmState (s : State) (p : Nat) : Nat := s.reg (0x6808 + p) 0xF
/-- A PORT event for I0 (R556). -/
def State.portEvent (s : State) (p reason : Nat) : State := s.event 0 0x0053 p Status.ok p reason (s.reg (0x6808 + p) 0x11)
/-- R529: a node's port is present and not in HW_FAULT; nodes without a port are connected. -/
def State.nodeConnected (s : State) (n : Nat) : Bool := decide (64 ≤ n) || (decide (n / 8 < s.dies) && decide (s.tdmState (n / 8) ≠ 4))
/-- `connected` of an output (R529). -/
def State.outputConnected (s : State) (o : Nat) : Bool := decide (o / 8 < s.dies) && decide (s.tdmState (o / 8) ≠ 4)

/-! ### Banks (R535 to R538, R554) -/

/-- The active bank of a row is B (0x6900+i.43). -/
def State.bankIsB (s : State) (i : Nat) : Bool := s.reg (0x6900 + i) 0x43 = 1
/-- The active bank of a row. -/
def State.activeBank (s : State) (i : Nat) : Tab Int := if s.bankIsB i then (s.row i).bankB else (s.row i).bankA
/-- The edit bank of a row (R536). -/
def State.editBank (s : State) (i : Nat) : Tab Int := if s.bankIsB i then (s.row i).bankA else (s.row i).bankB
/-- Replace the edit bank. -/
def State.setEditBank (s : State) (i : Nat) (b : Tab Int) : State :=
  s.modRow i (fun r => if s.bankIsB i then { r with bankA := b } else { r with bankB := b })
/-- The gains of a `preset` (R560): 64 × I16, 0x8000 mute. -/
def presetBank (bs : List Byte) : Tab Int :=
  (List.range 64).foldl (fun t o => let g := signedOf 16 (field bs (2 * o) 2); if g = -32768 then t else Tab.put t o g) []

/-- The gain a node reaches now: its ramp's value, mute on a muted row, else the active bank's gain (R538, R554). -/
def State.nodeGain (s : State) (i o : Nat) : Option Rat :=
  match Tab.find? (s.row i).ramps o with
  | some r => some r.value
  | none => if (s.row i).muted then none else (Tab.find? (s.activeBank i) o).map (fun (g : Int) => (g : Rat))

/-- The gain a node is set to. -/
def State.nodeGoal (s : State) (i o : Nat) : Option Int := if (s.row i).muted then none else Tab.find? (s.activeBank i) o

/-- Ramps of a row toward new goals, over n samples: only nodes whose gain changes start one (R538). -/
def State.rampRow (s : State) (i n : Nat) (goal : Nat → Option Int) : Tab Ramp :=
  (List.range 64).foldl (fun t o =>
    if goal o = s.nodeGoal i o then t else Tab.put t o (rampOver (s.nodeGain i o) (goal o) n)) (s.row i).ramps

/-- Every open node of a row ramps up from mute (R553 to R555). -/
def State.openRow (s : State) (i : Nat) : State :=
  if (s.row i).muted then s
  else s.modRow i (fun r => { r with
    ramps := (s.activeBank i).foldl (fun t e => Tab.put t e.1 (rampOver none (some e.2) s.rampSamples)) [] })

/-- The swap of a row's banks (R536 to R538, R556); the copy into the new edit bank ends within 50 µs. -/
def State.swapRow (s : State) (i req : Nat) (late : Bool) : State :=
  let e := s.editBank i
  let ramps := s.rampRow i s.rampSamples (fun o => Tab.find? e o)
  let b := !s.bankIsB i
  let s1 := s.modRow i (fun r => { r with
    bankA := e, bankB := e, pending := none, copyUntil := s.now + Config.freeNat s.free % 50001, ramps := ramps, muted := false })
  let s2 := (((s1.setReg (0x6900 + i) 0x43 (ofBool b)).setReg (0x6900 + i) 0x42 0).setReg (0x6900 + i) 0x4B s.now).useFree
  s2.event (s.rowHolder i) 0x0051 i (if late then Status.late else Status.ok) 0xFF (if b then 2 else 1) req

/-- An edit-bank gain takes a value (R535). -/
def State.setGain (s : State) (i o : Nat) (v : Int) : State :=
  s.setEditBank i (if v = -32768 then Tab.erase (s.editBank i) o else Tab.put (s.editBank i) o v)

/-- A write of an edit-bank gain (R535, R536). -/
def State.gainWrite (s : State) (i o : Nat) (v : Int) : Nat × State :=
  let r := s.row i
  if v ≠ -32768 ∧ (v < -1200 ∨ 120 < v) then (Status.range, s)
  else if r.pending.isSome ∨ s.now < r.copyUntil then (Status.busy, s)
  else (Status.ok, s.setGain i o v)

/-- A read of an edit-bank gain. -/
def State.gainRead (s : State) (i o : Nat) : Int := Tab.getD (s.editBank i) o (-32768)

/-- `active_gains` (0x6900+i.44). -/
def State.activeGains (s : State) (i : Nat) : List Byte :=
  (List.range 64).flatMap (fun o => leBytes 2 (unsignedOf 16 (Tab.getD (s.activeBank i) o (-32768))))

/-- A write to `safe_load` (R537). -/
def State.safeLoadWrite (s : State) (i t : Nat) : Nat × State :=
  if s.now + sec 10 < t then (Status.range, s)
  else if (s.row i).pending.isSome then (Status.busy, s)
  else if t ≠ 0 ∧ t < s.now then (Status.pending, s.swapRow i t true)
  else (Status.pending, (s.modRow i (fun r => { r with pending := some t })).setReg (0x6900 + i) 0x42 1)

/-- A row leaves its holder (R217, R225, R554): its nodes ramp to mute over n samples, the pending safe-load is discarded, the
row stays muted, and the edit bank is loaded with the preset. -/
def State.rowLeaves (s : State) (i n : Nat) : State :=
  let ramps := s.rampRow i n (fun _ => none)
  ((s.setEditBank i (presetBank (s.cfgBytes (0x6900 + i) 0x45))).modRow i (fun r => { r with
    pending := none, ramps := ramps, muted := true })).setReg (0x6900 + i) 0x42 0

/-! ### Streams (R541) -/

/-- A STREAM event for the holder of the row. -/
def State.streamEvent (s : State) (n reason tag : Nat) : State :=
  s.event (s.rowHolder (64 + n)) 0x0050 (64 + n) Status.ok 0xFF reason tag

/-- The end of a buffer. -/
def State.endBuffer (s : State) (b : AudioBuffer) (status : Nat) : State := s.endEntry b.inst b.q b.tag b.completion status

/-- STOP (R541): the stream fades to 0 over 48 samples and its started buffers end ABORTED; one not yet started stays queued (log entry 180). -/
def State.stopStream (s : State) (n : Nat) : State :=
  let st := s.stream n
  let on := st.buffers.filter (·.started)
  let tag := (on.head?.map (·.tag)).getD st.tag
  let s1 := (on.foldl (fun t b => t.endBuffer b Status.aborted) s).modStream n (fun x => { x with
    buffers := x.buffers.filter (fun b => !b.started), playing := false, fade := if st.last = 0 then 0 else 48, fadeFrom := st.last, tag := tag })
  if on = [] then s1 else s1.streamEvent n 3 tag

/-- A linear fade's value with k of 48 samples left (R532, R541); the manual does not state its rounding. -/
def fadeValue (x : Rat) (k : Nat) : Rat := x * (k : Nat) / 48

/-- The sample of a stream in this period before its ramp, with prev the start of the period before (R541). -/
def State.streamPlay (s : State) (n prev : Nat) : Int × State :=
  let st := s.stream n
  if st.held then (0, s)
  else if 0 < st.fade then
    let v := roundRat (fadeValue st.fadeFrom (st.fade - 1)) (Config.freeBool s.free)
    (v, (s.modStream n (fun x => { x with fade := st.fade - 1 })).useFree)
  else match st.buffers with
    | [] =>
      if st.playing then (0, (s.modStream n (fun x => { x with playing := false })).streamEvent n 2 st.tag) else (0, s)
    | b :: rest =>
      if !b.started ∧ s.now < b.start then (0, s.modStream n (fun x => { x with playing := false }))
      else
        let late := if b.started then b.late else b.late || decide (b.start ≠ 0 ∧ b.start ≤ prev)
        let b1 : AudioBuffer := { b with started := true, late := late, consumed := b.consumed + 1 }
        let done := decide (b.samples.length ≤ b1.consumed)
        let s1 := s.modStream n (fun x => { x with buffers := if done then rest else b1 :: rest, playing := true, tag := b.tag })
        let s2 := if st.playing then s1 else s1.streamEvent n 1 b.tag
        let s3 := if done then s2.endBuffer b1 (if late then Status.late else Status.ok) else s2
        (b.samples.getD b.consumed 0, s3)

/-- The sample of a stream after its freeze, thaw or leaving ramp. -/
def State.streamSample (s : State) (n prev : Nat) : Rat × State :=
  let p := s.streamPlay n prev
  let s1 := p.2.modStream n (fun x => { x with last := p.1 })
  match (s.stream n).ramp with
  | none => ((p.1 : Rat), s1)
  | some r =>
    let v := scaleBy p.1 r.value
    match r.next with
    | some r1 => (v, s1.modStream n (fun x => { x with ramp := some r1 }))
    | none =>
      if r.goal = none ∧ (s1.stream n).leaving then
        (v, s1.modStream n (fun x => { x with ramp := none, buffers := [], playing := false, leaving := false, last := 0 }))
      else if r.goal = none then (v, s1.modStream n (fun x => { x with ramp := none, held := true }))
      else (v, s1.modStream n (fun x => { x with ramp := none }))

/-! ### Tone generators (R542) -/

/-- A start request arrives at a generator; requests of one sample period count as one, one to a generator not enabled is
counted and ignored. -/
def State.requestTone (s : State) (g : Nat) : State :=
  if (s.toneGen g).requested ∨ (s.toneGen g).ignored then s
  else
    let on := decide (s.use (0x6810 + g) 1 ≠ 0)
    (s.inc (0x6810 + g) 9).modTone g (fun t => { t with requested := on, ignored := !on })

/-- A generator at the start of a sample period: it starts, restarts, is released or ends. -/
def State.toneAdvance (s0 : State) (g : Nat) : State :=
  let s := if (s0.toneGen g).ignored then s0.modTone g (fun x => { x with ignored := false }) else s0
  let t := s.toneGen g
  let lvl := s.useI (0x6810 + g) 3
  let n := 48 * s.use (0x6810 + g) 5
  let playing := s.reg (0x6810 + g) 8 = 1
  if t.requested then
    let step : Rat := (((lvl + 1200 : Int) : Rat)) / (max n 1 : Nat)
    let now : Rat := match t.ramp with | none => if playing then lvl else -1200 | some r => r.value
    let r : Ramp := { value := now, step := if now ≤ lvl then step else -step, goal := some lvl }
    ((s.modTone g (fun x => { x with
      requested := false, phase := if playing then x.phase else 0, sinceReq := 0,
      ramp := if now = lvl then none else some r, releasing := false })).setReg (0x6810 + g) 8 1)
  else if playing ∧ !t.releasing ∧ 48 * s.use (0x6810 + g) 4 ≤ t.sinceReq then
    let now : Rat := match t.ramp with | none => lvl | some r => r.value
    s.modTone g (fun x => { x with ramp := some (rampOver (some now) none (48 * s.use (0x6810 + g) 6)), releasing := true })
  else s

/-- A generator's sample in this period, and the generator after it. -/
def State.toneSample (s0 : State) (g : Nat) : Rat × State :=
  let s := s0.toneAdvance g
  let t := s.toneGen g
  if s.reg (0x6810 + g) 8 ≠ 1 then (0, s)
  else
    let lvl : Rat := match t.ramp with | none => s.useI (0x6810 + g) 3 | some r => r.value
    let v := sineSample lvl (s.use (0x6810 + g) 2 * t.phase) s.free
    let done := t.releasing && (t.ramp.map (fun (r : Ramp) => r.next.isNone)).getD true
    let s1 := (s.modTone g (fun x => { x with
      phase := x.phase + 1, sinceReq := x.sinceReq + 1, ramp := if done then none else x.ramp.bind Ramp.next,
      releasing := x.releasing && !done })).useFree
    ((v : Rat), if done then s1.setReg (0x6810 + g) 8 0 else s1)

/-! ### Silence (R549) -/

/-- A SILENCE event: input silence to the holder of the row, output silence to I0 (R556). -/
def State.silenceEvent (s : State) (node reason : Nat) : State :=
  let (inst, idx, sub) := if node < 128 then (s.rowHolder node, 0x6900 + node, 0x49) else (0, 0x6A00 + (node - 128), 0x12)
  s.event inst 0x0052 node Status.ok 0xFF reason (unsignedOf 16 (s.regI idx sub))

/-- The peak of the last 100 ms, in 0.1 dBFS; the manual does not state its rounding. -/
def State.peakDb (s : State) (xs : List Rat) : Int :=
  let p := xs.foldl max 0
  let f := dbFloor p
  if p = 0 then -1440
  else if atLeastDb p 23 f 1 && !atLeastDb p 23 (f + 1) 1 && (Config.freeBool s.free) then f + 1 else f

/-- An input as received in this period: its magnitude, peak and silence. -/
def State.judgeInput (s : State) (i : Nat) (x : Rat) : State :=
  let m := magnitude x
  let xs := (m :: (s.row i).peaks).take 4800
  let loud := reaches m (s.useI (0x6900 + i) 0x46)
  let s1 := ((s.modRow i (fun r => { r with level := x, peaks := xs, loudAt := if loud then s.now else r.loudAt })).setRegI
    (0x6900 + i) 0x49 (s.peakDb xs)).useFree
  if loud ∧ s.reg (0x6900 + i) 0x48 = 1 then (s1.setReg (0x6900 + i) 0x48 0).silenceEvent i 2 else s1

/-- An output after its limiter in this period. -/
def State.judgeOutput (s : State) (o : Nat) (x : Rat) : State :=
  let m := magnitude x
  let xs := (m :: (s.xpo o).peaks).take 4800
  let loud := reaches m (s.useI (0x6A00 + o) 0xE)
  let s1 := ((s.modXpo o (fun r => { r with peaks := xs, loudAt := if loud then s.now else r.loudAt })).setRegI
    (0x6A00 + o) 0x12 (s.peakDb xs)).useFree
  if loud ∧ s.reg (0x6A00 + o) 0x11 = 1 then (s1.setReg (0x6A00 + o) 0x11 0).silenceEvent (128 + o) 2 else s1

/-! ### Amplifiers (R550) -/

/-- Switch a port's amplifier. -/
def State.setAmp (s : State) (p : Nat) (on : Bool) : State :=
  if s.reg (0x6808 + p) 0x10 = ofBool on then s
  else
    let s1 := (s.setReg (0x6808 + p) 0x10 (ofBool on)).inc (0x6808 + p) 0x12
    let g := s.use (0x6808 + p) 8
    let s2 : State := if s.use (0x6808 + p) 7 = 1 ∧ g < 32 then { s1 with pins := { s1.pins with gpio := Tab.put s1.pins.gpio g on } } else s1
    s2.event 0 0x0054 p Status.ok p (if on then 1 else 2) (s2.reg (0x6808 + p) 0x12)

/-- Outputs of a port named in `amp_outputs`. -/
def State.ampOutputs (s : State) (p : Nat) : List Nat :=
  ((List.range 8).filter (fun k => bit (s.use (0x6808 + p) 0xC) k)).map (8 * p + ·)

/-- A pilot runs on an output (R552, R661). -/
def State.pilotOn (s : State) (o : Nat) : Bool := (s.xpo o).pilot.isSome || s.reg (0x6A00 + o) 0x17 = 1

/-- Whether a port's amplifier is to be on: a named output is not silent, or a pilot runs on one (R550, R661). -/
def State.ampWanted (s : State) (p : Nat) : Bool :=
  (s.ampOutputs p).any (fun o => s.reg (0x6A00 + o) 0x11 = 0 || s.pilotOn o ||
    (s.survey.pilotRunning.contains o && s.reg (0x6808 + p) 0x10 = 1))

/-- Judge the amplifiers of all ports (R550). -/
def State.judgeAmps (s : State) : State :=
  s.each (s.dieList.filter (fun p => s.use (0x6808 + p) 7 ≠ 0)) (fun t p => t.setAmp p (t.ampWanted p))

/-! ### Section gating (R551) -/

/-- A ramp runs on an output: a node into it, its mute ramp or its equaliser. -/
def State.outputRamps (s : State) (o : Nat) : Bool :=
  (s.xpo o).mute.isSome || decide (0 < (s.xpo o).eqRamp) || s.audio.rows.any (fun r => (Tab.find? r.2.ramps o).isSome)

/-- An input that is not silent has a non-mute active gain into a section. -/
def State.sectionFed (s : State) (q : Nat) : Bool :=
  s.audio.rows.any (fun r => s.reg (0x6900 + r.1) 0x48 = 0 && (List.range 8).any (fun k => (s.nodeGoal r.1 (8 * q + k)).isSome))

/-- Section q is gated: its outputs are silent, no ramp or pilot runs on them, no return names them, and no input that is not
silent is open into it (log entry 21). -/
def State.sectionGated (s : State) (q : Nat) : Bool :=
  decide (s.use 0x6800 3 = 1) &&
  (List.range 8).all (fun k => let o := 8 * q + k
    s.reg (0x6A00 + o) 0x11 = 1 && !s.outputRamps o && !s.pilotOn o && !(s.useBytes 0x6800 4).any (fun b => b.toNat = o)) &&
  !s.sectionFed q

/-! ### Whole-crosspoint operations -/

/-- All 128 rows. -/
def State.eachRow (s : State) (f : State → Nat → State) : State := s.each (List.range 128) f

/-- A ramp on every output from mute (R530). -/
def State.outputsFromMute (s : State) : State :=
  s.each (List.range 64) (fun t o => t.modXpo o (fun x => { x with mute := some (rampOver none (some 0) t.rampSamples) }))

/-- A ramp on every output to mute, from the value it has reached (R530). -/
def State.outputsToMute (s : State) : State :=
  s.each (List.range 64) (fun t o => t.modXpo o (fun x => { x with
    mute := some (rampOver (some ((x.mute.map (fun (r : Ramp) => r.value)).getD 0)) none t.rampSamples) }))

/-- The objects of the crosspoint: 0x6800, ports, tone generators, rows, outputs. -/
def isAudioIndex (i : Nat) : Bool := decide (0x6800 ≤ i ∧ i < 0x6A40)

/-- A port as its `enable` says: RUNNING or DISABLED; HW_FAULT stays (R532, R555). -/
def State.settlePort (s : State) (p : Nat) : State :=
  if s.tdmState p = 4 then s
  else if s.use (0x6808 + p) 1 = 0 then s.setReg (0x6808 + p) 0xF 0
  else if s.tdmState p = 2 ∧ s.use (0x6808 + p) 2 = 0 then s
  else s.setReg (0x6808 + p) 0xF 1

/-- Delay in samples: `delay_us` rounded to the nearest whole sample (R547). -/
def State.delaySamples (s : State) (o : Nat) : Nat := (12 * s.use (0x6A00 + o) 7 + 125) / 250

/-- Uptake of audio ring values (R539): one swap of every output bank whose entries changed, the clock source (R530: one that sets
SYNTH ends the watch on a lost AUDIO_MCLK at once), the ports. -/
def State.audioUptake (s : State) : State :=
  let changed := (List.range 64).filter (fun o => s.changed (0x6A00 + o))
  let eqOld := fun (o : Nat) => s.useBytes (0x6A00 + o) 2
  let delays := (List.range 64).filter (fun o => s.cfg (0x6A00 + o) 7 ≠ s.use (0x6A00 + o) 7)
  let clk := decide (s.cfg 0x6800 1 ≠ s.use 0x6800 1)
  let s1 := s.takeUp isAudioIndex
  let s2 := s1.each changed (fun t o =>
    let t1 := t.setReg (0x6A00 + o) 0x10 (1 - t.reg (0x6A00 + o) 0x10)
    if t1.useBytes (0x6A00 + o) 2 ≠ eqOld o then t1.modXpo o (fun x => { x with eqRamp := t1.rampSamples }) else t1)
  let s3 := s2.each delays (fun t o => t.modXpo o (fun x => { x with
    mute := some (rampOver (some ((x.mute.map (fun (r : Ramp) => r.value)).getD 0)) none t.rampSamples) }))
  let s4 : State := if clk then
      let t := s3.outputsToMute
      let u : State := { t with audio := { t.audio with switching := some (t.use 0x6800 1) } }
      if u.reg 0x6800 5 = 2 ∧ u.use 0x6800 1 = 0 then u.setReg 0x6800 5 0 else u
    else s3
  s4.each s4.dieList (fun t p => t.settlePort p)

/-- Entry into OPERATIONAL (R554): both banks of every row hold the preset and every open node ramps up from mute. -/
def State.audioStart (s : State) : State :=
  let s1 : State := { (s.takeUp isAudioIndex) with audio := {} }
  let s2 := s1.eachRow (fun t i =>
    let b := presetBank (t.useBytes (0x6900 + i) 0x45)
    if b = [] then t else (t.modRow i (fun r => { r with bankA := b, bankB := b })).openRow i)
  let s3 := s2.each (List.range 64) (fun t o =>
    if t.delaySamples o = 0 then t else t.modXpo o (fun x => { x with delay := t.delaySamples o }))
  (s3.setReg 0x6800 5 (s3.use 0x6800 1)).each s3.dieList (fun t p => t.settlePort p)

/-- Entry into SLEEP or DEEP_SLEEP (R553): amplifiers off, ports stopped. -/
def State.audioSleep (s : State) : State :=
  s.each s.dieList (fun t p =>
    let t1 := t.setAmp p false
    if t1.tdmState p = 1 ∨ t1.tdmState p = 2 then t1.setReg (0x6808 + p) 0xF 3 else t1)

/-- Every open node of every row ramps up from mute. -/
def State.openRows (s : State) : State := s.each (Tab.keys s.audio.rows) (fun t i => t.openRow i)

/-- Exit from SLEEP or DEEP_SLEEP (R553): ports restart, and every open node ramps up from mute. -/
def State.audioWake (s : State) : State :=
  (s.each s.dieList (fun t p => if t.tdmState p = 3 then t.settlePort p else t)).openRows

/-- AUDIO_ACTIVE (R553): an output of an enabled port is not silent, a ramp runs, or a stream has a started buffer. -/
def State.audioActive (s : State) : Option Nat :=
  let noisy := s.dieList.find? (fun p => s.use (0x6808 + p) 1 = 1 && (List.range 8).any (fun k => s.reg (0x6A00 + 8 * p + k) 0x11 = 0))
  let ramps := (List.range 64).find? (fun o => s.outputRamps o)
  let inputRamp := s.audio.rows.any (fun r => r.2.ramp.isSome)
  let playing := s.audio.streams.any (fun x => x.2.buffers.any (·.started) || x.2.ramp.isSome || decide (0 < x.2.fade))
  match noisy with
  | some p => some p
  | none => match ramps with
    | some o => some (o / 8)
    | none => if inputRamp ∨ playing then some 0 else none

/-- A stream ramps to mute over 8 ms and then holds its position, or is emptied when its row leaves its holder. -/
def State.rampStream (s : State) (n samples : Nat) (leaving : Bool) : State :=
  s.modStream n (fun x => { x with
    leaving := leaving
    ramp := some (rampOver (some ((x.ramp.map (fun (r : Ramp) => r.value)).getD 0)) none samples)
    buffers := if leaving then x.buffers.map (fun (b : AudioBuffer) => { b with completion := false }) else x.buffers })

/-- Streams an instance holds. -/
def State.streamsOf (s : State) (i : Nat) : List Nat := (List.range 48).filter (fun n => s.rowHolder (64 + n) = i)

/-- Quiesce of an instance's rows and streams (R217): to mute over 8 ms, then disconnected. A freeze that held a stream's
position is abandoned (R215). -/
def State.audioQuiesce (s : State) (i : Nat) : State :=
  let s0 := s.each (s.streamsOf i) (fun t n => if (t.stream n).held then t.modStream n (fun x => { x with held := false }) else t)
  let s1 := s0.eachRow (fun t r => if t.rowHolder r = i then t.rowLeaves r 384 else t)
  s1.each (s.streamsOf i) (fun t n => if (t.stream n).buffers = [] then t else t.rampStream n 384 true)

/-- A row moves to another holder (R225, R554): it ramps to mute and is disconnected. -/
def State.rowTaken (s : State) (r : Nat) : State :=
  let s1 := s.rowLeaves r s.rampSamples
  if 64 ≤ r ∧ r < 112 ∧ (s1.stream (r - 64)).buffers ≠ [] then s1.rampStream (r - 64) s.rampSamples true else s1

/-- FREEZE (R229): the instance's streams ramp to mute over 8 ms and then hold their positions; one that plays nothing holds at once. -/
def State.audioFreeze (s : State) (i : Nat) : State :=
  s.each (s.streamsOf i) (fun t n =>
    let x := t.stream n
    if x.buffers = [] ∧ x.fade = 0 then t.modStream n (fun y => { y with held := true, ramp := none }) else t.rampStream n 384 false)

/-- THAW (R234): the streams ramp from mute over the ramp time. -/
def State.audioThaw (s : State) (i : Nat) : State :=
  s.each (s.streamsOf i) (fun t n => t.modStream n (fun x => { x with held := false, ramp := some (rampOver none (some 0) t.rampSamples) }))

/-- Clearing ENABLE of an AUDIO queue (R205): its buffers taken and not started are discarded. -/
def State.audioDiscard (s : State) (i q : Nat) : State :=
  s.each (List.range 48) (fun t n =>
    if (t.stream n).buffers = [] then t
    else t.modStream n (fun x => { x with buffers := x.buffers.filter (fun b => b.started || decide (b.inst ≠ i ∨ b.q ≠ q)) }))

/-- The inputs of a port fade to 0 over 48 samples (R532, R555). -/
def State.fadeInputs (s : State) (p : Nat) : State :=
  s.each ((List.range 8).map (8 * p + ·)) (fun t i =>
    if (t.row i).level = 0 then t else t.modRow i (fun r => { r with fade := 48, fadeFrom := r.level, ramp := none }))

/-- A Shell failure (R555): the port is in HW_FAULT and its inputs fade. -/
def State.audioShellFailed (s : State) (p : Nat) : State :=
  if s.tdmState p = 4 then s
  else ((s.fadeInputs p).setReg (0x6808 + p) 0xF 4).portEvent p 4

end Sys2Proof.Machine
end

