-- ==== Sys2Proof/Machine/Audio.lean ====
section
/-! DEFINITION. The audio commands (R530 to R555): the sample period and its stages, safe-loads, tone starts, clock and port
events, stream entries and silence. -/
namespace Sys2Proof.Machine

/-! ### The stages of a sample period -/

/-- Pilot measurements under way on the outputs of a test are abandoned and counted (R661). -/
def State.abandonPilots (s : State) (p : Nat → Bool) : State :=
  let gone := s.survey.pilotRunning.filter p
  ({ s with survey := { s.survey with pilotRunning := s.survey.pilotRunning.filter (fun o => !p o) } } : State).each gone
    (fun t o => t.inc (0x2620 + o) 0xB)

/-- The sample of an input in this period, before its ramp or fade is judged (R528, R532, R541, R542, R548). -/
def State.inputSample (s : State) (i prev : Nat) (received : List (Nat × Int)) : Rat × State :=
  if i < 64 then
    let r := s.row i
    if 0 < r.fade then (fadeValue r.fadeFrom (r.fade - 1), s.modRow i (fun x => { x with fade := x.fade - 1 }))
    else if s.dies ≤ i / 8 ∨ s.tdmState (i / 8) ≠ 1 then (0, s)
    else
      let x : Rat := match received.find? (fun e => e.1 = i) with | none => 0 | some e => clampInt (-8388608) 8388607 e.2
      match r.ramp with
      | none => (x, s)
      | some g => (scaleBy x g.value, s.modRow i (fun y => { y with ramp := g.next }))
  else if i < 112 then s.streamSample (i - 64) prev
  else if i < 120 then s.toneSample (i - 112)
  else
    let src := ((s.useBytes 0x6800 4).getD (i - 120) 0xFF).toNat
    (if 64 ≤ src then 0 else (s.xpo src).tap, s)

/-- Receive and judge the inputs of a list. -/
def State.takeInputs (s : State) (prev : Nat) (received : List (Nat × Int)) : List Nat → State
  | [] => s
  | i :: is => let p := s.inputSample i prev received
               (p.2.judgeInput i p.1).takeInputs prev received is

/-- A product aligned to the accumulator's 23 fraction bits: the manual does not state its rounding (log entry 3). -/
def alignProduct (x : Rat) (up : Bool) : Int := if x.den = 1 then x.num else x.floor + ofBool up

/-- The mix of an output: products of node gains and samples in a 48-bit saturating accumulator (R534). -/
def State.mixOf (s : State) (o : Nat) : Int :=
  s.audio.rows.foldl (fun (acc : Int) r => match s.nodeGain r.1 o with
    | none => acc
    | some g => clampInt (-(2 ^ 47)) (2 ^ 47 - 1) (acc + alignProduct (scaleBy r.2.level g) (bit (Config.freeNat s.free) r.1))) 0

/-- The equaliser (R544): without a band in use the sample passes. The manual names the standard biquad formulas and no
arithmetic for them, so the sample of an output with a band in use is free (log entry 22). -/
def State.equalise (s : State) (o : Nat) (x : Rat) : Rat :=
  let used := (List.range 10).any (fun b => field (s.useBytes (0x6A00 + o) 2) (8 * b) 1 ≠ 0)
  if s.use (0x6A00 + o) 1 = 1 ∧ used then (Config.freeInt s.free : Int) else x

/-- Ducking (R545): the gain of this period, and the output after it. -/
def State.duckStep (s : State) (o : Nat) (x : Rat) : Rat × State :=
  let i := 0x6A00 + o
  let src := s.use i 8
  let ps := if 128 ≤ src then [] else (magnitude (s.row src).level :: (s.xpo o).duckPeaks).take 480
  let hot := decide (src < 128) && s.nodeConnected src && reaches (ps.foldl max 0) (s.useI i 9)
  let depth : Rat := s.use i 0xA
  let d := (s.xpo o).duck
  let d1 : Rat := if hot then max (-depth) (d - depth / (48 * s.use i 0xB : Nat)) else min 0 (d + depth / (48 * s.use i 0xC : Nat))
  (if d1 = 0 then x else scaleBy x d1,
   (s.modXpo o (fun y => { y with duck := d1, duckPeaks := ps })).setReg i 0x14 (ofBool (decide (d1 < 0))))

/-- The limiter (R546): the reduction moves toward what the threshold needs, at any rate not below the attack's (a free value),
and releases at 6 dB per `limiter_release_ms`. -/
def State.limitStep (s : State) (o : Nat) (x : Rat) : Rat × State :=
  let i := 0x6A00 + o
  if s.use i 3 = 0 then (x, (s.modXpo o (fun y => { y with reduction := 0 })).setReg i 0x13 0)
  else
    let thr := s.useI i 4
    let m := magnitude x
    let exact := !atLeastDb m 23 (dbFloor m + 1) 1 && decide (m ≠ 0)
    let need : Rat := if reaches m thr then (dbFloor m - thr + ofBool (exact && Config.freeBool s.free) : Int) else 0
    let r := (s.xpo o).reduction
    let k := max 1 (48 * s.use i 5 / 1000)
    let q : Rat := ((1000 + Config.freeNat s.free % (1000 * (k - 1) + 1) : Nat) : Rat) / (1000 * k : Nat)
    let r1 : Rat := if r < need then r + (need - r) * q else max need (r - (5 : Nat) / (4 * s.use i 6 : Nat))
    let s1 := ((s.modXpo o (fun y => { y with reduction := r1 })).setRegI i 0x13 (roundRat r1 (Config.freeBool s.free))).useFree
    (if r1 = 0 then x else scaleBy x (-r1), if r = 0 ∧ 0 < r1 then s1.inc i 0x15 else s1)

/-- The mute ramp of an output after its delay (R530, R538): when it has reached mute, a changed delay comes into force and
the output ramps up again. -/
def State.muteStep (s : State) (o : Nat) (x : Rat) : Rat × State :=
  match (s.xpo o).mute with
  | none => (x, s)
  | some r => (scaleBy x r.value, s.modXpo o (fun y => match r.next with
    | some r1 => { y with mute := some r1 }
    | none => if r.goal = none then { y with delay := s.delaySamples o, mute := some (rampOver none (some 0) s.rampSamples) }
              else { y with mute := none }))

/-- The pilot of an output (R552, R661): 22 kHz at −70 dBFS while a measurement wants it and the port's amplifier is on, with
ramps of 1 ms. -/
def State.pilotStep (s : State) (o : Nat) : Int × State :=
  let live := s.reg (0x6A00 + o) 0x17 = 1
  let want := s.survey.pilotRunning.contains o && decide (s.use (0x6A00 + o) 0xD = 1 ∧ s.reg (0x6808 + o / 8) 0x10 = 1)
  let x := s.xpo o
  if !live ∧ !want then (0, s)
  else
    let x1 : XpOutput :=
      if !live then { x with pilot := some (rampOver none (some (-700)) 48), pilotAt := 0 }
      else if !want then match x.pilot with
        | none => { x with pilot := some (rampOver (some (-700)) none 48) }
        | some r => if r.goal = none then x else { x with pilot := some (rampOver (some r.value) none 48) }
      else x
    let g : Rat := (x1.pilot.map (fun (r : Ramp) => r.value)).getD (-700)
    let gone := match x1.pilot with | none => false | some r => decide (r.goal = none) && r.next.isNone
    let v := sineSample g (22000 * x1.pilotAt) s.free
    (v, ((s.modXpo o (fun _ => { x1 with pilotAt := x1.pilotAt + 1, pilot := x1.pilot.bind Ramp.next })).setReg (0x6A00 + o) 0x17
      (ofBool !gone)).useFree)

/-- Hand a computed sample to transmission: it leaves in the frame two periods later (R533), or as a slave port's FIFO has slipped (R532). -/
def State.transmit (s : State) (o : Nat) (z : Int) : State :=
  s.modXpo o (fun y => { y with transmit := y.transmit.drop 1 ++ [z] })

/-- One output in one sample period (R543): mix, equaliser, ducking, limiter, delay, mute ramp, pilot, rounding and clamp. -/
def State.outputStep (s : State) (o : Nat) : State :=
  if bit (s.reg 0x6800 8) (o / 8) then
    (s.modXpo o (fun y => { y with line := [], reduction := 0, tap := 0 })).transmit o 0
  else
    let s1 := s.useFree
    let d := s1.duckStep o (s1.equalise o (s.mixOf o))
    let l := d.2.limitStep o d.1
    let s2 := l.2.judgeOutput o l.1
    let line := (l.1 :: (s2.xpo o).line).take 4801
    let m := (s2.modXpo o (fun y => { y with line := line, eqRamp := y.eqRamp - 1 })).muteStep o (line.getD (s2.xpo o).delay 0)
    let p := (m.2.modXpo o (fun y => { y with tap := m.1 })).pilotStep o
    (p.2.transmit o (clampInt (-8388607) 8388607 (roundRat (m.1 + p.1) (Config.freeBool p.2.free)))).useFree

/-- The 24 bits an output's slot carries in this frame: its sample of two periods ago, or the amplifier command (R533, R550). -/
def State.slotWord (s : State) (o : Nat) : Int :=
  let p := o / 8
  if s.use (0x6808 + p) 7 = 2 ∧ s.use (0x6808 + p) 9 = o % 8 then s.use (0x6808 + p) (if s.reg (0x6808 + p) 0x10 = 1 then 0xA else 0xB)
  else (s.xpo o).transmit.headD 0

/-- The frame each running port transmits (R532, R533). -/
def State.sendFrame (s : State) : State :=
  { s with audio := { s.audio with
    sent := ((List.range 64).filter (fun o => decide (o / 8 < s.dies ∧ s.tdmState (o / 8) = 1))).map (fun o => (o, s.slotWord o)) } }

/-- Node ramps advance by one sample (R538). -/
def State.advanceRamps (s : State) : State :=
  { s with audio := { s.audio with rows := s.audio.rows.map (fun r =>
    (r.1, { r.2 with ramps := r.2.ramps.filterMap (fun e => e.2.next.map (fun g => (e.1, g))) })) } }

/-- A clock switch takes place once every output has reached mute (R530). -/
def State.switchClock (s : State) : State :=
  match s.audio.switching with
  | none => s
  | some k =>
    if s.audio.outputs.any (fun x => x.2.mute.any (fun (r : Ramp) => decide (r.goal = none))) then s
    else
      let back := decide (s.reg 0x6800 5 = 2 ∧ k = 1)
      let s1 := ({ s with audio := { s.audio with switching := none } } : State).setReg 0x6800 5 k
      let s2 := s1.abandonPilots (fun _ => true)
      if back then s2.event 0 0x0053 0xFFFF Status.ok 0xFF 6 0 else s2

/-- Amplifiers that are on report to their board budgets every 1 ms (R550). -/
def State.reportAmps (s : State) : State :=
  if s.reg 0x6800 6 % 48 ≠ 0 then s
  else s.each (s.dieList.filter (fun p => s.reg (0x6808 + p) 0x10 = 1 && decide (s.use (0x6808 + p) 0xD < 8))) (fun t p =>
    let b := t.use (0x6808 + p) 0xD
    { t with sapflow := { t.sapflow with
      windowDraw := Tab.put t.sapflow.windowDraw b (Tab.getD t.sapflow.windowDraw b 0 + t.use (0x6808 + p) 0xE) } })

/-- A sample period with every output 0: the interrupted period of R530, or a trunk succession (R555). -/
def State.silentPeriod (s : State) : State :=
  ((s.each (List.range 64) (fun t o => t.transmit o 0))).sendFrame

/-- SAMPLE_PERIOD (R530, R533, R534, R537, R539, R543): the crosspoint's work for one period of 1/48,000 s. -/
def execSamplePeriod (received : List (Nat × Int)) (s : State) : Host.Outcome State Fault Refusal :=
  if !s.serving then .next s
  else
    let prev := s.reg 0x6800 7
    let s1 := (s.setReg 0x6800 7 s.now).setReg 0x6800 6 (s.reg 0x6800 6 + 1)
    if s.health.succession then .next s1.silentPeriod
    else
      let s2 := if (s1.active.filter (fun e => isAudioIndex (e.1 / 256))) = (s1.taken.filter (fun e => isAudioIndex (e.1 / 256))) then s1
        else s1.audioUptake
      let due := (Tab.keys s2.audio.rows).filter (fun i => (s2.row i).pending.any (fun (t : Nat) => decide (t ≤ s2.now)))
      let s3 := s2.each due (fun t i => t.swapRow i ((t.row i).pending.getD 0) false)
      if s3.audio.lostZero then
        .next (({ s3 with audio := { s3.audio with lostZero := false } } : State).outputsFromMute.silentPeriod)
      else
        let s4 := s3.takeInputs prev received (List.range 128)
        let s5 := s4.each (List.range 64) (fun t o => t.outputStep o)
        let s6 := s5.advanceRamps.switchClock.judgeAmps
        let gates := ((List.range 8).filter (fun q => s6.sectionGated q)).foldl (fun (v q : Nat) => v + 2 ^ q) 0
        .next ((s6.setReg 0x6800 8 gates).sendFrame.reportAmps)

/-- TONE_REQUEST (R521, R542): a reflex request for a generator reaches the crosspoint. -/
def execToneRequest (gen : Nat) (s : State) : Host.Outcome State Fault Refusal :=
  if s.reflex.tones.contains gen then
    .next (({ s with reflex := { s.reflex with tones := s.reflex.tones.erase gen } } : State).requestTone gen)
  else .next s

/-- MCLK_LOST (R530): AUDIO_MCLK is in use and shows no edge for 1 µs. Where an uptake has already selected SYNTH and the switch
still waits for its ramp, the switch comes at once and no loss is reported. -/
def execMclkLost (s : State) : Host.Outcome State Fault Refusal :=
  if !s.serving ∨ s.reg 0x6800 5 ≠ 1 then .next s
  else if s.use 0x6800 1 = 0 then
    .next (({ (s.setReg 0x6800 5 0) with audio := { s.audio with lostZero := true, switching := none } } : State).abandonPilots (fun _ => true))
  else
    let s1 : State := { (s.setReg 0x6800 5 2) with audio := { s.audio with lostZero := true, switching := none } }
    .next ((s1.abandonPilots (fun _ => true)).event 0 0x0053 0xFFFF Status.ok 0xFF 5 0)

/-- MCLK_RESTORED (R530): AUDIO_MCLK has been good for 100 ms; every output ramps to mute, then the clock switches back. -/
def execMclkRestored (s : State) : Host.Outcome State Fault Refusal :=
  if !s.serving ∨ s.reg 0x6800 5 ≠ 2 ∨ s.use 0x6800 1 ≠ 1 ∨ s.audio.switching.isSome then .next s
  else
    let t := s.outputsToMute
    .next { t with audio := { t.audio with switching := some 1 } }

/-- The frames a slave port still has to send after a slip (R532): its next one dropped, or its last one sent again. The FIFO keeps within one
frame of its middle; what it receives is what SAMPLE_PERIOD delivers. -/
def slipped (dropped : Bool) (l : List Int) : List Int :=
  if dropped then (if l.length ≤ 2 then l else l.drop 1) else if 4 ≤ l.length then l else l.headD 0 :: l

/-- TDM_SLIP (R532): the FIFO of a slave port leaves 1 to 3 frames, and a frame is repeated or dropped on every slot. -/
def execTdmSlip (port : Nat) (dropped : Bool) (s : State) : Host.Outcome State Fault Refusal :=
  if !s.serving ∨ s.dies ≤ port ∨ s.tdmState port ≠ 1 ∨ s.use (0x6808 + port) 2 = 1 then .next s
  else
    let s1 := ((s.inc (0x6808 + port) 0x11).setReg (0x6808 + port) 0x13 s.now).portEvent port 1
    .next (s1.each ((List.range 8).map (8 * port + ·)) (fun t o => t.modXpo o (fun y => { y with transmit := slipped dropped y.transmit })))

/-- TDM_NO_CLOCK (R532): a slave port sees no BCLK edge for two frame periods; its inputs fade to 0 over 48 samples. -/
def execTdmNoClock (port : Nat) (s : State) : Host.Outcome State Fault Refusal :=
  if !s.serving ∨ s.dies ≤ port ∨ s.tdmState port ≠ 1 ∨ s.use (0x6808 + port) 2 = 1 then .next s
  else .next (((s.fadeInputs port).setReg (0x6808 + port) 0xF 2).portEvent port 2)

/-- TDM_CLOCK_RESTORED (R532): the port resynchronises at the second FSYNC, and its inputs ramp up from mute. -/
def execTdmClockRestored (port : Nat) (s : State) : Host.Outcome State Fault Refusal :=
  if !s.serving ∨ s.tdmState port ≠ 2 then .next s
  else
    let s1 := s.each ((List.range 8).map (8 * port + ·)) (fun t i =>
      t.modRow i (fun r => { r with fade := 0, ramp := some (rampOver none (some 0) t.rampSamples) }))
    .next ((s1.setReg (0x6808 + port) 0xF 1).portEvent port 3)

/-- The 24-bit samples of a BUFFER's data (R540). -/
def audioSamples (format : Nat) (bs : List Byte) : List Int :=
  if format = 1 then (List.range (bs.length / 2)).map (fun k => signedOf 16 (field bs (2 * k) 2) * 256)
  else (List.range (bs.length / 4)).map (fun k => signedOf 24 (field bs (4 * k + 1) 3))

/-- BUFFER (R540, R541): an entry that queues samples on its stream. -/
def execBuffer (e : Entry) (opcode addr length format bufFlags startTime : Nat) (reservedZero : Bool) (host : List Byte) (s : State) :
    Host.Outcome State Fault Refusal :=
  let target := (s.sq e.inst e.q).target
  if !s.canFetch e 3 then .next (s.fetchFails e 3)
  else
    let s1 := s.fetched e
    let size := if format = 1 then 2 else 4
    if opcode ≠ 1 ∨ !entryFlagsOk e ∨ !reservedZero ∨ format = 0 ∨ 3 < format ∨ 1 < bufFlags ∨ length < 4 ∨ 16777216 < length ∨
        length % size ≠ 0 then .next (s1.stopQueue e.inst e.q Status.range)
    else
      let raw := if bufFlags = 1 then s1.readIda (BusSource.audio.serving s.trunk e.inst) addr length else (host ++ List.replicate (length - host.length) 0).take length
      let before := (s.sq e.inst e.q).progress / size
      let b : AudioBuffer := {
        inst := e.inst, q := e.q, tag := e.tag, completion := entryCompletion e
        samples := audioSamples format raw, start := startTime, late := decide (startTime ≠ 0 ∧ startTime < s.now)
        started := decide (before ≠ 0), consumed := before, size := size }
      .next ((s1.modSq e.inst e.q (fun q => { q with progress := 0 })).modStream (target - 64) (fun x => { x with buffers := x.buffers ++ [b] }))

/-- AUDIO_STOP (R540, R541): an entry that fades its stream and ends its buffers ABORTED. -/
def execAudioStop (e : Entry) (reservedZero : Bool) (s : State) : Host.Outcome State Fault Refusal :=
  let target := (s.sq e.inst e.q).target
  if !s.canFetch e 3 then .next (s.fetchFails e 3)
  else
    let s1 := s.fetched e
    if !entryFlagsOk e ∨ !reservedZero then .next (s1.stopQueue e.inst e.q Status.range)
    else .next ((s1.stopStream (target - 64)).endEntry e.inst e.q e.tag (entryCompletion e) Status.ok)

/-- SILENCE_HOLD_EXPIRY (R549, R550): a node (input i, or 128 + o) has stayed below its threshold for its hold time. -/
def execSilenceHoldExpiry (node : Nat) (s : State) : Host.Outcome State Fault Refusal :=
  if !s.serving ∨ 192 ≤ node then .next s
  else
    let idx := if node < 128 then 0x6900 + node else 0x6A00 + (node - 128)
    let sub := if node < 128 then 0x48 else 0x11
    let hold := ms (s.use idx (if node < 128 then 0x47 else 0xF))
    let loudAt := if node < 128 then (s.row node).loudAt else (s.xpo (node - 128)).loudAt
    if s.reg idx sub = 1 then .next s
    else .next ((((s.arriveAt (loudAt + hold)).setReg idx sub 1).silenceEvent node 1).judgeAmps)

end Sys2Proof.Machine
end

