-- ==== Sys2Proof/Machine/Pixels.lean ====
section
/-! DEFINITION. The arithmetic of the pixel pipeline (R352 to R369), stage by stage, as functions of the values a pixel
meets. Components are 16-bit until stage 7 and 12-bit after it. -/
namespace Sys2Proof.Machine.Pixel

/-- R353: an n-bit component expanded to w bits by repeating its bit pattern from the top bit downward. -/
def expand (n w v : Nat) : Nat :=
  (List.range w).foldl (fun a j => 2 * a + ofBool (bit v (n - 1 - j % n))) 0

/-- A pixel: alpha and three components. -/
structure Argb where
  a : Nat
  r : Nat
  g : Nat
  b : Nat
deriving DecidableEq, Repr

/-- R352: formats a graphic layer or any layer may use. -/
def rgbFormat (f : Nat) : Bool := decide (1 ≤ f ∧ f ≤ 5)
/-- R352: formats of video layers only. -/
def videoOnlyFormat (f : Nat) : Bool := decide (0x10 ≤ f ∧ f ≤ 0x19)
/-- R352: formats of sprites. -/
def spriteFormat (f : Nat) : Bool := decide (f = 1 ∨ f = 3 ∨ f = 5)

/-- R352: twice the bytes per pixel B of a format. -/
def bytesX2 (f : Nat) : Nat :=
  if f = 3 ∨ f = 5 then 4
  else if f = 0x10 ∨ f = 0x14 then 3
  else if f = 0x11 ∨ f = 0x15 then 6
  else if f = 0x12 ∨ f = 0x16 then 4
  else 8

/-- Bytes of one luma (plane 0) pixel. -/
def plane0Bytes (f : Nat) : Nat :=
  if f = 3 ∨ f = 5 then 2
  else if f = 0x10 ∨ f = 0x12 ∨ f = 0x14 ∨ f = 0x16 then 1
  else if f = 0x11 ∨ f = 0x13 ∨ f = 0x15 ∨ f = 0x17 then 2
  else 4

/-- Chroma is halved horizontally. -/
def halfX (f : Nat) : Bool := decide (0x10 ≤ f ∧ f ≤ 0x17)
/-- Chroma is halved vertically (4:2:0). -/
def halfY (f : Nat) : Bool := decide (f = 0x10 ∨ f = 0x11 ∨ f = 0x14 ∨ f = 0x15)
/-- Semi-planar: plane 1 holds CbCr pairs. -/
def semiPlanar (f : Nat) : Bool := decide (0x10 ≤ f ∧ f ≤ 0x13)
/-- Number of planes of a format. -/
def planes (f : Nat) : Nat := if semiPlanar f then 2 else if 0x14 ≤ f ∧ f ≤ 0x17 then 3 else 1
/-- Bytes of one chroma plane sample position: a pair in a semi-planar format. -/
def chromaBytes (f : Nat) : Nat := (if semiPlanar f then 2 else 1) * plane0Bytes f

/-- Stage 1: a packed word expanded to 16 bits (R352, R353). Formats 0x18 and 0x19 give Y, Cb, Cr in r, g, b. -/
def unpack (f w : Nat) : Argb :=
  if f = 1 then ⟨expand 8 16 (bits w 31 24), expand 8 16 (bits w 23 16), expand 8 16 (bits w 15 8), expand 8 16 (bits w 7 0)⟩
  else if f = 2 then ⟨65535, expand 8 16 (bits w 23 16), expand 8 16 (bits w 15 8), expand 8 16 (bits w 7 0)⟩
  else if f = 3 then ⟨65535, expand 5 16 (bits w 15 11), expand 6 16 (bits w 10 5), expand 5 16 (bits w 4 0)⟩
  else if f = 4 then ⟨expand 2 16 (bits w 31 30), expand 10 16 (bits w 29 20), expand 10 16 (bits w 19 10), expand 10 16 (bits w 9 0)⟩
  else if f = 5 then ⟨expand 1 16 (bits w 15 15), expand 5 16 (bits w 14 10), expand 5 16 (bits w 9 5), expand 5 16 (bits w 4 0)⟩
  else if f = 0x18 then ⟨expand 8 16 (bits w 31 24), expand 8 16 (bits w 23 16), expand 8 16 (bits w 15 8), expand 8 16 (bits w 7 0)⟩
  else ⟨expand 2 16 (bits w 31 30), expand 10 16 (bits w 19 10), expand 10 16 (bits w 9 0), expand 10 16 (bits w 29 20)⟩

/-- A planar sample expanded to 16 bits: 8-bit bytes, or 10 bits in bits 15:6 of a word (R352). -/
def unpackSample (f w : Nat) : Nat := if plane0Bytes f = 2 then expand 10 16 (bits w 15 6) else expand 8 16 (bits w 7 0)

/-- R355: the step of an axis. -/
def step (src dst : Nat) : Nat := src * 65536 / dst
/-- R355: the source position of output j, in 1/65,536 of a luma pixel. -/
def position (off src dst j : Nat) : Int :=
  (off * 65536 + step src dst / 2 + j * step src dst : Nat) - 32768
/-- R357: the chroma position of a luma position on a subsampled axis. -/
def chromaPosition (p : Int) (centred : Bool) : Int := (p - (if centred then 32768 else 0)) / 2
/-- R355: tap base of a position. -/
def tapBase (p : Int) : Int := p / 65536
/-- R355: phase of a position. -/
def phase (p : Int) : Nat := ((p / 1024) % 64).toNat

/-- R356: the horizontal taps (k = −2 to 3) of a filter at a phase. -/
def horizontalTaps (filter : Nat) (custom : List Byte) (ph : Nat) : List Int :=
  if filter = 0 then Filter.horizontal.getD ph []
  else if filter = 1 then [0, 0, 16 * (64 - ph : Int), 16 * ph, 0, 0]
  else if filter = 2 then (if ph < 32 then [0, 0, 1024, 0, 0, 0] else [0, 0, 0, 1024, 0, 0])
  else (List.range 6).map (fun k => signedOf 16 (field custom (2 * (6 * ph + k)) 2))

/-- R356: the vertical taps (k = −1 to 2) of a filter at a phase. -/
def verticalTaps (filter : Nat) (custom : List Byte) (ph : Nat) : List Int :=
  if filter = 0 then Filter.vertical.getD ph []
  else if filter = 1 then [0, 16 * (64 - ph : Int), 16 * ph, 0]
  else if filter = 2 then (if ph < 32 then [0, 1024, 0, 0] else [0, 0, 1024, 0])
  else (List.range 4).map (fun k => signedOf 16 (field custom (768 + 2 * (4 * ph + k)) 2))

/-- R356: a CUSTOM set is accepted when every phase sums to 1,024. -/
def customOk (custom : List Byte) : Bool :=
  decide (custom.length = 1280) &&
  (List.range 64).all (fun ph => decide ((horizontalTaps 3 custom ph).sum = 1024) && decide ((verticalTaps 3 custom ph).sum = 1024))

/-- R355: one pass over taps and samples, clamped to 0 to 65,535. -/
def filterPass (taps : List Int) (samples : List Nat) : Nat :=
  (clampInt 0 65535 (((List.zipWith (fun c x => c * (x : Int)) taps samples).sum + 512) / 1024)).toNat

/-- R355: a tap outside the source rectangle reads the nearest sample inside it. -/
def nearest (off n : Nat) (i : Int) : Nat := (clampInt off (off + n - 1) i).toNat

/-- R355: scale one axis: the pass over six horizontal taps from column i − 2. `get` reads a source column. -/
def scaleH (get : Nat → Nat) (off n filter : Nat) (custom : List Byte) (p : Int) : Nat :=
  filterPass (horizontalTaps filter custom (phase p)) ((List.range 6).map (fun (k : Nat) => get (nearest off n (tapBase p - 2 + k))))
/-- R355: the pass over four vertical taps from line i − 1. -/
def scaleV (get : Nat → Nat) (off n filter : Nat) (custom : List Byte) (p : Int) : Nat :=
  filterPass (verticalTaps filter custom (phase p)) ((List.range 4).map (fun (k : Nat) => get (nearest off n (tapBase p - 1 + k))))

/-- Nearest integer of a quotient, halves upward (log entry 20). -/
def roundDiv (n : Int) (d : Int) : Int := (2 * n + d) / (2 * d)

/-- R358: (Kr, Kb) in 1/10,000. -/
def krKb (coeff : Nat) : Int × Int := if coeff = 0 then (2990, 1140) else if coeff = 1 then (2126, 722) else (2627, 593)

/-- R358: conversion of Y, Cb, Cr to R, G, B with coefficients rounded to the nearest 1/8,192. -/
def toRgb (coeff : Nat) (full : Bool) (y cb cr : Nat) : Nat × Nat × Nat :=
  let kr := (krKb coeff).1
  let kb := (krKb coeff).2
  let kg := 10000 - kr - kb
  let yb : Int := if full then 0 else 4096
  let ys : Int := if full then 65535 else 56064
  let cs : Int := if full then 65535 else 57344
  let rv := roundDiv (8192 * 2 * (10000 - kr)) 10000
  let bu := roundDiv (8192 * 2 * (10000 - kb)) 10000
  let gv := roundDiv (8192 * 2 * kr * (10000 - kr)) (kg * 10000)
  let gu := roundDiv (8192 * 2 * kb * (10000 - kb)) (kg * 10000)
  let u : Int := (cb : Int) - 32768
  let v : Int := (cr : Int) - 32768
  let comp (m : Int) : Nat :=
    (clampInt 0 65535 (roundDiv (65535 * (((y : Int) - yb) * 8192 * cs + m * ys)) (ys * 8192 * cs))).toNat
  (comp (rv * v), comp (-(gv * v) - gu * u), comp (bu * u))

/-- R360: the pre-blend table of one component (1,024 entries). -/
def preTable (e : Nat → Int) (c : Nat) : Nat :=
  let i := c / 64
  let f := c % 64
  (e i + ((e (min 1023 (i + 1)) - e i) * f + 32) / 64).toNat

/-- R363: the post-blend table of one component (4,096 entries). -/
def postTable (e : Nat → Int) (c : Nat) : Nat :=
  let i := c / 16
  let f := c % 16
  (e i + ((e (min 4095 (i + 1)) - e i) * f + 8) / 16).toNat

/-- Entry i of component k (0 R, 1 G, 2 B) of a table of n U16 entries per component. -/
def tableEntry (t : List Byte) (n k i : Nat) : Int := (field t (2 * (n * k + i)) 2 : Nat)

/-- R361: one component blended; mode 0 OPAQUE, 1 PREMULTIPLIED, 2 STRAIGHT; `m` is 65,535, or 4,095 for sprites (R367). -/
def blend (m mode g a c d : Nat) : Nat :=
  let ae := if mode = 0 then g else (a * g + m / 2) / m
  if mode = 2 then (c * ae + d * (m - ae) + m / 2) / m
  else min m ((c * g + m / 2) / m + (d * (m - ae) + m / 2) / m)

/-- R362: one row of the colour matrix. -/
def matrixRow (m0 m1 m2 o : Int) (r g b : Nat) : Nat :=
  (clampInt 0 65535 ((m0 * r + m1 * g + m2 * b + o * 65535 + 32768) / 65536)).toNat

/-- R362: coefficients lie between −8.0 and +8.0 and offsets between −1.0 and +1.0. -/
def matrixOk (m : List Byte) : Bool :=
  decide (m.length = 48) &&
  (List.range 12).all (fun k => let v := signedOf 32 (field m (4 * k) 4)
    if k % 4 = 3 then decide (-65536 ≤ v ∧ v ≤ 65536) else decide (-524288 ≤ v ∧ v ≤ 524288))

/-- R364: stage 7. -/
def to12 (c : Nat) : Nat := min 4095 ((c + 8) / 16)

/-- R364: the dither matrix. -/
def ditherAt (x y : Nat) : Nat :=
  ([[0, 8, 2, 10], [12, 4, 14, 6], [3, 11, 1, 9], [15, 7, 13, 5]].getD (y % 4) []).getD (x % 4) 0

/-- R364: stage 9 at a bits-per-component setting with threshold t. -/
def quantise (bpc t p : Nat) : Nat := if bpc = 10 then min 1023 ((p + 2) / 4) else min 255 ((p + t) / 16)

/-- R401: the 32-bit word a pixel contributes to a signature. -/
def signatureWord (r g b : Nat) : Nat := r * 2 ^ 20 + g * 2 ^ 10 + b

end Sys2Proof.Machine.Pixel
end

