-- ==== Sys2Proof/Machine/Assets.lean ====
section
/-! DEFINITION. The asset store and the region scripts of Heartwood (R404, R405) as functions of their bytes. -/
namespace Sys2Proof.Machine.Assets

/-- Entry i of an asset store: (id, type, offset, length) (R404). -/
def entry (st : List Byte) (i : Nat) : Nat × Nat × Nat × Nat :=
  (field st (32 + 16 * i) 2, field st (34 + 16 * i) 1, field st (36 + 16 * i) 4, field st (40 + 16 * i) 4)

/-- The bytes of an asset. -/
def bytes (st : List Byte) (e : Nat × Nat × Nat × Nat) : List Byte := slice st e.2.2.1 e.2.2.2

/-- The asset of an id and type. -/
def find (st : List Byte) (id type : Nat) : Option (List Byte) :=
  ((List.range (field st 6 2)).map (entry st)).find? (fun e => e.1 = id && e.2.1 = type) |>.map (bytes st)

/-- A font record at place k: (code, width, height, x_off, y_off, advance, bitmap offset). -/
structure Glyph where
  code    : Nat
  width   : Nat
  height  : Nat
  xOff    : Int
  yOff    : Int
  advance : Nat
  offset  : Nat
deriving DecidableEq, Repr

/-- Glyph record k of a font asset (R404). -/
def glyphAt (a : List Byte) (k : Nat) : Glyph :=
  let o := 8 + 12 * k
  { code := field a o 2, width := field a (o + 2) 1, height := field a (o + 3) 1, xOff := signedOf 8 (field a (o + 4) 1),
    yOff := signedOf 8 (field a (o + 5) 1), advance := field a (o + 6) 1, offset := field a (o + 8) 4 }

/-- The glyphs of a font asset. -/
def glyphs (a : List Byte) : List Glyph := (List.range (field a 0 2)).map (glyphAt a)

/-- A font asset meets R404. -/
def fontOk (a : List Byte) : Bool :=
  let gs := glyphs a
  decide (8 ≤ a.length ∧ 8 + 12 * gs.length ≤ a.length) && allZero (slice a 2 6) &&
  decide ((gs.map (·.code)).Pairwise (· < ·)) &&
  (List.range gs.length).all (fun k => decide (field a (8 + 12 * k + 7) 1 = 0)) &&
  gs.all (fun g => decide (g.offset + g.width * g.height ≤ a.length))

/-- A bitmap asset meets R404. -/
def bitmapOk (a : List Byte) : Bool :=
  let w := field a 0 2
  let h := field a 2 2
  decide (1 ≤ w ∧ w ≤ 1024 ∧ 1 ≤ h ∧ h ≤ 256 ∧ a.length = 8 + 4 * w * h) && allZero (slice a 4 4)

/-- R404: an asset store is accepted. -/
def storeOk (st : List Byte) : Bool :=
  let n := field st 6 2
  let es := (List.range n).map (entry st)
  decide (32 ≤ st.length ∧ field st 0 4 = 0x54455341 ∧ field st 4 2 = 1 ∧ 1 ≤ n ∧ n ≤ 256 ∧ field st 8 4 = st.length ∧
    st.length ≤ 4194304 ∧ 32 + 16 * n ≤ st.length) &&
  allZero (slice st 12 20) && decide ((es.map (·.1)).Pairwise (· < ·)) &&
  (List.range n).all (fun i => decide (field st (35 + 16 * i) 1 = 0 ∧ field st (44 + 16 * i) 4 = 0)) &&
  es.all (fun e => decide (1 ≤ e.1 ∧ e.2.2.1 + e.2.2.2 ≤ st.length) &&
    (if e.2.1 = 1 then fontOk (bytes st e) else if e.2.1 = 2 then bitmapOk (bytes st e) else false))

/-- Width, height of a bitmap asset. -/
def bitmapSize (a : List Byte) : Nat × Nat := (field a 0 2, field a 2 2)
/-- ARGB8888 word of a bitmap asset at (x, y). -/
def bitmapWord (a : List Byte) (x y : Nat) : Nat := field a (8 + 4 * (y * field a 0 2 + x)) 4

/-- One operation of a script: its bytes (R405). -/
def operations : Nat → List Byte → List (List Byte)
  | 0, _ => []
  | n + 1, bs =>
    if bs = [] then [] else let l := max 4 (field bs 2 2); bs.take l :: operations n (bs.drop l)

/-- The operations of a script. -/
def scriptOps (sc : List Byte) : List (List Byte) := operations (field sc 6 2) (sc.drop 16)

/-- Codes of a GLYPH_RUN. -/
def runCodes (op : List Byte) : List Nat := (List.range (field op 14 2)).map (fun k => field op (16 + 2 * k) 2)

/-- One operation meets R405, with the assets it names present in the store (check 4 of R398). -/
def opOk (st op : List Byte) : Bool :=
  let k := field op 0 1
  let l := field op 2 2
  decide (field op 1 1 = 0 ∧ l = op.length) &&
  (if k = 1 then decide (l = 16)
   else if k = 2 then
     let n := field op 14 2
     decide (1 ≤ n ∧ n ≤ 255 ∧ l = (16 + 2 * n + 3) / 4 * 4) && allZero (op.drop (16 + 2 * n)) &&
     (match find st (field op 12 2) 1 with
      | none => false
      | some a => (runCodes op).all (fun c => (glyphs a).any (fun g => g.code = c)))
   else if k = 3 then decide (l = 12 ∧ field op 6 2 = 0) && (find st (field op 4 2) 2).isSome
   else false)

/-- R405 and check 4 of R398: a script is accepted with a store. -/
def scriptOk (st sc : List Byte) : Bool :=
  let ops := scriptOps sc
  let n := field sc 6 2
  decide (16 ≤ sc.length ∧ sc.length ≤ 16384 ∧ field sc 0 4 = 0x43535748 ∧ field sc 4 2 = 1 ∧ 1 ≤ n ∧ n ≤ 256 ∧
    field sc 8 4 = sc.length ∧ sc.length % 4 = 0 ∧ ops.length = n ∧ 16 + (ops.map List.length).sum = sc.length ∧
    ((ops.filter (fun o => field o 0 1 = 2)).map (fun o => field o 14 2)).sum ≤ 512) &&
  ops.all (opOk st)

/-- R, G, B of an XRGB8888 word. -/
def rgb8 (w : Nat) : Nat × Nat × Nat := (bits w 23 16, bits w 15 8, bits w 7 0)

/-- R405: one component under a glyph's coverage. -/
def cover (colour current a : Nat) : Nat := (colour * a + current * (255 - a) + 127) / 255

/-- The glyphs of a run in order, each at its pen position, acting on the pixel (x, y). -/
def runPixel (font : List Byte) (colour : Nat × Nat × Nat) (y0 : Int) (x y : Int) :
    List Nat → Int → Nat × Nat × Nat → Nat × Nat × Nat
  | [], _, p => p
  | c :: cs, pen, p =>
    match (glyphs font).find? (fun g => g.code = c) with
    | none => runPixel font colour y0 x y cs pen p
    | some g =>
      let i := x - (pen + g.xOff)
      let j := y - (y0 + g.yOff)
      let p1 := if 0 ≤ i ∧ i < g.width ∧ 0 ≤ j ∧ j < g.height then
          let a := field font (g.offset + (j.toNat * g.width + i.toNat)) 1
          (cover colour.1 p.1 a, cover colour.2.1 p.2.1 a, cover colour.2.2 p.2.2 a)
        else p
      runPixel font colour y0 x y cs (pen + g.advance) p1

/-- R405: one operation acting on the pixel (x, y) of the region. -/
def opPixel (st : List Byte) (x y : Nat) (p : Nat × Nat × Nat) (op : List Byte) : Nat × Nat × Nat :=
  let k := field op 0 1
  if k = 1 then
    let x0 := field op 4 2
    let y0 := field op 6 2
    if x0 ≤ x ∧ x < x0 + field op 8 2 ∧ y0 ≤ y ∧ y < y0 + field op 10 2 then rgb8 (field op 12 4) else p
  else if k = 2 then
    match find st (field op 12 2) 1 with
    | none => p
    | some a => runPixel a (rgb8 (field op 8 4)) (signedOf 16 (field op 6 2)) x y (runCodes op) (signedOf 16 (field op 4 2)) p
  else
    match find st (field op 4 2) 2 with
    | none => p
    | some a =>
      let i := (x : Int) - signedOf 16 (field op 8 2)
      let j := (y : Int) - signedOf 16 (field op 10 2)
      if 0 ≤ i ∧ i < (bitmapSize a).1 ∧ 0 ≤ j ∧ j < (bitmapSize a).2 then rgb8 (bitmapWord a i.toNat j.toNat) else p

/-- R403: the canvas pixel (x, y) of a script, 8 bits per component. -/
def canvasPixel (st sc : List Byte) (x y : Nat) : Nat × Nat × Nat :=
  (scriptOps sc).foldl (opPixel st x y) (rgb8 (field sc 12 4))

end Sys2Proof.Machine.Assets
end

