-- ==== Sys2Proof/Machine/ComposeOps.lean ====
section
/-! DEFINITION. Layers, sprites and their checks (R350 to R372), fetch rates, Canopy eligibility (R378 to R391). -/
namespace Sys2Proof.Machine

/-- The composing die of a head: its own, or the lender (R402). -/
def State.composingDie (s : State) (h : Nat) : Nat :=
  let d := h / 2
  let l := s.reg (0x2708 + d) 3
  if s.coreActive d ∨ l = 0xFF then d else l

/-- Layer register. -/
def State.layer (s : State) (l sub : Nat) : Nat := s.reg (0x4000 + l) sub
/-- Sprite register. -/
def State.sprite (s : State) (n sub : Nat) : Nat := s.reg (0x4100 + n) sub
/-- Video layers are locals 0 to 7 (R350). -/
def isVideo (l : Nat) : Bool := decide (l % 32 < 8)
/-- A layer has left the other head and has not yet joined the one it names (R350). -/
def State.layerJoins (s : State) (l : Nat) : Bool := (s.head (s.layerHead l)).joining.contains l
/-- Layers of a die assigned to a head (R350). -/
def State.layersOf (s : State) (h : Nat) : List Nat :=
  ((List.range 32).map (fun k => 32 * (h / 2) + k)).filter (fun l => decide (s.layerHead l = h) && !s.layerJoins l)
/-- Enabled layers of a head. -/
def State.enabledLayers (s : State) (h : Nat) : List Nat := (s.layersOf h).filter (fun l => decide (s.layer l 2 = 1))
/-- Sprites of a head. -/
def spritesOf (h : Nat) : List Nat := (List.range 8).map (fun n => 8 * h + n)
/-- Enabled regions of a head. -/
def State.enabledRegions (s : State) (h : Nat) : List Nat :=
  ((List.range 8).map (fun n => 8 * h + n)).filter (fun r => decide (s.use (0x4300 + r) 1 = 1))
/-- A layer is the Heartwood layer of an enabled region (R394). -/
def State.heartwoodLayer (s : State) (l : Nat) : Bool :=
  (s.enabledRegions (s.layerHead l)).any (fun r => decide (s.use (0x4300 + r) 6 = l % 32))

/-- Horizontal total of a mode (R275). -/
def HeadMode.htotal (m : HeadMode) : Nat := m.hActive + m.hFront + m.hSync + m.hBack
/-- Fixed vertical total of a mode (R275). -/
def HeadMode.vtFixed (m : HeadMode) : Nat := m.vActive + m.vFront + m.vSync + m.vBack

/-- Quotient rounded up. -/
def ceilDiv (a b : Nat) : Nat := (a + b - 1) / b

/-- Fetch rate in MB/s of a source of `b2`/2 bytes per pixel at a mode (R371). -/
def fetchRate (b2 srcW srcH dstH : Nat) (m : HeadMode) : Nat :=
  ceilDiv (b2 * srcW * max dstH srcH * (m.pixelKhz * 1000)) (2 * max 1 dstH * max 1 m.htotal * 1000000)

/-- Fetch rate of a layer at a mode; 0 when disabled (R371, 0x4000.1C). A Heartwood layer counts with B = 4 (R394). -/
def State.layerRate (s : State) (l : Nat) (m : HeadMode) : Nat :=
  if s.layer l 2 ≠ 1 then 0
  else if s.heartwoodLayer l then fetchRate 8 (s.layer l 0xD) 1 1 m
  else fetchRate (Pixel.bytesX2 (s.layer l 3)) (s.layer l 0xD) (s.layer l 0xE) (s.layer l 0x12) m

/-- The mode a head runs, the even head's on a pair (R300). -/
def State.modeOf (s : State) (h : Nat) : HeadMode :=
  if (s.head (h / 2 * 2)).pairedTaken then (s.head (h / 2 * 2)).mode else (s.head h).mode

/-- Fetch sum of one head. -/
def State.headFetch (s : State) (h : Nat) (m : HeadMode) : Nat := ((s.layersOf h).map (fun l => s.layerRate l m)).sum
/-- The heads that a die's composer serves: its own and, under lending, those it has borrowed (R373). -/
def State.composedBy (s : State) (d : Nat) : List Nat := (List.range (2 * s.dies)).filter (fun h => decide (s.composingDie h = d))
/-- Fetch sum of the heads a die composes (R371, R372), each at its own mode. -/
def State.dieFetch (s : State) (d : Nat) : Nat := ((s.composedBy d).map (fun h => s.headFetch h (s.modeOf h))).sum

/-- Bytes of a sprite image rounded up to 4 KiB (R368). -/
def State.spriteBytes (s : State) (n : Nat) : Nat :=
  let one := ceilDiv (s.sprite n 3 * s.sprite n 4 * (Pixel.bytesX2 (s.sprite n 2) / 2)) 4096 * 4096
  one + (if s.sprite n 8 = 2 ^ 64 - 1 then 0 else one)
/-- Bytes of the pool that the images of an arrived commit take, each rounded up to 4 KiB (R368). -/
def PendingCommit.poolBytes (p : PendingCommit) : Nat :=
  (p.images.flatMap (fun e => e.2.map (fun b => ceilDiv b.length 4096 * 4096))).sum
/-- Sprite pool use of a die in bytes: the latched images, and from their arrival until they latch those of its heads' commits (R368). -/
def State.poolUse (s : State) (d : Nat) : Nat :=
  ((spritesOf (2 * d) ++ spritesOf (2 * d + 1)).map s.spriteBytes).sum +
  (((s.head (2 * d)).pending ++ (s.head (2 * d + 1)).pending).map PendingCommit.poolBytes).sum

/-- One plane of a layer: address and pitch multiples of 64, pitch at least one source line, last byte below the quota. -/
def planeOk (addr pitch lineBytes x0Bytes lastLine quota : Nat) : Bool :=
  decide (addr % 64 = 0 ∧ pitch % 64 = 0 ∧ lineBytes ≤ pitch ∧ addr + pitch * lastLine + x0Bytes + lineBytes ≤ quota)

/-- Check 3 of R371 on one enabled layer, under the quota of the instance whose memory it is fetched from. -/
def State.planesOk (s : State) (l q : Nat) : Bool :=
  let f := s.layer l 3
  let b := Pixel.plane0Bytes f
  let x := s.layer l 0xB
  let y := s.layer l 0xC
  let w := s.layer l 0xD
  let h := s.layer l 0xE
  let hx := if Pixel.halfX f then 2 else 1
  let hy := if Pixel.halfY f then 2 else 1
  let c := Pixel.chromaBytes f
  planeOk (s.layer l 5) (s.layer l 6) (w * b) (x * b) (y + h - 1) q &&
  (decide (Pixel.planes f < 2) || planeOk (s.layer l 7) (s.layer l 8) (w / hx * c) (x / hx * c) ((y + h) / hy - 1) q) &&
  (decide (Pixel.planes f < 3) || planeOk (s.layer l 9) (s.layer l 0xA) (w / hx * c) (x / hx * c) ((y + h) / hy - 1) q)

/-- Check 2 of R371 on one enabled layer: sizes, scale ratios, graphic sizes, subsampling alignment, CUSTOM sums. -/
def State.sizesOk (s : State) (l : Nat) : Bool :=
  let f := s.layer l 3
  let sw := s.layer l 0xD
  let sh := s.layer l 0xE
  let dw := s.layer l 0x11
  let dh := s.layer l 0x12
  let ok1 (v : Nat) : Bool := decide (1 ≤ v ∧ v ≤ 4096)
  ok1 sw && ok1 sh && ok1 dw && ok1 dh &&
  (if isVideo l then decide (sw ≤ 4 * dw ∧ dw ≤ 8 * sw ∧ sh ≤ 4 * dh ∧ dh ≤ 8 * sh) else decide (dw = sw ∧ dh = sh)) &&
  (!Pixel.halfX f || decide (s.layer l 0xB % 2 = 0 ∧ sw % 2 = 0)) &&
  (!Pixel.halfY f || decide (s.layer l 0xC % 2 = 0 ∧ sh % 2 = 0)) &&
  (decide (s.layer l 0x18 ≠ 3) || Pixel.customOk (s.regBytes (0x4000 + l) 0x1B))

/-- On a graphic layer the scaling and YCbCr entries keep their defaults (R376). -/
def State.graphicOk (s : State) (l : Nat) : Bool :=
  isVideo l || [7, 8, 9, 0xA, 0x15, 0x16, 0x17, 0x18, 0x1B].all (fun k =>
    decide (s.liveAt (0x4000 + l) k = defaultAt s.part s.grade (0x4000 + l) k))

/-- Check 3 of R371 on one enabled sprite, under the quota of the instance whose memory its images lie in. -/
def State.spriteOk (s : State) (n q : Nat) : Bool :=
  let b := Pixel.bytesX2 (s.sprite n 2) / 2
  let w := s.sprite n 3
  let h := s.sprite n 4
  let image (a : Nat) : Bool := planeOk a (s.sprite n 9) (w * b) 0 (h - 1) q
  image (s.sprite n 7) && (decide (s.sprite n 8 = 2 ^ 64 - 1) || image (s.sprite n 8))

/-- Layers that R371 checks: enabled ones that are no Heartwood layer. -/
def State.checkedLayers (s : State) (h : Nat) : List Nat := (s.enabledLayers h).filter (fun l => !s.heartwoodLayer l)
/-- Sprites that R371 checks: enabled ones. -/
def State.checkedSprites (s : State) (h : Nat) : List Nat := (spritesOf h).filter (fun n => decide (s.sprite n 1 = 1))

/-- The composition checks of R371 on the latched state `s` of the heads a commit is for, without check 9: each check on every head before the
next one. `quota` gives the quota of the instance that a layer (by number) or a sprite (256 + number) is fetched from, and `pool` the bytes that
the sprite pool would hold. -/
def State.composeCheck (s : State) (hs : List Nat) (quota : Nat → Nat) (pool : Nat) : Nat :=
  let ls := hs.flatMap s.checkedLayers
  let sp := hs.flatMap s.checkedSprites
  let rate := fun (h : Nat) => ((s.checkedLayers h).filter isVideo).all (fun l =>
    decide (s.layer l 0xD * max (s.layer l 0x12) (s.layer l 0xE) * ((s.modeOf h).pixelKhz * 1000) ≤ 1600000000 * s.layer l 0x12 * (s.modeOf h).htotal))
  let z := fun (h : Nat) => decide (((s.checkedLayers h).map (fun l => s.layer l 4)).Nodup) && (s.checkedLayers h).all (fun l => decide (s.layer l 4 ≤ 31))
  if !(ls.all (fun l => Pixel.rgbFormat (s.layer l 3) || (isVideo l && Pixel.videoOnlyFormat (s.layer l 3))) &&
       sp.all (fun n => Pixel.spriteFormat (s.sprite n 2))) then Status.range
  else if !(ls.all (fun l => s.sizesOk l && s.graphicOk l)) then Status.range
  else if !(ls.all (fun l => s.planesOk l (quota l)) && sp.all (fun n => s.spriteOk n (quota (256 + n)))) then Status.range
  else if !(hs.all z) then Status.range
  else if !(hs.all rate) then Status.range
  else if !(sp.all (fun n => decide (1 ≤ s.sprite n 3 ∧ s.sprite n 3 ≤ 256 ∧ 1 ≤ s.sprite n 4 ∧ s.sprite n 4 ≤ 256))) then Status.range
  else if 2097152 < pool then Status.busy
  else if hs.any (fun h => decide (25600 < s.dieFetch (s.composingDie h))) then Status.busy
  else Status.ok

/-! ### Canopy -/

/-- Canopy register of a head. -/
def State.canopyReg (s : State) (h sub : Nat) : Nat := s.reg (0x4200 + h) sub
/-- Enabled member layers of a head (R378). -/
def State.membersOf (s : State) (h : Nat) : List Nat :=
  (s.enabledLayers h).filter (fun l => bit (s.canopyReg h 5) (l % 32))

/-- R378: a members value is refused when it sets bits 7:0, names a layer of another head, or a Heartwood layer. -/
def State.membersOk (s : State) (h v : Nat) : Bool :=
  decide (v % 256 = 0) && (List.range 32).all (fun k => !bit v k ||
    (decide (s.layerHead (32 * (h / 2) + k) = h) && !s.heartwoodLayer (32 * (h / 2) + k)))

/-- R385: the box of the enabled members clipped to the active area: (x, y, width, height). -/
def State.canopyBox (s : State) (h : Nat) : Nat × Nat × Nat × Nat :=
  let m := s.modeOf h
  let ls := s.membersOf h
  let xs := ls.map (fun l => clampInt 0 m.hActive (s.regI (0x4000 + l) 0xF))
  let xe := ls.map (fun l => clampInt 0 m.hActive (s.regI (0x4000 + l) 0xF + s.layer l 0x11))
  let ys := ls.map (fun l => clampInt 0 m.vActive (s.regI (0x4000 + l) 0x10))
  let ye := ls.map (fun l => clampInt 0 m.vActive (s.regI (0x4000 + l) 0x10 + s.layer l 0x12))
  let x0 := xs.foldl min (m.hActive : Int)
  let y0 := ys.foldl min (m.vActive : Int)
  (x0.toNat, y0.toNat, (xe.foldl max 0 - x0).toNat, (ye.foldl max 0 - y0).toNat)

/-- R385: bytes of the surface. -/
def State.surfaceBytes (s : State) (h : Nat) : Nat :=
  let b := s.canopyBox h
  ceilDiv (6 * b.2.2.1) 64 * 64 * b.2.2.2
/-- Fetch rate of the surface: R371 with B = 6. -/
def State.surfaceRate (s : State) (h : Nat) : Nat := fetchRate 12 (s.canopyBox h).2.2.1 1 1 (s.modeOf h)
/-- Sum of the enabled members' fetch rates. -/
def State.memberRate (s : State) (h : Nat) : Nat := ((s.membersOf h).map (fun l => s.layerRate l (s.modeOf h))).sum

/-- The fetch registers of a die after a latch or uptake (0x4000.1C, 0x3h0A, R372), with those of the heads composed beside its own, and what a
surface in use saves (0x4200.09). -/
def State.refreshFetch (s : State) (d : Nat) : State :=
  let s1 := s.each ((List.range 32).map (fun k => 32 * d + k)) (fun t l =>
    t.setReg (0x4000 + l) 0x1C (if t.layerJoins l then 0 else t.layerRate l (t.modeOf (t.layerHead l))))
  s1.each ((List.range (2 * s.dies)).filter (fun h => decide (h / 2 = d ∨ s.composingDie h = s.composingDie (2 * d)))) (fun t h =>
    let sum := t.dieFetch (t.composingDie h)
    let u := ((t.setReg (0x300A + 256 * h) 1 (t.headFetch h (t.modeOf h))).setReg (0x300A + 256 * h) 2 sum).setReg (0x300A + 256 * h) 3
      (ofBool (decide (25600 < sum)))
    if t.canopyReg h 6 = 4 then u.setReg (0x4200 + h) 9 (t.memberRate h - t.surfaceRate h) else u)

/-- A head shows R217's fallback colour in the frame that a latch decision begins (R381). -/
def State.showsFallback (s : State) (h : Nat) : Bool :=
  let x := s.head h
  x.flrColour.isSome || (x.fallbackFlr && x.fallback.isSome && (s.comp h).clearAt.isNone)

/-- R381: the state code of the first failing check; none when every check passes. -/
def State.canopyJudge (s : State) (h : Nat) : Option Nat :=
  let ms := s.membersOf h
  let others := (s.enabledLayers h).filter (fun l => !ms.contains l)
  if s.use (0x4200 + h) 1 ≠ 1 then some 0
  else if ms.length < 2 then some 1
  else if others.any (fun o => ms.any (fun m => decide (s.layer o 4 < s.layer m 4))) then some 1
  else if s.showsFallback h then some 1
  else if s.use (0x4200 + h) 2 * 1048576 < s.surfaceBytes h then some 5
  else if s.memberRate h < s.surfaceRate h then some 1
  else none

/-- A CANOPY event (R391). -/
def State.canopyEvent (s : State) (h reason : Nat) : State :=
  if s.use (0x4200 + h) 4 = 1 then s.event (s.headHolder h) 0x0015 h Status.ok (h / 2) reason (s.canopyReg h 0xD) else s

/-- Entry into a Canopy state with its event (R391) and the registers that depend on it. -/
def State.canopyEnter (s : State) (h st : Nat) : State :=
  let was := s.canopyReg h 6
  if was = st then s
  else
    let s1 := s.setReg (0x4200 + h) 6 st
    let s2 := if was = 4 then s1.canopyEvent h 2 else s1
    if st = 4 then ((s2.setReg (0x4200 + h) 0x10 s.now).setReg (0x4200 + h) 9 (s.memberRate h - s.surfaceRate h)).canopyEvent h 1
    else
      let s3 := s2.setReg (0x4200 + h) 9 0
      if st = 1 then s3.canopyEvent h 3 else if st = 5 then s3.canopyEvent h 4 else s3

/-- Every band of the box has been written in the present frame, the build frame (R388). -/
def State.boxWritten (s : State) (h : Nat) : Bool :=
  let b := s.canopyBox h
  (List.range ((b.2.1 + b.2.2.2 + 15) / 16 - b.2.1 / 16)).all (fun k => (s.cano h).bandsWritten.contains (s.reg (0x3004 + 256 * h) 5, b.2.1 / 16 + k))

/-- A head's surface serves no frame from number n on (R383). -/
def State.surfaceEnds (s : State) (h n : Nat) : State := s.modCano h (fun c => { c with validNext := false, validUntil := some n })

/-- A frame of a head is composed from its surface (R383, R389). -/
def State.fromSurface (s : State) (h f : Nat) : Bool :=
  let c := s.cano h
  (c.validFrom.map (fun a => decide (a ≤ f))).getD false && (c.validUntil.map (fun b => decide (f < b))).getD true

/-- A written value of `members` is taken up (R379). -/
def State.membersTaken (s : State) (h : Nat) : State :=
  match (s.cano h).newMembers with
  | none => s
  | some v => (s.setReg (0x4200 + h) 5 v).modCano h (fun c => { c with newMembers := none })

/-- A written value of `members` waits that differs from the one in use: a member change (R379, R382). -/
def State.membersChange (s : State) (h : Nat) : Bool := ((s.cano h).newMembers.map (fun v => decide (v ≠ s.canopyReg h 5))).getD false

/-- The Canopy transitions of a latch decision (R381, R382, R388), judged on what the frame it begins will hold, `v`. `change` says whether a
member change takes effect; `again`, that a commit latches after the frame's decision. -/
def State.canopyDecide (s v : State) (h : Nat) (change again : Bool) : State :=
  let next := s.reg (0x3004 + 256 * h) 5 + 1
  let ch := change || (s.cano h).change || (v.cano h).change
  let b := v.canopyBox h
  let s1 := ((s.modCano h (fun c => { c with
    change := false, counted := c.counted || (v.cano h).change, settle := if ch then 0 else if again then c.settle else c.settle + 1 })).setReg
    (0x4200 + h) 7 (b.1 * 2 ^ 48 + b.2.1 * 2 ^ 32 + b.2.2.1 * 2 ^ 16 + b.2.2.2)).setReg (0x4200 + h) 8 (v.surfaceRate h)
  let st := s1.canopyReg h 6
  let done := decide (st = 3) && !(s1.cano h).spoiled && !again && s1.boxWritten h
  match v.canopyJudge h with
  | some x => (if st = 3 ∨ st = 4 then s1.surfaceEnds h next else s1).canopyEnter h x
  | none =>
    if st = 0 ∨ st = 1 ∨ st = 5 then (s1.modCano h (fun c => { c with settle := 0 })).canopyEnter h 2
    else if ch then (if st = 3 ∨ st = 4 then (s1.inc (0x4200 + h) 0xE).surfaceEnds h next else s1).canopyEnter h 2
    else if done then (s1.inc (0x4200 + h) 0xD).modCano h (fun c => { c with validNext := true, validFrom := some next, validUntil := none })
    else s1

/-- A member change that a frame start applies and the decision before it could not see: the surface is invalid from this frame on (R383). -/
def State.canopyLate (s : State) (h : Nat) : State :=
  let c := s.cano h
  let s1 := s.modCano h (fun c => { c with change := false, counted := false })
  if !c.change ∨ c.counted then s1
  else
    let st := s.canopyReg h 6
    let s2 := s1.modCano h (fun c => { c with settle := 0 })
    if st = 3 ∨ st = 4 then ((s2.inc (0x4200 + h) 0xE).surfaceEnds h (s.reg (0x3004 + 256 * h) 5)).canopyEnter h 2
    else if st = 6 then s2.canopyEnter h 2 else s2

/-- The frame that a build writes is spoiled: the build is abandoned (R388). -/
def State.spoilBuild (s : State) (h : Nat) : State :=
  let c := s.cano h
  let s1 := if s.canopyReg h 6 = 3 ∧ !c.spoiled ∧ !c.validNext then s.inc (0x4200 + h) 0xF else s
  s1.modCano h (fun c => { c with spoiled := true })

/-- Line 0 of the first frame composed from a new surface: VALID (R388, R391). -/
def State.canopyValid (s : State) (h : Nat) : State :=
  if (s.cano h).validNext then (s.modCano h (fun c => { c with validNext := false })).canopyEnter h 4 else s

/-- A head asks Sapflow for a build at a frame start (R388): granted in the last round, within the headroom that round left, or by a
secure claim, which is never shed (R261, log entry 29). -/
def State.canopyAsk (s : State) (h : Nat) : Bool × State :=
  let mw := s.use 0x2500 6
  let room := s.regI 0x2501 3
  if s.sapflow.canopyGranted.contains h ∨ s.claimed 1 h then (true, s)
  else if (mw : Int) ≤ room then
    (true, { s.setRegI 0x2501 3 (room - mw) with sapflow := { s.sapflow with canopyGranted := s.sapflow.canopyGranted ++ [h] } })
  else (false, s.inc 0x2501 8)

/-- The Canopy step of a frame start (R388): a settled or shed head asks Sapflow for a build and builds when it is granted;
after a spoiled build frame it tries again. Bands composed ahead of the frame start count for their frame (log entry 159). -/
def State.canopyFrame (s : State) (h : Nat) : State :=
  let c := s.cano h
  let st := s.canopyReg h 6
  let s2 := s.modCano h (fun c => { c with
    bandsWritten := c.bandsWritten.filter (fun e => decide (s.reg (0x3004 + 256 * h) 5 ≤ e.1)), spoiled := false })
  let want := (st = 2 ∧ s.use (0x4200 + h) 3 ≤ c.settle) ∨ st = 6 ∨ (st = 3 ∧ !c.validNext)
  let s3 : State := { s2 with sapflow := { s2.sapflow with
    canopyWant := if want then (h :: s2.sapflow.canopyWant.filter (· ≠ h)) else s2.sapflow.canopyWant.filter (· ≠ h) } }
  if (st = 2 ∧ s.use (0x4200 + h) 3 ≤ c.settle) ∨ st = 6 then
    let a := s3.canopyAsk h
    if a.1 then a.2.canopyEnter h 3 else a.2.canopyEnter h 6
  else s3

/-- Count a frame as composed from the surface or directly (0x4200.0A to 0C); frames of R217's fallback colour count in neither (R390). -/
def State.canopyTally (s : State) (h : Nat) : State :=
  if ((s.head h).fallbackFlr ∧ (s.head h).fallback ≠ none) ∨ s.use (0x4200 + h) 1 ≠ 1 then s
  else
    let hit := s.fromSurface h (s.reg (0x3004 + 256 * h) 5)
    let hist := ((s.cano h).history ++ [hit]).drop ((s.cano h).history.length + 1 - 1024)
    let s1 := s.modCano h (fun c => { c with history := hist })
    let s2 := if hit then s1.inc (0x4200 + h) 0xA else s1.inc (0x4200 + h) 0xB
    s2.setReg (0x4200 + h) 0xC ((hist.filter id).length * 1000 / hist.length)

end Sys2Proof.Machine
end

