-- ==== Sys2Proof/Machine/Compose.lean ====
section
/-! DEFINITION. Composition of bands (R345 to R369, R395, R396): the pixel pipeline over the latched state, the composer's
bands, reflex sprites, and the Canopy members write. -/
namespace Sys2Proof.Machine

/-! ### Source pixels (R351 to R358) -/

/-- The instance whose memory a layer is fetched from: the one whose commit last latched it (R351). -/
def State.layerInst (s : State) (l : Nat) : Nat := Tab.getD (s.comp (s.layerHead l)).loadedBy (l % 32) (s.layerHolder l)

/-- The composer's fetch for a layer (R29): the instance whose commit last latched it. -/
def State.layerAttr (s : State) (l : Nat) : BusAttr := BusSource.composer.serving (s.composingDie (s.layerHead l)) (s.layerInst l)

/-- A little-endian word of n bytes in an instance's memory. -/
def State.idaWord (s : State) (at' : BusAttr) (a n : Nat) : Nat := leNat (s.readIda at' a n)

/-- A packed source pixel of a layer. -/
def State.packed (s : State) (l x y : Nat) : Pixel.Argb :=
  let f := s.layer l 3
  let n := Pixel.bytesX2 f / 2
  Pixel.unpack f (s.idaWord (s.layerAttr l) (s.layer l 5 + s.layer l 6 * y + n * x) n)

/-- A luma sample of a planar layer. -/
def State.luma (s : State) (l x y : Nat) : Nat :=
  let f := s.layer l 3
  let n := Pixel.plane0Bytes f
  Pixel.unpackSample f (s.idaWord (s.layerAttr l) (s.layer l 5 + s.layer l 6 * y + n * x) n)

/-- A chroma sample of a planar layer: Cb, or Cr when `cr` is set. -/
def State.chroma (s : State) (l : Nat) (cr : Bool) (x y : Nat) : Nat :=
  let f := s.layer l 3
  let n := Pixel.plane0Bytes f
  let i := s.layerAttr l
  if Pixel.semiPlanar f then
    Pixel.unpackSample f (s.idaWord i (s.layer l 7 + s.layer l 8 * y + 2 * n * x + (if cr then n else 0)) n)
  else if cr then Pixel.unpackSample f (s.idaWord i (s.layer l 9 + s.layer l 0xA * y + n * x) n)
  else Pixel.unpackSample f (s.idaWord i (s.layer l 7 + s.layer l 8 * y + n * x) n)

/-- R355: one component scaled, first horizontally and then vertically. `px` and `py` are source positions; the rectangle
starts at (x0, y0) with size (w, h). -/
def scalePixel (get : Nat → Nat → Nat) (x0 y0 w h filter : Nat) (custom : List Byte) (px py : Int) : Nat :=
  Pixel.scaleV (fun row => Pixel.scaleH (fun col => get col row) x0 w filter custom px) y0 h filter custom py

/-- R355 to R358: output pixel (j, i) of a video layer, counted from its destination corner. -/
def State.videoPixel (s : State) (l j i : Nat) : Pixel.Argb :=
  let f := s.layer l 3
  let x0 := s.layer l 0xB
  let y0 := s.layer l 0xC
  let w := s.layer l 0xD
  let h := s.layer l 0xE
  let px := Pixel.position x0 w (s.layer l 0x11) j
  let py := Pixel.position y0 h (s.layer l 0x12) i
  let flt := s.layer l 0x18
  let cu := s.regBytes (0x4000 + l) 0x1B
  let full (get : Nat → Nat → Nat) : Nat := scalePixel get x0 y0 w h flt cu px py
  let cf := s.layer l 0x15
  let fr : Bool := decide (s.layer l 0x16 = 1)
  if Pixel.planes f = 1 then
    let a := full (fun x y => (s.packed l x y).a)
    let r := full (fun x y => (s.packed l x y).r)
    let g := full (fun x y => (s.packed l x y).g)
    let b := full (fun x y => (s.packed l x y).b)
    if Pixel.videoOnlyFormat f then
      let c := Pixel.toRgb cf fr r g b
      ⟨a, c.1, c.2.1, c.2.2⟩
    else ⟨a, r, g, b⟩
  else
    let sit := s.layer l 0x17
    let cx := if Pixel.halfX f then Pixel.chromaPosition px (bit sit 0) else px
    let cy := if Pixel.halfY f then Pixel.chromaPosition py (bit sit 1) else py
    let hx := if Pixel.halfX f then 2 else 1
    let hy := if Pixel.halfY f then 2 else 1
    let chr (cr : Bool) : Nat := scalePixel (s.chroma l cr) (x0 / hx) (y0 / hy) (w / hx) (h / hy) flt cu cx cy
    let c := Pixel.toRgb cf fr (full (s.luma l)) (chr false) (chr true)
    ⟨65535, c.1, c.2.1, c.2.2⟩

/-- Stages 1 to 3 (R359): the pixel a layer contributes at (x, y), if its rectangle covers it. -/
def State.layerPixel (s : State) (l x y : Nat) : Option Pixel.Argb :=
  let j := (x : Int) - s.regI (0x4000 + l) 0xF
  let i := (y : Int) - s.regI (0x4000 + l) 0x10
  if 0 ≤ j ∧ j < s.layer l 0x11 ∧ 0 ≤ i ∧ i < s.layer l 0x12 then
    let p := if isVideo l then s.videoPixel l j.toNat i.toNat else s.packed l (s.layer l 0xB + j.toNat) (s.layer l 0xC + i.toNat)
    if s.layer l 0x19 = 1 then
      let t := s.regBytes (0x4000 + l) 0x1A
      some ⟨p.a, Pixel.preTable (Pixel.tableEntry t 1024 0) p.r, Pixel.preTable (Pixel.tableEntry t 1024 1) p.g,
            Pixel.preTable (Pixel.tableEntry t 1024 2) p.b⟩
    else some p
  else none

/-! ### Blending, matrix and tables (R360 to R364) -/

/-- A 10-bit background colour expanded to 16 bits (R361). -/
def background16 (v : Nat) : Nat × Nat × Nat :=
  (Pixel.expand 10 16 (bits v 29 20), Pixel.expand 10 16 (bits v 19 10), Pixel.expand 10 16 (bits v 9 0))

/-- Stage 4 for one layer (R361). -/
def State.blendLayer (s : State) (x y : Nat) (d : Nat × Nat × Nat) (l : Nat) : Nat × Nat × Nat :=
  match s.layerPixel l x y with
  | none => d
  | some p =>
    let g := s.layer l 0x14 * 257
    let m := s.layer l 0x13
    (Pixel.blend 65535 m g p.a p.r d.1, Pixel.blend 65535 m g p.a p.g d.2.1, Pixel.blend 65535 m g p.a p.b d.2.2)

/-- Insert a layer in ascending order of z. -/
def State.insertZ (s : State) (l : Nat) : List Nat → List Nat
  | [] => [l]
  | m :: ms => if s.layer l 4 < s.layer m 4 then l :: m :: ms else m :: s.insertZ l ms

/-- Enabled layers of a head in ascending order of z, Heartwood layers apart (R361, R365). -/
def State.zOrder (s : State) (h : Nat) : List Nat :=
  ((s.enabledLayers h).filter (fun l => !s.heartwoodLayer l)).foldl (fun ls l => s.insertZ l ls) []

/-- Stage 5 (R362). -/
def State.matrix (s : State) (h : Nat) (c : Nat × Nat × Nat) : Nat × Nat × Nat :=
  if s.use (0x3009 + 256 * h) 2 = 1 then
    let m := s.useBytes (0x3009 + 256 * h) 3
    let e (k : Nat) : Int := if m = [] then (if k = 0 ∨ k = 5 ∨ k = 10 then 65536 else 0) else signedOf 32 (field m (4 * k) 4)
    let row (r : Nat) : Nat := Pixel.matrixRow (e (4 * r)) (e (4 * r + 1)) (e (4 * r + 2)) (e (4 * r + 3)) c.1 c.2.1 c.2.2
    (row 0, row 1, row 2)
  else c

/-- Stage 6 (R363). -/
def State.post (s : State) (h : Nat) (c : Nat × Nat × Nat) : Nat × Nat × Nat :=
  if s.use (0x3009 + 256 * h) 4 = 1 then
    let t := s.useBytes (0x3009 + 256 * h) 5
    (Pixel.postTable (Pixel.tableEntry t 4096 0) c.1, Pixel.postTable (Pixel.tableEntry t 4096 1) c.2.1,
     Pixel.postTable (Pixel.tableEntry t 4096 2) c.2.2)
  else c

/-- Stage 7 (R364). -/
def round12 (c : Nat × Nat × Nat) : Nat × Nat × Nat := (Pixel.to12 c.1, Pixel.to12 c.2.1, Pixel.to12 c.2.2)

/-! ### Protected regions (R365, R395, R396) and reflex sprites (R367, R369) -/

/-- The enabled region of a head that covers a pixel (R393). -/
def State.regionAt (s : State) (h x y : Nat) : Option Nat :=
  (s.enabledRegions h).find? (fun r =>
    let u := s.use (0x4300 + r)
    decide (u 2 ≤ x ∧ x < u 2 + u 4 ∧ u 3 ≤ y ∧ y < u 3 + u 5))

/-- The composer's fetch of a Heartwood layer buffer (R29, R245): in the secure world, by the device for itself. -/
def State.heartwoodAttr (s : State) (h : Nat) : BusAttr :=
  { world := BusSource.composer.world true, die := s.composingDie h, inst := ownInstance, source := .composer }

/-- The pixel of a region's buffer, expanded to 16 bits: a device address (R396). A region without a latched content set has
its entries at their defaults. -/
def State.regionPixel (s : State) (r x y : Nat) : Nat × Nat × Nat :=
  let c := (s.region r).latched.getD {}
  let u := s.use (0x4300 + r)
  let w := leNat (s.busBytes (s.heartwoodAttr (r / 8)) (c.bufferAddr + c.bufferPitch * (y - u 3) + 4 * (x - u 2)) 4)
  (Pixel.expand 8 16 (bits w 23 16), Pixel.expand 8 16 (bits w 15 8), Pixel.expand 8 16 (bits w 7 0))

/-- The asset store (R417). -/
def State.assetStore (s : State) : List Byte := s.regBytes 0x2310 1

/-- The mask asset of a sprite's image in a region's content set (R395). -/
def State.maskAsset (s : State) (c : ContentSet) (n image : Nat) : Option (List Byte) :=
  Assets.find s.assetStore (field c.maskAssets (4 * n + 2 * image) 2) 2

/-- R395: sprite n of the head (0 to 7) is drawn inside region r: permitted, wholly inside, and its mask assets fit. -/
def State.spritePermitted (s : State) (h r n : Nat) : Bool :=
  match (s.region r).latched with
  | none => false
  | some c =>
    let sp := 8 * h + n
    let u := s.use (0x4300 + r)
    let x := s.regI (0x4100 + sp) 5
    let y := s.regI (0x4100 + sp) 6
    let fits (k : Nat) : Bool := match s.maskAsset c n k with
      | none => false
      | some a => decide (Assets.bitmapSize a = (s.sprite sp 3, s.sprite sp 4))
    bit c.spritePermit n && decide ((u 2 : Int) ≤ x ∧ x + s.sprite sp 3 ≤ u 2 + u 4 ∧ (u 3 : Int) ≤ y ∧ y + s.sprite sp 4 ≤ u 3 + u 5) &&
    fits 0 && fits 1

/-- The pixel (j, i) of a sprite's own image (R367, R369): image 0 when IMAGE selects a missing image 1. A lender reads the images of a borrowed
head from the carve-out in the failed die's stack (R373). -/
def State.spriteImage (s : State) (sp image j i : Nat) : Pixel.Argb :=
  let f := s.sprite sp 2
  let n := Pixel.bytesX2 f / 2
  let imgs := if s.composingDie (sp / 8) = sp / 16 then Tab.getD s.pool sp [] else Tab.getD (s.comp (sp / 8)).carve sp []
  let k := if image = 1 ∧ s.sprite sp 8 ≠ 2 ^ 64 - 1 then 1 else 0
  let w := leNat (slice (imgs.getD k []) (n * (i * s.sprite sp 3 + j)) n)
  if f = 1 then ⟨Pixel.expand 8 12 (bits w 31 24), Pixel.expand 8 12 (bits w 23 16), Pixel.expand 8 12 (bits w 15 8), Pixel.expand 8 12 (bits w 7 0)⟩
  else if f = 3 then ⟨4095, Pixel.expand 5 12 (bits w 15 11), Pixel.expand 6 12 (bits w 10 5), Pixel.expand 5 12 (bits w 4 0)⟩
  else ⟨Pixel.expand 1 12 (bits w 15 15), Pixel.expand 5 12 (bits w 14 10), Pixel.expand 5 12 (bits w 9 5), Pixel.expand 5 12 (bits w 4 0)⟩

/-- Stage 8 for sprite n of head h at (x, y), with the state sampled for the frame. -/
def State.blendSprite (s : State) (h x y : Nat) (region : Option Nat) (d : Nat × Nat × Nat) (n : Nat) : Nat × Nat × Nat :=
  let sp := 8 * h + n
  let st := Tab.getD (s.comp h).sampled (n + 8 * ((s.comp h).frameNumber % 2)) (s.sprite sp 0xB)
  let j := (x : Int) - s.regI (0x4100 + sp) 5
  let i := (y : Int) - s.regI (0x4100 + sp) 6
  if s.sprite sp 1 = 1 ∧ bit st 0 ∧ 0 ≤ j ∧ j < s.sprite sp 3 ∧ 0 ≤ i ∧ i < s.sprite sp 4 then
    let image := ofBool (bit st 1)
    let draw (p : Pixel.Argb) (m : Nat) : Nat × Nat × Nat :=
      (Pixel.blend 4095 m 4095 p.a p.r d.1, Pixel.blend 4095 m 4095 p.a p.g d.2.1, Pixel.blend 4095 m 4095 p.a p.b d.2.2)
    match region with
    | none => draw (s.spriteImage sp image j.toNat i.toNat) (s.sprite sp 0xA)
    | some r =>
      if s.spritePermitted h r n then
        match (s.region r).latched.bind (fun c => s.maskAsset c n image) with
        | none => d
        | some a =>
          let w := Assets.bitmapWord a j.toNat i.toNat
          draw ⟨Pixel.expand 8 12 (bits w 31 24), Pixel.expand 8 12 (bits w 23 16), Pixel.expand 8 12 (bits w 15 8), Pixel.expand 8 12 (bits w 7 0)⟩ 1
      else d
  else d

/-- The background a head composes over: a fallback colour (R366) or its latched background. -/
def State.backgroundOf (s : State) (h : Nat) : Nat :=
  match (s.head h).fallback with
  | some c => c
  | none => s.reg (0x3009 + 256 * h) 1

/-- The result of stage 4 after the blend of the highest member, over the background (R385). -/
def State.memberPixel (s : State) (h x y : Nat) : Nat × Nat × Nat :=
  ((s.zOrder h).filter (fun l => (s.membersOf h).contains l)).foldl (s.blendLayer x y) (background16 (s.backgroundOf h))

/-- The pitch of the surface of a box width in bytes (R385). -/
def surfacePitch (width : Nat) : Nat := ceilDiv (6 * width) 64 * 64

/-- A pixel of the surface: R, G and B, each a U16, little-endian (R385). -/
def surfacePixelBytes (p : Nat × Nat × Nat) : List Byte := leBytes 2 p.1 ++ leBytes 2 p.2.1 ++ leBytes 2 p.2.2

/-- The lines of the surface that band b meets, each with its offset in the carve-out (R385). -/
def State.surfaceLines (s : State) (h b : Nat) : List (Nat × List Byte) :=
  let x := s.canopyBox h
  (((List.range 16).map (16 * b + ·)).filter (fun y => decide (x.2.1 ≤ y ∧ y < x.2.1 + x.2.2.2))).map (fun y =>
    (surfacePitch x.2.2.1 * (y - x.2.1), (List.range x.2.2.1).flatMap (fun k => surfacePixelBytes (s.memberPixel h (x.1 + k) y))))

/-- What the composer's surface writes carry (R29, R387): INSTANCE 0x3F and WORLD 0. -/
def State.surfaceAttr (s : State) (h : Nat) : BusAttr :=
  { world := BusSource.composer.world false, die := s.composingDie h, inst := ownInstance, source := .composer }

/-- Lines are written to a head's carve-out, which no instance's transaction reaches (R387). -/
def State.writeSurface (s : State) (at' : BusAttr) (h : Nat) (lines : List (Nat × List Byte)) : State :=
  if at'.inst = ownInstance then s.modCano h (fun c => { c with surface := lines.foldl (fun t e => Tab.put t e.1 e.2) c.surface }) else s

/-- The surface's pixel for (x, y), which its box covers (R385, R386). -/
def State.surfacePixel (s : State) (h x y : Nat) : Nat × Nat × Nat :=
  let b := s.canopyBox h
  let line := Tab.getD (s.cano h).surface (surfacePitch b.2.2.1 * (y - b.2.1)) []
  let o := 6 * (x - b.1)
  (field line o 2, field line (o + 2) 2, field line (o + 4) 2)

/-- The result of stage 4 (R361): every layer over the background, or in a frame composed from a valid surface the non-members over its pixel,
over the background outside its box (R385, R386). -/
def State.stage4 (s : State) (h x y : Nat) : Nat × Nat × Nat :=
  let d := background16 (s.backgroundOf h)
  if s.fromSurface h (s.comp h).frameNumber then
    let b := s.canopyBox h
    let inBox := decide (b.1 ≤ x ∧ x < b.1 + b.2.2.1 ∧ b.2.1 ≤ y ∧ y < b.2.1 + b.2.2.2)
    ((s.zOrder h).filter (fun l => !(s.membersOf h).contains l)).foldl (s.blendLayer x y) (if inBox then s.surfacePixel h x y else d)
  else (s.zOrder h).foldl (s.blendLayer x y) d

/-- The frame that a head composes shows one colour in place of its layers and sprites: a fallback colour (R366), or the background in the first
frame of a new size (R295). -/
def State.plainFrame (s : State) (h : Nat) : Bool :=
  (s.head h).fallback.isSome || decide ((s.comp h).bgFrame = some (s.comp h).frameNumber)

/-- Stages 1 to 8 of R359: the composed pixel (x, y) of a head, 12 bits per component. The first frame of a new size carries the background
only (R295); a fallback colour leaves protected regions as they are (R366). -/
def State.composePixel (s : State) (h x y : Nat) : Nat × Nat × Nat :=
  let r := s.regionAt h x y
  let bg := decide ((s.comp h).bgFrame = some (s.comp h).frameNumber)
  let c16 := match if bg then none else r with
    | some k => s.post h (s.regionPixel k x y)
    | none => s.post h (s.matrix h (if s.plainFrame h then background16 (s.backgroundOf h) else s.stage4 h x y))
  let c12 := round12 c16
  if s.plainFrame h then c12 else (List.range 8).foldl (s.blendSprite h x y r) c12

/-- The lines of band b of a head (R345). -/
def State.composeBand (s : State) (h b : Nat) : List (List (Nat × Nat × Nat)) :=
  let m := s.modeOf h
  (List.range (min 16 (m.vActive - 16 * b))).map (fun k => (List.range m.hActive).map (fun x => s.composePixel h x (16 * b + k)))

/-! ### Bands (R345 to R348) -/

/-- Number of bands of a head's frame. -/
def State.bandCount (s : State) (h : Nat) : Nat := ceilDiv (s.modeOf h).vActive 16

/-- The head whose timing generator serves head h: the even head of a pair (R300). -/
def State.timingHead (s : State) (h : Nat) : Nat := if (s.head (h / 2 * 2)).pairedTaken then h / 2 * 2 else h

/-- Lines from the line now running to line `y` of the frame of a head with number f (the earliest it can come; after an abort its frame start
is fixed, R338). -/
def State.linesUntil (s : State) (h f y : Nat) : Int :=
  let t := s.head (s.timingHead h)
  let m := s.modeOf h
  if !t.running then (y : Int)
  else if f ≤ s.reg (0x3004 + 256 * h) 5 then
    match t.toLine0 with
    | some k => (k : Int) + y
    | none => (y : Int) - t.line
  else
    let start : Int := match t.aborting with
      | some a => a.2
      | none => if s.reg (0x3004 + 256 * h) 1 = 1 then max t.sMin (t.line + 1) else m.vtFixed - m.vSync - m.vBack
    start + m.vSync + m.vBack + y - t.line

/-- A composer serves the head: its die's Core is ACTIVE, or a lender serves the die (R341, R689). -/
def State.composerServes (s : State) (h : Nat) : Bool :=
  s.coreActive (h / 2) || decide (Tab.getD s.health.lending (h / 2) 0 = 1)

/-- The frame and band the composer would begin next: the bands left of its frame, then those of the frame decided. -/
def State.nextBandOf (s : State) (h : Nat) : Nat × Nat :=
  let c := s.comp h
  if c.nextBand < s.bandCount h then (c.frameNumber, c.nextBand) else (c.decidedFrame, 0)

/-- The heads that the composer of head h serves: those of its die, and borrowed ones (R347, R373). -/
def State.composerHeads (s : State) (h : Nat) : List Nat :=
  (List.range (2 * s.dies)).filter (fun k => decide (s.composingDie k = s.composingDie h) && s.composerServes k)

/-- The composer of head h composes a band, which it takes to its end before it begins another (R347, R348, log entry 155). -/
def State.composerBusy (s : State) (h : Nat) : Bool := (s.composerHeads h).any (fun k => (s.comp k).slots.any (fun e => !e.complete))

/-- The raster has passed the last line of a band (R346). -/
def State.passed (s : State) (h : Nat) (e : BandSlot) : Bool :=
  let t := s.head (s.timingHead h)
  let f := s.reg (0x3004 + 256 * h) 5
  let ended := (t.aborting.map (fun a => decide (a.1 < t.line))).getD false
  decide (e.frame < f) ||
    (decide (e.frame = f ∧ t.toLine0 = none) && (ended || decide (16 * (e.band + 1) ≤ t.line ∨ (s.modeOf h).vActive ≤ t.line)))

/-- The slots of composed bands that the raster has passed are free again (R346). -/
def State.freeSlots (s : State) (h : Nat) : State :=
  s.modComp h (fun c => { c with slots := c.slots.filter (fun e => !(e.complete && s.passed h e)) })

/-- The composer can begin the next band of a head (R346), whose timing generator works (R292). -/
def State.canBegin (s : State) (h : Nat) : Bool :=
  let c := s.comp h
  let t := s.head (s.timingHead h)
  (t.running || t.startPending) && s.composerServes h && decide ((c.slots.filter (fun e => !s.passed h e)).length < 4) && decide (0 < c.decidedFrame) &&
  (decide (c.nextBand < s.bandCount h) || decide (c.frameNumber < c.decidedFrame))

/-- When a line of a frame of head h begins, as device time × pixel clock in kHz: the present line's start and whole lines after it (R347). -/
def State.deadline (s : State) (h f y : Nat) : Int :=
  (((s.head (s.timingHead h)).lineAt * (s.modeOf h).pixelKhz : Nat) : Int) + s.linesUntil h f y * (s.modeOf h).htotal * 1000000

/-- R347: the deadline of head h's next band comes before that of head k's, or ties and h is lower. -/
def State.deadlineFirst (s : State) (h k : Nat) : Bool :=
  let t (g : Nat) : Int := s.deadline g (s.nextBandOf g).1 (16 * (s.nextBandOf g).2)
  let a := t h * (s.modeOf k).pixelKhz
  let b := t k * (s.modeOf h).pixelKhz
  decide (a < b) || (decide (a = b) && decide (h < k))

/-- The state that a band is composed from: entries latched since for a later frame keep the values they had (R318), and a
fallback colour that a commit ends no longer applies from that commit's frame (R217). -/
def State.composing (s : State) (h : Nat) : State :=
  let c := s.comp h
  let s1 : State := if c.frameNumber < c.latchFrame then
      { s with live := c.before.foldl (fun t e => Tab.put t e.1 e.2) s.live,
               pool := c.poolBefore.foldl (fun t e => Tab.put t e.1 e.2) s.pool,
               compose := Tab.put s.compose h { c with carve := c.poolBefore.foldl (fun t e => Tab.put t e.1 e.2) c.carve, loadedBy := c.loadedBefore.foldl (fun t e => Tab.put t e.1 e.2) c.loadedBy },
               regions := s.regions.map (fun e => if e.1 / 8 = h then (e.1, { e.2 with latched := e.2.shown }) else e) }
    else s
  if (c.clearAt.map (fun n => decide (n ≤ c.frameNumber))).getD false then s1.modHead h (fun x => { x with fallback := none }) else s1

/-- What a band slot holds: the band's composed lines, and the surface lines of a head whose build may write them (R345, R388). -/
def State.fillSlot (s : State) (h : Nat) (e : BandSlot) : BandSlot :=
  { e with lines := s.composeBand h e.band, surface := if [2, 3, 6].contains (s.canopyReg h 6) then s.surfaceLines h e.band else [] }

/-- The bands of a frame that were begun before a value of the whole frame changed hold what they are with it: a band is composed once (R186,
R345, log entry 174). -/
def State.recompose (s : State) (h f : Nat) : State :=
  let v := (s.modComp h (fun c => { c with frameNumber := f })).composing h
  s.modComp h (fun c => { c with slots := (c.slots.filter (fun e => decide (e.frame ≠ f ∨ e.band < v.bandCount h))).map (fun e =>
    if e.frame = f then v.fillSlot h e else e) })

/-- First line of a sprite inside the active area (R524). -/
def State.spriteFirstLine (s : State) (sp : Nat) : Nat := (max 0 (s.regI (0x4100 + sp) 6)).toNat

/-- Sprites whose first band is b (R369, R524). -/
def State.spritesBeginning (s : State) (h b : Nat) : List Nat :=
  (List.range 8).filter (fun n => let sp := 8 * h + n
    decide (s.sprite sp 1 = 1 ∧ s.spriteFirstLine sp / 16 = b ∧ s.regI (0x4100 + sp) 6 + s.sprite sp 4 > 0))

/-- BAND_BEGIN (R345 to R347, R369): the composer begins the next band of a head; the states of the sprites whose first band
it is are sampled, and the band's pixels are composed. -/
def execBandBegin (head : Nat) (s : State) : Host.Outcome State Fault Refusal :=
  if !s.canBegin head ∨ s.composerBusy head then .next s
  else if (s.composerHeads head).any (fun k => decide (k ≠ head) && s.canBegin k && s.deadlineFirst k head) then .next s
  else
    let fb := s.nextBandOf head
    let s1 := s.modComp head (fun c => { c with frameNumber := fb.1, nextBand := fb.2 + 1 })
    let t := s1.composing head
    let s2 := s1.modComp head (fun c => { c with
      sampled := (t.spritesBeginning head fb.2).foldl (fun m n => Tab.put m (n + 8 * (fb.1 % 2)) (s.sprite (8 * head + n) 0xB)) c.sampled })
    .next (s2.modComp head (fun c => { c with slots := c.slots ++ [(s2.composing head).fillSlot head { frame := fb.1, band := fb.2 }] }))

/-- BAND_COMPLETE (R346, R348, R375): the last pixel of a band is in the line buffer. What a band of a build frame gives the box is written to the
surface (R385, R388), that of one composed ahead of its frame start too (log entry 159). -/
def execBandComplete (head band : Nat) (s : State) : Host.Outcome State Fault Refusal :=
  let c := s.comp head
  match c.slots.find? (fun e => e.band = band && !e.complete) with
  | none => .next s
  | some e =>
    let lead := (s.linesUntil head e.frame (16 * band)).toNat
    let s1 := s.modComp head (fun c => { c with slots := c.slots.map (fun f => if f = e then { f with complete := true } else f) })
    let s2 := s1.inc (0x300A + 256 * head) 5
    let s3 := s2.setReg (0x300A + 256 * head) 4 (min (s2.reg (0x300A + 256 * head) 4) lead)
    let s4 := if [2, 3, 6].contains (s.canopyReg head 6) then
        (s3.writeSurface (s.surfaceAttr head) head e.surface).modCano head (fun k => { k with bandsWritten := k.bandsWritten ++ [(e.frame, band)] })
      else s3
    .next (s4.freeSlots head)

/-! ### Reflex sprites (R369, R370, R515, R519) -/

/-- A head makes reflex starts (R284): reflex_start_enable true, as its present line sampled it (R310), and effective timing VARIABLE. -/
def State.reflexHead (s : State) (h : Nat) : Bool := (s.head h).reflexStart && decide (s.reg (0x3004 + 256 * h) 1 = 1)

/-- A sprite's state takes a value; state_time is written when it changes (R515). `reflex` raises a ready on a head that makes
reflex starts (R284). -/
def State.spriteSet (s : State) (sp v : Nat) (reflex : Bool) : State :=
  if s.sprite sp 0xB = v then s
  else
    let s1 := (s.setReg (0x4100 + sp) 0xB v).setReg (0x4100 + sp) 0xC s.now
    if reflex && s.reflexHead (sp / 8) then s1.modHead (s.timingHead (sp / 8)) (fun x => { x with readyRaised := true }) else s1

/-- The state after an operation (R514, R515): 1 SHOW, 2 HIDE, 3 SWAP, 4 SHOW_IMAGE0, 5 SHOW_IMAGE1. -/
def spriteAfter (op v : Nat) : Nat :=
  if op = 1 then setBit v 0 true
  else if op = 2 then setBit v 0 false
  else if op = 3 then setBit v 1 (!bit v 1)
  else if op = 4 then setBit (setBit v 0 true) 1 false
  else if op = 5 then setBit (setBit v 0 true) 1 true
  else v

/-- Apply sprite operations in order, each to the result of the one before (R519). -/
def State.spriteOps (s : State) (ops : List (Nat × Nat × Nat)) : State :=
  match ops with
  | [] => s
  | o :: os => (s.spriteSet o.1 (spriteAfter o.2.1 (s.sprite o.1 0xB)) true).spriteOps os

/-- Insert an operation by its source: pins (512 + n) in ascending number before keys in ascending number (R519). -/
def insertOp (o : Nat × Nat × Nat) : List (Nat × Nat × Nat) → List (Nat × Nat × Nat)
  | [] => [o]
  | p :: ps =>
    let rank (x : Nat × Nat × Nat) : Nat := if 512 ≤ x.2.2 then x.2.2 - 512 else 512 + x.2.2
    if rank o < rank p then o :: p :: ps else p :: insertOp o ps

/-- SPRITE_OPERATION (R515, R519): the first `count` operations in flight for the sprites of a die reach its composer in one
clock and are applied in the order of R519. -/
def execSpriteOperation (die count : Nat) (s : State) : Host.Outcome State Fault Refusal :=
  let mine := s.reflex.sprites.filter (fun o => o.1 / 16 = die)
  let now := mine.take count
  let s1 : State := { s with reflex := { s.reflex with
    sprites := s.reflex.sprites.filter (fun o => o.1 / 16 ≠ die) ++ mine.drop count } }
  .next (s1.spriteOps (now.foldl (fun l o => insertOp o l) []))

/-- The sprites that the active secure entry names: those of its keys' mask actions that have a sprite operation (R370, R514). -/
def State.entrySprites (s : State) : List Nat :=
  match s.worlds.entry with
  | none => []
  | some e => (e.masks.filter (fun w => decide (bits w 33 31 ≠ 0 ∨ bits w 36 34 ≠ 0))).map (fun w => bits w 30 24)

/-- A write of `sprite.state` (R369, R370): refused to an instance while the active secure entry names the sprite; the status and the new state. -/
def State.writeSpriteState (s : State) (req : Requester) (sp v : Nat) : Nat × State :=
  if (instanceOf? req).isSome ∧ s.entrySprites.contains sp then (Status.deniedSecureClaim, s)
  else (Status.ok, s.spriteSet sp v false)

/-- Write `canopy.members` (R378, R379). -/
def State.writeMembers (s : State) (h v : Nat) : Nat × State :=
  if !s.membersOk h v then (Status.range, s)
  else (Status.ok, s.modCano h (fun c => { c with newMembers := some v }))

end Sys2Proof.Machine
end

