-- ==== Sys2Proof/Machine/Crc.lean ====
section
/-! DEFINITION. The check-value computation by the parameter model of R594: the register is w bits, held unreflected. -/
namespace Sys2Proof.Machine.Crc

/-- Parameters of a check unit (R594). -/
structure Params where
  width  : Nat
  poly   : Nat
  init   : Nat
  refIn  : Bool
  refOut : Bool
  xorOut : Nat
deriving DecidableEq, Repr

/-- A value bit-reversed over w bits. -/
def reflect (w v : Nat) : Nat := (List.range w).foldl (fun a j => 2 * a + ofBool (bit v j)) 0

/-- One input bit enters the register. -/
def bitStep (p : Params) (reg : Nat) (b : Bool) : Nat :=
  let shifted := (2 * reg) % 2 ^ p.width
  if bit reg (p.width - 1) != b then Nat.xor shifted p.poly else shifted

/-- One input byte enters the register, most significant bit first; bit-reversed first when REFIN is set (R594). -/
def byteStep (p : Params) (reg : Nat) (v : Byte) : Nat :=
  let x := if p.refIn then reflect 8 v.toNat else v.toNat
  (List.range 8).foldl (fun r j => bitStep p r (bit x (7 - j))) reg

/-- The running value after bytes. -/
def run (p : Params) : Nat → List Byte → Nat
  | reg, [] => reg
  | reg, v :: vs => run p (byteStep p reg v) vs

/-- The finalised value of a register (R594). -/
def final (p : Params) (reg : Nat) : Nat := Nat.xor (if p.refOut then reflect p.width reg else reg) p.xorOut

/-- The value of a byte string. -/
def value (p : Params) (bs : List Byte) : Nat := final p (run p p.init bs)

/-- CRC-32C as the ring image uses it. -/
def crc32c : Params := ⟨32, 0x1EDC6F41, 0xFFFFFFFF, true, true, 0xFFFFFFFF⟩

end Sys2Proof.Machine.Crc
end

