-- ==== Sys2Proof/Machine/HeartwoodOps.lean ====
section
/-! DEFINITION. Heartwood (R393 to R413): guards, signatures, region states, the substitution of the output, and the checks of
an update. -/
namespace Sys2Proof.Machine

/-- Region register. -/
def State.regionReg (s : State) (r sub : Nat) : Nat := s.reg (0x4300 + r) sub
/-- Region ring value as taken up at a frame start (R413). -/
def State.regionUse (s : State) (r sub : Nat) : Nat := s.use (0x4300 + r) sub

/-- A region's event for the holder of the head, with a copy for I0 when I0 does not hold it (R412). -/
def State.regionEvent (s : State) (r type resource reason detail : Nat) : State :=
  let i := s.headHolder (r / 8)
  let s1 := s.event i type resource Status.ok (r / 16) reason detail
  if i = 0 then s1 else s1.event 0 type resource Status.ok (r / 16) reason detail

/-- A region enters a state, with its REGION event (R409, R412). -/
def State.regionEnter (s : State) (r st : Nat) : State :=
  if s.regionReg r 0x13 = st then s
  else
    let s1 := (s.setReg (0x4300 + r) 0x13 st).modRegion r (fun x => { x with freshEvent := true, heldFrames := if st = 5 then 0 else x.heldFrames })
    s1.regionEvent r 0x0020 r st (s.regionReg r 0x16 * 2 ^ 32 + s.regionReg r 0x15)

/-- How many heads other than h a die guards (R402). -/
def State.guards (s : State) (die h : Nat) : Nat :=
  ((List.range 16).filter (fun g => decide (g ≠ h) &&
    (List.range 8).any (fun n => decide (s.regionReg (8 * g + n) 0x13 ≠ 0 ∧ s.regionReg (8 * g + n) 0x14 = die)))).length

/-- R402: the guard of a head's regions, if any die can be. -/
def State.guardFor (s : State) (h : Nat) : Option Nat :=
  let c := s.composingDie h
  let n := s.dies
  let order := Nat.xor c 1 :: (List.range n).map (fun k => (c + k) % n)
  order.find? (fun d => decide (d < n ∧ d ≠ c) && s.coreActive d && decide (s.guards d h < 4))

/-- One region takes the guard chosen, also a region that has just been enabled (R402, R409, R412). -/
def State.regionGuard (s : State) (r : Nat) (g : Option Nat) : State :=
  let st := s.regionReg r 0x13
  let new := g.getD 0xFF
  if st = 0 ∨ (s.regionReg r 0x14 = new ∧ (g ≠ none ∨ st = 6)) then s
  else
    let s1 := s.setReg (0x4300 + r) 0x14 new
    match g with
    | none => s1.regionEnter r 6
    | some _ => if st = 6 ∨ st = 3 ∨ st = 4 ∨ st = 5 then s1.regionEnter r 2 else s1

/-- R402: the guard of a head is chosen again; a change writes GUARD. -/
def State.chooseGuard (s : State) (h : Nat) : State :=
  let rs := ((List.range 8).map (8 * h + ·)).filter (fun r => s.regionReg r 0x13 ≠ 0)
  let g := s.guardFor h
  match rs with
  | [] => s
  | r :: _ =>
    let old := ((rs.map (s.regionReg · 0x14)).find? (· ≠ 0xFF)).getD 0xFF
    let s1 := s.each rs (fun t k => t.regionGuard k g)
    if old = g.getD 0xFF then s1
    else s1.regionEvent r 0x0022 h (if g = none then 2 else 1) (g.getD 0xFF)

/-- R402: a guard that one head leaves may serve the heads that have none. -/
def State.guardOthers (s : State) : State :=
  s.each ((List.range (2 * s.dies)).filter (fun h => (List.range 8).any (fun n => decide (s.regionReg (8 * h + n) 0x13 = 6)))) (fun t h => t.chooseGuard h)

/-- Re-verification of a head's regions: head lending begins or ends, or exit from SLEEP or DEEP_SLEEP (R409, R415). -/
def State.reverify (s : State) (h : Nat) : State :=
  (s.each ((List.range 8).map (8 * h + ·)) (fun t r =>
    let st := t.regionReg r 0x13
    if st = 3 ∨ st = 4 ∨ st = 5 then t.regionEnter r 2 else t)).chooseGuard h

/-- Latched values a region gives its Heartwood layer (R394). -/
def State.bindLayer (s : State) (r : Nat) : State :=
  let l := 32 * (r / 16) + s.regionUse r 6
  let i := 0x4000 + l
  let s1 := s.each ((List.range 26).map (· + 2)) (fun t k => t.setLive i k (defaultAt t.part t.grade i k))
  let fmt := ((s.region r).latched.map (·.format)).getD 2
  ((((((((((s1.setReg i 2 1).setReg i 3 fmt).setReg i 0x13 0).setReg i 0xB (s.regionUse r 2)).setReg i 0xC (s.regionUse r 3)).setReg
    i 0xD (s.regionUse r 4)).setReg i 0xE (s.regionUse r 5)).setReg i 0xF (s.regionUse r 2)).setReg i 0x10 (s.regionUse r 3)).setReg
    i 0x11 (s.regionUse r 4)).setReg i 0x12 (s.regionUse r 5)

/-- A layer that no region is bound to any more is ordinary again (R399). -/
def State.freeLayer (s : State) (l : Nat) : State := if s.heartwoodLayer l then s else s.setReg (0x4000 + l) 2 0

/-- The ring entries of one region are taken up at a frame start (R409, R413). A state that the uptake gives shows from this
frame on; an action change to HOLD without a verified copy gives BLANKED (log entry 160). -/
def State.regionUptake (s : State) (r : Nat) : State :=
  let old := s
  let s1 := s.takeUp (fun i => i = 0x4300 + r)
  let was := old.regionUse r 1 = 1
  let on := s1.regionUse r 1 = 1
  let oldLayer := 32 * (r / 16) + old.regionUse r 6
  if !on then
    if was then
      ((((s1.freeLayer oldLayer).modRegion r (fun x => { x with submitted := none, pending := none })).regionEnter r 0).setReg (0x4300 + r) 0x14 0xFF).guardOthers
    else s1
  else
    let moved := decide (was ∧ ([2, 3, 4, 5, 6].any (fun k => old.regionUse r k ≠ s1.regionUse r k)))
    let s2 :=
      if !was then s1.regionEnter r 1
      else if moved then (s1.freeLayer oldLayer).modRegion r (fun x => { x with submitted := none, pending := none, latched := none, verified := none }) |>.regionEnter r 1
      else s1
    let st := s2.regionReg r 0x13
    let act := s2.regionUse r 7
    let s3 :=
      if old.regionUse r 7 ≠ act ∧ (st = 4 ∨ st = 5) then
        let t := s2.modRegion r (fun x => { x with heldFrames := 0 })
        if act = 0 then t.regionEnter r 3 else if act = 2 ∧ (s2.region r).verified.isSome then t.regionEnter r 5 else t.regionEnter r 4
      else s2
    let s4 := (s3.bindLayer r).chooseGuard (r / 8)
    let st2 := s4.regionReg r 0x13
    if st2 = old.regionReg r 0x13 then s4 else s4.modRegion r (fun x => { x with nextState := st2, shownState := st2 })

/-- The content set as submitted (R398). -/
def State.contentOf (s : State) (r : Nat) : ContentSet :=
  { format := s.regionReg r 0xC, bufferAddr := s.regionReg r 0xD, bufferPitch := s.regionReg r 0xE, script := s.regBytes (0x4300 + r) 0xF,
    spritePermit := s.regionReg r 0x10, maskAssets := s.regBytes (0x4300 + r) 0x11 }

/-- Every granule of a span of device addresses has permission code SECURE or SECURE_WRITE (R246: 1 or 2; 3 is treated as SECURE). -/
def State.granulesSecure (s : State) (a n : Nat) : Bool :=
  (List.range ((a + n - 1) / 4096 + 1 - a / 4096)).all (fun k =>
    decide (Tab.getD s.worlds.perm (a / 4096 + k) 0 ≠ 0))

/-- R398: the status of an update of region r that comes through the monitor from `applet`, or from elsewhere (none). -/
def State.updateCheck (s : State) (r : Nat) (applet : Option Nat) : Nat :=
  let c := s.contentOf r
  let w := s.regionUse r 4
  let st := s.assetStore
  if s.regionUse r 1 ≠ 1 then Status.deniedAccess
  else if !(decide ((c.format = 1 ∨ c.format = 2) ∧ c.bufferAddr % 64 = 0 ∧ c.bufferPitch % 64 = 0 ∧ 4 * w ≤ c.bufferPitch)) then Status.range
  else if !s.granulesSecure c.bufferAddr (c.bufferPitch * (s.regionUse r 5 - 1) + 4 * w) then Status.range
  else if !Assets.scriptOk st c.script then Status.range
  else if !((List.range 16).all (fun k => let a := field c.maskAssets (2 * k) 2
    decide (a = 0) || (Assets.find st a 2).isSome)) then Status.range
  else if s.regionUse r 0xB ≠ 0 ∧ applet ≠ some (s.regionUse r 0xB) then Status.deniedAccess
  else Status.ok

/-- Submit a region's content set (R398). -/
def State.submitUpdate (s : State) (r : Nat) (applet : Option Nat) : Nat × State :=
  let st := s.updateCheck r applet
  if st ≠ Status.ok then (st, s) else (st, s.modRegion r (fun x => { x with submitted := some (s.contentOf r) }))

/-- R404, R417: write the asset store. -/
def State.writeAssets (s : State) (st : List Byte) : Nat × State :=
  if (List.range 128).any (fun r => decide (s.regionUse r 1 = 1)) then (Status.busy, s)
  else if !Assets.storeOk st then (Status.range, s)
  else (Status.ok, (s.setRegBytes 0x2310 1 st).setRegBytes 0x2310 2 (Config.sha384 st))

/-! ### Signatures (R401, R403) -/

/-- The word a pixel contributes as 4 little-endian bytes (R401). -/
def wordBytes (w : Nat) : List Byte := leBytes 4 w

/-- What head h shows in its present frame, as the record of R403 gives it: the latched values and sampled sprite states of
that frame. -/
def State.frameView (s : State) (h : Nat) : State :=
  (s.modComp h (fun c => { c with frameNumber := s.reg (0x3004 + 256 * h) 5 })).composing h

/-- The guard's output word for pixel (x, y) of a region, in region coordinates (R403). -/
def State.guardWord (s : State) (r : Nat) (c : ContentSet) (x y : Nat) : Nat :=
  let h := r / 8
  let px := s.regionUse r 2 + x
  let py := s.regionUse r 3 + y
  let p := Assets.canvasPixel s.assetStore c.script x y
  let d := round12 (s.post h (Pixel.expand 8 16 p.1, Pixel.expand 8 16 p.2.1, Pixel.expand 8 16 p.2.2))
  let t : State := { s with regions := Tab.put s.regions r { s.region r with latched := some c } }
  let e := if (s.head h).fallback.isSome then d else (List.range 8).foldl (t.blendSprite h px py (some r)) d
  let bpc := (s.modeOf h).bpc
  Pixel.signatureWord (Pixel.quantise bpc 8 e.1) (Pixel.quantise bpc 8 e.2.1) (Pixel.quantise bpc 8 e.2.2)

/-- The guard's signature of a region for the frame that the head shows (R403); a region without a content set has no script, and
the spec gives no signature for it (log entry 160). -/
def State.guardSignature (s : State) (r : Nat) : Nat :=
  match (s.region r).shown with
  | none => Config.freeNat s.free % 2 ^ 32
  | some c =>
    let t := s.frameView (r / 8)
    let w := s.regionUse r 4
    let words := (List.range (s.regionUse r 5)).flatMap (fun y => (List.range w).map (fun x => t.guardWord r c x y))
    Crc.value Crc.crc32c (words.flatMap wordBytes)

/-- Stage 9 for a composed pixel of head h (R364, R365). -/
def State.outputWord (s : State) (h x y : Nat) (p : Nat × Nat × Nat) : Nat :=
  let bpc := (s.modeOf h).bpc
  let t := if s.use (0x3009 + 256 * h) 6 = 1 ∧ s.regionAt h x y = none then Pixel.ditherAt x y else 8
  Pixel.signatureWord (Pixel.quantise bpc t p.1) (Pixel.quantise bpc t p.2.1) (Pixel.quantise bpc t p.2.2)

/-- A filled pixel of what a head shows: the background colour through stages 5 to 9 (R336, R364). -/
def State.filledWord (s : State) (h x y : Nat) : Nat :=
  let d := round12 (s.post h (s.matrix h (background16 (s.backgroundOf h))))
  s.outputWord h x y (if s.plainFrame h then d else (List.range 8).foldl (s.blendSprite h x y (s.regionAt h x y)) d)

/-- The blank colour of a region through stages 6 to 9 (R410). -/
def State.blankWord (s : State) (r x y : Nat) : Nat :=
  s.outputWord (r / 8) x y (round12 (s.post (r / 8) (background16 (s.regionUse r 8))))

/-- The output words of active line y of head h before substitution: composed pixels from the line buffer, the background of the frame shown
from the first missing pixel on (R318, R335, R336, R359). -/
def State.lineWords (s : State) (h y : Nat) (missing : Option Nat) : List Nat :=
  let f := s.reg (0x3004 + 256 * h) 5
  let px : List (Nat × Nat × Nat) := match (s.comp h).slots.find? (fun e => e.frame = f && e.band = y / 16) with
    | none => []
    | some e => e.lines.getD (y % 16) []
  let cut := min px.length (missing.getD px.length)
  let v := s.frameView h
  (List.range (s.modeOf h).hActive).map (fun x =>
    if x < cut then s.outputWord h x y (px.getD x (0, 0, 0)) else v.filledWord h x y)

/-- What a region shows at (x, y) in place of the tapped word (R410). -/
def State.shownWord (s : State) (r x y w : Nat) : Nat :=
  let g := s.region r
  let st := g.shownState
  if st = 1 ∨ st = 4 then s.blankWord r x y
  else if (st = 2 ∨ st = 6) ∧ s.regionUse r 7 ≠ 0 then s.blankWord r x y
  else if st = 5 then ((g.verified.getD []).getD (y - s.regionUse r 3) []).getD (x - s.regionUse r 2) w
  else w

/-- The words a line sends after substitution. The first frame of a new size carries the background only (R295). -/
def State.substitute (s : State) (h y : Nat) (ws : List Nat) : List Nat :=
  if s.enabledRegions h = [] ∨ (s.comp h).bgFrame = some (s.reg (0x3004 + 256 * h) 5) then ws
  else ws.zipIdx.map (fun e => match s.regionAt h e.2 y with
    | none => e.1
    | some r => s.shownWord r e.2 y e.1)

/-- A line of region r has been sent: its words enter the running value; the last one completes the signature (R401), and the guard
computes its own from the record of the frame (R403). -/
def State.regionLine (s : State) (r y : Nat) (ws : List Nat) : State :=
  let u := s.regionUse r
  if y < u 3 ∨ u 3 + u 5 ≤ y then s
  else
    let mine := slice' ws (u 2) (u 4)
    let x := s.region r
    let run0 := if y = u 3 then 0xFFFFFFFF else x.run
    let tap0 := if y = u 3 then [] else x.tapped
    let run1 := Crc.run Crc.crc32c run0 (mine.flatMap wordBytes)
    let tap1 := tap0 ++ [mine]
    if y + 1 = u 3 + u 5 then
      (if x.shown = none then s.useFree else s).modRegion r (fun x => { x with
        run := run1, tapped := tap1, mainSig := Crc.final Crc.crc32c run1, captured := tap1, guardSig := s.guardSignature r,
        frame := s.reg (0x3004 + 256 * (r / 8)) 5, doneAt := s.now, compareDue := true })
    else s.modRegion r (fun x => { x with run := run1, tapped := tap1 })
where
  /-- Words from an offset. -/
  slice' (ws : List Nat) (o n : Nat) : List Nat := (ws.drop o).take n

/-- Active line y of head h has been sent: the output words, and the signatures of its regions. -/
def State.lineSent (s : State) (h y : Nat) (missing : Option Nat) : State :=
  let ws := s.lineWords h y missing
  let s1 := s.each (s.enabledRegions h) (fun t r => t.regionLine r y ws)
  s1.modComp h (fun c => { c with lastLine := s.substitute h y ws })

/-- Regions at a latch decision (R399, R409): pending content sets latch, and the states decide what the next frame shows. -/
def State.regionsLatch (s : State) (h : Nat) : State :=
  s.each (s.enabledRegions h) (fun t r =>
    let x := t.region r
    let t1 := match x.pending with
      | none => t
      | some c =>
        let t2 := (t.modRegion r (fun x => { x with pending := none, latched := some c })).inc (0x4300 + r) 0x1B
        let t3 := t2.setReg (0x4000 + 32 * (r / 16) + t.regionUse r 6) 3 c.format
        if t.regionReg r 0x13 = 1 then t3.regionEnter r 2 else t3
    t1.modRegion r (fun x => { x with nextState := t1.regionReg r 0x13 }))

/-- Regions at line 0 of a frame: the decided state and content set are shown, but for a frame restarted after an abort, which shows
what the aborted one did (R338, R340); a held frame is counted (R409). -/
def State.regionsFrame (s : State) (h : Nat) : State :=
  let held := decide (s.reg (0x3004 + 256 * h) 5 < (s.comp h).latchFrame)
  s.each (s.enabledRegions h) (fun t r =>
    let t1 := if held then t else t.modRegion r (fun x => { x with shown := x.latched, shownState := x.nextState })
    let t2 := t1.modRegion r (fun x => { x with heldFrames := if x.shownState = 5 then x.heldFrames + 1 else x.heldFrames })
    if t2.regionReg r 0x13 = 5 ∧ t2.regionUse r 9 ≤ (t2.region r).heldFrames then t2.regionEnter r 4 else t2)

end Sys2Proof.Machine
end

