-- ==== Sys2Proof/Machine/HeadOps.lean ====
section
/-! DEFINITION. What the commands of heads share: link configurations and candidates (R273, R274), vertical limits (R277,
R278), the timing generator, the latch decision (R318 to R326), frame starts (R279 to R283) and the uptake of ring values
(R186, R295). -/
namespace Sys2Proof.Machine

/-- Register `sub` of an object of head h (`obj` is the object of head 0). -/
def State.hreg (s : State) (obj h sub : Nat) : Nat := s.reg (obj + 256 * h) sub
/-- Set a register of head h. -/
def State.setH (s : State) (obj h sub v : Nat) : State := s.setReg (obj + 256 * h) sub v
/-- Count in a register of head h. -/
def State.incH (s : State) (obj h sub : Nat) : State := s.inc (obj + 256 * h) sub
/-- The heads one timing generator serves (R300). -/
def State.pairOf (s : State) (h : Nat) : List Nat :=
  if (s.head (h / 2 * 2)).pairedTaken then [h / 2 * 2, h / 2 * 2 + 1] else [h]
/-- Frames counter of a head. -/
def State.frames (s : State) (h : Nat) : Nat := s.hreg 0x3004 h 5
/-- Link state code of a head (R290). -/
def State.linkState (s : State) (h : Nat) : Nat := s.hreg 0x3002 h 1

/-! ### Links and modes -/

/-- Payload per lane in kbit/s of a rate code (R273). -/
def linkPayload (rate : Nat) : Nat :=
  if rate = 0 then 1296000 else if rate = 1 then 2160000 else if rate = 2 then 4320000 else if rate = 3 then 6480000 else 9671000

/-- A configuration carries a mode (R273). -/
def carries (c : LinkConfig) (m : HeadMode) : Bool := decide (m.pixelKhz * 3 * m.bpc * 100 ≤ 99 * c.lanes * linkPayload c.rate)

/-- The candidates of R274 under the limits of the link object and of the sink. -/
def candidatesIn (rateMax lanesMax sinkRate sinkLanes : Nat) (m : HeadMode) : List LinkConfig :=
  [4, 2, 1].filterMap (fun n =>
    if n ≤ lanesMax ∧ n ≤ sinkLanes then
      ((List.range 5).find? (fun r => decide (r ≤ rateMax ∧ r ≤ sinkRate) && carries ⟨r, n⟩ m)).map (fun r => ⟨r, n⟩)
    else none)

/-- The candidates of a head for a mode, with the sink data held. -/
def State.candidatesFor (s : State) (h : Nat) (m : HeadMode) : List LinkConfig :=
  match (s.head h).sink with
  | none => []
  | some k => candidatesIn (s.use (0x3001 + 256 * h) 1) (s.use (0x3001 + 256 * h) 2) k.rateLimit k.lanes m

/-- The mode that `head.mode` of head h holds as taken up. -/
def State.modeAt (s : State) (h : Nat) : HeadMode :=
  let u := s.use (0x3000 + 256 * h)
  { pixelKhz := u 2, hActive := u 3, hFront := u 4, hSync := u 5, hBack := u 6, vActive := u 7, vFront := u 8, vSync := u 9,
    vBack := u 0xA, polarity := u 0xB, bpc := u 0xC, adaptive := decide (u 0xD = 1), refMin := u 0xE, refMax := u 0xF,
    vtMin := u 0x10, vtMax := u 0x11 }

/-- The mode of a head as taken up; the even head's on a pair (R300). -/
def State.ringMode (s : State) (h : Nat) : HeadMode := s.modeAt (s.timingHead h)

/-- The limits of R275 as (condition, the subs it reads), the region clause apart; subs of `head.link_config` are 256 higher. -/
def modeLimits (m : HeadMode) (paired : Bool) (rateMax lanesMax : Nat) : List (Bool × List Nat) :=
  [(decide (25000 ≤ m.pixelKhz ∧ m.pixelKhz ≤ (if paired then 550000 else 1100000)), [2]),
   (carries ⟨4, 4⟩ m && [1, 2, 4].any (fun n => decide (n ≤ lanesMax) && (List.range 5).any (fun r => decide (r ≤ rateMax) && carries ⟨r, n⟩ m)),
    [2, 0xC, 257, 258]),
   (decide (64 ≤ m.hActive ∧ m.hActive ≤ 4096 ∧ m.hActive % 2 = 0), [3]),
   (decide (8 ≤ m.hFront), [4]), (decide (8 ≤ m.hSync), [5]), (decide (8 ≤ m.hBack), [6]),
   (decide (64 ≤ m.htotal - m.hActive), [4, 5, 6]), (decide (m.htotal ≤ 8192), [3, 4, 5, 6]),
   (decide (16 ≤ m.vActive ∧ m.vActive ≤ 2304), [7]),
   (decide (1 ≤ m.vFront), [8]), (decide (1 ≤ m.vSync), [9]), (decide (1 ≤ m.vBack), [0xA]), (decide (m.vtFixed ≤ 16383), [7, 8, 9, 0xA]),
   (decide (10 ≤ m.refMin ∧ m.refMin ≤ m.refMax), [0xE]), (decide (m.refMin ≤ m.refMax ∧ m.refMax ≤ 240), [0xF]),
   (decide (m.vtMin = 0 ∨ (m.vtFixed ≤ m.vtMin ∧ m.vtMin ≤ 16383)), [0x10]),
   (decide (m.vtMax = 0 ∨ ((if m.vtMin = 0 then m.vtFixed else m.vtMin) ≤ m.vtMax ∧ m.vtMax ≤ 16383)), [0x11])]

/-- A mode meets R275 (the region clause apart). -/
def modeOk (m : HeadMode) (paired : Bool) (rateMax lanesMax : Nat) : Bool := (modeLimits m paired rateMax lanesMax).all (·.1)

/-- The narrower of two declared ranges (R301): what both hold, and the one range where a single sink declares one (DESIGN CHOICE, log entry 172). -/
def narrower : Option (Nat × Nat) → Option (Nat × Nat) → Option (Nat × Nat)
  | none, b => b
  | a, none => a
  | some a, some b => some (max a.1 b.1, min a.2 b.2)

/-- The range that the sinks of a head or pair declare. -/
def State.sinkRange (s : State) (h : Nat) : Option (Nat × Nat) :=
  (s.pairOf h).foldl (fun r g => narrower r ((s.head g).sink.bind (·.range))) none

/-- vt_min and vt_max of R277. With no declared range the refresh limits stand alone. -/
def State.limitsOf (s : State) (h : Nat) (m : HeadMode) : Nat × Nat :=
  let r := s.sinkRange h
  let fmax := match r with | none => m.refMax | some x => min m.refMax x.2
  let fmin := match r with | none => m.refMin | some x => max m.refMin x.1
  let p := m.pixelKhz * 1000
  (max m.vtFixed (max m.vtMin (ceilDiv p (m.htotal * fmax))),
   min 16383 (min (if m.vtMax = 0 then 16383 else m.vtMax) (p / (m.htotal * fmin))))

/-- R278: the effective timing is VARIABLE. -/
def State.variableOk (s : State) (h : Nat) (m : HeadMode) : Bool :=
  let l := s.limitsOf h m
  m.adaptive && decide (l.1 ≤ l.2) && (s.pairOf h).all (fun g => match (s.head g).sink with
    | none => false
    | some k => bit ((k.dpcd.getD 7 0).toNat) 6 && k.range.isSome)

/-- A LINK event (R296). -/
def State.linkEvent (s : State) (h reason : Nat) : State :=
  s.event (s.headHolder h) 0x001C h Status.ok (h / 2) reason
    (s.hreg 0x3002 h 2 + 256 * s.hreg 0x3002 h 3 + 65536 * s.hreg 0x3002 h 4)
/-- A MODE event (R296). -/
def State.modeEvent (s : State) (h reason : Nat) : State :=
  s.event (s.headHolder h) 0x001D h Status.ok (h / 2) reason
    (if reason = 3 then s.hreg 0x3004 h 8 else s.hreg 0x3004 h 2 + 2 ^ 32 * s.hreg 0x3004 h 3)

/-- A link state is entered (R290): the state, `mode_state` (R309), the time of a change. -/
def State.linkEnter (s : State) (h st : Nat) : State :=
  let pref := (s.head h).preferred && decide (st = 5 ∨ st = 6 ∨ st = 7)
  let ms := if st = 0 then 0 else if st = 9 then 3 else if pref then 4 else if st = 6 then 1 else 2
  let s1 := s.setH 0x3004 h 9 ms
  if s.linkState h = st then s1 else (s1.setH 0x3002 h 1 st).setH 0x3002 h 13 s.now

/-- Layers and sprites of a head that extend beyond the active area (R298): bits 31:0 local layers, 39:32 sprites. -/
def State.clippedNow (s : State) (h : Nat) : Nat :=
  let m := s.modeOf h
  let out (x y : Int) (w k : Nat) : Bool := decide (x < 0 ∨ y < 0 ∨ (m.hActive : Int) < x + w ∨ (m.vActive : Int) < y + k)
  ((s.enabledLayers h).filter (fun l => out (s.regI (0x4000 + l) 0xF) (s.regI (0x4000 + l) 0x10) (s.layer l 0x11) (s.layer l 0x12))
    |>.map (fun l => 2 ^ (l % 32))).sum +
  ((spritesOf h).filter (fun n => decide (s.sprite n 1 = 1) &&
      out (s.regI (0x4100 + n) 5) (s.regI (0x4100 + n) 6) (s.sprite n 3) (s.sprite n 4)) |>.map (fun n => 2 ^ (32 + n % 8))).sum

/-- R298 after a mode change or a substitution: the bits and the CLIPPED event. -/
def State.clipAfterMode (s : State) (h : Nat) : State :=
  let c := s.clippedNow h
  let s1 := s.setH 0x3004 h 8 c
  if c = 0 then s1 else s1.modeEvent h 3

/-- R298 after a commit: bits of items placed wholly inside clear. -/
def State.clipAfterCommit (s : State) (h : Nat) : State := s.setH 0x3004 h 8 (s.hreg 0x3004 h 8 &&& s.clippedNow h)

/-- The limits and effective timing of R277 and R278 for the mode a head or pair holds (a substitute runs FIXED). -/
def State.relimit (s : State) (h : Nat) : State :=
  let m := s.modeOf h
  let l := s.limitsOf h m
  let v := !((s.pairOf h).any (fun g => (s.head g).preferred)) && s.variableOk h m
  s.each (s.pairOf h) (fun u g =>
    (((u.setH 0x3004 g 1 (ofBool v)).setH 0x3004 g 2 l.1).setH 0x3004 g 3 l.2).modHead g (fun x => { x with dpcd107 := v }))

/-- A timing head's generator works: it sends frames, or is about to start its first. -/
def State.generates (s : State) (t : Nat) : Bool := (s.head t).running || (s.head t).startPending

/-- A head holds a mode, with the limits and effective timing that follow. -/
def State.setMode (s : State) (h : Nat) (m : HeadMode) (preferred : Bool) : State :=
  ((s.modHead (s.timingHead h) (fun x => { x with mode := m, nextMode := none })).modHead h (fun x => { x with preferred := preferred })).relimit h

/-- What the sink of a head decides about its mode: at once, or from the next frame start where the pair's generator works for the other link
(R277, R286, R301). -/
def State.adoptMode (s : State) (h : Nat) (m : HeadMode) (preferred : Bool) : State :=
  let t := s.timingHead h
  if s.generates t then (s.modHead t (fun x => { x with nextMode := some m })).modHead h (fun x => { x with preferred := preferred })
  else s.setMode h m preferred

/-- TIMING_FIXED where a VARIABLE mode runs FIXED (R296). -/
def State.fixedEvent (s : State) (h : Nat) (m : HeadMode) : State := if m.adaptive && !s.variableOk h m then s.modeEvent h 5 else s

/-- A head's sink decides that it runs a mode. -/
def State.takeMode (s : State) (h : Nat) (m : HeadMode) (preferred : Bool) : State :=
  let s1 := s.adoptMode h m preferred
  if preferred then s1 else s1.fixedEvent h m

/-! ### Commits pending -/

/-- A pending or latched commit of a head ends without being shown: ABORTED or another status when COMPLETION is set (R334),
counted in `discarded` (R343). -/
def State.discardCommit (s : State) (h : Nat) (p : PendingCommit) (status : Nat) : State :=
  (s.incH 0x3007 h 5).endEntry p.inst p.q p.tag p.completion status

/-- Discard the commits of a head that satisfy a test, pending and on their way. -/
def State.discardPending (s : State) (h : Nat) (f : PendingCommit → Bool) (status : Nat) : State :=
  let x := s.head h
  let gone := (x.pending ++ x.checked).filter f
  let s1 := s.modHead h (fun x => { x with pending := x.pending.filter (fun p => !f p), checked := x.checked.filter (fun p => !f p) })
  gone.foldl (fun t p => t.discardCommit h p status) s1

/-- The head whose state a latched entry belongs to. -/
def State.recordHead (s : State) (i : Nat) : Nat :=
  if 0x4000 ≤ i ∧ i < 0x4100 then s.layerHead (i - 0x4000)
  else if 0x4100 ≤ i ∧ i < 0x4200 then (i - 0x4100) / 8
  else (i - 0x3009) / 256

/-- The number under which a composer holds who latched a layer or a sprite. -/
def loadKey (idx : Nat) : Option Nat :=
  if 0x4100 ≤ idx ∧ idx < 0x4200 then some (32 + (idx - 0x4100) % 8) else if 0x4000 ≤ idx then some ((idx - 0x4000) % 32) else none

/-- An instance latches a layer or a sprite; bands of the earlier frame are still fetched from the one before (R318, R239). -/
def Composer.loadBy (c : Composer) (idx inst : Nat) : Composer :=
  match loadKey idx with
  | none => c
  | some k => { c with
      loadedBefore := match Tab.find? c.loadedBy k with
        | none => c.loadedBefore
        | some j => if (Tab.find? c.loadedBefore k).isSome then c.loadedBefore else Tab.put c.loadedBefore k j
      loadedBy := Tab.put c.loadedBy k inst }

/-- One record of a commit latches (R318, R351). A Heartwood layer's latched values are its region's alone, also where the commit was checked
before the region had been taken up (R394). -/
def State.latchRecord (s : State) (inst : Nat) (r : Nat × Nat × Val) : State :=
  if 0x4000 ≤ r.1 ∧ r.1 < 0x4100 ∧ s.heartwoodLayer (r.1 - 0x4000) then s else
  let key := entryKey r.1 r.2.1
  let s1 := s.modComp (s.recordHead r.1) (fun c => ({ c with
    before := if (Tab.find? c.before key).isSome then c.before else Tab.put c.before key (s.liveAt r.1 r.2.1) } : Composer).loadBy r.1 inst)
  s1.setLive r.1 r.2.1 r.2.2

/-- A sprite's loaded images enter the pool and the carve-out's latched set at the latch (R368). -/
def State.latchImages (s : State) (e : Nat × List (List Byte)) : State :=
  let s1 := s.modComp (e.1 / 8) (fun c => { c with
    poolBefore := if (Tab.find? c.poolBefore e.1).isSome then c.poolBefore else Tab.put c.poolBefore e.1 (Tab.getD s.pool e.1 [])
    carve := Tab.put c.carve e.1 e.2 })
  { s1 with pool := Tab.put s1.pool e.1 e.2 }

/-- The commit configuration a head takes up, and whether it is privileged (R330, R337). -/
def State.takeCfg (s : State) (g : Nat) : State :=
  let u := s.use (0x3006 + 256 * g)
  let p := decide (u 6 = 1) || (s.enabledRegions g).any (fun r => decide (s.regionUse r 7 = 3))
  (s.modHead g (fun x => { x with cfg := { guard := u 1, flipSet := decide (u 2 = 1), rasterMask := u 3, lineA := u 4, lineB := u 5,
                                           privileged := p } })).setH 0x3007 g 1 (ofBool p)

/-- The ring entries that head g takes up at its frame start. While the head carries a secure claim, its post table and the
`layer.head` of its Heartwood layers wait for the claim's release (R414). -/
def State.headKey (s : State) (g key : Nat) : Bool :=
  let i := key / 256
  let held := s.claimed 1 g
  (decide (0x3000 + 256 * g ≤ i ∧ i ≤ 0x300A + 256 * g) && !(held && decide (i = 0x3009 + 256 * g ∧ (key % 256 = 4 ∨ key % 256 = 5)))) ||
  decide (i = 0x4200 + g) ||
  (decide (0x4000 ≤ i ∧ i < 0x4100) && decide (s.layerHead (i - 0x4000) = g) &&
    !(held && s.heartwoodLayer (i - 0x4000) && decide (key % 256 = 1)))

/-- The layers of a bitmap that still meet R378. -/
def State.membersKept (s : State) (g v : Nat) : Nat := (((List.range 32).filter (fun k => bit v k && s.membersOk g (2 ^ k))).map (2 ^ ·)).sum

/-- R380 and R382: member bits of layers that no longer meet R378 clear, in a value that waits for its uptake too; a changed Canopy entry is a
member change. -/
def State.canopyTaken (s : State) (g : Nat) (old : State) : State :=
  let v := s.canopyReg g 5
  let w := s.membersKept g v
  let ch := decide (v ≠ w) || [1, 2].any (fun k => decide (old.use (0x4200 + g) k ≠ s.use (0x4200 + g) k))
  (s.setReg (0x4200 + g) 5 w).modCano g (fun c => { c with change := c.change || ch, newMembers := c.newMembers.map (s.membersKept g) })

/-- Layers that moved to the other head leave this one: they show nothing until a commit there, and join it at its next frame start, at once where
its generator is stopped (R350, log entry 173). -/
def State.layersMoved (s : State) (g : Nat) (old : State) : State :=
  s.each ((old.layersOf g).filter (fun l => decide (s.layerHead l ≠ g))) (fun t l =>
    let k := t.layerHead l
    let t1 := t.setReg (0x4000 + l) 2 0
    if t.generates (t.timingHead k) then t1.modHead k (fun x => { x with joining := x.joining ++ [l] }) else t1)

/-- The pairing of a die's heads is taken up or removed (R295, R300, R328). -/
def State.pairTaken (s : State) (e : Nat) : State :=
  let on := decide (s.use (0x3001 + 256 * e) 5 = 1)
  if (s.head e).pairedTaken = on then s
  else
    let s1 := (s.discardPending e (fun _ => true) Status.aborted).discardPending (e + 1) (fun _ => true) Status.aborted
    let s2 := s1.each [e, e + 1] (fun t g => t.modHead g (fun x => { x with fallback := some (t.reg (0x3009 + 256 * g) 1), fallbackFlr := false }))
    let s3 := ((s2.modHead e (fun x => { x with pairedTaken := on })).modHead (e + 1) (fun x => { x with running := false, startPending := false })).modComp (e + 1) (fun c => { c with slots := [], bgFrame := none })
    if on then
      let s4 := s3.event (s.headHolder e) 0x001E e Status.ok (e / 2) 1 0
      if ((s.head e).sink.map (·.tileRight)).getD false then s4.event (s.headHolder e) 0x001E e Status.ok (e / 2) 2 0 else s4
    else s3

/-- The heads whose ring values a timing head's uptake takes: both of a die where the pairing changes. -/
def State.takingHeads (s : State) (t : Nat) : List Nat :=
  let e := t / 2 * 2
  if s.cfg (0x3001 + 256 * e) 5 ≠ s.use (0x3001 + 256 * e) 5 ∧ t = e then [e, e + 1] else s.pairOf t

/-- The values of an uptake: ring entries, pairing, layers, regions, the commit configuration and Canopy's members (R186, R286, R413). -/
def State.uptakeValues (s : State) (t : Nat) : State :=
  let e := t / 2 * 2
  let both := decide (s.cfg (0x3001 + 256 * e) 5 ≠ s.use (0x3001 + 256 * e) 5 ∧ t = e)
  let hs := s.takingHeads t
  let s1 := s.each hs (fun u g => u.takeUpWhere (s.headKey g))
  let s2 := if both then s1.pairTaken e else s1
  let s3 := s2.each hs (fun u g => u.layersMoved g s)
  let s4 := s3.each hs (fun u g => if u.claimed 1 g then u else u.each ((List.range 8).map (8 * g + ·)) (fun v r => v.regionUptake r))
  s4.each hs (fun u g => ((u.takeCfg g).canopyTaken g s).modHead g (fun x => { x with uptake := false }))

/-- The take-up of R225 at an armed frame start: a whole head shows its background, moved layers are disabled; a region's layer stays (R394). -/
def State.takeOver (s : State) (h : Nat) : State :=
  let x := s.head h
  if !x.takeArmed then s
  else
    let ls := (if x.takeWhole then s.layersOf h else x.takeLayers).filter (fun l => !s.heartwoodLayer l)
    let s1 := s.each ls (fun t l => (t.setReg (0x4000 + l) 2 0).modCano h (fun c => { c with change := c.change || bit (t.canopyReg h 5) (l % 32) }))
    s1.modHead h (fun x => { x with
      takeWhole := false, takeLayers := [], takeArmed := false
      fallback := if x.takeWhole then some (s.reg (0x3009 + 256 * h) 1) else x.fallback
      fallbackFlr := x.fallbackFlr && !x.takeWhole })

/-- What R217 does to a head at the first frame start after an FLR: the fallback colour, and layers of a shared head disabled. -/
def State.flrTake (s : State) (h : Nat) : State :=
  let x := s.head h
  let s1 := s.each (x.hideLayers.filter (fun l => !s.heartwoodLayer l)) (fun t l => (t.setReg (0x4000 + l) 2 0).modCano h (fun c => { c with change := c.change || bit (t.canopyReg h 5) (l % 32) }))
  let s2 := s1.modHead h (fun x => { x with
    hideLayers := [], flrColour := none, fallback := if x.flrColour.isSome then x.flrColour else x.fallback
    fallbackFlr := x.fallbackFlr || x.flrColour.isSome })
  if x.flrColour.isSome then s2.modComp h (fun c => { c with clearAt := none }) else s2

/-- The case of New size (R295). -/
def newSizeOf (a b : HeadMode) : Bool :=
  decide (a.hActive ≠ b.hActive ∨ a.vActive ≠ b.vActive ∨ a.pixelKhz ≠ b.pixelKhz ∨ a.bpc ≠ b.bpc ∨ a.polarity ≠ b.polarity)

/-- What the next frame start of a timing head will have taken up: the values of R186 and the take-ups of R225 and R217, for the judgement of the
latch decision before it (R381, R382). -/
def State.takeView (s : State) (t : Nat) : State :=
  let hs := s.pairOf t
  let s1 := if hs.any (fun g => (s.head g).uptake) then
      (s.uptakeValues t).each hs (fun u g =>
        let m := u.ringMode g
        let size := newSizeOf (s.modeOf g) m && !(s.head g).preferred
        (u.modHead (u.timingHead g) (fun x => { x with mode := if x.preferred then x.mode else m })).modCano g (fun c => { c with change := c.change || size }))
    else s
  s1.each hs (fun u g => (u.takeOver g).flrTake g)

/-- A record is a member change of R382. -/
def State.memberRecord (s : State) (h : Nat) (r : Nat × Nat × Val) : Bool :=
  decide (s.recordHead r.1 = h) &&
    (decide (r.1 = 0x3009 + 256 * h) || (decide (0x4000 ≤ r.1 ∧ r.1 < 0x4100) && bit (s.canopyReg h 5) ((r.1 - 0x4000) % 32)))

/-- One commit latches: its records, images, counters and QUEUE event (R334, R343). -/
def State.latchCommit (s : State) (t : Nat) (p : PendingCommit) : State :=
  let s1 := p.images.foldl State.latchImages (p.records.foldl (fun u r => u.latchRecord p.inst r) s)
  let s2 := s1.incH 0x3007 t 2
  let s3 := if p.late then s2.incH 0x3007 t 3 else s2
  s3.endEntry p.inst p.q p.tag p.completion (if p.late then Status.late else Status.ok)

/-- The latch decision of a timing head for its next frame (R318 to R326): every pending commit and content set latches;
Canopy and the regions decide; a take-up of R225 decided before is armed. Each head counts its own frames (R331). Where a reflex start alone had
made the frame's decision, a commit that still latches for it joins it (R322), and the bands begun hold what they are with it. -/
def State.latchDecision (s : State) (t : Nat) : State :=
  let ps := (s.head t).pending
  let hs := s.pairOf t
  let again := (s.head t).latchedNext
  let member (g : Nat) : Bool := ps.any (fun p => p.records.any (s.memberRecord g)) || s.membersChange g
  let s0 := s.each hs (fun u g => u.membersTaken g)
  let s1 := ps.foldl (fun u p => u.latchCommit t p) s0
  let s2 := s1.modHead t (fun x => { x with pending := [], toShow := x.toShow ++ ps, latchedNext := true,
                                            latchedCommit := (again && x.latchedCommit) || !ps.isEmpty })
  let s3 := s2.each hs (fun u g => u.modHead g (fun x => { x with takeArmed := x.takeArmed || x.takeWhole || !x.takeLayers.isEmpty }))
  let v := s3.takeView t
  s3.each hs (fun u g =>
    let next := u.frames g + 1
    let u1 := u.modComp g (fun c =>
      let behind := decide (c.frameNumber < u.frames g ∧ c.nextBand < u.bandCount g)
      { c with decidedFrame := next, latchFrame := next,
               nextBand := if behind then u.bandCount g else c.nextBand,
               clearAt := if ps ≠ [] ∧ (u.head g).fallback ≠ none ∧ c.clearAt = none then some next else c.clearAt })
    let u2 := (((u1.clipAfterCommit g).regionsLatch g).refreshFetch (g / 2)).canopyDecide v g (member g) again
    if again then u2.recompose g next else u2)

/-! ### The timing generator -/

/-- S_min and S_max of a frame that begins now (R280, R281). -/
def State.windowOf (s : State) (t : Nat) : Nat × Nat :=
  let m := s.modeOf t
  let b := m.vSync + m.vBack
  if s.hreg 0x3004 t 1 = 1 then (s.hreg 0x3004 t 2 - b, s.hreg 0x3004 t 3 - b) else (m.vtFixed - b, m.vtFixed - b)

/-- The generator of a head or pair stops. The frame in progress ends unfinished; commits stay (R292). -/
def State.haltGenerator (s : State) (h : Nat) : State :=
  let t := s.timingHead h
  let s1 := s.modHead t (fun x => { x with
    running := false, startPending := false, toLine0 := none, ready := none, readyCarried := false, latchedNext := false, latchedCommit := false,
    aborting := none, aborted := false, filled := 0, underran := false, underCol := none, readyRaised := false,
    stopping := false, newSize := false })
  s1.each (s.pairOf t) (fun u g => (u.modComp g (fun c => { c with slots := [], nextBand := u.bandCount g, bgFrame := none })).modHead g (fun x => { x with
    joining := [] }))

/-- The generator of a head stops, unless another link of the pair is ACTIVE (R302). -/
def State.stopGenerator (s : State) (h : Nat) : State :=
  if (s.pairOf h).any (fun g => decide (g ≠ h ∧ s.linkState g = 6)) then s else s.haltGenerator h

/-- The generator of a head starts (R292, R326): every pending commit latches, none late, and the composer begins the first frame. -/
def State.beginRun (s : State) (h : Nat) : State :=
  let t := s.timingHead h
  if (s.head t).running || (s.head t).startPending then s
  else
    let s1 := s.modHead t (fun x => { x with startPending := true, pending := x.pending.map (fun p => { p with late := false }) })
    let s2 := s1.latchDecision t
    s2.each (s2.pairOf t) (fun u g => u.modComp g (fun c => { c with frameNumber := u.frames g + 1, nextBand := 0, slots := [] }))

/-- A training starts with its candidates, at the levels that the cable's length gives and with the down-spread set for it (R271, R274, R288). -/
def State.startTraining (s : State) (h : Nat) (cs : List LinkConfig) (first : Option LinkConfig) : State :=
  let v := Config.startLevels (s.hreg 0x3002 h 4)
  let spread := decide (s.use (0x3001 + 256 * h) 3 = 1) && (match (s.head h).sink with
    | none => false
    | some k => bit ((k.dpcd.getD 3 0).toNat) 0)
  s.modHead h (fun x => { x with candidates := cs, attempt := 0, firstCand := first, spread := spread, drive := v.1 % 4, preEmphasis := v.2 % 4, ffe := 0 })

/-- The levels that a training ended on: what the sink asked for, which the manual does not give (R271, log entry 156). -/
def State.trainedLevels (s : State) (h : Nat) : State :=
  let v := Config.freeNat s.free
  s.useFree.modHead h (fun x => { x with drive := v % 4, preEmphasis := v / 4 % 4, ffe := v / 16 % 16 })

/-- The state of the link and of the generator while the head is to be trained again (R290): idle pattern. -/
def State.enterRetraining (s : State) (h : Nat) (cs : List LinkConfig) (first : Option LinkConfig) : State :=
  let s1 := (s.linkEnter h 7).incH 0x3002 h 7
  let s2 := (s1.setH 0x3002 h 2 0xFF).setH 0x3002 h 3 0
  let s3 := (s2.startTraining h cs first).modHead h (fun x => { x with link := none, idlePattern := true, lit := false })
  (s3.linkEvent h 3).stopGenerator h

/-- A link fails or cannot be trained: electrical idle (R290). `reason` is the LINK event's. -/
def State.linkDown (s : State) (h st reason : Nat) : State :=
  let s1 := ((s.linkEnter h st).setH 0x3002 h 2 0xFF).setH 0x3002 h 3 0
  let s2 := s1.modHead h (fun x => { x with link := none, idlePattern := false, lit := false, preferred := false })
  (s2.linkEvent h reason).stopGenerator h

/-- Every protected region of a head lies wholly inside an active area (R275). -/
def State.regionsInside (s : State) (h : Nat) (m : HeadMode) : Bool :=
  (s.enabledRegions h).all (fun r =>
    decide (s.regionUse r 2 + s.regionUse r 4 ≤ m.hActive ∧ s.regionUse r 3 + s.regionUse r 5 ≤ m.vActive))

/-- The substitute that a sink's preferred timing gives (R293): FIXED, 8 bits per component. The preferred timing gives no refresh limits: the ring
mode's stay, and the limits of the vertical total derive from them (DESIGN CHOICE, log entry 170). -/
def substituteMode (p : SinkTiming) (m : HeadMode) : HeadMode :=
  { m with
    pixelKhz := p.pixelKhz, hActive := p.hActive, hFront := p.hFront, hSync := p.hSync, hBack := p.hBack, vActive := p.vActive,
    vFront := p.vFront, vSync := p.vSync, vBack := p.vBack, polarity := p.polarity, bpc := 8, adaptive := false, vtMin := 0, vtMax := 0 }

/-- A mode the head runs has changed: what it clips and what it fetches (R298, R372); a mode of a new size and a substitution
are a change of its Canopy members (R382). -/
def State.afterMode (s : State) (h : Nat) (old : HeadMode) (substituted : Bool) : State :=
  let change := substituted || newSizeOf old (s.modeOf h)
  ((s.clipAfterMode h).refreshFetch (h / 2)).modCano h (fun c => { c with change := c.change || change })

/-- `afterMode` for every head of the pair whose mode has changed; `old` is the state before. -/
def State.afterModes (s old : State) (h : Nat) : State :=
  s.each (s.pairOf h) (fun u g => if old.modeOf g = u.modeOf g then u else u.afterMode g (old.modeOf g) false)

/-- The decision of READING_CAPS with the sink data held (R290, R293). -/
def State.decideCaps (s0 : State) (h : Nat) : State :=
  let s := s0.modHead h (fun x => { x with idlePattern := false })
  let m := s.ringMode h
  let cs := s.candidatesFor h m
  if cs ≠ [] then (((s.takeMode h m false).startTraining h cs cs.head?).linkEnter h 5).afterModes s h
  else
    let unsupported := ((s.adoptMode h m false).afterModes s h).linkDown h 9 6
    if s.use (0x3001 + 256 * h) 4 ≠ 1 then unsupported
    else match (s.head h).sink.bind (·.preferred) with
      | none => unsupported
      | some p =>
        let m2 := substituteMode p m
        let cs2 := s.candidatesFor h m2
        let ok := modeOk m2 (s.head (h / 2 * 2)).pairedTaken (s.use (0x3001 + 256 * h) 1) (s.use (0x3001 + 256 * h) 2) && s.regionsInside h m2
        if !ok || cs2 = [] then unsupported
        else ((((s.takeMode h m2 true).startTraining h cs2 cs2.head?).linkEnter h 5).modeEvent h 4).afterMode h (s.modeOf h) true

/-- A running or waiting link returns to READING_CAPS, where the data already read decides (R290, R295). -/
def State.backToCaps (s : State) (h : Nat) : State :=
  let s1 := (s.stopGenerator h).modHead h (fun x => { x with link := none, idlePattern := true, lit := false })
  (((s1.linkEnter h 4).setH 0x3002 h 2 0xFF).setH 0x3002 h 3 0).decideCaps h

/-- The values of `head.link_config` taken up. -/
def State.linkCfg (s : State) (h : Nat) : List Nat := [1, 2, 3, 4, 5].map (s.use (0x3001 + 256 * h))

/-- What an uptake of `head.mode` and `head.link_config` does to the link of a head (R290, R295, R299); `old` is the state
before the uptake. The case is that of the mode the head runs. A head of a pair whose link is not up follows the pair's mode (R298, R300). -/
def State.modeTaken (s : State) (g : Nat) (old : State) : State :=
  let m0 := old.modeOf g
  let m := s.ringMode g
  let changed := decide (old.ringMode g ≠ m ∨ old.linkCfg g ≠ s.linkCfg g)
  let st := s.linkState g
  let cs := s.candidatesFor g m
  if !changed then s
  else if st = 6 then
    if (s.head g).preferred || cs = [] then s.backToCaps g
    else if cs.head? ≠ (s.head g).firstCand ∨ old.use (0x3001 + 256 * g) 3 ≠ s.use (0x3001 + 256 * g) 3 then
      ((s.setMode g m false).fixedEvent g m).enterRetraining g cs cs.head? |>.afterMode g m0 false
    else if newSizeOf m0 m then
      ((((s.setMode g m false).fixedEvent g m).modHead (s.timingHead g) (fun x => { x with newSize := true })).modeEvent g 2).afterMode g m0 false
    else if m0 ≠ m then (((s.setMode g m false).fixedEvent g m).modeEvent g 1).afterMode g m0 false
    else s
  else
    let s1 := if s.modeOf g = m0 then s else s.afterMode g m0 false
    if st = 7 then
      if cs = [] then s1.backToCaps g
      else (((s.setMode g m false).fixedEvent g m).startTraining g cs cs.head?).afterMode g m0 false
    else if st = 8 ∨ st = 9 then s1.linkEnter g 4
    else s1

/-- HPD is treated as rising (R290). -/
def State.hpdRise (s : State) (h : Nat) : State :=
  (s.linkEnter h 2).modHead h (fun x => { x with debounce := some (s.now + ms 100) })

/-- A head is enabled or disabled (R290). A disabled head keeps its sink data no longer than its connection. -/
def State.enableTaken (s : State) (h : Nat) : State :=
  let on := s.use (0x3000 + 256 * s.timingHead h) 1 = 1
  if on ∧ s.linkState h = 0 then
    let s1 := s.linkEnter h 1
    if s.hreg 0x3002 h 5 = 1 then s1.hpdRise h else s1
  else if !on ∧ s.linkState h ≠ 0 then
    let s1 := (((s.linkEnter h 0).setH 0x3002 h 2 0xFF).setH 0x3002 h 3 0).modHead h (fun x => { x with
      debounce := none, link := none, idlePattern := false, lit := false, preferred := false, connected := false })
    s1.stopGenerator h
  else s

/-- The uptake of a timing head at a frame start, or at once when its generator is stopped (R186, R286, R413). A pairing taken up or removed sets
each head's limits anew (R301). -/
def State.headTake (s : State) (t : Nat) : State :=
  let hs := s.takingHeads t
  let both := decide (hs ≠ s.pairOf t)
  let s1 := s.uptakeValues t
  let s2 := s1.each hs (fun u g => (u.enableTaken g).modeTaken g s)
  let s3 := if both then s2.each hs (fun u g => u.relimit g) else s2
  let s4 := s3.each hs (fun u g => (if u.linkState g = 6 then u.beginRun g else u).clipAfterCommit g)
  s4.refreshFetch (t / 2)

/-- A change that retrains one link of a pair whose other link keeps the generator running is taken up at T for that link (R295, log entry 157). -/
def State.retrainAtUptake (s : State) (g : Nat) : State :=
  let v := s.takeUpWhere (s.headKey g)
  let link := fun (k : Nat) => decide (k / 256 = 0x3001 + 256 * g ∧ 1 ≤ k % 256 ∧ k % 256 ≤ 3)
  let cs := v.candidatesFor g (v.ringMode g)
  if s.linkState g = 6 ∧ cs ≠ [] ∧ !(s.head g).preferred ∧ (s.pairOf g).any (fun k => decide (k ≠ g ∧ s.linkState k = 6)) ∧
      (cs.head? ≠ (s.head g).firstCand ∨ v.use (0x3001 + 256 * g) 3 ≠ s.use (0x3001 + 256 * g) 3) then
    (s.takeUpWhere link).enterRetraining g cs cs.head?
  else s

/-- Ring values of a head changed at T: taken up at its next frame start; at once when its generator is stopped, or when the change stops it, by
retraining the link or by a return to READING_CAPS (R186, R290, R295). `enable` false waits for the frame start. -/
def State.headRing (s : State) (h : Nat) : State :=
  let t := s.timingHead h
  let now := s.headTake t
  if s.generates t && (now.generates t || decide (s.cfg (0x3000 + 256 * t) 1 ≠ 1)) then
    (if now.generates t then s.each (s.pairOf t) (fun u g => u.retrainAtUptake g) else s).modHead t (fun x => { x with uptake := true })
  else now

/-- Device time of a line-bound event of head h, to its own event set (R330, R334). -/
def State.rasterEvent (s : State) (h maskBit type reason detail : Nat) : State :=
  let c := (s.head h).cfg
  if c.flipSet || !bit c.rasterMask maskBit then s else s.event (s.headHolder h) type h Status.ok (h / 2) reason detail

/-- Reason code of a frame start in FRAME_DONE (R331). -/
def FrameKind.code : FrameKind → Nat
  | .fixed => 1
  | .content => 2
  | .repeated => 3
  | .reflex => 4
  | .abort => 5

/-- A head's link comes down for SLEEP or DEEP_SLEEP: DPCD 0x0600 is set to D3 (R303, log entry 24). -/
def State.headDown (s : State) (h : Nat) : State :=
  if s.linkState h = 0 then s
  else
    let s1 := ((s.linkEnter h 1).setH 0x3002 h 2 0xFF).setH 0x3002 h 3 0
    s1.modHead h (fun x => { x with debounce := none, link := none, idlePattern := false, lit := false, preferred := false,
                                    sinkD3 := x.connected })

/-- What a frame start takes up (R186, R217, R225, R350): layers join, a mode decided since runs, ring values and take-ups apply. A head that
joins the pair here begins this frame with it (R300, R328). -/
def State.frameTakes (s : State) (t : Nat) : State :=
  let hs := s.pairOf t
  let s1 := s.each hs (fun u g => u.modHead g (fun x => { x with joining := [] }))
  let s2 := match (s.head t).nextMode with
    | none => s1
    | some m => ((s1.modHead t (fun x => { x with mode := m, nextMode := none })).relimit t).afterModes s1 t
  let s3 := if hs.any (fun g => (s.head g).uptake) then s2.headTake t else s2
  let s4 := s3.each ((s3.pairOf t).filter (fun g => !hs.contains g)) (fun u g =>
    let u1 := u.incH 0x3004 g 5
    let f := u1.frames g
    u1.modComp g (fun c => { c with frameNumber := f, decidedFrame := f, latchFrame := f, nextBand := 0, slots := [] }))
  (s4.each (s4.pairOf t) (fun u g => (u.takeOver g).flrTake g)).refreshFetch (t / 2)

/-- A frame start changes what the frame shows: its bands begun ahead hold what they are with the change (R186). -/
def State.frameChanges (s : State) (t : Nat) : Bool :=
  (s.head t).nextMode.isSome || (s.pairOf t).any (fun g => let x := s.head g; x.uptake || x.takeArmed || x.flrColour.isSome || !x.hideLayers.isEmpty)

/-- A frame start of a timing head at line n (R279, R282, R331): the ending frame is reported, the values of R186 are taken up,
and line 0 of the frame that begins comes v_sync + v_back lines later; a head to be disabled or put to sleep stops here. -/
def State.frameStart (s : State) (t : Nat) (kind : FrameKind) : State :=
  let x := s.head t
  let hs := s.pairOf t
  let m0 := s.modeOf t
  let total := x.line + m0.vSync + m0.vBack
  let s1 := s.each hs (fun u g =>
    let a := u.rasterEvent g 3 0x0012 kind.code (total + 65536 * (u.head g).filled + 2 ^ 32 * (u.frames g % 2 ^ 32))
    let b := if kind = .repeated then a.incH 0x3004 g 6 else a
    let c := if kind = .reflex then b.incH 0x3004 g 7 else b
    if kind = .abort then c else c.setH 0x3007 g 13 0)
  let s2 := s1.modHead t (fun y => { y with frameTotal := total, aborting := none, ready := none, readyRaised := false, latchedNext := false,
                                            latchedCommit := false, aborted := decide (kind = .abort), readyCarried := y.readyCarried })
  if x.stopping ∨ (x.uptake ∧ s.cfg (0x3000 + 256 * t) 1 ≠ 1) then
    let s3 := s2.haltGenerator t
    let s4 := if x.uptake then s3.headTake t else s3
    if x.stopping then s4.each hs (fun u g => u.headDown g) else s4
  else
    let s3 := (s2.each hs (fun u g => u.incH 0x3004 g 5)).frameTakes t
    let y := s3.head t
    if !y.running then s3
    else
      let m := s3.modeOf t
      let s4 := s3.modHead t (fun z => { z with toLine0 := some (m.vSync + m.vBack), frameTotal := z.line + m.vSync + m.vBack,
                                                newSize := false })
      s4.each (s4.pairOf t) (fun u g =>
        let u1 := if y.newSize then u.modComp g (fun c => { c with bgFrame := some (u.frames g) }) else u
        let u2 := (u1.canopyLate g).canopyFrame g
        if s.frameChanges t then u2.recompose g (u2.frames g) else u2)

/-- Commits whose frame is now shown write their FLIP (R331, R334, R344). -/
def State.showFlips (s : State) (t : Nat) : State :=
  let x := s.head t
  let f := s.frames t
  let c := s.comp t
  if f < c.latchFrame ∨ c.bgFrame = some f then s
  else
    let s1 := x.toShow.foldl (fun u p =>
      if x.cfg.flipSet then
        u.event p.inst 0x0014 t (if p.late then Status.late else Status.ok) (t / 2) 0 (p.tag + 2 ^ 32 * (f % 2 ^ 32))
      else u) s
    let s2 := match x.toShow with
      | [] => s1
      | p :: ps =>
        let q := ps.foldl (fun (a b : PendingCommit) => if b.inst < a.inst then b else a) p
        ((((s1.setH 0x3008 t 1 f).setH 0x3008 t 2 s.now).setH 0x3008 t 3 q.tag).setH 0x3008 t 4 q.inst).setH 0x3008 t 5
          (if q.late then Status.late else Status.ok)
    (s2.modHead t (fun y => { y with toShow := [] })).each (s.pairOf t) (fun u g =>
      let u1 := u.modComp g (fun c => { c with before := [], poolBefore := [], loadedBefore := [] })
      if ((u.comp g).clearAt.map (fun n => decide (n ≤ f))).getD false then
        (u1.modHead g (fun y => { y with fallback := none })).modComp g (fun c => { c with clearAt := none })
      else u1)

/-- Line 0 of a frame begins (R279): its window, the ready carried into it (R323, R324, R340), what it shows. -/
def State.lineZero (s : State) (t : Nat) : State :=
  let x := s.head t
  let w := s.windowOf t
  let var := decide (s.hreg 0x3004 t 1 = 1)
  let carried := var && (x.readyCarried || !x.pending.isEmpty || (List.range 128).any (fun r => (s.pairOf t).contains (r / 8) && (s.region r).pending.isSome))
  let s1 := if x.running then s.each (s.pairOf t) (fun u g => u.setH 0x3004 g 4 x.frameTotal) else s
  let s2 := s1.modHead t (fun y => { y with
    running := true, startPending := false, line := 0, toLine0 := none, sMin := w.1, sMax := w.2,
    ready := if carried then some (0, false) else none, readyCarried := false, latchedNext := false, latchedCommit := false, aborted := false })
  let s3 := s2.showFlips t
  s3.each (s.pairOf t) (fun u0 g =>
    let u := u0.modHead g (fun y => { y with filled := 0, underran := false, underCol := none })
    let u1 := ((u.regionsFrame g).canopyValid g).canopyTally g
    u1.modComp g (fun c => { c with slots := c.slots.filter (fun e => decide (u.frames g ≤ e.frame)) }))

/-- Entry into SLEEP or DEEP_SLEEP (R303): a running head stops at its next frame start, any other at once. -/
def State.headsStop (s : State) : State :=
  s.each (List.range (2 * s.dies)) (fun t h =>
    let x := t.head (t.timingHead h)
    if x.running ∨ x.startPending then t.modHead (t.timingHead h) (fun y => { y with stopping := true }) else t.headDown h)

/-- The entry is complete: every head has stopped, and the sprite pools are lost (R373). -/
def State.headsDown (s : State) : State :=
  let s1 := s.each (List.range (2 * s.dies)) (fun t h => if t.generates (t.timingHead h) then t.haltGenerator h else t)
  { s1.each (List.range (2 * s.dies)) (fun t h => t.headDown h) with pool := [] }

/-- The pools are loaded again from the carve-outs (R373). -/
def State.reloadPool (s : State) : State :=
  { s with pool := (List.range (2 * s.dies)).foldl (fun p h => (s.comp h).carve.foldl (fun q e => Tab.put q e.1 e.2) p) s.pool }

/-- The sink of a head is gone (R287, R296, R307, R308): DISCONNECTED when CONNECTED had been written, and its data are emptied. The event's rate
and lanes are those of a link that is down, its length that of the connection (DESIGN CHOICE, log entry 171). -/
def State.sinkGone (s : State) (h : Nat) : State :=
  let s0 := (s.setH 0x3002 h 5 0).modHead h (fun x => { x with debounce := none, connected := false, sink := none })
  let s1 := ((s0.setRegBytes (0x3003 + 256 * h) 1 []).setRegBytes (0x3003 + 256 * h) 2 []).setRegBytes (0x3003 + 256 * h) 3 []
  let s2 := (((s1.setH 0x3002 h 2 0xFF).setH 0x3002 h 3 0).setH 0x3002 h 11 0).setH 0x3002 h 12 0
  (if (s.head h).connected then s2.linkEvent h 4 else s2).setH 0x3002 h 4 0xFFFF

/-- DPn_HPD as it stands where the device begins to sample it again: on exit from DEEP_SLEEP and at entry into OPERATIONAL (R287, R294, R303). -/
def State.hpdResample (s : State) (h : Nat) : State :=
  if s.pins.hpd.contains h then s.setH 0x3002 h 5 1 else if s.hreg 0x3002 h 5 = 1 then s.sinkGone h else s

/-- Exit from SLEEP or DEEP_SLEEP (R303). -/
def State.headsWake (s : State) (deep : Bool) : State :=
  s.reloadPool.each (List.range (2 * s.dies)) (fun t h =>
    let t1 := if deep then t.hpdResample h else t
    if t1.linkState h = 0 then t1
    else
      let t0 := t1.modHead h (fun x => { x with sinkD3 := false })
      if t0.hreg 0x3002 h 5 = 0 then t0
      else if deep then t0.linkEnter h 3
      else if (t0.head h).sink.isSome then t0.decideCaps h
      else t0.hpdRise h)

end Sys2Proof.Machine
end

