-- ==== Sys2Proof/Machine/Records.lean ====
section
/-! DEFINITION. Records of (index, sub, value) as ring images (R184), commit blocks (R312) and shed images hold them. -/
namespace Sys2Proof.Machine

/-- A record: index, sub, value bytes, and whether its reserved and padding bytes are 0. -/
structure Record where
  idx  : Nat
  sub  : Nat
  data : List Byte
  zero : Bool := true
deriving DecidableEq, Repr

/-- Bytes a record of n value bytes takes: 8 and the value padded to 4. -/
def recordSize (n : Nat) : Nat := 8 + (n + 3) / 4 * 4

/-- The records of a byte string, read by their length fields; none when they do not end at the string's end. -/
def parseRecords : Nat → List Byte → Option (List Record)
  | _, [] => some []
  | 0, _ => none
  | n + 1, bs =>
    let l := field bs 4 2
    let t := recordSize l
    if bs.length < t then none
    else
      let r : Record := { idx := field bs 0 2, sub := field bs 2 1, data := slice bs 8 l,
                          zero := allZero (slice bs 3 1) && allZero (slice bs 6 2) && allZero (slice bs (8 + l) (t - 8 - l)) }
      (parseRecords n (bs.drop t)).map (r :: ·)

/-- The bytes of a record. -/
def Record.encode (r : Record) : List Byte :=
  leBytes 2 r.idx ++ leBytes 1 r.sub ++ [0] ++ leBytes 2 r.data.length ++ [0, 0] ++ r.data ++
  List.replicate (recordSize r.data.length - 8 - r.data.length) 0

/-- The key of a record. -/
def Record.key (r : Record) : Nat := entryKey r.idx r.sub

/-- Strictly ascending order of (index, sub). -/
def recordsAscend (rs : List Record) : Bool := decide ((rs.map Record.key).Pairwise (· < ·))

end Sys2Proof.Machine
end

