-- ==== Sys2Proof/Machine/Commits.lean ====
section
/-! DEFINITION. What a line start is made of, and the commands of commits and underrun (R282 to R286, R311 to R340). -/
namespace Sys2Proof.Machine

/-! ### Lines -/

/-- The line that ends has been sent: its words go out and enter the signatures (R401). After an abort only line k has content. -/
def State.lineOut (s : State) (t : Nat) : State :=
  let x := s.head t
  let live := decide (x.toLine0 = none ∧ x.line < (s.modeOf t).vActive) && (match x.aborting with
    | none => true
    | some a => decide (x.line = a.1))
  if live then s.each (s.pairOf t) (fun u g => u.lineSent g x.line (u.head g).underCol) else s

/-- Line matches (R331) of line n of the present frame, or of the one before it (`back` 1) whose frame start has come. -/
def State.lineMatch (s : State) (t n back : Nat) : State :=
  s.each (s.pairOf t) (fun u g =>
    let c := (u.head g).cfg
    let frame := u.frames g - back
    let u1 := if c.lineA = n then (u.incH 0x3007 g 8).rasterEvent g 1 0x0011 1 frame else u
    if c.lineB = n then (u1.incH 0x3007 g 9).rasterEvent g 2 0x0011 2 frame else u1)

/-- The quiet-line span of R463 for the engines that name this head: numerators over 4 × pixel clock in kHz, ns. -/
def State.quietLine (s : State) (t n : Nat) : State :=
  let m := s.modeOf t
  s.each s.dieList (fun u d =>
    let q := u.use (0x6100 + d)
    if q 4 < 16 ∧ u.timingHead (q 4) = t ∧ q 5 = n ∧ 0 < q 6 then
      let lo : Int := (4 * (u.now : Int) - 15) * m.pixelKhz
      let hi : Int := (4 * (u.now : Int) + 15) * m.pixelKhz + 4 * (q 6 * m.htotal * 1000000)
      let k := Tab.getD u.keys.dies d {}
      { u with keys := { u.keys with dies := Tab.put u.keys.dies d { k with quiet := k.quiet ++ [(lo, hi, 4 * m.pixelKhz)] } } }
    else u)

/-- The cutoff line C of a head (R319). -/
def State.cutoff (s : State) (t : Nat) : Nat := (s.modeOf t).vActive - 1 - (s.head t).cfg.guard

/-- The kind of a CONTENT start: that of the first counted ready (R331). -/
def readyKind (reflex : Bool) : FrameKind := if reflex then .reflex else .content

/-- R282: the frame-start decision at the start of line n, if it starts a frame. -/
def State.frameStartKind (s : State) (t n : Nat) : Option FrameKind :=
  let x := s.head t
  match x.aborting with
  | some a => if n = a.2 then some .abort else none
  | none =>
    if s.hreg 0x3004 t 1 ≠ 1 then (if n = x.sMin then some .fixed else none)
    else if n < x.sMin then none
    else match x.ready with
      | some r => if r.1 + 3 ≤ x.sMax ∧ max (r.1 + 2) x.sMin ≤ n then some (readyKind r.2)
                  else if n = x.sMax then some .repeated else none
      | none => if n = x.sMax then some .repeated else none

/-- The latch decision is due at line n (R318, R320, R322): line C on a FIXED head; on a VARIABLE head line C with a counted
ready, or line S_max − 2. -/
def State.latchDue (s : State) (t n : Nat) : Bool :=
  let x := s.head t
  if x.latchedNext || x.aborting.isSome then false
  else if s.hreg 0x3004 t 1 ≠ 1 then decide (n = s.cutoff t)
  else (decide (n = s.cutoff t) && (x.ready.isSome || !x.pending.isEmpty)) || decide (n + 2 = x.sMax)

/-- VBLANK (R331): the start of line v_active of the frame with a number, each head counting its own; `back` is 1 where its frame start has come
before. -/
def State.vblankAt (s : State) (t n back : Nat) : State :=
  s.each (s.pairOf t) (fun u g =>
    if n = (u.modeOf t).vActive then (u.incH 0x3007 g 7).rasterEvent g 0 0x0010 0 (u.frames g - back) else u)

/-- The latch decision at the start of line n, if it is due there. -/
def State.latchAt (s : State) (t n : Nat) : State := if s.latchDue t n && s.composerServes t then s.latchDecision t else s

/-- The start of the next line of a running head, outside the lines between a frame start and line 0. -/
def State.nextLine (s : State) (t : Nat) : State :=
  let n := (s.head t).line + 1
  let s1 := s.modHead t (fun x => { x with line := n })
  let s2 := s1.each (s.pairOf t) (fun u g => (u.modHead g (fun x => { x with underCol := none })).freeSlots g)
  let s3 := ((s2.vblankAt t n 0).lineMatch t n 0).quietLine t n
  let s4 := s3.latchAt t n
  match s4.frameStartKind t n with
  | some k => s4.frameStart t k
  | none => s4

/-- READY_SAMPLED (R282, R284, R340): a reflex start is first sampled; it counts when the frame has no ready and is early enough.
A commit's ready is sampled with its arrival (R316). -/
def execReadySampled (head : Nat) (reflex : Bool) (s : State) : Host.Outcome State Fault Refusal :=
  let t := s.timingHead head
  let x := s.head t
  if !reflex || !x.readyRaised then .next s
  else
    let s1 := s.modHead t (fun y => { y with readyRaised := false })
    if !x.running ∨ !(s.head head).reflexStart ∨ s.hreg 0x3004 t 1 ≠ 1 ∨ x.toLine0.isSome ∨ x.aborting.isSome ∨ x.ready.isSome ∨
        x.sMax ≤ x.line + 2 then .next s1
    else
      let s2 := s1.modHead t (fun y => { y with ready := some (x.line, true) })
      .next (if s.cutoff t ≤ x.line ∧ !x.latchedNext then s2.latchDecision t else s2)

/-! ### Commits -/

/-- A latched entry (R374, R376, R377): layer subs 0x02 to 0x1B, sprite subs 0x01 to 0x0A, the background. -/
def latchedEntry (i sub : Nat) : Bool :=
  (decide (0x4000 ≤ i ∧ i < 0x4100) && decide (2 ≤ sub ∧ sub ≤ 0x1B)) ||
  (decide (0x4100 ≤ i ∧ i < 0x4200) && decide (1 ≤ sub ∧ sub ≤ 0xA)) ||
  (decide (0x3009 ≤ i ∧ i < 0x4000 ∧ (i - 0x3009) % 256 = 0) && decide (sub = 1))

/-- The committing instance holds a record's grant unit (R124, R223, R225): the layer, or the head with its sprites and background. -/
def State.commitEntitled (s : State) (inst i : Nat) : Bool :=
  decide ((if 0x4000 ≤ i ∧ i < 0x4100 then s.layerHolder (i - 0x4000) else s.headHolder (s.recordHead i)) = inst)

/-- Check 3 of R314 on one record. -/
def State.recordNames (s : State) (hs : List Nat) (inst : Nat) (r : Record) : Nat :=
  match lookup s.part r.idx r.sub with
  | none => Status.notPresent
  | some _ =>
    let joins := decide (0x4000 ≤ r.idx ∧ r.idx < 0x4100) && s.layerJoins (r.idx - 0x4000)
    if !latchedEntry r.idx r.sub || !hs.contains (s.recordHead r.idx) || joins then Status.deniedAccess
    else if !s.commitEntitled inst r.idx then Status.deniedInstance
    else Status.ok

/-- Check 4 of R314 on one record. -/
def State.recordLength (s : State) (r : Record) : Nat :=
  match lookup s.part r.idx r.sub with
  | none => Status.notPresent
  | some f => if f.row.lengthOk r.data.length then Status.ok else Status.typeLength

/-- The value of a record. -/
def State.recordValue (s : State) (r : Record) : Val :=
  match lookup s.part r.idx r.sub with
  | none => .bytes r.data
  | some f => f.row.decode r.data

/-- A table a record gives has its whole length, and a CUSTOM set sums to 1,024 in every phase (R356, R376). -/
def tableOk (idx sub : Nat) (data : List Byte) : Bool :=
  decide (idx < 0x4000 ∨ 0x4100 ≤ idx) || (decide (sub ≠ 0x1A ∨ data.length = 6144) && decide (sub ≠ 0x1B ∨ data.length = 1280) &&
    (decide (sub ≠ 0x1B) || Pixel.customOk data))

/-- Check 5 of R314 on one record; entries of a graphic layer that must keep their defaults (R376). -/
def State.recordRange (s : State) (r : Record) : Nat :=
  match lookup s.part r.idx r.sub with
  | none => Status.notPresent
  | some f =>
    let v := f.row.decode r.data
    let fixed := decide (0x4000 ≤ r.idx ∧ r.idx < 0x4100) && !isVideo (r.idx - 0x4000) &&
      [7, 8, 9, 0xA, 0x15, 0x16, 0x17, 0x18, 0x1B].contains r.sub
    if !f.row.valueOk s.part s.grade f.num v || !tableOk r.idx r.sub r.data then Status.range
    else if fixed && decide (v ≠ defaultAt s.part s.grade r.idx r.sub) then Status.range
    else Status.ok

/-- The first status of a list that is not OK. -/
def firstBad (l : List Nat) : Nat := (l.find? (· ≠ Status.ok)).getD Status.ok

/-- The records of a block that meets R312, if it does. -/
def blockRecords (length : Nat) (b : List Byte) : Option (List Record) :=
  if field b 0 4 = 0x54494D43 ∧ 1 ≤ field b 4 2 ∧ field b 4 2 ≤ 1024 ∧ field b 6 2 = 0 ∧ field b 8 4 = length ∧ field b 12 4 = 0 ∧
     b.length = length then
    (parseRecords 1024 (b.drop 16)).bind (fun rs => if rs.length = field b 4 2 ∧ rs.all (·.zero) then some rs else none)
  else none

/-- The sprites whose images a commit loads (R368). -/
def loadedSprites (rs : List Record) : List Nat :=
  ((rs.filter (fun r => decide (0x4100 ≤ r.idx ∧ r.idx < 0x4200) && [2, 3, 4, 7, 8, 9].contains r.sub)).map (fun r => r.idx - 0x4100)).dedup

/-- The quota of the instance whose memory a layer, or a sprite (256 + number), is fetched from once an instance's records have latched: that
instance where a record names it, else the one that latched it last (R351, R371). -/
def State.fetchQuota (s : State) (inst : Nat) (rs : List Record) (k : Nat) : Nat :=
  if rs.any (fun r => decide (r.idx = 0x4000 + k)) then s.quota inst
  else if k < 256 then s.quota (s.layerInst k)
  else s.quota (Tab.getD (s.comp ((k - 256) / 8)).loadedBy (32 + k % 8) (s.headHolder ((k - 256) / 8)))

/-- What the sprite pool of a die would hold on the arrival of an instance's commit on head h, in bytes: the latched images, those of the commits
that wait, less those of the one it replaces, and its own (R317, R368). -/
def State.poolAfter (s new : State) (h inst : Nat) (rs : List Record) : Nat :=
  s.poolUse (h / 2) - (((s.head h).pending.filter (fun p => p.inst = inst)).map PendingCommit.poolBytes).sum + ((loadedSprites rs).map new.spriteBytes).sum

/-- Check 6 of R314 on the state with every record applied: the composition checks of the heads, and check 9 (R397). -/
def State.composition (s : State) (hs : List Nat) (inst : Nat) (rs : List Record) : Nat :=
  let t := rs.foldl (fun u r => u.setLive r.idx r.sub (s.recordValue r)) s
  let c := t.composeCheck hs (s.fetchQuota inst rs) (s.poolAfter t (hs.headD 0) inst rs)
  if c ≠ Status.ok then c
  else if rs.any (fun r => decide (0x4000 ≤ r.idx ∧ r.idx < 0x4100) && s.heartwoodLayer (r.idx - 0x4000)) then Status.deniedWorld
  else Status.ok

/-- The checks of R314 on the records of a block. -/
def State.commitCheck (s : State) (hs : List Nat) (inst : Nat) (rs : List Record) : Nat :=
  if !recordsAscend rs then Status.range
  else firstBad [firstBad (rs.map (s.recordNames hs inst)), firstBad (rs.map s.recordLength), firstBad (rs.map s.recordRange),
                 s.composition hs inst rs]

/-- The images of a sprite as loaded from the committing instance's memory (R368). -/
def State.spriteImages (s : State) (inst n : Nat) : List (List Byte) :=
  let b := Pixel.bytesX2 (s.sprite n 2) / 2
  let load (a : Nat) : List Byte :=
    (List.range (s.sprite n 4)).flatMap (fun y => s.readIda (BusSource.composer.serving (n / 16) inst) (a + s.sprite n 9 * y) (b * s.sprite n 3))
  if s.sprite n 8 = 2 ^ 64 - 1 then [load (s.sprite n 7)] else [load (s.sprite n 7), load (s.sprite n 8)]

/-- A checked commit: its records' values and the images it loads, read with every record applied (R368). -/
def State.commitOf (s : State) (inst q tag : Nat) (completion : Bool) (rs : List Record) : PendingCommit :=
  let t := rs.foldl (fun u r => u.setLive r.idx r.sub (s.recordValue r)) s
  ⟨inst, q, tag, completion, rs.map (fun r => (r.idx, r.sub, s.recordValue r)), (loadedSprites rs).map (fun n => (n, t.spriteImages inst n)), false⟩

/-- A refused commit (R314). -/
def State.refuseCommit (s : State) (h : Nat) (e : Entry) (status : Nat) : State :=
  (s.incH 0x3007 h 6).queueEvent e.inst e.q e.tag status

/-- The block an entry names: in device memory when IN_DEVICE is set, else in host memory, whose bytes the command gives; none when its
fetch fails translation (R311, R313). -/
def State.commitFetch (s : State) (h inst addr length flags : Nat) (block : Option (List Byte)) : Option (List Byte) :=
  if flags = 1 then (if s.idaOk inst addr length then some (s.readIda (BusSource.core.serving (s.composingDie h) inst) addr length) else none) else block

/-- COMMIT (R311 to R314, R327): the entry and its block are fetched and checked; a commit that passes is on its way to the
pixel domain. -/
def execCommit (e : Entry) (opcode blockLength commitFlags : Nat) (reservedZero : Bool) (block : Option (List Byte)) (s : State) (blockAddr : Nat := 0) :
    Host.Outcome State Fault Refusal :=
  if !s.canFetch e 2 then .next (s.fetchFails e 2)
  else
    let h := (s.sq e.inst e.q).target
    let s1 := s.fetched e
    if opcode ≠ 1 ∨ !entryFlagsOk e ∨ !reservedZero ∨ blockLength < 16 ∨ 65536 < blockLength ∨ blockLength % 4 ≠ 0 ∨ 1 < commitFlags then
      .next (s1.stopQueue e.inst e.q Status.range)
    else match s.commitFetch h e.inst blockAddr blockLength commitFlags block with
      | none => .next (s1.stopQueue e.inst e.q Status.deniedInstance)
      | some b =>
        if s.timingHead h ≠ h then .next (s1.refuseCommit h e Status.range)
        else match blockRecords blockLength b with
          | none => .next (s1.refuseCommit h e Status.range)
          | some rs =>
            let st := s.commitCheck (s.pairOf h) e.inst rs
            if st ≠ Status.ok then .next (s1.refuseCommit h e st)
            else
              let p := s.commitOf e.inst e.q e.tag (entryCompletion e) rs
              .next (s1.modHead h (fun x => { x with checked := x.checked ++ [p] }))

/-- How an arrival at the present line is taken (R320 to R324, R340): kept for a later latch point, kept and late, or latched now. -/
inductive Arrival where
  | wait | late | ready | latch
deriving DecidableEq, Repr

/-- The rule for an arrival now. `ready` waits for line C of this frame and counts as its ready. A commit that finds a commit latched for the next
frame waits for the one after (R324); one that comes too late to latch in a frame whose start a reflex has counted does too. -/
def State.arrivalNow (s : State) (t : Nat) : Arrival :=
  let x := s.head t
  if !x.running ∨ x.aborting.isSome then .wait
  else if s.hreg 0x3004 t 1 ≠ 1 then
    if x.toLine0.isSome then (if x.aborted then .wait else .late)
    else if s.cutoff t ≤ x.line then .late else .wait
  else if x.toLine0.isSome then .wait
  else if x.line < s.cutoff t then .ready
  else if x.latchedCommit then .wait
  else if x.line + 2 < x.sMax then .latch
  else if x.ready.isSome then .wait
  else .late

/-- Something pending has arrived at the head: its ready, or its latch in the present line. -/
def State.afterArrival (s : State) (t : Nat) (a : Arrival) : State :=
  let x := s.head t
  let ready (u : State) : State := if x.ready = none then u.modHead t (fun y => { y with ready := some (x.line, false) }) else u
  match a with
  | .wait => s
  | .late => s.modHead t (fun y => { y with readyCarried := true })
  | .ready => ready s
  | .latch => (ready s).latchDecision t

/-- A commit is pending on a head and replaces its instance's pending commit (R317, R321 to R324). -/
def State.commitArrives (s : State) (head : Nat) (p : PendingCommit) : State :=
  let a := s.arrivalNow head
  let p1 : PendingCommit := { p with late := p.late || decide (a = .late) }
  let old := (s.head head).pending.filter (fun q => q.inst = p.inst)
  let s1 := s.modHead head (fun x => { x with checked := x.checked.erase p, pending := x.pending.filter (fun q => q.inst ≠ p.inst) ++ [p1] })
  let s2 := old.foldl (fun t q => (t.incH 0x3007 head 4).endEntry q.inst q.q q.tag q.completion Status.aborted) s1
  s2.afterArrival head a

/-- COMMIT_ARRIVAL (R316, R317, R321 to R324): the checked commit arrives. One that has not arrived when its instance is frozen waits for the
THAW (R229). -/
def execCommitArrival (head inst : Nat) (s : State) : Host.Outcome State Fault Refusal :=
  match (s.head head).checked.find? (fun p => p.inst = inst) with
  | none => .next s
  | some p => .next (if s.isShed inst then s else s.commitArrives head p)

/-! ### Underrun -/

/-- A frame is aborted in line k (R338, R340): its frame start falls at line k + 1 + v_front, no earlier than S_min on a
VARIABLE head, and the restarted frame shows the same latched state. -/
def State.abortFrame (s : State) (h : Nat) : State :=
  let t := s.timingHead h
  let x := s.head t
  let at0 := x.line + 1 + (s.modeOf t).vFront
  let at1 := if s.hreg 0x3004 t 1 = 1 then max at0 x.sMin else at0
  let commitReady := (x.ready.map (fun r => !r.2)).getD false
  let s1 := s.modHead t (fun y => { y with aborting := some (x.line, at1), ready := none, latchedNext := false, latchedCommit := false,
                                           readyCarried := y.readyCarried || commitReady })
  let s2 := s1.each (s.pairOf t) (fun u g => (u.modComp g (fun c => { c with
    latchFrame := if u.frames g < c.latchFrame then c.latchFrame + 1 else c.latchFrame,
    clearAt := c.clearAt.map (fun n => if u.frames g < n then n + 1 else n),
    decidedFrame := u.frames g + 1, frameNumber := u.frames g, nextBand := u.bandCount g,
    slots := c.slots.filter (fun e => decide (e.frame ≤ u.frames g)) })).spoilBuild g)
  (s2.incH 0x3007 h 12).incH 0x3007 h 13

/-- UNDERRUN (R335 to R338): a pixel of the present active line is missing at `column`. -/
def execUnderrun (head column : Nat) (s : State) : Host.Outcome State Fault Refusal :=
  let t := s.timingHead head
  let x := s.head t
  let g := s.head head
  let m := s.modeOf t
  if !x.running ∨ x.toLine0.isSome ∨ x.aborting.isSome ∨ m.vActive ≤ x.line ∨ m.hActive ≤ column ∨ g.underCol.isSome then .next s
  else
    let s1 := ((s.incH 0x3007 head 10).setH 0x3007 head 14 x.line).setH 0x3007 head 15 s.now
    let s2 := if g.underran then s1 else s1.incH 0x3007 head 11
    let detail := x.line + 65536 * column + 2 ^ 32 * (s.frames head % 2 ^ 32)
    let s3 := if g.cfg.privileged then s2.rasterEvent head 4 0x0013 2 detail
              else if g.underran then s2 else s2.rasterEvent head 4 0x0013 1 detail
    let s4 := s3.modHead head (fun y => { y with underran := true, underCol := some column,
                                                 filled := if g.cfg.privileged then y.filled else y.filled + 1 })
    let b := s.canopyBox head
    let s5 := if b.2.1 ≤ x.line / 16 * 16 + 15 ∧ x.line / 16 * 16 < b.2.1 + b.2.2.2 then s4.spoilBuild head else s4
    .next (if g.cfg.privileged then s5.abortFrame head else s5)

end Sys2Proof.Machine
end

