-- ==== Sys2Proof/Machine/Heartwood.lean ====
section
/-! DEFINITION. The commands of Heartwood (R398, R399, R404, R407 to R411). -/
namespace Sys2Proof.Machine

/-- UPDATE_ARRIVAL (R399): a submitted content set is pending; it replaces the region's pending one and raises a ready as a
commit does. -/
def execUpdateArrival (region : Nat) (s : State) : Host.Outcome State Fault Refusal :=
  match (s.region region).submitted with
  | none => .next s
  | some c =>
    let t := s.timingHead (region / 8)
    .next ((s.modRegion region (fun x => { x with submitted := none, pending := some c })).afterArrival t (s.arrivalNow t))

/-- R411: a mismatch in VERIFIED with action ABORT aborts the frame in progress if active lines remain. Every abort writes UNDERRUN with ABORTED
(R332); no pixel is missing here, so its column is a free value (DESIGN CHOICE, log entry 175). -/
def State.mismatchAbort (s : State) (h : Nat) : State :=
  let t := s.timingHead h
  let x := s.head t
  if x.running && decide (x.toLine0 = none ∧ x.aborting = none ∧ x.line + 1 < (s.modeOf t).vActive) then
    let detail := x.line + 65536 * (Config.freeNat s.free % 65536) + 2 ^ 32 * (s.frames h % 2 ^ 32)
    (s.useFree.rasterEvent h 4 0x0013 2 detail).abortFrame h
  else s

/-- A mismatch of a region (R409, R412); reason 1 SIGNATURE, 2 GUARD_LATE. -/
def State.regionMismatch (s : State) (r reason : Nat) : State :=
  let st := s.regionReg r 0x13
  if st < 2 ∨ 5 < st then s
  else
    let s1 := ((s.inc (0x4300 + r) 0x18).inc (0x4300 + r) 0x19).setReg (0x4300 + r) 0x1A s.now
    let s2 := if (s.region r).freshEvent then
        (s1.modRegion r (fun x => { x with freshEvent := false })).regionEvent r 0x0021 r reason (s.regionReg r 0x16 * 2 ^ 32 + s.regionReg r 0x15)
      else s1
    let s3 := if s.regionUse r 0xB ≠ 0 then s2.secureInterrupt else s2
    if st ≠ 3 then s3
    else
      let act := s.regionUse r 7
      if act = 1 then s3.regionEnter r 4
      else if act = 2 then s3.regionEnter r (if (s.region r).verified.isSome then 5 else 4)
      else if act = 3 then
        let s4 := s3.mismatchAbort (r / 8)
        if s.regionUse r 0xA ≤ s3.regionReg r 0x19 then s4.regionEnter r 4 else s4
      else s3

/-- A match of a region (R409, R410). -/
def State.regionMatch (s : State) (r : Nat) : State :=
  let s1 := ((s.inc (0x4300 + r) 0x17).setReg (0x4300 + r) 0x19 0).modRegion r (fun x => { x with
    freshEvent := true, verified := if s.regionUse r 7 = 2 then some x.captured else x.verified })
  let st := s.regionReg r 0x13
  if st = 2 ∨ st = 4 ∨ st = 5 ∨ st = 6 then s1.regionEnter r 3 else s1

/-- GUARD_SIGNATURE (R403, R407 to R409): the guard's signature of the last complete frame is available and compared; one that
comes more than 200 µs after the region's last line is late. -/
def execGuardSignature (region : Nat) (s : State) : Host.Outcome State Fault Refusal :=
  let x := s.region region
  if !x.compareDue ∨ s.regionReg region 0x13 < 2 then .next s
  else
    let s1 := (s.modRegion region (fun x => { x with compareDue := false })).setReg (0x4300 + region) 0x15 x.mainSig
    if x.doneAt + us 200 < s.now then .next (s1.regionMismatch region 2)
    else
      let g := x.guardSig
      let s2 := s1.setReg (0x4300 + region) 0x16 g
      .next (if g = x.mainSig then s2.regionMatch region else s2.regionMismatch region 1)

/-- GUARD_LATE (R407): 200 µs have passed without the guard's signature. -/
def execGuardLate (region : Nat) (s : State) : Host.Outcome State Fault Refusal :=
  let x := s.region region
  if !x.compareDue ∨ s.regionReg region 0x13 < 2 then .next s
  else
    let s1 := ((s.arriveAt (x.doneAt + us 200)).modRegion region (fun x => { x with compareDue := false })).setReg (0x4300 + region) 0x15 x.mainSig
    .next (s1.regionMismatch region 2)

end Sys2Proof.Machine
end

