-- ==== Sys2Proof/Machine/GraphicsOps.lean ====
section
/-! DEFINITION. What the graphics commands share (R418 to R455): contexts, scheduling, passes and tiles. A context is named by
its SQ_TARGET: die × 16 + slot, or 0x80 + die for the compositor context (R419). -/
namespace Sys2Proof.Machine

/-- Die d runs a field slot (R681). -/
def State.inFieldSlot (s : State) (d : Nat) : Bool := decide (s.reg 0x2710 2 = 2 ∧ s.reg 0x2710 3 = d)

/-- Die of a context. -/
def ctxDie (c : Nat) : Nat := if c < 0x80 then c / 16 else c - 0x80
/-- Object index of a context (R455). -/
def ctxIndex (c : Nat) : Nat := if c < 0x80 then 0x4820 + c else 0x48A0 + (c - 0x80)
/-- The context of the same slot on another die (R442). -/
def ctxOn (c d : Nat) : Nat := if c < 0x80 then 16 * d + c % 16 else 0x80 + d
/-- Context c. -/
def State.ctx (s : State) (c : Nat) : GfxContext := Tab.getD s.gfx.ctxs c {}
/-- Change context c. -/
def State.modCtx (s : State) (c : Nat) (f : GfxContext → GfxContext) : State :=
  { s with gfx := { s.gfx with ctxs := Tab.put s.gfx.ctxs c (f (s.ctx c)) } }
/-- The raster cores of die d. -/
def State.gdie (s : State) (d : Nat) : GfxDie := Tab.getD s.gfx.dies d {}
/-- Change the raster cores of die d. -/
def State.modGdie (s : State) (d : Nat) (f : GfxDie → GfxDie) : State :=
  { s with gfx := { s.gfx with dies := Tab.put s.gfx.dies d (f (s.gdie d)) } }
/-- Change the job of context c. -/
def State.modJob (s : State) (c : Nat) (f : GfxJob → GfxJob) : State := s.modCtx c (fun x => { x with job := x.job.map f })
/-- State code of a context (R455). -/
def State.setCtxState (s : State) (c v : Nat) : State := s.setReg (ctxIndex c) 1 v

/-- Every context, ordinary and compositor. -/
def State.allCtxs (s : State) : List Nat := List.range (16 * s.dies) ++ s.dieList.map (0x80 + ·)
/-- The home context of the job that runs on a context: its own, or that of the part it has taken (R442). -/
def State.jobHome (s : State) (c : Nat) : Option Nat :=
  match (s.ctx c).job with
  | some _ => some c
  | none => (s.ctx c).guest
/-- The part of a context's die in the job it runs. -/
def State.partOn (s : State) (c : Nat) : Option GfxPart :=
  ((s.jobHome c).bind (fun h => (s.ctx h).job)).bind (fun j => j.parts.find? (fun p => p.ctx = c && p.taken))
/-- The instance whose job a context runs. -/
def State.ctxInst (s : State) (c : Nat) : Option Nat := ((s.jobHome c).bind (fun h => (s.ctx h).job)).map (·.inst)
/-- An instance's contexts may take the cores: it is ACTIVE, or DRAIN lets its started jobs run (R229). -/
def State.instDraws (s : State) (i : Nat) : Bool :=
  decide (s.instState i = 1) || (decide (s.instState i = 4 ∧ s.shed.running = some 1 ∧ s.shed.target = i) && s.shed.drainDeadline.isSome)
/-- A context can use the cores of its die: it has a part of a job that has not ended (R443). -/
def State.runnable (s : State) (c : Nat) : Bool :=
  (s.partOn c).isSome && (match (s.ctxInst c) with
    | none => false
    | some i => s.instDraws i) && s.coreActive (ctxDie c)

/-! ### Scheduling (R443 to R446) -/

/-- Instances with a runnable ordinary context on die d, ascending. -/
def State.gfxInstances (s : State) (d : Nat) : List Nat :=
  (List.range 32).filter (fun i => (List.range 16).any (fun k => let c := 16 * d + k; s.runnable c && decide (s.ctxInst c = some i)))
/-- Weight of an instance on a die (0x2200+i.09). -/
def State.gfxWeight (s : State) (i d : Nat) : Nat := ((s.regBytes (0x2200 + i) 9).getD d 0).toNat
/-- The period in ns (0x4800.02). -/
def State.gfxPeriod (s : State) : Nat := us (s.cfg 0x4800 2)

/-- The budgets at a period's start (R443). -/
def State.startPeriod (s : State) (d : Nat) : State :=
  let is := s.gfxInstances d
  let w := (is.map (fun i => s.gfxWeight i d)).sum
  s.modGdie d (fun g => { g with
    period := some s.now,
    budgets := is.foldl (fun t i => Tab.put t i (if s.gfxWeight i d = 0 then 0 else s.gfxPeriod * s.gfxWeight i d / w)) [] })

/-- The instance to run: the largest remaining budget, ties to the lower number; with none left the lowest number (R443). -/
def State.pickInstance (s : State) (d : Nat) : Option Nat :=
  let is := s.gfxInstances d
  let b (i : Nat) : Nat := Tab.getD (s.gdie d).budgets i 0
  match is with
  | [] => none
  | i :: rest =>
    let best := rest.foldl (fun a j => if b a < b j then j else a) i
    if 0 < b best then some best else some i

/-- The context of an instance to run: one stopped within a job, else the next slot in order after the last served (R443). -/
def State.pickSlot (s : State) (d i : Nat) : Option Nat :=
  let cs := ((List.range 16).map (16 * d + ·)).filter (fun c => s.runnable c && decide (s.ctxInst c = some i))
  match cs.find? (fun c => (s.ctx c).preempted) with
  | some c => some c
  | none =>
    let last := Tab.getD (s.gdie d).last i (16 * d + 15)
    match cs.find? (fun c => decide (last < c)) with
    | some c => some c
    | none => cs.head?

/-- The context to run on a die: the compositor context first (R445). -/
def State.pickContext (s : State) (d : Nat) : Option Nat :=
  if s.runnable (0x80 + d) then some (0x80 + d)
  else (s.pickInstance d).bind (s.pickSlot d)

/-- Idle cores take the next context (R443). -/
def State.gfxRun (s : State) (d : Nat) : State :=
  if (s.gdie d).running.isSome then s
  else
    let s1 := if (s.gdie d).period = none ∧ s.gfxInstances d ≠ [] then s.startPeriod d else s
    match s1.pickContext d with
    | none => s1
    | some c =>
      let i := (s1.ctxInst c).getD 0
      let s2 := s1.modGdie d (fun g => { g with running := some c, since := s.now, request := none,
                                                last := if c < 0x80 then Tab.put g.last i c else g.last })
      (s2.modCtx c (fun x => { x with preempted := false })).setCtxState c 1

/-- The running context of a die leaves the cores: its time is charged (R443, R446, R455). -/
def State.gfxLeave (s : State) (d : Nat) : State :=
  match (s.gdie d).running with
  | none => s
  | some c =>
    let g := s.gdie d
    let t := s.now - g.since
    let i := (s.ctxInst c).getD 0
    let s1 := s.modGdie d (fun g => { g with
      running := none, request := none,
      budgets := if c < 0x80 then Tab.put g.budgets i (Tab.getD g.budgets i 0 - t) else g.budgets,
      busy := (g.busy.filter (fun b => decide (s.now ≤ b.2 + ms 10))) ++ [(g.since, s.now)] })
    let s2 := s1.count (ctxIndex c) 6 t
    match s.jobHome c with
    | none => s2
    | some h => s2.modJob h (fun j => { j with parts := j.parts.map (fun p => if p.ctx = c then { p with ran := p.ran + t } else p) })

/-- The running context is pre-empted (R444). -/
def State.preempt (s : State) (d : Nat) : State :=
  match (s.gdie d).running with
  | none => s
  | some c =>
    let s1 := ((s.gfxLeave d).modCtx c (fun x => { x with preempted := true })).inc (ctxIndex c) 7
    let s2 := s1.setCtxState c 2
    if c < 0x80 ∧ s.runnable (0x80 + d) then s2.inc (0x4808 + d) 10 else s2

/-- A pre-emption of the running ordinary context is requested (R445); a second request changes nothing. -/
def State.requestPreemption (s : State) (d : Nat) : State :=
  if (s.gdie d).running.isSome then s.modGdie d (fun g => { g with request := some (g.request.getD s.now) }) else s

/-- Time the running context has held the cores since it took them. -/
def State.held (s : State) (d : Nat) : Nat := s.now - (s.gdie d).since

/-- The running ordinary context has spent its budget while another instance has some left (R443). -/
def State.budgetSpent (s : State) (d : Nat) : Bool :=
  match (s.gdie d).running with
  | none => false
  | some c =>
    let b (i : Nat) : Nat := Tab.getD (s.gdie d).budgets i 0
    decide (c < 0x80) && (match s.ctxInst c with
      | none => false
      | some i => decide (b i ≤ s.held d) && (s.gfxInstances d).any (fun j => decide (j ≠ i ∧ 0 < b j)))

/-- The parts that wait for a context that is free take it at its job boundary (R442). -/
def State.takeParts (s : State) : State :=
  s.each s.allCtxs (fun t h => match (t.ctx h).job with
    | none => t
    | some j => j.parts.foldl (fun u p =>
        if p.taken ∨ (p.ctx ≠ h ∧ ((u.ctx p.ctx).job.isSome ∨ (u.ctx p.ctx).guest.isSome)) then u
        else
          let u1 := if p.ctx = h then u else u.modCtx p.ctx (fun x => { x with guest := some h })
          u1.modJob h (fun k => { k with parts := k.parts.map (fun q => if q.ctx = p.ctx then { q with taken := true } else q) })) t)

/-- After contexts became runnable or idle: a compositor asks for the cores, idle cores take a context. -/
def State.gfxSettle (s : State) : State :=
  let s1 := s.takeParts
  s1.each s1.dieList (fun t d =>
    let t1 := match (t.gdie d).running with
      | some c => if c < 0x80 ∧ t.runnable (0x80 + d) then t.requestPreemption d else t
      | none => t
    t1.gfxRun d)

/-- The share of the last 10 ms in which the cores of a die were held (0x4808.02). -/
def State.busyPermille (s : State) (d : Nat) : Nat :=
  let g := s.gdie d
  let lo := s.now - ms 10
  let spans := match g.running with
    | none => g.busy
    | some _ => g.busy ++ [(g.since, s.now)]
  (spans.map (fun b => min b.2 s.now - max b.1 lo)).sum * 1000 / ms 10

/-! ### Command buffers and passes (R425 to R432) -/

/-- The raster cores' transactions for a job (R29), from its first die; the other dies' are alike. -/
def GfxJob.attr (j : GfxJob) : BusAttr := BusSource.raster.serving ((j.parts.head?.map (·.die)).getD 0) j.inst

/-- The transactions of one die's part of a job. -/
def GfxPart.attr (p : GfxPart) (j : GfxJob) : BusAttr := BusSource.raster.serving p.die j.inst

/-- Bytes of a job's command buffer from an offset. -/
def State.cmdBytes (s : State) (j : GfxJob) (off n : Nat) : List Byte := s.readIda j.attr (j.addr + off) n

/-- The offsets at which a job's records begin, following draw_bytes; none when they do not end at its length (R425). -/
def State.recordChain (s : State) (j : GfxJob) : Nat → Nat → Bool
  | 0, off => decide (off = j.length)
  | n + 1, off => decide (off + 128 ≤ j.length) && s.recordChain j n (off + 128 + leNat (s.cmdBytes j (off + 8) 4))

/-- The command buffer's header and chain meet R425. -/
def State.bufferOk (s : State) (j : GfxJob) : Bool :=
  let h := s.cmdBytes j 0 16
  decide (field h 0 4 = 0x44534D43 ∧ field h 4 2 = 1 ∧ 1 ≤ field h 6 2 ∧ field h 6 2 ≤ 64 ∧ field h 8 4 = j.length ∧ field h 12 4 = 0) &&
  s.recordChain j (field h 6 2) 16

/-- Bytes per pixel of a colour format (R426); 0 for a format that R426 does not allow. -/
def colourBytes (f : Nat) : Nat := if f = 0x20 then 8 else if f = 3 ∨ f = 5 then 2 else if f = 1 ∨ f = 2 ∨ f = 4 then 4 else 0
/-- Bytes per pixel of a depth format. -/
def depthBytes (f : Nat) : Nat := if f = 0x30 then 2 else if f = 0x31 ∨ f = 0x32 then 4 else 0

/-- One attachment of a pass: address, pitch, bytes per pixel, load and store action, format. -/
structure GfxTarget where
  number : Nat
  addr   : Nat
  pitch  : Nat
  bpp    : Nat
  load   : Nat
  store  : Nat
  format : Nat
deriving DecidableEq, Repr

/-- Colour attachments a pass uses. -/
def colourTargets (d : List Byte) : List GfxTarget :=
  (List.range (min 4 (field d 1 1))).map (fun a =>
    let o := 0x20 + 16 * a
    { number := a, addr := field d o 8, pitch := field d (o + 8) 4, bpp := colourBytes (field d (o + 12) 1),
      load := field d (o + 13) 1, store := field d (o + 14) 1, format := field d (o + 12) 1 })
/-- Every attachment a pass uses, depth as number 4. -/
def passTargets (d : List Byte) : List GfxTarget :=
  colourTargets d ++ (if bit (field d 2 2) 0 then
    [{ number := 4, addr := field d 0x68 8, pitch := field d 0x70 4, bpp := depthBytes (field d 0x74 1), load := field d 0x75 1,
       store := field d 0x76 1, format := field d 0x74 1 }] else [])

/-- The descriptor sets SIGNATURES. -/
def passSigs (d : List Byte) : Bool := bit (field d 2 2) 1
/-- Width and height of a pass. -/
def passSize (d : List Byte) : Nat × Nat := (field d 4 2, field d 6 2)

/-- The fields of an attachment that a pass does not use are in range: its actions, and a format that is 0 or one R426 defines (log entry 92). -/
def unusedOk (bpp format load store : Nat) : Bool := decide (load ≤ 2 ∧ store ≤ 1 ∧ (format = 0 ∨ 0 < bpp))

/-- R427: a pass descriptor is accepted: every field in range, whether the pass uses it or not, but for `tile_list_bytes` in IMMEDIATE; used
addresses and pitches fit. -/
def passOk (d : List Byte) : Bool :=
  let sz := passSize d
  decide (field d 0 1 ≤ 2 ∧ field d 1 1 ≤ 4 ∧ field d 2 2 < 4 ∧ 1 ≤ sz.1 ∧ sz.1 ≤ 8192 ∧ 1 ≤ sz.2 ∧ sz.2 ≤ 8192 ∧ field d 8 4 % 4 = 0) &&
  allZero (slice d 0x1D 3) && decide (field d 0x77 1 = 0 ∧ field d 0x10 8 % 4096 = 0 ∧ field d 0x60 8 % 64 = 0) &&
  (decide (field d 0 1 = 1) || decide (65536 ≤ field d 0x18 4 ∧ field d 0x18 4 ≤ 268435456 ∧ field d 0x18 4 % 4096 = 0)) &&
  (List.range 4).all (fun a => let o := 0x20 + 16 * a
    decide (field d (o + 15) 1 = 0) && unusedOk (colourBytes (field d (o + 12) 1)) (field d (o + 12) 1) (field d (o + 13) 1) (field d (o + 14) 1)) &&
  unusedOk (depthBytes (field d 0x74 1)) (field d 0x74 1) (field d 0x75 1) (field d 0x76 1) &&
  (passTargets d).all (fun t => decide (0 < t.bpp ∧ t.load ≤ 2 ∧ t.store ≤ 1 ∧ t.addr % 64 = 0 ∧ t.pitch % 64 = 0 ∧ sz.1 * t.bpp ≤ t.pitch)) &&
  (!passSigs d || decide (1 ≤ field d 1 1))

/-! ### Tile lists (R431) -/

/-- Bytes of a slice of the tile-list memory, for k dies. -/
def sliceBytes (d : List Byte) (k : Nat) : Nat := field d 0x18 4 / k / 4096 * 4096
/-- Where the slice of the i-th die starts. -/
def sliceStart (d : List Byte) (k i : Nat) : Nat := field d 0x10 8 + i * sliceBytes d k
/-- What binned primitives cost in a slice, by the number of tiles each touches. -/
def listCost (tiles : List Nat) : Nat := (tiles.map (fun n => 48 + 8 * n)).sum
/-- A slice fills at the last of these primitives, which does not fit after those before it (R434). -/
def sliceFills (d : List Byte) (k : Nat) (tiles : List Nat) : Bool :=
  decide (tiles ≠ [] ∧ listCost tiles.dropLast ≤ sliceBytes d k ∧ sliceBytes d k < listCost tiles)

/-- R431 and R432: the mode a pass runs in for k dies. -/
def passBinned (d : List Byte) (k : Nat) : Bool :=
  let q := sliceBytes d k
  if field d 0 1 = 0 then true
  else if field d 0 1 = 1 then false
  else decide (field d 0xC 4 * (48 + 8 * max 1 (field d 0x1C 1)) ≤ q * 3 / 4)

/-- A pass of a job fails a check: the first failure is kept (R447). -/
def GfxJob.fail (j : GfxJob) (f : GfxFailure) : GfxJob := { j with failure := some (j.failure.getD f) }

/-- A pipeline object's header meets R429 for the pass in progress. -/
def State.pipelineOk (s : State) (at' : BusAttr) (a : Nat) (d : List Byte) : Bool :=
  let h := s.readIda at' a 64
  let cls (k : Nat) : Nat := field h (8 + k) 1
  decide (field h 0 4 = 0x4F4C5050 ∧ field h 4 2 = Config.abiVersion.toNat ∧ field h 6 1 ≤ 1 ∧ field h 7 1 ≤ 1) &&
  (List.range 4).all (fun k => decide (cls k ≤ 4)) &&
  !(decide (field h 6 1 = 1) && (decide (field h 7 1 = 1) ||
    (colourTargets d).any (fun t => !decide (1 ≤ cls t.number ∧ cls t.number ≤ 3))))

/-! ### Tiles (R430, R433 to R440) -/

/-- Tile columns and rows of a pass. -/
def tileGrid (d : List Byte) : Nat × Nat := (((passSize d).1 + 31) / 32, ((passSize d).2 + 31) / 32)
/-- Width and height of a tile inside the pass. -/
def tileSize (d : List Byte) (tx ty : Nat) : Nat × Nat := (min 32 ((passSize d).1 - 32 * tx), min 32 ((passSize d).2 - 32 * ty))
/-- The die that renders a tile row: region i of the k parts (R440). -/
def rowOwner (parts : List GfxPart) (rows ty : Nat) : Option GfxPart :=
  let k := parts.length
  (List.range k).findSome? (fun i => if i * rows / k ≤ ty ∧ ty < (i + 1) * rows / k then parts[i]? else none)

/-- A half-precision number for v ÷ 255, rounded down or to the next value above. -/
def half255 (v : Nat) (up : Bool) : Nat :=
  if v = 0 then 0
  else if v = 255 then 0x3C00
  else
    let e := ((List.range 9).find? (fun k => decide (255 ≤ v * 2 ^ k))).getD 8
    (15 - e) * 1024 + (v * 2 ^ e - 255) * 1024 / 255 + ofBool up

/-- A single-precision number for d ÷ 2^24. -/
def float24 (d : Nat) : Nat := if d = 0 then 0 else let p := d.log2; (127 + p - 24) * 2 ^ 23 + (d - 2 ^ p) * 2 ^ (23 - p)

/-- The bytes of one pixel of a clear (R426). `free` numbers the values left open: the unused byte of XRGB8888, the rounding
of RGBA16F, and the low bits of D16. -/
def clearPixel (d : List Byte) (t : GfxTarget) (free : Nat) : List Byte :=
  let w := field d 0x78 4
  let a := bits w 31 24
  let r := bits w 23 16
  let g := bits w 15 8
  let b := bits w 7 0
  let z := bits (field d 0x7C 4) 31 8
  let up := Config.freeBool free
  if t.format = 1 then leBytes 4 w
  else if t.format = 2 then leBytes 4 (w % 2 ^ 24 + Config.freeNat free % 256 * 2 ^ 24)
  else if t.format = 3 then leBytes 2 (Pixel.expand 8 5 r * 2 ^ 11 + Pixel.expand 8 6 g * 2 ^ 5 + Pixel.expand 8 5 b)
  else if t.format = 4 then leBytes 4 (Pixel.expand 8 2 a * 2 ^ 30 + Pixel.expand 8 10 r * 2 ^ 20 + Pixel.expand 8 10 g * 2 ^ 10 + Pixel.expand 8 10 b)
  else if t.format = 5 then leBytes 2 (Pixel.expand 8 1 a * 2 ^ 15 + Pixel.expand 8 5 r * 2 ^ 10 + Pixel.expand 8 5 g * 2 ^ 5 + Pixel.expand 8 5 b)
  else if t.format = 0x20 then leBytes 2 (half255 r up) ++ leBytes 2 (half255 g up) ++ leBytes 2 (half255 b up) ++ leBytes 2 (half255 a up)
  else if t.format = 0x30 then leBytes 2 (min 65535 (z / 256 + Config.freeNat free % 2))
  else if t.format = 0x31 then leBytes 4 (field d 0x7C 4)
  else leBytes 4 (float24 z)

/-- Bytes the manual leaves open, numbered from a counter. -/
def freeByteList (free n : Nat) : List Byte := (List.range n).map (fun k => BitVec.ofNat 8 (Config.freeNat (free + k)))

/-- Write a tile's lines into an attachment. -/
def State.storeTile (s : State) (at' : BusAttr) (t : GfxTarget) (tx ty w : Nat) (bs : List Byte) : State :=
  s.each (List.range (bs.length / (max 1 (w * t.bpp)))) (fun u y =>
    u.writeIda at' (t.addr + t.pitch * (32 * ty + y) + t.bpp * 32 * tx) (slice bs (y * w * t.bpp) (w * t.bpp)))

/-- A tile's bytes as the attachment in memory holds them. -/
def State.loadTile (s : State) (at' : BusAttr) (t : GfxTarget) (tx ty w h : Nat) : List Byte :=
  (List.range h).flatMap (fun y => s.readIda at' (t.addr + t.pitch * (32 * ty + y) + t.bpp * 32 * tx) (w * t.bpp))

/-- The CRC-64 of R436. -/
def crc64 : Crc.Params := ⟨64, 0x42F0E1EBA9EA3693, 0, false, false, 0⟩
/-- The signature of a tile's bytes (R436). -/
def tileSignature (bs : List Byte) : Nat := let v := Crc.value crc64 bs; if v = 2 ^ 64 - 1 then 2 ^ 64 - 2 else v
/-- Address of a tile's signature. -/
def sigAddr (d : List Byte) (tx ty : Nat) : Nat := field d 0x60 8 + 8 * (ty * (tileGrid d).1 + tx)

/-- The final bytes of a tile of an attachment: as rendered, or by the load action where no primitive touched it (R433); a tile
of a partial flush keeps its stored content (R434). -/
def State.finalTile (s : State) (j : GfxJob) (d : List Byte) (p : GfxPart) (t : GfxTarget) (tx ty : Nat) (rendered : List TileData) : List Byte :=
  let sz := tileSize d tx ty
  let n := sz.1 * sz.2
  match rendered.find? (fun r => r.attachment = t.number && r.tx = tx && r.ty = ty) with
  | some r => (r.data ++ freeByteList s.free (n * t.bpp)).take (n * t.bpp)
  | none =>
    if p.flushed.contains (tx, ty) ∨ t.load = 0 then s.loadTile (p.attr j) t tx ty sz.1 sz.2
    else if t.load = 1 then (List.replicate n (clearPixel d t s.free)).flatten
    else freeByteList s.free (n * t.bpp)

/-- The final store of one tile of one attachment on a die that has not failed (R433, R437, R438). -/
def State.finishTile (s : State) (j : GfxJob) (d : List Byte) (p : GfxPart) (t : GfxTarget) (tx ty : Nat) (rendered : List TileData) : State :=
  let bs := s.finalTile j d p t tx ty rendered
  let w := (tileSize d tx ty).1
  let kept := p.binned && decide (t.store = 1)
  let s0 : State := { s with free := s.free + bs.length + 1 }
  if kept then s0
  else if t.number = 0 ∧ passSigs d then
    let sig := tileSignature bs
    if p.binned ∧ ¬ p.flushed.contains (tx, ty) ∧ leNat (s.readIda (p.attr j) (sigAddr d tx ty) 8) = sig then s0.inc (0x4808 + p.die) 8
    else
      let s1 := (s0.storeTile (p.attr j) t tx ty w bs).writeIda (p.attr j) (sigAddr d tx ty) (leBytes 8 sig)
      if p.binned then s1.inc (0x4808 + p.die) 7 else s1
  else s0.storeTile (p.attr j) t tx ty w bs

/-- The tiles of the region of a failed die are undefined, with every signature INVALID (R448). -/
def State.spoilTile (s : State) (j : GfxJob) (d : List Byte) (t : GfxTarget) (tx ty : Nat) : State :=
  let sz := tileSize d tx ty
  let n := sz.1 * sz.2 * t.bpp
  let s1 := (({ s with free := s.free + n } : State)).storeTile j.attr t tx ty sz.1 (freeByteList s.free n)
  if t.number = 0 ∧ passSigs d then s1.writeIda j.attr (sigAddr d tx ty) (leBytes 8 (2 ^ 64 - 1)) else s1

/-- A partial flush stores every attachment of a tile, DISCARD or not, as the raster cores rendered it (R434). -/
def State.flushTile (s : State) (j : GfxJob) (d : List Byte) (p : GfxPart) (rendered : List TileData) (tile : Nat × Nat) : State :=
  let sz := tileSize d tile.1 tile.2
  (passTargets d).foldl (fun u a =>
    let n := sz.1 * sz.2 * a.bpp
    let bs := match rendered.find? (fun r => r.attachment = a.number && r.tx = tile.1 && r.ty = tile.2) with
      | some r => (r.data ++ freeByteList u.free n).take n
      | none => freeByteList u.free n
    ({ u with free := u.free + n } : State).storeTile (p.attr j) a tile.1 tile.2 sz.1 bs) s

/-- The primitives a die has binned stand in its slice (R431), in records whose contents the manual leaves to the device: free values. -/
def State.fillSlice (s : State) (j : GfxJob) (d : List Byte) (i : Nat) (tiles : List Nat) : State :=
  match j.parts[i]? with
  | none => s
  | some p =>
    let n := min (listCost tiles) (sliceBytes d j.parts.length)
    if !p.binned ∨ n = 0 then s
    else ({ s with free := s.free + n } : State).writeIda (p.attr j) (sliceStart d j.parts.length i) (freeByteList s.free n)

/-- Every tile of a pass is finished at the pass end. -/
def State.finishTiles (s : State) (j : GfxJob) (d : List Byte) (rendered : List TileData) : State :=
  let g := tileGrid d
  let dead := (j.failure.map (·.dies)).getD 0
  s.each (List.range (g.1 * g.2)) (fun u k =>
    let tx := k % g.1
    let ty := k / g.1
    match rowOwner j.parts g.2 ty with
    | none => u
    | some p => (passTargets d).foldl (fun v t =>
        if bit dead p.die then v.spoilTile j d t tx ty else v.finishTile j d p t tx ty rendered) u)

/-- Every byte the pass's attachments and signature plane cover lies below the quota (R212, R447). -/
def State.passTranslates (s : State) (inst : Nat) (d : List Byte) : Bool :=
  (passTargets d).all (fun t => s.idaOk inst (t.addr + t.pitch * ((passSize d).2 - 1)) ((passSize d).1 * t.bpp)) &&
  (!passSigs d || s.idaOk inst (field d 0x60 8) (8 * (tileGrid d).1 * (tileGrid d).2))

/-! ### The end of a job -/

/-- A job ends: its parts leave their contexts, counters and events (R424, R447, R450, R455). `quiet` suppresses the events (R217). -/
def State.endJob (s : State) (c status : Nat) (quiet : Bool) : State :=
  match (s.ctx c).job with
  | none => s
  | some j =>
    let s1 := s.each (j.parts.filter (fun p => decide ((s.gdie p.die).running = some p.ctx)) |>.map (·.die)) (fun t d => t.gfxLeave d)
    let s2 := j.parts.foldl (fun t p =>
      let t1 := t.modCtx p.ctx (fun x => { x with guest := if x.guest = some c then none else x.guest, preempted := false })
      if p.taken then t1.setCtxState p.ctx 0 else t1) s1
    let s3 := (((s2.modCtx c (fun x => { x with job := none })).setCtxState c 0).inc (ctxIndex c) 4).setReg (ctxIndex c) 8 status
    let s4 := if status = Status.ok then s3 else s3.inc (ctxIndex c) 5
    let s5 := match j.failure with
      | some f =>
        if quiet then s4
        else s4.event j.inst 0x0080 c status (ctxDie c) f.reason (f.dies * 2 ^ 56 + f.pass * 2 ^ 48 + f.offset)
      | none => s4
    (if quiet then s5 else s5.endEntry j.inst j.q j.tag j.completion status).gfxSettle

/-- The job of a context is abandoned (R217, R447): ABORTED; its context state is cleared. -/
def State.abandonJob (s : State) (c : Nat) (quiet : Bool) : State :=
  ((s.modJob c (fun j => { j with failure := some { status := Status.aborted, reason := 4 }, pass := none })).endJob c Status.aborted quiet).modCtx c
    (fun x => { x with wait := none })

/-- R217: every context of an instance is cleared. -/
def State.gfxQuiesce (s : State) (i : Nat) : State :=
  (s.each (s.allCtxs.filter (fun c => decide (((s.ctx c).job.map (·.inst)) = some i))) (fun t c => t.abandonJob c true)).each
    (s.allCtxs.filter (fun c => decide (((s.ctx c).wait.map (·.inst)) = some i)))
    (fun t c => (t.modCtx c (fun x => { x with wait := none })).setCtxState c 0)

/-- R447 to R449: the Core of a die fails: jobs with a part there fail with HW_FAULT, its contexts show HW_FAULT and their
queues stop. -/
def State.gfxCoreFailed (s : State) (d : Nat) : State :=
  let s1 := (s.gfxLeave d).each s.allCtxs (fun t c => t.modJob c (fun j =>
    if j.parts.any (fun p => p.die = d) then j.fail { status := Status.hwFault, reason := 5, dies := 2 ^ d, pass := j.index, offset := 0 } else j))
  let mine := (List.range 16).map (16 * d + ·) ++ [0x80 + d]
  s1.each mine (fun t c =>
    let t1 := (t.modCtx c (fun x => { x with wait := none })).setCtxState c 4
    t1.stopTargeting 1 c Status.hwFault)

/-- R452: every running context is pre-empted with its state saved, and resumes after the exit. -/
def State.gfxSleep (s : State) : State := s.each s.dieList (fun t d => t.preempt d)

end Sys2Proof.Machine
end

