-- ==== Sys2Proof/Machine/HapticOps.lean ====
section
/-! DEFINITION. What the haptic commands share (R485 to R511, R526): descriptors, onsets, stages, trips, triggers. -/
namespace Sys2Proof.Machine

/-- Channel c outside its object. -/
def State.hap (s : State) (c : Nat) : Haptic := Tab.getD s.haptics c {}
/-- Change channel c. -/
def State.modHap (s : State) (c : Nat) (f : Haptic → Haptic) : State := { s with haptics := Tab.put s.haptics c (f (s.hap c)) }
/-- Ring value of a channel as taken up. -/
def State.hapCfg (s : State) (c sub : Nat) : Nat := s.use (0x6400 + c) sub
/-- State code of a channel (R511). -/
def State.hapState (s : State) (c : Nat) : Nat := s.reg (0x6400 + c) 0x18
/-- Capacitance measurements in progress on the channels named are abandoned, counted and attempted again (R659, R668, R669). -/
def State.abandonPiezo (s : State) (p : Nat → Bool) : State :=
  let gone := (Tab.keys s.survey.piezoRunning).filter p
  ({ s with survey := { s.survey with piezoRunning := s.survey.piezoRunning.filter (fun e => !p e.1),
                                      piezoWaiting := s.survey.piezoWaiting ++ gone } } : State).each gone (fun t c => t.inc (0x2610 + c) 5)
/-- Set the state of a channel. One that leaves IDLE abandons its measurement (R657, R659). -/
def State.setHapState (s : State) (c v : Nat) : State :=
  if v = 2 then
    (if s.hapState c = 2 then s else s.modHap c (fun h => { h with idleAt := s.now })).setReg (0x6400 + c) 0x18 2
  else (s.abandonPiezo (fun k => decide (k = c))).setReg (0x6400 + c) 0x18 v
/-- Die of a channel. -/
def hapDie (c : Nat) : Nat := c / 2
/-- The effect engine of a channel is served: by its die's Core or a lender (R510). -/
def State.hapServed (s : State) (c : Nat) : Bool := s.coreActive (hapDie c) || decide (Tab.getD s.health.lending (hapDie c) 0 = 1)
/-- The descriptor of an effect as taken up. -/
def State.effectBytes (s : State) (n : Nat) : List Byte := s.useBytes (0x6500 + n) 1

/-- R491: a descriptor keeps its rules; the empty one is undefined and allowed. -/
def descriptorOk (d : List Byte) : Bool :=
  let n := field d 1 1
  d.isEmpty || (decide (field d 0 1 = 1 ∧ 1 ≤ n ∧ n ≤ 32 ∧ d.length = 16 + 12 * n ∧ field d 2 2 ≤ 1 ∧ 1000 ≤ field d 4 2 ∧ field d 4 2 ≤ 1500 ∧
    field d 6 2 ≤ 5000 ∧ field d 8 2 ≤ 50000 ∧ field d 10 2 ≤ 1500 ∧ field d 12 2 ≤ 359 ∧ field d 14 2 = 0) &&
  (List.range n).all (fun k => let o := 16 + 12 * k
    decide (field d o 1 ≤ 1 ∧ field d (o + 1) 1 ≤ 1 ∧ 1 ≤ field d (o + 2) 2 ∧ field d (o + 4) 2 ≤ 1000 ∧ field d (o + 6) 2 ≤ 1000 ∧
      20 ≤ field d (o + 8) 2 ∧ field d (o + 8) 2 ≤ 4000 ∧ field d (o + 10) 2 = 0)))

/-- The length of a segment in ns: whole 768 kHz codes (R492). -/
def segmentNs (d : List Byte) (n : Nat) : Nat := (field d (16 + 12 * n + 2) 2 * 768 + 500) / 1000 * 15625 / 12
/-- `effect.duration_us`: overdrive plus body (R512). -/
def descriptorUs (d : List Byte) : Nat := if d.isEmpty then 0 else field d 6 2 + ((List.range (field d 1 1)).map (fun n => field d (18 + 12 * n) 2)).sum
/-- Braking follows the body. -/
def brakes (d : List Byte) : Bool := bit (field d 2 2) 0 && decide (field d 8 2 ≠ 0)

/-! ### Sensed motion (R490, R500, R501) -/

/-- Denominator of sensed volts and milliamperes: full scale × 65,536. -/
def senseDen : Nat := 8388607 * 65536

/-- The carrier of a stage in Hz as Q16.16: the tracked resonance on RESONANCE segments, the first segment's in overdrive (R492); braking
has none of its own, and its half period is the last segment's (DEDUCED, log entry 95). -/
def State.carrierQ16 (s : State) (c : Nat) (d : List Byte) (st : HapticStage) : Nat :=
  let n := match st with | .segment k => k | .overdrive => 0 | .braking => field d 1 1 - 1
  let o := 16 + 12 * n
  if bit (field d (o + 1) 1) 0 then s.reg (0x6400 + c) 0x1B else 65536 * field d (o + 8) 2

/-- The carrier of a stage in whole Hz. -/
def State.carrier (s : State) (c : Nat) (d : List Byte) (st : HapticStage) : Nat := s.carrierQ16 c d st / 65536

/-- Motional amplitude: the peak over the last half carrier period of sense frames, a numerator over `senseDen`, in µA (R501). -/
def State.motional (s : State) (c : Nat) : Nat :=
  let h := s.hap c
  let f := match h.running with
    | none => s.hapCfg c 0xA
    | some e => s.carrier c e.descriptor e.stage
  let n := max 1 (96000 / (2 * max 1 f))
  (h.motion.drop (h.motion.length - n)).foldl max 0

/-- The reference amplitude of R500 in µA, 0 when none exists. -/
def State.motionalRef (s : State) (c : Nat) : Nat :=
  if s.hapCfg c 0x22 ≠ 0 then s.hapCfg c 0x22 else s.reg (0x6400 + c) 0x23

/-- The scaled overdrive level (R500). -/
def State.scaledLevel (s : State) (c od : Nat) : Nat :=
  let r := s.motionalRef c * senseDen
  let a := min r (s.motional c)
  if r = 0 then od else nearest (1000 * r + (od - 1000) * (r - a)) r (Config.freeBool s.free)

/-! ### Edges, onset, end -/

/-- A drive edge is announced (R462, R503); edges older than 1 ms are forgotten. -/
def State.announce (s : State) (c t : Nat) : State :=
  s.modHap c (fun h => { h with edges := (h.edges.filter (fun e => decide (s.now ≤ e + 1000000))) ++ [t] })

/-- The peak drive code of the overdrive (R492). -/
def State.peakCode (s : State) (c level scale : Nat) : Nat :=
  nearest (32767 * s.hapCfg c 3 * level * scale) (1000000 * max 1 (s.hapCfg c 2)) (Config.freeBool s.free)

/-! ### The drive code (R485, R492) -/

/-- A cycle of the carrier in the units of `HapticEffect.phase`: degrees, 768 kHz codes and Q16.16 Hz divide it. -/
def phaseCycle : Nat := 360 * 768000 * 65536

/-- Whole 768 kHz codes between two times (R485). -/
def codesBetween (a b : Nat) : Nat := (b - a) * 12 / 15625

/-- The carrier phase now: it advances by the carrier for each code (R492). -/
def State.phaseNow (s : State) (c : Nat) (e : HapticEffect) : Nat :=
  (e.phase + 360 * s.carrierQ16 c e.descriptor e.stage * codesBetween e.phaseAt s.now) % phaseCycle

/-- The phase of a running effect is brought up to now, before its carrier changes. -/
def State.bringPhase (s : State) (c : Nat) : State :=
  s.modHap c (fun h => { h with running := h.running.map (fun e => { e with phase := s.phaseNow c e, phaseAt := s.now }) })

/-- π × 2^64, to the nearest integer. -/
def pi64 : Int := 57952155664616982739

/-- The sum of the Taylor series of the sine from a term on, scaled by 2^64: `x2` is the square of the angle. -/
def sineTerms (x2 : Int) : Nat → Nat → Int → Int
  | 0, _, _ => 0
  | n + 1, k, t => t + sineTerms x2 n (k + 2) (-(t * x2 / 2 ^ 64 / ((k + 1) * (k + 2))))

/-- The sine of a phase, scaled by 2^64 (R492): folded to the first quarter, twelve terms (log entry 161). -/
def sine64 (phase : Nat) : Int :=
  let p := phase % phaseCycle
  let half := p % (phaseCycle / 2)
  let r := if half ≤ phaseCycle / 4 then half else phaseCycle / 2 - half
  let x := 2 * pi64 * r / phaseCycle
  let v := sineTerms (x * x / 2 ^ 64) 12 1 x
  if p < phaseCycle / 2 then v else -v

/-- The amplitude of the present stage in ‰ of nominal, as a quotient: the overdrive's level, or between amp_start and amp_end by
the codes of the segment that have passed (R492). -/
def stageAmplitude (e : HapticEffect) (now : Nat) : Nat × Nat :=
  match e.stage with
  | .overdrive => (e.level, 1)
  | .segment n =>
    let o := 16 + 12 * n
    if field e.descriptor o 1 = 0 then (0, 1)
    else
      let l := max 1 (codesBetween (e.stageEnd - segmentNs e.descriptor n) e.stageEnd)
      let k := min l (codesBetween (e.stageEnd - segmentNs e.descriptor n) now)
      (field e.descriptor (o + 4) 2 * (l - k) + field e.descriptor (o + 6) 2 * k, l)
  | .braking => (field e.descriptor 10 2, 1)

/-- The magnitude the drive code of the present stage peaks at now (R492, R504). -/
def State.stageCode (s : State) (c : Nat) : Nat :=
  match (s.hap c).running with
  | none => 0
  | some e =>
    let a := stageAmplitude e s.now
    nearest (32767 * s.hapCfg c 3 * a.1 * e.trigger.scale) (1000000 * a.2 * max 1 (s.hapCfg c 2)) (Config.freeBool s.free)

/-- The drive code of a capacitance measurement (R658): a 24 kHz sine of 1.0 V peak, over 1 ms ramps and a 10 ms hold. Its phase at the start is
a free value (log entry 161). -/
def State.piezoCode (s : State) (c : Nat) : Int :=
  match Tab.find? s.survey.piezoRunning c with
  | none => 0
  | some t =>
    let k := codesBetween t s.now
    let e := min (min k 768) (9216 - k)
    let v := sine64 (phaseCycle / 32 * k + Config.freeNat s.free)
    let m := nearest (32767 * 65536 * e * v.natAbs) (768 * max 1 (s.hapCfg c 2) * 2 ^ 64) (Config.freeBool s.free)
    if v < 0 then -(m : Int) else m

/-- The signed drive code of a channel now (R485, R492): with no effect playing 0, or a measurement's (R658). In braking it follows the sensed motion, of which
R501 gives the bound and no value. -/
def State.driveCode (s : State) (c : Nat) : Int :=
  match (s.hap c).running with
  | none => s.piezoCode c
  | some e =>
    if s.now < e.onset then 0
    else match e.stage with
      | .braking =>
        let p : Int := s.stageCode c
        clampInt (-p) p (Config.freeInt s.free)
      | _ =>
        let a := stageAmplitude e s.now
        let v := sine64 (s.phaseNow c e)
        let m := nearest (32767 * s.hapCfg c 3 * a.1 * e.trigger.scale * v.natAbs) (1000000 * a.2 * max 1 (s.hapCfg c 2) * 2 ^ 64) (Config.freeBool s.free)
        if v < 0 then -(m : Int) else m

/-- What HDRVn carries (R485, R486): a stream of drive codes, or low. -/
inductive HdrvOutput where
  | low | stream (code : Int)
deriving DecidableEq, Repr

/-- R486: the codes while HEN is asserted; after it falls the idle pattern for 20 µs, then low. -/
def State.hdrv (s : State) (c : Nat) : HdrvOutput :=
  let h := s.hap c
  if h.hen then .stream (s.driveCode c)
  else match h.henFell with
    | some t => if s.now < t + us 20 then .stream 0 else .low
    | none => .low

/-- The target density of a drive code, as a quotient: 0.5 + 0.45 × x ÷ 32,767 (R485). -/
def hdrvDensity (x : Int) : Int × Nat := (1638350 + 45 * x, 3276700)

/-- The event of a dropped reflex trigger (R526): to the key's or the pin's holder; none for a key in secure entry. -/
def State.reflexDropped (s : State) (c : Nat) (t : HapticTrigger) (reason : Nat) : State :=
  let d := if t.origin < 512 then t.origin / 64 else (t.origin - 512) / 2
  let s1 := (s.inc (0x6600 + d) 0x45).inc (0x6400 + c) 0x20
  let detail := c + 256 * s.hapState c
  if t.origin < 512 then
    if s.keySecure t.origin then s1 else s1.event (s.keyHolder t.origin) 0x0049 t.origin Status.ok d reason detail
  else s1.event (s.hapticHolder (t.origin - 512)) 0x0049 t.origin Status.ok d reason detail

/-- A PLAY ends (R495): LATE replaces OK when its start time was past. -/
def State.endPlay (s : State) (p : HapticPlay) (status : Nat) : State :=
  s.endEntry p.inst p.q p.tag p.completion (if status = Status.ok ∧ p.late then Status.late else status)

/-- The drive reaches 1,000 ‰ of nominal at the start (offset 4) or end (offset 6) of a segment on the resonance (R500). -/
def fullDriveAt (d : List Byte) (scale n offset : Nat) : Bool :=
  let o := 16 + 12 * n
  decide (scale = 1000 ∧ field d o 1 = 1 ∧ field d (o + offset) 2 = 1000) && bit (field d (o + 1) 1) 0

/-- The time of an onset (R497): within 8 µs of a pin's edge, 4 µs of a reflex trigger, ±0.1 µs of a start time that is due; a PLAY at once
or one that waited starts now. The delays are free values (log entry 3). -/
def State.onsetTime (s : State) (src : TriggerSource) (play : Option HapticPlay) : Nat :=
  let f := Config.freeNat s.free
  match src, play with
  | .pin, _ => s.now + f % (us 8 + 1)
  | .reflex, _ => s.now + f % (us 4 + 1)
  | .software, some p => if p.late ∨ p.startTime ≠ p.dueAt ∨ p.dueAt ≠ s.now then s.now else s.now + f % 201 - 100
  | .software, none => s.now

/-- Onset of an effect (R487, R492, R503). `scaled` asks for the scaled overdrive of R500; with m at least 0.1 the carrier starts at the
phase of the sensed motion, which the spec gives no number for. -/
def State.onset (s : State) (c : Nat) (t : HapticTrigger) (scaled : Bool) (play : Option HapticPlay) : State :=
  let d := s.effectBytes t.effect
  let od := field d 4 2
  let level := if scaled then s.scaledLevel c od else od
  let r := s.motionalRef c * senseDen
  let follows := scaled && decide (r ≠ 0 ∧ r ≤ 10 * min r (s.motional c))
  let at0 := s.onsetTime t.source play
  let e : HapticEffect := {
    trigger := t, descriptor := d, level := level, motionPhase := follows, onset := at0,
    stage := if field d 6 2 = 0 then .segment 0 else .overdrive,
    stageEnd := if field d 6 2 = 0 then at0 + segmentNs d 0 else at0 + us (field d 6 2),
    play := play, fullDrive := decide (field d 6 2 = 0) && fullDriveAt d t.scale 0 4, triggered := s.now,
    phase := if follows then Config.freeNat (s.free + 1) % phaseCycle else field d 0xC 2 * (phaseCycle / 360), phaseAt := at0 }
  let s1 := (s.modHap c (fun h => { h with running := some e })).setHapState c 3
  let s2 := (((s1.inc (0x6400 + c) 0x1E).setReg (0x6400 + c) 0x21 at0).setReg (0x6400 + c) 0x1D 0).inc (0x6500 + t.effect) 3
  let s3 : State := { s2 with onsets := s2.onsets ++
    [{ channel := c, effect := t.effect, level := level, code := s.peakCode c level t.scale, time := at0 }] }
  ((s3.announce c at0).announce c e.stageEnd).useFree.useFree

/-- The effect of a channel has ended or been cut: its PLAY ends, a learned reference is kept (R500). -/
def State.effectOver (s : State) (c status : Nat) : State :=
  match (s.hap c).running with
  | none => s
  | some e =>
    let s1 := s.modHap c (fun h => { h with running := none })
    let s2 := if e.fullDrive ∧ e.largest ≠ 0 ∧ (s.hap c).learnFrom ≤ e.onset then s1.setReg (0x6400 + c) 0x23 (s.inexact e.largest senseDen) else s1
    match e.play with
    | none => s2
    | some p => s2.endPlay p status

/-- The state a channel without an effect is in. -/
def State.restState (s : State) (c : Nat) : Nat := if (s.hap c).limited then 5 else 2

/-- A waiting PLAY whose time has come starts on a channel that is free (R499); one whose effect is undefined by now ends RANGE (R495). -/
def State.startWaiting (s : State) (c : Nat) (scaled : Bool) : State :=
  match (s.hap c).play with
  | none => s
  | some p =>
    if !p.placed ∨ s.now < p.dueAt ∨ s.isShed p.inst then s
    else
      let s1 := s.modHap c (fun h => { h with play := none })
      if s.effectBytes p.effect = [] then s1.endPlay p Status.range
      else s1.onset c { effect := p.effect, scale := p.scale, source := .software, origin := 0 } scaled (some p)

/-- A waiting PLAY whose time has come on a channel in LIMITED ends BUSY (R495, R499). -/
def State.busyWaiting (s : State) (c : Nat) : State :=
  match (s.hap c).play with
  | none => s
  | some p => if !p.placed ∨ s.now < p.dueAt then s else (s.modHap c (fun h => { h with play := none })).endPlay p Status.busy

/-- An effect ends by itself: the channel rests, and a waiting PLAY starts or meets LIMITED. -/
def State.effectEnds (s : State) (c status : Nat) : State :=
  let s1 := (s.effectOver c status).setHapState c (s.restState c)
  if (s.hap c).limited then s1.busyWaiting c else s1.startWaiting c false

/-- The end of drive falls 12 µs to 14 µs after braking ends (R501): one of the times the manual allows. -/
def State.brakingEnds (s : State) (c : Nat) : State :=
  ((s.announce c (s.now + 12000 + Config.freeNat s.free % 2001)).useFree).effectEnds c Status.ok

/-- The body ends: braking begins, or the effect ends (R492, R499, R501). -/
def State.bodyEnds (s : State) (c : Nat) (e : HapticEffect) : State :=
  if !brakes e.descriptor then (s.announce c s.now).effectEnds c Status.ok
  else
    let b := us (field e.descriptor 8 2)
    let s1 := ((s.modHap c (fun h => { h with running := some { e with stage := .braking, stageEnd := s.now + b, brakeStart := s.now } })).setHapState
      c 4).announce c s.now
    match (s.hap c).play with
    | none => s1
    | some p =>
      if p.placed ∧ p.dueAt ≤ s.now ∧ !s.isShed p.inst ∧ us (s.hapCfg c 0xF) < b then (s1.effectOver c Status.aborted).startWaiting c true else s1

/-- The running effect is sent into braking at once (R217, R495). -/
def State.brakeNow (s : State) (c : Nat) : State :=
  match (s.hap c).running with
  | none => s
  | some e => if e.stage = .braking then s else s.bodyEnds c e

/-! ### Protection (R504 to R506) -/

/-- HEN rises (R486): READY_WAIT for amp_ready_us. -/
def State.henRise (s : State) (c : Nat) : State :=
  (s.modHap c (fun h => { h with hen := true, ready := some (s.now + us (s.hapCfg c 0x10)), lastV := none, blockAt := if h.blockAt = 0 then s.now else h.blockAt })).setHapState c 1

/-- HEN falls: no trigger is kept; a PLAY taken ends with a status (R495). -/
def State.henFall (s : State) (c st status : Nat) : State :=
  let p := (s.hap c).play
  let s1 := ((s.effectOver c status).modHap c (fun h => { h with
    hen := false, henFell := if h.hen then some s.now else h.henFell, ready := none, held := none, play := none })).setHapState c st
  match p with
  | none => s1
  | some q => s1.endPlay q status

/-- Sensed voltage as Q16.16. -/
def State.sensedQ16 (s : State) (c : Nat) (v : Int) : Nat := s.inexact (v.natAbs * s.hapCfg c 7) 8388607

/-- A trip to FAULT (R504, R505, R508). -/
def State.hapTrip (s : State) (c reason : Nat) : State :=
  if s.hapState c = 6 ∨ s.hapState c = 0 then s
  else
    let h := s.hap c
    let eff := (h.running.map (·.trigger.effect)).getD 0
    let q := unsignedOf 32 (if h.voltage < 0 then -(s.sensedQ16 c h.voltage : Int) else s.sensedQ16 c h.voltage)
    let s1 := ((s.announce c s.now).henFall c 6 Status.hwFault).setReg (0x6400 + c) 0x19 reason
    s1.event (s.hapticHolder c) 0x0040 c Status.ok (hapDie c) reason (q * 2 ^ 32 + eff)

/-- A latched fault clears (R506): FAULT_CLEARED, and HEN rises in RUN and IDLE. -/
def State.hapUnfault (s : State) (c : Nat) : State :=
  let r := s.reg (0x6400 + c) 0x19
  let s1 := (s.setReg (0x6400 + c) 0x19 0).event (s.hapticHolder c) 0x0041 c Status.ok (hapDie c) r 0
  if s.hapCfg c 1 ≠ 1 ∨ 2 ≤ s.powerState then s1.setHapState c 0 else s1.henRise c

/-- The sense bus of a channel is in service: it belongs to the even die of the pair, whose Shell holds it (R16, R33). -/
def State.senseBusUp (s : State) (c : Nat) : Bool := s.shellUp (2 * (c / 4))

/-- A channel comes into use (R486): a latched fault stays latched (R506), else HEN rises. -/
def State.hapOn (s : State) (c : Nat) : State := if s.reg (0x6400 + c) 0x19 ≠ 0 then s.setHapState c 6 else s.henRise c

/-- A write of 0x01 to `haptic.clear` (R506, R511). Whether HFLTn_N is high again after an amplifier fault is an input the table gives no
command for: one of the two, open (log entry 3). -/
def State.hapClearWrite (s : State) (c : Nat) : Nat × State :=
  if s.reg (0x6400 + c) 0x19 = 0 then (Status.ok, s)
  else if ((s.hap c).ampLow ∧ Config.freeBool s.free) ∨ !s.hapServed c ∨ !s.senseBusUp c then (Status.busy, s.useFree)
  else (Status.ok, ((s.modHap c (fun h => { h with ampLow := false })).hapUnfault c).useFree)

/-- ON_TIME (R504, R505, R508): the effect of a channel has reached max_on_ms and is cut. -/
def State.cutOnTime (s : State) (c : Nat) : State :=
  match (s.hap c).running with
  | none => s
  | some e =>
    let s1 := (s.announce c s.now).inc (0x6400 + c) 0x1F
    (s1.event (s.hapticHolder c) 0x0042 c Status.ok (hapDie c) 1 (s.reg (0x6400 + c) 0x1C + e.trigger.effect * 2 ^ 32)).effectEnds c Status.aborted

/-- Denominator of a window sum in mJ. -/
def energyDen : Nat := senseDen * senseDen * 96000

/-- A HAPTIC_LIMIT event (R508): the energy in the window, and the effect that runs at the judgement. -/
def State.energyEvent (s : State) (c eff reason : Nat) : State :=
  s.event (s.hapticHolder c) 0x0042 c Status.ok (hapDie c) reason (s.reg (0x6400 + c) 0x1C + eff * 2 ^ 32)

/-- ENERGY (R504, R506, R508): LIMITED begins when the window sum exceeds the limit, and ends when it has fallen to 75 % of it. -/
def State.judgeEnergy (s : State) (c : Nat) : State :=
  let h := s.hap c
  let sum := h.window.sum * (s.hapCfg c 7 * s.hapCfg c 8)
  let lim := s.hapCfg c 6 * energyDen
  let eff := (h.running.map (·.trigger.effect)).getD 0
  if !h.limited ∧ lim < sum then
    let t := (((s.announce c s.now).effectOver c Status.hwFault).modHap c (fun x => { x with limited := true })).energyEvent c eff 2
    if 2 ≤ s.hapState c ∧ s.hapState c ≤ 4 then (t.setHapState c 5).busyWaiting c else t
  else if h.limited ∧ 4 * sum ≤ 3 * lim then
    let t := (s.modHap c (fun x => { x with limited := false })).energyEvent c eff 3
    if s.hapState c = 5 then (t.setHapState c 2).startWaiting c false else t
  else s

/-- Protection limits taken up trip at once when they are exceeded already (R506). -/
def State.judgeLimits (s : State) (c : Nat) : State :=
  let h := s.hap c
  let s1 := if h.running.isSome ∧ s.hapCfg c 4 * 8388607 < h.voltage.natAbs * s.hapCfg c 7 then s.hapTrip c 1 else s
  let s2 := match (s1.hap c).running with
    | none => s1
    | some e => if e.onset + ms (s.hapCfg c 5) ≤ s.now then s1.cutOnTime c else s1
  s2.judgeEnergy c

/-! ### Triggers (R496, R498, R499) -/

/-- Rank of a source: pin, then reflex, then software. -/
def TriggerSource.rank : TriggerSource → Nat
  | .pin => 0
  | .reflex => 1
  | .software => 2

/-- Whether a trigger has lost to one that started in the same clock (R499, R469). -/
def outranked (t : HapticTrigger) (e : HapticEffect) (now : Nat) : Bool :=
  decide (e.triggered = now) && (decide (e.trigger.source.rank < t.source.rank) ||
    (decide (e.trigger.source = t.source) && decide (e.trigger.origin < t.origin)))

/-- A pin or reflex trigger reaches the engine of a channel (R498, R499). The one it outranks in the same clock is dropped and counted. -/
def State.hapTrigger (s : State) (c : Nat) (t : HapticTrigger) : State :=
  let h := s.hap c
  let st := s.hapState c
  if 2 ≤ s.powerState then s
  else if st = 0 ∨ 5 ≤ st ∨ s.effectBytes t.effect = [] then s.reflexDropped c t 1
  else if st = 1 then
    let s1 := match h.held with
      | none => s
      | some o => s.reflexDropped c o 3
    s1.modHap c (fun x => { x with held := some t })
  else match h.running with
    | none => s.onset c t false none
    | some e =>
      if outranked t e s.now then s.reflexDropped c t 2
      else
        let s1 := if e.triggered ≠ s.now then s else if e.trigger.source = .software then s.inc (0x6400 + c) 0x20 else s.reflexDropped c e.trigger 2
        (s1.effectOver c Status.aborted).onset c t true none

/-! ### Hooks -/

/-- Ring values of a channel or of effects are taken up at T (R186, R500, R502, R506, R511). -/
def State.hapUptake (s : State) (c : Nat) : State :=
  let s1 := (s.bringPhase c).takeUp (fun i => i = 0x6400 + c)
  let ch (k : Nat) : Bool := decide (s.hapCfg c k ≠ s1.hapCfg c k)
  let res := [0xA, 0xB, 0xC, 0xD].any ch
  let s2 := if res then s1.setReg (0x6400 + c) 0x1B (65536 * s1.hapCfg c 0xA) else s1
  let s3 := if res ∨ ch 3 then (s2.setReg (0x6400 + c) 0x23 0).modHap c (fun h => { h with learnFrom := s.now }) else s2
  let on := s1.hapCfg c 1 = 1
  if !on ∧ s.hapState c ≠ 0 then s3.henFall c 0 Status.aborted
  else if on ∧ s.hapState c = 0 ∧ s.powerState ≤ 1 ∧ s.operational then s3.hapOn c
  else if [4, 5, 6, 7, 8].any ch then s3.judgeLimits c
  else s3

/-- The library's descriptors are taken up; each `duration_us` follows (R512). -/
def State.effectUptake (s : State) : State :=
  let s1 := s.takeUp (fun i => decide (0x6500 ≤ i ∧ i < 0x6600))
  s1.each (List.range 256) (fun t n =>
    let u := descriptorUs (t.effectBytes n)
    if t.reg (0x6500 + n) 2 = u then t else t.setReg (0x6500 + n) 2 u)

/-- Longest remaining drive time of the channels of a die, in ns (R509). -/
def State.driveLeft (s : State) (c : Nat) : Nat :=
  match (s.hap c).running with
  | none => 0
  | some e =>
    let d := e.descriptor
    let later := match e.stage with
      | .overdrive => ((List.range (field d 1 1)).map (segmentNs d)).sum
      | .segment n => (((List.range (field d 1 1)).drop (n + 1)).map (segmentNs d)).sum
      | .braking => 0
    min (e.onset + ms (s.hapCfg c 5)) (e.stageEnd + later + (if e.stage ≠ .braking ∧ brakes d then us (field d 8 2) else 0)) - s.now

/-- SLEEP, DEEP_SLEEP and OFF lower HEN; faults and LIMITED are kept (R509). -/
def State.hapSleep (s : State) : State :=
  s.each (List.range (2 * s.dies)) (fun t c =>
    if t.hapState c = 0 ∨ t.hapState c = 6 then t else t.henFall c 0 Status.aborted)
/-- Exit into RUN (R486, R509). -/
def State.hapWake (s : State) : State :=
  s.each (List.range (2 * s.dies)) (fun t c => if t.hapCfg c 1 = 1 ∧ t.hapState c = 0 then t.hapOn c else t)
/-- R217: software effects of an instance go to braking; its PLAYs end with no event. -/
def State.hapQuiesce (s : State) (i : Nat) : State :=
  s.each (List.range (2 * s.dies)) (fun t c =>
    let t1 := t.modHap c (fun h => { h with play := if (h.play.map (·.inst)) = some i then none else h.play })
    match (t1.hap c).running with
    | none => t1
    | some e =>
      if (e.play.map (·.inst)) = some i then (t1.modHap c (fun h => { h with running := some { e with play := none } })).brakeNow c else t1)
/-- R510: a failed Core's channels trip ENGINE_LOST. -/
def State.hapCoreFailed (s : State) (d : Nat) : State := (s.hapTrip (2 * d) 4).hapTrip (2 * d + 1) 4
/-- The sense bus of die d's pair is out of service with die d's Shell: its other die's channels trip SENSE (R504). -/
def State.hapBusLost (s : State) (d : Nat) : State :=
  if d % 2 = 1 then s else s.each ([2 * d + 2, 2 * d + 3].filter (fun c => decide (c < 2 * s.dies))) (fun t c => t.hapTrip c 2)
/-- `res_tracked_hz` starts at `res_nominal_hz` on entry into OPERATIONAL (R502). -/
def State.hapStart (s : State) : State :=
  s.each (List.range (2 * s.dies)) (fun t c => (t.setReg (0x6400 + c) 0x1B (65536 * t.hapCfg c 0xA)).modHap c (fun h => { h with learnFrom := s.now }))
/-- R506, R510: the lending Core takes the engines over and clears ENGINE_LOST. -/
def State.hapTakeover (s : State) (d : Nat) : State :=
  s.each [2 * d, 2 * d + 1] (fun t c => if t.reg (0x6400 + c) 0x19 = 4 then t.hapUnfault c else t)

end Sys2Proof.Machine
end

