-- ==== Sys2Proof/Machine/KeyOps.lean ====
section
/-! DEFINITION. What the key commands share (R456 to R481): readings, key states, releases, baselines, the reflex dispatch
(R513 to R518). -/
namespace Sys2Proof.Machine

/-- Electrode e outside its object. -/
def State.elec (s : State) (e : Nat) : ElectrodeWork := Tab.getD s.keys.elecs e {}
/-- Change electrode e. -/
def State.modElec (s : State) (e : Nat) (f : ElectrodeWork → ElectrodeWork) : State :=
  { s with keys := { s.keys with elecs := Tab.put s.keys.elecs e (f (s.elec e)) } }
/-- Key k outside its object. -/
def State.keyw (s : State) (k : Nat) : KeyWork := Tab.getD s.keys.keys k {}
/-- Change key k. -/
def State.modKey (s : State) (k : Nat) (f : KeyWork → KeyWork) : State :=
  { s with keys := { s.keys with keys := Tab.put s.keys.keys k (f (s.keyw k)) } }
/-- The key engine of die d outside its object. -/
def State.kdie (s : State) (d : Nat) : KeyDie := Tab.getD s.keys.dies d {}
/-- Change the key engine of die d. -/
def State.modKdie (s : State) (d : Nat) (f : KeyDie → KeyDie) : State :=
  { s with keys := { s.keys with dies := Tab.put s.keys.dies d (f (s.kdie d)) } }

/-- Ring value of a key as taken up. -/
def State.keyCfg (s : State) (k sub : Nat) : Nat := s.use (0x6200 + k) sub
/-- State code of a key (R467). -/
def State.keyState (s : State) (k : Nat) : Nat := s.reg (0x6200 + k) 0x10
/-- Set the state of a key. -/
def State.setKeyState (s : State) (k v : Nat) : State := s.setReg (0x6200 + k) 0x10 v
/-- Die of a key. -/
def keyDie (k : Nat) : Nat := k / 64
/-- Role of an electrode (R456). -/
def State.role (s : State) (e : Nat) : Nat := s.use (0x6000 + e) 1
/-- Electrodes of a die with a role, ascending. -/
def State.electrodes (s : State) (d r : Nat) : List Nat := ((List.range 16).map (16 * d + ·)).filter (fun e => decide (s.role e = r))
/-- TX electrode of a key. -/
def State.keyTx (s : State) (k : Nat) : Nat := 16 * keyDie k + s.keyCfg k 2
/-- RX electrode of a key. -/
def State.keyRx (s : State) (k : Nat) : Nat := 16 * keyDie k + s.keyCfg k 3
/-- Self electrode of a key: by default its RX electrode (R458). -/
def State.keySelf (s : State) (k : Nat) : Nat := if s.keyCfg k 4 = 0xFF then s.keyRx k else 16 * keyDie k + s.keyCfg k 4
/-- Enabled keys of a die, ascending. -/
def State.keysOn (s : State) (d : Nat) : List Nat := ((List.range 64).map (64 * d + ·)).filter (fun k => decide (s.keyCfg k 1 = 1))
/-- Keys that use an electrode. -/
def State.keysUsing (s : State) (e : Nat) : List Nat :=
  (s.keysOn (e / 16)).filter (fun k => decide (s.keyTx k = e ∨ s.keyRx k = e ∨ s.keySelf k = e))
/-- What an electrode's ball does within a scan cycle (R456, R457): held at GND, measured or converted, driven, or held at VDDIO33 ÷ 2. -/
inductive ElectrodeDrive where
  | ground | sensed | driven | midSupply
deriving DecidableEq, Repr

/-- The drive of an electrode of a role in the self frame (none) or in a mutual phase, `mine` saying that the phase is its own (R456). -/
def electrodeDrive (role : Nat) (phase mine : Bool) : ElectrodeDrive :=
  if role = 0 then .ground
  else if role = 3 then (if phase then .midSupply else .driven)
  else if role = 1 then (if !phase then .sensed else if mine then .driven else .midSupply)
  else .sensed

/-- The drive of electrode e now; none outside a scan cycle. -/
def State.electrodeNow (s : State) (e : Nat) : Option ElectrodeDrive :=
  (s.kdie (e / 16)).cycle.map (fun t =>
    electrodeDrive (s.role e) (decide (t + 40000 ≤ s.now)) (decide ((s.electrodes (e / 16) 1)[(s.kdie (e / 16)).nextPhase]? = some e)))

/-- The drive of the shield of die d now, which behaves as a SHIELD electrode (R456). -/
def State.shieldNow (s : State) (d : Nat) : Option ElectrodeDrive :=
  (s.kdie d).cycle.map (fun t => electrodeDrive 3 (decide (t + 40000 ≤ s.now)) false)

/-- The key engine's decision logic is served: the die's Core or a lender (R481). -/
def State.keyServed (s : State) (d : Nat) : Bool := s.coreActive d || decide (Tab.getD s.health.lending d 0 = 1)

/-! ### Readings (R461 to R463) -/

/-- The haptic channels whose edges an engine excludes (R462). -/
def State.quietChannels (s : State) (d : Nat) : List Nat := (List.range 16).filter (fun c => bit (s.use (0x6100 + d) 3) c)

/-- A burst of 500 ns that begins at t is usable (R461): it shares no time of positive length with an excluded interval. -/
def State.burstUsable (s : State) (d t : Nat) : Bool :=
  (s.quietChannels d).all (fun c => (Tab.getD s.haptics c {}).edges.all (fun e => decide ((t + 500) + 500 ≤ e ∨ e + 1000 ≤ t))) &&
  (s.kdie d).quiet.all (fun q => decide (((t + 500 : Nat) : Int) * q.2.2 ≤ q.1 ∨ q.2.1 ≤ (t : Int) * q.2.2))

/-- A reading of n bursts of 500 ns from a time (R461); none when INVALID. -/
def State.readingOf (s : State) (d start n : Nat) (counts : List Nat) (quiet : Bool) : Option Nat :=
  let ok := (List.range n).filter (fun j => !quiet || s.burstUsable d (start + 500 * j))
  let used := ok.length
  if used < n / 2 then none
  else some (min 65535 (nearest ((ok.map (fun j => counts.getD j 0)).sum * n) used (Config.freeBool s.free)))

/-- A signed delta clamped to 16 bits (R465). -/
def clampDelta (v : Int) : Int := clampInt (-32768) 32767 v
/-- dm and ds of a key for readings, against its baselines, or against its references when COVERED (R465, R472). -/
def State.deltas (s : State) (k m v : Nat) : Int × Int :=
  if s.keyState k = 2 then (clampDelta ((s.keyCfg k 0xD : Int) - m), clampDelta ((v : Int) - s.keyCfg k 0xE))
  else (clampDelta ((s.reg (0x6200 + k) 0x12 : Int) - m), clampDelta ((v : Int) - s.reg (0x6000 + s.keySelf k) 4))

/-! ### Events (R475) -/

/-- Who receives a key's events: its holder, or until the next cycle the old one (R225). -/
def State.keyEventTo (s : State) (k : Nat) : Nat := ((s.keyw k).oldHolder).getD (s.keyHolder k)

/-- What the key engine's delivery of a key's decision carries (R27, R29, R245): WORLD 1 under secure entry. -/
def State.keyAttr (s : State) (k : Nat) : BusAttr :=
  { world := BusSource.world .reflex (s.keySecure k), die := keyDie k, inst := ownInstance, source := .reflex }

/-- A KEY or KEY_STATE event: to the holder, or under secure entry to the applet with a secure interrupt (R253, R258). After secure entry the
key reports nothing until its next press (R259). -/
def State.keyEvent (s : State) (k type reason detail : Nat) : State :=
  if s.keySecure k then
    ({ s with worlds := { s.worlds with
      appletEvents := s.worlds.appletEvents ++ [((s.keyAttr k).word, s.record type k Status.ok (keyDie k) reason detail)] } } : State).secureInterrupt
  else if (s.keyw k).silent then s
  else s.event (s.keyEventTo k) type k Status.ok (keyDie k) reason detail

/-- Detail of a KEY event. -/
def State.keyDetail (s : State) (k low : Nat) : Nat :=
  unsignedOf 16 (s.regI (0x6200 + k) 0x13) * 2 ^ 48 + unsignedOf 16 (s.regI (0x6200 + k) 0x14) * 2 ^ 32 + min low (2 ^ 32 - 1)

/-- A KEY_STATE event. -/
def State.keyStateEvent (s : State) (k reason : Nat) : State :=
  s.keyEvent k 0x0031 reason (s.reg (0x6200 + k) 0x12 * 65536 + s.reg (0x6000 + s.keySelf k) 4)

/-! ### Reflex dispatch (R513 to R518, R527) -/

/-- Action word of a key in the active ring (R527). -/
def State.actionWord (s : State) (k : Nat) : Nat := s.cfg (0x6600 + keyDie k) (k % 64 + 1)
/-- The word whose sprite part applies: the applet's mask action under secure entry (R258, R518). -/
def State.spriteWord (s : State) (k : Nat) : Nat :=
  match s.worlds.entry with
  | none => s.actionWord k
  | some e => match e.keys.idxOf? k with
    | none => s.actionWord k
    | some n => e.masks.getD n 0

/-- Reflexes fire in RUN and IDLE only (R527). -/
def State.reflexesFire (s : State) : Bool := decide (s.powerState ≤ 1)

/-- The longest dispatch time so far: a measured value the manual bounds and does not give (log entry 3). -/
def State.dispatchTime (s : State) (d bound : Nat) : State :=
  (s.raise (0x6600 + d) 0x44 (Config.freeNat s.free % (bound + 1))).useFree

/-- A sprite operation is sent to its composer (R517). -/
def State.sendSprite (s : State) (sprite op origin : Nat) : State :=
  if op = 0 then s else { s with reflex := { s.reflex with sprites := s.reflex.sprites ++ [(sprite, op, origin)] } }

/-- The dispatch at a press decision: haptic, sprite, tone (R517). -/
def State.dispatchPress (s : State) (k : Nat) : State :=
  let w := s.actionWord k
  let v := s.spriteWord k
  if !s.reflexesFire ∨ (w = 0 ∧ v = 0) then s
  else
    let s1 : State := if bit w 0 then
        { s with reflex := { s.reflex with haptics := s.reflex.haptics ++
          [(bits w 4 1, { effect := bits w 12 5, scale := bits w 22 13, source := .reflex, origin := k })] } } else s
    let s2 := s1.sendSprite (bits v 30 24) (bits v 33 31) k
    let s3 : State := if bit w 37 then { s2 with reflex := { s2.reflex with tones := s2.reflex.tones ++ [bits w 40 38] } } else s2
    (s3.inc (0x6600 + keyDie k) 0x43).dispatchTime (keyDie k) 15000

/-- RELEASE_OP (R518). -/
def State.dispatchRelease (s : State) (k : Nat) : State :=
  let v := s.spriteWord k
  if !s.reflexesFire ∨ bits v 36 34 = 0 then s
  else ((s.sendSprite (bits v 30 24) (bits v 36 34) k).inc (0x6600 + keyDie k) 0x43).dispatchTime (keyDie k) 15000

/-! ### Leaving PRESSED, capture -/

/-- A PRESSED key leaves PRESSED for RELEASED with its RELEASE_OP and event (R467, R475, R518). -/
def State.releaseKey (s : State) (k reason : Nat) (report : Bool) : State :=
  if s.keyState k ≠ 4 then s
  else
    let w := s.keyw k
    let s1 := ((s.setKeyState k 3).modKey k (fun x => { x with np := 0, nr := 0, negative := 0 })).dispatchRelease k
    if report then s1.keyEvent k 0x0030 reason (s.keyDetail k ((s.now - w.heldFrom) / 1000)) else s1

/-- Another key that uses a self electrode is PRESSED or COVERED (R470). -/
def State.selfHeld (s : State) (k : Nat) : Bool :=
  (s.keysOn (keyDie k)).any (fun j => decide (j ≠ k ∧ s.keySelf j = s.keySelf k ∧ (s.keyState j = 4 ∨ s.keyState j = 2)))

/-- A key enters CAPTURING (R470). -/
def State.capture (s : State) (k : Nat) (resuming uncovered : Bool) : State :=
  let e := s.keySelf k
  let s1 := (s.setKeyState k 1).modKey k (fun x => { x with
    np := 0, nr := 0, negative := 0, uncover := 0, capSum := 0, capCount := 0, resuming := resuming, uncovered := uncovered })
  if s.selfHeld k ∨ (s.elec e).capturing then s1
  else (s1.modElec e (fun x => { x with capturing := true, capSum := 0, capCount := 0 })).setReg (0x6000 + e) 5 1

/-- R471: the end of a capture. -/
def State.captureEnds (s : State) (k : Nat) : State :=
  let w := s.keyw k
  if w.capCount < 16 ∨ (s.elec (s.keySelf k)).capturing then s
  else
    let m := nearest w.capSum 16 (Config.freeBool s.free)
    let s1 := ((s.setReg (0x6200 + k) 0x12 m).modKey k (fun x => { x with
      drift := 0, np := 0, nr := 0, negative := 0, resuming := false, uncovered := false })).useFree
    let refM := s.keyCfg k 0xD
    let refS := s.keyCfg k 0xE
    let b := s.reg (0x6000 + s.keySelf k) 4
    let far (a c : Nat) : Bool := decide (s.keyCfg k 0xC < (max a c - min a c))
    let covered := !w.uncovered && decide (refM ≠ 0) && (far m refM || (decide (refS ≠ 0) && far b refS))
    let s2 := if covered then (s1.setKeyState k 2).keyStateEvent k 1
              else (s1.setKeyState k 3).keyStateEvent k (if w.uncovered then 2 else 4)
    if w.resuming then s2.keyStateEvent k 6 else s2

/-- R473, R467: both baselines of a key are set to readings, the self baseline kept while another key needs it. -/
def State.rebase (s : State) (k m v : Nat) (force : Bool) : State :=
  let e := s.keySelf k
  let s1 := (s.setReg (0x6200 + k) 0x12 m).modKey k (fun x => { x with drift := 0, negative := 0 })
  if !force && s.selfHeld k then s1 else (s1.setReg (0x6000 + e) 4 v).modElec e (fun x => { x with drift := 0 })

/-- R467 for a key in RELEASED or PRESSED with valid readings; `ending` is the end of the window. -/
def State.decideKey (s : State) (k m v ending : Nat) (dm ds : Int) (dry : Bool) : State :=
  let c := s.keyCfg k
  let w := s.keyw k
  let cand : Bool := decide ((c 5 : Int) ≤ dm) && (decide (c 7 = 0) || decide ((c 7 : Int) ≤ ds))
  if s.keyState k = 3 then
    let np := if cand && dry then w.np + 1 else 0
    let s1 := s.modKey k (fun x => { x with np := np, crossing := if np = 1 then ending else x.crossing })
    if c 8 ≤ np then
      let cr := (s1.keyw k).crossing
      let s2 := (((s1.setKeyState k 4).modKey k (fun x => { x with nr := 0, heldFrom := cr, negative := 0, silent := false })).inc
        (0x6200 + k) 0x15).setReg (0x6200 + k) 0x17 s.now
      (s2.dispatchPress k).keyEvent k 0x0030 1 (s2.keyDetail k (s.now - cr))
    else
      let neg := decide (dm ≤ -(c 0xB : Int) ∨ ds ≤ -(c 0xB : Int))
      let n := if neg then w.negative + 1 else 0
      let s2 := s1.modKey k (fun x => { x with negative := n })
      if n = 3 then (s2.rebase k m v false).keyStateEvent k 3 else s2
  else
    let nr := if dm < c 6 then w.nr + 1 else 0
    let s1 := s.modKey k (fun x => { x with nr := nr })
    if c 9 ≤ nr then s1.releaseKey k 2 true
    else if c 0xA ≠ 0 ∧ sec (c 0xA) ≤ ending - w.heldFrom then
      ((s1.rebase k m v true).inc (0x6200 + k) 0x16).releaseKey k 3 true
    else s1

/-- The evaluation of one key at the end of its node's window, with the readings of the cycle (R467, R470, R472). -/
def State.evaluateKey (s : State) (k : Nat) (mutualReading : Option Nat) (ending : Nat) (dry : Bool) : State :=
  let st := s.keyState k
  let s0 := (match mutualReading with
    | some m => s.setReg (0x6200 + k) 0x11 m
    | none => s).modKey k (fun x => { x with node := mutualReading })
  let s1 := match mutualReading, (s.elec (s.keySelf k)).reading with
    | some m, some v => let d := s.deltas k m v; (s0.setRegI (0x6200 + k) 0x13 d.1).setRegI (0x6200 + k) 0x14 d.2
    | _, _ => s0
  if st = 1 then
    let s2 := match mutualReading with
      | some m => s1.modKey k (fun x => if x.capCount < 16 then { x with capSum := x.capSum + m, capCount := x.capCount + 1 } else x)
      | none => s1
    s2.captureEnds k
  else match mutualReading, (s.elec (s.keySelf k)).reading with
    | some m, some v =>
      let d := s.deltas k m v
      if st = 2 then
        let n := if d.1 < s.keyCfg k 6 then (s.keyw k).uncover + 1 else 0
        let s2 := s1.modKey k (fun x => { x with uncover := n })
        if s.keyCfg k 9 ≤ n then s2.capture k false true else s2
      else if st = 3 ∨ st = 4 then s1.decideKey k m v ending d.1 d.2 dry
      else s1
    | _, _ => s1

/-! ### The end of a cycle (R466, R474, R479) -/

/-- One baseline tracks its drift in an eligible cycle: the new baseline and count (R474). -/
def driftStep (base reading count limit : Nat) : Nat × Nat :=
  if count + 1 < limit then (base, count + 1)
  else (if base < reading then base + 1 else if reading < base then base - 1 else base, 0)

/-- Drift of the mutual baseline of a key. -/
def State.driftKey (s : State) (k : Nat) (dry : Bool) : State :=
  match (s.keyw k).node with
  | none => s
  | some m =>
    if dry && decide (s.keyState k = 3) then
      let r := driftStep (s.reg (0x6200 + k) 0x12) m (s.keyw k).drift (s.use (0x6100 + keyDie k) 0xA)
      (s.setReg (0x6200 + k) 0x12 r.1).modKey k (fun x => { x with drift := r.2 })
    else s

/-- Drift of the self baseline of an electrode. -/
def State.driftElec (s : State) (e : Nat) (dry : Bool) : State :=
  let ks := (s.keysOn (e / 16)).filter (fun k => decide (s.keySelf k = e))
  match (s.elec e).reading with
  | none => s
  | some v =>
    if dry && !ks.isEmpty && ks.all (fun k => decide (s.keyState k = 3)) then
      let r := driftStep (s.reg (0x6000 + e) 4) v (s.elec e).drift (s.use (0x6100 + e / 16) 0xA)
      (s.setReg (0x6000 + e) 4 r.1).modElec e (fun x => { x with drift := r.2 })
    else s

/-- An electrode is wet in the cycle (R466). -/
def State.wetElectrode (s : State) (e : Nat) : Bool :=
  match (s.elec e).reading with
  | none => false
  | some v =>
    decide ((s.use (0x6100 + e / 16) 7 : Int) ≤ clampDelta ((v : Int) - s.reg (0x6000 + e) 4)) &&
    (s.keysOn (e / 16)).all (fun k =>
      !(decide (s.keyTx k = e ∨ s.keyRx k = e) && ((s.keyw k).node.map (fun m => decide ((s.keyCfg k 6 : Int) ≤ (s.deltas k m v).1))).getD false))

/-- A WATER event (R475): to I0 and every instance that holds a key of the die. -/
def State.waterEvent (s : State) (d reason mask : Nat) : State :=
  let is := (0 :: (List.range 64).map (fun n => s.keyHolder (64 * d + n))).dedup
  s.each is (fun t i => t.event i 0x0032 d Status.ok d reason mask)

/-- The water status after the last phase of a cycle (R466). -/
def State.waterStep (s : State) (d : Nat) : State :=
  let es := s.electrodes d 1 ++ s.electrodes d 2
  let wet := es.filter s.wetElectrode
  let mask := (wet.map (fun e => 2 ^ (e % 16))).sum
  let many := decide (s.use (0x6100 + d) 8 ≤ wet.length)
  let g := s.kdie d
  let wr := if many then g.wetRun + 1 else 0
  let dr := if many then 0 else g.dryRun + 1
  let s1 := (s.setReg (0x6100 + d) 0xC mask).modKdie d (fun x => { x with wetRun := wr, dryRun := dr })
  if s.reg (0x6100 + d) 0xB = 0 then (if 2 ≤ wr then (s1.setReg (0x6100 + d) 0xB 1).waterEvent d 1 mask else s1)
  else if s.use (0x6100 + d) 9 ≤ dr then (s1.setReg (0x6100 + d) 0xB 0).waterEvent d 2 mask else s1

/-- R479: an electrode's run of railed or inside readings. -/
def State.saturationStep (s : State) (e : Nat) : State :=
  match (s.elec e).reading with
  | none => s
  | some v =>
    let out := decide (v = 0 ∨ v = 65535)
    let s1 := s.modElec e (fun x => { x with railed := if out then min 16 (x.railed + 1) else 0, inside := if out then 0 else min 16 (x.inside + 1) })
    let x := s1.elec e
    let st := s.reg (0x6000 + e) 5
    if st ≠ 3 ∧ x.railed = 16 then
      (((s1.setReg (0x6000 + e) 5 3).inc (0x6000 + e) 6).modElec e (fun x => { x with capturing := false })).each (s.keysUsing e) (fun t k =>
        if t.keyState k = 5 then t else ((t.releaseKey k 7 true).setKeyState k 5).keyStateEvent k 5)
    else if st = 3 ∧ x.inside = 16 then
      (s1.setReg (0x6000 + e) 5 2).each (s.keysUsing e) (fun t k =>
        if [t.keyTx k, t.keyRx k, t.keySelf k].all (fun g => decide (t.reg (0x6000 + g) 5 ≠ 3)) then t.capture k true false else t)
    else s1

/-! ### Uptake and hooks -/

/-- Key and electrode entries of a die, but for the keys named in an active secure entry (R259). -/
def State.keyIndex (s : State) (d i : Nat) : Bool :=
  decide ((0x6000 + 16 * d ≤ i ∧ i < 0x6010 + 16 * d) ∨ i = 0x6100 + d) ||
  (decide (0x6200 + 64 * d ≤ i ∧ i < 0x6240 + 64 * d) && !s.keySecure (i - 0x6200))

/-- What an uptake does to one key (R478); `old` is the state before. -/
def State.keyTaken (s : State) (k : Nat) (old : State) (restart : Bool) : State :=
  let on := decide (s.keyCfg k 1 = 1)
  let was := decide (old.keyCfg k 1 = 1)
  let engine := decide (s.use (0x6100 + keyDie k) 1 = 1)
  let moved := [1, 2, 3, 4].any (fun n => decide (old.keyCfg k n ≠ s.keyCfg k n)) ||
    [s.keyTx k, s.keyRx k, s.keySelf k].any (fun e => decide (old.use (0x6000 + e) 1 ≠ s.use (0x6000 + e) 1 ∨ old.use (0x6000 + e) 2 ≠ s.use (0x6000 + e) 2))
  if !on then (if was then (s.releaseKey k 6 true).setKeyState k 0 else s)
  else if !engine then s.releaseKey k 6 true
  else if moved || restart then (s.releaseKey k 6 true).capture k false false
  else s

/-- The key engine of a die takes up its ring entries (R186, R478). -/
def State.keyUptake (s : State) (d : Nat) : State :=
  let s1 := s.takeUp (s.keyIndex d)
  let restart := decide (s.use (0x6100 + d) 1 ≠ 1 ∧ s1.use (0x6100 + d) 1 = 1)
  let s2 := s1.each ((List.range 16).map (16 * d + ·)) (fun t e =>
    let r := t.role e
    if s.role e = r then t else t.setReg (0x6000 + e) 5 (if r = 1 ∨ r = 2 then 2 else 0))
  s2.each ((List.range 64).map (64 * d + ·)) (fun t k => t.keyTaken k s restart)

/-- Every enabled key of a die captures, PRESSED ones released first with a reason (R470, R476, R481). -/
def State.recaptureDie (s : State) (d reason : Nat) : State :=
  s.each (s.keysOn d) (fun t k => if t.keyState k = 5 then t else (t.releaseKey k reason true).capture k false false)

/-- Entry into SLEEP or DEEP_SLEEP (R476): PRESSED keys release with RELEASE_POWER; scanning stops. -/
def State.keysSleep (s : State) : State :=
  s.each s.dieList (fun t d =>
    let t1 := t.each (t.keysOn d) (fun u k => u.releaseKey k 5 true)
    t1.modKdie d (fun g => { g with cycle := none, nextPhase := 0, quiet := [], wakeDue := some (s.now + ms 100) }))

/-- Exit (R476): from DEEP_SLEEP every key captures; otherwise debounce counts begin at 0 (R477). -/
def State.keysWake (s : State) (deep : Bool) : State :=
  s.each s.dieList (fun t d =>
    let t1 := t.modKdie d (fun g => { g with wakeDue := none, wetRun := 0, dryRun := 0 })
    if deep then t1.recaptureDie d 5 else t1.each (t1.keysOn d) (fun u k => u.modKey k (fun x => { x with np := 0, nr := 0 })))

/-- R217: the pressed keys of an instance are released without an event. -/
def State.keysQuiesce (s : State) (i : Nat) : State :=
  s.each ((List.range (64 * s.dies)).filter (fun k => decide (s.keyHolder k = i))) (fun t k => t.releaseKey k 2 false)

/-- A write of 0x01 to `key_engine.recapture` (R470, R478, R483). -/
def State.recaptureWrite (s : State) (d : Nat) : Nat × State := (Status.ok, s.recaptureDie d 6)

end Sys2Proof.Machine
end

