-- ==== Sys2Proof/Machine/LaneOps.lean ====
section
/-! DEFINITION. Field lanes and Ndemi partners (R562 to R599): frames, check values, partner states, transactions, results. -/
namespace Sys2Proof.Machine

/-! ### Block structures -/

def State.lane (s : State) (n : Nat) : LaneWork := Tab.getD s.lanes.lanes n {}
def State.modLane (s : State) (n : Nat) (f : LaneWork → LaneWork) : State :=
  { s with lanes := { s.lanes with lanes := Tab.put s.lanes.lanes n (f (s.lane n)) } }
def State.partner (s : State) (p : Nat) : PartnerWork := Tab.getD s.lanes.partners p {}
def State.modPartner (s : State) (p : Nat) (f : PartnerWork → PartnerWork) : State :=
  { s with lanes := { s.lanes with partners := Tab.put s.lanes.partners p (f (s.partner p)) } }

/-- Mode of a lane as taken up (R562): 0 OFF, 1 RS485, 2 CANFD. -/
def State.laneMode (s : State) (n : Nat) : Nat := s.use (0x7000 + n) 1
/-- State of a lane (0x7000+n.09). -/
def State.laneState (s : State) (n : Nat) : Nat := s.reg (0x7000 + n) 9
/-- State of a partner (0x7100+p.08, R577): 0 DISABLED, 1 DISCOVERING, 2 ONLINE, 3 FAILED, 4 NOT_FOUND, 5 INVALID. -/
def State.partnerState (s : State) (p : Nat) : Nat := s.reg (0x7100 + p) 8
/-- Number of lanes of the part. -/
def State.laneCount (s : State) : Nat := 8 * s.dies
/-- Partners of a lane (R566). -/
def partnersOf (n : Nat) : List Nat := (List.range 32).map (32 * n + ·)
/-- A die's Core serves its lanes, itself or by a lender (R589, R687). -/
def State.laneServed (s : State) (d : Nat) : Bool := s.coreActive d || decide (Tab.getD s.health.lending d 0 = 1)
/-- A lane runs: it is neither OFF nor in HW_FAULT, and the device serves it. -/
def State.laneRuns (s : State) (n : Nat) : Bool :=
  s.serving && decide (n < s.laneCount) && decide (s.laneState n ≠ 0 ∧ s.laneState n ≠ 4) && s.laneServed (n / 8)

/-! ### Descriptor (R576) -/

/-- Descriptor of a partner as stored (0x7100+p.09). -/
def State.desc (s : State) (p : Nat) : List Byte := s.regBytes (0x7100 + p) 9
/-- `flags` of a partner's descriptor: bit 0 ALIVE, 1 EVENTS, 2 UNSOLICITED, 3 TIMED. -/
def State.descFlag (s : State) (p b : Nat) : Bool := bit (field (s.desc p) 6 2) b
/-- `turnaround_ns`. -/
def State.turnaround (s : State) (p : Nat) : Nat := field (s.desc p) 0xC 4
/-- `min_poll_us`. -/
def State.minPoll (s : State) (p : Nat) : Nat := field (s.desc p) 0x10 4

/-- Declared length of an object, from a descriptor. -/
def descObject (d : List Byte) (o : Nat) : Option Nat :=
  ((List.range (field d 0x16 1)).find? (fun i => field d (0x18 + 4 * i) 1 = o)).map (fun i => field d (0x1A + 4 * i) 1)

/-- A descriptor meets R576 on a lane of a mode and a bit rate. -/
def descriptorMeets (d : List Byte) (mode bitrate : Nat) : Bool :=
  let n := field d 0x16 1
  let cls := field d 1 1
  let flags := field d 6 2
  let turn := field d 0xC 4
  let poll := field d 0x10 4
  decide (0x18 ≤ d.length ∧ d.length = 0x18 + 4 * n ∧ n ≤ 64) && decide (field d 0 1 = 1) &&
  decide ((1 ≤ cls ∧ cls ≤ 8) ∨ cls = 0xFF) && decide (flags < 16) && (!bit flags 2 || decide (mode = 2)) &&
  decide (2 * 10 ^ 9 ≤ turn * bitrate ∧ turn ≤ 10000000) && decide (200 ≤ poll ∧ poll ≤ 10000000) &&
  decide (field d 0x14 1 ≤ 60 ∧ field d 0x15 1 ≤ 59 ∧ field d 0x17 1 = 0) &&
  (List.range n).all (fun i =>
    let id := field d (0x18 + 4 * i) 1
    let ty := field d (0x19 + 4 * i) 1
    let len := field d (0x1A + 4 * i) 1
    let acc := field d (0x1B + 4 * i) 1
    decide (1 ≤ id ∧ id ≤ 254) && decide (i = 0 ∨ field d (0x14 + 4 * i) 1 < id) && decide (1 ≤ ty ∧ ty ≤ 8) &&
    decide (1 ≤ len ∧ len ≤ 40) && decide (1 ≤ acc ∧ acc ≤ 3))

/-- Effective poll period in µs: 0 when the partner is not polled (R580). -/
def State.pollPeriod (s : State) (p : Nat) : Nat :=
  let c := s.use (0x7100 + p) 2
  if c = 0 ∨ s.partnerState p ≠ 2 then 0 else max c (s.minPoll p)

/-! ### Frames (R568 to R571) -/

/-- CRC-16 of RS-485 frames and CRC-8 of CAN FD frames (R571, R596). -/
def crcOf (mode : Nat) : Crc.Params := if mode = 2 then ⟨8, 0x2F, 0xFF, false, false, 0xFF⟩ else ⟨16, 0x1021, 0xFFFF, false, false, 0⟩

/-- TYPE of a request. -/
def LaneRequest.type : LaneRequest → Nat
  | .discover _ => 1 | .poll => 2 | .command .. => 3 | .read .. => 4 | .fetch => 5 | .eventAck _ => 6

/-- Who waits for the request's result. -/
def LaneRequest.origin : LaneRequest → LaneOrigin
  | .command _ _ _ o => o | .read _ o => o | _ => .nobody

/-- The same request with another receiver of its result. -/
def LaneRequest.withOrigin (r : LaneRequest) (o : LaneOrigin) : LaneRequest :=
  match r with
  | .command q ob v _ => .command q ob v o
  | .read ob _ => .read ob o
  | r => r

/-- Payload of a request (R574). -/
def State.requestPayload (s : State) (p : Nat) : LaneRequest → List Byte
  | .discover k => leBytes 1 k
  | .poll => s.regBytes (0x7100 + p) 0xA
  | .command q o v _ => leBytes 1 q ++ leBytes 1 o ++ v
  | .read o _ => leBytes 1 o
  | .fetch => []
  | .eventAck q => leBytes 1 q

/-- A data field padded to the smallest CAN FD length that holds it (R570). -/
def canPad (bs : List Byte) : List Byte :=
  let n := bs.length
  let m := if n ≤ 8 then n else if n ≤ 12 then 12 else if n ≤ 16 then 16 else if n ≤ 20 then 20 else if n ≤ 24 then 24
    else if n ≤ 32 then 32 else if n ≤ 48 then 48 else 64
  bs ++ List.replicate (m - n) 0

/-- A frame as sent: identifier and bytes (R569 to R571). -/
def encodeFrame (mode dir node type alive : Nat) (payload : List Byte) : Nat × List Byte :=
  if mode = 2 then
    let id := 1024 * dir + 64 * type + node
    let body := leBytes 1 alive ++ leBytes 1 payload.length ++ payload
    let crc := Crc.value (crcOf 2) (leBytes 1 (id / 256) ++ leBytes 1 (id % 256) ++ body)
    (id, canPad (body ++ leBytes 1 crc))
  else
    let body := leBytes 1 (128 * dir + node) ++ leBytes 1 (16 * type + alive) ++ leBytes 1 payload.length ++ payload
    (0, leBytes 1 0xD5 ++ body ++ beBytes 2 (Crc.value (crcOf 1) body))

/-- A frame as received: its fields, the running value of the check unit, whether the check value matches, and whether a
reserved bit, a reserved TYPE or a LEN above 60 is present (R571, R573, R597). -/
structure LaneRx where
  dir     : Nat
  node    : Nat
  type    : Nat
  alive   : Nat
  payload : List Byte
  running : Nat
  crcOk   : Bool
  broken  : Bool
deriving DecidableEq, Repr

/-- A reserved TYPE (R568). -/
def reservedType (t : Nat) : Bool := decide (t = 0 ∨ t = 7 ∨ t = 8 ∨ t = 15)

/-- Take a received frame apart. A frame with fewer bytes than its LEN says fails its check. -/
def decodeFrame (mode : Nat) (f : LaneFrame) : LaneRx :=
  if mode = 2 then
    let id := f.identifier % 2048
    let len := field f.bytes 1 1
    let body := f.bytes.take (2 + len)
    let reg := Crc.run (crcOf 2) 0xFF (leBytes 1 (id / 256) ++ leBytes 1 (id % 256) ++ body)
    { dir := id / 1024, node := id % 32, type := bits id 9 6, alive := field f.bytes 0 1 % 16, payload := body.drop 2, running := reg,
      crcOk := decide (3 + len ≤ f.bytes.length ∧ Crc.final (crcOf 2) reg = field f.bytes (2 + len) 1),
      broken := decide (16 ≤ field f.bytes 0 1 ∨ bit id 5 = true ∨ 60 < len) || reservedType (bits id 9 6) }
  else
    let n := f.bytes.length
    let len := field f.bytes 3 1
    let body := (f.bytes.drop 1).take (n - 3)
    let reg := Crc.run (crcOf 1) 0xFFFF body
    let addr := field f.bytes 1 1
    let ctrl := field f.bytes 2 1
    { dir := addr / 128, node := addr % 32, type := ctrl / 16, alive := ctrl % 16, payload := (body.drop 3), running := reg,
      crcOk := decide (6 + len = n ∧ field f.bytes 0 1 = 0xD5 ∧ Crc.final (crcOf 1) reg = beNat (f.bytes.drop (n - 2))),
      broken := decide (bits addr 6 5 ≠ 0 ∨ 60 < len) || reservedType (ctrl / 16) }

/-- Bit time × n in ns, rounded up: of the RS-485 rate, or of the arbitration rate (R564, R565). -/
def State.bitTimes (s : State) (n k : Nat) : Nat := let r := max 1 (s.use (0x7000 + n) 2); (k * 10 ^ 9 + r - 1) / r
/-- The gap of a lane in ns (R564). -/
def State.laneGap (s : State) (n : Nat) : Nat := s.bitTimes n (s.use (0x7000 + n) 6)
/-- Time of a request on the wire: characters of R563 on RS-485; on CAN FD stuff bits and arbitration decide, so it is free. -/
def State.wireNs (s : State) (n bytes : Nat) : Nat :=
  if s.laneMode n = 1 then s.bitTimes n (bytes * (10 + ofBool (decide (s.use (0x7000 + n) 4 ≠ 0)))) else Config.freeNat s.free

/-- The timeout of a request (R578). -/
def State.laneTimeout (s : State) (p : Nat) : Nat :=
  let t := s.use (0x7100 + p) 3
  if t ≠ 0 then us t else if s.desc p = [] then ms 5 else s.turnaround p + us 100

/-- `utilisation_permille` (R591): the lane's use over the last 100 ms, whole transactions with their gaps counted, as the
chapter's example counts them. -/
def State.laneUtilisation (s : State) (n : Nat) : Nat :=
  let w := s.lane n
  let spans := w.wire ++ (match w.current with | none => [] | some t => if t.resend then [] else [(t.started, s.now)])
  let lo := s.now - ms 100
  min 1000 (((spans.map (fun p => min p.2 s.now - max p.1 lo)).sum) * 1000 / ms 100)

/-- Record a span of use; spans older than 100 ms go. -/
def State.laneSpan (s : State) (n a b : Nat) : State :=
  s.modLane n (fun w => { w with wire := w.wire.filter (fun p => decide (s.now < p.2 + ms 100)) ++ [(a, b)] })

/-! ### States and events -/

/-- Change a lane's state with a LANE event (R590). -/
def State.setLaneState (s : State) (n st : Nat) : State :=
  if s.laneState n = st then s
  else (s.setReg (0x7000 + n) 9 st).event (s.laneHolder n) 0x0060 n Status.ok (n / 8) st (s.reg (0x7000 + n) 0x10)

/-- A queue entry ends with a status. -/
def State.endLaneEntry (s : State) (o : LaneOrigin) (status : Nat) : State :=
  match o with
  | .entry i q tag c _ => s.endEntry i q tag c status
  | _ => s

/-- `sample_offsets` of a node, in ns: its offset in 12.5 ns steps, of which the odd ones are no whole number of ns (log entry 3). -/
def State.offsetBytes (s : State) (n node : Nat) : State :=
  let k := Tab.getD (s.lane n).offsets node 0
  let v := (k * 25 + ofBool (decide (k % 2 ≠ 0) && Config.freeBool s.free)) / 2
  s.setRegBytes (0x2660 + n) 4 (patch (s.regBytes (0x2660 + n) 4) (2 * node) (leBytes 2 (unsignedOf 16 v)))

/-- The sample offset of a node follows the mean displacement of a valid frame's edges by one step of 12.5 ns, within ±1/8 of the
bit time of the RS-485 rate or of the CAN FD data phase (R665). -/
def State.trimNode (s : State) (n node : Nat) (shift : Int) : State :=
  let rate := if s.laneMode n = 1 then s.use (0x7000 + n) 2 else s.use (0x7000 + n) 3
  let k := Tab.getD (s.lane n).offsets node 0
  let v := if shift < 0 then k - 1 else k + 1
  if s.use 0x2600 7 ≠ 1 ∨ shift.natAbs ≤ 12500 ∨ rate = 0 ∨ 10 ^ 7 / rate < v.natAbs then s
  else ((s.modLane n (fun w => { w with offsets := Tab.put w.offsets node v })).offsetBytes n node).inc (0x2660 + n) 5

/-- Move a partner to a state with a PARTNER event (R577, R590). Leaving ONLINE for FAILED ends its queued entries ABORTED;
DISCOVERING starts over with the alive state reset (R605). -/
def State.setPartner (s : State) (p st cause : Nat) : State :=
  let n := p / 32
  let was := s.partnerState p
  let s1 : State := if was = 2 ∧ st = 3 then
      let mine := (s.lane n).queue.filter (fun e => e.1 = p)
      (mine.foldl (fun (t : State) e => t.endLaneEntry e.2.origin Status.aborted) s).modLane n (fun w => { w with
        queue := w.queue.filter (fun e => e.1 ≠ p) })
    else s
  let s2 := if st = 1 then ((s1.modLane n (fun w => { w with offsets := Tab.erase w.offsets (p % 32) })).offsetBytes n (p % 32)).modPartner p (fun x => { x with
      page := 0, pageCount := 0, pages := [], fresh := true, alive := false, rxAlive := none, requests := 0, aliveRun := 0, fetch := false })
    else s1
  let s3 := s2.setReg (0x7100 + p) 8 st
  let s3b := if 3 ≤ st then s3.modPartner p (fun x => { x with attempted := s3.now }) else s3
  let s4 := s3b.setReg (0x7100 + p) 0x14 (s3b.pollPeriod p)
  if was = st then s4
  else
    let d := s4.desc p
    s4.event (s4.partnerHolder p n) 0x0061 p Status.ok (n / 8) st
      (field d 2 2 + 65536 * field d 4 2 + 2 ^ 32 * field d 1 1 + 2 ^ 40 * cause)

/-! ### Group results (R586, R593) -/

/-- Result of a partner in a slot. -/
def groupResult (bs : List Byte) (p : Nat) : Nat := let b := field bs (p / 2) 1; if p % 2 = 0 then b % 16 else b / 16

/-- A slot's results with one nibble replaced. -/
def setNibble (bs : List Byte) (p v : Nat) : List Byte :=
  let b := field bs (p / 2) 1
  bs.set (p / 2) (BitVec.ofNat 8 (if p % 2 = 0 then b / 16 * 16 + v else b % 16 + 16 * v))

/-- Number of results with a code. -/
def countResult (bs : List Byte) (v : Nat) : Nat := ((List.range 2048).filter (fun p => groupResult bs p = v)).length

/-- The instance that a running group reports to: the holder of the slot when it was started (R225). -/
def State.groupOwner (s : State) (g : Nat) : Nat := Tab.getD s.lanes.owners g (s.groupHolder g)

/-- A target of a running slot takes its result; the last result ends the group (R586, R590). -/
def State.groupTarget (s : State) (g p v : Nat) : State :=
  let i := 0x7900 + g
  let bs := s.regBytes i 8
  if 16 ≤ g ∨ s.reg i 6 ≠ 1 ∨ groupResult bs p ≠ 1 then s
  else
    let bs1 := setNibble bs p v
    let s1 := ((s.setRegBytes i 8 bs1).setReg i 9 (s.reg i 9 + ofBool (v = 2))).setReg i 0xA (s.reg i 0xA + ofBool (v ≠ 2))
    if countResult bs1 1 ≠ 0 then s1
    else
      let st := if s1.reg i 0xA = 0 then Status.ok else Status.partly
      let d := countResult bs1 2
      let r := countResult bs1 3
      let t := countResult bs1 4
      let o := countResult bs1 5 + countResult bs1 6 + countResult bs1 7
      (((s1.setReg i 6 2).setReg i 7 st).setReg i 0xC s1.now).event (s1.groupOwner g) 0x0063 g st 0xFF 0
        (d + 65536 * r + 2 ^ 32 * t + 2 ^ 48 * o)

/-- A result goes to whoever waits for it: the status of R584 to an entry, the code of R586 to a group target. -/
def State.laneResult (s : State) (o : LaneOrigin) (p status code : Nat) : State :=
  match o with
  | .entry i q tag c _ => s.endEntry i q tag c status
  | .group g => s.groupTarget g p code
  | .nobody => s

/-! ### Uptake (R589) -/

/-- Ring entries of a lane, its partners and its check unit. -/
def laneIndex (n i : Nat) : Bool :=
  decide (i = 0x7000 + n ∨ i = 0x7A00 + n ∨ (0x7100 + 32 * n ≤ i ∧ i < 0x7100 + 32 * n + 32))

/-- Parameters of the lane's check unit follow its mode (R596). -/
def State.setLaneUnit (s : State) (n : Nat) : State :=
  let i := 0x7A00 + n
  let m := s.laneMode n
  if m = 0 then ((((s.setReg i 1 0).setReg i 2 0).setReg i 3 0).setReg i 4 0).setReg i 5 0
  else
    let p := crcOf m
    ((((s.setReg i 1 p.width).setReg i 2 p.poly).setReg i 3 p.init).setReg i 4 0).setReg i 5 p.xorOut

/-- Mode, rate, parity and sample point of a lane (R562, R589), by the entry's key. -/
def laneRateKey (n k : Nat) : Bool := decide (k / 256 = 0x7000 + n ∧ 1 ≤ k % 256 ∧ k % 256 ≤ 5)

/-- A lane has taken up ring values, s1 being s with them (R589): a change of mode, rate, parity or sample point makes every enabled partner
enter DISCOVERING, and `enable` moves partners into and out of DISABLED. -/
def State.laneTaken (s s1 : State) (n : Nat) : State :=
  let key := fun (t : State) => [1, 2, 3, 4, 5].map (fun k => t.use (0x7000 + n) k)
  let changed := decide (key s ≠ key s1)
  let s2 := if s1.laneState n = 4 then s1
    else if changed ∨ (s1.laneState n = 0) ≠ (s1.laneMode n = 0) then (s1.setLaneUnit n).setLaneState n (ofBool (decide (s1.laneMode n ≠ 0)))
    else s1
  s2.each (partnersOf n) (fun t p =>
    let on := t.use (0x7100 + p) 1 = 1
    let st := t.partnerState p
    if t.laneState n = 4 then (if on ∧ st = 0 then t.setPartner p 3 3 else if !on ∧ st ≠ 0 then t.setPartner p 0 0 else t)
    else if !on then (if st = 0 then t else t.setPartner p 0 0)
    else if st = 0 ∨ changed then t.setPartner p 1 0
    else t.setReg (0x7100 + p) 0x14 (t.pollPeriod p))

/-- Take up all of a lane's ring values: at its next poll (R186), which is its next choice of R580, made too where no partner is due (log
entry 169). -/
def State.laneUptake (s : State) (n : Nat) : State := s.laneTaken (s.takeUp (laneIndex n)) n

/-- Take up a change of mode or rate, with no transaction in progress (R186). -/
def State.laneRekey (s : State) (n : Nat) : State := s.laneTaken (s.takeUpWhere (laneRateKey n)) n

/-- Whether a lane has ring values to take up. -/
def State.laneChanged (s : State) (n : Nat) : Bool :=
  decide (s.active.filter (fun e => laneIndex n (e.1 / 256)) ≠ s.taken.filter (fun e => laneIndex n (e.1 / 256)))

/-- Whether a lane's mode or rate has a value to take up. -/
def State.laneRateChanged (s : State) (n : Nat) : Bool :=
  decide (s.active.filter (fun e => laneRateKey n e.1) ≠ s.taken.filter (fun e => laneRateKey n e.1))

/-- A change of mode or rate is taken up at RING_APPLIED by lanes with no transaction in progress (R186). -/
def State.lanesUptake (s : State) : State :=
  s.each ((List.range s.laneCount).filter (fun n => (s.lane n).current.isNone && s.laneRateChanged n)) (fun t n => t.laneRekey n)

/-- Entry into OPERATIONAL: every enabled partner enters DISCOVERING. -/
def State.lanesStart (s : State) : State :=
  s.each ((List.range s.laneCount).filter (fun n => s.laneChanged n)) (fun t n => t.laneUptake n)

/-! ### Transactions (R578, R579) -/

/-- The transaction of a lane is over: the lane takes up a change of mode or rate that has waited for it (R186). -/
def State.laneIdle (s : State) (n : Nat) : State :=
  let s1 := s.modLane n (fun w => { w with current := none })
  if s1.laneRateChanged n then s1.laneRekey n else s1

/-- A transaction succeeds. -/
def State.laneSucceeds (s : State) (n p : Nat) : State := (s.setReg (0x7100 + p) 0x11 0).laneIdle n

/-- A transaction fails (R577, R579, R584, R586). -/
def State.laneFails (s : State) (n : Nat) (t : LaneTransaction) : State :=
  let i := 0x7100 + t.partner
  let s1 := (s.inc i 0x10).inc i 0x11
  let s2 := s1.laneResult t.request.origin t.partner Status.timeout (if t.aliveError then 5 else 4)
  let s3 := match t.request with
    | .discover _ => if s2.partnerState t.partner = 1 then
        s2.setPartner t.partner (if (s2.partner t.partner).identity.isSome then 3 else 4) 1 else s2
    | _ => if s2.partnerState t.partner = 2 ∧ s2.use i 5 ≤ s2.reg i 0x11 then s2.setPartner t.partner 3 1 else s2
  s3.laneIdle n

/-- An attempt has no valid response: it is sent again while attempts are left and the partner has not failed, else the
transaction fails. -/
def State.attemptFails (s : State) (n : Nat) (alive : Bool) : State :=
  match (s.lane n).current with
  | none => s
  | some t =>
    if t.resend then s
    else
      let t1 : LaneTransaction := { t with aliveError := alive }
      let s1 := s.laneSpan n t.started (s.lane n).freeAt
      if t.left = 0 ∨ s.partnerState t.partner = 3 then s1.laneFails n t1
      else s1.modLane n (fun w => { w with current := some { t1 with left := t.left - 1, resend := true } })

/-- Send a request: the unit inserts the ALIVE counter and appends the check value (R572, R597); EVENT_ACK awaits nothing. -/
def State.laneSend (s : State) (n p : Nat) (r : LaneRequest) (left : Nat) : State :=
  let x := s.partner p
  let f := encodeFrame (s.laneMode n) 0 (p % 32) r.type x.txAlive (s.requestPayload p r)
  let stop := s.now + s.wireNs n f.2.length
  let ack := decide (r.type = 6)
  let s1 := s.modPartner p (fun y => { y with txAlive := (y.txAlive + 1) % 16, requests := if ack then y.requests else min 15 (y.requests + 1) })
  let s2 : State := { s1 with lanes := { s1.lanes with sent := s1.lanes.sent ++ [{ lane := n, identifier := f.1, data := f.2 }] } }
  let s3 := (s2.inc (0x7000 + n) 0xB).useFree
  if ack then (s3.modLane n (fun w => { w with freeAt := stop + s.laneGap n })).laneSpan n s.now (stop + s.laneGap n)
  else s3.modLane n (fun w => { w with
    current := some { partner := p, request := r, left := left, started := s.now, deadline := stop + s.laneTimeout p } })

/-- Begin a transaction. -/
def State.laneBegin (s : State) (n p : Nat) (r : LaneRequest) : State :=
  (s.inc (0x7100 + p) 0xF).laneSend n p r (s.use (0x7100 + p) 4)

/-- Begin a COMMAND with the next cmd_seq of its partner (R575). -/
def State.laneCommandTo (s : State) (n p o : Nat) (v : List Byte) (orig : LaneOrigin) : State :=
  let q := (s.partner p).cmdSeq
  (s.modPartner p (fun x => { x with cmdSeq := (q + 1) % 256 })).laneBegin n p (.command q o v orig)

/-! ### Whole-lane happenings (R589) -/

/-- A COMMAND, READ or group target of a lane has been started and has not ended. -/
def State.laneCommandRuns (s : State) (n : Nat) : Bool :=
  match (s.lane n).current with
  | none => false
  | some t => decide (t.request.type = 3 ∨ t.request.type = 4)

/-- Entry into SLEEP or DEEP_SLEEP: polling stops after the transaction in progress. -/
def State.lanesSleep (s : State) : State := s.each (List.range s.laneCount) (fun t n =>
  if t.laneState n = 0 then t else t.modLane n (fun w => { w with stopped := true }))

/-- Exit from SLEEP or DEEP_SLEEP. Polls that fell due in between are not missed polls. -/
def State.lanesWake (s : State) (deep : Bool) : State := s.each (List.range s.laneCount) (fun t n =>
  if !(t.lane n).stopped then t
  else (t.modLane n (fun w => { w with stopped := false })).each (partnersOf n) (fun u p =>
    if u.partnerState p = 0 ∨ u.laneState n = 4 then u
    else if deep then u.setPartner p 1 0
    else if u.partnerState p = 2 then u.modPartner p (fun x => { x with nextDue := max x.nextDue u.now })
    else u))

/-- Requests of an instance: those not begun are discarded, the result of one in flight goes to no one, and its groups that run end with no
result (R217). -/
def State.lanesQuiesce (s : State) (i : Nat) : State :=
  let mine := fun (o : LaneOrigin) => match o with
    | .entry j _ _ _ _ => decide (j = i)
    | .group g => decide (s.groupOwner g = i)
    | .nobody => false
  let s0 := s.each ((List.range 16).filter (fun g => s.reg (0x7900 + g) 6 = 1 ∧ s.groupOwner g = i)) (fun t g => t.setReg (0x7900 + g) 6 0)
  s0.each (List.range s.laneCount) (fun t n =>
    let w := t.lane n
    if w.current.isNone ∧ w.queue = [] ∧ w.groups = [] then t
    else t.modLane n (fun w => { w with
      queue := w.queue.filter (fun e => !mine e.2.origin), groups := w.groups.filter (fun e => decide (s.groupOwner e.1 ≠ i))
      current := w.current.map (fun (c : LaneTransaction) =>
        if mine c.request.origin then { c with request := c.request.withOrigin .nobody } else c) }))

/-- Requests of an instance for partners it no longer holds are discarded; one in flight reports to it (R225). -/
def State.lanesTaken (s : State) (i : Nat) : State :=
  s.each (List.range s.laneCount) (fun t n =>
    if (t.lane n).queue = [] then t
    else t.modLane n (fun w => { w with queue := w.queue.filter (fun e => match e.2.origin with
      | .entry j _ _ _ _ => !(decide (j = i) && decide (s.partnerHolder e.1 n ≠ i))
      | _ => true) }))

/-- Core failure of a lane's die: what is not yet on the wire ends ABORTED, what has begun ends TIMEOUT. -/
def State.laneDropAll (s : State) (n : Nat) : State :=
  let w := s.lane n
  let s1 := w.queue.foldl (fun (t : State) e => t.laneResult e.2.origin e.1 Status.aborted 7) s
  let s2 := w.groups.foldl (fun (t : State) e => t.groupTarget e.1 e.2 7) s1
  let s3 := match w.current with
    | none => s2
    | some t => s2.laneResult t.request.origin t.partner Status.timeout 4
  s3.modLane n (fun x => { x with queue := [], groups := [], current := none, acks := [], freeAt := s.now })

/-- Core failure of a die (R589). -/
def State.lanesCoreFailed (s : State) (d : Nat) : State := s.each ((List.range 8).map (8 * d + ·)) (fun t n => t.laneDropAll n)

/-- A lane in HW_FAULT: its partners become FAILED with cause HW_FAULT (R589). -/
def State.laneLost (s : State) (n : Nat) : State :=
  ((s.laneDropAll n).setLaneState n 4).each (partnersOf n) (fun t p => if t.partnerState p = 0 then t else t.setPartner p 3 3)

/-- Shell failure of a die, or the loss of its lane front end (R589, R677). -/
def State.lanesShellFailed (s : State) (d : Nat) : State := s.each ((List.range 8).map (8 * d + ·)) (fun t n => t.laneLost n)

/-- FAILED (R697): polling stops and started work ends with no event. -/
def State.lanesHalt (s : State) : State :=
  { s with lanes := { s.lanes with lanes := s.lanes.lanes.map (fun e =>
    (e.1, { e.2 with current := none, queue := [], acks := [], groups := [], stopped := true })) } }

/-! ### Groups (R585) -/

/-- Targets of a slot. -/
def groupTargets (bs : List Byte) : List Nat := (List.range 2048).filter (fun p => bitmapGet bs p)

/-- A write to a group's `start` (R585); its refusals come in the order in which R585 lists them (log entry 181). A target on a lane in mode OFF
is not ONLINE; one on a lane that is lost or that no Core serves ends ABORTED (R586, R589). -/
def State.groupStartWrite (s : State) (req : Requester) (g v : Nat) : Nat × State :=
  let i := 0x7900 + g
  let ts := groupTargets (s.regBytes i 1)
  let val := s.regBytes i 3
  let own := fun (p : Nat) => match instanceOf? req with | none => true | some k => decide (s.partnerHolder p (p / 32) = k)
  if v ≠ 1 ∨ ts = [] ∨ ts.any (fun p => decide (32 * s.laneCount ≤ p ∨ s.use (0x7100 + p) 1 = 0)) ∨ val.length = 0 ∨ 40 < val.length then
    (Status.range, s)
  else if !ts.all own then (Status.deniedInstance, s)
  else if s.reg i 6 = 1 then (Status.busy, s)
  else
    let bs := ts.foldl (fun (b : List Byte) p => setNibble b p 1) (List.replicate 1024 0)
    let s1 := (((((s.setReg i 6 1).setReg i 7 0).setRegBytes i 8 bs).setReg i 9 0).setReg i 0xA 0).setReg i 0xB s.now
    let s2 : State := { s1 with lanes := { s1.lanes with owners := Tab.put s1.lanes.owners g (s.groupHolder g) } }
    (Status.pending, s2.each (List.range s.laneCount) (fun t n =>
      let here := ts.filter (fun p => p / 32 = n)
      if here = [] then t
      else if t.laneState n = 4 ∨ !t.laneServed (n / 8) then here.foldl (fun (u : State) p => u.groupTarget g p 7) t
      else if t.laneState n = 0 then here.foldl (fun (u : State) p => u.groupTarget g p 6) t
      else t.modLane n (fun w => { w with groups := w.groups ++ here.map (fun p => (g, p)) })))

end Sys2Proof.Machine
end

