-- ==== Sys2Proof/Machine/Links.lean ====
section
/-! DEFINITION. The links of the die fabric (R19 to R22, R26, R43): their states, the dies they join, hops, routes and reach. -/
namespace Sys2Proof.Machine

/-! ### Links (R21, R43) -/

/-- Key of the link between two dies. -/
def linkKey (a b : Nat) : Nat := 16 * min a b + max a b

/-- Die at the other end of a die's cross port, if the part wires it (R21). -/
def Part.cross (p : Part) (d : Nat) : Option Nat :=
  match p with
  | .ux3804 => none
  | .ux3808 => some ((d + 2) % 4)
  | .ux3816 => some ((d + 4) % 8)

/-- Key of the link that a pair of dies names: on the UX-3804 (1, 0) names the second of the two parallel links, which leads from D1 to the next
die of the ring (log entry 33). -/
def Part.linkNamed (p : Part) (a b : Nat) : Nat := if p = .ux3804 ∧ a = 1 ∧ b = 0 then 257 else linkKey a b

/-- Keys of the part's links (R21); key 257 is the second parallel link of the UX-3804. -/
def Part.links (p : Part) : List Nat :=
  match p with
  | .ux3804 => [1, 257]
  | _ => (List.range p.dies).map (fun d => linkKey d ((d + 1) % p.dies)) ++
      (List.range (p.dies / 2)).filterMap (fun d => (p.cross d).map (linkKey d))

/-- State of a link by R43. -/
def State.linkCode (s : State) (k : Nat) : Nat := Tab.getD s.fabric.links k 0

/-- A link joins two dies and carries traffic: it is up, and both routers run (R695). -/
def State.joined (s : State) (a b : Nat) : Bool :=
  decide (a ≠ b) && s.shellUp a && s.shellUp b &&
  (decide (s.part.links.contains (linkKey a b) ∧ 2 ≤ s.linkCode (linkKey a b)) ||
   decide (s.part = .ux3804 ∧ 2 ≤ s.linkCode 257))

/-- Dies within a number of hops of a die. -/
def State.ball (s : State) (a : Nat) : Nat → List Nat
  | 0 => [a]
  | n + 1 => let b := s.ball a n; s.dieList.filter (fun d => b.contains d || b.any (fun x => s.joined x d))

/-- Hops between two dies, when a route exists. -/
def State.hops (s : State) (a b : Nat) : Option Nat := (List.range 8).find? (fun n => (s.ball a n).contains b)

/-- A die can be reached from D0, as R95 judges it. -/
def State.reachedD0 (s : State) (d : Nat) : Bool := (s.hops 0 d).isSome

/-- A die can be reached from the trunk, and before SELF_TEST has chosen one from D0. -/
def State.reached (s : State) (d : Nat) : Bool := (s.hops (if s.bootState < 6 then 0 else s.trunk) d).isSome

/-- First die of the route from one die to another (R22): fewest hops; then by the cross link; then to the next higher die. The
manual counts that die modulo 8; on a ring of four its link is the one to the next higher die of the ring (log entry 33). -/
def State.nextHop (s : State) (a b : Nat) : Option Nat :=
  match s.hops a b with
  | none => none
  | some n =>
    let good := fun (d : Nat) => s.joined a d && decide ((s.hops d b).map (· + 1) = some n)
    let order := (s.part.cross a).toList ++ [(a + 1) % s.dies, (a + s.dies - 1) % s.dies]
    if n = 0 then none else order.find? good

/-- The trunk computes every route anew (R22), keyed 16 × from + to. -/
def State.installRoutes (s : State) : State :=
  let pairs := s.dieList.flatMap (fun a => s.dieList.map (fun b => (a, b)))
  { s with fabric := { s.fabric with
    routes := pairs.foldl (fun t p => match s.nextHop p.1 p.2 with | none => t | some d => Tab.put t (16 * p.1 + p.2) d) [] } }

/-- `die.status.links` of a die (R43). -/
def State.linkBits (s : State) (d : Nat) : Nat :=
  let n := s.dies
  let up := s.linkCode (linkKey d ((d + 1) % n))
  let down := if s.part = .ux3804 then s.linkCode 257 else s.linkCode (linkKey d ((d + n - 1) % n))
  1024 * ((s.part.cross d).map (fun x => s.linkCode (linkKey d x))).getD 0 + 256 * up + 64 * down

/-- The links as they stand are shown, and routes installed. -/
def State.showLinks (s : State) : State :=
  (s.each s.dieList (fun t d => t.setReg (0x2008 + d) 4 (t.linkBits d))).installRoutes

/-- In DEEP_SLEEP no link carries traffic (R26); the states are held for the retraining at the exit. -/
def State.linksSleep (s : State) : State :=
  ({ s with fabric := { s.fabric with kept := s.fabric.links, links := s.fabric.links.map (fun e => (e.1, min e.2 1)) } } : State).showLinks

/-- The exit from DEEP_SLEEP retrains the links (R26, R623). -/
def State.linksWake (s : State) : State :=
  ({ s with fabric := { s.fabric with links := s.fabric.kept, kept := [] } } : State).showLinks

end Sys2Proof.Machine
end

