-- ==== Sys2Proof/Machine/StreamOps.lean ====
section
/-! DEFINITION. Stream check units (R594, R595, R600 to R607). -/
namespace Sys2Proof.Machine

/-- Parameters of a stream unit; a value that a narrower width has left too wide enters with its low bits (log entry 23). -/
def State.streamParams (s : State) (u : Nat) : Crc.Params :=
  let i := 0x7A40 + u
  let w := s.reg i 1
  { width := w, poly := s.reg i 2 % 2 ^ w, init := s.reg i 3 % 2 ^ w, refIn := bit (s.reg i 4) 0, refOut := bit (s.reg i 4) 1,
    xorOut := s.reg i 5 % 2 ^ w }

/-- The W bytes of a finalised value in the unit's byte order (R595). -/
def State.streamBytes (s : State) (u v : Nat) : List Byte :=
  let w := (s.reg (0x7A40 + u) 1 + 7) / 8
  if s.reg (0x7A40 + u) 6 = 0 then leBytes w v else beBytes w v

/-- The register is loaded with init (R601, R603). -/
def State.streamLoad (s : State) (u : Nat) : State := (s.setReg (0x7A40 + u) 8 (s.streamParams u).init).setReg (0x7A40 + u) 9 0

/-- The started entry of a unit. -/
def State.streamRun (s : State) (u : Nat) : Option StreamRun := Tab.find? s.streams u

/-- `running` and `bytes` as a read returns them (R603): during a started entry, as they stand after some of its bytes. -/
def State.streamShown (s : State) (u : Nat) : Nat × Nat :=
  let i := 0x7A40 + u
  match s.streamRun u with
  | none => (s.reg i 8, s.reg i 9)
  | some r =>
    let k := Config.streamProgress s.free u % (r.data.length + 1)
    (Crc.run (s.streamParams u) (s.reg i 8) (r.data.take k), s.reg i 9 + k)

/-- The row of R603 that a preset names: width, polynomial, init, reflect, xorout, byte order. -/
def streamPreset? (v : Nat) : Option (List Nat) :=
  if v = 1 then some [8, 0x2F, 0xFF, 0, 0xFF, 0]
  else if v = 2 then some [16, 0x1021, 0xFFFF, 0, 0, 1]
  else if v = 3 then some [32, 0x1EDC6F41, 0xFFFFFFFF, 3, 0xFFFFFFFF, 0]
  else none

/-- A write to `preset` (R603). -/
def State.streamPresetWrite (s : State) (u v : Nat) : Nat × State :=
  match streamPreset? v with
  | none => (Status.range, s)
  | some ps =>
    if (s.streamRun u).isSome then (Status.busy, s)
    else
      let s1 := (List.range 6).foldl (fun (t : State) k => t.setReg (0x7A40 + u) (k + 1) (ps.getD k 0)) s
      (Status.ok, s1.streamLoad u)

/-- A write to a parameter, `running` or `bytes` (R594, R603). -/
def State.streamWrite (s : State) (u sub v : Nat) : Nat × State :=
  let wide := decide (sub = 2 ∨ sub = 3 ∨ sub = 5) && decide (2 ^ s.reg (0x7A40 + u) 1 ≤ v)
  if wide then (Status.range, s)
  else if (s.streamRun u).isSome then (Status.busy, s)
  else (Status.ok, s.setReg (0x7A40 + u) sub v)

/-- A started entry of a unit ends with no event, and the register returns to init (R217, R225, R605). -/
def State.streamReset (s : State) (u : Nat) : State := ({ s with streams := Tab.erase s.streams u } : State).streamLoad u

/-- Units of the part. -/
def State.unitCount (s : State) : Nat := 2 * s.dies

/-- Quiesce of an instance's units (R217). -/
def State.streamsQuiesce (s : State) (i : Nat) : State :=
  s.each ((List.range s.unitCount).filter (fun u => s.unitHolder (64 + u) = i)) (fun t u => t.streamReset u)

/-- Core failure of a die (R605): queues stop with HW_FAULT, and a started entry ends HW_FAULT. -/
def State.streamsCoreFailed (s : State) (d : Nat) : State :=
  s.each [2 * d, 2 * d + 1] (fun t u =>
    let t1 := match t.streamRun u with
      | none => t
      | some r => ({ t with streams := Tab.erase t.streams u } : State).endEntry r.inst r.q r.tag r.completion Status.hwFault
    t1.stopTargeting 5 u Status.hwFault)

/-- A stream entry of a die has started (R605, R609). -/
def State.streamActive (s : State) (d : Nat) : Bool := (s.streamRun (2 * d)).isSome || (s.streamRun (2 * d + 1)).isSome

end Sys2Proof.Machine
end

