-- ==== Sys2Proof/Machine/PowerOps.lean ====
section
/-! DEFINITION. Power states (R608 to R632): the handshake, entries and exits, OFF, domains on demand, bias and regulators. -/
namespace Sys2Proof.Machine

/-! ### What a loss of power or a reset leaves (R67, R80, R111) -/

/-- Everything outside the always-on domain is lost: fuses, the pins, the levels the board drives and the wake level stay, and so does
the tainted flag, which only an entry into OFF clears (R266). -/
def State.wiped (s : State) : State :=
  { State.reset with
    pending := s.pending, clock := s.clock, part := s.part, grade := s.grade, free := s.free, fuses := s.fuses, pins := s.pins, out := s.out,
    live := s.live.filter (fun e => decide (e.1 = 0x230103)), power := { wakeLow := s.power.wakeLow },
    boot := { porReleased := s.boot.porReleased, perstHigh := s.boot.perstHigh, perstOrigin := s.boot.perstOrigin,
              resetHigh := s.boot.resetHigh, resetRelease := s.boot.resetRelease, origin := s.boot.origin } }

/-- OFF (R617): the display, lane and PCIe outputs are in their reset states, secrets are zeroised, the switched rails fall, and
the MCAN transceiver goes to standby. -/
def State.enterOff (s : State) : State :=
  let w := s.wiped
  ({ w with
    pins := { w.pins with pwrenMain := false, pwrenMem := false, mcanStby := true, clkreqLow := false, pcieIdle := true, tdoDriven := false, gpio := [], gpioKept := [] }
    power := { w.power with zeroised := true }, live := [] } : State).setReg 0x2400 1 4

/-! ### The handshake (R611, R612) -/

/-- An answer that does not accept: REFUSE or DELAY, its reason, and the block (die, class of R159, resource); for a claim its
class of R260. -/
structure PowerAnswer where
  refuse   : Bool
  reason   : Nat
  die      : Nat
  cls      : Nat
  resource : Nat
  claim    : Nat := 0
deriving DecidableEq, Repr

/-- Block class of R159 for a claim class of R260, and the blocks of it per die. -/
def claimBlock (c : Nat) : Nat × Nat :=
  if c = 1 then (4, 2) else if c = 2 then (8, 64) else if c = 3 then (7, 2) else if c = 4 then (1, 1) else if c = 5 then (1, 4)
  else if c = 6 then (1, 2) else if c = 7 then (1, 1) else (5, 8)

/-- The answers to the query that are not ACCEPT (R612). -/
def State.powerAnswers (s : State) (linkUp l12 : Bool) : List PowerAnswer :=
  let p := s.power
  (if p.secureRequest then [] else s.worlds.claims.map (fun (c : Claim) =>
    { refuse := true, reason := 1, die := c.resource / (claimBlock c.cls).2, cls := (claimBlock c.cls).1, resource := c.resource, claim := c.cls })) ++
  (if s.reg 0x2110 6 ≠ 0 then [{ refuse := true, reason := 2, die := 0xFF, cls := 0, resource := 0xFFFF }] else []) ++
  ((List.range (2 * s.dies)).filter (fun c => decide (s.hapState c = 3 ∨ s.hapState c = 4))).map (fun c =>
    { refuse := false, reason := 3, die := c / 2, cls := 7, resource := c }) ++
  (match s.audioActive with | none => [] | some a => [{ refuse := true, reason := 4, die := a, cls := 9, resource := a }]) ++
  ((List.range s.laneCount).filter (fun n => s.laneCommandRuns n)).map (fun n =>
    { refuse := false, reason := 5, die := n / 8, cls := 5, resource := n }) ++
  (s.dieList.filter (fun d => s.streamActive d)).map (fun d => { refuse := false, reason := 6, die := d, cls := 1, resource := d }) ++
  (if s.dir.running.isSome ∨ s.dir.queued ≠ [] then [{ refuse := false, reason := 7, die := 0xFF, cls := 0, resource := 0xFFFF }] else []) ++
  (if s.shed.running.isSome ∨ (List.range 32).any (fun i => decide (s.instState i = 4 ∨ s.instState i = 6)) then
    [{ refuse := true, reason := 8, die := 0xFF, cls := 0, resource := 0xFFFF }] else []) ++
  (if s.reg 0x2710 2 = 2 then [{ refuse := true, reason := 9, die := 0xFF, cls := 0, resource := 0xFFFF }] else []) ++
  (if p.target = 3 ∧ linkUp ∧ !l12 then [{ refuse := true, reason := 0xA, die := 0xFF, cls := 0, resource := 0xFFFF }] else [])

/-- Whether answer a comes before b in the order of R612. -/
def PowerAnswer.before (a b : PowerAnswer) : Bool :=
  let k := fun (x : PowerAnswer) => [x.reason, ofBool (decide (x.die ≠ 0xFF)), x.die, x.cls, x.resource]
  (k a < k b : Bool)

/-- The answer that the event of R612 names. -/
def chooseAnswer : List PowerAnswer → Option PowerAnswer
  | [] => none
  | a :: as => match chooseAnswer as with
    | none => some a
    | some b => some (if b.before a then b else a)

/-- A handshake starts (R611). -/
def State.startHandshake (s : State) (target : Nat) (secure automatic : Bool) : State :=
  ({ s with power := { s.power with target := target, secureRequest := secure, automatic := automatic, secondQuery := false, delayUntil := none,
                                    wakeDuring := none, deepAfter := none } } : State).setReg 0x2400 3 1

/-- The automatic DEEP_SLEEP entry is due `deep_after_s` from now (R610). -/
def State.armDeep (s : State) : State :=
  let n := s.use 0x2400 6
  { s with power := { s.power with deepAfter := if s.powerState = 2 ∧ n ≠ 0 then some (s.now + sec n) else none } }

/-- A request is refused (R612, R614, R633). -/
def State.refusePower (s : State) (reason : Nat) (a : PowerAnswer) (claims : Bool) : State :=
  let st := if claims then Status.deniedSecureClaim else Status.busy
  let w := s.power.wakeDuring
  let target := s.power.target
  let s1 := (((({ s with power := { s.power with target := 0, delayUntil := none, wakeDuring := none } } : State).setReg 0x2400 3 0).setReg
    0x2400 7 st).setReg 0x2400 8 reason).inc 0x2400 0xE
  let s2 := s1.event 0 0x0091 target st a.die reason (a.cls + 256 * a.resource)
  let s3 := if reason = 1 then s2.securityEvent 1 a.claim a.resource else s2
  match w with
  | some k => if wakeMarked k s3.powerState ∧ s3.powerState = 2 then s3.beginExit k else s3.armDeep
  | none => s3.armDeep

/-- A handshake ends ABORTED: OFF or trunk succession (R615, R633). -/
def State.abortHandshake (s : State) : State :=
  if s.reg 0x2400 3 ≠ 1 then s
  else
    let target := s.power.target
    let s1 := (({ s with power := { s.power with target := 0, delayUntil := none, wakeDuring := none } } : State).setReg 0x2400 3 0).setReg
      0x2400 7 Status.aborted
    s1.event 0 0x0091 target Status.aborted 0xFF 0 0

/-- `power.state` reads IDLE when every present die is IDLE. -/
def State.settleIdle (s : State) : State :=
  if 2 ≤ s.powerState then s
  else
    let all := s.dieList.all (fun d => decide (s.reg (0x2408 + d) 1 = 1))
    let st := ofBool all
    if s.powerState = st then s else (s.setReg 0x2400 1 st).setReg 0x2400 0xA s.now

/-- A die leaves IDLE. -/
def State.leaveIdle (s : State) (d : Nat) : State :=
  if s.reg (0x2408 + d) 1 ≠ 1 then s
  else
    let a := Tab.getD s.power.idleSince d s.now
    let old := (Tab.getD s.power.idleSpans d []).filter (fun p => decide (s.now < p.2 + ms 100))
    (({ s with power := { s.power with idleSpans := Tab.put s.power.idleSpans d (old ++ [(a, s.now)]), idleSince := Tab.erase s.power.idleSince d } }
      : State).setReg (0x2408 + d) 1 0).settleIdle

/-- Entry proceeds after the last ACCEPT (R613): every die leaves IDLE and its blocks stop. From SLEEP toward DEEP_SLEEP the blocks have stopped already. -/
def State.beginEntry (s : State) : State :=
  if s.powerState = 2 then s.setReg 0x2400 3 2
  else
    let s1 := (s.each s.dieList (fun t d => t.leaveIdle d)).setReg 0x2400 3 2
    let s2 := ((((s1.abandonPiezo (fun _ => true)).abandonPilots (fun _ => true)).gfxSleep).keysSleep).audioSleep
    s2.lanesSleep.headsStop

/-- State of every present die (0x2408+d.01), its bias and its assist (R626); with VR_MODE high the bias is 0 mV in RUN and IDLE (R628). -/
def State.setDiePower (s : State) (st : Nat) : State :=
  s.each s.dieList (fun t d =>
    let i := 0x2408 + d
    let native := decide (t.reg i 6 = 0)
    let t1 := t.setReg i 1 st
    if 2 ≤ st then
      let keep := if t.powerState ≤ 1 then Tab.put t1.power.runBias d (t1.regI i 3) else t1.power.runBias
      let t2 : State := { t1 with power := { t1.power with runBias := keep } }
      (t2.setRegI i 3 (if st = 2 then t.useI 0x2410 2 else -600)).setReg i 4 1
    else if 2 ≤ t.powerState then
      let b := if native then Tab.getD t1.power.runBias d 0 else 0
      (t1.setRegI i 3 b).setReg i 4 (if b < 0 then 3 else 0)
    else t1)

/-! ### Regulators (R628 to R632) -/

/-- The board regulators speak PMBus: VR_MODE is high (0x2002.02). -/
def State.vrMode (s : State) : Bool := s.reg 0x2002 2 = 1

/-- PEC of a write: the SMBus CRC-8 over address, command and data (R628; the polynomial is PMBus's, log entry 25). -/
def pecOf (address command : Nat) (data : List Byte) : List Byte :=
  leBytes 1 (Crc.value ⟨8, 0x07, 0, false, false, 0⟩ (leBytes 1 (2 * address) ++ leBytes 1 command ++ data))

/-- A write on the regulator bus (R76, R628). -/
def State.pmbusWrite (s : State) (d command : Nat) (data : List Byte) : State :=
  let a := 0x40 + d
  let bs := data ++ (if s.use 0x2410 5 = 1 then pecOf a command data else [])
  { s with power := { s.power with pmbus := s.power.pmbus ++ [{ address := a, command := command, data := bs }] } }

/-- The code of a voltage in mV for a linear mode with exponent n: round(V ÷ 2^n) (R629). -/
def vrCode (mv : Nat) (n : Int) (up : Bool) : Nat :=
  if n < 0 then nearest (mv * 2 ^ n.natAbs) 1000 up else nearest mv (1000 * 2 ^ n.toNat) up

/-- Command a regulator (R630). -/
def State.vrCommand (s : State) (d mv : Nat) : State :=
  let i := 0x2408 + d
  if s.reg i 6 ≠ 1 ∨ s.reg i 5 = mv then s
  else
    let code := vrCode mv (Tab.getD s.power.vrExponent d 0) (Config.freeBool s.free)
    let s1 := s.pmbusWrite d 0x21 (leBytes 2 code)
    ({ s1 with power := { s1.power with vr := Tab.put s1.power.vr d { targetMv := mv, oldMv := s.reg i 5 } } } : State).setReg i 5 mv

/-- A VOLTAGE event (R633). -/
def State.voltageEvent (s : State) (d reason status : Nat) : State :=
  s.event 0 0x0092 d status d reason (s.reg (0x2408 + d) 5 + 65536 * s.reg (0x2408 + d) 7)

/-- A regulator is in FAULT (R631): no further command is sent, and the health cause VR_FAULT follows. -/
def State.vrFault (s : State) (d reason : Nat) : State :=
  if s.reg (0x2408 + d) 6 ≠ 1 then s
  else
    let s1 := ({ s with power := { s.power with vr := Tab.erase s.power.vr d } } : State).setReg (0x2408 + d) 6 3
    (s1.voltageEvent d reason Status.hwFault).cause 7 d 0xA (16 * d)

/-- An attempt goes unacknowledged (R631, R727): CLEAR_FAULTS and the command once more, then FAULT. -/
def State.vrUnacknowledged (s : State) (d : Nat) : State :=
  match Tab.find? s.power.vr d with
  | none => s
  | some c =>
    let s1 := s.inc (0x2408 + d) 8
    if c.retried then s1.vrFault d 1
    else
      let code := vrCode c.targetMv (Tab.getD s.power.vrExponent d 0) (Config.freeBool s.free)
      let s2 := (s1.pmbusWrite d 3 []).pmbusWrite d 0x21 (leBytes 2 code)
      { s2 with power := { s2.power with vr := Tab.put s2.power.vr d { c with retried := true } } }

/-- Entry into OPERATIONAL (R629): VOUT_MODE is read; what the board's regulators answer is free (log entry 25). -/
def State.vrStart (s : State) : State :=
  if !s.vrMode then s
  else s.each s.dieList (fun t d =>
    let i := 0x2408 + d
    let linear := Config.freeBool t.free
    let n := signedOf 5 (Config.freeNat t.free)
    let t1 : State := { t with power := { t.power with
      pmbus := t.power.pmbus ++ [{ address := 0x40 + d, command := 0x20, data := [] }], vrExponent := Tab.put t.power.vrExponent d n } }
    let t2 := ((t1.setReg i 5 750).setReg i 6 (if linear then 1 else 2)).useFree
    if linear then t2 else t2.voltageEvent d 4 Status.ok)

/-- A STATUS_WORD is judged (R631): VOUT is a fault, POWER_GOOD# with no fault is not yet an acknowledgement. An acknowledgement
after a timeout writes RECOVERED (R633, log entry 26). -/
def State.vrJudge (s : State) (d status : Nat) : State :=
  let s1 := s.setReg (0x2408 + d) 7 status
  if bit status 15 then s1.vrFault d 2
  else if !bit status 11 then
    let late := match Tab.find? s1.power.vr d with | none => false | some c => c.retried
    let s2 : State := { s1 with power := { s1.power with vr := Tab.erase s1.power.vr d } }
    if late then s2.voltageEvent d 5 Status.ok else s2
  else s1

/-- The exit from DEEP_SLEEP ends the isolation of the banks (R55) and brings the links back. -/
def State.banksWake (s : State) : State :=
  State.linksWake { s with pins := { s.pins with pcieIdle := false, gpio := s.pins.gpioKept, gpioKept := [] } }

/-! ### Exit (R623) -/

/-- The exit completes: the device is in RUN (R589, R303, R476, R553, R158, R621, R633). -/
def State.finishExit (s : State) : State :=
  let p := s.power
  let deep := decide (p.exitFrom = 3)
  let t := s.now
  let s1 : State := { s with power := { p with exitSource := 0, exitFrom := 0, offAfterExit := false, railsWait := none, awake := [] } }
  let s2 := (if deep then s1.banksWake else s1).setDiePower 0
  let s3 := (((s2.setReg 0x2400 1 0).setReg 0x2400 3 0).setReg 0x2400 9 p.exitSource).setReg 0x2400 0xA t
  let s4 := (((((s3.keysWake deep).hapWake).lanesWake deep).audioWake).headsWake deep)
  let s5 := s4.each (List.range (2 * s.dies)) (fun u h => u.reverify h)
  let s6 := s5.each s5.dieList (fun u d =>
    let u1 := u.setReg (0x2508 + d) 5 (u.use 0x2500 3)
    match Tab.find? u1.power.runVr d with
    | none => u1
    | some mv => ({ u1 with power := { u1.power with runVr := Tab.erase u1.power.runVr d } } : State).vrCommand d mv)
  let n := s6.cfg 0x1017 0
  let s7 : State := { s6 with mcan := { s6.mcan with heartbeatDue := if n = 0 then none else some (t + ms n) } }
  let pme := decide (p.exitSource ≤ 3) && (s7.inst 0).d3hot && (s7.inst 0).pmeEnable
  let s8 : State := if pme then { s7 with power := { s7.power with pmpme := s7.power.pmpme + 1 } } else s7
  let s9 := s8.eventAll 0x0090 0xFFFF Status.ok 0xFF 0 (p.exitSource + 256 * p.exitFrom)
  let s10 : State := if s9.health.pendingRail then
      ({ s9 with health := { s9.health with pendingRail := false } } : State).cause 8 0xFF 0xA 0xFFFF
    else s9
  s10.gfxSettle

/-! ### OFF (R615 to R617, R263) -/

/-- The OFF entry begins: a secure interrupt, and 10 ms of notice. -/
def State.beginOff (s : State) : State :=
  let s1 := s.abortHandshake
  (({ s1 with power := { s1.power with target := 4, offNotice := some (s1.now + ms 10), deepAfter := none, wakeDuring := none } } : State).setReg
    0x2400 3 2).secureInterrupt

/-- A write to `power.command` (R611, R615 to R617): its status, and what follows. -/
def State.powerWrite (s : State) (req : Requester) (v : Nat) : Nat × State :=
  let secure := decide (worldOf req = .secure)
  let phase := s.reg 0x2400 3
  if v ≠ 0 ∧ v ≠ 2 ∧ v ≠ 3 ∧ v ≠ 4 then (Status.range, s)
  else if v = 4 then
    if s.power.target = 4 then (Status.ok, s)
    else if s.exitRuns then (Status.ok, { s with power := { s.power with offAfterExit := true } })
    else if s.powerState = 2 ∧ phase ≠ 2 then
      let t := s.abortHandshake
      (Status.ok, ({ t with power := { t.power with offAfterExit := true } } : State).beginExit 4)
    else (Status.ok, s.beginOff)
  else if phase ≠ 0 then (Status.busy, s)
  else if s.powerState = 2 then
    if v = 0 then (Status.ok, s.beginExit 4)
    else if v = 2 then (Status.ok, s)
    else (Status.pending, s.startHandshake 3 secure false)
  else if v = 0 then (Status.ok, s)
  else (Status.pending, s.startHandshake v secure false)

/-! ### IDLE (R609) and domains on demand (R624, R625) -/

/-- A die meets the conditions of IDLE that its blocks decide. -/
def State.dieMayIdle (s : State) (d : Nat) : Bool :=
  decide (s.use 0x2400 4 = 1) &&
  (List.range 16 |>.map (16 * d + ·)).all (fun c => !s.runnable c) && !s.runnable (0x80 + d) &&
  [2 * d, 2 * d + 1].all (fun c => decide (s.hapState c = 0 ∨ s.hapState c = 2 ∨ s.hapState c = 6)) && !s.streamActive d

/-- `idle_permille` (0x2408+d.02): time in IDLE over the last 100 ms. -/
def State.idlePermille (s : State) (d : Nat) : Nat :=
  let open' := match Tab.find? s.power.idleSince d with | none => [] | some a => [(a, s.now)]
  let lo := s.now - ms 100
  (((Tab.getD s.power.idleSpans d [] ++ open').map (fun p => min p.2 s.now - max p.1 lo)).sum) * 1000 / ms 100

/-- The bound in ns on the stall of a domain woken from IDLE or SLEEP (R624). -/
def domainStall (d : Domain) (idle : Bool) : Nat :=
  match d with
  | .managementCores => if idle then 2000 else 60000
  | .trunkRole => if idle then 2000 else 60000
  | .rasterCores => if idle then 2000 else 150000
  | .fabricLinks => 20000
  | .dram => 40000

/-- An access wakes a domain that sleeps: it is counted, and the longest stall is kept (R624, R625). -/
def State.wakeDomain (s : State) (d : Nat) (m : Domain) (idle : Bool) : State :=
  if s.power.awake.contains (d, m) then s
  else
    let s1 : State := { s with power := { s.power with awake := s.power.awake ++ [(d, m)] } }
    (((s1.inc (0x2408 + d) 9).raise (0x2408 + d) 0xA (Config.freeNat s.free % (domainStall m idle + 1)))).useFree

/-- A directory request wakes the domains it needs (R143, R625): in SLEEP the trunk role, and the holding die's management
cores, DRAM and, off the trunk, fabric links; in IDLE the die's management cores. -/
def State.demandWake (s : State) (d : Nat) : State :=
  if s.powerState = 2 then
    let s1 := ((s.wakeDomain s.trunk .trunkRole false).wakeDomain d .managementCores false).wakeDomain d .dram false
    if d = s.trunk then s1 else s1.wakeDomain d .fabricLinks false
  else if s.reg (0x2408 + d) 1 = 1 then s.wakeDomain d .managementCores true
  else s

end Sys2Proof.Machine
end

