-- ==== Sys2Proof/Machine/Power.lean ====
section
/-! DEFINITION. Meanings of the power commands that are events (R608 to R632): the handshake, entries and exits, IDLE, domains on
demand, bias and regulators. A write to `power.command` is a directory write (Directory.lean). -/
namespace Sys2Proof.Machine

/-- HANDSHAKE_ANSWERS (R611, R612): `delayNs` is the largest delay asked, used when some block asks one. -/
def execHandshakeAnswers (delayNs : Nat) (linkUp l12 : Bool) (s : State) : Host.Outcome State Fault Refusal :=
  if s.reg 0x2400 3 ≠ 1 ∨ s.power.delayUntil ≠ none then .next s
  else
    let as := s.powerAnswers linkUp l12
    let refusals := as.filter (fun (a : PowerAnswer) => a.refuse)
    let claims := refusals.any (fun (a : PowerAnswer) => decide (a.reason = 1))
    if s.power.secondQuery then
      match chooseAnswer as with
      | none => .next s.beginEntry
      | some a => .next (s.refusePower a.reason a claims)
    else
      match chooseAnswer refusals with
      | some a => .next (s.refusePower a.reason a claims)
      | none => match chooseAnswer as with
        | none => .next s.beginEntry
        | some a =>
          let d := if as.any (fun (b : PowerAnswer) => decide (b.reason = 7)) then max delayNs 2200000 else delayNs
          if ms (s.use 0x2400 5) < d then .next (s.refusePower 0x0B a false)
          else .next { s with power := { s.power with delayUntil := some (s.now + d) } }

/-- HANDSHAKE_DELAY_EXPIRY (R611): the query is sent again. -/
def execHandshakeDelayExpiry (s : State) : Host.Outcome State Fault Refusal :=
  match s.power.delayUntil with
  | none => .next s
  | some t =>
    let s1 := s.arriveAt t
    .next { s1 with power := { s1.power with delayUntil := none, secondQuery := true } }

/-- DEEP_SLEEP isolates the PCIE and LANE banks: their outputs hold their reset states (R55), and PWREN_MAIN falls (R68). -/
def State.isolate (s : State) : State :=
  { s with pins := { s.pins with pwrenMain := false, clkreqLow := false, pcieIdle := true, gpioKept := s.pins.gpio, gpio := [] } }

/-- The steps of R613 that precede the power state itself: regulators, whose RUN targets the exit restores, PWREN_MAIN, the fabric and
the Sapflow grants (R630, R646). -/
def State.enterSleepState (s : State) (target : Nat) : State :=
  let s1 := s.each s.dieList (fun t d =>
    let mv := if target = 3 then 550 else t.use 0x2410 3
    let t0 : State := if t.powerState ≤ 1 ∧ t.reg (0x2408 + d) 6 = 1 then
        { t with power := { t.power with runVr := Tab.put t.power.runVr d (t.reg (0x2408 + d) 5) } }
      else t
    let t1 := if mv = 0 then t0 else t0.vrCommand d mv
    (t1.setReg (0x2508 + d) 5 0))
  let s2 := ({ s1 with sapflow := { s1.sapflow with canopyGranted := [], calibration := false } } : State).setDiePower target |>.headsDown
  if target = 3 then s2.linksSleep.isolate else s2

/-- ENTRY_COMPLETE (R613, R614, R633). -/
def execEntryComplete (s : State) : Host.Outcome State Fault Refusal :=
  let target := s.power.target
  if s.reg 0x2400 3 ≠ 2 ∨ target = 4 ∨ target = 0 then .next s
  else
    let prev := s.powerState
    let s1 := (s.hapSleep).enterSleepState target
    let s2 := ((((s1.setReg 0x2400 1 target).setReg 0x2400 3 0).setReg 0x2400 7 Status.ok).setReg 0x2400 0xA s1.now).inc 0x2400
      (if target = 2 then 0xC else 0xD)
    let wake := s2.power.wakeDuring
    let s3 : State := { s2 with
      power := { s2.power with target := 0, wakeDuring := none, delayUntil := none, sleepStart := s2.now, deepAfter := none, idleSince := [], awake := [] }
      mcan := { s2.mcan with heartbeatDue := none } }
    let s3 := s3.eventAll 0x0090 0xFFFF Status.ok 0xFF target (256 * prev)
    let s4 := if target = 3 then s3.timeStops else s3
    match wake with
    | some k => .next (s4.beginExit k)
    | none => if s4.power.wakeLow then .next (s4.beginExit 1) else .next s4.armDeep

/-- DEEP_AFTER_EXPIRY (R610, R612): the device asks DEEP_SLEEP for itself, judged as a request of the normal world. -/
def execDeepAfterExpiry (s : State) : Host.Outcome State Fault Refusal :=
  match s.power.deepAfter with
  | none => .next s
  | some t =>
    if s.powerState ≠ 2 ∨ s.reg 0x2400 3 ≠ 0 then .next s
    else .next ((s.arriveAt t).startHandshake 3 false true)

/-- OFF_NOTICE_EXPIRY (R263, R617). With WAKE_N low an exit follows at once (R620). -/
def execOffNoticeExpiry (s : State) : Host.Outcome State Fault Refusal :=
  match s.power.offNotice with
  | none => .next s
  | some t =>
    let s1 := (s.arriveAt t).enterOff
    .next (if s1.power.wakeLow then s1.beginExit 1 else s1)

/-- WAKE_N goes low for `lowNs` (R620): shorter than 0.2 µs is ignored, 1 µs or longer is accepted, and between them the
manual leaves it open. `heldLow` says whether it is still low. -/
def execWakeN (lowNs : Nat) (heldLow : Bool) (s : State) : Host.Outcome State Fault Refusal :=
  let s1 : State := { s with power := { s.power with wakeLow := heldLow } }
  if lowNs < 200 then .next s1
  else
    let s2 := if lowNs < 1000 then s1.useFree else s1
    if lowNs < 1000 ∧ !Config.freeBool s.free then .next s2
    else if s2.powerState ≤ 1 ∧ s2.power.target = 0 then .next (s2.each s2.dieList (fun t d => t.leaveIdle d))
    else .next (s2.wakeFrom 1)

/-- EXIT_COMPLETE (R623): not before the switched rails are valid (R69). -/
def execExitComplete (s : State) : Host.Outcome State Fault Refusal :=
  if !s.exitRuns ∨ s.power.railsWait ≠ none ∨ s.power.exitFrom = 4 then .next s
  else
    let off := s.power.offAfterExit
    let s1 := s.finishExit
    .next (if off then s1.beginOff else s1)

/-- DIE_IDLE_ENTRY (R609): `coresWaiting` says that every management core of the die waits for an interrupt. -/
def execDieIdleEntry (die : Nat) (coresWaiting : Bool) (s : State) : Host.Outcome State Fault Refusal :=
  if die < s.dies ∧ s.operational ∧ s.powerState ≤ 1 ∧ s.reg 0x2400 3 ≠ 2 ∧ s.reg (0x2408 + die) 1 = 0 ∧ coresWaiting ∧ s.dieMayIdle die then
    .next (({ s with power := { s.power with idleSince := Tab.put s.power.idleSince die s.now } } : State).setReg (0x2408 + die) 1 1).settleIdle
  else .next s

/-- DIE_IDLE_EXIT (R609). -/
def execDieIdleExit (die : Nat) (s : State) : Host.Outcome State Fault Refusal :=
  if die < s.dies then .next (s.leaveIdle die) else .next s

/-- DOMAIN_SLEEP_TIMER (R625): the domain returns to sleep; the power state does not change. -/
def execDomainSleepTimer (die : Nat) (domain : Sys2Proof.Domain) (s : State) : Host.Outcome State Fault Refusal :=
  .next { s with power := { s.power with awake := s.power.awake.filter (fun p => p ≠ (die, domain)) } }

/-- Assist in RUN and IDLE: both bits while the bias is below 0 mV (R626). -/
def runAssist (bias : Int) : Nat := if bias < 0 then 3 else 0

/-- Lower after 1 ms without a warning (R666): native bias by 10 mV to its floor, compatibility voltage by 5 mV to 550 mV and at
most once per 1 ms, and never while a command is unacknowledged (R630). -/
def State.biasLower (s : State) (d : Nat) : State :=
  let i := 0x2408 + d
  let quiet := max (Tab.getD s.power.lastWarning d 0) (Tab.getD s.power.lastFall d 0)
  if s.now < quiet + ms 1 then s
  else
    let t : State := { s with power := { s.power with lastFall := Tab.put s.power.lastFall d s.now } }
    if s.reg i 6 = 0 then
      let b := s.regI i 3
      let floor := s.useI 0x2410 1
      if b ≤ floor then s
      else
        let v := max floor (b - 10)
        ((t.setRegI i 3 v).setReg i 4 (runAssist v)).inc (0x2608 + d) 7
    else if s.reg i 6 = 1 ∧ Tab.find? s.power.vr d = none ∧ 555 ≤ s.reg i 5 then (t.vrCommand d (s.reg i 5 - 5)).inc (0x2608 + d) 7
    else s

/-- Raise on a margin warning (R666): native bias by 20 mV up to +600 mV, compatibility voltage by 5 mV up to 850 mV. -/
def State.biasRaise (s : State) (d : Nat) : State :=
  let i := 0x2408 + d
  let t : State := { s with power := { s.power with lastWarning := Tab.put s.power.lastWarning d s.now } }
  if s.reg i 6 = 0 then
    let b := s.regI i 3
    let v := min 600 (b + 20)
    if 600 ≤ b then t else ((t.setRegI i 3 v).setReg i 4 (runAssist v)).inc (0x2608 + d) 6
  else if s.reg i 6 = 1 ∧ s.reg i 5 + 5 ≤ 850 then (t.vrCommand d (s.reg i 5 + 5)).inc (0x2608 + d) 6
  else t

/-- BIAS_MONITOR (R666). -/
def execBiasMonitor (die : Nat) (warning : Bool) (s : State) : Host.Outcome State Fault Refusal :=
  if die < s.dies ∧ s.operational ∧ s.powerState ≤ 1 then .next (if warning then s.biasRaise die else s.biasLower die) else .next s

/-- VR_ACK (R631): a STATUS_WORD polled while a command awaits its acknowledgement. -/
def execVrAck (die status : Nat) (s : State) : Host.Outcome State Fault Refusal :=
  match Tab.find? s.power.vr die with
  | none => .next s
  | some _ => .next (s.vrJudge die (status % 65536))

/-- VR_TIMEOUT (R631). -/
def execVrTimeout (die : Nat) (s : State) : Host.Outcome State Fault Refusal := .next (s.vrUnacknowledged die)

/-- VR_ALERT (R631): every present die's regulator is read and judged; an ALERT event says that POWER_GOOD# is set with no fault
that ends the regulator's commands (R633). -/
def execVrAlert (statuses : List (Nat × Nat)) (s : State) : Host.Outcome State Fault Refusal :=
  .next (s.each s.dieList (fun t d =>
    match Tab.find? statuses d with
    | none => t
    | some w =>
      if t.reg (0x2408 + d) 6 ≠ 1 then t
      else
        let st := w % 65536
        let t1 := t.vrJudge d st
        if bit st 11 ∧ !bit st 15 then t1.voltageEvent d 3 Status.ok else t1))

/-- CLOCK_STRETCH_TIMEOUT (R727): the attempt counts as unacknowledged. -/
def execClockStretchTimeout (die : Nat) (s : State) : Host.Outcome State Fault Refusal := .next (s.vrUnacknowledged die)

end Sys2Proof.Machine
end

