-- ==== Sys2Proof/Machine/HostOps.lean ====
section
/-! DEFINITION. Instances (R193 to R226): states, quiesce, faults, submission queues and their targets, and the commands' shared parts. -/
namespace Sys2Proof.Machine

/-! ### States and their events (R215) -/

/-- The type 0x0003 event of a transition, for I0 and for the instance itself when its ring is enabled (R215). -/
def State.stateEvent (s : State) (i reason status detail : Nat) : State :=
  let s1 := s.event 0 0x0003 i status 0xFF reason detail
  if i ≠ 0 ∧ (s.inst i).evq.enabled then s1.event i 0x0003 i status 0xFF reason detail else s1

/-- Instance i enters a state with the status of the change (R215, INST_STATE). -/
def State.instEnter (s : State) (i st status : Nat) : State :=
  ((s.setReg (0x2200 + i) 1 st).modInst i (fun x => { x with changeStatus := status })).stateEvent i st status 0

/-! ### What an instance holds (R121, R223) -/

/-- A head is held whole by instance i: it is assigned to it, or it is I0's and none of its layers is assigned. -/
def State.holdsWhole (s : State) (i h : Nat) : Bool :=
  if i = 0 then decide (s.headHolder h = 0) && (List.range 31).all (fun j => !s.holdsLayerOf (j + 1) h) else s.assigned i 6 h

/-- An object belongs to the grant units instance i holds: assigned to it, or for I0 assigned to no instance. -/
def State.grantHeld (s : State) (i : Nat) (o : ObjectRow) (k : Nat) : Bool :=
  if o.grant = .none ∨ o.grant = .readable ∨ o.grant = .ownInstance ∨ o.grant = .anyContext then false
  else if i = 0 then (List.range 31).all (fun j => decide (s.grantRight (j + 1) o k ≠ .full))
  else decide (s.grantRight i o k = .full)

/-- A latched entry (R316, R368): layers but for `head`, sprites, `head.compose`. -/
def latchedIndex (idx sub : Nat) : Bool :=
  decide ((0x4000 ≤ idx ∧ idx < 0x4100 ∧ 2 ≤ sub) ∨ (0x4100 ≤ idx ∧ idx < 0x4200 ∧ sub < 0xB) ∨ (idx % 256 = 9 ∧ 0x3000 ≤ idx ∧ idx < 0x4000))

/-- Read-only live entries that record what a past holder's commands came to: the last flip, underrun, Canopy record and mismatch, the last job,
press, onset, swap and partner seen, a group's outcome, the check units' last error and value (R219). -/
def outcomeEntry (base sub : Nat) : Bool :=
  decide (base = 0x3008 ∨ (base = 0x3007 ∧ (sub = 0xE ∨ sub = 0xF)) ∨ (base = 0x4100 ∧ sub = 0xC) ∨ (base = 0x4200 ∧ sub = 0x10) ∨
    (base = 0x4300 ∧ sub = 0x1A) ∨ (base = 0x4820 ∧ sub = 8) ∨ (base = 0x6200 ∧ sub = 0x17) ∨ (base = 0x6400 ∧ sub = 0x21) ∨
    (base = 0x6900 ∧ sub = 0x4B) ∨ (base = 0x7100 ∧ sub = 0x13) ∨ (base = 0x7900 ∧ 6 ≤ sub) ∨ (base = 0x7A00 ∧ 0xD ≤ sub) ∨ (base = 0x7A40 ∧ sub = 0xC))

/-- The live entries of instance i's grant units that take their defaults on entry into ACTIVE (R219): those that can be written,
the latched ones, and records of past commands. Counters keep their values, and so do readings of what a unit is now (log entry 138). A region's
entries and its layer's keep theirs too (R394, R415). -/
def State.instDefaults (s : State) (i : Nat) : List Nat :=
  ((s.live.filter (fun e => match objectAt (e.1 / 256) with
    | none => false
    | some (o, k) => match o.sub? (e.1 % 256) with
      | none => false
      | some r => decide (r.kind = .live) && (decide (r.acc = .rw ∨ r.acc = .rws) || latchedIndex (e.1 / 256) (e.1 % 256) || outcomeEntry o.base (e.1 % 256)) &&
        decide (o.base ≠ 0x4300) && !(decide (o.base = 0x4000) && s.heartwoodLayer (e.1 / 256 - 0x4000)) && s.grantHeld i o k))).map (·.1)

/-- One entry takes its default. A latched entry keeps its value for the frame in progress (R217). -/
def State.toDefault (s : State) (key : Nat) : State :=
  let i := key / 256
  let sub := key % 256
  let d := defaultAt s.part s.grade i sub
  if latchedIndex i sub then
    let h := s.recordHead i
    let f := s.frames (s.timingHead h)
    let s1 := s.modComp h (fun c => { c with
      before := if (Tab.find? c.before key).isSome then c.before else Tab.put c.before key (s.liveAt i sub), latchFrame := max c.latchFrame (f + 1) })
    s1.setLive i sub d
  else s.setLive i sub d

/-- `members` of a head takes its default (R219, R390): no written value waits, a surface in use ends, and the change counts as a member change. -/
def State.membersDefault (s : State) (h : Nat) : State :=
  let changed := decide (s.canopyReg h 5 ≠ 0)
  let s1 := (s.modCano h (fun c => { c with newMembers := none, change := c.change || changed })).setReg (0x4200 + h) 5 0
  if changed then s1.surfaceEnds h (s.frames h) else s1

/-- The grant units of a class that instance i holds, by the class's base index. -/
def State.unitsHeld (s : State) (i base count : Nat) : List Nat :=
  (List.range count).filter (fun k => match objectAt (base + k) with
    | none => false
    | some (o, n) => s.grantHeld i o n)

/-- Entry into ACTIVE (R215, R219). The gains of an edit bank take the preset, which they hold at entry into OPERATIONAL (R120, R554). -/
def State.enterActive (s : State) (i : Nat) : State :=
  let s0 := (s.unitsHeld i 0x4200 (2 * s.dies)).foldl State.membersDefault s
  let s0a := s0.each (s.unitsHeld i 0x6900 128) (fun t r => t.setEditBank r (presetBank (t.cfgBytes (0x6900 + r) 0x45)))
  let s1 := (s0a.instDefaults i).foldl State.toDefault s0a
  let s2 := s1.each ((List.range s.unitCount).filter (fun u => s.unitHolder (64 + u) = i)) (fun t u => t.streamReset u)
  s2.instEnter i 1 Status.ok

/-! ### Quiesce (R217) -/

/-- Commits of a head that satisfy a test are discarded with no event. -/
def State.discardQuiet (s : State) (h : Nat) (f : PendingCommit → Bool) : State :=
  let mute := fun (p : PendingCommit) => if f p then { p with completion := false } else p
  (s.modHead h (fun x => { x with pending := x.pending.map mute, checked := x.checked.map mute })).discardPending h f Status.aborted

/-- What the FLR of an instance does to the heads: its commits are discarded, and one latched and not yet shown writes no FLIP (R329); a whole head shows its fallback colour, and its layers on
a shared head are disabled, from the next frame start, at once on a stopped generator. -/
def State.headsQuiesce (s : State) (i : Nat) : State :=
  s.each (List.range (2 * s.dies)) (fun t h =>
    let t1 := (t.discardQuiet h (fun p => decide (p.inst = i))).modHead h (fun x => { x with toShow := x.toShow.filter (fun p => p.inst ≠ i) })
    let t2 :=
      if t.holdsWhole i h then t1.modHead h (fun x => { x with flrColour := some (t.reg (0x2200 + i) 2) })
      else
        let ls := (t.layersOf h).filter (fun l => decide (t.layerHolder l = i) && decide (i = 0 ∨ t.assigned i 7 l))
        if ls = [] then t1 else t1.modHead h (fun x => { x with hideLayers := x.hideLayers ++ ls })
    let x := t2.head (t2.timingHead h)
    if x.running ∨ x.startPending then t2 else t2.flrTake h)

/-- Requests of an instance at the directory (R141): its groups with no commit decision end with nothing applied, its accepted writes are
carried out, and none of its requests is answered. -/
def State.dirQuiesce (s : State) (i : Nat) : State :=
  let mine := fun (r : Requester) => decide (instanceOf? r = some i)
  let gone := (s.dir.queued.filter (fun g => mine g.req)).length
  let d : DirEngine := ⟨
    s.dir.running.map (fun g => if mine g.req then
      { g with silent := true, failWith := if g.commitT = none ∧ g.failWith = 0 then Status.aborted else g.failWith } else g),
    s.dir.queued.filter (fun g => !mine g.req),
    s.dir.reads.filter (fun g => !mine g.req),
    (s.dir.blocked.filter (fun b => b.accepted || !mine b.req)).map (fun b => if mine b.req then { b with silent := true } else b)⟩
  ({ s with dir := d } : State).count 0x1F01 2 gone

/-- Page registers return to their reset values and MSI-X vectors are masked; `flr` also resets the configuration space controls. The
sequence number of the event ring goes on (R208). -/
def State.pageReset (s : State) (i : Nat) (flr : Bool) : State :=
  s.modInst i (fun x => {
    msixSize := x.msixSize, mapped := x.mapped, changeStatus := x.changeStatus, evq := { sequence := x.evq.sequence, lost := x.evq.lost },
    msixEnabled := x.msixEnabled && !flr, functionMask := x.functionMask && !flr, d3hot := x.d3hot && !flr, pmeEnable := x.pmeEnable && !flr,
    takenFrom := x.takenFrom, pageDies := x.pageDies, pci := if flr then {} else x.pci })

/-- Quiesce of every resource of an instance (R217). -/
def State.quiesce (s : State) (i : Nat) (flr : Bool) : State :=
  let s1 := ((((s.gfxQuiesce i).keysQuiesce i).hapQuiesce i).audioQuiesce i).lanesQuiesce i
  (((s1.streamsQuiesce i).headsQuiesce i).dirQuiesce i).pageReset i flr

/-- A shed command that runs on the instance ends with a status, and its part in it is forgotten (R215, R227). -/
def State.shedEnds (s : State) (i status : Nat) : Nat × State :=
  if s.shed.running.isSome ∧ s.shed.target = i then
    (status, ({ s with shed := {} } : State).setReg 0x2221 9 status)
  else (Status.ok, s)

/-- Reset of one instance (R215, R217): RESETTING and the quiesce. One in RESETTING already has its configuration space reset again (R82). -/
def State.resetOne (s : State) (i : Nat) : State :=
  let st := s.instState i
  let s0 := s.inc (0x2200 + i) 0x13
  if st = 0 then s
  else if st = 2 then s0.modInst i Inst.configReset
  else
    let r := s0.shedEnds i Status.aborted
    (r.2.instEnter i 2 r.1).quiesce i true

/-- A VF is disabled (R215): quiesced to DISABLED. -/
def State.disableOne (s : State) (i : Nat) : State :=
  if s.instState i = 0 then s
  else
    let r := s.shedEnds i Status.aborted
    (r.2.instEnter i 0 r.1).quiesce i true

/-- Reset of an instance; a reset of the PF clears VF Enable (R216). -/
def State.resetInstance (s : State) (i : Nat) : State :=
  let s1 := s.resetOne i
  if i = 0 then ({ s1 with vfEnable := false, numVfs := 0 } : State).each ((List.range 31).map (· + 1)) (fun t j => t.disableOne j) else s1

/-- An instance faults (R215, R221, R695): the event to its own ring, then the quiesce. From FROZEN and RESTORING an instance faults
only when a stack with its pages is lost. -/
def State.faultInstance (s : State) (i status : Nat) : State :=
  let st := s.instState i
  if st = 0 ∨ st = 2 ∨ st = 3 then s
  else
    let r := s.shedEnds i Status.aborted
    ((r.2.inc (0x2200 + i) 0x14).instEnter i 3 status).quiesce i false

/-! ### Submission queues (R202 to R205) -/

/-- A queue's target is a resource of the instance (R202, R203, R419, R583). -/
def State.targetHeld (s : State) (i type target : Nat) : Bool :=
  if type = 1 then
    (decide (target < 16 * s.dies) && decide (s.contextHolder target = i)) ||
    (decide (0x80 ≤ target ∧ target < 0x80 + s.dies) && decide (s.cfg 0x4800 1 = i))
  else if type = 2 then decide (target < 2 * s.dies) && (decide (s.headHolder target = i) || decide (i ≠ 0) && s.holdsLayerOf i target)
  else if type = 3 then decide (64 ≤ target ∧ target < 112) && decide (s.rowHolder target = i)
  else if type = 4 then
    if target < 0x1000 then decide (target < 8 * s.dies) && decide (s.laneHolder target = i)
    else decide (target - 0x1000 < 256 * s.dies) && decide (s.partnerHolder (target - 0x1000) ((target - 0x1000) / 32) = i)
  else if type = 5 then decide (target < 2 * s.dies) && decide (s.unitHolder (64 + target) = i)
  else decide (type = 6 ∧ target < 2 * s.dies) && decide (s.hapticHolder target = i)

/-- Die and directory index of a queue's target, for the state of its service (R449, R605, R677). -/
def targetIndex (type target : Nat) : Nat :=
  if type = 1 then ctxIndex target
  else if type = 2 then 0x3007 + 256 * target
  else if type = 3 then 0x6800
  else if type = 4 then (if target < 0x1000 then 0x7000 + target else 0x7100 + (target - 0x1000))
  else if type = 5 then 0x7A40 + target
  else 0x6400 + target

/-- Setting ENABLE (R203): the status when it is refused. A target out of service fails with HW_FAULT (R449, R677). -/
def State.enableStatus (s : State) (i q : Nat) (config : Word32) : Nat :=
  let type := bits config.toNat 23 16
  let x := s.sq i q
  if type = 0 ∨ 6 < type ∨ 12 < bits config.toNat 15 12 then Status.range
  else if !s.targetHeld i type x.target ∨ (config.getLsbD 30 ∧ s.quota i ≤ x.base) then Status.deniedInstance
  else if s.serviceStatus (targetIndex type x.target) = Status.hwFault then Status.hwFault
  else Status.ok

/-- A queue stops because its target is withdrawn (R204, R225): every enabled queue of the instance whose target it no longer holds. -/
def State.withdrawTargets (s : State) (i : Nat) : State :=
  s.each (List.range 16) (fun t q =>
    let x := t.sq i q
    if x.enabled ∧ !x.stopped ∧ !t.targetHeld i x.type x.target then t.stopQueue i q Status.aborted else t)

/-- Queues that target a resource out of service stop with HW_FAULT (R204, R677). -/
def State.stopUnserved (s : State) : State :=
  s.each (List.range 512) (fun t n =>
    let x := t.sq (n / 16) (n % 16)
    if x.enabled ∧ !x.stopped ∧ t.serviceStatus (targetIndex x.type x.target) = Status.hwFault then t.stopQueue (n / 16) (n % 16) Status.hwFault
    else t)

/-! ### The instance pool (R734) -/

/-- `reserved_mib` of a die. -/
def State.reserved (s : State) (d : Nat) : Nat := field (s.regBytes 0x2220 2) (2 * d) 2

/-- `memory_pool_mib` by R734 for the carve-outs a ring view gives. -/
def State.poolWith (s : State) (carve : Nat → Nat) : Nat :=
  ((s.dieList.filter (fun d => s.shellUp d)).map (fun d => 2048 - s.reserved d - 4 - carve (2 * d) - carve (2 * d + 1))).sum
/-- `memory_pool_mib` now. -/
def State.memoryPool (s : State) : Nat := s.poolWith (fun h => s.cfg (0x4200 + h) 2)
/-- Sum of all quotas in MiB. -/
def State.quotaSum (s : State) : Nat := ((List.range 32).map (fun i => s.reg (0x2200 + i) 4)).sum

end Sys2Proof.Machine
end

