-- ==== Sys2Proof/Machine/McanOps.lean ====
section
/-! DEFINITION. The MCAN port (R146 to R165): frames sent, NMT states, the communication reset, and the uptake of its ring values. -/
namespace Sys2Proof.Machine

/-- NMT state by its heartbeat code (0x1F11.02, R156). -/
def State.nmtState (s : State) : Nat := s.reg 0x1F11 2
/-- The node ID (R149). -/
def State.nodeId (s : State) : Nat := s.reg 0x1F11 1
/-- The runtime's MCAN port runs: OPERATIONAL, not in SLEEP, DEEP_SLEEP or OFF, not FAILED, not bus-off (R103, R148, R158, R697). -/
def State.mcanRuns (s : State) : Bool := s.serving && decide (s.reg 0x1F11 3 ≠ 2)
/-- USDO is served (R157): in PRE-OPERATIONAL and OPERATIONAL, or by the ROM's server (R103). -/
def State.usdoServed (s : State) : Bool :=
  (s.mcanRuns && decide (s.nmtState = 0x7F ∨ s.nmtState = 5)) || (!s.operational && s.mcan.serving)

/-- A base frame leaves on MCAN: an FD frame, with bit-rate switching when a data rate is configured (R146, R147). -/
def State.sendMcan (s : State) (identifier : Nat) (data : List Byte) : State :=
  { s with out := { s.out with mcan := s.out.mcan ++
      [{ identifier := identifier, data := data, fdf := true, brs := decide (s.cfg 0x1F10 2 ≠ 0) }] } }

/-- The heartbeat period starts now (R158). -/
def State.armHeartbeat (s : State) : State :=
  let n := s.cfg 0x1017 0
  { s with mcan := { s.mcan with heartbeatDue := if n = 0 then none else some (s.now + ms n) } }

/-- A communication reset (R156): open sessions end silently, the node ID and bit timing are taken up, boot-up is sent. The bus state reads 0
again; bit 4 of 0x1001 stays as it stood (DESIGN CHOICE, log entry 121). -/
def State.commReset (s : State) : State :=
  let s1 : State := { s with mcan := { s.mcan with sessions := [], busOff := false } }
  let s2 := s1.setReg 0x1F11 1 (s1.cfg 0x1F10 5 + s1.reg 0x2002 3)
  let s3 := ((s2.setReg 0x1F11 2 (if s2.cfg 0x1F10 8 = 1 then 5 else 0x7F)).setReg 0x1F11 3 0).sendMcan (0x700 + s2.nodeId) [0]
  s3.armHeartbeat

/-- A new repeat period of the replacement request runs from its uptake; 0 ends the repeats (R162, log entry 122). -/
def State.repeatUptake (s old : State) : State :=
  let n := s.cfg 0x1F10 0xA
  if n = old.cfg 0x1F10 0xA ∨ s.healthState ≠ 1 ∨ s.mcan.firstRequest = none then s
  else { s with mcan := { s.mcan with repeatDue := if n = 0 ∨ s.mcan.replacement.isSome then none else some (s.now + sec n) } }

/-- MCAN takes up a ring (R150): a new node offset, bit rate or sample point resets communication; a new period restarts the heartbeat. -/
def State.mcanUptake (s old : State) : State :=
  let s1 := s.repeatUptake old
  if (List.range 5).any (fun k => decide (s.cfg 0x1F10 (k + 1) ≠ old.cfg 0x1F10 (k + 1))) then s1.commReset
  else if s.cfg 0x1017 0 ≠ old.cfg 0x1017 0 then s1.armHeartbeat
  else s1

/-- How long ago an EMCY was raised, in sequence numbers (R161). -/
def State.emcyAge (s : State) (e : Emcy) : Nat := (s.mcan.nextSequence + 65536 - e.sequence) % 65536

/-- The EMCY to send next: the oldest in sequence order (R161); 0xFF02 is the last a device raises (R697). -/
def State.nextEmcy (s : State) : Option Emcy :=
  match s.mcan.queue.head?, s.mcan.replacement with
  | none, none => s.mcan.failure
  | none, some r => some r
  | some e, none => some e
  | some e, some r => some (if s.emcyAge e < s.emcyAge r then r else e)

/-- EMCYs can leave: not in NMT STOPPED (R157). In FAILED those that wait leave while 0xFF02 does (R697, log entry 124). -/
def State.emcyOpen (s : State) : Bool :=
  (s.mcanRuns || (s.mcan.failure.isSome && s.operational && s.shellUp 0 && decide (s.powerState ≤ 1 ∧ s.reg 0x1F11 3 ≠ 2))) &&
    decide (s.nmtState = 0x7F ∨ s.nmtState = 5)

/-- The port without the EMCY that leaves (R161). -/
def Mcan.withoutEmcy (m : Mcan) (e : Emcy) : Mcan :=
  if m.replacement = some e then { m with replacement := none }
  else if m.queue.head? = some e then { m with queue := m.queue.drop 1 }
  else { m with failure := none }

/-- Abort code of a status (R163); `write` and the entry say which DENIED_ACCESS it is. -/
def State.abortCode (s : State) (status idx sub : Nat) (write : Bool) : Option Nat :=
  if status = 0x0101 then
    match lookup s.part idx sub with
    | none => some 0x06010000
    | some f =>
      let a := f.row'.acc
      if !write ∧ a = .wo then some 0x06010001
      else if write ∧ (a = .ro ∨ a = .const) then some 0x06010002
      else some 0x06010000
  else if status = 0x0102 then some 0x06010000
  else if status = 0x0103 then some 0x08000020
  else if status = 0x0104 then some 0x08000021
  else if status = 0x0201 then some 0x06090030
  else if status = 0x0202 then some 0x06070010
  else if status = 0x0203 then some (if (lookup s.part idx 0).isSome then 0x06090011 else 0x06020000)
  else if status = 0x0301 then some 0x08000022
  else if status = 0x0304 then some 0x05040000
  else if status = 0x0305 then some 0x08000000
  else if status = 0x0402 then some 0x06060000
  else none

/-- The answer of a USDO transfer leaves on MCAN (R147). -/
def State.sendUsdo (s : State) (a : UsdoAnswer) : State :=
  { s with out := { s.out with usdo := s.out.usdo ++ [{ a with fdf := true, brs := decide (s.cfg 0x1F10 2 ≠ 0) }] } }

/-- A USDO transfer ends with a protocol abort (R151, R155). It has not completed, so `last_status` stays (DESIGN CHOICE, log entry 123). -/
def State.usdoAbort (s : State) (code : Nat) : State :=
  let st := if code = 0x05040000 then Status.timeout else Status.aborted
  s.sendUsdo { status := st, abort := some code }

end Sys2Proof.Machine
end

