-- ==== Sys2Proof/Machine/WorldsOps.lean ====
section
/-! DEFINITION. Worlds (R241 to R263): cores, claims, secure entry and the loss of an applet, as the commands share them. -/
namespace Sys2Proof.Machine

/-! ### Applets (R252) -/

/-- Applet a, when loaded. -/
def State.applet? (s : State) (a : Nat) : Option Applet := Tab.find? s.worlds.applets a
/-- Change a loaded applet. -/
def State.modApplet (s : State) (a : Nat) (f : Applet → Applet) : State :=
  match s.applet? a with
  | none => s
  | some x => { s with worlds := { s.worlds with applets := Tab.put s.worlds.applets a (f x) } }

/-! ### Claims (R260, R261) -/

/-- A claim class's number of resources on this part (R260). -/
def State.claimCount (s : State) (cls : Nat) : Nat :=
  if cls = 1 then 2 * s.dies else if cls = 2 then 64 * s.dies else if cls = 3 then 2 * s.dies else if cls = 4 then s.dies
  else if cls = 5 then 4 * s.dies else if cls = 6 then 2 * s.dies else if cls = 7 then s.dies else if cls = 8 then 8 * s.dies else 0

/-- Replace the claims and show how many are held (0x2300.03). -/
def State.setClaims (s : State) (cs : List Claim) : State :=
  ({ s with worlds := { s.worlds with claims := cs } } : State).setReg 0x2300 3 cs.length

/-- The status of placing claims for an applet (R258, R260): outside its claim_mask, claimed by another applet, beyond 64. For a claim alone R260
gives no status where the block is absent, here NOT_PRESENT, or another applet's, here DENIED_SECURE_CLAIM, nor an order of its cases (DESIGN
CHOICE, log entry 179). -/
def State.claimStatus (s : State) (a : Nat) (bs : List (Nat × Nat)) : Nat :=
  match s.applet? a with
  | none => Status.notPresent
  | some x =>
    let new := bs.filter (fun b => !s.worlds.claims.any (fun c => decide (c.applet = a ∧ c.cls = b.1 ∧ c.resource = b.2)))
    if bs.any (fun b => decide (s.claimCount b.1 ≤ b.2)) then Status.notPresent
    else if bs.any (fun b => !bit x.claimMask b.1) then Status.deniedAccess
    else if new.any (fun b => s.claimed b.1 b.2) then Status.deniedSecureClaim
    else if 64 < s.worlds.claims.length + new.length then Status.busy
    else Status.ok

/-- Place claims that `claimStatus` allows. -/
def State.placeClaims (s : State) (a : Nat) (bs : List (Nat × Nat)) : State :=
  let new := bs.filter (fun b => !s.claimed b.1 b.2)
  s.setClaims (s.worlds.claims ++ new.map (fun b => { applet := a, cls := b.1, resource := b.2 }))

/-- Release claims. A released head takes up the ring values that its claim held back (R186, R414). -/
def State.releaseClaims (s : State) (p : Claim → Bool) : State :=
  let heads := (s.worlds.claims.filter (fun c => p c && decide (c.cls = 1))).map (·.resource)
  (s.setClaims (s.worlds.claims.filter (fun c => !p c))).each heads (fun t h => if t.claimed 1 h then t else t.headRing h)

/-! ### Secure entry (R258, R259) -/

/-- The SECURE_ENTRY event for the holder of the head and of each named key (R258, R259). -/
def State.entryEvent (s : State) (k : KeypadRequest) (reason : Nat) : State :=
  let is := (s.headHolder k.head :: k.keys.map (fun x => s.keyHolder x)).eraseDups
  is.foldl (fun (t : State) i => t.event i 0x009E k.head Status.ok (k.head / 2) reason 0) s

/-- Secure entry ends (R259): claims released, named keys silent until their next press, returned ring values taken up. -/
def State.endSecureEntry (s : State) (reason : Nat) : State :=
  match s.worlds.entry with
  | none => s
  | some k =>
    let s1 : State := { s with worlds := { s.worlds with entry := none } }
    let s2 := s1.releaseClaims (fun c => decide (c.applet = k.applet) && (decide (c.cls = 1 ∧ c.resource = k.head) || (decide (c.cls = 2) && k.keys.contains c.resource)))
    let s3 := s2.each k.keys (fun t x => t.modKey x (fun w => { w with silent := true }))
    let s4 := (s3.setReg 0x2302 1 0).setReg 0x2302 2 0xFF
    (s4.each ((k.keys.map keyDie).eraseDups) (fun t d => t.keyUptake d)).entryEvent k reason

/-- A key's reflex sprite on a head lies wholly inside a region (R258): the sprite its action word names on that head. -/
def State.keySpriteInside (s : State) (k h r : Nat) : Bool :=
  let w := s.actionWord k
  let sp := bits w 30 24
  let i := 0x4300 + r
  let g := 0x4100 + sp
  if (bits w 33 31 = 0 ∧ bits w 36 34 = 0) ∨ sp / 8 ≠ h then true
  else
    let x := s.regI g 5
    let y := s.regI g 6
    decide ((s.use i 2 : Int) ≤ x ∧ (s.use i 3 : Int) ≤ y ∧ x + s.reg g 3 ≤ s.use i 2 + s.use i 4 ∧ y + s.reg g 4 ≤ s.use i 3 + s.use i 5)

/-- The monitor's keypad service judges a request (R258). Where a RANGE case and a refusal by a claim both hold, RANGE comes first, and a head, region
or key beyond the part is RANGE: the rule gives neither (DESIGN CHOICE, log entry 178). -/
def State.keypadStatus (s : State) (k : KeypadRequest) : Nat :=
  let r := 8 * k.head + k.region
  if 2 * s.dies ≤ k.head ∨ 8 ≤ k.region ∨ k.keys.any (fun x => decide (64 * s.dies ≤ x)) then Status.range
  else if k.keys.any (fun x => !s.keySpriteInside x k.head r) ∨ s.reg (0x4300 + r) 0x13 = 0 ∨ s.worlds.entry.isSome then Status.range
  else s.claimStatus k.applet ((1, k.head) :: k.keys.map (fun x => (2, x)))

/-! ### Applets lost (R254, R259) -/

/-- The secure DRAM granules of an applet (R247; where the monitor takes them is Config's). -/
def State.appletGranules (s : State) (a : Nat) (x : Applet) : List Nat :=
  (s.dieList.filter (fun d => bit x.dieMask d)).flatMap (fun d => (List.range (x.dramBytes / 4096)).map (Config.appletGranule a d))

/-- The secure SRAM granules of an applet on a die: below the monitor's, in ascending applet_id (R244, log entry 150). -/
def State.appletSram (s : State) (a : Nat) (x : Applet) (d : Nat) : List Nat :=
  let below := ((s.worlds.applets.filter (fun e => decide (e.1 < a) && bit e.2.dieMask d)).map (fun e => e.2.sramBytes / 4096)).sum
  (List.range (x.sramBytes / 4096)).map (fun k => sramGranule d (8 + below + k))

/-- Every secure granule of an applet, in SRAM and in DRAM. -/
def State.appletMemory (s : State) (a : Nat) (x : Applet) : List Nat :=
  (s.dieList.filter (fun d => bit x.dieMask d)).flatMap (s.appletSram a x) ++ s.appletGranules a x

/-- An applet faults (R254): FAULTED, its granules zeroised, its claims released, its secure entry ended with reason 3. -/
def State.faultApplet (s : State) (a : Nat) : State :=
  let gone := match s.applet? a with | none => [] | some x => s.appletMemory a x
  let s0 : State := { s with mem := gone.foldl (fun (m : Memory) g => m.clear (4096 * g) 4096) s.mem }
  let s1 := s0.modApplet a (fun x => { x with faulted := true, suspended := none, resumes := 0, program := [] })
  let s2 := if (s1.worlds.entry.map (·.applet)) = some a then s1.endSecureEntry 3 else s1
  s2.releaseClaims (fun c => decide (c.applet = a))

/-! ### Exceptions of a core (R242, R247, R251, R254) -/

/-- An applet executes on a core, or a secure interrupt has suspended it there (R253). -/
def CpuCore.inApplet (x : CpuCore) : Bool := decide (x.mode = .user ∨ x.irqFrom = some (.secure, .user))

/-- A call ends with a result, and the monitor has the core. -/
def State.endCall (s : State) (c : Nat) (r : ServiceResult) : State :=
  s.modCpu c (fun x => { x with mode := .machine, result := some r, irqFrom := none })

/-- Cause of an illegal-instruction exception (RISC-V, PRESUMED: log entry 149). -/
def causeIllegal : Nat := 2
/-- Cause of a store access fault (RISC-V, PRESUMED: log entry 149). -/
def causeStoreAccess : Nat := 7
/-- Cause of a load access fault (RISC-V, PRESUMED: log entry 149). -/
def causeLoadAccess : Nat := 5

end Sys2Proof.Machine
end

