-- ==== Sys2Proof/Machine/HealthOps.lean ====
section
/-! DEFINITION. Failures (R676 to R697): a Core, a Shell or an item out of service, head lending, trunk succession and FAILED. -/
namespace Sys2Proof.Machine

/-- BOOT_HALT with a code of R102; SVC_REQ_N low for the codes marked so; MSI-X vector 0 (R90). -/
def State.bootHalt (s : State) (code : Nat) (svc : Bool) : State :=
  let s1 := if svc then s.driveSvc else s
  let s2 := s1.each (s1.dieList.drop 1) (fun t d => if t.reg (0x2008 + d) 2 = 3 then t else t.setReg (0x2008 + d) 2 1)
  (({ s2 with mcan := { s2.mcan with serving := false, sessions := [] } } : State).setReg 0x2100 1 0xFF |>.setReg 0x2100 2 code).sendVector 0 0

/-! ### Head lending (R687 to R690) -/

/-- Instances I1 to I31 that hold a resource of die d. -/
def State.dieHolders (s : State) (d : Nat) : List Nat :=
  let any := fun (i sub a n : Nat) => (List.range n).any (fun k => s.assigned i sub (a + k))
  ((List.range 31).map (· + 1)).filter (fun i =>
    any i 6 (2 * d) 2 || any i 7 (32 * d) 32 || any i 8 (16 * d) 16 || any i 0xA (64 * d) 64 || any i 0xB (2 * d) 2 ||
    any i 0xD (8 * d) 8 || any i 0xE (256 * d) 256 || any i 0x10 (8 * d) 8 || any i 0x10 (64 + 2 * d) 2)

/-- A LENDING event, for I0 and each holder of a resource of the die (R698). -/
def State.lendingEvent (s : State) (d reason lender : Nat) : State :=
  (0 :: s.dieHolders d).foldl (fun (t : State) i => t.event i 0x009A d Status.ok d reason lender) s

/-- The dies in the order of R687 for die f of n. -/
def lenderOrder (f n : Nat) : List Nat :=
  Nat.xor f 1 :: (List.range n).flatMap (fun k => [(f + k + 1) % n, (f + n * (k + 1) - (k + 1)) % n])

/-- The lender of R687: ACTIVE, in no slot, serving no borrowed heads. -/
def State.lenderFor (s : State) (f : Nat) : Option Nat :=
  (lenderOrder f s.dies).find? (fun d => decide (d < s.dies ∧ d ≠ f) && s.coreActive d &&
    s.dieList.all (fun g => decide (g = f ∨ s.reg (0x2708 + g) 3 ≠ d)))

/-- Head lending starts for die f (R687): LENDING, and the regions of its heads choose a guard and re-verify (R402, R415). -/
def State.startLending (s : State) (f : Nat) : State :=
  match s.lenderFor f with
  | none =>
    let s1 : State := { s.setReg (0x2708 + f) 3 0xFF with health := { s.health with lending := Tab.put s.health.lending f 2 } }
    (s1.lendingEvent f 3 0xFF).stopUnserved
  | some l =>
    let s1 : State := { s.setReg (0x2708 + f) 3 l with health := { s.health with lending := Tab.put s.health.lending f 0 } }
    let s2 := s1.lendingEvent f 1 l
    (s2.reverify (2 * f)).reverify (2 * f + 1)

/-- The blocks of a die lose the Core that served them: its own, or its lender's (R447, R504, R589, R605, R688). -/
def State.unservedBlocks (s : State) (f : Nat) : State :=
  let s1 := (s.hapCoreFailed f).lanesCoreFailed f
  s1.each [2 * f, 2 * f + 1] (fun t h =>
    (t.discardPending h (fun _ => true) Status.aborted).modComp h (fun c => { c with
      frameNumber := max c.frameNumber c.decidedFrame, nextBand := t.bandCount h, slots := c.slots.filter (·.complete) }))

/-- A write group stays committed and ends DEGRADED when a die fails after it has prepared; so does a ring (R135, R187). -/
def State.degradeGroups (s : State) (d : Nat) : State :=
  { s with
    dir := { s.dir with running := s.dir.running.map (fun g =>
      if !g.waiting.contains d ∧ g.dies.contains d then { g with degraded := true } else g) }
    ringWork := s.ringWork.map (fun r => { r with degraded := true }) }

/-! ### FAILED (R696, R697) -/

/-- Every block stops without an event (R697). -/
def State.haltBlocks (s : State) : State :=
  let s1 := s.lanesHalt
  let s2 := s1.each (List.range (64 * s.dies)) (fun t k => if t.keyState k = 4 then t.setKeyState k 3 else t)
  { s2 with
    heads := s2.heads.map (fun e => (e.1, { e.2 with
      pending := [], checked := [], running := false, startPending := false, link := none, idlePattern := false, lit := false }))
    compose := s2.compose.map (fun e => (e.1, { e.2 with slots := [] }))
    gfx := {}, streams := [], survey := {}
    haptics := s2.haptics.map (fun e => (e.1, { e.2 with hen := false, running := none, held := none, play := none, ready := none }))
    reflex := {}
    audio := { s2.audio with streams := [], sent := [] }
    lanes := { s2.lanes with sent := s2.lanes.sent }
    dir := {}, ringWork := none, shed := {}
    power := { s2.power with target := 0, delayUntil := none, offNotice := none, exitSource := 0, deepAfter := none }
    mcan := { s2.mcan with heartbeatDue := none, repeatDue := none, sessions := [] }
    health := { s2.health with stopped := true, slot := none, succession := false } }

/-- The device enters FAILED (R684, R697). With D0's Shell lost neither MCAN nor the host is reached. -/
def State.enterFailed (s : State) (c die cls resource : Nat) : State :=
  if s.healthState = 2 ∨ !s.operational then s
  else
    let first := s.healthState = 0
    let s1 := (s.setReg 0x2700 1 2).setReg 0x2700 2 (setBit (s.reg 0x2700 2) c true)
    let s2 := if first then (s1.setReg 0x2700 3 c).setReg 0x2700 4 s.now else s1
    let s3 : State := { s2.driveSvc.errorBit 7 with health := { s2.health with succession := false } }
    let reach := s3.shellUp 0
    let s4 := if reach then
        let a := s3.raiseEmcy 0xFF02 Status.hwFault die cls resource
        let b := a.eventAll 0x0098 die Status.hwFault die c (2 + 256 * cls + 65536 * resource)
        { b with out := { b.out with aer := b.out.aer ++ [(0, .uncorrectableInternal)] } }
      else s3
    s4.haltBlocks

/-! ### A Core fails (R682 to R695) -/

/-- EMCY 0x5000 for an item taken out of service when the replacement request has been made already (R684, R685). -/
def State.emcyLost (s : State) (requested : Bool) (die cls resource : Nat) : State :=
  if requested then s.raiseEmcy 0x5000 Status.hwFault die cls resource else s

/-- Every head's guard is chosen anew (R402). -/
def State.chooseGuards (s : State) : State := s.each (List.range (2 * s.dies)) (fun t h => t.chooseGuard h)

/-- The Core of a die is FAILED, by a cause of R683; `report` says whether the cause is reported here. -/
def State.coreFailed (s : State) (d c : Nat) (report : Bool) : State :=
  if s.reg (0x2008 + d) 2 = 3 then s
  else
    let requested := decide (s.healthState = 1)
    let s1 := (((s.setReg (0x2008 + d) 2 3).setReg (0x2708 + d) 1 c).setReg (0x2708 + d) 4 s.now).inc 0x2700 7
    let s2 := (((s1.gfxCoreFailed d).streamsCoreFailed d).unservedBlocks d).degradeGroups d
    let onDie := fun (k : KeypadRequest) => decide (k.head / 2 = d)
    let s3 := if (s2.worlds.entry.map onDie).getD false then s2.endSecureEntry 3 else s2
    let s4 := if report then (s3.cause c d 1 d).emcyLost requested d 1 d else s3
    if !s.operational then s4
    else if d = s.trunk then
      if d = 0 ∧ s4.coreActive 1 then
        let s4a := s4.chooseGuards
        let s5 : State := { s4a with health := { s4a.health with succession := true } }
        { s5 with dir := { s5.dir with running := s5.dir.running.map (fun g => if g.commitT = none ∧ g.failWith = 0 then { g with failWith := Status.aborted } else g) } }
      else s4.enterFailed c d 1 d
    else
      let borrowed := s4.dieList.filter (fun f => decide (s4.reg (0x2708 + f) 3 = d))
      let s5 := s4.each borrowed (fun t f => (t.unservedBlocks f).startLending f)
      let s6 := if s5.reg (0x2008 + d) 3 = 3 then s5 else s5.startLending d
      s6.chooseGuards

/-! ### A Shell fails (R695) -/

/-- The commits of a head out of service end HW_FAULT, and none latched and not yet shown writes a FLIP (R325, R329). -/
def State.commitsLost (s : State) (h : Nat) : State :=
  (s.discardPending h (fun _ => true) Status.hwFault).modHead h (fun x => { x with toShow := [] })

/-- A head out of service (R325, R677): its commits end HW_FAULT, its COMMIT queues stop, its outputs go to their reset state. -/
def State.headLost (s : State) (h : Nat) : State :=
  let s1 := (s.commitsLost h).stopTargeting 2 h Status.hwFault
  (s1.stopGenerator h).modHead h (fun x => { x with link := none, idlePattern := false, lit := false, connected := false })

/-- The keys of a die go out of service: PRESSED ones release with RELEASE_FAULT. -/
def State.keysLost (s : State) (d : Nat) : State := s.each (s.keysOn d) (fun t k => t.releaseKey k 7 true)

/-- The stack of a die is lost: every instance with a page mapped there faults and loses those pages (R695, R735). -/
def State.stackLost (s : State) (d : Nat) : State :=
  let s1 := s.each (List.range 32) (fun t i =>
    let gone := (t.inst i).mapped.filter (fun p => decide (Tab.getD (t.inst i).pageDies p 0 = d))
    if gone = [] then t
    else
      let t1 := (t.faultInstance i Status.hwFault).modInst i (fun x => { x with mapped := x.mapped.filter (fun p => !gone.contains p),
                                                                                pageDies := x.pageDies.filter (fun e => !gone.contains e.1) })
      { t1 with imem := gone.foldl (fun (m : Memory) p => m.clear (idaKey i (65536 * p)) 65536) t1.imem })
  { s1 with mem := s1.mem.clear (0x1000000000 + d * 0x80000000) 0x80000000 }

/-- The Shell of a die is FAILED (R695, R696), by a cause of R683. -/
def State.shellFailed (s : State) (d c cls : Nat) (report : Bool) : State :=
  if s.reg (0x2008 + d) 3 = 3 then s
  else
    let requested := decide (s.healthState = 1)
    let s1 := ((s.setReg (0x2008 + d) 3 3).setReg (0x2708 + d) 2 c).inc 0x2700 7
    let s2 := if s1.reg (0x2008 + d) 2 = 3 then s1 else s1.setReg (0x2708 + d) 4 s.now
    let s3 := if report then (s2.cause c d cls d).emcyLost requested d cls d else s2
    let s4 : State := { s3 with health := { s3.health with lending := Tab.put s3.health.lending d 2 } }
    if d = 0 ∨ d = s.trunk then
      if s.operational then (s4.setReg (0x2008 + d) 2 3).enterFailed c d cls d else (s4.setReg (0x2008 + d) 2 3)
    else
      let s5 := (((s4.commitsLost (2 * d)).commitsLost (2 * d + 1)).coreFailed d c false).setReg (0x2708 + d) 3 0xFF
      let s6 := ((((s5.headLost (2 * d)).headLost (2 * d + 1)).keysLost d).lanesShellFailed d).hapBusLost d
      ((s6.audioShellFailed d).stackLost d).stopUnserved

/-- Training patterns or a march test leave the top 1 MiB of a die's stack with bytes that the manual does not state (R100, R676). -/
def State.stackTop (s : State) (d : Nat) : State :=
  ({ s with mem := s.mem.writeBytes (stackBase d + 0x7FF00000) ((Config.freeBytes s.free).take 0x100000) } : State).useFree

/-- What a self-test slot leaves of the memories of die d: the secret clearing of R678 zeroises its secure SRAM, and the march tests of R676 then
write the whole management SRAM and the top 1 MiB of the stack, with bytes that the manual does not state. -/
def State.slotMemory (s : State) (d : Nat) : State :=
  (({ s with mem := s.mem.writeBytes (sramBase d) ((Config.freeBytes s.free).take 0x80000) } : State).useFree).stackTop d

/-! ### Self-test outcomes (R676, R677, R685, R702) -/

/-- An item of R685. -/
inductive LostItem where
  | core | shell | head (unit : Nat) | lanes | survey | electrodes | tdm
deriving DecidableEq, Repr

/-- Bit of an item in `lost_items` (R702). -/
def LostItem.bit : LostItem → Nat
  | .core => 0 | .shell => 1 | .head u => 2 + u | .lanes => 4 | .survey => 5 | .electrodes => 6 | .tdm => 7

/-- EMCY class and resource of an item of die d (R685). -/
def LostItem.place (d : Nat) : LostItem → Nat × Nat
  | .core => (1, d) | .shell => (2, d) | .head u => (4, 2 * d + u) | .lanes => (5, 0xFFFF) | .survey => (0xB, d)
  | .electrodes => (8, 0xFFFF) | .tdm => (9, d)

/-- The item a failing internal check takes out of service (R676). -/
def checkItem (r : SlotResult) (code : Nat) : Option LostItem :=
  if code = 0 then some .core
  else if code = 1 ∨ code = 3 then some .shell
  else if code = 2 then some (match r.lineBuffer with | none => .core | some u => .head (u % 2))
  else if code = 4 then some (match r.pll with | .corePll => .core | .headPll u => .head (u % 2) | .lanePll => .lanes)
  else if code = 5 then some .survey
  else if code = 6 then some (.head 0)
  else if code = 7 then some (.head 1)
  else if code = 8 then some .electrodes
  else if code = 9 then some .tdm
  else none

/-- The items a slot takes out of service, in ascending check code; with a failed Shell its resources go with it (R685). -/
def slotItems (r : SlotResult) : List LostItem :=
  let all := (((List.range 10).filter (fun c => Machine.bit r.failed c)).filterMap (checkItem r)).eraseDups
  if all.contains .shell then all.filter (fun x => decide (x = .core ∨ x = .shell)) else all

/-- One item of die d goes out of service. -/
def State.loseItem (s : State) (d : Nat) (x : LostItem) : State :=
  let m := Tab.getD s.health.lostClasses d 0
  let mark : State := { s with health := { s.health with lostClasses := Tab.put s.health.lostClasses d (setBit m x.bit true) } }
  match x with
  | .core => s.coreFailed d 1 false
  | .shell => s.shellFailed d 1 2 false
  | .head u => (mark.headLost (2 * d + u)).inc 0x2700 7
  | .lanes => (mark.lanesShellFailed d).inc 0x2700 7
  | .survey => mark.inc 0x2700 7
  | .electrodes => (mark.keysLost d).inc 0x2700 7
  | .tdm => (mark.audioShellFailed d).inc 0x2700 7

/-- The internal checks of a slot (R676). -/
def internalFailed (r : SlotResult) : Nat := r.failed % 1024

/-- The items of a slot are taken out of service and reported: one replacement request for the lowest code, EMCY 0x5000 for the
others (R684, R685). -/
def State.slotOutcome (s : State) (d : Nat) (r : SlotResult) : State :=
  match slotItems r with
  | [] => s
  | x :: xs =>
    let requested := decide (s.healthState = 1)
    let s1 := (x :: xs).foldl (fun (t : State) y => t.loseItem d y) s
    let p := x.place d
    let s2 := (s1.cause 1 d p.1 p.2).emcyLost requested d p.1 p.2
    (xs.foldl (fun (t : State) y => t.emcyLost true d (y.place d).1 (y.place d).2) s2).stopUnserved

end Sys2Proof.Machine
end

