-- ==== Sys2Proof/Machine/Fabric.lean ====
section
/-! DEFINITION. The die-to-die fabric at work and device time (R23, R24, R38 to R43): links that go down, dies cut off, beacons and PTM. -/
namespace Sys2Proof.Machine

/-- The fabric is trained: from the end of R95's training on, outside BOOT_HALT. -/
def State.fabricUp (s : State) : Bool := decide (4 ≤ s.bootState ∧ s.bootState ≤ 8) && !s.health.stopped

/-- Two or more links are down (R24). -/
def State.linksDown (s : State) : Bool := decide (2 ≤ (s.part.links.filter (fun x => s.linkCode x = 1)).length)

/-- The health cause FABRIC (R24, R683); the manual does not number the links, so its resource is a free value. -/
def State.fabricCause (s : State) : State :=
  if s.linksDown then (s.cause 6 0xFF 3 (Config.freeNat s.free % 65536)).useFree else s

/-- Dies that can no longer be reached are treated as dies whose Core and Shell have failed (R24); in DISTRIBUTING the ROM waits for them
no longer. -/
def State.cutOff (s : State) : State :=
  if !s.fabricUp then s
  else
    let s1 := s.each (s.dieList.filter (fun d => s.shellUp d && !s.reached d)) (fun t d => if t.shellUp d then t.shellFailed d 5 1 true else t)
    ({ s1 with boot := { s1.boot with awaitingReady := s1.boot.awaitingReady.filter (fun d => s1.shellUp d) } } : State).installRoutes

/-- Link-level retries counted on dies (0x2008+d.05): how many is a free value for each (log entry 110). -/
def State.countRetries (s : State) (ds : List Nat) : State :=
  s.each (ds.filter (fun d => decide (d < s.dies))) (fun t d => (t.count (0x2008 + d) 5 (Config.freeNat t.free)).useFree)

/-- LINK_DOWN_DECLARED (R23, R24): the link that the pair names is down, from fabric training on. Its two dies count the retries of the
transactions it held, and two or more links down raise the cause FABRIC. -/
def execLinkDownDeclared (a b : Nat) (s : State) : Host.Outcome State Fault Refusal :=
  let key := s.part.linkNamed a b
  if !s.fabricUp ∨ !s.part.links.contains key ∨ s.linkCode key ≤ 1 then .next s
  else
    let s1 := ({ s with fabric := { s.fabric with links := Tab.put s.fabric.links key 1 } } : State).showLinks.countRetries [a, b]
    let s2 := s1.fabricCause.cutOff
    .next (if !s2.operational ∧ (!s2.shellUp 0 ∨ !s2.shellUp s2.trunk) then s2.bootHalt 0x0301 true else s2)

/-! ### Device time (R38 to R41) -/

/-- How much of a correction n ticks have made (R39): an increment of 3 or 5 ns in place of 4 moves the count by 1 ns a tick. -/
def slewed (c : Int) (n : Nat) : Int := max (-(n : Int)) (min (n : Int) c)

/-- How far a counter stands from the trunk's at a device time. -/
def Slew.skewAt (x : Slew) (t : Nat) : Int := x.skew + slewed x.correction ((t - x.since) / 4)
/-- Where slewing will have brought it. -/
def Slew.goal (x : Slew) : Int := x.skew + x.correction

/-- The slewing of die d's counter (R39); the trunk's is the reference. -/
def State.slewOf (s : State) (d : Nat) : Slew := if d = s.trunk then {} else Tab.getD s.fabric.slews d {}
/-- How far die d's counter stands from the trunk's (R39). -/
def State.skewOf (s : State) (d : Nat) : Int := (s.slewOf d).skewAt s.now

/-- Device time as die d's counter shows it (R38, R39). -/
def State.dieTime (s : State) (d : Nat) : Int := s.now + s.skewOf d

/-- Once aligned, a counter lies within 8 ns of every other (R39): the goal nearest to e that stays so while both slew. -/
def State.heldGoal (s : State) (d : Nat) (e : Int) : Int :=
  if !s.fabric.aligned then e
  else (s.dieList.filter (fun x => decide (x ≠ d))).foldl (fun v x =>
    max (max (s.skewOf x) (s.slewOf x).goal - 8) (min (min (s.skewOf x) (s.slewOf x).goal + 8) v)) e

/-- A beacon finds die d's counter e ns off (R39): `skew_max_ns` records it, and from its present count slewing takes the error away. -/
def State.beaconFinds (s : State) (d : Nat) (e : Int) : State :=
  let k := s.skewOf d
  ({ s with fabric := { s.fabric with slews := Tab.put s.fabric.slews d { since := s.now, skew := k, correction := s.heldGoal d (k - e) - k } } } :
    State).raise 0x2010 6 (min 65535 e.natAbs)

/-- When the next beacon is due (R39): at once, or 1 ms after the last. -/
def State.beaconDue (s : State) : Nat := match s.fabric.beaconLast with
  | none => s.now
  | some t => t + ms 1

/-- TIME_BEACON (R39), one every 1 ms: each member measures its error, in ns by die, within the 8 ns that counters differ by once aligned; the
count is corrected by slewing and never stepped. Every die shows the retries its links have had. -/
def execTimeBeacon (errors : List (Nat × Int)) (s : State) : Host.Outcome State Fault Refusal :=
  if !s.timeRuns then .next s
  else
    let s0 := s.arriveAt s.beaconDue
    let s1 : State := { s0 with fabric := { s0.fabric with beaconLast := some s0.now } }
    let es := errors.filter (fun e => decide (e.1 < s.dies ∧ e.1 ≠ s.trunk) && s.shellUp e.1)
    let s2 := es.foldl (fun (t : State) e => t.beaconFinds e.1 (if t.fabric.aligned then max (-8) (min 8 e.2) else e.2)) s1
    .next (s2.countRetries s2.dieList)

/-- When a PTM exchange is next due (R41): at once, or `ptm_interval_ms` after the last. -/
def State.ptmDue (s : State) : Nat :=
  match s.fabric.ptmLast with
  | none => s.now
  | some t => t + ms (s.cfg 0x2010 3)

/-- PTM_EXCHANGE (R41): while `ptm_enable` is true the pair of an exchange is recorded, one exchange an interval. The command is the
exchange's midpoint (log entry 111), and the time recorded lies within 16 ns of device time there. -/
def execPtmExchange (master midpoint : Nat) (s : State) : Host.Outcome State Fault Refusal :=
  if s.serving ∧ s.cfg 0x2010 2 = 1 then
    let s1 := s.arriveAt s.ptmDue
    let m := max (s1.now - 16) (min (s1.now + 16) midpoint)
    .next ((({ s1 with fabric := { s1.fabric with ptmLast := some s1.now } } : State).setReg 0x2010 4 m).setReg 0x2010 5 (master % 2 ^ 64))
  else .next s

end Sys2Proof.Machine
end

