-- ==== Sys2Proof/Machine/Keys.lean ====
section
/-! DEFINITION. The commands of the key engines (R459 to R477). -/
namespace Sys2Proof.Machine

/-- The start of the next scan cycle of a die at or after a time (R460). -/
def State.cycleStart (s : State) (d t : Nat) : Nat :=
  let o := 1000 * s.use (0x6100 + d) 2 % 200000
  (t + 200000 - o + 199999) / 200000 * 200000 + o - 200000

/-- SCAN_CYCLE (R460, R478): a cycle starts at its device time; ring entries are taken up; a disabled engine does not scan. -/
def execScanCycle (die : Nat) (s : State) : Host.Outcome State Fault Refusal :=
  if !s.serving || decide (s.reg 0x2400 3 = 2) || !s.shellUp die || !s.keyServed die || (s.kdie die).cycle.isSome then .next s
  else
    let s0 := s.each ((List.range 64).map (64 * die + ·)) (fun t k =>
      if (t.keyw k).oldHolder.isSome then (t.releaseKey k 4 true).modKey k (fun x => { x with oldHolder := none }) else t)
    let s1 := s0.keyUptake die
    if s1.use (0x6100 + die) 1 ≠ 1 then .next s1
    else
      let from0 := match (s.kdie die).lastStart with
        | none => s.now
        | some l => max s.now (l + 200000)
      let t := s1.cycleStart die from0
      let s2 := (s1.arriveAt t).inc (0x6100 + die) 0xD
      .next (s2.modKdie die (fun g => { g with
        cycle := some t, lastStart := some t, nextPhase := 0,
        quiet := g.quiet.filter (fun q => decide ((t : Int) * q.2.2 ≤ q.2.1)) }))

/-- The burst counts of an electrode; zeros where none is given. -/
def burstCounts (bs : List BurstReading) (e : Nat) : List Nat :=
  match bs.find? (fun b => b.electrode = e) with
  | none => []
  | some b => b.counts

/-- SELF_FRAME_DONE (R459, R461): the self readings of the cycle. -/
def execSelfFrameDone (die : Nat) (bursts : List BurstReading) (s : State) : Host.Outcome State Fault Refusal :=
  match (s.kdie die).cycle with
  | none => .next s
  | some t =>
    if (s.kdie die).nextPhase ≠ 0 then .next s
    else
      let s1 := s.arriveAt (t + 40000)
      .next (s1.each (s1.electrodes die 1 ++ s1.electrodes die 2) (fun u e =>
        let counts := burstCounts bursts e
        let r := u.readingOf die (t + 8000) 64 counts true
        let u1 := u.modElec e (fun x => { x with reading := r })
        match r with
        | none => u1.inc (0x6100 + die) 0xE
        | some v =>
          let u2 := (u1.setReg (0x6000 + e) 3 v).useFree
          let x := u2.elec e
          if !x.capturing then u2
          else if x.capCount + 1 < 16 then u2.modElec e (fun x => { x with capSum := x.capSum + v, capCount := x.capCount + 1 })
          else
            let b := nearest (x.capSum + v) 16 (Config.freeBool u2.free)
            (((u2.setReg (0x6000 + e) 4 b).modElec e (fun x => { x with capturing := false, capSum := 0, capCount := 0, drift := 0 })).setReg
              (0x6000 + e) 5 2).useFree))

/-- The moment of the decisions of a phase: within 4 µs of the end of its window, within 6 µs under head lending (R468, R481); the
delay is a free value (log entry 3). -/
def State.decideTime (s : State) (die ending : Nat) : State :=
  (s.arriveAt (ending + Config.freeNat s.free % ((if s.coreActive die then us 4 else us 6) + 1))).useFree

/-- MUTUAL_PHASE_DONE (R457, R459, R466 to R474): the window of the next phase ends; the keys of its nodes are evaluated in
ascending order, and after the last phase baselines, saturation and water. -/
def execMutualPhaseDone (die : Nat) (bursts : List BurstReading) (s : State) : Host.Outcome State Fault Refusal :=
  match (s.kdie die).cycle with
  | none => .next s
  | some t =>
    let p := (s.kdie die).nextPhase
    let ending := t + 60000 + 20000 * p
    let s1 := s.arriveAt ending
    let dry := decide (s.reg (0x6100 + die) 0xB = 0)
    let tx := (s1.electrodes die 1)[p]?
    let s2 := match tx with
      | none => s1
      | some e =>
        let rx := s1.electrodes die 2
        let read (g : Nat) : Option Nat :=
          s1.readingOf die (t + 44000 + 20000 * p) 32 (burstCounts bursts g) true
        let bad := (rx.filter (fun g => (read g).isNone)).length
        let ks := (s1.keysOn die).filter (fun k => decide (s1.keyTx k = e))
        (((s1.count (0x6100 + die) 0xE bad).decideTime die ending).each ks (fun u k => u.evaluateKey k (read (s1.keyRx k)) ending dry)).useFree
    if p < 7 then .next (s2.modKdie die (fun g => { g with nextPhase := p + 1 }))
    else
      let es := s2.electrodes die 1 ++ s2.electrodes die 2
      let s3 := (s2.each (s2.keysOn die) (fun u k => u.driftKey k dry)).each es (fun u e => u.driftElec e dry)
      let s4 := (s3.each es (fun u e => u.saturationStep e)).waterStep die
      .next (s4.modKdie die (fun g => { g with cycle := none, nextPhase := 0 }))

/-- WAKE_SCAN (R477): in SLEEP the wake key of a die is scanned every 100 ms; a candidate raises the key wake. -/
def execWakeScan (die : Nat) (selfBursts mutualBursts : List Nat) (s : State) : Host.Outcome State Fault Refusal :=
  if s.powerState ≠ 2 ∨ s.use (0x6100 + die) 1 ≠ 1 then .next s
  else match (s.keysOn die).find? (fun k => decide (s.keyCfg k 0xF = 1)), (s.kdie die).wakeDue with
    | some k, some due =>
      let s1 := (s.arriveAt due).modKdie die (fun g => { g with wakeDue := some (due + ms 100) })
      let e := s1.keySelf k
      let v := (s1.readingOf die 0 64 selfBursts false).getD 0
      let m := (s1.readingOf die 0 32 mutualBursts false).getD 0
      let d := s1.deltas k m v
      let s2 := (((s1.setReg (0x6000 + e) 3 v).setReg (0x6200 + k) 0x11 m).modElec e (fun x => { x with reading := some v })).modKey k
        (fun x => { x with node := some m })
      let s3 := ((s2.driftKey k (decide (s.reg (0x6100 + die) 0xB = 0))).driftElec e (decide (s.reg (0x6100 + die) 0xB = 0))).useFree
      let cand := decide ((s.keyCfg k 5 : Int) ≤ d.1) && (decide (s.keyCfg k 7 = 0) || decide ((s.keyCfg k 7 : Int) ≤ d.2))
      .next (if cand then s3.wakeFrom 3 else s3)
    | _, _ => .next s

end Sys2Proof.Machine
end

