-- ==== Sys2Proof/Machine/Lanes.lean ====
section
/-! DEFINITION. The lane commands (R563 to R599): the scheduler, received frames, timeouts, queue entries and groups. -/
namespace Sys2Proof.Machine

/-! ### The scheduler (R580) -/

/-- A request of an instance that is frozen or being frozen: it waits for the THAW (R229). -/
def State.heldBack (s : State) (r : LaneRequest) : Bool :=
  match r.origin with
  | .entry i _ _ _ _ => s.isShed i
  | _ => false

/-- The first queued request whose partner is ONLINE and whose instance is not frozen; those of partners not ONLINE before it end ABORTED
(R584). -/
def State.laneTakeQueue (s : State) (n : Nat) : List (Nat × LaneRequest) → Option (Nat × LaneRequest) × State
  | [] => (none, s.modLane n (fun w => { w with queue := [] }))
  | e :: es =>
    if s.heldBack e.2 then
      let r := s.laneTakeQueue n es
      (r.1, r.2.modLane n (fun w => { w with queue := e :: w.queue }))
    else if s.partnerState e.1 = 2 then (some e, s.modLane n (fun w => { w with queue := es }))
    else (s.endLaneEntry e.2.origin Status.aborted).laneTakeQueue n es

/-- The first pending group target whose partner is ONLINE; those before it take NOT_ONLINE (R586). -/
def State.laneTakeGroup (s : State) (n : Nat) : List (Nat × Nat) → Option (Nat × Nat) × State
  | [] => (none, s.modLane n (fun w => { w with groups := [] }))
  | e :: es =>
    if s.partnerState e.2 = 2 then (some e, s.modLane n (fun w => { w with groups := es }))
    else (s.groupTarget e.1 e.2 6).laneTakeGroup n es

/-- Due partners: the one with the smallest (next_due, node). -/
def State.duePartner (s : State) (n : Nat) : Option Nat :=
  (partnersOf n).foldl (fun (b : Option Nat) p =>
    if s.pollPeriod p = 0 ∨ s.now < (s.partner p).nextDue then b
    else match b with
      | none => some p
      | some q => if (s.partner p).nextDue < (s.partner q).nextDue then some p else b) none

/-- Send a POLL and move its next_due past now; whole periods passed are missed polls. -/
def State.pollPartner (s : State) (n p : Nat) : State :=
  let per := us (s.pollPeriod p)
  let due := (s.partner p).nextDue
  let missed := (s.now - due) / per
  let s1 := (s.modPartner p (fun x => { x with nextDue := due + per * (missed + 1) })).count (0x7000 + n) 0xF missed
  s1.laneBegin n p .poll

/-- The choice of R580 on a free lane. -/
def State.laneChoose (s : State) (n : Nat) : State :=
  match (s.lane n).acks with
  | (p, q) :: rest => (s.modLane n (fun w => { w with acks := rest })).laneSend n p (.eventAck q) 0
  | [] =>
    let g := s.laneTakeGroup n (s.lane n).groups
    match g.1 with
    | some (slot, p) => g.2.laneCommandTo n p (g.2.reg (0x7900 + slot) 2) (g.2.regBytes (0x7900 + slot) 3) (.group slot)
    | none =>
      let r := g.2.laneTakeQueue n (g.2.lane n).queue
      match r.1 with
      | some (p, .command _ o v orig) => r.2.laneCommandTo n p o v orig
      | some (p, req) => r.2.laneBegin n p req
      | none =>
        let t := r.2
        match (partnersOf n).find? (fun p => (t.partner p).fetch && decide (t.partnerState p = 2)) with
        | some p => (t.modPartner p (fun x => { x with fetch := false })).laneBegin n p .fetch
        | none => match t.duePartner n with
          | some p => t.pollPartner n p
          | none => match (partnersOf n).find? (fun p => decide (t.partnerState p = 1)) with
            | some p => t.laneBegin n p (.discover (t.partner p).page)
            | none => t

/-- LANE_SCHEDULE (R578 to R580, R589): the lane is free with its gap served; the next attempt or the next request goes out. -/
def execLaneSchedule (lane : Nat) (s : State) : Host.Outcome State Fault Refusal :=
  if !s.serving ∨ s.laneCount ≤ lane then .next s
  else match (s.lane lane).current with
    | some t =>
      if !t.resend ∨ !s.laneRuns lane ∨ s.laneState lane = 3 then .next s
      else .next ((s.arriveAt (s.lane lane).freeAt).laneSend lane t.partner t.request t.left)
    | none =>
      let s1 := if s.laneChanged lane then s.laneUptake lane else s
      if !s1.laneRuns lane ∨ s1.laneState lane = 3 ∨ (s1.lane lane).stopped then .next s1
      else .next ((s1.arriveAt (s1.lane lane).freeAt).laneChoose lane)

/-! ### Received frames (R573, R582, R584, R597 to R599) -/

/-- A frame fails its check: it is counted, and a CRC event is written at most once per 10 ms (R597, R604). -/
def State.crcDiscard (s : State) (n : Nat) : State :=
  let i := 0x7A00 + n
  let s1 := (s.inc i 8).setReg i 0xD s.now
  if s.use i 0xC = 0 then s1
  else
    let w := s.lane n
    let k := w.crcCount + 1
    let free : Bool := match w.crcAt with | none => true | some t => decide (t + ms 10 ≤ s.now)
    if free then (s1.modLane n (fun x => { x with crcCount := 0, crcAt := some s.now })).event (s.unitHolder n) 0x0070 n Status.ok (n / 8) 1 k
    else s1.modLane n (fun x => { x with crcCount := k })

/-- The payload of a partner's frame matches its type (R573, R574). -/
def State.payloadFits (s : State) (p : Nat) (f : LaneRx) : Bool :=
  let n := f.payload.length
  let b0 := field f.payload 0 1
  let b1 := field f.payload 1 1
  if f.type = 9 then decide (2 ≤ n ∧ 1 ≤ b1 ∧ b1 ≤ 5 ∧ b0 < b1) && (if b0 + 1 < b1 then decide (n = 60) else decide (n ≤ 60))
  else if f.type = 10 then decide (n = 1 + field (s.desc p) 0x15 1 ∧ b0 < 8)
  else if f.type = 11 then decide (n = 2 ∧ b1 ≤ 4)
  else if f.type = 12 then decide (1 ≤ n) && (descObject (s.desc p) b0 == some (n - 1))
  else if f.type = 13 then decide (2 ≤ n ∧ n ≤ 9 ∧ 1 ≤ b1)
  else decide (f.type = 14 ∧ n = 1 ∧ 1 ≤ b0 ∧ b0 ≤ 3)

/-- Whether a frame answers a request, by type (R568); an ACK also by its cmd_seq and a DATA by its object. -/
def answers (r : LaneRequest) (f : LaneRx) : Bool :=
  if f.type = 14 then decide (r.type ≠ 6)
  else match r with
    | .discover _ => decide (f.type = 9)
    | .poll => decide (f.type = 10)
    | .command q _ _ _ => decide (f.type = 11 ∧ field f.payload 0 1 = q)
    | .read o _ => decide (f.type = 12 ∧ field f.payload 0 1 = o)
    | .fetch => decide (f.type = 13)
    | .eventAck _ => false

/-- The verdict of R598 on a received ALIVE value. -/
inductive AliveVerdict where
  | accept | repeats | skip
deriving DecidableEq, Repr

/-- R598: the frame's ALIVE against a and m; a partner without ALIVE or without `alive_check` is not judged. -/
def State.judgeAlive (s : State) (p : Nat) (f : LaneRx) (unsolicited : Bool) : AliveVerdict :=
  let x := s.partner p
  if !x.alive ∨ s.use (0x7100 + p) 7 = 0 ∨ (x.fresh ∧ f.type = 9 ∧ field f.payload 0 1 = 0) then .accept
  else match x.rxAlive with
    | none => .accept
    | some a =>
      let d := (f.alive + 16 - a) % 16
      if d = 0 then .repeats else if unsolicited ∨ d ≤ x.requests then .accept else .skip

/-- An alive error (R599): counted, reported, and at the limit the partner becomes FAILED with cause ALIVE. -/
def State.aliveError (s : State) (n p : Nat) (f : LaneRx) (isRepeat : Bool) : State :=
  let i := 0x7A00 + n
  let x := s.partner p
  let k := x.aliveRun + 1
  let s1 := (((s.inc i (if isRepeat then 9 else 0xA)).setReg i 0xE p).setReg i 0xD s.now).modPartner p (fun y => { y with aliveRun := k })
  let s2 := s1.event (s.unitHolder n) 0x0071 p Status.ok (n / 8) (if isRepeat then 1 else 2)
    (f.alive + 16 * x.rxAlive.getD 0 + 256 * x.requests + 4096 * min k 255)
  if s.use i 0xB ≤ k ∧ s.partnerState p = 2 then s2.setPartner p 3 2 else s2

/-- One rtt measurement of a TIMED partner (R587): the mean of the last 64, and the length it gives. -/
def State.measureCable (s : State) (n p rtt : Nat) : State :=
  if !s.descFlag p 3 then s
  else
    let rs := ((s.partner p).rtts ++ [rtt]).drop ((s.partner p).rtts.length + 1 - 64)
    let c := rs.length
    let sum := 25 * rs.sum
    let off := 2 * c * (s.turnaround p + s.use (0x7000 + n) 7)
    let dm := s.inexact ((sum - off) * s.use (0x7000 + n) 8 * 299792458) (2 * c * (2 * 10 ^ 11))
    (((s.modPartner p (fun x => { x with rtts := rs })).setReg (0x7100 + p) 0xD (s.inexact sum (2 * c))).setReg (0x7100 + p) 0xE
      (min 0xFFFD dm)).useFree

/-- An accepted EVENT (R582): delivered unless its event_seq is the last one accepted, and acknowledged. -/
def State.uplink (s : State) (n p : Nat) (payload : List Byte) : State :=
  let q := field payload 0 1
  let s1 := s.modLane n (fun w => { w with acks := w.acks ++ [(p, q)] })
  if (s.partner p).eventSeq = some q then s1
  else
    let data := payload.drop 2
    ((s1.modPartner p (fun x => { x with eventSeq := some q })).inc (0x7100 + p) 0x12).event (s.partnerHolder p n) 0x0062 p Status.ok (n / 8)
      (field payload 1 1) (leNat data + 2 ^ 56 * data.length)

/-- The whole descriptor has been read (R576, R577, R592). -/
def State.descriptorRead (s : State) (n p : Nat) (d : List Byte) : State :=
  if !descriptorMeets d (s.laneMode n) (s.use (0x7000 + n) 2) then s.setPartner p 5 0
  else
    let id := (field d 1 1, field d 2 2, field d 4 2)
    let cause := match (s.partner p).identity with | none => 0 | some o => if o = id then 0 else 4
    let i := 0x7100 + p
    let s1 := (s.setRegBytes i 9 d).modPartner p (fun x => { x with identity := some id, nextDue := s.now })
    let s2 := if (s.regBytes i 0xA).length = field d 0x14 1 then s1 else s1.setRegBytes i 0xA (List.replicate (field d 0x14 1) 0)
    let s3 := if bit (field d 6 2) 3 then s2 else s2.setReg i 0xE 0xFFFE
    s3.setPartner p 2 cause

/-- A DESCRIPTOR page is delivered (R577). -/
def State.takePage (s : State) (n p : Nat) (payload : List Byte) : State :=
  let x := s.partner p
  let pg := field payload 0 1
  let cnt := field payload 1 1
  let data := payload.drop 2
  if pg ≠ x.page ∨ (pg ≠ 0 ∧ cnt ≠ x.pageCount) then s.setPartner p 5 0
  else
    let pages := if pg = 0 then data else x.pages ++ data
    let s1 := s.modPartner p (fun y => { y with
      page := pg + 1, pageCount := cnt, pages := pages, fresh := false
      alive := if pg = 0 then bit (field data 6 2) 0 else y.alive })
    if pg + 1 < cnt then s1 else s1.descriptorRead n p pages

/-- Write a READ's value at its result address (R584). -/
def State.storeResult (s : State) (n : Nat) (o : LaneOrigin) (v : List Byte) : State :=
  match o with
  | .entry i _ _ _ b =>
    let bs := v.take b.length
    if bit b.laneFlags 0 then s.writeIda (BusSource.lane.serving (n / 8) i) b.resultAddr bs
    else { s with out := { s.out with hostData := s.out.hostData ++ [(i, b.resultAddr, bs)] } }
  | _ => s

/-- Status of R584 for an ACK result. -/
def ackStatus (r : Nat) : Nat :=
  if r = 0 then Status.ok else if r = 1 then Status.deniedAccess else if r = 2 then Status.notPresent
  else if r = 3 then Status.typeLength else Status.busy

/-- Deliver a valid answer to the transaction in progress (R568, R577, R580, R584, R586). -/
def State.deliverAnswer (s : State) (n : Nat) (t : LaneTransaction) (f : LaneRx) : State :=
  let p := t.partner
  let b0 := field f.payload 0 1
  if f.type = 14 then match t.request with
    | .discover _ => (if s.partnerState p = 1 then s.setPartner p 5 0 else s).laneSucceeds n p
    | .poll => s.laneFails n t
    | .fetch => s.laneFails n t
    | r => (s.laneResult r.origin p (if b0 = 3 then Status.typeLength else Status.notPresent) 3).laneSucceeds n p
  else match t.request with
    | .discover _ => (if s.partnerState p = 1 then s.takePage n p f.payload else s).laneSucceeds n p
    | .poll =>
      let s1 := (s.setReg (0x7100 + p) 0xC b0).setRegBytes (0x7100 + p) 0xB (f.payload.drop 1)
      let s2 := if bit b0 0 ∧ s.descFlag p 1 then s1.modPartner p (fun x => { x with fetch := true }) else s1
      s2.laneSucceeds n p
    | .command _ _ _ o =>
      let r := field f.payload 1 1
      (s.laneResult o p (ackStatus r) (if r = 0 then 2 else 3)).laneSucceeds n p
    | .read _ o => ((s.storeResult n o (f.payload.drop 1)).laneResult o p Status.ok 2).laneSucceeds n p
    | .fetch => (s.uplink n p f.payload).laneSucceeds n p
    | .eventAck _ => s

/-- The accepted frame's bookkeeping (R592, R598). -/
def State.acceptFrame (s : State) (n p : Nat) (f : LaneRx) : State :=
  ((s.modPartner p (fun x => { x with rxAlive := some f.alive, requests := 0, aliveRun := 0 })).inc (0x7000 + n) 0xC).setReg (0x7100 + p) 0x13 s.now

/-- A frame that has passed its check value takes steps 2 to 4 of R597. After an unsolicited EVENT the count m starts at the request still to be
answered, which m includes (R598; log entry 182). -/
def State.judgeFrame (s : State) (n : Nat) (f : LaneRx) (rtt : Nat) (shift : Int) : State :=
  let p := 32 * n + f.node
  let current := (s.lane n).current.bind (fun (t : LaneTransaction) => if t.resend then none else some t)
  let answering := match current with
    | none => none
    | some t => if t.partner = p ∧ answers t.request f then some t else none
  let unsolicited := answering.isNone && decide (f.type = 13 ∧ s.laneMode n = 2 ∧ s.partnerState p = 2) && s.descFlag p 2
  if f.dir = 0 ∨ f.broken ∨ !s.payloadFits p f ∨ (answering.isNone ∧ !unsolicited) then s.attemptFails n false
  else
    match s.judgeAlive p f unsolicited with
    | .repeats => let s1 := s.aliveError n p f true
                  if unsolicited then s1 else s1.attemptFails n true
    | .skip => let s1 := s.aliveError n p f false
               if unsolicited then s1 else s1.attemptFails n true
    | .accept =>
      let s1 := (s.acceptFrame n p f).trimNode n f.node shift
      match answering with
      | none => (if (current.map (·.partner)) = some p then s1.modPartner p (fun x => { x with requests := 1 }) else s1).uplink n p f.payload
      | some t => ((s1.measureCable n p rtt).laneSpan n t.started (s.lane n).freeAt).deliverAnswer n t f

/-- A frame has been received on a lane (R564, R565, R573, R597). A command names the type its frame carries; a frame that
passes its check with another valid type is none of that command's. -/
def State.laneReceive (s : State) (n want : Nat) (frame : LaneFrame) : State :=
  let f := decodeFrame (s.laneMode n) frame
  if !s.laneRuns n ∨ s.laneState n = 3 ∨ (s.laneMode n = 2 ∧ (bit frame.identifier 5 ∨ 2048 ≤ frame.identifier)) then s
  else if f.crcOk ∧ !f.broken ∧ f.dir = 1 ∧ f.type ≠ want then s
  else
    let s0 := s.modLane n (fun w => { w with freeAt := s.now + s.laneGap n })
    if s.laneMode n = 1 ∧ !frame.gapless then (s0.inc (0x7000 + n) 0xE).attemptFails n false
    else
      let s1 := (s0.inc (0x7A00 + n) 7).setReg (0x7A00 + n) 6 f.running
      if !f.crcOk then (s1.crcDiscard n).attemptFails n false else s1.judgeFrame n f frame.rtt frame.shift

/-- DESCRIPTOR (R577). -/
def execDescriptor (lane : Nat) (frame : LaneFrame) (s : State) : Host.Outcome State Fault Refusal := .next (s.laneReceive lane 9 frame)
/-- RESPONSE (R580). -/
def execResponse (lane : Nat) (frame : LaneFrame) (s : State) : Host.Outcome State Fault Refusal := .next (s.laneReceive lane 10 frame)
/-- ACK (R584). -/
def execAck (lane : Nat) (frame : LaneFrame) (s : State) : Host.Outcome State Fault Refusal := .next (s.laneReceive lane 11 frame)
/-- DATA (R584). -/
def execData (lane : Nat) (frame : LaneFrame) (s : State) : Host.Outcome State Fault Refusal := .next (s.laneReceive lane 12 frame)
/-- EVENT (R582). -/
def execEvent (lane : Nat) (frame : LaneFrame) (s : State) : Host.Outcome State Fault Refusal := .next (s.laneReceive lane 13 frame)
/-- NAK (R568). -/
def execNak (lane : Nat) (frame : LaneFrame) (s : State) : Host.Outcome State Fault Refusal := .next (s.laneReceive lane 14 frame)

/-- RESPONSE_TIMEOUT (R564, R578, R579): no response has started before its timeout. -/
def execResponseTimeout (lane : Nat) (s : State) : Host.Outcome State Fault Refusal :=
  match (s.lane lane).current with
  | none => .next s
  | some t =>
    if t.resend then .next s
    else
      let s1 := (s.arriveAt t.deadline).inc (0x7000 + lane) 0xD
      .next ((s1.modLane lane (fun w => { w with freeAt := s1.now + s1.laneGap lane })).attemptFails lane false)

/-- ECHO_MISMATCH (R563): the frame being sent ends at once, and the attempt fails as a timeout would. -/
def execEchoMismatch (lane : Nat) (s : State) : Host.Outcome State Fault Refusal :=
  if !s.laneRuns lane ∨ s.laneMode lane ≠ 1 then .next s
  else
    let s1 := (s.inc (0x7000 + lane) 0xE).modLane lane (fun w => { w with freeAt := s.now + s.laneGap lane })
    .next (s1.attemptFails lane false)

/-- RECOVERY_EXPIRY (R577): `recovery_ms` has passed since the last attempt; the descriptor is read again. -/
def execRecoveryExpiry (partner : Nat) (s : State) : Host.Outcome State Fault Refusal :=
  let st := s.partnerState partner
  if !s.serving ∨ st < 3 ∨ s.laneState (partner / 32) = 4 then .next s
  else .next ((s.arriveAt ((s.partner partner).attempted + ms (s.use (0x7100 + partner) 6))).setPartner partner 1 0)

/-- LANE_BUS_OFF_RECOVERY (R565, R591): 128 occurrences of 11 recessive bits. -/
def execLaneBusOffRecovery (lane : Nat) (s : State) : Host.Outcome State Fault Refusal :=
  .next (if s.serving ∧ s.laneState lane = 3 then s.setLaneState lane 1 else s)

/-- LANE_ERROR_PASSIVE (R565, R590, R591): a CANFD lane's error counters move it to RUNNING, ERROR_PASSIVE or BUS_OFF. -/
def execLaneErrorPassive (lane state : Nat) (s : State) : Host.Outcome State Fault Refusal :=
  if !s.laneRuns lane ∨ s.laneMode lane ≠ 2 ∨ state = 0 ∨ 3 < state ∨ s.laneState lane = 3 then .next s
  else .next ((if state = 3 then s.inc (0x7000 + lane) 0x10 else s).setLaneState lane state)

/-! ### Queue entries (R583, R584) -/

/-- A LANE entry is fetched: malformed, out of its target, not ONLINE, or accepted by its lane. -/
def State.laneEntry (s : State) (e : Entry) (ok : Bool) (b : LaneEntry) (r : LaneOrigin → LaneRequest) : State :=
  let target := (s.sq e.inst e.q).target
  if !s.canFetch e 4 then s.fetchFails e 4
  else
    let s1 := s.fetched e
    let inTarget := if 0x1000 ≤ target then decide (b.partner = target - 0x1000) else decide (b.partner / 32 = target)
    let o : LaneOrigin := .entry e.inst e.q e.tag (entryCompletion e) b
    let n := b.partner / 32
    if !ok ∨ !entryFlagsOk e ∨ b.object = 0 ∨ 254 < b.object ∨ 1 < b.laneFlags ∨ !b.reservedZero then s1.stopQueue e.inst e.q Status.range
    else if !inTarget then s1.endLaneEntry o Status.deniedInstance
    else if s1.laneState n = 0 ∨ s1.laneState n = 4 then s1.endLaneEntry o Status.aborted
    else s1.modLane n (fun w => { w with queue := w.queue ++ [(b.partner, r o)] })

/-- LANE_COMMAND (R583): a confirmed command. -/
def execLaneCommand (e : Entry) (opcode : Nat) (body : LaneEntry) (s : State) : Host.Outcome State Fault Refusal :=
  .next (s.laneEntry e (decide (opcode = 1 ∧ 1 ≤ body.length ∧ body.length ≤ 40 ∧ body.resultAddr = 0) && allZero (body.value.drop body.length))
    body (fun o => .command 0 body.object ((body.value ++ List.replicate 40 0).take body.length) o))

/-- LANE_READ (R583). -/
def execLaneRead (e : Entry) (body : LaneEntry) (s : State) : Host.Outcome State Fault Refusal :=
  .next (s.laneEntry e (decide (1 ≤ body.length ∧ body.length ≤ 58)) body (fun o => .read body.object o))

/-- GROUP_TIMEOUT (R586): targets still PENDING take TIMEOUT; transactions begun complete for no one. -/
def execGroupTimeout (slot : Nat) (s : State) : Host.Outcome State Fault Refusal :=
  let i := 0x7900 + slot
  if s.reg i 6 ≠ 1 then .next s
  else
    let s1 := s.arriveAt (s.reg i 0xB + ms (s.reg i 5))
    let pend := (List.range 2048).filter (fun p => groupResult (s1.regBytes i 8) p = 1)
    let s2 := pend.foldl (fun (t : State) p => t.groupTarget slot p 4) s1
    .next { s2 with lanes := { s2.lanes with lanes := s2.lanes.lanes.map (fun e => (e.1, { e.2 with
      groups := e.2.groups.filter (fun g => g.1 ≠ slot)
      current := e.2.current.map (fun (t : LaneTransaction) =>
        if t.request.origin = .group slot then { t with request := t.request.withOrigin .nobody } else t) })) } }

end Sys2Proof.Machine
end

