-- ==== Sys2Proof/Machine/Haptics.lean ====
section
/-! DEFINITION. The haptic commands (R494 to R507). -/
namespace Sys2Proof.Machine

/-- The budget of a channel withholds software PLAYs (R645). -/
def State.boardHolds (s : State) (c : Nat) : Bool := decide (s.hapCfg c 0x11 < 8) && s.sapflow.heldBudgets.contains (s.hapCfg c 0x11)

/-- A PLAY is taken and placed: no earlier than 12 µs from now, at once within 20 µs (R495, R497). -/
def State.placePlay (s : State) (c : Nat) (p : HapticPlay) : State :=
  let late := decide (p.startTime ≠ 0 ∧ p.startTime < s.now)
  let due := if p.startTime = 0 ∨ late then s.now + 12000 + Config.freeNat s.free % 8001 else max (s.now + 12000) p.startTime
  ((s.modHap c (fun h => { h with play := some { p with placed := true, late := late, dueAt := due } })).announce c due).useFree

/-- PLAY (R494, R495, R645): the entry is taken when the previous PLAY has reached onset or ended. -/
def execPlay (e : Entry) (opcode effect scale startTime : Nat) (reservedZero : Bool) (s : State) : Host.Outcome State Fault Refusal :=
  let c := (s.sq e.inst e.q).target
  let st := s.hapState c
  if (s.hap c).play.isSome then .next s
  else if !s.canFetch e 6 then .next (s.fetchFails e 6)
  else
    let s1 := s.fetched e
    if opcode ≠ 1 ∨ !entryFlagsOk e ∨ !reservedZero ∨ 255 < effect ∨ 1000 < scale then .next (s1.stopQueue e.inst e.q Status.range)
    else
      let p : HapticPlay := { inst := e.inst, q := e.q, tag := e.tag, completion := entryCompletion e, effect := effect, scale := scale,
                              startTime := startTime, dueAt := s.now + ms (s.use 0x2500 9) }
      if s.effectBytes effect = [] then .next (s1.endPlay p Status.range)
      else if st = 5 then .next (s1.endPlay p Status.busy)
      else if st = 6 then .next (s1.endPlay p Status.hwFault)
      else if s.boardHolds c then .next (s1.modHap c (fun h => { h with play := some { p with placed := false } }))
      else .next (s1.placePlay c p)

/-- STOP (R495): the running software effect brakes at once and its PLAY ends ABORTED; STOP itself ends OK. -/
def execStop (e : Entry) (reservedZero : Bool) (s : State) : Host.Outcome State Fault Refusal :=
  let c := (s.sq e.inst e.q).target
  if (s.hap c).play.isSome then .next s
  else if !s.canFetch e 6 then .next (s.fetchFails e 6)
  else
    let s1 := s.fetched e
    if !entryFlagsOk e ∨ !reservedZero then .next (s1.stopQueue e.inst e.q Status.range)
    else
      let s2 := match (s.hap c).running with
        | none => s1
        | some r => match r.play with
          | none => s1
          | some p =>
            if r.stage = HapticStage.braking then s1
            else ((s1.modHap c (fun h => { h with running := some { r with play := none } })).endPlay p Status.aborted).brakeNow c
      .next (s2.endEntry e.inst e.q e.tag (entryCompletion e) Status.ok)

/-- PLAY_START_TIME (R497, R499): a placed PLAY's time has come. -/
def execPlayStartTime (channel : Nat) (s : State) : Host.Outcome State Fault Refusal :=
  match (s.hap channel).play with
  | none => .next s
  | some p =>
    if !p.placed ∨ s.isShed p.inst then .next s
    else
      let s1 := s.arriveAt p.dueAt
      let st := s.hapState channel
      let drop := s1.modHap channel (fun h => { h with play := none })
      if st = 5 then .next (drop.endPlay p Status.busy)
      else if st = 0 ∨ st = 6 then .next (drop.endPlay p Status.hwFault)
      else if st = 1 then .next s1
      else match (s.hap channel).running with
        | none => .next (s1.startWaiting channel false)
        | some r =>
          if r.stage ≠ .braking then .next s1
          else if us (s.hapCfg channel 0xF) < r.stageEnd - s1.now then .next ((s1.effectOver channel Status.aborted).startWaiting channel true)
          else .next s1

/-- The pin lane takes the sprite and tone parts of a pin's word (R517). Where the pin's previous reflex still waits in the lane (within its
1.5 µs, a free value, log entry 3) the new one replaces it, and the replaced one counts in `dropped`. -/
def State.pinLane (s : State) (pin w : Nat) (replaces : Bool) : State :=
  let r := s.reflex
  let gone : State := { s with reflex := { r with
    sprites := r.sprites.filter (fun p => decide (p.2.2 ≠ 512 + pin)), tones := if bit w 37 then r.tones.erase (bits w 40 38) else r.tones } }
  let s1 := (if replaces then gone.inc (0x6600 + hapDie pin) 0x45 else s.inc (0x6600 + hapDie pin) 0x43).useFree
  let s2 : State := if bits w 33 31 = 0 then s1
    else { s1 with reflex := { s1.reflex with sprites := s1.reflex.sprites ++ [(bits w 30 24, bits w 33 31, 512 + pin)] } }
  if bit w 37 then { s2 with reflex := { s2.reflex with tones := s2.reflex.tones ++ [bits w 40 38] } } else s2

/-- HTRIG_EDGE (R496, R517, R526): an edge of the selected kind, outside the re-arm time, triggers its effect and its reflex. -/
def execHtrigEdge (pin : Nat) (rising : Bool) (s : State) : Host.Outcome State Fault Refusal :=
  let sel := s.cfg (0x6400 + pin) 0x14
  let kind := if rising then decide (sel = 1 ∨ sel = 3) else decide (sel = 2 ∨ sel = 3)
  let early : Bool := match (s.hap pin).lastEdge with
    | none => false
    | some t => decide (s.now < t + us (s.cfg (0x6400 + pin) 0x17))
  if !s.serving ∨ !kind ∨ early ∨ 2 * s.dies ≤ pin ∨ !s.shellUp (hapDie pin) ∨ !s.hapServed pin then .next s
  else
    let c := s.cfg (0x6400 + pin) 0x15
    let eff := s.cfg (0x6400 + pin) 0x16
    let t : HapticTrigger := { effect := eff, scale := 1000, source := .pin, origin := 512 + pin }
    let s1 := (s.modHap pin (fun h => { h with lastEdge := some s.now })).hapTrigger c t
    let beaten := ((s.hap c).running.map (fun e => outranked t e s.now)).getD false
    let dropped := decide (s.hapState c = 0 ∨ 5 ≤ s.hapState c ∨ s.effectBytes eff = []) || (beaten && decide (s.hapState c ≠ 1))
    let w := s.cfg (0x6600 + hapDie pin) (0x41 + pin % 2)
    let s2 := s1.pinLane pin w (((s.hap pin).lastEdge.map (fun t => decide (s.now < t + 1500) && Config.freeBool s1.free)).getD false)
    let s4 := (s2.raise (0x6600 + hapDie pin) 0x44 (Config.freeNat s2.free % 1501)).useFree
    .next (s4.event (s.hapticHolder pin) 0x0048 (512 + pin) Status.ok (hapDie pin) (if rising then 1 else 2)
      (c + 256 * eff + 65536 * ofBool dropped))

/-- REFLEX_TRIGGER (R498, R499): the oldest reflex trigger in flight for a channel reaches its engine. -/
def execReflexTrigger (channel : Nat) (s : State) : Host.Outcome State Fault Refusal :=
  match s.reflex.haptics.find? (fun r => r.1 = channel) with
  | none => .next s
  | some r =>
    let s1 : State := { s with reflex := { s.reflex with haptics := s.reflex.haptics.erase r } }
    .next (s1.hapTrigger channel r.2)

/-- AMP_READY_EXPIRY (R486, R498): READY_WAIT ends; a held trigger or a waiting PLAY starts. -/
def execAmpReadyExpiry (channel : Nat) (s : State) : Host.Outcome State Fault Refusal :=
  match (s.hap channel).ready with
  | none => .next s
  | some t =>
    if s.hapState channel ≠ 1 then .next s
    else
      let s1 := ((s.arriveAt t).modHap channel (fun h => { h with ready := none, held := none })).setHapState channel (s.restState channel)
      if (s.hap channel).limited then
        .next ((match (s.hap channel).held with
          | some tr => s1.reflexDropped channel tr 1
          | none => s1).busyWaiting channel)
      else match (s.hap channel).held with
        | some tr => .next (if s.effectBytes tr.effect = [] then s1.reflexDropped channel tr 1 else s1.onset channel tr false none)
        | none => .next (s1.startWaiting channel false)

/-- SEGMENT_END (R492, R503): the overdrive or a segment ends. -/
def execSegmentEnd (channel : Nat) (s : State) : Host.Outcome State Fault Refusal :=
  match (s.hap channel).running with
  | none => .next s
  | some e =>
    let s0 := s.arriveAt e.stageEnd
    let ended := match e.stage with
      | .segment n => fullDriveAt e.descriptor e.trigger.scale n 6
      | _ => false
    let e1 : HapticEffect := { e with phase := s0.phaseNow channel e, phaseAt := s0.now, fullDrive := e.fullDrive || ended }
    let put (x : HapticEffect) : State := s0.modHap channel (fun h => { h with running := some x })
    let go (n : Nat) : State :=
      if n < field e.descriptor 1 1 then
        let stop := e.stageEnd + segmentNs e.descriptor n
        (put { e1 with stage := .segment n, stageEnd := stop,
                       fullDrive := e1.fullDrive || fullDriveAt e.descriptor e.trigger.scale n 4 }).announce channel stop
      else (put e1).bodyEnds channel e1
    match e.stage with
    | .overdrive => .next (go 0)
    | .segment n => .next (go (n + 1))
    | .braking => .next s

/-- What one sense frame does to one channel (R490, R500, R501, R504). -/
def State.senseChannel (s : State) (c : Nat) (v i : Int) : State :=
  let h := s.hap c
  let dv := match h.lastV with | none => 0 | some o => v - o
  let amp := (i * s.hapCfg c 8 * 1000 - (s.hapCfg c 9 : Int) * 96 * dv * s.hapCfg c 7).natAbs
  let s1 := s.modHap c (fun x => { x with
    lastV := some v, voltage := v, motion := (x.motion ++ [amp]).drop (x.motion.length + 1 - 2400), block := x.block + (v * i).natAbs })
  let s2 := if h.running.isSome then (s1.raise (0x6400 + c) 0x1D (s.sensedQ16 c v)).useFree else s1
  let near := decide (99 * 8388607 ≤ 100 * v.natAbs) && decide (3277 < s.stageCode c)
  let run := if near then h.senseRun + 1 else 0
  let s3 := s2.modHap c (fun x => { x with senseRun := run })
  let m := s3.motional c
  let s4 := s3.modHap c (fun x => { x with running := x.running.map (fun e =>
    match e.stage with
    | .segment _ => { e with largest := max e.largest m }
    | _ => e) })
  if s.hapCfg c 4 * 8388607 < v.natAbs * s.hapCfg c 7 then s4.hapTrip c 1
  else if 192 ≤ run then s4.hapTrip c 2
  else if s.hapState c = 4 ∧ m < s.hapCfg c 0xE * senseDen then s4.brakingEnds c
  else s4

/-- SENSE_FRAME (R489, R501, R504): one frame of a sense bus: slot 2m the voltage, slot 2m + 1 the current of channel 4 × bus + m. -/
def execSenseFrame (bus : Nat) (slots : List Int) (s : State) : Host.Outcome State Fault Refusal :=
  if !s.serving then .next s
  else .next (s.each ((List.range 4).filter (fun m => decide (4 * bus + m < 2 * s.dies ∧ s.hapState (4 * bus + m) ≠ 0)))
    (fun t m => t.senseChannel (4 * bus + m) (slots.getD (2 * m) 0) (slots.getD (2 * m + 1) 0)))

/-- BRAKE_TIMEOUT (R501): brake_max_us has passed. -/
def execBrakeTimeout (channel : Nat) (s : State) : Host.Outcome State Fault Refusal :=
  match (s.hap channel).running with
  | none => .next s
  | some e => if e.stage = .braking then .next ((s.arriveAt e.stageEnd).brakingEnds channel) else .next s

/-- RESONANCE_TRACK (R502): res_tracked_hz moves toward the sensed resonance (Q16.16 Hz) by at most track_step_hz. -/
def execResonanceTrack (channel : Nat) (estimate : Int) (s : State) : Host.Outcome State Fault Refusal :=
  match (s.hap channel).running with
  | none => .next s
  | some _ =>
    let r := s.regI (0x6400 + channel) 0x1B
    let d : Int := 65536 * s.hapCfg channel 0xD
    let v := clampInt (65536 * (s.hapCfg channel 0xB : Int)) (65536 * (s.hapCfg channel 0xC : Int)) (clampInt (r - d) (r + d) estimate)
    .next (if d = 0 then s else (s.bringPhase channel).setRegI (0x6400 + channel) 0x1B v)

/-- AMP_FAULT (R488, R504): HFLTn_N has been low for 2 µs. -/
def execAmpFault (channel : Nat) (s : State) : Host.Outcome State Fault Refusal :=
  .next ((s.modHap channel (fun h => { h with ampLow := true })).hapTrip channel 3)

/-- ENGINE_LOST (R504): no drive code for 5 µs while HENn is asserted. -/
def execEngineLost (channel : Nat) (s : State) : Host.Outcome State Fault Refusal :=
  .next (if (s.hap channel).hen then s.hapTrip channel 4 else s)

/-- ON_TIME_LIMIT (R504, R505, R508): one effect reaches max_on_ms and is cut. -/
def execOnTimeLimit (channel : Nat) (s : State) : Host.Outcome State Fault Refusal :=
  match (s.hap channel).running with
  | none => .next s
  | some e =>
    .next ((s.arriveAt (e.onset + ms (s.hapCfg channel 5))).cutOnTime channel)

/-- ENERGY_BLOCK (R504, R506, R507, R508): a 1 ms block ends; the window sum sets or clears LIMITED; the draw goes to the budget. -/
def execEnergyBlock (channel : Nat) (s : State) : Host.Outcome State Fault Refusal :=
  let h := s.hap channel
  if s.hapState channel = 0 ∧ h.window = [] then .next s
  else
    let s1 := s.arriveAt (h.blockAt + ms 1)
    let win := (h.window ++ [h.block]).drop (h.window.length + 1 - 1000)
    let fs := s.hapCfg channel 7 * s.hapCfg channel 8
    let s2 := (s1.modHap channel (fun x => { x with window := win, block := 0, blockAt := s1.now })).setReg (0x6400 + channel) 0x1C
      (s.inexact (win.sum * fs) energyDen)
    let s3 := s2.judgeEnergy channel
    let b := s.hapCfg channel 0x11
    let draw := (if h.hen then s.hapCfg channel 0x12 else 0) +
      s.inexact (s.hapCfg channel 0x13 * h.block * fs) (65536 * senseDen * senseDen * 96)
    .next (if b < 8 then { s3 with sapflow := { s3.sapflow with windowDraw := Tab.put s3.sapflow.windowDraw b (Tab.getD s3.sapflow.windowDraw b 0 + draw) } }.useFree
           else s3.useFree)

end Sys2Proof.Machine
end

