-- ==== Sys2Proof/Machine/SapflowOps.lean ====
section
/-! DEFINITION. Sapflow (R637 to R646) and the calibrations it grants (R657, R661, R668): the shared parts. -/
namespace Sys2Proof.Machine

/-! ### Field self-test slots (R680, R681) -/

/-- A die is idle in the sense of R680. -/
def State.dieIsIdle (s : State) (d : Nat) : Bool :=
  [2 * d, 2 * d + 1].all (fun h => decide (s.use (0x3000 + 256 * h) 1 ≠ 1)) && decide (s.keysOn d = []) &&
  [2 * d, 2 * d + 1].all (fun c => decide (s.hapCfg c 1 ≠ 1)) && (List.range 8).all (fun k => decide (s.laneMode (8 * d + k) = 0)) &&
  decide (s.use (0x6808 + d) 1 ≠ 1) && [2 * d, 2 * d + 1].all (fun u => !s.queueOn 5 u) &&
  (List.range 16).all (fun k => !s.runnable (16 * d + k)) && !s.runnable (0x80 + d) &&
  s.worlds.claims.all (fun c => decide (c.resource / (claimBlock c.cls).2 ≠ d)) && s.worlds.applets.all (fun e => !bit e.2.dieMask d)

/-- The field slot request ends ABORTED (R681). -/
def State.slotAborted (s : State) : State :=
  let d := s.reg 0x2710 3
  let s1 := (((s.setReg 0x2710 2 0).setReg 0x2710 3 0xFF).setReg (0x2718 + d) 1 Status.aborted)
  ({ s1 with health := { s1.health with slot := none } } : State).event 0 0x0099 d Status.aborted d 2 0

/-- A granted field slot begins (R681), and it leaves the die's memories open (R676, R678), or the request ends ABORTED when the
die is no longer idle. -/
def State.slotBegins (s : State) : State :=
  let d := s.reg 0x2710 3
  if s.reg 0x2710 2 ≠ 1 then s
  else if !s.dieIsIdle d then s.slotAborted
  else
    let s1 := ((s.setReg 0x2710 2 2).setReg (0x2008 + d) 2 1).slotMemory d
    s1.chooseGuards

/-- A cut ends the running slot: its results are discarded and it is asked for again (R641, R643, R681); the die can be a guard again (R402). -/
def State.slotCut (s : State) : State :=
  if s.reg 0x2710 2 ≠ 2 then s
  else ((s.setReg 0x2710 2 1).setReg (0x2008 + s.reg 0x2710 3) 2 2).chooseGuards

/-! ### Shed 3: background calibration (R657, R661, R668) -/

/-- A measurement waits or runs, so calibration asks for a grant (log entry 29). -/
def State.calibrationWanted (s : State) : Bool :=
  decide (s.survey.piezoWaiting ≠ [] ∨ s.survey.piezoRunning ≠ [] ∨ s.survey.pilotWaiting ≠ [] ∨ s.survey.pilotRunning ≠ [])

/-- R657: a channel can be measured now. -/
def State.piezoReady (s : State) (c : Nat) : Bool :=
  s.sapflow.calibration && !s.sapflow.pausedDies.contains (hapDie c) && decide (s.hapState c = 2 ∧ (s.hap c).idleAt + ms 100 ≤ s.now) &&
  !s.claimed 3 c && (s.hap c).hen

/-- R661: the pilot of an output can start now. -/
def State.pilotReady (s : State) (o : Nat) : Bool :=
  s.sapflow.calibration && !s.sapflow.pausedDies.contains (o / 8) &&
  decide (s.cfg (0x2620 + o) 1 = 2 ∧ s.use (0x6A00 + o) 0xD = 1 ∧ s.reg (0x6808 + o / 8) 0x10 = 1)

/-- Measurements that wait start when they can. -/
def State.startCalibrations (s : State) : State :=
  let ps := s.survey.piezoWaiting.filter s.piezoReady
  let os := s.survey.pilotWaiting.filter s.pilotReady
  { s with survey := { s.survey with
    piezoWaiting := s.survey.piezoWaiting.filter (fun c => !ps.contains c), pilotWaiting := s.survey.pilotWaiting.filter (fun o => !os.contains o)
    piezoRunning := ps.foldl (fun t c => Tab.put t c s.now) s.survey.piezoRunning, pilotRunning := s.survey.pilotRunning ++ os } }

/-- The measurements of some channels and outputs end, are counted, and wait for the next grant (R668). -/
def State.cutCalibration (s : State) (channel output : Nat → Bool) : State :=
  let gone := s.survey.pilotRunning.filter output
  let s1 := (s.abandonPiezo channel).abandonPilots output
  { s1 with survey := { s1.survey with pilotWaiting := s1.survey.pilotWaiting ++ gone.filter (fun o => !s1.survey.pilotWaiting.contains o) } }

/-- Calibration is paused (R641, R668). -/
def State.pauseCalibration (s : State) : State :=
  let s1 := s.cutCalibration (fun _ => true) (fun _ => true)
  ({ s1 with sapflow := { s1.sapflow with calibration := false } } : State).setReg 0x2600 8 1

/-! ### Shed 2: Canopy builds (R388) -/

/-- A Canopy build is withdrawn: a head that builds is SHED, unless its latch decision has already found the surface complete (R388). Claimed heads
are skipped (R261). -/
def State.withdrawBuild (s : State) (h : Nat) : State :=
  let s1 : State := { s.inc 0x2501 8 with sapflow := { s.sapflow with canopyGranted := s.sapflow.canopyGranted.filter (· ≠ h) } }
  if s1.canopyReg h 6 = 3 ∧ !(s1.cano h).validNext then (s1.spoilBuild h).canopyEnter h 6 else s1

/-! ### Shed 1: graphics steps (R638, R640) -/

/-- Dies with a runnable context. -/
def State.gfxDies (s : State) : List Nat :=
  s.dieList.filter (fun d => (List.range 16).any (fun k => s.runnable (16 * d + k)) || s.runnable (0x80 + d))

/-- One pass over the dies: a step of 50 MHz each while the headroom (in 1/20 mW) allows it. -/
def gfxPass (step : Int) (want : Nat) : List (Nat × Nat) → Int → List (Nat × Nat) × Int
  | [], h => ([], h)
  | (d, g) :: r, h =>
    let up := decide (g < want) && decide (step ≤ h)
    let t := gfxPass step want r (if up then h - step else h)
    ((d, if up then g + 50 else g) :: t.1, t.2)

/-- The passes of R640 until no die steps; 16 steps lead from the lowest floor to the highest clock. -/
def gfxPasses (step : Int) (want : Nat) : Nat → List (Nat × Nat) → Int → List (Nat × Nat) × Int
  | 0, gs, h => (gs, h)
  | n + 1, gs, h => let t := gfxPass step want gs h; gfxPasses step want n t.1 t.2

/-- A SAPFLOW event (R647). -/
def State.sapflowEvent (s : State) (resource die reason mw : Nat) : State :=
  s.event 0 0x0093 resource Status.ok die reason (s.reg 0x2501 4 + 2 ^ 32 * mw)

/-- Software PLAYs waiting on a board budget (0x2510 + b, R645). -/
def State.playsWaiting (s : State) (b : Nat) : Nat :=
  ((List.range (2 * s.dies)).filter (fun c => decide (s.hapCfg c 0x11 = b) && ((s.hap c).play.map (fun (p : HapticPlay) => !p.placed)).getD false)).length

/-- A board budget's window ends (R645). -/
def State.boardWindow (s : State) (b : Nat) : State :=
  let i := 0x2510 + b
  let draw := Tab.getD s.sapflow.windowDraw b 0
  let limit := s.use i 1
  let s1 := (s.setReg i 2 draw).raise i 3 draw
  let holds := decide (limit ≠ 0 ∧ limit ≤ draw)
  let above := decide (limit ≠ 0 ∧ limit < draw)
  let was := s.sapflow.overLimit.contains b
  let s2 := if holds then s1.inc i 6 else s1
  let s3 : State := { s2 with sapflow := { s2.sapflow with
    heldBudgets := s2.sapflow.heldBudgets.filter (· ≠ b) ++ (if holds then [b] else [])
    overLimit := s2.sapflow.overLimit.filter (· ≠ b) ++ (if above ∨ (was ∧ holds) then [b] else []) } }
  if above then s3.event 0 0x0094 b Status.ok 0xFF 1 draw
  else if was ∧ !holds then s3.event 0 0x0094 b Status.ok 0xFF 2 draw
  else s3

end Sys2Proof.Machine
end

