-- ==== Sys2Proof/Machine/Health.lean ====
section
/-! DEFINITION. Commands of self-test and health (R676 to R689): field slots, heartbeats and acknowledgements, head lending served. -/
namespace Sys2Proof.Machine

/-- A write to `selftest.run` (R680). -/
def State.selftestWrite (s : State) (d : Nat) : Nat × State :=
  if 7 < d then (Status.range, s)
  else if s.dies ≤ d then (Status.notPresent, s)
  else if d = s.trunk ∨ (d = 1 ∧ s.trunk = 0) ∨ s.reg (0x2008 + d) 2 = 3 ∨ !s.shellUp d then (Status.deniedAccess, s)
  else if s.reg 0x2710 2 ≠ 0 ∨ 1 < s.powerState ∨ s.entryRuns ∨ s.exitRuns ∨ !s.dieIsIdle d then (Status.busy, s)
  else (Status.pending, ({ s with health := { s.health with slot := some s.now } } : State).setReg 0x2710 2 1 |>.setReg 0x2710 3 d)

/-- The results of a slot of die d (R702): its status, its checks, its end and length, and the items it took out of service. -/
def State.slotRecord (s : State) (d : Nat) (r : SlotResult) : State :=
  let st := if internalFailed r = 0 then Status.ok else Status.hwFault
  ((((s.setReg (0x2718 + d) 1 st).setReg (0x2718 + d) 2 (r.failed % 4096)).setReg (0x2718 + d) 3 s.now).setReg (0x2718 + d) 4 r.durationUs).setReg
    (0x2718 + d) 6 ((slotItems r).map (fun x => 2 ^ x.bit)).sum

/-- The record of a SELF_TEST event (R698): reason 1 BOOT, 2 FIELD. -/
def State.slotEvent (s : State) (d reason : Nat) (r : SlotResult) : EvRecord :=
  s.record 0x0099 d (if internalFailed r = 0 then Status.ok else Status.hwFault) d reason (r.failed % 4096 + 65536 * r.durationUs)

/-- FIELD_SLOT_DONE (R679, R681): the Core restarts when every internal check passed; the outcome is taken otherwise. -/
def execFieldSlotDone (r : SlotResult) (s : State) : Host.Outcome State Fault Refusal :=
  let d := s.reg 0x2710 3
  if !s.serving ∨ s.reg 0x2710 2 ≠ 2 then .next s
  else
    let bad := decide (internalFailed r ≠ 0)
    let s1 := (((s.slotRecord d r).setReg 0x2710 2 0).setReg 0x2710 3 0xFF).inc 0x2710 5
    let s2 : State := { (if bad then s1.inc 0x2710 6 else s1) with health := { s1.health with slot := none } }
    let s3 := ((s2.setReg (0x2008 + d) 2 2).slotOutcome d r).cutOff
    let s4 := s3.chooseGuards
    .next (s4.deliver 0 (s4.slotEvent d 2 r))

/-- DEFER_LIMIT_EXPIRY (R681): a waiting request ends ABORTED, `defer_limit_s` after it was made. -/
def execDeferLimitExpiry (s : State) : Host.Outcome State Fault Refusal :=
  match s.health.slot with
  | none => .next s
  | some t => if s.reg 0x2710 2 = 1 then .next (s.arriveAt (t + sec (s.cfg 0x2710 4))).slotAborted else .next s

/-- A Core is watched: it runs, in the runtime, and the device has not FAILED (R682). -/
def State.watched (s : State) (d : Nat) : Bool :=
  s.operational && !s.health.stopped && decide (d < s.dies ∧ s.powerState ≤ 2) && s.coreActive d && s.shellUp d

/-- CORE_HEARTBEAT (R682): the Core's heartbeat and its acknowledgement are sampled now. -/
def execCoreHeartbeat (die : Nat) (s : State) : Host.Outcome State Fault Refusal :=
  if s.watched die then
    .next { s with health := { s.health with heartbeat := Tab.put s.health.heartbeat die s.now, ack := Tab.put s.health.ack die s.now } }
  else .next s

/-- HEARTBEAT_TIMEOUT (R682): no heartbeat for 1 ms; the Core is FAILED, cause CORE_WATCHDOG. -/
def execHeartbeatTimeout (die : Nat) (s : State) : Host.Outcome State Fault Refusal :=
  if s.watched die then .next ((s.arriveAt (Tab.getD s.health.heartbeat die 0 + ms 1)).coreFailed die 2 true) else .next s

/-- ACK_TIMEOUT (R682): no acknowledgement for 1 ms; the Shell is FAILED, cause SHELL_FAULT. -/
def execAckTimeout (die : Nat) (s : State) : Host.Outcome State Fault Refusal :=
  if s.watched die then .next ((s.arriveAt (Tab.getD s.health.ack die 0 + ms 1)).shellFailed die 4 2 true).cutOff else .next s

/-- LENDING_SERVED (R689): the lender serves every resource of the failed die. Keys capture (R481), haptic engines clear their fault
(R510), a Canopy surface settles anew, and regions re-verify (R415). -/
def execLendingServed (die : Nat) (s : State) : Host.Outcome State Fault Refusal :=
  let lender := s.reg (0x2708 + die) 3
  if !s.operational ∨ s.health.stopped ∨ s.dies ≤ die ∨ lender = 0xFF ∨ s.reg (0x2008 + die) 2 ≠ 3 ∨ Tab.getD s.health.lending die 0 ≠ 0 then .next s
  else
    let s1 : State := { s with health := { s.health with lending := Tab.put s.health.lending die 1 } }
    let s2 := (s1.recaptureDie die 7).hapTakeover die
    let s3 := s2.each [2 * die, 2 * die + 1] (fun t h =>
      let t0 := t.surfaceEnds h (t.frames h + 1)
      let t1 := if [2, 3, 4, 6].contains (t.canopyReg h 6) then (t0.modCano h (fun c => { c with settle := 0 })).canopyEnter h 2 else t0
      t1.reverify h)
    .next ((s3.refreshFetch die).lendingEvent die 2 lender)

end Sys2Proof.Machine
end

