-- ==== Sys2Proof/Machine/Assign.lean ====
section
/-! DEFINITION. Resource assignment (R198, R213, R223 to R225, R261): how writes are judged, and what their application takes from whom. -/
namespace Sys2Proof.Machine

/-- The assignment subs of `instance` (R225, R226): heads to check_units, the graphics weights among them. -/
def isAssignment (sub : Nat) : Bool := decide (6 ≤ sub ∧ sub ≤ 0x10)
/-- The subs of `instance` that R224, R213 and R198 judge. -/
def isJudged (sub : Nat) : Bool := decide (3 ≤ sub ∧ sub ≤ 0x10)

/-- How many resources an assignment sub names on this part. -/
def State.resources (s : State) (sub : Nat) : Nat :=
  if sub = 6 then 2 * s.dies else if sub = 7 then 32 * s.dies else if sub = 8 then 16 * s.dies else if sub = 0xA then 64 * s.dies
  else if sub = 0xB then 2 * s.dies else if sub = 0xC then 128 else if sub = 0xD then 8 * s.dies else if sub = 0xE then 256 * s.dies
  else if sub = 0xF then 16 else 80

/-- A check unit is present: lane units 0 to 63 and stream units 64 to 79 of the dies present. -/
def State.unitPresent (s : State) (n : Nat) : Bool := decide (n < 8 * s.dies ∨ (64 ≤ n ∧ n < 64 + 2 * s.dies))

/-- Width in bits of an assignment sub. -/
def assignmentBits (sub : Nat) : Nat :=
  if sub = 6 ∨ sub = 0xB ∨ sub = 0xF then 16 else if sub = 7 then 256 else if sub = 8 then 128 else if sub = 0xA then 512 else if sub = 0xC then 128
  else if sub = 0xD then 64 else if sub = 0xE then 2048 else 80

/-- A bit is set for a resource absent from the part (R224). -/
def State.namesAbsent (s : State) (i sub : Nat) : Bool :=
  (List.range (assignmentBits sub)).any (fun n =>
    s.assigned i sub n && (if sub = 0x10 then !s.unitPresent n else decide (s.resources sub ≤ n)))

/-- A resource of instance i's sub is held twice in these assignments: by another instance, or as both a head and one of its layers, or a
lane and a partner range on it (R224). -/
def State.heldTwice (s : State) (i sub : Nat) : Bool :=
  let vfs := (List.range 31).map (· + 1)
  (List.range (assignmentBits sub)).any (fun n => s.assigned i sub n &&
    (vfs.any (fun j => decide (j ≠ i) && s.assigned j sub n) ||
     vfs.any (fun j =>
       (decide (sub = 6) && (List.range 32).any (fun l => decide (s.layerHead (32 * (n / 2) + l) = n) && s.assigned j 7 (32 * (n / 2) + l))) ||
       (decide (sub = 7) && s.assigned j 6 (s.layerHead n)) ||
       (decide (sub = 0xD) && (List.range 32).any (fun k => s.assigned j 0xE (32 * n + k))) ||
       (decide (sub = 0xE) && s.assigned j 0xD (n / 32)))))

/-- Assignments of heads to instance i divide a pair, one in use or about to be (R302). -/
def State.pairDivided (s : State) (i : Nat) : Bool :=
  s.dieList.any (fun d => decide (s.pairOf (2 * d) ≠ [2 * d] ∨ s.cfg (0x3001 + 256 * (2 * d)) 5 = 1) &&
    decide (s.assigned i 6 (2 * d) ≠ s.assigned i 6 (2 * d + 1)))

/-- The claimed resources that these assignments would take from their holder (R260, R261): class and resource. -/
def State.claimsMoved (s new : State) : List (Nat × Nat) :=
  (s.worlds.claims.filter (fun c =>
    let n := c.resource
    if c.cls = 1 then decide (s.headHolder n ≠ new.headHolder n)
    else if c.cls = 2 then decide (s.keyHolder n ≠ new.keyHolder n)
    else if c.cls = 3 then decide (s.hapticHolder n ≠ new.hapticHolder n)
    else if c.cls = 6 then decide (s.unitHolder (64 + n) ≠ new.unitHolder (64 + n))
    else decide (c.cls = 8 ∧ s.laneHolder n ≠ new.laneHolder n))).map (fun c => (c.cls, c.resource))

/-- Classes of claims that an assignment sub concerns. -/
def claimSub (cls : Nat) : Nat := if cls = 1 then 6 else if cls = 2 then 0xA else if cls = 3 then 0xB else if cls = 6 then 0x10 else 0xD

/-- Highest page mapped by an instance, in MiB rounded up. -/
def State.mappedMib (s : State) (i : Nat) : Nat := ((s.inst i).mapped.foldl (fun m p => max m (p + 1)) 0 + 15) / 16

/-- How an entry of the instance objects is judged against the assignments as they will stand (R198, R213, R224, R261). -/
def State.assignmentStatus (s new : State) (i sub : Nat) : Nat :=
  if sub < 3 ∨ 0x10 < sub then Status.ok
  else if i = 0 ∧ 3 ≤ sub ∧ sub ≠ 4 ∧ sub ≠ 5 then Status.deniedAccess
  else if sub = 3 then
    if s.vfEnable then Status.busy
    else if 1792 < ((List.range 31).map (fun j => new.reg (0x2201 + j) 3)).sum then Status.range
    else Status.ok
  else if sub = 4 then
    if new.memoryPool < new.quotaSum then Status.range
    else if new.reg (0x2200 + i) 4 < s.mappedMib i then Status.busy
    else Status.ok
  else if sub = 5 ∨ sub = 9 then Status.ok
  else if new.namesAbsent i sub then Status.notPresent
  else if new.heldTwice i sub ∨ (sub = 6 ∧ new.pairDivided i) then Status.range
  else if (s.claimsMoved new).any (fun c => decide (claimSub c.1 = sub) || decide (c.1 = 1 ∧ sub = 7)) then Status.deniedSecureClaim
  else Status.ok

/-- The head side of a change of holders (R225): commits of the old holder end ABORTED, the take-up awaits its frame start. -/
def State.headsReassign (s old : State) : State :=
  s.each (List.range (2 * s.dies)) (fun t h =>
    let whole := decide (old.headHolder h ≠ s.headHolder h)
    let ls := (s.layersOf h).filter (fun l => decide (old.layerHolder l ≠ s.layerHolder l))
    if ls = [] ∧ !whole then t
    else
      let touches := fun (p : PendingCommit) => ls.any (fun l => decide (old.layerHolder l = p.inst) && p.records.any (fun r => decide (r.1 = 0x4000 + l)))
      let t1 := t.discardPending h (fun p => (whole && decide (p.inst = old.headHolder h)) || touches p) Status.aborted
      let t2 := t1.modHead h (fun x => { x with takeWhole := x.takeWhole || whole, takeLayers := x.takeLayers ++ ls })
      let x := t2.head (t2.timingHead h)
      if x.running ∨ x.startPending then t2 else (t2.modHead h (fun y => { y with takeArmed := true })).takeOver h)

/-- What the application of an assignment write takes from the old holders (R225). `old` is the state before. -/
def State.takeAssignments (s old : State) : State :=
  let s1 := s.headsReassign old
  let s2 := s1.each ((List.range (16 * s.dies)).filter (fun c => decide (old.contextHolder c ≠ s.contextHolder c))) (fun t c =>
    let t1 := if (t.ctx c).job.isSome then t.abandonJob c true else t
    if (t1.ctx c).wait.isSome then (t1.modCtx c (fun x => { x with wait := none })).setCtxState c 0 else t1)
  let s3 := s2.each ((List.range (64 * s.dies)).filter (fun k => decide (old.keyHolder k ≠ s.keyHolder k))) (fun t k =>
    t.modKey k (fun w => { w with oldHolder := some (w.oldHolder.getD (old.keyHolder k)) }))
  let s4 := s3.each ((List.range 128).filter (fun r => decide (old.rowHolder r ≠ s.rowHolder r))) (fun t r => t.rowTaken r)
  let s5 := s4.each ((List.range s.unitCount).filter (fun u => decide (old.unitHolder (64 + u) ≠ s.unitHolder (64 + u)))) (fun t u => t.streamReset u)
  s5.each (List.range 32) (fun t i => (t.lanesTaken i).withdrawTargets i)

/-- An assignment write of instance i has been applied; its taken-up event is due (R225). -/
def State.awaitTaken (s : State) (i : Nat) : State := s.modInst i (fun x => { x with takenFrom := some s.now })

end Sys2Proof.Machine
end

