-- ==== Sys2Proof/Machine/Image.lean ====
section
/-! DEFINITION. Signed images (R91 to R94, R256, R257): the Hexuno image, its sections and checks, and the secure applet image. -/
namespace Sys2Proof.Machine

/-- Size of the boot region (R87). -/
def bootRegionSize : Nat := 0x2000000
/-- Region offset of the ring image (R87). -/
def ringOffset : Nat := 0x1800000

/-! ### The trailer (R93) -/

/-- X‖Y of a 256-byte trailer. -/
def trailerKey (t : List Byte) : List Byte := slice t 0 96
/-- r‖s of a trailer. -/
def trailerSignature (t : List Byte) : List Byte := slice t 0x60 96
/-- The reserved bytes of a trailer are 0. -/
def trailerReservedZero (t : List Byte) : Bool := allZero (slice t 0xC0 64)
/-- The last 256 bytes of an image. -/
def trailerOf (img : List Byte) : List Byte := img.drop (img.length - 256)
/-- The bytes that the signature covers. -/
def signedPart (img : List Byte) : List Byte := img.take (img.length - 256)
/-- The signature verifies over the SHA-384 of the signed part. -/
def signatureOk (img : List Byte) : Bool :=
  Config.ecdsaVerify (trailerKey (trailerOf img)) (Config.sha384 (signedPart img)) (trailerSignature (trailerOf img))

/-! ### The Hexuno image (R91, R92) -/

/-- A section entry of R92. -/
structure Section where
  type       : Nat
  dieMask    : Nat
  flags      : Nat
  offset     : Nat
  length     : Nat
  reserved   : Nat
  loadOffset : Nat
  entry      : Nat
deriving DecidableEq, Repr

/-- Section entry i of an image. -/
def sectionAt (img : List Byte) (i : Nat) : Section :=
  let b := slice img (0x40 + 32 * i) 32
  { type := field b 0 1, dieMask := field b 1 1, flags := field b 2 2, offset := field b 4 4, length := field b 8 4, reserved := field b 0xC 4,
    loadOffset := field b 0x10 8, entry := field b 0x18 8 }

/-- The sections of an image. -/
def sectionsOf (img : List Byte) : List Section := (List.range (field img 6 2)).map (sectionAt img)

/-- The bytes of a section. -/
def Section.bytes (x : Section) (img : List Byte) : List Byte := slice img x.offset x.length

/-- One section satisfies check 8 of R94 by itself. -/
def Section.ok (x : Section) (imageLength : Nat) : Bool :=
  decide (1 ≤ x.type ∧ x.type ≤ 5 ∧ x.offset % 4096 = 0 ∧ x.loadOffset % 4096 = 0 ∧ 1 ≤ x.length) &&
  decide (x.entry = 0xFFFFFFFFFFFFFFFF ∨ x.entry < x.length) &&
  decide (0x1000 ≤ x.offset ∧ x.offset + x.length ≤ imageLength - 256) &&
  decide (x.loadOffset + x.length ≤ 0x80000000 - 0x100000) &&
  (!bit x.dieMask 0 || decide (bootRegionSize ≤ x.loadOffset))

/-- Two sections share no byte of the image. -/
def Section.apart (x y : Section) : Bool := decide (x.offset + x.length ≤ y.offset ∨ y.offset + y.length ≤ x.offset)

/-- No two sections of a list overlap. -/
def sectionsApart : List Section → Bool
  | [] => true
  | x :: xs => xs.all x.apart && sectionsApart xs

/-- Check 8 of R94 over all sections of an image for a part. -/
def sectionsOk (p : Part) (img : List Byte) : Bool :=
  let xs := sectionsOf img
  xs.all (fun x => x.ok img.length) && sectionsApart xs &&
  decide ((xs.filter (fun x => decide (x.type = 1) && bit x.dieMask 0)).length = 1) &&
  decide ((xs.filter (fun x => x.type = 3)).length = 1) &&
  ((List.range p.dies).drop 1).all (fun d => xs.any (fun x => decide (x.type = 2) && bit x.dieMask d))

/-- Check 3 of R94: every reserved field is 0. -/
def reservedOk (img : List Byte) : Bool :=
  let n := field img 6 2
  decide (bits (field img 0x13 1) 7 3 = 0) && allZero (slice img 0x16 2) && allZero (slice img 0x20 32) &&
  (sectionsOf img).all (fun x => decide (x.flags < 4 ∧ x.reserved = 0)) &&
  allZero (slice img (0x40 + 32 * n) (0x200 - (0x40 + 32 * n))) && trailerReservedZero (trailerOf img)

/-- The bytes of the boot region from an offset. -/
def State.bootBytes (s : State) (off n : Nat) : List Byte := s.mem.readBytes (stackBase 0 + off) n

/-- The checks of R94 on the image that IMAGE_LENGTH bytes of the boot region hold: the halt code of the first that fails. -/
def State.imageCheck (s : State) (imageLength ringLength : Nat) : Option Nat :=
  let img := s.bootBytes 0 imageLength
  let head := s.bootBytes 0 0x200
  let sv := field head 0x10 2
  let slot := field head 0x12 1
  if imageLength ≠ field head 8 4 ∨ imageLength % 16 ≠ 0 ∨ imageLength < 8192 ∨ ringOffset < imageLength ∨ 0x800000 < ringLength then some 0x0201
  else if field head 0 4 ≠ 0x4E555848 ∨ field head 4 2 ≠ 1 ∨ field head 6 2 < 1 ∨ 14 < field head 6 2 ∨ 64 < sv ∨ 3 < slot then some 0x0202
  else if !reservedOk img then some 0x0202
  else if !bit (field head 0x13 1) s.part.maskBit ∨ Config.romVersion.toNat < field head 0x14 2 then some 0x0203
  else if bit s.fuses.keysRevoked slot ∨ Config.sha384 (trailerKey (trailerOf img)) ≠ Config.fuseKeyHash slot then some 0x0204
  else if !signatureOk img then some 0x0205
  else if sv < s.fuses.securityCount then some 0x0206
  else if !sectionsOk s.part img then some 0x0207
  else none

/-! ### Applet images (R256, R257) -/

/-- Check 1 of R257: length and header within the table of R256, reserved fields 0. -/
def appletHeaderOk (dies : Nat) (img : List Byte) : Bool :=
  let code := field img 0x10 4
  let data := field img 0x14 4
  let entry := field img 0x20 4
  decide (384 ≤ img.length ∧ img.length = 128 + code + data + 256) &&
  decide (field img 0 4 = 0x54454C41 ∧ field img 4 2 = 1 ∧ 1 ≤ field img 6 2 ∧ field img 6 2 ≤ 15 ∧ field img 0xC 1 ≤ 1) &&
  (List.range dies).any (fun d => bit (field img 0xD 1) d) &&
  decide (code % 4 = 0 ∧ 4 ≤ code ∧ code + data ≤ 1048576) &&
  decide (field img 0x18 4 % 4096 = 0 ∧ field img 0x1C 4 % 4096 = 0 ∧ field img 0x1C 4 ≤ 67108864) &&
  decide (entry % 4 = 0 ∧ entry < code) &&
  allZero (slice img 0xE 2) && allZero (slice img 0x28 0x58) && trailerReservedZero (trailerOf img)

/-- The applet that an image describes. -/
def appletOf (img : List Byte) : Applet :=
  { version := field img 8 4, keySlot := field img 0xC 1, dieMask := field img 0xD 1, sramBytes := field img 0x18 4, dramBytes := field img 0x1C 4,
    entry := field img 0x20 4, claimMask := field img 0x24 4, program := slice img 128 (field img 0x10 4 + field img 0x14 4) }

/-- The key slot of an image is burned and not revoked, and the hash of its key is the slot's (check 2 of R257). -/
def State.appletKeyOk (s : State) (img : List Byte) : Bool :=
  let slot := field img 0xC 1
  bit s.fuses.appletState slot && !bit s.fuses.appletState (2 + slot) &&
  decide (Tab.find? s.fuses.appletHash slot = some (Config.sha384 (trailerKey (trailerOf img))))

/-- Check 4 of R257: the granules asked for fit on every die of the mask beside the other applets loaded. -/
def State.appletFits (s : State) (id : Nat) (x : Applet) : Bool :=
  let others := s.worlds.applets.filter (fun (e : Nat × Applet) => decide (e.1 ≠ id))
  (s.dieList.filter (fun d => bit x.dieMask d)).all (fun d =>
    let on := (others.filter (fun e => bit e.2.dieMask d)).map (·.2)
    decide (x.sramBytes / 4096 + (on.map (fun y => y.sramBytes / 4096)).sum ≤ 56) &&
    decide (x.dramBytes + (on.map (fun y => y.dramBytes)).sum ≤ field (s.regBytes 0x2220 2) (2 * d) 2 * 1048576))

/-- The status of loading an image (R257). -/
def State.appletStatus (s : State) (img : List Byte) : Nat :=
  let id := field img 6 2
  let held : Bool := match Tab.find? s.worlds.applets id with
    | none => false
    | some x => x.suspended.isSome || s.worlds.claims.any (fun c => decide (c.applet = id))
  if !appletHeaderOk s.dies img then Status.range
  else if !s.appletKeyOk img ∨ !signatureOk img then Status.deniedAccess
  else if !s.appletFits id (appletOf img) ∨ held then Status.busy
  else Status.ok

end Sys2Proof.Machine
end

