-- ==== Sys2Proof/Machine/Worlds.lean ====
section
/-! DEFINITION. Worlds and debug (R241 to R269): WCALL and WRET, monitor services, applets, claims, secure entry, the debug enables, and what a core writes on the bus. -/
namespace Sys2Proof.Machine

/-! ### Exceptions of a core (R242, R247, R251, R254) -/

/-- A fault in the monitor halts its core, and the die's Core is failed (R254, R683). -/
def State.monitorFault (s : State) (c : Nat) : State := (s.modCpu c (fun x => { x with halted := true })).coreFailed (c / 4) 3 true

/-- A core takes an exception (R242): in the normal world to supervisor mode; in the secure world to the monitor, where an exception of an
applet is the applet's fault, and ABORTED is the result of the call it runs, and one of the monitor is the monitor's own fault (R254). -/
def State.coreException (s : State) (c cause : Nat) : State :=
  let x := s.cpu c
  match x.world with
  | .normal => s.modCpu c (fun y => { y with trap := some .supervisor, mode := .supervisor, scause := cause })
  | .secure =>
    let s1 := s.modCpu c (fun y => { y with trap := some .machine, mode := .machine, mcause := cause })
    match x.mode, x.service with
    | .user, some v => (s1.faultApplet (v / 65536)).endCall c { status := Status.aborted }
    | .machine, _ => s1.monitorFault c
    | _, _ => s1

/-! ### WCALL and WRET (R250 to R252) -/

/-- A core executes in a mode: outside machine mode, a secure interrupt it had taken has been served. -/
def State.executes (s : State) (core : Nat) (mode : Privilege) : State :=
  s.modCpu core (fun x => { x with mode := mode, trap := none, irqFrom := if mode = .machine then x.irqFrom else none })

/-- The 32 registers of a core as a table. -/
def regTable (regs : List Nat) : Tab Nat := (List.range 32).map (fun k => (k, if k = 0 then 0 else regs.getD k 0))

/-- WCALL (R251): supervisor mode of the normal world enters the monitor with mcause 24; anywhere else it is an illegal instruction. -/
def State.wcall (s : State) (core : Nat) (mode : Privilege) (regs : List Nat) : State :=
  let s1 := s.executes core mode
  if (s.cpu core).world = .normal ∧ mode = .supervisor then
    s1.modCpu core (fun x => { x with
      world := .secure, mode := .machine, mcause := 24, regs := regTable regs, service := some (regs.getD 17 0 % 2 ^ 32), result := none,
      resumes := false, callAt := s.now })
  else s1.coreException core causeIllegal

/-- The registers after WRET (R252): a0 the status, a1 to a5 the results, t0 to t6 zero, the others as at the WCALL. -/
def wretRegs (x : CpuCore) : Tab Nat :=
  let r := x.result.getD { status := Status.notPresent }
  (List.range 32).map (fun k =>
    (k, if k = 10 then r.status
        else if 11 ≤ k ∧ k ≤ 15 then r.values.getD (k - 11) 0
        else if (5 ≤ k ∧ k ≤ 7) ∨ (28 ≤ k ∧ k ≤ 31) then 0
        else Tab.getD x.regs k 0))

/-- WRET (R251): machine mode of the secure world resumes the normal world; anywhere else it is illegal. After a secure interrupt that the normal
world was interrupted by, it resumes as it was (R253, log entry 147). -/
def State.wret (s : State) (core : Nat) (mode : Privilege) : State :=
  let s1 := s.executes core mode
  if (s.cpu core).world = .secure ∧ mode = .machine then
    match (s.cpu core).irqFrom with
    | some (.normal, m) => s1.modCpu core (fun x => { x with world := .normal, mode := m, irqFrom := none })
    | _ => s1.modCpu core (fun x => { x with world := .normal, mode := .supervisor, regs := wretRegs x, service := none, result := none, resumes := false, irqFrom := none })
  else s1.coreException core causeIllegal

/-- A core executes a word of the custom-0 opcode in a mode (R250): WCALL, WRET, or an illegal instruction. A mode that its world never has,
or a word of another opcode, is no such event. -/
def State.custom0 (s : State) (core : Nat) (mode : Privilege) (word : Nat) (regs : List Nat) : State :=
  if !s.cpuRuns core ∨ ((s.cpu core).world = .normal ∧ mode = .machine) ∨ ((s.cpu core).world = .secure ∧ mode = .supervisor) then s
  else match custom0Of word with
    | none => s
    | some .wcall => s.wcall core mode regs
    | some .wret => s.wret core mode
    | some .illegal => (s.executes core mode).coreException core causeIllegal

/-- WCALL (R250, R251), or another word of its opcode. `mode` is the mode the core executes in. -/
def execWcall (core : Nat) (mode : Privilege) (regs : List Nat) (s : State) (word : Nat := wcallWord) : Host.Outcome State Fault Refusal :=
  .next (s.custom0 core mode word regs)

/-- WRET (R251). -/
def execWret (core : Nat) (mode : Privilege) (s : State) : Host.Outcome State Fault Refusal := .next (s.custom0 core mode wretWord [])

/-! ### Services (R252 to R254) -/

/-- The service that a core's call names, while the core is in the secure world. -/
def State.serviceOf (s : State) (c : Nat) : Option Nat :=
  if s.cpuRuns c ∧ (s.cpu c).world = .secure then (s.cpu c).service else none

/-- A call runs in its applet, or has finished. -/
def State.runApplet (s : State) (c a : Nat) (finished : Option ServiceResult) (resumed : Bool) : State :=
  match finished with
  | none => s.modCpu c (fun x => { x with mode := .user, service := some (a * 65536), result := none, resumes := resumed })
  | some r => (s.modApplet a (fun y => { y with resumes := 0 })).endCall c r

/-- RESUME (R252, R253): the call with the token in a0 goes on. What an unknown token returns is free (log entry 30). -/
def execResume (core : Nat) (finished : Option ServiceResult) (s : State) : Host.Outcome State Fault Refusal :=
  if s.serviceOf core ≠ some 1 ∨ (s.cpu core).mode ≠ .machine then .next s
  else
    let token := Tab.getD (s.cpu core).regs 10 0
    match List.find? (fun (e : Nat × Applet) => decide (e.2.suspended = some token)) s.worlds.applets with
    | none => .next (s.useFree.endCall core { status := Config.freeNat s.free % 65536 })
    | some e => .next ((s.modApplet e.1 (fun y => { y with suspended := none })).runApplet core e.1 finished true)

/-- VERSION (R252). -/
def execVersion (core : Nat) (s : State) : Host.Outcome State Fault Refusal :=
  if s.serviceOf core ≠ some 2 then .next s
  else .next (s.endCall core { status := Status.ok, values := [Config.monitorVersion.toNat] })

/-- An applet's function is called (R252 to R254); `offered` says whether the applet offers the function. An applet that is loaded on other
dies only is not loaded here; a faulted one answers HW_FAULT to every call. -/
def execAppletCall (core : Nat) (offered : Bool) (finished : Option ServiceResult) (s : State) : Host.Outcome State Fault Refusal :=
  match s.serviceOf core with
  | none => .next s
  | some v =>
    let a := v / 65536
    if v = 1 ∨ v = 2 ∨ (s.cpu core).mode ≠ .machine then .next s
    else match s.applet? a with
      | none => .next (s.endCall core { status := Status.notPresent })
      | some x =>
        if !bit x.dieMask (core / 4) then .next (s.endCall core { status := Status.notPresent })
        else if x.faulted then .next (s.endCall core { status := Status.hwFault })
        else if x.suspended.isSome then .next (s.endCall core { status := Status.busy })
        else if !offered then .next (s.endCall core { status := Status.notPresent })
        else .next (s.runApplet core a finished false)

/-- A call runs longer than `wcall_budget_us` from its WCALL or RESUME (R253, R254): it is suspended under a token, and the tenth RESUME in
succession that overruns is a fault of the applet. -/
def execWcallBudgetExpiry (core : Nat) (s : State) : Host.Outcome State Fault Refusal :=
  match s.serviceOf core with
  | none => .next s
  | some v =>
    let a := v / 65536
    match s.applet? a with
    | none => .next s
    | some x =>
      if !(s.cpu core).inApplet then .next s
      else
        let s := s.arriveAt ((s.cpu core).callAt + us (s.cfg 0x2300 7))
        let n := if (s.cpu core).resumes then x.resumes + 1 else 0
        if 10 ≤ n then .next ((s.faultApplet a).endCall core { status := Status.aborted })
        else
          let t := s.worlds.nextToken
          let s1 := s.modApplet a (fun y => { y with suspended := some t, resumes := n })
          let s2 : State := { s1 with worlds := { s1.worlds with nextToken := t + 1 } }
          .next (s2.endCall core { status := Status.busy, values := [t] })

/-- An applet faults (R254): ABORTED to its caller. -/
def execAppletFault (core applet : Nat) (s : State) : Host.Outcome State Fault Refusal :=
  if (s.applet? applet).all (·.faulted) then .next s
  else
    let s1 := s.faultApplet applet
    let called := decide ((s.serviceOf core).map (· / 65536) = some applet) && (s.cpu core).inApplet
    .next (if called then s1.endCall core { status := Status.aborted } else s1)

/-- MONITOR_HALT (R254): a fault in the monitor. -/
def execMonitorHalt (core : Nat) (s : State) : Host.Outcome State Fault Refusal :=
  if !s.cpuRuns core then .next s
  else .next (s.monitorFault core)

/-! ### Applet keys and loading (R255, R257) -/

/-- `world.applet_keys.slot_state` (R269). -/
def State.slotState (s : State) : Nat := s.fuses.appletState

/-- A write to `burn` (R255): the lowest empty slot; from the secure world only while a slot is burned. With no empty slot
DENIED_ACCESS (log entry 31). -/
def State.burnWrite (s : State) (req : Requester) (hash : List Byte) : Nat × State :=
  let st := s.fuses.appletState
  if hash.length ≠ 48 then (Status.typeLength, s)
  else if bits st 1 0 ≠ 0 ∧ worldOf req = .normal then (Status.deniedWorld, s)
  else match firstBelow 2 (fun n => !bit st n) with
    | none => (Status.deniedAccess, s)
    | some n => (Status.ok, { s with fuses := { s.fuses with appletState := setBit st n true, appletHash := Tab.put s.fuses.appletHash n hash } })

/-- A write to `revoke` (R269). -/
def State.appletRevokeWrite (s : State) (slot : Nat) : Nat × State :=
  if 1 < slot then (Status.range, s)
  else (Status.ok, { s with fuses := { s.fuses with appletState := setBit s.fuses.appletState (2 + slot) true } })

/-- A write to `world.applet_load.image` (R257). -/
def State.appletLoadWrite (s : State) (img : List Byte) : Nat × State :=
  let st := s.appletStatus img
  let s0 := s.setReg 0x2304 2 st
  if st ≠ Status.ok then (Status.ok, s0)
  else
    let id := field img 6 2
    let x := appletOf img
    let old := match s0.applet? id with | none => [] | some y => s0.appletGranules id y
    let freed : Tab Nat := s0.worlds.perm.filter (fun e => !old.contains e.1)
    let marked := (s0.appletGranules id x).foldl (fun (p : Tab Nat) g => Tab.put p g 1) freed
    let s1 : State := { s0 with worlds := { s0.worlds with applets := Tab.put s0.worlds.applets id x, perm := marked } }
    (Status.ok, (s1.setReg 0x2300 2 (setBit (s1.reg 0x2300 2) id true)).markSram)

/-! ### Claims and secure entry (R258 to R260) -/

/-- The status of the monitor's service, kept for the applet. -/
def State.served (s : State) (status : Nat) : State := { s with worlds := { s.worlds with serviceStatus := status } }

/-- The monitor places a claim (R260). -/
def execSecureClaim (applet cls resource : Nat) (s : State) : Host.Outcome State Fault Refusal :=
  let st := s.claimStatus applet [(cls, resource)]
  .next ((if st = Status.ok then s.placeClaims applet [(cls, resource)] else s).served st)

/-- The monitor releases a claim (R260). -/
def execClaimRelease (applet cls resource : Nat) (s : State) : Host.Outcome State Fault Refusal :=
  .next ((s.releaseClaims (fun c => decide (c.applet = applet ∧ c.cls = cls ∧ c.resource = resource))).served Status.ok)

/-- The keypad service starts secure entry (R258). -/
def execSecureEntryStart (k : KeypadRequest) (s : State) : Host.Outcome State Fault Refusal :=
  let st := s.keypadStatus k
  if st ≠ Status.ok then .next (s.served st)
  else
    let s1 := (s.placeClaims k.applet ((1, k.head) :: k.keys.map (fun x => (2, x)))).served st
    let s2 : State := { s1 with worlds := { s1.worlds with entry := some k } }
    .next ((((s2.setReg 0x2302 1 1).setReg 0x2302 2 k.head).setReg 0x2302 3 s2.now).entryEvent k 1)

/-- The applet ends secure entry (R259). -/
def execSecureEntryEnd (s : State) : Host.Outcome State Fault Refusal := .next (s.endSecureEntry 2)

/-- Secure entry reaches `max_s` (R259). -/
def execSecureEntryLimit (s : State) : Host.Outcome State Fault Refusal :=
  if s.worlds.entry = none then .next s
  else .next ((s.arriveAt (s.reg 0x2302 3 + sec (s.cfg 0x2302 4))).endSecureEntry 3)

/-! ### Debug (R264 to R266) -/

/-- The closure of the debug enables under SID → SNID, SID → NID, NID → NNID (R264). -/
def debugClosure (v : Nat) : Nat :=
  let a := if bit v 3 then v ||| 6 else v
  if bit a 1 then a ||| 1 else a

/-- The effective enables (R264, 0x2301.02). -/
def State.debugEffective (s : State) : Nat := debugClosure (s.fuses.debugEnables % 16 ||| s.worlds.unlocked)

/-- A fresh challenge (R265): 32 random bytes and the unique ID. -/
def State.newChallenge (s : State) : List Byte × State :=
  let c := (Config.random s.worlds.nonces ++ List.replicate 32 0).take 32 ++ (Config.uniqueId ++ List.replicate 16 0).take 16
  (c, { s with worlds := { s.worlds with challenge := some c, nonces := s.worlds.nonces + 1 } })

/-- A response is valid for the challenge outstanding (R265). -/
def State.debugResponseOk (s : State) (resp : List Byte) : Bool :=
  match s.worlds.challenge with
  | none => false
  | some c =>
    decide (resp.length = 100 ∧ field resp 0 4 < 16) && s.fuses.debugKey && decide (Config.sha384 Config.debugKey = Config.debugKeyHash) &&
    Config.ecdsaVerify Config.debugKey (Config.sha384 (c ++ slice resp 0 4)) (slice resp 4 96)

/-- A debug response (R265, R266): the enables it opens, the store zeroised and the flag set before a secure enable opens. -/
def State.debugResponseWrite (s : State) (resp : List Byte) : Nat × State :=
  let s1 : State := { s with worlds := { s.worlds with challenge := none } }
  if !s.debugResponseOk resp then (Status.deniedAccess, s1)
  else
    let old := s1.debugEffective
    let open' := s1.worlds.unlocked ||| field resp 0 4
    let new := debugClosure (s1.fuses.debugEnables % 16 ||| open')
    let s2 := if bits new 3 2 ≠ bits old 3 2 then
        ({ s1 with power := { s1.power with zeroised := true } } : State).setReg 0x2301 3 1
      else s1
    (Status.ok, { s2 with worlds := { s2.worlds with unlocked := open' } })

/-- A write to `relock` (R269). -/
def State.relockWrite (s : State) (v : Nat) : Nat × State :=
  if v ≠ 1 then (Status.range, s) else (Status.ok, { s with worlds := { s.worlds with unlocked := 0 } })

/-! ### Accesses of a management core (R246 to R248, R262) -/

/-- A core's load has its value. -/
def State.loaded (s : State) (core v : Nat) : State := s.modCpu core (fun x => { x with loaded := some v })

/-- A core loads a word (R246, R247): it takes the value, or a load access fault where the access is refused or answered with an error; the bus then
gives zeros, or what is not stated (R26). -/
def State.coreLoad (s : State) (core a : Nat) : State :=
  if !s.cpuRuns core then s
  else
    let w := s.busRead (s.coreAttr core) a
    let t := w.1.loaded core (leNat (s.busBytes (s.coreAttr core) a 4))
    if w.2 = .done then t else t.coreException core causeLoadAccess

/-- A refused store: the core takes a store access fault (R247). -/
def State.storeRefused (s : State) (core : Nat) : State := s.coreException core causeStoreAccess

/-- A core stores the bytes of one word (R246, R247). -/
def State.coreStore (s : State) (core a v : Nat) : State :=
  if !s.cpuRuns core then s
  else
    let w := s.busWrite (s.coreAttr core) a (leBytes 4 v)
    if w.2 = .done then w.1 else w.1.storeRefused core

/-- A core writes a register block of a die's control window (R246 to R248, R262). A permission-table entry takes its code; what a permitted
write does in another block, the manual does not say (log entry 146). A refused one that meets a claim is reported too (R262). -/
def State.controlWrite (s : State) (core die : Nat) (b : ControlBlock) (v : Nat) : State :=
  let at' := s.coreAttr core
  let a := controlBase die + Config.blockOffset (blockNumber b)
  if !s.cpuRuns core then s
  else if s.dies ≤ die ∨ !s.targetServes (.control die) then s.storeRefused core
  else if s.blockRefuses b at'.world then
    ((s.busRefused at' a).gateReported die b).storeRefused core
  else match b with
    | .permission g =>
      if (s.targetAt (4096 * g)).any (fun t => decide (t = .sram die ∨ t = .stack die)) then
        ({ s with worlds := { s.worlds with perm := if v % 4 = 0 then Tab.erase s.worlds.perm g else Tab.put s.worlds.perm g (v % 4) } } : State).secureUse
      else s
    | _ => s

/-- A core reads a register block of a die's control window (R247, R248): the code of a permission-table entry; of another block the manual gives no
value, and it is free. -/
def State.controlRead (s : State) (core die : Nat) (b : ControlBlock) : State :=
  let at' := s.coreAttr core
  if !s.cpuRuns core then s
  else if s.dies ≤ die ∨ !s.targetServes (.control die) then (s.useFree.loaded core (Config.freeNat s.free % 2 ^ 32)).coreException core causeLoadAccess
  else if s.blockRefuses b at'.world then
    ((s.busRefused at' (controlBase die + Config.blockOffset (blockNumber b))).loaded core 0).coreException core causeLoadAccess
  else match b with
    | .permission g => s.loaded core (s.granuleCode (4096 * g))
    | _ => s.useFree.loaded core (Config.freeNat s.free % 2 ^ 32)

end Sys2Proof.Machine
end

