-- ==== Sys2Proof/Machine/RingChecks.lean ====
section
/-! DEFINITION. The prepare checks on a draft (R183, R736): what each die refuses, and the entry reported.
A draft is judged as a view: the state with the draft's values in place of the active and the taken-up ones. -/
namespace Sys2Proof.Machine

/-- A check that a draft fails: its status and the entry reported. -/
structure Refused where
  status : Nat
  idx    : Nat
  sub    : Nat
deriving DecidableEq, Repr

/-- The draft as every subsystem would read it, its pairing too (R300, R349). -/
def State.draftView (s : State) (vals : Tab Val) : State :=
  let v : State := { s with active := vals, taken := vals }
  v.each s.dieList (fun t d => t.modHead (2 * d) (fun x => { x with pairedTaken := decide (v.use (0x3001 + 256 * (2 * d)) 5 = 1) }))

/-- Two rings differ in an entry. -/
def State.differsAt (s v : State) (e : Nat × Nat) : Bool := decide (s.activeAt e.1 e.2 ≠ v.activeAt e.1 e.2)

/-- Ascending order of (index, sub). -/
def entryBefore (a b : Nat × Nat) : Bool := decide (a.1 < b.1 ∨ (a.1 = b.1 ∧ a.2 < b.2))

/-- The lowest of a list of entries. -/
def lowestEntry : List (Nat × Nat) → Option (Nat × Nat)
  | [] => none
  | a :: as => match lowestEntry as with
    | none => some a
    | some b => some (if entryBefore b a then b else a)

/-- The entry that R736 gives for the entries a check reads: the lowest changed one, else the lowest. -/
def State.blame (s v : State) (reads : List (Nat × Nat)) : Nat × Nat :=
  ((lowestEntry (reads.filter (s.differsAt v))).orElse (fun _ => lowestEntry reads)).getD (0, 0)

/-- The result of a check that reads several entries. -/
def State.judge (s v : State) (ok : Bool) (status : Nat) (reads : List (Nat × Nat)) : List Refused :=
  if ok then [] else let e := s.blame v reads; [{ status := status, idx := e.1, sub := e.2 }]

/-- The result of a check whose rule names its entry. -/
def refusedAt (ok : Bool) (status idx sub : Nat) : List Refused := if ok then [] else [{ status := status, idx := idx, sub := sub }]

/-! ### Heads (R275, R300, R319, R349, R362, R372) -/

/-- A head is paired in a ring (R300). -/
def State.pairedIn (v : State) (h : Nat) : Bool := decide (v.use (0x3001 + 256 * (h / 2 * 2)) 5 = 1)
/-- The head whose mode a head uses in a ring. -/
def State.modeHead (v : State) (h : Nat) : Nat := if v.pairedIn h then h / 2 * 2 else h
/-- The pair entry that says whose mode a head uses. -/
def pairEntry (h : Nat) : Nat × Nat := (0x3001 + 256 * (h / 2 * 2), 5)
/-- The entries of a mode that a line's time is read from: the pixel clock and the horizontal total. -/
def lineReads (h : Nat) : List (Nat × Nat) := [2, 3, 4, 5, 6].map (fun k => (0x3000 + 256 * h, k))

/-- The limits of R275 on a head. -/
def State.checkMode (s v : State) (h : Nat) : List Refused :=
  let i := 0x3000 + 256 * h
  (modeLimits (v.modeAt h) (v.pairedIn h) (v.use (i + 1) 1) (v.use (i + 1) 2)).flatMap (fun c =>
    s.judge v c.1 Status.range (c.2.map (fun e => (i + e / 256, e % 256)) ++ if c.2 = [2] then [pairEntry h] else []))

/-- Every protected region lies wholly inside its head's mode (R275). -/
def State.checkRegionInside (s v : State) (h : Nat) : List Refused :=
  let m := v.modeAt (v.modeHead h)
  (v.enabledRegions h).flatMap (fun r =>
    let u := v.use (0x4300 + r)
    s.judge v (decide (u 2 + u 4 ≤ m.hActive ∧ u 3 + u 5 ≤ m.vActive)) Status.range
      (pairEntry h :: (0x3000 + 256 * v.modeHead h, 3) :: (0x3000 + 256 * v.modeHead h, 7) :: (List.range 5).map (fun k => (0x4300 + r, k + 1))))

/-- The pair entry of an odd head accepts only 0 (R300). -/
def State.checkPair (v : State) (h : Nat) : List Refused :=
  refusedAt (decide (h % 2 = 0 ∨ v.use (0x3001 + 256 * h) 5 = 0)) Status.range (0x3001 + 256 * h) 5

/-- `commit_guard` of a head lies below the v_active of the mode it uses (R319). -/
def State.checkGuard (s v : State) (h : Nat) : List Refused :=
  let t := v.modeHead h
  s.judge v (decide (v.use (0x3006 + 256 * h) 1 < (v.modeAt t).vActive)) Status.range [(0x3000 + 256 * t, 7), (0x3006 + 256 * h, 1), pairEntry h]

/-- The start window of an enabled head is at least 60 µs (R349), in the timing the head would run (R278). -/
def State.checkWindow (s v : State) (h : Nat) : List Refused :=
  let t := v.modeHead h
  let i := 0x3000 + 256 * t
  let m := v.modeAt t
  let var := v.variableOk h m
  let lines := if var then 2 + m.vSync + m.vBack else m.vtFixed - (m.vActive - 1 - v.use (i + 6) 1)
  let timing := (i, 0xD) :: (if m.adaptive then [7, 8, 9, 0xA, 0xE, 0xF, 0x10, 0x11].map (fun k => (i, k)) else [])
  let span := if var then [(i, 9), (i, 0xA)] else [(i, 7), (i, 8), (i, 9), (i, 0xA), (i + 6, 1)]
  s.judge v (decide (v.use i 1 = 0 ∨ 60 * m.pixelKhz ≤ lines * m.htotal * 1000)) Status.range
    ((i, 1) :: pairEntry h :: timing ++ span ++ lineReads t)

/-- The coefficients of the matrix: m from −8.0 to +8.0, o from −1.0 to +1.0 (R362). -/
def State.checkMatrix (v : State) (h : Nat) : List Refused :=
  let bs := v.useBytes (0x3009 + 256 * h) 3
  let ok := (List.range 12).all (fun k =>
    let x := signedOf 32 (field bs (4 * k) 4)
    let top : Int := if k % 4 = 3 then 65536 else 524288
    decide (-top ≤ x ∧ x ≤ top))
  refusedAt ok Status.range (0x3009 + 256 * h) 3

/-- The fetch rate of a head's layers in a ring (R371, R372): a layer that changes head, or that stops to be a Heartwood layer, is disabled by the
uptake (R350, R399), and every enabled region's layer fetches its width (R394). -/
def State.headFetchIn (s v : State) (h : Nat) : Nat :=
  let m := v.modeAt (v.modeHead h)
  let own := (v.layersOf h).filter (fun l => decide (s.layerHead l = v.layerHead l) && !v.heartwoodLayer l && !s.heartwoodLayer l)
  (own.map (fun l => v.layerRate l m)).sum + ((v.enabledRegions h).map (fun r => fetchRate 8 (v.use (0x4300 + r) 4) 1 1 m)).sum

/-- The fetch sum that a ring would leave on a die. -/
def State.fetchIn (s v : State) (d : Nat) : Nat := ((s.composedBy d).map (s.headFetchIn v)).sum

/-- R372. -/
def State.checkFetch (s v : State) (d : Nat) : List Refused :=
  s.judge v (decide (s.fetchIn v d ≤ 25600)) Status.busy ((s.composedBy d).flatMap (fun h =>
    pairEntry h :: lineReads (v.modeHead h) ++ (List.range 32).map (fun k => (0x4000 + 32 * (h / 2) + k, 1)) ++
    (List.range 8).flatMap (fun n => [(0x4300 + 8 * h + n, 1), (0x4300 + 8 * h + n, 4), (0x4300 + 8 * h + n, 6)])))

/-! ### Canopy and Heartwood (R387, R393, R394, R414) -/

/-- Two rectangles share a pixel. -/
def State.regionsMeet (v : State) (a b : Nat) : Bool :=
  let x := v.use (0x4300 + a)
  let y := v.use (0x4300 + b)
  decide (x 2 < y 2 + y 4 ∧ y 2 < x 2 + x 4 ∧ x 3 < y 3 + y 5 ∧ y 3 < x 3 + x 5)

/-- Carve-outs leave the quotas their memory (R387): BUSY at the first changed `carve_mib`. -/
def State.checkPool (s v : State) : List Refused :=
  let pool := s.poolWith (fun h => v.use (0x4200 + h) 2)
  if decide (s.memoryPool ≤ pool ∨ s.quotaSum ≤ pool) then []
  else match (List.range (2 * s.dies)).find? (fun h => s.differsAt v (0x4200 + h, 2)) with
    | none => []
    | some h => [{ status := Status.busy, idx := 0x4200 + h, sub := 2 }]

/-- Regions of a head do not overlap (R393), and each names a layer of its own (R394). -/
def State.checkRegions (s v : State) (h : Nat) : List Refused :=
  let rs := v.enabledRegions h
  rs.flatMap (fun r =>
    let l := v.use (0x4300 + r) 6
    let lower := rs.filter (fun q => decide (q < r))
    refusedAt (lower.all (fun q => !v.regionsMeet q r)) Status.range (0x4300 + r) 1 ++
    s.judge v (decide (8 ≤ l ∧ l ≤ 31) && decide (v.layerHead (32 * (h / 2) + l) = h)) Status.range
      ([(0x4300 + r, 1), (0x4300 + r, 6)] ++ (if l ≤ 31 then [(0x4000 + 32 * (h / 2) + l, 1)] else [])) ++
    lower.flatMap (fun q => s.judge v (decide (v.use (0x4300 + q) 6 ≠ l)) Status.range
      [(0x4300 + q, 1), (0x4300 + q, 6), (0x4300 + r, 1), (0x4300 + r, 6)]))

/-- What a claimed head forbids a draft to change (R414). -/
def State.checkClaimedHead (s v : State) (h : Nat) : List Refused :=
  if !s.claimed 1 h then []
  else
    let layers := (s.enabledRegions h ++ v.enabledRegions h).flatMap (fun r => [s.use (0x4300 + r) 6, v.use (0x4300 + r) 6])
    let guarded := [(0x3009 + 256 * h, 4), (0x3009 + 256 * h, 5)] ++
      (List.range 88).map (fun k => (0x4300 + 8 * h + k / 11, k % 11 + 1)) ++
      (layers.filter (fun l => decide (l ≤ 31))).map (fun l => (0x4000 + 32 * (h / 2) + l, 1))
    s.judge v (guarded.all (fun e => !s.differsAt v e)) Status.deniedSecureClaim guarded

/-- The object whose sub 0x01 a ring stops a block of a class by (R261): a head, key or haptic channel disabled, a lane OFF. -/
def stopIndex (cls n : Nat) : Nat :=
  if cls = 1 then 0x3000 + 256 * n else if cls = 2 then 0x6200 + n else if cls = 3 then 0x6400 + n else 0x7000 + n

/-- The claimed blocks that a ring would stop (R261). -/
def State.claimsStopped (s : State) (vals : Tab Val) : List (Nat × Nat) :=
  let v := s.draftView vals
  let stops := fun (idx sub : Nat) => decide (s.activeAt idx sub ≠ .num 0 ∧ v.activeAt idx sub = .num 0)
  (s.worlds.claims.filter (fun c => [1, 2, 3, 8].contains c.cls && stops (stopIndex c.cls c.resource) 1)).map (fun c => (c.cls, c.resource))

/-- A ring that stops a claimed block is refused (R261). -/
def State.checkClaimedStop (s : State) (vals : Tab Val) : List Refused :=
  (s.claimsStopped vals).map (fun c =>
    ({ status := Status.deniedSecureClaim, idx := stopIndex c.1 c.2, sub := 1 } : Refused))

/-! ### Keys (R259, R463, R478) -/

/-- Enabled keys of a die in a ring. -/
def State.keysIn (v : State) (d : Nat) : List Nat := ((List.range 64).map (64 * d + ·)).filter (fun k => decide (v.use (0x6200 + k) 1 = 1))

/-- R478 on one key: electrodes of the right roles, a node no lower key names, thresholds in order. -/
def State.checkKey (v : State) (d k : Nat) : List Refused :=
  let u := v.use (0x6200 + k)
  let role := fun (e : Nat) => if e < 16 then v.use (0x6000 + 16 * d + e) 1 else 0
  let named := (v.keysIn d).any (fun j => decide (j < k ∧ v.use (0x6200 + j) 2 = u 2 ∧ v.use (0x6200 + j) 3 = u 3))
  let on := decide (u 1 = 1)
  refusedAt (!on || decide (role (u 2) = 1) && !named) Status.range (0x6200 + k) 2 ++
  refusedAt (!on || decide (role (u 3) = 2)) Status.range (0x6200 + k) 3 ++
  refusedAt (!on || decide (u 4 = 0xFF ∨ role (u 4) = 1 ∨ role (u 4) = 2)) Status.range (0x6200 + k) 4 ++
  refusedAt (decide (u 6 < u 5)) Status.range (0x6200 + k) 6

/-- R478 and R463 on a die. -/
def State.checkKeys (s v : State) (d : Nat) : List Refused :=
  let txs := ((List.range 16).map (16 * d + ·)).filter (fun e => decide (v.use (0x6000 + e) 1 = 1))
  let wakes := ((List.range 64).map (64 * d + ·)).filter (fun k => decide (v.use (0x6200 + k) 0xF = 1))
  let q := 0x6100 + d
  let h := v.use q 4
  let m := v.modeAt (v.modeHead h)
  (match txs.drop 8 with | [] => [] | e :: _ => [{ status := Status.range, idx := 0x6000 + e, sub := 1 }]) ++
  ((List.range 64).map (64 * d + ·)).flatMap (v.checkKey d) ++
  (match wakes.drop 1 with | [] => [] | k :: _ => [{ status := Status.range, idx := 0x6200 + k, sub := 0xF }]) ++
  refusedAt (decide (2 * s.dies ≤ h ∨ v.use q 6 * m.htotal * 1000 ≤ 2 * m.pixelKhz)) Status.range q 6

/-- The entries of a key named in an active secure entry stay (R259, R516): the key's own and its action word. -/
def State.checkSecureKeys (s v : State) : List Refused :=
  match s.worlds.entry with
  | none => []
  | some k =>
    let es := k.keys.flatMap (fun x => (0x6600 + keyDie x, x % 64 + 1) :: (List.range 16).map (fun n => (0x6200 + x, n + 1)))
    s.judge v (es.all (fun e => !s.differsAt v e)) Status.deniedSecureClaim es

/-! ### Haptics and reflexes (R491, R493, R496, R516) -/

/-- A haptic channel is present and enabled in a ring. -/
def State.channelOn (v : State) (c : Nat) : Bool := decide (c < 2 * v.dies ∧ v.use (0x6400 + c) 1 = 1)
/-- An effect is defined in a ring (R491). -/
def State.effectDefined (v : State) (n : Nat) : Bool := !(v.useBytes (0x6500 + n) 1).isEmpty

/-- The entry for a reference that fails (R496): the naming entry, or what R736 gives when the draft changed what is named. -/
def State.checkNamed (s v : State) (ok : Bool) (own other : Nat × Nat) (guarded : Nat × Nat) : List Refused :=
  if ok then []
  else if s.differsAt v other then s.judge v false Status.range [guarded, own, other]
  else [{ status := Status.range, idx := own.1, sub := own.2 }]

/-- R493 and R496 on a channel object. -/
def State.checkChannel (s v : State) (c : Nat) : List Refused :=
  let i := 0x6400 + c
  let u := v.use i
  s.judge v (decide (3 * u 3 ≤ 2 * u 2)) Status.range [(i, 2), (i, 3)] ++
  s.judge v (decide (u 0xB ≤ u 0xA ∧ u 0xA ≤ u 0xC)) Status.range [(i, 0xA), (i, 0xB), (i, 0xC)] ++
  (if u 0x14 = 0 then []
   else s.checkNamed v (v.channelOn (u 0x15)) (i, 0x15) (0x6400 + u 0x15, 1) (i, 0x14) ++
        s.checkNamed v (v.effectDefined (u 0x16)) (i, 0x16) (0x6500 + u 0x16, 1) (i, 0x14))

/-- An action word in itself (R514, R516): reserved bits and codes, an absent sprite's head, and what a pin's word may hold. -/
def State.wordOk (v : State) (w : Nat) (pin : Bool) : Bool :=
  decide (w < 2 ^ 41 ∧ bits w 23 23 = 0 ∧ bits w 33 31 < 6 ∧ bits w 36 34 < 6 ∧ bits w 22 13 ≤ 1000) &&
  decide ((bits w 33 31 = 0 ∧ bits w 36 34 = 0) ∨ bits w 30 24 < 16 * v.dies) &&
  (!bit w 37 || decide (v.use (0x6810 + bits w 40 38) 1 = 1)) &&
  (!pin || decide (bits w 22 0 = 0 ∧ bits w 36 34 = 0))

/-- R516 on one sub of a die's reflex object, which names that sub whatever the draft changed. -/
def State.checkWord (v : State) (d sub : Nat) : List Refused :=
  let w := v.use (0x6600 + d) sub
  let plays := decide (!bit w 0 ∨ 0x41 ≤ sub) || (v.channelOn (bits w 4 1) && v.effectDefined (bits w 12 5))
  refusedAt (v.wordOk w (decide (0x41 ≤ sub)) && plays) Status.range (0x6600 + d) sub

/-! ### Audio, lanes, Sapflow, survey (R550, R562, R648, R660) -/

/-- A port's amplifier pin lies on a present die (R550). -/
def State.checkAmp (v : State) (p : Nat) : List Refused :=
  let i := 0x6808 + p
  refusedAt (decide (v.use i 7 ≠ 1 ∨ v.use i 8 / 4 < v.dies)) Status.range i 8

/-- The rates of a lane's mode (R562). -/
def State.checkLane (v : State) (n : Nat) : List Refused :=
  let u := v.use (0x7000 + n)
  refusedAt (decide (u 1 ≠ 1 ∨ (9600 ≤ u 2 ∧ u 2 ≤ 12000000)) && (decide (u 1 ≠ 2) || [125000, 250000, 500000, 1000000].contains (u 2)))
    Status.range (0x7000 + n) 2 ++
  refusedAt (decide (u 1 ≠ 2) || [0, 1000000, 2000000, 4000000, 5000000, 8000000].contains (u 3)) Status.range (0x7000 + n) 3

/-- `gfx_max_mhz` is not below `gfx_floor_mhz` (R648). -/
def State.checkSapflow (s v : State) : List Refused :=
  s.judge v (decide (v.use 0x2500 3 ≤ v.use 0x2500 4)) Status.range [(0x2500, 3), (0x2500, 4)]

/-- A speaker measurement names two TDM inputs, and PILOT needs the pilot (R660). -/
def State.checkSpeaker (s v : State) (o : Nat) : List Refused :=
  let i := 0x2620 + o
  let u := v.use i
  if u 1 = 0 then []
  else s.judge v (decide (u 2 < 64)) Status.range [(i, 1), (i, 2)] ++ s.judge v (decide (u 3 < 64)) Status.range [(i, 1), (i, 3)] ++
    s.judge v (decide (u 1 ≠ 2 ∨ v.use (0x6A00 + o) 0xD = 1)) Status.range [(i, 1), (0x6A00 + o, 0xD)]

/-! ### The whole draft -/

/-- Every check that a draft fails on die d. -/
def State.dieRefuses (s v : State) (d : Nat) : List Refused :=
  [2 * d, 2 * d + 1].flatMap (fun h => s.checkMode v h ++ s.checkRegionInside v h ++ v.checkPair h ++ s.checkGuard v h ++ s.checkWindow v h ++
    v.checkMatrix h ++ s.checkRegions v h ++ s.checkClaimedHead v h ++ s.checkChannel v h) ++
  s.checkFetch v d ++ s.checkKeys v d ++ (List.range 66).flatMap (fun k => v.checkWord d (k + 1)) ++
  v.checkAmp d ++ (List.range 8).flatMap (fun k => v.checkLane (8 * d + k))

/-- Every check that a draft fails. -/
def State.refusals (s : State) (vals : Tab Val) : List Refused :=
  let v := s.draftView vals
  s.checkPool v ++ s.checkClaimedStop vals ++ s.dieList.flatMap (s.dieRefuses v) ++ s.checkSecureKeys v ++
  (List.range 256).flatMap (fun n => refusedAt (descriptorOk (v.useBytes (0x6500 + n) 1)) Status.range (0x6500 + n) 1) ++
  s.checkSapflow v ++ (List.range 64).flatMap (s.checkSpeaker v)

/-- The refusal with the lowest (index, sub), which the commit reports (R183). -/
def lowestRefused : List Refused → Option Refused
  | [] => none
  | a :: as => match lowestRefused as with
    | none => some a
    | some b => some (if entryBefore (b.idx, b.sub) (a.idx, a.sub) then b else a)

end Sys2Proof.Machine
end

