-- ==== Sys2Proof/Machine/RingOps.lean ====
section
/-! DEFINITION. Rings (R173 to R192): the draft, the ring image and its checks, uptake, commit and return, as the commands share them. -/
namespace Sys2Proof.Machine

/-! ### State of the ring (R190) -/

/-- Phase of the ring: 0 CONFIRMED, 1 APPLYING, 2 AWAIT_CONFIRM, 3 RETURNING (R180). -/
def State.ringPhase (s : State) : Nat := s.reg 0x2110 6
/-- Version of the active ring. -/
def State.ringVersion (s : State) : Nat := s.reg 0x2110 1
/-- Highest version committed (R175). -/
def State.versionHigh (s : State) : Nat := s.reg 0x2110 8
/-- The draft is being replaced: APPLYING or RETURNING (R137). -/
def State.draftBusy (s : State) : Bool := decide (s.ringPhase = 1 ∨ s.ringPhase = 3)
/-- The default ring's label (R176). -/
def defaultLabel : List Byte := [0x44, 0x45, 0x46, 0x41, 0x55, 0x4C, 0x54, 0x20]
/-- A label padded with spaces to 8 bytes (R176). -/
def padLabel (bs : List Byte) : List Byte := bs ++ List.replicate (8 - bs.length) 0x20

/-- A ring value listed only where it differs from the default, so that equal rings are equal data. -/
def State.ringPut (s : State) (vals : Tab Val) (idx sub : Nat) (v : Val) : Tab Val :=
  if v = defaultAt s.part s.grade idx sub then Tab.erase vals (entryKey idx sub) else Tab.put vals (entryKey idx sub) v

/-- Keys of the entries in which two rings differ. -/
def diffKeys (a b : Tab Val) : List Nat := ((a ++ b).map (·.1)).eraseDups.filter (fun k => decide (Tab.find? a k ≠ Tab.find? b k))

/-- The draft becomes a copy of the active ring, numbered version_high + 1 (R177). After the highest version the number wraps to 0 (DESIGN CHOICE,
log entry 129). -/
def State.copyDraft (s : State) : State :=
  ({ s with draft := s.active } : State).setReg 0x2111 1 ((s.versionHigh + 1) % 2 ^ 32) |>.setRegBytes 0x2111 2 (s.regBytes 0x2110 2)

/-- The entries that show the previous ring (0x2110.03 to .05). -/
def State.showPrevious (s : State) : State :=
  match s.previous with
  | none => ((s.setReg 0x2110 3 0).setReg 0x2110 4 0).setRegBytes 0x2110 5 []
  | some r => ((s.setReg 0x2110 3 1).setReg 0x2110 4 r.version).setRegBytes 0x2110 5 r.label

/-- The event of a ring outcome (R189). -/
def State.ringEvent (s : State) (reason version : Nat) : State :=
  s.event 0 0x0002 0 (s.reg 0x2110 9) 0xFF reason (version + 2 ^ 32 * s.ringVersion)

/-! ### Uptake at T (R186) -/

/-- Indices that no subsystem takes up at a boundary of its own: they take effect at T. -/
def takenAtT (i : Nat) : Bool :=
  decide (i < 0x2400 ∨ (0x2600 ≤ i ∧ i < 0x3000) ∨ (0x4800 ≤ i ∧ i < 0x6000) ∨ (0x6600 ≤ i ∧ i < 0x6800) ∨ 0x7900 ≤ i)

/-- Each subsystem is handed the values at T: haptics, effects, MCAN and idle lanes take them up now, heads at their next frame start or
now when stopped; keys, audio, Sapflow and busy lanes at their own boundary. -/
def State.ringUptake (s old : State) : State :=
  let s1 := s.takeUp takenAtT
  let s2 := s1.each (List.range (2 * s.dies)) (fun t c => t.hapUptake c)
  let s3 := s2.effectUptake.lanesUptake
  let s4 := s3.each (List.range (2 * s.dies)) (fun t h => t.headRing h)
  s4.mcanUptake old

/-- A ring becomes active at T. -/
def State.activate (s : State) (vals : Tab Val) (version : Nat) (label : List Byte) : State :=
  (({ s with active := vals } : State).setReg 0x2110 1 version |>.setRegBytes 0x2110 2 label)

/-! ### The ring image (R185) -/

/-- The records of an image. -/
def ringRecords (img : List Byte) : Option (List Record) := parseRecords img.length (slice img 0x40 (img.length - 68))

/-- 1-based number of the first record that fails a test. -/
def firstBadRecord (rs : List Record) (ok : Record → Bool) : Option Nat := (rs.findIdx? (fun r => !ok r)).map (· + 1)

/-- 1-based number of the first record not above the one before it. -/
def firstUnordered : Nat → List Record → Option Nat
  | n, a :: b :: rs => if entryBefore (a.idx, a.sub) (b.idx, b.sub) then firstUnordered (n + 1) (b :: rs) else some (n + 1)
  | _, _ => none

/-- Check 4 of R185 on one record. -/
def State.recordStatus (s : State) (r : Record) : Nat :=
  match lookup s.part r.idx r.sub with
  | none => Status.notPresent
  | some f =>
    if f.row'.kind ≠ .ring then Status.deniedAccess
    else if !s.lengthFits r.idx f r.data.length then Status.typeLength
    else if !f.valueOk s.part s.grade r.data then Status.range
    else Status.ok

/-- The header of an image keeps its table (check 2 of R185, records apart). -/
def State.ringHeaderOk (s : State) (img : List Byte) : Bool :=
  decide (field img 0 4 = 0x474E4952 ∧ field img 4 2 = 1 ∧ field img (img.length - 4) 4 = Crc.value Crc.crc32c (img.take (img.length - 4))) &&
  decide (bits (field img 6 1) 7 3 = 0 ∧ field img 7 1 = 0 ∧ field img 0x16 2 = 0) && allZero (slice img 0x20 32) &&
  bit (field img 6 1) s.part.maskBit && decide (field img 0x14 2 = Config.mapVersion.toNat) &&
  decide (field img 0x18 4 ≤ 131072 ∧ 1 ≤ field img 8 4) && (slice img 0xC 8).all (fun b => decide (0x20 ≤ b.toNat ∧ b.toNat ≤ 0x7E))

/-- The checks of R185: status and `load_record`. A failure of check 1 reports 0, also where a record overruns the trailer or their number is not
record_count: it is then the header's lengths that fail (DESIGN CHOICE, log entry 166). -/
def State.ringImageCheck (s : State) (img : List Byte) : Nat × Nat :=
  if img.length < 68 ∨ 8388608 < img.length ∨ img.length % 4 ≠ 0 ∨ field img 0x1C 4 ≠ img.length then (Status.typeLength, 0)
  else match ringRecords img with
    | none => (Status.typeLength, 0)
    | some rs =>
      if rs.length ≠ field img 0x18 4 then (Status.typeLength, 0)
      else if !s.ringHeaderOk img then (Status.range, 0)
      else match firstBadRecord rs (fun r => r.zero) with
        | some n => (Status.range, n)
        | none => match firstUnordered 1 rs with
          | some n => (Status.range, n)
          | none => match firstBadRecord rs (fun r => decide (s.recordStatus r = Status.ok)) with
            | some n => ((rs[n - 1]?.map s.recordStatus).getD Status.range, n)
            | none => (Status.ok, 0)

/-- The values an image gives; each entry it does not name takes its default (R179). -/
def State.ringImageValues (s : State) (img : List Byte) : Tab Val :=
  ((ringRecords img).getD []).foldl (fun (t : Tab Val) r =>
    match lookup s.part r.idx r.sub with
    | none => t
    | some f => s.ringPut t r.idx r.sub (f.row'.decode r.data)) []

/-! ### Writes to the draft and to `ring.command` (R178 to R182, R191, R192) -/

/-- What a value of `ring.draft.reset` does (R178). -/
def State.resetDraft (s : State) (v : Nat) : Nat × State :=
  if v < 1 ∨ 3 < v then (Status.range, s)
  else if v = 1 then (Status.ok, { s with draft := s.active })
  else if v = 3 then (Status.ok, { s with draft := [] })
  else match s.previous with
    | none => (Status.deniedAccess, s)
    | some r => (Status.ok, { s with draft := r.values })

/-- A ring image is loaded into the draft (R179, R185). `load_record` holds 0 again after an image that passes every check, for no record of it
fails (DESIGN CHOICE, log entry 167). -/
def State.loadDraft (s : State) (img : List Byte) : Nat × State :=
  let c := s.ringImageCheck img
  let s1 := s.setReg 0x2111 5 c.2
  if c.1 ≠ Status.ok then (c.1, s1)
  else (Status.ok, (({ s1 with draft := s.ringImageValues img } : State).setReg 0x2111 1 (field img 8 4)).setRegBytes 0x2111 2 (slice img 0xC 8))

/-- What a value written to a sub of the draft's own object does, BUSY aside (R177 to R179). -/
def State.draftEffect (s : State) (sub : Nat) (v : Val) : Nat × State :=
  if sub = 1 then (Status.ok, s.setLive 0x2111 1 v)
  else if sub = 2 then (Status.ok, s.setRegBytes 0x2111 2 (padLabel v.toBytes))
  else if sub = 3 then s.resetDraft v.toInt.toNat
  else s.loadDraft v.toBytes

/-- The dies that hold changed entries, each with the lowest it holds (R183). -/
def State.ringAsked (s : State) : List (Nat × Nat × Nat) :=
  let es := (diffKeys s.draft s.active).map (fun k => (k / 256, k % 256))
  ((es.map (fun e => s.dieOf e.1)).eraseDups).map (fun d => (d, (lowestEntry (es.filter (fun e => decide (s.dieOf e.1 = d)))).getD (0, 0)))

/-- `ring.command.commit` (R180, R181, R192). -/
def State.commitWrite (s : State) (v : Nat) : Nat × State :=
  if 600 < v ∧ v ≠ 0xFFFF then (Status.range, s)
  else if s.ringPhase ≠ 0 then (Status.busy, s)
  else if s.reg 0x2111 1 ≤ s.versionHigh then (Status.range, s)
  else
    let asked := s.ringAsked
    let w : RingWork := { asked := asked, timeoutS := if v = 0xFFFF then 30 else v, waiting := asked.map (·.1), prepareAt := s.now
                          values := s.draft, version := s.reg 0x2111 1, label := s.regBytes 0x2111 2 }
    (Status.pending, ({ s with ringWork := some w } : State).setReg 0x2110 6 1)

/-- `ring.command.confirm` (R181, R182): accepted in or before the expiry cycle. -/
def State.confirmWrite (s : State) (v : Nat) : Nat × State :=
  if s.ringPhase ≠ 2 ∨ (s.reg 0x2110 7 ≠ 0 ∧ s.reg 0x2110 7 < s.now) then (Status.deniedAccess, s)
  else if v ≠ s.ringVersion then (Status.range, s)
  else (Status.pending, ((s.setReg 0x2110 7 0).setReg 0x2110 6 0).ringEvent 2 v)

/-- The return to the previous ring starts: reason 3 on TIMEOUT, 4 on command (R183). -/
def State.startReturn (s : State) (reason : Nat) : State :=
  (({ s with ringWork := some { decided := true, commitT := s.now + us 20, cause := reason, prepareAt := s.now } } : State).setReg 0x2110 6 3).setReg
    0x2110 7 0

/-- `ring.command.return` (R181, R182). A command in the expiry cycle performs the one return and returns OK; its event carries reason 3
(DESIGN CHOICE, log entry 130). -/
def State.returnWrite (s : State) (v : Nat) : Nat × State :=
  let expired := (s.ringWork.map (fun w => decide (w.cause = 3 ∧ w.prepareAt = s.now))).getD false
  if v ≠ 1 then (Status.range, s)
  else if s.ringPhase = 3 ∧ expired then (Status.ok, s)
  else if s.draftBusy then (Status.busy, s)
  else if s.previous = none then (Status.deniedAccess, s)
  else if s.ringPhase = 2 ∧ s.reg 0x2110 7 = s.now ∧ s.reg 0x2110 7 ≠ 0 then (Status.ok, s.startReturn 3)
  else (Status.pending, s.startReturn 4)

/-- A commit is refused (R180, R183): nothing applied, the draft kept. -/
def State.ringFails (s : State) (r : Refused) : State :=
  (((({ s with ringWork := none } : State).setReg 0x2110 9 r.status).setReg 0x2110 0xA r.idx).setReg 0x2110 0xB r.sub).setReg 0x2110 6 0
  |>.ringEvent 5 ((s.ringWork.map (·.version)).getD 0)

/-- The prepare has ended (R183): dies that did not answer fail at the lowest entry they hold; else the checks decide. -/
def State.ringDecide (s : State) : State :=
  match s.ringWork with
  | none => s
  | some w =>
    let late := w.timedOut.filterMap (fun d => (w.asked.find? (fun a => a.1 = d)).map (fun a =>
      ({ status := Status.timeout, idx := a.2.1, sub := a.2.2 } : Refused)))
    match lowestRefused (late ++ s.refusals w.values) with
    | some r => ((s.claimsStopped w.values).foldl (fun (t : State) c => t.securityEvent 1 c.1 c.2) s).ringFails r
    | none => { s with ringWork := some { w with waiting := [], decided := true, commitT := s.now + us 20 } }

end Sys2Proof.Machine
end

