-- ==== Sys2Proof/Machine/Host.lean ====
section
/-! DEFINITION. The host interface (R193 to R222): the instance page, queues and doorbells, event rings, MSI-X, BAR2, VF Enable, FLR, faults. -/
namespace Sys2Proof.Machine

/-! ### The instance page (R197, R218, R231) -/

/-- BAR0 reaches the page of instance i: the device is OPERATIONAL and its link can be awake, and the function exists. -/
def State.pageOpen (s : State) (i : Nat) : Bool :=
  s.operational && decide (s.powerState ≤ 2 ∧ i < 32 ∧ s.instState i ≠ 0)
/-- Writes of the page are taken: not in RESETTING or FAULTED (R217, R218). -/
def State.pageWritable (s : State) (i : Nat) : Bool :=
  s.pageOpen i && decide (s.instState i ≠ 2 ∧ s.instState i ≠ 3)

/-- A doorbell in SLEEP is an in-band wake (R619). -/
def State.bellWake (s : State) : State := if s.powerState = 2 then s.wakeFrom 4 else s

/-- A write to SQ_TAIL (R201, R204, R231): a tail recorded while frozen, a stop on a tail beyond the queue. -/
def State.sqTailWrite (s : State) (i q tail : Nat) : State :=
  let x := s.sq i q
  let t := tail % 65536
  if !s.pageWritable i ∨ 16 ≤ q ∨ !x.enabled ∨ x.stopped then s
  else if s.isShed i then s.modSq i q (fun y => { y with tail := t })
  else if x.size ≤ t then s.stopQueue i q Status.range
  else (s.modSq i q (fun y => { y with tail := t })).bellWake

/-- SQ_CONFIG without its reserved bits 29:24 and 11. -/
def sqConfigMask (config : Word32) : Word32 := config &&& 0xC0FFF7FF#32
/-- EVQ_CONFIG without its reserved bits 29:20 and 15:11. -/
def evqConfigMask (config : Word32) : Word32 := config &&& 0xC00F07FF#32

/-- Setting ENABLE in SQ_CONFIG (R203): refused with a status, or the queue starts empty. -/
def State.sqEnableWrite (s : State) (i q : Nat) (config : Word32) : State :=
  if !s.pageWritable i ∨ 16 ≤ q ∨ (s.sq i q).enabled ∨ !config.getLsbD 31 then s
  else
    let st := s.enableStatus i q config
    let c := sqConfigMask config
    if st = Status.ok then s.modSq i q (fun x => { x with config := c, head := 0, tail := 0, stopped := false })
    else s.modSq i q (fun x => { x with config := c &&& 0x7FFFFFFF#32, status := st })

/-- A lane request came from queue q of instance i. -/
def LaneRequest.fromQueue (r : LaneRequest) (i q : Nat) : Bool :=
  let f := fun (o : LaneOrigin) => match o with | .entry j p _ _ _ => decide (j = i ∧ p = q) | _ => false
  match r with
  | .command _ _ _ o => f o
  | .read _ o => f o
  | _ => false

/-- Entries of a queue fetched and not started are discarded with no event (R205). -/
def State.discardUnstarted (s : State) (i q : Nat) : State :=
  let x := s.sq i q
  if x.type = 3 then s.audioDiscard i q
  else if x.type = 6 then s.modHap x.target (fun h => { h with play := h.play.bind (fun p => if p.inst = i ∧ p.q = q then none else some p) })
  else if x.type = 4 then
    { s with lanes := { s.lanes with lanes := s.lanes.lanes.map (fun e =>
        (e.1, { e.2 with queue := e.2.queue.filter (fun r => !r.2.fromQueue i q) })) } }
  else s

/-- Clearing ENABLE in SQ_CONFIG (R205). -/
def State.sqDisableWrite (s : State) (i q : Nat) : State :=
  if !s.pageWritable i ∨ 16 ≤ q ∨ !(s.sq i q).enabled then s
  else (s.discardUnstarted i q).modSq i q (fun x => { x with config := x.config &&& 0x7FFFFFFF#32 })

/-- A ring configuration passes the checks of R207. -/
def State.evqOk (s : State) (i : Nat) (config : Word32) : Bool :=
  let n := bits config.toNat 19 16
  decide (n ≤ 10) && (!config.getLsbD 30 || s.belowQuota i (s.inst i).evq.base (32 * (64 * 2 ^ n)))

/-- Setting ENABLE in EVQ_CONFIG (R207). Self-test events that boot held for I0 are written first (R98). -/
def State.evqEnableWrite (s : State) (i : Nat) (config : Word32) : State :=
  let e := (s.inst i).evq
  if !s.pageWritable i ∨ e.enabled ∨ !config.getLsbD 31 then s
  else
    let c := evqConfigMask config
    if s.evqOk i config then
      let s1 := s.modInst i (fun x => { x with evq := { x.evq with config := c, head := 0, tail := 0, phase := true, lastIrq := none } })
      if i = 0 then ({ s1 with boot := { s1.boot with slotEvents := [] } } : State).deliverAll 0 s.boot.slotEvents else s1
    else s.modInst i (fun x => { x with evq := { x.evq with config := c &&& 0x7FFFFFFF#32 } })

/-- Clearing ENABLE in EVQ_CONFIG (R207). -/
def State.evqDisableWrite (s : State) (i : Nat) : State :=
  if !s.pageWritable i ∨ !(s.inst i).evq.enabled then s
  else s.modInst i (fun x => { x with evq := { x.evq with config := x.evq.config &&& 0x7FFFFFFF#32 } })

/-- A vector's mask or the function mask was cleared: pending vectors that can now be sent are (log entry 32, PRESUMED from PCI). -/
def State.sendPending (s : State) (i : Nat) : State :=
  s.each (((s.inst i).vectors.filter (fun (e : Nat × MsixVector) => e.2.pending && decide (e.1 < (s.inst i).msixSize) && !e.2.masked && !(s.inst i).functionMask &&
      (s.inst i).msixEnabled)).map (·.1))
    (fun t v => (t.modInst i (fun x => { x with vectors := Tab.put x.vectors v { Tab.getD x.vectors v {} with pending := false } })).sendVector i v)

/-- A write of 32 bits into the MSI-X table (R198). -/
def State.msixWrite (s : State) (i off v : Nat) : State :=
  let n := (off - 0x8000) / 16
  if (s.inst i).msixSize ≤ n then s
  else
    let f := fun (e : MsixVector) =>
      if off % 16 = 0 then { e with addrLo := v } else if off % 16 = 4 then { e with addrHi := v }
      else if off % 16 = 8 then { e with data := v } else { e with masked := bit v 0 }
    (s.modInst i (fun x => { x with vectors := Tab.put x.vectors n (f (Tab.getD x.vectors n {})) })).sendPending i

/-- A write of the registers of queue q, at an offset within its 0x20 bytes (R197, R203). -/
def State.sqWrite (s : State) (i q off v : Nat) : State :=
  let x := s.sq i q
  if off = 0x10 then s.sqTailWrite i q v
  else if off = 8 then
    if x.enabled then (if bit v 31 then s else s.sqDisableWrite i q)
    else if bit v 31 then s.sqEnableWrite i q (BitVec.ofNat 32 v)
    else s.modSq i q (fun y => { y with config := sqConfigMask (BitVec.ofNat 32 v) })
  else if x.enabled then s
  else if off = 0 then s.modSq i q (fun y => { y with baseLo := v / 4096 * 4096 })
  else if off = 4 then s.modSq i q (fun y => { y with baseHi := v })
  else if off = 0xC then s.modSq i q (fun y => { y with target := v % 65536 })
  else s

/-- A write of the event ring's registers (R197, R207). -/
def State.evqWrite (s : State) (i off v : Nat) : State :=
  let e := (s.inst i).evq
  let set := fun (f : Evq → Evq) => s.modInst i (fun x => { x with evq := f x.evq })
  if off = 0x40 then (if e.enabled then s else set (fun q => { q with baseLo := v / 4096 * 4096 }))
  else if off = 0x44 then (if e.enabled then s else set (fun q => { q with baseHi := v }))
  else if off = 0x48 then
    if e.enabled then (if bit v 31 then s else s.evqDisableWrite i)
    else if bit v 31 then s.evqEnableWrite i (BitVec.ofNat 32 v)
    else set (fun q => { q with config := evqConfigMask (BitVec.ofNat 32 v) })
  else if off = 0x4C then set (fun q => { q with moderation := v % 65536 })
  else if e.enabled ∧ e.size ≤ v % 65536 then s
  else set (fun q => { q with head := v % 65536 })

/-- A write of 32 bits to the instance page but for the doorbell of the mailbox (R197, R218). Reserved offsets ignore it. -/
def State.pageWrite (s : State) (i off value : Nat) : State :=
  let v := value % 2 ^ 32
  if off % 4 ≠ 0 then s
  else if 0x8000 ≤ off ∧ off < 0xC000 ∧ (s.pageWritable i ∨ (i = 0 ∧ s.boot.ltssm ∧ !s.operational)) then s.msixWrite i off v
  else if !s.pageWritable i then s
  else if off = 0x18 then s.modInst i (fun x => { x with mbox := { x.mbox with vector := v % 2048 } })
  else if 0x40 ≤ off ∧ off ≤ 0x50 then s.evqWrite i off v
  else if 0x100 ≤ off ∧ off < 0x300 then s.sqWrite i ((off - 0x100) / 0x20) (off % 0x20) v
  else if 0x1000 ≤ off ∧ off < 0x3000 then
    s.modInst i (fun x => { x with mbox := { x.mbox with
      request := (List.range 4).foldl (fun t k => Tab.put t (off - 0x1000 + k) (BitVec.ofNat 8 (v / 256 ^ k))) x.mbox.request } })
  else s

/-- The mailbox response as it lies in its buffer (R168). -/
def Reply.bytes (r : Reply) : List Byte :=
  leBytes 1 r.service ++ leBytes 1 0 ++ leBytes 2 r.tag ++ leBytes 2 r.status ++ leBytes 1 r.failPos ++ leBytes 1 0 ++
  leBytes 4 r.moved ++ leBytes 4 0 ++ r.body

/-- Whether the MBOX_STATUS bits are set: OUTSTANDING and RESPONSE_READY (R166). -/
def Mailbox.statusWord (m : Mailbox) : Nat := ofBool m.outstanding + 2 * ofBool m.ready

/-- What a read of 32 bits of the instance page returns (R197, R218). The read of TIME_LO latches TIME_HI by its own command. -/
def State.pageRead (s : State) (i off : Nat) : Nat :=
  let x := s.inst i
  let q := (off - 0x100) / 0x20
  let y := s.sq i q
  if !s.pageOpen i ∨ off % 4 ≠ 0 then 0
  else if off = 0 then s.part.code * 65536 + i
  else if off = 4 then 8
  else if off = 8 then x.changeStatus * 65536 + s.instState i
  else if !s.pageWritable i then 0
  else if off = 0x14 then x.mbox.statusWord
  else if off = 0x18 then x.mbox.vector
  else if off = 0x20 then s.now % 2 ^ 32
  else if off = 0x24 then x.timeHi
  else if off = 0x40 then x.evq.baseLo
  else if off = 0x44 then x.evq.baseHi
  else if off = 0x48 then x.evq.config.toNat
  else if off = 0x4C then x.evq.moderation
  else if off = 0x50 then x.evq.head
  else if off = 0x54 then x.evq.tail
  else if 0x100 ≤ off ∧ off < 0x300 then
    (if off % 0x20 = 0 then y.baseLo else if off % 0x20 = 4 then y.baseHi else if off % 0x20 = 8 then y.config.toNat
     else if off % 0x20 = 0xC then y.target else if off % 0x20 = 0x14 then 2 ^ 31 * ofBool y.stopped + y.head
     else if off % 0x20 = 0x18 then y.status else 0)
  else if 0x1000 ≤ off ∧ off < 0x3000 then leNat ((List.range 4).map (fun k => Tab.getD x.mbox.request (off - 0x1000 + k) 0))
  else if 0x3000 ≤ off ∧ off < 0x5000 then leNat (slice ((x.mbox.response.map Reply.bytes).getD []) (off - 0x3000) 4)
  else if 0x8000 ≤ off ∧ off < 0x8000 + 16 * x.msixSize then
    let e := Tab.getD x.vectors ((off - 0x8000) / 16) {}
    (if off % 16 = 0 then e.addrLo else if off % 16 = 4 then e.addrHi else if off % 16 = 8 then e.data else ofBool e.masked)
  else if 0xC000 ≤ off ∧ off < 0xC100 then
    ((List.range 32).map (fun k => 2 ^ k * ofBool (Tab.getD x.vectors ((off - 0xC000) * 8 + k) {}).pending)).sum
  else 0

/-! ### Boot states the host can move (R80, R109) -/

/-- BOOT_SRC as sampled (0x2002.01): true is recovery over MCAN. -/
def State.bootSrc (s : State) : Bool := s.reg 0x2002 1 = 1

/-- Origin of the boot times (R109): the PERST_N release, or for a recovery boot the strap sampling. -/
def State.bootOrigin (s : State) : Nat := if s.bootSrc then s.boot.origin else s.boot.perstOrigin

/-- Entry into a boot state, with its time (R79, R109). How the manual rounds the time to µs is open (log entry 3); a time beyond
2^32 − 1 µs, of which it says nothing, is held at 2^32 − 1 (DESIGN CHOICE, log entry 114). -/
def State.bootEnter (s : State) (st : Nat) : State :=
  ((s.setReg 0x2100 1 st).setReg 0x2103 st (min (2 ^ 32 - 1) (s.inexact (s.clock - s.bootOrigin) 1000))).useFree

/-- Change an instance's configuration registers. -/
def State.modPci (s : State) (i : Nat) (f : PciConfig → PciConfig) : State := s.modInst i (fun x => { x with pci := f x.pci })

/-- Memory Space Enable of the PF is written (R80, R88): from ROM_READY the window opens, once a clearing is over. -/
def State.memorySpaceSet (s : State) (on : Bool) : State :=
  let s1 := ({ s with boot := { s.boot with memorySpace := on } } : State).modPci 0 (fun c => { c with memorySpace := on })
  if on ∧ s.bootState = 1 ∧ !s.bootSrc ∧ !s.boot.clearing then s1.bootEnter 2 else s1

/-! ### Configuration space (R86, R193, R196) -/

/-- The functions present themselves: configuration requests get Configuration Request Retry Status until ROM_READY (R86). -/
def State.configOpen (s : State) : Bool := s.boot.ltssm || s.operational

/-- A configuration-space control of a function (R86, R193, R198, R619). -/
def State.configWrite (s : State) (i : Nat) (c : ConfigControl) (on : Bool) : State :=
  if !s.configOpen then s
  else match c with
  | .msixEnable => (s.modInst i (fun x => { x with msixEnabled := on })).sendPending i
  | .msixFunctionMask => (s.modInst i (fun x => { x with functionMask := on })).sendPending i
  | .ariHierarchy => { s with ari := on }
  | .d3hot => s.modInst i (fun x => { x with d3hot := on })
  | .pmeEnable => s.modInst i (fun x => { x with pmeEnable := on })

/-- A base address register of a fixed size: the bits below the size are not held (R196). -/
def barBase (size v : Nat) : Nat := v % 2 ^ 64 / size * size

/-- A write of a configuration register (R86, R193, R196). A VF has no memory space enable and no base address registers of its own: SR-IOV places
them in the PF (PRESUMED, log entry 139). -/
def State.pciWrite (s : State) (i : Nat) (r : PciRegister) (v : Nat) : State :=
  if !s.configOpen then s
  else match r with
  | .command =>
    let s1 := s.modPci i (fun c => { c with busMaster := bit v 2 })
    if i = 0 ∧ bit v 1 ≠ s.boot.memorySpace then s1.memorySpaceSet (bit v 1) else s1
  | .bar0 => if i = 0 then s.modPci i (fun c => { c with bar0 := barBase (8 * 1048576) v }) else s
  | .bar2 => if i = 0 then s.modPci i (fun c => { c with bar2 := barBase (2 ^ 32) v }) else s
  | .vfBar0 => if i = 0 then s.modPci i (fun c => { c with vfBar0 := barBase 65536 v }) else s
  | .vfBar2 => if i = 0 then s.modPci i (fun c => { c with vfBar2 := barBase (2 ^ 28) v }) else s
  | .systemPageSize => if i = 0 ∧ !s.vfEnable ∧ (v = 1 ∨ v = 16) then s.modPci i (fun c => { c with pageSize := v }) else s
  | .maxPayload => if v ≤ 2 then s.modPci i (fun c => { c with payload := v }) else s
  | .maxReadRequest => if v ≤ 5 then s.modPci i (fun c => { c with readRequest := v }) else s
  | .tag10Enable => s.modPci i (fun c => { c with tag10 := bit v 0 })
  | .aspm => s.modPci i (fun c => { c with aspmL1 := bit v 1 })
  | .l1Substates => s.modPci i (fun c => { c with l1Substates := v % 16 })
  | .ltrEnable => s.modPci i (fun c => { c with ltr := bit v 0 })
  | _ => s

/-- What a read of a configuration register returns; none while configuration requests are to be retried (R86, R193, R196, R198, R733). The low
bits of a base address register say 64-bit memory, and prefetchable for BAR2; a capability reads 1 where the function has it, tags 3 as
requester and completer, ASPM 2 for L1, and the four L1 substates as four bits (PRESUMED from PCI, log entry 139). -/
def State.pciRead (s : State) (i : Nat) (r : PciRegister) : Option Nat :=
  let c := (s.inst i).pci
  if !s.configOpen then none
  else some (match r with
  | .vendorId => 0x1F3C
  | .deviceId => s.part.code + (if i = 0 then 0 else 0x100)
  | .classCode => 0x038000
  | .revisionId => Config.siliconStep.toNat
  | .totalVfs => 31
  | .initialVfs => 31
  | .firstVfOffset => 1
  | .vfStride => 1
  | .supportedPageSizes => 0x11
  | .numVfs => s.numVfs
  | .vfEnable => ofBool s.vfEnable
  | .linkWidth => 8 / 2 ^ (Config.pcieWidth % 4)
  | .linkSpeed => 5 - Config.pcieRate % 5
  | .maxPayloadSupported => 2
  | .msixTableSize => (s.inst i).msixSize - 1
  | .ariCapability => 1
  | .flrCapability => 1
  | .aerCapability => 1
  | .ptmCapability => ofBool (decide (i = 0))
  | .tag10Supported => 3
  | .maxReadRequestSupported => 5
  | .aspmSupported => 2
  | .l1SubstatesSupported => 15
  | .ltrSupported => 1
  | .powerManagement => 1
  | .command => 2 * ofBool (decide (i = 0) && s.boot.memorySpace) + 4 * ofBool c.busMaster
  | .bar0 => if i = 0 then c.bar0 + 4 else 0
  | .bar2 => if i = 0 then c.bar2 + 12 else 0
  | .vfBar0 => c.vfBar0 + 4
  | .vfBar2 => c.vfBar2 + 12
  | .systemPageSize => c.pageSize
  | .maxPayload => c.payload
  | .maxReadRequest => c.readRequest
  | .tag10Enable => ofBool c.tag10
  | .aspm => 2 * ofBool c.aspmL1
  | .l1Substates => c.l1Substates
  | .ltrEnable => ofBool c.ltr)

/-! ### Commands -/

/-- R201. -/
def execSqTail (inst q tail : Nat) (s : State) : Host.Outcome State Fault Refusal := .next (s.sqTailWrite inst q tail)
/-- R203. -/
def execSqEnable (inst q : Nat) (config : Word32) (s : State) : Host.Outcome State Fault Refusal := .next (s.sqEnableWrite inst q config)
/-- R205. -/
def execSqDisable (inst q : Nat) (s : State) : Host.Outcome State Fault Refusal := .next (s.sqDisableWrite inst q)
/-- R207. -/
def execEvqEnable (inst : Nat) (config : Word32) (s : State) : Host.Outcome State Fault Refusal := .next (s.evqEnableWrite inst config)
/-- R207. -/
def execEvqDisable (inst : Nat) (s : State) : Host.Outcome State Fault Refusal := .next (s.evqDisableWrite inst)

/-- R209: the vector of a ring with unread records, EVQ_MODERATION µs after the last one. -/
def execEvqModerationExpiry (inst : Nat) (s : State) : Host.Outcome State Fault Refusal :=
  let e := (s.inst inst).evq
  match e.lastIrq with
  | none => .next s
  | some l =>
    if !s.pageWritable inst ∨ !e.enabled ∨ e.head = e.tail ∨ e.moderation = 0 then .next s
    else
      let s1 := s.arriveAt (l + us e.moderation)
      .next ((s1.modInst inst (fun x => { x with evq := { x.evq with lastIrq := some s1.now } })).sendVector inst e.vector)

/-- R197: a read of TIME_LO. -/
def execTimeLoRead (inst : Nat) (s : State) : Host.Outcome State Fault Refusal :=
  let v := s.pageRead inst 0x20
  let s1 := if s.pageWritable inst then s.modInst inst (fun x => { x with timeHi := s.now / 2 ^ 32 % 2 ^ 32 }) else s
  .next { s1 with out := { s1.out with reads := s1.out.reads ++ [(inst, leBytes 4 v)] } }

/-- R212, R231: an access through BAR2 at the window `aperture_base` selects. -/
def execBar2Access (inst offset : Nat) (store : Option (List Byte)) (length : Nat) (s : State) : Host.Outcome State Fault Refusal :=
  if !s.pageOpen inst then .next s
  else
    let size := if inst = 0 then 2 ^ 32 else 2 ^ 28
    let n := match store with | none => length | some bs => bs.length
    let a := s.reg (0x2200 + inst) 0x11 * 1048576 + offset
    if size < offset + n ∨ !s.idaOk inst a n then
      .next { s with out := { s.out with refused := s.out.refused ++ [inst], aer := s.out.aer ++ [(inst, .unsupportedRequest)] } }
    else match store with
      | some bs => .next (if s.isShed inst then s else s.writeIda (hostAttr inst) a bs)
      | none => .next { s with out := { s.out with reads := s.out.reads ++ [(inst, s.readIda (hostAttr inst) a length)] } }

/-- R215, R198: VF Enable is set; the VFs sample their vector counts and become ACTIVE. -/
def execVfEnableSet (numVfs : Nat) (s : State) : Host.Outcome State Fault Refusal :=
  if !s.operational ∨ s.vfEnable ∨ 31 < numVfs then .next s
  else
    let s1 : State := { s with vfEnable := true, numVfs := numVfs }
    let s2 := s1.each ((List.range 31).map (· + 1)) (fun t i => t.modInst i (fun x => { x with msixSize := t.reg (0x2200 + i) 3 }))
    .next (s2.each (((List.range numVfs).map (· + 1)).filter (fun i => s2.instState i = 0)) (fun t i => t.enterActive i))

/-- R215: VF Enable is cleared (0) or NumVFs is reduced to the number given. -/
def execVfDisable (numVfs : Nat) (s : State) : Host.Outcome State Fault Refusal :=
  if !s.operational ∨ !s.vfEnable ∨ s.numVfs ≤ numVfs then .next s
  else
    let s1 : State := { s with vfEnable := decide (numVfs ≠ 0), numVfs := numVfs }
    .next (s1.each (((List.range 31).map (· + 1)).filter (fun i => numVfs < i)) (fun t i => t.disableOne i))

/-- R217: a function-level reset. -/
def execFlr (inst : Nat) (s : State) : Host.Outcome State Fault Refusal :=
  if !s.operational ∨ 32 ≤ inst then .next s else .next (s.resetInstance inst)

/-- Severity of an error (R220): malformed TLPs and uncorrectable internal errors are fatal, the others non-fatal. -/
def aerFatal : AerError → Bool
  | .malformedTlp => true
  | .uncorrectableInternal => true
  | _ => false

/-- The error that a failed completion is reported as (R220; for a completion with UR or CA status DEDUCED, log entry 140). -/
def dmaError : DmaFault → AerError
  | .completionTimeout => .completionTimeout
  | .poison => .poisoned
  | .unsupportedRequest => .unsupportedRequest
  | .completerAbort => .completerAbort

/-- R220, R221, R215: a DMA completion of an instance failed. It is reported on the function, and an instance in ACTIVE or FREEZING faults. -/
def execInstanceFault (inst : Nat) (cause : DmaFault) (s : State) : Host.Outcome State Fault Refusal :=
  if !s.operational ∨ 32 ≤ inst ∨ s.instState inst = 0 then .next s
  else
    let s1 : State := { s with out := { s.out with aer := s.out.aer ++ [(inst, dmaError cause)] } }
    if s.instState inst ≠ 1 ∧ s.instState inst ≠ 4 then .next s1
    else .next (s1.faultInstance inst (if cause = .completionTimeout then Status.timeout else Status.hwFault))

/-- R215: the quiesce of an instance in RESETTING is done. -/
def execQuiesceDone (inst : Nat) (s : State) : Host.Outcome State Fault Refusal :=
  if s.operational ∧ inst < 32 ∧ s.instState inst = 2 then .next (s.enterActive inst) else .next s

/-- R220. -/
def execMalformedTlp (inst : Nat) (s : State) : Host.Outcome State Fault Refusal :=
  .next { s with out := { s.out with aer := s.out.aer ++ [(inst, .malformedTlp)] } }
/-- R220. -/
def execUnexpectedCompletion (inst : Nat) (s : State) : Host.Outcome State Fault Refusal :=
  .next { s with out := { s.out with aer := s.out.aer ++ [(inst, .unexpectedCompletion)] } }

/-- R225: every change of an assignment write has been taken up. -/
def execAssignmentTakenUp (inst : Nat) (s : State) : Host.Outcome State Fault Refusal :=
  if (s.inst inst).takenFrom.isSome then
    .next ((s.modInst inst (fun x => { x with takenFrom := none })).event 0 0x0006 inst Status.ok 0xFF 0 0)
  else .next s

end Sys2Proof.Machine
end

