-- ==== Sys2Proof/Machine/Boot.lean ====
section
/-! DEFINITION. From power to OPERATIONAL (R54 to R69, R79 to R112): resets and rails, the boot window, the checks of the image,
distribution, self-test, training and the initial ring. -/
namespace Sys2Proof.Machine

/-! ### Entries into POWERED (R67, R80, R112) -/

/-- How long the switched rails are still awaited, counted from a device time of 0 (R69). -/
def State.railsLeft (s : State) : Option Nat :=
  match s.power.railsWait with
  | some t => some (t - s.now)
  | none => if s.pins.pwrenMain then none else some (ms 50)

/-- Entry into POWERED by which everything outside the always-on domain is lost, with its cause (R106). Secrets are zeroised, the
boot region is cleared, and straps are resampled. MCAN_STB is low except while RESET_N is low (R71). Where the switched rails were off,
the device waits 50 ms for them to be valid, and a wait that runs already goes on (R69). -/
def State.powered (s : State) (cause : Nat) (svc : Bool) : State :=
  let w := s.wiped
  let low := w.pins.svcReqLow || svc
  (({ w with
    pins := { w.pins with pwrenMain := true, pwrenMem := true, mcanStby := !w.boot.resetHigh, clkreqLow := false, pcieIdle := true,
                          tdoDriven := false, gpio := [], gpioKept := [], svcReqLow := low }
    boot := { w.boot with clearing := true, resetDriven := !w.boot.resetHigh }
    power := { w.power with zeroised := true, railsWait := s.railsLeft } } : State).setReg 0x2100 4 cause).setReg 0x2700 5 (ofBool low)

/-- A PERST_N assertion before OPERATIONAL with BOOT_SRC low (R80, R88): POWERED with cause 4; device time goes on, the straps stay, and
so does a debug unlock (R265). -/
def State.perstRestart (s : State) : State :=
  let w := s.powered 4 false
  let t : State := { w with
    now := s.now, timeRuns := s.timeRuns, mem := s.mem.clear (stackBase 0) bootRegionSize
    boot := { w.boot with strapsSampled := s.boot.strapsSampled, resetDriven := s.boot.resetDriven }
    worlds := { w.worlds with unlocked := s.worlds.unlocked, nonces := s.worlds.nonces } }
  (((t.setReg 0x2002 1 (s.reg 0x2002 1)).setReg 0x2002 2 (s.reg 0x2002 2)).setReg 0x2002 3 (s.reg 0x2002 3)).setReg 0x2100 3 (s.reg 0x2100 3)

/-- PERST_N's release as adjusted by R66: not before 1 ms after the RESET_N release. -/
def Boot.adjust (b : Boot) (t : Nat) : Boot :=
  if b.resetHigh then { b with perstOrigin := max t (b.resetRelease + ms 1) } else b

/-! ### Pins, rails and resets -/

/-- POWER_ON_RESET_RELEASE (R57, R66, R71): the release of a RESET_N that was never driven low falls here. -/
def execPowerOnResetRelease (s : State) : Host.Outcome State Fault Refusal :=
  if s.boot.porReleased ∨ s.powerState = 4 then .next s
  else
    let b := { s.boot with porReleased := true, resetRelease := if s.boot.resetHigh ∧ !s.boot.resetDriven then s.clock else s.boot.resetRelease }
    .next { s with boot := if b.perstHigh then b.adjust s.boot.perstOrigin else b
                   pins := { s.pins with mcanStby := !s.boot.resetHigh } }

/-- STRAP_SAMPLING (R57, R59): with the power-on reset and RESET_N released and the rails valid. SVC_REQ_N is released, and D0's reference
PLL locks, so device time starts at 0 (R38). Where RESET_N has not been low since the entry into POWERED this is its release, from which
PERST_N is adjusted (R66). -/
def execStrapSampling (bootSrc vrMode : Bool) (mgmtId : Nat) (s : State) : Host.Outcome State Fault Refusal :=
  if !s.boot.porReleased ∨ !s.boot.resetHigh ∨ s.boot.strapsSampled ∨ s.powerState = 4 ∨ s.bootState ≠ 0 ∨ s.power.railsWait ≠ none then .next s
  else
    let b : Boot := { s.boot with strapsSampled := true, origin := s.clock, resetRelease := if s.boot.resetDriven then s.boot.resetRelease else s.clock }
    let s1 : State := { s with
      boot := if b.perstHigh then b.adjust b.perstOrigin else b
      pins := { s.pins with svcReqLow := false, mcanStby := false }
      now := 0, timeRuns := true }
    .next (((((s1.setReg 0x2002 1 (ofBool bootSrc)).setReg 0x2002 2 (ofBool vrMode)).setReg 0x2002 3 (mgmtId % 16)).setReg 0x2100 3
      (ofBool bootSrc)).setReg 0x2700 5 0)

/-- RESET_N_ASSERT (R80): everything outside the always-on domain is reset, in any state. -/
def execResetNAssert (s : State) : Host.Outcome State Fault Refusal :=
  .next (State.powered { s with boot := { s.boot with resetHigh := false } } 3 false)

/-- RESET_N_RELEASE (R66, R71). -/
def execResetNRelease (s : State) : Host.Outcome State Fault Refusal :=
  if s.boot.resetHigh then .next s
  else
    let b := { s.boot with resetHigh := true, resetRelease := s.clock }
    .next { s with boot := if b.perstHigh then b.adjust s.boot.perstOrigin else b
                   pins := { s.pins with mcanStby := !s.boot.porReleased } }

/-- RAIL_LOSS (R67): in RUN, IDLE and SLEEP every rail but those of the always-on domain; in DEEP_SLEEP the four it keeps. -/
def execRailLoss (rail : Rail) (s : State) : Host.Outcome State Fault Refusal :=
  let kept := decide (rail = .sram ∨ rail = .vdd1 ∨ rail = .vdd2h ∨ rail = .vddq)
  if rail = .aon ∨ rail = .io18 ∨ s.powerState = 4 ∨ !s.boot.porReleased then .next s
  else if s.powerState = 3 then
    if !kept then .next s else .next (s.powered 1 true)
  else .next (s.powered 1 true)

/-- AON_POWER_LOSS (R67): the power-on reset acts again. Fuses, what was sent and the levels the board drives stay. -/
def execAonPowerLoss (s : State) : Host.Outcome State Fault Refusal :=
  let r := State.reset
  .next { r with
    pending := s.pending, clock := s.clock, part := s.part, grade := s.grade, free := s.free, fuses := s.fuses, out := s.out
    power := { r.power with wakeLow := s.power.wakeLow }
    boot := { r.boot with perstHigh := s.boot.perstHigh, resetHigh := s.boot.resetHigh, resetDriven := !s.boot.resetHigh } }

/-- SWITCHED_RAILS_VALID (R69): an exit from DEEP_SLEEP goes on; an exit from OFF begins at POWERED, with cause 2 (R106). -/
def execSwitchedRailsValid (s : State) : Host.Outcome State Fault Refusal :=
  match s.power.railsWait with
  | none => .next s
  | some _ =>
    let s1 : State := { s with power := { s.power with railsWait := none } }
    if s.power.exitFrom = 4 then .next (s1.powered 2 false) else .next s1

/-- RAIL_VALID_TIMEOUT (R69): the exit ends, the outputs fall as the state requires, SVC_REQ_N is low. In POWERED after a loss of power in
DEEP_SLEEP, and after a RESET_N in DEEP_SLEEP or OFF, the device goes on waiting (log entry 34). -/
def execRailValidTimeout (s : State) : Host.Outcome State Fault Refusal :=
  match s.power.railsWait with
  | none => .next s
  | some t =>
    let s1 := (s.arriveAt t).driveSvc
    if s.power.exitFrom = 4 then
      .next (({ s1 with pins := { s1.pins with pwrenMain := false, pwrenMem := false }
                        power := { s1.power with railsWait := none, exitSource := 0, exitFrom := 0 } } : State).setReg 0x2400 3 0)
    else if s.power.exitFrom = 3 then
      .next (({ s1 with pins := { s1.pins with pwrenMain := false }
                        power := { s1.power with railsWait := none, exitSource := 0, exitFrom := 0 }
                        health := { s1.health with pendingRail := true } } : State).timeStops.setReg 0x2400 3 0)
    else .next { s1 with power := { s1.power with railsWait := some (s1.now + ms 50) } }

/-- A conventional reset of the endpoint while OPERATIONAL (R82): as an FLR of the PF, and every configuration space is reset. -/
def State.endpointReset (s : State) : State :=
  let t := s.resetInstance 0
  ({ t with ari := false, boot := { t.boot with memorySpace := false }, insts := t.insts.map (fun e => (e.1, e.2.configReset)) } : State)

/-- PERST_N_ASSERT (R80 to R83). In OFF the input is ignored (R618); in DEEP_SLEEP the always-on bank keeps it (R55). -/
def execPerstNAssert (s : State) : Host.Outcome State Fault Refusal :=
  let s0 : State := { s with boot := { s.boot with perstHigh := false } }
  if s.powerState = 4 then .next s0
  else if s.health.stopped then .next (s0.powered 3 false)
  else if s.operational then .next s0.endpointReset
  else if !s.boot.strapsSampled then .next s0
  else if s.bootSrc then
    .next (({ s0 with ari := false, boot := { s0.boot with memorySpace := false } } : State).modInst 0 (fun _ => { msixSize := 256 }))
  else .next s0.perstRestart

/-- PERST_N_RELEASE (R66). -/
def execPerstNRelease (s : State) : Host.Outcome State Fault Refusal :=
  if s.boot.perstHigh then .next s
  else .next { s with boot := ({ s.boot with perstHigh := true } : Boot).adjust s.clock }

/-- The boot states in which the ROM finds its own consistency check failed end in BOOT_HALT with ROM_INTERNAL (R102). -/
def State.romChecked (s : State) (romOk : Bool) (t : State) : State := if romOk then t else s.bootHalt 0x0F01 true

/-- The PCIe link starts (R86): the LTSSM leaves Detect, and configuration requests are completed from here on. -/
def State.linkStarts (s : State) : State :=
  { s with boot := { s.boot with ltssm := true }, pins := { s.pins with pcieIdle := false } }

/-- The physical clock and device time reach a moment of the clock. -/
def State.clockReaches (s : State) (t : Nat) : State :=
  { s with clock := max s.clock t, now := if s.timeRuns then s.now + (t - s.clock) else s.now }

/-- POWERED_COMPLETE (R80): fuses read and D0's stack at boot rate; a PCIe boot waits for PERST_N's release as R66 adjusts it (R84, R618). The link starts for a halt as well,
so that BAR0 returns BOOT_STATE there and RESTART is taken (R80, R102; log entry 112). -/
def execPoweredComplete (fusesOk dramOk : Bool) (s : State) (romOk : Bool := true) : Host.Outcome State Fault Refusal :=
  if s.bootState ≠ 0 ∨ s.powerState ≠ 0 ∨ !s.boot.strapsSampled ∨ !s.boot.resetHigh ∨ (!s.bootSrc ∧ !s.boot.perstHigh) then .next s
  else
    let s := if s.bootSrc then s else s.clockReaches s.boot.perstOrigin
    let s1 : State := { s with boot := { s.boot with clearing := false } }
    if !fusesOk then .next (s1.linkStarts.bootHalt 0x0110 true)
    else if !dramOk then .next (s1.linkStarts.bootHalt 0x0111 true)
    else .next (s1.linkStarts.romChecked romOk (((s1.setReg 0x2008 2 2).setReg 0x2008 3 2).bootEnter 1).linkStarts)

/-! ### The boot window (R87 to R90) -/

/-- The host reaches BAR0's boot window (R86, R87). -/
def State.windowOpen (s : State) : Bool := s.boot.memorySpace && s.boot.ltssm && !s.operational && decide (s.powerState = 0)

/-- The boot region is cleared (R88); writes that arrive meanwhile are held. -/
def State.clearRegion (s : State) : State :=
  { s with
    mem := s.mem.clear (stackBase 0) bootRegionSize
    boot := { s.boot with clearing := true, heldWrites := [], aperturePage := 0, imageLength := 0, ringLength := 0, recovery := none } }

/-- The clearing is over, and held aperture writes land. -/
def State.finishClear (s : State) : State :=
  if !s.boot.clearing then s
  else
    { s with
      mem := s.boot.heldWrites.foldl (fun (m : Memory) w => m.writeBytes (stackBase 0 + w.1) w.2) s.mem
      boot := { s.boot with clearing := false, heldWrites := [] } }

/-- A write through the aperture, at its offset (R88): only in AWAIT_IMAGE. -/
def State.apertureWrite (s : State) (offset : Nat) (data : List Byte) : State :=
  let a := s.boot.aperturePage * 0x400000 + offset
  if !s.windowOpen ∨ s.bootState ≠ 2 ∨ 0x400000 < offset + data.length then s
  else if s.boot.clearing then { s with boot := { s.boot with heldWrites := s.boot.heldWrites ++ [(a, data)] } }
  else { s with mem := s.mem.writeBytes (stackBase 0 + a) data }

/-- The boot starts (R80): lengths latched, the window closed. -/
def State.bootStart (s : State) : State :=
  let s1 := s.finishClear
  ({ s1 with boot := { s1.boot with latchedImage := s1.boot.imageLength, latchedRing := s1.boot.ringLength } } : State).bootEnter 3

/-- RESTART (R80, R89): in AWAIT_IMAGE the region is cleared; from BOOT_HALT the member dies are reset too, and the cause is 5. The ROM runs
on D0, whose Core and Shell are ACTIVE. EMCYs that wait stay, and so do the times of boot states not entered again (DESIGN CHOICE, log
entry 114). -/
def State.bootRestart (s : State) : State :=
  if s.bootState = 2 then s.clearRegion
  else if s.bootState ≠ 0xFF then s
  else
    let s1 := (s.clearRegion.bootEnter 1).setReg 0x2100 2 0 |>.setReg 0x2100 4 5
    let s2 := s1.each s1.dieList (fun t d => (t.setReg (0x2008 + d) 2 (if d = 0 then 2 else 1)).setReg (0x2008 + d) 3 (if d = 0 then 2 else 1))
    { s2 with
      live := s2.live.filter (fun e => decide (e.1 / 256 ≠ 0x2101)), mcan := { s1.mcan with serving := false, sessions := [], tunnelRunning := false }
      fabric := {}
      boot := { s1.boot with ltssm := true, coordinator := 0, latchedImage := 0, latchedRing := 0, reachable := [], awaitingReady := [], slotsDone := [], slotEvents := [] } }

/-- A write to BOOT_CONTROL (R89). -/
def State.bootControl (s : State) (start restart : Bool) : State :=
  if !s.windowOpen then s
  else if restart then s.bootRestart
  else if start ∧ s.bootState = 2 ∧ !s.bootSrc then s.bootStart
  else s

/-- A write of 32 bits to the boot window (R87, R88). -/
def State.bootWrite (s : State) (off value : Nat) : State :=
  let v := value % 2 ^ 32
  let take := s.windowOpen && decide (s.bootState = 2)
  if off % 4 ≠ 0 then s
  else if off = 0x14 then s.bootControl (bit v 0) (bit v 1)
  else if 0x400000 ≤ off ∧ off < 0x800000 then s.apertureWrite (off - 0x400000) (leBytes 4 v)
  else if !take then s
  else if off = 8 then { s with boot := { s.boot with aperturePage := v % 8 } }
  else if off = 0xC then { s with boot := { s.boot with imageLength := v } }
  else if off = 0x10 then { s with boot := { s.boot with ringLength := v } }
  else s

/-- What a read of 32 bits of the boot window returns (R87, R88). -/
def State.bootRead (s : State) (off : Nat) : Nat :=
  if !s.windowOpen ∨ off % 4 ≠ 0 then 0
  else if off = 0 then s.part.code * 65536 + Config.romVersion.toNat
  else if off = 4 then s.reg 0x2100 2 * 65536 + s.bootState
  else if off = 8 then s.boot.aperturePage
  else if off = 0xC then s.boot.imageLength
  else if off = 0x10 then s.boot.ringLength
  else if off = 0x18 then 256 * (s.fuses.keysRevoked % 16) + s.fuses.securityCount
  else if 0x20 ≤ off ∧ off < 0x50 then field (s.regBytes 0x2101 5) (off - 0x20) 4
  else if 0x400000 ≤ off ∧ off < 0x800000 ∧ s.bootState = 2 then
    leNat (s.bootBytes (s.boot.aperturePage * 0x400000 + (off - 0x400000)) 4)
  else 0

/-- MEMORY_SPACE_ENABLE (R80): the window opens from ROM_READY, once a clearing is over (R88). -/
def execMemorySpaceEnable (s : State) (romOk : Bool := true) : Host.Outcome State Fault Refusal :=
  if !s.configOpen then .next s
  else if s.bootState = 1 ∧ !romOk then .next (s.bootHalt 0x0F01 true)
  else .next (s.memorySpaceSet true)

/-- MCAN_SERVER_STARTED (R103, R158): the recovery server sends one boot-up message under the default node offset (R149). -/
def execMcanServerStarted (s : State) (romOk : Bool := true) : Host.Outcome State Fault Refusal :=
  if s.bootState ≠ 1 ∨ !s.bootSrc ∨ s.boot.clearing then .next s
  else if !romOk then .next (s.bootHalt 0x0F01 true)
  else
    let n := 16 + s.reg 0x2002 3
    let s1 := ({ s with mcan := { s.mcan with serving := true } } : State).setReg 0x1F11 1 n
    .next ((s1.sendMcan (0x700 + n) [0]).bootEnter 2)

/-- APERTURE_WRITE (R88). -/
def execApertureWrite (offset : Nat) (data : List Byte) (s : State) : Host.Outcome State Fault Refusal := .next (s.apertureWrite offset data)

/-- START (R89); with RESTART set as well it acts as RESTART. The ROM may find itself inconsistent instead (R102). -/
def execStart (withRestart : Bool) (s : State) (romOk : Bool := true) : Host.Outcome State Fault Refusal :=
  if s.bootState = 2 ∧ s.windowOpen ∧ !romOk then .next (s.bootHalt 0x0F01 true) else .next (s.bootControl true withRestart)

/-- RESTART (R89). -/
def execRestart (s : State) : Host.Outcome State Fault Refusal := .next (s.bootControl false true)

/-- BOOT_REGION_CLEARED (R88). After a RESTART from BOOT_HALT, Memory Space Enable is still set, and AWAIT_IMAGE follows (R80). -/
def execBootRegionCleared (s : State) (romOk : Bool := true) : Host.Outcome State Fault Refusal :=
  if !s.boot.clearing then .next s
  else if s.bootState ≤ 2 ∧ !romOk then .next (s.finishClear.bootHalt 0x0F01 true)
  else
    let s1 := s.finishClear
    .next (if s1.bootState = 1 ∧ !s1.bootSrc ∧ s1.boot.memorySpace then s1.bootEnter 2 else s1)

/-! ### Authentication and distribution (R94 to R97) -/

/-- The boot ROM's transactions (R29, R245). -/
def romAttr : BusAttr := { world := BusSource.bootRom.world true, die := 0, inst := ownInstance, source := .bootRom }

/-- n granules from granule g on take the code SECURE (R246). -/
def State.markSecure (s : State) (g n : Nat) : State :=
  { s with worlds := { s.worlds with perm := (List.range n).foldl (fun p k => Tab.put p (g + k) 1) s.worlds.perm } }

/-- The boot ROM writes a section's bytes at a device address; the granules of a SECURE section are marked (R97, R246). -/
def State.loadAt (s : State) (a : Nat) (bs : List Byte) (secure : Bool) : State :=
  let w := s.busWrite romAttr a bs
  if w.2 = .done ∧ secure then w.1.markSecure (a / 4096) ((bs.length + 4095) / 4096) else w.1

/-- A section is copied into the stack of each reachable die of its mask; SECURE sections lie in secure granules (R92, R97, R246). -/
def State.loadSection (s : State) (img : List Byte) (x : Section) : State :=
  s.each (s.boot.reachable.filter (fun d => bit x.dieMask d)) (fun t d =>
    t.loadAt (stackBase d + x.loadOffset) (x.bytes img) (bit x.flags 0))

/-- `firmware.image` describes the image that runs (R107). -/
def State.recordImage (s : State) (img : List Byte) : State :=
  ((((s.setReg 0x2101 1 (field img 0xC 4)).setReg 0x2101 2 (field img 0x10 2)).setReg 0x2101 3 (field img 0x12 1)).setReg 0x2101 4
    (field img 8 4)).setRegBytes 0x2101 5 (Config.sha384 (signedPart img))

/-- Fabric training of R95 is over: every link of the part is down but those reported, and every Shell that is not FAILED is ACTIVE. -/
def State.linksTrained (s : State) (links : List LinkReport) : State :=
  let key := fun (r : LinkReport) => s.part.linkNamed r.a r.b
  let seen := links.filter (fun r => s.part.links.contains (key r))
  let t0 : Tab Nat := s.part.links.foldl (fun t k => Tab.put t k 1) []
  let up := s.each (s.dieList.filter (fun d => s.shellUp d)) (fun t d => t.setReg (0x2008 + d) 3 2)
  ({ up with fabric := { up.fabric with links := seen.foldl (fun t r => Tab.put t (key r) (min 3 r.state)) t0 } } : State).showLinks

/-- AUTHENTICATION_DONE (R94, R95): the first failing check halts with its code; D1 unreachable from D0 halts with FABRIC_FAIL. Two or more
links down raise the cause FABRIC (R24) where the boot goes on (log entry 113). -/
def execAuthenticationDone (links : List LinkReport) (s : State) (romOk : Bool := true) : Host.Outcome State Fault Refusal :=
  if s.bootState ≠ 3 then .next s
  else if !romOk then .next (s.bootHalt 0x0F01 true)
  else
    let s1 := s.linksTrained links
    match s.imageCheck s.boot.latchedImage s.boot.latchedRing with
    | some code => .next (s1.bootHalt code false)
    | none =>
      if !s1.reachedD0 1 then .next (s1.bootHalt 0x0301 true)
      else
        let img := s.bootBytes 0 s.boot.latchedImage
        let ds := s1.dieList.filter (fun d => s1.reachedD0 d)
        let s2 := (s1.recordImage img).fabricCause.bootEnter 4
        let wait := (ds.drop 1).filter (fun d => s2.reg (0x2008 + d) 2 ≠ 3)
        let s3 : State := { s2 with
          worlds := { s2.worlds with perm := [] }
          boot := { s2.boot with reachable := ds, awaitingReady := wait, readyDeadline := s2.now + ms 5 } }
        let s4 := s3.each wait (fun t d => t.setReg (0x2008 + d) 2 1)
        .next ((sectionsOf img).foldl (fun (t : State) x => t.loadSection img x) s4)

/-- MEMBER_CORE_READY (R97). -/
def execMemberCoreReady (die : Nat) (s : State) : Host.Outcome State Fault Refusal :=
  if s.bootState = 4 ∧ s.boot.awaitingReady.contains die then
    .next (({ s with boot := { s.boot with awaitingReady := s.boot.awaitingReady.erase die } } : State).setReg (0x2008 + die) 2 2)
  else .next s

/-- CORE_READY_TIMEOUT (R97): the Core is FAILED with cause CORE_WATCHDOG; its Shell stays. -/
def execCoreReadyTimeout (die : Nat) (s : State) : Host.Outcome State Fault Refusal :=
  if s.bootState = 4 ∧ s.boot.awaitingReady.contains die then
    let s1 := s.arriveAt s.boot.readyDeadline
    .next (({ s1 with boot := { s1.boot with awaitingReady := s1.boot.awaitingReady.erase die } } : State).coreFailed die 2 true)
  else .next s

/-- DISTRIBUTION_DONE (R39, R80, R97): unreachable dies are FAILED with cause DIE_UNREACHABLE, the members' counters are aligned, and
SELF_TEST begins. -/
def execDistributionDone (s : State) (romOk : Bool := true) : Host.Outcome State Fault Refusal :=
  if s.bootState ≠ 4 ∨ s.boot.awaitingReady ≠ [] then .next s
  else
    let lost := s.dieList.filter (fun d => !s.boot.reachable.contains d && s.shellUp d)
    let s1 := s.each lost (fun t d => t.shellFailed d 5 1 true)
    let s2 : State := { s1 with boot := { s1.boot with slotsDone := [] }, fabric := { s1.fabric with aligned := true, slews := [] } }
    .next (s.romChecked romOk (s2.bootEnter 5))

/-! ### Self-test and training (R98 to R100) -/

/-- The die whose boot slot is next (R98): D1 upwards, D0 last, passing dies that cannot run one, whose Shell is FAILED. -/
def State.nextSlot (s : State) : Option Nat :=
  (s.dieList.drop 1 ++ [0]).find? (fun d => !s.boot.slotsDone.contains d && (decide (d = 0) || s.shellUp d))

/-- Who holds the boot coordination (R98): D0, and during D0's slot D1's Core, else the Core of the lowest member that passed, else D0's
Shell controller, shown as D0. -/
def State.coordinate (s : State) : State :=
  let c := if s.nextSlot = some 0 then ((s.dieList.drop 1).find? (fun d => s.coreActive d)).getD 0
    else if s.boot.slotsDone.contains 0 ∧ !s.coreActive 0 then s.boot.coordinator else 0
  { s with boot := { s.boot with coordinator := c } }

/-- The dies' roles (R43) for the die that holds the trunk role, whose SRAM holds the monitor (R244). -/
def State.setTrunk (s : State) (t : Nat) : State :=
  (s.each s.dieList (fun u d => u.setReg (0x2008 + d) 1 (if d = t then 2 else 1))).setReg 0x2000 4 t |>.markSram

/-- SELF_TEST ends (R80, R99): by which Core passed, and whether D0's Shell and the trunk's are in service. -/
def State.slotsEnd (s : State) : State :=
  if !s.coreActive 0 ∧ !s.coreActive 1 then s.bootHalt 0x0401 true
  else
    let t := if s.coreActive 0 then 0 else 1
    let s1 := s.setTrunk t
    if !s1.shellUp 0 ∨ !s1.shellUp t then s1.bootHalt 0x0402 true
    else (if t = 1 then s1.setReg 0x2700 6 s1.now else s1).bootEnter 6

/-- Dies that a failed Shell leaves out of reach are treated as failed (R24). Where D0's own Shell has failed the boot halts by R99, and no other
die is judged by it. -/
def State.unreached (s : State) : State := if s.shellUp 0 then s.cutOff else s

/-- BOOT_SLOT_DONE (R98, R676): the slot's results and outcome; its event waits for I0's ring. -/
def execBootSlotDone (die : Nat) (r : SlotResult) (s : State) (romOk : Bool := true) : Host.Outcome State Fault Refusal :=
  if s.bootState ≠ 5 ∨ s.nextSlot ≠ some die then .next s
  else if !romOk then .next (s.bootHalt 0x0F01 true)
  else
    let s1 := ((s.slotRecord die r).setReg (0x2718 + die) 5 (r.failed % 4096)).slotMemory die
    let s2 : State := { s1 with boot := { s1.boot with slotsDone := s1.boot.slotsDone ++ [die], slotEvents := s1.boot.slotEvents ++ [s1.slotEvent die 1 r] } }
    let s3 := (s2.slotOutcome die r).unreached.coordinate
    .next (if s3.nextSlot = none then s3.slotsEnd else s3)

/-- MEMORY_TRAINING_DONE (R80, R100): D0's stack failing halts the boot, and so does the stack of the die that holds the trunk role (R696).
Every stack trained has its top 1 MiB overwritten. -/
def execMemoryTrainingDone (failedStacks : List Nat) (s : State) (romOk : Bool := true) : Host.Outcome State Fault Refusal :=
  if s.bootState ≠ 6 then .next s
  else
    let s := s.each (s.dieList.filter (fun d => s.shellUp d)) (fun t d => t.stackTop d)
    if !romOk then .next (s.bootHalt 0x0F01 true)
    else if failedStacks.contains 0 ∨ failedStacks.contains s.trunk then .next (s.bootHalt 0x0501 true)
    else .next ((s.each (s.dieList.filter (fun d => failedStacks.contains d && s.shellUp d)) (fun t d => t.shellFailed d 4 2 true)).unreached.installRoutes.bootEnter 7)

/-! ### The initial ring and OPERATIONAL (R101) -/

/-- `reserved_mib` of R734: U16 for each die, 0 for an absent one. -/
def State.reservedBytes (s : State) : List Byte :=
  (List.range 8).flatMap (fun d => leBytes 2 (if d < s.dies then Config.reservedMib (s.regBytes 0x2101 5) d else 0))

/-- Every subsystem takes up the ring that is active (R101, R186). -/
def State.takeAll (s : State) : State :=
  let s0 := s.each (List.range (2 * s.dies)) (fun t h => t.hpdResample h)
  let s1 := (s0.takeUp (fun i => decide (0x2400 ≤ i ∧ i < 0x2600))).ringUptake s
  (s1.each s1.dieList (fun t d => t.keyUptake d)).hapStart.audioStart.lanesStart

/-- Entry into OPERATIONAL with a ring's values, version and label: the runtime starts, I0 is ACTIVE, and the host is signalled
(R80, R90, R101, R156, R177, R215, R629, R687). -/
def State.goOperational (s : State) (vals : Tab Val) (version : Nat) (label : List Byte) (prev : Option HeldRing) : State :=
  let s0 := (s.bootEnter 8).setReg 0x2100 6 s.now
  let s1 : State := { s0 with mcan := { s0.mcan with serving := false, sessions := [] }, previous := prev, taken := [] }
  let s2 := ((((s1.activate vals version label).setReg 0x2110 8 version).showPrevious).copyDraft).setTrunk s.trunk
  let s3 := (s2.setRegBytes 0x2220 2 s2.reservedBytes).takeAll
  let s4 := s3.commReset.vrStart
  let s5 := s4.enterActive 0
  let s6 := s5.each (s5.dieList.filter (fun d => decide (s5.reg (0x2008 + d) 2 = 3) && s5.shellUp d)) (fun t d => t.startLending d)
  let s7 := s6.each s6.dieList (fun t d => t.setReg (0x2508 + d) 5 (t.use 0x2500 3))
  s7.sendVector 0 0

/-- RING_APPLY_DONE (R101): the initial ring is checked and prepared; a fault in applying it halts with RING_APPLY_FAIL. -/
def execRingApplyDone (applyFault : Bool) (s : State) (romOk : Bool := true) : Host.Outcome State Fault Refusal :=
  if s.bootState ≠ 7 then .next s
  else if !romOk then .next (s.bootHalt 0x0F01 true)
  else if s.boot.latchedRing = 0 then .next (s.goOperational [] 0 defaultLabel none)
  else
    let img := s.bootBytes ringOffset s.boot.latchedRing
    let vals := s.ringImageValues img
    if (s.ringImageCheck img).1 ≠ Status.ok ∨ s.refusals vals ≠ [] then .next (s.bootHalt 0x0601 false)
    else if applyFault then .next (s.bootHalt 0x0602 true)
    else .next (s.goOperational vals (field img 8 4) (slice img 0xC 8) (some { version := 0, label := defaultLabel, values := [] }))

/-! ### Recovery and fuses (R104, R108, R110) -/

/-- The recovery objects of R110 by their index: only the ROM's MCAN server takes them, in AWAIT_IMAGE. -/
def State.recoveryWrite (s : State) (idx : Nat) (data : List Byte) : Nat × State :=
  if !s.mcan.serving ∨ s.bootState ≠ 2 then (Status.deniedAccess, s)
  else
    let s1 := s.finishClear
    if idx = 0x2104 then
      (Status.ok, { s1 with mem := s1.mem.writeBytes (stackBase 0) data, boot := { s1.boot with imageLength := data.length } })
    else if idx = 0x2105 then
      (Status.ok, { s1 with mem := s1.mem.writeBytes (stackBase 0 + ringOffset) data, boot := { s1.boot with ringLength := data.length } })
    else (Status.ok, s1.bootStart)

/-- A write to `sv_advance` (R108). -/
def State.svAdvanceWrite (s : State) (v : Nat) : Nat × State :=
  if v ≤ s.fuses.securityCount ∨ s.reg 0x2101 2 < v then (Status.range, s)
  else (Status.ok, ({ s with fuses := { s.fuses with securityCount := v } } : State).setReg 0x2102 2 v)

/-- A write to `revoke_key` (R108). It is not stored: a read of `revoke_key` goes on giving 0, of which the manual says nothing
(DESIGN CHOICE, log entry 115). -/
def State.revokeKeyWrite (s : State) (n : Nat) : Nat × State :=
  if 3 < n ∨ n = s.reg 0x2101 3 then (Status.range, s)
  else (Status.ok, { s with fuses := { s.fuses with keysRevoked := setBit s.fuses.keysRevoked n true } })

/-- A write to `boot.status.reset` (R106). -/
def State.deviceResetWrite (s : State) (v : Nat) : Nat × State :=
  if v ≠ 0xA5 then (Status.range, s) else (Status.ok, s.powered 6 false)

end Sys2Proof.Machine
end

