-- ==== Sys2Proof/Machine/Package.lean ====
section
/-! DEFINITION. Balls and signals (R46 to R55, R77, R268): what each ball carries, the bank and reset state of each signal, what a ball shows,
and the balls of the boundary-scan register. -/
namespace Sys2Proof.Machine

/-- What a ball carries (R49, R51, R52). Numbers are device-wide (R33); `neg` is the negative ball of a pair. -/
inductive Signal where
  | gnd | supply (r : Rail) | noConnect
  | dpMl (head lane : Nat) (neg : Bool) | dpAux (head : Nat) (neg : Bool) | dpHpd (head : Nat)
  | ltxd (lane : Nat) | lrxd (lane : Nat) | ltxen (lane : Nat) | gpio (n : Nat)
  | elec (e : Nat) | shld (die : Nat)
  | hdrv (c : Nat) | hen (c : Nat) | hflt (c : Nat) | htrig (c : Nat) | hsnsSclk (bus : Nat) | hsnsFs (bus : Nat) | hsnsDin (bus : Nat)
  | tdmBclk (port : Nat) | tdmFsync (port : Nat) | tdmDin (port : Nat) | tdmDout (port : Nat)
  | pcieTx (k : Nat) (neg : Bool) | pcieRx (k : Nat) (neg : Bool) | pcieRefclk (neg : Bool) | perstN | clkreqN
  | refclk | audioMclk | clk32k | resetN | wakeN | svcReqN | pwrenMain | pwrenMem | bootSrc | vrMode | mgmtId (n : Nat)
  | vrScl | vrSda | vrAlertN | mcanTxd | mcanRxd | mcanStb | tck | tms | tdi | tdo | trstN
deriving DecidableEq, Repr

/-! ### The ball map (R48, R49, R51, R52) -/

/-- The five balls of a position in a die's sector, by depth (R49). -/
def sectorRow (d p : Nat) : List Signal :=
  let a := 2 * d
  let b := 2 * d + 1
  let j := 8 * d
  let e := 16 * d
  let g := 4 * d
  let bus (x : Signal) : Signal := if d % 2 = 0 then x else .noConnect
  match p with
  | 1 => [.dpMl a 0 false, .dpMl a 0 true, .gnd, .ltxd j, .lrxd j]
  | 2 => [.dpMl a 1 false, .dpMl a 1 true, .gnd, .ltxen j, .ltxd (j + 1)]
  | 3 => [.dpMl a 2 false, .dpMl a 2 true, .gnd, .lrxd (j + 1), .ltxen (j + 1)]
  | 4 => [.dpMl a 3 false, .dpMl a 3 true, .gnd, .ltxd (j + 2), .lrxd (j + 2)]
  | 5 => [.dpAux a false, .dpAux a true, .gnd, .ltxen (j + 2), .ltxd (j + 3)]
  | 6 => [.dpMl b 0 false, .dpMl b 0 true, .gnd, .lrxd (j + 3), .ltxen (j + 3)]
  | 7 => [.dpMl b 1 false, .dpMl b 1 true, .gnd, .ltxd (j + 4), .lrxd (j + 4)]
  | 8 => [.dpMl b 2 false, .dpMl b 2 true, .gnd, .ltxen (j + 4), .ltxd (j + 5)]
  | 9 => [.dpMl b 3 false, .dpMl b 3 true, .gnd, .lrxd (j + 5), .ltxen (j + 5)]
  | 10 => [.dpAux b false, .dpAux b true, .gnd, .ltxd (j + 6), .lrxd (j + 6)]
  | 11 => [.gnd, .gnd, .gnd, .ltxen (j + 6), .ltxd (j + 7)]
  | 12 => [.dpHpd a, .dpHpd b, .lrxd (j + 7), .ltxen (j + 7), .gpio g]
  | 13 => [.gpio (g + 1), .gpio (g + 2), .gpio (g + 3), .gnd, .tdmBclk d]
  | 14 => [.tdmFsync d, .tdmDin d, .tdmDout d, .gnd, bus (.hsnsSclk (d / 2))]
  | 15 => [.hdrv a, .hen a, .hflt a, .htrig a, bus (.hsnsFs (d / 2))]
  | 16 => [.hdrv b, .hen b, .hflt b, .htrig b, bus (.hsnsDin (d / 2))]
  | 18 => [.elec e, .elec (e + 1), .elec (e + 2), .elec (e + 3), .shld d]
  | 19 => [.elec (e + 4), .elec (e + 5), .elec (e + 6), .elec (e + 7), .gnd]
  | 20 => [.elec (e + 8), .elec (e + 9), .elec (e + 10), .elec (e + 11), .gnd]
  | 21 => [.elec (e + 12), .elec (e + 13), .elec (e + 14), .elec (e + 15), .gnd]
  | _ => [.gnd, .gnd, .gnd, .gnd, .gnd]

/-- The die, position and depth of a ball of the perimeter (R48); none in the centre field. -/
def sectorOf (r c : Nat) : Option (Nat × Nat × Nat) :=
  if r ≤ 5 ∧ c ≤ 42 then some (if c ≤ 21 then (0, c, r) else (1, c - 21, r))
  else if 43 ≤ c ∧ r ≤ 42 then some (if r ≤ 21 then (2, r, 48 - c) else (3, r - 21, 48 - c))
  else if 43 ≤ r ∧ 6 ≤ c then some (if 27 ≤ c then (4, 48 - c, 48 - r) else (5, 27 - c, 48 - r))
  else if c ≤ 5 ∧ 6 ≤ r then some (if 27 ≤ r then (6, 48 - r, c) else (7, 27 - r, c))
  else none

/-- The five balls of a column of the system block, rows 6 to 10 (R51). -/
def systemColumn (c : Nat) : List Signal :=
  match c with
  | 14 => [.pcieRefclk false, .pcieRefclk true, .gnd, .perstN, .clkreqN]
  | 15 => [.refclk, .gnd, .audioMclk, .gnd, .clk32k]
  | 16 => [.gnd, .gnd, .gnd, .gnd, .gnd]
  | 17 => [.resetN, .wakeN, .svcReqN, .pwrenMain, .pwrenMem]
  | 18 => [.bootSrc, .vrMode, .mgmtId 0, .mgmtId 1, .mgmtId 2]
  | 19 => [.mgmtId 3, .vrScl, .vrSda, .vrAlertN, .gnd]
  | 20 => [.mcanTxd, .mcanRxd, .mcanStb, .gnd, .gnd]
  | 21 => [.tck, .tms, .tdi, .tdo, .trstN]
  | _ => [.pcieTx (c - 6) false, .pcieTx (c - 6) true, .gnd, .pcieRx (c - 6) false, .pcieRx (c - 6) true]

/-- First row and column of each die's core block (R52). -/
def coreBlocks : List (Nat × Nat) := [(12, 12), (12, 20), (12, 28), (20, 28), (28, 28), (28, 20), (28, 12), (20, 12)]

/-- The supply or GND of any other ball of the centre field (R52). -/
def centreBall (r c : Nat) : Signal :=
  if (r = 23 ∨ r = 24) ∧ (c = 23 ∨ c = 24) then .supply .aon
  else if (r + c) % 2 = 0 then .gnd
  else match (List.range 8).find? (fun d => let b := coreBlocks.getD d (0, 0)
      decide (b.1 ≤ r ∧ r < b.1 + 8 ∧ b.2 ≤ c ∧ c < b.2 + 8)) with
    | some d => .supply (.core d)
    | none =>
      if 20 ≤ r ∧ r ≤ 23 ∧ 20 ≤ c ∧ c ≤ 27 then .supply .sram
      else if 24 ≤ r ∧ r ≤ 27 ∧ 20 ≤ c ∧ c ≤ 27 then .supply .vdd1
      else if r = 11 ∧ 6 ≤ c ∧ c ≤ 21 then .supply .pcie
      else match min (min (r - 6) (42 - r)) (min (c - 6) (42 - c)) with
        | 0 => .supply .io33
        | 1 => .supply .io18
        | 2 => .supply .dph
        | 3 => .supply .dpa
        | 4 => .supply .vdd2h
        | 5 => .supply .vddq
        | _ => .supply .shell

/-- The die whose presence a signal needs (R33, R53); the system block, GND and the shared rails need none. -/
def Signal.die : Signal → Option Nat
  | .supply (.core d) => some d
  | .dpMl h _ _ => some (h / 2)
  | .dpAux h _ => some (h / 2)
  | .dpHpd h => some (h / 2)
  | .ltxd n => some (n / 8)
  | .lrxd n => some (n / 8)
  | .ltxen n => some (n / 8)
  | .gpio n => some (n / 4)
  | .elec e => some (e / 16)
  | .shld d => some d
  | .hdrv c => some (c / 2)
  | .hen c => some (c / 2)
  | .hflt c => some (c / 2)
  | .htrig c => some (c / 2)
  | .hsnsSclk b => some (2 * b)
  | .hsnsFs b => some (2 * b)
  | .hsnsDin b => some (2 * b)
  | .tdmBclk d => some d
  | .tdmFsync d => some d
  | .tdmDin d => some d
  | .tdmDout d => some d
  | _ => none

/-- The signal of ball (row, column) of the part, rows and columns 1 to 47 (R48 to R53). -/
def State.ballSignal (s : State) (r c : Nat) : Signal :=
  let x := match sectorOf r c with
    | some (d, p, k) => (sectorRow d p).getD (k - 1) .gnd
    | none => if 6 ≤ r ∧ r ≤ 10 ∧ 6 ≤ c ∧ c ≤ 21 then (systemColumn c).getD (r - 6) .gnd else centreBall r c
  if x.die.any (fun d => decide (s.dies ≤ d)) then .noConnect else x

/-! ### Banks and reset states (R54) -/

/-- The banks of R54; supplies and GND have none. -/
inductive Bank where
  | dp | lane | elec | hap | pcie | aon
deriving DecidableEq, Repr

/-- The internal weak pull of a ball, 30 kΩ to 70 kΩ, or none (R54). -/
inductive Pull where
  | none | up | down
deriving DecidableEq, Repr

/-- The direction of a signal (R54): in, out, both, open-drain out, open-drain both, analogue, or as PCIe 5.0 gives it. -/
inductive Direction where
  | input | output | both | openDrain | openDrainBoth | analogue | pcie
deriving DecidableEq, Repr

/-- What a ball shows: a level, a released open-drain output, high impedance, electrical idle, held at GND through 10 kΩ, an input, driven by
its block (whose waveform the model does not hold), measured, held at VDDIO33 ÷ 2 (R456), or no drive of the device. -/
inductive PinState where
  | low | high | released | highImpedance (pull : Pull) | electricalIdle | ground | input (pull : Pull) | driven | sensed | midSupply | none
deriving DecidableEq, Repr

/-- The bank of a signal (R54). -/
def Signal.bank : Signal → Option Bank
  | .gnd => none
  | .supply _ => none
  | .noConnect => none
  | .dpMl _ _ _ => some .dp
  | .dpAux _ _ => some .dp
  | .dpHpd _ => some .dp
  | .ltxd _ => some .lane
  | .lrxd _ => some .lane
  | .ltxen _ => some .lane
  | .gpio _ => some .lane
  | .elec _ => some .elec
  | .shld _ => some .elec
  | .hdrv _ => some .hap
  | .hen _ => some .hap
  | .hflt _ => some .hap
  | .htrig _ => some .hap
  | .hsnsSclk _ => some .hap
  | .hsnsFs _ => some .hap
  | .hsnsDin _ => some .hap
  | .tdmBclk _ => some .hap
  | .tdmFsync _ => some .hap
  | .tdmDin _ => some .hap
  | .tdmDout _ => some .hap
  | .pcieTx _ _ => some .pcie
  | .pcieRx _ _ => some .pcie
  | .pcieRefclk _ => some .pcie
  | _ => some .aon

/-- The direction of a signal (R54); supplies and GND have none. -/
def Signal.direction : Signal → Option Direction
  | .gnd => none
  | .supply _ => none
  | .noConnect => none
  | .dpMl _ _ _ => some .output
  | .dpAux _ _ => some .both
  | .ltxd _ => some .output
  | .ltxen _ => some .output
  | .gpio _ => some .both
  | .elec _ => some .analogue
  | .shld _ => some .analogue
  | .hdrv _ => some .output
  | .hen _ => some .output
  | .hsnsSclk _ => some .output
  | .hsnsFs _ => some .output
  | .tdmBclk _ => some .both
  | .tdmFsync _ => some .both
  | .tdmDout _ => some .output
  | .pcieTx _ _ => some .pcie
  | .pcieRx _ _ => some .pcie
  | .pcieRefclk _ => some .pcie
  | .clkreqN => some .openDrainBoth
  | .svcReqN => some .openDrain
  | .pwrenMain => some .output
  | .pwrenMem => some .output
  | .vrScl => some .openDrainBoth
  | .vrSda => some .openDrainBoth
  | .mcanTxd => some .output
  | .mcanStb => some .output
  | .tdo => some .output
  | _ => some .input

/-- The internal pull of an input, or of TDM_DOUT (R54). -/
def Signal.pull : Signal → Pull
  | .dpHpd _ => .down
  | .lrxd _ => .up
  | .gpio _ => .down
  | .htrig _ => .down
  | .hsnsDin _ => .down
  | .tdmBclk _ => .down
  | .tdmFsync _ => .down
  | .tdmDin _ => .down
  | .tdmDout _ => .down
  | .resetN => .up
  | .wakeN => .up
  | .mcanRxd => .up
  | .tck => .down
  | .trstN => .down
  | .tms => .up
  | .tdi => .up
  | _ => .none

/-- The reset state of a signal (R54). -/
def Signal.resetState (x : Signal) : PinState :=
  match x with
  | .gnd => .none
  | .supply _ => .none
  | .noConnect => .none
  | .dpMl _ _ _ => .electricalIdle
  | .dpAux _ _ => .highImpedance .none
  | .ltxd _ => .high
  | .ltxen _ => .low
  | .elec _ => .ground
  | .shld _ => .ground
  | .hdrv _ => .low
  | .hen _ => .low
  | .hsnsSclk _ => .low
  | .hsnsFs _ => .low
  | .tdmDout _ => .highImpedance .down
  | .pcieTx _ _ => .electricalIdle
  | .pcieRx _ _ => .electricalIdle
  | .pcieRefclk _ => .electricalIdle
  | .clkreqN => .released
  | .svcReqN => .released
  | .pwrenMain => .high
  | .pwrenMem => .high
  | .vrScl => .released
  | .vrSda => .released
  | .mcanTxd => .high
  | .mcanStb => .high
  | .tdo => .highImpedance .none
  | _ => .input x.pull

/-- A bank is isolated: every one but AON in DEEP_SLEEP and OFF (R55). -/
def State.isolated (s : State) (b : Bank) : Bool := decide (b ≠ .aon ∧ 3 ≤ s.powerState)

/-- A level as a pin state. -/
def levelState (b : Bool) : PinState := if b then .high else .low

/-- What an electrode's drive shows on its ball; between scan cycles its block has it. -/
def drivenState : Option ElectrodeDrive → PinState
  | some .ground => .ground
  | some .sensed => .sensed
  | some .midSupply => .midSupply
  | _ => .driven

/-- What the owning block makes of a signal once it has configured it (R54); till then its reset state. The AON outputs follow the levels that
the power and boot rules give (R57, R68, R71, R78). -/
def State.functionState (s : State) (x : Signal) : PinState :=
  let started (on : Bool) (st : PinState) : PinState := if s.operational ∧ on then st else x.resetState
  match x with
  | .dpMl h _ _ => started (decide (2 ≤ s.linkState h)) .driven
  | .dpAux h _ => started (decide (1 ≤ s.linkState h)) .driven
  | .ltxd n => started (decide (s.laneMode n ≠ 0)) .driven
  | .ltxen n => started (decide (s.laneMode n ≠ 0)) .driven
  | .gpio n => match Tab.find? s.pins.gpio n with
    | some b => levelState b
    | none => x.resetState
  | .elec e => started (decide (s.use (0x6000 + e) 1 ≠ 0)) (drivenState (s.electrodeNow e))
  | .shld d => started (decide (s.use (0x6100 + d) 1 = 1)) (drivenState (s.shieldNow d))
  | .hdrv c => started (s.hap c).running.isSome .driven
  | .hen c => started (s.hap c).hen .high
  | .hsnsSclk b => started ((List.range 4).any (fun k => decide (s.use (0x6400 + 4 * b + k) 1 = 1))) .driven
  | .hsnsFs b => started ((List.range 4).any (fun k => decide (s.use (0x6400 + 4 * b + k) 1 = 1))) .driven
  | .tdmBclk d => started (decide (s.use (0x6808 + d) 1 = 1 ∧ s.use (0x6808 + d) 2 = 1)) (if s.powerState = 2 then .low else .driven)
  | .tdmFsync d => started (decide (s.use (0x6808 + d) 1 = 1 ∧ s.use (0x6808 + d) 2 = 1)) (if s.powerState = 2 then .low else .driven)
  | .tdmDout d => started (decide (s.use (0x6808 + d) 1 = 1 ∧ s.powerState ≠ 2)) .driven
  | .pcieTx _ _ => if s.pins.pcieIdle then .electricalIdle else .driven
  | .pcieRx _ _ => if s.pins.pcieIdle then .electricalIdle else .driven
  | .clkreqN => if s.pins.clkreqLow then .low else .released
  | .svcReqN => if s.pins.svcReqLow then .low else .released
  | .pwrenMain => levelState s.pins.pwrenMain
  | .pwrenMem => levelState s.pins.pwrenMem
  | .mcanStb => levelState s.pins.mcanStby
  | .mcanTxd => if (s.operational ∨ s.mcan.serving) ∧ !s.mcan.busOff then .driven else .high
  | .vrScl => started (decide (s.reg 0x2002 2 = 1)) .driven
  | .vrSda => started (decide (s.reg 0x2002 2 = 1)) .driven
  | .tdo => if s.pins.tdoDriven then .driven else x.resetState
  | _ => x.resetState

/-! ### Boundary scan (R268) -/

/-- The digital balls of the LANE, HAP and AON banks but the debug balls, in the order of their banks (the manual gives the register no order,
log entry 153). -/
def State.boundaryBalls (s : State) : List Signal :=
  let per (n : Nat) (f : Nat → List Signal) : List Signal := (List.range (n * s.dies)).flatMap f
  per 8 (fun n => [.ltxd n, .lrxd n, .ltxen n]) ++ per 4 (fun n => [.gpio n]) ++
  per 2 (fun c => [.hdrv c, .hen c, .hflt c, .htrig c]) ++
  ((List.range ((s.dies + 1) / 2)).flatMap (fun b => [.hsnsSclk b, .hsnsFs b, .hsnsDin b])) ++
  per 1 (fun d => [.tdmBclk d, .tdmFsync d, .tdmDin d, .tdmDout d]) ++
  [.perstN, .clkreqN, .refclk, .audioMclk, .clk32k, .resetN, .wakeN, .svcReqN, .pwrenMain, .pwrenMem, .bootSrc, .vrMode,
   .mgmtId 0, .mgmtId 1, .mgmtId 2, .mgmtId 3, .vrScl, .vrSda, .vrAlertN, .mcanTxd, .mcanRxd, .mcanStb]

/-- The device can drive a digital signal's ball (R54). -/
def Signal.drives (x : Signal) : Bool :=
  match x.direction with
  | some .output => true
  | some .both => true
  | some .openDrain => true
  | some .openDrainBoth => true
  | _ => false

/-- SAMPLE/PRELOAD and EXTEST act: in the boot states of R268, or under NID. -/
def State.scanOpen (s : State) : Bool := decide (s.bootState ≤ 2 ∨ s.bootState = 0xFF) || bit s.debugEffective 1

/-- What EXTEST drives on a ball, while R268 lets it act: the bit of the boundary-scan register; an open-drain output is only pulled low (R54). -/
def State.scanState (s : State) (x : Signal) : Option PinState :=
  if !s.worlds.extest ∨ !s.scanOpen ∨ !x.drives then none
  else match s.boundaryBalls.idxOf? x with
    | none => none
    | some n =>
      let b := s.worlds.boundary.getD n false
      some (if b ∧ (x.direction = some .openDrain ∨ x.direction = some .openDrainBoth) then .released else levelState b)

/-- What a signal's ball shows (R54, R55, R268): its reset state while its bank is isolated, EXTEST's level, or what its block makes of it. -/
def State.pinState (s : State) (x : Signal) : PinState :=
  if x.bank.any s.isolated then x.resetState else (s.scanState x).getD (s.functionState x)

/-- What SAMPLE captures of a ball: the level the device drives, or the level found on the ball. -/
def State.sampleBall (s : State) (x : Signal) (found : Bool) : Bool :=
  match s.pinState x with
  | .low => false
  | .high => true
  | _ => found

end Sys2Proof.Machine
end

