-- ==== Sys2Proof/Machine/Debug.lean ====
section
/-! DEFINITION. The debug port (R77, R264, R267, R268): the test access port, boundary scan, and the debug module of RISC-V External Debug
Support 0.13.2, which the manual names (its registers are taken from there: log entry 148). -/
namespace Sys2Proof.Machine

/-! ### The test access port -/

/-- An instruction is in the instruction register and a data register is selected; EXTEST's drive ends with the next instruction. While TRST_N
is low the port stays in reset and takes no instruction (R77). -/
def State.jtag (s : State) (ir : Nat) (dr : List Byte) (f : Worlds → Worlds) : State :=
  if !s.pins.trstHigh then s else { s with worlds := f { s.worlds with jtagIr := ir, jtagDr := dr, extest := false } }

/-- IDCODE: step, part code, manufacturer 0x2B5, 1. -/
def idcodeOf (p : Part) : Nat := Config.siliconStep.toNat * 2 ^ 28 + p.code * 2 ^ 12 + 0x2B5 * 2 + 1

/-- TRST_N changes (R77): low puts the port in reset, where IDCODE is the instruction in force (IEEE 1149.1, log entry 148). -/
def State.tapReset (s : State) (high : Bool) : State :=
  { s with pins := { s.pins with trstHigh := high, tdoDriven := false }
           worlds := { s.worlds with jtagIr := 1, jtagDr := leBytes 4 (idcodeOf s.part), extest := false } }

/-- IDCODE (R267), or a change of TRST_N (R77). -/
def execIdcode (s : State) (trst : Option Bool := none) : Host.Outcome State Fault Refusal :=
  match trst with
  | none => .next (s.jtag 1 (leBytes 4 (idcodeOf s.part)) id)
  | some high => .next (s.tapReset high)

/-- SAMPLE/PRELOAD (R267, R268): the boundary-scan register captures the levels of its balls, `pins` being those found where the device does not
drive one, and a scan loads what EXTEST is to drive; or BYPASS. -/
def execSamplePreload (pins : List Bool) (s : State) (shiftIn : Option (List Bool) := none) : Host.Outcome State Fault Refusal :=
  if s.scanOpen then
    .next (s.jtag 2 [] (fun w => { w with
      sampled := (s.boundaryBalls.zipIdx).map (fun e => s.sampleBall e.1 (pins.getD e.2 false)), boundary := shiftIn.getD w.boundary }))
  else .next (s.jtag 2 [0] id)

/-- EXTEST (R267, R268): the boundary-scan register drives the pins, as it was loaded or as this scan loads it; or BYPASS. -/
def execExtest (s : State) (shiftIn : Option (List Bool) := none) : Host.Outcome State Fault Refusal :=
  if s.scanOpen then .next (s.jtag 3 [] (fun w => { w with extest := true, boundary := shiftIn.getD w.boundary })) else .next (s.jtag 3 [0] id)

/-- DTMCS (R267): version 1, the code of 0.13, 7 address bits, which reach every register of the module, no error; the idle hint is the
implementation's, and free here (log entry 148). -/
def execDtmcs (s : State) : Host.Outcome State Fault Refusal :=
  .next (s.useFree.jtag 0x10 (leBytes 4 (Config.freeNat s.free % 8 * 2 ^ 12 + 7 * 16 + 1)) id)

/-! ### What the enables allow (R264) -/

/-- Invasive debug of a world is enabled: SID for the secure world, NID for the normal one (R264). -/
def State.invasive (s : State) (w : World) : Bool := bit s.debugEffective (if w = .secure then 3 else 1)

/-- Non-invasive debug of a world, its trace and counters, is enabled: SNID or NNID (R264). -/
def State.nonInvasive (s : State) (w : World) : Bool := bit s.debugEffective (if w = .secure then 2 else 0)

/-- The debug access port's transactions (R27, R245): WORLD 1 only under SID. -/
def State.debugAttr (s : State) : BusAttr :=
  { world := BusSource.world .debug (bit s.debugEffective 3), die := 0, inst := ownInstance, source := .debug }

/-- Change the debug module. -/
def State.modDm (s : State) (f : DebugModule → DebugModule) : State := { s with worlds := { s.worlds with dm := f s.worlds.dm } }

/-- A debugger halts a core (R264): it runs, and invasive debug of the world it executes in is enabled. Its registers then hold what its software
left in them, a free value each. -/
def State.debugHalt (s : State) (c : Nat) : State :=
  if s.cpuRuns c && s.invasive (s.cpu c).world then
    s.useFree.modCpu c (fun x => { x with debugHalted := true, debugRegs := [], haltKey := s.free, haltCause := 3 })
  else s

/-- A debugger resumes a core, which then executes from the registers as they stand; with the step bit of dcsr set it halts again after one
instruction. A running core only has its acknowledgement cleared. Secure interrupts that waited for the core are taken (R253). -/
def State.debugResume (s : State) (c : Nat) : State :=
  if (s.cpu c).debugHalted then
    let s1 := s.useFree.modCpu c (fun x => { x with debugHalted := x.stepping, debugRegs := [], haltKey := s.free, haltCause := 4 })
    (s1.modDm (fun d => { d with resumed := c :: d.resumed.filter (· ≠ c) })).takeSecure
  else s.modDm (fun d => { d with resumed := d.resumed.filter (· ≠ c) })

/-! ### Abstract commands: registers of a halted core -/

/-- misa of RV64IMAC with supervisor and user modes (R241). -/
def misaValue : Nat := 2 ^ 63 + 0x141105

/-- A privilege mode as dcsr encodes it. -/
def privilegeCode : Privilege → Nat
  | .user => 0
  | .supervisor => 1
  | .machine => 3

/-- The mode that a code of dcsr gives in a world (R242): one that the world has, else the mode as it was. -/
def modeOfCode (w : World) (old : Privilege) (n : Nat) : Privilege :=
  if n = 0 then .user
  else match w with
    | .normal => if n = 1 then .supervisor else old
    | .secure => if n = 3 then .machine else old

/-- A register of a halted core, by its number of the debug specification: x0, the core's number and its misa, the causes of its last
exceptions, dcsr, the trigger registers, a register that the debugger has written; any other holds what the core's software left in it, a
value that is free and stays while the core is halted. -/
def State.debugReg (s : State) (c regno : Nat) : Nat :=
  let x := s.cpu c
  if regno = 0x1000 then 0
  else if regno = 0xF14 then c
  else if regno = 0x301 then misaValue
  else if regno = 0x142 then x.scause
  else if regno = 0x342 then x.mcause
  else if regno = 0x7A0 then x.trigger
  else if regno = 0x7A1 then (Tab.getD x.triggers x.trigger (0, 0)).1
  else if regno = 0x7A2 then (Tab.getD x.triggers x.trigger (0, 0)).2
  else if regno = 0x7B0 then 4 * 2 ^ 28 + x.breaks + x.haltCause * 64 + (if x.stepping then 4 else 0) + privilegeCode x.mode
  else (Tab.find? x.debugRegs regno).getD (Config.coreReg c x.haltKey regno % 2 ^ 64)

/-- The debugger writes a register of a halted core; a core has four triggers (R267). -/
def State.setDebugReg (s : State) (c regno v : Nat) : State :=
  s.modCpu c (fun x =>
    let t := Tab.getD x.triggers x.trigger (0, 0)
    if regno = 0x1000 ∨ regno = 0x301 ∨ (0xC00 ≤ regno ∧ regno < 0x1000) then x
    else if regno = 0x142 then { x with scause := v }
    else if regno = 0x342 then { x with mcause := v }
    else if regno = 0x7A0 then (if v < 4 then { x with trigger := v } else x)
    else if regno = 0x7A1 then { x with triggers := Tab.put x.triggers x.trigger (v, t.2) }
    else if regno = 0x7A2 then { x with triggers := Tab.put x.triggers x.trigger (t.1, v) }
    else if regno = 0x7B0 then
      { x with stepping := bit v 2, breaks := bits v 15 15 * 2 ^ 15 + bits v 13 12 * 2 ^ 12, mode := modeOfCode x.world x.mode (bits v 1 0) }
    else { x with debugRegs := Tab.put x.debugRegs regno v })

/-- An access-register command: 32 or 64 bits of one register of the selected core, halted and open to invasive debug (R264). -/
def State.abstractCommand (s : State) (v : Nat) : State :=
  let d := s.worlds.dm
  let c := d.hart
  let wide := bits v 22 20 = 3
  let n := Tab.getD d.data 0 0 + (if wide then Tab.getD d.data 1 0 * 2 ^ 32 else 0)
  if d.cmdErr ≠ 0 then s
  else if bits v 31 24 ≠ 0 ∨ (bits v 22 20 ≠ 2 ∧ bits v 22 20 ≠ 3) ∨ bit v 18 ∨ bit v 19 ∨ 0x1020 ≤ bits v 15 0 then s.modDm (fun x => { x with cmdErr := 2 })
  else if !(s.cpu c).debugHalted || !s.invasive (s.cpu c).world then s.modDm (fun x => { x with cmdErr := 4 })
  else if !bit v 17 then s
  else if bit v 16 then s.setDebugReg c (bits v 15 0) n
  else
    let r := s.debugReg c (bits v 15 0)
    s.modDm (fun x => { x with data := Tab.put (Tab.put x.data 0 (r % 2 ^ 32)) 1 (if wide then r / 2 ^ 32 else Tab.getD x.data 1 0) })

/-! ### The system bus (R264, R267) -/

/-- The bytes of a system-bus access. -/
def DebugModule.sbSize (d : DebugModule) : Nat := 2 ^ (bits d.sbcs 19 17)

/-- The address after an access, where sbcs says so. -/
def DebugModule.sbNext (d : DebugModule) : Nat := if bit d.sbcs 16 then (d.sbAddress + d.sbSize) % 2 ^ 40 else d.sbAddress

/-- Why a system-bus access cannot be made: an error held, a size above 64 bits, no alignment, or no invasive debug (7). -/
def State.sbBlocked (s : State) : Option Nat :=
  let d := s.worlds.dm
  if d.sbError ≠ 0 then some d.sbError
  else if 8 < d.sbSize then some 4
  else if d.sbAddress % d.sbSize ≠ 0 then some 3
  else if !s.invasive .normal then some 7
  else none

/-- A system-bus write of the debug module: a refusal or an error response sets sberror 2. -/
def State.sbWrite (s : State) : State :=
  let d := s.worlds.dm
  match s.sbBlocked with
  | some e => s.modDm (fun x => { x with sbError := e })
  | none =>
    let w := s.busWrite s.debugAttr d.sbAddress (leBytes d.sbSize d.sbData)
    w.1.modDm (fun x => { x with sbError := if w.2 = .done then 0 else 2, sbAddress := d.sbNext })

/-- A system-bus read of the debug module. -/
def State.sbRead (s : State) : State :=
  let d := s.worlds.dm
  match s.sbBlocked with
  | some e => s.modDm (fun x => { x with sbError := e })
  | none =>
    let w := s.busRead s.debugAttr d.sbAddress
    w.1.modDm (fun x => { x with sbError := if w.2 = .done then 0 else 2, sbAddress := d.sbNext, sbData := leNat (s.busBytes s.debugAttr d.sbAddress d.sbSize) })

/-! ### The debug module's registers -/

/-- dmstatus: version 0.13, authenticated, and of the selected core whether it is halted, running, unavailable or absent, has resumed as asked, and
has been reset since that was last acknowledged. -/
def State.dmStatus (s : State) : Nat :=
  let d := s.worlds.dm
  let c := d.hart
  2 + 2 ^ 7 +
  (if 4 * s.dies ≤ c then 3 * 2 ^ 14 else if (s.cpu c).debugHalted then 3 * 2 ^ 8 else if s.cpuRuns c then 3 * 2 ^ 10 else 3 * 2 ^ 12) +
  (if d.resumed.contains c then 3 * 2 ^ 16 else 0) + (if c < 4 * s.dies ∧ !d.resetSeen.contains c then 3 * 2 ^ 18 else 0)

/-- haltsum0: the halted cores. -/
def State.haltSummary (s : State) : Nat := (((List.range 32).filter (fun c => (s.cpu c).debugHalted)).map (fun c => 2 ^ c)).sum

/-- A read of a debug-module register. -/
def State.dmRead (s : State) (a : Nat) : Nat :=
  let d := s.worlds.dm
  if a = 4 ∨ a = 5 then Tab.getD d.data (a - 4) 0
  else if a = 0x10 then ofBool d.active + 2 * ofBool d.ndmreset + d.hart * 2 ^ 16
  else if a = 0x11 then s.dmStatus
  else if a = 0x16 then 2 + d.cmdErr * 2 ^ 8
  else if a = 0x38 then 2 ^ 29 + d.sbcs + d.sbError * 2 ^ 12 + 40 * 2 ^ 5 + 15
  else if a = 0x39 then d.sbAddress % 2 ^ 32
  else if a = 0x3A then d.sbAddress / 2 ^ 32
  else if a = 0x3C then d.sbData % 2 ^ 32
  else if a = 0x3D then d.sbData / 2 ^ 32
  else if a = 0x40 then s.haltSummary
  else 0

/-- A write of dmcontrol: the core selected, the acknowledgement of its reset, then its halt or resume request; with dmactive clear the module takes
its reset values. `ndmreset` is held: the manual gives the debug port no reset of the device (DESIGN CHOICE, log entry 148). -/
def State.dmControl (s : State) (v : Nat) : State :=
  if !bit v 0 then s.modDm (fun _ => {})
  else
    let c := bits v 20 16
    let s1 := s.modDm (fun x => { x with
      active := true, hart := c, ndmreset := bit v 1, resetSeen := if bit v 28 then c :: x.resetSeen.filter (· ≠ c) else x.resetSeen })
    if bit v 31 then s1.debugHalt c else if bit v 30 then s1.debugResume c else s1

/-- A write of a debug-module register. -/
def State.dmWrite (s : State) (a v : Nat) : State :=
  let d := s.worlds.dm
  if a = 0x10 then s.dmControl v
  else if !d.active then s
  else if a = 4 ∨ a = 5 then s.modDm (fun x => { x with data := Tab.put x.data (a - 4) v })
  else if a = 0x16 then s.modDm (fun x => { x with cmdErr := if bits v 10 8 = 7 then 0 else x.cmdErr })
  else if a = 0x17 then s.abstractCommand v
  else if a = 0x38 then s.modDm (fun x => { x with sbcs := bits v 20 15 * 2 ^ 15, sbError := if bits v 14 12 = 7 then 0 else x.sbError })
  else if a = 0x39 then
    let s1 := s.modDm (fun x => { x with sbAddress := x.sbAddress / 2 ^ 32 * 2 ^ 32 + v })
    if bit d.sbcs 20 then s1.sbRead else s1
  else if a = 0x3A then s.modDm (fun x => { x with sbAddress := v % 256 * 2 ^ 32 + x.sbAddress % 2 ^ 32 })
  else if a = 0x3C then (s.modDm (fun x => { x with sbData := x.sbData / 2 ^ 32 * 2 ^ 32 + v })).sbWrite
  else if a = 0x3D then s.modDm (fun x => { x with sbData := v * 2 ^ 32 + x.sbData % 2 ^ 32 })
  else s

/-- A read through sbdata0 starts the next read where sbcs says so. -/
def State.dmReadEnds (s : State) (a : Nat) : State := if a = 0x3C ∧ bit s.worlds.dm.sbcs 15 then s.sbRead else s

/-- The DMI data register: the address of the last access, what the last read gave, and status 0. -/
def State.dmiRegister (s : State) : List Byte := leBytes 6 (s.worlds.dm.address * 2 ^ 34 + s.worlds.dm.captured * 4)

/-- DMI (R267): op 1 reads a register of the debug module, op 2 writes it; the data register captures what the last read gave. -/
def execDmi (address data op : Nat) (s : State) : Host.Outcome State Fault Refusal :=
  if !s.pins.trstHigh then .next s
  else
    let s1 := if op = 2 then s.dmWrite address data
              else if op = 1 then (s.modDm (fun x => { x with captured := s.dmRead address })).dmReadEnds address
              else s
    let s2 := if op = 1 ∨ op = 2 then s1.modDm (fun x => { x with address := address % 128 }) else s1
    .next (s2.jtag 0x11 s2.dmiRegister id)

/-! ### Unlock and bypass -/

/-- UNLOCK (R265, R267): the challenge and response register; a response shifted in is judged. -/
def execUnlock (response : Option (List Byte)) (s : State) : Host.Outcome State Fault Refusal :=
  if !s.pins.trstHigh then .next s
  else match response with
    | none => .next (s.jtag 0x12 [] id)
    | some r => .next ((s.debugResponseWrite r).2.jtag 0x12 r id)

/-- BYPASS and every unlisted code (R267). -/
def execBypass (code : Nat) (s : State) : Host.Outcome State Fault Refusal :=
  if [1, 2, 3, 0x10, 0x11, 0x12].contains (code % 256) then .next s else .next (s.jtag (code % 256) [0] id)

end Sys2Proof.Machine
end

