-- ==== Sys2Proof/Machine/Heads.lean ====
section
/-! DEFINITION. The commands of a head's link: hot-plug, sink data, training (R287 to R294). -/
namespace Sys2Proof.Machine

/-- A stopped head takes up ring values that waited for a frame start (R186). -/
def State.settleHead (s : State) (h : Nat) : State :=
  let t := s.timingHead h
  if (s.head t).uptake && !(s.head t).running && !(s.head t).startPending then s.headTake t else s

/-- A head's HPD is sampled in every state but DEEP_SLEEP and OFF, while its Shell is in service (R287, R304). -/
def State.hpdSampled (s : State) (h : Nat) : Bool := decide (s.powerState < 3 ∧ s.reg (0x2008 + h / 2) 3 ≠ 3)

/-- HPD_RISING (R287, R290): the level rises; a disconnected head starts its 100 ms timer. -/
def execHpdRising (head : Nat) (s : State) : Host.Outcome State Fault Refusal :=
  let s0 : State := { s with pins := { s.pins with hpd := head :: s.pins.hpd.filter (· ≠ head) } }
  if !s.hpdSampled head then .next s0
  else
    let s1 := s0.setH 0x3002 head 5 1
    .next (if s.serving && decide (s.linkState head = 1) then s1.hpdRise head else s1)

/-- IRQ_HPD (R287, R289): counted wherever HPD is sampled once OPERATIONAL; a link that lost its lock retrains, the configuration in use first. -/
def execIrqHpd (head : Nat) (linkLost : Bool) (s : State) : Host.Outcome State Fault Refusal :=
  if !s.hpdSampled head ∨ !s.operational ∨ s.health.stopped then .next s
  else
    let s1 := s.incH 0x3002 head 9
    match (s.head head).link with
    | none => .next s1
    | some c =>
      if linkLost && decide (s.linkState head = 6) then
        .next ((s1.enterRetraining head (c :: (s.candidatesFor head (s.modeOf head)).filter (· ≠ c)) (s.head head).firstCand).settleHead head)
      else .next s1

/-- HPD_UNPLUG (R287, R290, R296, R308): the link is DISCONNECTED, the generator stops, the sink data are emptied. In SLEEP, where the link is
down already (log entry 24), the connection ends too, with its event. A pair whose other link keeps the generator running has its limits from the
next frame start (R301). -/
def execHpdUnplug (head : Nat) (s : State) : Host.Outcome State Fault Refusal :=
  let s0 : State := { s with pins := { s.pins with hpd := s.pins.hpd.filter (· ≠ head) } }
  if !s.hpdSampled head then .next s0
  else
    let s3 := s0.sinkGone head
    if !s.serving ∨ s.linkState head ≤ 1 then .next s3
    else
      let s4 := (s3.modHead head (fun x => { x with link := none, preferred := false, idlePattern := false, lit := false })).linkEnter head 1
      let s5 := (s4.stopGenerator head).settleHead head
      let t := s5.timingHead head
      .next (if s5.generates t then s5.modHead t (fun x => { x with nextMode := some (x.nextMode.getD x.mode) }) else s5)

/-- DEBOUNCE_EXPIRY (R290): the 100 ms timer expires with HPD high; CONNECTED is written and the cable is measured. -/
def execDebounceExpiry (head : Nat) (s : State) : Host.Outcome State Fault Refusal :=
  match (s.head head).debounce with
  | none => .next s
  | some t =>
    if s.linkState head ≠ 2 then .next s
    else
      let s1 := (s.arriveAt t).modHead head (fun x => { x with debounce := none, connected := true })
      .next ((s1.linkEnter head 3).linkEvent head 1)

/-- CABLE_MEASURED (R288): the length, or 0xFFFE outside 0.3 m to 15 m; the head reads the sink. -/
def execCableMeasured (head cm : Nat) (s : State) : Host.Outcome State Fault Refusal :=
  if s.linkState head ≠ 3 then .next s
  else .next ((s.setH 0x3002 head 4 (if 30 ≤ cm ∧ cm ≤ 1500 then cm else 0xFFFE)).linkEnter head 4)

/-- CAPS_READ_DONE (R277, R278, R290, R293, R294): the sink's data, and the decision that follows; three failed AUX
transactions fail the link. `failed` counts the AUX transactions that failed after their retries before the sink was read (R307). -/
def execCapsReadDone (head : Nat) (caps : Option SinkData) (s0 : State) (failed : Nat := 0) : Host.Outcome State Fault Refusal :=
  let s := if caps.isSome ∧ s0.linkState head = 4 then s0.count (0x3002 + 256 * head) 10 (min 2 failed) else s0
  if s.linkState head ≠ 4 then .next s
  else match caps with
    | none => .next (((s.count (0x3002 + 256 * head) 10 3).linkDown head 8 5).settleHead head)
    | some k =>
      let x := s.head head
      let s1 := if x.lastEdid ≠ [] ∧ x.lastEdid ≠ k.edid then s.incH 0x3003 head 4 else s
      let s2 := ((s1.setRegBytes (0x3003 + 256 * head) 1 k.dpcd).setRegBytes (0x3003 + 256 * head) 2 k.edid).setRegBytes
        (0x3003 + 256 * head) 3 k.displayid
      let r := k.range.getD (0, 0)
      let s3 := ((s2.setH 0x3002 head 11 r.1).setH 0x3002 head 12 r.2).modHead head (fun y => { y with sink := some k, lastEdid := k.edid })
      let s4 := if x.pairedTaken && decide (head % 2 = 0) && k.tileRight then
          s3.event (s3.headHolder head) 0x001E head Status.ok (head / 2) 2 0 else s3
      .next ((s4.decideCaps head).settleHead head)

/-- TRAINING_ATTEMPT_DONE (R290 to R292): a candidate trains and the generator starts, or the next one is tried. -/
def execTrainingAttemptDone (head : Nat) (ok : Bool) (s : State) : Host.Outcome State Fault Refusal :=
  let x := s.head head
  if s.linkState head ≠ 5 ∧ s.linkState head ≠ 7 then .next s
  else match x.candidates[x.attempt]? with
    | none => .next s
    | some c =>
      let s1 := s.incH 0x3002 head 6
      if ok then
        let first := decide (x.firstCand = some c)
        let s2 := (s1.setH 0x3002 head 2 c.rate).setH 0x3002 head 3 c.lanes
        let s3 := s2.modHead head (fun y => { y with link := some c, idlePattern := false, lit := true })
        let s4 := ((if first then s3 else s3.incH 0x3002 head 8).trainedLevels head).linkEnter head 6
        .next ((s4.linkEvent head (if first then 2 else 7)).beginRun head)
      else if x.attempt + 1 < x.candidates.length then .next (s1.modHead head (fun y => { y with attempt := y.attempt + 1 }))
      else .next ((s1.linkDown head 8 5).settleHead head)

/-- A write of 0x01 to `head.control.retrain` (R310). -/
def State.retrainWrite (s : State) (h : Nat) : Nat × State :=
  let st := s.linkState h
  if st ≤ 1 then (Status.deniedAccess, s)
  else if st = 6 then
    let cs := s.candidatesFor h (s.modeOf h)
    (Status.ok, (s.enterRetraining h cs cs.head?).settleHead h)
  else if st = 8 ∨ st = 9 then (Status.ok, s.linkEnter h 4)
  else (Status.ok, s)

end Sys2Proof.Machine
end

