-- ==== Sys2Proof/Machine/Shed.lean ====
section
/-! DEFINITION. Freeze, thaw, and the shed image (R227 to R240): what the commands written to `shed.control` do, and the image
that SAVE writes and RESTORE reads. -/
namespace Sys2Proof.Config

/-- The context that the runtime reads from a context block, which is opaque outside the runtime (R235). -/
opaque restoredContext : List Byte → Option Sys2Proof.Machine.GfxContext

end Sys2Proof.Config
namespace Sys2Proof.Machine

/-- The outcome of the running shed command (R227): `result`, the type 0x0003 event for I0, and the control is free again. -/
def State.shedOutcome (s : State) (reason status detail : Nat) : State :=
  (({ s with shed := {} } : State).setReg 0x2221 9 status).event 0 0x0003 s.shed.target status 0xFF reason detail

/-! ### Freeze (R229 to R233) -/

/-- The running contexts of an instance are asked to stop at their next boundary (R229, R444). -/
def State.gfxFreeze (s : State) (i : Nat) : State :=
  s.each s.dieList (fun t d =>
    match (t.gdie d).running with
    | some c => if t.ctxInst c = some i then t.requestPreemption d else t
    | none => t)

/-- FREEZE of an instance in ACTIVE (R228, R229). -/
def State.freezeWrite (s : State) (i : Nat) : Nat × State :=
  if s.instState i ≠ 1 then (Status.deniedAccess, s)
  else
    let drain := decide (s.reg 0x2221 3 = 1)
    let s1 : State := { s with shed := { running := some 1, target := i, drainDeadline := if drain then some (s.now + ms (s.reg 0x2221 4)) else none } }
    let s2 := (s1.modInst i (fun x => { x with frozenMode := s.reg 0x2221 3 })).instEnter i 4 Status.ok
    (Status.pending, (if drain then s2 else s2.gfxFreeze i).audioFreeze i)

/-- A lane request came from a queue of an instance. -/
def LaneRequest.fromInst (r : LaneRequest) (i : Nat) : Bool :=
  match r with
  | .command _ _ _ (.entry j _ _ _ _) => decide (j = i)
  | .read _ (.entry j _ _ _ _) => decide (j = i)
  | _ => false

/-- A die's raster cores are held by a context of an instance. -/
def State.drawsFor (s : State) (d i : Nat) : Bool := ((s.gdie d).running.bind s.ctxInst) == some i

/-- Everything that FREEZING waits for has ended (R229): jobs that drain, contexts on the cores, stream ramps, stream entries, lane
transactions, the mailbox request. -/
def State.freezeReady (s : State) (i : Nat) : Bool :=
  let jobs := (s.shed.drainDeadline.isSome && s.allCtxs.any (fun c => decide ((s.ctx c).job.map (fun (j : GfxJob) => j.inst) = some i))) ||
    s.dieList.any (fun d => s.drawsFor d i)
  let ramps := (s.streamsOf i).any (fun n => (s.stream n).ramp.isSome)
  let streams := (List.range s.unitCount).any (fun u => decide ((s.streamRun u).map (fun (r : StreamRun) => r.inst) = some i))
  let lanes := (List.range (8 * s.dies)).any (fun n => match (Tab.getD s.lanes.lanes n {}).current with
    | none => false
    | some t => t.request.fromInst i)
  let m := (s.inst i).mbox
  !jobs && !ramps && !streams && !lanes && !(m.outstanding && m.recorded.isNone)

/-- An instance enters FROZEN: the time that its image carries (R228, R235). -/
def State.enterFrozen (s : State) (i : Nat) : State := (s.modInst i (fun x => { x with frozenTime := s.now })).instEnter i 5 Status.ok

/-- The freeze steps are done: the instance is FROZEN (R228, R229). -/
def State.freezeEnd (s : State) (i : Nat) : State :=
  ((({ s with shed := {} } : State).setReg 0x2221 9 Status.ok).gfxSettle).enterFrozen i

/-! ### Thaw (R234) -/

/-- Fetching resumes at the recorded tails; a tail recorded beyond its queue stops it (R204, R231). -/
def State.tailsResume (s : State) (i : Nat) : State :=
  s.each (List.range 16) (fun t q =>
    let x := t.sq i q
    if x.enabled ∧ !x.stopped ∧ x.size ≤ x.tail then t.stopQueue i q Status.range else t)

/-- A PLAY taken and not started is placed again (R229, R495). -/
def State.playsResume (s : State) (i : Nat) : State :=
  s.each (List.range (2 * s.dies)) (fun t c => match (t.hap c).play with
    | none => t
    | some p => if p.inst = i ∧ p.placed then t.placePlay c p else t)

/-- THAW of an instance in FROZEN (R228, R234): held records, contexts, streams, fetching, a recorded request, ACTIVE. -/
def State.thawWrite (s : State) (i : Nat) : Nat × State :=
  if s.instState i ≠ 5 then (Status.deniedAccess, s)
  else
    let x := s.inst i
    let s1 := ((s.setReg (0x2200 + i) 1 1).modInst i (fun y => { y with held := [], heldSaved := 0 })).deliverAll i x.held
    let s2 := (((s1.gfxSettle).audioThaw i).playsResume i).tailsResume i
    let s3 : State := { s2.modInst i (fun y => { y with mbox := { y.mbox with recorded := none } }) with
      dir := { s2.dir with blocked := s2.dir.blocked ++ x.mbox.recorded.toList.map (fun r => { req := r.1, request := r.2, accepted := false }) } }
    (Status.pending, (s3.setReg 0x2221 9 Status.ok).instEnter i 1 Status.ok)

/-! ### The shed image (R235) -/

/-- Bytes padded with zeros to a multiple of 4,096. -/
def padPage (bs : List Byte) : List Byte := bs ++ List.replicate ((4096 - bs.length % 4096) % 4096) 0

/-- The record of an entry with its live value. -/
def State.entryRecord (s : State) (idx sub : Nat) : List Byte :=
  match lookup s.part idx sub with
  | none => []
  | some f =>
    let v : Val :=
      if 0x6900 ≤ idx ∧ idx < 0x6980 ∧ 1 ≤ sub ∧ sub ≤ 0x40 then .num (s.gainRead (idx - 0x6900) (sub - 1))
      else if 0x7A40 ≤ idx ∧ sub = 8 then .num (s.streamShown (idx - 0x7A40)).1
      else if 0x7A40 ≤ idx ∧ sub = 9 then .num (s.streamShown (idx - 0x7A40)).2
      else s.liveAt idx sub
    ({ idx := idx, sub := sub, data := f.row'.encode v } : Record).encode

/-- RESOURCES: subs 0x02 and 0x04 to 0x10 of the instance object, with index written as 0x2200. -/
def State.shedResources (s : State) (i : Nat) : List Byte :=
  (2 :: (List.range 13).map (· + 4)).flatMap (fun sub => patch (s.entryRecord (0x2200 + i) sub) 0 (leBytes 2 0x2200))

/-- The RW live entries of an instance's grant units, ascending. -/
def State.shedLive (s : State) (i : Nat) : List (Nat × Nat) :=
  let all := Objects.map.flatMap (fun o => ((List.range (o.cls.count s.part)).filter (fun k => s.grantHeld i o k)).flatMap (fun k =>
    (o.subs.filter (fun e => decide (e.kind = .live ∧ e.acc = .rw))).flatMap (fun e =>
      (List.range (e.hi + 1 - e.lo)).map (fun n => entryKey (o.base + o.stride * k) (e.lo + n)))))
  ((all.foldl (fun (t : Tab Unit) k => Tab.put t k ()) []).map (·.1)).map (fun k => (k / 256, k % 256))

/-- LIVE_ENTRIES. -/
def State.shedLiveEntries (s : State) (i : Nat) : List Byte := (s.shedLive i).flatMap (fun e => s.entryRecord e.1 e.2)

/-- Entries of a queue that were fetched and have not started: audio buffers (a started one counts, its progress is saved), lane requests,
a PLAY, commits that have not arrived. -/
def State.unstarted (s : State) (i q : Nat) : Nat :=
  let x := s.sq i q
  let ours := fun (o : LaneOrigin) => match o with
    | .entry j r _ _ _ => decide (j = i ∧ r = q)
    | _ => false
  (if x.type = 3 then ((s.stream (x.target - 64)).buffers.filter (fun b => decide (b.inst = i ∧ b.q = q))).length else 0) +
  ((List.range s.laneCount).map (fun n => ((s.lane n).queue.filter (fun e => ours e.2.origin)).length)).sum +
  ((List.range (2 * s.dies)).map (fun c => ofBool (decide ((s.hap c).play.map (fun (p : HapticPlay) => (p.inst, p.q)) = some (i, q))))).sum +
  ((List.range (2 * s.dies)).map (fun h => ((s.head h).checked.filter (fun p => decide (p.inst = i ∧ p.q = q))).length)).sum

/-- One record of QUEUES. Entries fetched and not started lie from its head on, and a started audio entry with the bytes it has consumed. -/
def State.shedQueue (s : State) (i q : Nat) : List Byte :=
  let x := s.sq i q
  let bufs := if x.type = 3 then (s.stream (x.target - 64)).buffers.filter (fun b => decide (b.inst = i ∧ b.q = q)) else []
  let progress := match bufs.head? with
    | none => x.progress
    | some b => b.consumed * b.size
  let head := (x.head + x.size - s.unstarted i q % x.size) % x.size
  leBytes 1 q ++ leBytes 3 0 ++ leBytes 4 x.config.toNat ++ leBytes 8 x.base ++ leBytes 2 x.target ++ leBytes 2 head ++ leBytes 2 x.tail ++
  leBytes 2 0 ++ leBytes 4 progress ++ leBytes 2 x.status ++ leBytes 1 (ofBool x.stopped) ++ leBytes 1 0

/-- QUEUES. -/
def State.shedQueues (s : State) (i : Nat) : List Byte := (List.range 16).flatMap (s.shedQueue i)

/-- EVENTS. -/
def State.shedEvents (s : State) (i : Nat) : List Byte :=
  let x := s.inst i
  let e := x.evq
  leBytes 8 e.base ++ leBytes 4 e.config.toNat ++ leBytes 4 e.moderation ++ leBytes 2 e.head ++ leBytes 2 e.tail ++ leBytes 4 e.sequence ++
  leBytes 4 x.held.length ++ leBytes 4 0 ++ x.held.flatMap EvRecord.encode

/-- A response as it lies in its buffer: a 16-byte header and its body (R168). -/
def Reply.image (r : Reply) : List Byte :=
  leBytes 1 r.service ++ leBytes 1 0 ++ leBytes 2 r.tag ++ leBytes 2 r.status ++ leBytes 1 r.failPos ++ leBytes 1 0 ++
  leBytes 4 r.moved ++ leBytes 4 0 ++ r.body

/-- MAILBOX. -/
def State.shedMailbox (s : State) (i : Nat) : List Byte :=
  let m := (s.inst i).mbox
  leBytes 4 (ofBool m.outstanding + 2 * ofBool m.ready) ++ leBytes 4 0 ++ (match m.response with
    | none => leBytes 16 0
    | some r => r.image)

/-- The latched entries of head h that instance i holds: its layers but for a region's (R397, R415), and with the whole head its sprites and background. -/
def State.shedLatched (s : State) (i h : Nat) : List (Nat × Nat) :=
  let layers := ((s.layersOf h).filter (fun l => decide (s.layerHolder l = i) && !s.heartwoodLayer l)).flatMap (fun l =>
    (List.range 0x1A).map (fun k => (0x4000 + l, k + 2)))
  let whole := s.assigned i 6 h
  (if whole then [(0x3009 + 256 * h, 1)] else []) ++ layers ++
  (if whole then (List.range 8).flatMap (fun n => (List.range 10).map (fun k => (0x4100 + 8 * h + n, k + 1))) else [])

/-- Records gathered into runs of at most 1,024 records and 65,520 bytes, in order (R311, R312). -/
def recordRuns (rs : List (List Byte)) : List (List (List Byte)) :=
  (rs.foldl (fun (a : List (List (List Byte))) r => match a with
    | [] => [[r]]
    | x :: xs => if x.length < 1024 ∧ (x.map List.length).sum + r.length ≤ 65520 then (x ++ [r]) :: xs else [r] :: x :: xs) []).reverse

/-- A commit block of encoded records (R312). -/
def commitBlock (rs : List (List Byte)) : List Byte :=
  leBytes 4 0x54494D43 ++ leBytes 2 rs.length ++ leBytes 2 0 ++ leBytes 4 (16 + rs.flatten.length) ++ leBytes 4 0 ++ rs.flatten

/-- The commit blocks that reproduce the latched state of a head: one, or as many as the limits of R311 make necessary (log entry 142). -/
def State.shedBlocks (s : State) (i h : Nat) : List (List Byte) :=
  (recordRuns ((s.shedLatched i h).map (fun e => s.entryRecord e.1 e.2))).map commitBlock

/-- The heads of which an instance holds the whole or a layer set. -/
def State.shedHeads (s : State) (i : Nat) : List Nat := (List.range (2 * s.dies)).filter (fun h => decide (s.shedLatched i h ≠ []))

/-- COMMITS: one 64-byte entry per block (R311), then the blocks; `block_addr` counts from the section's start (log entry 35). -/
def State.shedCommits (s : State) (i : Nat) : List Byte :=
  let bs := (s.shedHeads i).flatMap (s.shedBlocks i)
  let place := fun (k : Nat) => 64 * bs.length + ((bs.take k).map List.length).sum
  (List.range bs.length).flatMap (fun k =>
    leBytes 2 1 ++ leBytes 2 0 ++ leBytes 4 0 ++ leBytes 8 (place k) ++ leBytes 4 (bs.getD k []).length ++ leBytes 44 0) ++ bs.flatten

/-- The context slots an instance holds. -/
def State.shedContexts (s : State) (i : Nat) : List Nat := (List.range (16 * s.dies)).filter (fun c => decide (s.contextHolder c = i))

/-- GRAPHICS. The block of a context is the runtime's own (R235): a free value for each freeze. -/
def State.shedGraphics (s : State) (i : Nat) : List Byte :=
  (s.shedContexts i).flatMap (fun c =>
    let b := Config.contextBlock (256 * (s.inst i).frozenTime + c)
    leBytes 2 c ++ leBytes 2 0 ++ leBytes 4 b.length ++ b)

/-- The pages mapped, ascending. -/
def State.mappedPages (s : State) (i : Nat) : List Nat :=
  (((s.inst i).mapped).foldl (fun (t : Tab Unit) p => Tab.put t p ()) []).map (·.1)
/-- A page's bytes. -/
def State.pageBytes (s : State) (i p : Nat) : List Byte := s.imem.readBytes (idaKey i (65536 * p)) 65536
/-- CRC-32C of a byte string. -/
def crc32c (bs : List Byte) : Nat := Crc.value Crc.crc32c bs
/-- MEMORY_MANIFEST. -/
def State.shedManifest (s : State) (i : Nat) : List Byte :=
  let ps := s.mappedPages i
  leBytes 4 ps.length ++ leBytes 4 0 ++ ps.flatMap (fun p => leBytes 4 p ++ leBytes 4 (crc32c (s.pageBytes i p)))

/-- The sections of an instance's image, by type (R235); sections of classes it holds nothing of are left out. -/
def State.shedSections (s : State) (i : Nat) : List (Nat × List Byte) :=
  [(1, s.shedResources i)] ++ (if s.shedLive i = [] then [] else [(2, s.shedLiveEntries i)]) ++ [(3, s.shedQueues i), (4, s.shedEvents i),
    (5, s.shedMailbox i)] ++ (if s.shedHeads i = [] then [] else [(6, s.shedCommits i)]) ++
  (if s.shedContexts i = [] then [] else [(7, s.shedGraphics i)]) ++ [(8, s.shedManifest i), (9, (s.mappedPages i).flatMap (s.pageBytes i))]

/-- Bytes of an image with these sections. -/
def imageLength (secs : List (Nat × List Byte)) : Nat := (((64 + 24 * secs.length) :: secs.map (fun (e : Nat × List Byte) => e.2.length)).map (fun n => (n + 4095) / 4096 * 4096)).sum

/-- `required_bytes` (R227). -/
def State.requiredBytes (s : State) : Nat :=
  let i := s.reg 0x2221 1
  if s.instState i = 5 then imageLength (s.shedSections i) else 0

/-- The section table's entries, the first section at an offset. -/
def sectionTable : List (Nat × List Byte) → Nat → List Byte
  | [], _ => []
  | e :: es, off => leBytes 2 e.1 ++ leBytes 2 0 ++ leBytes 4 (crc32c e.2) ++ leBytes 8 off ++ leBytes 8 e.2.length ++
      sectionTable es (off + (e.2.length + 4095) / 4096 * 4096)

/-- The whole image of an instance. -/
def State.shedImage (s : State) (i : Nat) : List Byte :=
  let secs := s.shedSections i
  let table := sectionTable secs ((64 + 24 * secs.length + 4095) / 4096 * 4096)
  let head := leBytes 4 0x44454853 ++ leBytes 2 1 ++ leBytes 2 secs.length ++ leBytes 8 (imageLength secs) ++ leBytes 4 (s.reg 0x2101 1) ++
    leBytes 2 (s.reg 0x1F00 1) ++ leBytes 2 s.part.code ++ leBytes 1 i ++ leBytes 1 (s.inst i).frozenMode ++ leBytes 6 0 ++
    leBytes 8 (s.inst i).frozenTime ++ leBytes 8 s.now ++ leBytes 12 0
  padPage (head ++ leBytes 4 (crc32c (head ++ table)) ++ table) ++ secs.flatMap (fun e => padPage e.2)

/-- SAVE of an instance in FROZEN (R228, R236). The records held by now are in its image (R239). -/
def State.saveWrite (s : State) (i : Nat) : Nat × State :=
  if s.instState i ≠ 5 then (Status.deniedAccess, s)
  else if s.reg 0x2221 6 < s.requiredBytes then (Status.range, s.setReg 0x2221 9 Status.range)
  else (Status.pending, { s.modInst i (fun x => { x with heldSaved := x.held.length }) with
    shed := { running := some 3, target := i, image := s.shedImage i } })

/-! ### Restore (R237 to R240) -/

/-- An entry of the section table: type, crc, offset, length. -/
structure ShedSection where
  type   : Nat
  crc    : Nat
  offset : Nat
  length : Nat
deriving DecidableEq, Repr

/-- The section table of an image. -/
def imageSections (img : List Byte) : List ShedSection :=
  (List.range (field img 6 2)).map (fun k =>
    let b := 64 + 24 * k
    ⟨field img b 2, field img (b + 4) 4, field img (b + 8) 8, field img (b + 16) 8⟩)

/-- The bytes of the section of a type. -/
def sectionBytes (img : List Byte) (type : Nat) : List Byte :=
  match (imageSections img).find? (fun e => e.type = type) with
  | none => []
  | some e => slice img e.offset e.length

/-- The 1-based position of the section of a type. -/
def shedSectionAt (img : List Byte) (type : Nat) : Nat := (((imageSections img).map ShedSection.type).findIdx? (· = type)).map (· + 1) |>.getD 0

/-- The records of GRAPHICS: slot, reserved field and context block. -/
def imageContexts : Nat → List Byte → List (Nat × Nat × List Byte)
  | 0, _ => []
  | _, [] => []
  | n + 1, b => (field b 0 2, field b 2 2, slice b 8 (field b 4 4)) :: imageContexts n (b.drop (8 + field b 4 4))

/-- The number of entries of COMMITS: the first block lies behind the last. -/
def commitCount (b : List Byte) : Nat := if b = [] then 0 else field b 8 8 / 64

/-- The blocks of the COMMITS section, one per entry. -/
def imageBlocks (b : List Byte) : List (List Byte) :=
  (List.range (commitCount b)).map (fun k => slice b (field b (64 * k + 8) 8) (field b (64 * k + 16) 4))

/-- Reserved fields of an event record are 0 (R208). -/
def eventReservedOk (r : List Byte) : Bool :=
  decide (field r 2 1 < 4) && (if field r 0 2 = 1 then allZero (slice r 28 4) else allZero (slice r 22 2))

/-- Reserved fields of an entry of COMMITS are 0 (R200, R311). -/
def commitReservedOk (e : List Byte) : Bool := decide (field e 2 2 < 2 ∧ field e 0x14 2 < 2) && allZero (slice e 0x16 42)

/-- Reserved fields of a commit block and its records are 0 (R312). -/
def blockReservedOk (b : List Byte) : Bool :=
  allZero (slice b 6 2) && allZero (slice b 12 4) && ((parseRecords 1024 (b.drop 16)).getD []).all (·.zero)

/-- Reserved bits of a queue's registers (R197): SQ_CONFIG and SQ_BASE. -/
def sqReservedOk (config base : Nat) : Bool := decide (bits config 29 24 = 0 ∧ bits config 11 11 = 0 ∧ base % 4096 = 0)
/-- Reserved bits of an event ring's registers (R197): EVQ_BASE, EVQ_CONFIG, EVQ_MODERATION. -/
def evqReservedOk (base config moderation : Nat) : Bool :=
  decide (base % 4096 = 0 ∧ bits config 29 20 = 0 ∧ bits config 15 11 = 0 ∧ moderation < 65536)

/-- Reserved fields of the sections are 0 (R13, R237), and reserved bits of the registers they hold (R197). -/
def imageReservedOk (img : List Byte) : Bool :=
  let q := sectionBytes img 3
  let e := sectionBytes img 4
  let m := sectionBytes img 5
  let c := sectionBytes img 6
  (List.range 16).all (fun k => allZero (slice q (32 * k + 1) 3) && allZero (slice q (32 * k + 0x16) 2) && allZero (slice q (32 * k + 0x1F) 1) &&
    sqReservedOk (field q (32 * k + 4) 4) (field q (32 * k + 8) 8)) && evqReservedOk (field e 0 8) (field e 8 4) (field e 12 4) && decide (field m 0 4 < 4) &&
  allZero (slice e 28 4) && (List.range (min (field e 24 4) 512)).all (fun k => eventReservedOk (slice e (32 + 32 * k) 32)) &&
  allZero (slice m 4 4) && allZero (slice m 9 1) && allZero (slice m 15 1) && allZero (slice m 20 4) &&
  (List.range (commitCount c)).all (fun k => commitReservedOk (slice c (64 * k) 64)) && (imageBlocks c).all blockReservedOk &&
  (imageContexts 128 (sectionBytes img 7)).all (fun x => decide (x.2.1 = 0)) && allZero (slice (sectionBytes img 8) 4 4) &&
  [1, 2].all (fun t => ((parseRecords 65536 (sectionBytes img t)).getD []).all (·.zero))

/-- Check 1 of R237: header, section table and places; every fault in them fails at section 0. -/
def State.imageHeaderOk (s : State) (img : List Byte) : Bool :=
  let n := field img 6 2
  let ss := imageSections img
  decide (64 ≤ img.length ∧ field img 0 4 = 0x44454853 ∧ field img 4 2 = 1 ∧ 3 ≤ n ∧ n ≤ 16) &&
  allZero (slice img 0x1A 6) && allZero (slice img 0x30 12) && (List.range n).all (fun k => decide (field img (66 + 24 * k) 2 = 0)) &&
  decide (field img 0x3C 4 = crc32c (img.take 0x3C ++ slice img 64 (24 * n))) &&
  decide (field img 8 8 % 4096 = 0 ∧ field img 8 8 ≤ s.reg 0x2221 6 ∧ field img 8 8 ≤ img.length) &&
  decide ((ss.map ShedSection.type).Pairwise (· < ·)) &&
  ss.all (fun e => decide (1 ≤ e.type ∧ e.type ≤ 9 ∧ e.offset % 4096 = 0 ∧ e.offset + e.length ≤ field img 8 8)) &&
  [1, 8, 9].all (fun t => decide (shedSectionAt img t ≠ 0)) && imageReservedOk img

/-- The records of RESOURCES, by sub. -/
def imageResources (img : List Byte) : List Record := (parseRecords 64 (sectionBytes img 1)).getD []

/-- Pages and CRCs of the manifest. -/
def imageManifest (img : List Byte) : List (Nat × Nat) :=
  let b := sectionBytes img 8
  (List.range (field b 0 4)).map (fun k => (field b (8 + 8 * k) 4, field b (12 + 8 * k) 4))

/-- The assignment bytes that an instance's sub holds. -/
def State.assignmentBytes (s : State) (i sub : Nat) : List Byte :=
  match lookup s.part (0x2200 + i) sub with
  | none => []
  | some f => f.row'.encode (s.liveAt (0x2200 + i) sub)

/-- The assignment subs that are bitmaps of resources, the graphics weights apart (R226). -/
def isBitmap (sub : Nat) : Bool := isAssignment sub && decide (sub ≠ 9)

/-- RESOURCES holds the records of R235: subs 0x02 and 0x04 to 0x10 of the instance object. -/
def resourcesWhole (rs : List Record) : Bool :=
  decide (rs.map (·.sub) = 2 :: (List.range 13).map (· + 4)) && rs.all (fun r => decide (r.idx = 0x2200))

/-- Check 4 of R237, resources: without a source the target holds exactly those of the image; with one the source holds them all and
the target none of them. A source that is not FROZEN holds none. -/
def State.resourcesOk (s : State) (i : Nat) (source : Option Nat) (img : List Byte) : Bool :=
  resourcesWhole (imageResources img) && (imageResources img).all (fun r =>
    if !isBitmap r.sub then true
    else match source with
      | none => decide (s.assignmentBytes i r.sub = r.data)
      | some j =>
        let named := (List.range (8 * r.data.length)).filter (bitmapGet r.data)
        named.all (fun n => decide (s.instState j = 5) && s.assigned j r.sub n && !s.assigned i r.sub n))

/-- The checks of R237 on an image: status and failing section. -/
def State.shedImageCheck (s : State) (i : Nat) (source : Option Nat) (img : List Byte) : Nat × Nat :=
  if !s.imageHeaderOk img then (Status.range, 0)
  else if s.reg 0x2101 1 / 65536 < field img 0x12 2 ∨ s.reg 0x1F00 1 < field img 0x14 2 then (Status.range, 0)
  else match (imageSections img).findIdx? (fun e => decide (crc32c (slice img e.offset e.length) ≠ e.crc)) with
    | some k => (Status.range, k + 1)
    | none =>
      if !s.resourcesOk i source img then (Status.deniedInstance, shedSectionAt img 1)
      else if (imageManifest img).any (fun p => decide (s.quota i < 65536 * (p.1 + 1))) then (Status.range, shedSectionAt img 8)
      else (Status.ok, 0)

/-- A bitmap with the bits of a list set or cleared. -/
def Val.withBits (v : Val) (ns : List Nat) (b : Bool) : Val :=
  match v with
  | .num n => .num ((ns.foldl (fun m k => setBit m k b) n.toNat : Nat))
  | .bytes bs => .bytes (ns.foldl (fun m k => bitmapSet m k b) bs)

/-- Entries of an instance that were fetched and have not started are forgotten: its image holds them in QUEUES. -/
def State.dropUnstarted (s : State) (j : Nat) : State :=
  let s1 := s.each (List.range s.laneCount) (fun t n =>
    if (t.lane n).queue = [] then t else t.modLane n (fun w => { w with queue := w.queue.filter (fun e => !e.2.fromInst j) }))
  s1.each (List.range (2 * s.dies)) (fun t c =>
    let t1 := if (t.hap c).play.map (fun (p : HapticPlay) => p.inst) = some j then t.modHap c (fun h => { h with play := none }) else t
    if (t1.head c).checked = [] then t1 else t1.modHead c (fun x => { x with checked := x.checked.filter (fun p => decide (p.inst ≠ j)) }))

/-- The resources of the image move from a source to the target (R239); no assignment is written. -/
def State.moveResources (s : State) (i j : Nat) (img : List Byte) : State :=
  (imageResources img).foldl (fun (t : State) r =>
    if !isBitmap r.sub then t
    else
      let named := (List.range (8 * r.data.length)).filter (bitmapGet r.data)
      (t.setLive (0x2200 + i) r.sub ((t.liveAt (0x2200 + i) r.sub).withBits named true)).setLive (0x2200 + j) r.sub
        ((t.liveAt (0x2200 + j) r.sub).withBits named false)) s

/-- `source` of a restore (0x2221.07). -/
def State.shedSource (s : State) : Option Nat := if s.reg 0x2221 7 = 0xFF then none else some (s.reg 0x2221 7)

/-- RESTORE into an instance in FROZEN (R228, R236, R237, R239): the image is checked at once, and the apply begins. -/
def State.restoreWrite (s : State) (i : Nat) (img : List Byte) (dmaOk : Bool) : Nat × State :=
  if s.instState i ≠ 5 then (Status.deniedAccess, s)
  else
    let s1 : State := { s with shed := { running := some 4, target := i, image := img, sourceInst := s.shedSource } }
    if !dmaOk then (Status.pending, (s1.setReg 0x2221 0xA 0).shedOutcome 5 Status.aborted 0)
    else
      let c := s.shedImageCheck i s.shedSource img
      let s2 := s1.setReg 0x2221 0xA c.2
      if c.1 ≠ Status.ok then (Status.pending, s2.shedOutcome 5 c.1 0)
      else
        let s3 := match s.shedSource with
          | none => s2
          | some j => (s2.moveResources i j img).dropUnstarted j
        (Status.pending, s3.instEnter i 6 Status.ok)

/-- A command written to `shed.control` (R227). `img` and `dmaOk` are what the image buffer holds for a RESTORE. -/
def State.shedWrite (s : State) (command : Nat) (img : List Byte) (dmaOk : Bool) : Nat × State :=
  let i := s.reg 0x2221 1
  if s.shed.running.isSome then (Status.busy, s)
  else if command = 1 then s.freezeWrite i
  else if command = 2 then s.thawWrite i
  else if command = 3 then s.saveWrite i
  else s.restoreWrite i img dmaOk

/-! ### The apply (R238, R239) -/

/-- A record of an event ring as it lies in an image (R208). -/
def EvRecord.decode (b : List Byte) : EvRecord :=
  if field b 0 2 = 1 then ⟨1, field b 2 1, field b 3 1, field b 4 4, 0, 0, 0, 0xFF, 0, 0, slice b 8 20⟩
  else ⟨field b 0 2, field b 2 1, field b 3 1, field b 4 4, field b 8 8, field b 16 2, field b 18 2, field b 20 1, field b 21 1, field b 24 8, []⟩

/-- QUEUES are applied to the target; what it had fetched and not started of its own is forgotten, since the restored heads count it (R229, R238). -/
def State.applyQueues (s : State) (i : Nat) (b : List Byte) : State :=
  (s.dropUnstarted i).each (List.range 16) (fun t k =>
    let r := slice b (32 * k) 32
    let x : Sq := ⟨field r 8 4, field r 12 4, BitVec.ofNat 32 (field r 4 4), field r 16 2, field r 20 2, field r 18 2, decide (field r 30 1 = 1), field r 28 2,
      field r 24 4⟩
    let t1 := t.modSq i (field r 0 1) (fun _ => x)
    if x.type = 3 then t1.modStream (x.target - 64) (fun y => { y with buffers := [] }) else t1)

/-- EVENTS are applied to the target: its held records are those of the image, then its own, and appended to them those held for the source since
its SAVE, all of them when a THAW has come between (R239). The phase of the ring is not in the image and is a free value. -/
def State.applyEvents (s : State) (i : Nat) (source : Option Nat) (b : List Byte) : State :=
  let n := field b 24 4
  let saved := (List.range n).map (fun k => EvRecord.decode (slice b (32 + 32 * k) 32))
  let since := match source with
    | none => []
    | some j => (s.inst j).held.drop (s.inst j).heldSaved
  let all := saved ++ (s.inst i).held ++ since
  let e0 := (s.inst i).evq
  let e1 : Evq := ⟨field b 0 4, field b 4 4, BitVec.ofNat 32 (field b 8 4), field b 12 4 % 65536, field b 16 2, field b 18 2, Config.freeBool s.free, e0.lost,
    field b 20 4, none, e0.slots⟩
  let s1 := (s.modInst i (fun x => { x with held := all.take 512, evq := e1 })).useFree
  let s2 := (all.drop 512).foldl (fun (t : State) _ => t.dropRecord i) s1
  match source with
  | none => s2
  | some j => s2.modInst j (fun x => { x with held := [], heldSaved := 0 })

/-- MAILBOX is applied to the target. -/
def State.applyMailbox (s : State) (i : Nat) (b : List Byte) : State :=
  let r : Reply := { service := field b 8 1, tag := field b 10 2, status := field b 12 2, failPos := field b 14 1, moved := field b 16 4, body := b.drop 24 }
  let f := fun (m : Mailbox) => { m with
    outstanding := bit (field b 0 4) 0, ready := bit (field b 0 4) 1, response := if bit (field b 0 4) 1 then some r else none }
  s.modInst i (fun x => { x with mbox := f x.mbox })

/-- One context is applied: as the runtime reads its block, stopped within its job, for the target. -/
def State.applyContext (s : State) (i : Nat) (e : Nat × Nat × List Byte) : State :=
  let x := (Config.restoredContext e.2.2).getD {}
  let c : GfxContext := ⟨x.job.map (fun (j : GfxJob) => { j with inst := i }), none, x.wait.map (fun (w : GfxWait) => { w with inst := i }), x.job.isSome⟩
  (s.modCtx e.1 (fun _ => c)).setCtxState e.1 (if x.job.isSome then 2 else if x.wait.isSome then 3 else 0)

/-- GRAPHICS is applied to the target. -/
def State.applyGraphics (s : State) (i : Nat) (b : List Byte) : State := (imageContexts 128 b).foldl (fun t e => t.applyContext i e) s

/-- An entry of COMMITS is one that a COMMIT queue would take (R311). -/
def commitEntryOk (e : List Byte) : Bool :=
  decide (field e 0 2 = 1 ∧ 16 ≤ field e 16 4 ∧ field e 16 4 ≤ 65536 ∧ field e 16 4 % 4 = 0)

/-- The records that COMMITS gives each timing head, blocks of one head joined in order; none when a block does not meet R312. -/
def State.blocksByHead (s : State) : List (List Byte) → Option (Tab (List Record))
  | [] => some []
  | b :: bs => match blockRecords b.length b with
    | none => none
    | some rs => (s.blocksByHead bs).map (fun t =>
        let h := s.timingHead ((rs.head?.map (fun r => s.recordHead r.idx)).getD 0)
        Tab.put t h (rs ++ Tab.getD t h []))

/-- The restored commit of a head passes R314 and arrives there, to latch for its next frame start (R238); none when it is refused. -/
def State.applyCommit (s : State) (i : Nat) (e : Nat × List Record) : Option State :=
  if s.commitCheck (s.pairOf e.1) i e.2 ≠ Status.ok then none else some (s.commitArrives e.1 (s.commitOf i 0 0 false e.2))

/-- Apply a list in order, stopping at the first refusal. -/
def applyEach {α : Type} (f : State → α → Option State) : State → List α → Option State
  | s, [] => some s
  | s, a :: as => (f s a).bind (fun t => applyEach f t as)

/-- The commits of COMMITS arrive at their heads; none when an entry is refused. -/
def State.applyCommits (s : State) (i : Nat) (b : List Byte) : Option State :=
  if !(List.range (commitCount b)).all (fun k => commitEntryOk (slice b (64 * k) 64)) then none
  else (s.blocksByHead (imageBlocks b)).bind (fun t => applyEach (fun u e => u.applyCommit i e) s t)

/-- One page is checked against its manifest CRC, mapped and written; none when no stack may hold it (R735). -/
def State.applyPage (s : State) (i : Nat) (data : List Byte) (e : Nat × (Nat × Nat)) : Option State :=
  let b := slice data (65536 * e.1) 65536
  let p := e.2.1
  if crc32c b = e.2.2 ∧ ((s.inst i).mapped.contains p ∨ (s.stackFor i p).isSome) then
    some { s.mapPages i [p] with imem := s.imem.writeBytes (idaKey i (65536 * p)) b }
  else none

/-- The source's pages are unmapped (R239). -/
def State.unmapAll (s : State) (j : Nat) : State :=
  ({ s with imem := s.imem.clear (idaKey j 0) (2 ^ 40) } : State).modInst j (fun x => { x with mapped := [], pageDies := [] })

/-- The apply fails (R228, R238): RANGE at the section, and the target is quiesced to RESETTING. -/
def State.applyFails (s : State) (img : List Byte) (type : Nat) : State :=
  let i := s.shed.target
  let s1 := (({ s with shed := {} } : State).setReg 0x2221 9 Status.range).setReg 0x2221 0xA (shedSectionAt img type)
  (s1.instEnter i 2 Status.range).quiesce i true

/-- The restored commits of an instance have latched: no running head has one that its present frame does not show. A head that does not run
keeps its commit until its generator starts (R326). -/
def State.restoreShown (s : State) (i : Nat) : Bool :=
  (List.range (2 * s.dies)).all (fun h =>
    let x := s.head h
    !(x.running || x.startPending) || (x.pending ++ x.toShow).all (fun p => decide (p.inst ≠ i)))

/-- The apply ends: records held for the source go to the target, the source's pages are unmapped, the target is FROZEN (R228, R239). -/
def State.applyEnds (s : State) : State :=
  let i := s.shed.target
  let s1 := match s.shed.sourceInst with
    | none => s
    | some j => ((s.deliverAll i (s.inst j).held).modInst j (fun x => { x with held := [], heldSaved := 0 })).unmapAll j
  (({ s1 with shed := {} } : State).setReg 0x2221 9 Status.ok).enterFrozen i

/-- A restore whose pages and sections are applied ends when its commits have latched (R238, R239). -/
def State.restoreSettles (s : State) : State :=
  if s.shed.running = some 4 ∧ s.shed.applied ∧ s.instState s.shed.target = 6 ∧ s.restoreShown s.shed.target then s.applyEnds else s

/-! ### Commands -/

/-- DRAIN_LIMIT (R229): jobs unfinished at the end of `drain_ms` are stopped at their next boundary. -/
def execDrainLimit (s : State) : Host.Outcome State Fault Refusal :=
  match s.shed.drainDeadline with
  | none => .next s
  | some t => .next ((({ s with shed := { s.shed with drainDeadline := none } } : State).arriveAt t).gfxFreeze s.shed.target)

/-- FREEZE_DONE (R228, R230): the steps of R229 are complete. -/
def execFreezeDone (s : State) : Host.Outcome State Fault Refusal :=
  if s.shed.running = some 1 ∧ s.instState s.shed.target = 4 ∧ s.freezeReady s.shed.target then .next (s.freezeEnd s.shed.target) else .next s

/-- SAVE_DONE (R228, R236): the image is in the host's buffer, or a completion failed. -/
def execSaveDone (dmaOk : Bool) (s : State) : Host.Outcome State Fault Refusal :=
  if s.shed.running ≠ some 3 then .next s
  else if !dmaOk then .next (s.shedOutcome 5 Status.aborted 0)
  else
    let n := s.shed.image.length
    let s1 : State := { s with out := { s.out with hostData := s.out.hostData ++ [(0, s.reg 0x2221 5, s.shed.image)] } }
    .next ((s1.setReg 0x2221 0xB n).shedOutcome 5 Status.ok n)

end Sys2Proof.Machine
end

