-- ==== Sys2Proof/Machine/Streams.lean ====
section
/-! DEFINITION. Commands of the stream check units (R600 to R605): COPY, APPEND, CHECK and the end of an entry. -/
namespace Sys2Proof.Machine

/-- Bytes of a finalised value of a unit: W = ceil(w / 8) (R595). -/
def State.streamWidth (s : State) (u : Nat) : Nat := (s.reg (0x7A40 + u) 1 + 7) / 8

/-- An entry of unit u ends (R601, R602): counted, and its QUEUE event written. -/
def State.streamEnd (s : State) (u inst q tag : Nat) (completion : Bool) (status : Nat) : State :=
  (s.inc (0x7A40 + u) 0xA).endEntry inst q tag completion status

/-- A well-formed STREAM entry (R600). -/
def streamBodyOk (opcode : Nat) (e : Entry) (b : StreamEntry) : Bool :=
  decide (1 ≤ opcode ∧ opcode ≤ 3) && entryFlagsOk e && b.reservedZero &&
  decide (1 ≤ b.length ∧ b.length ≤ 16777216 ∧ b.streamFlags < 16)

/-- Bytes an entry reads, and bytes it writes (R601). -/
def State.streamSpan (s : State) (u opcode : Nat) (b : StreamEntry) : Nat × Nat :=
  let w := s.streamWidth u
  (b.length + (if opcode = 3 then w else 0), if bit b.streamFlags 3 then 0 else b.length + (if opcode = 2 then w else 0))

/-- The next entry of a STREAM queue starts (R600, R601). A translation refusal of its source or destination ends it with
DENIED_INSTANCE and the register at init; a failed host completion faults the instance (R221). -/
def State.streamStart (s : State) (e : Entry) (opcode : Nat) (b : StreamEntry) : State :=
  let u := (s.sq e.inst e.q).target
  if (s.streamRun u).isSome then s
  else if !s.canFetch e 5 then s.fetchFails e 5
  else
    let s1 := s.fetched e
    let span := s1.streamSpan u opcode b
    if !streamBodyOk opcode e b then s1.stopQueue e.inst e.q Status.range
    else if (bit b.streamFlags 0 ∧ !s1.idaOk e.inst b.src span.1) ∨ (bit b.streamFlags 1 ∧ span.2 ≠ 0 ∧ !s1.idaOk e.inst b.dst span.2) then
      (s1.streamLoad u).streamEnd u e.inst e.q e.tag (entryCompletion e) Status.deniedInstance
    else if !bit b.streamFlags 0 ∧ b.host = none then (s1.streamLoad u).faultInstance e.inst Status.hwFault
    else
      let s2 := if bit b.streamFlags 2 then s1.streamLoad u else s1
      let got := if bit b.streamFlags 0 then s2.readIda (BusSource.stream.serving u e.inst) b.src span.1 else ((b.host.getD []) ++ List.replicate span.1 0).take span.1
      let r : StreamRun := ⟨e.inst, e.q, e.tag, entryCompletion e, opcode, { b with host := none }, got.take b.length, got.drop b.length⟩
      { s2 with streams := Tab.put s2.streams u r }

/-- Bytes written at dst: into the instance's device memory, or to the host. -/
def State.streamStore (s : State) (u : Nat) (r : StreamRun) (bs : List Byte) : State :=
  if bit r.body.streamFlags 3 then s
  else if bit r.body.streamFlags 1 then s.writeIda (BusSource.stream.serving u r.inst) r.body.dst bs
  else { s with out := { s.out with hostData := s.out.hostData ++ [(r.inst, r.body.dst, bs)] } }

/-- A COPY (R601). -/
def execCopy (e : Entry) (opcode : Nat) (body : StreamEntry) (s : State) : Host.Outcome State Fault Refusal := .next (s.streamStart e opcode body)
/-- An APPEND (R601). -/
def execAppend (e : Entry) (body : StreamEntry) (s : State) : Host.Outcome State Fault Refusal := .next (s.streamStart e 2 body)
/-- A CHECK (R601). -/
def execCheck (e : Entry) (body : StreamEntry) (s : State) : Host.Outcome State Fault Refusal := .next (s.streamStart e 3 body)

/-- A CHECK's comparison of the trailing bytes with the finalised value (R601, R604). -/
def State.streamCompare (s : State) (u : Nat) (r : StreamRun) (v : Nat) : Nat × State :=
  if r.trailing = s.streamBytes u v then (Status.ok, s)
  else
    let got := if s.reg (0x7A40 + u) 6 = 0 then leNat r.trailing else beNat r.trailing
    (Status.range, (s.inc (0x7A40 + u) 0xB).event (s.unitHolder (64 + u)) 0x0070 (64 + u) Status.range (u / 2) 2 (v * 2 ^ 32 + got))

/-- STREAM_ENTRY_DONE (R601, R602): every byte of the started entry has been fed. -/
def execStreamEntryDone (unit : Nat) (s : State) : Host.Outcome State Fault Refusal :=
  match s.streamRun unit with
  | none => .next s
  | some r =>
    let p := s.streamParams unit
    let reg := Crc.run p (s.reg (0x7A40 + unit) 8) r.data
    let v := Crc.final p reg
    let s1 := ({ s with streams := Tab.erase s.streams unit } : State).streamStore unit r (if r.opcode = 2 then r.data ++ s.streamBytes unit v else r.data)
    let s2 := (s1.setReg (0x7A40 + unit) 8 reg).count (0x7A40 + unit) 9 r.data.length
    if r.opcode = 1 then .next (s2.streamEnd unit r.inst r.q r.tag r.completion Status.ok)
    else
      let s3 := s2.setReg (0x7A40 + unit) 0xC v
      let c := if r.opcode = 3 then s3.streamCompare unit r v else (Status.ok, s3)
      .next ((c.2.streamLoad unit).streamEnd unit r.inst r.q r.tag r.completion c.1)

end Sys2Proof.Machine
end

