-- ==== Sys2Proof/Machine/Survey.lean ====
section
/-! DEFINITION. The survey commands (R652 to R674): supplies, temperatures, loads and calibrations. -/
namespace Sys2Proof.Machine

/-- `survey.config.events` (R670). -/
def State.surveyEvents (s : State) : Bool := s.cfg 0x2600 2 = 1

/-- A SURVEY, LOAD or DRAM event for I0 when `events` is true. -/
def State.surveyEvent (s : State) (type resource die reason detail : Nat) : State :=
  if s.surveyEvents then s.event 0 type resource Status.ok die reason detail else s

/-- A LOAD event about a channel or a lane also goes to its holder (R670). -/
def State.loadEvent (s : State) (resource die reason detail holder : Nat) : State :=
  let s1 := s.surveyEvent 0x0096 resource die reason detail
  if s.surveyEvents ∧ holder ≠ 0 then s1.event holder 0x0096 resource Status.ok die reason detail else s1

/-- The survey of a die works: its Shell and its ADC are in service (R676, R677). -/
def State.surveyWorks (s : State) (d : Nat) : Bool := s.serving && s.shellUp d && !bit (s.lostItems d) 5

/-! ### Supplies (R652 to R654) -/

/-- Nominal in mV and tolerance in percent of a rail by rail index (R62, R652). -/
def railNominal (r : Nat) : Nat × Nat :=
  ([(750, 3), (750, 3), (800, 3), (750, 5), (500, 3), (1050, 3), (1800, 5), (900, 3), (1800, 5), (800, 3), (1800, 5), (3300, 5)] : List (Nat × Nat)).getD r (0, 0)

/-- Reference of a rail (R654): the commanded voltage for VDD_COREd in compatibility mode. -/
def State.railReference (s : State) (d r : Nat) : Nat :=
  if r = 0 ∧ s.reg (0x2408 + d) 6 ≠ 0 then s.reg (0x2408 + d) 5 else (railNominal r).1

/-- A rail is judged (R654): state 1 RAIL_LOW, 2 RAIL_HIGH. -/
def State.railJudge (s : State) (d r mv : Nat) : State :=
  let k := 16 * d + r
  let c : Condition := Tab.getD s.survey.rails k {}
  let ref := s.railReference d r
  let tol := (railNominal r).2
  let low := decide (mv * 10000 < ref * (10000 - 75 * tol))
  let high := decide (ref * (100 + tol) < mv * 100)
  let near := decide (ref * (1000 - 5 * tol) ≤ mv * 1000 ∧ mv * 1000 ≤ ref * (1000 + 5 * tol))
  let put := fun (t : State) (x : Condition) => ({ t with survey := { t.survey with rails := Tab.put t.survey.rails k x } } : State)
  let bits := s.reg (0x2608 + d) 2
  let st := if low then 1 else if high then 2 else 0
  if st ≠ 0 ∧ c.state ≠ st then
    let since := if c.state = 0 then s.now else c.since
    let s1 := put s { c with state := st, since := since, inside := none }
    let s2 := ((s1.setReg (0x2608 + d) 2 (setBit bits r true)).inc (0x2608 + d) 5).errorBit 2
    (s2.raiseEmcy 0x3000 Status.ok d 0xA k).surveyEvent 0x0095 r d st mv
  else if c.state = 0 then s
  else if !near then put s { c with inside := none }
  else match c.inside with
    | none => put s { c with inside := some s.now }
    | some t =>
      if s.now < t + ms 10 then s
      else
        let s1 := put s {}
        let s2 := (s1.setReg (0x2608 + d) 2 (setBit bits r false)).surveyEvent 0x0095 r d 3 mv
        if s2.survey.rails.any (fun e => decide (e.2.state ≠ 0)) then s2 else s2.clearErrorBit 2

/-- RAIL_SAMPLE (R652, R654): the 100 µs mean of a rail; rails 3 and 9 exist on D0 only. -/
def execRailSample (die rail mv : Nat) (s : State) : Host.Outcome State Fault Refusal :=
  if s.dies ≤ die ∨ 12 ≤ rail ∨ !s.surveyWorks die ∨ (die ≠ 0 ∧ (rail = 3 ∨ rail = 9)) then .next s
  else
    let old := s.regBytes (0x2608 + die) 1
    let bs := patch (if old = [] then List.replicate 24 0 else old) (2 * rail) (leBytes 2 mv)
    .next ((s.setRegBytes (0x2608 + die) 1 bs).railJudge die rail mv)

/-- RAIL_PERSISTENCE (R683): a rail out of range for 1 s without a break. -/
def execRailPersistence (die rail : Nat) (s : State) : Host.Outcome State Fault Refusal :=
  let k := 16 * die + rail
  let c : Condition := Tab.getD s.survey.rails k {}
  if c.state = 0 ∨ c.raised then .next s
  else
    let s1 := s.arriveAt (c.since + sec 1)
    .next (({ s1 with survey := { s1.survey with rails := Tab.put s1.survey.rails k { c with raised := true } } } : State).cause 8 die 0xA k)

/-! ### Temperatures (R655) -/

/-- Junction maximum of the grade in °C (R5). -/
def State.junctionMax (s : State) : Int := match s.grade with | .commercial => 95 | .industrial => 105

/-- A sensor is judged (R655): bit 0 of the state TEMP_WARN, bit 1 TEMP_LIMIT; each is left 3 °C below its threshold. -/
def State.tempJudge (s : State) (d n : Nat) (v : Int) : State :=
  let k := 16 * d + n
  let c : Condition := Tab.getD s.survey.sensors k {}
  let one := fun (was : Bool) (thr : Int) => if thr ≤ v then true else if v ≤ thr - 30 then false else was
  let warn := one (bit c.state 0) (10 * s.cfgI 0x2600 1)
  let lim := one (bit c.state 1) (10 * s.junctionMax)
  let st := ofBool warn + 2 * ofBool lim
  let since := if lim ∧ !bit c.state 1 then s.now else c.since
  let s1 : State := { s with survey := { s.survey with sensors := Tab.put s.survey.sensors k { c with state := st, since := since, raised := c.raised && lim } } }
  let detail := unsignedOf 16 v
  let s2 := if warn ∧ !bit c.state 0 then s1.surveyEvent 0x0095 (0x100 + n) d 4 detail else s1
  let s3 := if lim ∧ !bit c.state 1 then
      ((s2.errorBit 3).raiseEmcy 0x4200 Status.ok d 0 0).surveyEvent 0x0095 (0x100 + n) d 5 detail
    else s2
  let s4 := if (bit c.state 0 ∧ !warn) ∨ (bit c.state 1 ∧ !lim) then s3.surveyEvent 0x0095 (0x100 + n) d 6 detail else s3
  if bit c.state 1 ∧ !lim ∧ !s4.survey.sensors.any (fun e => bit e.2.state 1) then s4.clearErrorBit 3 else s4

/-- TEMP_SAMPLE (R652, R655). -/
def execTempSample (die sensor : Nat) (deciC : Int) (s : State) : Host.Outcome State Fault Refusal :=
  if s.dies ≤ die ∨ 6 ≤ sensor ∨ !s.surveyWorks die then .next s
  else
    let i := 0x2608 + die
    let old := s.regBytes i 3
    let s1 := s.setRegBytes i 3 (patch (if old = [] then List.replicate 12 0 else old) (2 * sensor) (leBytes 2 (unsignedOf 16 deciC)))
    .next ((s1.setRegI i 4 (max (s1.regI i 4) deciC)).tempJudge die sensor deciC)

/-- TEMP_PERSISTENCE (R683): a sensor in TEMP_LIMIT for 10 s without a break. -/
def execTempPersistence (die sensor : Nat) (s : State) : Host.Outcome State Fault Refusal :=
  let k := 16 * die + sensor
  let c : Condition := Tab.getD s.survey.sensors k {}
  if !bit c.state 1 ∨ c.raised then .next s
  else
    let s1 := s.arriveAt (c.since + sec 10)
    .next (({ s1 with survey := { s1.survey with sensors := Tab.put s1.survey.sensors k { c with raised := true } } } : State).cause 9 die 0 die)

/-! ### Loads (R656 to R663) -/

/-- A measurement is asked for: it waits until it can start (R657, R661). -/
def State.askPiezo (s : State) (c : Nat) : State :=
  if s.survey.piezoWaiting.contains c ∨ (Tab.find? s.survey.piezoRunning c).isSome then s
  else ({ s with survey := { s.survey with piezoWaiting := s.survey.piezoWaiting ++ [c] } } : State).startCalibrations
/-- A pilot measurement is asked for. -/
def State.askPilot (s : State) (o : Nat) : State :=
  if s.survey.pilotWaiting.contains o ∨ s.survey.pilotRunning.contains o then s
  else ({ s with survey := { s.survey with pilotWaiting := s.survey.pilotWaiting ++ [o] } } : State).startCalibrations

/-- A write to `survey.piezo.request` (R673). -/
def State.piezoWrite (s : State) (c v : Nat) : Nat × State := if v = 1 then (Status.ok, s.askPiezo c) else (Status.range, s)
/-- A write to `survey.speaker.request` (R674). -/
def State.speakerWrite (s : State) (o v : Nat) : Nat × State :=
  if v = 1 ∧ s.cfg (0x2620 + o) 1 = 2 then (Status.ok, s.askPilot o) else (Status.range, s)

/-- PIEZO_INTERVAL (R657). -/
def execPiezoInterval (channel : Nat) (s : State) : Host.Outcome State Fault Refusal :=
  if 2 * s.dies ≤ channel ∨ s.cfg 0x2600 3 = 0 ∨ !s.serving then .next s else .next (s.askPiezo channel)
/-- SPEAKER_INTERVAL (R661). -/
def execSpeakerInterval (output : Nat) (s : State) : Host.Outcome State Fault Refusal :=
  if 64 ≤ output ∨ s.cfg 0x2600 5 = 0 ∨ s.cfg (0x2620 + output) 1 ≠ 2 ∨ !s.serving then .next s else .next (s.askPilot output)

/-- State of a capacitance against its nominal (R658): 1 OK, 2 DEVIATION, 3 OPEN, 4 SHORT. -/
def piezoState (c c0 tol : Nat) : Nat :=
  if 10 * c < c0 then 3 else if 3 * c0 < c then 4
  else if ((c : Int) - c0).natAbs * 1000 ≤ tol * c0 then 1 else 2
/-- State of an impedance (R662). -/
def speakerState (z nom : Nat) : Nat :=
  if 4 * nom < z then 3 else if 2 * z < nom then 4 else if ((z : Int) - nom).natAbs * 10 ≤ 3 * nom then 1 else 2

/-- PIEZO_MEASUREMENT (R658): ramp-in 1 ms, hold 10 ms, ramp-out 1 ms, and the result in nF. -/
def execPiezoMeasurement (channel nf : Nat) (s : State) : Host.Outcome State Fault Refusal :=
  match Tab.find? s.survey.piezoRunning channel with
  | none => .next s
  | some t =>
    let s0 := s.arriveAt (t + ms 12)
    let i := 0x2610 + channel
    let st := piezoState nf (s.hapCfg channel 9) (s.cfg 0x2600 4)
    let s1 : State := { s0 with survey := { s0.survey with piezoRunning := Tab.erase s0.survey.piezoRunning channel } }
    let s2 := (((s1.setReg i 1 nf).setReg i 2 st).setReg i 3 s1.now).inc i 4
    .next (if s.reg i 2 = st then s2 else s2.loadEvent channel (hapDie channel) 1 (st + 2 ^ 32 * nf) (s.hapticHolder channel))

/-- SPEAKER_BLOCK (R661, R662): a 1 s block of programme, or the end of a pilot measurement. -/
def execSpeakerBlock (output mohm currentRmsMa : Nat) (s : State) : Host.Outcome State Fault Refusal :=
  let i := 0x2620 + output
  let method := s.cfg i 1
  let counts := (method = 1 ∧ s.cfg i 5 ≤ 100 * currentRmsMa) ∨ (method = 2 ∧ s.survey.pilotRunning.contains output)
  if 64 ≤ output ∨ !s.serving ∨ ¬ counts then .next s
  else
    let st := speakerState mohm (s.cfg i 6)
    let s1 : State := { s with survey := { s.survey with pilotRunning := s.survey.pilotRunning.filter (· ≠ output) } }
    let s2 := (((s1.setReg i 7 mohm).setReg i 8 st).setReg i 9 s.now).inc i 0xA
    .next (if s.reg i 8 = st then s2 else s2.loadEvent (0x100 + output) 0xFF 2 (st + 2 ^ 32 * mohm) 0)

/-- LANE_SURVEY_SECOND (R663). -/
def execLaneSurveySecond (lane idleTransitions edges glitched : Nat) (s : State) : Host.Outcome State Fault Refusal :=
  if s.laneCount ≤ lane ∨ !s.serving ∨ s.laneMode lane = 0 then .next s
  else
    let i := 0x2660 + lane
    let bias := if idleTransitions = 0 then 1 else 2
    let term := if 20 * edges < 1000 * glitched then 2 else 1
    let pm := if edges = 0 then 0 else min 65535 (s.inexact (1000 * glitched) edges)
    let s1 := (((s.setReg i 1 bias).setReg i 2 term).setReg i 3 pm).count i 6 idleTransitions
    let h := s.laneHolder lane
    let s2 := if s.reg i 1 = bias then s1 else s1.loadEvent (0x200 + lane) (lane / 8) 3 (bias + 2 ^ 32 * pm) h
    .next ((if s.reg i 2 = term then s2 else s2.loadEvent (0x200 + lane) (lane / 8) 4 (term + 2 ^ 32 * pm) h).useFree)

/-! ### DRAM tracking (R667) -/

/-- DRAM_TRACK (R667, R669, R683): no tracking in self-refresh, but one step during an exit. `margin` says that the correction exceeds 1/4 of a unit interval. The third MARGIN event is a cause. -/
def execDramTrack (die correctionPs : Nat) (margin : Bool) (s : State) : Host.Outcome State Fault Refusal :=
  if s.dies ≤ die ∨ !s.operational ∨ s.health.stopped ∨ !s.shellUp die ∨ (2 ≤ s.powerState ∧ !s.exitRuns) then .next s
  else
    let i := 0x2608 + die
    let s1 := (s.inc i 8).setReg i 0xA s.now
    let detail := correctionPs % 65536
    if margin then
      let s2 : State := { s1.inc i 9 with survey := { s1.survey with margin := die :: s1.survey.margin.filter (· ≠ die) } }
      let s3 := s2.surveyEvent 0x0097 die die 1 detail
      .next (if s.reg i 9 = 2 then s3.cause 10 die 2 die else s3)
    else if s.survey.margin.contains die then
      .next (({ s1 with survey := { s1.survey with margin := s1.survey.margin.filter (· ≠ die) } } : State).surveyEvent 0x0097 die die 2 detail)
    else .next s1

end Sys2Proof.Machine
end

