-- ==== Sys2Proof/Machine/Entries.lean ====
section
/-! DEFINITION. What reading and writing one directory entry does (check 7 of R123): the entries a subsystem computes when they are read, and
the entries whose write a subsystem takes. -/
namespace Sys2Proof.Machine

/-! ### Reading -/

/-- The value an entry of the live store reads as, and what its reading does: entries a subsystem computes, else the stored value. -/
def State.liveRead (s : State) (f : Found) (idx sub : Nat) : Val × State :=
  let b := f.obj.base
  let k := f.num
  if b = 0x1F00 ∧ sub = 3 then (.num s.dir.queued.length, s)
  else if b = 0x2010 ∧ sub = 1 then (.num s.now, s)
  else if b = 0x2102 ∧ sub = 1 then (.num s.fuses.securityCount, s)
  else if b = 0x2102 ∧ sub = 3 then (.num s.fuses.keysRevoked, s)
  else if b = 0x2220 ∧ sub = 1 then (.num s.memoryPool, s)
  else if b = 0x2221 ∧ sub = 8 then (.num s.requiredBytes, s)
  else if b = 0x2300 ∧ sub = 1 then (.num Config.monitorVersion.toNat, s)
  else if b = 0x2301 ∧ sub = 1 then (.num (s.fuses.debugEnables % 16 : Nat), s)
  else if b = 0x2301 ∧ sub = 2 then (.num s.debugEffective, s)
  else if b = 0x2301 ∧ sub = 4 then (.bytes s.newChallenge.1, s.newChallenge.2)
  else if b = 0x2303 ∧ sub = 1 then (.num s.slotState, s)
  else if b = 0x2408 ∧ sub = 2 then (.num (s.idlePermille k), s)
  else if b = 0x2510 ∧ sub = 4 then (.num (s.playsWaiting k), s)
  else if b = 0x300A ∧ sub = 6 then (.num ((s.poolUse (k / 2) + 1023) / 1024 : Nat), s)
  else if b = 0x4808 ∧ sub = 2 then (.num (s.busyPermille k), s)
  else if b = 0x6900 ∧ 1 ≤ sub ∧ sub ≤ 0x40 then (.num (s.gainRead k (sub - 1)), s)
  else if b = 0x6900 ∧ sub = 0x44 then (.bytes (s.activeGains k), s)
  else if b = 0x6900 ∧ sub = 0x4A then (.num (ofBool (s.nodeConnected k) : Nat), s)
  else if b = 0x6A00 ∧ sub = 0x16 then (.num (ofBool (s.outputConnected k) : Nat), s)
  else if b = 0x7000 ∧ sub = 0xA then (.num (s.laneUtilisation k), s)
  else if b = 0x7A40 ∧ sub = 8 then (.num (s.streamShown k).1, s)
  else if b = 0x7A40 ∧ sub = 9 then (.num (s.streamShown k).2, s)
  else (s.liveAt idx sub, s)

/-- The value of an entry in a view (R120). -/
def State.viewRead (s : State) (f : Found) (idx sub : Nat) (v : View) : Val × State :=
  if f.row.kind = .live then s.liveRead f idx sub
  else match v with
    | .draft => (s.draftAt idx sub, s)
    | .previous => (match s.previous with
      | none => .num 0
      | some r => Tab.getD r.values (entryKey idx sub) (defaultAt s.part s.grade idx sub), s)
    | _ => (s.activeAt idx sub, s)

/-- A live entry of a key that the secure entry names, reached through a mailbox (R258). -/
def State.keyDenied (s : State) (req : Requester) (f : Found) : Bool :=
  (instanceOf? req).isSome && decide (f.obj.base = 0x6200 ∧ f.row.kind = .live) && s.keySecure f.num

/-- Check 7 of R123 for reading: the service of the entry's resource (R142, R681), a previous ring that is held (R120), keys of a secure entry,
a running tunnel request (R170). -/
def State.readStatus (s : State) (req : Requester) (f : Found) (idx : Nat) (v : View) : Nat :=
  let st := s.serviceStatus idx
  if st ≠ Status.ok then st
  else if f.row.kind = .ring ∧ v = .previous ∧ s.previous = none then Status.deniedAccess
  else if s.keyDenied req f then Status.deniedSecureClaim
  else if f.obj.base = 0x1F13 ∧ s.mcan.tunnelRunning then Status.busy
  else Status.ok

/-- Check 7 and the value: the bytes an entry returns. -/
def State.readEntry (s : State) (req : Requester) (idx sub : Nat) (v : View) : Nat × List Byte × State :=
  match lookup s.part idx sub with
  | none => (Status.notPresent, [], s)
  | some f =>
    let st := s.readStatus req f idx v
    if st ≠ Status.ok then (st, [], s)
    else
      let r := s.viewRead f idx sub v
      (Status.ok, f.row'.encode r.1, r.2)

/-! ### Writing -/

/-- A write to an instance object (R198, R213, R223 to R226, R261). For the rights check a change of assignment completes as its write is
applied, not when the units have taken it up (R125; DESIGN CHOICE, log entry 128). -/
def State.instanceWrite (s : State) (i sub : Nat) (v : Val) : Nat × State :=
  if sub = 0x15 then (Status.ok, s.resetInstance i)
  else
    let new := s.setLive (0x2200 + i) sub v
    let st := s.assignmentStatus new i sub
    if st = Status.deniedSecureClaim then (st, (s.claimsMoved new).foldl (fun (t : State) c => t.securityEvent 1 c.1 c.2) s)
    else if st ≠ Status.ok then (st, s)
    else if isAssignment sub then (Status.ok, (new.takeAssignments s).awaitTaken i)
    else (Status.ok, new)

/-- A write to the draft's own entries (R137, R177 to R179). -/
def State.draftWrite (s : State) (sub : Nat) (v : Val) : Nat × State :=
  if sub = 3 ∧ (v.toInt.toNat < 1 ∨ 3 < v.toInt.toNat) then (Status.range, s)
  else if s.draftBusy then (Status.busy, s)
  else s.draftEffect sub v

/-- A write to an entry of the device's own objects (below 0x2400) that a subsystem takes; none when the value is only stored. -/
def State.deviceWrite (s : State) (req : Requester) (f : Found) (sub : Nat) (v : Val) : Option (Nat × State) :=
  let b := f.obj.base
  let n := v.toInt.toNat
  if b = 0x1F12 then some (Status.busy, s)
  else if b = 0x2100 then some (s.deviceResetWrite n)
  else if b = 0x2102 then some (if sub = 2 then s.svAdvanceWrite n else s.revokeKeyWrite n)
  else if b = 0x2104 ∨ b = 0x2105 ∨ b = 0x2106 then some (s.recoveryWrite b v.toBytes)
  else if b = 0x2111 then some (s.draftWrite sub v)
  else if b = 0x2112 then some (if sub = 1 then s.commitWrite n else if sub = 2 then s.confirmWrite n else s.returnWrite n)
  else if b = 0x2200 then some (s.instanceWrite f.num sub v)
  else if b = 0x2221 ∧ sub = 2 then
    let r := s.shedWrite n (Config.freeBytes s.free) (Config.freeBool s.free)
    some (r.1, if n = 4 then r.2.useFree else r.2)
  else if b = 0x2301 then some (if sub = 5 then s.debugResponseWrite v.toBytes else s.relockWrite n)
  else if b = 0x2303 then some (if sub = 2 then s.burnWrite req v.toBytes else s.appletRevokeWrite n)
  else if b = 0x2304 then some (s.appletLoadWrite v.toBytes)
  else if b = 0x2310 then some (s.writeAssets v.toBytes)
  else none

/-- A write to an entry of the blocks (0x2400 and above) that a subsystem takes; none when the value is only stored. -/
def State.blockWrite (s : State) (req : Requester) (f : Found) (sub : Nat) (v : Val) : Option (Nat × State) :=
  let b := f.obj.base
  let k := f.num
  let n := v.toInt.toNat
  if b = 0x2400 then some (s.powerWrite req n)
  else if b = 0x2610 then some (s.piezoWrite k n)
  else if b = 0x2620 then some (s.speakerWrite k n)
  else if b = 0x2710 then some (s.selftestWrite n)
  else if b = 0x3005 ∧ sub = 2 then some (s.retrainWrite k)
  else if b = 0x4100 then some (s.writeSpriteState req k n)
  else if b = 0x4200 then some (s.writeMembers k n)
  else if b = 0x4300 ∧ sub = 0x12 then some (s.submitUpdate k none)
  else if b = 0x6100 then some (s.recaptureWrite k)
  else if b = 0x6400 then some (s.hapClearWrite k)
  else if b = 0x6810 then some (Status.ok, s.requestTone k)
  else if b = 0x6900 ∧ sub = 0x41 then some (s.safeLoadWrite k n)
  else if b = 0x6900 then some (s.gainWrite k (sub - 1) v.toInt)
  else if b = 0x7900 ∧ sub = 4 then some (s.groupStartWrite req k n)
  else if b = 0x7900 ∧ s.reg (0x7900 + k) 6 = 1 then some (Status.busy, s)
  else if b = 0x7A40 ∧ sub = 7 then some (s.streamPresetWrite k n)
  else if b = 0x7A40 then some (s.streamWrite k sub n)
  else none

/-- A live entry is written: its subsystem takes the value, or it is stored. -/
def State.liveWrite (s : State) (req : Requester) (f : Found) (idx sub : Nat) (v : Val) : Nat × State :=
  match (if idx < 0x2400 then s.deviceWrite req f sub v else s.blockWrite req f sub v) with
  | some r => r
  | none => (Status.ok, s.setLive idx sub v)

/-- Check 7 and the effect of a write on a live or ring entry, but for the service of its resource. -/
def State.entryEffect (s : State) (req : Requester) (f : Found) (idx sub : Nat) (data : List Byte) : Nat × State :=
  let v := f.row'.decode data
  if s.keyDenied req f then (Status.deniedSecureClaim, s)
  else if f.row.kind = .live then s.liveWrite req f idx sub v
  else if s.draftBusy then (Status.busy, s)
  else (Status.ok, { s with draft := s.ringPut s.draft idx sub v })

/-- Check 7 of R123 and the effect of a write. -/
def State.writeEntry (s : State) (req : Requester) (idx sub : Nat) (data : List Byte) : Nat × State :=
  match lookup s.part idx sub with
  | none => (Status.notPresent, s)
  | some f =>
    let st := s.serviceStatus idx
    if st ≠ Status.ok then (st, s) else s.entryEffect req f idx sub data

/-- A status that accepts a write (R126). -/
def accepted (status : Nat) : Bool := decide (status = Status.ok ∨ status = Status.pending ∨ status = Status.late)

end Sys2Proof.Machine
end

