-- ==== Sys2Proof/Machine/Directory.lean ====
section
/-! DEFINITION. The directory services (R127 to R143): single requests, write groups, read groups, and the mailbox message (R166 to R171). -/
namespace Sys2Proof.Machine

/-! ### Requests and answers -/

/-- Answer a request: on MCAN with the abort code of its status (R163), else by its transport. -/
def State.answer (s : State) (req : Requester) (service status failPos : Nat) (body : List Byte) (idx sub moved : Nat) : State :=
  match req with
  | .mcan =>
    let code := s.abortCode status idx sub (decide (service = 2))
    let a : UsdoAnswer := { status := status, abort := code, body := if code.isSome then [] else body }
    let s1 := s.countDenied status
    (s1.sendUsdo a).setReg 0x1F11 4 status
  | _ => s.reply req service status failPos body moved

/-- Service codes of R167. -/
def requestService : DirRequest → Nat
  | .read _ _ _ => 1
  | .write _ _ _ => 2
  | .describe _ _ => 3
  | .readGroup _ => 4
  | .writeGroup _ => 5
  | .malformed n _ => n

/-- The transport of a requester takes requests now: the page is open (R166, R218), USDO is served (R157), the core runs (R140, R143). -/
def State.transportOpen (s : State) (req : Requester) : Bool :=
  match req with
  | .mailbox i _ _ => s.pageWritable i && !s.health.stopped
  | .mcan => s.usdoServed
  | .tunnel _ => s.usdoServed
  | .core d w => s.operational && !s.health.stopped && decide (s.powerState ≤ 2 ∧ d < s.dies) &&
    (List.range 4).any (fun k => s.cpuRuns (4 * d + k) && decide ((s.cpu (4 * d + k)).world = w))

/-- A value that a message without INDIRECT cannot carry (R169, R170). -/
def mailboxTooLong (req : Requester) (n : Nat) : Bool :=
  match req with
  | .mailbox _ _ none => decide (8176 < n)
  | .tunnel _ => decide (8176 < n)
  | _ => false

/-- What a plain USDO transfer carries: READ and WRITE in the active view; everything else goes through the tunnel (R152). -/
def requestFits (req : Requester) (r : DirRequest) : Bool :=
  match req, r with
  | .mcan, .read _ _ v => decide (v = .active)
  | .mcan, .write _ _ _ => true
  | .mcan, _ => false
  | _, _ => true

/-- The bytes and value of a started stream entry come from one free value, which its read uses up (R138). -/
def State.readUses (s : State) (idx sub : Nat) : State :=
  if 0x7A40 ≤ idx ∧ idx < 0x7A50 ∧ (sub = 8 ∨ sub = 9) then s.useFree else s

/-- READ (R123, R127). The request wakes the entry's die (R143). -/
def State.serveRead (s : State) (req : Requester) (idx sub : Nat) (v : View) : State :=
  let st := s.checkRead req idx sub v
  let t := s.demandWake (s.dieOf idx)
  if st ≠ Status.ok then t.answer req 1 st 0 [] idx sub 0
  else
    let r := t.readEntry req idx sub v
    (r.2.2.readUses idx sub).answer req 1 r.1 0 r.2.1 idx sub r.2.1.length

/-- Check 7 and the effect of a write with what it brings. -/
def State.writeWith (s : State) (x : WriteExtra) (req : Requester) (idx sub : Nat) (data : List Byte) : Nat × State :=
  match x with
  | .plain => s.writeEntry req idx sub data
  | .applet a =>
    let st := s.serviceStatus idx
    if st ≠ Status.ok then (st, s) else s.submitUpdate (idx - 0x4300) (some a)
  | .image bs dmaOk => s.shedWrite 4 bs dmaOk

/-- An accepted WRITE is performed (R123, check 7). -/
def State.performWrite (s : State) (req : Requester) (idx sub : Nat) (data : List Byte) (x : WriteExtra) (silent : Bool) : State :=
  let r := s.writeWith x req idx sub data
  if silent then r.2
  else r.2.answer req 2 r.1 0 [] idx sub (match req with
    | .mailbox _ _ (some _) => if accepted r.1 then data.length else 0
    | _ => 0)

/-- Checks 1 to 6 on a WRITE, with the limit of R169 at check 5. -/
def State.writeStatus (s : State) (req : Requester) (idx sub : Nat) (data : List Byte) : Nat :=
  let st := s.checkWrite req idx sub data
  if (st = Status.ok ∨ st = Status.range) ∧ mailboxTooLong req data.length then Status.typeLength else st

/-- The entries of a group with the dies their prepares went to. -/
def WriteGroup.placed (g : WriteGroup) : List (GroupWrite × Nat) := g.entries.zip g.dies

/-- The running write group has reserved an entry: its die has prepared (R130, R134). -/
def State.entryReserved (s : State) (idx sub : Nat) : Bool :=
  match s.dir.running with
  | none => false
  | some g => g.placed.any (fun e => decide (e.1.idx = idx ∧ e.1.sub = sub) && !g.waiting.contains e.2)

/-- WRITE (R123, R127, R134). The request wakes the entry's die (R143). -/
def State.serveWrite (s : State) (req : Requester) (idx sub : Nat) (data : List Byte) (x : WriteExtra) : State :=
  let st := s.writeStatus req idx sub data
  let t := s.demandWake (s.dieOf idx)
  if st ≠ Status.ok then t.answer req 2 st 0 [] idx sub 0
  else if s.entryReserved idx sub then
    let w : WaitingRequest := { req := req, request := .write idx sub data, accepted := true, extra := x }
    { t with dir := { t.dir with blocked := t.dir.blocked ++ [w] } }
  else t.performWrite req idx sub data x false

/-- The 32-byte description of an entry (R127). A STR or BLOB has no range: minimum and maximum read 0 as its default does (DESIGN CHOICE, log
entry 132). -/
def State.description (s : State) (f : Found) : List Byte :=
  let e := f.row'
  let num := fun (v : Int) => leBytes 8 (unsignedOf 64 v)
  leBytes 1 e.ty.code ++ leBytes 1 e.acc.code ++ leBytes 1 f.obj.scope.code ++ leBytes 1 e.kind.code ++
  leBytes 4 (if e.ty.isBytes then e.maxLen else e.ty.size) ++
  (if e.ty.isBytes then num 0 ++ num 0 ++ num 0
   else num (defaultOf s.part s.grade f.obj f.num f.row).toInt ++ num (e.minimum s.part f.num) ++ num (e.maximum s.part s.grade f.num))

/-- DESCRIBE (R127): check 1 only. The request wakes the entry's die (R143). -/
def State.serveDescribe (s : State) (req : Requester) (idx sub : Nat) : State :=
  let t := s.demandWake (s.dieOf idx)
  match lookup s.part idx sub with
  | none => t.answer req 3 Status.notPresent 0 [] idx sub 0
  | some f => t.answer req 3 Status.ok 0 (s.description f) idx sub 32

/-! ### Write groups (R128 to R136) -/

/-- The first position (1-based) whose entry fails a check, and its status: checks 1 to 6 in position order, an entry named twice (R128, R130). -/
def State.groupChecks (s : State) (req : Requester) : Nat → List (Nat × Nat) → List GroupWrite → Option (Nat × Nat)
  | _, _, [] => none
  | n, seen, e :: es =>
    if seen.contains (e.idx, e.sub) then some (n, Status.range)
    else
      let st := s.checkWrite req e.idx e.sub e.data
      if st ≠ Status.ok then some (n, st) else s.groupChecks req (n + 1) ((e.idx, e.sub) :: seen) es

/-- A group ends with a status (R131, R133, R145). -/
def State.groupEnds (s : State) (g : WriteGroup) (status pos : Nat) : State :=
  let s1 := s.inc 0x1F01 (if status = Status.ok ∨ status = Status.degraded then 1 else 2)
  let s2 := (s1.raise 0x1F01 4 (min (2 ^ 32 - 1) (s1.inexact (s1.now - g.accepted) 1000))).useFree
  if g.silent then s2 else s2.answer g.req 5 status pos [] 0 0 0

/-- The next waiting groups start while none runs (R129, R130): a group that failed its checks ends, another sends its prepares. -/
def State.groupNext (s : State) : Nat → State
  | 0 => s
  | n + 1 =>
    if s.dir.running.isSome ∨ s.health.succession then s
    else match s.dir.queued with
      | [] => s
      | g :: gs =>
        let s1 : State := { s with dir := { s.dir with queued := gs } }
        if g.failWith ≠ 0 then (s1.groupEnds g g.failWith g.failPos).groupNext n
        else
          let ds := g.entries.map (fun e => s.dieOf e.idx)
          let g1 : WriteGroup := { g with dies := ds, waiting := ds.eraseDups, sentAt := s.now }
          ({ s1 with dir := { s1.dir with running := some g1 } } : State).each ds.eraseDups (fun t d => t.demandWake d)

/-- WRITE_GROUP (R128 to R130). -/
def State.serveWriteGroup (s : State) (req : Requester) (es : List GroupWrite) : State :=
  let g : WriteGroup := { req := req, entries := es, accepted := s.now }
  if es = [] ∨ 64 < es.length ∨ 4096 < (es.map (fun e => e.data.length)).sum then s.groupEnds g Status.typeLength 0
  else if 16 ≤ s.dir.queued.length then s.answer req 5 Status.busy 0 [] 0 0 0
  else
    let c := (s.groupChecks req 1 [] es).getD (0, 0)
    let g1 : WriteGroup := { g with failPos := c.1, failWith := c.2 }
    ({ s with dir := { s.dir with queued := s.dir.queued ++ [g1] } } : State).groupNext 20

/-- A group entry that R224, R213 and R198 judge against the assignments as the whole group will leave them. -/
def State.judgedEntry (s : State) (e : GroupWrite) : Bool :=
  match lookup s.part e.idx e.sub with
  | none => false
  | some f => decide (f.obj.base = 0x2200) && isJudged e.sub

/-- The judged entries of a group are set, all together. -/
def State.setJudged (s : State) (es : List GroupWrite) : State :=
  (es.filter s.judgedEntry).foldl (fun (t : State) e => match lookup s.part e.idx e.sub with
    | none => t
    | some f => t.setLive e.idx e.sub (f.row'.decode e.data)) s

/-- Check 7 on one entry of a group at its die, with the state in which the entries before it are applied. -/
def State.prepareEntry (s all : State) (req : Requester) (e : GroupWrite) (scratch : State) : Nat × State :=
  if s.judgedEntry e then
    let st := s.serviceStatus e.idx
    (if st ≠ Status.ok then st else s.assignmentStatus all (e.idx - 0x2200) e.sub, scratch)
  else scratch.writeEntry req e.idx e.sub e.data

/-- A die prepares its entries in position order: the first that is not accepted, as position and status (R130). -/
def State.prepareDie (s all : State) (req : Requester) (d : Nat) : Nat → State → List (GroupWrite × Nat) → Option (Nat × Nat)
  | _, _, [] => none
  | n, scratch, e :: es =>
    if e.2 ≠ d then s.prepareDie all req d (n + 1) scratch es
    else
      let r := s.prepareEntry all req e.1 scratch
      if accepted r.1 then s.prepareDie all req d (n + 1) r.2 es else some (n, r.1)

/-- The draft as a group would leave it. -/
def State.groupDraft (s : State) (es : List GroupWrite) : Tab Val :=
  es.foldl (fun (t : Tab Val) e => match lookup s.part e.idx e.sub with
    | none => t
    | some f => if f.row.kind = .ring then s.ringPut t e.idx e.sub (f.row'.decode e.data) else t) s.draft

/-- The first of the entries prepared by a die that a check relating several entries names, in the draft as the group would leave it (R736, log
entry 44). -/
def State.relationFails (s : State) (g : WriteGroup) (d : Nat) : Option (Nat × Nat) :=
  let own := (g.placed.zipIdx 1).filter (fun e => decide (e.1.2 = d) && decide ((lookup s.part e.1.1.idx e.1.1.sub).map (·.row.kind) = some .ring))
  if own = [] then none
  else
    let rs := s.refusals (s.groupDraft g.entries)
    own.findSome? (fun e => (rs.find? (fun r => decide (r.idx = e.1.1.idx ∧ r.sub = e.1.1.sub))).map (fun r => (e.2, r.status)))

/-- A failure found at a position joins the group's: the lowest position counts (R131). -/
def WriteGroup.joinFailure (g : WriteGroup) (f : Option (Nat × Nat)) : WriteGroup :=
  match f with
  | none => g
  | some f => if g.failWith = 0 ∨ f.1 < g.failPos then { g with failPos := f.1, failWith := f.2 } else g

/-- What a die prepares for a running group: the first of its entries that fails, as position and status (R130, R736). -/
def State.prepareResult (s : State) (g : WriteGroup) (d : Nat) : Option (Nat × Nat) :=
  match s.prepareDie (s.setJudged g.entries) g.req d 1 s g.placed, s.relationFails g d with
  | none, r => r
  | some a, none => some a
  | some a, some b => some (if b.1 < a.1 then b else a)

/-- A live value that a group has prepared is set at T, though its subsystem would by now answer a WRITE with BUSY: a draft being replaced, a
group slot that runs, a stream unit that runs, a gain row whose swap waits (DESIGN CHOICE, log entry 133). None: the entry is a command, whose
subsystem's rules govern what the value does (R137), or a value that no BUSY keeps. -/
def State.forcedEntry (s : State) (base k sub : Nat) (v : Val) : Option State :=
  if base = 0x2111 then some (s.draftEffect sub v).2
  else if base = 0x7900 ∧ sub ≠ 4 then some (s.setLive (base + k) sub v)
  else if base = 0x7A40 ∧ sub ≠ 7 then some (s.setReg (base + k) sub v.toInt.toNat)
  else if base = 0x6900 ∧ sub ≠ 0x41 then some (s.setGain k (sub - 1) v.toInt)
  else none

/-- One entry of a group is applied at T (R133); a die whose Core has failed since has it applied by its lender (R135). -/
def State.applyEntry (s : State) (req : Requester) (e : GroupWrite) : State :=
  match lookup s.part e.idx e.sub with
  | none => s
  | some f =>
    let v := f.row'.decode e.data
    if f.row.kind ≠ .live then { s with draft := s.ringPut s.draft e.idx e.sub v }
    else (s.forcedEntry f.obj.base f.num e.sub v).getD (s.liveWrite req f e.idx e.sub v).2

/-- The assignments a group writes are applied together (R224, R225). -/
def State.applyJudged (s : State) (es : List GroupWrite) : State :=
  let new := s.setJudged es
  let named := ((es.filter (fun e => s.judgedEntry e && isAssignment e.sub)).map (fun e => e.idx - 0x2200)).eraseDups
  if named = [] then new else (new.takeAssignments s).each named (fun t i => t.awaitTaken i)

/-- Every entry of a group is applied. -/
def State.applyGroup (s : State) (req : Requester) (es : List GroupWrite) : State :=
  (es.filter (fun e => !s.judgedEntry e)).foldl (fun (t : State) e => t.applyEntry req e) (s.applyJudged es)

/-! ### Requests that wait -/

/-- The moment the last die answers a read group, at most 500 µs on, plus 20 µs (R130, R139, log entry 134). -/
def State.captureTime (s : State) : Nat := s.now + Config.freeNat s.free % (us 500 + 1) + us 20

/-- A directory request wakes the trunk role (R143, R625). -/
def State.trunkWake (s : State) : State := if s.powerState = 2 then s.wakeDomain s.trunk .trunkRole false else s

/-- READ_GROUP (R139): checked in position order, and given its capture time. Those that wait stand in the order of their capture times. -/
def State.serveReadGroup (s : State) (req : Requester) (es : List GroupRead) : State :=
  if es = [] ∨ 64 < es.length then s.trunkWake.answer req 4 Status.typeLength 0 [] 0 0 0
  else match (es.zipIdx 1).find? (fun e => decide (s.checkRead req e.1.idx e.1.sub e.1.view ≠ Status.ok)) with
    | some e => s.trunkWake.answer req 4 (s.checkRead req e.1.idx e.1.sub e.1.view) e.2 [] 0 0 0
    | none =>
      let g : ReadGroup := { req := req, entries := es, captureT := s.captureTime }
      let s1 := s.useFree.each ((es.map (fun e => s.dieOf e.idx)).eraseDups) (fun t d => t.demandWake d)
      { s1 with dir := { s1.dir with reads := s1.dir.reads.takeWhile (fun r => decide (r.captureT ≤ g.captureT)) ++
          g :: s1.dir.reads.dropWhile (fun r => decide (r.captureT ≤ g.captureT)) } }

/-- Serve a request that its transport took: BUSY to all during trunk succession (R142); before OPERATIONAL only the boot objects (R103). `x` is
what a write brings. -/
def State.serve (s : State) (req : Requester) (r : DirRequest) (x : WriteExtra := .plain) : State :=
  let boot := match r with
    | .read i _ _ => decide (0x2100 ≤ i ∧ i ≤ 0x2106)
    | .write i _ _ => decide (0x2100 ≤ i ∧ i ≤ 0x2106)
    | _ => false
  if s.health.succession ∨ (!s.operational ∧ !boot) then s.answer req (requestService r) Status.busy 0 [] 0 0 0
  else match r with
    | .read i sub v => s.serveRead req i sub v
    | .write i sub data => s.serveWrite req i sub data x
    | .describe i sub => s.serveDescribe req i sub
    | .readGroup es => s.serveReadGroup req es
    | .writeGroup es => s.trunkWake.serveWriteGroup req es
    | .malformed n st => s.trunkWake.answer req n st 0 [] 0 0 0

/-- A waiting request can go on: a recorded one at once, a write when no group holds its entry. -/
def State.canResume (s : State) (w : WaitingRequest) : Bool :=
  match w.request with
  | .write i sub _ => !w.accepted || !s.entryReserved i sub
  | _ => true

/-- Requests that waited are served as they become free (R134, R234). -/
def State.drain (s : State) : Nat → State
  | 0 => s
  | n + 1 =>
    match s.dir.blocked.find? s.canResume with
    | none => s
    | some w =>
      let s1 : State := { s with dir := { s.dir with blocked := s.dir.blocked.erase w } }
      (match w.accepted, w.request with
        | true, .write i sub data => (s1.demandWake (s1.dieOf i)).performWrite w.req i sub data w.extra w.silent
        | _, r => s1.serve w.req r w.extra).drain n

/-- Every request that can be served now is. -/
def State.settleRequests (s : State) : State := s.drain (2 * s.dir.blocked.length + 2)

/-! ### The mailbox message (R167 to R170) -/

/-- View codes of R167. -/
def viewOf (v : Nat) : View := if v = 0 then .active else if v = 1 then .draft else if v = 2 then .previous else .invalid

/-- The entries of a READ_GROUP body (R168). -/
def groupReads : Nat → List Byte → List GroupRead
  | 0, _ => []
  | n + 1, b => ⟨field b 0 2, field b 2 1, viewOf (field b 3 1)⟩ :: groupReads n (b.drop 4)

/-- The entries of a WRITE_GROUP body (R168), each padded to 4 bytes; none when the body is too short. -/
def groupWrites : Nat → List Byte → Option (List GroupWrite)
  | 0, _ => some []
  | n + 1, b =>
    let l := field b 4 2
    if b.length < 8 + l then none
    else (groupWrites n (b.drop (8 + (l + 3) / 4 * 4))).map (fun es => ⟨field b 0 2, field b 2 1, slice b 8 l⟩ :: es)

/-- A message as its request (R167, R168): the tag, the INDIRECT address and length, and the request. -/
structure Message where
  tag      : Nat
  indirect : Option (Nat × Nat)
  request  : DirRequest
deriving DecidableEq, Repr

/-- Read a request message; `moved` is what DMA brings for an INDIRECT write. View 3 returns RANGE: on READ at check 6, on the others at
once. The count of a READ, WRITE or DESCRIBE is ignored (DESIGN CHOICE, log entry 135), and so is INDIRECT in the tunnel, where the body is the
value (DESIGN CHOICE, log entry 136), and so is a body that a READ or a DESCRIBE should not have (DESIGN CHOICE, log entry 165). -/
def parseMessage (m : List Byte) (tunnel : Bool) (moved : List Byte) : Message :=
  let service := field m 0 1
  let flags := field m 1 1
  let count := field m 7 1
  let len := field m 8 4
  let b := slice m 16 len
  let ind := bit flags 2 && !tunnel && decide (service = 1 ∨ service = 2)
  let at16 : Option (Nat × Nat) := if ind then some (field b 0 8, field b 8 4) else none
  let i := field m 4 2
  let sub := field m 6 1
  let short := decide (8176 < len) || decide (m.length < 16 + len) || (ind && decide (len ≠ 16)) || (decide (service = 4) && decide (len < 4 * count))
  let req : DirRequest :=
    if service = 0 ∨ 5 < service then .malformed service Status.range
    else if short then .malformed service Status.typeLength
    else if flags % 4 = 3 ∧ service ≠ 1 then .malformed service Status.range
    else if service = 1 then .read i sub (viewOf (flags % 4))
    else if service = 2 then .write i sub (if ind then (moved ++ List.replicate (field b 8 4) 0).take (field b 8 4) else b)
    else if service = 3 then .describe i sub
    else if service = 4 then .readGroup (groupReads count b)
    else match groupWrites count b with
      | some es => .writeGroup es
      | none => .malformed service Status.typeLength
  { tag := field m 2 2, indirect := at16, request := req }

/-! ### The top level -/

/-- A message written to 0x1F12 runs as a request with MCAN's rights (R170); its response is held in 0x1F13. -/
def State.runTunnel (s : State) (m : List Byte) : State :=
  let p := parseMessage m true []
  ({ s with mcan := { s.mcan with tunnelRunning := true } } : State).serve (.tunnel p.tag) p.request

/-- A WRITE that its transport took, at the top level: a message to the tunnel is answered and then run (R170). -/
def State.serveTop (s : State) (req : Requester) (r : DirRequest) : State :=
  match r with
  | .write i sub data =>
    if i = 0x1F12 ∧ s.operational ∧ !s.health.succession then
      let st := s.writeStatus req i sub data
      if st ≠ Status.ok then s.answer req 2 st 0 [] i sub 0
      else if s.mcan.tunnelRunning then s.answer req 2 Status.busy 0 [] i sub 0
      else (s.answer req 2 Status.ok 0 [] i sub 0).runTunnel data
    else s.serve req r
  | _ => s.serve req r

/-- The mailbox of a requester takes a request: one at a time (R166); while frozen it is recorded (R231). The first component says whether it
is served now. -/
def State.takeRequest (s : State) (req : Requester) (r : DirRequest) : Bool × State :=
  match req with
  | .mailbox i _ _ =>
    if (s.inst i).mbox.outstanding then (false, s)
    else
      let s1 := s.modInst i (fun x => { x with mbox := { x.mbox with outstanding := true, ready := false } })
      if s.isShed i then (false, s1.modInst i (fun x => { x with mbox := { x.mbox with recorded := some (req, r) } }))
      else (true, s1)
  | _ => (true, s)

/-- A request arrives over its transport. -/
def State.submit (s : State) (req : Requester) (r : DirRequest) : State :=
  if !s.transportOpen req ∨ !requestFits req r then s
  else
    let t := s.takeRequest req r
    if t.1 then (t.2.serveTop req r).settleRequests else t.2

/-- The doorbell of an instance's mailbox (R166, R167): the message in its request buffer is read. A value moved by DMA from the host is a free
value, for host memory is outside the block. -/
def State.doorbell (s : State) (i : Nat) : State :=
  let m := (List.range 8192).map (fun k => Tab.getD (s.inst i).mbox.request k 0)
  let p := parseMessage m false (Config.freeBytes s.free)
  if (s.inst i).mbox.outstanding ∨ !s.pageWritable i then s
  else if p.indirect.isSome then s.useFree.submit (.mailbox i p.tag p.indirect) p.request
  else s.submit (.mailbox i p.tag none) p.request

/-! ### Commands -/

/-- READ (R127). -/
def execRead (req : Requester) (idx sub : Nat) (view : View) (s : State) : Host.Outcome State Fault Refusal := .next (s.submit req (.read idx sub view))
/-- WRITE (R127). -/
def execWrite (req : Requester) (idx sub : Nat) (data : List Byte) (s : State) : Host.Outcome State Fault Refusal :=
  .next (s.submit req (.write idx sub data))
/-- DESCRIBE (R127). -/
def execDescribe (req : Requester) (idx sub : Nat) (s : State) : Host.Outcome State Fault Refusal := .next (s.submit req (.describe idx sub))
/-- READ_GROUP (R139). -/
def execReadGroup (req : Requester) (entries : List GroupRead) (s : State) : Host.Outcome State Fault Refusal := .next (s.submit req (.readGroup entries))
/-- WRITE_GROUP (R128). -/
def execWriteGroup (req : Requester) (entries : List GroupWrite) (s : State) : Host.Outcome State Fault Refusal :=
  .next (s.submit req (.writeGroup entries))

/-- The running group ends: its reservations are released, waiting writes are performed, the next group starts (R129, R131, R134). -/
def State.groupOver (s : State) (g : WriteGroup) (status pos : Nat) : State :=
  ((({ s with dir := { s.dir with running := none } } : State).groupEnds g status pos).settleRequests).groupNext 20

/-- An answer or its timeout has been taken: after the last, the group fails or its commit time is set (R131 to R133). -/
def State.groupAnswered (s : State) (g : WriteGroup) : State :=
  if g.waiting ≠ [] then { s with dir := { s.dir with running := some g } }
  else if g.failWith ≠ 0 then s.groupOver g g.failWith g.failPos
  else
    let g1 : WriteGroup := { g with commitT := some (s.now + us 20) }
    { s with dir := { s.dir with running := some g1 } }

/-- A die's prepare is answered: by its Core, or by the trunk for what R142 takes out of service with a failed Core or Shell (log entry 168). -/
def State.answersPrepare (s : State) (d : Nat) : Bool := s.coreActive d || decide (s.reg (0x2008 + d) 2 = 3 ∨ s.reg (0x2008 + d) 3 = 3)

/-- PREPARE_ANSWER (R130, R132, R142): a die that answers does so within the 2 ms. -/
def execPrepareAnswer (die : Nat) (s : State) : Host.Outcome State Fault Refusal :=
  match s.dir.running with
  | none => .next s
  | some g =>
    if s.health.succession ∨ !g.waiting.contains die ∨ !s.answersPrepare die ∨ g.sentAt + ms 2 < s.now then .next s
    else
      let all := s.setJudged g.entries
      let fail := s.prepareResult g die
      let g1 := ({ g with waiting := g.waiting.erase die } : WriteGroup).joinFailure (if g.failWith = Status.aborted then none else fail)
      let denied := (fail.map (fun f => decide (f.2 = Status.deniedSecureClaim))).getD false
      let s1 := if denied then (s.claimsMoved all ++ s.claimsStopped (s.groupDraft g.entries)).foldl (fun (t : State) c => t.securityEvent 1 c.1 c.2) s else s
      .next (s1.groupAnswered g1)

/-- The lowest position that a die holds in a group. -/
def WriteGroup.lowestHeld (g : WriteGroup) (d : Nat) : Nat := ((g.dies.findIdx? (fun e => decide (e = d))).map (· + 1)).getD 0

/-- PREPARE_TIMEOUT (R132). -/
def execPrepareTimeout (die : Nat) (s : State) : Host.Outcome State Fault Refusal :=
  match s.dir.running with
  | none => .next s
  | some g =>
    if s.health.succession ∨ !g.waiting.contains die then .next s
    else
      let s1 := (s.arriveAt (g.sentAt + ms 2)).inc 0x1F01 3
      let g1 := ({ g with waiting := g.waiting.erase die } : WriteGroup).joinFailure
        (if g.failWith = Status.aborted then none else some (g.lowestHeld die, Status.timeout))
      .next (s1.groupAnswered g1)

/-- The values of a read group, in position order, stopping at the first refusal (R139). -/
def State.captureEach (s : State) (req : Requester) : Nat → List GroupRead → List (List Byte) → (Nat × Nat × List (List Byte)) × State
  | _, [], vs => ((Status.ok, 0, vs), s)
  | n, e :: es, vs =>
    let r := s.readEntry req e.idx e.sub e.view
    if r.1 ≠ Status.ok then ((r.1, n, []), s) else r.2.2.captureEach req (n + 1) es (vs ++ [r.2.1])

/-- One entry of a READ_GROUP's response body, padded to 4 bytes (R168). The last entry is padded too, and its padding counts in body_length
(DESIGN CHOICE, log entry 165). -/
def groupValue (v : List Byte) : List Byte := let b := leBytes 2 v.length ++ v; b ++ List.replicate ((4 - b.length % 4) % 4) 0

/-- A read group is captured at its T and answered (R138, R139, R168). -/
def State.captureRead (s : State) (g : ReadGroup) : State :=
  let c := (s.arriveAt g.captureT).captureEach g.req 1 g.entries []
  let u := c.2.useFree
  if 4096 < (c.1.2.2.map List.length).sum then u.answer g.req 4 Status.typeLength 0 [] 0 0 0
  else
    let body := c.1.2.2.flatMap groupValue
    u.answer g.req 4 c.1.1 c.1.2.1 body 0 0 body.length

/-- The read groups whose T lies before t are captured: a write group committed after their T is shown not applied (R139). -/
def State.captureBefore (s : State) (t : Nat) : State :=
  (s.dir.reads.filter (fun g => decide (g.captureT < t))).foldl State.captureRead
    { s with dir := { s.dir with reads := s.dir.reads.filter (fun g => decide (t ≤ g.captureT)) } }

/-- The committed group is applied at T, and its status returned when every die has confirmed, at most 100 µs after T (R133, R135, log
entry 137). A read group whose T lies before the group's is captured before it, and one whose T lies before the confirmation after it (R139). -/
def State.groupCommit (s : State) (g : WriteGroup) (t : Nat) : State :=
  let s1 := ((s.captureBefore t).arriveAt t).applyGroup g.req g.entries
  let e := t + Config.freeNat s1.free % (us 100 + 1)
  ((s1.useFree.captureBefore e).arriveAt e).groupOver g (if g.degraded then Status.degraded else Status.ok) 0

/-- GROUP_APPLY (R133). A group whose decision is written when the trunk fails is completed by the new trunk (R136). -/
def execGroupApply (s : State) : Host.Outcome State Fault Refusal :=
  match s.dir.running with
  | none => .next s
  | some g => match g.commitT with
    | none => .next s
    | some t => .next (if s.health.succession then s else s.groupCommit g t)

/-- A write group whose T lies at or before t is committed (R139). -/
def State.commitBy (s : State) (t : Nat) : State :=
  match s.dir.running with
  | none => s
  | some w => match w.commitT with
    | none => s
    | some c => if c ≤ t then s.groupCommit w c else s

/-- READ_GROUP_CAPTURE (R139, R142): the read group with the earliest T is captured; a write group committed at or before that T is shown
applied. -/
def execReadGroupCapture (s : State) : Host.Outcome State Fault Refusal :=
  match s.dir.reads with
  | [] => .next s
  | g :: gs =>
    if s.health.succession then .next (({ s with dir := { s.dir with reads := gs } } : State).answer g.req 4 Status.busy 0 [] 0 0 0)
    else
      let s1 := s.commitBy g.captureT
      .next (if s1.dir.reads.contains g then ({ s1 with dir := { s1.dir with reads := s1.dir.reads.erase g } } : State).captureRead g else s1)

/-- TRANSPORT_TIMEOUT (R171): a request whose die does not answer in time; a write has then been applied or not, which is a free value, and the
position that a read group reports is one of its entries. -/
def execTransportTimeout (req : Requester) (request : DirRequest) (s : State) : Host.Outcome State Fault Refusal :=
  let late := fun (t : State) => t.arriveAt (t.now + ms (t.cfg 0x1F14 0))
  if !s.transportOpen req ∨ !requestFits req request ∨ !s.operational ∨ s.health.succession then .next s
  else
    let t := s.takeRequest req request
    if !t.1 then .next t.2
    else match request with
      | .read i sub v =>
        if s.checkRead req i sub v = Status.ok then .next ((late (t.2.demandWake (s.dieOf i))).answer req 1 Status.timeout 0 [] i sub 0) else .next (t.2.serve req request)
      | .write i sub data =>
        if s.writeStatus req i sub data = Status.ok ∧ i ≠ 0x1F12 ∧ !s.entryReserved i sub then
          let u := t.2.demandWake (s.dieOf i)
          let s1 := if Config.freeBool u.free then (u.useFree.writeEntry req i sub data).2 else u.useFree
          .next ((late s1).answer req 2 Status.timeout 0 [] i sub 0)
        else .next ((t.2.serveTop req request).settleRequests)
      | .describe i sub =>
        if (lookup s.part i sub).isSome then .next ((late (t.2.demandWake (s.dieOf i))).answer req 3 Status.timeout 0 [] i sub 0) else .next (t.2.serve req request)
      | .readGroup es =>
        if es ≠ [] ∧ es.length ≤ 64 ∧ es.all (fun e => decide (s.checkRead req e.idx e.sub e.view = Status.ok)) then
          .next ((late t.2.useFree).answer req 4 Status.timeout (Config.freeNat s.free % es.length + 1) [] 0 0 0)
        else .next (t.2.serve req request)
      | _ => .next ((t.2.serve req request).settleRequests)

end Sys2Proof.Machine
end

