-- ==== Sys2Proof/Machine/Graphics.lean ====
section
/-! DEFINITION. The graphics commands (R421 to R451). -/
namespace Sys2Proof.Machine

/-- Whether a context is free for its queue's next entry (R420, R422, R442). -/
def State.ctxFree (s : State) (c : Nat) : Bool :=
  let x := s.ctx c
  x.job.isNone && x.guest.isNone && x.wait.isNone

/-- Instance i holds a context (R419, R442). -/
def State.holdsCtx (s : State) (i c : Nat) : Bool :=
  if c < 0x80 then decide (s.contextHolder c = i ∧ c < 16 * s.dies) else decide (s.cfg 0x4800 1 = i ∧ c - 0x80 < s.dies)

/-- JOB (R421, R425, R442): the command buffer starts on its context and on the dies of its split_mask. A job that fails its
first checks ends with JOB_DONE. A job whose split_mask names a die in a field slot waits for the slot's end, its entry not yet fetched (R681). -/
def execJob (e : Entry) (opcode addr length splitMask : Nat) (reservedZero : Bool) (s : State) : Host.Outcome State Fault Refusal :=
  let c := (s.sq e.inst e.q).target
  if !s.ctxFree c ∨ (List.range 8).any (fun d => bit splitMask d && s.inFieldSlot d) then .next s
  else if !s.canFetch e 1 then .next (s.fetchFails e 1)
  else
    let s1 := s.fetched e
    if opcode ≠ 1 ∨ !entryFlagsOk e ∨ !reservedZero ∨ addr % 64 ≠ 0 ∨ length < 16 ∨ 16777216 < length ∨ length % 16 ≠ 0 then
      .next (s1.stopQueue e.inst e.q Status.range)
    else
      let dies := if splitMask = 0 then [ctxDie c] else (List.range 8).filter (bit splitMask)
      let j : GfxJob := { inst := e.inst, q := e.q, tag := e.tag, completion := entryCompletion e, addr := addr, length := length,
                          parts := dies.map (fun d => { die := d, ctx := ctxOn c d }) }
      let held := dies.all (fun d => s.holdsCtx e.inst (ctxOn c d))
      let dead := (dies.filter (fun d => !s.coreActive d)).map (2 ^ ·) |>.sum
      let fail : Option GfxFailure :=
        if !held then some { status := Status.deniedInstance, reason := 6 }
        else if dead ≠ 0 then some { status := Status.hwFault, reason := 5, dies := dead }
        else if !s.idaOk e.inst addr length then some { status := Status.deniedInstance, reason := 2 }
        else if !s.bufferOk j then some { status := Status.range, reason := 1 }
        else none
      let j1 : GfxJob := { j with passes := leNat (s.cmdBytes j 6 2), failure := fail, parts := if fail.isSome then [] else j.parts }
      .next (s1.modCtx c (fun x => { x with job := some j1 })).gfxSettle

/-- The transactions of a context's SIGNAL and WAIT (R29). -/
def ctxAttr (c inst : Nat) : BusAttr := BusSource.raster.serving (ctxDie c) inst

/-- SIGNAL (R421, R422): every earlier job of the queue has completed; the value lands. -/
def execSignal (e : Entry) (addr value : Nat) (reservedZero : Bool) (s : State) : Host.Outcome State Fault Refusal :=
  if !s.ctxFree (s.sq e.inst e.q).target then .next s
  else if !s.canFetch e 1 then .next (s.fetchFails e 1)
  else if !entryFlagsOk e ∨ !reservedZero ∨ addr % 8 ≠ 0 then .next ((s.fetched e).stopQueue e.inst e.q Status.range)
  else .next (((s.fetched e).writeIda (ctxAttr (s.sq e.inst e.q).target e.inst) addr (leBytes 8 value)).endEntry e.inst e.q e.tag (entryCompletion e) Status.ok)

/-- A WAIT's value has reached its target. -/
def State.waitMet (s : State) (c : Nat) (w : GfxWait) : Bool := decide (w.value ≤ leNat (s.readIda (ctxAttr c w.inst) w.addr 8))

/-- A WAIT ends satisfied: the queue goes on. -/
def State.endWait (s : State) (c : Nat) (w : GfxWait) : State :=
  (((s.modCtx c (fun x => { x with wait := none })).setCtxState c 0).endEntry w.inst w.q w.tag w.completion Status.ok).gfxSettle

/-- WAIT (R421, R422): holds the queue unless the value is there already. -/
def execWait (e : Entry) (addr value timeoutUs : Nat) (reservedZero : Bool) (s : State) : Host.Outcome State Fault Refusal :=
  let c := (s.sq e.inst e.q).target
  if !s.ctxFree c then .next s
  else if !s.canFetch e 1 then .next (s.fetchFails e 1)
  else if !entryFlagsOk e ∨ !reservedZero ∨ addr % 8 ≠ 0 ∨ 10000000 < timeoutUs then .next ((s.fetched e).stopQueue e.inst e.q Status.range)
  else
    let w : GfxWait := { inst := e.inst, q := e.q, tag := e.tag, completion := entryCompletion e, addr := addr, value := value,
                         deadline := if timeoutUs = 0 then none else some (s.now + us timeoutUs) }
    let s1 := (s.fetched e).modCtx c (fun x => { x with wait := some w })
    .next (if s1.waitMet c w then s1.endWait c w else s1.setCtxState c 3)

/-- WAIT_SATISFIED (R422): the address is read again after a write; the queue resumes when the value is reached. -/
def execWaitSatisfied (context : Nat) (s : State) : Host.Outcome State Fault Refusal :=
  match (s.ctx context).wait with
  | none => .next s
  | some w => .next (if s.waitMet context w then s.endWait context w else s)

/-- WAIT_TIMEOUT (R423): a WAIT still unsatisfied stops its queue with TIMEOUT. -/
def execWaitTimeout (context : Nat) (s : State) : Host.Outcome State Fault Refusal :=
  match (s.ctx context).wait with
  | none => .next s
  | some w => match w.deadline with
    | none => .next s
    | some t =>
      let s1 := s.arriveAt t
      if s1.waitMet context w then .next (s1.endWait context w)
      else .next (((s1.modCtx context (fun x => { x with wait := none })).setCtxState context 0).stopQueue w.inst w.q Status.timeout)

/-- Some part of a job holds the cores of its die. -/
def State.jobRunning (s : State) (j : GfxJob) : Bool := j.parts.any (fun p => decide ((s.gdie p.die).running = some p.ctx))

/-- PASS_BEGIN (R426, R427, R431, R432, R442): the next pass of a context's job begins on every die of the split_mask. -/
def execPassBegin (context : Nat) (s : State) : Host.Outcome State Fault Refusal :=
  match (s.ctx context).job with
  | none => .next s
  | some j =>
    if j.pass.isSome ∨ j.failure.isSome ∨ j.passes ≤ j.index ∨ !(j.parts.all (·.taken)) ∨ !s.jobRunning j then .next s
    else
      let d := s.cmdBytes j j.offset 128
      if !passOk d then
        .next (s.modJob context (fun j => j.fail { status := Status.range, reason := 1, pass := j.index, offset := j.offset }))
      else
        let b := passBinned d j.parts.length
        let p : GfxPass := { desc := d, binned := b, cursor := j.offset + 128, ending := j.offset + 128 + field d 8 4 }
        let s1 := s.modJob context (fun j => { j with
          pass := some p, parts := j.parts.map (fun q => { q with binned := b, overflows := 0, flushed := [] }) })
        .next (s1.each (j.parts.map (·.die)) (fun t k => t.inc (0x4808 + k) (if b then 3 else 4)))

/-- The length R428 gives a command; 0 for an unknown op. -/
def commandLength (op : Nat) : Nat :=
  if op = 1 ∨ op = 2 ∨ op = 4 ∨ op = 7 then 12 else if op = 3 ∨ op = 5 then 20 else if op = 6 then 32 else 0

/-- The effect of one valid command of the draw stream on its pass; none when it is out of range (R428, R429). -/
def State.drawCommand (s : State) (j : GfxJob) (p : GfxPass) (op : Nat) (b : List Byte) : Option GfxPass :=
  let args (bs : List Byte) : List Nat := [field bs 0 4, field bs 4 4, field bs 8 4, field bs 12 4]
  if op = 1 then
    let a := field b 4 8
    if a % 256 = 0 && s.pipelineOk j.attr a p.desc then some { p with pipeline := some a } else none
  else if op = 2 then (if field b 4 8 % 64 = 0 then some { p with table := some (field b 4 8) } else none)
  else if op = 3 then some { p with viewport := b.drop 4 }
  else if op = 4 then some { p with scissor := b.drop 4 }
  else if p.pipeline = none then none
  else if op = 5 then some { p with draws := p.draws ++ [args (b.drop 4)] }
  else if op = 6 then
    if (field b 28 1 = 2 ∨ field b 28 1 = 4) ∧ allZero (slice b 29 3) then
      some { p with draws := p.draws ++ [args (b.drop 4) ++ [field b 20 8, field b 28 1]] }
    else none
  else
    let a := field b 4 8
    if a % 16 = 0 then some { p with draws := p.draws ++ [args (s.readIda j.attr a 16)] } else none

/-- The next command of the draw stream of a context's pass is taken when it is `op`. An unknown command, one of a wrong length
or out of range ends the job with RANGE whichever command was expected (R428). -/
def State.takeCommand (s : State) (context op : Nat) : State :=
  match (s.ctx context).job with
  | none => s
  | some j => match j.pass with
    | none => s
    | some p =>
      if j.failure.isSome ∨ p.ending ≤ p.cursor ∨ !s.jobRunning j then s
      else
        let h := s.cmdBytes j p.cursor 4
        let o := field h 0 2
        let l := field h 2 2
        let bad := s.modJob context (fun j => j.fail { status := Status.range, reason := 1, pass := j.index, offset := p.cursor })
        if l ≠ commandLength o ∨ l = 0 ∨ p.ending < p.cursor + l then bad
        else if o ≠ op then s
        else match s.drawCommand j p op (s.cmdBytes j p.cursor l) with
          | none => bad
          | some p1 => s.modJob context (fun j => { j with pass := some { p1 with cursor := p.cursor + l } })

/-- BIND_PIPELINE (R428, R429). -/
def execBindPipeline (context : Nat) (s : State) : Host.Outcome State Fault Refusal := .next (s.takeCommand context 1)
/-- BIND_TABLE (R428). -/
def execBindTable (context : Nat) (s : State) : Host.Outcome State Fault Refusal := .next (s.takeCommand context 2)
/-- VIEWPORT (R428). -/
def execViewport (context : Nat) (s : State) : Host.Outcome State Fault Refusal := .next (s.takeCommand context 3)
/-- SCISSOR (R428). -/
def execScissor (context : Nat) (s : State) : Host.Outcome State Fault Refusal := .next (s.takeCommand context 4)
/-- DRAW (R428). -/
def execDraw (context : Nat) (s : State) : Host.Outcome State Fault Refusal := .next (s.takeCommand context 5)
/-- DRAW_INDEXED (R428). -/
def execDrawIndexed (context : Nat) (s : State) : Host.Outcome State Fault Refusal := .next (s.takeCommand context 6)
/-- DRAW_INDIRECT (R428): the arguments are read from memory. -/
def execDrawIndirect (context : Nat) (s : State) : Host.Outcome State Fault Refusal := .next (s.takeCommand context 7)

/-- TILE_LIST_OVERFLOW (R431, R434, R435, R450): a die's slice fills, as `tiles`, how many tiles each primitive binned in it since it was empty
touches, shows; the tiles with binned primitives are stored; the second overflow turns the rest of the pass on that die to IMMEDIATE. -/
def execTileListOverflow (context die : Nat) (flushed : List TileData) (s : State) (tiles : List Nat := []) : Host.Outcome State Fault Refusal :=
  match (s.ctx context).job with
  | none => .next s
  | some j => match j.pass, j.parts.find? (fun p => p.die = die) with
    | some p, some part =>
      if !part.binned ∨ (s.gdie die).running ≠ some part.ctx ∨ !sliceFills p.desc j.parts.length tiles then .next s
      else
        let s0 := s.fillSlice j p.desc (j.parts.findIdx (fun q => q.die = die)) tiles.dropLast
        let mine := flushed.filter (fun t => decide ((rowOwner j.parts (tileGrid p.desc).2 t.ty).map (·.die) = some die))
        let s1 := ((mine.map (fun t => (t.tx, t.ty))).eraseDups).foldl (fun u t => u.flushTile j p.desc part mine t) s0
        let second := decide (part.overflows = 1)
        let s2 := s1.modJob context (fun k => { k with parts := k.parts.map (fun q =>
          if q.die = die then { q with overflows := q.overflows + 1, binned := !second, flushed := q.flushed ++ mine.map (fun t => (t.tx, t.ty)) } else q) })
        let s3 := s2.inc (0x4808 + die) 5
        let s4 := if second then s3.inc (0x4808 + die) 6 else s3
        .next (if s.reg (ctxIndex context) 3 = 1 then
          s4.event j.inst 0x0081 context Status.ok die (if second then 2 else 1) (j.index * 2 ^ 48 + j.tag) else s4)
    | _, _ => .next s

/-- PASS_DONE (R433, R436 to R438, R442, R447, R448): the pass has completed on every die, the last of which holds its cores; its tiles are
stored and their signatures recorded. `rendered` holds the tiles that primitives touched, `binned` how many tiles each primitive left in each die's slice touches (R431). -/
def execPassDone (context : Nat) (rendered : List TileData) (s : State) (binned : List (List Nat) := []) : Host.Outcome State Fault Refusal :=
  match (s.ctx context).job with
  | none => .next s
  | some j => match j.pass with
    | none => .next s
    | some p =>
      if (p.cursor < p.ending ∨ !s.jobRunning j) ∧ j.failure = none then .next s
      else
        let s0 := s.each (List.range binned.length) (fun t i => t.fillSlice j p.desc i (binned.getD i []))
        let s1 := s0.finishTiles j p.desc rendered
        let s2 := s1.modJob context (fun k => { k with pass := none, index := k.index + 1, offset := p.ending })
        .next (if s.passTranslates j.inst p.desc then s2
               else s2.modJob context (fun k => k.fail { status := Status.deniedInstance, reason := 2, pass := j.index, offset := 0 }))

/-- JOB_DONE (R424, R447, R450): every write of the job is visible; its QUEUE or JOB_RESULT event is written. -/
def execJobDone (context : Nat) (s : State) : Host.Outcome State Fault Refusal :=
  match (s.ctx context).job with
  | none => .next s
  | some j =>
    if j.pass.isSome ∨ (j.failure = none ∧ j.index < j.passes) then .next s
    else .next (s.endJob context ((j.failure.map (·.status)).getD Status.ok) false)

/-- PREEMPTION (R443 to R445): the running context stops at a pre-emption point when one was requested or its budget is spent. -/
def execPreemption (die : Nat) (s : State) : Host.Outcome State Fault Refusal :=
  if (s.gdie die).request.isSome || s.budgetSpent die then .next ((s.preempt die).gfxRun die) else .next s

/-- MIDSHADER_PREEMPTION (R444): no pre-emption point within 40 µs of the request; the cores save the shader state. -/
def execMidshaderPreemption (die : Nat) (s : State) : Host.Outcome State Fault Refusal :=
  match (s.gdie die).request with
  | none => .next s
  | some t => .next ((((s.arriveAt (t + us 40)).inc (0x4808 + die) 9).preempt die).gfxRun die)

/-- SCHED_PERIOD (R443): a scheduling period begins: budgets anew; the running context gives way to an instance with more. -/
def execSchedPeriod (die : Nat) (s : State) : Host.Outcome State Fault Refusal :=
  match (s.gdie die).period with
  | none => .next (s.gfxRun die)
  | some p =>
    let s1 := s.arriveAt (p + s.gfxPeriod)
    if s1.gfxInstances die = [] then .next (s1.modGdie die (fun g => { g with period := none, budgets := [] }))
    else
      let run := (s1.gdie die).running
      let s2 := match run with
        | some c => if c < 0x80 then (s1.gfxLeave die).startPeriod die |>.modGdie die (fun g => { g with running := some c, since := s1.now }) else s1.startPeriod die
        | none => s1.startPeriod die
      let want := s2.pickInstance die
      match run with
      | some c => .next (if c < 0x80 ∧ s2.ctxInst c ≠ want then s2.requestPreemption die else s2)
      | none => .next (s2.gfxRun die)

/-- JOB_TIME_LIMIT (R446 to R448): a part of a context's job has run longer than `job_limit_ms` on a die. -/
def execJobTimeLimit (context die : Nat) (s : State) : Host.Outcome State Fault Refusal :=
  let limit := s.reg (ctxIndex context) 2
  match (s.ctx context).job with
  | none => .next s
  | some j => match j.parts.find? (fun p => p.die = die) with
    | none => .next s
    | some p =>
      if limit = 0 ∨ (s.gdie die).running ≠ some p.ctx then .next s
      else
        let s1 := s.arriveAt ((s.gdie die).since + (ms limit - p.ran))
        .next ((s1.modJob context (fun j => j.fail { status := Status.timeout, reason := 3, dies := 2 ^ die, pass := j.index, offset := 0 })).requestPreemption die)

end Sys2Proof.Machine
end

