-- ==== Sys2Proof/Machine/Lines.lean ====
section
/-! DEFINITION. LINE_START (R282): the command that runs a head's raster, and with it the end of a restore (R238). -/
namespace Sys2Proof.Machine

/-- Line 0 of a frame begins, with the line-bound events and decisions of any line (R320, R331). -/
def State.lineZeroStart (s : State) (head : Nat) : State := (((s.lineZero head).lineMatch head 0 0).quietLine head 0).latchAt head 0

/-- A line of a head or pair begins now: it samples `reflex_start_enable` (R310). -/
def State.lineSample (s : State) (head : Nat) : State :=
  s.each (s.pairOf head) (fun u g => u.modHead g (fun x => { x with reflexStart := decide (u.hreg 0x3005 g 1 = 1), lineAt := u.now }))

/-- The start of a line of a timing head (R282): a head whose generator is stopped has no lines; a started one begins line 0 (R292). -/
def State.lineStart (s : State) (head : Nat) : State :=
  let x := s.head head
  if !x.running then
    if x.startPending then ((s.lineSample head).each (s.pairOf head) (fun u g => u.incH 0x3004 g 5)).lineZeroStart head else s
  else
    let s1 := (s.lineOut head).lineSample head
    match x.toLine0 with
    | none => s1.nextLine head
    | some k =>
      if k ≤ 1 then s1.lineZeroStart head
      else
        let s2 := s1.modHead head (fun y => { y with line := y.line + 1, toLine0 := some (k - 1) })
        (s2.vblankAt head (x.line + 1) 1).lineMatch head (x.line + 1) 1

/-- LINE_START (R282): at the start of a line the pixel domain makes the line-bound events and decisions. A pair's lines are
those of its even head. -/
def execLineStart (head : Nat) (s : State) : Host.Outcome State Fault Refusal :=
  .next (if s.timingHead head ≠ head then s else (s.lineStart head).restoreSettles)

end Sys2Proof.Machine
end

