-- ==== Sys2Proof/Machine/Mcan.lean ====
section
/-! DEFINITION. The commands of the MCAN port (R146 to R165, R170): NMT, heartbeat, EMCY, USDO sessions, the wake frame and the tunnel. -/
namespace Sys2Proof.Machine

/-- An NMT command acts: it names this node or every node (R156). -/
def State.nmtFor (s : State) (node : Nat) : Bool := s.mcanRuns && decide (node = 0 ∨ node = s.nodeId)

/-- NMT_START (R156): EMCYs held in STOPPED can now be sent. -/
def execNmtStart (node : Nat) (s : State) : Host.Outcome State Fault Refusal := .next (if s.nmtFor node then s.setReg 0x1F11 2 5 else s)

/-- NMT_STOP (R156): open sessions end silently. -/
def execNmtStop (node : Nat) (s : State) : Host.Outcome State Fault Refusal :=
  if s.nmtFor node ∧ s.nmtState ≠ 4 then .next (({ s with mcan := { s.mcan with sessions := [] } } : State).setReg 0x1F11 2 4) else .next s

/-- NMT_RESET_NODE (R156). -/
def execNmtResetNode (node : Nat) (s : State) : Host.Outcome State Fault Refusal := .next (if s.nmtFor node then s.commReset else s)
/-- NMT_RESET_COMMUNICATION (R156). -/
def execNmtResetCommunication (node : Nat) (s : State) : Host.Outcome State Fault Refusal := .next (if s.nmtFor node then s.commReset else s)

/-- HEARTBEAT (R158, R692): the period has elapsed; one due during trunk succession waits for its end. -/
def execHeartbeat (s : State) : Host.Outcome State Fault Refusal :=
  match s.mcan.heartbeatDue with
  | none => .next s
  | some t =>
    if !s.mcanRuns ∨ s.health.succession then .next s
    else
      let n := s.cfg 0x1017 0
      let s1 : State := { s.arriveAt t with mcan := { s.mcan with heartbeatDue := if n = 0 then none else some (t + ms n) } }
      .next (s1.sendMcan (0x700 + s.nodeId) (leBytes 1 s.nmtState))

/-- MCAN_BUS_OFF_RECOVERY (R148, R159). -/
def execMcanBusOffRecovery (s : State) : Host.Outcome State Fault Refusal :=
  if !s.serving then .next s
  else .next ((((s.setReg 0x1F11 3 0).inc 0x1F11 6).raiseEmcy 0x8140 Status.ok 0xFF 0 0).clearErrorBit 4)

/-- MCAN_ERROR_PASSIVE (R159, R160, R172): fault confinement moves the controller to error active (0), error passive (1) or bus-off (2); entry
into error passive raises EMCY 0x8120. A return to error active clears the communication bit (log entry 125). -/
def execMcanErrorPassive (s : State) (state : Nat := 1) : Host.Outcome State Fault Refusal :=
  if !s.mcanRuns ∨ s.reg 0x1F11 3 = state then .next s
  else if state = 1 then .next (((s.setReg 0x1F11 3 1).errorBit 4).raiseEmcy 0x8120 Status.ok 0xFF 0 0)
  else if state = 0 then .next ((s.setReg 0x1F11 3 0).clearErrorBit 4)
  else .next ((s.setReg 0x1F11 3 2).errorBit 4)

/-- EMCY_SEND (R161, R162): the oldest EMCY leaves, no earlier than the inhibit time after the last. A repeat absorbed by the frame that leaves
has its period run from now. -/
def execEmcySend (s : State) : Host.Outcome State Fault Refusal :=
  match s.nextEmcy with
  | none => .next s
  | some e =>
    if !s.emcyOpen then .next s
    else
      let s1 := match s.mcan.lastEmcy with
        | none => s
        | some t => s.arriveAt (t + ms (s.cfg 0x1F10 0xB))
      let first := decide (s.mcan.replacement = some e)
      let n := s.cfg 0x1F10 0xA
      let rearm := first && s.mcan.repeatDue.isNone && decide (s.healthState = 1 ∧ n ≠ 0)
      let m : Mcan := { s.mcan.withoutEmcy e with
        lastEmcy := some s1.now, repeatDue := if rearm then some (s1.now + sec n) else s.mcan.repeatDue }
      .next (({ s1 with mcan := m } : State).sendMcan (0x80 + s.nodeId) e.bytes)

/-- SVC_REPEAT (R161, R162): the replacement request is repeated with the first cause and moment, or absorbed by one not yet sent. -/
def execSvcRepeat (s : State) : Host.Outcome State Fault Refusal :=
  match s.mcan.repeatDue, s.mcan.firstRequest with
  | some t, some e =>
    if !s.operational ∨ s.health.stopped ∨ s.healthState ≠ 1 then .next s
    else
      let s1 := s.arriveAt t
      if s.mcan.replacement.isSome then .next { s1 with mcan := { s1.mcan with repeatDue := none } }
      else
        let n := s.cfg 0x1F10 0xA
        if n = 0 then .next { s1 with mcan := { s1.mcan with repeatDue := none } } else
        let e1 : Emcy := { e with register := s1.reg 0x1001 0, health := s1.healthState, sequence := s1.mcan.nextSequence }
        let s2 := s1.queueEmcy e1
        .next { s2 with mcan := { s2.mcan with repeatDue := some (t + sec n) } }
  | _, _ => .next s

/-- WAKE_FRAME (R146, R164, R165): a matching classic base frame is wake source 2; an extended or remote frame is ignored. -/
def execWakeFrame (identifier : Nat) (fdf : Bool) (data : List Byte) (s : State) (ide : Bool := false) (rtr : Bool := false) : Host.Outcome State Fault Refusal :=
  let b1 := field data 1 1
  if s.operational ∧ !s.health.stopped ∧ !ide ∧ !rtr ∧ identifier = s.cfg 0x1F10 6 ∧ !fdf ∧ data.length = 2 ∧ field data 0 1 = 0x57 ∧
      (b1 = s.nodeId ∨ (b1 = 0 ∧ s.cfg 0x1F10 7 = 1)) then .next (s.wakeFrom 2)
  else .next s

/-! ### USDO (R151 to R157) -/

/-- When a session ends for want of a segment: 10 s before OPERATIONAL (R105), else `usdo_timeout_ms` (R155). -/
def State.sessionDeadline (s : State) : Nat := s.now + (if s.operational then ms (s.cfg 0x1F10 9) else sec 10)

/-- The open session of a number. -/
def State.session? (s : State) (n : Nat) : Option UsdoSession := s.mcan.sessions.find? (fun x => x.id = n)

/-- The sessions are replaced. -/
def State.setSessions (s : State) (f : List UsdoSession → List UsdoSession) : State := { s with mcan := { s.mcan with sessions := f s.mcan.sessions } }

/-- A new session: the fifth is refused (R151). -/
def State.openSession (s : State) (x : UsdoSession) : State :=
  if 4 ≤ s.mcan.sessions.length then s.usdoAbort 0x05040005 else s.setSessions (fun l => l ++ [x])

/-- USDO_EXPEDITED_UPLOAD (R152): a value of at most 56 bytes. -/
def execUsdoExpeditedUpload (idx sub : Nat) (s : State) : Host.Outcome State Fault Refusal :=
  if !s.usdoServed then .next s
  else
    let t := s.submit .mcan (.read idx sub .active)
    if (t.out.usdo.getLast?.map (fun a => decide (56 < a.body.length))).getD false then .next s else .next t

/-- USDO_EXPEDITED_DOWNLOAD (R152). -/
def execUsdoExpeditedDownload (idx sub : Nat) (data : List Byte) (s : State) : Host.Outcome State Fault Refusal :=
  if !s.usdoServed ∨ 56 < data.length then .next s else .next (s.submit .mcan (.write idx sub data))

/-- USDO_SEGMENTED_UPLOAD (R138, R153): the value is captured now; a refusal ends the transfer at once. -/
def execUsdoSegmentedUpload (session idx sub : Nat) (s : State) : Host.Outcome State Fault Refusal :=
  if !s.usdoServed ∨ (s.session? session).isSome then .next s
  else if 4 ≤ s.mcan.sessions.length then .next (s.usdoAbort 0x05040005)
  else
    let t := s.submit .mcan (.read idx sub .active)
    match t.out.usdo.getLast? with
    | none => .next t
    | some a =>
      if a.abort.isSome then .next t
      else
        let u : State := ({ t with out := { t.out with usdo := t.out.usdo.dropLast } } : State).setReg 0x1F11 4 (s.reg 0x1F11 4)
        .next (u.openSession ⟨session, idx, sub, false, a.body, s.sessionDeadline⟩)

/-- USDO_SEGMENTED_DOWNLOAD (R153). -/
def execUsdoSegmentedDownload (session idx sub : Nat) (s : State) : Host.Outcome State Fault Refusal :=
  if !s.usdoServed ∨ (s.session? session).isSome then .next s
  else .next (s.openSession ⟨session, idx, sub, true, [], s.sessionDeadline⟩)

/-- USDO_SEGMENT (R153, R155): a segment arrives in time; the last one of a download writes the value, that of an upload has returned it. -/
def execUsdoSegment (session : Nat) (data : List Byte) (last : Bool) (s : State) : Host.Outcome State Fault Refusal :=
  match s.session? session with
  | none => .next s
  | some x =>
    if !s.usdoServed ∨ x.deadline < s.now then .next s
    else if !last then
      let y : UsdoSession := { x with data := if x.download then x.data ++ data else x.data, deadline := s.sessionDeadline }
      .next (s.setSessions (fun l => l.map (fun z => if z.id = session then y else z)))
    else
      let s1 := s.setSessions (fun l => l.filter (fun z => z.id ≠ session))
      if x.download then .next (s1.submit .mcan (.write x.idx x.sub (x.data ++ data)))
      else
        let a : UsdoAnswer := { status := Status.ok, body := x.data }
        .next ((s1.sendUsdo a).setReg 0x1F11 4 Status.ok)

/-- USDO_BLOCK_TRANSFER (R151). -/
def execUsdoBlockTransfer (_idx _sub : Nat) (s : State) : Host.Outcome State Fault Refusal :=
  if s.usdoServed then .next (s.usdoAbort 0x05040001) else .next s

/-- A session ends for want of a segment. -/
def State.sessionExpires (s : State) (x : UsdoSession) : State :=
  ((s.arriveAt x.deadline).setSessions (fun l => l.filter (fun z => z.id ≠ x.id))).usdoAbort 0x05040000

/-- USDO_TIMEOUT (R155). -/
def execUsdoTimeout (session : Nat) (s : State) : Host.Outcome State Fault Refusal :=
  match s.session? session with
  | none => .next s
  | some x => if s.operational ∧ s.usdoServed then .next (s.sessionExpires x) else .next s

/-- RECOVERY_SEGMENT_TIMEOUT (R105): in AWAIT_IMAGE the transfer's data is discarded. -/
def execRecoverySegmentTimeout (session : Nat) (s : State) : Host.Outcome State Fault Refusal :=
  match s.session? session with
  | none => .next s
  | some x => if s.bootState = 2 ∧ s.usdoServed then .next (s.sessionExpires x) else .next s

/-- TUNNEL_REQUEST (R170): a message downloaded into 0x1F12. -/
def execTunnelRequest (message : List Byte) (s : State) : Host.Outcome State Fault Refusal :=
  if !s.usdoServed then .next s else .next (s.submit .mcan (.write 0x1F12 0 message))

end Sys2Proof.Machine
end

