-- ==== Sys2Proof/Machine/Requests.lean ====
section
/-! DEFINITION. The commands that are directory writes with rows of their own, register writes, the end of trunk succession and of a restore. Each
write goes through the checks of R123 as any WRITE does. -/
namespace Sys2Proof.Machine

/-- The index of object n of a row with `max` objects; an index of no object when n is beyond the row. -/
def objectIndex (base stride max n : Nat) : Nat := if n < max then base + stride * n else 0xFFFF

/-- The bytes of a number for an entry (R115). -/
def State.valueBytes (s : State) (idx sub v : Nat) : List Byte :=
  match lookup s.part idx sub with
  | none => leBytes 1 v
  | some f => leBytes f.row.ty.size v

/-- A WRITE of a number. -/
def State.submitNumber (s : State) (req : Requester) (idx sub v : Nat) : State := s.submit req (.write idx sub (s.valueBytes idx sub v))

/-- A WRITE of a number that brings more than its value: what a host buffer holds, which applet submits. -/
def State.submitWith (s : State) (req : Requester) (idx sub v : Nat) (x : WriteExtra) : State :=
  let data := s.valueBytes idx sub v
  if !s.transportOpen req then s
  else
    let t := s.takeRequest req (.write idx sub data)
    if t.1 then (t.2.serve req (.write idx sub data) x).settleRequests else t.2

/-! ### Boot and recovery (R103 to R110) -/

/-- RECOVERY_IMAGE_WRITE (R104). -/
def execRecoveryImageWrite (data : List Byte) (s : State) : Host.Outcome State Fault Refusal := .next (s.submit .mcan (.write 0x2104 0 data))
/-- RECOVERY_RING_WRITE (R104). -/
def execRecoveryRingWrite (data : List Byte) (s : State) : Host.Outcome State Fault Refusal := .next (s.submit .mcan (.write 0x2105 0 data))
/-- RECOVERY_START (R104). -/
def execRecoveryStart (value : Nat) (s : State) : Host.Outcome State Fault Refusal := .next (s.submitNumber .mcan 0x2106 0 value)
/-- DEVICE_RESET (R106). -/
def execDeviceReset (req : Requester) (value : Nat) (s : State) : Host.Outcome State Fault Refusal := .next (s.submitNumber req 0x2100 7 value)
/-- SV_ADVANCE (R108). -/
def execSvAdvance (req : Requester) (value : Nat) (s : State) : Host.Outcome State Fault Refusal := .next (s.submitNumber req 0x2102 2 value)
/-- REVOKE_KEY (R108). -/
def execRevokeKey (req : Requester) (slot : Nat) (s : State) : Host.Outcome State Fault Refusal := .next (s.submitNumber req 0x2102 4 slot)

/-! ### Rings (R178 to R182) -/

/-- RING_COMMIT (R180). -/
def execRingCommit (req : Requester) (timeout : Nat) (s : State) : Host.Outcome State Fault Refusal := .next (s.submitNumber req 0x2112 1 timeout)
/-- RING_CONFIRM (R182). -/
def execRingConfirm (req : Requester) (version : Nat) (s : State) : Host.Outcome State Fault Refusal := .next (s.submitNumber req 0x2112 2 version)
/-- RING_RETURN (R180). -/
def execRingReturn (req : Requester) (value : Nat) (s : State) : Host.Outcome State Fault Refusal := .next (s.submitNumber req 0x2112 3 value)
/-- DRAFT_RESET (R178). -/
def execDraftReset (req : Requester) (value : Nat) (s : State) : Host.Outcome State Fault Refusal := .next (s.submitNumber req 0x2111 3 value)
/-- DRAFT_IMAGE (R179). -/
def execDraftImage (req : Requester) (image : List Byte) (s : State) : Host.Outcome State Fault Refusal := .next (s.submit req (.write 0x2111 4 image))

/-! ### Instances (R224 to R226) and shed control (R227) -/

/-- INSTANCE_RESET (R226). -/
def execInstanceReset (req : Requester) (inst value : Nat) (s : State) : Host.Outcome State Fault Refusal :=
  .next (s.submitNumber req (objectIndex 0x2200 1 32 inst) 0x15 value)
/-- ASSIGNMENT_WRITE (R224): one entry is a WRITE, several are a write group. -/
def execAssignmentWrite (req : Requester) (entries : List GroupWrite) (s : State) : Host.Outcome State Fault Refusal :=
  match entries with
  | [e] => .next (s.submit req (.write e.idx e.sub e.data))
  | es => .next (s.submit req (.writeGroup es))
/-- FREEZE (R229). -/
def execFreeze (req : Requester) (s : State) : Host.Outcome State Fault Refusal := .next (s.submitNumber req 0x2221 2 1)
/-- THAW (R234). -/
def execThaw (req : Requester) (s : State) : Host.Outcome State Fault Refusal := .next (s.submitNumber req 0x2221 2 2)
/-- SAVE (R236). -/
def execSave (req : Requester) (s : State) : Host.Outcome State Fault Refusal := .next (s.submitNumber req 0x2221 2 3)
/-- RESTORE (R237): `image` is what the buffer holds, `dmaOk` whether its completions succeeded. -/
def execRestore (req : Requester) (image : List Byte) (dmaOk : Bool) (s : State) : Host.Outcome State Fault Refusal :=
  .next (s.submitWith req 0x2221 2 4 (.image image dmaOk))

/-- One record of LIVE_ENTRIES is applied (R238); none when it is refused. As which requester it is written is open: as a normal-world management
core of the trunk die, so that no grant of the target is asked and an RWS entry is refused (DESIGN CHOICE, log entry 176). A group value never
written is saved empty, and nothing is written for it (R235, R593). -/
def State.applyRecord (s : State) (r : Record) : Option State :=
  let req : Requester := .core s.trunk .normal
  if 0x7900 ≤ r.idx ∧ r.idx < 0x7A00 ∧ r.sub = 3 ∧ r.data = [] then some s
  else if s.checkWrite req r.idx r.sub r.data ≠ Status.ok then none
  else
    let w := s.writeEntry req r.idx r.sub r.data
    if accepted w.1 then some w.2 else none

/-- LIVE_ENTRIES to GRAPHICS are applied in order (R238); none when an entry is refused. -/
def State.applySections (s : State) (i : Nat) (source : Option Nat) (img : List Byte) : Option State :=
  match parseRecords 65536 (sectionBytes img 2) with
  | none => none
  | some rs => (applyEach State.applyRecord s rs).map (fun s1 =>
      (((s1.applyQueues i (sectionBytes img 3)).applyEvents i source (sectionBytes img 4)).applyMailbox i (sectionBytes img 5)).applyGraphics i
        (sectionBytes img 7))

/-- Pages, sections and commits of the image are applied in order (R238); the type of the section at which that fails. -/
def State.applyImage (s : State) : Except Nat State :=
  let i := s.shed.target
  let img := s.shed.image
  match applyEach (fun t e => t.applyPage i (sectionBytes img 9) e) s ((imageManifest img).zipIdx.map (fun e => (e.2, e.1))) with
  | none => .error 9
  | some s1 => match s1.applySections i s.shed.sourceInst img with
    | none => .error 2
    | some s2 => match s2.applyCommits i (sectionBytes img 6) with
      | none => .error 6
      | some s3 => .ok s3

/-- RESTORE_APPLY_DONE (R238 to R240): the pages and sections are applied and the commits are with their heads; the first failure quiesces the
target. The target is FROZEN when the last of them has latched. -/
def execRestoreApplyDone (s : State) : Host.Outcome State Fault Refusal :=
  if s.shed.running ≠ some 4 ∨ s.instState s.shed.target ≠ 6 then .next s
  else if s.shed.applied then .next s.restoreSettles
  else match s.applyImage with
    | .error t => .next (s.applyFails s.shed.image t)
    | .ok u => .next (({ u with shed := { s.shed with applied := true } } : State).restoreSettles)

/-! ### The secure world and debug (R255 to R269) -/

/-- APPLET_KEY_BURN (R255). -/
def execAppletKeyBurn (req : Requester) (hash : List Byte) (s : State) : Host.Outcome State Fault Refusal := .next (s.submit req (.write 0x2303 2 hash))
/-- APPLET_KEY_REVOKE (R269). -/
def execAppletKeyRevoke (req : Requester) (slot : Nat) (s : State) : Host.Outcome State Fault Refusal := .next (s.submitNumber req 0x2303 3 slot)
/-- APPLET_LOAD (R257). -/
def execAppletLoad (req : Requester) (image : List Byte) (s : State) : Host.Outcome State Fault Refusal := .next (s.submit req (.write 0x2304 1 image))
/-- DEBUG_CHALLENGE (R265): a read of the entry, or over JTAG with UNLOCK selected. -/
def execDebugChallenge (req : Option Requester) (s : State) : Host.Outcome State Fault Refusal :=
  match req with
  | some r => .next (s.submit r (.read 0x2301 4 .active))
  | none =>
    if s.worlds.jtagIr ≠ 0x12 ∨ !s.pins.trstHigh then .next s
    else
      let c := s.newChallenge
      .next { c.2 with worlds := { c.2.worlds with jtagDr := c.1 } }
/-- DEBUG_RESPONSE (R265). -/
def execDebugResponse (req : Requester) (response : List Byte) (s : State) : Host.Outcome State Fault Refusal :=
  .next (s.submit req (.write 0x2301 5 response))
/-- DEBUG_RELOCK (R269). -/
def execDebugRelock (req : Requester) (value : Nat) (s : State) : Host.Outcome State Fault Refusal := .next (s.submitNumber req 0x2301 6 value)

/-! ### Power (R611 to R617) -/

/-- POWER_SLEEP (R611). -/
def execPowerSleep (req : Requester) (s : State) : Host.Outcome State Fault Refusal := .next (s.submitNumber req 0x2400 2 2)
/-- POWER_DEEP_SLEEP (R611, R616). -/
def execPowerDeepSleep (req : Requester) (s : State) : Host.Outcome State Fault Refusal := .next (s.submitNumber req 0x2400 2 3)
/-- POWER_OFF (R617). -/
def execPowerOff (req : Requester) (s : State) : Host.Outcome State Fault Refusal := .next (s.submitNumber req 0x2400 2 4)
/-- POWER_RUN (R616, R621). -/
def execPowerRun (req : Requester) (s : State) : Host.Outcome State Fault Refusal := .next (s.submitNumber req 0x2400 2 0)

/-! ### Survey, self-test, heads, layers, regions -/

/-- PIEZO_REQUEST (R657). -/
def execPiezoRequest (req : Requester) (channel value : Nat) (s : State) : Host.Outcome State Fault Refusal :=
  .next (s.submitNumber req (objectIndex 0x2610 1 16 channel) 6 value)
/-- SPEAKER_REQUEST (R674). -/
def execSpeakerRequest (req : Requester) (output value : Nat) (s : State) : Host.Outcome State Fault Refusal :=
  .next (s.submitNumber req (objectIndex 0x2620 1 64 output) 0xC value)
/-- SELFTEST_RUN (R680). -/
def execSelftestRun (req : Requester) (die : Nat) (s : State) : Host.Outcome State Fault Refusal := .next (s.submitNumber req 0x2710 1 die)
/-- RETRAIN (R310). -/
def execRetrain (req : Requester) (head value : Nat) (s : State) : Host.Outcome State Fault Refusal :=
  .next (s.submitNumber req (objectIndex 0x3005 256 16 head) 2 value)
/-- SPRITE_STATE_WRITE (R369). -/
def execSpriteStateWrite (req : Requester) (sprite value : Nat) (s : State) : Host.Outcome State Fault Refusal :=
  .next (s.submitNumber req (objectIndex 0x4100 1 128 sprite) 0xB value)
/-- CANOPY_MEMBERS_WRITE (R378). -/
def execCanopyMembersWrite (req : Requester) (head members : Nat) (s : State) : Host.Outcome State Fault Refusal :=
  .next (s.submitNumber req (objectIndex 0x4200 1 16 head) 5 members)
/-- REGION_UPDATE (R398); `applet` is the secure applet that submits, if one does (R405). -/
def execRegionUpdate (req : Requester) (applet : Option Nat) (region value : Nat) (s : State) : Host.Outcome State Fault Refusal :=
  .next (s.submitWith req (objectIndex 0x4300 1 128 region) 0x12 value (match applet with
    | none => .plain
    | some a => .applet a))
/-- ASSETS_WRITE (R404). -/
def execAssetsWrite (req : Requester) (store : List Byte) (s : State) : Host.Outcome State Fault Refusal := .next (s.submit req (.write 0x2310 1 store))

/-! ### Keys, haptics, audio, lanes, stream units -/

/-- RECAPTURE (R483). -/
def execRecapture (req : Requester) (die value : Nat) (s : State) : Host.Outcome State Fault Refusal :=
  .next (s.submitNumber req (objectIndex 0x6100 1 8 die) 0xF value)
/-- HAPTIC_CLEAR (R506). -/
def execHapticClear (req : Requester) (channel value : Nat) (s : State) : Host.Outcome State Fault Refusal :=
  .next (s.submitNumber req (objectIndex 0x6400 1 16 channel) 0x1A value)
/-- TONE_START (R542). -/
def execToneStart (req : Requester) (gen value : Nat) (s : State) : Host.Outcome State Fault Refusal :=
  .next (s.submitNumber req (objectIndex 0x6810 1 8 gen) 7 value)
/-- SAFE_LOAD (R537). -/
def execSafeLoad (req : Requester) (row time : Nat) (s : State) : Host.Outcome State Fault Refusal :=
  .next (s.submitNumber req (objectIndex 0x6900 1 128 row) 0x41 time)
/-- GROUP_START (R585). -/
def execGroupStart (req : Requester) (slot value : Nat) (s : State) : Host.Outcome State Fault Refusal :=
  .next (s.submitNumber req (objectIndex 0x7900 1 16 slot) 4 value)
/-- STREAM_PRESET (R603). -/
def execStreamPreset (req : Requester) (unit value : Nat) (s : State) : Host.Outcome State Fault Refusal :=
  .next (s.submitNumber req (objectIndex 0x7A40 1 16 unit) 7 value)

/-! ### Registers (R117, R197) and trunk succession (R691, R692) -/

/-- REGISTER_WRITE: an instance-page register (the mailbox doorbell among them), the boot window, a configuration control, a directory entry, a
store or a control-window write of a management core (R246 to R248). -/
def execRegisterWrite (target : RegTarget) (s : State) : Host.Outcome State Fault Refusal :=
  match target with
  | .page i off v => if off = 0x10 then .next (if bit v 0 then s.doorbell i else s) else .next (s.pageWrite i off v)
  | .boot off v => .next (s.bootWrite off v)
  | .config i c on => .next (s.configWrite i c on)
  | .pci i r v => .next (s.pciWrite i r v)
  | .entry req idx sub data => .next (s.submit req (.write idx sub data))
  | .store c a v => .next (s.coreStore c a v)
  | .block c d b v => .next (s.controlWrite c d b v)
  | .load c a => .next (s.coreLoad c a)
  | .blockRead c d b => .next (s.controlRead c d b)

/-- Every group with no commit decision ends ABORTED (R136). -/
def State.groupsAborted (s : State) : State :=
  let run := match s.dir.running with
    | none => []
    | some g => if g.commitT = none then [g] else []
  let gs := run ++ s.dir.queued
  let kept := if run = [] then s.dir.running else none
  gs.foldl (fun (t : State) g => t.groupEnds g Status.aborted 0) { s with dir := { s.dir with running := kept, queued := [] } }

/-- An undecided ring commit ends ABORTED with the trunk that ran it: nothing applied, the draft kept (R136, R187, log entry 131). -/
def State.ringAborted (s : State) : State :=
  match s.ringWork with
  | none => s
  | some w => if s.ringPhase = 1 ∧ !w.decided then s.ringFails { status := Status.aborted, idx := 0, sub := 0 } else s

/-- SUCCESSION_DONE (R136, R555, R691, R692): D1's Core has the trunk role. -/
def execSuccessionDone (s : State) : Host.Outcome State Fault Refusal :=
  if !s.health.succession then .next s
  else
    let held := s.health.succHeld
    let s1 : State := { s with health := { s.health with succession := false, succHeld := [] } }
    let s2 := held.foldl (fun (t : State) e => t.deliverAll e.1 e.2) s1
    let s3 := (((s2.setTrunk 1).takeSecure.installRoutes.setReg 0x2700 6 s.now).abortHandshake).ringAborted.groupsAborted
    let s4 := ((s3.openRows.lendingEvent 0 4 1).startLending 0).chooseGuards
    .next s4.settleRequests

end Sys2Proof.Machine
end

