-- ==== Sys2Proof/Machine/Rings.lean ====
section
/-! DEFINITION. The ring's events (R180 to R189): prepare, apply, deadline and return. During trunk succession no trunk takes them: the new one
does, once it serves (R136, R187, log entry 131). -/
namespace Sys2Proof.Machine

/-- The last die answers the prepare (R183). -/
def execRingPrepareDone (s : State) : Host.Outcome State Fault Refusal :=
  match s.ringWork with
  | none => .next s
  | some w => if s.health.succession ∨ s.ringPhase ≠ 1 ∨ w.decided then .next s else .next s.ringDecide

/-- A die gives no answer within 25 ms (R183). -/
def execRingPrepareTimeout (die : Nat) (s : State) : Host.Outcome State Fault Refusal :=
  match s.ringWork with
  | none => .next s
  | some w =>
    if s.health.succession ∨ s.ringPhase ≠ 1 ∨ w.decided ∨ !w.waiting.contains die then .next s
    else
      let s1 := s.arriveAt (w.prepareAt + ms 25)
      let w1 : RingWork := { w with waiting := w.waiting.erase die, timedOut := w.timedOut ++ [die] }
      let s2 : State := { s1 with ringWork := some w1 }
      .next (if w1.waiting = [] then s2.ringDecide else s2)

/-- Every die applies at T the draft that the commit took (R180, R182, R187). -/
def execRingApplied (s : State) : Host.Outcome State Fault Refusal :=
  match s.ringWork with
  | none => .next s
  | some w =>
    if s.health.succession ∨ s.ringPhase ≠ 1 ∨ !w.decided then .next s
    else
      let s0 := s.arriveAt w.commitT
      let version := w.version
      let held : HeldRing := { version := s0.ringVersion, label := s0.regBytes 0x2110 2, values := s0.active }
      let s1 := ({ s0.activate w.values version w.label with previous := some held, ringWork := none } : State).showPrevious
      let s2 := ((s1.setReg 0x2110 8 version).setReg 0x2110 9 (if w.degraded then Status.degraded else Status.ok)).copyDraft
      let s3 := if w.timeoutS = 0 then (s2.setReg 0x2110 6 0).setReg 0x2110 7 0
        else (s2.setReg 0x2110 6 2).setReg 0x2110 7 (w.commitT + sec w.timeoutS)
      .next ((s3.ringUptake s0).ringEvent 1 version)

/-- The confirmation deadline expires (R182). -/
def execConfirmDeadlineExpiry (s : State) : Host.Outcome State Fault Refusal :=
  if s.health.succession ∨ s.ringPhase ≠ 2 ∨ s.reg 0x2110 7 = 0 then .next s else .next ((s.arriveAt (s.reg 0x2110 7)).startReturn 3)

/-- The values after a return: an entry whose resource is out of service keeps its old value (R184). -/
def State.returnValues (s : State) (prev : Tab Val) : Tab Val :=
  (diffKeys prev s.active).foldl (fun (t : Tab Val) k =>
    if s.serviceStatus (k / 256) = Status.hwFault then
      match Tab.find? s.active k with | none => Tab.erase t k | some v => Tab.put t k v
    else t) prev

/-- Every die applies the return (R180, R184). -/
def execReturnApplied (s : State) : Host.Outcome State Fault Refusal :=
  match s.ringWork, s.previous with
  | some w, some r =>
    if s.health.succession ∨ s.ringPhase ≠ 3 then .next s
    else
      let s0 := s.arriveAt w.commitT
      let vals := s0.returnValues r.values
      let withdrawn := s0.ringVersion
      let s1 := ({ s0.activate vals r.version r.label with previous := none, ringWork := none } : State).showPrevious
      let s2 := (s1.setReg 0x2110 9 (if vals ≠ r.values ∨ w.degraded then Status.degraded else Status.ok)).copyDraft
      .next (((((s2.setReg 0x2110 6 0).setReg 0x2110 7 0).inc 0x2110 0xC).ringUptake s0).ringEvent w.cause withdrawn)
  | _, _ => .next s

end Sys2Proof.Machine
end

