-- ==== Sys2Proof/Machine/Sapflow.lean ====
section
/-! DEFINITION. The Sapflow commands (R639 to R646). -/
namespace Sys2Proof.Machine

/-- Sapflow and power entries, taken up at a window boundary (R186, R646). -/
def isSapflowIndex (i : Nat) : Bool := decide (0x2400 ≤ i ∧ i < 0x2600)

/-- Self-test, calibration and Canopy requests of a round in reverse shedding order (R640): the headroom left in mW, the state, and the
highest class refused. -/
def State.grantClasses (s : State) (room : Int) : Int × State × Nat :=
  let slotMw : Int := s.reg 0x2500 8
  let slot := decide (s.reg 0x2710 2 = 1 ∨ s.reg 0x2710 2 = 2)
  let slotOk := decide (slotMw ≤ room)
  let (room1, s1, l1) :=
    if !slot then (room, s, 0)
    else if slotOk then
      let t := s.slotBegins
      (if t.reg 0x2710 2 = 2 then room - slotMw else room, t, 0)
    else (room, (s.slotCut).inc 0x2501 0xA, 4)
  let calMw : Int := s.use 0x2500 7
  let calOk := decide (calMw ≤ room1)
  let (room2, s2, l2) :=
    if !s1.calibrationWanted then
      (room1, ({ s1 with sapflow := { s1.sapflow with calibration := false, pausedDies := [] } } : State).setReg 0x2600 8 0, l1)
    else if calOk then
      (room1 - calMw, ({ s1 with sapflow := { s1.sapflow with calibration := true, pausedDies := [] } } : State).setReg 0x2600 8 0, l1)
    else (room1, s1.pauseCalibration.inc 0x2501 9, max l1 3)
  let mw : Int := s.use 0x2500 6
  let wants := (List.range (2 * s.dies)).filter (fun h => s2.sapflow.canopyWant.contains h && decide (s2.canopyReg h 6 ≠ 4) && !s2.claimed 1 h)
  let t := wants.foldl (fun (a : Int × List Nat × List Nat) h =>
    if mw ≤ a.1 then (a.1 - mw, a.2.1 ++ [h], a.2.2) else (a.1, a.2.1, a.2.2 ++ [h])) (room2, [], [])
  let s3 := t.2.2.foldl (fun (u : State) h => u.withdrawBuild h) s2
  let s4 : State := { s3 with sapflow := { s3.sapflow with canopyGranted := t.2.1 } }
  (t.1, s4, if t.2.2 = [] then l2 else max l2 2)

/-- Graphics clocks of a round (R640): each die's grant, and the headroom left in 1/20 mW. -/
def State.grantGraphics (s : State) (room : Int) : List (Nat × Nat) × Int :=
  gfxPasses (s.use 0x2500 5) (s.use 0x2500 4) 16 (s.gfxDies.map (fun d => (d, s.use 0x2500 3))) (20 * room)

/-- A SHED_LEVEL event, at most one per 100 ms, when the level differs from the one last reported (R647). -/
def State.shedReport (s : State) : State :=
  let lvl := s.reg 0x2501 4
  let free : Bool := match s.sapflow.lastShedEvent with | none => true | some t => decide (t + ms 100 ≤ s.now)
  if lvl = s.sapflow.lastShedLevel ∨ !free then s
  else
    ({ s with sapflow := { s.sapflow with lastShedEvent := some s.now, lastShedLevel := lvl } } : State).sapflowEvent 0xFFFF 0xFF 1 (s.reg 0x2501 1)

/-- The floors and dies as measured in the window just ended (0x2508 + d.06). -/
def State.setFloors (s : State) (fs : List Nat) : State := s.each s.dieList (fun t d => t.setReg (0x2508 + d) 6 (fs.getD d 0))

/-- A native bias below a floor that the uptake has raised moves up to it (R626, R646). -/
def State.biasFloor (s : State) : State :=
  s.each s.dieList (fun t d =>
    let i := 0x2408 + d
    let v := t.useI 0x2410 1
    if t.reg i 6 ≠ 0 ∨ 2 ≤ t.powerState ∨ v ≤ t.regI i 3 then t else (t.setRegI i 3 v).setReg i 4 (if v < 0 then 3 else 0))

/-- GRANT_ROUND (R639, R640, R645, R646): the window boundary, with the powers measured in the window just ended. -/
def execGrantRound (packageMw unshedMw : Nat) (floorMw : List Nat) (s : State) : Host.Outcome State Fault Refusal :=
  if !s.serving ∨ s.health.succession then .next s
  else
    let t0 := (s.arriveAt ((s.now + 999999) / 1000000 * 1000000)).takeUp isSapflowIndex |>.biasFloor
    let limit := 250 * t0.use 0x2500 1
    let room : Int := (limit : Int) - t0.use 0x2500 2 - unshedMw
    let t1 := (((t0.setReg 0x2501 1 packageMw).setReg 0x2501 2 unshedMw).setFloors floorMw).inc 0x2501 5
    let t2 := if limit < packageMw then t1.inc 0x2501 6 else t1
    let a := t2.grantClasses room
    let g := a.2.1.grantGraphics a.1
    let want := t0.use 0x2500 4
    let t3 := a.2.1.each s.dieList (fun u d =>
      match Tab.find? g.1 d with
      | none => (u.setReg (0x2508 + d) 4 0).setReg (0x2508 + d) 5 0
      | some v => (u.setReg (0x2508 + d) 4 want).setReg (0x2508 + d) 5 v)
    let short := g.1.any (fun e => decide (e.2 < want))
    let t4 := if short then t3.inc 0x2501 7 else t3
    let left : Int := g.2 / 20 + (if g.2 % 20 ≠ 0 ∧ Config.freeBool t4.free then 1 else 0)
    let t5 := ((t4.setRegI 0x2501 3 left).setReg 0x2501 4 (if a.2.2 = 0 ∧ short then 1 else a.2.2)).useFree
    let t6 := if (limit : Int) - t0.use 0x2500 2 < unshedMw then t5.sapflowEvent 0xFFFF 0xFF 2 packageMw else t5
    let t7 := t6.shedReport.each (List.range 8) (fun u b => u.boardWindow b)
    let t8 : State := { t7 with sapflow := { t7.sapflow with windowDraw := [] } }
    let t9 := t8.each (List.range (2 * s.dies)) (fun u c => match (u.hap c).play with
      | none => u
      | some p => if p.placed ∨ u.boardHolds c then u else u.placePlay c p)
    .next t9.startCalibrations

/-- PROJECTION_CHECK (R641): one cut in shedding order when the projected mean of the window is above the limit less the margin;
where nothing is left to cut, nothing is counted. -/
def execProjectionCheck (projectedMw : Nat) (s : State) : Host.Outcome State Fault Refusal :=
  let l : Int := (250 * s.use 0x2500 1 : Nat) - (s.use 0x2500 2 : Int)
  if !s.serving ∨ s.health.succession ∨ (projectedMw : Int) ≤ l then .next s
  else
    let s1 := s.inc 0x2501 0xB
    let high := s.dieList.filter (fun d => decide (s.use 0x2500 3 < s.reg (0x2508 + d) 5))
    let builds := s.sapflow.canopyGranted.filter (fun h => !s.claimed 1 h)
    if high ≠ [] then .next (s1.each high (fun t d => t.setReg (0x2508 + d) 5 (t.reg (0x2508 + d) 5 - 50)))
    else if builds ≠ [] then .next (s1.each builds (fun t h => t.withdrawBuild h))
    else if s.sapflow.calibration then .next (s1.pauseCalibration.inc 0x2501 9)
    else if s.reg 0x2710 2 = 2 then .next (s1.slotCut.inc 0x2501 0xA)
    else .next s

/-- PEAK_CURRENT_CHECK (R644). -/
def execPeakCurrentCheck (die meanMa : Nat) (s : State) : Host.Outcome State Fault Refusal :=
  if s.dies ≤ die ∨ !s.serving then .next s
  else
    let i := 0x2508 + die
    let s1 := (s.setReg i 2 meanMa).raise i 3 meanMa
    let mine := fun (c : Nat) => decide (hapDie c = die)
    let port := fun (o : Nat) => decide (o / 8 = die)
    let busy := (Tab.keys s.survey.piezoRunning).any mine || s.survey.pilotRunning.any port
    if meanMa ≤ s.use i 1 then .next s1
    else if s.use 0x2500 3 < s.reg i 5 then .next ((s1.setReg i 5 (s.reg i 5 - 50)).inc i 7)
    else if busy then
      let s2 := ((s1.cutCalibration mine port).setReg 0x2600 8 1).inc 0x2501 9
      .next { s2 with sapflow := { s2.sapflow with pausedDies := die :: s2.sapflow.pausedDies } }
    else .next (s1.sapflowEvent die die 3 meanMa)

/-- BOARD_WAIT_EXPIRY (R645): a software PLAY held for `board_wait_ms` ends BUSY. -/
def execBoardWaitExpiry (channel : Nat) (s : State) : Host.Outcome State Fault Refusal :=
  match (s.hap channel).play with
  | none => .next s
  | some p =>
    if p.placed then .next s
    else
      let s1 := (s.arriveAt p.dueAt).modHap channel (fun h => { h with play := none })
      .next ((s1.endPlay p Status.busy).inc (0x2510 + s.hapCfg channel 0x11) 5)

end Sys2Proof.Machine
end

