-- ==== Sys2Proof/Machine/Dispatch.lean ====
section
/-! DEFINITION. Which meaning each command has: one arm per constructor of Instr. -/
namespace Sys2Proof.Machine

/-- The effect of a command on everything but the queue. -/
def exec (i : Instr) (s : State) : Host.Outcome State Fault Refusal :=
  match i with
  | .powerOnResetRelease => Sys2Proof.Machine.execPowerOnResetRelease s
  | .strapSampling bootSrc vrMode mgmtId => Sys2Proof.Machine.execStrapSampling bootSrc vrMode mgmtId s
  | .resetNAssert => Sys2Proof.Machine.execResetNAssert s
  | .resetNRelease => Sys2Proof.Machine.execResetNRelease s
  | .railLoss rail => Sys2Proof.Machine.execRailLoss rail s
  | .aonPowerLoss => Sys2Proof.Machine.execAonPowerLoss s
  | .switchedRailsValid => Sys2Proof.Machine.execSwitchedRailsValid s
  | .railValidTimeout => Sys2Proof.Machine.execRailValidTimeout s
  | .perstNAssert => Sys2Proof.Machine.execPerstNAssert s
  | .perstNRelease => Sys2Proof.Machine.execPerstNRelease s
  | .poweredComplete fusesOk dramOk romOk => Sys2Proof.Machine.execPoweredComplete fusesOk dramOk s romOk
  | .memorySpaceEnable romOk => Sys2Proof.Machine.execMemorySpaceEnable s romOk
  | .mcanServerStarted romOk => Sys2Proof.Machine.execMcanServerStarted s romOk
  | .apertureWrite offset data => Sys2Proof.Machine.execApertureWrite offset data s
  | .start withRestart romOk => Sys2Proof.Machine.execStart withRestart s romOk
  | .restart => Sys2Proof.Machine.execRestart s
  | .bootRegionCleared romOk => Sys2Proof.Machine.execBootRegionCleared s romOk
  | .authenticationDone links romOk => Sys2Proof.Machine.execAuthenticationDone links s romOk
  | .memberCoreReady die => Sys2Proof.Machine.execMemberCoreReady die s
  | .coreReadyTimeout die => Sys2Proof.Machine.execCoreReadyTimeout die s
  | .distributionDone romOk => Sys2Proof.Machine.execDistributionDone s romOk
  | .bootSlotDone die r romOk => Sys2Proof.Machine.execBootSlotDone die r s romOk
  | .memoryTrainingDone failedStacks romOk => Sys2Proof.Machine.execMemoryTrainingDone failedStacks s romOk
  | .ringApplyDone applyFault romOk => Sys2Proof.Machine.execRingApplyDone applyFault s romOk
  | .recoveryImageWrite data => Sys2Proof.Machine.execRecoveryImageWrite data s
  | .recoveryRingWrite data => Sys2Proof.Machine.execRecoveryRingWrite data s
  | .recoveryStart value => Sys2Proof.Machine.execRecoveryStart value s
  | .recoverySegmentTimeout session => Sys2Proof.Machine.execRecoverySegmentTimeout session s
  | .deviceReset req value => Sys2Proof.Machine.execDeviceReset req value s
  | .svAdvance req value => Sys2Proof.Machine.execSvAdvance req value s
  | .revokeKey req slot => Sys2Proof.Machine.execRevokeKey req slot s
  | .linkDownDeclared a b => Sys2Proof.Machine.execLinkDownDeclared a b s
  | .timeBeacon errors => Sys2Proof.Machine.execTimeBeacon errors s
  | .ptmExchange master midpoint => Sys2Proof.Machine.execPtmExchange master midpoint s
  | .read req idx sub view => Sys2Proof.Machine.execRead req idx sub view s
  | .write req idx sub data => Sys2Proof.Machine.execWrite req idx sub data s
  | .describe req idx sub => Sys2Proof.Machine.execDescribe req idx sub s
  | .readGroup req entries => Sys2Proof.Machine.execReadGroup req entries s
  | .readGroupCapture => Sys2Proof.Machine.execReadGroupCapture s
  | .writeGroup req entries => Sys2Proof.Machine.execWriteGroup req entries s
  | .prepareAnswer die => Sys2Proof.Machine.execPrepareAnswer die s
  | .prepareTimeout die => Sys2Proof.Machine.execPrepareTimeout die s
  | .groupApply => Sys2Proof.Machine.execGroupApply s
  | .transportTimeout req request => Sys2Proof.Machine.execTransportTimeout req request s
  | .nmtStart node => Sys2Proof.Machine.execNmtStart node s
  | .nmtStop node => Sys2Proof.Machine.execNmtStop node s
  | .nmtResetNode node => Sys2Proof.Machine.execNmtResetNode node s
  | .nmtResetCommunication node => Sys2Proof.Machine.execNmtResetCommunication node s
  | .usdoExpeditedUpload idx sub => Sys2Proof.Machine.execUsdoExpeditedUpload idx sub s
  | .usdoExpeditedDownload idx sub data => Sys2Proof.Machine.execUsdoExpeditedDownload idx sub data s
  | .usdoSegmentedUpload session idx sub => Sys2Proof.Machine.execUsdoSegmentedUpload session idx sub s
  | .usdoSegmentedDownload session idx sub => Sys2Proof.Machine.execUsdoSegmentedDownload session idx sub s
  | .usdoSegment session data last => Sys2Proof.Machine.execUsdoSegment session data last s
  | .usdoBlockTransfer idx sub => Sys2Proof.Machine.execUsdoBlockTransfer idx sub s
  | .usdoTimeout session => Sys2Proof.Machine.execUsdoTimeout session s
  | .tunnelRequest message => Sys2Proof.Machine.execTunnelRequest message s
  | .heartbeat => Sys2Proof.Machine.execHeartbeat s
  | .mcanBusOffRecovery => Sys2Proof.Machine.execMcanBusOffRecovery s
  | .mcanErrorPassive state => Sys2Proof.Machine.execMcanErrorPassive s state
  | .emcySend => Sys2Proof.Machine.execEmcySend s
  | .svcRepeat => Sys2Proof.Machine.execSvcRepeat s
  | .wakeFrame identifier fdf data ide rtr => Sys2Proof.Machine.execWakeFrame identifier fdf data s ide rtr
  | .ringCommit req timeout => Sys2Proof.Machine.execRingCommit req timeout s
  | .ringPrepareDone => Sys2Proof.Machine.execRingPrepareDone s
  | .ringPrepareTimeout die => Sys2Proof.Machine.execRingPrepareTimeout die s
  | .ringApplied => Sys2Proof.Machine.execRingApplied s
  | .ringConfirm req version => Sys2Proof.Machine.execRingConfirm req version s
  | .confirmDeadlineExpiry => Sys2Proof.Machine.execConfirmDeadlineExpiry s
  | .ringReturn req value => Sys2Proof.Machine.execRingReturn req value s
  | .returnApplied => Sys2Proof.Machine.execReturnApplied s
  | .draftReset req value => Sys2Proof.Machine.execDraftReset req value s
  | .draftImage req image => Sys2Proof.Machine.execDraftImage req image s
  | .registerWrite target => Sys2Proof.Machine.execRegisterWrite target s
  | .vfEnableSet numVfs => Sys2Proof.Machine.execVfEnableSet numVfs s
  | .vfDisable numVfs => Sys2Proof.Machine.execVfDisable numVfs s
  | .flr inst => Sys2Proof.Machine.execFlr inst s
  | .instanceReset req inst value => Sys2Proof.Machine.execInstanceReset req inst value s
  | .instanceFault inst cause => Sys2Proof.Machine.execInstanceFault inst cause s
  | .quiesceDone inst => Sys2Proof.Machine.execQuiesceDone inst s
  | .sqTail inst q tail => Sys2Proof.Machine.execSqTail inst q tail s
  | .sqEnable inst q config => Sys2Proof.Machine.execSqEnable inst q config s
  | .sqDisable inst q => Sys2Proof.Machine.execSqDisable inst q s
  | .evqEnable inst config => Sys2Proof.Machine.execEvqEnable inst config s
  | .evqDisable inst => Sys2Proof.Machine.execEvqDisable inst s
  | .evqModerationExpiry inst => Sys2Proof.Machine.execEvqModerationExpiry inst s
  | .timeLoRead inst => Sys2Proof.Machine.execTimeLoRead inst s
  | .bar2Access inst offset store length => Sys2Proof.Machine.execBar2Access inst offset store length s
  | .assignmentWrite req entries => Sys2Proof.Machine.execAssignmentWrite req entries s
  | .assignmentTakenUp inst => Sys2Proof.Machine.execAssignmentTakenUp inst s
  | .freeze req => Sys2Proof.Machine.execFreeze req s
  | .drainLimit => Sys2Proof.Machine.execDrainLimit s
  | .freezeDone => Sys2Proof.Machine.execFreezeDone s
  | .thaw req => Sys2Proof.Machine.execThaw req s
  | .save req => Sys2Proof.Machine.execSave req s
  | .saveDone dmaOk => Sys2Proof.Machine.execSaveDone dmaOk s
  | .restore req image dmaOk => Sys2Proof.Machine.execRestore req image dmaOk s
  | .restoreApplyDone => Sys2Proof.Machine.execRestoreApplyDone s
  | .malformedTlp inst => Sys2Proof.Machine.execMalformedTlp inst s
  | .unexpectedCompletion inst => Sys2Proof.Machine.execUnexpectedCompletion inst s
  | .wcall core mode regs word => Sys2Proof.Machine.execWcall core mode regs s word
  | .wret core mode => Sys2Proof.Machine.execWret core mode s
  | .resume core finished => Sys2Proof.Machine.execResume core finished s
  | .version core => Sys2Proof.Machine.execVersion core s
  | .appletCall core offered finished => Sys2Proof.Machine.execAppletCall core offered finished s
  | .wcallBudgetExpiry core => Sys2Proof.Machine.execWcallBudgetExpiry core s
  | .appletFault core applet => Sys2Proof.Machine.execAppletFault core applet s
  | .monitorHalt core => Sys2Proof.Machine.execMonitorHalt core s
  | .appletKeyBurn req hash => Sys2Proof.Machine.execAppletKeyBurn req hash s
  | .appletKeyRevoke req slot => Sys2Proof.Machine.execAppletKeyRevoke req slot s
  | .appletLoad req image => Sys2Proof.Machine.execAppletLoad req image s
  | .secureEntryStart k => Sys2Proof.Machine.execSecureEntryStart k s
  | .secureEntryEnd => Sys2Proof.Machine.execSecureEntryEnd s
  | .secureEntryLimit => Sys2Proof.Machine.execSecureEntryLimit s
  | .secureClaim applet cls resource => Sys2Proof.Machine.execSecureClaim applet cls resource s
  | .claimRelease applet cls resource => Sys2Proof.Machine.execClaimRelease applet cls resource s
  | .debugChallenge req => Sys2Proof.Machine.execDebugChallenge req s
  | .debugResponse req response => Sys2Proof.Machine.execDebugResponse req response s
  | .debugRelock req value => Sys2Proof.Machine.execDebugRelock req value s
  | .idcode trst => Sys2Proof.Machine.execIdcode s trst
  | .samplePreload pins shiftIn => Sys2Proof.Machine.execSamplePreload pins s shiftIn
  | .extest shiftIn => Sys2Proof.Machine.execExtest s shiftIn
  | .dtmcs => Sys2Proof.Machine.execDtmcs s
  | .dmi address data op => Sys2Proof.Machine.execDmi address data op s
  | .unlock response => Sys2Proof.Machine.execUnlock response s
  | .bypass code => Sys2Proof.Machine.execBypass code s
  | .powerSleep req => Sys2Proof.Machine.execPowerSleep req s
  | .powerDeepSleep req => Sys2Proof.Machine.execPowerDeepSleep req s
  | .powerOff req => Sys2Proof.Machine.execPowerOff req s
  | .powerRun req => Sys2Proof.Machine.execPowerRun req s
  | .handshakeAnswers delayNs linkUp l12Enabled => Sys2Proof.Machine.execHandshakeAnswers delayNs linkUp l12Enabled s
  | .handshakeDelayExpiry => Sys2Proof.Machine.execHandshakeDelayExpiry s
  | .entryComplete => Sys2Proof.Machine.execEntryComplete s
  | .deepAfterExpiry => Sys2Proof.Machine.execDeepAfterExpiry s
  | .offNoticeExpiry => Sys2Proof.Machine.execOffNoticeExpiry s
  | .wakeN lowNs heldLow => Sys2Proof.Machine.execWakeN lowNs heldLow s
  | .exitComplete => Sys2Proof.Machine.execExitComplete s
  | .dieIdleEntry die coresWaiting => Sys2Proof.Machine.execDieIdleEntry die coresWaiting s
  | .dieIdleExit die => Sys2Proof.Machine.execDieIdleExit die s
  | .domainSleepTimer die domain => Sys2Proof.Machine.execDomainSleepTimer die domain s
  | .biasMonitor die warning => Sys2Proof.Machine.execBiasMonitor die warning s
  | .vrAck die status => Sys2Proof.Machine.execVrAck die status s
  | .vrTimeout die => Sys2Proof.Machine.execVrTimeout die s
  | .vrAlert statuses => Sys2Proof.Machine.execVrAlert statuses s
  | .clockStretchTimeout die => Sys2Proof.Machine.execClockStretchTimeout die s
  | .grantRound packageMw unshedMw floorMw => Sys2Proof.Machine.execGrantRound packageMw unshedMw floorMw s
  | .projectionCheck projectedMw => Sys2Proof.Machine.execProjectionCheck projectedMw s
  | .peakCurrentCheck die meanMa => Sys2Proof.Machine.execPeakCurrentCheck die meanMa s
  | .boardWaitExpiry channel => Sys2Proof.Machine.execBoardWaitExpiry channel s
  | .railSample die rail mv => Sys2Proof.Machine.execRailSample die rail mv s
  | .tempSample die sensor deciC => Sys2Proof.Machine.execTempSample die sensor deciC s
  | .railPersistence die rail => Sys2Proof.Machine.execRailPersistence die rail s
  | .tempPersistence die sensor => Sys2Proof.Machine.execTempPersistence die sensor s
  | .piezoRequest req channel value => Sys2Proof.Machine.execPiezoRequest req channel value s
  | .piezoInterval channel => Sys2Proof.Machine.execPiezoInterval channel s
  | .piezoMeasurement channel nf => Sys2Proof.Machine.execPiezoMeasurement channel nf s
  | .speakerRequest req output value => Sys2Proof.Machine.execSpeakerRequest req output value s
  | .speakerInterval output => Sys2Proof.Machine.execSpeakerInterval output s
  | .speakerBlock output mohm currentRmsMa => Sys2Proof.Machine.execSpeakerBlock output mohm currentRmsMa s
  | .laneSurveySecond lane idleTransitions edges glitched => Sys2Proof.Machine.execLaneSurveySecond lane idleTransitions edges glitched s
  | .dramTrack die correctionPs margin => Sys2Proof.Machine.execDramTrack die correctionPs margin s
  | .selftestRun req die => Sys2Proof.Machine.execSelftestRun req die s
  | .fieldSlotDone r => Sys2Proof.Machine.execFieldSlotDone r s
  | .deferLimitExpiry => Sys2Proof.Machine.execDeferLimitExpiry s
  | .coreHeartbeat die => Sys2Proof.Machine.execCoreHeartbeat die s
  | .heartbeatTimeout die => Sys2Proof.Machine.execHeartbeatTimeout die s
  | .ackTimeout die => Sys2Proof.Machine.execAckTimeout die s
  | .lendingServed die => Sys2Proof.Machine.execLendingServed die s
  | .successionDone => Sys2Proof.Machine.execSuccessionDone s
  | .hpdRising head => Sys2Proof.Machine.execHpdRising head s
  | .irqHpd head linkLost => Sys2Proof.Machine.execIrqHpd head linkLost s
  | .hpdUnplug head => Sys2Proof.Machine.execHpdUnplug head s
  | .debounceExpiry head => Sys2Proof.Machine.execDebounceExpiry head s
  | .cableMeasured head cm => Sys2Proof.Machine.execCableMeasured head cm s
  | .capsReadDone head caps failed => Sys2Proof.Machine.execCapsReadDone head caps s failed
  | .trainingAttemptDone head ok => Sys2Proof.Machine.execTrainingAttemptDone head ok s
  | .retrain req head value => Sys2Proof.Machine.execRetrain req head value s
  | .lineStart head => Sys2Proof.Machine.execLineStart head s
  | .readySampled head reflex => Sys2Proof.Machine.execReadySampled head reflex s
  | .commit e opcode blockLength commitFlags reservedZero block blockAddr => Sys2Proof.Machine.execCommit e opcode blockLength commitFlags reservedZero block s blockAddr
  | .commitArrival head inst => Sys2Proof.Machine.execCommitArrival head inst s
  | .underrun head column => Sys2Proof.Machine.execUnderrun head column s
  | .bandBegin head => Sys2Proof.Machine.execBandBegin head s
  | .bandComplete head band => Sys2Proof.Machine.execBandComplete head band s
  | .spriteStateWrite req sprite value => Sys2Proof.Machine.execSpriteStateWrite req sprite value s
  | .spriteOperation die count => Sys2Proof.Machine.execSpriteOperation die count s
  | .canopyMembersWrite req head members => Sys2Proof.Machine.execCanopyMembersWrite req head members s
  | .regionUpdate req applet region value => Sys2Proof.Machine.execRegionUpdate req applet region value s
  | .updateArrival region => Sys2Proof.Machine.execUpdateArrival region s
  | .assetsWrite req store => Sys2Proof.Machine.execAssetsWrite req store s
  | .guardSignature region => Sys2Proof.Machine.execGuardSignature region s
  | .guardLate region => Sys2Proof.Machine.execGuardLate region s
  | .job e opcode addr length splitMask reservedZero => Sys2Proof.Machine.execJob e opcode addr length splitMask reservedZero s
  | .signal e addr value reservedZero => Sys2Proof.Machine.execSignal e addr value reservedZero s
  | .wait e addr value timeoutUs reservedZero => Sys2Proof.Machine.execWait e addr value timeoutUs reservedZero s
  | .waitSatisfied context => Sys2Proof.Machine.execWaitSatisfied context s
  | .waitTimeout context => Sys2Proof.Machine.execWaitTimeout context s
  | .passBegin context => Sys2Proof.Machine.execPassBegin context s
  | .bindPipeline context => Sys2Proof.Machine.execBindPipeline context s
  | .bindTable context => Sys2Proof.Machine.execBindTable context s
  | .viewport context => Sys2Proof.Machine.execViewport context s
  | .scissor context => Sys2Proof.Machine.execScissor context s
  | .draw context => Sys2Proof.Machine.execDraw context s
  | .drawIndexed context => Sys2Proof.Machine.execDrawIndexed context s
  | .drawIndirect context => Sys2Proof.Machine.execDrawIndirect context s
  | .tileListOverflow context die flushed tiles => Sys2Proof.Machine.execTileListOverflow context die flushed s tiles
  | .passDone context rendered binned => Sys2Proof.Machine.execPassDone context rendered s binned
  | .jobDone context => Sys2Proof.Machine.execJobDone context s
  | .preemption die => Sys2Proof.Machine.execPreemption die s
  | .midshaderPreemption die => Sys2Proof.Machine.execMidshaderPreemption die s
  | .schedPeriod die => Sys2Proof.Machine.execSchedPeriod die s
  | .jobTimeLimit context die => Sys2Proof.Machine.execJobTimeLimit context die s
  | .scanCycle die => Sys2Proof.Machine.execScanCycle die s
  | .selfFrameDone die bursts => Sys2Proof.Machine.execSelfFrameDone die bursts s
  | .mutualPhaseDone die bursts => Sys2Proof.Machine.execMutualPhaseDone die bursts s
  | .recapture req die value => Sys2Proof.Machine.execRecapture req die value s
  | .wakeScan die selfBursts mutualBursts => Sys2Proof.Machine.execWakeScan die selfBursts mutualBursts s
  | .play e opcode effect scale startTime reservedZero => Sys2Proof.Machine.execPlay e opcode effect scale startTime reservedZero s
  | .stop e reservedZero => Sys2Proof.Machine.execStop e reservedZero s
  | .playStartTime channel => Sys2Proof.Machine.execPlayStartTime channel s
  | .htrigEdge pin rising => Sys2Proof.Machine.execHtrigEdge pin rising s
  | .reflexTrigger channel => Sys2Proof.Machine.execReflexTrigger channel s
  | .ampReadyExpiry channel => Sys2Proof.Machine.execAmpReadyExpiry channel s
  | .segmentEnd channel => Sys2Proof.Machine.execSegmentEnd channel s
  | .senseFrame bus slots => Sys2Proof.Machine.execSenseFrame bus slots s
  | .brakeTimeout channel => Sys2Proof.Machine.execBrakeTimeout channel s
  | .resonanceTrack channel estimate => Sys2Proof.Machine.execResonanceTrack channel estimate s
  | .ampFault channel => Sys2Proof.Machine.execAmpFault channel s
  | .engineLost channel => Sys2Proof.Machine.execEngineLost channel s
  | .onTimeLimit channel => Sys2Proof.Machine.execOnTimeLimit channel s
  | .energyBlock channel => Sys2Proof.Machine.execEnergyBlock channel s
  | .hapticClear req channel value => Sys2Proof.Machine.execHapticClear req channel value s
  | .toneRequest gen => Sys2Proof.Machine.execToneRequest gen s
  | .toneStart req gen value => Sys2Proof.Machine.execToneStart req gen value s
  | .samplePeriod received => Sys2Proof.Machine.execSamplePeriod received s
  | .safeLoad req row time => Sys2Proof.Machine.execSafeLoad req row time s
  | .mclkLost => Sys2Proof.Machine.execMclkLost s
  | .mclkRestored => Sys2Proof.Machine.execMclkRestored s
  | .tdmSlip port dropped => Sys2Proof.Machine.execTdmSlip port dropped s
  | .tdmNoClock port => Sys2Proof.Machine.execTdmNoClock port s
  | .tdmClockRestored port => Sys2Proof.Machine.execTdmClockRestored port s
  | .buffer e opcode addr length format bufFlags startTime reservedZero host => Sys2Proof.Machine.execBuffer e opcode addr length format bufFlags startTime reservedZero host s
  | .audioStop e reservedZero => Sys2Proof.Machine.execAudioStop e reservedZero s
  | .silenceHoldExpiry node => Sys2Proof.Machine.execSilenceHoldExpiry node s
  | .laneSchedule lane => Sys2Proof.Machine.execLaneSchedule lane s
  | .descriptor lane frame => Sys2Proof.Machine.execDescriptor lane frame s
  | .response lane frame => Sys2Proof.Machine.execResponse lane frame s
  | .ack lane frame => Sys2Proof.Machine.execAck lane frame s
  | .data lane frame => Sys2Proof.Machine.execData lane frame s
  | .event lane frame => Sys2Proof.Machine.execEvent lane frame s
  | .nak lane frame => Sys2Proof.Machine.execNak lane frame s
  | .responseTimeout lane => Sys2Proof.Machine.execResponseTimeout lane s
  | .recoveryExpiry partner => Sys2Proof.Machine.execRecoveryExpiry partner s
  | .laneBusOffRecovery lane => Sys2Proof.Machine.execLaneBusOffRecovery lane s
  | .laneCommand e opcode body => Sys2Proof.Machine.execLaneCommand e opcode body s
  | .laneRead e body => Sys2Proof.Machine.execLaneRead e body s
  | .groupStart req slot value => Sys2Proof.Machine.execGroupStart req slot value s
  | .groupTimeout slot => Sys2Proof.Machine.execGroupTimeout slot s
  | .echoMismatch lane => Sys2Proof.Machine.execEchoMismatch lane s
  | .laneErrorPassive lane state => Sys2Proof.Machine.execLaneErrorPassive lane state s
  | .copy e opcode body => Sys2Proof.Machine.execCopy e opcode body s
  | .append e body => Sys2Proof.Machine.execAppend e body s
  | .check e body => Sys2Proof.Machine.execCheck e body s
  | .streamEntryDone unit => Sys2Proof.Machine.execStreamEntryDone unit s
  | .streamPreset req unit value => Sys2Proof.Machine.execStreamPreset req unit value s

end Sys2Proof.Machine
end

