-- ==== Sys2Proof/Machine/Step.lean ====
section
/-! DEFINITION. One step: the command at the front of the queue, or one tick of device time (R38) when none waits. -/
namespace Sys2Proof.Machine

/-- What a step does with no command waiting: one period of the 250 MHz device-time clock passes (R37, R38; log entry 1). The slewing of
the members' counters follows from it (R39). -/
def State.tick (s : State) : State :=
  { s with clock := s.clock + 4, now := if s.timeRuns then s.now + 4 else s.now }

/-- One step of the block. -/
def step (s : State) : Host.Outcome State Fault Refusal :=
  match s.pending with
  | [] => .next s.tick
  | c :: rest => exec c { s with pending := rest }

/-- The state with the command a word spells put at the front of its queue; the state itself where the word spells none. -/
def State.withFetchWord (s : State) (nbits w : Nat) : State :=
  match decodeTableWord nbits w with
  | none => s
  | some c => { s with pending := c :: s.pending }

end Sys2Proof.Machine
end

