-- ==== Sys2Proof/WellFormed.lean ====
section
/-! DEFINITION. Well-formed commands: every number a command carries fits the field or names a resource of the largest part. -/
namespace Sys2Proof

/-- An instance, a tag, an INDIRECT address and length, a die (R167, R169). -/
def Requester.wf : Requester → Bool
  | .mailbox inst tag indirect => decide (inst < 32 ∧ tag < 2 ^ 16) && (indirect.map (fun p => decide (p.1 < 2 ^ 64 ∧ p.2 < 2 ^ 32))).getD true
  | .mcan => true
  | .core die _ => decide (die < 8)
  | .tunnel tag => decide (tag < 2 ^ 16)

/-- Fields of R168. -/
def GroupWrite.wf (e : GroupWrite) : Bool := decide (e.idx < 2 ^ 16 ∧ e.sub < 256 ∧ e.data.length < 2 ^ 16)
/-- Fields of R168. -/
def GroupRead.wf (e : GroupRead) : Bool := decide (e.idx < 2 ^ 16 ∧ e.sub < 256)

/-- A request whose indices and subs fit their fields (R167). -/
def DirRequest.wf : DirRequest → Bool
  | .read idx sub _ => decide (idx < 2 ^ 16 ∧ sub < 256)
  | .write idx sub _ => decide (idx < 2 ^ 16 ∧ sub < 256)
  | .describe idx sub => decide (idx < 2 ^ 16 ∧ sub < 256)
  | .readGroup es => es.all GroupRead.wf
  | .writeGroup es => es.all GroupWrite.wf
  | .malformed service refusal => decide (service < 256 ∧ refusal < 2 ^ 16)

/-- Fields of R200. -/
def Entry.wf (e : Entry) : Bool := decide (e.inst < 32 ∧ e.q < 16 ∧ e.flags < 2 ^ 16 ∧ e.tag < 2 ^ 32)

/-- A core's rail names its die (R62). -/
def Rail.wf : Rail → Bool
  | .core die => decide (die < 8)
  | _ => true

/-- Dies of a link and a state code of R43. -/
def LinkReport.wf (l : LinkReport) : Bool := decide (l.a < 8 ∧ l.b < 8 ∧ l.state < 4)

/-- Failed checks are a mask of the codes of R676. -/
def SlotResult.wf (r : SlotResult) : Bool := decide (r.failed < 2 ^ 16)

/-- A granule of the 40-bit address space (R31, R246); a class and a block of R260. -/
def ControlBlock.wf : ControlBlock → Bool
  | .permission g => decide (g < 2 ^ 28)
  | .claimTable => true
  | .crypto => true
  | .fuses => true
  | .debugUnlock => true
  | .keypadRouting => true
  | .power cls resource => decide (1 ≤ cls ∧ cls ≤ 8 ∧ resource < 512)
  | .other => true

/-- A register is 32 bits wide, at an offset of its window (R87, R197). -/
def RegTarget.wf : RegTarget → Bool
  | .page inst offset value => decide (inst < 32 ∧ offset < 2 ^ 16 ∧ value < 2 ^ 32)
  | .boot offset value => decide (offset < 2 ^ 16 ∧ value < 2 ^ 32)
  | .config inst _ _ => decide (inst < 32)
  | .pci inst _ value => decide (inst < 32 ∧ value < 2 ^ 64)
  | .entry req idx sub _ => req.wf && decide (idx < 2 ^ 16 ∧ sub < 256)
  | .store core address value => decide (core < 32 ∧ address < 2 ^ 40 ∧ address % 4 = 0 ∧ value < 2 ^ 32)
  | .block core die b value => decide (core < 32 ∧ die < 8 ∧ value < 2 ^ 32) && b.wf
  | .load core address => decide (core < 32 ∧ address < 2 ^ 40 ∧ address % 4 = 0)
  | .blockRead core die b => decide (core < 32 ∧ die < 8) && b.wf

/-- A head, a region of the head, keys (R258). -/
def KeypadRequest.wf (k : KeypadRequest) : Bool := decide (k.applet < 2 ^ 16 ∧ k.head < 16 ∧ k.region < 8) && k.keys.all (fun n => decide (n < 512))

/-- An attachment of R430. -/
def TileData.wf (t : TileData) : Bool := decide (t.attachment < 5)
/-- An electrode of a die (R459). -/
def BurstReading.wf (b : BurstReading) : Bool := decide (b.electrode < 16)
/-- An identifier of 11 bits (R570). -/
def LaneFrame.wf (f : LaneFrame) : Bool := decide (f.identifier < 2048)
/-- Fields of R583. -/
def LaneEntry.wf (e : LaneEntry) : Bool := decide (e.partner < 2 ^ 16 ∧ e.object < 256 ∧ e.length < 2 ^ 16 ∧ e.laneFlags < 2 ^ 16 ∧ e.resultAddr < 2 ^ 64)
/-- Fields of R600. -/
def StreamEntry.wf (e : StreamEntry) : Bool := decide (e.src < 2 ^ 64 ∧ e.dst < 2 ^ 64 ∧ e.length < 2 ^ 32 ∧ e.streamFlags < 2 ^ 16)

/-- A well-formed command. -/
def Instr.wf : Instr → Bool
  | .powerOnResetRelease => true
  | .strapSampling _ _ mgmtId => decide (mgmtId < 16)
  | .resetNAssert => true
  | .resetNRelease => true
  | .railLoss rail => rail.wf
  | .aonPowerLoss => true
  | .switchedRailsValid => true
  | .railValidTimeout => true
  | .perstNAssert => true
  | .perstNRelease => true
  | .poweredComplete _ _ _ => true
  | .memorySpaceEnable _ => true
  | .mcanServerStarted _ => true
  | .apertureWrite offset _ => decide (offset < 2 ^ 32)
  | .start _ _ => true
  | .restart => true
  | .bootRegionCleared _ => true
  | .authenticationDone links _ => links.all LinkReport.wf
  | .memberCoreReady die => decide (die < 8)
  | .coreReadyTimeout die => decide (die < 8)
  | .distributionDone _ => true
  | .bootSlotDone die r _ => decide (die < 8) && r.wf
  | .memoryTrainingDone failedStacks _ => failedStacks.all (fun d => decide (d < 8))
  | .ringApplyDone _ _ => true
  | .recoveryImageWrite _ => true
  | .recoveryRingWrite _ => true
  | .recoveryStart value => decide (value < 2 ^ 64)
  | .recoverySegmentTimeout session => decide (session < 2 ^ 32)
  | .deviceReset req value => req.wf && decide (value < 2 ^ 64)
  | .svAdvance req value => req.wf && decide (value < 2 ^ 64)
  | .revokeKey req slot => req.wf && decide (slot < 256)
  | .linkDownDeclared a b => decide (a < 8) && decide (b < 8)
  | .timeBeacon errors => errors.all (fun e => decide (e.1 < 8))
  | .ptmExchange master midpoint => decide (master < 2 ^ 64) && decide (midpoint < 2 ^ 64)
  | .read req idx sub _ => req.wf && decide (idx < 2 ^ 16) && decide (sub < 256)
  | .write req idx sub _ => req.wf && decide (idx < 2 ^ 16) && decide (sub < 256)
  | .describe req idx sub => req.wf && decide (idx < 2 ^ 16) && decide (sub < 256)
  | .readGroup req entries => req.wf && entries.all GroupRead.wf
  | .readGroupCapture => true
  | .writeGroup req entries => req.wf && entries.all GroupWrite.wf
  | .prepareAnswer die => decide (die < 8)
  | .prepareTimeout die => decide (die < 8)
  | .groupApply => true
  | .transportTimeout req request => req.wf && request.wf
  | .nmtStart node => decide (node < 256)
  | .nmtStop node => decide (node < 256)
  | .nmtResetNode node => decide (node < 256)
  | .nmtResetCommunication node => decide (node < 256)
  | .usdoExpeditedUpload idx sub => decide (idx < 2 ^ 16) && decide (sub < 256)
  | .usdoExpeditedDownload idx sub _ => decide (idx < 2 ^ 16) && decide (sub < 256)
  | .usdoSegmentedUpload session idx sub => decide (session < 2 ^ 32) && decide (idx < 2 ^ 16) && decide (sub < 256)
  | .usdoSegmentedDownload session idx sub => decide (session < 2 ^ 32) && decide (idx < 2 ^ 16) && decide (sub < 256)
  | .usdoSegment session _ _ => decide (session < 2 ^ 32)
  | .usdoBlockTransfer idx sub => decide (idx < 2 ^ 16) && decide (sub < 256)
  | .usdoTimeout session => decide (session < 2 ^ 32)
  | .tunnelRequest _ => true
  | .heartbeat => true
  | .mcanBusOffRecovery => true
  | .mcanErrorPassive state => decide (state ≤ 2)
  | .emcySend => true
  | .svcRepeat => true
  | .wakeFrame identifier _ _ ide _ => decide (identifier < if ide then 536870912 else 2048)
  | .ringCommit req timeout => req.wf && decide (timeout < 2 ^ 16)
  | .ringPrepareDone => true
  | .ringPrepareTimeout die => decide (die < 8)
  | .ringApplied => true
  | .ringConfirm req versionArg => req.wf && decide (versionArg < 2 ^ 32)
  | .confirmDeadlineExpiry => true
  | .ringReturn req value => req.wf && decide (value < 2 ^ 64)
  | .returnApplied => true
  | .draftReset req value => req.wf && decide (value < 2 ^ 64)
  | .draftImage req _ => req.wf
  | .registerWrite target => target.wf
  | .vfEnableSet numVfs => decide (numVfs < 2 ^ 16)
  | .vfDisable numVfs => decide (numVfs < 2 ^ 16)
  | .flr inst => decide (inst < 32)
  | .instanceReset req inst value => req.wf && decide (inst < 32) && decide (value < 2 ^ 64)
  | .instanceFault inst _ => decide (inst < 32)
  | .quiesceDone inst => decide (inst < 32)
  | .sqTail inst q tail => decide (inst < 32) && decide (q < 16) && decide (tail < 2 ^ 32)
  | .sqEnable inst q _ => decide (inst < 32) && decide (q < 16)
  | .sqDisable inst q => decide (inst < 32) && decide (q < 16)
  | .evqEnable inst _ => decide (inst < 32)
  | .evqDisable inst => decide (inst < 32)
  | .evqModerationExpiry inst => decide (inst < 32)
  | .timeLoRead inst => decide (inst < 32)
  | .bar2Access inst offset _ length => decide (inst < 32) && decide (offset < 2 ^ 32) && decide (length < 2 ^ 32)
  | .assignmentWrite req entries => req.wf && entries.all GroupWrite.wf
  | .assignmentTakenUp inst => decide (inst < 32)
  | .freeze req => req.wf
  | .drainLimit => true
  | .freezeDone => true
  | .thaw req => req.wf
  | .save req => req.wf
  | .saveDone _ => true
  | .restore req _ _ => req.wf
  | .restoreApplyDone => true
  | .malformedTlp inst => decide (inst < 32)
  | .unexpectedCompletion inst => decide (inst < 32)
  | .wcall core _ _ word => decide (core < 32 ∧ word < 2 ^ 32 ∧ word % 128 = 0xB)
  | .wret core _ => decide (core < 32)
  | .resume core _ => decide (core < 32)
  | .version core => decide (core < 32)
  | .appletCall core _ _ => decide (core < 32)
  | .wcallBudgetExpiry core => decide (core < 32)
  | .appletFault core applet => decide (core < 32) && decide (applet < 2 ^ 16)
  | .monitorHalt core => decide (core < 32)
  | .appletKeyBurn req _ => req.wf
  | .appletKeyRevoke req slot => req.wf && decide (slot < 256)
  | .appletLoad req _ => req.wf
  | .secureEntryStart k => k.wf
  | .secureEntryEnd => true
  | .secureEntryLimit => true
  | .secureClaim applet cls resource => decide (applet < 2 ^ 16) && decide (cls < 16) && decide (resource < 2 ^ 16)
  | .claimRelease applet cls resource => decide (applet < 2 ^ 16) && decide (cls < 16) && decide (resource < 2 ^ 16)
  | .debugChallenge req => (req.map Requester.wf).getD true
  | .debugResponse req _ => req.wf
  | .debugRelock req value => req.wf && decide (value < 2 ^ 64)
  | .idcode _ => true
  | .samplePreload _ _ => true
  | .extest _ => true
  | .dtmcs => true
  | .dmi address dataArg op => decide (address < 2 ^ 32) && decide (dataArg < 2 ^ 32) && decide (op < 4)
  | .unlock _ => true
  | .bypass code => decide (code < 256)
  | .powerSleep req => req.wf
  | .powerDeepSleep req => req.wf
  | .powerOff req => req.wf
  | .powerRun req => req.wf
  | .handshakeAnswers _ _ _ => true
  | .handshakeDelayExpiry => true
  | .entryComplete => true
  | .deepAfterExpiry => true
  | .offNoticeExpiry => true
  | .wakeN _ _ => true
  | .exitComplete => true
  | .dieIdleEntry die _ => decide (die < 8)
  | .dieIdleExit die => decide (die < 8)
  | .domainSleepTimer die _ => decide (die < 8)
  | .biasMonitor die _ => decide (die < 8)
  | .vrAck die status => decide (die < 8) && decide (status < 2 ^ 16)
  | .vrTimeout die => decide (die < 8)
  | .vrAlert statuses => statuses.all (fun e => decide (e.1 < 8))
  | .clockStretchTimeout die => decide (die < 8)
  | .grantRound _ _ _ => true
  | .projectionCheck _ => true
  | .peakCurrentCheck die _ => decide (die < 8)
  | .boardWaitExpiry channel => decide (channel < 16)
  | .railSample die rail mv => decide (die < 8) && decide (rail < 16) && decide (mv < 2 ^ 16)
  | .tempSample die sensor _ => decide (die < 8) && decide (sensor < 16)
  | .railPersistence die rail => decide (die < 8) && decide (rail < 16)
  | .tempPersistence die sensor => decide (die < 8) && decide (sensor < 16)
  | .piezoRequest req channel value => req.wf && decide (channel < 16) && decide (value < 2 ^ 64)
  | .piezoInterval channel => decide (channel < 16)
  | .piezoMeasurement channel nf => decide (channel < 16) && decide (nf < 2 ^ 32)
  | .speakerRequest req output value => req.wf && decide (output < 64) && decide (value < 2 ^ 64)
  | .speakerInterval output => decide (output < 64)
  | .speakerBlock output _ _ => decide (output < 64)
  | .laneSurveySecond lane _ _ _ => decide (lane < 64)
  | .dramTrack die _ _ => decide (die < 8)
  | .selftestRun req die => req.wf && decide (die < 256)
  | .fieldSlotDone r => r.wf
  | .deferLimitExpiry => true
  | .coreHeartbeat die => decide (die < 8)
  | .heartbeatTimeout die => decide (die < 8)
  | .ackTimeout die => decide (die < 8)
  | .lendingServed die => decide (die < 8)
  | .successionDone => true
  | .hpdRising head => decide (head < 16)
  | .irqHpd head _ => decide (head < 16)
  | .hpdUnplug head => decide (head < 16)
  | .debounceExpiry head => decide (head < 16)
  | .cableMeasured head cm => decide (head < 16) && decide (cm < 2 ^ 16)
  | .capsReadDone head _ n => decide (head < 16 ∧ n ≤ 2)
  | .trainingAttemptDone head _ => decide (head < 16)
  | .retrain req head value => req.wf && decide (head < 16) && decide (value < 2 ^ 64)
  | .lineStart head => decide (head < 16)
  | .readySampled head _ => decide (head < 16)
  | .commit e opcode blockLength commitFlags _ _ blockAddr => e.wf && decide (opcode < 2 ^ 16) && decide (blockAddr < 2 ^ 64) && decide (blockLength < 2 ^ 32) && decide (commitFlags < 2 ^ 16)
  | .commitArrival head inst => decide (head < 16) && decide (inst < 32)
  | .underrun head column => decide (head < 16) && decide (column < 2 ^ 16)
  | .bandBegin head => decide (head < 16)
  | .bandComplete head band => decide (head < 16) && decide (band < 2 ^ 16)
  | .spriteStateWrite req sprite value => req.wf && decide (sprite < 128) && decide (value < 2 ^ 64)
  | .spriteOperation die _ => decide (die < 8)
  | .canopyMembersWrite req head members => req.wf && decide (head < 16) && decide (members < 2 ^ 32)
  | .regionUpdate req applet region value => req.wf && (applet.map (fun x => decide (x < 2 ^ 16))).getD true && decide (region < 128) && decide (value < 2 ^ 64)
  | .updateArrival region => decide (region < 128)
  | .assetsWrite req _ => req.wf
  | .guardSignature region => decide (region < 128)
  | .guardLate region => decide (region < 128)
  | .job e opcode addr length splitMask _ => e.wf && decide (opcode < 2 ^ 16) && decide (addr < 2 ^ 64) && decide (length < 2 ^ 32) && decide (splitMask < 256)
  | .signal e addr value _ => e.wf && decide (addr < 2 ^ 64) && decide (value < 2 ^ 64)
  | .wait e addr value timeoutUs _ => e.wf && decide (addr < 2 ^ 64) && decide (value < 2 ^ 64) && decide (timeoutUs < 2 ^ 32)
  | .waitSatisfied context => decide (context < 136)
  | .waitTimeout context => decide (context < 136)
  | .passBegin context => decide (context < 136)
  | .bindPipeline context => decide (context < 136)
  | .bindTable context => decide (context < 136)
  | .viewport context => decide (context < 136)
  | .scissor context => decide (context < 136)
  | .draw context => decide (context < 136)
  | .drawIndexed context => decide (context < 136)
  | .drawIndirect context => decide (context < 136)
  | .tileListOverflow context die flushed tiles => decide (context < 136) && decide (die < 8) && flushed.all TileData.wf && tiles.all (fun n => decide (n ≤ 65536))
  | .passDone context rendered binned => decide (context < 136) && rendered.all TileData.wf && binned.all (fun l => l.all (fun n => decide (n ≤ 65536)))
  | .jobDone context => decide (context < 136)
  | .preemption die => decide (die < 8)
  | .midshaderPreemption die => decide (die < 8)
  | .schedPeriod die => decide (die < 8)
  | .jobTimeLimit context die => decide (context < 136) && decide (die < 8)
  | .scanCycle die => decide (die < 8)
  | .selfFrameDone die bursts => decide (die < 8) && bursts.all BurstReading.wf
  | .mutualPhaseDone die bursts => decide (die < 8) && bursts.all BurstReading.wf
  | .recapture req die value => req.wf && decide (die < 8) && decide (value < 2 ^ 64)
  | .wakeScan die _ _ => decide (die < 8)
  | .play e opcode effect scale startTime _ => e.wf && decide (opcode < 2 ^ 16) && decide (effect < 2 ^ 16) && decide (scale < 2 ^ 16) && decide (startTime < 2 ^ 64)
  | .stop e _ => e.wf
  | .playStartTime channel => decide (channel < 16)
  | .htrigEdge pin _ => decide (pin < 16)
  | .reflexTrigger channel => decide (channel < 16)
  | .ampReadyExpiry channel => decide (channel < 16)
  | .segmentEnd channel => decide (channel < 16)
  | .senseFrame bus _ => decide (bus < 8)
  | .brakeTimeout channel => decide (channel < 16)
  | .resonanceTrack channel _ => decide (channel < 16)
  | .ampFault channel => decide (channel < 16)
  | .engineLost channel => decide (channel < 16)
  | .onTimeLimit channel => decide (channel < 16)
  | .energyBlock channel => decide (channel < 16)
  | .hapticClear req channel value => req.wf && decide (channel < 16) && decide (value < 2 ^ 64)
  | .toneRequest gen => decide (gen < 8)
  | .toneStart req gen value => req.wf && decide (gen < 8) && decide (value < 2 ^ 64)
  | .samplePeriod received => received.all (fun e => decide (e.1 < 64))
  | .safeLoad req row time => req.wf && decide (row < 128) && decide (time < 2 ^ 64)
  | .mclkLost => true
  | .mclkRestored => true
  | .tdmSlip port _ => decide (port < 8)
  | .tdmNoClock port => decide (port < 8)
  | .tdmClockRestored port => decide (port < 8)
  | .buffer e opcode addr length format bufFlags startTime _ _ => e.wf && decide (opcode < 2 ^ 16) && decide (addr < 2 ^ 64) && decide (length < 2 ^ 32) && decide (format < 2 ^ 16) && decide (bufFlags < 2 ^ 16) && decide (startTime < 2 ^ 64)
  | .audioStop e _ => e.wf
  | .silenceHoldExpiry node => decide (node < 192)
  | .laneSchedule lane => decide (lane < 64)
  | .descriptor lane frame => decide (lane < 64) && frame.wf
  | .response lane frame => decide (lane < 64) && frame.wf
  | .ack lane frame => decide (lane < 64) && frame.wf
  | .data lane frame => decide (lane < 64) && frame.wf
  | .event lane frame => decide (lane < 64) && frame.wf
  | .nak lane frame => decide (lane < 64) && frame.wf
  | .responseTimeout lane => decide (lane < 64)
  | .recoveryExpiry partner => decide (partner < 2048)
  | .laneBusOffRecovery lane => decide (lane < 64)
  | .laneCommand e opcode body => e.wf && decide (opcode < 2 ^ 16) && body.wf
  | .laneRead e body => e.wf && body.wf
  | .groupStart req slot value => req.wf && decide (slot < 16) && decide (value < 2 ^ 64)
  | .groupTimeout slot => decide (slot < 16)
  | .echoMismatch lane => decide (lane < 64)
  | .laneErrorPassive lane state => decide (lane < 64) && decide (state < 4)
  | .copy e opcode body => e.wf && decide (opcode < 2 ^ 16) && body.wf
  | .append e body => e.wf && body.wf
  | .check e body => e.wf && body.wf
  | .streamEntryDone unit => decide (unit < 16)
  | .streamPreset req unit value => req.wf && decide (unit < 16) && decide (value < 2 ^ 64)

end Sys2Proof
end

