-- ==== Sys2Proof/Safety.lean ====
section
/-! DEFINITION. What a safe run is, and the frames that claims use. A step is safe when it answers a next state, keeps both
memories in canonical form (log entry 7) and burns no fuse back (R96, R108, R255, R264). -/
namespace Sys2Proof.Machine

/-- Both memories are in canonical form. -/
def State.memoryOk (s : State) : Bool := Memory.wf s.mem && Memory.wf s.imem

/-- Fuses are one-way: a count never falls, a revoked key, a spent or revoked applet slot never comes back, the debug enables and key
stay as they are, and a fused applet hash is not changed (R96, R108, R255). -/
def Fuses.kept (a b : Fuses) : Prop :=
  a.securityCount ≤ b.securityCount ∧ (∀ n, bit a.keysRevoked n = true → bit b.keysRevoked n = true) ∧
  (∀ n, bit a.appletState n = true → bit b.appletState n = true) ∧ a.debugEnables = b.debugEnables ∧ a.debugKey = b.debugKey

/-- A safe step from a state. -/
def safeStep (s : State) : Prop := ∃ t, step s = .next t ∧ (s.memoryOk = true → t.memoryOk = true) ∧ s.fuses.kept t.fuses

/-- Every byte of the device's memory and of the instances' memory reads as before. -/
def SameMemory (s t : State) : Prop :=
  (∀ a, Memory.read t.mem a = Memory.read s.mem a) ∧ ∀ a, Memory.read t.imem a = Memory.read s.imem a

/-- Every byte outside n bytes at address a of the device's memory, and all of the instances' memory, reads as before. -/
def SameMemoryBut (s t : State) (a n : Nat) : Prop :=
  (∀ b, (b < a ∨ a + n ≤ b) → Memory.read t.mem b = Memory.read s.mem b) ∧ ∀ b, Memory.read t.imem b = Memory.read s.imem b

/-- Every live entry but those at the listed keys reads as before. -/
def SameLiveBut (s t : State) (keys : List Nat) : Prop := ∀ i sub, entryKey i sub ∉ keys → t.liveAt i sub = s.liveAt i sub

/-- The rings, active, draft and previous, are as before. -/
def SameRings (s t : State) : Prop := t.active = s.active ∧ t.draft = s.draft ∧ t.previous = s.previous

/-- A WRITE is admitted: its transport is open and takes it (R157, R166), no succession or reservation holds it (R134, R142), it passes checks 1
to 6 of R123, and the entry's resource is in service (check 7). -/
def State.admits (s : State) (req : Requester) (idx sub : Nat) (data : List Byte) : Bool :=
  let t := s.takeRequest req (.write idx sub data)
  s.transportOpen req && t.1 && !s.health.succession && (s.operational || decide (0x2100 ≤ idx ∧ idx ≤ 0x2106)) &&
  decide (s.writeStatus req idx sub data = Status.ok) && !s.entryReserved idx sub &&
  decide ((t.2.demandWake (s.dieOf idx)).serviceStatus idx = Status.ok)

/-- The state in which an admitted WRITE has its effect: its mailbox holds it, and the entry's die is awake. -/
def State.admitted (s : State) (req : Requester) (idx sub : Nat) (data : List Byte) : State :=
  (s.takeRequest req (.write idx sub data)).2.demandWake (s.dieOf idx)

/-- Bytes moved by DMA for a WRITE of n bytes (R169). -/
def movedBytes (req : Requester) (status n : Nat) : Nat :=
  match req with
  | .mailbox _ _ (some _) => if accepted status then n else 0
  | _ => 0

/-- An admitted WRITE ends: it is answered with its status, and requests that waited are served. -/
def State.concluded (s : State) (req : Requester) (idx sub : Nat) (data : List Byte) (status : Nat) : State :=
  (s.answer req 2 status 0 [] idx sub (movedBytes req status data.length)).settleRequests

/-- A WRITE comes to the check of its value (check 6 of R123): its transport is open and takes it, no succession holds it, its entry exists, and
its world and its rights pass. -/
def State.reaches (s : State) (req : Requester) (idx sub : Nat) (data : List Byte) : Bool :=
  s.transportOpen req && (s.takeRequest req (.write idx sub data)).1 && !s.health.succession &&
  (s.operational || decide (0x2100 ≤ idx ∧ idx ≤ 0x2106)) &&
  match lookup s.part idx sub with
  | none => false
  | some f => worldOk req f.row' true && s.rightsOk req f true .active

/-- A WRITE whose value is outside its entry's range ends with RANGE, changes nothing but the domains that the request wakes (R143), and requests
that waited are served (R123). -/
def State.turnedAway (s : State) (req : Requester) (idx sub : Nat) (data : List Byte) : State :=
  ((s.admitted req idx sub data).answer req 2 Status.range 0 [] idx sub 0).settleRequests

end Sys2Proof.Machine
end

