-- ==== Sys2Proof/Certificates/Slice0/Obligations.lean ====
section
/-! DEFINITION. The statements for the provers. Each docstring cites the rules of spec/ it formalises; where a clause rests on a choice of
the model, it names the log entry. -/
open Sys2Proof Sys2Proof.Machine

/-- The queue of commands: a step takes the command at the front and runs it on the state with the queue's rest. -/
def Obligations.StepRunsFrontCommand : Prop :=
  ∀ (c : Instr) (s : State) (rest : List Instr), step { s with pending := c :: rest } = exec c { s with pending := rest }

/-- With no command waiting one period of the 250 MHz device-time clock passes (log entry 1): device time gains 4 ns while it runs, and no other
field of the state changes. -/
def Obligations.IdleStepIsOneTick : Prop :=
  ∀ s : State, s.pending = [] →
    (s.timeRuns = true → step s = .next { s with now := s.now + 4, clock := s.clock + 4 }) ∧
    (s.timeRuns = false → step s = .next { s with clock := s.clock + 4 })

/-- The internal power-on reset's release, RESET_N's release, PERST_N's release and strap sampling (R57, R59, R66, R71, R38), each with its whole next
state. A RESET_N that has not been low since the entry into POWERED counts as released where the power-on reset, or strap sampling, finds it
high; PERST_N's release never counts as earlier than 1 ms after it. Each command repeated, or given outside its conditions, changes nothing. -/
def Obligations.ResetPinsAndStraps : Prop :=
  (∀ s : State, s.boot.porReleased = false → s.powerState ≠ 4 →
    exec .powerOnResetRelease s = .next { s with
      boot := { s.boot with
        porReleased := true
        resetRelease := if s.boot.resetHigh = true ∧ s.boot.resetDriven = false then s.clock else s.boot.resetRelease
        perstOrigin := if s.boot.perstHigh = true ∧ s.boot.resetHigh = true
          then max s.boot.perstOrigin ((if s.boot.resetDriven = false then s.clock else s.boot.resetRelease) + ms 1) else s.boot.perstOrigin }
      pins := { s.pins with mcanStby := !s.boot.resetHigh } }) ∧
  (∀ s : State, s.boot.porReleased = true ∨ s.powerState = 4 → exec .powerOnResetRelease s = .next s) ∧
  (∀ s : State, s.boot.resetHigh = false →
    exec .resetNRelease s = .next { s with
      boot := { s.boot with
        resetHigh := true, resetRelease := s.clock
        perstOrigin := if s.boot.perstHigh then max s.boot.perstOrigin (s.clock + ms 1) else s.boot.perstOrigin }
      pins := { s.pins with mcanStby := !s.boot.porReleased } }) ∧
  (∀ s : State, s.boot.resetHigh = true → exec .resetNRelease s = .next s) ∧
  (∀ s : State, s.boot.perstHigh = false →
    exec .perstNRelease s = .next { s with boot := { s.boot with
      perstHigh := true
      perstOrigin := if s.boot.resetHigh then max s.clock (s.boot.resetRelease + ms 1) else s.boot.perstOrigin } }) ∧
  (∀ s : State, s.boot.perstHigh = true → exec .perstNRelease s = .next s) ∧
  (∀ (src vr : Bool) (id : Nat) (s : State), s.boot.porReleased = true → s.boot.resetHigh = true → s.boot.strapsSampled = false →
    s.powerState ≠ 4 → s.bootState = 0 → s.power.railsWait = none →
    exec (.strapSampling src vr id) s = .next (
      let released := if s.boot.resetDriven then s.boot.resetRelease else s.clock
      let s1 : State := { s with
        boot := { s.boot with
          strapsSampled := true, origin := s.clock, resetRelease := released
          perstOrigin := if s.boot.perstHigh then max s.boot.perstOrigin (released + ms 1) else s.boot.perstOrigin }
        pins := { s.pins with svcReqLow := false, mcanStby := false }
        now := 0, timeRuns := true }
      ((((s1.setReg 0x2002 1 (ofBool src)).setReg 0x2002 2 (ofBool vr)).setReg 0x2002 3 (id % 16)).setReg 0x2100 3 (ofBool src)).setReg 0x2700 5 0)) ∧
  (∀ (src vr : Bool) (id : Nat) (s : State),
    s.boot.porReleased = false ∨ s.boot.resetHigh = false ∨ s.boot.strapsSampled = true ∨ s.powerState = 4 ∨ s.bootState ≠ 0 ∨ s.power.railsWait ≠ none →
    exec (.strapSampling src vr id) s = .next s)

/-- An entry into POWERED by which everything outside the always-on domain is lost (R67, R69, R71, R80, R106, R112). The boot state is POWERED with
the cause given, both memories read 0 everywhere, every entry of the directory reads its default but the cause, SVC_REQ_N's and the tainted
flag, the rings and the state of every block are those after reset, and device time stops at 0; both power enables are high, switched rails
that were off are waited for for 50 ms and a wait that runs goes on, MCAN_STB is high while RESET_N is low and low otherwise. The queue, the
physical clock, the part, the fuses, what was sent and the levels of RESET_N and PERST_N stay. -/
def Obligations.EntryIntoPowered : Prop :=
  ∀ (s t : State) (cause : Nat) (svc : Bool), t = s.powered cause svc →
    t.bootState = 0 ∧ t.reg 0x2100 4 = cause ∧ t.reg 0x2700 5 = ofBool (s.pins.svcReqLow || svc) ∧ t.liveAt 0x2301 3 = s.liveAt 0x2301 3 ∧
    (∀ i sub, entryKey i sub ∉ [0x210004, 0x270005, 0x230103] → t.liveAt i sub = defaultAt s.part s.grade i sub) ∧
    t.active = [] ∧ t.draft = [] ∧ t.previous = none ∧ t.now = 0 ∧ t.timeRuns = false ∧
    (∀ a, Memory.read t.mem a = 0 ∧ Memory.read t.imem a = 0) ∧
    t.pins = { s.pins with pwrenMain := true, pwrenMem := true, mcanStby := !s.boot.resetHigh, clkreqLow := false, pcieIdle := true,
                           tdoDriven := false, gpio := [], gpioKept := [], svcReqLow := s.pins.svcReqLow || svc } ∧
    t.boot = { porReleased := s.boot.porReleased, perstHigh := s.boot.perstHigh, perstOrigin := s.boot.perstOrigin, resetHigh := s.boot.resetHigh,
               resetRelease := s.boot.resetRelease, origin := s.boot.origin, clearing := true, resetDriven := !s.boot.resetHigh } ∧
    t.power = { wakeLow := s.power.wakeLow, zeroised := true
                railsWait := if s.power.railsWait ≠ none then s.power.railsWait.map (· - s.now) else if s.pins.pwrenMain then none else some (ms 50) } ∧
    t.insts = [] ∧ t.vfEnable = false ∧ t.worlds = {} ∧ t.health = {} ∧ t.mcan = {} ∧ t.fabric = {} ∧ t.heads = [] ∧ t.keys = {} ∧ t.haptics = [] ∧
    t.audio = {} ∧ t.lanes = {} ∧ t.streams = [] ∧ t.gfx = {} ∧ t.regions = [] ∧ t.survey = {} ∧ t.sapflow = {} ∧
    t.fuses = s.fuses ∧ t.clock = s.clock ∧ t.out = s.out ∧ t.part = s.part ∧ t.grade = s.grade ∧ t.pending = s.pending

/-- Which event enters POWERED, and with which cause (R67, R69, R80, R106, R618). RESET_N low does in any state, with cause 3; the loss of a rail
outside the always-on domain does in RUN, IDLE and SLEEP, and in DEEP_SLEEP that of VDD_SRAM, VDD1_LP, VDD2H_LP or VDDQ_LP, with cause 1 and
SVC_REQ_N low; the other losses change nothing: any in OFF, any other in DEEP_SLEEP, any before the power-on reset's release, and the
always-on rails, which AON_POWER_LOSS reports. Switched rails found valid enter POWERED with cause 2 in an exit from OFF, and end the wait in
any other; with no wait running they change nothing. A loss of the always-on supply gives the state after reset but for the queue, the
physical clock, the part, the count of free values, the fuses, what was sent, and the levels of WAKE_N, PERST_N and RESET_N. -/
def Obligations.WhatEntersPowered : Prop :=
  (∀ s : State, ∃ t : State, exec .resetNAssert s = .next t ∧ t = State.powered { s with boot := { s.boot with resetHigh := false } } 3 false ∧
    t.bootState = 0 ∧ t.reg 0x2100 4 = 3 ∧ t.boot.resetHigh = false ∧ t.pins.mcanStby = true ∧ t.pins.svcReqLow = s.pins.svcReqLow) ∧
  (∀ (r : Rail) (s : State), r ≠ .aon → r ≠ .io18 → s.boot.porReleased = true → s.powerState ≠ 4 →
    s.powerState ≠ 3 ∨ r = .sram ∨ r = .vdd1 ∨ r = .vdd2h ∨ r = .vddq →
    ∃ t : State, exec (.railLoss r) s = .next t ∧ t = s.powered 1 true ∧ t.bootState = 0 ∧ t.reg 0x2100 4 = 1 ∧ t.pins.svcReqLow = true ∧
      t.reg 0x2700 5 = 1 ∧ t.pins.pwrenMain = true ∧ t.pins.pwrenMem = true) ∧
  (∀ (r : Rail) (s : State), r = .aon ∨ r = .io18 ∨ s.boot.porReleased = false ∨ s.powerState = 4 ∨
    (s.powerState = 3 ∧ r ≠ .sram ∧ r ≠ .vdd1 ∧ r ≠ .vdd2h ∧ r ≠ .vddq) → exec (.railLoss r) s = .next s) ∧
  (∀ s : State, exec .aonPowerLoss s = .next { State.reset with
    pending := s.pending, clock := s.clock, part := s.part, grade := s.grade, free := s.free, fuses := s.fuses, out := s.out
    power := { State.reset.power with wakeLow := s.power.wakeLow }
    boot := { State.reset.boot with perstHigh := s.boot.perstHigh, resetHigh := s.boot.resetHigh, resetDriven := !s.boot.resetHigh } }) ∧
  (∀ (s : State) (w : Nat), s.power.railsWait = some w → s.power.exitFrom = 4 →
    ∃ t : State, exec .switchedRailsValid s = .next t ∧ t = State.powered { s with power := { s.power with railsWait := none } } 2 false ∧
      t.bootState = 0 ∧ t.reg 0x2100 4 = 2 ∧ t.pins.pwrenMain = true ∧ t.pins.pwrenMem = true) ∧
  (∀ (s : State) (w : Nat), s.power.railsWait = some w → s.power.exitFrom ≠ 4 →
    exec .switchedRailsValid s = .next { s with power := { s.power with railsWait := none } }) ∧
  (∀ s : State, s.power.railsWait = none → exec .switchedRailsValid s = .next s)

/-- Switched rails that do not become valid within 50 ms end the exit (R69): the wait's end is the moment of the step, SVC_REQ_N is low, and in an exit
from OFF both power enables are low again, in one from DEEP_SLEEP only PWREN_MAIN, device time stops again and the health cause RAIL is
due at the exit that succeeds. In POWERED the device goes on waiting, 50 ms more (log entry 34). With no wait running nothing changes. -/
def Obligations.SwitchedRailsTimeout : Prop :=
  (∀ (s : State) (w : Nat), s.power.railsWait = some w →
    ∃ t : State, exec .railValidTimeout s = .next t ∧ t.pins.svcReqLow = true ∧ t.reg 0x2700 5 = 1 ∧ t.now = max s.now w ∧
      (s.power.exitFrom = 4 → t.pins.pwrenMain = false ∧ t.pins.pwrenMem = false ∧ t.power.railsWait = none ∧ t.power.exitFrom = 0 ∧
        t.timeRuns = s.timeRuns) ∧
      (s.power.exitFrom = 3 → t.pins.pwrenMain = false ∧ t.pins.pwrenMem = s.pins.pwrenMem ∧ t.power.railsWait = none ∧ t.power.exitFrom = 0 ∧
        t.health.pendingRail = true ∧ t.timeRuns = false) ∧
      (s.power.exitFrom ≠ 3 → s.power.exitFrom ≠ 4 → t.pins.pwrenMain = s.pins.pwrenMain ∧ t.power.railsWait = some (max s.now w + ms 50)) ∧
      SameLiveBut s t [0x270005, 0x240003] ∧ SameMemory s t ∧ SameRings s t ∧ t.fuses = s.fuses ∧ t.boot = s.boot ∧ t.out = s.out) ∧
  (∀ s : State, s.power.railsWait = none → exec .railValidTimeout s = .next s)

/-- PERST_N asserted (R55, R80, R82, R83, R86, R618). Its level is low afterwards. In OFF nothing else changes; elsewhere it enters POWERED with cause 3
when health is FAILED, resets the endpoint when the device is OPERATIONAL (DEEP_SLEEP included, whose always-on bank keeps the input), and
before OPERATIONAL restarts the boot in POWERED with cause 4 where BOOT_SRC is low, keeping device time, the straps and a debug unlock, and
where BOOT_SRC is high closes Memory Space, clears ARI and returns the PF's registers to their reset values; before the straps are sampled
nothing else changes. An endpoint reset closes Memory Space, clears VF Enable and NumVFs and returns every function's configuration space to
its reset values. -/
def Obligations.PerstAssertion : Prop :=
  (∀ s : State, s.powerState = 4 → exec .perstNAssert s = .next { s with boot := { s.boot with perstHigh := false } }) ∧
  (∀ s : State, s.powerState ≠ 4 → s.health.stopped = true →
    ∃ t : State, exec .perstNAssert s = .next t ∧ t = State.powered { s with boot := { s.boot with perstHigh := false } } 3 false ∧
      t.bootState = 0 ∧ t.reg 0x2100 4 = 3 ∧ t.boot.perstHigh = false) ∧
  (∀ s : State, s.powerState ≠ 4 → s.health.stopped = false → s.operational = true →
    exec .perstNAssert s = .next (State.endpointReset { s with boot := { s.boot with perstHigh := false } })) ∧
  (∀ s : State, s.powerState ≠ 4 → s.health.stopped = false → s.operational = false → s.boot.strapsSampled = false →
    exec .perstNAssert s = .next { s with boot := { s.boot with perstHigh := false } }) ∧
  (∀ s : State, s.powerState ≠ 4 → s.health.stopped = false → s.operational = false → s.boot.strapsSampled = true → s.reg 0x2002 1 ≠ 1 →
    ∃ t : State, exec .perstNAssert s = .next t ∧ t = State.perstRestart { s with boot := { s.boot with perstHigh := false } } ∧
      t.bootState = 0 ∧ t.reg 0x2100 4 = 4 ∧ t.boot.perstHigh = false ∧ t.now = s.now ∧ t.fuses = s.fuses ∧ t.reg 0x2002 3 = s.reg 0x2002 3 ∧
      t.boot.strapsSampled = true ∧ t.worlds.unlocked = s.worlds.unlocked) ∧
  (∀ s : State, s.powerState ≠ 4 → s.health.stopped = false → s.operational = false → s.boot.strapsSampled = true → s.reg 0x2002 1 = 1 →
    exec .perstNAssert s = .next (State.modInst { s with ari := false, boot := { s.boot with perstHigh := false, memorySpace := false } } 0
      (fun _ => { msixSize := 256 }))) ∧
  (∀ s : State, s.endpointReset.boot.memorySpace = false ∧ s.endpointReset.ari = false ∧ s.endpointReset.vfEnable = false ∧ s.endpointReset.numVfs = 0 ∧
    ∀ i, (s.endpointReset.inst i).pci = {} ∧ (s.endpointReset.inst i).msixEnabled = false)

/-- The ROM states up to AWAIT_IMAGE (R80, R86, R102). Fuses read and D0's stack at boot rate enter ROM_READY and start the LTSSM, a PCIe boot not
before PERST_N's release as R66 adjusts it; a failure halts with its code and SVC_REQ_N low, the ROM's own with ROM_INTERNAL (0x0F01), and the
link is started there too (log entry 112). BOOT_SRC decides which of Memory Space Enable and the MCAN server opens AWAIT_IMAGE, which the
server does with one boot-up message; elsewhere Memory Space Enable is only set, and nothing before the link has started. -/
def Obligations.RomStates : Prop :=
  (∀ (f d ok : Bool) (s : State), s.bootState = 0 → s.powerState = 0 → s.boot.strapsSampled = true → s.boot.resetHigh = true →
    (s.reg 0x2002 1 = 1 ∨ s.boot.perstHigh = true) →
    ∃ t : State, exec (.poweredComplete f d ok) s = .next t ∧ t.fuses = s.fuses ∧ t.boot.ltssm = true ∧ t.pins.pcieIdle = false ∧
      t.clock = (if s.reg 0x2002 1 = 1 then s.clock else max s.clock s.boot.perstOrigin) ∧
      (f = true → d = true → ok = true → t.bootState = 1 ∧ t.reg 0x2008 2 = 2 ∧ t.reg 0x2008 3 = 2) ∧
      (f = false → t.bootState = 0xFF ∧ t.reg 0x2100 2 = 0x0110 ∧ t.pins.svcReqLow = true) ∧
      (f = true → d = false → t.bootState = 0xFF ∧ t.reg 0x2100 2 = 0x0111 ∧ t.pins.svcReqLow = true) ∧
      (f = true → d = true → ok = false → t.bootState = 0xFF ∧ t.reg 0x2100 2 = 0x0F01 ∧ t.pins.svcReqLow = true)) ∧
  (∀ (f d ok : Bool) (s : State), s.bootState ≠ 0 ∨ s.powerState ≠ 0 ∨ s.boot.strapsSampled = false ∨ s.boot.resetHigh = false ∨
    (s.reg 0x2002 1 ≠ 1 ∧ s.boot.perstHigh = false) → exec (.poweredComplete f d ok) s = .next s) ∧
  (∀ s : State, s.configOpen = true → s.bootState = 1 → s.reg 0x2002 1 ≠ 1 → s.boot.clearing = false →
    ∃ t : State, exec (.memorySpaceEnable true) s = .next t ∧ t.bootState = 2 ∧ t.boot.memorySpace = true ∧ SameMemory s t ∧ SameRings s t) ∧
  (∀ s : State, s.configOpen = true → s.bootState ≠ 1 ∨ s.reg 0x2002 1 = 1 ∨ s.boot.clearing = true →
    ∃ t : State, exec (.memorySpaceEnable true) s = .next t ∧ t.bootState = s.bootState ∧ t.boot.memorySpace = true ∧ SameMemory s t ∧ SameRings s t) ∧
  (∀ s : State, s.bootState = 1 → s.reg 0x2002 1 = 1 → s.boot.clearing = false →
    ∃ t : State, exec (.mcanServerStarted true) s = .next t ∧ t.bootState = 2 ∧ t.mcan.serving = true ∧ t.reg 0x1F11 1 = 16 + s.reg 0x2002 3 ∧
      (∃ m, t.out.mcan = s.out.mcan ++ [m] ∧ m.identifier = 0x700 + 16 + s.reg 0x2002 3 ∧ m.data = [0]) ∧ SameMemory s t ∧ SameRings s t) ∧
  (∀ s : State, s.bootState ≠ 1 ∨ s.reg 0x2002 1 ≠ 1 ∨ s.boot.clearing = true → ∀ ok, exec (.mcanServerStarted ok) s = .next s) ∧
  (∀ (ok : Bool) (s : State), s.configOpen = false → exec (.memorySpaceEnable ok) s = .next s) ∧
  (∀ s : State, s.configOpen = true → s.bootState = 1 → exec (.memorySpaceEnable false) s = .next (s.bootHalt 0x0F01 true)) ∧
  (∀ s : State, s.bootState = 1 → s.reg 0x2002 1 = 1 → s.boot.clearing = false → exec (.mcanServerStarted false) s = .next (s.bootHalt 0x0F01 true)) ∧
  (∀ s : State, (s.bootHalt 0x0F01 true).bootState = 0xFF ∧ (s.bootHalt 0x0F01 true).reg 0x2100 2 = 0x0F01 ∧
    (s.bootHalt 0x0F01 true).pins.svcReqLow = true)

/-- The boot window (R80, R88, R89, R106). In AWAIT_IMAGE an aperture write lands in the page selected and nowhere else, and one that arrives during
a clearing is held; BOOT_REGION_CLEARED lets held writes land; START latches both lengths and enters AUTHENTICATING. RESTART clears the
region and its registers, and from BOOT_HALT it also resets the members and enters ROM_READY with cause 5. START together with RESTART
acts as RESTART. In every other boot state, or with the window closed, START and RESTART change nothing. -/
def Obligations.BootWindow : Prop :=
  (∀ (off : Nat) (bs : List Byte) (s : State), s.windowOpen = true → s.bootState = 2 → off + bs.length ≤ 0x400000 → s.boot.clearing = false →
    ∃ t : State, exec (.apertureWrite off bs) s = .next t ∧
      (∀ n, n < bs.length → Memory.read t.mem (stackBase 0 + s.boot.aperturePage * 0x400000 + off + n) = bs.getD n 0) ∧
      SameMemoryBut s t (stackBase 0 + s.boot.aperturePage * 0x400000 + off) bs.length ∧ t.live = s.live ∧ SameRings s t ∧ t.boot = s.boot) ∧
  (∀ (off : Nat) (bs : List Byte) (s : State), s.windowOpen = true → s.bootState = 2 → off + bs.length ≤ 0x400000 → s.boot.clearing = true →
    exec (.apertureWrite off bs) s = .next { s with boot := { s.boot with
      heldWrites := s.boot.heldWrites ++ [(s.boot.aperturePage * 0x400000 + off, bs)] } }) ∧
  (∀ (off : Nat) (bs : List Byte) (s : State), s.bootState ≠ 2 ∨ s.windowOpen = false ∨ 0x400000 < off + bs.length →
    exec (.apertureWrite off bs) s = .next s) ∧
  (∀ s : State, s.boot.clearing = true → s.bootState = 2 →
    exec (.bootRegionCleared true) s = .next { s with
      mem := s.boot.heldWrites.foldl (fun (m : Memory) w => Memory.writeBytes m (stackBase 0 + w.1) w.2) s.mem
      boot := { s.boot with clearing := false, heldWrites := [] } }) ∧
  (∀ s : State, s.boot.clearing = true → s.bootState = 1 → s.reg 0x2002 1 ≠ 1 → s.boot.memorySpace = true →
    ∃ t : State, exec (.bootRegionCleared true) s = .next t ∧ t.bootState = 2 ∧ t.boot.clearing = false ∧ SameRings s t) ∧
  (∀ s : State, s.windowOpen = true → s.bootState = 2 → s.reg 0x2002 1 ≠ 1 →
    ∃ t : State, exec (.start false true) s = .next t ∧ t.bootState = 3 ∧ t.boot.latchedImage = s.boot.imageLength ∧
      t.boot.latchedRing = s.boot.ringLength ∧ SameRings s t ∧ t.fuses = s.fuses) ∧
  (∀ s : State, exec (.start true true) s = exec .restart s) ∧
  (∀ s : State, s.windowOpen = true → s.bootState = 2 →
    ∃ t : State, exec .restart s = .next t ∧ t.bootState = 2 ∧ t.boot.aperturePage = 0 ∧ t.boot.imageLength = 0 ∧ t.boot.ringLength = 0 ∧
      (∀ a, stackBase 0 ≤ a → a < stackBase 0 + bootRegionSize → Memory.read t.mem a = 0) ∧
      SameMemoryBut s t (stackBase 0) bootRegionSize ∧ t.live = s.live ∧ SameRings s t) ∧
  (∀ s : State, s.windowOpen = true → s.bootState = 0xFF →
    ∃ t : State, exec .restart s = .next t ∧ t.bootState = 1 ∧ t.reg 0x2100 4 = 5 ∧ t.reg 0x2100 2 = 0 ∧ t.boot.imageLength = 0 ∧ t.boot.ringLength = 0 ∧
      (∀ d, 0 < d → d < s.dies → t.reg (0x2008 + d) 2 = 1 ∧ t.reg (0x2008 + d) 3 = 1) ∧
      (∀ a, stackBase 0 ≤ a → a < stackBase 0 + bootRegionSize → Memory.read t.mem a = 0) ∧
      SameMemoryBut s t (stackBase 0) bootRegionSize ∧ SameRings s t ∧ t.fuses = s.fuses) ∧
  (∀ s : State, s.windowOpen = false ∨ (s.bootState ≠ 2 ∧ s.bootState ≠ 0xFF) →
    exec .restart s = .next s ∧ exec (.start false true) s = .next s)

/-- AUTHENTICATING ends (R80, R94, R95, R97, R102). The ROM's own check failing halts with ROM_INTERNAL (0x0F01). A check of the image that fails
halts with that check's code and leaves SVC_REQ_N as it was. When all pass and D1 is reachable from D0, DISTRIBUTING begins: the digest is
recorded, the reachable dies are those that the trained links join to D0, and every member among them whose Core is not FAILED is in RESET
and awaited for 5 ms. D1 out of reach halts with FABRIC_FAIL (0x0301) and drives SVC_REQ_N. In any other boot state nothing changes. -/
def Obligations.AuthenticationEnds : Prop :=
  (∀ (links : List LinkReport) (ok : Bool) (s : State), s.bootState = 3 →
    ∃ t : State, exec (.authenticationDone links ok) s = .next t ∧ SameRings s t ∧ t.fuses = s.fuses ∧
      (ok = false → t.bootState = 0xFF ∧ t.reg 0x2100 2 = 0x0F01 ∧ t.pins.svcReqLow = true) ∧
      (∀ code, ok = true → s.imageCheck s.boot.latchedImage s.boot.latchedRing = some code →
        t.bootState = 0xFF ∧ t.reg 0x2100 2 = code ∧ t.pins.svcReqLow = s.pins.svcReqLow) ∧
      (ok = true → s.imageCheck s.boot.latchedImage s.boot.latchedRing = none → (s.linksTrained links).reachedD0 1 = true →
        t.bootState = 4 ∧ t.regBytes 0x2101 5 = Config.sha384 (signedPart (s.bootBytes 0 s.boot.latchedImage)) ∧
        t.boot.readyDeadline = s.now + ms 5 ∧ t.boot.reachable = s.dieList.filter (fun d => (s.linksTrained links).reachedD0 d) ∧
        t.boot.awaitingReady = (t.boot.reachable.drop 1).filter (fun d => s.reg (0x2008 + d) 2 ≠ 3) ∧
        ∀ d, d ∈ t.boot.awaitingReady → t.reg (0x2008 + d) 2 = 1) ∧
      (ok = true → s.imageCheck s.boot.latchedImage s.boot.latchedRing = none → (s.linksTrained links).reachedD0 1 = false →
        t.bootState = 0xFF ∧ t.reg 0x2100 2 = 0x0301 ∧ t.pins.svcReqLow = true)) ∧
  (∀ (links : List LinkReport) (ok : Bool) (s : State), s.bootState ≠ 3 → exec (.authenticationDone links ok) s = .next s)

/-- DISTRIBUTING (R39, R80, R97, R102). A Core that reports ready is ACTIVE and no longer awaited; one that does not within 5 ms fails at its deadline
with cause CORE_WATCHDOG (2) and is no longer awaited; a report about a die not awaited changes nothing. When none is awaited, every die not
reachable whose Shell is in service takes the failure of its Shell with cause DIE_UNREACHABLE (5), the members' counters are aligned with
the trunk's and SELF_TEST begins; the ROM's own check failing halts with ROM_INTERNAL (0x0F01). While one is awaited nothing changes. -/
def Obligations.MembersJoin : Prop :=
  (∀ (die : Nat) (s : State), s.bootState = 4 → die ∈ s.boot.awaitingReady →
    ∃ t : State, exec (.memberCoreReady die) s = .next t ∧ t.reg (0x2008 + die) 2 = 2 ∧
      t.boot = { s.boot with awaitingReady := s.boot.awaitingReady.erase die } ∧ SameLiveBut s t [entryKey (0x2008 + die) 2] ∧ SameMemory s t ∧ SameRings s t) ∧
  (∀ (die : Nat) (s : State), s.bootState = 4 → die ∈ s.boot.awaitingReady →
    exec (.coreReadyTimeout die) s = .next (State.coreFailed { s.arriveAt s.boot.readyDeadline with
      boot := { s.boot with awaitingReady := s.boot.awaitingReady.erase die } } die 2 true)) ∧
  (∀ (s : State) (die cause : Nat) (report : Bool), s.operational = false → s.reg (0x2008 + die) 2 ≠ 3 →
    (s.coreFailed die cause report).reg (0x2008 + die) 2 = 3 ∧ (s.coreFailed die cause report).reg (0x2708 + die) 1 = cause) ∧
  (∀ (die : Nat) (s : State), s.bootState ≠ 4 ∨ die ∉ s.boot.awaitingReady →
    exec (.memberCoreReady die) s = .next s ∧ exec (.coreReadyTimeout die) s = .next s) ∧
  (∀ (ok : Bool) (s : State), s.bootState = 4 → s.boot.awaitingReady = [] →
    ∃ t : State, exec (.distributionDone ok) s = .next t ∧ t.fuses = s.fuses ∧
      (ok = true → t.bootState = 5 ∧ t.boot.slotsDone = [] ∧ t.fabric.aligned = true ∧ t.fabric.slews = []) ∧
      (ok = false → t.bootState = 0xFF ∧ t.reg 0x2100 2 = 0x0F01 ∧ t.pins.svcReqLow = true)) ∧
  (∀ s u : State, s.bootState = 4 → s.boot.awaitingReady = [] →
    u = s.each (s.dieList.filter (fun d => !s.boot.reachable.contains d && s.shellUp d)) (fun t d => t.shellFailed d 5 1 true) →
    exec (.distributionDone true) s = .next (State.bootEnter { u with
      boot := { u.boot with slotsDone := [] }, fabric := { u.fabric with aligned := true, slews := [] } } 5)) ∧
  (∀ (ok : Bool) (s : State), s.bootState ≠ 4 ∨ s.boot.awaitingReady ≠ [] → exec (.distributionDone ok) s = .next s)

/-- SELF_TEST (R24, R98, R99, R80, R676). Slots run D1 upwards and D0 last, passing a member whose Shell is FAILED. A slot's results are recorded with
the groups that failed, its management SRAM and the top 1 MiB of its stack hold free bytes, its event waits, the items it finds failed go out
of service and dies out of reach with them; the slot that ends the run chooses the trunk: no ACTIVE Core of D0 and D1 halts with NO_TRUNK
(0x0401), a failed Shell of D0 or of the trunk with 0x0402, both with SVC_REQ_N low; otherwise MEMORY_TRAINING begins with the trunk role on
D0, or on D1 when D0's Core failed. The ROM's own check failing halts with ROM_INTERNAL. A slot of another die, or in another state, changes
nothing. -/
def Obligations.BootSlots : Prop :=
  (∀ (die : Nat) (r : SlotResult) (s : State), s.bootState = 5 → s.nextSlot = some die →
    exec (.bootSlotDone die r true) s = .next (
      let s1 := ((s.slotRecord die r).setReg (0x2718 + die) 5 (r.failed % 4096)).slotMemory die
      let s2 := (State.slotOutcome { s1 with boot := { s1.boot with
        slotsDone := s1.boot.slotsDone ++ [die], slotEvents := s1.boot.slotEvents ++ [s1.slotEvent die 1 r] } } die r).unreached.coordinate
      if s2.nextSlot = none then s2.slotsEnd else s2) ∧
    exec (.bootSlotDone die r false) s = .next (s.bootHalt 0x0F01 true)) ∧
  (∀ (die : Nat) (r : SlotResult) (ok : Bool) (s : State), s.bootState ≠ 5 ∨ s.nextSlot ≠ some die → exec (.bootSlotDone die r ok) s = .next s) ∧
  (∀ (s : State) (d : Nat) (r : SlotResult), (s.slotRecord d r).reg (0x2718 + d) 2 = r.failed % 4096 ∧ (s.slotRecord d r).reg (0x2718 + d) 3 = s.now ∧
    (s.slotRecord d r).reg (0x2718 + d) 1 = (if r.failed % 1024 = 0 then Status.ok else Status.hwFault)) ∧
  (∀ (s : State) (d a : Nat), a < sramBase d ∨ sramBase d + 0x80000 ≤ a → a < stackBase d + 0x7FF00000 ∨ stackBase d + 0x80000000 ≤ a →
    Memory.read (s.slotMemory d).mem a = Memory.read s.mem a) ∧
  (∀ (s : State) (d : Nat), s.nextSlot = some d → d ∉ s.boot.slotsDone ∧ (d = 0 ∨ s.shellUp d = true) ∧
    (d = 0 → ∀ e, 0 < e → e < s.dies → s.shellUp e = true → e ∈ s.boot.slotsDone) ∧
    (d ≠ 0 → ∀ e, 0 < e → e < d → s.shellUp e = true → e ∈ s.boot.slotsDone)) ∧
  (∀ s : State, s.coreActive 0 = false → s.coreActive 1 = false →
    s.slotsEnd.bootState = 0xFF ∧ s.slotsEnd.reg 0x2100 2 = 0x0401 ∧ s.slotsEnd.pins.svcReqLow = true) ∧
  (∀ s : State, s.coreActive 0 = true → s.shellUp 0 = true →
    s.slotsEnd.bootState = 6 ∧ s.slotsEnd.trunk = 0) ∧
  (∀ s : State, s.coreActive 0 = false → s.coreActive 1 = true → s.shellUp 0 = true → s.shellUp 1 = true →
    s.slotsEnd.bootState = 6 ∧ s.slotsEnd.trunk = 1 ∧ s.slotsEnd.reg 0x2700 6 = s.now) ∧
  (∀ s : State, (s.coreActive 0 = true ∧ s.shellUp 0 = false) ∨
    (s.coreActive 0 = false ∧ s.coreActive 1 = true ∧ (s.shellUp 0 = false ∨ s.shellUp 1 = false)) →
    s.slotsEnd.bootState = 0xFF ∧ s.slotsEnd.reg 0x2100 2 = 0x0402 ∧ s.slotsEnd.pins.svcReqLow = true)

/-- MEMORY_TRAINING and RING_APPLY (R80, R100, R101, R102). D0's stack or the trunk's failing halts with 0x0501; otherwise RING_APPLY begins, and a
member whose stack failed has lost its Shell, with cause STACK (4). A RING_LENGTH of 0 makes the default ring active with no previous ring; an
image that a check or a die refuses halts with RING_REJECTED (0x0601) and leaves the pins; a fault in applying halts with RING_APPLY_FAIL
(0x0602) and drives SVC_REQ_N; the ROM's own check failing halts with ROM_INTERNAL (0x0F01) in either state; otherwise the image's ring is
active and the device goes OPERATIONAL. Where no stack fails and every die in service is reached, training writes the top 1 MiB of each stack
and no other byte of memory. In another boot state either command changes nothing. -/
def Obligations.TrainingAndInitialRing : Prop :=
  (∀ (failed : List Nat) (ok : Bool) (s : State), s.bootState = 6 →
    ∃ t : State, exec (.memoryTrainingDone failed ok) s = .next t ∧ SameRings s t ∧ t.fuses = s.fuses ∧
      (ok = false → t.bootState = 0xFF ∧ t.reg 0x2100 2 = 0x0F01 ∧ t.pins.svcReqLow = true) ∧
      (ok = true → 0 ∈ failed ∨ s.trunk ∈ failed → t.bootState = 0xFF ∧ t.reg 0x2100 2 = 0x0501 ∧ t.pins.svcReqLow = true) ∧
      (ok = true → 0 ∉ failed → s.trunk ∉ failed → t.bootState = 7) ∧
      (failed = [] → (∀ d, d < s.dies → s.shellUp d = true → s.reached d = true) →
        ∀ a, (∀ d, d < s.dies → a < stackBase d + 0x7FF00000 ∨ stackBase d + 0x80000000 ≤ a) → Memory.read t.mem a = Memory.read s.mem a)) ∧
  (∀ (failed : List Nat) (s u v : State), s.bootState = 6 → 0 ∉ failed → s.trunk ∉ failed →
    u = s.each (s.dieList.filter (fun d => s.shellUp d)) (fun t d => t.stackTop d) →
    v = u.each (u.dieList.filter (fun d => failed.contains d && u.shellUp d)) (fun t d => t.shellFailed d 4 2 true) →
    exec (.memoryTrainingDone failed true) s = .next (v.unreached.installRoutes.bootEnter 7)) ∧
  (∀ (failed : List Nat) (ok : Bool) (s : State), s.bootState ≠ 6 → exec (.memoryTrainingDone failed ok) s = .next s) ∧
  (∀ (f : Bool) (s : State), s.bootState = 7 → s.boot.latchedRing = 0 →
    ∃ t : State, exec (.ringApplyDone f true) s = .next t ∧ t = s.goOperational [] 0 defaultLabel none ∧ t.active = [] ∧ t.previous = none) ∧
  (∀ (f : Bool) (s : State), s.bootState = 7 → s.boot.latchedRing ≠ 0 →
    (s.ringImageCheck (s.bootBytes ringOffset s.boot.latchedRing)).1 ≠ Status.ok ∨
      s.refusals (s.ringImageValues (s.bootBytes ringOffset s.boot.latchedRing)) ≠ [] →
    ∃ t : State, exec (.ringApplyDone f true) s = .next t ∧ t.bootState = 0xFF ∧ t.reg 0x2100 2 = 0x0601 ∧ t.pins = s.pins) ∧
  (∀ s : State, s.bootState = 7 → s.boot.latchedRing ≠ 0 →
    (s.ringImageCheck (s.bootBytes ringOffset s.boot.latchedRing)).1 = Status.ok →
    s.refusals (s.ringImageValues (s.bootBytes ringOffset s.boot.latchedRing)) = [] →
    (∃ t : State, exec (.ringApplyDone false true) s = .next t ∧ t = s.goOperational (s.ringImageValues (s.bootBytes ringOffset s.boot.latchedRing))
      (field (s.bootBytes ringOffset s.boot.latchedRing) 8 4) (slice (s.bootBytes ringOffset s.boot.latchedRing) 0xC 8)
      (some { version := 0, label := defaultLabel, values := [] }) ∧
      t.active = s.ringImageValues (s.bootBytes ringOffset s.boot.latchedRing)) ∧
    ∃ t : State, exec (.ringApplyDone true true) s = .next t ∧ t.bootState = 0xFF ∧ t.reg 0x2100 2 = 0x0602 ∧ t.pins.svcReqLow = true) ∧
  (∀ (f : Bool) (s : State), s.bootState = 7 →
    ∃ t : State, exec (.ringApplyDone f false) s = .next t ∧ t.bootState = 0xFF ∧ t.reg 0x2100 2 = 0x0F01 ∧ t.pins.svcReqLow = true) ∧
  (∀ (f ok : Bool) (s : State), s.bootState ≠ 7 → exec (.ringApplyDone f ok) s = .next s) ∧
  (∀ (s : State) (vals : Tab Val) (version : Nat) (label : List Byte) (prev : Option HeldRing), (s.goOperational vals version label prev).bootState = 8)

/-- The boot objects as written (R103, R104, R106, R108, R110). The recovery tool's image, ring and START act as the PCIe window does, on the ROM's
MCAN server in AWAIT_IMAGE, once held aperture writes have landed; outside it every access to them returns DENIED_ACCESS. 0xA5 resets the
device with cause 6 and any other value is refused with RANGE. sv_advance raises the fused count to a higher value that the image's security
version reaches, and revoke_key sets the bit of a key that the running image does not use; any other value returns RANGE. A requester of the
normal world gets DENIED_WORLD on the last two. -/
def Obligations.BootObjects : Prop :=
  (∀ (data : List Byte) (s u : State), s.admits .mcan 0x2104 0 data = true → u = (s.admitted .mcan 0x2104 0 data).finishClear →
    exec (.recoveryImageWrite data) s = .next (State.concluded { u with
      mem := u.mem.writeBytes (stackBase 0) data, boot := { u.boot with imageLength := data.length } } .mcan 0x2104 0 data Status.ok)) ∧
  (∀ (data : List Byte) (s u : State), s.admits .mcan 0x2105 0 data = true → u = (s.admitted .mcan 0x2105 0 data).finishClear →
    exec (.recoveryRingWrite data) s = .next (State.concluded { u with
      mem := u.mem.writeBytes (stackBase 0 + ringOffset) data, boot := { u.boot with ringLength := data.length } } .mcan 0x2105 0 data Status.ok)) ∧
  (∀ s u : State, s.admits .mcan 0x2106 0 (leBytes 1 1) = true → u = (s.admitted .mcan 0x2106 0 (leBytes 1 1)).finishClear →
    exec (.recoveryStart 1) s = .next ((State.bootEnter { u with boot := { u.boot with
      latchedImage := u.boot.imageLength, latchedRing := u.boot.ringLength } } 3).concluded .mcan 0x2106 0 (leBytes 1 1) Status.ok)) ∧
  (∀ (req : Requester) (idx : Nat) (data : List Byte) (v : View) (s : State), 0x2104 ≤ idx → idx ≤ 0x2106 → s.mcan.serving = false ∨ s.bootState ≠ 2 →
    s.checkWrite req idx 0 data = Status.deniedAccess ∧ s.checkRead req idx 0 v = Status.deniedAccess) ∧
  (∀ (req : Requester) (s : State), s.admits req 0x2100 7 (leBytes 1 0xA5) = true →
    exec (.deviceReset req 0xA5) s = .next (((s.admitted req 0x2100 7 (leBytes 1 0xA5)).powered 6 false).concluded req 0x2100 7 (leBytes 1 0xA5)
      Status.ok)) ∧
  (∀ (req : Requester) (v : Nat) (s : State), v < 256 → v ≠ 0xA5 → s.reaches req 0x2100 7 (leBytes 1 v) = true →
    exec (.deviceReset req v) s = .next (s.turnedAway req 0x2100 7 (leBytes 1 v))) ∧
  (∀ (req : Requester) (v : Nat) (s u : State), v < 256 → s.admits req 0x2102 2 (leBytes 1 v) = true → u = s.admitted req 0x2102 2 (leBytes 1 v) →
    (u.fuses.securityCount < v → v ≤ u.reg 0x2101 2 →
      exec (.svAdvance req v) s = .next ((State.setReg { u with fuses := { u.fuses with securityCount := v } } 0x2102 2 v).concluded req 0x2102 2
        (leBytes 1 v) Status.ok)) ∧
    (v ≤ u.fuses.securityCount ∨ u.reg 0x2101 2 < v →
      exec (.svAdvance req v) s = .next (u.concluded req 0x2102 2 (leBytes 1 v) Status.range))) ∧
  (∀ (req : Requester) (n : Nat) (s u : State), n < 256 → s.admits req 0x2102 4 (leBytes 1 n) = true → u = s.admitted req 0x2102 4 (leBytes 1 n) →
    (n ≤ 3 → n ≠ u.reg 0x2101 3 →
      exec (.revokeKey req n) s = .next (State.concluded { u with fuses := { u.fuses with keysRevoked := setBit u.fuses.keysRevoked n true } }
        req 0x2102 4 (leBytes 1 n) Status.ok)) ∧
    (n = u.reg 0x2101 3 → exec (.revokeKey req n) s = .next (u.concluded req 0x2102 4 (leBytes 1 n) Status.range))) ∧
  (∀ (req : Requester) (n : Nat) (s : State), 3 < n → n < 256 → s.reaches req 0x2102 4 (leBytes 1 n) = true →
    exec (.revokeKey req n) s = .next (s.turnedAway req 0x2102 4 (leBytes 1 n))) ∧
  (∀ (req : Requester) (data : List Byte) (s : State), worldOf req = .normal →
    s.checkWrite req 0x2102 2 data = Status.deniedWorld ∧ s.checkWrite req 0x2102 4 data = Status.deniedWorld)

/-- Links and routes (R22, R23, R24). The link that a pair of dies names (log entry 33), up and declared down from fabric training on, is shown DOWN (1),
every other link as before, and the retries of its two dies are counted; with two or more links down the health cause FABRIC (6) occurs, with a
free value for its resource (log entry 3, the manual numbers no links); routes are installed and dies cut off fail, which before OPERATIONAL
ends the boot where D0 or the trunk is lost (log entry 113). A link already down, a pair that names none, or a fabric not trained: nothing
changes. A route's first die is joined to its start and lies one hop nearer its end, and the cross link is preferred. -/
def Obligations.LinksAndRoutes : Prop :=
  (∀ (a b key : Nat) (s s1 s2 : State), s.fabricUp = true → key = s.part.linkNamed a b → key ∈ s.part.links → 2 ≤ s.linkCode key →
    s1 = (State.showLinks { s with fabric := { s.fabric with links := Tab.put s.fabric.links key 1 } }).countRetries [a, b] →
    s2 = (if 2 ≤ (s1.part.links.filter (fun x => s1.linkCode x = 1)).length
      then ((s1.cause 6 0xFF 3 (Config.freeNat s1.free % 65536)).useFree).cutOff else s1.cutOff) →
    exec (.linkDownDeclared a b) s = .next
      (if s2.operational = false ∧ (s2.shellUp 0 = false ∨ s2.shellUp s2.trunk = false) then s2.bootHalt 0x0301 true else s2) ∧
    s1.linkCode key = 1 ∧ ∀ k, k ≠ key → s1.linkCode k = s.linkCode k) ∧
  (∀ (a b : Nat) (s : State), s.fabricUp = false ∨ s.part.linkNamed a b ∉ s.part.links ∨ s.linkCode (s.part.linkNamed a b) ≤ 1 →
    exec (.linkDownDeclared a b) s = .next s) ∧
  (∀ (a b d : Nat) (s : State), s.nextHop a b = some d →
    s.joined a d = true ∧ (∃ n, s.hops a b = some (n + 1) ∧ s.hops d b = some n) ∧
    ∀ c, s.part.cross a = some c → s.joined a c = true → (s.hops c b).map (· + 1) = s.hops a b → d = c) ∧
  (∀ (a b d : Nat) (s : State), a < s.dies → b < s.dies → s.nextHop a b = some d → Tab.getD s.installRoutes.fabric.routes (16 * a + b) 99 = d)

/-- Device time as seen (R39, R41, R197). A beacon, one every 1 ms, steps no die's count; each member in service records its error in skew_max_ns (within
8 ns once aligned) and slews, so that counters whose present and coming differences are within 8 ns stay so at every later moment. A PTM
exchange records its pair only while ptm_enable is 1, with a device time within 16 ns of the count at its moment, no sooner than an interval
after the last (log entry 111 for the midpoint); a read of TIME_LO returns the low 32 bits and latches the high ones. -/
def Obligations.TimeShown : Prop :=
  (∀ (errors : List (Nat × Int)) (s : State), s.timeRuns = true →
    ∃ t : State, exec (.timeBeacon errors) s = .next t ∧ t.now = max s.now s.beaconDue ∧ t.fabric.beaconLast = some t.now ∧
      s.reg 0x2010 6 ≤ t.reg 0x2010 6 ∧ (∀ d, t.skewOf d = (s.slewOf d).skewAt t.now) ∧
      (∀ e, e ∈ errors → e.1 < s.dies → e.1 ≠ s.trunk → s.shellUp e.1 = true →
        min 65535 (if s.fabric.aligned then max (-8) (min 8 e.2) else e.2).natAbs ≤ t.reg 0x2010 6) ∧
      (s.fabric.aligned = true →
        (∀ c d, c < s.dies → d < s.dies → ∀ x y : Int, x = (s.slewOf c).skewAt t.now ∨ x = (s.slewOf c).goal →
          y = (s.slewOf d).skewAt t.now ∨ y = (s.slewOf d).goal → (x - y).natAbs ≤ 8) →
        ∀ c d T, c < s.dies → d < s.dies → t.now ≤ T → ((t.slewOf c).skewAt T - (t.slewOf d).skewAt T).natAbs ≤ 8) ∧
      SameLiveBut s t (0x201006 :: s.dieList.map (fun d => entryKey (0x2008 + d) 5)) ∧ SameMemory s t ∧ SameRings s t) ∧
  (∀ (errors : List (Nat × Int)) (s : State), s.timeRuns = false → exec (.timeBeacon errors) s = .next s) ∧
  (∀ (master midpoint : Nat) (s : State), s.serving = true → s.cfg 0x2010 2 = 1 → master < 2 ^ 64 →
    ∃ t : State, exec (.ptmExchange master midpoint) s = .next t ∧ t.now = max s.now s.ptmDue ∧ t.fabric.ptmLast = some t.now ∧
      t.now - 16 ≤ t.reg 0x2010 4 ∧ t.reg 0x2010 4 ≤ t.now + 16 ∧
      (t.now - 16 ≤ midpoint → midpoint ≤ t.now + 16 → t.reg 0x2010 4 = midpoint) ∧ t.reg 0x2010 5 = master ∧
      SameLiveBut s t [0x201004, 0x201005] ∧ SameMemory s t ∧ SameRings s t) ∧
  (∀ (master midpoint : Nat) (s : State), s.serving = false ∨ s.cfg 0x2010 2 ≠ 1 → exec (.ptmExchange master midpoint) s = .next s) ∧
  (∀ (inst : Nat) (s : State), s.pageWritable inst = true →
    ∃ t : State, exec (.timeLoRead inst) s = .next t ∧ t.out = { s.out with reads := s.out.reads ++ [(inst, leBytes 4 (s.now % 2 ^ 32))] } ∧
      t.inst inst = { s.inst inst with timeHi := s.now / 2 ^ 32 % 2 ^ 32 } ∧ (∀ i, i ≠ inst → t.inst i = s.inst i) ∧
      t.live = s.live ∧ SameMemory s t ∧ SameRings s t) ∧
  (∀ (inst : Nat) (s : State), s.pageWritable inst = false →
    exec (.timeLoRead inst) s = .next { s with out := { s.out with reads := s.out.reads ++ [(inst, leBytes 4 (s.pageRead inst 0x20))] } })

/-- The checks of a WRITE in their order (R110, R123, R255), each status given only when every check before it passes. With the device OPERATIONAL
and no group running or request waiting, a WRITE that fails one changes nothing but its answer and the domains that it wakes (R143): no ring,
no byte of memory, no live entry but the count of denied requests (0x1F01.05), MCAN's last status (0x1F11.04), the tunnel's response (0x1F13)
and the wake counts of the trunk's die and the entry's. -/
def Obligations.RequestChecks : Prop :=
  (∀ (s : State) (req : Requester) (idx sub : Nat) (data : List Byte), lookup s.part idx sub = none →
    s.checkWrite req idx sub data = Status.notPresent) ∧
  (∀ (s : State) (req : Requester) (idx sub : Nat) (data : List Byte) (f : Found), lookup s.part idx sub = some f →
    s.checkWrite req idx sub data =
      if s.recoveryShut f = true then Status.deniedAccess
      else if (f.row'.acc = .rws ∧ worldOf req = .normal) ∨ s.secureOnly req f = true then Status.deniedWorld
      else if s.rightsOk req f true .active = false then Status.deniedInstance
      else if f.row'.acc = .ro ∨ f.row'.acc = .const then Status.deniedAccess
      else if s.lengthFits idx f data.length = false then Status.typeLength
      else if f.valueOk s.part s.grade data = false then Status.range else Status.ok) ∧
  (∀ (s : State) (req : Requester) (idx sub : Nat) (data : List Byte), s.dir.blocked = [] → s.dir.running = none → s.dir.queued = [] →
    idx ≠ 0x1F12 → s.operational = true → s.health.succession = false → s.writeStatus req idx sub data ≠ Status.ok →
    ∃ t : State, exec (.write req idx sub data) s = .next t ∧ SameRings s t ∧ SameMemory s t ∧ t.fuses = s.fuses ∧ t.dir = s.dir ∧ t.now = s.now ∧
      SameLiveBut s t ([0x1F0105, 0x1F1104, 0x1F1300] ++
        [s.trunk, s.dieOf idx].flatMap (fun d => [entryKey (0x2408 + d) 9, entryKey (0x2408 + d) 0xA])))

/-- Single requests (R123, R127, R143, R152, R166), those to the tunnel's object 0x1F12 apart. With the transport open and its mailbox free: an
admitted WRITE does what its entry's owner does with it and returns the owner's status; READ returns the value as bytes, or the status of the
check it fails; DESCRIBE returns the entry's 32 bytes, which begin with the codes of its type, access, scope and kind, or NOT_PRESENT alone;
READ and DESCRIBE wake the entry's die first. A plain USDO transfer reads the active view alone and describes nothing. With the transport
closed nothing happens, and a mailbox that holds a request takes no second. -/
def Obligations.SingleRequests : Prop :=
  (∀ (req : Requester) (idx sub : Nat) (data : List Byte) (f : Found) (s : State), idx ≠ 0x1F12 → s.admits req idx sub data = true →
    lookup s.part idx sub = some f →
    exec (.write req idx sub data) s = .next (((s.admitted req idx sub data).entryEffect req f idx sub data).2.concluded req idx sub data
      ((s.admitted req idx sub data).entryEffect req f idx sub data).1)) ∧
  (∀ (req : Requester) (idx sub : Nat) (v : View) (s t u : State), s.transportOpen req = true → requestFits req (.read idx sub v) = true →
    s.operational = true ∨ (0x2100 ≤ idx ∧ idx ≤ 0x2106) → s.health.succession = false → s.takeRequest req (.read idx sub v) = (true, t) →
    u = t.demandWake (t.dieOf idx) →
    exec (.read req idx sub v) s = .next (State.settleRequests (
      if t.checkRead req idx sub v ≠ Status.ok then u.answer req 1 (t.checkRead req idx sub v) 0 [] idx sub 0
      else let r := u.readEntry req idx sub v
        (r.2.2.readUses idx sub).answer req 1 r.1 0 r.2.1 idx sub r.2.1.length))) ∧
  (∀ (req : Requester) (idx sub : Nat) (s t u : State), s.transportOpen req = true → req ≠ .mcan → s.operational = true →
    s.health.succession = false → s.takeRequest req (.describe idx sub) = (true, t) → u = t.demandWake (t.dieOf idx) →
    exec (.describe req idx sub) s = .next (State.settleRequests (match lookup t.part idx sub with
      | none => u.answer req 3 Status.notPresent 0 [] idx sub 0
      | some f => u.answer req 3 Status.ok 0 (t.description f) idx sub 32))) ∧
  (∀ (s : State) (f : Found), (s.description f).length = 32 ∧ field (s.description f) 0 1 = f.row'.ty.code ∧ field (s.description f) 1 1 = f.row'.acc.code ∧
    field (s.description f) 2 1 = f.obj.scope.code ∧ field (s.description f) 3 1 = f.row'.kind.code) ∧
  (∀ (idx sub : Nat) (v : View) (s : State), v ≠ .active →
    exec (.read .mcan idx sub v) s = .next s ∧ exec (.describe .mcan idx sub) s = .next s) ∧
  (∀ (req : Requester) (idx sub : Nat) (data : List Byte) (v : View) (s : State), s.transportOpen req = false →
    exec (.write req idx sub data) s = .next s ∧ exec (.read req idx sub v) s = .next s ∧ exec (.describe req idx sub) s = .next s) ∧
  (∀ (i tag : Nat) (ind : Option (Nat × Nat)) (idx sub : Nat) (data : List Byte) (v : View) (s : State), (s.inst i).mbox.outstanding = true →
    exec (.write (.mailbox i tag ind) idx sub data) s = .next s ∧ exec (.read (.mailbox i tag ind) idx sub v) s = .next s ∧
    exec (.describe (.mailbox i tag ind) idx sub) s = .next s)

/-- Write groups (R128 to R135, R142, R143, R736). With none running or waiting, a group of 1 to 64 entries, at most 4,096 bytes of values, whose
checks pass is sent to every die that holds an entry, which it wakes; one that fails a check ends at once with that entry's status and
position. A die's answer, its Core's or the trunk's for what is out of service (log entry 168), within 2 ms of the prepare, and a die's
silence for 2 ms, which fails with TIMEOUT at the lowest position it holds, are taken off those awaited, and the lowest failing position
counts; the last sets the commit time 20 µs later or ends the group. At T every entry is applied, and the group ends OK, or DEGRADED, when
the dies have confirmed, at most 100 µs later (log entry 137 for the moment). With nothing else waiting, a group that ends otherwise than at
T changes the counts of groups and what its answer writes, and applies nothing. -/
def Obligations.WriteGroups : Prop :=
  (∀ (req : Requester) (es : List GroupWrite) (s t u : State) (ds : List Nat), s.transportOpen req = true → req ≠ .mcan → s.operational = true →
    s.health.succession = false → s.takeRequest req (.writeGroup es) = (true, t) → u = t.trunkWake → ds = es.map (fun e => u.dieOf e.idx) →
    s.dir.running = none → s.dir.queued = [] → s.dir.blocked = [] → es ≠ [] → es.length ≤ 64 → (es.map (fun e => e.data.length)).sum ≤ 4096 →
    (u.groupChecks req 1 [] es = none → exec (.writeGroup req es) s = .next (State.each { u with dir := { u.dir with
      running := some ({ req := req, entries := es, accepted := u.now, dies := ds, waiting := ds.eraseDups, sentAt := u.now } : WriteGroup) } }
        ds.eraseDups (fun v d => v.demandWake d))) ∧
    (∀ p st, st ≠ 0 → u.groupChecks req 1 [] es = some (p, st) → exec (.writeGroup req es) s = .next (u.groupEnds
      { req := req, entries := es, accepted := u.now, failPos := p, failWith := st } st p))) ∧
  (∀ (die : Nat) (s : State) (g : WriteGroup), s.dir.running = some g → s.health.succession = false → die ∈ g.waiting → s.answersPrepare die = true →
    s.now ≤ g.sentAt + ms 2 → g.failWith ≠ Status.aborted → (∀ p st, s.prepareResult g die = some (p, st) → st ≠ Status.deniedSecureClaim) →
    exec (.prepareAnswer die) s = .next (s.groupAnswered (({ g with waiting := g.waiting.erase die } : WriteGroup).joinFailure (s.prepareResult g die)))) ∧
  (∀ (die p : Nat) (s : State) (g : WriteGroup), s.dir.running = some g → s.health.succession = false → die ∈ g.waiting → s.answersPrepare die = true →
    s.now ≤ g.sentAt + ms 2 → g.failWith ≠ Status.aborted → s.prepareResult g die = some (p, Status.deniedSecureClaim) →
    exec (.prepareAnswer die) s = .next (State.groupAnswered
      ((s.claimsMoved (s.setJudged g.entries) ++ s.claimsStopped (s.groupDraft g.entries)).foldl (fun (t : State) c => t.securityEvent 1 c.1 c.2) s)
      (({ g with waiting := g.waiting.erase die } : WriteGroup).joinFailure (some (p, Status.deniedSecureClaim))))) ∧
  (∀ (die : Nat) (s : State) (g : WriteGroup), s.dir.running = some g → s.health.succession = false → die ∈ g.waiting → g.failWith ≠ Status.aborted →
    exec (.prepareTimeout die) s = .next (((s.arriveAt (g.sentAt + ms 2)).inc 0x1F01 3).groupAnswered
      (({ g with waiting := g.waiting.erase die } : WriteGroup).joinFailure (some (g.lowestHeld die, Status.timeout))))) ∧
  (∀ (g : WriteGroup) (p st : Nat), g.joinFailure none = g ∧
    (g.failWith = 0 ∨ p < g.failPos → g.joinFailure (some (p, st)) = { g with failPos := p, failWith := st }) ∧
    (g.failWith ≠ 0 → g.failPos ≤ p → g.joinFailure (some (p, st)) = g)) ∧
  (∀ (s : State) (g : WriteGroup),
    (g.waiting ≠ [] → s.groupAnswered g = { s with dir := { s.dir with running := some g } }) ∧
    (g.waiting = [] → g.failWith ≠ 0 → s.groupAnswered g = s.groupOver g g.failWith g.failPos) ∧
    (g.waiting = [] → g.failWith = 0 → s.groupAnswered g = { s with dir := { s.dir with running := some { g with commitT := some (s.now + us 20) } } })) ∧
  (∀ (die : Nat) (s : State), (∀ g, s.dir.running = some g → die ∉ g.waiting) → exec (.prepareAnswer die) s = .next s ∧ exec (.prepareTimeout die) s = .next s) ∧
  (∀ (T e : Nat) (s u : State) (g : WriteGroup), s.dir.running = some g → s.health.succession = false → g.commitT = some T →
    u = ((s.captureBefore T).arriveAt T).applyGroup g.req g.entries → e = T + Config.freeNat u.free % (us 100 + 1) →
    exec .groupApply s = .next (((u.useFree.captureBefore e).arriveAt e).groupOver g (if g.degraded then Status.degraded else Status.ok) 0)) ∧
  (∀ s : State, (∀ g, s.dir.running = some g → g.commitT = none) → exec .groupApply s = .next s) ∧
  (∀ (s : State) (g : WriteGroup) (st pos : Nat), s.dir.queued = [] → s.dir.blocked = [] → st ≠ Status.ok → st ≠ Status.degraded →
    let t := s.groupOver g st pos
    t.dir = { s.dir with running := none } ∧ SameRings s t ∧ SameMemory s t ∧ t.fuses = s.fuses ∧
      SameLiveBut s t [0x1F0102, 0x1F0104, 0x1F0105, 0x1F1104, 0x1F1300])

/-- Groups of reads and the limits of single requests (R130, R134, R139, R142, R168, R171). A READ_GROUP of 1 to 64 entries whose checks pass waits for
its capture time, 20 µs after its last die answers (log entry 134), in the order of those times; at its capture a write group committed at or
before that moment has been applied, and it is answered with every value, the first refusal and its position, or TYPE_LENGTH beyond 4,096
bytes; in a succession with BUSY. A single request whose die does not answer within transport_timeout_ms ends with TIMEOUT, a WRITE having
been performed or not (a free value); a WRITE to an entry that a prepared die has reserved waits. -/
def Obligations.ReadGroupsAndWaits : Prop :=
  (∀ (req : Requester) (es : List GroupRead) (s t u : State), s.transportOpen req = true → req ≠ .mcan → s.operational = true →
    s.health.succession = false → s.dir.blocked = [] → s.takeRequest req (.readGroup es) = (true, t) → es ≠ [] → es.length ≤ 64 →
    (∀ e ∈ es, t.checkRead req e.idx e.sub e.view = Status.ok) →
    u = t.useFree.each ((es.map (fun e => t.dieOf e.idx)).eraseDups) (fun v d => v.demandWake d) →
    ∃ T, t.now + us 20 ≤ T ∧ T ≤ t.now + us 520 ∧ exec (.readGroup req es) s = .next { u with dir := { u.dir with
      reads := u.dir.reads.takeWhile (fun r => decide (r.captureT ≤ T)) ++ ({ req := req, entries := es, captureT := T } : ReadGroup) ::
        u.dir.reads.dropWhile (fun r => decide (r.captureT ≤ T)) } }) ∧
  (∀ (s : State) (g : ReadGroup) (gs : List ReadGroup), s.dir.reads = g :: gs →
    (s.health.succession = true → exec .readGroupCapture s = .next (State.answer { s with dir := { s.dir with reads := gs } } g.req 4 Status.busy 0 [] 0 0 0)) ∧
    (∀ u : State, s.health.succession = false → u = s.commitBy g.captureT → g ∈ u.dir.reads →
      exec .readGroupCapture s = .next (State.captureRead { u with dir := { u.dir with reads := u.dir.reads.erase g } } g)) ∧
    (∀ u : State, s.health.succession = false → u = s.commitBy g.captureT → g ∉ u.dir.reads → exec .readGroupCapture s = .next u)) ∧
  (∀ (s : State) (g : WriteGroup) (T t : Nat), s.dir.running = some g → g.commitT = some T →
    (T ≤ t → s.commitBy t = s.groupCommit g T) ∧ (t < T → s.commitBy t = s)) ∧
  (∀ (s : State) (g : ReadGroup), ∃ (st pos : Nat) (vs : List (List Byte)) (u : State),
      (s.arriveAt g.captureT).captureEach g.req 1 g.entries [] = ((st, pos, vs), u) ∧
      (st = Status.ok → (vs.map List.length).sum ≤ 4096 →
        s.captureRead g = u.useFree.answer g.req 4 Status.ok pos (vs.flatMap groupValue) 0 0 (vs.flatMap groupValue).length) ∧
      (st = Status.ok → 4096 < (vs.map List.length).sum → s.captureRead g = u.useFree.answer g.req 4 Status.typeLength 0 [] 0 0 0) ∧
      (st ≠ Status.ok → s.captureRead g = u.useFree.answer g.req 4 st pos [] 0 0 0)) ∧
  (∀ s : State, s.dir.reads = [] → exec .readGroupCapture s = .next s) ∧
  (∀ (req : Requester) (idx sub : Nat) (v : View) (s t u : State), s.transportOpen req = true → requestFits req (.read idx sub v) = true →
    s.operational = true → s.health.succession = false →
    s.takeRequest req (.read idx sub v) = (true, t) → s.checkRead req idx sub v = Status.ok → u = t.demandWake (s.dieOf idx) →
    exec (.transportTimeout req (.read idx sub v)) s =
      .next ((u.arriveAt (u.now + ms (u.cfg 0x1F14 0))).answer req 1 Status.timeout 0 [] idx sub 0)) ∧
  (∀ (req : Requester) (idx sub : Nat) (data : List Byte) (s t u w : State), s.transportOpen req = true → s.operational = true →
    s.health.succession = false → s.takeRequest req (.write idx sub data) = (true, t) → s.writeStatus req idx sub data = Status.ok → idx ≠ 0x1F12 →
    s.entryReserved idx sub = false → u = t.demandWake (s.dieOf idx) →
    w = (if Config.freeBool u.free then (u.useFree.writeEntry req idx sub data).2 else u.useFree) →
    exec (.transportTimeout req (.write idx sub data)) s =
      .next ((w.arriveAt (w.now + ms (w.cfg 0x1F14 0))).answer req 2 Status.timeout 0 [] idx sub 0)) ∧
  (∀ (req : Requester) (idx sub : Nat) (f : Found) (s t u : State), s.transportOpen req = true → req ≠ .mcan → s.operational = true →
    s.health.succession = false → s.takeRequest req (.describe idx sub) = (true, t) → lookup s.part idx sub = some f → u = t.demandWake (s.dieOf idx) →
    exec (.transportTimeout req (.describe idx sub)) s =
      .next ((u.arriveAt (u.now + ms (u.cfg 0x1F14 0))).answer req 3 Status.timeout 0 [] idx sub 0)) ∧
  (∀ (req : Requester) (idx sub : Nat) (data : List Byte) (s t u : State), s.transportOpen req = true → s.operational = true →
    s.health.succession = false → s.takeRequest req (.write idx sub data) = (true, t) → s.writeStatus req idx sub data = Status.ok →
    idx ≠ 0x1F12 → s.entryReserved idx sub = true → s.dir.blocked = [] → u = t.demandWake (t.dieOf idx) →
    exec (.write req idx sub data) s = .next { u with dir := { u.dir with
      blocked := [{ req := req, request := .write idx sub data, accepted := true }] } })

/-- The ring commands as admitted writes (R137, R178 to R182). A commit is PENDING in CONFIRMED with a draft version above version_high: the phase is
then APPLYING, and the commit holds the draft's values, version and label as they are. A confirm in AWAIT_CONFIRM that names the active version
in time clears the deadline with event CONFIRMED (reason 2). A return with a previous ring held starts RETURNING with T 20 µs later. A reset
replaces the draft's values alone; an image that passes its checks becomes the draft, and one that fails them writes load_record alone.
Elsewhere RANGE, BUSY or DENIED_ACCESS is returned as R181 and R137 have it, and nothing else changes. -/
def Obligations.RingCommands : Prop :=
  (∀ (req : Requester) (v : Nat) (s u : State), v < 65536 → s.admits req 0x2112 1 (leBytes 2 v) = true → u = s.admitted req 0x2112 1 (leBytes 2 v) →
    v ≤ 600 ∨ v = 0xFFFF →
    (u.ringPhase = 0 → u.versionHigh < u.reg 0x2111 1 → ∃ t : State, exec (.ringCommit req v) s = .next (t.concluded req 0x2112 1 (leBytes 2 v) Status.pending) ∧
      t.ringPhase = 1 ∧ (∃ w, t.ringWork = some w ∧ w.decided = false ∧ w.prepareAt = u.now ∧ w.timeoutS = (if v = 0xFFFF then 30 else v) ∧
        w.values = u.draft ∧ w.version = u.reg 0x2111 1 ∧ w.label = u.regBytes 0x2111 2) ∧
      SameRings u t ∧ SameMemory u t ∧ SameLiveBut u t [0x211006]) ∧
    (u.ringPhase ≠ 0 → exec (.ringCommit req v) s = .next (u.concluded req 0x2112 1 (leBytes 2 v) Status.busy)) ∧
    (u.ringPhase = 0 → u.reg 0x2111 1 ≤ u.versionHigh → exec (.ringCommit req v) s = .next (u.concluded req 0x2112 1 (leBytes 2 v) Status.range))) ∧
  (∀ (req : Requester) (v : Nat) (s u : State), v < 2 ^ 32 → s.admits req 0x2112 2 (leBytes 4 v) = true → u = s.admitted req 0x2112 2 (leBytes 4 v) →
    (u.ringPhase = 2 → u.reg 0x2110 7 = 0 ∨ u.now ≤ u.reg 0x2110 7 → v = u.ringVersion → exec (.ringConfirm req v) s =
      .next ((((u.setReg 0x2110 7 0).setReg 0x2110 6 0).ringEvent 2 v).concluded req 0x2112 2 (leBytes 4 v) Status.pending)) ∧
    (u.ringPhase = 2 → u.reg 0x2110 7 = 0 ∨ u.now ≤ u.reg 0x2110 7 → v ≠ u.ringVersion →
      exec (.ringConfirm req v) s = .next (u.concluded req 0x2112 2 (leBytes 4 v) Status.range)) ∧
    (u.ringPhase ≠ 2 ∨ (u.reg 0x2110 7 ≠ 0 ∧ u.reg 0x2110 7 < u.now) →
      exec (.ringConfirm req v) s = .next (u.concluded req 0x2112 2 (leBytes 4 v) Status.deniedAccess))) ∧
  (∀ (req : Requester) (s u : State), s.admits req 0x2112 3 (leBytes 1 1) = true → u = s.admitted req 0x2112 3 (leBytes 1 1) →
    (u.ringPhase = 0 ∨ (u.ringPhase = 2 ∧ u.reg 0x2110 7 ≠ u.now) → u.previous ≠ none →
      ∃ t : State, exec (.ringReturn req 1) s = .next (t.concluded req 0x2112 3 (leBytes 1 1) Status.pending) ∧
      t.ringPhase = 3 ∧ t.reg 0x2110 7 = 0 ∧ (∃ w, t.ringWork = some w ∧ w.commitT = u.now + us 20 ∧ w.cause = 4) ∧ SameRings u t ∧
      SameLiveBut u t [0x211006, 0x211007]) ∧
    (u.ringPhase = 0 ∨ u.ringPhase = 2 → u.previous = none →
      exec (.ringReturn req 1) s = .next (u.concluded req 0x2112 3 (leBytes 1 1) Status.deniedAccess)) ∧
    (u.ringPhase = 1 → exec (.ringReturn req 1) s = .next (u.concluded req 0x2112 3 (leBytes 1 1) Status.busy))) ∧
  (∀ (req : Requester) (v : Nat) (s u : State), 1 ≤ v → v ≤ 3 → s.admits req 0x2111 3 (leBytes 1 v) = true → u = s.admitted req 0x2111 3 (leBytes 1 v) →
    (u.draftBusy = true → exec (.draftReset req v) s = .next (u.concluded req 0x2111 3 (leBytes 1 v) Status.busy)) ∧
    (u.draftBusy = false →
      (v = 1 → exec (.draftReset req v) s = .next (State.concluded { u with draft := u.active } req 0x2111 3 (leBytes 1 v) Status.ok)) ∧
      (v = 3 → exec (.draftReset req v) s = .next (State.concluded { u with draft := [] } req 0x2111 3 (leBytes 1 v) Status.ok)) ∧
      (∀ r, v = 2 → u.previous = some r → exec (.draftReset req v) s = .next (State.concluded { u with draft := r.values } req 0x2111 3 (leBytes 1 v)
        Status.ok)) ∧
      (v = 2 → u.previous = none → exec (.draftReset req v) s = .next (u.concluded req 0x2111 3 (leBytes 1 v) Status.deniedAccess)))) ∧
  (∀ (req : Requester) (img : List Byte) (s u : State), s.admits req 0x2111 4 img = true → u = s.admitted req 0x2111 4 img →
    (u.draftBusy = true → exec (.draftImage req img) s = .next (u.concluded req 0x2111 4 img Status.busy)) ∧
    (u.draftBusy = false → (u.ringImageCheck img).1 = Status.ok →
      ∃ t : State, exec (.draftImage req img) s = .next (t.concluded req 0x2111 4 img Status.ok) ∧ t.draft = u.ringImageValues img ∧ t.active = u.active ∧
        t.reg 0x2111 1 = field img 8 4 ∧ t.regBytes 0x2111 2 = slice img 0xC 8 ∧ SameLiveBut u t [0x211101, 0x211102, 0x211105]) ∧
    (u.draftBusy = false → (u.ringImageCheck img).1 ≠ Status.ok →
      exec (.draftImage req img) s = .next ((u.setReg 0x2111 5 (u.ringImageCheck img).2).concluded req 0x2111 4 img (u.ringImageCheck img).1)))

/-- The outcome of a commit and of a return (R180, R182 to R184, R187, R189). Prepared with no refusal, T is 20 µs after the last answer; a refusal
applies nothing, keeps the draft and reports the lowest entry; a die silent for 25 ms is a refusal of its lowest entry with TIMEOUT. At T the
active ring is the one committed and the ring that was active is the previous one, with a deadline of T plus the timeout or none; the deadline
starts a return with cause 3; a return makes the previous ring active, an entry out of service keeping its value, and leaves none held. `u` is
the state handed to the subsystems for uptake. During a succession of the trunk none of these happens (log entry 131). -/
def Obligations.RingOutcomes : Prop :=
  (∀ (s : State) (w : RingWork), s.ringWork = some w → s.health.succession = false → s.ringPhase = 1 → w.decided = false → w.timedOut = [] →
    s.refusals w.values = [] →
    exec .ringPrepareDone s = .next { s with ringWork := some { w with waiting := [], decided := true, commitT := s.now + us 20 } }) ∧
  (∀ (s : State) (w : RingWork) (r : Refused), s.ringWork = some w → s.health.succession = false → s.ringPhase = 1 → w.decided = false →
    lowestRefused (w.timedOut.filterMap (fun d => (w.asked.find? (fun a => a.1 = d)).map (fun a =>
      ({ status := Status.timeout, idx := a.2.1, sub := a.2.2 } : Refused))) ++ s.refusals w.values) = some r →
    ∃ t : State, exec .ringPrepareDone s = .next t ∧ t.ringWork = none ∧ t.ringPhase = 0 ∧ t.reg 0x2110 9 = r.status ∧ t.reg 0x2110 0xA = r.idx ∧
      t.reg 0x2110 0xB = r.sub ∧ SameRings s t ∧ t.mem = s.mem) ∧
  (∀ (die d2 : Nat) (ds : List Nat) (s : State) (w : RingWork), s.ringWork = some w → s.health.succession = false → s.ringPhase = 1 →
    w.decided = false → die ∈ w.waiting →
    w.waiting.erase die = d2 :: ds →
    exec (.ringPrepareTimeout die) s = .next { s.arriveAt (w.prepareAt + ms 25) with ringWork := some { w with
      waiting := d2 :: ds, timedOut := w.timedOut ++ [die] } }) ∧
  (∀ (die : Nat) (s : State) (w : RingWork), s.ringWork = some w → s.health.succession = false → s.ringPhase = 1 → w.decided = false → die ∈ w.waiting →
    w.waiting.erase die = [] →
    exec (.ringPrepareTimeout die) s = .next (State.ringDecide { s.arriveAt (w.prepareAt + ms 25) with ringWork := some { w with
      waiting := [], timedOut := w.timedOut ++ [die] } })) ∧
  (∀ (s : State) (w : RingWork), s.ringWork = some w → s.health.succession = false → s.ringPhase = 1 → w.decided = true →
    ∃ t u : State, exec .ringApplied s = .next t ∧ t = (u.ringUptake (s.arriveAt w.commitT)).ringEvent 1 w.version ∧ t.active = w.values ∧
      t.draft = w.values ∧ t.previous = some { version := s.ringVersion, label := s.regBytes 0x2110 2, values := s.active } ∧ t.ringWork = none ∧
      u.active = w.values ∧ u.ringVersion = w.version ∧ u.versionHigh = w.version ∧ u.regBytes 0x2110 2 = w.label ∧
      u.reg 0x2110 9 = (if w.degraded then Status.degraded else Status.ok) ∧
      (w.timeoutS = 0 → u.ringPhase = 0 ∧ u.reg 0x2110 7 = 0) ∧ (w.timeoutS ≠ 0 → u.ringPhase = 2 ∧ u.reg 0x2110 7 = w.commitT + sec w.timeoutS) ∧
      u.reg 0x2111 1 = (w.version + 1) % 2 ^ 32 ∧ t.now = max s.now w.commitT) ∧
  (∀ s : State, s.health.succession = false → s.ringPhase = 2 → s.reg 0x2110 7 ≠ 0 →
    exec .confirmDeadlineExpiry s = .next ((s.arriveAt (s.reg 0x2110 7)).startReturn 3)) ∧
  (∀ (s : State) (reason : Nat), (s.startReturn reason).ringPhase = 3 ∧ (s.startReturn reason).reg 0x2110 7 = 0 ∧
    (s.startReturn reason).ringWork = some { decided := true, commitT := s.now + us 20, cause := reason, prepareAt := s.now } ∧
    SameRings s (s.startReturn reason)) ∧
  (∀ (s : State) (w : RingWork) (r : HeldRing), s.ringWork = some w → s.previous = some r → s.health.succession = false → s.ringPhase = 3 →
    ∃ t u : State, exec .returnApplied s = .next t ∧ t = (u.ringUptake (s.arriveAt w.commitT)).ringEvent w.cause s.ringVersion ∧
      t.active = (s.arriveAt w.commitT).returnValues r.values ∧ t.draft = t.active ∧ t.previous = none ∧ t.ringWork = none ∧
      u.active = t.active ∧ u.ringVersion = r.version ∧ u.ringPhase = 0 ∧ u.reg 0x2110 7 = 0 ∧ t.now = max s.now w.commitT) ∧
  (∀ (s : State) (prev : Tab Val) (k : Nat), s.serviceStatus (k / 256) ≠ Status.hwFault →
    Tab.find? (s.returnValues prev) k = Tab.find? prev k) ∧
  (∀ (s : State) (prev : Tab Val) (k : Nat), s.serviceStatus (k / 256) = Status.hwFault →
    Tab.find? (s.returnValues prev) k = Tab.find? s.active k) ∧
  (∀ (die : Nat) (s : State), s.health.succession = true → exec .ringPrepareDone s = .next s ∧ exec (.ringPrepareTimeout die) s = .next s ∧
    exec .ringApplied s = .next s ∧ exec .confirmDeadlineExpiry s = .next s ∧ exec .returnApplied s = .next s)

/-- NMT, the heartbeat and the wake frame (R146, R147, R156, R158, R164, R165, R692). A command that names this node or every node (0) acts while
the port runs: START gives NMT state 5, STOP from another state gives 4 and ends the open sessions, and both resets end the sessions, take up the
node ID, send the boot-up message, give NMT state 0x7F, or 5 with auto_start, start the heartbeat period and clear the bus state; any other
NMT command changes nothing. A due heartbeat carries the NMT state in an FD base frame, with bit-rate switching when a data rate is
configured, and is due again a period later; with none due, the port not running or the trunk in succession nothing is sent. A matching
classic base wake frame is wake source 2: it begins the exit from SLEEP and DEEP_SLEEP and is kept during an entry into one; no other frame is. -/
def Obligations.NmtHeartbeatWake : Prop :=
  (∀ (node : Nat) (s : State), s.mcanRuns = true → node = 0 ∨ node = s.nodeId →
    exec (.nmtStart node) s = .next (s.setReg 0x1F11 2 5) ∧
    (s.nmtState ≠ 4 → exec (.nmtStop node) s = .next (State.setReg { s with mcan := { s.mcan with sessions := [] } } 0x1F11 2 4)) ∧
    (s.nmtState = 4 → exec (.nmtStop node) s = .next s) ∧
    exec (.nmtResetNode node) s = .next s.commReset ∧ exec (.nmtResetCommunication node) s = .next s.commReset) ∧
  (∀ (node : Nat) (s : State), s.mcanRuns = false ∨ (node ≠ 0 ∧ node ≠ s.nodeId) → exec (.nmtStart node) s = .next s ∧ exec (.nmtStop node) s = .next s ∧
    exec (.nmtResetNode node) s = .next s ∧ exec (.nmtResetCommunication node) s = .next s) ∧
  (∀ s : State, s.commReset.nmtState = (if s.cfg 0x1F10 8 = 1 then 5 else 0x7F) ∧ s.commReset.nodeId = s.cfg 0x1F10 5 + s.reg 0x2002 3 ∧
    s.commReset.reg 0x1F11 3 = 0 ∧
    s.commReset.mcan = { s.mcan with
      sessions := [], busOff := false, heartbeatDue := if s.cfg 0x1017 0 = 0 then none else some (s.now + ms (s.cfg 0x1017 0)) } ∧
    s.commReset.out = { s.out with mcan := s.out.mcan ++
      [{ identifier := 0x700 + (s.cfg 0x1F10 5 + s.reg 0x2002 3), data := [0], fdf := true, brs := decide (s.cfg 0x1F10 2 ≠ 0) }] } ∧
    SameLiveBut s s.commReset [0x1F1101, 0x1F1102, 0x1F1103] ∧ SameMemory s s.commReset ∧ SameRings s s.commReset) ∧
  (∀ (t : Nat) (s : State), s.mcan.heartbeatDue = some t → s.mcanRuns = true → s.health.succession = false →
    exec .heartbeat s = .next { s.arriveAt t with
      mcan := { s.mcan with heartbeatDue := if s.cfg 0x1017 0 = 0 then none else some (t + ms (s.cfg 0x1017 0)) }
      out := { s.out with mcan := s.out.mcan ++
        [{ identifier := 0x700 + s.nodeId, data := leBytes 1 s.nmtState, fdf := true, brs := decide (s.cfg 0x1F10 2 ≠ 0) }] } }) ∧
  (∀ s : State, s.mcan.heartbeatDue = none ∨ s.mcanRuns = false ∨ s.health.succession = true → exec .heartbeat s = .next s) ∧
  (∀ (data : List Byte) (s : State), s.operational = true → s.health.stopped = false → data.length = 2 → field data 0 1 = 0x57 →
    field data 1 1 = s.nodeId ∨ (field data 1 1 = 0 ∧ s.cfg 0x1F10 7 = 1) →
    exec (.wakeFrame (s.cfg 0x1F10 6) false data false false) s = .next (s.wakeFrom 2)) ∧
  (∀ (id : Nat) (ide rtr fdf : Bool) (data : List Byte) (s : State),
    ide = true ∨ rtr = true ∨ fdf = true ∨ id ≠ s.cfg 0x1F10 6 ∨ data.length ≠ 2 ∨ field data 0 1 ≠ 0x57 ∨
      (field data 1 1 ≠ s.nodeId ∧ (field data 1 1 ≠ 0 ∨ s.cfg 0x1F10 7 ≠ 1)) ∨ s.operational = false ∨ s.health.stopped = true →
    exec (.wakeFrame id fdf data ide rtr) s = .next s) ∧
  (∀ s : State, s.exitRuns = false → s.entryRuns = false →
    (s.powerState = 2 ∨ s.powerState = 3 → s.wakeFrom 2 = s.beginExit 2 ∧ (s.wakeFrom 2).reg 0x2400 3 = 3 ∧ (s.wakeFrom 2).power.exitSource = 2 ∧
      (s.wakeFrom 2).power.exitFrom = s.powerState) ∧
    (s.powerState ≠ 2 → s.powerState ≠ 3 → s.wakeFrom 2 = s)) ∧
  (∀ s : State, s.exitRuns = false → s.entryRuns = true → s.power.target = 2 ∨ s.power.target = 3 → s.power.wakeDuring = none →
    (s.wakeFrom 2).power = { s.power with wakeDuring := some 2 })

/-- Bus errors and EMCYs (R148, R159 to R162, R697). Recovery from bus-off counts it, raises EMCY 0x8140 and clears error bit 4; error passive sets
bits 4 and 0 and raises 0x8120, error active clears bit 4 (log entry 125), bus-off is shown as state 2; a report of the state held, or with the port
not running, changes nothing. Every EMCY raised takes the next sequence number; with 15 ordinary ones waiting a further one is dropped and
counted, 0xFF01 takes a slot of its own and 0xFF02 the slot that leaves last (log entry 124). While the port is open the oldest that waits
leaves as a frame with its 20 bytes, no sooner than the inhibit time after the last; with none waiting or the port shut nothing leaves. The
replacement request is repeated with the present register, health and sequence number, absorbed by one not yet sent, or ended with
svc_repeat_s 0; a frame that leaves after it absorbed a repeat starts the period again. -/
def Obligations.EmcyAndErrors : Prop :=
  (∀ s : State, s.serving = true → exec .mcanBusOffRecovery s =
    .next ((((s.setReg 0x1F11 3 0).inc 0x1F11 6).raiseEmcy 0x8140 Status.ok 0xFF 0 0).clearErrorBit 4)) ∧
  (∀ s : State, s.serving = false → exec .mcanBusOffRecovery s = .next s) ∧
  (∀ s : State, s.mcanRuns = true → (s.reg 0x1F11 3 ≠ 1 → exec (.mcanErrorPassive 1) s =
      .next (((s.setReg 0x1F11 3 1).errorBit 4).raiseEmcy 0x8120 Status.ok 0xFF 0 0)) ∧
    (s.reg 0x1F11 3 ≠ 0 → exec (.mcanErrorPassive 0) s = .next ((s.setReg 0x1F11 3 0).clearErrorBit 4)) ∧
    exec (.mcanErrorPassive 2) s = .next ((s.setReg 0x1F11 3 2).errorBit 4)) ∧
  (∀ (n : Nat) (s : State), s.mcanRuns = false ∨ s.reg 0x1F11 3 = n → exec (.mcanErrorPassive n) s = .next s) ∧
  (∀ (s : State) (n : Nat), n < 8 → n ≠ 0 → bit ((s.errorBit n).reg 0x1001 0) n = true ∧
    bit ((s.errorBit n).reg 0x1001 0) 0 = true) ∧
  (∀ (s : State) (code status die cls resource : Nat), s.raiseEmcy code status die cls resource = s.queueEmcy
    { code := code, register := s.reg 0x1001 0, health := s.healthState, status := status, die := die, cls := cls, resource := resource,
      sequence := s.mcan.nextSequence, time := s.now }) ∧
  (∀ (s : State) (e : Emcy), e.code ≠ 0xFF01 → e.code ≠ 0xFF02 → s.mcan.queue.length < 15 → (s.queueEmcy e).mcan = { s.mcan with
    nextSequence := (s.mcan.nextSequence + 1) % 65536, queue := s.mcan.queue ++ [e] }) ∧
  (∀ (s : State) (e : Emcy), e.code ≠ 0xFF01 → e.code ≠ 0xFF02 → 15 ≤ s.mcan.queue.length → (s.queueEmcy e).mcan = { s.mcan with
    nextSequence := (s.mcan.nextSequence + 1) % 65536 } ∧ (s.queueEmcy e).reg 0x1F11 5 = min (2 ^ 32 - 1) (s.reg 0x1F11 5 + 1)) ∧
  (∀ (s : State) (e : Emcy), (e.code = 0xFF01 → (s.queueEmcy e).mcan = { s.mcan with
      nextSequence := (s.mcan.nextSequence + 1) % 65536, replacement := some e }) ∧
    (e.code = 0xFF02 → (s.queueEmcy e).mcan = { s.mcan with nextSequence := (s.mcan.nextSequence + 1) % 65536, failure := some e })) ∧
  (∀ e : Emcy, e.bytes.length = 20 ∧ field e.bytes 0 2 = e.code % 65536 ∧ field e.bytes 2 1 = e.register % 256 ∧ field e.bytes 3 1 = e.health % 256 ∧
    field e.bytes 4 2 = e.status % 65536 ∧ field e.bytes 6 1 = e.die % 256 ∧ field e.bytes 7 1 = e.cls % 256 ∧
    field e.bytes 8 2 = e.resource % 65536 ∧ field e.bytes 10 2 = e.sequence % 65536 ∧ field e.bytes 12 8 = e.time % 2 ^ 64) ∧
  (∀ s : State, (s.mcan.queue = [] → s.mcan.replacement = none → s.nextEmcy = s.mcan.failure) ∧
    (∀ r, s.mcan.queue = [] → s.mcan.replacement = some r → s.nextEmcy = some r) ∧
    (∀ e es, s.mcan.queue = e :: es → s.mcan.replacement = none → s.nextEmcy = some e) ∧
    (∀ e es r, s.mcan.queue = e :: es → s.mcan.replacement = some r → s.nextEmcy = some (if s.emcyAge e < s.emcyAge r then r else e))) ∧
  (∀ (s : State) (e : Emcy), s.nextEmcy = some e → s.emcyOpen = true →
    ∃ t : State, exec .emcySend s = .next t ∧ t.now = (match s.mcan.lastEmcy with | none => s.now | some l => max s.now (l + ms (s.cfg 0x1F10 0xB))) ∧
      t.out = { s.out with mcan := s.out.mcan ++ [{ identifier := 0x80 + s.nodeId, data := e.bytes, fdf := true, brs := decide (s.cfg 0x1F10 2 ≠ 0) }] } ∧
      t.mcan = { s.mcan.withoutEmcy e with
        lastEmcy := some t.now
        repeatDue := if s.mcan.replacement = some e ∧ s.mcan.repeatDue = none ∧ s.healthState = 1 ∧ s.cfg 0x1F10 0xA ≠ 0
          then some (t.now + sec (s.cfg 0x1F10 0xA)) else s.mcan.repeatDue } ∧
      t.live = s.live ∧ SameMemory s t ∧ SameRings s t) ∧
  (∀ s : State, s.nextEmcy = none ∨ s.emcyOpen = false → exec .emcySend s = .next s) ∧
  (∀ (m : Mcan) (e : Emcy), (m.replacement = some e → m.withoutEmcy e = { m with replacement := none }) ∧
    (∀ es, m.replacement ≠ some e → m.queue = e :: es → m.withoutEmcy e = { m with queue := es }) ∧
    (m.replacement ≠ some e → m.queue = [] → m.withoutEmcy e = { m with failure := none })) ∧
  (∀ (s : State) (t : Nat) (e : Emcy), s.mcan.repeatDue = some t → s.mcan.firstRequest = some e → s.operational = true → s.health.stopped = false →
    s.healthState = 1 →
    (s.mcan.replacement ≠ none → exec .svcRepeat s = .next { s.arriveAt t with mcan := { s.mcan with repeatDue := none } }) ∧
    (s.mcan.replacement = none → s.cfg 0x1F10 0xA = 0 → exec .svcRepeat s = .next { s.arriveAt t with mcan := { s.mcan with repeatDue := none } }) ∧
    (s.mcan.replacement = none → s.cfg 0x1F10 0xA ≠ 0 → e.code = 0xFF01 → ∃ u : State, exec .svcRepeat s = .next u ∧ u.mcan = { s.mcan with
      nextSequence := (s.mcan.nextSequence + 1) % 65536
      replacement := some { e with register := s.reg 0x1001 0, health := 1, sequence := s.mcan.nextSequence }
      repeatDue := some (t + sec (s.cfg 0x1F10 0xA)) })) ∧
  (∀ s : State, s.mcan.repeatDue = none ∨ s.mcan.firstRequest = none ∨ s.operational = false ∨ s.health.stopped = true ∨ s.healthState ≠ 1 →
    exec .svcRepeat s = .next s)

/-- USDO (R105, R147, R151 to R153, R155, R157, R163, R170). An expedited transfer and the last segment of a download serve the request; an
expedited transfer of more than 56 bytes changes nothing. A segmented upload captures the value when it begins; a session that is not open is
opened, a fifth is refused with abort 0x05040005 and a block transfer with 0x05040001. Segments add their bytes and restart the timeout; the
last of an upload returns the captured value; a session whose segment does not arrive ends with TIMEOUT and abort 0x05040000 and its data is
dropped. Requests are served in PRE-OPERATIONAL and OPERATIONAL or by the ROM's server, elsewhere none is, and none of a session that is not
open. A download to 0x1F12 is answered and then run as a request of the tunnel, BUSY while another runs. Every answer leaves in FD frames, with
bit-rate switching when a data rate is configured. -/
def Obligations.UsdoTransfers : Prop :=
  (∀ (idx sub : Nat) (s : State), s.usdoServed = true →
    (∀ a, (s.submit .mcan (.read idx sub .active)).out.usdo.getLast? = some a → a.body.length ≤ 56) →
    exec (.usdoExpeditedUpload idx sub) s = .next (s.submit .mcan (.read idx sub .active))) ∧
  (∀ (idx sub : Nat) (s : State) (a : UsdoAnswer), (s.submit .mcan (.read idx sub .active)).out.usdo.getLast? = some a → 56 < a.body.length →
    exec (.usdoExpeditedUpload idx sub) s = .next s) ∧
  (∀ (idx sub : Nat) (data : List Byte) (s : State), s.usdoServed = true → data.length ≤ 56 →
    exec (.usdoExpeditedDownload idx sub data) s = .next (s.submit .mcan (.write idx sub data))) ∧
  (∀ (idx sub : Nat) (data : List Byte) (s : State), 56 < data.length → exec (.usdoExpeditedDownload idx sub data) s = .next s) ∧
  (∀ (n idx sub : Nat) (s : State) (a : UsdoAnswer), s.usdoServed = true → s.session? n = none → s.mcan.sessions.length < 4 →
    (s.submit .mcan (.read idx sub .active)).out.usdo.getLast? = some a →
    (a.abort ≠ none → exec (.usdoSegmentedUpload n idx sub) s = .next (s.submit .mcan (.read idx sub .active))) ∧
    (a.abort = none → (s.submit .mcan (.read idx sub .active)).mcan.sessions = s.mcan.sessions →
      ∃ t : State, exec (.usdoSegmentedUpload n idx sub) s = .next t ∧ t.mcan.sessions = s.mcan.sessions ++ [⟨n, idx, sub, false, a.body, s.sessionDeadline⟩] ∧
        t.reg 0x1F11 4 = s.reg 0x1F11 4)) ∧
  (∀ (n idx sub : Nat) (s : State), s.usdoServed = true → s.session? n = none → s.mcan.sessions.length < 4 →
    exec (.usdoSegmentedDownload n idx sub) s = .next { s with mcan := { s.mcan with
      sessions := s.mcan.sessions ++ [⟨n, idx, sub, true, [], s.sessionDeadline⟩] } }) ∧
  (∀ (n idx sub : Nat) (s : State), s.usdoServed = true → s.session? n = none → 4 ≤ s.mcan.sessions.length →
    exec (.usdoSegmentedDownload n idx sub) s = .next (s.usdoAbort 0x05040005) ∧ exec (.usdoSegmentedUpload n idx sub) s = .next (s.usdoAbort 0x05040005)) ∧
  (∀ (n idx sub : Nat) (s : State) (x : UsdoSession), s.session? n = some x →
    exec (.usdoSegmentedDownload n idx sub) s = .next s ∧ exec (.usdoSegmentedUpload n idx sub) s = .next s) ∧
  (∀ (n : Nat) (data : List Byte) (s : State) (x : UsdoSession), s.session? n = some x → s.usdoServed = true → s.now ≤ x.deadline → x.download = true →
    exec (.usdoSegment n data false) s = .next (s.setSessions (fun l => l.map (fun z => if z.id = n
      then { x with data := x.data ++ data, deadline := s.sessionDeadline } else z))) ∧
    exec (.usdoSegment n data true) s = .next ((s.setSessions (fun l => l.filter (fun z => z.id ≠ n))).submit .mcan (.write x.idx x.sub (x.data ++ data)))) ∧
  (∀ (n : Nat) (data : List Byte) (s : State) (x : UsdoSession), s.session? n = some x → s.usdoServed = true → s.now ≤ x.deadline → x.download = false →
    exec (.usdoSegment n data false) s = .next (s.setSessions (fun l => l.map (fun z => if z.id = n
      then { x with deadline := s.sessionDeadline } else z))) ∧
    ∃ t : State, exec (.usdoSegment n data true) s = .next t ∧
      t.out = { s.out with usdo := s.out.usdo ++ [{ status := Status.ok, body := x.data, fdf := true, brs := decide (s.cfg 0x1F10 2 ≠ 0) }] } ∧
      t.reg 0x1F11 4 = 0 ∧ t.mcan = { s.mcan with sessions := s.mcan.sessions.filter (fun z => z.id ≠ n) } ∧
      SameLiveBut s t [0x1F1104] ∧ SameMemory s t ∧ SameRings s t) ∧
  (∀ (n : Nat) (data : List Byte) (last : Bool) (s : State) (x : UsdoSession), s.session? n = some x → s.usdoServed = false ∨ x.deadline < s.now →
    exec (.usdoSegment n data last) s = .next s) ∧
  (∀ (idx sub : Nat) (s : State), s.usdoServed = true → exec (.usdoBlockTransfer idx sub) s = .next (s.usdoAbort 0x05040001)) ∧
  (∀ (s : State) (code : Nat), s.usdoAbort code = { s with out := { s.out with usdo := s.out.usdo ++
    [{ status := if code = 0x05040000 then Status.timeout else Status.aborted, abort := some code, body := [], fdf := true,
       brs := decide (s.cfg 0x1F10 2 ≠ 0) }] } }) ∧
  (∀ (n : Nat) (s : State) (x : UsdoSession), s.session? n = some x → s.usdoServed = true →
    (s.operational = true → exec (.usdoTimeout n) s = .next (s.sessionExpires x)) ∧
    (s.bootState = 2 → exec (.recoverySegmentTimeout n) s = .next (s.sessionExpires x)) ∧
    s.sessionExpires x = ((s.arriveAt x.deadline).setSessions (fun l => l.filter (fun z => z.id ≠ x.id))).usdoAbort 0x05040000) ∧
  (∀ (n : Nat) (s : State) (x : UsdoSession), s.session? n = some x →
    (s.operational = false ∨ s.usdoServed = false → exec (.usdoTimeout n) s = .next s) ∧
    (s.bootState ≠ 2 ∨ s.usdoServed = false → exec (.recoverySegmentTimeout n) s = .next s)) ∧
  (∀ (n : Nat) (data : List Byte) (last : Bool) (s : State), s.session? n = none →
    exec (.usdoSegment n data last) s = .next s ∧ exec (.usdoTimeout n) s = .next s ∧ exec (.recoverySegmentTimeout n) s = .next s) ∧
  (∀ (m : List Byte) (s : State), s.usdoServed = true → exec (.tunnelRequest m) s = .next (s.submit .mcan (.write 0x1F12 0 m)) ∧
    (s.operational = true → s.health.succession = false → s.writeStatus .mcan 0x1F12 0 m = Status.ok →
      (s.mcan.tunnelRunning = false → exec (.tunnelRequest m) s =
        .next ((s.answer .mcan 2 Status.ok 0 [] 0x1F12 0 0).runTunnel m).settleRequests) ∧
      (s.mcan.tunnelRunning = true → exec (.tunnelRequest m) s = .next (s.answer .mcan 2 Status.busy 0 [] 0x1F12 0 0).settleRequests))) ∧
  (∀ (n idx sub : Nat) (data : List Byte) (s : State), s.usdoServed = false →
    exec (.usdoExpeditedUpload idx sub) s = .next s ∧ exec (.usdoExpeditedDownload idx sub data) s = .next s ∧
    exec (.usdoSegmentedUpload n idx sub) s = .next s ∧ exec (.usdoSegmentedDownload n idx sub) s = .next s ∧
    exec (.usdoBlockTransfer idx sub) s = .next s ∧ exec (.tunnelRequest data) s = .next s)

/-- Submission queues (R201, R203 to R205, R231, R619). A tail within the ring is recorded and wakes the device from SLEEP, one beyond it stops the
queue with RANGE and writes its QUEUE_ERROR event, one of a frozen instance is only recorded, one to a queue that is stopped or not enabled is
ignored. Setting ENABLE with a type, size, target and base that pass the checks starts the queue empty; one that fails leaves it disabled with
the status. Clearing ENABLE discards what is fetched and not started, audio buffers, lane requests and a haptic effect of that queue, and
nothing of another queue. A queue the page does not have, a page that takes no writes, and a second ENABLE change nothing. -/
def Obligations.SubmissionQueues : Prop :=
  (∀ (i q tail : Nat) (s : State), s.pageWritable i = true → q < 16 → (s.sq i q).enabled = true → (s.sq i q).stopped = false →
    (s.isShed i = false → tail % 65536 < (s.sq i q).size → s.powerState ≠ 2 →
      exec (.sqTail i q tail) s = .next (s.modSq i q (fun y => { y with tail := tail % 65536 }))) ∧
    (s.isShed i = false → tail % 65536 < (s.sq i q).size → s.powerState = 2 →
      exec (.sqTail i q tail) s = .next ((s.modSq i q (fun y => { y with tail := tail % 65536 })).wakeFrom 4)) ∧
    (s.isShed i = false → (s.sq i q).size ≤ tail % 65536 → exec (.sqTail i q tail) s = .next (s.stopQueue i q Status.range)) ∧
    (s.isShed i = true → exec (.sqTail i q tail) s = .next (s.modSq i q (fun y => { y with tail := tail % 65536 })))) ∧
  (∀ (i q tail : Nat) (s : State), s.pageWritable i = false ∨ 16 ≤ q ∨ (s.sq i q).enabled = false ∨ (s.sq i q).stopped = true →
    exec (.sqTail i q tail) s = .next s) ∧
  (∀ (i q : Nat) (config : Word32) (s : State), s.pageWritable i = true → q < 16 → (s.sq i q).enabled = false → config.getLsbD 31 = true →
    (s.enableStatus i q config = Status.ok → exec (.sqEnable i q config) s = .next (s.modSq i q (fun y => { y with
      config := sqConfigMask config, head := 0, tail := 0, stopped := false }))) ∧
    (s.enableStatus i q config ≠ Status.ok → exec (.sqEnable i q config) s = .next (s.modSq i q (fun y => { y with
      config := sqConfigMask config &&& 0x7FFFFFFF#32, status := s.enableStatus i q config })))) ∧
  (∀ (i q : Nat) (config : Word32) (s : State), s.pageWritable i = false ∨ 16 ≤ q ∨ (s.sq i q).enabled = true ∨ config.getLsbD 31 = false →
    exec (.sqEnable i q config) s = .next s) ∧
  (∀ (i q : Nat) (f : Sq → Sq) (s : State), (s.modSq i q f).sq i q = f (s.sq i q) ∧ (∀ j p, (j, p) ≠ (i, q) → (s.modSq i q f).sq j p = s.sq j p) ∧
    (∀ j, j ≠ i → (s.modSq i q f).inst j = s.inst j) ∧ (s.modSq i q f).live = s.live ∧ SameMemory s (s.modSq i q f) ∧ SameRings s (s.modSq i q f) ∧
    (s.modSq i q f).out = s.out) ∧
  (∀ (i q : Nat) (config : Word32) (s : State),
    s.enableStatus i q config =
      if bits config.toNat 23 16 = 0 ∨ 6 < bits config.toNat 23 16 ∨ 12 < bits config.toNat 15 12 then Status.range
      else if s.targetHeld i (bits config.toNat 23 16) (s.sq i q).target = false ∨ (config.getLsbD 30 = true ∧ s.quota i ≤ (s.sq i q).base)
        then Status.deniedInstance
      else if s.serviceStatus (targetIndex (bits config.toNat 23 16) (s.sq i q).target) = Status.hwFault then Status.hwFault else Status.ok) ∧
  (∀ (i q : Nat) (s : State), s.pageWritable i = true → q < 16 → (s.sq i q).enabled = true →
    exec (.sqDisable i q) s = .next ((s.discardUnstarted i q).modSq i q (fun x => { x with config := x.config &&& 0x7FFFFFFF#32 }))) ∧
  (∀ (i q : Nat) (s : State), s.pageWritable i = false ∨ 16 ≤ q ∨ (s.sq i q).enabled = false → exec (.sqDisable i q) s = .next s) ∧
  (∀ (i q : Nat) (s : State),
    ((s.sq i q).type ≠ 3 → (s.sq i q).type ≠ 4 → (s.sq i q).type ≠ 6 → s.discardUnstarted i q = s) ∧
    ((s.sq i q).type = 3 → ∀ n, n < 48 → ((s.discardUnstarted i q).stream n).buffers =
      (s.stream n).buffers.filter (fun b => b.started || decide (b.inst ≠ i ∨ b.q ≠ q))) ∧
    ((s.sq i q).type = 4 → ∀ l, ((s.discardUnstarted i q).lane l).queue = (s.lane l).queue.filter (fun r => !r.2.fromQueue i q)) ∧
    ((s.sq i q).type = 6 → ∀ c, ((s.discardUnstarted i q).hap c).play =
      if c = (s.sq i q).target then (s.hap c).play.bind (fun p => if p.inst = i ∧ p.q = q then none else some p) else (s.hap c).play)) ∧
  (∀ (s : State) (i q st : Nat), ∃ u : State, s.stopQueue i q st = u.event i 0x0005 q st 0xFF 0 0 ∧
    u = s.modSq i q (fun x => { x with stopped := true, status := st }))

/-- Event rings (R98, R206, R207, R209). Setting ENABLE with a size up to 2^16 records and, in device memory, a last byte below the quota starts the
ring empty in phase 1, and I0's then takes the records that boot held; one that fails leaves it disabled. Clearing ENABLE stops the ring and
keeps its indices. The moderation timer sends the vector of a ring with unread records, `EVQ_MODERATION` µs after the last; a ring with
none, with no moderation, with no vector sent yet or not enabled sends nothing. A page that takes no writes changes nothing. -/
def Obligations.EventRingControl : Prop :=
  (∀ (i : Nat) (config : Word32) (s : State), i ≠ 0 → s.pageWritable i = true → (s.inst i).evq.enabled = false → config.getLsbD 31 = true →
    s.evqOk i config = true → exec (.evqEnable i config) s = .next (s.modInst i (fun x => { x with evq := { x.evq with
      config := evqConfigMask config, head := 0, tail := 0, phase := true, lastIrq := none } }))) ∧
  (∀ (config : Word32) (s : State), s.pageWritable 0 = true → (s.inst 0).evq.enabled = false → config.getLsbD 31 = true → s.evqOk 0 config = true →
    exec (.evqEnable 0 config) s = .next (State.deliverAll { s.modInst 0 (fun x => { x with evq := { x.evq with
      config := evqConfigMask config, head := 0, tail := 0, phase := true, lastIrq := none } }) with boot := { s.boot with slotEvents := [] } }
      0 s.boot.slotEvents)) ∧
  (∀ (i : Nat) (config : Word32) (s : State), s.pageWritable i = true → (s.inst i).evq.enabled = false → config.getLsbD 31 = true →
    s.evqOk i config = false → exec (.evqEnable i config) s = .next (s.modInst i (fun x => { x with evq := { x.evq with
      config := evqConfigMask config &&& 0x7FFFFFFF#32 } }))) ∧
  (∀ (i : Nat) (config : Word32) (s : State), s.pageWritable i = false ∨ (s.inst i).evq.enabled = true ∨ config.getLsbD 31 = false →
    exec (.evqEnable i config) s = .next s) ∧
  (∀ (i : Nat) (config : Word32) (s : State), s.evqOk i config = true ↔ (bits config.toNat 19 16 ≤ 10 ∧
    (config.getLsbD 30 = true → s.belowQuota i (s.inst i).evq.base (32 * (64 * 2 ^ bits config.toNat 19 16)) = true))) ∧
  (∀ (i : Nat) (s : State), s.pageWritable i = true → (s.inst i).evq.enabled = true →
    exec (.evqDisable i) s = .next (s.modInst i (fun x => { x with evq := { x.evq with config := x.evq.config &&& 0x7FFFFFFF#32 } }))) ∧
  (∀ (i : Nat) (s : State), s.pageWritable i = false ∨ (s.inst i).evq.enabled = false → exec (.evqDisable i) s = .next s) ∧
  (∀ (i l : Nat) (s : State), s.pageWritable i = true → (s.inst i).evq.enabled = true → (s.inst i).evq.head ≠ (s.inst i).evq.tail →
    (s.inst i).evq.moderation ≠ 0 → (s.inst i).evq.lastIrq = some l →
    exec (.evqModerationExpiry i) s = .next (((s.arriveAt (l + us (s.inst i).evq.moderation)).modInst i (fun x => { x with evq := { x.evq with
      lastIrq := some (max s.now (l + us (s.inst i).evq.moderation)) } })).sendVector i (s.inst i).evq.vector)) ∧
  (∀ (i : Nat) (s : State), s.pageWritable i = false ∨ (s.inst i).evq.enabled = false ∨ (s.inst i).evq.head = (s.inst i).evq.tail ∨
    (s.inst i).evq.moderation = 0 ∨ (s.inst i).evq.lastIrq = none → exec (.evqModerationExpiry i) s = .next s) ∧
  (∀ (i : Nat) (f : Inst → Inst) (s : State), (s.modInst i f).inst i = f (s.inst i) ∧ (∀ j, j ≠ i → (s.modInst i f).inst j = s.inst j) ∧
    (s.modInst i f).live = s.live ∧ SameMemory s (s.modInst i f) ∧ SameRings s (s.modInst i f) ∧ (s.modInst i f).out = s.out)

/-- Where a record goes (R79, R198, R199, R206, R208 to R210, R233, R692, R697). With the ring enabled and not full, the instance not frozen and no
succession of the trunk, the record lies in the slot EVQ_TAIL names with the phase, the sequence number and the LOST flag; the tail and the
sequence number move by one and the phase turns at the wrap. A full or disabled ring drops it and counts it in events_lost, and the next record
carries LOST. A frozen instance holds up to 512 and drops the rest; before OPERATIONAL and in FAILED none is written. The records of other
instances, the directory's other entries, the rings and the device's memory are untouched. MSI-X: a vector that is masked, or beyond the
table, becomes pending and nothing is sent, else it is sent; with MSI-X disabled neither happens (log entry 177). -/
def Obligations.EventDelivery : Prop :=
  (∀ (s : State) (i : Nat) (r : EvRecord), s.operational = true → s.health.stopped = false → s.health.succession = false → s.isShed i = false →
    (s.inst i).evq.enabled = true → (s.inst i).evq.full = false →
    let e := (s.inst i).evq
    let f := ((s.deliver i r).inst i).evq
    Tab.getD f.slots e.tail r = { r with flags := ofBool e.phase + 2 * ofBool e.lost, sequence := e.sequence } ∧ f.tail = (e.tail + 1) % e.size ∧
    f.head = e.head ∧ f.sequence = (e.sequence + 1) % 2 ^ 32 ∧ f.lost = false ∧ f.phase = (if (e.tail + 1) % e.size = 0 then !e.phase else e.phase) ∧
    (∀ n, n ≠ e.tail → Tab.getD f.slots n r = Tab.getD e.slots n r) ∧ (s.deliver i r).live = s.live ∧ (s.deliver i r).mem = s.mem ∧
    SameRings s (s.deliver i r) ∧ ∀ j, j ≠ i → (s.deliver i r).inst j = s.inst j) ∧
  (∀ (s : State) (i : Nat) (r : EvRecord), s.operational = true → s.health.stopped = false → s.health.succession = false →
    (s.isShed i = false ∧ ((s.inst i).evq.enabled = false ∨ (s.inst i).evq.full = true)) ∨ (s.isShed i = true ∧ 512 ≤ (s.inst i).held.length) →
    (s.deliver i r).inst i = { s.inst i with evq := { (s.inst i).evq with lost := true } } ∧
    (s.deliver i r).reg (0x2200 + i) 0x12 = satAdd (entryBits (0x2200 + i) 0x12) (s.reg (0x2200 + i) 0x12) 1 ∧
    SameLiveBut s (s.deliver i r) [entryKey (0x2200 + i) 0x12] ∧ SameMemory s (s.deliver i r) ∧ SameRings s (s.deliver i r) ∧
    (s.deliver i r).out = s.out ∧ ∀ j, j ≠ i → (s.deliver i r).inst j = s.inst j) ∧
  (∀ (s : State) (i : Nat) (r : EvRecord), s.operational = true → s.health.stopped = false → s.health.succession = false → s.isShed i = true →
    (s.inst i).held.length < 512 → s.deliver i r = s.setInst i { s.inst i with held := (s.inst i).held ++ [r] }) ∧
  (∀ (s : State) (i : Nat) (r : EvRecord), s.operational = false ∨ s.health.stopped = true → s.deliver i r = s) ∧
  (∀ (s : State) (i v : Nat), (s.inst i).msixEnabled = true →
    (v < (s.inst i).msixSize → (s.inst i).functionMask = false → (Tab.getD (s.inst i).vectors v {}).masked = false →
      s.sendVector i v = { s with out := { s.out with msix := s.out.msix ++ [(i, v)] } }) ∧
    ((s.inst i).msixSize ≤ v ∨ (s.inst i).functionMask = true ∨ (Tab.getD (s.inst i).vectors v {}).masked = true →
      s.sendVector i v = s.modInst i (fun x => { x with vectors := Tab.put x.vectors v { Tab.getD x.vectors v {} with pending := true } }))) ∧
  (∀ (s : State) (i v : Nat), (s.inst i).msixEnabled = false → s.sendVector i v = s)

/-- Accesses of the host and of management cores (R26 to R28, R86, R196, R197, R212, R220, R231, R246 to R248, R262). A BAR2 store writes the
instance's memory at the window aperture_base selects and nowhere else, not while the instance is frozen; a load returns it; one that does not
translate, or passes the window, is refused with an Unsupported Request. A register write goes to the page, the mailbox doorbell, the boot
window, the configuration space, the directory, a device address or a die's control window; the page's vector register and the base address
register of BAR2 keep the bits they hold, an RO register keeps its value, and a configuration write before the functions present themselves is
ignored. A core's refused access is counted with its attribute word and takes a store or load access fault, a refused load with zeros; a
permitted one reads or writes the memory; a secure core sets a granule's code. A core that does not run does nothing. A malformed packet and an
unexpected completion are reported and change nothing else. -/
def Obligations.HostAccess : Prop :=
  (∀ (i offset len : Nat) (bs : List Byte) (s : State), s.pageOpen i = true → s.isShed i = false →
    offset + bs.length ≤ (if i = 0 then 2 ^ 32 else 2 ^ 28) → s.idaOk i (s.reg (0x2200 + i) 0x11 * 1048576 + offset) bs.length = true →
    ∃ t : State, exec (.bar2Access i offset (some bs) len) s = .next t ∧
      (∀ n, n < bs.length → Memory.read t.imem (idaKey i (s.reg (0x2200 + i) 0x11 * 1048576 + offset) + n) = bs.getD n 0) ∧
      (∀ a, a < idaKey i (s.reg (0x2200 + i) 0x11 * 1048576 + offset) ∨ idaKey i (s.reg (0x2200 + i) 0x11 * 1048576 + offset) + bs.length ≤ a →
        Memory.read t.imem a = Memory.read s.imem a) ∧ t.mem = s.mem ∧ t.live = s.live ∧ SameRings s t ∧ t.out = s.out) ∧
  (∀ (i offset len : Nat) (bs : List Byte) (s : State), s.pageOpen i = true → s.isShed i = true →
    offset + bs.length ≤ (if i = 0 then 2 ^ 32 else 2 ^ 28) → s.idaOk i (s.reg (0x2200 + i) 0x11 * 1048576 + offset) bs.length = true →
    exec (.bar2Access i offset (some bs) len) s = .next s) ∧
  (∀ (i offset len : Nat) (s : State), s.pageOpen i = true → offset + len ≤ (if i = 0 then 2 ^ 32 else 2 ^ 28) →
    s.idaOk i (s.reg (0x2200 + i) 0x11 * 1048576 + offset) len = true →
    exec (.bar2Access i offset none len) s = .next { s with out := { s.out with reads := s.out.reads ++
      [(i, s.imem.readBytes (idaKey i (s.reg (0x2200 + i) 0x11 * 1048576 + offset)) len)] } }) ∧
  (∀ (i offset len n : Nat) (store : Option (List Byte)) (s : State), s.pageOpen i = true → n = (match store with | none => len | some bs => bs.length) →
    (if i = 0 then 2 ^ 32 else 2 ^ 28) < offset + n ∨ s.idaOk i (s.reg (0x2200 + i) 0x11 * 1048576 + offset) n = false →
    exec (.bar2Access i offset store len) s = .next { s with out := { s.out with
      refused := s.out.refused ++ [i], aer := s.out.aer ++ [(i, .unsupportedRequest)] } }) ∧
  (∀ (i offset len : Nat) (store : Option (List Byte)) (s : State), s.pageOpen i = false → exec (.bar2Access i offset store len) s = .next s) ∧
  (∀ (i off v c die a : Nat) (ctl : ConfigControl) (reg : PciRegister) (b : ControlBlock) (on : Bool) (req : Requester) (idx sub : Nat) (data : List Byte)
      (s : State),
    (off ≠ 0x10 → exec (.registerWrite (.page i off v)) s = .next (s.pageWrite i off v)) ∧
    (bit v 0 = true → exec (.registerWrite (.page i 0x10 v)) s = .next (s.doorbell i)) ∧
    (bit v 0 = false → exec (.registerWrite (.page i 0x10 v)) s = .next s) ∧
    exec (.registerWrite (.boot off v)) s = .next (s.bootWrite off v) ∧
    exec (.registerWrite (.config i ctl on)) s = .next (s.configWrite i ctl on) ∧
    exec (.registerWrite (.pci i reg v)) s = .next (s.pciWrite i reg v) ∧
    exec (.registerWrite (.entry req idx sub data)) s = exec (.write req idx sub data) s ∧
    exec (.registerWrite (.store c a v)) s = .next (s.coreStore c a v) ∧ exec (.registerWrite (.load c a)) s = .next (s.coreLoad c a) ∧
    exec (.registerWrite (.block c die b v)) s = .next (s.controlWrite c die b v) ∧
    exec (.registerWrite (.blockRead c die b)) s = .next (s.controlRead c die b)) ∧
  (∀ (i v : Nat) (s : State), s.pageWritable i = true →
    s.pageWrite i 0x18 v = s.modInst i (fun x => { x with mbox := { x.mbox with vector := v % 2 ^ 32 % 2048 } })) ∧
  (∀ (i v : Nat) (reg : PciRegister) (ctl : ConfigControl) (on : Bool) (s : State),
    (s.boot.ltssm = false → s.operational = false → s.pciWrite i reg v = s ∧ s.configWrite i ctl on = s) ∧
    (s.boot.ltssm = true ∨ s.operational = true → s.pciWrite 0 .bar2 v = s.modPci 0 (fun c => { c with bar2 := v % 2 ^ 64 / 2 ^ 32 * 2 ^ 32 }) ∧
      s.pciWrite i .vendorId v = s ∧ s.configWrite i .ariHierarchy on = { s with ari := on })) ∧
  (∀ (c die a v : Nat) (b : ControlBlock) (s : State), s.cpuRuns c = false →
    s.coreStore c a v = s ∧ s.coreLoad c a = s ∧ s.controlWrite c die b v = s ∧ s.controlRead c die b = s) ∧
  (∀ (c die v : Nat) (b : ControlBlock) (s : State), s.cpuRuns c = true → (s.cpu c).world = .normal → die < s.dies →
    s.targetServes (.control die) = true → s.blockRefuses b .normal = true →
    (let t := s.controlWrite c die b v;
      (t.cpu c).trap = some .supervisor ∧ (t.cpu c).scause = 7 ∧ t.reg 0x2300 4 = satAdd (entryBits 0x2300 4) (s.reg 0x2300 4) 1 ∧
      t.reg 0x2300 5 = (s.coreAttr c).word ∧ t.mem = s.mem ∧ SameRings s t ∧ t.worlds.perm = s.worlds.perm ∧ t.worlds.claims = s.worlds.claims) ∧
    (let t := s.controlRead c die b;
      (t.cpu c).trap = some .supervisor ∧ (t.cpu c).scause = 5 ∧ (t.cpu c).loaded = some 0 ∧
      t.reg 0x2300 4 = satAdd (entryBits 0x2300 4) (s.reg 0x2300 4) 1 ∧ t.reg 0x2300 5 = (s.coreAttr c).word ∧ SameMemory s t ∧ SameRings s t)) ∧
  (∀ (c die g v : Nat) (s : State), s.cpuRuns c = true → (s.cpu c).world = .secure → die < s.dies → s.targetServes (.control die) = true →
    s.targetAt (4096 * g) = some (.stack die) ∨ s.targetAt (4096 * g) = some (.sram die) →
    let t := s.controlWrite c die (.permission g) v
    t.granuleCode (4096 * g) = v % 4 ∧ (∀ a, a / 4096 ≠ g → t.granuleCode a = s.granuleCode a) ∧ t.worlds.cores = s.worlds.cores ∧
    SameMemory s t ∧ SameRings s t) ∧
  (∀ (c a v : Nat) (s : State), s.cpuRuns c = true → (s.cpu c).world = .normal →
    (∀ d, s.targetAt a = some (.stack d) ∨ s.targetAt a = some (.sram d) →
      (s.busOutcome (s.coreAttr c) a true = .refused →
        let t := s.coreStore c a v;
        (t.cpu c).trap = some .supervisor ∧ (t.cpu c).scause = 7 ∧ t.reg 0x2300 4 = satAdd (entryBits 0x2300 4) (s.reg 0x2300 4) 1 ∧
        t.reg 0x2300 5 = (s.coreAttr c).word ∧ t.reg 0x2300 6 = a ∧ SameMemory s t ∧ SameRings s t) ∧
      (s.busOutcome (s.coreAttr c) a true = .done → s.coreStore c a v = { s with mem := s.mem.writeBytes a (leBytes 4 v) })) ∧
    (s.busOutcome (s.coreAttr c) a false = .refused →
      let t := s.coreLoad c a;
      (t.cpu c).trap = some .supervisor ∧ (t.cpu c).scause = 5 ∧ t.reg 0x2300 4 = satAdd (entryBits 0x2300 4) (s.reg 0x2300 4) 1 ∧
      t.reg 0x2300 6 = a ∧ SameMemory s t ∧ SameRings s t) ∧
    (s.busOutcome (s.coreAttr c) a false = .done → s.coreLoad c a = s.loaded c (leNat (s.busBytes (s.coreAttr c) a 4)))) ∧
  (∀ (i : Nat) (s : State), exec (.malformedTlp i) s = .next { s with out := { s.out with aer := s.out.aer ++ [(i, .malformedTlp)] } } ∧
    exec (.unexpectedCompletion i) s = .next { s with out := { s.out with aer := s.out.aer ++ [(i, .unexpectedCompletion)] } })

/-- Instances (R82, R198, R215 to R217, R219 to R221, R224 to R226). VF Enable samples the vector counts and makes the VFs ACTIVE, clearing it or
reducing NumVFs disables those beyond; an FLR or a reset write counts and resets the instance, and the PF's also disables every VF; a failing DMA
is reported by its cause and faults an instance in ACTIVE or FREEZING; the end of the quiesce makes it ACTIVE. A reset enters RESETTING, a fault
FAULTED with its status and a disable DISABLED, each with the event of type 0x0003 and the quiesce of R217, and a shed command that ran on it
ends ABORTED; one that is DISABLED already stays. An assignment entry is a WRITE and several are a write group; once taken up, event 0x0006
tells I0. Outside these conditions nothing changes. -/
def Obligations.Instances : Prop :=
  (∀ (n : Nat) (s : State), s.operational = true → s.vfEnable = false → n ≤ 31 →
    ∃ u : State, exec (.vfEnableSet n) s = .next (u.each (((List.range n).map (· + 1)).filter (fun i => s.instState i = 0)) (fun t i => t.enterActive i)) ∧
      u.vfEnable = true ∧ u.numVfs = n ∧ (∀ i, 1 ≤ i → i ≤ 31 → (u.inst i).msixSize = s.reg (0x2200 + i) 3) ∧ u.live = s.live) ∧
  (∀ (n : Nat) (s : State), s.operational = false ∨ s.vfEnable = true ∨ 31 < n → exec (.vfEnableSet n) s = .next s) ∧
  (∀ (n : Nat) (s : State), s.operational = true → s.vfEnable = true → n < s.numVfs →
    exec (.vfDisable n) s = .next (State.each { s with vfEnable := decide (n ≠ 0), numVfs := n } (((List.range 31).map (· + 1)).filter (fun i => n < i))
      (fun t i => t.disableOne i))) ∧
  (∀ (n : Nat) (s : State), s.operational = false ∨ s.vfEnable = false ∨ s.numVfs ≤ n → exec (.vfDisable n) s = .next s) ∧
  (∀ (i : Nat) (s : State), s.operational = true → i < 32 → exec (.flr i) s = .next (s.resetInstance i)) ∧
  (∀ (i : Nat) (s : State), s.operational = false ∨ 32 ≤ i → exec (.flr i) s = .next s) ∧
  (∀ (i : Nat) (s : State), i ≠ 0 → s.resetInstance i = s.resetOne i) ∧
  (∀ s : State, s.resetInstance 0 = State.each { s.resetOne 0 with vfEnable := false, numVfs := 0 } ((List.range 31).map (· + 1))
    (fun t j => t.disableOne j)) ∧
  (∀ (i : Nat) (cause : DmaFault) (s : State), s.operational = true → i < 32 → s.instState i = 1 ∨ s.instState i = 4 →
    exec (.instanceFault i cause) s = .next (State.faultInstance { s with out := { s.out with aer := s.out.aer ++ [(i, dmaError cause)] } } i
      (if cause = .completionTimeout then Status.timeout else Status.hwFault))) ∧
  (∀ (i : Nat) (cause : DmaFault) (s : State), s.operational = true → i < 32 → s.instState i ≠ 0 → s.instState i ≠ 1 → s.instState i ≠ 4 →
    exec (.instanceFault i cause) s = .next { s with out := { s.out with aer := s.out.aer ++ [(i, dmaError cause)] } }) ∧
  (∀ (i : Nat) (cause : DmaFault) (s : State), s.operational = false ∨ 32 ≤ i ∨ s.instState i = 0 → exec (.instanceFault i cause) s = .next s) ∧
  (dmaError .completionTimeout = .completionTimeout ∧ dmaError .poison = .poisoned ∧ dmaError .unsupportedRequest = .unsupportedRequest ∧
    dmaError .completerAbort = .completerAbort) ∧
  (∀ (i : Nat) (s : State), s.operational = true → i < 32 → s.instState i = 2 → exec (.quiesceDone i) s = .next (s.enterActive i)) ∧
  (∀ (i : Nat) (s : State), s.operational = false ∨ 32 ≤ i ∨ s.instState i ≠ 2 → exec (.quiesceDone i) s = .next s) ∧
  (∀ (i : Nat) (s : State), (s.enterActive i).instState i = 1) ∧
  (∀ (i st status : Nat) (s : State), i < 32 → (s.instEnter i st status).instState i = st ∧ ((s.instEnter i st status).inst i).changeStatus = status ∧
    (∀ j, j ≠ i → (s.instEnter i st status).instState j = s.instState j) ∧ SameRings s (s.instEnter i st status) ∧
    ∃ u : State, s.instEnter i st status = u.stateEvent i st status 0) ∧
  (∀ (i : Nat) (s : State), s.instState i = 0 → s.resetOne i = s ∧ s.disableOne i = s ∧ s.faultInstance i Status.hwFault = s) ∧
  (∀ (i : Nat) (s : State), s.instState i ≠ 0 → s.instState i ≠ 2 → s.resetOne i =
    ((State.shedEnds (s.inc (0x2200 + i) 0x13) i Status.aborted).2.instEnter i 2 (State.shedEnds (s.inc (0x2200 + i) 0x13) i Status.aborted).1).quiesce i true) ∧
  (∀ (i : Nat) (s : State), s.instState i = 2 → s.resetOne i = (s.inc (0x2200 + i) 0x13).modInst i Inst.configReset) ∧
  (∀ (i : Nat) (s : State), s.instState i ≠ 0 → s.disableOne i =
    ((s.shedEnds i Status.aborted).2.instEnter i 0 (s.shedEnds i Status.aborted).1).quiesce i true) ∧
  (∀ (i st : Nat) (s : State), s.instState i = 1 ∨ s.instState i = 4 ∨ s.instState i = 5 ∨ s.instState i = 6 → s.faultInstance i st =
    (((s.shedEnds i Status.aborted).2.inc (0x2200 + i) 0x14).instEnter i 3 st).quiesce i false) ∧
  (∀ (i st : Nat) (s : State), (s.shed.running ≠ none → s.shed.target = i →
      s.shedEnds i st = (st, State.setReg { s with shed := {} } 0x2221 9 st)) ∧
    (s.shed.running = none ∨ s.shed.target ≠ i → s.shedEnds i st = (Status.ok, s))) ∧
  (∀ (req : Requester) (i v : Nat) (s : State), i < 32 → v < 256 → s.admits req (0x2200 + 1 * i) 0x15 (leBytes 1 v) = true →
    exec (.instanceReset req i v) s = .next (((s.admitted req (0x2200 + 1 * i) 0x15 (leBytes 1 v)).resetInstance i).concluded req (0x2200 + 1 * i) 0x15
      (leBytes 1 v) Status.ok)) ∧
  (∀ (req : Requester) (i v : Nat) (s : State), i < 32 → v < 256 → v ≠ 1 → s.reaches req (0x2200 + 1 * i) 0x15 (leBytes 1 v) = true →
    exec (.instanceReset req i v) s = .next (s.turnedAway req (0x2200 + 1 * i) 0x15 (leBytes 1 v))) ∧
  (∀ (req : Requester) (e : GroupWrite) (es : List GroupWrite) (s : State),
    exec (.assignmentWrite req [e]) s = exec (.write req e.idx e.sub e.data) s ∧
    (es.length ≠ 1 → exec (.assignmentWrite req es) s = exec (.writeGroup req es) s)) ∧
  (∀ (req : Requester) (e : GroupWrite) (f : Found) (s u : State), e.idx ≠ 0x1F12 → s.admits req e.idx e.sub e.data = true → u = s.admitted req e.idx e.sub e.data →
    lookup s.part e.idx e.sub = some f →
    exec (.assignmentWrite req [e]) s = .next ((u.entryEffect req f e.idx e.sub e.data).2.concluded req e.idx e.sub e.data (u.entryEffect req f e.idx e.sub e.data).1)) ∧
  (∀ (i : Nat) (s : State), ((s.inst i).takenFrom ≠ none → exec (.assignmentTakenUp i) s =
      .next ((s.modInst i (fun y => { y with takenFrom := none })).event 0 0x0006 i Status.ok 0xFF 0 0)) ∧
    ((s.inst i).takenFrom = none → exec (.assignmentTakenUp i) s = .next s))

/-- Freeze and thaw (R227 to R231, R234). FREEZE of an ACTIVE instance is PENDING and enters FREEZING, with the drain deadline in DRAIN mode; the
deadline asks each context of the target that draws to stop; when everything FREEZING waits for has ended the instance is FROZEN, with result OK.
THAW of a FROZEN instance is PENDING, writes the held records, resumes contexts, streams, effects and fetching, serves a recorded mailbox request
and makes it ACTIVE with result OK. Any other state is refused with DENIED_ACCESS and
a running command with BUSY, and nothing changes. With no drain deadline, no FREEZE running, or work left to end, the two ends change nothing. -/
def Obligations.FreezeAndThaw : Prop :=
  (∀ (req : Requester) (s u : State), s.admits req 0x2221 2 (leBytes 1 1) = true → u = s.admitted req 0x2221 2 (leBytes 1 1) → u.shed.running = none →
    u.reg 0x2221 1 < 32 →
    (u.instState (u.reg 0x2221 1) = 1 → ∃ t : State, exec (.freeze req) s = .next (t.concluded req 0x2221 2 (leBytes 1 1) Status.pending) ∧
      t.instState (u.reg 0x2221 1) = 4 ∧ t.shed = { running := some 1, target := u.reg 0x2221 1
                                                    drainDeadline := if u.reg 0x2221 3 = 1 then some (u.now + ms (u.reg 0x2221 4)) else none } ∧
      SameRings u t ∧ t.mem = u.mem) ∧
    (u.instState (u.reg 0x2221 1) ≠ 1 → exec (.freeze req) s = .next (u.concluded req 0x2221 2 (leBytes 1 1) Status.deniedAccess))) ∧
  (∀ (req : Requester) (s u : State) (c : Nat),
    (s.admits req 0x2221 2 (leBytes 1 1) = true → u = s.admitted req 0x2221 2 (leBytes 1 1) →
      u.shed.running = some c → exec (.freeze req) s = .next (u.concluded req 0x2221 2 (leBytes 1 1) Status.busy)) ∧
    (s.admits req 0x2221 2 (leBytes 1 2) = true → u = s.admitted req 0x2221 2 (leBytes 1 2) →
      u.shed.running = some c → exec (.thaw req) s = .next (u.concluded req 0x2221 2 (leBytes 1 2) Status.busy))) ∧
  (∀ (t : Nat) (s : State), s.shed.drainDeadline = some t → ∃ u : State, exec .drainLimit s = .next u ∧ u.now = max s.now t ∧
    u.shed = { s.shed with drainDeadline := none } ∧ u.live = s.live ∧ SameMemory s u ∧ SameRings s u ∧
    ∀ d c, d < s.dies → (s.gdie d).running = some c → s.ctxInst c = some s.shed.target → (u.gdie d).request ≠ none) ∧
  (∀ s : State, s.shed.drainDeadline = none → exec .drainLimit s = .next s) ∧
  (∀ s : State, s.shed.running = some 1 → s.instState s.shed.target = 4 → s.freezeReady s.shed.target = true → s.shed.target < 32 →
    ∃ t : State, exec .freezeDone s = .next t ∧ t.instState s.shed.target = 5 ∧ t.shed = {} ∧ t.reg 0x2221 9 = Status.ok ∧ SameRings s t ∧ t.mem = s.mem) ∧
  (∀ s : State, s.shed.running ≠ some 1 ∨ s.instState s.shed.target ≠ 4 ∨ s.freezeReady s.shed.target = false → exec .freezeDone s = .next s) ∧
  (∀ (req : Requester) (s u : State), s.admits req 0x2221 2 (leBytes 1 2) = true → u = s.admitted req 0x2221 2 (leBytes 1 2) → u.shed.running = none →
    u.reg 0x2221 1 < 32 →
    (u.instState (u.reg 0x2221 1) = 5 → ∃ t v w : State, exec (.thaw req) s = .next (t.concluded req 0x2221 2 (leBytes 1 2) Status.pending) ∧
      v = State.deliverAll ((u.setReg (0x2200 + u.reg 0x2221 1) 1 1).modInst (u.reg 0x2221 1) (fun y => { y with held := [], heldSaved := 0 }))
        (u.reg 0x2221 1) (u.inst (u.reg 0x2221 1)).held ∧
      w = (((v.gfxSettle).audioThaw (u.reg 0x2221 1)).playsResume (u.reg 0x2221 1)).tailsResume (u.reg 0x2221 1) ∧
      t = (State.setReg { w.modInst (u.reg 0x2221 1) (fun y => { y with mbox := { y.mbox with recorded := none } }) with
          dir := { w.dir with
            blocked := w.dir.blocked ++ (u.inst (u.reg 0x2221 1)).mbox.recorded.toList.map (fun r => { req := r.1, request := r.2, accepted := false }) } }
        0x2221 9 Status.ok).instEnter (u.reg 0x2221 1) 1 Status.ok ∧
      (t.inst (u.reg 0x2221 1)).held = [] ∧ (t.inst (u.reg 0x2221 1)).mbox.recorded = none ∧
      t.instState (u.reg 0x2221 1) = 1 ∧ t.reg 0x2221 9 = Status.ok ∧ SameRings u t ∧ t.mem = u.mem) ∧
    (u.instState (u.reg 0x2221 1) ≠ 5 → exec (.thaw req) s = .next (u.concluded req 0x2221 2 (leBytes 1 2) Status.deniedAccess)))

/-- The shed image (R227, R228, R235 to R240). SAVE of a FROZEN instance with a buffer of required_bytes is PENDING and takes the image, a smaller
buffer is RANGE and writes nothing; its end moves the image to the buffer with its length and result OK, or ends ABORTED. RESTORE checks the
image, changes nothing but result and failing_section when that fails and ends ABORTED when its completions do, and otherwise enters RESTORING,
with the source's resources moved to the target. Its apply takes every page of the image, every section and every commit in order; the first
failure ends RANGE at its section, and the target is quiesced in RESETTING; once the commits have latched the target takes the source's held
records, the source's pages are unmapped, and the target is FROZEN. SAVE and RESTORE of an instance that is not FROZEN are refused with
DENIED_ACCESS, and with BUSY while a shed command runs; with none of theirs running, the two ends change nothing. -/
def Obligations.SaveAndRestore : Prop :=
  (∀ (req : Requester) (s u : State), s.admits req 0x2221 2 (leBytes 1 3) = true → u = s.admitted req 0x2221 2 (leBytes 1 3) → u.shed.running = none →
    (u.instState (u.reg 0x2221 1) = 5 → u.requiredBytes ≤ u.reg 0x2221 6 → exec (.save req) s = .next (State.concluded
      { u.modInst (u.reg 0x2221 1) (fun x => { x with heldSaved := x.held.length }) with
        shed := { running := some 3, target := u.reg 0x2221 1, image := u.shedImage (u.reg 0x2221 1) } } req 0x2221 2 (leBytes 1 3) Status.pending)) ∧
    (u.instState (u.reg 0x2221 1) = 5 → u.reg 0x2221 6 < u.requiredBytes →
      exec (.save req) s = .next ((u.setReg 0x2221 9 Status.range).concluded req 0x2221 2 (leBytes 1 3) Status.range)) ∧
    (u.instState (u.reg 0x2221 1) ≠ 5 → exec (.save req) s = .next (u.concluded req 0x2221 2 (leBytes 1 3) Status.deniedAccess))) ∧
  (∀ (req : Requester) (img : List Byte) (ok : Bool) (c : Nat) (s u : State),
    (s.admits req 0x2221 2 (leBytes 1 3) = true → u = s.admitted req 0x2221 2 (leBytes 1 3) → u.shed.running = some c →
      exec (.save req) s = .next (u.concluded req 0x2221 2 (leBytes 1 3) Status.busy)) ∧
    (s.admits req 0x2221 2 (leBytes 1 4) = true → u = s.admitted req 0x2221 2 (leBytes 1 4) →
      (u.shed.running = some c → exec (.restore req img ok) s = .next (u.concluded req 0x2221 2 (leBytes 1 4) Status.busy)) ∧
      (u.shed.running = none → u.instState (u.reg 0x2221 1) ≠ 5 →
        exec (.restore req img ok) s = .next (u.concluded req 0x2221 2 (leBytes 1 4) Status.deniedAccess)))) ∧
  (∀ s : State, s.shed.running = some 3 →
    (∃ t : State, exec (.saveDone true) s = .next t ∧ t.out.hostData = s.out.hostData ++ [(0, s.reg 0x2221 5, s.shed.image)] ∧
      t.reg 0x2221 0xB = s.shed.image.length ∧ t.reg 0x2221 9 = Status.ok ∧ t.shed = {} ∧ SameRings s t ∧ t.mem = s.mem) ∧
    (∃ t : State, exec (.saveDone false) s = .next t ∧ t.out.hostData = s.out.hostData ∧ t.reg 0x2221 9 = Status.aborted ∧ t.shed = {} ∧
      (∀ i, i < 32 → t.instState i = s.instState i) ∧ SameRings s t ∧ t.mem = s.mem)) ∧
  (∀ (ok : Bool) (s : State), s.shed.running ≠ some 3 → exec (.saveDone ok) s = .next s) ∧
  (∀ (req : Requester) (img : List Byte) (ok : Bool) (s u : State), s.admits req 0x2221 2 (leBytes 1 4) = true →
    u = s.admitted req 0x2221 2 (leBytes 1 4) → u.shed.running = none → u.reg 0x2221 1 < 32 → u.instState (u.reg 0x2221 1) = 5 →
    ∃ t : State, exec (.restore req img ok) s = .next (t.concluded req 0x2221 2 (leBytes 1 4) Status.pending) ∧ SameRings u t ∧ t.mem = u.mem ∧
      (ok = true → (u.shedImageCheck (u.reg 0x2221 1) u.shedSource img).1 = Status.ok →
        t.instState (u.reg 0x2221 1) = 6 ∧ t.shed.running = some 4 ∧ t.shed.image = img ∧ t.shed.applied = false ∧
        ∃ v : State, v = State.setReg { u with
            shed := { running := some 4, target := u.reg 0x2221 1, image := img, sourceInst := u.shedSource } } 0x2221 0xA 0 ∧
          (u.shedSource = none → t = v.instEnter (u.reg 0x2221 1) 6 Status.ok) ∧
          (∀ j, u.shedSource = some j → t = ((v.moveResources (u.reg 0x2221 1) j img).dropUnstarted j).instEnter (u.reg 0x2221 1) 6 Status.ok)) ∧
      (ok = true → (u.shedImageCheck (u.reg 0x2221 1) u.shedSource img).1 ≠ Status.ok → (∀ i, i < 32 → t.instState i = u.instState i) ∧
        t.reg 0x2221 9 = (u.shedImageCheck (u.reg 0x2221 1) u.shedSource img).1 ∧
        t.reg 0x2221 0xA = (u.shedImageCheck (u.reg 0x2221 1) u.shedSource img).2 ∧ t.shed = {}) ∧
      (ok = false → (∀ i, i < 32 → t.instState i = u.instState i) ∧ t.reg 0x2221 9 = Status.aborted ∧ t.shed = {})) ∧
  (∀ s : State, s.shed.running = some 4 → s.instState s.shed.target = 6 →
    (s.shed.applied = false → ∃ t : State, exec .restoreApplyDone s = .next t ∧
      (∀ u, s.applyImage = .ok u → t = State.restoreSettles { u with shed := { s.shed with applied := true } }) ∧
      (∀ e, s.applyImage = .error e → t = s.applyFails s.shed.image e)) ∧
    (s.shed.applied = true → s.restoreShown s.shed.target = true → exec .restoreApplyDone s = .next s.applyEnds) ∧
    (s.shed.applied = true → s.restoreShown s.shed.target = false → exec .restoreApplyDone s = .next s)) ∧
  (∀ s : State, s.shed.running ≠ some 4 ∨ s.instState s.shed.target ≠ 6 → exec .restoreApplyDone s = .next s) ∧
  (∀ s t1 t2 : State, ∀ p : Option State,
    p = applyEach (fun t e => t.applyPage s.shed.target (sectionBytes s.shed.image 9) e) s ((imageManifest s.shed.image).zipIdx.map (fun e => (e.2, e.1))) →
    (p = none → s.applyImage = .error 9) ∧
    (p = some t1 → t1.applySections s.shed.target s.shed.sourceInst s.shed.image = none → s.applyImage = .error 2) ∧
    (p = some t1 → t1.applySections s.shed.target s.shed.sourceInst s.shed.image = some t2 →
      (t2.applyCommits s.shed.target (sectionBytes s.shed.image 6) = none → s.applyImage = .error 6) ∧
      ∀ t3, t2.applyCommits s.shed.target (sectionBytes s.shed.image 6) = some t3 → s.applyImage = .ok t3)) ∧
  (∀ (s : State) (type : Nat), s.applyFails s.shed.image type =
    ((((State.setReg { s with shed := {} } 0x2221 9 Status.range).setReg 0x2221 0xA (shedSectionAt s.shed.image type)).instEnter s.shed.target 2
      Status.range).quiesce s.shed.target true)) ∧
  (∀ s v : State,
    v = (match s.shed.sourceInst with
      | none => s
      | some j => ((s.deliverAll s.shed.target (s.inst j).held).modInst j (fun x => { x with held := [], heldSaved := 0 })).unmapAll j) →
    s.applyEnds = (State.setReg { v with shed := {} } 0x2221 9 Status.ok).enterFrozen s.shed.target ∧ s.applyEnds.shed = {}) ∧
  (∀ s : State, s.shed.target < 32 → s.applyEnds.instState s.shed.target = 5) ∧
  (∀ (s : State) (i : Nat) (data : List Byte) (e : Nat × (Nat × Nat)), crc32c (slice data (65536 * e.1) 65536) ≠ e.2.2 → s.applyPage i data e = none)

/-- The world switch (R242, R250 to R254). WCALL in supervisor mode of the normal world enters the monitor in machine mode of the secure world with
mcause 24 and the service of a7; WRET in machine mode of the secure world resumes supervisor mode of the normal world with the status in a0, the
results in a1 to a5, t0 to t6 zero and every other register as at the WCALL, or, after a secure interrupt that the normal world was interrupted
by, the world and mode interrupted (log entry 147). Anywhere else each is an illegal instruction, as every other word of the custom-0 opcode is
everywhere: in the normal world one to supervisor mode, in an applet the applet's fault, and in the monitor the monitor's own fault. A core that
does not run, a mode its world does not have and a word of another opcode change nothing. -/
def Obligations.WorldSwitches : Prop :=
  (∀ w : Nat, (w % 128 = 0x0B → custom0Of w = some (if w = 0x0000000B then .wcall else if w = 0x0000100B then .wret else .illegal)) ∧
    (w % 128 ≠ 0x0B → custom0Of w = none)) ∧
  (∀ (c word : Nat) (mode : Privilege) (regs : List Nat) (s : State),
    s.cpuRuns c = false ∨ ((s.cpu c).world = .normal ∧ mode = .machine) ∨ ((s.cpu c).world = .secure ∧ mode = .supervisor) →
    exec (.wcall c mode regs word) s = .next s ∧ exec (.wret c mode) s = .next s) ∧
  (∀ (c word : Nat) (mode : Privilege) (regs : List Nat) (s : State), word % 128 ≠ 0x0B → exec (.wcall c mode regs word) s = .next s) ∧
  (∀ (c : Nat) (regs : List Nat) (s : State), s.cpuRuns c = true → (s.cpu c).world = .normal →
    ∃ t : State, exec (.wcall c .supervisor regs 0x0000000B) s = .next t ∧ t = { s with worlds := { s.worlds with cores := t.worlds.cores } } ∧
      (∀ d, d ≠ c → t.cpu d = s.cpu d) ∧ (t.cpu c).world = .secure ∧ (t.cpu c).mode = .machine ∧ (t.cpu c).mcause = 24 ∧
      (t.cpu c).service = some (regs.getD 17 0 % 2 ^ 32) ∧ (t.cpu c).result = none ∧ (t.cpu c).trap = none ∧ (t.cpu c).callAt = s.now ∧
      (t.cpu c).resumes = false ∧ ∀ k, 1 ≤ k → k < 32 → Tab.getD (t.cpu c).regs k 0 = regs.getD k 0) ∧
  (∀ (c word : Nat) (mode : Privilege) (regs : List Nat) (s : State), s.cpuRuns c = true → word % 128 = 0x0B →
    ((s.cpu c).world = .normal → mode = .user ∨ (mode = .supervisor ∧ word ≠ 0x0000000B) → ∃ t : State, exec (.wcall c mode regs word) s = .next t ∧
      t = { s with worlds := { s.worlds with cores := t.worlds.cores } } ∧ (∀ d, d ≠ c → t.cpu d = s.cpu d) ∧
      (t.cpu c).world = .normal ∧ (t.cpu c).mode = .supervisor ∧ (t.cpu c).trap = some .supervisor ∧ (t.cpu c).scause = 2) ∧
    ((s.cpu c).world = .secure → mode = .machine → word ≠ 0x0000100B → ∃ u : State, exec (.wcall c mode regs word) s = .next (u.monitorFault c) ∧
      u = { s with worlds := { s.worlds with cores := u.worlds.cores } } ∧ (∀ d, d ≠ c → u.cpu d = s.cpu d) ∧
      (u.cpu c).world = .secure ∧ (u.cpu c).mode = .machine ∧ (u.cpu c).trap = some .machine ∧ (u.cpu c).mcause = 2) ∧
    ((s.cpu c).world = .secure → mode = .user → ∃ u : State,
      u = { s with worlds := { s.worlds with cores := u.worlds.cores } } ∧
      (∀ d, d ≠ c → u.cpu d = s.cpu d) ∧ (u.cpu c).world = .secure ∧ (u.cpu c).trap = some .machine ∧ (u.cpu c).mcause = 2 ∧
      (∀ v, (s.cpu c).service = some v → exec (.wcall c mode regs word) s = .next ((u.faultApplet (v / 65536)).endCall c { status := Status.aborted })) ∧
      ((s.cpu c).service = none → exec (.wcall c mode regs word) s = .next u))) ∧
  (∀ (c : Nat) (r : ServiceResult) (s : State), s.cpuRuns c = true → (s.cpu c).world = .secure → (s.cpu c).result = some r →
    (∀ m, (s.cpu c).irqFrom ≠ some (.normal, m)) →
    ∃ t : State, exec (.wret c .machine) s = .next t ∧ t = { s with worlds := { s.worlds with cores := t.worlds.cores } } ∧
      (∀ d, d ≠ c → t.cpu d = s.cpu d) ∧ (t.cpu c).world = .normal ∧ (t.cpu c).mode = .supervisor ∧ (t.cpu c).service = none ∧
      Tab.getD (t.cpu c).regs 10 0 = r.status ∧ (∀ k, 11 ≤ k → k ≤ 15 → Tab.getD (t.cpu c).regs k 0 = r.values.getD (k - 11) 0) ∧
      (∀ k, (5 ≤ k ∧ k ≤ 7) ∨ (28 ≤ k ∧ k ≤ 31) → Tab.getD (t.cpu c).regs k 0 = 0) ∧
      ∀ k, k < 5 ∨ k = 8 ∨ k = 9 ∨ (16 ≤ k ∧ k ≤ 27) → Tab.getD (t.cpu c).regs k 0 = Tab.getD (s.cpu c).regs k 0) ∧
  (∀ (c : Nat) (m : Privilege) (s : State), s.cpuRuns c = true → (s.cpu c).world = .secure → (s.cpu c).irqFrom = some (.normal, m) →
    ∃ t : State, exec (.wret c .machine) s = .next t ∧ t = { s with worlds := { s.worlds with cores := t.worlds.cores } } ∧
      (∀ d, d ≠ c → t.cpu d = s.cpu d) ∧ t.cpu c = { s.cpu c with world := .normal, mode := m, trap := none, irqFrom := none }) ∧
  (∀ (c : Nat) (mode : Privilege) (s : State), s.cpuRuns c = true →
    ((s.cpu c).world = .normal → mode ≠ .machine → ∃ t : State, exec (.wret c mode) s = .next t ∧
      t = { s with worlds := { s.worlds with cores := t.worlds.cores } } ∧ (∀ d, d ≠ c → t.cpu d = s.cpu d) ∧
      (t.cpu c).world = .normal ∧ (t.cpu c).mode = .supervisor ∧ (t.cpu c).trap = some .supervisor ∧ (t.cpu c).scause = 2) ∧
    ((s.cpu c).world = .secure → mode = .user → exec (.wret c mode) s = exec (.wcall c mode [] 0x0000000B) s))

/-- The monitor's services (R252 to R254, R683). VERSION answers the version; a call of an applet not loaded or not on the die, or of a function it does
not offer, is NOT_PRESENT, every call of a faulted one HW_FAULT, of one with a suspended call BUSY, and otherwise it runs in user mode or ends
with its result. A call over its budget, which runs from its WCALL or RESUME, is BUSY with a fresh token, RESUME of that token goes on with it,
and the tenth overrun in succession is a fault. A fault marks the applet, zeroises its granules, ends its secure entry, drops its claims and
answers ABORTED to the call it runs; a fault of the monitor halts the core and fails its die's Core. What RESUME with an unknown token answers
is free (log entry 30). Where no such call waits for the monitor, or none runs in the applet, or the applet is not loaded or faulted already,
nothing changes. -/
def Obligations.MonitorServices : Prop :=
  (∀ (c : Nat) (s : State), s.serviceOf c = some 2 →
    exec (.version c) s = .next (s.endCall c { status := Status.ok, values := [Config.monitorVersion.toNat] })) ∧
  (∀ (c : Nat) (s : State), s.serviceOf c ≠ some 2 → exec (.version c) s = .next s) ∧
  (∀ (c : Nat) (r : ServiceResult) (s : State),
    s.endCall c r = s.modCpu c (fun x => { x with mode := .machine, result := some r, irqFrom := none })) ∧
  (∀ (c v : Nat) (offered : Bool) (fin : Option ServiceResult) (s : State), s.serviceOf c = some v → v ≠ 1 → v ≠ 2 → (s.cpu c).mode = .machine →
    (s.applet? (v / 65536) = none → exec (.appletCall c offered fin) s = .next (s.endCall c { status := Status.notPresent })) ∧
    (∀ x, s.applet? (v / 65536) = some x →
      (bit x.dieMask (c / 4) = false → exec (.appletCall c offered fin) s = .next (s.endCall c { status := Status.notPresent })) ∧
      (bit x.dieMask (c / 4) = true → x.faulted = true →
        exec (.appletCall c offered fin) s = .next (s.endCall c { status := Status.hwFault })) ∧
      (bit x.dieMask (c / 4) = true → x.faulted = false → x.suspended ≠ none →
        exec (.appletCall c offered fin) s = .next (s.endCall c { status := Status.busy })) ∧
      (bit x.dieMask (c / 4) = true → x.faulted = false → x.suspended = none → offered = false →
        exec (.appletCall c offered fin) s = .next (s.endCall c { status := Status.notPresent })) ∧
      (offered = true → bit x.dieMask (c / 4) = true → x.faulted = false → x.suspended = none →
        (fin = none → exec (.appletCall c offered fin) s = .next (s.modCpu c (fun y => { y with
          mode := .user, service := some (v / 65536 * 65536), result := none, resumes := false }))) ∧
        (∀ r, fin = some r → exec (.appletCall c offered fin) s = .next ((s.modApplet (v / 65536) (fun y => { y with resumes := 0 })).endCall c r))))) ∧
  (∀ (c : Nat) (offered : Bool) (fin : Option ServiceResult) (s : State),
    s.serviceOf c = none ∨ s.serviceOf c = some 1 ∨ s.serviceOf c = some 2 ∨ (s.cpu c).mode ≠ .machine → exec (.appletCall c offered fin) s = .next s) ∧
  (∀ (c v : Nat) (x : Applet) (s u : State), s.serviceOf c = some v → s.applet? (v / 65536) = some x → (s.cpu c).inApplet = true →
    u = s.arriveAt ((s.cpu c).callAt + us (s.cfg 0x2300 7)) →
    ((if (s.cpu c).resumes then x.resumes + 1 else 0) < 10 → ∃ t : State, exec (.wcallBudgetExpiry c) s = .next t ∧ t = { u with worlds := t.worlds } ∧
      (t.cpu c).result = some { status := Status.busy, values := [s.worlds.nextToken] } ∧ t.worlds.nextToken = s.worlds.nextToken + 1 ∧
      (t.applet? (v / 65536)).map (·.suspended) = some (some s.worlds.nextToken) ∧ ∀ d, d ≠ c → t.cpu d = s.cpu d) ∧
    (10 ≤ (if (s.cpu c).resumes then x.resumes + 1 else 0) →
      exec (.wcallBudgetExpiry c) s = .next ((u.faultApplet (v / 65536)).endCall c { status := Status.aborted }))) ∧
  (∀ (c : Nat) (s : State), s.serviceOf c = none ∨ (∀ v, s.serviceOf c = some v → s.applet? (v / 65536) = none) ∨ (s.cpu c).inApplet = false →
    exec (.wcallBudgetExpiry c) s = .next s) ∧
  (∀ (c a : Nat) (x : Applet) (fin : Option ServiceResult) (s : State), s.serviceOf c = some 1 → (s.cpu c).mode = .machine →
    List.find? (fun (e : Nat × Applet) => decide (e.2.suspended = some (Tab.getD (s.cpu c).regs 10 0))) s.worlds.applets = some (a, x) →
    exec (.resume c fin) s = .next ((s.modApplet a (fun y => { y with suspended := none })).runApplet c a fin true)) ∧
  (∀ (c : Nat) (fin : Option ServiceResult) (s : State), s.serviceOf c = some 1 → (s.cpu c).mode = .machine →
    List.find? (fun (e : Nat × Applet) => decide (e.2.suspended = some (Tab.getD (s.cpu c).regs 10 0))) s.worlds.applets = none →
    ∃ t st, exec (.resume c fin) s = .next t ∧ t = State.endCall { s with free := s.free + 1 } c { status := st }) ∧
  (∀ (c : Nat) (fin : Option ServiceResult) (s : State), s.serviceOf c ≠ some 1 ∨ (s.cpu c).mode ≠ .machine → exec (.resume c fin) s = .next s) ∧
  (∀ (c a : Nat) (x : Applet) (s : State), s.applet? a = some x → x.faulted = false →
    ((s.serviceOf c).map (· / 65536) = some a → (s.cpu c).inApplet = true →
      exec (.appletFault c a) s = .next ((s.faultApplet a).endCall c { status := Status.aborted })) ∧
    ((s.serviceOf c).map (· / 65536) ≠ some a ∨ (s.cpu c).inApplet = false → exec (.appletFault c a) s = .next (s.faultApplet a))) ∧
  (∀ (c a : Nat) (s : State), (∀ x, s.applet? a = some x → x.faulted = true) → exec (.appletFault c a) s = .next s) ∧
  (∀ (a : Nat) (x : Applet) (s : State), s.applet? a = some x →
    (∃ u : State, u.applet? a = some { x with faulted := true, suspended := none, resumes := 0, program := [] } ∧ (∀ b, b ≠ a → u.applet? b = s.applet? b) ∧
      u = { s with mem := u.mem, worlds := { s.worlds with applets := u.worlds.applets } } ∧ s.faultApplet a =
        (if s.worlds.entry.map (·.applet) = some a then u.endSecureEntry 3 else u).releaseClaims (fun c => decide (c.applet = a))) ∧
    (∀ k ∈ (s.faultApplet a).worlds.claims, k.applet ≠ a) ∧
    (∀ g ∈ s.appletMemory a x, ∀ b, 4096 * g ≤ b → b < 4096 * g + 4096 → Memory.read (s.faultApplet a).mem b = 0) ∧
    ∀ b, (∀ g ∈ s.appletMemory a x, b < 4096 * g ∨ 4096 * g + 4096 ≤ b) → Memory.read (s.faultApplet a).mem b = Memory.read s.mem b) ∧
  (∀ (c : Nat) (s : State), s.cpuRuns c = true →
    exec (.monitorHalt c) s = .next ((s.modCpu c (fun x => { x with halted := true })).coreFailed (c / 4) 3 true)) ∧
  (∀ (c : Nat) (s : State), s.cpuRuns c = false → exec (.monitorHalt c) s = .next s)

/-- Secure entry and claims (R186, R258 to R260, R414). A request that the monitor's checks pass claims the head and the keys, shows the entry as active
with its start and tells the holders with reason 1; a refused one changes nothing but the service's status (its order and its status for what the
part lacks: log entry 178). The entry ends with reason 2 when the applet ends it and with reason 3 at max_s; then its claims are released, its
keys report nothing until their next press, ring values that waited are taken up, it is no longer shown, and the holders are told; with no entry
active nothing changes. A claim is placed within the claim mask and the limit of 64 claims only (log entry 179), and a release removes
that claim alone. -/
def Obligations.SecureEntryAndClaims : Prop :=
  (∀ (k : KeypadRequest) (s : State),
    (s.keypadStatus k = Status.ok → ∃ u : State, exec (.secureEntryStart k) s = .next (u.entryEvent k 1) ∧ u.worlds.entry = some k ∧ u.reg 0x2302 1 = 1 ∧
      u.reg 0x2302 2 = k.head ∧ u.reg 0x2302 3 = s.now ∧ u.claimed 1 k.head = true ∧ (∀ x ∈ k.keys, u.claimed 2 x = true) ∧ SameMemory s u ∧
      SameRings s u ∧ u.out = s.out ∧ u.worlds.cores = s.worlds.cores ∧ u.worlds.applets = s.worlds.applets) ∧
    (s.keypadStatus k ≠ Status.ok → exec (.secureEntryStart k) s = .next (s.served (s.keypadStatus k)))) ∧
  (∀ (k : KeypadRequest) (s : State), s.worlds.entry ≠ none → s.keypadStatus k = Status.range) ∧
  (∀ s : State, exec .secureEntryEnd s = .next (s.endSecureEntry 2)) ∧
  (∀ (s : State) (k : KeypadRequest), s.worlds.entry = some k → exec .secureEntryLimit s = .next ((s.arriveAt (s.reg 0x2302 3 + sec (s.cfg 0x2302 4))).endSecureEntry 3)) ∧
  (∀ s : State, s.worlds.entry = none → exec .secureEntryLimit s = .next s) ∧
  (∀ (s : State) (k : KeypadRequest) (reason : Nat), s.worlds.entry = some k → ∃ u v : State,
    u = State.releaseClaims { s with worlds := { s.worlds with entry := none } } (fun c => decide (c.applet = k.applet) &&
      (decide (c.cls = 1 ∧ c.resource = k.head) || (decide (c.cls = 2) && k.keys.contains c.resource))) ∧
    v = (((u.each k.keys (fun t x => t.modKey x (fun w => { w with silent := true }))).setReg 0x2302 1 0).setReg 0x2302 2 0xFF) ∧
    s.endSecureEntry reason = (v.each ((k.keys.map keyDie).eraseDups) (fun t d => t.keyUptake d)).entryEvent k reason ∧ v.worlds.entry = none ∧
    v.reg 0x2302 1 = 0 ∧ v.reg 0x2302 2 = 0xFF ∧ (∀ x ∈ k.keys, (v.keyw x).silent = true)) ∧
  (∀ (s : State) (reason : Nat), s.worlds.entry = none → s.endSecureEntry reason = s) ∧
  (∀ (s : State) (p : Claim → Bool), s.releaseClaims p =
    (s.setClaims (s.worlds.claims.filter (fun c => !p c))).each ((s.worlds.claims.filter (fun c => p c && decide (c.cls = 1))).map (·.resource))
      (fun t h => if t.claimed 1 h then t else t.headRing h) ∧
    (s.releaseClaims p).worlds.claims = s.worlds.claims.filter (fun c => !p c) ∧ SameRings s (s.releaseClaims p) ∧ (s.releaseClaims p).mem = s.mem) ∧
  (∀ (s : State) (cs : List Claim), s.setClaims cs = State.setReg { s with worlds := { s.worlds with claims := cs } } 0x2300 3 cs.length) ∧
  (∀ (a cls r : Nat) (s : State),
    (s.claimStatus a [(cls, r)] = Status.ok → ∃ t : State, exec (.secureClaim a cls r) s = .next t ∧ t.claimed cls r = true ∧
      t.worlds.serviceStatus = Status.ok ∧ t.reg 0x2300 3 = t.worlds.claims.length ∧ t = { s with live := t.live, worlds := t.worlds }) ∧
    (s.claimStatus a [(cls, r)] ≠ Status.ok → exec (.secureClaim a cls r) s = .next (s.served (s.claimStatus a [(cls, r)])))) ∧
  (∀ (a cls r : Nat) (x : Applet) (s : State), s.applet? a = some x → r < s.claimCount cls →
    (bit x.claimMask cls = false → s.claimStatus a [(cls, r)] = Status.deniedAccess) ∧
    (bit x.claimMask cls = true → s.claimed cls r = false → s.worlds.claims.length = 64 → s.claimStatus a [(cls, r)] = Status.busy) ∧
    (bit x.claimMask cls = true → s.claimed cls r = true → (∀ c ∈ s.worlds.claims, c.cls = cls → c.resource = r → c.applet ≠ a) →
      s.claimStatus a [(cls, r)] = Status.deniedSecureClaim) ∧
    (bit x.claimMask cls = true → s.claimed cls r = false → s.worlds.claims.length < 64 → s.claimStatus a [(cls, r)] = Status.ok)) ∧
  (∀ (a cls r : Nat) (s : State), s.applet? a = none ∨ s.claimCount cls ≤ r → s.claimStatus a [(cls, r)] = Status.notPresent) ∧
  (∀ (a cls r : Nat) (s : State), exec (.claimRelease a cls r) s =
    .next ((s.releaseClaims (fun c => decide (c.applet = a ∧ c.cls = cls ∧ c.resource = r))).served Status.ok)) ∧
  (∀ (st : Nat) (s : State), s.served st = { s with worlds := { s.worlds with serviceStatus := st } })

/-- Applet keys and loading (R123, R255 to R257, R269). A 48-byte hash is burned into the lowest empty slot, from the normal world only while both are
empty, and with none empty the burn is refused (log entry 31); a slot's revocation is set and stays, for the secure world alone; another slot number
is RANGE. An image that fails a check loads nothing and its status is the result, in the order of the checks; one that passes them all is the
applet loaded under its number, with its bit of applets_loaded and its granules of secure memory marked. -/
def Obligations.AppletKeysAndLoading : Prop :=
  (∀ (req : Requester) (hash : List Byte) (s u : State), s.admits req 0x2303 2 hash = true → u = s.admitted req 0x2303 2 hash → hash.length = 48 →
    (bits u.fuses.appletState 1 0 = 0 → exec (.appletKeyBurn req hash) s = .next (State.concluded { u with fuses := { u.fuses with
      appletState := setBit u.fuses.appletState 0 true, appletHash := Tab.put u.fuses.appletHash 0 hash } } req 0x2303 2 hash Status.ok)) ∧
    (bit u.fuses.appletState 0 = true → bit u.fuses.appletState 1 = false → worldOf req = .secure →
      exec (.appletKeyBurn req hash) s = .next (State.concluded { u with fuses := { u.fuses with
        appletState := setBit u.fuses.appletState 1 true, appletHash := Tab.put u.fuses.appletHash 1 hash } } req 0x2303 2 hash Status.ok)) ∧
    (bit u.fuses.appletState 0 = true → bit u.fuses.appletState 1 = true → worldOf req = .secure →
      exec (.appletKeyBurn req hash) s = .next (u.concluded req 0x2303 2 hash Status.deniedAccess))) ∧
  (∀ (req : Requester) (data : List Byte) (s : State), worldOf req = .normal →
    (bits s.fuses.appletState 1 0 ≠ 0 → s.checkWrite req 0x2303 2 data = Status.deniedWorld) ∧ s.checkWrite req 0x2303 3 data = Status.deniedWorld) ∧
  (∀ (req : Requester) (slot : Nat) (s u : State), slot ≤ 1 → s.admits req 0x2303 3 (leBytes 1 slot) = true → u = s.admitted req 0x2303 3 (leBytes 1 slot) →
    exec (.appletKeyRevoke req slot) s = .next (State.concluded { u with fuses := { u.fuses with
      appletState := setBit u.fuses.appletState (2 + slot) true } } req 0x2303 3 (leBytes 1 slot) Status.ok)) ∧
  (∀ (req : Requester) (slot : Nat) (s : State), slot < 256 → 1 < slot → s.reaches req 0x2303 3 (leBytes 1 slot) = true →
    exec (.appletKeyRevoke req slot) s = .next (s.turnedAway req 0x2303 3 (leBytes 1 slot))) ∧
  (∀ (req : Requester) (image : List Byte) (s u : State), s.admits req 0x2304 1 image = true → u = s.admitted req 0x2304 1 image →
    ∃ t : State, exec (.appletLoad req image) s = .next (t.concluded req 0x2304 1 image Status.ok) ∧ t.reg 0x2304 2 = u.appletStatus image ∧
      SameMemory u t ∧ SameRings u t ∧ t.fuses = u.fuses ∧ t.worlds.claims = u.worlds.claims ∧
      (u.appletStatus image ≠ Status.ok → t = u.setReg 0x2304 2 (u.appletStatus image)) ∧
      (u.appletStatus image = Status.ok → t.applet? (field image 6 2) = some (appletOf image) ∧
        (∀ a, a ≠ field image 6 2 → t.applet? a = u.applet? a) ∧ bit (t.reg 0x2300 2) (field image 6 2) = true)) ∧
  (∀ (image : List Byte) (s : State), s.appletStatus image =
    if appletHeaderOk s.dies image = false then Status.range
    else if s.appletKeyOk image = false ∨ signatureOk image = false then Status.deniedAccess
    else if s.appletFits (field image 6 2) (appletOf image) = false ∨ (∃ x, s.applet? (field image 6 2) = some x ∧
      (x.suspended ≠ none ∨ ∃ c ∈ s.worlds.claims, c.applet = field image 6 2)) then Status.busy else Status.ok)

/-- Debug (R77, R245, R264 to R269). The enables are closed under SID to SNID and NID, and NID to NNID; a core halts for a debugger only under the
enable of its world, the system bus is reached only under NID, and its accesses carry WORLD 1 under SID alone. A challenge is fresh and valid for
one response; a valid response opens what it asks, and a secure enable that opens zeroises the key store and sets the tainted flag; another opens
nothing and is DENIED_ACCESS; relock closes all. With TRST_N high each debug port instruction selects its register: IDCODE the identity,
SAMPLE/PRELOAD what it captures of the boundary scan and EXTEST what drives it, where it is open, and BYPASS elsewhere, DTMCS version 1 with 7
address bits (its idle hint is free), DMI an access of the debug module (log entry 148), UNLOCK the challenge and response. TRST_N low resets the
port, and while it is low no instruction is taken; its change selects IDCODE. -/
def Obligations.DebugUnlockAndPort : Prop :=
  (∀ v, v < 16 → debugClosure v < 16 ∧ (∀ n, bit v n = true → bit (debugClosure v) n = true) ∧
    (bit (debugClosure v) 3 = true → bit (debugClosure v) 2 = true ∧ bit (debugClosure v) 1 = true) ∧ (bit (debugClosure v) 1 = true → bit (debugClosure v) 0 = true)) ∧
  (∀ (r : Requester) (s : State), exec (.debugChallenge (some r)) s = exec (.read r 0x2301 4 .active) s) ∧
  (∀ (f : Found) (s : State), f.obj.base = 0x2301 → s.liveRead f 0x2301 4 = (Val.bytes s.newChallenge.1, s.newChallenge.2) ∧ s.newChallenge.1.length = 48 ∧
    s.newChallenge.2 = { s with worlds := { s.worlds with challenge := some s.newChallenge.1, nonces := s.worlds.nonces + 1 } }) ∧
  (∀ s : State, (s.worlds.jtagIr = 0x12 → s.pins.trstHigh = true → exec (.debugChallenge none) s = .next { s with worlds :=
      { s.worlds with challenge := some s.newChallenge.1, nonces := s.worlds.nonces + 1, jtagDr := s.newChallenge.1 } }) ∧
    (s.worlds.jtagIr ≠ 0x12 ∨ s.pins.trstHigh = false → exec (.debugChallenge none) s = .next s)) ∧
  (∀ (req : Requester) (resp : List Byte) (s u : State), s.admits req 0x2301 5 resp = true → u = s.admitted req 0x2301 5 resp →
    exec (.debugResponse req resp) s =
      .next ((u.debugResponseWrite resp).2.concluded req 0x2301 5 resp (if u.debugResponseOk resp then Status.ok else Status.deniedAccess))) ∧
  (∀ (resp : List Byte) (s t : State), t = (s.debugResponseWrite resp).2 →
    t.worlds.challenge = none ∧ SameMemory s t ∧ SameRings s t ∧
    (s.debugResponseOk resp = false → t = { s with worlds := { s.worlds with challenge := none } }) ∧
    (s.debugResponseOk resp = true → t.worlds = { s.worlds with challenge := none, unlocked := s.worlds.unlocked ||| field resp 0 4 } ∧
      (bits t.debugEffective 3 2 ≠ bits s.debugEffective 3 2 → t.reg 0x2301 3 = 1 ∧ t.power.zeroised = true))) ∧
  (∀ (resp : List Byte) (s : State), s.worlds.challenge = none ∨ s.fuses.debugKey = false ∨ resp.length ≠ 100 ∨ 16 ≤ field resp 0 4 →
    s.debugResponseOk resp = false) ∧
  (∀ (req : Requester) (v : Nat) (s u : State), v < 256 → s.admits req 0x2301 6 (leBytes 1 v) = true → u = s.admitted req 0x2301 6 (leBytes 1 v) →
    (v = 1 → exec (.debugRelock req v) s = .next (State.concluded { u with worlds := { u.worlds with unlocked := 0 } } req 0x2301 6 (leBytes 1 v) Status.ok))) ∧
  (∀ (req : Requester) (v : Nat) (s : State), v < 256 → v ≠ 1 → s.reaches req 0x2301 6 (leBytes 1 v) = true →
    exec (.debugRelock req v) s = .next (s.turnedAway req 0x2301 6 (leBytes 1 v))) ∧
  (∀ (ir : Nat) (dr : List Byte) (f : Worlds → Worlds) (s : State),
    (s.pins.trstHigh = true → s.jtag ir dr f = { s with worlds := f { s.worlds with jtagIr := ir, jtagDr := dr, extest := false } }) ∧
    (s.pins.trstHigh = false → s.jtag ir dr f = s)) ∧
  (∀ (x : Bool) (s : State), exec (.idcode none) s = .next (s.jtag 1 (leBytes 4 (idcodeOf s.part)) id) ∧
    exec (.idcode (some x)) s = .next { s with
      pins := { s.pins with trstHigh := x, tdoDriven := false }
      worlds := { s.worlds with jtagIr := 1, jtagDr := leBytes 4 (idcodeOf s.part), extest := false } }) ∧
  (∀ p : Part, idcodeOf p = Config.siliconStep.toNat * 2 ^ 28 + p.code * 2 ^ 12 + 0x2B5 * 2 + 1) ∧
  (∀ (pins : List Bool) (load : Option (List Bool)) (s : State),
    (s.scanOpen = true → exec (.samplePreload pins load) s = .next (s.jtag 2 [] (fun w => { w with
      sampled := s.boundaryBalls.zipIdx.map (fun e => s.sampleBall e.1 (pins.getD e.2 false)), boundary := load.getD w.boundary }))) ∧
    (s.scanOpen = false → exec (.samplePreload pins load) s = .next (s.jtag 2 [0] id)) ∧
    (s.scanOpen = true → exec (.extest load) s = .next (s.jtag 3 [] (fun w => { w with extest := true, boundary := load.getD w.boundary }))) ∧
    (s.scanOpen = false → exec (.extest load) s = .next (s.jtag 3 [0] id)) ∧
    (s.scanOpen = true ↔ s.bootState ≤ 2 ∨ s.bootState = 0xFF ∨ bit s.debugEffective 1 = true)) ∧
  (∀ s : State, ∃ bs, bs.length = 4 ∧ leNat bs % 16 = 1 ∧ leNat bs / 16 % 64 = 7 ∧
    exec .dtmcs s = .next (State.jtag { s with free := s.free + 1 } 0x10 bs id)) ∧
  (∀ (a d : Nat) (s u : State), s.pins.trstHigh = true →
    (u = (s.dmWrite a d).modDm (fun x => { x with address := a % 128 }) → exec (.dmi a d 2) s = .next (u.jtag 0x11 u.dmiRegister id)) ∧
    (u = State.modDm ((s.modDm (fun x => { x with captured := s.dmRead a })).dmReadEnds a) (fun x => { x with address := a % 128 }) →
      exec (.dmi a d 1) s = .next (u.jtag 0x11 u.dmiRegister id)) ∧
    exec (.dmi a d 0) s = .next (s.jtag 0x11 s.dmiRegister id)) ∧
  (∀ (a d op : Nat) (s : State), s.pins.trstHigh = false → exec (.dmi a d op) s = .next s) ∧
  (∀ (c : Nat) (s : State), (s.cpuRuns c = false ∨ s.invasive (s.cpu c).world = false → s.debugHalt c = s) ∧
    (s.cpuRuns c = true → s.invasive (s.cpu c).world = true → ((s.debugHalt c).cpu c).debugHalted = true ∧ ∀ d, d ≠ c → (s.debugHalt c).cpu d = s.cpu d) ∧
    s.invasive .secure = bit s.debugEffective 3 ∧ s.invasive .normal = bit s.debugEffective 1 ∧
    (s.debugAttr.world = .secure ↔ bit s.debugEffective 3 = true)) ∧
  (∀ (s : State), s.invasive .normal = false → ∃ e, e ≠ 0 ∧ s.sbWrite = s.modDm (fun x => { x with sbError := e }) ∧
    s.sbRead = s.modDm (fun x => { x with sbError := e })) ∧
  (∀ (r : List Byte) (s : State), s.pins.trstHigh = true → exec (.unlock none) s = .next (s.jtag 0x12 [] id) ∧
    exec (.unlock (some r)) s = .next ((s.debugResponseWrite r).2.jtag 0x12 r id)) ∧
  (∀ (r : Option (List Byte)) (s : State), s.pins.trstHigh = false → exec (.unlock r) s = .next s) ∧
  (∀ (code : Nat) (s : State), (code % 256 ∉ [1, 2, 3, 0x10, 0x11, 0x12] → exec (.bypass code) s = .next (s.jtag (code % 256) [0] id)) ∧
    (code % 256 ∈ [1, 2, 3, 0x10, 0x11, 0x12] → exec (.bypass code) s = .next s))

/-- Requests for a power state (R611, R612, R615 to R617). SLEEP or DEEP_SLEEP asked in RUN or IDLE is PENDING and starts the handshake, RUN is OK and
has no effect; in SLEEP, RUN wakes, SLEEP does nothing and DEEP_SLEEP starts the handshake; while a handshake, an entry or an exit runs all three
are BUSY. OFF is OK: it ends a running handshake with ABORTED and starts its notice, from SLEEP the device exits first, during an exit it is kept,
and asked again it does nothing more. The handshake enters when no block refuses or delays, refuses with the lowest reason code otherwise, and
waits the largest delay, 2.2 ms at least for a write group, within delay_limit_ms once. A refusal ends the request with BUSY, or
DENIED_SECURE_CLAIM where a claim refuses, and writes POWER_REFUSED. With no query out, the answers and the delay's end change nothing. -/
def Obligations.PowerRequests : Prop :=
  (∀ (req : Requester) (s u : State), s.admits req 0x2400 2 (leBytes 1 2) = true → u = s.admitted req 0x2400 2 (leBytes 1 2) →
    (u.reg 0x2400 3 = 0 → u.powerState ≠ 2 → exec (.powerSleep req) s =
      .next ((u.startHandshake 2 (decide (worldOf req = .secure)) false).concluded req 0x2400 2 (leBytes 1 2) Status.pending)) ∧
    (u.reg 0x2400 3 = 0 → u.powerState = 2 → exec (.powerSleep req) s = .next (u.concluded req 0x2400 2 (leBytes 1 2) Status.ok)) ∧
    (u.reg 0x2400 3 ≠ 0 → exec (.powerSleep req) s = .next (u.concluded req 0x2400 2 (leBytes 1 2) Status.busy))) ∧
  (∀ (req : Requester) (s u : State), s.admits req 0x2400 2 (leBytes 1 3) = true → u = s.admitted req 0x2400 2 (leBytes 1 3) →
    (u.reg 0x2400 3 = 0 → exec (.powerDeepSleep req) s =
      .next ((u.startHandshake 3 (decide (worldOf req = .secure)) false).concluded req 0x2400 2 (leBytes 1 3) Status.pending)) ∧
    (u.reg 0x2400 3 ≠ 0 → exec (.powerDeepSleep req) s = .next (u.concluded req 0x2400 2 (leBytes 1 3) Status.busy))) ∧
  (∀ (req : Requester) (s u : State), s.admits req 0x2400 2 (leBytes 1 0) = true → u = s.admitted req 0x2400 2 (leBytes 1 0) →
    (u.reg 0x2400 3 = 0 → u.powerState ≠ 2 → exec (.powerRun req) s = .next (u.concluded req 0x2400 2 (leBytes 1 0) Status.ok)) ∧
    (u.reg 0x2400 3 = 0 → u.powerState = 2 → exec (.powerRun req) s = .next ((u.beginExit 4).concluded req 0x2400 2 (leBytes 1 0) Status.ok)) ∧
    (u.reg 0x2400 3 ≠ 0 → exec (.powerRun req) s = .next (u.concluded req 0x2400 2 (leBytes 1 0) Status.busy))) ∧
  (∀ (req : Requester) (s u : State), s.admits req 0x2400 2 (leBytes 1 4) = true → u = s.admitted req 0x2400 2 (leBytes 1 4) →
    (u.power.target = 4 → exec (.powerOff req) s = .next (u.concluded req 0x2400 2 (leBytes 1 4) Status.ok)) ∧
    (u.power.target ≠ 4 → u.exitRuns = true →
      exec (.powerOff req) s = .next (State.concluded { u with power := { u.power with offAfterExit := true } } req 0x2400 2 (leBytes 1 4) Status.ok)) ∧
    (u.power.target ≠ 4 → u.exitRuns = false → u.powerState ≠ 2 ∨ u.reg 0x2400 3 = 2 → ∃ t : State,
      exec (.powerOff req) s = .next (t.concluded req 0x2400 2 (leBytes 1 4) Status.ok) ∧ t = u.beginOff ∧ t.power.target = 4 ∧
      t.power.offNotice = some (u.now + ms 10)) ∧
    (u.power.target ≠ 4 → u.exitRuns = false → u.powerState = 2 → u.reg 0x2400 3 ≠ 2 → ∀ v, v = u.abortHandshake → exec (.powerOff req) s =
      .next ((State.beginExit { v with power := { v.power with offAfterExit := true } } 4).concluded req 0x2400 2 (leBytes 1 4) Status.ok))) ∧
  (∀ (target : Nat) (secure automatic : Bool) (s : State), s.startHandshake target secure automatic = State.setReg { s with power := { s.power with
    target := target, secureRequest := secure, automatic := automatic, secondQuery := false, delayUntil := none, wakeDuring := none, deepAfter := none } } 0x2400 3 1) ∧
  (∀ s : State, (s.reg 0x2400 3 ≠ 1 → s.abortHandshake = s) ∧
    (s.reg 0x2400 3 = 1 → s.abortHandshake = State.event
      ((State.setReg { s with power := { s.power with target := 0, delayUntil := none, wakeDuring := none } } 0x2400 3 0).setReg 0x2400 7 Status.aborted)
      0 0x0091 s.power.target Status.aborted 0xFF 0 0)) ∧
  (∀ (d : Nat) (up l12 : Bool) (s : State), s.reg 0x2400 3 = 1 → s.power.delayUntil = none →
    (s.powerAnswers up l12 = [] → exec (.handshakeAnswers d up l12) s = .next s.beginEntry) ∧
    (∀ a, chooseAnswer ((s.powerAnswers up l12).filter (fun x => x.refuse)) = some a → s.power.secondQuery = false →
      exec (.handshakeAnswers d up l12) s =
        .next (s.refusePower a.reason a (((s.powerAnswers up l12).filter (fun x => x.refuse)).any (fun x => decide (x.reason = 1))))) ∧
    (∀ a, chooseAnswer (s.powerAnswers up l12) = some a → s.power.secondQuery = true →
      exec (.handshakeAnswers d up l12) s =
        .next (s.refusePower a.reason a (((s.powerAnswers up l12).filter (fun x => x.refuse)).any (fun x => decide (x.reason = 1))))) ∧
    (∀ a delay, chooseAnswer (s.powerAnswers up l12) = some a → (∀ x ∈ s.powerAnswers up l12, x.refuse = false) → s.power.secondQuery = false →
      ((∃ x ∈ s.powerAnswers up l12, x.reason = 7) → delay = max d 2200000) → ((∀ x ∈ s.powerAnswers up l12, x.reason ≠ 7) → delay = d) →
      (delay ≤ ms (s.use 0x2400 5) →
        exec (.handshakeAnswers d up l12) s = .next { s with power := { s.power with delayUntil := some (s.now + delay) } }) ∧
      (ms (s.use 0x2400 5) < delay → exec (.handshakeAnswers d up l12) s = .next (s.refusePower 0x0B a false)))) ∧
  (∀ (d : Nat) (up l12 : Bool) (s : State), s.reg 0x2400 3 ≠ 1 ∨ s.power.delayUntil ≠ none → exec (.handshakeAnswers d up l12) s = .next s) ∧
  (∀ (as : List PowerAnswer) (a : PowerAnswer), chooseAnswer as = some a → a ∈ as ∧ ∀ b ∈ as, a.reason ≤ b.reason) ∧
  (∀ (as : List PowerAnswer), chooseAnswer as = none → as = []) ∧
  (∀ (t : Nat) (s : State), s.power.delayUntil = some t → exec .handshakeDelayExpiry s = .next { s.arriveAt t with
    power := { s.power with delayUntil := none, secondQuery := true } }) ∧
  (∀ s : State, s.power.delayUntil = none → exec .handshakeDelayExpiry s = .next s) ∧
  (∀ (s u v : State) (reason st : Nat) (a : PowerAnswer) (claims : Bool), st = (if claims then Status.deniedSecureClaim else Status.busy) →
    u = State.inc ((((State.setReg { s with power := { s.power with target := 0, delayUntil := none, wakeDuring := none } } 0x2400 3 0).setReg 0x2400 7 st).setReg
      0x2400 8 reason)) 0x2400 0xE →
    v = (if reason = 1 then (u.event 0 0x0091 s.power.target st a.die reason (a.cls + 256 * a.resource)).securityEvent 1 a.claim a.resource
      else u.event 0 0x0091 s.power.target st a.die reason (a.cls + 256 * a.resource)) →
    (s.power.wakeDuring = none → s.refusePower reason a claims = v.armDeep) ∧
    (∀ k, s.power.wakeDuring = some k → s.refusePower reason a claims =
      if wakeMarked k v.powerState = true ∧ v.powerState = 2 then v.beginExit k else v.armDeep))

/-- Entries and exits (R40, R54, R55, R68, R69, R263, R610, R613, R614, R617 to R620, R623). A completed entry shows the new state in phase STEADY
with its counter and time and its POWER_STATE event, stops device time in DEEP_SLEEP, and a wake that came meanwhile, or WAKE_N low, begins the
exit at once. The end of `deep_after_s` in SLEEP asks for DEEP_SLEEP. Begun exits show phase EXITING, and from DEEP_SLEEP or OFF raise both
enables and wait 50 ms for the rails. A completed exit is RUN with its source, or goes on to OFF where that was asked; the OFF notice's end is OFF
with both enables low, everything zeroised and the transceiver in standby. WAKE_N shorter than 0.2 µs is ignored, one of 1 µs or longer wakes,
and between them it is open which (a free value, log entry 77). A source acts in the states that R619 marks. A command whose moment has
not come changes nothing. -/
def Obligations.PowerEntriesAndExits : Prop :=
  (∀ s : State, s.reg 0x2400 3 = 2 → s.power.target = 2 ∨ s.power.target = 3 → ∃ u : State, u.reg 0x2400 1 = s.power.target ∧ u.reg 0x2400 3 = 0 ∧
    u.reg 0x2400 7 = Status.ok ∧ u.reg 0x2400 0xA = s.now ∧ u.power.target = 0 ∧ u.mcan.heartbeatDue = none ∧ u.power.awake = [] ∧ SameRings s u ∧
    u.mem = s.mem ∧ u.timeRuns = s.timeRuns ∧
    (s.power.target = 3 → u.pins.pwrenMain = false ∧ u.pins.pcieIdle = true ∧ u.pins.gpio = [] ∧ u.pins.gpioKept = s.pins.gpio ∧ u.pins.pwrenMem = s.pins.pwrenMem) ∧
    (s.power.target = 2 → u.pins = s.pins) ∧
    ∀ v, v = (if s.power.target = 3 then (u.eventAll 0x0090 0xFFFF Status.ok 0xFF s.power.target (256 * s.powerState)).timeStops
        else u.eventAll 0x0090 0xFFFF Status.ok 0xFF s.power.target (256 * s.powerState)) →
      (s.power.wakeDuring = none → exec .entryComplete s = .next (if v.power.wakeLow then v.beginExit 1 else v.armDeep)) ∧
      (∀ k, s.power.wakeDuring = some k → exec .entryComplete s = .next (v.beginExit k))) ∧
  (∀ s : State, s.reg 0x2400 3 ≠ 2 ∨ s.power.target = 4 ∨ s.power.target = 0 → exec .entryComplete s = .next s) ∧
  (∀ s : State, s.timeStops = { s with timeRuns := false, power := { s.power with sleepStart := s.now, sleepClock := s.clock } }) ∧
  (∀ (t : Nat) (s : State), s.power.deepAfter = some t → s.powerState = 2 → s.reg 0x2400 3 = 0 →
    exec .deepAfterExpiry s = .next ((s.arriveAt t).startHandshake 3 false true)) ∧
  (∀ s : State, s.power.deepAfter = none ∨ s.powerState ≠ 2 ∨ s.reg 0x2400 3 ≠ 0 → exec .deepAfterExpiry s = .next s) ∧
  (∀ (t : Nat) (s : State), s.power.offNotice = some t → ∃ u : State, exec .offNoticeExpiry s = .next (if s.power.wakeLow then u.beginExit 1 else u) ∧
    u.powerState = 4 ∧ u.pins.pwrenMain = false ∧ u.pins.pwrenMem = false ∧ u.pins.mcanStby = true ∧ u.pins.pcieIdle = true ∧ u.worlds.claims = [] ∧
    u.power.zeroised = true ∧ u.fuses = s.fuses ∧ u.mem = [] ∧ u.imem = [] ∧ u.out = s.out ∧ u.active = [] ∧ u.draft = [] ∧ u.previous = none) ∧
  (∀ s : State, s.power.offNotice = none → exec .offNoticeExpiry s = .next s) ∧
  (∀ (n : Nat) (held : Bool) (s u v : State), u = { s with power := { s.power with wakeLow := held } } →
    (n < 200 → exec (.wakeN n held) s = .next u) ∧
    (1000 ≤ n → 2 ≤ s.powerState ∨ s.power.target ≠ 0 → exec (.wakeN n held) s = .next (u.wakeFrom 1)) ∧
    (1000 ≤ n → s.powerState ≤ 1 → s.power.target = 0 → exec (.wakeN n held) s = .next (u.each s.dieList (fun t d => t.leaveIdle d))) ∧
    (200 ≤ n → n < 1000 → v = { u with free := s.free + 1 } → exec (.wakeN n held) s = .next v ∨
      exec (.wakeN n held) s = .next (if s.powerState ≤ 1 ∧ s.power.target = 0 then v.each s.dieList (fun t d => t.leaveIdle d) else v.wakeFrom 1))) ∧
  (∀ (s : State) (k : Nat), s.exitRuns = true → s.wakeFrom k = s) ∧
  (∀ (s : State) (k : Nat), s.exitRuns = false → s.entryRuns = false →
    (wakeMarked k s.powerState = true → s.wakeFrom k = s.beginExit k) ∧ (wakeMarked k s.powerState = false → s.wakeFrom k = s)) ∧
  (∀ (s : State) (k : Nat), s.exitRuns = false → s.entryRuns = true → s.power.target ≠ 4 → wakeMarked k s.powerState = true ∨ wakeMarked k s.power.target = true →
    s.wakeFrom k = State.inc { s with power := { s.power with wakeDuring := some (s.power.wakeDuring.getD k) } } 0x2400 0xB) ∧
  (∀ (s : State) (k : Nat), s.exitRuns = false → s.entryRuns = true → s.power.target = 4 ∨ (wakeMarked k s.powerState = false ∧ wakeMarked k s.power.target = false) →
    s.wakeFrom k = s) ∧
  (∀ state, 2 ≤ state → state ≤ 4 → wakeMarked 1 state = true ∧ wakeMarked 2 state = decide (state ≠ 4) ∧ wakeMarked 3 state = decide (state = 2) ∧
    wakeMarked 4 state = decide (state = 2)) ∧
  (∀ (s : State) (k : Nat), (s.beginExit k).reg 0x2400 3 = 3 ∧ (s.beginExit k).power.exitSource = k ∧ (s.beginExit k).power.exitFrom = s.powerState ∧
    (3 ≤ s.powerState → (s.beginExit k).pins = { s.pins with pwrenMain := true, pwrenMem := true } ∧
      (s.beginExit k).power.railsWait = some ((s.beginExit k).now + ms 50)) ∧
    (s.powerState < 3 → (s.beginExit k).pins = s.pins ∧ (s.beginExit k).power.railsWait = none) ∧
    (s.powerState = 3 → (s.beginExit k).timeRuns = true ∧ s.now ≤ (s.beginExit k).now) ∧
    (s.powerState ≠ 3 → (s.beginExit k).now = s.now ∧ (s.beginExit k).timeRuns = s.timeRuns)) ∧
  (∀ s : State, s.exitRuns = true → s.power.railsWait = none → s.power.exitFrom ≠ 4 →
    exec .exitComplete s = .next (if s.power.offAfterExit then s.finishExit.beginOff else s.finishExit)) ∧
  (∀ s : State, s.exitRuns = false ∨ s.power.railsWait ≠ none ∨ s.power.exitFrom = 4 → exec .exitComplete s = .next s) ∧
  (∀ s : State, s.finishExit.power.exitSource = 0 ∧ s.finishExit.power.exitFrom = 0 ∧ s.finishExit.power.offAfterExit = false ∧
    SameRings s s.finishExit ∧ s.finishExit.mem = s.mem ∧ s.finishExit.now = s.now)

/-- Dies, domains and regulators (R609, R624 to R631, R633, R666, R727). A die that meets the conditions enters IDLE and leaves it, and the device reads
IDLE when every die does. A domain returns to sleep. A margin warning raises the native bias by 20 mV to at most 600 mV, or commands a voltage 5 mV
higher up to 850 mV, and 1 ms without one lowers the bias by 10 mV to bias_run_min_mv, or commands a voltage 5 mV lower down to 550 mV, with the
assists on below 0 mV. A STATUS_WORD with POWER_GOOD# and VOUT clear acknowledges, with a RECOVERED event after a timeout; VOUT faults; a
first timeout, or one of the clock's stretching, clears faults and sends the command again, and a second is FAULT with its VOLTAGE event and
cause VR_FAULT. VR_ALERT judges every regulator. With no command out, or a die that is not there or does not run, nothing changes. -/
def Obligations.DiesAndRegulators : Prop :=
  (∀ (d : Nat) (s : State), d < s.dies → s.operational = true → s.powerState ≤ 1 → s.reg 0x2400 3 ≠ 2 → s.reg (0x2408 + d) 1 = 0 → s.dieMayIdle d = true →
    exec (.dieIdleEntry d true) s = .next (State.settleIdle (State.setReg
      { s with power := { s.power with idleSince := Tab.put s.power.idleSince d s.now } } (0x2408 + d) 1 1))) ∧
  (∀ (d : Nat) (w : Bool) (s : State), s.dies ≤ d ∨ s.operational = false ∨ 2 ≤ s.powerState ∨ s.reg 0x2400 3 = 2 ∨ s.reg (0x2408 + d) 1 ≠ 0 ∨ w = false ∨
    s.dieMayIdle d = false → exec (.dieIdleEntry d w) s = .next s) ∧
  (∀ (d : Nat) (s : State), d < s.dies → s.reg (0x2408 + d) 1 = 1 → ∃ u : State, exec (.dieIdleExit d) s = .next u.settleIdle ∧ u.reg (0x2408 + d) 1 = 0 ∧
    SameLiveBut s u [entryKey (0x2408 + d) 1] ∧ u = { s with live := u.live, power := u.power }) ∧
  (∀ (d : Nat) (s : State), s.dies ≤ d ∨ s.reg (0x2408 + d) 1 ≠ 1 → exec (.dieIdleExit d) s = .next s) ∧
  (∀ s : State, s.powerState ≤ 1 → s.settleIdle.powerState = (if ∀ d ∈ s.dieList, s.reg (0x2408 + d) 1 = 1 then 1 else 0)) ∧
  (∀ (d : Nat) (m : Domain) (s : State), exec (.domainSleepTimer d m) s = .next { s with power := { s.power with
    awake := s.power.awake.filter (fun p => p ≠ (d, m)) } }) ∧
  (∀ (d : Nat) (w : Bool) (s : State), s.dies ≤ d ∨ s.operational = false ∨ 2 ≤ s.powerState → exec (.biasMonitor d w) s = .next s) ∧
  (∀ (d : Nat) (s u : State), d < s.dies → s.operational = true → s.powerState ≤ 1 →
    u = { s with power := { s.power with lastWarning := Tab.put s.power.lastWarning d s.now } } →
    (s.reg (0x2408 + d) 6 = 0 → s.regI (0x2408 + d) 3 < 600 → exec (.biasMonitor d true) s = .next
      (((u.setRegI (0x2408 + d) 3 (min 600 (s.regI (0x2408 + d) 3 + 20))).setReg (0x2408 + d) 4 (runAssist (min 600 (s.regI (0x2408 + d) 3 + 20)))).inc (0x2608 + d) 6)) ∧
    (s.reg (0x2408 + d) 6 = 0 → 600 ≤ s.regI (0x2408 + d) 3 → exec (.biasMonitor d true) s = .next u) ∧
    (s.reg (0x2408 + d) 6 = 1 → s.reg (0x2408 + d) 5 + 5 ≤ 850 →
      exec (.biasMonitor d true) s = .next ((u.vrCommand d (s.reg (0x2408 + d) 5 + 5)).inc (0x2608 + d) 6)) ∧
    (s.reg (0x2408 + d) 6 ≠ 0 → s.reg (0x2408 + d) 6 ≠ 1 ∨ 850 < s.reg (0x2408 + d) 5 + 5 → exec (.biasMonitor d true) s = .next u)) ∧
  (∀ (d : Nat) (s u : State), d < s.dies → s.operational = true → s.powerState ≤ 1 →
    max (Tab.getD s.power.lastWarning d 0) (Tab.getD s.power.lastFall d 0) + ms 1 ≤ s.now →
    u = { s with power := { s.power with lastFall := Tab.put s.power.lastFall d s.now } } →
    (s.reg (0x2408 + d) 6 = 0 → s.useI 0x2410 1 < s.regI (0x2408 + d) 3 → exec (.biasMonitor d false) s = .next
      (((u.setRegI (0x2408 + d) 3 (max (s.useI 0x2410 1) (s.regI (0x2408 + d) 3 - 10))).setReg (0x2408 + d) 4
        (runAssist (max (s.useI 0x2410 1) (s.regI (0x2408 + d) 3 - 10)))).inc (0x2608 + d) 7)) ∧
    (s.reg (0x2408 + d) 6 = 0 → s.regI (0x2408 + d) 3 ≤ s.useI 0x2410 1 → exec (.biasMonitor d false) s = .next s) ∧
    (s.reg (0x2408 + d) 6 = 1 → Tab.find? s.power.vr d = none → 555 ≤ s.reg (0x2408 + d) 5 →
      exec (.biasMonitor d false) s = .next ((u.vrCommand d (s.reg (0x2408 + d) 5 - 5)).inc (0x2608 + d) 7)) ∧
    (s.reg (0x2408 + d) 6 ≠ 0 → s.reg (0x2408 + d) 6 ≠ 1 ∨ Tab.find? s.power.vr d ≠ none ∨ s.reg (0x2408 + d) 5 < 555 →
      exec (.biasMonitor d false) s = .next s)) ∧
  (∀ (d : Nat) (s : State), s.now < max (Tab.getD s.power.lastWarning d 0) (Tab.getD s.power.lastFall d 0) + ms 1 → exec (.biasMonitor d false) s = .next s) ∧
  (∀ (d st : Nat) (c : VrCommand) (s : State), Tab.find? s.power.vr d = some c →
    exec (.vrAck d st) s = .next (s.vrJudge d (st % 65536))) ∧
  (∀ (d st : Nat) (s : State), Tab.find? s.power.vr d = none →
    exec (.vrAck d st) s = .next s ∧ exec (.vrTimeout d) s = .next s ∧ exec (.clockStretchTimeout d) s = .next s) ∧
  (∀ (d st : Nat) (s u v : State), u = s.setReg (0x2408 + d) 7 st → v = { u with power := { u.power with vr := Tab.erase u.power.vr d } } →
    (bit st 15 = true → s.vrJudge d st = u.vrFault d 2) ∧
    (bit st 15 = false → bit st 11 = true → s.vrJudge d st = u) ∧
    (∀ c, bit st 15 = false → bit st 11 = false → Tab.find? s.power.vr d = some c →
      (c.retried = false → s.vrJudge d st = v) ∧ (c.retried = true → s.vrJudge d st = v.voltageEvent d 5 Status.ok)) ∧
    (bit st 15 = false → bit st 11 = false → Tab.find? s.power.vr d = none → s.vrJudge d st = v)) ∧
  (∀ (d : Nat) (c : VrCommand) (s : State), Tab.find? s.power.vr d = some c →
    (c.retried = false → ∃ t u w : State, exec (.vrTimeout d) s = .next t ∧ u = (s.inc (0x2408 + d) 8).pmbusWrite d 3 [] ∧
      (∃ code, w = u.pmbusWrite d 0x21 (leBytes 2 code)) ∧ t = { w with power := { w.power with vr := Tab.put w.power.vr d { c with retried := true } } }) ∧
    (c.retried = true → exec (.vrTimeout d) s = .next ((s.inc (0x2408 + d) 8).vrFault d 1))) ∧
  (∀ (d : Nat) (s : State), exec (.clockStretchTimeout d) s = exec (.vrTimeout d) s) ∧
  (∀ (d reason : Nat) (s : State), (s.reg (0x2408 + d) 6 = 1 → s.vrFault d reason = (State.voltageEvent
      (State.setReg { s with power := { s.power with vr := Tab.erase s.power.vr d } } (0x2408 + d) 6 3) d reason Status.hwFault).cause 7 d 0xA (16 * d)) ∧
    (s.reg (0x2408 + d) 6 ≠ 1 → s.vrFault d reason = s)) ∧
  (∀ (ws : List (Nat × Nat)) (s : State), exec (.vrAlert ws) s = .next (s.each s.dieList (fun t d =>
    match Tab.find? ws d with
    | none => t
    | some w =>
      if t.reg (0x2408 + d) 6 ≠ 1 then t
      else if bit (w % 65536) 11 ∧ !bit (w % 65536) 15 then (t.vrJudge d (w % 65536)).voltageEvent d 3 Status.ok
      else t.vrJudge d (w % 65536))))

/-- Sapflow (R639 to R641, R643 to R646, R668, R676, R678, R681). A grant round runs at the next multiple of 1 ms and leaves rings, fuses, claims and
pins, and of memory all but the management SRAM and the top 1 MiB of the stack of a die whose self-test it begins; its graphics grants spend no more
than the headroom, never lower a clock, and account for every step. A projection above the limit is cut once, in shedding order: graphics above
the floor by 50 MHz, then the Canopy builds that carry no claim, then calibration, then a running slot; with nothing left nothing is cut or
counted. A die over its peak current steps its own clock down to the floor, then pauses its calibration, then reports. A PLAY held for
board_wait_ms ends BUSY and counts. While the device does not serve, or its trunk is in succession, the rounds and cuts change nothing. -/
def Obligations.SapflowRoundsAndCuts : Prop :=
  (∀ (p u : Nat) (fl : List Nat) (s : State), s.serving = true → s.health.succession = false → ∃ t : State, exec (.grantRound p u fl) s = .next t ∧
    t.now = max s.now ((s.now + 999999) / 1000000 * 1000000) ∧ SameRings s t ∧ t.fuses = s.fuses ∧ t.worlds = s.worlds ∧ t.pins = s.pins ∧
    (s.reg 0x2710 2 ≠ 1 → t.mem = s.mem) ∧
    ∀ b, b < stackBase (s.reg 0x2710 3) + 0x7FF00000 ∨ stackBase (s.reg 0x2710 3) + 0x80000000 ≤ b →
      b < sramBase (s.reg 0x2710 3) ∨ sramBase (s.reg 0x2710 3) + 0x80000 ≤ b → Memory.read t.mem b = Memory.read s.mem b) ∧
  (∀ (p u mw : Nat) (fl : List Nat) (s : State), s.serving = false ∨ s.health.succession = true →
    exec (.grantRound p u fl) s = .next s ∧ exec (.projectionCheck mw) s = .next s) ∧
  (∀ (step : Int) (want n : Nat) (gs : List (Nat × Nat)) (room : Int), 0 ≤ step → 0 ≤ room →
    0 ≤ (gfxPasses step want n gs room).2 ∧ (gfxPasses step want n gs room).1.map (·.1) = gs.map (·.1) ∧
    50 * (room - (gfxPasses step want n gs room).2) =
      step * ((((gfxPasses step want n gs room).1.map (·.2)).sum : Nat) - ((gs.map (·.2)).sum : Nat) : Int) ∧
    List.Forall₂ (fun a b => a.2 ≤ b.2 ∧ (b.2 ≤ a.2 ∨ b.2 < want + 50)) gs (gfxPasses step want n gs room).1) ∧
  (∀ (mw : Nat) (s : State), (mw : Int) ≤ (250 * s.use 0x2500 1 : Nat) - (s.use 0x2500 2 : Int) →
    exec (.projectionCheck mw) s = .next s) ∧
  (∀ (mw : Nat) (s : State), s.serving = true → s.health.succession = false → ((250 * s.use 0x2500 1 : Nat) - (s.use 0x2500 2 : Int) : Int) < mw →
    (∀ high, high = s.dieList.filter (fun d => decide (s.use 0x2500 3 < s.reg (0x2508 + d) 5)) → high ≠ [] → exec (.projectionCheck mw) s =
      .next ((s.inc 0x2501 0xB).each high (fun t d => t.setReg (0x2508 + d) 5 (t.reg (0x2508 + d) 5 - 50)))) ∧
    ((∀ d ∈ s.dieList, s.reg (0x2508 + d) 5 ≤ s.use 0x2500 3) → ∀ builds, builds = s.sapflow.canopyGranted.filter (fun h => !s.claimed 1 h) →
      (builds ≠ [] → exec (.projectionCheck mw) s = .next ((s.inc 0x2501 0xB).each builds (fun t h => t.withdrawBuild h))) ∧
      (builds = [] → s.sapflow.calibration = true → exec (.projectionCheck mw) s = .next ((s.inc 0x2501 0xB).pauseCalibration.inc 0x2501 9)) ∧
      (builds = [] → s.sapflow.calibration = false → s.reg 0x2710 2 = 2 → exec (.projectionCheck mw) s = .next ((s.inc 0x2501 0xB).slotCut.inc 0x2501 0xA)) ∧
      (builds = [] → s.sapflow.calibration = false → s.reg 0x2710 2 ≠ 2 → exec (.projectionCheck mw) s = .next s))) ∧
  (∀ (d ma : Nat) (s u : State), d < s.dies → s.serving = true → u = (s.setReg (0x2508 + d) 2 ma).raise (0x2508 + d) 3 ma →
    (ma ≤ s.use (0x2508 + d) 1 → exec (.peakCurrentCheck d ma) s = .next u) ∧
    (s.use (0x2508 + d) 1 < ma → s.use 0x2500 3 < s.reg (0x2508 + d) 5 →
      exec (.peakCurrentCheck d ma) s = .next ((u.setReg (0x2508 + d) 5 (s.reg (0x2508 + d) 5 - 50)).inc (0x2508 + d) 7)) ∧
    (s.use (0x2508 + d) 1 < ma → s.reg (0x2508 + d) 5 ≤ s.use 0x2500 3 →
      ((∀ c ∈ Tab.keys s.survey.piezoRunning, hapDie c ≠ d) → (∀ o ∈ s.survey.pilotRunning, o / 8 ≠ d) →
        exec (.peakCurrentCheck d ma) s = .next (u.sapflowEvent d d 3 ma)) ∧
      ((∃ c ∈ Tab.keys s.survey.piezoRunning, hapDie c = d) ∨ (∃ o ∈ s.survey.pilotRunning, o / 8 = d) → ∃ v : State,
        v = ((u.cutCalibration (fun c => decide (hapDie c = d)) (fun o => decide (o / 8 = d))).setReg 0x2600 8 1).inc 0x2501 9 ∧
        exec (.peakCurrentCheck d ma) s = .next { v with sapflow := { v.sapflow with pausedDies := d :: v.sapflow.pausedDies } }))) ∧
  (∀ (d ma : Nat) (s : State), s.dies ≤ d ∨ s.serving = false → exec (.peakCurrentCheck d ma) s = .next s) ∧
  (∀ (c : Nat) (p : HapticPlay) (s : State), (s.hap c).play = some p → p.placed = false → exec (.boardWaitExpiry c) s = .next
    ((((s.arriveAt p.dueAt).modHap c (fun h => { h with play := none })).endPlay p Status.busy).inc (0x2510 + s.hapCfg c 0x11) 5)) ∧
  (∀ (c : Nat) (s : State), (∀ p, (s.hap c).play = some p → p.placed = true) → exec (.boardWaitExpiry c) s = .next s)

/-- The survey (R652, R654, R655, R657, R658, R661 to R663, R667, R669, R673, R674, R676, R683). A rail's reading is stored and judged: RAIL_LOW
below the reference less 0.75 of its tolerance, RAIL_HIGH above it plus the tolerance, each with its bit, count, bit 2 of the error register, EMCY
0x3000 and event on entry, left after 10 ms within half the tolerance; temperatures likewise with TEMP_WARN and TEMP_LIMIT. A condition that lasts
1 s or 10 s is a cause of its own. Measurements are asked for on request or by interval, wait until they may start, are judged OK, DEVIATION, OPEN
or SHORT, stored, counted and reported when their state changes. A lane's second shows idle bias, termination and glitches. DRAM tracking counts a
step, and the third MARGIN of a die is the cause DRAM_MARGIN. A die, rail, sensor, channel, output or lane that the part lacks or that does
not work, and a measurement that does not run, change nothing. -/
def Obligations.SurveyReadings : Prop :=
  (∀ (d r mv : Nat) (s : State), d < s.dies → r < 12 → s.surveyWorks d = true → (d = 0 ∨ (r ≠ 3 ∧ r ≠ 9)) →
    s.regBytes (0x2608 + d) 1 = [] ∨ (s.regBytes (0x2608 + d) 1).length = 24 → ∃ u : State, exec (.railSample d r mv) s = .next (u.railJudge d r mv) ∧
    u = { s with live := u.live } ∧ SameLiveBut s u [entryKey (0x2608 + d) 1] ∧ slice (u.regBytes (0x2608 + d) 1) (2 * r) 2 = leBytes 2 mv) ∧
  (∀ (d r mv : Nat) (s : State), s.dies ≤ d ∨ 12 ≤ r ∨ s.surveyWorks d = false ∨ (d ≠ 0 ∧ (r = 3 ∨ r = 9)) → exec (.railSample d r mv) s = .next s) ∧
  (∀ (d r mv k ref tol st : Nat) (c : Condition) (s : State), k = 16 * d + r → c = Tab.getD s.survey.rails k {} → ref = s.railReference d r → tol = (railNominal r).2 →
    st = (if mv * 10000 < ref * (10000 - 75 * tol) then 1 else if ref * (100 + tol) < mv * 100 then 2 else 0) →
    (st ≠ 0 → c.state ≠ st → s.railJudge d r mv = State.surveyEvent (((((State.setReg { s with survey := { s.survey with rails := Tab.put s.survey.rails k { c with state := st, since := if c.state = 0 then s.now else c.since, inside := none } } }
        (0x2608 + d) 2 (setBit (s.reg (0x2608 + d) 2) r true)).inc (0x2608 + d) 5).errorBit 2).raiseEmcy 0x3000 Status.ok d 0xA k)) 0x0095 r d st mv) ∧
    (st = 0 → c.state = 0 → s.railJudge d r mv = s) ∧
    (c.state ≠ 0 → st = 0 ∨ st = c.state →
      (¬(ref * (1000 - 5 * tol) ≤ mv * 1000 ∧ mv * 1000 ≤ ref * (1000 + 5 * tol)) → s.railJudge d r mv =
        { s with survey := { s.survey with rails := Tab.put s.survey.rails k { c with inside := none } } }) ∧
      (ref * (1000 - 5 * tol) ≤ mv * 1000 → mv * 1000 ≤ ref * (1000 + 5 * tol) →
        (c.inside = none → s.railJudge d r mv = { s with survey := { s.survey with rails := Tab.put s.survey.rails k { c with inside := some s.now } } }) ∧
        (∀ t, c.inside = some t → s.now < t + ms 10 → s.railJudge d r mv = s) ∧
        (∀ t u, c.inside = some t → t + ms 10 ≤ s.now → u = State.surveyEvent (State.setReg { s with survey := { s.survey with rails := Tab.put s.survey.rails k {} } } (0x2608 + d) 2 (setBit (s.reg (0x2608 + d) 2) r false)) 0x0095 r d 3 mv →
          s.railJudge d r mv = if u.survey.rails.any (fun e => decide (e.2.state ≠ 0)) then u else u.clearErrorBit 2)))) ∧
  (∀ (d r : Nat) (c : Condition) (s u : State), c = Tab.getD s.survey.rails (16 * d + r) {} → u = s.arriveAt (c.since + sec 1) →
    (c.state ≠ 0 → c.raised = false → exec (.railPersistence d r) s = .next (State.cause { u with survey := { u.survey with
      rails := Tab.put u.survey.rails (16 * d + r) { c with raised := true } } } 8 d 0xA (16 * d + r))) ∧
    (c.state = 0 ∨ c.raised = true → exec (.railPersistence d r) s = .next s)) ∧
  (∀ (d n : Nat) (v : Int) (s : State), d < s.dies → n < 6 → s.surveyWorks d = true → ∃ u : State, exec (.tempSample d n v) s = .next (u.tempJudge d n v) ∧
    u.regI (0x2608 + d) 4 = max (s.regI (0x2608 + d) 4) v ∧ SameLiveBut s u [entryKey (0x2608 + d) 3, entryKey (0x2608 + d) 4] ∧ u = { s with live := u.live }) ∧
  (∀ (d n : Nat) (v : Int) (s : State), s.dies ≤ d ∨ 6 ≤ n ∨ s.surveyWorks d = false → exec (.tempSample d n v) s = .next s) ∧
  (∀ (d n : Nat) (v : Int) (s : State), bit (Tab.getD (s.tempJudge d n v).survey.sensors (16 * d + n) {}).state 0 =
      (if 10 * s.cfgI 0x2600 1 ≤ v then true else if v ≤ 10 * s.cfgI 0x2600 1 - 30 then false else bit (Tab.getD s.survey.sensors (16 * d + n) {}).state 0) ∧
    bit (Tab.getD (s.tempJudge d n v).survey.sensors (16 * d + n) {}).state 1 =
      (if 10 * s.junctionMax ≤ v then true else if v ≤ 10 * s.junctionMax - 30 then false else bit (Tab.getD s.survey.sensors (16 * d + n) {}).state 1) ∧
    ∀ k, k ≠ 16 * d + n → Tab.getD (s.tempJudge d n v).survey.sensors k {} = Tab.getD s.survey.sensors k {}) ∧
  (∀ (d n : Nat) (c : Condition) (s u : State), c = Tab.getD s.survey.sensors (16 * d + n) {} → u = s.arriveAt (c.since + sec 10) →
    (bit c.state 1 = true → c.raised = false → exec (.tempPersistence d n) s = .next (State.cause { u with survey := { u.survey with
      sensors := Tab.put u.survey.sensors (16 * d + n) { c with raised := true } } } 9 d 0 d)) ∧
    (bit c.state 1 = false ∨ c.raised = true → exec (.tempPersistence d n) s = .next s)) ∧
  (∀ (req : Requester) (c : Nat) (s u : State), c < 16 → s.admits req (0x2610 + c) 6 (leBytes 1 1) = true → u = s.admitted req (0x2610 + c) 6 (leBytes 1 1) →
    exec (.piezoRequest req c 1) s = .next ((u.askPiezo c).concluded req (0x2610 + c) 6 (leBytes 1 1) Status.ok)) ∧
  (∀ (req : Requester) (c v : Nat) (s : State), c < 16 → v < 256 → v ≠ 1 → s.reaches req (0x2610 + c) 6 (leBytes 1 v) = true →
    exec (.piezoRequest req c v) s = .next (s.turnedAway req (0x2610 + c) 6 (leBytes 1 v))) ∧
  (∀ (req : Requester) (o : Nat) (s u : State), o < 64 → s.admits req (0x2620 + o) 0xC (leBytes 1 1) = true → u = s.admitted req (0x2620 + o) 0xC (leBytes 1 1) →
    (u.cfg (0x2620 + o) 1 = 2 → exec (.speakerRequest req o 1) s = .next ((u.askPilot o).concluded req (0x2620 + o) 0xC (leBytes 1 1) Status.ok)) ∧
    (u.cfg (0x2620 + o) 1 ≠ 2 → exec (.speakerRequest req o 1) s = .next (u.concluded req (0x2620 + o) 0xC (leBytes 1 1) Status.range))) ∧
  (∀ (req : Requester) (o v : Nat) (s : State), o < 64 → v < 256 → v ≠ 1 → s.reaches req (0x2620 + o) 0xC (leBytes 1 v) = true →
    exec (.speakerRequest req o v) s = .next (s.turnedAway req (0x2620 + o) 0xC (leBytes 1 v))) ∧
  (∀ (c : Nat) (s : State), (c < 2 * s.dies → s.cfg 0x2600 3 ≠ 0 → s.serving = true → exec (.piezoInterval c) s = .next (s.askPiezo c)) ∧
    (2 * s.dies ≤ c ∨ s.cfg 0x2600 3 = 0 ∨ s.serving = false → exec (.piezoInterval c) s = .next s)) ∧
  (∀ (o : Nat) (s : State), (o < 64 → s.cfg 0x2600 5 ≠ 0 → s.cfg (0x2620 + o) 1 = 2 → s.serving = true → exec (.speakerInterval o) s = .next (s.askPilot o)) ∧
    (64 ≤ o ∨ s.cfg 0x2600 5 = 0 ∨ s.cfg (0x2620 + o) 1 ≠ 2 ∨ s.serving = false → exec (.speakerInterval o) s = .next s)) ∧
  (∀ (c : Nat) (s : State), c ∉ s.survey.piezoWaiting → Tab.find? s.survey.piezoRunning c = none →
    ((State.piezoReady s c = false → c ∈ (s.askPiezo c).survey.piezoWaiting) ∧ (State.piezoReady s c = true → Tab.find? (s.askPiezo c).survey.piezoRunning c = some s.now))) ∧
  (∀ (c : Nat) (s : State), c ∈ s.survey.piezoWaiting ∨ Tab.find? s.survey.piezoRunning c ≠ none → s.askPiezo c = s) ∧
  (∀ (c nf t0 st : Nat) (s t u : State), Tab.find? s.survey.piezoRunning c = some t0 → st = piezoState nf (s.hapCfg c 9) (s.cfg 0x2600 4) →
    u = s.arriveAt (t0 + ms 12) →
    t = (((State.setReg { u with survey := { u.survey with piezoRunning := Tab.erase u.survey.piezoRunning c } } (0x2610 + c) 1 nf).setReg (0x2610 + c) 2 st).setReg
      (0x2610 + c) 3 u.now).inc (0x2610 + c) 4 →
    exec (.piezoMeasurement c nf) s = .next (if s.reg (0x2610 + c) 2 = st then t else t.loadEvent c (hapDie c) 1 (st + 2 ^ 32 * nf) (s.hapticHolder c))) ∧
  (∀ (c nf : Nat) (s : State), Tab.find? s.survey.piezoRunning c = none → exec (.piezoMeasurement c nf) s = .next s) ∧
  (∀ c c0 tol, (10 * c < c0 → piezoState c c0 tol = 3) ∧ (c0 ≤ 10 * c → 3 * c0 < c → piezoState c c0 tol = 4) ∧
    (c0 ≤ 10 * c → c ≤ 3 * c0 → ((c : Int) - c0).natAbs * 1000 ≤ tol * c0 → piezoState c c0 tol = 1) ∧
    (c0 ≤ 10 * c → c ≤ 3 * c0 → tol * c0 < ((c : Int) - c0).natAbs * 1000 → piezoState c c0 tol = 2)) ∧
  (∀ z nom, (4 * nom < z → speakerState z nom = 3) ∧ (z ≤ 4 * nom → 2 * z < nom → speakerState z nom = 4) ∧
    (z ≤ 4 * nom → nom ≤ 2 * z → ((z : Int) - nom).natAbs * 10 ≤ 3 * nom → speakerState z nom = 1) ∧
    (z ≤ 4 * nom → nom ≤ 2 * z → 3 * nom < ((z : Int) - nom).natAbs * 10 → speakerState z nom = 2)) ∧
  (∀ (o z i st : Nat) (s t : State), o < 64 → s.serving = true → (s.cfg (0x2620 + o) 1 = 1 ∧ s.cfg (0x2620 + o) 5 ≤ 100 * i) ∨ (s.cfg (0x2620 + o) 1 = 2 ∧ o ∈ s.survey.pilotRunning) →
    st = speakerState z (s.cfg (0x2620 + o) 6) →
    t = (((State.setReg { s with survey := { s.survey with pilotRunning := s.survey.pilotRunning.filter (· ≠ o) } } (0x2620 + o) 7 z).setReg (0x2620 + o) 8 st).setReg
      (0x2620 + o) 9 s.now).inc (0x2620 + o) 0xA →
    exec (.speakerBlock o z i) s = .next (if s.reg (0x2620 + o) 8 = st then t else t.loadEvent (0x100 + o) 0xFF 2 (st + 2 ^ 32 * z) 0)) ∧
  (∀ (o z i : Nat) (s : State), 64 ≤ o ∨ s.serving = false ∨ ((s.cfg (0x2620 + o) 1 ≠ 1 ∨ 100 * i < s.cfg (0x2620 + o) 5) ∧
    (s.cfg (0x2620 + o) 1 ≠ 2 ∨ o ∉ s.survey.pilotRunning)) → exec (.speakerBlock o z i) s = .next s) ∧
  (∀ (n idle edges gl : Nat) (s : State), n < s.laneCount → s.serving = true → s.laneMode n ≠ 0 → ∃ t : State, exec (.laneSurveySecond n idle edges gl) s = .next t ∧
    t.reg (0x2660 + n) 1 = (if idle = 0 then 1 else 2) ∧ t.reg (0x2660 + n) 2 = (if 20 * edges < 1000 * gl then 2 else 1) ∧
    (edges = 0 → t.reg (0x2660 + n) 3 = 0) ∧ t.free = s.free + 1 ∧ SameRings s t ∧ t.mem = s.mem) ∧
  (∀ (n idle edges gl : Nat) (s : State), s.laneCount ≤ n ∨ s.serving = false ∨ s.laneMode n = 0 → exec (.laneSurveySecond n idle edges gl) s = .next s) ∧
  (∀ (d ps : Nat) (s t u : State), d < s.dies → s.operational = true → s.health.stopped = false → s.shellUp d = true →
    s.powerState ≤ 1 ∨ s.exitRuns = true → t = (s.inc (0x2608 + d) 8).setReg (0x2608 + d) 0xA s.now →
    u = State.surveyEvent { t.inc (0x2608 + d) 9 with survey := { s.survey with margin := d :: s.survey.margin.filter (· ≠ d) } } 0x0097 d d 1 (ps % 65536) →
    exec (.dramTrack d ps true) s = .next (if s.reg (0x2608 + d) 9 = 2 then u.cause 10 d 2 d else u) ∧
    (d ∉ s.survey.margin → exec (.dramTrack d ps false) s = .next t) ∧
    (d ∈ s.survey.margin → exec (.dramTrack d ps false) s = .next (State.surveyEvent { t with survey := { s.survey with
      margin := s.survey.margin.filter (· ≠ d) } } 0x0097 d d 2 (ps % 65536)))) ∧
  (∀ (d ps : Nat) (m : Bool) (s : State), s.dies ≤ d ∨ s.operational = false ∨ s.health.stopped = true ∨ s.shellUp d = false ∨ (2 ≤ s.powerState ∧ s.exitRuns = false) →
    exec (.dramTrack d ps m) s = .next s)

/-- Self-test and health (R679 to R682, R684, R685, R688, R689, R691, R692, with R136 and R187 at a succession). A write to selftest.run is judged in
the order of R680: RANGE, NOT_PRESENT, DENIED_ACCESS, BUSY, else PENDING, which alone makes the request. A completed slot writes its results, counts
and event, takes failed items out of service and lets every head choose its guard; with no slot running it changes nothing. The deferral limit
aborts a waiting request and changes nothing else. A Core watched by its heartbeat is FAILED after 1 ms without one, its Shell after 1 ms without
an acknowledgement; an unwatched one is not. The first cause is the replacement request: SERVICE_REQUESTED with the cause kept and SVC_REQ_N low; in
FAILED a cause changes nothing. A lender serves once, with reason SERVED, and only where one is named for a FAILED Core. A succession gives the
role to D1, delivers what was held, and ends handshake, undecided ring and undecided groups; with none in progress nothing happens. -/
def Obligations.SelfTestAndHealth : Prop :=
  (∀ (req : Requester) (d : Nat) (s : State), d < 256 → 7 < d → s.reaches req 0x2710 1 (leBytes 1 d) = true →
    exec (.selftestRun req d) s = .next (s.turnedAway req 0x2710 1 (leBytes 1 d))) ∧
  (∀ (req : Requester) (d : Nat) (s u : State), d ≤ 7 → s.admits req 0x2710 1 (leBytes 1 d) = true → u = s.admitted req 0x2710 1 (leBytes 1 d) →
    (u.dies ≤ d → exec (.selftestRun req d) s = .next (u.concluded req 0x2710 1 (leBytes 1 d) Status.notPresent)) ∧
    (d < u.dies → d = u.trunk ∨ (d = 1 ∧ u.trunk = 0) ∨ u.reg (0x2008 + d) 2 = 3 ∨ u.shellUp d = false →
      exec (.selftestRun req d) s = .next (u.concluded req 0x2710 1 (leBytes 1 d) Status.deniedAccess)) ∧
    (d < u.dies → d ≠ u.trunk → ¬(d = 1 ∧ u.trunk = 0) → u.reg (0x2008 + d) 2 ≠ 3 → u.shellUp d = true →
      (u.reg 0x2710 2 ≠ 0 ∨ 1 < u.powerState ∨ u.entryRuns = true ∨ u.exitRuns = true ∨ u.dieIsIdle d = false →
        exec (.selftestRun req d) s = .next (u.concluded req 0x2710 1 (leBytes 1 d) Status.busy)) ∧
      (u.reg 0x2710 2 = 0 → u.powerState ≤ 1 → u.entryRuns = false → u.exitRuns = false → u.dieIsIdle d = true →
        ∃ t : State, exec (.selftestRun req d) s = .next (t.concluded req 0x2710 1 (leBytes 1 d) Status.pending) ∧
        t.reg 0x2710 2 = 1 ∧ t.reg 0x2710 3 = d ∧ t.health.slot = some u.now ∧ t = { u with live := t.live, health := t.health } ∧
        SameLiveBut u t [entryKey 0x2710 2, entryKey 0x2710 3]))) ∧
  (∀ (r : SlotResult) (d : Nat) (s u v : State), s.serving = true → s.reg 0x2710 2 = 2 → d = s.reg 0x2710 3 →
    u = ((((s.slotRecord d r).setReg 0x2710 2 0).setReg 0x2710 3 0xFF).inc 0x2710 5) →
    v = (((State.setReg { (if internalFailed r = 0 then u else u.inc 0x2710 6) with health := { s.health with slot := none } } (0x2008 + d) 2 2).slotOutcome
      d r).cutOff).chooseGuards →
    exec (.fieldSlotDone r) s = .next (v.deliver 0 (v.slotEvent d 2 r)) ∧
    (s.slotRecord d r).reg (0x2718 + d) 1 = (if internalFailed r = 0 then Status.ok else Status.hwFault) ∧
    (s.slotRecord d r).reg (0x2718 + d) 2 = r.failed % 4096 ∧ (s.slotRecord d r).reg (0x2718 + d) 3 = s.now ∧
    (slotItems r = [] → v.slotEvent d 2 r = v.record 0x0099 d (if internalFailed r = 0 then Status.ok else Status.hwFault) d 2
      (r.failed % 4096 + 65536 * r.durationUs))) ∧
  (∀ (r : SlotResult) (s : State), s.serving = false ∨ s.reg 0x2710 2 ≠ 2 → exec (.fieldSlotDone r) s = .next s) ∧
  (∀ (t : Nat) (s : State), s.health.slot = some t → s.reg 0x2710 2 = 1 → exec .deferLimitExpiry s = .next (s.arriveAt (t + sec (s.cfg 0x2710 4))).slotAborted) ∧
  (∀ s : State, s.health.slot = none ∨ s.reg 0x2710 2 ≠ 1 → exec .deferLimitExpiry s = .next s) ∧
  (∀ s : State, ∃ u : State, s.slotAborted = u.event 0 0x0099 (s.reg 0x2710 3) Status.aborted (s.reg 0x2710 3) 2 0 ∧ u.reg 0x2710 2 = 0 ∧ u.health.slot = none ∧
    u.reg (0x2718 + s.reg 0x2710 3) 1 = Status.aborted ∧ u = { s with live := u.live, health := u.health } ∧
    SameLiveBut s u [entryKey 0x2710 2, entryKey 0x2710 3, entryKey (0x2718 + s.reg 0x2710 3) 1]) ∧
  (∀ (d : Nat) (s : State), s.watched d = true → exec (.coreHeartbeat d) s = .next { s with health := { s.health with
    heartbeat := Tab.put s.health.heartbeat d s.now, ack := Tab.put s.health.ack d s.now } }) ∧
  (∀ (d : Nat) (s : State), s.watched d = true →
    exec (.heartbeatTimeout d) s = .next ((s.arriveAt (Tab.getD s.health.heartbeat d 0 + ms 1)).coreFailed d 2 true) ∧
    exec (.ackTimeout d) s = .next ((s.arriveAt (Tab.getD s.health.ack d 0 + ms 1)).shellFailed d 4 2 true).cutOff) ∧
  (∀ (d c : Nat) (report : Bool) (s : State), s.reg (0x2008 + d) 2 = 3 → s.coreFailed d c report = s) ∧
  (∀ (d c cls : Nat) (report : Bool) (s : State), s.reg (0x2008 + d) 3 = 3 → s.shellFailed d c cls report = s) ∧
  (∀ (d : Nat) (s : State), s.watched d = false → exec (.coreHeartbeat d) s = .next s ∧ exec (.heartbeatTimeout d) s = .next s ∧ exec (.ackTimeout d) s = .next s) ∧
  (∀ (s : State) (c die cls r : Nat), s.healthState = 0 → (s.cause c die cls r).healthState = 1 ∧ bit ((s.cause c die cls r).reg 0x2700 2) c = true ∧
    (s.cause c die cls r).reg 0x2700 3 = c ∧ (s.cause c die cls r).reg 0x2700 4 = s.now ∧ (s.cause c die cls r).pins.svcReqLow = true) ∧
  (∀ (s : State) (c die cls r : Nat), s.healthState = 1 → s.cause c die cls r =
    (s.setReg 0x2700 2 (setBit (s.reg 0x2700 2) c true)).eventAll 0x0098 (healthDie die) Status.degraded die c (1 + 256 * cls + 65536 * r)) ∧
  (∀ (s : State) (c die cls r : Nat), s.healthState = 2 → s.cause c die cls r = s) ∧
  (∀ (d l : Nat) (s u : State), s.operational = true → s.health.stopped = false → d < s.dies → l = s.reg (0x2708 + d) 3 → l ≠ 0xFF → s.reg (0x2008 + d) 2 = 3 →
    Tab.getD s.health.lending d 0 = 0 → u = (State.recaptureDie { s with health := { s.health with lending := Tab.put s.health.lending d 1 } } d 7).hapTakeover d →
    exec (.lendingServed d) s = .next (((u.each [2 * d, 2 * d + 1] (fun t h => State.reverify
      (if [2, 3, 4, 6].contains ((t.surfaceEnds h (t.frames h + 1)).canopyReg h 6) then
        ((t.surfaceEnds h (t.frames h + 1)).modCano h (fun c => { c with settle := 0 })).canopyEnter h 2
        else t.surfaceEnds h (t.frames h + 1)) h)).refreshFetch d).lendingEvent d 2 l)) ∧
  (∀ (d : Nat) (s : State), s.operational = false ∨ s.health.stopped = true ∨ s.dies ≤ d ∨ s.reg (0x2708 + d) 3 = 0xFF ∨ s.reg (0x2008 + d) 2 ≠ 3 ∨
    Tab.getD s.health.lending d 0 ≠ 0 → exec (.lendingServed d) s = .next s) ∧
  (∀ s t u w : State, s.health.succession = true → t = { s with health := { s.health with succession := false, succHeld := [] } } →
    u = s.health.succHeld.foldl (fun (t : State) e => t.deliverAll e.1 e.2) t →
    w = (((u.setTrunk 1).takeSecure.installRoutes.setReg 0x2700 6 s.now).abortHandshake).ringAborted.groupsAborted →
    exec .successionDone s = .next ((w.openRows.lendingEvent 0 4 1).startLending 0).chooseGuards.settleRequests) ∧
  (∀ s : State, s.health.succession = false → exec .successionDone s = .next s)

/-- A head's link (R273, R274, R287 to R294, R301, R307, R310). HPD rising starts the 100 ms timer of a disconnected head, whose expiry connects it;
the cable and the sink are read; a candidate carries the mode within the limits of the head and of the sink, at the lowest such rate for its lanes,
and the candidates descend in lanes; with none the head is UNSUPPORTED unless its policy substitutes a mode. Attempts go through the candidates in
order; a trained link is ACTIVE with the rate and lanes of the one that trained, a failed one idles electrically; a lost lock trains the
configuration in use first; unplugging forgets the sink; head.control.retrain trains again, rereads the sink, does nothing while the link trains, is
DENIED_ACCESS with no sink and RANGE for another value. A command that comes in another link state changes nothing, and HPD's level, kept
always, acts only where it is sampled. -/
def Obligations.HeadLinks : Prop :=
  (∀ (h : Nat) (s u v : State), u = { s with pins := { s.pins with hpd := h :: s.pins.hpd.filter (· ≠ h) } } →
    v = { s with pins := { s.pins with hpd := s.pins.hpd.filter (· ≠ h) } } → s.hpdSampled h = false →
    exec (.hpdRising h) s = .next u ∧ exec (.hpdUnplug h) s = .next v ∧ ∀ l, exec (.irqHpd h l) s = .next s) ∧
  (∀ (h : Nat) (s : State), s.hpdSampled h = true ↔ s.powerState < 3 ∧ s.reg (0x2008 + h / 2) 3 ≠ 3) ∧
  (∀ (h : Nat) (s u : State), s.hpdSampled h = true → u = { s with pins := { s.pins with hpd := h :: s.pins.hpd.filter (· ≠ h) } } →
    (s.serving = true → s.linkState h = 1 → ∃ t : State, exec (.hpdRising h) s = .next t ∧ t.linkState h = 2 ∧
      t.hreg 0x3002 h 5 = 1 ∧ (t.head h).debounce = some (s.now + ms 100) ∧ t = { u with live := t.live, heads := t.heads }) ∧
    (s.serving = false ∨ s.linkState h ≠ 1 → exec (.hpdRising h) s = .next (u.setH 0x3002 h 5 1))) ∧
  (∀ (h t0 : Nat) (s : State), (s.head h).debounce = some t0 → s.linkState h = 2 → ∃ t : State, exec (.debounceExpiry h) s = .next (t.linkEvent h 1) ∧
    t.linkState h = 3 ∧ (t.head h).connected = true ∧ (t.head h).debounce = none ∧ t = { s.arriveAt t0 with live := t.live, heads := t.heads }) ∧
  (∀ (h : Nat) (s : State), (s.head h).debounce = none ∨ s.linkState h ≠ 2 → exec (.debounceExpiry h) s = .next s) ∧
  (∀ (h cm : Nat) (s : State), (s.linkState h ≠ 3 → exec (.cableMeasured h cm) s = .next s) ∧
    (s.linkState h = 3 → ∃ t : State, exec (.cableMeasured h cm) s = .next t ∧ t.linkState h = 4 ∧
      t.hreg 0x3002 h 4 = (if 30 ≤ cm ∧ cm ≤ 1500 then cm else 0xFFFE) ∧ t = { s with live := t.live })) ∧
  (∀ (h n : Nat) (k : SinkData) (s : State), s.linkState h = 4 → ∃ t : State, exec (.capsReadDone h (some k) n) s = .next ((t.decideCaps h).settleHead h) ∧
    (t.head h).sink = some k ∧ (t.head h).lastEdid = k.edid ∧ t.regBytes (0x3003 + 256 * h) 1 = k.dpcd ∧ t.regBytes (0x3003 + 256 * h) 2 = k.edid ∧
    t.regBytes (0x3003 + 256 * h) 3 = k.displayid ∧ t.hreg 0x3002 h 11 = (k.range.getD (0, 0)).1 ∧ t.hreg 0x3002 h 12 = (k.range.getD (0, 0)).2 ∧
    t.mem = s.mem ∧ SameRings s t ∧ t.now = s.now) ∧
  (∀ (h n : Nat) (s : State), s.linkState h = 4 →
    exec (.capsReadDone h none n) s = .next (((s.count (0x3002 + 256 * h) 10 3).linkDown h 8 5).settleHead h)) ∧
  (∀ (h n : Nat) (k : Option SinkData) (s : State), s.linkState h ≠ 4 → exec (.capsReadDone h k n) s = .next s) ∧
  (∀ (h : Nat) (s : State), s.candidatesFor h (s.ringMode h) ≠ [] → (s.decideCaps h).linkState h = 5 ∧ ((s.decideCaps h).head h).attempt = 0 ∧
    ((s.decideCaps h).head h).idlePattern = false ∧ ((s.decideCaps h).head h).candidates = s.candidatesFor h (s.ringMode h)) ∧
  (∀ (h : Nat) (s u v : State), s.candidatesFor h (s.ringMode h) = [] → u = s.modHead h (fun x => { x with idlePattern := false }) →
    v = ((u.adoptMode h (s.ringMode h) false).afterModes u h).linkDown h 9 6 →
    (s.use (0x3001 + 256 * h) 4 ≠ 1 ∨ (s.head h).sink.bind (·.preferred) = none → s.decideCaps h = v) ∧
    (∀ p m, s.use (0x3001 + 256 * h) 4 = 1 → (s.head h).sink.bind (·.preferred) = some p → m = substituteMode p (s.ringMode h) →
      (s.candidatesFor h m = [] → s.decideCaps h = v) ∧
      (s.candidatesFor h m ≠ [] → modeOk m (s.head (h / 2 * 2)).pairedTaken (s.use (0x3001 + 256 * h) 1) (s.use (0x3001 + 256 * h) 2) = true →
        s.regionsInside h m = true → (s.decideCaps h).linkState h = 5 ∧ ((s.decideCaps h).head h).preferred = true ∧
        ((s.decideCaps h).head h).candidates = s.candidatesFor h m))) ∧
  (∀ (rm lm sr sl : Nat) (m : HeadMode) (c : LinkConfig), c ∈ candidatesIn rm lm sr sl m → carries c m = true ∧ c.rate ≤ rm ∧ c.rate ≤ sr ∧ c.rate < 5 ∧
    c.lanes ≤ lm ∧ c.lanes ≤ sl ∧ c.lanes ∈ [1, 2, 4] ∧ ∀ r, r < c.rate → carries ⟨r, c.lanes⟩ m = false) ∧
  (∀ (rm lm sr sl r n : Nat) (m : HeadMode), n ∈ [1, 2, 4] → n ≤ lm → n ≤ sl → r ≤ rm → r ≤ sr → r < 5 → carries ⟨r, n⟩ m = true →
    ∃ c ∈ candidatesIn rm lm sr sl m, c.lanes = n) ∧
  (∀ rm lm sr sl m, (candidatesIn rm lm sr sl m).Pairwise (fun a b => b.lanes < a.lanes)) ∧
  (∀ (h : Nat) (c : LinkConfig) (s : State), s.linkState h = 5 ∨ s.linkState h = 7 → (s.head h).candidates[(s.head h).attempt]? = some c →
    (∃ t : State, exec (.trainingAttemptDone h true) s = .next ((t.linkEvent h (if (s.head h).firstCand = some c then 2 else 7)).beginRun h) ∧ t.linkState h = 6 ∧
      t.hreg 0x3002 h 2 = c.rate ∧ t.hreg 0x3002 h 3 = c.lanes ∧ (t.head h).link = some c ∧ (t.head h).lit = true ∧ (t.head h).idlePattern = false ∧
      t = { s with live := t.live, heads := t.heads, free := t.free }) ∧
    ((s.head h).attempt + 1 < (s.head h).candidates.length → ∃ t : State, exec (.trainingAttemptDone h false) s = .next t ∧ (t.head h).attempt = (s.head h).attempt + 1 ∧
      t.linkState h = s.linkState h ∧ t = { s with live := t.live, heads := t.heads }) ∧
    ((s.head h).candidates.length ≤ (s.head h).attempt + 1 → exec (.trainingAttemptDone h false) s = .next (((s.incH 0x3002 h 6).linkDown h 8 5).settleHead h))) ∧
  (∀ (h : Nat) (ok : Bool) (s : State), (s.linkState h ≠ 5 ∧ s.linkState h ≠ 7) ∨ (s.head h).candidates[(s.head h).attempt]? = none →
    exec (.trainingAttemptDone h ok) s = .next s) ∧
  (∀ (h : Nat) (l : Bool) (s : State), s.hpdSampled h = true →
    (s.operational = false ∨ s.health.stopped = true → exec (.irqHpd h l) s = .next s) ∧
    (s.operational = true → s.health.stopped = false → (s.head h).link = none ∨ l = false ∨ s.linkState h ≠ 6 → exec (.irqHpd h l) s = .next (s.incH 0x3002 h 9)) ∧
    (∀ c, s.operational = true → s.health.stopped = false → (s.head h).link = some c → l = true → s.linkState h = 6 → exec (.irqHpd h l) s =
      .next (((s.incH 0x3002 h 9).enterRetraining h (c :: (s.candidatesFor h (s.modeOf h)).filter (· ≠ c)) (s.head h).firstCand).settleHead h))) ∧
  (∀ (h st r : Nat) (s : State), (s.linkDown h st r).linkState h = st ∧ (s.linkDown h st r).hreg 0x3002 h 2 = 0xFF ∧ (s.linkDown h st r).hreg 0x3002 h 3 = 0 ∧
    ((s.linkDown h st r).head h).link = none ∧ ((s.linkDown h st r).head h).lit = false) ∧
  (∀ (h : Nat) (cs : List LinkConfig) (first : Option LinkConfig) (s t : State), t = s.enterRetraining h cs first → t.linkState h = 7 ∧ (t.head h).candidates = cs ∧
    (t.head h).firstCand = first ∧ (t.head h).attempt = 0 ∧ (t.head h).idlePattern = true ∧ (t.head h).link = none ∧ t.hreg 0x3002 h 2 = 0xFF) ∧
  (∀ (h : Nat) (cs : List LinkConfig) (first : Option LinkConfig) (s t : State), t = s.startTraining h cs first → (t.head h).candidates = cs ∧ (t.head h).attempt = 0 ∧
    (t.head h).firstCand = first ∧ t = { s with heads := t.heads } ∧ ((t.head h).spread = true ↔
      s.use (0x3001 + 256 * h) 3 = 1 ∧ ∃ k, (s.head h).sink = some k ∧ bit (k.dpcd.getD 3 0).toNat 0 = true)) ∧
  (∀ (h : Nat) (s t : State), t = s.sinkGone h → (t.head h).sink = none ∧ (t.head h).connected = false ∧ (t.head h).debounce = none ∧ t.hreg 0x3002 h 5 = 0 ∧
    t.hreg 0x3002 h 2 = 0xFF ∧ t.hreg 0x3002 h 3 = 0 ∧ t.hreg 0x3002 h 4 = 0xFFFF ∧ t.hreg 0x3002 h 11 = 0 ∧ t.hreg 0x3002 h 12 = 0 ∧
    t.regBytes (0x3003 + 256 * h) 1 = [] ∧ t.regBytes (0x3003 + 256 * h) 2 = [] ∧ t.regBytes (0x3003 + 256 * h) 3 = [] ∧ t.mem = s.mem ∧ SameRings s t) ∧
  (∀ (h : Nat) (s u w y : State), s.hpdSampled h = true → u = { s with pins := { s.pins with hpd := s.pins.hpd.filter (· ≠ h) } } → w = u.sinkGone h →
    y = (((w.modHead h (fun x => { x with link := none, preferred := false, idlePattern := false, lit := false })).linkEnter h 1).stopGenerator h).settleHead h →
    (s.serving = false ∨ s.linkState h ≤ 1 → exec (.hpdUnplug h) s = .next w) ∧
    (s.serving = true → 1 < s.linkState h → (y.generates (y.timingHead h) = false → exec (.hpdUnplug h) s = .next y) ∧
      (y.generates (y.timingHead h) = true → exec (.hpdUnplug h) s =
        .next (y.modHead (y.timingHead h) (fun x => { x with nextMode := some (x.nextMode.getD x.mode) }))))) ∧
  (∀ (h : Nat) (s : State), (s.head (s.timingHead h)).uptake = false ∨ (s.head (s.timingHead h)).running = true ∨ (s.head (s.timingHead h)).startPending = true →
    s.settleHead h = s) ∧
  (∀ (req : Requester) (h v : Nat) (s u : State), h < 16 → v < 256 → s.admits req (0x3005 + 256 * h) 2 (leBytes 1 v) = true → u = s.admitted req (0x3005 + 256 * h) 2 (leBytes 1 v) →
    exec (.retrain req h v) s = .next ((u.retrainWrite h).2.concluded req (0x3005 + 256 * h) 2 (leBytes 1 v) (u.retrainWrite h).1)) ∧
  (∀ (req : Requester) (h v : Nat) (s : State), h < 16 → v < 256 → v ≠ 1 → s.reaches req (0x3005 + 256 * h) 2 (leBytes 1 v) = true →
    exec (.retrain req h v) s = .next (s.turnedAway req (0x3005 + 256 * h) 2 (leBytes 1 v))) ∧
  (∀ (h : Nat) (s : State), (s.linkState h ≤ 1 → s.retrainWrite h = (Status.deniedAccess, s)) ∧
    (s.linkState h = 8 ∨ s.linkState h = 9 → s.retrainWrite h = (Status.ok, s.linkEnter h 4)) ∧
    (∀ cs, s.linkState h = 6 → cs = s.candidatesFor h (s.modeOf h) → s.retrainWrite h = (Status.ok, (s.enterRetraining h cs cs.head?).settleHead h)) ∧
    (1 < s.linkState h → s.linkState h < 6 ∨ s.linkState h = 7 → s.retrainWrite h = (Status.ok, s)))

/-- Lines and frame starts (R279 to R285, R292, R310, R319, R320, R322, R331, R340). A stopped generator has no lines; a started one begins line 0; a
running one sends the line that ends, samples reflex_start_enable and goes to the next, or counts down to line 0, whose window it takes and whose
line-bound events and decision it makes; a frame start that shows every restored image ends a RESTORE. A FIXED head's frame starts at line S_min and
nowhere else; a VARIABLE head's never before S_min, two lines after a counted ready or at S_min, whichever is later, and at S_max without one. A
FIXED head latches at the cutoff line alone, a VARIABLE head there with a ready or a commit pending, and two lines before S_max. A reflex start sampled early
enough on a head that makes reflex starts becomes the frame's ready; any other is consumed without effect. -/
def Obligations.LinesAndFrames : Prop :=
  (∀ (h : Nat) (s : State), s.timingHead h ≠ h → exec (.lineStart h) s = .next s) ∧
  (∀ (h : Nat) (s : State), s.timingHead h = h → (s.head h).running = false → (s.head h).startPending = false → exec (.lineStart h) s = .next s.restoreSettles) ∧
  (∀ s : State, s.shed.running ≠ some 4 → s.restoreSettles = s) ∧
  (∀ (h : Nat) (s : State), s.timingHead h = h → (s.head h).running = false → (s.head h).startPending = true →
    exec (.lineStart h) s = .next ((((s.lineSample h).each (s.pairOf h) (fun u g => u.incH 0x3004 g 5)).lineZeroStart h).restoreSettles)) ∧
  (∀ (h : Nat) (s u : State), s.timingHead h = h → (s.head h).running = true → u = (s.lineOut h).lineSample h →
    ((s.head h).toLine0 = none → exec (.lineStart h) s = .next ((u.nextLine h).restoreSettles)) ∧
    (∀ k, (s.head h).toLine0 = some k → k ≤ 1 → exec (.lineStart h) s = .next ((u.lineZeroStart h).restoreSettles)) ∧
    (∀ k, (s.head h).toLine0 = some k → 1 < k → exec (.lineStart h) s = .next
      ((((u.modHead h (fun y => { y with line := y.line + 1, toLine0 := some (k - 1) })).vblankAt h ((s.head h).line + 1) 1).lineMatch h
        ((s.head h).line + 1) 1).restoreSettles))) ∧
  (∀ (h : Nat) (s : State), s.lineZeroStart h = (((s.lineZero h).lineMatch h 0 0).quietLine h 0).latchAt h 0) ∧
  (∀ (h g : Nat) (s : State), g ∈ s.pairOf h → ((s.lineSample h).head g).reflexStart = decide (s.hreg 0x3005 g 1 = 1) ∧
    ((s.lineSample h).head g).lineAt = s.now ∧ s.lineSample h = { s with heads := (s.lineSample h).heads }) ∧
  (∀ (h : Nat) (s : State), ((s.lineZero h).head h).running = true ∧ ((s.lineZero h).head h).line = 0 ∧ ((s.lineZero h).head h).toLine0 = none ∧
    ((s.lineZero h).head h).sMin = (s.windowOf h).1 ∧ ((s.lineZero h).head h).sMax = (s.windowOf h).2 ∧ (s.lineZero h).mem = s.mem ∧ SameRings s (s.lineZero h)) ∧
  (∀ (h : Nat) (s : State) (m : HeadMode), m = s.modeOf h →
    (s.hreg 0x3004 h 1 ≠ 1 → s.windowOf h = (m.vtFixed - (m.vSync + m.vBack), m.vtFixed - (m.vSync + m.vBack))) ∧
    (s.hreg 0x3004 h 1 = 1 → s.windowOf h = (s.hreg 0x3004 h 2 - (m.vSync + m.vBack), s.hreg 0x3004 h 3 - (m.vSync + m.vBack)))) ∧
  (∀ (h n : Nat) (s : State), (s.head h).aborting = none →
    (s.hreg 0x3004 h 1 ≠ 1 → s.frameStartKind h n = if n = (s.head h).sMin then some .fixed else none) ∧
    (s.hreg 0x3004 h 1 = 1 → (n < (s.head h).sMin → s.frameStartKind h n = none) ∧
      ((s.head h).sMin ≤ (s.head h).sMax → (s.frameStartKind h (s.head h).sMax).isSome = true) ∧
      ((s.head h).ready = none → (s.head h).sMin ≤ n → s.frameStartKind h n = if n = (s.head h).sMax then some .repeated else none) ∧
      (∀ r rx, (s.head h).ready = some (r, rx) → (s.head h).sMin ≤ n → s.frameStartKind h n =
        if r + 3 ≤ (s.head h).sMax ∧ r + 2 ≤ n then some (if rx then .reflex else .content) else if n = (s.head h).sMax then some .repeated else none))) ∧
  (∀ (h n k at1 : Nat) (s : State), (s.head h).aborting = some (k, at1) → s.frameStartKind h n = if n = at1 then some .abort else none) ∧
  (∀ (h n : Nat) (s : State), (s.head h).latchedNext = false → (s.head h).aborting = none →
    (s.hreg 0x3004 h 1 ≠ 1 → (s.latchDue h n = true ↔ n = (s.modeOf h).vActive - 1 - (s.head h).cfg.guard)) ∧
    (s.hreg 0x3004 h 1 = 1 → (s.latchDue h n = true ↔ n + 2 = (s.head h).sMax ∨
      (n = (s.modeOf h).vActive - 1 - (s.head h).cfg.guard ∧ ((s.head h).ready ≠ none ∨ (s.head h).pending ≠ []))))) ∧
  (∀ (h n : Nat) (s : State), (s.head h).latchedNext = true ∨ (s.head h).aborting.isSome = true → s.latchDue h n = false) ∧
  (∀ (h : Nat) (s : State), exec (.readySampled h false) s = .next s ∧ ((s.head (s.timingHead h)).readyRaised = false → exec (.readySampled h true) s = .next s)) ∧
  (∀ (h t : Nat) (s u : State), t = s.timingHead h → (s.head t).readyRaised = true → u = s.modHead t (fun y => { y with readyRaised := false }) →
    ((s.head t).running = false ∨ (s.head h).reflexStart = false ∨ s.hreg 0x3004 t 1 ≠ 1 ∨ (s.head t).toLine0.isSome = true ∨ (s.head t).aborting.isSome = true ∨
      (s.head t).ready.isSome = true ∨ (s.head t).sMax ≤ (s.head t).line + 2 → exec (.readySampled h true) s = .next u) ∧
    (∀ v, (s.head t).running = true → (s.head h).reflexStart = true → s.hreg 0x3004 t 1 = 1 → (s.head t).toLine0 = none → (s.head t).aborting = none →
      (s.head t).ready = none → (s.head t).line + 2 < (s.head t).sMax → v = u.modHead t (fun y => { y with ready := some ((s.head t).line, true) }) →
      (s.cutoff t ≤ (s.head t).line → (s.head t).latchedNext = false → exec (.readySampled h true) s = .next (v.latchDecision t)) ∧
      ((s.head t).line < s.cutoff t ∨ (s.head t).latchedNext = true → exec (.readySampled h true) s = .next v)))

/-- Commits and underruns (R311 to R318, R320 to R324, R334 to R338, R343). A malformed entry stops its queue with RANGE, an entry or a block that fails
translation with DENIED_INSTANCE; a block or a record that fails a check refuses the commit with the status of the first check that fails and changes no
latched value; a commit that passes is on its way, and arrives in the place of the instance's pending one, late when the head's latch point has
passed; one of a frozen instance stays on its way. At the latch decision every pending commit latches and none stays pending. An underrun outside
the pixels that are sent does nothing; any other counts its line, keeps its place and time, and on a privileged head aborts the frame, whose start
then falls v_front lines after the line. -/
def Obligations.CommitsAndUnderrun : Prop :=
  (∀ (e : Entry) (op a len fl : Nat) (z : Bool) (b : Option (List Byte)) (s : State), s.canFetch e 2 = false → exec (.commit e op len fl z b a) s = .next (s.fetchFails e 2)) ∧
  (∀ (e : Entry) (n : Nat) (s : State), (s.canFetch e n = true ↔ s.fetchOpen e n = true ∧ s.fetchLands e = true) ∧ (s.fetchOpen e n = false → s.fetchFails e n = s) ∧
    (s.fetchOpen e n = true → s.fetchLands e = false → s.fetchFails e n = s.stopQueue e.inst e.q Status.deniedInstance)) ∧
  (∀ (h inst a len fl : Nat) (b : Option (List Byte)) (s : State), (fl ≠ 1 → s.commitFetch h inst a len fl b = b) ∧
    (s.idaOk inst a len = true → s.commitFetch h inst a len 1 b = some (s.readIda (BusSource.core.serving (s.composingDie h) inst) a len)) ∧
    (s.idaOk inst a len = false → s.commitFetch h inst a len 1 b = none)) ∧
  (∀ (e : Entry) (op a len fl h : Nat) (z : Bool) (b : Option (List Byte)) (s : State), s.canFetch e 2 = true → h = (s.sq e.inst e.q).target →
    (op ≠ 1 ∨ entryFlagsOk e = false ∨ z = false ∨ len < 16 ∨ 65536 < len ∨ len % 4 ≠ 0 ∨ 1 < fl →
      exec (.commit e op len fl z b a) s = .next ((s.fetched e).stopQueue e.inst e.q Status.range)) ∧
    (op = 1 → entryFlagsOk e = true → z = true → 16 ≤ len → len ≤ 65536 → len % 4 = 0 → fl ≤ 1 →
      (s.commitFetch h e.inst a len fl b = none → exec (.commit e op len fl z b a) s = .next ((s.fetched e).stopQueue e.inst e.q Status.deniedInstance)) ∧
      ∀ bs, s.commitFetch h e.inst a len fl b = some bs → (s.timingHead h ≠ h ∨ blockRecords len bs = none →
          exec (.commit e op len fl z b a) s = .next ((s.fetched e).refuseCommit h e Status.range)) ∧
        ∀ rs st, s.timingHead h = h → blockRecords len bs = some rs → st = s.commitCheck (s.pairOf h) e.inst rs →
          (st ≠ Status.ok → exec (.commit e op len fl z b a) s = .next ((s.fetched e).refuseCommit h e st)) ∧
          (st = Status.ok → ∃ (t : State) (p : PendingCommit), exec (.commit e op len fl z b a) s = .next t ∧
            (t.head h).checked = ((s.fetched e).head h).checked ++ [p] ∧ p.inst = e.inst ∧ p.q = e.q ∧ p.tag = e.tag ∧
            p.late = false ∧ p.records = rs.map (fun r => (r.idx, r.sub, s.recordValue r)) ∧ t = { s.fetched e with heads := t.heads }))) ∧
  (∀ (hs : List Nat) (inst : Nat) (rs : List Record) (s : State), (recordsAscend rs = false → s.commitCheck hs inst rs = Status.range) ∧
    (s.commitCheck hs inst rs = Status.ok ↔ recordsAscend rs = true ∧ (∀ r ∈ rs, s.recordNames hs inst r = Status.ok ∧ s.recordLength r = Status.ok ∧
      s.recordRange r = Status.ok) ∧ s.composition hs inst rs = Status.ok) ∧
    (recordsAscend rs = true → ∀ r ∈ rs, s.recordNames hs inst r ≠ Status.ok → ∃ x ∈ rs, s.commitCheck hs inst rs = s.recordNames hs inst x)) ∧
  (∀ (hs : List Nat) (inst : Nat) (r : Record) (s : State), s.recordNames hs inst r = Status.ok ↔ (lookup s.part r.idx r.sub).isSome = true ∧
    latchedEntry r.idx r.sub = true ∧ s.recordHead r.idx ∈ hs ∧ ¬(0x4000 ≤ r.idx ∧ r.idx < 0x4100 ∧ s.layerJoins (r.idx - 0x4000) = true) ∧
    s.commitEntitled inst r.idx = true) ∧
  (∀ (h inst : Nat) (s : State), (s.head h).checked.find? (fun p => p.inst = inst) = none ∨ s.isShed inst = true → exec (.commitArrival h inst) s = .next s) ∧
  (∀ (h inst : Nat) (p : PendingCommit) (s : State), (s.head h).checked.find? (fun p => p.inst = inst) = some p → s.isShed inst = false → ∃ t : State,
    exec (.commitArrival h inst) s = .next (t.afterArrival h (s.arrivalNow h)) ∧ (t.head h).checked = (s.head h).checked.erase p ∧ t.mem = s.mem ∧ SameRings s t ∧
    (t.head h).pending = (s.head h).pending.filter (fun q => q.inst ≠ inst) ++ [{ p with late := p.late || decide (s.arrivalNow h = .late) }]) ∧
  (∀ (h : Nat) (s : State), ((s.head h).running = false ∨ (s.head h).aborting.isSome = true → s.arrivalNow h = .wait) ∧
    ((s.head h).running = true → (s.head h).aborting = none →
      (s.hreg 0x3004 h 1 ≠ 1 → ((s.head h).toLine0 = none → s.arrivalNow h = if s.cutoff h ≤ (s.head h).line then .late else .wait) ∧
        ((s.head h).toLine0.isSome = true → s.arrivalNow h = if (s.head h).aborted then .wait else .late)) ∧
      (s.hreg 0x3004 h 1 = 1 → ((s.head h).toLine0.isSome = true → s.arrivalNow h = .wait) ∧
        ((s.head h).toLine0 = none → s.arrivalNow h = if (s.head h).line < s.cutoff h then .ready else if (s.head h).latchedCommit then .wait
          else if (s.head h).line + 2 < (s.head h).sMax then .latch else if (s.head h).ready.isSome then .wait else .late)))) ∧
  (∀ (h : Nat) (s : State), s.afterArrival h .wait = s ∧ s.afterArrival h .late = s.modHead h (fun y => { y with readyCarried := true })) ∧
  (∀ (h : Nat) (s : State), ((s.latchDecision h).head h).pending = [] ∧ ((s.latchDecision h).head h).latchedNext = true ∧
    ((s.latchDecision h).head h).toShow = (s.head h).toShow ++ (s.head h).pending ∧ ((s.latchDecision h).head h).line = (s.head h).line) ∧
  (∀ (h t col : Nat) (s : State), t = s.timingHead h → (s.head t).running = false ∨ (s.head t).toLine0.isSome = true ∨ (s.head t).aborting.isSome = true ∨
    (s.modeOf t).vActive ≤ (s.head t).line ∨ (s.modeOf t).hActive ≤ col ∨ (s.head h).underCol.isSome = true → exec (.underrun h col) s = .next s) ∧
  (∀ (h t col : Nat) (s : State), t = s.timingHead h → (s.head t).running = true → (s.head t).toLine0 = none → (s.head t).aborting = none →
    (s.head t).line < (s.modeOf t).vActive → col < (s.modeOf t).hActive → (s.head h).underCol = none →
    ∃ u : State, exec (.underrun h col) s = .next (if (s.head h).cfg.privileged then u.abortFrame h else u) ∧ (u.head h).underCol = some col ∧ (u.head h).underran = true ∧
      u.hreg 0x3007 h 14 = (s.head t).line ∧ u.hreg 0x3007 h 15 = s.now ∧ u.hreg 0x3007 h 10 = satAdd (entryBits (0x3007 + 256 * h) 10) (s.hreg 0x3007 h 10) 1 ∧
      u.mem = s.mem ∧ SameRings s u ∧ (u.head h).filled = (s.head h).filled + (if (s.head h).cfg.privileged then 0 else 1)) ∧
  (∀ (h t n : Nat) (s : State), t = s.timingHead h → n = (s.head t).line + 1 + (s.modeOf t).vFront →
    ((s.abortFrame h).head t).aborting = some ((s.head t).line, if s.hreg 0x3004 t 1 = 1 then max n (s.head t).sMin else n) ∧
    ((s.abortFrame h).head t).latchedNext = false ∧ ((s.abortFrame h).head t).ready = none)

/-- Composing a head (R345 to R347, R361, R366, R369, R370, R378, R379, R385, R388, R515, R519). A band begins when a slot of the line buffer is
free, the head's generator works, the composer composes no other band, and none of another head it serves is due sooner; the slot holds the band's
lines, composed from the state of its frame. A completed band counts, with the least lead, and gives its lines to the surface where a build may
write them. Layers are blended in ascending z; a head that shows a fallback colour, or the background of a first frame, shows it at every pixel
outside protected regions. Sprite operations that reach a die in one clock apply pins before keys, each in ascending number, each to the result of
the one before; a sprite's state keeps the time of its last change; a holder writes it (RANGE above 3) but for a sprite of the active secure entry.
Canopy members are graphic layers of the head that are no Heartwood layer, any other value is RANGE, and a change waits for the next latch decision. -/
def Obligations.BandsSpritesCanopy : Prop :=
  (∀ (h : Nat) (s : State), s.canBegin h = false ∨ s.composerBusy h = true ∨ (∃ k ∈ s.composerHeads h, k ≠ h ∧ s.canBegin k = true ∧ s.deadlineFirst k h = true) →
    exec (.bandBegin h) s = .next s) ∧
  (∀ (h k : Nat) (s : State), k ∈ s.composerHeads h ↔ k < 2 * s.dies ∧ s.composingDie k = s.composingDie h ∧ s.composerServes k = true) ∧
  (∀ (h : Nat) (s : State), s.canBegin h = true → s.composerBusy h = false → (∀ k ∈ s.composerHeads h, k ≠ h → s.canBegin k = true → s.deadlineFirst k h = false) →
    ∃ u : State, u = { s with compose := u.compose } ∧ (u.comp h).slots = (s.comp h).slots ∧ (u.comp h).nextBand = (s.nextBandOf h).2 + 1 ∧
      (u.comp h).frameNumber = (s.nextBandOf h).1 ∧ exec (.bandBegin h) s = .next (u.modComp h (fun c => { c with slots := c.slots ++
        [(u.composing h).fillSlot h { frame := (s.nextBandOf h).1, band := (s.nextBandOf h).2 }] }))) ∧
  (∀ (h : Nat) (e : BandSlot) (s : State), (s.fillSlot h e).lines = s.composeBand h e.band ∧ (s.fillSlot h e).frame = e.frame ∧ (s.fillSlot h e).band = e.band ∧
    (s.fillSlot h e).complete = e.complete ∧ (s.canopyReg h 6 ∉ [2, 3, 6] → (s.fillSlot h e).surface = [])) ∧
  (∀ (h : Nat) (s : State), s.canBegin h = true → ((s.comp h).slots.filter (fun e => !s.passed h e)).length < 4 ∧ s.composerServes h = true ∧
    s.generates (s.timingHead h) = true) ∧
  (∀ (h b : Nat) (s : State), (s.composeBand h b).length = min 16 ((s.modeOf h).vActive - 16 * b) ∧ ∀ l ∈ s.composeBand h b, l.length = (s.modeOf h).hActive) ∧
  (∀ (h b : Nat) (s : State), (s.comp h).slots.find? (fun e => e.band = b && !e.complete) = none → exec (.bandComplete h b) s = .next s) ∧
  (∀ (h b : Nat) (e : BandSlot) (s : State), (s.comp h).slots.find? (fun e => e.band = b && !e.complete) = some e → ∃ t : State,
    exec (.bandComplete h b) s = .next (t.freeSlots h) ∧
    (t.comp h).slots = (s.comp h).slots.map (fun f => if f = e then { f with complete := true } else f) ∧
    t.hreg 0x300A h 5 = satAdd (entryBits (0x300A + 256 * h) 5) (s.hreg 0x300A h 5) 1 ∧
    t.hreg 0x300A h 4 = min (s.hreg 0x300A h 4) (s.linesUntil h e.frame (16 * b)).toNat ∧ t = { s with live := t.live, compose := t.compose, canopy := t.canopy } ∧
    (s.canopyReg h 6 ∉ [2, 3, 6] → t.cano h = s.cano h) ∧
    (s.canopyReg h 6 ∈ [2, 3, 6] → (t.cano h).bandsWritten = (s.cano h).bandsWritten ++ [(e.frame, b)] ∧
      (t.cano h).surface = e.surface.foldl (fun x y => Tab.put x y.1 y.2) (s.cano h).surface)) ∧
  (∀ (h : Nat) (s : State), ∀ e ∈ ((s.freeSlots h).comp h).slots, e ∈ (s.comp h).slots ∧ (e.complete = false ∨ s.passed h e = false)) ∧
  (∀ (h : Nat) (s : State), (s.zOrder h).Pairwise (fun a b => s.layer a 4 ≤ s.layer b 4) ∧ (s.zOrder h).Perm ((s.enabledLayers h).filter (fun l => !s.heartwoodLayer l))) ∧
  (∀ (h x y c : Nat) (s : State), (s.head h).fallback = some c → s.regionAt h x y = none → s.composePixel h x y = round12 (s.post h (s.matrix h (background16 c)))) ∧
  (∀ (h x y : Nat) (s : State), (s.comp h).bgFrame = some (s.comp h).frameNumber → (s.head h).fallback = none →
    s.composePixel h x y = round12 (s.post h (s.matrix h (background16 (s.reg (0x3009 + 256 * h) 1))))) ∧
  (∀ (d n : Nat) (s : State), ∃ (t : State) (l : List (Nat × Nat × Nat)), exec (.spriteOperation d n) s = .next (t.spriteOps l) ∧ l.Perm ((s.reflex.sprites.filter (fun o => o.1 / 16 = d)).take n) ∧
    ((∀ o ∈ s.reflex.sprites, o.2.2 < 1024) → l.Pairwise (fun a b => (512 ≤ b.2.2 → 512 ≤ a.2.2) ∧ ((512 ≤ a.2.2 ↔ 512 ≤ b.2.2) → a.2.2 ≤ b.2.2))) ∧ t = { s with reflex := { s.reflex with
      sprites := s.reflex.sprites.filter (fun o => o.1 / 16 ≠ d) ++ (s.reflex.sprites.filter (fun o => o.1 / 16 = d)).drop n } }) ∧
  (∀ (s : State) (sp op src : Nat) (os : List (Nat × Nat × Nat)), s.spriteOps [] = s ∧
    s.spriteOps ((sp, op, src) :: os) = (s.spriteSet sp (spriteAfter op (s.sprite sp 0xB)) true).spriteOps os) ∧
  (∀ op v, bit (spriteAfter op v) 0 = (if op = 1 ∨ op = 4 ∨ op = 5 then true else if op = 2 then false else bit v 0) ∧
    bit (spriteAfter op v) 1 = (if op = 3 then !bit v 1 else if op = 4 then false else if op = 5 then true else bit v 1)) ∧
  (∀ (sp v : Nat) (r : Bool) (s : State), (s.sprite sp 0xB = v → s.spriteSet sp v r = s) ∧
    (s.sprite sp 0xB ≠ v → (s.spriteSet sp v r).sprite sp 0xB = v ∧ (s.spriteSet sp v r).sprite sp 0xC = s.now ∧ s.spriteSet sp v r = { s with live := (s.spriteSet sp v r).live, heads := (s.spriteSet sp v r).heads } ∧
      (r = true → s.reflexHead (sp / 8) = true → ((s.spriteSet sp v r).head (s.timingHead (sp / 8))).readyRaised = true))) ∧
  (∀ (req : Requester) (sp v : Nat) (s u : State), sp < 128 → v < 256 → s.admits req (0x4100 + sp) 0xB (leBytes 1 v) = true → u = s.admitted req (0x4100 + sp) 0xB (leBytes 1 v) →
    ((instanceOf? req).isSome = true → sp ∈ u.entrySprites → exec (.spriteStateWrite req sp v) s = .next (u.concluded req (0x4100 + sp) 0xB (leBytes 1 v) Status.deniedSecureClaim)) ∧
    (instanceOf? req = none ∨ sp ∉ u.entrySprites → exec (.spriteStateWrite req sp v) s = .next ((u.spriteSet sp v false).concluded req (0x4100 + sp) 0xB (leBytes 1 v) Status.ok))) ∧
  (∀ (req : Requester) (sp v : Nat) (s : State), sp < 128 → 3 < v → v < 256 → s.reaches req (0x4100 + sp) 0xB (leBytes 1 v) = true →
    exec (.spriteStateWrite req sp v) s = .next (s.turnedAway req (0x4100 + sp) 0xB (leBytes 1 v))) ∧
  (∀ (req : Requester) (h m : Nat) (s u : State), h < 16 → m < 2 ^ 32 → s.admits req (0x4200 + h) 5 (leBytes 4 m) = true → u = s.admitted req (0x4200 + h) 5 (leBytes 4 m) →
    (u.membersOk h m = false → exec (.canopyMembersWrite req h m) s = .next (u.concluded req (0x4200 + h) 5 (leBytes 4 m) Status.range)) ∧
    (u.membersOk h m = true → exec (.canopyMembersWrite req h m) s =
      .next ((u.modCano h (fun c => { c with newMembers := some m })).concluded req (0x4200 + h) 5 (leBytes 4 m) Status.ok))) ∧
  (∀ (h m : Nat) (s : State), s.membersOk h m = true ↔ (∀ k, k < 32 → bit m k = true → 8 ≤ k ∧ s.layerHead (32 * (h / 2) + k) = h ∧ s.heartwoodLayer (32 * (h / 2) + k) = false)) ∧
  (∀ (h st : Nat) (s : State), (s.canopyReg h 6 = st → s.canopyEnter h st = s) ∧ (s.canopyReg h 6 ≠ st → (s.canopyEnter h st).canopyReg h 6 = st))

/-- Heartwood (R394, R398, R399, R404, R407 to R412). An update of a region's content is judged in the order of R398 and, when it passes, submitted; once
it has arrived it is pending in place of the one before, and counts for the head as a commit's arrival does. The asset store is written only while
no region is enabled (BUSY), and only when its layout holds (RANGE); its hash follows it. A guard signature is compared once with the main path's for
a frame; after 200 microseconds it is late; with no comparison due it has no effect. A match clears the consecutive count and leads VERIFYING,
BLANKED, HOLDING and NO_GUARD to VERIFIED; a mismatch counts, is timed, and leads VERIFIED to the state its action gives; with an owner it raises one
secure interrupt. A state's entry writes REGION, and entry into the state it is in does nothing. -/
def Obligations.HeartwoodRegions : Prop :=
  (∀ (req : Requester) (applet : Option Nat) (r v : Nat) (s u : State), r < 128 →
    s.admits req (0x4300 + r) 0x12 (s.valueBytes (0x4300 + r) 0x12 v) = true → u = s.admitted req (0x4300 + r) 0x12 (s.valueBytes (0x4300 + r) 0x12 v) →
    exec (.regionUpdate req applet r v) s = .next ((u.submitUpdate r applet).2.concluded req (0x4300 + r) 0x12 (s.valueBytes (0x4300 + r) 0x12 v) (u.submitUpdate r applet).1)) ∧
  (∀ (r : Nat) (applet : Option Nat) (s : State),
    (s.updateCheck r applet ≠ Status.ok → s.submitUpdate r applet = (s.updateCheck r applet, s)) ∧
    (s.updateCheck r applet = Status.ok → ∃ t : State, s.submitUpdate r applet = (Status.ok, t) ∧ (t.region r).submitted = some (s.contentOf r) ∧ t = { s with regions := t.regions } ∧
      (∀ q, q ≠ r → t.region q = s.region q)) ∧
    (s.regionUse r 1 ≠ 1 → s.updateCheck r applet = Status.deniedAccess) ∧
    (∀ (c : ContentSet) (good : Prop), c = s.contentOf r → (good ↔ (c.format = 1 ∨ c.format = 2) ∧ c.bufferAddr % 64 = 0 ∧ c.bufferPitch % 64 = 0 ∧
      4 * s.regionUse r 4 ≤ c.bufferPitch ∧ s.granulesSecure c.bufferAddr (c.bufferPitch * (s.regionUse r 5 - 1) + 4 * s.regionUse r 4) = true ∧
      Assets.scriptOk s.assetStore c.script = true ∧ ∀ k, k < 16 → field c.maskAssets (2 * k) 2 ≠ 0 → (Assets.find s.assetStore (field c.maskAssets (2 * k) 2) 2).isSome = true) →
      (s.regionUse r 1 = 1 → ¬good → s.updateCheck r applet = Status.range) ∧
      (s.regionUse r 1 = 1 → good → s.regionUse r 0xB ≠ 0 → applet ≠ some (s.regionUse r 0xB) → s.updateCheck r applet = Status.deniedAccess) ∧
      (s.regionUse r 1 = 1 → good → s.regionUse r 0xB = 0 ∨ applet = some (s.regionUse r 0xB) → s.updateCheck r applet = Status.ok))) ∧
  (∀ (r : Nat) (s : State), (s.region r).submitted = none → exec (.updateArrival r) s = .next s) ∧
  (∀ (r : Nat) (c : ContentSet) (s : State), (s.region r).submitted = some c → ∃ t : State, (t.region r).pending = some c ∧ (t.region r).submitted = none ∧ (∀ q, q ≠ r → t.region q = s.region q) ∧
    t = { s with regions := t.regions } ∧ exec (.updateArrival r) s = .next (t.afterArrival (s.timingHead (r / 8)) (s.arrivalNow (s.timingHead (r / 8))))) ∧
  (∀ (req : Requester) (store : List Byte) (s u : State), s.admits req 0x2310 1 store = true → u = s.admitted req 0x2310 1 store →
    ((∃ r, r < 128 ∧ u.regionUse r 1 = 1) → exec (.assetsWrite req store) s = .next (u.concluded req 0x2310 1 store Status.busy)) ∧
    ((∀ r, r < 128 → u.regionUse r 1 ≠ 1) → Assets.storeOk store = false → exec (.assetsWrite req store) s = .next (u.concluded req 0x2310 1 store Status.range)) ∧
    ((∀ r, r < 128 → u.regionUse r 1 ≠ 1) → Assets.storeOk store = true → ∃ t : State, exec (.assetsWrite req store) s = .next (t.concluded req 0x2310 1 store Status.ok) ∧
      t.regBytes 0x2310 1 = store ∧ t.regBytes 0x2310 2 = Config.sha384 store ∧ t = { u with live := t.live } ∧ SameLiveBut u t [entryKey 0x2310 1, entryKey 0x2310 2])) ∧
  (∀ (r : Nat) (s : State), (s.region r).compareDue = false ∨ s.regionReg r 0x13 < 2 → exec (.guardSignature r) s = .next s ∧ exec (.guardLate r) s = .next s) ∧
  (∀ (r : Nat) (s : State), (s.region r).compareDue = true → 2 ≤ s.regionReg r 0x13 → ∃ t : State, (t.region r).compareDue = false ∧ t.regionReg r 0x15 = (s.region r).mainSig ∧
    t = { s with live := t.live, regions := t.regions } ∧ SameLiveBut s t [entryKey (0x4300 + r) 0x15, entryKey (0x4300 + r) 0x16] ∧
    exec (.guardSignature r) s = .next (if (s.region r).doneAt + us 200 < s.now then t.regionMismatch r 2
      else if (s.region r).guardSig = (s.region r).mainSig then t.regionMatch r else t.regionMismatch r 1) ∧
    (s.now ≤ (s.region r).doneAt + us 200 → t.regionReg r 0x16 = (s.region r).guardSig)) ∧
  (∀ (r : Nat) (s : State), (s.region r).compareDue = true → 2 ≤ s.regionReg r 0x13 → ∃ t : State, (t.region r).compareDue = false ∧ t.regionReg r 0x15 = (s.region r).mainSig ∧
    t.now = max s.now ((s.region r).doneAt + us 200) ∧ t = { s with now := t.now, clock := t.clock, live := t.live, regions := t.regions } ∧ exec (.guardLate r) s = .next (t.regionMismatch r 2)) ∧
  (∀ (r : Nat) (s t : State), t = s.regionMatch r → t.regionReg r 0x19 = 0 ∧ t.regionReg r 0x17 = satAdd (entryBits (0x4300 + r) 0x17) (s.regionReg r 0x17) 1 ∧
    t.regionReg r 0x13 = (if s.regionReg r 0x13 ∈ [2, 4, 5, 6] then 3 else s.regionReg r 0x13) ∧
    (s.regionUse r 7 = 2 → (t.region r).verified = some (s.region r).captured) ∧ (s.regionUse r 7 ≠ 2 → (t.region r).verified = (s.region r).verified)) ∧
  (∀ (r n : Nat) (s : State), s.regionReg r 0x13 < 2 ∨ 5 < s.regionReg r 0x13 → s.regionMismatch r n = s) ∧
  (∀ (r n : Nat) (s t : State), r < 128 → 2 ≤ s.regionReg r 0x13 → s.regionReg r 0x13 ≤ 5 → t = s.regionMismatch r n →
    t.regionReg r 0x18 = satAdd (entryBits (0x4300 + r) 0x18) (s.regionReg r 0x18) 1 ∧ t.regionReg r 0x19 = satAdd (entryBits (0x4300 + r) 0x19) (s.regionReg r 0x19) 1 ∧
    t.regionReg r 0x1A = s.now ∧ t.worlds.secureIrq = s.worlds.secureIrq + (if s.regionUse r 0xB = 0 then 0 else 1) ∧
    t.regionReg r 0x13 = (if s.regionReg r 0x13 ≠ 3 then s.regionReg r 0x13 else if s.regionUse r 7 = 1 then 4
      else if s.regionUse r 7 = 2 then (if (s.region r).verified.isSome then 5 else 4)
      else if s.regionUse r 7 = 3 ∧ s.regionUse r 0xA ≤ satAdd (entryBits (0x4300 + r) 0x19) (s.regionReg r 0x19) 1 then 4 else 3)) ∧
  (∀ (r : Nat) (s : State), s.regionEnter r (s.regionReg r 0x13) = s) ∧
  (∀ (r st : Nat) (s : State), s.regionReg r 0x13 ≠ st → ∃ u : State, s.regionEnter r st = u.regionEvent r 0x20 r st (s.regionReg r 0x16 * 2 ^ 32 + s.regionReg r 0x15) ∧
    u.regionReg r 0x13 = st ∧ (u.region r).freshEvent = true ∧ u = { s with live := u.live, regions := u.regions } ∧ SameLiveBut s u [entryKey (0x4300 + r) 0x13]) ∧
  (∀ (inst idx sub : Nat) (v : Val) (s : State), 0x4000 ≤ idx → idx < 0x4100 → s.heartwoodLayer (idx - 0x4000) = true → s.latchRecord inst (idx, sub, v) = s)

/-- Graphics queues (R421 to R424, R442, R446 to R448, R450, R455, R681). An entry is taken only when its queue can fetch and its context is free, a job only when no die of its
mask runs a field slot; a malformed one stops the queue with RANGE. A SIGNAL writes its value and ends; a WAIT ends at once when the value is
reached, else it holds the context, in state WAITING, until it is reached or its timeout stops the queue with TIMEOUT. A JOB starts on its context
with one part for each die of its mask, and holds the first failure of its first checks. At its end, and not before its passes are over, the
context is free, counts the job, and names its status; a job over its time limit fails with TIMEOUT, and where no limit applies nothing happens. -/
def Obligations.GraphicsQueues : Prop :=
  (∀ (e : Entry) (a v w : Nat) (z : Bool) (s : State), (s.ctxFree (s.sq e.inst e.q).target = false →
      exec (.signal e a v z) s = .next s ∧ exec (.wait e a v w z) s = .next s) ∧
    (s.ctxFree (s.sq e.inst e.q).target = true → s.canFetch e 1 = false →
      exec (.signal e a v z) s = .next (s.fetchFails e 1) ∧ exec (.wait e a v w z) s = .next (s.fetchFails e 1))) ∧
  (∀ (e : Entry) (op a l m : Nat) (z : Bool) (s : State),
    (s.ctxFree (s.sq e.inst e.q).target = false ∨ (∃ d, d < 8 ∧ bit m d = true ∧ s.inFieldSlot d = true) → exec (.job e op a l m z) s = .next s) ∧
    (s.ctxFree (s.sq e.inst e.q).target = true → (∀ d, d < 8 → bit m d = true → s.inFieldSlot d = false) → s.canFetch e 1 = false →
      exec (.job e op a l m z) s = .next (s.fetchFails e 1))) ∧
  (∀ (e : Entry) (a v : Nat) (z : Bool) (s : State), s.canFetch e 1 = true → s.ctxFree (s.sq e.inst e.q).target = true →
    (1 < e.flags ∨ z = false ∨ a % 8 ≠ 0 → exec (.signal e a v z) s = .next ((s.fetched e).stopQueue e.inst e.q Status.range)) ∧
    (e.flags ≤ 1 → z = true → a % 8 = 0 → ∃ t : State, exec (.signal e a v z) s = .next (t.endEntry e.inst e.q e.tag (bit e.flags 0) Status.ok) ∧
      t = { s with imem := t.imem, insts := t.insts } ∧
      (s.idaOk e.inst a 8 = true → ∀ k, Memory.read t.imem k = if idaKey e.inst a ≤ k ∧ k < idaKey e.inst a + 8 then (leBytes 8 v).getD (k - idaKey e.inst a) 0 else Memory.read s.imem k) ∧
      (s.idaOk e.inst a 8 = false → t.imem = s.imem))) ∧
  (∀ (e : Entry) (a v w : Nat) (z : Bool) (s : State), s.canFetch e 1 = true → s.ctxFree (s.sq e.inst e.q).target = true →
    (1 < e.flags ∨ z = false ∨ a % 8 ≠ 0 ∨ 10000000 < w → exec (.wait e a v w z) s = .next ((s.fetched e).stopQueue e.inst e.q Status.range)) ∧
    (e.flags ≤ 1 → z = true → a % 8 = 0 → w ≤ 10000000 → ∃ (t : State) (x : GfxWait), x.inst = e.inst ∧ x.q = e.q ∧ x.tag = e.tag ∧ x.completion = bit e.flags 0 ∧ x.addr = a ∧ x.value = v ∧
      x.deadline = (if w = 0 then none else some (s.now + us w)) ∧ (t.ctx (s.sq e.inst e.q).target).wait = some x ∧ t = { s with insts := t.insts, gfx := t.gfx } ∧
      exec (.wait e a v w z) s = .next (if v ≤ leNat (s.readIda (ctxAttr (s.sq e.inst e.q).target e.inst) a 8) then t.endWait (s.sq e.inst e.q).target x else t.setReg (ctxIndex (s.sq e.inst e.q).target) 1 3))) ∧
  (∀ (c : Nat) (s : State), (s.ctx c).wait = none → exec (.waitSatisfied c) s = .next s ∧ exec (.waitTimeout c) s = .next s) ∧
  (∀ (c : Nat) (x : GfxWait) (s : State), (s.ctx c).wait = some x →
    exec (.waitSatisfied c) s = .next (if x.value ≤ leNat (s.readIda (ctxAttr c x.inst) x.addr 8) then s.endWait c x else s) ∧ (x.deadline = none → exec (.waitTimeout c) s = .next s)) ∧
  (∀ (c d : Nat) (x : GfxWait) (s u : State), (s.ctx c).wait = some x → x.deadline = some d → u = s.arriveAt d →
    (x.value ≤ leNat (s.readIda (ctxAttr c x.inst) x.addr 8) → exec (.waitTimeout c) s = .next (u.endWait c x)) ∧
    (leNat (s.readIda (ctxAttr c x.inst) x.addr 8) < x.value → ∃ t : State, exec (.waitTimeout c) s = .next (t.stopQueue x.inst x.q Status.timeout) ∧ (t.ctx c).wait = none ∧ (t.ctx c).job = (s.ctx c).job ∧
      t.reg (ctxIndex c) 1 = 0 ∧ t = { u with live := t.live, gfx := t.gfx } ∧ SameLiveBut s t [entryKey (ctxIndex c) 1])) ∧
  (∀ (c : Nat) (x : GfxWait) (s : State), ∃ t : State, s.endWait c x = (t.endEntry x.inst x.q x.tag x.completion Status.ok).gfxSettle ∧ (t.ctx c).wait = none ∧ t.reg (ctxIndex c) 1 = 0 ∧
    t = { s with live := t.live, gfx := t.gfx } ∧ SameLiveBut s t [entryKey (ctxIndex c) 1]) ∧
  (∀ (e : Entry) (op a l m : Nat) (z : Bool) (s : State), s.canFetch e 1 = true → s.ctxFree (s.sq e.inst e.q).target = true →
    (∀ d, d < 8 → bit m d = true → s.inFieldSlot d = false) →
    (op ≠ 1 ∨ 1 < e.flags ∨ z = false ∨ a % 64 ≠ 0 ∨ l < 16 ∨ 16777216 < l ∨ l % 16 ≠ 0 → exec (.job e op a l m z) s = .next ((s.fetched e).stopQueue e.inst e.q Status.range)) ∧
    (op = 1 → e.flags ≤ 1 → z = true → a % 64 = 0 → 16 ≤ l → l ≤ 16777216 → l % 16 = 0 → ∃ (t : State) (j : GfxJob) (ds : List Nat),
      ds = (if m = 0 then [ctxDie (s.sq e.inst e.q).target] else (List.range 8).filter (bit m)) ∧ exec (.job e op a l m z) s = .next t.gfxSettle ∧
      (t.ctx (s.sq e.inst e.q).target).job = some j ∧ j.inst = e.inst ∧ j.q = e.q ∧ j.tag = e.tag ∧ j.completion = bit e.flags 0 ∧ j.addr = a ∧ j.length = l ∧ j.pass = none ∧
      j.index = 0 ∧ t = { s with insts := t.insts, gfx := t.gfx } ∧
      ((∃ d ∈ ds, s.holdsCtx e.inst (ctxOn (s.sq e.inst e.q).target d) = false) → ∃ f, j.failure = some f ∧ f.status = Status.deniedInstance ∧ f.reason = 6) ∧
      ((∀ d ∈ ds, s.holdsCtx e.inst (ctxOn (s.sq e.inst e.q).target d) = true) → (∃ d ∈ ds, s.coreActive d = false) → ∃ f, j.failure = some f ∧ f.status = Status.hwFault ∧ f.reason = 5) ∧
      ((∀ d ∈ ds, s.holdsCtx e.inst (ctxOn (s.sq e.inst e.q).target d) = true) → (∀ d ∈ ds, s.coreActive d = true) →
        (s.idaOk e.inst a l = false → ∃ f, j.failure = some f ∧ f.status = Status.deniedInstance ∧ f.reason = 2) ∧
        (s.idaOk e.inst a l = true → s.bufferOk j = false → ∃ f, j.failure = some f ∧ f.status = Status.range ∧ f.reason = 1) ∧
        (s.idaOk e.inst a l = true → s.bufferOk j = true → j.failure = none ∧ j.parts = ds.map (fun d => { die := d, ctx := ctxOn (s.sq e.inst e.q).target d }) ∧
          j.passes = leNat (s.cmdBytes j 6 2))))) ∧
  (∀ (c : Nat) (s : State), (s.ctx c).job = none → exec (.jobDone c) s = .next s) ∧
  (∀ (c : Nat) (j : GfxJob) (s : State), (s.ctx c).job = some j → j.pass.isSome = true ∨ (j.failure = none ∧ j.index < j.passes) → exec (.jobDone c) s = .next s) ∧
  (∀ (c : Nat) (j : GfxJob) (s : State), (s.ctx c).job = some j → j.pass = none → j.failure.isSome = true ∨ j.passes ≤ j.index →
    exec (.jobDone c) s = .next (s.endJob c ((j.failure.map (·.status)).getD Status.ok) false)) ∧
  (∀ (c st : Nat) (j : GfxJob) (s : State), (s.ctx c).job = some j → ∃ t : State,
    s.endJob c st false = (State.endEntry (match j.failure with
      | some f => t.event j.inst 0x80 c st (ctxDie c) f.reason (f.dies * 2 ^ 56 + f.pass * 2 ^ 48 + f.offset)
      | none => t) j.inst j.q j.tag j.completion st).gfxSettle ∧
    (t.ctx c).job = none ∧ t.reg (ctxIndex c) 8 = st ∧ t.reg (ctxIndex c) 1 = 0 ∧ t.reg (ctxIndex c) 4 = satAdd (entryBits (ctxIndex c) 4) (s.reg (ctxIndex c) 4) 1 ∧
    t.reg (ctxIndex c) 5 = (if st = Status.ok then s.reg (ctxIndex c) 5 else satAdd (entryBits (ctxIndex c) 5) (s.reg (ctxIndex c) 5) 1) ∧
    t = { s with live := t.live, gfx := t.gfx }) ∧
  (∀ (c d : Nat) (s : State), (s.ctx c).job = none ∨ s.reg (ctxIndex c) 2 = 0 ∨ (∃ j, (s.ctx c).job = some j ∧ j.parts.find? (fun p => p.die = d) = none) →
    exec (.jobTimeLimit c d) s = .next s) ∧
  (∀ (c d : Nat) (j : GfxJob) (p : GfxPart) (s u : State), (s.ctx c).job = some j → j.parts.find? (fun p => p.die = d) = some p → s.reg (ctxIndex c) 2 ≠ 0 →
    u = s.arriveAt ((s.gdie d).since + (ms (s.reg (ctxIndex c) 2) - p.ran)) →
    ((s.gdie d).running ≠ some p.ctx → exec (.jobTimeLimit c d) s = .next s) ∧
    ((s.gdie d).running = some p.ctx → ∃ t : State, exec (.jobTimeLimit c d) s = .next t ∧ t = { u with gfx := t.gfx } ∧ (t.gdie d).request = some ((s.gdie d).request.getD u.now) ∧
      (t.ctx c).job = some { j with failure := some (j.failure.getD { status := Status.timeout, reason := 3, dies := 2 ^ d, pass := j.index, offset := 0 }) })) ∧
  (∀ s : State, s.gfxSettle = { s with live := s.gfxSettle.live, gfx := s.gfxSettle.gfx })

/-- Graphics passes and the cores (R425 to R429, R431 to R436, R443 to R445, R447, R450, R454). A pass begins once every part has its context and the pass before has
ended; its descriptor is checked and each die counts its mode. The draw stream is taken in order: each command binds, sets or draws, and one that is
unknown, wrong in length or out of range, or a draw before BIND_PIPELINE, fails the job with RANGE at its offset; a command that is not the next one
of the stream changes nothing. A tile list overflows only when its slice is full; overflows count, the second turns the die to IMMEDIATE. A pass
that ends gives way to the next; a tile whose attachment is discarded in BINNED mode is not stored. A signature is never INVALID. A period gives each
runnable instance its share; a pre-empted context leaves the cores, counts and is charged. -/
def Obligations.GraphicsPasses : Prop :=
  (∀ (c : Nat) (s : State), (s.ctx c).job = none → exec (.passBegin c) s = .next s ∧ (∀ d fl tl, exec (.tileListOverflow c d fl tl) s = .next s) ∧
    ∀ r b, exec (.passDone c r b) s = .next s) ∧
  (∀ (c : Nat) (j : GfxJob) (s : State), (s.ctx c).job = some j → j.pass.isSome = true ∨ j.failure.isSome = true ∨ j.passes ≤ j.index ∨ j.parts.all (·.taken) = false ∨ s.jobRunning j = false →
    exec (.passBegin c) s = .next s) ∧
  (∀ (c : Nat) (j : GfxJob) (d : List Byte) (s : State), (s.ctx c).job = some j → j.pass = none → j.failure = none → j.index < j.passes → j.parts.all (·.taken) = true → s.jobRunning j = true →
    d = s.cmdBytes j j.offset 128 →
    (passOk d = false → exec (.passBegin c) s = .next (s.modJob c (fun k => { k with failure := some (k.failure.getD { status := Status.range, reason := 1, pass := k.index, offset := k.offset }) }))) ∧
    (passOk d = true → ∃ (t : State) (p : GfxPass), exec (.passBegin c) s = .next t ∧ p.desc = d ∧ p.binned = passBinned d j.parts.length ∧ p.cursor = j.offset + 128 ∧
      p.ending = j.offset + 128 + field d 8 4 ∧ p.pipeline = none ∧ p.draws = [] ∧
      (t.ctx c).job = some { j with pass := some p, parts := j.parts.map (fun q => { q with binned := passBinned d j.parts.length, overflows := 0, flushed := [] }) } ∧
      t = { s with live := t.live, gfx := t.gfx } ∧
      (∀ n, (j.parts.map (·.die)).Nodup → n ∈ j.parts.map (·.die) → t.reg (0x4808 + n) (if passBinned d j.parts.length then 3 else 4) =
        satAdd (entryBits (0x4808 + n) (if passBinned d j.parts.length then 3 else 4)) (s.reg (0x4808 + n) (if passBinned d j.parts.length then 3 else 4)) 1))) ∧
  (∀ (d : List Byte) (k : Nat), (field d 0 1 = 0 → passBinned d k = true) ∧ (field d 0 1 = 1 → passBinned d k = false) ∧
    (field d 0 1 = 2 → (passBinned d k = true ↔ field d 0xC 4 * (48 + 8 * max 1 (field d 0x1C 1)) ≤ field d 0x18 4 / k / 4096 * 4096 * 3 / 4))) ∧
  (∀ (c : Nat) (s : State), exec (.bindPipeline c) s = .next (s.takeCommand c 1) ∧ exec (.bindTable c) s = .next (s.takeCommand c 2) ∧ exec (.viewport c) s = .next (s.takeCommand c 3) ∧
    exec (.scissor c) s = .next (s.takeCommand c 4) ∧ exec (.draw c) s = .next (s.takeCommand c 5) ∧ exec (.drawIndexed c) s = .next (s.takeCommand c 6) ∧
    exec (.drawIndirect c) s = .next (s.takeCommand c 7)) ∧
  (∀ (c op : Nat) (s : State), (s.ctx c).job = none → s.takeCommand c op = s) ∧
  (∀ (c op : Nat) (j : GfxJob) (s : State), (s.ctx c).job = some j → j.pass = none ∨ j.failure.isSome = true ∨ s.jobRunning j = false ∨
    (∃ p, j.pass = some p ∧ p.ending ≤ p.cursor) → s.takeCommand c op = s) ∧
  (∀ (c op o l : Nat) (j : GfxJob) (p : GfxPass) (b : List Byte) (s bad : State) (go : GfxPass → State), (s.ctx c).job = some j → j.pass = some p → j.failure = none → p.cursor < p.ending →
    s.jobRunning j = true → o = field (s.cmdBytes j p.cursor 4) 0 2 → l = field (s.cmdBytes j p.cursor 4) 2 2 → b = s.cmdBytes j p.cursor l →
    bad = s.modJob c (fun k => { k with failure := some (k.failure.getD { status := Status.range, reason := 1, pass := k.index, offset := p.cursor }) }) →
    (∀ q, go q = s.modJob c (fun k => { k with pass := some { q with cursor := p.cursor + l } })) →
    (o = 0 ∨ 7 < o ∨ p.ending < p.cursor + l → s.takeCommand c op = bad) ∧
    (o ∈ [1, 2, 4, 7] ∧ l ≠ 12 ∨ o ∈ [3, 5] ∧ l ≠ 20 ∨ o = 6 ∧ l ≠ 32 → s.takeCommand c op = bad) ∧
    (l = commandLength o → 1 ≤ o → o ≤ 7 → p.cursor + l ≤ p.ending → o ≠ op → s.takeCommand c op = s) ∧
    (o = 1 → l = 12 → p.cursor + 12 ≤ p.ending → s.takeCommand c 1 =
      if field b 4 8 % 256 = 0 ∧ s.pipelineOk j.attr (field b 4 8) p.desc = true then go { p with pipeline := some (field b 4 8) } else bad) ∧
    (o = 2 → l = 12 → p.cursor + 12 ≤ p.ending → s.takeCommand c 2 = if field b 4 8 % 64 = 0 then go { p with table := some (field b 4 8) } else bad) ∧
    (o = 3 → l = 20 → p.cursor + 20 ≤ p.ending → s.takeCommand c 3 = go { p with viewport := b.drop 4 }) ∧
    (o = 4 → l = 12 → p.cursor + 12 ≤ p.ending → s.takeCommand c 4 = go { p with scissor := b.drop 4 }) ∧
    (o = 5 → l = 20 → p.cursor + 20 ≤ p.ending → s.takeCommand c 5 = if p.pipeline = none then bad else
      go { p with draws := p.draws ++ [[field (b.drop 4) 0 4, field (b.drop 4) 4 4, field (b.drop 4) 8 4, field (b.drop 4) 12 4]] }) ∧
    (o = 6 → l = 32 → p.cursor + 32 ≤ p.ending → s.takeCommand c 6 =
      if p.pipeline ≠ none ∧ (field b 28 1 = 2 ∨ field b 28 1 = 4) ∧ allZero (slice b 29 3) = true then go { p with draws := p.draws ++ [[field (b.drop 4) 0 4, field (b.drop 4) 4 4,
        field (b.drop 4) 8 4, field (b.drop 4) 12 4, field b 20 8, field b 28 1]] } else bad) ∧
    (o = 7 → l = 12 → p.cursor + 12 ≤ p.ending → s.takeCommand c 7 =
      if p.pipeline ≠ none ∧ field b 4 8 % 16 = 0 then go { p with draws := p.draws ++ [[field (s.readIda j.attr (field b 4 8) 16) 0 4, field (s.readIda j.attr (field b 4 8) 16) 4 4,
        field (s.readIda j.attr (field b 4 8) 16) 8 4, field (s.readIda j.attr (field b 4 8) 16) 12 4]] } else bad)) ∧
  (∀ (c d : Nat) (fl : List TileData) (tl : List Nat) (j : GfxJob) (s : State), (s.ctx c).job = some j → j.pass = none ∨ j.parts.find? (fun p => p.die = d) = none →
    exec (.tileListOverflow c d fl tl) s = .next s) ∧
  (∀ (c d : Nat) (fl : List TileData) (tl : List Nat) (j : GfxJob) (p : GfxPass) (q : GfxPart) (s : State), (s.ctx c).job = some j → j.pass = some p →
    j.parts.find? (fun p => p.die = d) = some q →
    (q.binned = false ∨ (s.gdie d).running ≠ some q.ctx ∨ sliceFills p.desc j.parts.length tl = false → exec (.tileListOverflow c d fl tl) s = .next s) ∧
    (q.binned = true → (s.gdie d).running = some q.ctx → sliceFills p.desc j.parts.length tl = true → ∃ (t : State) (k : GfxJob), exec (.tileListOverflow c d fl tl) s =
        .next (if s.reg (ctxIndex c) 3 = 1 then t.event j.inst 0x81 c Status.ok d (if q.overflows = 1 then 2 else 1) (j.index * 2 ^ 48 + j.tag) else t) ∧
      (t.ctx c).job = some k ∧ k = { j with parts := k.parts } ∧ (∀ x ∈ k.parts, x.die = d → x.binned = decide (q.overflows ≠ 1)) ∧
      k.parts.map (·.overflows) = j.parts.map (fun x => if x.die = d then x.overflows + 1 else x.overflows) ∧
      t.reg (0x4808 + d) 5 = satAdd (entryBits (0x4808 + d) 5) (s.reg (0x4808 + d) 5) 1 ∧
      t.reg (0x4808 + d) 6 = (if q.overflows = 1 then satAdd (entryBits (0x4808 + d) 6) (s.reg (0x4808 + d) 6) 1 else s.reg (0x4808 + d) 6) ∧
      t = { s with free := t.free, live := t.live, imem := t.imem, insts := t.insts, gfx := t.gfx })) ∧
  (∀ (d : List Byte) (k : Nat) (tl : List Nat), sliceFills d k tl = true ↔ tl ≠ [] ∧ (tl.dropLast.map (fun n => 48 + 8 * n)).sum ≤ field d 0x18 4 / k / 4096 * 4096 ∧
    field d 0x18 4 / k / 4096 * 4096 < (tl.map (fun n => 48 + 8 * n)).sum) ∧
  (∀ (c : Nat) (r : List TileData) (b : List (List Nat)) (j : GfxJob) (p : GfxPass) (s u : State), (s.ctx c).job = some j → j.pass = some p →
    u = s.each (List.range b.length) (fun t i => t.fillSlice j p.desc i (b.getD i [])) →
    (p.cursor < p.ending ∨ s.jobRunning j = false → j.failure = none → exec (.passDone c r b) s = .next s) ∧
    ((p.ending ≤ p.cursor ∧ s.jobRunning j = true) ∨ j.failure.isSome = true → ∃ t : State, exec (.passDone c r b) s = .next t ∧
      t = { s with free := t.free, live := t.live, imem := t.imem, insts := t.insts, gfx := t.gfx } ∧ t.imem = (u.finishTiles j p.desc r).imem ∧
      (t.ctx c).job = some { j with pass := none, index := j.index + 1, offset := p.ending, failure := if s.passTranslates j.inst p.desc then j.failure else some (j.failure.getD { status := Status.deniedInstance, reason := 2, pass := j.index, offset := 0 }) })) ∧
  (∀ (c : Nat) (r : List TileData) (b : List (List Nat)) (j : GfxJob) (s : State), (s.ctx c).job = some j → j.pass = none → exec (.passDone c r b) s = .next s) ∧
  (∀ (j : GfxJob) (d : List Byte) (p : GfxPart) (a : GfxTarget) (x y : Nat) (r : List TileData) (s : State), p.binned = true → a.store = 1 →
    (s.finishTile j d p a x y r).imem = s.imem) ∧
  (∀ bs, tileSignature bs < 2 ^ 64 - 1) ∧ Crc.value crc64 [0x31, 0x32, 0x33, 0x34, 0x35, 0x36, 0x37, 0x38, 0x39] = 0x6C40DF5F0B497347 ∧
  (∀ (d : Nat) (s : State), (s.gdie d).request = none → s.budgetSpent d = false → exec (.preemption d) s = .next s) ∧
  (∀ (d : Nat) (s : State), (s.gdie d).request.isSome = true ∨ s.budgetSpent d = true → exec (.preemption d) s = .next ((s.preempt d).gfxRun d)) ∧
  (∀ (d : Nat) (s : State), (s.gdie d).request = none → exec (.midshaderPreemption d) s = .next s) ∧
  (∀ (d r : Nat) (s : State), (s.gdie d).request = some r → ∃ t : State, exec (.midshaderPreemption d) s = .next ((t.preempt d).gfxRun d) ∧ t.now = max s.now (r + us 40) ∧
    t.reg (0x4808 + d) 9 = satAdd (entryBits (0x4808 + d) 9) (s.reg (0x4808 + d) 9) 1 ∧ t = { s with now := t.now, clock := t.clock, live := t.live } ∧ SameLiveBut s t [entryKey (0x4808 + d) 9]) ∧
  (∀ (d c : Nat) (s t : State), (s.gdie d).running = some c → t = s.preempt d → (t.gdie d).running = none ∧ (t.gdie d).request = none ∧ (t.ctx c).preempted = true ∧
    t.reg (ctxIndex c) 1 = 2 ∧ t.reg (ctxIndex c) 7 = satAdd (entryBits (ctxIndex c) 7) (s.reg (ctxIndex c) 7) 1 ∧
    t.reg (ctxIndex c) 6 = satAdd (entryBits (ctxIndex c) 6) (s.reg (ctxIndex c) 6) (s.now - (s.gdie d).since) ∧ t = { s with live := t.live, gfx := t.gfx }) ∧
  (∀ (d : Nat) (s t : State), t = s.startPeriod d → (t.gdie d).period = some s.now ∧ (t.gdie d).running = (s.gdie d).running ∧
    (∀ i ∈ s.gfxInstances d, Tab.getD (t.gdie d).budgets i 0 =
      if s.gfxWeight i d = 0 then 0 else s.gfxPeriod * s.gfxWeight i d / ((s.gfxInstances d).map (fun k => s.gfxWeight k d)).sum) ∧
    (∀ i, i ∉ s.gfxInstances d → Tab.getD (t.gdie d).budgets i 0 = 0) ∧ t = { s with gfx := t.gfx }) ∧
  (∀ (d : Nat) (s : State), (s.gdie d).period = none → exec (.schedPeriod d) s = .next (s.gfxRun d)) ∧
  (∀ (d p : Nat) (s u : State), (s.gdie d).period = some p → u = s.arriveAt (p + s.gfxPeriod) →
    (u.gfxInstances d = [] → exec (.schedPeriod d) s = .next (u.modGdie d (fun g => { g with period := none, budgets := [] }))) ∧
    (u.gfxInstances d ≠ [] → (s.gdie d).running = none → exec (.schedPeriod d) s = .next ((u.startPeriod d).gfxRun d)) ∧
    (u.gfxInstances d ≠ [] → ∀ c, (s.gdie d).running = some c → ∃ t : State, (t.gdie d).running = some c ∧ (t.gdie d).period = some u.now ∧ t = { u with live := t.live, gfx := t.gfx } ∧
      exec (.schedPeriod d) s = .next (if c < 0x80 ∧ t.ctxInst c ≠ t.pickInstance d then t.requestPreemption d else t)))

/-- The key engines (R457, R460, R461, R466 to R470, R472 to R474, R477). A scan cycle starts only at its device times, at least 200 microseconds after the one
before, and counts; while the engine cannot scan nothing changes. A reading is the scaled sum of the usable bursts, rounded to the nearest count, and
INVALID with fewer than half of them. A phase is decided within 4 microseconds of its window, or 6 where a lender decides; one with no TX electrode
converts nothing; the eighth ends the cycle. A released key is pressed after its debounce cycles of valid candidates on a dry die, and never while
wet; a pressed key leaves PRESSED by its release debounce or its hold limit; an invalid reading changes neither state nor counts. A baseline moves at
most one count toward its reading. A recapture leaves every enabled key that is not SUSPENDED in CAPTURING; another value written is RANGE. A wake
scan writes no event and fires no reflex, and runs in SLEEP alone. -/
def Obligations.KeysAreScanned : Prop :=
  (∀ (d : Nat) (s : State), s.serving = false ∨ s.reg 0x2400 3 = 2 ∨ s.shellUp d = false ∨ s.keyServed d = false ∨ (s.kdie d).cycle.isSome = true → exec (.scanCycle d) s = .next s) ∧
  (∀ (d : Nat) (s u : State), s.serving = true → s.reg 0x2400 3 ≠ 2 → s.shellUp d = true → s.keyServed d = true → (s.kdie d).cycle = none →
    u = (s.each ((List.range 64).map (64 * d + ·)) (fun t k => if (t.keyw k).oldHolder.isSome then (t.releaseKey k 4 true).modKey k (fun x => { x with oldHolder := none }) else t)).keyUptake d →
    (u.use (0x6100 + d) 1 ≠ 1 → exec (.scanCycle d) s = .next u) ∧
    (u.use (0x6100 + d) 1 = 1 → ∃ (t : State) (c : Nat), exec (.scanCycle d) s = .next t ∧ (t.kdie d).cycle = some c ∧ (t.kdie d).lastStart = some c ∧ (t.kdie d).nextPhase = 0 ∧
      c % 200000 = 1000 * u.use (0x6100 + d) 2 % 200000 ∧ s.now ≤ c ∧ (∀ l, (s.kdie d).lastStart = some l → l + 200000 ≤ c) ∧
      ((s.kdie d).lastStart = none → c < s.now + 200000) ∧ (∀ l, (s.kdie d).lastStart = some l → c < max s.now (l + 200000) + 200000) ∧ t.now = max u.now c ∧
      t.reg (0x6100 + d) 0xD = satAdd (entryBits (0x6100 + d) 0xD) (u.reg (0x6100 + d) 0xD) 1 ∧ t = { u with now := t.now, clock := t.clock, live := t.live, keys := t.keys })) ∧
  (∀ (d a n : Nat) (counts : List Nat) (q : Bool) (s : State) (ok : List Nat), 0 < n → ok = (List.range n).filter (fun j => !q || s.burstUsable d (a + 500 * j)) →
    (ok.length < n / 2 → s.readingOf d a n counts q = none) ∧
    (n / 2 ≤ ok.length → 0 < ok.length → ∃ v, s.readingOf d a n counts q = some (min 65535 v) ∧ 2 * (v * ok.length) ≤ 2 * ((ok.map (fun j => counts.getD j 0)).sum * n) + ok.length ∧
      2 * ((ok.map (fun j => counts.getD j 0)).sum * n) ≤ 2 * (v * ok.length) + ok.length)) ∧
  (∀ (d t : Nat) (s : State), s.burstUsable d t = true ↔
    (∀ c ∈ s.quietChannels d, ∀ e ∈ (Tab.getD s.haptics c {}).edges, t + 1000 ≤ e ∨ e + 1000 ≤ t) ∧
    (∀ x ∈ (s.kdie d).quiet, ((t + 500 : Nat) : Int) * x.2.2 ≤ x.1 ∨ x.2.1 ≤ (t : Int) * x.2.2)) ∧
  (∀ (d : Nat) (bs : List BurstReading) (s : State), (s.kdie d).cycle = none ∨ (s.kdie d).nextPhase ≠ 0 → exec (.selfFrameDone d bs) s = .next s) ∧
  (∀ (d c : Nat) (bs : List BurstReading) (s : State), (s.kdie d).cycle = some c → (s.kdie d).nextPhase = 0 → ∃ t : State, exec (.selfFrameDone d bs) s = .next t ∧
    t = { s with now := t.now, clock := t.clock, free := t.free, live := t.live, keys := t.keys } ∧ t.now = max s.now (c + 40000) ∧
    (∀ e, e < 16 → s.role (16 * d + e) = 1 ∨ s.role (16 * d + e) = 2 →
      ((t.elec (16 * d + e)).reading = none ↔ ((List.range 64).filter (fun j => s.burstUsable d (c + 8000 + 500 * j))).length < 32) ∧
      (∀ v, (t.elec (16 * d + e)).reading = some v → t.reg (0x6000 + (16 * d + e)) 3 = v))) ∧
  (∀ (d : Nat) (bs : List BurstReading) (s : State), (s.kdie d).cycle = none → exec (.mutualPhaseDone d bs) s = .next s) ∧
  (∀ (d c : Nat) (bs : List BurstReading) (s : State), (s.kdie d).cycle = some c → ∃ t : State, exec (.mutualPhaseDone d bs) s = .next t ∧
    max s.now (c + 60000 + 20000 * (s.kdie d).nextPhase) ≤ t.now ∧ t.now ≤ max s.now (c + 60000 + 20000 * (s.kdie d).nextPhase + us 6) ∧
    (s.coreActive d = true → t.now ≤ max s.now (c + 60000 + 20000 * (s.kdie d).nextPhase + us 4)) ∧ SameRings s t ∧ t.mem = s.mem ∧
    (t.kdie d).nextPhase = (if (s.kdie d).nextPhase < 7 then (s.kdie d).nextPhase + 1 else 0) ∧ (7 ≤ (s.kdie d).nextPhase → (t.kdie d).cycle = none) ∧
    ((s.kdie d).nextPhase < 7 → (s.electrodes d 1).length ≤ (s.kdie d).nextPhase → t = { s with now := t.now, clock := t.clock, keys := t.keys } ∧ (t.kdie d).cycle = some c ∧
      t.now = max s.now (c + 60000 + 20000 * (s.kdie d).nextPhase))) ∧
  (∀ (k m v ending np : Nat) (dm ds : Int) (dry : Bool) (s t : State), s.keyState k = 3 → t = s.decideKey k m v ending dm ds dry →
    np = (if (s.keyCfg k 5 : Int) ≤ dm ∧ (s.keyCfg k 7 = 0 ∨ (s.keyCfg k 7 : Int) ≤ ds) ∧ dry = true then (s.keyw k).np + 1 else 0) →
    (s.keyCfg k 8 ≤ np → ∃ u : State, t = (u.dispatchPress k).keyEvent k 0x30 1 (u.keyDetail k (s.now - (u.keyw k).heldFrom)) ∧ u.keyState k = 4 ∧
      u.reg (0x6200 + k) 0x15 = satAdd (entryBits (0x6200 + k) 0x15) (s.reg (0x6200 + k) 0x15) 1 ∧ u.reg (0x6200 + k) 0x17 = s.now ∧
      (u.keyw k).heldFrom = (if np = 1 then ending else (s.keyw k).crossing) ∧ (u.keyw k).silent = false ∧ u = { s with live := u.live, keys := u.keys }) ∧
    (np < s.keyCfg k 8 → t.keyState k = 3 ∧ (t.keyw k).np = np ∧ t.reg (0x6200 + k) 0x15 = s.reg (0x6200 + k) 0x15 ∧ t.reflex = s.reflex ∧
      ((-(s.keyCfg k 0xB : Int) < dm ∧ -(s.keyCfg k 0xB : Int) < ds) ∨ (s.keyw k).negative ≠ 2 → t = { s with keys := t.keys }) ∧
      ((dm ≤ -(s.keyCfg k 0xB : Int) ∨ ds ≤ -(s.keyCfg k 0xB : Int)) → (s.keyw k).negative = 2 →
        ∃ u : State, t = u.keyStateEvent k 3 ∧ u.reg (0x6200 + k) 0x12 = m ∧ (u.keyw k).negative = 0))) ∧
  (∀ (k m v ending nr : Nat) (dm ds : Int) (dry : Bool) (s t : State), s.keyState k ≠ 3 → t = s.decideKey k m v ending dm ds dry →
    nr = (if dm < (s.keyCfg k 6 : Int) then (s.keyw k).nr + 1 else 0) →
    (s.keyCfg k 9 ≤ nr → ∃ u : State, t = u.releaseKey k 2 true ∧ u = { s with keys := u.keys }) ∧
    (nr < s.keyCfg k 9 → s.keyCfg k 0xA ≠ 0 → sec (s.keyCfg k 0xA) ≤ ending - (s.keyw k).heldFrom → ∃ u : State, t = u.releaseKey k 3 true ∧ u.reg (0x6200 + k) 0x12 = m ∧
      u.reg (0x6000 + s.keySelf k) 4 = v ∧ u.reg (0x6200 + k) 0x16 = satAdd (entryBits (0x6200 + k) 0x16) (s.reg (0x6200 + k) 0x16) 1) ∧
    (nr < s.keyCfg k 9 → s.keyCfg k 0xA = 0 ∨ ending - (s.keyw k).heldFrom < sec (s.keyCfg k 0xA) → t = { s with keys := t.keys } ∧ (t.keyw k).nr = nr)) ∧
  (∀ (k reason : Nat) (report : Bool) (s : State), (s.keyState k ≠ 4 → s.releaseKey k reason report = s) ∧
    (s.keyState k = 4 → (s.releaseKey k reason report).keyState k = 3 ∧ ((s.releaseKey k reason report).keyw k).np = 0 ∧ ((s.releaseKey k reason report).keyw k).nr = 0)) ∧
  (∀ (k ending : Nat) (dry : Bool) (m : Option Nat) (s t : State), t = s.evaluateKey k m ending dry → s.keyState k ≠ 1 → m = none ∨ (s.elec (s.keySelf k)).reading = none →
    t.keyState k = s.keyState k ∧ (t.keyw k).np = (s.keyw k).np ∧ (t.keyw k).nr = (s.keyw k).nr ∧ (t.keyw k).negative = (s.keyw k).negative ∧ (t.keyw k).uncover = (s.keyw k).uncover ∧
    t = { s with live := t.live, keys := t.keys }) ∧
  (∀ (k m ending v : Nat) (dry : Bool) (s : State), s.keyState k = 2 → (s.elec (s.keySelf k)).reading = some v → (s.keyCfg k 6 : Int) ≤ (s.deltas k m v).1 →
    s.keyCfg k 9 ≠ 0 → (s.evaluateKey k (some m) ending dry).keyState k = 2) ∧
  (∀ b r c l : Nat, (c + 1 < l → driftStep b r c l = (b, c + 1)) ∧
    (l ≤ c + 1 → (driftStep b r c l).2 = 0 ∧ (b < r → (driftStep b r c l).1 = b + 1) ∧ (r < b → (driftStep b r c l).1 = b - 1) ∧ (r = b → (driftStep b r c l).1 = b))) ∧
  (∀ (d : Nat) (s : State), (s.waterStep d).reg (0x6100 + d) 0xC = (((s.electrodes d 1 ++ s.electrodes d 2).filter s.wetElectrode).map (fun e => 2 ^ (e % 16))).sum ∧
    (s.reg (0x6100 + d) 0xB = 0 → ((s.waterStep d).reg (0x6100 + d) 0xB = 1 ↔
      s.use (0x6100 + d) 8 ≤ ((s.electrodes d 1 ++ s.electrodes d 2).filter s.wetElectrode).length ∧ 1 ≤ (s.kdie d).wetRun))) ∧
  (∀ (req : Requester) (d v : Nat) (s u : State), d < 8 → v < 256 → s.admits req (0x6100 + d) 0xF (leBytes 1 v) = true → u = s.admitted req (0x6100 + d) 0xF (leBytes 1 v) →
    exec (.recapture req d v) s = .next ((u.recaptureDie d 6).concluded req (0x6100 + d) 0xF (leBytes 1 v) Status.ok)) ∧
  (∀ (req : Requester) (d v : Nat) (s : State), d < 8 → v < 256 → v ≠ 1 → s.reaches req (0x6100 + d) 0xF (leBytes 1 v) = true →
    exec (.recapture req d v) s = .next (s.turnedAway req (0x6100 + d) 0xF (leBytes 1 v))) ∧
  (∀ (d reason k : Nat) (s : State), k ∈ s.keysOn d → s.keyState k ≠ 5 → (s.recaptureDie d reason).keyState k = 1) ∧
  (∀ (d : Nat) (a b : List Nat) (s : State), s.powerState ≠ 2 ∨ s.use (0x6100 + d) 1 ≠ 1 ∨ (s.kdie d).wakeDue = none ∨ (s.keysOn d).find? (fun k => decide (s.keyCfg k 0xF = 1)) = none →
    exec (.wakeScan d a b) s = .next s) ∧
  (∀ (d k due : Nat) (a b : List Nat) (s : State), s.powerState = 2 → s.use (0x6100 + d) 1 = 1 → (s.kdie d).wakeDue = some due →
    (s.keysOn d).find? (fun k => decide (s.keyCfg k 0xF = 1)) = some k → ∃ (t : State) (x : Int × Int),
      x = (s.arriveAt due).deltas k (((s.arriveAt due).readingOf d 0 32 b false).getD 0) (((s.arriveAt due).readingOf d 0 64 a false).getD 0) ∧
      exec (.wakeScan d a b) s = .next (if (s.keyCfg k 5 : Int) ≤ x.1 ∧ (s.keyCfg k 7 = 0 ∨ (s.keyCfg k 7 : Int) ≤ x.2) then t.wakeFrom 3 else t) ∧
      (t.kdie d).wakeDue = some (due + ms 100) ∧ t = { s with now := t.now, clock := t.clock, free := t.free, live := t.live, keys := t.keys })

/-- R535: a gain is an I16 in units of 0.1 dB, from -1,200 to +120, or 0x8000 for mute, and any other value returns RANGE. Every gain entry of every row is of
type I16; a value outside is refused with RANGE; one of -1,200, +120 or mute, or between, passes the checks, is stored while no safe-load of the row
waits and no copy runs (else BUSY), reads back, and leaves the active bank alone. The 64 gains of a row's preset are judged in the same way. The unit: a
gain v multiplies a sample by 10^(v / 200), to the nearest 2^-22. -/
def Obligations.GainsAreJudged : Prop :=
  (∀ (req : Requester) (row node : Nat) (bs : List Byte) (v : Int) (f : Found) (s : State), row < 128 → node < 64 → bs.length = 2 → v = signedOf 16 (leNat bs) →
    lookup s.part (0x6900 + row) (node + 1) = some f → s.rightsOk req f true .active = true → f.row'.ty = .i16 ∧ f.row'.acc = .rw ∧
      s.checkWrite req (0x6900 + row) (node + 1) bs = (if v = -32768 ∨ (-1200 ≤ v ∧ v ≤ 120) then Status.ok else Status.range)) ∧
  (∀ (req : Requester) (row node : Nat) (bs : List Byte) (s : State), row < 128 → node < 64 → bs.length = 2 → s.reaches req (0x6900 + row) (node + 1) bs = true →
    ¬ (signedOf 16 (leNat bs) = -32768 ∨ (-1200 ≤ signedOf 16 (leNat bs) ∧ signedOf 16 (leNat bs) ≤ 120)) →
    exec (.write req (0x6900 + row) (node + 1) bs) s = .next (s.turnedAway req (0x6900 + row) (node + 1) bs)) ∧
  (∀ (req : Requester) (row node : Nat) (bs : List Byte) (s u : State), row < 128 → node < 64 → s.admits req (0x6900 + row) (node + 1) bs = true →
    u = s.admitted req (0x6900 + row) (node + 1) bs → exec (.write req (0x6900 + row) (node + 1) bs) s =
      .next ((u.gainWrite row node (signedOf 16 (leNat bs))).2.concluded req (0x6900 + row) (node + 1) bs (u.gainWrite row node (signedOf 16 (leNat bs))).1)) ∧
  (∀ (row node : Nat) (v : Int) (s : State), v = -32768 ∨ (-1200 ≤ v ∧ v ≤ 120) →
    ((s.row row).pending.isSome = true ∨ s.now < (s.row row).copyUntil → s.gainWrite row node v = (Status.busy, s)) ∧
    ((s.row row).pending = none → (s.row row).copyUntil ≤ s.now → ∃ t : State, s.gainWrite row node v = (Status.ok, t) ∧ t.gainRead row node = v ∧ t.activeBank row = s.activeBank row ∧
      (∀ k, k ≠ node → t.gainRead row k = s.gainRead row k) ∧ t = { s with audio := t.audio })) ∧
  (∀ (req : Requester) (row : Nat) (bs : List Byte) (f : Found) (s : State), row < 128 → bs.length = 128 → lookup s.part (0x6900 + row) 0x45 = some f →
    s.rightsOk req f true .active = true →
    ((∀ o, o < 64 → signedOf 16 (field bs (2 * o) 2) = -32768 ∨ (-1200 ≤ signedOf 16 (field bs (2 * o) 2) ∧ signedOf 16 (field bs (2 * o) 2) ≤ 120)) →
      s.checkWrite req (0x6900 + row) 0x45 bs = Status.ok) ∧
    (∀ o, o < 64 → signedOf 16 (field bs (2 * o) 2) ≠ -32768 → signedOf 16 (field bs (2 * o) 2) < -1200 ∨ 120 < signedOf 16 (field bs (2 * o) 2) →
      s.checkWrite req (0x6900 + row) 0x45 bs = Status.range)) ∧
  (∀ (x : Rat) (v : Int), -1200 ≤ v → v ≤ 120 → ∃ c : Nat, scaleBy x v = x * c / 2 ^ 22 ∧
    (0 ≤ v → (2 * c - 1) ^ 200 ≤ 2 ^ 4600 * 10 ^ v.toNat ∧ 2 ^ 4600 * 10 ^ v.toNat < (2 * c + 1) ^ 200) ∧
    (v ≤ 0 → (2 * c - 1) ^ 200 * 10 ^ v.natAbs ≤ 2 ^ 4600 ∧ 2 ^ 4600 < (2 * c + 1) ^ 200 * 10 ^ v.natAbs))

/-- Haptic channels (R486, R488, R492, R494 to R499, R501, R502, R504 to R506, R508, R526). PLAY and STOP are taken when the PLAY before has reached onset or ended; a PLAY
ends RANGE, BUSY or HW_FAULT without playing, or is placed 12 microseconds or more after it is taken, at its start time or within 20 microseconds. An
onset falls within 8 microseconds of a pin's edge, 4 of a reflex and 0.1 of a start time, begins the overdrive or the first segment at the
descriptor's phase, counts and is stamped. A trigger starts an idle channel, cuts a running effect unless outranked, is held in READY_WAIT and
dropped in LIMITED and FAULT; one with nothing to act on changes nothing. Stages follow one another; braking ends at its stop or its limit, and the
end of drive is announced 12 to 14 microseconds later. A trip cuts the drive and is latched with its reason until it is cleared; the on-time limit cuts
the effect alone; the energy window sets and clears LIMITED. The resonance moves by at most its step within its bounds. -/
def Obligations.HapticEffects : Prop :=
  (∀ (e : Entry) (op ef sc st : Nat) (z : Bool) (s : State), ((s.hap (s.sq e.inst e.q).target).play.isSome = true →
      exec (.play e op ef sc st z) s = .next s ∧ exec (.stop e z) s = .next s) ∧
    ((s.hap (s.sq e.inst e.q).target).play = none → s.canFetch e 6 = false →
      exec (.play e op ef sc st z) s = .next (s.fetchFails e 6) ∧ exec (.stop e z) s = .next (s.fetchFails e 6))) ∧
  (∀ (e : Entry) (op ef sc st c : Nat) (z : Bool) (s : State), s.canFetch e 6 = true → c = (s.sq e.inst e.q).target → (s.hap c).play = none →
    (op ≠ 1 ∨ 1 < e.flags ∨ z = false ∨ 255 < ef ∨ 1000 < sc → exec (.play e op ef sc st z) s = .next ((s.fetched e).stopQueue e.inst e.q Status.range)) ∧
    (op = 1 → e.flags ≤ 1 → z = true → ef ≤ 255 → sc ≤ 1000 →
      (s.effectBytes ef = [] → exec (.play e op ef sc st z) s = .next ((s.fetched e).endEntry e.inst e.q e.tag (bit e.flags 0) Status.range)) ∧
      (s.effectBytes ef ≠ [] → s.hapState c = 5 → exec (.play e op ef sc st z) s = .next ((s.fetched e).endEntry e.inst e.q e.tag (bit e.flags 0) Status.busy)) ∧
      (s.effectBytes ef ≠ [] → s.hapState c = 6 → exec (.play e op ef sc st z) s = .next ((s.fetched e).endEntry e.inst e.q e.tag (bit e.flags 0) Status.hwFault)) ∧
      (s.effectBytes ef ≠ [] → s.hapState c ≠ 5 → s.hapState c ≠ 6 → ∃ (t : State) (p : HapticPlay), exec (.play e op ef sc st z) s = .next t ∧ (t.hap c).play = some p ∧ p.effect = ef ∧
        p.scale = sc ∧ p.inst = e.inst ∧ p.q = e.q ∧ p.tag = e.tag ∧ p.completion = bit e.flags 0 ∧ p.startTime = st ∧ p.placed = !s.boardHolds c ∧
        t = { s with free := t.free, insts := t.insts, haptics := t.haptics } ∧
        (s.boardHolds c = false → (p.late = true ↔ st ≠ 0 ∧ st < s.now) ∧ s.now + 12000 ≤ p.dueAt ∧ (st = 0 ∨ st < s.now → p.dueAt ≤ s.now + 20000) ∧
          (s.now + 12000 ≤ st → p.dueAt = st) ∧ p.dueAt ∈ (t.hap c).edges)))) ∧
  (∀ (e : Entry) (c : Nat) (z : Bool) (s : State), s.canFetch e 6 = true → c = (s.sq e.inst e.q).target → (s.hap c).play = none →
    (1 < e.flags ∨ z = false → exec (.stop e z) s = .next ((s.fetched e).stopQueue e.inst e.q Status.range)) ∧
    (e.flags ≤ 1 → z = true → ((s.hap c).running = none → exec (.stop e z) s = .next ((s.fetched e).endEntry e.inst e.q e.tag (bit e.flags 0) Status.ok)) ∧
      (∀ r, (s.hap c).running = some r → r.play = none ∨ r.stage = .braking → exec (.stop e z) s = .next ((s.fetched e).endEntry e.inst e.q e.tag (bit e.flags 0) Status.ok)) ∧
      (∀ r p, (s.hap c).running = some r → r.play = some p → r.stage ≠ .braking → ∃ t : State, (t.hap c).running = some { r with play := none } ∧ t = { s with insts := t.insts, haptics := t.haptics } ∧
        exec (.stop e z) s = .next (((t.endPlay p Status.aborted).brakeNow c).endEntry e.inst e.q e.tag (bit e.flags 0) Status.ok)))) ∧
  (∀ (c : Nat) (s : State), (s.hap c).play = none → exec (.playStartTime c) s = .next s) ∧
  (∀ (c : Nat) (p : HapticPlay) (s t : State), (s.hap c).play = some p → t = (s.arriveAt p.dueAt).modHap c (fun h => { h with play := none }) →
    (p.placed = false ∨ s.isShed p.inst = true → exec (.playStartTime c) s = .next s) ∧
    (p.placed = true → s.isShed p.inst = false → s.hapState c = 5 → exec (.playStartTime c) s = .next (t.endPlay p Status.busy)) ∧
    (p.placed = true → s.isShed p.inst = false → s.hapState c = 0 ∨ s.hapState c = 6 → exec (.playStartTime c) s = .next (t.endPlay p Status.hwFault)) ∧
    (p.placed = true → s.isShed p.inst = false → s.hapState c = 1 → exec (.playStartTime c) s = .next (s.arriveAt p.dueAt)) ∧
    (p.placed = true → s.isShed p.inst = false → s.hapState c ∉ [0, 1, 5, 6] → (s.hap c).running = none →
      exec (.playStartTime c) s = .next ((s.arriveAt p.dueAt).startWaiting c false)) ∧
    (p.placed = true → s.isShed p.inst = false → s.hapState c ∉ [0, 1, 5, 6] → ∀ r, (s.hap c).running = some r →
      (r.stage ≠ .braking ∨ r.stageEnd - max s.now p.dueAt ≤ us (s.hapCfg c 0xF) → exec (.playStartTime c) s = .next (s.arriveAt p.dueAt)) ∧
      (r.stage = .braking → us (s.hapCfg c 0xF) < r.stageEnd - max s.now p.dueAt →
        exec (.playStartTime c) s = .next (((s.arriveAt p.dueAt).effectOver c Status.aborted).startWaiting c true)))) ∧
  (∀ (c : Nat) (scaled : Bool) (p : HapticPlay) (s t : State), (s.hap c).play = some p → t = s.modHap c (fun h => { h with play := none }) →
    (p.placed = false ∨ s.now < p.dueAt ∨ s.isShed p.inst = true → s.startWaiting c scaled = s) ∧
    (p.placed = true → p.dueAt ≤ s.now → s.isShed p.inst = false → s.effectBytes p.effect = [] → s.startWaiting c scaled = t.endPlay p Status.range) ∧
    (p.placed = true → p.dueAt ≤ s.now → s.isShed p.inst = false → s.effectBytes p.effect ≠ [] →
      s.startWaiting c scaled = t.onset c { effect := p.effect, scale := p.scale, source := .software, origin := 0 } scaled (some p))) ∧
  (∀ (c : Nat) (tr : HapticTrigger) (scaled : Bool) (p : Option HapticPlay) (d : List Byte) (s t : State), d = s.effectBytes tr.effect → t = s.onset c tr scaled p →
    ∃ at0, (tr.source = .pin → s.now ≤ at0 ∧ at0 ≤ s.now + us 8) ∧ (tr.source = .reflex → s.now ≤ at0 ∧ at0 ≤ s.now + us 4) ∧
      (tr.source = .software → s.now ≤ at0 + 100 ∧ at0 ≤ s.now + 100) ∧
    t.hapState c = 3 ∧ (∃ r, (t.hap c).running = some r ∧ r.trigger = tr ∧ r.descriptor = d ∧ r.onset = at0 ∧ r.phaseAt = at0 ∧ r.play = p ∧
      (scaled = false → r.level = field d 4 2 ∧ r.phase = field d 0xC 2 * (phaseCycle / 360)) ∧
      (field d 6 2 = 0 → r.stage = .segment 0 ∧ r.stageEnd = at0 + segmentNs d 0) ∧ (field d 6 2 ≠ 0 → r.stage = .overdrive ∧ r.stageEnd = at0 + us (field d 6 2))) ∧
    t.reg (0x6400 + c) 0x1E = satAdd (entryBits (0x6400 + c) 0x1E) (s.reg (0x6400 + c) 0x1E) 1 ∧ t.reg (0x6400 + c) 0x21 = at0 ∧ t.reg (0x6400 + c) 0x1D = 0 ∧
    t.reg (0x6500 + tr.effect) 3 = satAdd (entryBits (0x6500 + tr.effect) 3) (s.reg (0x6500 + tr.effect) 3) 1 ∧ at0 ∈ (t.hap c).edges ∧
    t.onsets.map (fun o => (o.channel, o.effect, o.time)) = s.onsets.map (fun o => (o.channel, o.effect, o.time)) ++ [(c, tr.effect, at0)]) ∧
  (∀ (c : Nat) (tr : HapticTrigger) (s : State), (2 ≤ s.powerState → s.hapTrigger c tr = s) ∧
    (s.powerState < 2 → s.hapState c = 0 ∨ 5 ≤ s.hapState c ∨ s.effectBytes tr.effect = [] → s.hapTrigger c tr = s.reflexDropped c tr 1) ∧
    (s.powerState < 2 → s.hapState c = 1 → s.effectBytes tr.effect ≠ [] → ((s.hapTrigger c tr).hap c).held = some tr ∧ (s.hapTrigger c tr).hapState c = 1) ∧
    (s.powerState < 2 → 2 ≤ s.hapState c → s.hapState c ≤ 4 → s.effectBytes tr.effect ≠ [] → ((s.hap c).running = none → s.hapTrigger c tr = s.onset c tr false none) ∧
      (∀ r, (s.hap c).running = some r →
        (outranked tr r s.now = true → s.hapTrigger c tr = s.reflexDropped c tr 2) ∧
        (outranked tr r s.now = false → s.hapTrigger c tr = ((if r.triggered ≠ s.now then s else if r.trigger.source = .software then s.inc (0x6400 + c) 0x20
          else s.reflexDropped c r.trigger 2).effectOver c Status.aborted).onset c tr true none)))) ∧
  (∀ (pin : Nat) (up : Bool) (s : State), s.serving = false ∨ 2 * s.dies ≤ pin ∨ s.shellUp (hapDie pin) = false ∨ s.hapServed pin = false ∨ s.cfg (0x6400 + pin) 0x14 = 0 ∨ (up = true ∧ s.cfg (0x6400 + pin) 0x14 = 2) ∨ (up = false ∧ s.cfg (0x6400 + pin) 0x14 = 1) ∨
    (∃ l, (s.hap pin).lastEdge = some l ∧ s.now < l + us (s.cfg (0x6400 + pin) 0x17)) → exec (.htrigEdge pin up) s = .next s) ∧
  (∀ (pin c ef w : Nat) (up : Bool) (s t : State), s.serving = true → pin < 2 * s.dies → s.shellUp (hapDie pin) = true → s.hapServed pin = true → s.cfg (0x6400 + pin) 0x14 = 3 ∨ s.cfg (0x6400 + pin) 0x14 = (if up then 1 else 2) →
    (∀ l, (s.hap pin).lastEdge = some l → l + us (s.cfg (0x6400 + pin) 0x17) ≤ s.now) → c = s.cfg (0x6400 + pin) 0x15 → ef = s.cfg (0x6400 + pin) 0x16 →
    w = s.cfg (0x6600 + hapDie pin) (0x41 + pin % 2) → t = (s.modHap pin (fun h => { h with lastEdge := some s.now })).hapTrigger c { effect := ef, scale := 1000, source := .pin, origin := 512 + pin } →
    ∃ (u : State) (again : Bool), exec (.htrigEdge pin up) s = .next (u.event (s.hapticHolder pin) 0x48 (512 + pin) Status.ok (hapDie pin) (if up then 1 else 2)
        (c + 256 * ef + 65536 * ofBool (decide (s.hapState c = 0 ∨ 5 ≤ s.hapState c ∨ s.effectBytes ef = [] ∨
          (s.hapState c ≠ 1 ∧ ∃ r, (s.hap c).running = some r ∧ outranked { effect := ef, scale := 1000, source := .pin, origin := 512 + pin } r s.now = true))))) ∧
      (again = true → ∃ l, (s.hap pin).lastEdge = some l ∧ s.now < l + 1500) ∧
      u = { t with free := u.free, live := u.live, reflex := u.reflex } ∧ u.reflex.haptics = s.reflex.haptics ∧
      u.reflex.sprites = (if again then s.reflex.sprites.filter (fun p => decide (p.2.2 ≠ 512 + pin)) else s.reflex.sprites) ++
        (if bits w 33 31 = 0 then [] else [(bits w 30 24, bits w 33 31, 512 + pin)]) ∧
      u.reflex.tones = (if again ∧ bit w 37 = true then s.reflex.tones.erase (bits w 40 38) else s.reflex.tones) ++ (if bit w 37 then [bits w 40 38] else []) ∧
      (again = false → u.reg (0x6600 + hapDie pin) 0x43 = satAdd (entryBits (0x6600 + hapDie pin) 0x43) (t.reg (0x6600 + hapDie pin) 0x43) 1) ∧
      (again = true → u.reg (0x6600 + hapDie pin) 0x45 = satAdd (entryBits (0x6600 + hapDie pin) 0x45) (t.reg (0x6600 + hapDie pin) 0x45) 1)) ∧
  (∀ (c : Nat) (s : State), s.reflex.haptics.find? (fun r => r.1 = c) = none → exec (.reflexTrigger c) s = .next s) ∧
  (∀ (c : Nat) (r : Nat × HapticTrigger) (s : State), s.reflex.haptics.find? (fun r => r.1 = c) = some r → ∃ t : State, exec (.reflexTrigger c) s = .next (t.hapTrigger c r.2) ∧
    t.reflex.haptics = s.reflex.haptics.erase r ∧ t.reflex.sprites = s.reflex.sprites ∧ t.reflex.tones = s.reflex.tones ∧ t = { s with reflex := t.reflex }) ∧
  (∀ (c : Nat) (s : State), (s.hap c).ready = none ∨ s.hapState c ≠ 1 → exec (.ampReadyExpiry c) s = .next s) ∧
  (∀ (c d : Nat) (s t : State), (s.hap c).ready = some d → s.hapState c = 1 →
    t = ((s.arriveAt d).modHap c (fun h => { h with ready := none, held := none })).setHapState c (if (s.hap c).limited then 5 else 2) →
    ((s.hap c).limited = true → (s.hap c).held = none → exec (.ampReadyExpiry c) s = .next (t.busyWaiting c)) ∧
    (∀ tr, (s.hap c).limited = true → (s.hap c).held = some tr → exec (.ampReadyExpiry c) s = .next ((t.reflexDropped c tr 1).busyWaiting c)) ∧
    ((s.hap c).limited = false → (s.hap c).held = none → exec (.ampReadyExpiry c) s = .next (t.startWaiting c false)) ∧
    (∀ tr, (s.hap c).limited = false → (s.hap c).held = some tr → s.effectBytes tr.effect = [] → exec (.ampReadyExpiry c) s = .next (t.reflexDropped c tr 1)) ∧
    (∀ tr, (s.hap c).limited = false → (s.hap c).held = some tr → s.effectBytes tr.effect ≠ [] → exec (.ampReadyExpiry c) s = .next (t.onset c tr false none))) ∧
  (∀ (c : Nat) (s : State), (s.hap c).running = none → exec (.segmentEnd c) s = .next s ∧ exec (.brakeTimeout c) s = .next s ∧ (∀ x, exec (.resonanceTrack c x) s = .next s) ∧ exec (.onTimeLimit c) s = .next s) ∧
  (∀ (c n : Nat) (r : HapticEffect) (s : State), (s.hap c).running = some r → (r.stage = .overdrive ∧ n = 0) ∨ (∃ k, r.stage = .segment k ∧ n = k + 1) →
    ∃ x : HapticEffect, x = { r with phase := (s.arriveAt r.stageEnd).phaseNow c r, phaseAt := max s.now r.stageEnd, fullDrive := x.fullDrive } ∧ (r.fullDrive = true → x.fullDrive = true) ∧
    (n < field r.descriptor 1 1 → ∃ t : State, exec (.segmentEnd c) s = .next t ∧ (t.hap c).running = some { x with stage := .segment n, stageEnd := r.stageEnd + segmentNs r.descriptor n } ∧
      r.stageEnd + segmentNs r.descriptor n ∈ (t.hap c).edges ∧ t = { s.arriveAt r.stageEnd with haptics := t.haptics }) ∧
    (field r.descriptor 1 1 ≤ n → exec (.segmentEnd c) s = .next (((s.arriveAt r.stageEnd).modHap c (fun h => { h with running := some x })).bodyEnds c x))) ∧
  (∀ (c : Nat) (r : HapticEffect) (s : State), s.phaseNow c r = (r.phase + 360 * s.carrierQ16 c r.descriptor r.stage * codesBetween r.phaseAt s.now) % phaseCycle) ∧
  (∀ (c : Nat) (r : HapticEffect) (s : State), (s.hap c).running = some r → (r.stage = .braking → exec (.segmentEnd c) s = .next s ∧ exec (.brakeTimeout c) s = .next ((s.arriveAt r.stageEnd).brakingEnds c)) ∧
    (r.stage ≠ .braking → exec (.brakeTimeout c) s = .next s)) ∧
  (∀ (c : Nat) (r : HapticEffect) (s : State), (brakes r.descriptor = false → ∃ u : State, s.bodyEnds c r = u.effectEnds c Status.ok ∧ s.now ∈ (u.hap c).edges ∧ u = { s with haptics := u.haptics }) ∧
    (∀ v, brakes r.descriptor = true → v = ((s.modHap c (fun h => { h with running := some { r with stage := .braking, stageEnd := s.now + us (field r.descriptor 8 2), brakeStart := s.now } })).setHapState c 4).announce c s.now →
      ((∀ p, (s.hap c).play = some p → p.placed = false ∨ s.now < p.dueAt ∨ s.isShed p.inst = true ∨ us (field r.descriptor 8 2) ≤ us (s.hapCfg c 0xF)) → s.bodyEnds c r = v) ∧
      (∀ p, (s.hap c).play = some p → p.placed = true → p.dueAt ≤ s.now → s.isShed p.inst = false → us (s.hapCfg c 0xF) < us (field r.descriptor 8 2) →
        s.bodyEnds c r = (v.effectOver c Status.aborted).startWaiting c true))) ∧
  (∀ (c : Nat) (s : State), ∃ (u : State) (x : Nat), s.brakingEnds c = u.effectEnds c Status.ok ∧ x ∈ (u.hap c).edges ∧ s.now + 12000 ≤ x ∧ x ≤ s.now + 14000 ∧
    u = { s with free := u.free, haptics := u.haptics }) ∧
  (∀ (c st : Nat) (s : State), (s.hap c).play = none → ((s.effectEnds c st).hap c).running = none ∧ (s.effectEnds c st).hapState c = (if (s.hap c).limited then 5 else 2)) ∧
  (∀ (b : Nat) (l : List Int) (s : State), (s.serving = false → exec (.senseFrame b l) s = .next s) ∧
    (s.serving = true → exec (.senseFrame b l) s = .next (s.each ((List.range 4).filter (fun m => decide (4 * b + m < 2 * s.dies ∧ s.hapState (4 * b + m) ≠ 0)))
      (fun t m => t.senseChannel (4 * b + m) (l.getD (2 * m) 0) (l.getD (2 * m + 1) 0))))) ∧
  (∀ (c : Nat) (v i : Int) (s : State), ∃ u : State, (u.hap c).voltage = v ∧ (u.hap c).lastV = some v ∧ (u.hap c).block = (s.hap c).block + (v * i).natAbs ∧
    (u.hap c).senseRun = (if 99 * 8388607 ≤ 100 * v.natAbs ∧ 3277 < s.stageCode c then (s.hap c).senseRun + 1 else 0) ∧ u.hapState c = s.hapState c ∧
    u = { s with free := u.free, live := u.live, haptics := u.haptics } ∧ s.senseChannel c v i = (if s.hapCfg c 4 * 8388607 < v.natAbs * s.hapCfg c 7 then u.hapTrip c 1
      else if 192 ≤ (u.hap c).senseRun then u.hapTrip c 2 else if s.hapState c = 4 ∧ u.motional c < s.hapCfg c 0xE * senseDen then u.brakingEnds c else u)) ∧
  (∀ (c : Nat) (x : Int) (r : HapticEffect) (s : State), (s.hap c).running = some r → (s.hapCfg c 0xD = 0 → exec (.resonanceTrack c x) s = .next s) ∧
    (s.hapCfg c 0xD ≠ 0 → s.hapCfg c 0xB ≤ s.hapCfg c 0xC → ∃ (t : State) (v : Int), exec (.resonanceTrack c x) s = .next t ∧ t.regI (0x6400 + c) 0x1B = v ∧ t = { s with live := t.live, haptics := t.haptics } ∧
      SameLiveBut s t [entryKey (0x6400 + c) 0x1B] ∧ 65536 * (s.hapCfg c 0xB : Int) ≤ v ∧ v ≤ 65536 * s.hapCfg c 0xC ∧
      (65536 * (s.hapCfg c 0xB : Int) ≤ s.regI (0x6400 + c) 0x1B → s.regI (0x6400 + c) 0x1B ≤ 65536 * s.hapCfg c 0xC →
        s.regI (0x6400 + c) 0x1B - 65536 * s.hapCfg c 0xD ≤ v ∧ v ≤ s.regI (0x6400 + c) 0x1B + 65536 * s.hapCfg c 0xD) ∧
      (65536 * (s.hapCfg c 0xB : Int) ≤ x → x ≤ 65536 * s.hapCfg c 0xC → s.regI (0x6400 + c) 0x1B - 65536 * s.hapCfg c 0xD ≤ x →
        x ≤ s.regI (0x6400 + c) 0x1B + 65536 * s.hapCfg c 0xD → v = x))) ∧
  (∀ (c : Nat) (s : State), exec (.ampFault c) s = .next ((s.modHap c (fun h => { h with ampLow := true })).hapTrip c 3) ∧ ((s.hap c).hen = true → exec (.engineLost c) s = .next (s.hapTrip c 4)) ∧
    ((s.hap c).hen = false → exec (.engineLost c) s = .next s)) ∧
  (∀ (c r : Nat) (s : State), (s.hapState c = 6 ∨ s.hapState c = 0 → s.hapTrip c r = s) ∧
    (s.hapState c ≠ 6 → s.hapState c ≠ 0 → (s.hapTrip c r).hapState c = 6 ∧ (s.hapTrip c r).reg (0x6400 + c) 0x19 = r ∧ ((s.hapTrip c r).hap c).running = none ∧
      ((s.hapTrip c r).hap c).hen = false ∧ ((s.hapTrip c r).hap c).held = none ∧ ((s.hapTrip c r).hap c).play = none ∧ s.now ∈ ((s.hapTrip c r).hap c).edges)) ∧
  (∀ (c : Nat) (r : HapticEffect) (s : State), (s.hap c).running = some r → ∃ (u : State) (w : Nat), exec (.onTimeLimit c) s =
      .next ((u.event (s.hapticHolder c) 0x42 c Status.ok (hapDie c) 1 w).effectEnds c Status.aborted) ∧ u.now = max s.now (r.onset + ms (s.hapCfg c 5)) ∧
    u.reg (0x6400 + c) 0x1F = satAdd (entryBits (0x6400 + c) 0x1F) (s.reg (0x6400 + c) 0x1F) 1 ∧ w = s.reg (0x6400 + c) 0x1C + r.trigger.effect * 2 ^ 32 ∧
    u = { s with now := u.now, clock := u.clock, live := u.live, haptics := u.haptics }) ∧
  (∀ (c : Nat) (s : State), s.hapState c = 0 → (s.hap c).window = [] → exec (.energyBlock c) s = .next s) ∧
  (∀ (c sum lim : Nat) (w : List Nat) (s : State), s.hapState c ≠ 0 ∨ (s.hap c).window ≠ [] → w = ((s.hap c).window ++ [(s.hap c).block]).drop ((s.hap c).window.length + 1 - 1000) →
    sum = w.sum * (s.hapCfg c 7 * s.hapCfg c 8) → lim = s.hapCfg c 6 * (senseDen * senseDen * 96000) →
    ((s.hap c).limited = false → sum ≤ lim → ∃ t : State, exec (.energyBlock c) s = .next t ∧ (t.hap c).window = w ∧ (t.hap c).block = 0 ∧ (t.hap c).limited = false ∧ (t.hap c).running = (s.hap c).running ∧
      t.hapState c = s.hapState c ∧ t.now = max s.now ((s.hap c).blockAt + ms 1) ∧ t = { s with now := t.now, clock := t.clock, free := t.free, live := t.live, sapflow := t.sapflow, haptics := t.haptics }) ∧
    ((s.hap c).limited = false → lim < sum → ∃ t : State, exec (.energyBlock c) s = .next t ∧ (t.hap c).limited = true ∧ (t.hap c).running = none ∧
      (2 ≤ s.hapState c → s.hapState c ≤ 4 → t.hapState c = 5)) ∧
    ((s.hap c).limited = true → 3 * lim < 4 * sum → ∃ t : State, exec (.energyBlock c) s = .next t ∧ (t.hap c).limited = true ∧ t.hapState c = s.hapState c) ∧
    ((s.hap c).limited = true → 4 * sum ≤ 3 * lim → s.hapState c = 5 → (s.hap c).play = none → ∃ t : State, exec (.energyBlock c) s = .next t ∧ (t.hap c).limited = false ∧ t.hapState c = 2)) ∧
  (∀ (req : Requester) (c v : Nat) (s u : State), c < 16 → v < 256 → s.admits req (0x6400 + c) 0x1A (leBytes 1 v) = true → u = s.admitted req (0x6400 + c) 0x1A (leBytes 1 v) →
    (u.reg (0x6400 + c) 0x19 = 0 → exec (.hapticClear req c v) s = .next (u.concluded req (0x6400 + c) 0x1A (leBytes 1 v) Status.ok)) ∧
    (u.reg (0x6400 + c) 0x19 ≠ 0 → u.hapServed c = false ∨ u.senseBusUp c = false →
      exec (.hapticClear req c v) s = .next (u.useFree.concluded req (0x6400 + c) 0x1A (leBytes 1 v) Status.busy)) ∧
    (∀ w, u.reg (0x6400 + c) 0x19 ≠ 0 → u.hapServed c = true → u.senseBusUp c = true → w = (State.hapUnfault (u.modHap c (fun h => { h with ampLow := false })) c).useFree →
      ((u.hap c).ampLow = false → exec (.hapticClear req c v) s = .next (w.concluded req (0x6400 + c) 0x1A (leBytes 1 v) Status.ok)) ∧
      ((u.hap c).ampLow = true → exec (.hapticClear req c v) s = .next (w.concluded req (0x6400 + c) 0x1A (leBytes 1 v) Status.ok) ∨
        exec (.hapticClear req c v) s = .next (u.useFree.concluded req (0x6400 + c) 0x1A (leBytes 1 v) Status.busy)))) ∧
  (∀ (req : Requester) (c v : Nat) (s : State), c < 16 → v < 256 → v ≠ 1 → s.reaches req (0x6400 + c) 0x1A (leBytes 1 v) = true →
    exec (.hapticClear req c v) s = .next (s.turnedAway req (0x6400 + c) 0x1A (leBytes 1 v))) ∧
  (∀ (c : Nat) (s : State), (s.hapCfg c 1 = 1 → s.powerState ≤ 1 → (s.hapUnfault c).hapState c = 1 ∧ ((s.hapUnfault c).hap c).hen = true ∧
      ((s.hapUnfault c).hap c).ready = some (s.now + us (s.hapCfg c 0x10))) ∧
    (s.hapCfg c 1 ≠ 1 ∨ 2 ≤ s.powerState → (s.hapUnfault c).hapState c = 0) ∧ (s.hapUnfault c).reg (0x6400 + c) 0x19 = 0) ∧
  (∀ (c b : Nat) (up : Bool) (l : List Int) (x : Int) (s t : State), (∃ i ∈ [Instr.playStartTime c, .htrigEdge c up, .reflexTrigger c, .ampReadyExpiry c, .segmentEnd c, .senseFrame b l, .brakeTimeout c,
      .resonanceTrack c x, .ampFault c, .engineLost c, .onTimeLimit c, .energyBlock c], exec i s = .next t) →
    SameRings s t ∧ t.mem = s.mem ∧ t.taken = s.taken ∧ t.heads = s.heads ∧ t.gfx = s.gfx ∧ t.keys = s.keys ∧ t.audio = s.audio ∧ t.lanes = s.lanes ∧ t.fuses = s.fuses ∧ t.dir = s.dir)

/-- Field lanes and stream units (R563, R578 to R580, R584 to R586, R590, R597, R599 to R601, R603, R665). A free lane sends its next attempt or chooses the next request:
acknowledgements, group targets, queue requests in order, a fetch, the partner due first, a probe; a sent frame takes the next ALIVE value and awaits
its response until its deadline. A received frame is counted, and one discarded for a gap, its check value, its fields or its ALIVE value ends the
attempt; an answer is delivered, and a frame that no command of its kind carries changes nothing. An attempt without an answer is sent again while
attempts are left, else the transaction fails with TIMEOUT. A LANE entry that is malformed stops its queue with RANGE, one out of its target ends
DENIED_INSTANCE, one on a lane that is off ends ABORTED, and another waits on its lane. A group start is judged in the order of R585 and makes every
target PENDING; its results are counted, the last ends the group, and its timeout gives TIMEOUT. A stream entry feeds its unit's register, APPEND adds
the finalised value, CHECK compares it, and a preset loads its row and the new init. A command with nothing to act on changes nothing. Which of
several stop bits and arbitration bits a CAN FD frame takes is free (log entry 3). -/
def Obligations.LanesAndStreams : Prop :=
  (∀ (n : Nat) (s : State), s.serving = false ∨ s.laneCount ≤ n → exec (.laneSchedule n) s = .next s) ∧
  (∀ (n : Nat) (t : LaneTransaction) (s : State), s.serving = true → n < s.laneCount → (s.lane n).current = some t →
    (t.resend = false ∨ s.laneRuns n = false ∨ s.laneState n = 3 → exec (.laneSchedule n) s = .next s) ∧
    (t.resend = true → s.laneRuns n = true → s.laneState n ≠ 3 → exec (.laneSchedule n) s = .next ((s.arriveAt (s.lane n).freeAt).laneSend n t.partner t.request t.left))) ∧
  (∀ (n : Nat) (s u : State), s.serving = true → n < s.laneCount → (s.lane n).current = none → u = (if s.laneChanged n then s.laneUptake n else s) →
    (u.laneRuns n = false ∨ u.laneState n = 3 ∨ (u.lane n).stopped = true → exec (.laneSchedule n) s = .next u) ∧
    (u.laneRuns n = true → u.laneState n ≠ 3 → (u.lane n).stopped = false → exec (.laneSchedule n) s = .next ((u.arriveAt (u.lane n).freeAt).laneChoose n))) ∧
  (∀ (n p : Nat) (s : State), (∀ q rest, (s.lane n).acks = (p, q) :: rest → ∃ t : State, s.laneChoose n = t.laneSend n p (.eventAck q) 0 ∧ (t.lane n).acks = rest ∧ t = { s with lanes := t.lanes }) ∧
    (∀ g rest, (s.lane n).acks = [] → (s.lane n).groups = (g, p) :: rest → s.partnerState p = 2 →
      ∃ t : State, s.laneChoose n = t.laneCommandTo n p (s.reg (0x7900 + g) 2) (s.regBytes (0x7900 + g) 3) (.group g) ∧ (t.lane n).groups = rest ∧ t = { s with lanes := t.lanes }) ∧
    (∀ r rest, (s.lane n).acks = [] → (s.lane n).groups = [] → (s.lane n).queue = (p, r) :: rest → s.heldBack r = false → s.partnerState p = 2 → ∃ t : State, (t.lane n).queue = rest ∧ t = { s with lanes := t.lanes } ∧
      s.laneChoose n = (match r with
        | .command _ o v orig => t.laneCommandTo n p o v orig
        | _ => t.laneBegin n p r)) ∧
    (∀ r rest, s.heldBack r = false → s.partnerState p ≠ 2 → s.laneTakeQueue n ((p, r) :: rest) = (s.endLaneEntry r.origin Status.aborted).laneTakeQueue n rest) ∧
    (∀ r rest, s.heldBack r = true → (s.laneTakeQueue n ((p, r) :: rest)).1 = (s.laneTakeQueue n rest).1 ∧
      ((s.laneTakeQueue n ((p, r) :: rest)).2.lane n).queue = (p, r) :: ((s.laneTakeQueue n rest).2.lane n).queue) ∧
    (∀ r : LaneRequest, s.heldBack r = true ↔ ∃ i q tag k b, r.origin = .entry i q tag k b ∧ s.isShed i = true)) ∧
  (∀ (n p : Nat) (s : State), s.duePartner n = some p → p ∈ partnersOf n ∧ s.pollPeriod p ≠ 0 ∧ (s.partner p).nextDue ≤ s.now ∧
    ∀ q ∈ partnersOf n, s.pollPeriod q ≠ 0 → (s.partner q).nextDue ≤ s.now → (s.partner p).nextDue < (s.partner q).nextDue ∨ ((s.partner p).nextDue = (s.partner q).nextDue ∧ p ≤ q)) ∧
  (∀ (n p m : Nat) (s : State), s.pollPeriod p ≠ 0 → (s.partner p).nextDue ≤ s.now → m = (s.now - (s.partner p).nextDue) / us (s.pollPeriod p) → ∃ t : State, s.pollPartner n p = t.laneBegin n p .poll ∧
    s.now < (t.partner p).nextDue ∧ (t.partner p).nextDue ≤ s.now + us (s.pollPeriod p) ∧ t.reg (0x7000 + n) 0xF = satAdd (entryBits (0x7000 + n) 0xF) (s.reg (0x7000 + n) 0xF) m ∧
    t = { s with live := t.live, lanes := t.lanes }) ∧
  (∀ (n p l : Nat) (r : LaneRequest) (s : State), r.type ≠ 6 → ∃ (c : LaneTransaction) (f : Nat × List Byte), ((s.laneSend n p r l).lane n).current = some c ∧ c.partner = p ∧ c.request = r ∧ c.left = l ∧ c.started = s.now ∧
    c.resend = false ∧ s.now + s.laneTimeout p ≤ c.deadline ∧ f = encodeFrame (s.laneMode n) 0 (p % 32) r.type (s.partner p).txAlive (s.requestPayload p r) ∧
    (∃ d, d.lane = n ∧ d.identifier = f.1 ∧ d.data = f.2 ∧ (s.laneSend n p r l).lanes.sent = s.lanes.sent ++ [d]) ∧ ((s.laneSend n p r l).partner p).txAlive = ((s.partner p).txAlive + 1) % 16 ∧
    (s.laneSend n p r l).reg (0x7000 + n) 0xB = satAdd (entryBits (0x7000 + n) 0xB) (s.reg (0x7000 + n) 0xB) 1) ∧
  (∀ (n : Nat) (x : LaneFrame) (s : State), exec (.descriptor n x) s = .next (s.laneReceive n 9 x) ∧ exec (.response n x) s = .next (s.laneReceive n 10 x) ∧ exec (.ack n x) s = .next (s.laneReceive n 11 x) ∧
    exec (.data n x) s = .next (s.laneReceive n 12 x) ∧ exec (.event n x) s = .next (s.laneReceive n 13 x) ∧ exec (.nak n x) s = .next (s.laneReceive n 14 x)) ∧
  (∀ (n want : Nat) (x : LaneFrame) (f : LaneRx) (s : State), f = decodeFrame (s.laneMode n) x →
    (s.laneRuns n = false ∨ s.laneState n = 3 ∨ (s.laneMode n = 2 ∧ (bit x.identifier 5 = true ∨ 2048 ≤ x.identifier)) → s.laneReceive n want x = s) ∧
    (f.crcOk = true → f.broken = false → f.dir = 1 → f.type ≠ want → s.laneReceive n want x = s) ∧
    (s.laneRuns n = true → s.laneState n ≠ 3 → (s.laneMode n = 2 → bit x.identifier 5 = false ∧ x.identifier < 2048) → (f.crcOk = true → f.broken = false → f.dir = 1 → f.type = want) →
      (s.laneMode n = 1 → x.gapless = false → ∃ u : State, s.laneReceive n want x = u.attemptFails n false ∧ u.reg (0x7000 + n) 0xE = satAdd (entryBits (0x7000 + n) 0xE) (s.reg (0x7000 + n) 0xE) 1 ∧
        (u.lane n).freeAt = s.now + s.laneGap n) ∧
      (s.laneMode n ≠ 1 ∨ x.gapless = true → f.crcOk = false → ∃ u : State, s.laneReceive n want x = u.attemptFails n false ∧ u.reg (0x7A00 + n) 7 = satAdd (entryBits (0x7A00 + n) 7) (s.reg (0x7A00 + n) 7) 1 ∧
        u.reg (0x7A00 + n) 6 = f.running ∧ u.reg (0x7A00 + n) 8 = satAdd (entryBits (0x7A00 + n) 8) (s.reg (0x7A00 + n) 8) 1 ∧ u.reg (0x7A00 + n) 0xD = s.now) ∧
      (s.laneMode n ≠ 1 ∨ x.gapless = true → f.crcOk = true → ∃ u : State, s.laneReceive n want x = u.judgeFrame n f x.rtt x.shift ∧ u.reg (0x7A00 + n) 7 = satAdd (entryBits (0x7A00 + n) 7) (s.reg (0x7A00 + n) 7) 1 ∧
        u.reg (0x7A00 + n) 6 = f.running ∧ (u.lane n).freeAt = s.now + s.laneGap n))) ∧
  (∀ (n p rtt : Nat) (sh : Int) (t : LaneTransaction) (f : LaneRx) (s : State), (f.dir = 0 ∨ f.broken = true ∨ s.payloadFits (32 * n + f.node) f = false →
      s.judgeFrame n f rtt sh = s.attemptFails n false) ∧
    (p = 32 * n + f.node → (∀ c, (s.lane n).current = some c → c.resend = true ∨ c.partner ≠ p ∨ answers c.request f = false) →
      f.type ≠ 13 ∨ s.laneMode n ≠ 2 ∨ s.partnerState p ≠ 2 ∨ s.descFlag p 2 = false → s.judgeFrame n f rtt sh = s.attemptFails n false) ∧
    (p = 32 * n + f.node → (s.lane n).current = some t → t.resend = false → t.partner = p → answers t.request f = true → f.dir ≠ 0 → f.broken = false → s.payloadFits p f = true →
      (s.judgeAlive p f false = .accept → s.judgeFrame n f rtt sh =
        (((((s.acceptFrame n p f).trimNode n f.node sh).measureCable n p rtt).laneSpan n t.started (s.lane n).freeAt).deliverAnswer n t f)) ∧
      (s.judgeAlive p f false = .repeats → s.judgeFrame n f rtt sh = (s.aliveError n p f true).attemptFails n true) ∧
      (s.judgeAlive p f false = .skip → s.judgeFrame n f rtt sh = (s.aliveError n p f false).attemptFails n true)) ∧
    (p = 32 * n + f.node → (s.lane n).current = none → f.type = 13 → s.laneMode n = 2 → s.partnerState p = 2 → s.descFlag p 2 = true → f.dir ≠ 0 → f.broken = false →
      s.payloadFits p f = true →
      (s.judgeAlive p f true = .accept → s.judgeFrame n f rtt sh = ((s.acceptFrame n p f).trimNode n f.node sh).uplink n p f.payload) ∧
      (s.judgeAlive p f true = .repeats → s.judgeFrame n f rtt sh = s.aliveError n p f true))) ∧
  (∀ (n node : Nat) (sh : Int) (s : State), s.use 0x2600 7 ≠ 1 ∨ sh.natAbs ≤ 12500 → s.trimNode n node sh = s) ∧
  (∀ (n p : Nat) (f : LaneRx) (s : State), ((s.acceptFrame n p f).partner p).rxAlive = some f.alive ∧ ((s.acceptFrame n p f).partner p).requests = 0 ∧ ((s.acceptFrame n p f).partner p).aliveRun = 0 ∧
    (s.acceptFrame n p f).reg (0x7100 + p) 0x13 = s.now) ∧
  (∀ (n : Nat) (t : LaneTransaction) (f : LaneRx) (s : State), f.type ≠ 14 → (t.request = .poll → ∃ u : State, s.deliverAnswer n t f = u.laneSucceeds n t.partner ∧ u.reg (0x7100 + t.partner) 0xC = field f.payload 0 1 ∧
      u.regBytes (0x7100 + t.partner) 0xB = f.payload.drop 1 ∧ (bit (field f.payload 0 1) 0 = true → s.descFlag t.partner 1 = true → (u.partner t.partner).fetch = true) ∧ u = { s with live := u.live, lanes := u.lanes }) ∧
    (∀ q o v orig, t.request = .command q o v orig → s.deliverAnswer n t f = (s.laneResult orig t.partner (if field f.payload 1 1 = 0 then Status.ok else if field f.payload 1 1 = 1 then Status.deniedAccess
      else if field f.payload 1 1 = 2 then Status.notPresent else if field f.payload 1 1 = 3 then Status.typeLength else Status.busy) (if field f.payload 1 1 = 0 then 2 else 3)).laneSucceeds n t.partner) ∧
    (∀ o orig, t.request = .read o orig → s.deliverAnswer n t f = ((s.storeResult n orig (f.payload.drop 1)).laneResult orig t.partner Status.ok 2).laneSucceeds n t.partner)) ∧
  (∀ (n : Nat) (t : LaneTransaction) (f : LaneRx) (s : State), f.type = 14 → (t.request = .poll ∨ t.request = .fetch → s.deliverAnswer n t f = s.laneFails n t) ∧
    (t.request.type = 3 ∨ t.request.type = 4 → s.deliverAnswer n t f = (s.laneResult t.request.origin t.partner (if field f.payload 0 1 = 3 then Status.typeLength else Status.notPresent) 3).laneSucceeds n t.partner)) ∧
  (∀ (n : Nat) (s : State), (s.lane n).current = none → exec (.responseTimeout n) s = .next s) ∧
  (∀ (n : Nat) (t : LaneTransaction) (s : State), (s.lane n).current = some t → (t.resend = true → exec (.responseTimeout n) s = .next s) ∧
    (t.resend = false → ∃ u : State, exec (.responseTimeout n) s = .next (u.attemptFails n false) ∧ u.now = max s.now t.deadline ∧ (u.lane n).freeAt = u.now + u.laneGap n ∧ (u.lane n).current = some t ∧
      u.reg (0x7000 + n) 0xD = satAdd (entryBits (0x7000 + n) 0xD) (s.reg (0x7000 + n) 0xD) 1 ∧ u = { s with now := u.now, clock := u.clock, live := u.live, lanes := u.lanes })) ∧
  (∀ (n : Nat) (s : State), (s.laneRuns n = false ∨ s.laneMode n ≠ 1 → exec (.echoMismatch n) s = .next s) ∧
    (s.laneRuns n = true → s.laneMode n = 1 → ∃ u : State, exec (.echoMismatch n) s = .next (u.attemptFails n false) ∧ u.reg (0x7000 + n) 0xE = satAdd (entryBits (0x7000 + n) 0xE) (s.reg (0x7000 + n) 0xE) 1 ∧
      (u.lane n).freeAt = s.now + s.laneGap n ∧ u = { s with live := u.live, lanes := u.lanes })) ∧
  (∀ (n : Nat) (a : Bool) (t : LaneTransaction) (s : State), ((s.lane n).current = none → s.attemptFails n a = s) ∧ ((s.lane n).current = some t → t.resend = true → s.attemptFails n a = s) ∧
    ((s.lane n).current = some t → t.resend = false → t.left ≠ 0 → s.partnerState t.partner ≠ 3 → ((s.attemptFails n a).lane n).current = some { t with aliveError := a, left := t.left - 1, resend := true } ∧
      s.attemptFails n a = { s with lanes := (s.attemptFails n a).lanes }) ∧
    ((s.lane n).current = some t → t.resend = false → t.left = 0 ∨ s.partnerState t.partner = 3 → s.attemptFails n a = (s.laneSpan n t.started (s.lane n).freeAt).laneFails n { t with aliveError := a })) ∧
  (∀ (n : Nat) (t : LaneTransaction) (s : State), ∃ u v : State, v = u.laneResult t.request.origin t.partner Status.timeout (if t.aliveError then 5 else 4) ∧
    u.reg (0x7100 + t.partner) 0x10 = satAdd (entryBits (0x7100 + t.partner) 0x10) (s.reg (0x7100 + t.partner) 0x10) 1 ∧ u.reg (0x7100 + t.partner) 0x11 = satAdd (entryBits (0x7100 + t.partner) 0x11) (s.reg (0x7100 + t.partner) 0x11) 1 ∧
    u = { s with live := u.live } ∧ (t.request.type ≠ 1 → s.laneFails n t = (if v.partnerState t.partner = 2 ∧ v.use (0x7100 + t.partner) 5 ≤ v.reg (0x7100 + t.partner) 0x11 then v.setPartner t.partner 3 1 else v).laneIdle n) ∧
    (t.request.type = 1 → s.laneFails n t = (if v.partnerState t.partner = 1 then v.setPartner t.partner (if (v.partner t.partner).identity.isSome then 3 else 4) 1 else v).laneIdle n)) ∧
  (∀ (p : Nat) (s : State), (s.serving = false ∨ s.partnerState p < 3 ∨ s.laneState (p / 32) = 4 → exec (.recoveryExpiry p) s = .next s) ∧
    (s.serving = true → 3 ≤ s.partnerState p → s.laneState (p / 32) ≠ 4 →
      exec (.recoveryExpiry p) s = .next ((s.arriveAt ((s.partner p).attempted + ms (s.use (0x7100 + p) 6))).setPartner p 1 0))) ∧
  (∀ (p st c : Nat) (s : State), (s.setPartner p st c).partnerState p = st ∧ (st = 1 → ((s.setPartner p st c).partner p).alive = false ∧ ((s.setPartner p st c).partner p).rxAlive = none ∧
    ((s.setPartner p st c).partner p).page = 0 ∧ ((s.setPartner p st c).partner p).fresh = true) ∧
    (3 ≤ st → ((s.setPartner p st c).partner p).attempted = s.now)) ∧
  (∀ (n st : Nat) (s : State), (s.serving = false ∨ s.laneState n ≠ 3 → exec (.laneBusOffRecovery n) s = .next s) ∧
    (s.serving = true → s.laneState n = 3 → ∃ t : State, exec (.laneBusOffRecovery n) s = .next t ∧ t.laneState n = 1) ∧
    (s.laneRuns n = false ∨ s.laneMode n ≠ 2 ∨ st = 0 ∨ 3 < st ∨ s.laneState n = 3 → exec (.laneErrorPassive n st) s = .next s) ∧
    (s.laneRuns n = true → s.laneMode n = 2 → st ≠ 0 → st ≤ 3 → s.laneState n ≠ 3 → ∃ t : State, exec (.laneErrorPassive n st) s = .next t ∧ t.laneState n = st ∧
      t.reg (0x7000 + n) 0x10 = (if st = 3 then satAdd (entryBits (0x7000 + n) 0x10) (s.reg (0x7000 + n) 0x10) 1 else s.reg (0x7000 + n) 0x10))) ∧
  (∀ (e : Entry) (op : Nat) (b : LaneEntry) (s : State), s.canFetch e 4 = false →
    exec (.laneCommand e op b) s = .next (s.fetchFails e 4) ∧ exec (.laneRead e b) s = .next (s.fetchFails e 4)) ∧
  (∀ (e : Entry) (op : Nat) (b : LaneEntry) (s : State), s.canFetch e 4 = true →
    (1 < e.flags ∨ b.object = 0 ∨ 254 < b.object ∨ 1 < b.laneFlags ∨ b.reservedZero = false ∨ op ≠ 1 ∨ b.length = 0 ∨ 40 < b.length ∨ b.resultAddr ≠ 0 ∨ allZero (b.value.drop b.length) = false →
      exec (.laneCommand e op b) s = .next ((s.fetched e).stopQueue e.inst e.q Status.range)) ∧
    (1 < e.flags ∨ b.object = 0 ∨ 254 < b.object ∨ 1 < b.laneFlags ∨ b.reservedZero = false ∨ b.length = 0 ∨ 58 < b.length → exec (.laneRead e b) s = .next ((s.fetched e).stopQueue e.inst e.q Status.range))) ∧
  (∀ (e : Entry) (b : LaneEntry) (tg : Nat) (o : LaneOrigin) (s u : State), s.canFetch e 4 = true → e.flags ≤ 1 → b.object ≠ 0 → b.object ≤ 254 → b.laneFlags ≤ 1 → b.reservedZero = true → 1 ≤ b.length → tg = (s.sq e.inst e.q).target →
    o = .entry e.inst e.q e.tag (bit e.flags 0) b → u = s.fetched e → ∀ i ∈ [Instr.laneCommand e 1 b, .laneRead e b], (i = .laneRead e b → b.length ≤ 58) → (i = .laneCommand e 1 b → b.length ≤ 40 ∧ b.resultAddr = 0 ∧ allZero (b.value.drop b.length) = true) →
    ((0x1000 ≤ tg ∧ b.partner ≠ tg - 0x1000) ∨ (tg < 0x1000 ∧ b.partner / 32 ≠ tg) → exec i s = .next (u.endEntry e.inst e.q e.tag (bit e.flags 0) Status.deniedInstance)) ∧
    ((0x1000 ≤ tg ∧ b.partner = tg - 0x1000) ∨ (tg < 0x1000 ∧ b.partner / 32 = tg) →
      (s.laneState (b.partner / 32) = 0 ∨ s.laneState (b.partner / 32) = 4 → exec i s = .next (u.endEntry e.inst e.q e.tag (bit e.flags 0) Status.aborted)) ∧
      (s.laneState (b.partner / 32) ≠ 0 → s.laneState (b.partner / 32) ≠ 4 → ∃ t : State, exec i s = .next t ∧ t = { u with lanes := t.lanes } ∧ (t.lane (b.partner / 32)).queue = (s.lane (b.partner / 32)).queue ++
        [(b.partner, if i = .laneRead e b then .read b.object o else .command 0 b.object ((b.value ++ List.replicate 40 0).take b.length) o)]))) ∧
  (∀ (req : Requester) (g v : Nat) (ts : List Nat) (s u : State), g < 16 → v < 256 → s.admits req (0x7900 + g) 4 (leBytes 1 v) = true → u = s.admitted req (0x7900 + g) 4 (leBytes 1 v) →
    ts = groupTargets (u.regBytes (0x7900 + g) 1) →
    (v = 1 → ts = [] ∨ (∃ p ∈ ts, 32 * u.laneCount ≤ p ∨ u.use (0x7100 + p) 1 = 0) ∨ (u.regBytes (0x7900 + g) 3).length = 0 ∨ 40 < (u.regBytes (0x7900 + g) 3).length →
      exec (.groupStart req g v) s = .next (u.concluded req (0x7900 + g) 4 (leBytes 1 v) Status.range)) ∧
    (v = 1 → ts ≠ [] → (∀ p ∈ ts, p < 32 * u.laneCount ∧ u.use (0x7100 + p) 1 ≠ 0) → 1 ≤ (u.regBytes (0x7900 + g) 3).length → (u.regBytes (0x7900 + g) 3).length ≤ 40 →
      (∀ k, instanceOf? req = some k → (∃ p ∈ ts, u.partnerHolder p (p / 32) ≠ k) → exec (.groupStart req g v) s = .next (u.concluded req (0x7900 + g) 4 (leBytes 1 v) Status.deniedInstance)) ∧
      ((∀ k, instanceOf? req = some k → ∀ p ∈ ts, u.partnerHolder p (p / 32) = k) →
        (u.reg (0x7900 + g) 6 = 1 → exec (.groupStart req g v) s = .next (u.concluded req (0x7900 + g) 4 (leBytes 1 v) Status.busy)) ∧
        (u.reg (0x7900 + g) 6 ≠ 1 → ∃ t : State, exec (.groupStart req g v) s = .next (t.concluded req (0x7900 + g) 4 (leBytes 1 v) Status.pending) ∧ SameRings u t) ∧
        (u.reg (0x7900 + g) 6 ≠ 1 → (∀ p ∈ ts, u.laneState (p / 32) ≠ 4 ∧ u.laneState (p / 32) ≠ 0 ∧ u.laneServed (p / 32 / 8) = true) → ∃ t : State, exec (.groupStart req g v) s = .next (t.concluded req (0x7900 + g) 4 (leBytes 1 v) Status.pending) ∧ t.reg (0x7900 + g) 6 = 1 ∧
          t.reg (0x7900 + g) 9 = 0 ∧ t.reg (0x7900 + g) 0xA = 0 ∧ t.reg (0x7900 + g) 0xB = u.now ∧ (∀ p, p < 2048 → groupResult (t.regBytes (0x7900 + g) 8) p = if p ∈ ts then 1 else 0) ∧
          (∀ n, n < u.laneCount → (t.lane n).groups = (u.lane n).groups ++ (ts.filter (fun p => p / 32 = n)).map (fun p => (g, p))) ∧ t = { u with live := t.live, lanes := t.lanes })))) ∧
  (∀ (g p v : Nat) (bs : List Byte) (s : State), (16 ≤ g ∨ s.reg (0x7900 + g) 6 ≠ 1 ∨ groupResult (s.regBytes (0x7900 + g) 8) p ≠ 1 → s.groupTarget g p v = s) ∧
    (g < 16 → s.reg (0x7900 + g) 6 = 1 → groupResult (s.regBytes (0x7900 + g) 8) p = 1 → bs = setNibble (s.regBytes (0x7900 + g) 8) p v → ∃ t : State, t.regBytes (0x7900 + g) 8 = bs ∧
      t.reg (0x7900 + g) 9 = s.reg (0x7900 + g) 9 + (if v = 2 then 1 else 0) ∧ t.reg (0x7900 + g) 0xA = s.reg (0x7900 + g) 0xA + (if v = 2 then 0 else 1) ∧ t = { s with live := t.live } ∧
      (countResult bs 1 ≠ 0 → s.groupTarget g p v = t) ∧
      (countResult bs 1 = 0 → (s.groupTarget g p v).reg (0x7900 + g) 6 = 2 ∧ (s.groupTarget g p v).reg (0x7900 + g) 7 = (if t.reg (0x7900 + g) 0xA = 0 then Status.ok else Status.partly) ∧
        (s.groupTarget g p v).reg (0x7900 + g) 0xC = s.now))) ∧
  (∀ (g : Nat) (s u : State), (s.reg (0x7900 + g) 6 ≠ 1 → exec (.groupTimeout g) s = .next s) ∧
    (s.reg (0x7900 + g) 6 = 1 → u = ((List.range 2048).filter (fun p => groupResult (s.regBytes (0x7900 + g) 8) p = 1)).foldl (fun (t : State) p => t.groupTarget g p 4) (s.arriveAt (s.reg (0x7900 + g) 0xB + ms (s.reg (0x7900 + g) 5))) →
      ∃ t : State, exec (.groupTimeout g) s = .next t ∧ t = { u with lanes := t.lanes } ∧ ∀ n, (t.lane n).groups = (s.lane n).groups.filter (fun x => x.1 ≠ g))) ∧
  (∀ (e : Entry) (op : Nat) (b : StreamEntry) (s : State), ((s.streamRun (s.sq e.inst e.q).target).isSome = true →
      exec (.copy e op b) s = .next s ∧ exec (.append e b) s = .next s ∧ exec (.check e b) s = .next s) ∧
    (s.streamRun (s.sq e.inst e.q).target = none → s.canFetch e 5 = false → exec (.copy e op b) s = .next (s.fetchFails e 5) ∧
      exec (.append e b) s = .next (s.fetchFails e 5) ∧ exec (.check e b) s = .next (s.fetchFails e 5))) ∧
  (∀ (e : Entry) (op u : Nat) (b : StreamEntry) (sp : Nat × Nat) (s w : State) (i : Instr), s.canFetch e 5 = true → s.streamRun u = none → u = (s.sq e.inst e.q).target → w = s.fetched e → sp = w.streamSpan u op b →
    i = .copy e op b ∨ (i = .append e b ∧ op = 2) ∨ (i = .check e b ∧ op = 3) →
    (op = 0 ∨ 3 < op ∨ 1 < e.flags ∨ b.reservedZero = false ∨ b.length = 0 ∨ 16777216 < b.length ∨ 16 ≤ b.streamFlags → exec i s = .next (w.stopQueue e.inst e.q Status.range)) ∧
    (1 ≤ op → op ≤ 3 → e.flags ≤ 1 → b.reservedZero = true → 1 ≤ b.length → b.length ≤ 16777216 → b.streamFlags < 16 →
      ((bit b.streamFlags 0 = true ∧ w.idaOk e.inst b.src sp.1 = false) ∨ (bit b.streamFlags 1 = true ∧ sp.2 ≠ 0 ∧ w.idaOk e.inst b.dst sp.2 = false) →
        exec i s = .next ((w.streamLoad u).streamEnd u e.inst e.q e.tag (bit e.flags 0) Status.deniedInstance)) ∧
      ((bit b.streamFlags 0 = true → w.idaOk e.inst b.src sp.1 = true) → (bit b.streamFlags 1 = true → sp.2 ≠ 0 → w.idaOk e.inst b.dst sp.2 = true) →
        (bit b.streamFlags 0 = false → b.host = none → exec i s = .next ((w.streamLoad u).faultInstance e.inst Status.hwFault)) ∧
        (bit b.streamFlags 0 = true ∨ b.host.isSome = true → ∃ (t : State) (r : StreamRun), exec i s = .next t ∧ t.streamRun u = some r ∧ r.opcode = op ∧ r.inst = e.inst ∧ r.q = e.q ∧ r.tag = e.tag ∧ r.completion = bit e.flags 0 ∧
          (bit b.streamFlags 0 = true → r.data = (w.readIda (BusSource.stream.serving u e.inst) b.src sp.1).take b.length ∧
            r.trailing = (w.readIda (BusSource.stream.serving u e.inst) b.src sp.1).drop b.length) ∧
          (∀ hb, bit b.streamFlags 0 = false → b.host = some hb → sp.1 ≤ hb.length → r.data = hb.take b.length ∧ r.trailing = (hb.take sp.1).drop b.length) ∧
          t.reg (0x7A40 + u) 8 = (if bit b.streamFlags 2 then (w.streamParams u).init else s.reg (0x7A40 + u) 8) ∧ t = { w with live := t.live, streams := t.streams })))) ∧
  (∀ (u : Nat) (s : State), s.streamRun u = none → exec (.streamEntryDone u) s = .next s) ∧
  (∀ (u x v : Nat) (r : StreamRun) (s : State), s.streamRun u = some r → x = Crc.run (s.streamParams u) (s.reg (0x7A40 + u) 8) r.data → v = Crc.final (s.streamParams u) x → ∃ t : State, t.reg (0x7A40 + u) 8 = x ∧
    t.reg (0x7A40 + u) 9 = satAdd (entryBits (0x7A40 + u) 9) (s.reg (0x7A40 + u) 9) r.data.length ∧ t.streamRun u = none ∧
    (r.opcode = 1 → exec (.streamEntryDone u) s = .next (t.streamEnd u r.inst r.q r.tag r.completion Status.ok)) ∧
    (r.opcode ≠ 1 → ∃ w : State, w = t.setReg (0x7A40 + u) 0xC v ∧ (r.opcode ≠ 3 ∨ r.trailing = s.streamBytes u v → exec (.streamEntryDone u) s = .next ((w.streamLoad u).streamEnd u r.inst r.q r.tag r.completion Status.ok)) ∧
      (r.opcode = 3 → r.trailing ≠ s.streamBytes u v → ∃ y : State, y.reg (0x7A40 + u) 0xB = satAdd (entryBits (0x7A40 + u) 0xB) (s.reg (0x7A40 + u) 0xB) 1 ∧
        exec (.streamEntryDone u) s = .next ((y.streamLoad u).streamEnd u r.inst r.q r.tag r.completion Status.range))) ∧
    (bit r.body.streamFlags 3 = true → t = { s with live := t.live, streams := t.streams }) ∧
    (bit r.body.streamFlags 3 = false → bit r.body.streamFlags 1 = false → t.out.hostData = s.out.hostData ++ [(r.inst, r.body.dst, if r.opcode = 2 then r.data ++ s.streamBytes u v else r.data)]) ∧
    (bit r.body.streamFlags 3 = false → bit r.body.streamFlags 1 = true → t.imem = (s.writeIda (BusSource.stream.serving u r.inst) r.body.dst (if r.opcode = 2 then r.data ++ s.streamBytes u v else r.data)).imem)) ∧
  (∀ (req : Requester) (g v : Nat) (s : State), g < 16 → v < 256 → v ≠ 1 → s.reaches req (0x7900 + g) 4 (leBytes 1 v) = true →
    exec (.groupStart req g v) s = .next (s.turnedAway req (0x7900 + g) 4 (leBytes 1 v))) ∧
  (∀ (req : Requester) (u v : Nat) (s : State), u < 16 → v < 256 → v = 0 ∨ 3 < v → s.reaches req (0x7A40 + u) 7 (leBytes 1 v) = true →
    exec (.streamPreset req u v) s = .next (s.turnedAway req (0x7A40 + u) 7 (leBytes 1 v))) ∧
  (∀ (req : Requester) (u v : Nat) (s w : State), u < 16 → v < 256 → s.admits req (0x7A40 + u) 7 (leBytes 1 v) = true → w = s.admitted req (0x7A40 + u) 7 (leBytes 1 v) →
    (1 ≤ v → v ≤ 3 → (w.streamRun u).isSome = true → exec (.streamPreset req u v) s = .next (w.concluded req (0x7A40 + u) 7 (leBytes 1 v) Status.busy)) ∧
    (1 ≤ v → v ≤ 3 → w.streamRun u = none → ∃ t : State, exec (.streamPreset req u v) s = .next (t.concluded req (0x7A40 + u) 7 (leBytes 1 v) Status.ok) ∧
      t.reg (0x7A40 + u) 1 = (if v = 1 then 8 else if v = 2 then 16 else 32) ∧ t.reg (0x7A40 + u) 2 = (if v = 1 then 0x2F else if v = 2 then 0x1021 else 0x1EDC6F41) ∧
      t.reg (0x7A40 + u) 3 = (if v = 1 then 0xFF else if v = 2 then 0xFFFF else 0xFFFFFFFF) ∧ t.reg (0x7A40 + u) 4 = (if v = 3 then 3 else 0) ∧
      t.reg (0x7A40 + u) 5 = (if v = 1 then 0xFF else if v = 2 then 0 else 0xFFFFFFFF) ∧ t.reg (0x7A40 + u) 6 = (if v = 2 then 1 else 0) ∧ t.reg (0x7A40 + u) 8 = t.reg (0x7A40 + u) 3 ∧ t = { w with live := t.live })) ∧
  (∀ (e : Entry) (op n p g u st : Nat) (b : LaneEntry) (x : LaneFrame) (s t : State), (∃ i ∈ [Instr.laneSchedule n, .descriptor n x, .response n x, .ack n x, .data n x, .event n x, .nak n x, .responseTimeout n, .recoveryExpiry p,
      .laneBusOffRecovery n, .laneErrorPassive n st, .laneCommand e op b, .laneRead e b, .groupTimeout g, .echoMismatch n, .streamEntryDone u], exec i s = .next t) →
    SameRings s t ∧ t.mem = s.mem ∧ t.heads = s.heads ∧ t.gfx = s.gfx ∧ t.keys = s.keys ∧ t.haptics = s.haptics ∧ t.audio = s.audio ∧ t.pins = s.pins ∧ t.fuses = s.fuses ∧ t.dir = s.dir)

/-- The audio crosspoint (R530, R532, R533, R536 to R538, R540 to R543, R549, R550). A tone request counts once per sample period, starts an enabled generator and
is counted and ignored by another. A safe-load waits for its time, is refused beyond 10 s or while one waits, and swaps at once when late; at the swap
both banks hold the edit bank and every changed node starts from the gain it has reached, with equal steps to its new one. The loss of AUDIO_MCLK
switches the clock and the outputs restart from mute; its return waits for every output to reach mute. A slave port slips, loses its clock and regains
it. A buffer joins its stream, a malformed entry stops the queue with RANGE, and STOP fades the stream and ends its started buffers. A sample period
stamps its time and runs the crosspoint; an output's sample lies within 24 bits and leaves two periods later. A node silent for its hold time writes
SILENCE, and an amplifier's change is counted and reported. That STOP leaves a buffer not yet started is the reading of log entry 180; how an
unstated rounding falls is free (log entry 3). -/
def Obligations.AudioCrosspoint : Prop :=
  (∀ (g : Nat) (s : State), (s.reflex.tones.contains g = false → exec (.toneRequest g) s = .next s) ∧
    (s.reflex.tones.contains g = true → exec (.toneRequest g) s = .next (({ s with reflex := { s.reflex with tones := s.reflex.tones.erase g } } : State).requestTone g))) ∧
  (∀ (req : Requester) (g v : Nat) (s : State), g < 8 → v < 256 → s.admits req (0x6810 + g) 7 (leBytes 1 v) = true →
    exec (.toneStart req g v) s = .next (((s.admitted req (0x6810 + g) 7 (leBytes 1 v)).requestTone g).concluded req (0x6810 + g) 7 (leBytes 1 v) Status.ok)) ∧
  (∀ (req : Requester) (g v : Nat) (s : State), g < 8 → v < 256 → v ≠ 1 → s.reaches req (0x6810 + g) 7 (leBytes 1 v) = true →
    exec (.toneStart req g v) s = .next (s.turnedAway req (0x6810 + g) 7 (leBytes 1 v))) ∧
  (∀ (g : Nat) (s : State), ((s.toneGen g).requested = true ∨ (s.toneGen g).ignored = true → s.requestTone g = s) ∧
    ((s.toneGen g).requested = false → (s.toneGen g).ignored = false → (s.requestTone g).reg (0x6810 + g) 9 = satAdd (entryBits (0x6810 + g) 9) (s.reg (0x6810 + g) 9) 1 ∧
      ((s.requestTone g).toneGen g).requested = decide (s.use (0x6810 + g) 1 ≠ 0) ∧ ((s.requestTone g).toneGen g).ignored = decide (s.use (0x6810 + g) 1 = 0) ∧ SameLiveBut s (s.requestTone g) [entryKey (0x6810 + g) 9] ∧
      s.requestTone g = { s with live := (s.requestTone g).live, audio := (s.requestTone g).audio })) ∧
  (∀ (g : Nat) (s t : State), (s.toneGen g).requested = true → t = s.toneAdvance g → t.reg (0x6810 + g) 8 = 1 ∧ (t.toneGen g).requested = false ∧ (t.toneGen g).ignored = false ∧ (t.toneGen g).sinceReq = 0 ∧
    (t.toneGen g).releasing = false ∧ (t.toneGen g).phase = (if s.reg (0x6810 + g) 8 = 1 then (s.toneGen g).phase else 0)) ∧
  (∀ (req : Requester) (i at_ : Nat) (s u : State), i < 128 → at_ < 256 ^ 8 → s.admits req (0x6900 + i) 0x41 (leBytes 8 at_) = true → u = s.admitted req (0x6900 + i) 0x41 (leBytes 8 at_) →
    (u.now + sec 10 < at_ → exec (.safeLoad req i at_) s = .next (u.concluded req (0x6900 + i) 0x41 (leBytes 8 at_) Status.range)) ∧
    (at_ ≤ u.now + sec 10 → (u.row i).pending.isSome = true → exec (.safeLoad req i at_) s = .next (u.concluded req (0x6900 + i) 0x41 (leBytes 8 at_) Status.busy)) ∧
    ((u.row i).pending = none → at_ ≠ 0 → at_ < u.now → exec (.safeLoad req i at_) s = .next ((u.swapRow i at_ true).concluded req (0x6900 + i) 0x41 (leBytes 8 at_) Status.pending)) ∧
    ((u.row i).pending = none → at_ ≤ u.now + sec 10 → at_ = 0 ∨ u.now ≤ at_ → ∃ t : State, exec (.safeLoad req i at_) s = .next (t.concluded req (0x6900 + i) 0x41 (leBytes 8 at_) Status.pending) ∧
      (t.row i).pending = some at_ ∧ t.reg (0x6900 + i) 0x42 = 1 ∧ t.editBank i = u.editBank i ∧ t.activeBank i = u.activeBank i ∧ t = { u with live := t.live, audio := t.audio })) ∧
  (∀ (i q : Nat) (late : Bool) (s : State), ∃ t : State, s.swapRow i q late = t.event (s.rowHolder i) 0x51 i (if late then Status.late else Status.ok) 0xFF (if s.bankIsB i then 1 else 2) q ∧
    (t.row i).bankA = s.editBank i ∧ (t.row i).bankB = s.editBank i ∧ (t.row i).pending = none ∧ (t.row i).muted = false ∧ s.now ≤ (t.row i).copyUntil ∧ (t.row i).copyUntil ≤ s.now + 50000 ∧
    t.reg (0x6900 + i) 0x43 = (if s.bankIsB i then 0 else 1) ∧ t.reg (0x6900 + i) 0x42 = 0 ∧ t.reg (0x6900 + i) 0x4B = s.now ∧ t = { s with free := t.free, live := t.live, audio := t.audio } ∧
    SameLiveBut s t [entryKey (0x6900 + i) 0x43, entryKey (0x6900 + i) 0x42, entryKey (0x6900 + i) 0x4B]) ∧
  (∀ (i q o : Nat) (late : Bool) (s : State), o < 64 → (Tab.find? (s.editBank i) o ≠ s.nodeGoal i o → (s.swapRow i q late).nodeGain i o = some ((s.nodeGain i o).getD (-1200))) ∧
    (Tab.find? (s.editBank i) o = s.nodeGoal i o → (s.swapRow i q late).nodeGain i o = s.nodeGain i o)) ∧
  (∀ (v : Option Rat) (g : Option Int) (n : Nat), (rampOver v g n).value = v.getD (-1200) ∧ (rampOver v g n).goal = g ∧
    (rampOver v g n).value + (max n 1 : Nat) * (rampOver v g n).step = (match g with | none => -1200 | some x => (x : Rat))) ∧
  (∀ s : State, s.serving = false ∨ s.reg 0x6800 5 ≠ 1 → exec .mclkLost s = .next s) ∧
  (∀ s : State, s.serving = true → s.reg 0x6800 5 = 1 → s.use 0x6800 1 = 0 →
    exec .mclkLost s = .next (({ (s.setReg 0x6800 5 0) with audio := { s.audio with lostZero := true, switching := none } } : State).abandonPilots (fun _ => true))) ∧
  (∀ s : State, s.serving = true → s.reg 0x6800 5 = 1 → s.use 0x6800 1 ≠ 0 → ∃ t : State, exec .mclkLost s = .next (t.event 0 0x53 0xFFFF Status.ok 0xFF 5 0) ∧ t.reg 0x6800 5 = 2 ∧
    t.audio = { s.audio with lostZero := true, switching := none } ∧ t.survey.pilotRunning = [] ∧ t = { s with live := t.live, survey := t.survey, audio := t.audio }) ∧
  (∀ s : State, s.serving = false ∨ s.reg 0x6800 5 ≠ 2 ∨ s.use 0x6800 1 ≠ 1 ∨ s.audio.switching.isSome = true → exec .mclkRestored s = .next s) ∧
  (∀ s : State, s.serving = true → s.reg 0x6800 5 = 2 → s.use 0x6800 1 = 1 → s.audio.switching = none → ∃ t : State, exec .mclkRestored s = .next t ∧ t.audio.switching = some 1 ∧
    (∀ o, o < 64 → (t.xpo o).mute = some (rampOver (some (((s.xpo o).mute.map (fun (r : Ramp) => r.value)).getD 0)) none s.rampSamples)) ∧ t = { s with audio := t.audio }) ∧
  (∀ (k : Nat) (s : State), (s.audio.switching = none → s.switchClock = s) ∧
    (s.audio.switching = some k → s.audio.outputs.any (fun x => x.2.mute.any (fun (r : Ramp) => decide (r.goal = none))) = true → s.switchClock = s) ∧
    (s.audio.switching = some k → s.audio.outputs.any (fun x => x.2.mute.any (fun (r : Ramp) => decide (r.goal = none))) = false → ∃ t : State, t.reg 0x6800 5 = k ∧ t.audio = { s.audio with switching := none } ∧
      t = { s with live := t.live, survey := t.survey, audio := t.audio } ∧ s.switchClock = (if s.reg 0x6800 5 = 2 ∧ k = 1 then t.event 0 0x53 0xFFFF Status.ok 0xFF 6 0 else t))) ∧
  (∀ (p : Nat) (dr : Bool) (s : State), s.serving = false ∨ s.dies ≤ p ∨ s.tdmState p ≠ 1 ∨ s.use (0x6808 + p) 2 = 1 → exec (.tdmSlip p dr) s = .next s ∧ exec (.tdmNoClock p) s = .next s) ∧
  (∀ (p : Nat) (dr : Bool) (s : State), s.serving = true → p < s.dies → s.tdmState p = 1 → s.use (0x6808 + p) 2 ≠ 1 →
    (∃ t u : State, exec (.tdmSlip p dr) s = .next u ∧ t.reg (0x6808 + p) 0x11 = satAdd (entryBits (0x6808 + p) 0x11) (s.reg (0x6808 + p) 0x11) 1 ∧ t.reg (0x6808 + p) 0x13 = s.now ∧
      t = { s with live := t.live } ∧ SameLiveBut s t [entryKey (0x6808 + p) 0x11, entryKey (0x6808 + p) 0x13] ∧ u = { t.portEvent p 1 with audio := u.audio } ∧
      (∀ k, k < 8 → (u.xpo (8 * p + k)).transmit = slipped dr (s.xpo (8 * p + k)).transmit) ∧ u.audio.rows = s.audio.rows ∧ u.audio.streams = s.audio.streams) ∧
    (∃ t : State, exec (.tdmNoClock p) s = .next (t.portEvent p 2) ∧ t.tdmState p = 2 ∧ t = { s with live := t.live, audio := t.audio } ∧ SameLiveBut s t [entryKey (0x6808 + p) 0xF] ∧
      ∀ k, k < 8 → (s.row (8 * p + k)).level ≠ 0 → (t.row (8 * p + k)).fade = 48 ∧ (t.row (8 * p + k)).fadeFrom = (s.row (8 * p + k)).level)) ∧
  (∀ (dr : Bool) (l : List Int), 2 ≤ l.length → l.length ≤ 4 → (slipped dr l).length = (if dr then max 2 (l.length - 1) else min 4 (l.length + 1)) ∧ ∀ x ∈ slipped dr l, x ∈ l) ∧
  (∀ (p : Nat) (s : State), s.serving = false ∨ s.tdmState p ≠ 2 → exec (.tdmClockRestored p) s = .next s) ∧
  (∀ (p : Nat) (s : State), s.serving = true → s.tdmState p = 2 → ∃ t : State, exec (.tdmClockRestored p) s = .next (t.portEvent p 3) ∧ t.tdmState p = 1 ∧ t = { s with live := t.live, audio := t.audio } ∧
    SameLiveBut s t [entryKey (0x6808 + p) 0xF] ∧ ∀ k, k < 8 → (t.row (8 * p + k)).fade = 0 ∧ (t.row (8 * p + k)).ramp = some (rampOver none (some 0) s.rampSamples)) ∧
  (∀ (e : Entry) (op a l f bf st : Nat) (z : Bool) (host : List Byte) (s : State), s.canFetch e 3 = false →
    exec (.buffer e op a l f bf st z host) s = .next (s.fetchFails e 3) ∧ exec (.audioStop e z) s = .next (s.fetchFails e 3)) ∧
  (∀ (e : Entry) (op a l f bf st : Nat) (z : Bool) (host : List Byte) (s : State), s.canFetch e 3 = true →
    op ≠ 1 ∨ 1 < e.flags ∨ z = false ∨ f = 0 ∨ 3 < f ∨ 1 < bf ∨ l < 4 ∨ 16777216 < l ∨ l % (if f = 1 then 2 else 4) ≠ 0 →
    exec (.buffer e op a l f bf st z host) s = .next ((s.fetched e).stopQueue e.inst e.q Status.range)) ∧
  (∀ (e : Entry) (a l f bf st n : Nat) (host : List Byte) (s : State), s.canFetch e 3 = true → e.flags ≤ 1 → 1 ≤ f → f ≤ 3 → bf ≤ 1 → 4 ≤ l → l ≤ 16777216 → l % (if f = 1 then 2 else 4) = 0 →
    n = (s.sq e.inst e.q).target - 64 → ∃ (t : State) (b : AudioBuffer), exec (.buffer e 1 a l f bf st true host) s = .next t ∧ (t.stream n).buffers = (s.stream n).buffers ++ [b] ∧
      b.inst = e.inst ∧ b.q = e.q ∧ b.tag = e.tag ∧ b.completion = bit e.flags 0 ∧ b.start = st ∧ b.size = (if f = 1 then 2 else 4) ∧ b.consumed = (s.sq e.inst e.q).progress / b.size ∧ b.started = decide (b.consumed ≠ 0) ∧ b.late = decide (st ≠ 0 ∧ st < s.now) ∧
      (bf = 1 → b.samples = audioSamples f ((s.fetched e).readIda (BusSource.audio.serving s.trunk e.inst) a l)) ∧ (bf = 0 → l ≤ host.length → b.samples = audioSamples f (host.take l)) ∧
      (t.sq e.inst e.q).progress = 0 ∧ t = { s with insts := t.insts, audio := t.audio }) ∧
  (∀ (f : Nat) (bs : List Byte), (audioSamples f bs).length = bs.length / (if f = 1 then 2 else 4) ∧ ∀ x ∈ audioSamples f bs, -8388608 ≤ x ∧ x ≤ 8388607) ∧
  (∀ (e : Entry) (z : Bool) (s : State), s.canFetch e 3 = true → (1 < e.flags ∨ z = false → exec (.audioStop e z) s = .next ((s.fetched e).stopQueue e.inst e.q Status.range)) ∧
    (e.flags ≤ 1 → z = true → exec (.audioStop e z) s = .next (((s.fetched e).stopStream ((s.sq e.inst e.q).target - 64)).endEntry e.inst e.q e.tag (bit e.flags 0) Status.ok))) ∧
  (∀ (n : Nat) (s : State), ((s.stopStream n).stream n).buffers = (s.stream n).buffers.filter (fun b => !b.started) ∧ ((s.stopStream n).stream n).playing = false ∧ ((s.stopStream n).stream n).fade = (if (s.stream n).last = 0 then 0 else 48) ∧
    ((s.stream n).buffers.all (fun b => !b.started) = true → (s.stopStream n).out = s.out ∧ (s.stopStream n).insts = s.insts) ∧
    ((s.stopStream n).stream n).fadeFrom = (s.stream n).last ∧ ∀ k, k ≠ n → (s.stopStream n).stream k = s.stream k) ∧
  (∀ (n prev : Nat) (b : AudioBuffer) (rest : List AudioBuffer) (s : State), (s.stream n).held = false → (s.stream n).fade = 0 → (s.stream n).buffers = b :: rest →
    (b.started = false → s.now < b.start → (s.streamPlay n prev).1 = 0 ∧ ((s.streamPlay n prev).2.stream n).buffers = b :: rest ∧ ((s.streamPlay n prev).2.stream n).playing = false) ∧
    (b.started = true ∨ b.start ≤ s.now → (s.streamPlay n prev).1 = b.samples.getD b.consumed 0 ∧ ((s.streamPlay n prev).2.stream n).playing = true ∧
      (b.samples.length ≤ b.consumed + 1 → ((s.streamPlay n prev).2.stream n).buffers = rest) ∧
      (b.consumed + 1 < b.samples.length → ∃ c, ((s.streamPlay n prev).2.stream n).buffers = c :: rest ∧ c.started = true ∧ c.consumed = b.consumed + 1 ∧ c.samples = b.samples))) ∧
  (∀ (rx : List (Nat × Int)) (s : State), s.serving = false → exec (.samplePeriod rx) s = .next s) ∧
  (∀ (rx : List (Nat × Int)) (s : State), s.serving = true → s.health.succession = true → ∃ t : State, exec (.samplePeriod rx) s = .next t ∧ t.reg 0x6800 7 = s.now ∧ t.reg 0x6800 6 = s.reg 0x6800 6 + 1 ∧
    (∀ o, o < 64 → (t.xpo o).transmit = (s.xpo o).transmit.drop 1 ++ [0]) ∧ t = { s with live := t.live, audio := t.audio }) ∧
  (∀ (rx : List (Nat × Int)) (s u w x y : State), s.serving = true → s.health.succession = false →
    u = (if s.active.filter (fun e => isAudioIndex (e.1 / 256)) = s.taken.filter (fun e => isAudioIndex (e.1 / 256)) then (s.setReg 0x6800 7 s.now).setReg 0x6800 6 (s.reg 0x6800 6 + 1)
      else ((s.setReg 0x6800 7 s.now).setReg 0x6800 6 (s.reg 0x6800 6 + 1)).audioUptake) →
    w = u.each ((Tab.keys u.audio.rows).filter (fun i => (u.row i).pending.any (fun (k : Nat) => decide (k ≤ u.now)))) (fun t i => t.swapRow i ((t.row i).pending.getD 0) false) →
    x = w.takeInputs (s.reg 0x6800 7) rx (List.range 128) → y = ((x.each (List.range 64) (fun t o => t.outputStep o)).advanceRamps.switchClock).judgeAmps →
    exec (.samplePeriod rx) s = .next (if w.audio.lostZero then ({ w with audio := { w.audio with lostZero := false } } : State).outputsFromMute.silentPeriod
      else (y.setReg 0x6800 8 (((List.range 8).filter (fun q => y.sectionGated q)).foldl (fun (v q : Nat) => v + 2 ^ q) 0)).sendFrame.reportAmps)) ∧
  (∀ (o : Nat) (s : State), (bit (s.reg 0x6800 8) (o / 8) = true → ((s.outputStep o).xpo o).tap = 0 ∧ ((s.outputStep o).xpo o).transmit = (s.xpo o).transmit.drop 1 ++ [0]) ∧
    (bit (s.reg 0x6800 8) (o / 8) = false → ∃ z : Int, -8388607 ≤ z ∧ z ≤ 8388607 ∧ ((s.outputStep o).xpo o).transmit = (s.xpo o).transmit.drop 1 ++ [z]) ∧
    -(2 ^ 47) ≤ s.mixOf o ∧ s.mixOf o ≤ 2 ^ 47 - 1) ∧
  (∀ (o : Nat) (a b c : Int) (s : State), ¬ (s.use (0x6808 + o / 8) 7 = 2 ∧ s.use (0x6808 + o / 8) 9 = o % 8) → (s.xpo o).transmit.length = 3 → (((s.transmit o a).transmit o b).transmit o c).slotWord o = a) ∧
  (∀ (o : Nat) (s : State), (o, s.slotWord o) ∈ s.sendFrame.audio.sent ↔ o < 64 ∧ o / 8 < s.dies ∧ s.tdmState (o / 8) = 1) ∧
  (∀ (n : Nat) (s : State), s.serving = false ∨ 192 ≤ n ∨ s.reg (if n < 128 then 0x6900 + n else 0x6A00 + (n - 128)) (if n < 128 then 0x48 else 0x11) = 1 → exec (.silenceHoldExpiry n) s = .next s) ∧
  (∀ (n i k at_ : Nat) (s : State), s.serving = true → n < 192 → i = (if n < 128 then 0x6900 + n else 0x6A00 + (n - 128)) → k = (if n < 128 then 0x48 else 0x11) → s.reg i k ≠ 1 →
    at_ = (if n < 128 then (s.row n).loudAt + ms (s.use i 0x47) else (s.xpo (n - 128)).loudAt + ms (s.use i 0xF)) →
    ∃ t : State, exec (.silenceHoldExpiry n) s = .next (t.silenceEvent n 1).judgeAmps ∧ t.reg i k = 1 ∧ t.now = max s.now at_ ∧ t = { s with now := t.now, clock := t.clock, live := t.live } ∧
      SameLiveBut s t [entryKey i k]) ∧
  (∀ (p : Nat) (on : Bool) (s : State), (s.reg (0x6808 + p) 0x10 = ofBool on → s.setAmp p on = s) ∧
    (s.reg (0x6808 + p) 0x10 ≠ ofBool on → ∃ t : State, s.setAmp p on = t.event 0 0x54 p Status.ok p (if on then 1 else 2) (t.reg (0x6808 + p) 0x12) ∧ t.reg (0x6808 + p) 0x10 = ofBool on ∧
      t.reg (0x6808 + p) 0x12 = satAdd (entryBits (0x6808 + p) 0x12) (s.reg (0x6808 + p) 0x12) 1 ∧ t = { s with live := t.live, pins := t.pins } ∧
      (s.use (0x6808 + p) 7 = 1 → s.use (0x6808 + p) 8 < 32 → Tab.getD t.pins.gpio (s.use (0x6808 + p) 8) false = on))) ∧
  (∀ (e : Entry) (op a l f bf st p g n : Nat) (z dr : Bool) (host : List Byte) (rx : List (Nat × Int)) (s t : State), (∃ i ∈ [Instr.toneRequest g, .mclkLost, .mclkRestored, .tdmSlip p dr, .tdmNoClock p,
      .tdmClockRestored p, .buffer e op a l f bf st z host, .audioStop e z, .silenceHoldExpiry n, .samplePeriod rx], exec i s = .next t) →
    SameRings s t ∧ t.mem = s.mem ∧ t.heads = s.heads ∧ t.gfx = s.gfx ∧ t.keys = s.keys ∧ t.haptics = s.haptics ∧ t.lanes = s.lanes ∧ t.streams = s.streams ∧ t.fuses = s.fuses ∧ t.dir = s.dir)

/-- The row's rule of the queue, R1, R5, R2: no command touches the commands that wait behind it, and the part and its grade never change: a step from a queue with c in front
answers a next state whose queue is the rest. -/
def Obligations.CommandsLeaveTheQueue : Prop :=
  (∀ (c : Instr) (s : State), ∃ t : State, exec c s = .next t ∧ t.pending = s.pending ∧ t.part = s.part ∧ t.grade = s.grade) ∧
  (∀ (c : Instr) (s : State) (rest : List Instr), s.pending = c :: rest → ∃ t : State, step s = .next t ∧ t.pending = rest ∧ t.part = s.part ∧ t.grade = s.grade)

/-- R96, R108, R255, R264, R31, R212: from every state, reached or not, every step is safe: it answers a next state, never a fault or a refusal; both memories keep their canonical
form; no fuse burns back: the security count never falls, a revoked key slot and a spent or revoked applet slot stay so, and the debug
fuses stay as they are. The canonical form is the model's choice (log entry 7). -/
def Obligations.EveryStepIsSafe : Prop := ∀ s : State, safeStep s

/-- R54, R57, R79, R106: the state after reset. The boot state is POWERED with cause 1, RESET_N reads high and the power-on reset is held, both power enables are high, MCAN_STB high and
SVC_REQ_N released; the queue and both memories are empty and in canonical form, no ring value is set and device time stands at 0. The values no rule gives are the model's
(log entries 5 to 7). -/
def Obligations.StateAfterReset : Prop :=
  State.reset.bootState = 0 ∧ State.reset.reg 0x2100 4 = 1 ∧ State.reset.boot.porReleased = false ∧ State.reset.boot.strapsSampled = false ∧
  State.reset.pins.pwrenMain = true ∧ State.reset.pins.pwrenMem = true ∧ State.reset.pins.mcanStby = true ∧ State.reset.pins.svcReqLow = false ∧
  State.reset.pins.clkreqLow = false ∧ State.reset.pins.tdoDriven = false ∧ State.reset.pending = [] ∧ State.reset.memoryOk = true ∧
  (∀ a, Memory.read State.reset.mem a = 0 ∧ Memory.read State.reset.imem a = 0) ∧ State.reset.active = [] ∧ State.reset.now = 0 ∧ State.reset.timeRuns = false

/-- R353: every n-bit component, alpha included, is expanded to the 16-bit value formed by repeating its bit pattern from bit 15 downward, and the same rule with 12 bits expands sprite
components: bit j from the top of the result is bit j mod n from the top of the component. An 8-bit v gives v × 257, a 10-bit v gives (v << 6) | (v >> 4), a 5-bit v gives (v <<
11) | (v << 6) | (v << 1) | (v >> 4), a 6-bit v gives (v << 10) | (v << 4) | (v >> 2), a 2-bit v gives v × 21,845 and a 1-bit v gives 0 or 65,535. A format
without alpha has alpha 65,535. -/
def Obligations.ComponentsAreExpanded : Prop :=
  (∀ n w v j, 0 < n → j < w → bit (Pixel.expand n w v) (w - 1 - j) = bit v (n - 1 - j % n)) ∧ (∀ n w v, Pixel.expand n w v < 2 ^ w) ∧
  (∀ v, v < 256 → Pixel.expand 8 16 v = v * 257) ∧ (∀ v, v < 1024 → Pixel.expand 10 16 v = (v <<< 6) ||| (v >>> 4)) ∧
  (∀ v, v < 32 → Pixel.expand 5 16 v = (v <<< 11) ||| (v <<< 6) ||| (v <<< 1) ||| (v >>> 4)) ∧
  (∀ v, v < 64 → Pixel.expand 6 16 v = (v <<< 10) ||| (v <<< 4) ||| (v >>> 2)) ∧ (∀ v, v < 4 → Pixel.expand 2 16 v = v * 21845) ∧
  (∀ v, v < 2 → Pixel.expand 1 16 v = v * 65535) ∧ (∀ w, (Pixel.unpack 2 w).a = 65535 ∧ (Pixel.unpack 3 w).a = 65535)

/-- R361, R362, R364: blending and the last stages. The effective alpha and the colours are the rule's quotients, rounded down, and what is blended of 16-bit
values is a 16-bit value; a transparent STRAIGHT pixel leaves what is below it, an opaque one at full global alpha replaces it. The matrix's result
lies within 16 bits, stage 7's within 12, and stage 9's within the head's depth; the dither thresholds are a permutation of 0 to 15. -/
def Obligations.BlendingAndDepth : Prop :=
  (∀ g a c d : Nat, g ≤ 65535 → a ≤ 65535 → c ≤ 65535 → d ≤ 65535 →
    Pixel.blend 65535 2 g a c d = (c * ((a * g + 32767) / 65535) + d * (65535 - (a * g + 32767) / 65535) + 32767) / 65535 ∧
    Pixel.blend 65535 1 g a c d = min 65535 ((c * g + 32767) / 65535 + (d * (65535 - (a * g + 32767) / 65535) + 32767) / 65535) ∧
    Pixel.blend 65535 0 g a c d = min 65535 ((c * g + 32767) / 65535 + (d * (65535 - g) + 32767) / 65535) ∧
    (∀ mode, Pixel.blend 65535 mode g a c d ≤ 65535) ∧ Pixel.blend 65535 2 g 0 c d = d ∧ Pixel.blend 65535 2 65535 65535 c d = c ∧ Pixel.blend 65535 0 65535 a c d = c ∧
    (c ≤ d → c ≤ Pixel.blend 65535 2 g a c d ∧ Pixel.blend 65535 2 g a c d ≤ d)) ∧
  (∀ m0 m1 m2 o r g b, Pixel.matrixRow m0 m1 m2 o r g b ≤ 65535) ∧ (∀ c r g b, c ≤ 65535 → Pixel.matrixRow 65536 0 0 0 c g b = c ∧ Pixel.matrixRow 0 65536 0 0 r c b = c) ∧
  (∀ c, Pixel.to12 c = min 4095 ((c + 8) >>> 4)) ∧ (∀ t p, Pixel.quantise 10 t p = min 1023 ((p + 2) >>> 2) ∧ Pixel.quantise 8 t p = min 255 ((p + t) >>> 4)) ∧
  (∀ t p q, p ≤ q → Pixel.quantise 10 t p ≤ Pixel.quantise 10 t q ∧ Pixel.quantise 8 t p ≤ Pixel.quantise 8 t q) ∧
  (∀ x y, Pixel.ditherAt x y < 16 ∧ Pixel.ditherAt (x + 4) y = Pixel.ditherAt x y ∧ Pixel.ditherAt x (y + 4) = Pixel.ditherAt x y) ∧
  (∀ k, k < 16 → ∃ x y, x < 4 ∧ y < 4 ∧ Pixel.ditherAt x y = k)
end

