-- ==== Sys2Proof/Laws/Tab.lean ====
section
/-! SUPPORT. Laws of sparse tables and of memories: what a read gives after a write, and that every operation keeps the canonical form. -/
namespace Sys2Proof.Machine

/-! ### Tables -/

theorem Tab.find?_put {α : Type} (t : Tab α) (k j : Nat) (v : α) :
    Tab.find? (Tab.put t k v) j = if k = j then some v else Tab.find? t j := by
  induction t with
  | nil => simp [Tab.put, Tab.find?]
  | cons e r ih =>
    obtain ⟨i, w⟩ := e
    simp only [Tab.put]
    split
    · simp [Tab.find?]
    · split
      · subst_vars; by_cases h : i = j <;> simp [Tab.find?, h]
      · simp only [Tab.find?, ih]; split <;> split <;> simp_all

@[simp] theorem Tab.getD_put {α : Type} (t : Tab α) (k j : Nat) (v d : α) :
    Tab.getD (Tab.put t k v) j d = if k = j then v else Tab.getD t j d := by
  simp only [Tab.getD, Tab.find?_put]; split <;> rfl

@[simp] theorem Tab.getD_nil {α : Type} (k : Nat) (d : α) : Tab.getD [] k d = d := rfl

theorem Tab.find?_filter {α : Type} (t : Tab α) (p : Nat × α → Bool) (q : Nat → Bool) (hq : ∀ e, p e = q e.1) (j : Nat) :
    Tab.find? (List.filter p t) j = if q j then Tab.find? t j else none := by
  induction t with
  | nil => simp [Tab.find?]
  | cons e r ih =>
    obtain ⟨i, w⟩ := e
    have hp : p (i, w) = q i := hq (i, w)
    by_cases h : q i = true
    · simp only [List.filter, hp, h, Tab.find?, ih]
      by_cases hij : i = j <;> simp_all
    · simp only [Bool.not_eq_true] at h
      simp only [List.filter, hp, h, Tab.find?, ih]
      by_cases hij : i = j <;> simp_all

theorem Tab.find?_erase {α : Type} (t : Tab α) (k j : Nat) :
    Tab.find? (Tab.erase t k) j = if k = j then none else Tab.find? t j := by
  rw [Tab.erase, Tab.find?_filter t _ (fun i => decide (i ≠ k)) (fun e => rfl)]
  by_cases h : k = j <;> simp [h, eq_comm]

theorem Tab.mem_put {α : Type} (t : Tab α) (k : Nat) (v : α) (e : Nat × α) (h : e ∈ Tab.put t k v) : e ∈ t ∨ e = (k, v) := by
  induction t with
  | nil => simpa [Tab.put] using h
  | cons x r ih =>
    obtain ⟨i, w⟩ := x
    simp only [Tab.put] at h
    split at h
    · simp_all; tauto
    · split at h
      · simp_all; tauto
      · simp_all; tauto

/-- A key put above a bound leaves every key above the bound. -/
theorem Tab.put_above {α : Type} (t : Tab α) (k b : Nat) (v : α) (hk : b < k) (h : ∀ e ∈ t, b < e.1) :
    ∀ e ∈ Tab.put t k v, b < e.1 := by
  intro e he
  rcases Tab.mem_put t k v e he with h1 | rfl
  · exact h e h1
  · exact hk

theorem Tab.put_rising {α : Type} (t : Tab α) (k : Nat) (v : α) (h : Tab.Rising t) : Tab.Rising (Tab.put t k v) := by
  induction t with
  | nil => simp [Tab.put]
  | cons e r ih =>
    obtain ⟨i, w⟩ := e
    simp only [List.pairwise_cons] at h
    simp only [Tab.put]
    split
    · rename_i hlt
      refine List.pairwise_cons.2 ⟨?_, List.pairwise_cons.2 h⟩
      intro a ha
      rcases List.mem_cons.1 ha with rfl | ha
      · exact hlt
      · exact Nat.lt_trans hlt (h.1 a ha)
    · split
      · rename_i _ heq; subst heq; exact List.pairwise_cons.2 h
      · refine List.pairwise_cons.2 ⟨?_, ih h.2⟩
        exact Tab.put_above r k i v (by omega) h.1

/-! ### Memories -/

theorem Memory.read_write (m : Memory) (a c : Nat) (b : Byte) :
    Memory.read (Memory.write m a b) c = if a = c then b else Memory.read m c := by
  simp only [Memory.write, Memory.read]
  split
  · subst_vars; simp only [Tab.getD, Tab.find?_erase]; split <;> simp
  · simp

/-- A read after a run of bytes was written: the byte written there, or what stood there before. -/
theorem Memory.read_writeBytes (m : Memory) (a c : Nat) (bs : List Byte) :
    Memory.read (Memory.writeBytes m a bs) c = if a ≤ c ∧ c < a + bs.length then bs.getD (c - a) 0 else Memory.read m c := by
  induction bs generalizing m a with
  | nil => have : ¬(a ≤ c ∧ c < a) := by omega
           simp [Memory.writeBytes, this]
  | cons b r ih =>
    simp only [Memory.writeBytes, ih, Memory.read_write, List.length_cons]
    rcases Nat.lt_trichotomy c a with h | h | h
    · have h1 : ¬(a + 1 ≤ c ∧ c < a + 1 + r.length) := by omega
      have h2 : ¬(a ≤ c ∧ c < a + (r.length + 1)) := by omega
      have h3 : a ≠ c := by omega
      rw [if_neg h1, if_neg h3, if_neg h2]
    · subst h
      have h1 : ¬(c + 1 ≤ c ∧ c < c + 1 + r.length) := by omega
      simp
    · obtain ⟨n, rfl⟩ : ∃ n, c = a + 1 + n := ⟨c - (a + 1), by omega⟩
      have e1 : a + 1 + n - a = n + 1 := by omega
      have e2 : a + 1 + n - (a + 1) = n := by omega
      have h3 : a ≠ a + 1 + n := by omega
      simp only [e1, e2, h3, if_false, List.getD_cons_succ]
      by_cases hn : n < r.length
      · have h1 : a + 1 ≤ a + 1 + n ∧ a + 1 + n < a + 1 + r.length := by omega
        have h2 : a ≤ a + 1 + n ∧ a + 1 + n < a + (r.length + 1) := by omega
        simp [h1, h2]
      · have h1 : ¬(a + 1 ≤ a + 1 + n ∧ a + 1 + n < a + 1 + r.length) := by omega
        have h2 : ¬(a ≤ a + 1 + n ∧ a + 1 + n < a + (r.length + 1)) := by omega
        simp only [h1, h2, if_false]

theorem Memory.read_clear (m : Memory) (a n c : Nat) :
    Memory.read (Memory.clear m a n) c = if a ≤ c ∧ c < a + n then 0 else Memory.read m c := by
  simp only [Memory.read, Memory.clear, Tab.getD, Memory.unlisted]
  rw [Tab.find?_filter m _ (fun i => !(decide (a ≤ i) && decide (i < a + n))) (fun e => rfl)]
  by_cases h : a ≤ c ∧ c < a + n
  · simp [h]
  · have : (!(decide (a ≤ c) && decide (c < a + n))) = true := by simp; omega
    simp [this, h]

theorem Memory.wf_filter (m : Memory) (p : Host.Cell → Bool) (h : Memory.wf m = true) : Memory.wf (List.filter p m) = true := by
  simp only [Memory.wf, Bool.and_eq_true, decide_eq_true_eq, List.all_eq_true] at *
  exact ⟨h.1.filter p, fun e he => h.2 e (List.mem_of_mem_filter he)⟩

theorem Memory.wf_write (m : Memory) (a : Nat) (b : Byte) (h : Memory.wf m = true) : Memory.wf (Memory.write m a b) = true := by
  simp only [Memory.write]
  split
  · exact Memory.wf_filter m _ h
  · rename_i hb
    simp only [Memory.wf, Bool.and_eq_true, decide_eq_true_eq, List.all_eq_true] at *
    refine ⟨Tab.put_rising m a b h.1, fun e he => ?_⟩
    rcases Tab.mem_put m a b e he with h1 | rfl
    · exact h.2 e h1
    · exact hb

theorem Memory.wf_writeBytes (m : Memory) (a : Nat) (bs : List Byte) (h : Memory.wf m = true) :
    Memory.wf (Memory.writeBytes m a bs) = true := by
  induction bs generalizing m a with
  | nil => exact h
  | cons b r ih => exact ih _ _ (Memory.wf_write m a b h)

theorem Memory.wf_clear (m : Memory) (a n : Nat) (h : Memory.wf m = true) : Memory.wf (Memory.clear m a n) = true :=
  Memory.wf_filter m _ h

end Sys2Proof.Machine
end

