-- ==== Sys2Proof/Laws/State.lean ====
section
/-! SUPPORT. One lemma for each field under each elementary update of the state, and what the accessors read after an update. -/
namespace Sys2Proof.Machine

/-! ### Registers are live entries -/

@[simp] theorem State.setReg_eq (s : State) (i sub v : Nat) : s.setReg i sub v = s.setLive i sub (.num v) := rfl
@[simp] theorem State.setRegI_eq (s : State) (i sub : Nat) (v : Int) : s.setRegI i sub v = s.setLive i sub (.num v) := rfl
@[simp] theorem State.setRegBytes_eq (s : State) (i sub : Nat) (v : List Byte) : s.setRegBytes i sub v = s.setLive i sub (.bytes v) := rfl

/-! ### setInst -/

@[simp] theorem State.setInst_pending (s : State) (i : Nat) (x : Inst) : (s.setInst i x).pending = s.pending := rfl
@[simp] theorem State.setInst_now (s : State) (i : Nat) (x : Inst) : (s.setInst i x).now = s.now := rfl
@[simp] theorem State.setInst_clock (s : State) (i : Nat) (x : Inst) : (s.setInst i x).clock = s.clock := rfl
@[simp] theorem State.setInst_timeRuns (s : State) (i : Nat) (x : Inst) : (s.setInst i x).timeRuns = s.timeRuns := rfl
@[simp] theorem State.setInst_part (s : State) (i : Nat) (x : Inst) : (s.setInst i x).part = s.part := rfl
@[simp] theorem State.setInst_grade (s : State) (i : Nat) (x : Inst) : (s.setInst i x).grade = s.grade := rfl
@[simp] theorem State.setInst_free (s : State) (i : Nat) (x : Inst) : (s.setInst i x).free = s.free := rfl
@[simp] theorem State.setInst_live (s : State) (i : Nat) (x : Inst) : (s.setInst i x).live = s.live := rfl
@[simp] theorem State.setInst_active (s : State) (i : Nat) (x : Inst) : (s.setInst i x).active = s.active := rfl
@[simp] theorem State.setInst_draft (s : State) (i : Nat) (x : Inst) : (s.setInst i x).draft = s.draft := rfl
@[simp] theorem State.setInst_taken (s : State) (i : Nat) (x : Inst) : (s.setInst i x).taken = s.taken := rfl
@[simp] theorem State.setInst_previous (s : State) (i : Nat) (x : Inst) : (s.setInst i x).previous = s.previous := rfl
@[simp] theorem State.setInst_mem (s : State) (i : Nat) (x : Inst) : (s.setInst i x).mem = s.mem := rfl
@[simp] theorem State.setInst_imem (s : State) (i : Nat) (x : Inst) : (s.setInst i x).imem = s.imem := rfl
@[simp] theorem State.setInst_ringWork (s : State) (i : Nat) (x : Inst) : (s.setInst i x).ringWork = s.ringWork := rfl
@[simp] theorem State.setInst_dir (s : State) (i : Nat) (x : Inst) : (s.setInst i x).dir = s.dir := rfl
@[simp] theorem State.setInst_fuses (s : State) (i : Nat) (x : Inst) : (s.setInst i x).fuses = s.fuses := rfl
@[simp] theorem State.setInst_boot (s : State) (i : Nat) (x : Inst) : (s.setInst i x).boot = s.boot := rfl
@[simp] theorem State.setInst_pins (s : State) (i : Nat) (x : Inst) : (s.setInst i x).pins = s.pins := rfl
@[simp] theorem State.setInst_fabric (s : State) (i : Nat) (x : Inst) : (s.setInst i x).fabric = s.fabric := rfl
@[simp] theorem State.setInst_mcan (s : State) (i : Nat) (x : Inst) : (s.setInst i x).mcan = s.mcan := rfl
@[simp] theorem State.setInst_insts (s : State) (i : Nat) (x : Inst) : (s.setInst i x).insts = Tab.put s.insts i x := rfl
@[simp] theorem State.setInst_vfEnable (s : State) (i : Nat) (x : Inst) : (s.setInst i x).vfEnable = s.vfEnable := rfl
@[simp] theorem State.setInst_numVfs (s : State) (i : Nat) (x : Inst) : (s.setInst i x).numVfs = s.numVfs := rfl
@[simp] theorem State.setInst_ari (s : State) (i : Nat) (x : Inst) : (s.setInst i x).ari = s.ari := rfl
@[simp] theorem State.setInst_shed (s : State) (i : Nat) (x : Inst) : (s.setInst i x).shed = s.shed := rfl
@[simp] theorem State.setInst_worlds (s : State) (i : Nat) (x : Inst) : (s.setInst i x).worlds = s.worlds := rfl
@[simp] theorem State.setInst_power (s : State) (i : Nat) (x : Inst) : (s.setInst i x).power = s.power := rfl
@[simp] theorem State.setInst_sapflow (s : State) (i : Nat) (x : Inst) : (s.setInst i x).sapflow = s.sapflow := rfl
@[simp] theorem State.setInst_survey (s : State) (i : Nat) (x : Inst) : (s.setInst i x).survey = s.survey := rfl
@[simp] theorem State.setInst_health (s : State) (i : Nat) (x : Inst) : (s.setInst i x).health = s.health := rfl
@[simp] theorem State.setInst_heads (s : State) (i : Nat) (x : Inst) : (s.setInst i x).heads = s.heads := rfl
@[simp] theorem State.setInst_compose (s : State) (i : Nat) (x : Inst) : (s.setInst i x).compose = s.compose := rfl
@[simp] theorem State.setInst_canopy (s : State) (i : Nat) (x : Inst) : (s.setInst i x).canopy = s.canopy := rfl
@[simp] theorem State.setInst_regions (s : State) (i : Nat) (x : Inst) : (s.setInst i x).regions = s.regions := rfl
@[simp] theorem State.setInst_pool (s : State) (i : Nat) (x : Inst) : (s.setInst i x).pool = s.pool := rfl
@[simp] theorem State.setInst_gfx (s : State) (i : Nat) (x : Inst) : (s.setInst i x).gfx = s.gfx := rfl
@[simp] theorem State.setInst_keys (s : State) (i : Nat) (x : Inst) : (s.setInst i x).keys = s.keys := rfl
@[simp] theorem State.setInst_haptics (s : State) (i : Nat) (x : Inst) : (s.setInst i x).haptics = s.haptics := rfl
@[simp] theorem State.setInst_reflex (s : State) (i : Nat) (x : Inst) : (s.setInst i x).reflex = s.reflex := rfl
@[simp] theorem State.setInst_onsets (s : State) (i : Nat) (x : Inst) : (s.setInst i x).onsets = s.onsets := rfl
@[simp] theorem State.setInst_audio (s : State) (i : Nat) (x : Inst) : (s.setInst i x).audio = s.audio := rfl
@[simp] theorem State.setInst_lanes (s : State) (i : Nat) (x : Inst) : (s.setInst i x).lanes = s.lanes := rfl
@[simp] theorem State.setInst_streams (s : State) (i : Nat) (x : Inst) : (s.setInst i x).streams = s.streams := rfl
@[simp] theorem State.setInst_out (s : State) (i : Nat) (x : Inst) : (s.setInst i x).out = s.out := rfl

/-! ### modInst -/

@[simp] theorem State.modInst_pending (s : State) (i : Nat) (f : Inst → Inst) : (s.modInst i f).pending = s.pending := rfl
@[simp] theorem State.modInst_now (s : State) (i : Nat) (f : Inst → Inst) : (s.modInst i f).now = s.now := rfl
@[simp] theorem State.modInst_clock (s : State) (i : Nat) (f : Inst → Inst) : (s.modInst i f).clock = s.clock := rfl
@[simp] theorem State.modInst_timeRuns (s : State) (i : Nat) (f : Inst → Inst) : (s.modInst i f).timeRuns = s.timeRuns := rfl
@[simp] theorem State.modInst_part (s : State) (i : Nat) (f : Inst → Inst) : (s.modInst i f).part = s.part := rfl
@[simp] theorem State.modInst_grade (s : State) (i : Nat) (f : Inst → Inst) : (s.modInst i f).grade = s.grade := rfl
@[simp] theorem State.modInst_free (s : State) (i : Nat) (f : Inst → Inst) : (s.modInst i f).free = s.free := rfl
@[simp] theorem State.modInst_live (s : State) (i : Nat) (f : Inst → Inst) : (s.modInst i f).live = s.live := rfl
@[simp] theorem State.modInst_active (s : State) (i : Nat) (f : Inst → Inst) : (s.modInst i f).active = s.active := rfl
@[simp] theorem State.modInst_draft (s : State) (i : Nat) (f : Inst → Inst) : (s.modInst i f).draft = s.draft := rfl
@[simp] theorem State.modInst_taken (s : State) (i : Nat) (f : Inst → Inst) : (s.modInst i f).taken = s.taken := rfl
@[simp] theorem State.modInst_previous (s : State) (i : Nat) (f : Inst → Inst) : (s.modInst i f).previous = s.previous := rfl
@[simp] theorem State.modInst_mem (s : State) (i : Nat) (f : Inst → Inst) : (s.modInst i f).mem = s.mem := rfl
@[simp] theorem State.modInst_imem (s : State) (i : Nat) (f : Inst → Inst) : (s.modInst i f).imem = s.imem := rfl
@[simp] theorem State.modInst_ringWork (s : State) (i : Nat) (f : Inst → Inst) : (s.modInst i f).ringWork = s.ringWork := rfl
@[simp] theorem State.modInst_dir (s : State) (i : Nat) (f : Inst → Inst) : (s.modInst i f).dir = s.dir := rfl
@[simp] theorem State.modInst_fuses (s : State) (i : Nat) (f : Inst → Inst) : (s.modInst i f).fuses = s.fuses := rfl
@[simp] theorem State.modInst_boot (s : State) (i : Nat) (f : Inst → Inst) : (s.modInst i f).boot = s.boot := rfl
@[simp] theorem State.modInst_pins (s : State) (i : Nat) (f : Inst → Inst) : (s.modInst i f).pins = s.pins := rfl
@[simp] theorem State.modInst_fabric (s : State) (i : Nat) (f : Inst → Inst) : (s.modInst i f).fabric = s.fabric := rfl
@[simp] theorem State.modInst_mcan (s : State) (i : Nat) (f : Inst → Inst) : (s.modInst i f).mcan = s.mcan := rfl
@[simp] theorem State.modInst_insts (s : State) (i : Nat) (f : Inst → Inst) : (s.modInst i f).insts = Tab.put s.insts i (f (s.inst i)) := rfl
@[simp] theorem State.modInst_vfEnable (s : State) (i : Nat) (f : Inst → Inst) : (s.modInst i f).vfEnable = s.vfEnable := rfl
@[simp] theorem State.modInst_numVfs (s : State) (i : Nat) (f : Inst → Inst) : (s.modInst i f).numVfs = s.numVfs := rfl
@[simp] theorem State.modInst_ari (s : State) (i : Nat) (f : Inst → Inst) : (s.modInst i f).ari = s.ari := rfl
@[simp] theorem State.modInst_shed (s : State) (i : Nat) (f : Inst → Inst) : (s.modInst i f).shed = s.shed := rfl
@[simp] theorem State.modInst_worlds (s : State) (i : Nat) (f : Inst → Inst) : (s.modInst i f).worlds = s.worlds := rfl
@[simp] theorem State.modInst_power (s : State) (i : Nat) (f : Inst → Inst) : (s.modInst i f).power = s.power := rfl
@[simp] theorem State.modInst_sapflow (s : State) (i : Nat) (f : Inst → Inst) : (s.modInst i f).sapflow = s.sapflow := rfl
@[simp] theorem State.modInst_survey (s : State) (i : Nat) (f : Inst → Inst) : (s.modInst i f).survey = s.survey := rfl
@[simp] theorem State.modInst_health (s : State) (i : Nat) (f : Inst → Inst) : (s.modInst i f).health = s.health := rfl
@[simp] theorem State.modInst_heads (s : State) (i : Nat) (f : Inst → Inst) : (s.modInst i f).heads = s.heads := rfl
@[simp] theorem State.modInst_compose (s : State) (i : Nat) (f : Inst → Inst) : (s.modInst i f).compose = s.compose := rfl
@[simp] theorem State.modInst_canopy (s : State) (i : Nat) (f : Inst → Inst) : (s.modInst i f).canopy = s.canopy := rfl
@[simp] theorem State.modInst_regions (s : State) (i : Nat) (f : Inst → Inst) : (s.modInst i f).regions = s.regions := rfl
@[simp] theorem State.modInst_pool (s : State) (i : Nat) (f : Inst → Inst) : (s.modInst i f).pool = s.pool := rfl
@[simp] theorem State.modInst_gfx (s : State) (i : Nat) (f : Inst → Inst) : (s.modInst i f).gfx = s.gfx := rfl
@[simp] theorem State.modInst_keys (s : State) (i : Nat) (f : Inst → Inst) : (s.modInst i f).keys = s.keys := rfl
@[simp] theorem State.modInst_haptics (s : State) (i : Nat) (f : Inst → Inst) : (s.modInst i f).haptics = s.haptics := rfl
@[simp] theorem State.modInst_reflex (s : State) (i : Nat) (f : Inst → Inst) : (s.modInst i f).reflex = s.reflex := rfl
@[simp] theorem State.modInst_onsets (s : State) (i : Nat) (f : Inst → Inst) : (s.modInst i f).onsets = s.onsets := rfl
@[simp] theorem State.modInst_audio (s : State) (i : Nat) (f : Inst → Inst) : (s.modInst i f).audio = s.audio := rfl
@[simp] theorem State.modInst_lanes (s : State) (i : Nat) (f : Inst → Inst) : (s.modInst i f).lanes = s.lanes := rfl
@[simp] theorem State.modInst_streams (s : State) (i : Nat) (f : Inst → Inst) : (s.modInst i f).streams = s.streams := rfl
@[simp] theorem State.modInst_out (s : State) (i : Nat) (f : Inst → Inst) : (s.modInst i f).out = s.out := rfl

/-! ### modSq -/

@[simp] theorem State.modSq_pending (s : State) (i q : Nat) (f : Sq → Sq) : (s.modSq i q f).pending = s.pending := rfl
@[simp] theorem State.modSq_now (s : State) (i q : Nat) (f : Sq → Sq) : (s.modSq i q f).now = s.now := rfl
@[simp] theorem State.modSq_clock (s : State) (i q : Nat) (f : Sq → Sq) : (s.modSq i q f).clock = s.clock := rfl
@[simp] theorem State.modSq_timeRuns (s : State) (i q : Nat) (f : Sq → Sq) : (s.modSq i q f).timeRuns = s.timeRuns := rfl
@[simp] theorem State.modSq_part (s : State) (i q : Nat) (f : Sq → Sq) : (s.modSq i q f).part = s.part := rfl
@[simp] theorem State.modSq_grade (s : State) (i q : Nat) (f : Sq → Sq) : (s.modSq i q f).grade = s.grade := rfl
@[simp] theorem State.modSq_free (s : State) (i q : Nat) (f : Sq → Sq) : (s.modSq i q f).free = s.free := rfl
@[simp] theorem State.modSq_live (s : State) (i q : Nat) (f : Sq → Sq) : (s.modSq i q f).live = s.live := rfl
@[simp] theorem State.modSq_active (s : State) (i q : Nat) (f : Sq → Sq) : (s.modSq i q f).active = s.active := rfl
@[simp] theorem State.modSq_draft (s : State) (i q : Nat) (f : Sq → Sq) : (s.modSq i q f).draft = s.draft := rfl
@[simp] theorem State.modSq_taken (s : State) (i q : Nat) (f : Sq → Sq) : (s.modSq i q f).taken = s.taken := rfl
@[simp] theorem State.modSq_previous (s : State) (i q : Nat) (f : Sq → Sq) : (s.modSq i q f).previous = s.previous := rfl
@[simp] theorem State.modSq_mem (s : State) (i q : Nat) (f : Sq → Sq) : (s.modSq i q f).mem = s.mem := rfl
@[simp] theorem State.modSq_imem (s : State) (i q : Nat) (f : Sq → Sq) : (s.modSq i q f).imem = s.imem := rfl
@[simp] theorem State.modSq_ringWork (s : State) (i q : Nat) (f : Sq → Sq) : (s.modSq i q f).ringWork = s.ringWork := rfl
@[simp] theorem State.modSq_dir (s : State) (i q : Nat) (f : Sq → Sq) : (s.modSq i q f).dir = s.dir := rfl
@[simp] theorem State.modSq_fuses (s : State) (i q : Nat) (f : Sq → Sq) : (s.modSq i q f).fuses = s.fuses := rfl
@[simp] theorem State.modSq_boot (s : State) (i q : Nat) (f : Sq → Sq) : (s.modSq i q f).boot = s.boot := rfl
@[simp] theorem State.modSq_pins (s : State) (i q : Nat) (f : Sq → Sq) : (s.modSq i q f).pins = s.pins := rfl
@[simp] theorem State.modSq_fabric (s : State) (i q : Nat) (f : Sq → Sq) : (s.modSq i q f).fabric = s.fabric := rfl
@[simp] theorem State.modSq_mcan (s : State) (i q : Nat) (f : Sq → Sq) : (s.modSq i q f).mcan = s.mcan := rfl
@[simp] theorem State.modSq_vfEnable (s : State) (i q : Nat) (f : Sq → Sq) : (s.modSq i q f).vfEnable = s.vfEnable := rfl
@[simp] theorem State.modSq_numVfs (s : State) (i q : Nat) (f : Sq → Sq) : (s.modSq i q f).numVfs = s.numVfs := rfl
@[simp] theorem State.modSq_ari (s : State) (i q : Nat) (f : Sq → Sq) : (s.modSq i q f).ari = s.ari := rfl
@[simp] theorem State.modSq_shed (s : State) (i q : Nat) (f : Sq → Sq) : (s.modSq i q f).shed = s.shed := rfl
@[simp] theorem State.modSq_worlds (s : State) (i q : Nat) (f : Sq → Sq) : (s.modSq i q f).worlds = s.worlds := rfl
@[simp] theorem State.modSq_power (s : State) (i q : Nat) (f : Sq → Sq) : (s.modSq i q f).power = s.power := rfl
@[simp] theorem State.modSq_sapflow (s : State) (i q : Nat) (f : Sq → Sq) : (s.modSq i q f).sapflow = s.sapflow := rfl
@[simp] theorem State.modSq_survey (s : State) (i q : Nat) (f : Sq → Sq) : (s.modSq i q f).survey = s.survey := rfl
@[simp] theorem State.modSq_health (s : State) (i q : Nat) (f : Sq → Sq) : (s.modSq i q f).health = s.health := rfl
@[simp] theorem State.modSq_heads (s : State) (i q : Nat) (f : Sq → Sq) : (s.modSq i q f).heads = s.heads := rfl
@[simp] theorem State.modSq_compose (s : State) (i q : Nat) (f : Sq → Sq) : (s.modSq i q f).compose = s.compose := rfl
@[simp] theorem State.modSq_canopy (s : State) (i q : Nat) (f : Sq → Sq) : (s.modSq i q f).canopy = s.canopy := rfl
@[simp] theorem State.modSq_regions (s : State) (i q : Nat) (f : Sq → Sq) : (s.modSq i q f).regions = s.regions := rfl
@[simp] theorem State.modSq_pool (s : State) (i q : Nat) (f : Sq → Sq) : (s.modSq i q f).pool = s.pool := rfl
@[simp] theorem State.modSq_gfx (s : State) (i q : Nat) (f : Sq → Sq) : (s.modSq i q f).gfx = s.gfx := rfl
@[simp] theorem State.modSq_keys (s : State) (i q : Nat) (f : Sq → Sq) : (s.modSq i q f).keys = s.keys := rfl
@[simp] theorem State.modSq_haptics (s : State) (i q : Nat) (f : Sq → Sq) : (s.modSq i q f).haptics = s.haptics := rfl
@[simp] theorem State.modSq_reflex (s : State) (i q : Nat) (f : Sq → Sq) : (s.modSq i q f).reflex = s.reflex := rfl
@[simp] theorem State.modSq_onsets (s : State) (i q : Nat) (f : Sq → Sq) : (s.modSq i q f).onsets = s.onsets := rfl
@[simp] theorem State.modSq_audio (s : State) (i q : Nat) (f : Sq → Sq) : (s.modSq i q f).audio = s.audio := rfl
@[simp] theorem State.modSq_lanes (s : State) (i q : Nat) (f : Sq → Sq) : (s.modSq i q f).lanes = s.lanes := rfl
@[simp] theorem State.modSq_streams (s : State) (i q : Nat) (f : Sq → Sq) : (s.modSq i q f).streams = s.streams := rfl
@[simp] theorem State.modSq_out (s : State) (i q : Nat) (f : Sq → Sq) : (s.modSq i q f).out = s.out := rfl

/-! ### modHead -/

@[simp] theorem State.modHead_pending (s : State) (h : Nat) (f : Head → Head) : (s.modHead h f).pending = s.pending := rfl
@[simp] theorem State.modHead_now (s : State) (h : Nat) (f : Head → Head) : (s.modHead h f).now = s.now := rfl
@[simp] theorem State.modHead_clock (s : State) (h : Nat) (f : Head → Head) : (s.modHead h f).clock = s.clock := rfl
@[simp] theorem State.modHead_timeRuns (s : State) (h : Nat) (f : Head → Head) : (s.modHead h f).timeRuns = s.timeRuns := rfl
@[simp] theorem State.modHead_part (s : State) (h : Nat) (f : Head → Head) : (s.modHead h f).part = s.part := rfl
@[simp] theorem State.modHead_grade (s : State) (h : Nat) (f : Head → Head) : (s.modHead h f).grade = s.grade := rfl
@[simp] theorem State.modHead_free (s : State) (h : Nat) (f : Head → Head) : (s.modHead h f).free = s.free := rfl
@[simp] theorem State.modHead_live (s : State) (h : Nat) (f : Head → Head) : (s.modHead h f).live = s.live := rfl
@[simp] theorem State.modHead_active (s : State) (h : Nat) (f : Head → Head) : (s.modHead h f).active = s.active := rfl
@[simp] theorem State.modHead_draft (s : State) (h : Nat) (f : Head → Head) : (s.modHead h f).draft = s.draft := rfl
@[simp] theorem State.modHead_taken (s : State) (h : Nat) (f : Head → Head) : (s.modHead h f).taken = s.taken := rfl
@[simp] theorem State.modHead_previous (s : State) (h : Nat) (f : Head → Head) : (s.modHead h f).previous = s.previous := rfl
@[simp] theorem State.modHead_mem (s : State) (h : Nat) (f : Head → Head) : (s.modHead h f).mem = s.mem := rfl
@[simp] theorem State.modHead_imem (s : State) (h : Nat) (f : Head → Head) : (s.modHead h f).imem = s.imem := rfl
@[simp] theorem State.modHead_ringWork (s : State) (h : Nat) (f : Head → Head) : (s.modHead h f).ringWork = s.ringWork := rfl
@[simp] theorem State.modHead_dir (s : State) (h : Nat) (f : Head → Head) : (s.modHead h f).dir = s.dir := rfl
@[simp] theorem State.modHead_fuses (s : State) (h : Nat) (f : Head → Head) : (s.modHead h f).fuses = s.fuses := rfl
@[simp] theorem State.modHead_boot (s : State) (h : Nat) (f : Head → Head) : (s.modHead h f).boot = s.boot := rfl
@[simp] theorem State.modHead_pins (s : State) (h : Nat) (f : Head → Head) : (s.modHead h f).pins = s.pins := rfl
@[simp] theorem State.modHead_fabric (s : State) (h : Nat) (f : Head → Head) : (s.modHead h f).fabric = s.fabric := rfl
@[simp] theorem State.modHead_mcan (s : State) (h : Nat) (f : Head → Head) : (s.modHead h f).mcan = s.mcan := rfl
@[simp] theorem State.modHead_insts (s : State) (h : Nat) (f : Head → Head) : (s.modHead h f).insts = s.insts := rfl
@[simp] theorem State.modHead_vfEnable (s : State) (h : Nat) (f : Head → Head) : (s.modHead h f).vfEnable = s.vfEnable := rfl
@[simp] theorem State.modHead_numVfs (s : State) (h : Nat) (f : Head → Head) : (s.modHead h f).numVfs = s.numVfs := rfl
@[simp] theorem State.modHead_ari (s : State) (h : Nat) (f : Head → Head) : (s.modHead h f).ari = s.ari := rfl
@[simp] theorem State.modHead_shed (s : State) (h : Nat) (f : Head → Head) : (s.modHead h f).shed = s.shed := rfl
@[simp] theorem State.modHead_worlds (s : State) (h : Nat) (f : Head → Head) : (s.modHead h f).worlds = s.worlds := rfl
@[simp] theorem State.modHead_power (s : State) (h : Nat) (f : Head → Head) : (s.modHead h f).power = s.power := rfl
@[simp] theorem State.modHead_sapflow (s : State) (h : Nat) (f : Head → Head) : (s.modHead h f).sapflow = s.sapflow := rfl
@[simp] theorem State.modHead_survey (s : State) (h : Nat) (f : Head → Head) : (s.modHead h f).survey = s.survey := rfl
@[simp] theorem State.modHead_health (s : State) (h : Nat) (f : Head → Head) : (s.modHead h f).health = s.health := rfl
@[simp] theorem State.modHead_heads (s : State) (h : Nat) (f : Head → Head) : (s.modHead h f).heads = Tab.put s.heads h (f (s.head h)) := rfl
@[simp] theorem State.modHead_compose (s : State) (h : Nat) (f : Head → Head) : (s.modHead h f).compose = s.compose := rfl
@[simp] theorem State.modHead_canopy (s : State) (h : Nat) (f : Head → Head) : (s.modHead h f).canopy = s.canopy := rfl
@[simp] theorem State.modHead_regions (s : State) (h : Nat) (f : Head → Head) : (s.modHead h f).regions = s.regions := rfl
@[simp] theorem State.modHead_pool (s : State) (h : Nat) (f : Head → Head) : (s.modHead h f).pool = s.pool := rfl
@[simp] theorem State.modHead_gfx (s : State) (h : Nat) (f : Head → Head) : (s.modHead h f).gfx = s.gfx := rfl
@[simp] theorem State.modHead_keys (s : State) (h : Nat) (f : Head → Head) : (s.modHead h f).keys = s.keys := rfl
@[simp] theorem State.modHead_haptics (s : State) (h : Nat) (f : Head → Head) : (s.modHead h f).haptics = s.haptics := rfl
@[simp] theorem State.modHead_reflex (s : State) (h : Nat) (f : Head → Head) : (s.modHead h f).reflex = s.reflex := rfl
@[simp] theorem State.modHead_onsets (s : State) (h : Nat) (f : Head → Head) : (s.modHead h f).onsets = s.onsets := rfl
@[simp] theorem State.modHead_audio (s : State) (h : Nat) (f : Head → Head) : (s.modHead h f).audio = s.audio := rfl
@[simp] theorem State.modHead_lanes (s : State) (h : Nat) (f : Head → Head) : (s.modHead h f).lanes = s.lanes := rfl
@[simp] theorem State.modHead_streams (s : State) (h : Nat) (f : Head → Head) : (s.modHead h f).streams = s.streams := rfl
@[simp] theorem State.modHead_out (s : State) (h : Nat) (f : Head → Head) : (s.modHead h f).out = s.out := rfl

/-! ### modComp -/

@[simp] theorem State.modComp_pending (s : State) (h : Nat) (f : Composer → Composer) : (s.modComp h f).pending = s.pending := rfl
@[simp] theorem State.modComp_now (s : State) (h : Nat) (f : Composer → Composer) : (s.modComp h f).now = s.now := rfl
@[simp] theorem State.modComp_clock (s : State) (h : Nat) (f : Composer → Composer) : (s.modComp h f).clock = s.clock := rfl
@[simp] theorem State.modComp_timeRuns (s : State) (h : Nat) (f : Composer → Composer) : (s.modComp h f).timeRuns = s.timeRuns := rfl
@[simp] theorem State.modComp_part (s : State) (h : Nat) (f : Composer → Composer) : (s.modComp h f).part = s.part := rfl
@[simp] theorem State.modComp_grade (s : State) (h : Nat) (f : Composer → Composer) : (s.modComp h f).grade = s.grade := rfl
@[simp] theorem State.modComp_free (s : State) (h : Nat) (f : Composer → Composer) : (s.modComp h f).free = s.free := rfl
@[simp] theorem State.modComp_live (s : State) (h : Nat) (f : Composer → Composer) : (s.modComp h f).live = s.live := rfl
@[simp] theorem State.modComp_active (s : State) (h : Nat) (f : Composer → Composer) : (s.modComp h f).active = s.active := rfl
@[simp] theorem State.modComp_draft (s : State) (h : Nat) (f : Composer → Composer) : (s.modComp h f).draft = s.draft := rfl
@[simp] theorem State.modComp_taken (s : State) (h : Nat) (f : Composer → Composer) : (s.modComp h f).taken = s.taken := rfl
@[simp] theorem State.modComp_previous (s : State) (h : Nat) (f : Composer → Composer) : (s.modComp h f).previous = s.previous := rfl
@[simp] theorem State.modComp_mem (s : State) (h : Nat) (f : Composer → Composer) : (s.modComp h f).mem = s.mem := rfl
@[simp] theorem State.modComp_imem (s : State) (h : Nat) (f : Composer → Composer) : (s.modComp h f).imem = s.imem := rfl
@[simp] theorem State.modComp_ringWork (s : State) (h : Nat) (f : Composer → Composer) : (s.modComp h f).ringWork = s.ringWork := rfl
@[simp] theorem State.modComp_dir (s : State) (h : Nat) (f : Composer → Composer) : (s.modComp h f).dir = s.dir := rfl
@[simp] theorem State.modComp_fuses (s : State) (h : Nat) (f : Composer → Composer) : (s.modComp h f).fuses = s.fuses := rfl
@[simp] theorem State.modComp_boot (s : State) (h : Nat) (f : Composer → Composer) : (s.modComp h f).boot = s.boot := rfl
@[simp] theorem State.modComp_pins (s : State) (h : Nat) (f : Composer → Composer) : (s.modComp h f).pins = s.pins := rfl
@[simp] theorem State.modComp_fabric (s : State) (h : Nat) (f : Composer → Composer) : (s.modComp h f).fabric = s.fabric := rfl
@[simp] theorem State.modComp_mcan (s : State) (h : Nat) (f : Composer → Composer) : (s.modComp h f).mcan = s.mcan := rfl
@[simp] theorem State.modComp_insts (s : State) (h : Nat) (f : Composer → Composer) : (s.modComp h f).insts = s.insts := rfl
@[simp] theorem State.modComp_vfEnable (s : State) (h : Nat) (f : Composer → Composer) : (s.modComp h f).vfEnable = s.vfEnable := rfl
@[simp] theorem State.modComp_numVfs (s : State) (h : Nat) (f : Composer → Composer) : (s.modComp h f).numVfs = s.numVfs := rfl
@[simp] theorem State.modComp_ari (s : State) (h : Nat) (f : Composer → Composer) : (s.modComp h f).ari = s.ari := rfl
@[simp] theorem State.modComp_shed (s : State) (h : Nat) (f : Composer → Composer) : (s.modComp h f).shed = s.shed := rfl
@[simp] theorem State.modComp_worlds (s : State) (h : Nat) (f : Composer → Composer) : (s.modComp h f).worlds = s.worlds := rfl
@[simp] theorem State.modComp_power (s : State) (h : Nat) (f : Composer → Composer) : (s.modComp h f).power = s.power := rfl
@[simp] theorem State.modComp_sapflow (s : State) (h : Nat) (f : Composer → Composer) : (s.modComp h f).sapflow = s.sapflow := rfl
@[simp] theorem State.modComp_survey (s : State) (h : Nat) (f : Composer → Composer) : (s.modComp h f).survey = s.survey := rfl
@[simp] theorem State.modComp_health (s : State) (h : Nat) (f : Composer → Composer) : (s.modComp h f).health = s.health := rfl
@[simp] theorem State.modComp_heads (s : State) (h : Nat) (f : Composer → Composer) : (s.modComp h f).heads = s.heads := rfl
@[simp] theorem State.modComp_compose (s : State) (h : Nat) (f : Composer → Composer) : (s.modComp h f).compose = Tab.put s.compose h (f (s.comp h)) := rfl
@[simp] theorem State.modComp_canopy (s : State) (h : Nat) (f : Composer → Composer) : (s.modComp h f).canopy = s.canopy := rfl
@[simp] theorem State.modComp_regions (s : State) (h : Nat) (f : Composer → Composer) : (s.modComp h f).regions = s.regions := rfl
@[simp] theorem State.modComp_pool (s : State) (h : Nat) (f : Composer → Composer) : (s.modComp h f).pool = s.pool := rfl
@[simp] theorem State.modComp_gfx (s : State) (h : Nat) (f : Composer → Composer) : (s.modComp h f).gfx = s.gfx := rfl
@[simp] theorem State.modComp_keys (s : State) (h : Nat) (f : Composer → Composer) : (s.modComp h f).keys = s.keys := rfl
@[simp] theorem State.modComp_haptics (s : State) (h : Nat) (f : Composer → Composer) : (s.modComp h f).haptics = s.haptics := rfl
@[simp] theorem State.modComp_reflex (s : State) (h : Nat) (f : Composer → Composer) : (s.modComp h f).reflex = s.reflex := rfl
@[simp] theorem State.modComp_onsets (s : State) (h : Nat) (f : Composer → Composer) : (s.modComp h f).onsets = s.onsets := rfl
@[simp] theorem State.modComp_audio (s : State) (h : Nat) (f : Composer → Composer) : (s.modComp h f).audio = s.audio := rfl
@[simp] theorem State.modComp_lanes (s : State) (h : Nat) (f : Composer → Composer) : (s.modComp h f).lanes = s.lanes := rfl
@[simp] theorem State.modComp_streams (s : State) (h : Nat) (f : Composer → Composer) : (s.modComp h f).streams = s.streams := rfl
@[simp] theorem State.modComp_out (s : State) (h : Nat) (f : Composer → Composer) : (s.modComp h f).out = s.out := rfl

/-! ### modCano -/

@[simp] theorem State.modCano_pending (s : State) (h : Nat) (f : Canopy → Canopy) : (s.modCano h f).pending = s.pending := rfl
@[simp] theorem State.modCano_now (s : State) (h : Nat) (f : Canopy → Canopy) : (s.modCano h f).now = s.now := rfl
@[simp] theorem State.modCano_clock (s : State) (h : Nat) (f : Canopy → Canopy) : (s.modCano h f).clock = s.clock := rfl
@[simp] theorem State.modCano_timeRuns (s : State) (h : Nat) (f : Canopy → Canopy) : (s.modCano h f).timeRuns = s.timeRuns := rfl
@[simp] theorem State.modCano_part (s : State) (h : Nat) (f : Canopy → Canopy) : (s.modCano h f).part = s.part := rfl
@[simp] theorem State.modCano_grade (s : State) (h : Nat) (f : Canopy → Canopy) : (s.modCano h f).grade = s.grade := rfl
@[simp] theorem State.modCano_free (s : State) (h : Nat) (f : Canopy → Canopy) : (s.modCano h f).free = s.free := rfl
@[simp] theorem State.modCano_live (s : State) (h : Nat) (f : Canopy → Canopy) : (s.modCano h f).live = s.live := rfl
@[simp] theorem State.modCano_active (s : State) (h : Nat) (f : Canopy → Canopy) : (s.modCano h f).active = s.active := rfl
@[simp] theorem State.modCano_draft (s : State) (h : Nat) (f : Canopy → Canopy) : (s.modCano h f).draft = s.draft := rfl
@[simp] theorem State.modCano_taken (s : State) (h : Nat) (f : Canopy → Canopy) : (s.modCano h f).taken = s.taken := rfl
@[simp] theorem State.modCano_previous (s : State) (h : Nat) (f : Canopy → Canopy) : (s.modCano h f).previous = s.previous := rfl
@[simp] theorem State.modCano_mem (s : State) (h : Nat) (f : Canopy → Canopy) : (s.modCano h f).mem = s.mem := rfl
@[simp] theorem State.modCano_imem (s : State) (h : Nat) (f : Canopy → Canopy) : (s.modCano h f).imem = s.imem := rfl
@[simp] theorem State.modCano_ringWork (s : State) (h : Nat) (f : Canopy → Canopy) : (s.modCano h f).ringWork = s.ringWork := rfl
@[simp] theorem State.modCano_dir (s : State) (h : Nat) (f : Canopy → Canopy) : (s.modCano h f).dir = s.dir := rfl
@[simp] theorem State.modCano_fuses (s : State) (h : Nat) (f : Canopy → Canopy) : (s.modCano h f).fuses = s.fuses := rfl
@[simp] theorem State.modCano_boot (s : State) (h : Nat) (f : Canopy → Canopy) : (s.modCano h f).boot = s.boot := rfl
@[simp] theorem State.modCano_pins (s : State) (h : Nat) (f : Canopy → Canopy) : (s.modCano h f).pins = s.pins := rfl
@[simp] theorem State.modCano_fabric (s : State) (h : Nat) (f : Canopy → Canopy) : (s.modCano h f).fabric = s.fabric := rfl
@[simp] theorem State.modCano_mcan (s : State) (h : Nat) (f : Canopy → Canopy) : (s.modCano h f).mcan = s.mcan := rfl
@[simp] theorem State.modCano_insts (s : State) (h : Nat) (f : Canopy → Canopy) : (s.modCano h f).insts = s.insts := rfl
@[simp] theorem State.modCano_vfEnable (s : State) (h : Nat) (f : Canopy → Canopy) : (s.modCano h f).vfEnable = s.vfEnable := rfl
@[simp] theorem State.modCano_numVfs (s : State) (h : Nat) (f : Canopy → Canopy) : (s.modCano h f).numVfs = s.numVfs := rfl
@[simp] theorem State.modCano_ari (s : State) (h : Nat) (f : Canopy → Canopy) : (s.modCano h f).ari = s.ari := rfl
@[simp] theorem State.modCano_shed (s : State) (h : Nat) (f : Canopy → Canopy) : (s.modCano h f).shed = s.shed := rfl
@[simp] theorem State.modCano_worlds (s : State) (h : Nat) (f : Canopy → Canopy) : (s.modCano h f).worlds = s.worlds := rfl
@[simp] theorem State.modCano_power (s : State) (h : Nat) (f : Canopy → Canopy) : (s.modCano h f).power = s.power := rfl
@[simp] theorem State.modCano_sapflow (s : State) (h : Nat) (f : Canopy → Canopy) : (s.modCano h f).sapflow = s.sapflow := rfl
@[simp] theorem State.modCano_survey (s : State) (h : Nat) (f : Canopy → Canopy) : (s.modCano h f).survey = s.survey := rfl
@[simp] theorem State.modCano_health (s : State) (h : Nat) (f : Canopy → Canopy) : (s.modCano h f).health = s.health := rfl
@[simp] theorem State.modCano_heads (s : State) (h : Nat) (f : Canopy → Canopy) : (s.modCano h f).heads = s.heads := rfl
@[simp] theorem State.modCano_compose (s : State) (h : Nat) (f : Canopy → Canopy) : (s.modCano h f).compose = s.compose := rfl
@[simp] theorem State.modCano_canopy (s : State) (h : Nat) (f : Canopy → Canopy) : (s.modCano h f).canopy = Tab.put s.canopy h (f (s.cano h)) := rfl
@[simp] theorem State.modCano_regions (s : State) (h : Nat) (f : Canopy → Canopy) : (s.modCano h f).regions = s.regions := rfl
@[simp] theorem State.modCano_pool (s : State) (h : Nat) (f : Canopy → Canopy) : (s.modCano h f).pool = s.pool := rfl
@[simp] theorem State.modCano_gfx (s : State) (h : Nat) (f : Canopy → Canopy) : (s.modCano h f).gfx = s.gfx := rfl
@[simp] theorem State.modCano_keys (s : State) (h : Nat) (f : Canopy → Canopy) : (s.modCano h f).keys = s.keys := rfl
@[simp] theorem State.modCano_haptics (s : State) (h : Nat) (f : Canopy → Canopy) : (s.modCano h f).haptics = s.haptics := rfl
@[simp] theorem State.modCano_reflex (s : State) (h : Nat) (f : Canopy → Canopy) : (s.modCano h f).reflex = s.reflex := rfl
@[simp] theorem State.modCano_onsets (s : State) (h : Nat) (f : Canopy → Canopy) : (s.modCano h f).onsets = s.onsets := rfl
@[simp] theorem State.modCano_audio (s : State) (h : Nat) (f : Canopy → Canopy) : (s.modCano h f).audio = s.audio := rfl
@[simp] theorem State.modCano_lanes (s : State) (h : Nat) (f : Canopy → Canopy) : (s.modCano h f).lanes = s.lanes := rfl
@[simp] theorem State.modCano_streams (s : State) (h : Nat) (f : Canopy → Canopy) : (s.modCano h f).streams = s.streams := rfl
@[simp] theorem State.modCano_out (s : State) (h : Nat) (f : Canopy → Canopy) : (s.modCano h f).out = s.out := rfl

/-! ### modRegion -/

@[simp] theorem State.modRegion_pending (s : State) (r : Nat) (f : Region → Region) : (s.modRegion r f).pending = s.pending := rfl
@[simp] theorem State.modRegion_now (s : State) (r : Nat) (f : Region → Region) : (s.modRegion r f).now = s.now := rfl
@[simp] theorem State.modRegion_clock (s : State) (r : Nat) (f : Region → Region) : (s.modRegion r f).clock = s.clock := rfl
@[simp] theorem State.modRegion_timeRuns (s : State) (r : Nat) (f : Region → Region) : (s.modRegion r f).timeRuns = s.timeRuns := rfl
@[simp] theorem State.modRegion_part (s : State) (r : Nat) (f : Region → Region) : (s.modRegion r f).part = s.part := rfl
@[simp] theorem State.modRegion_grade (s : State) (r : Nat) (f : Region → Region) : (s.modRegion r f).grade = s.grade := rfl
@[simp] theorem State.modRegion_free (s : State) (r : Nat) (f : Region → Region) : (s.modRegion r f).free = s.free := rfl
@[simp] theorem State.modRegion_live (s : State) (r : Nat) (f : Region → Region) : (s.modRegion r f).live = s.live := rfl
@[simp] theorem State.modRegion_active (s : State) (r : Nat) (f : Region → Region) : (s.modRegion r f).active = s.active := rfl
@[simp] theorem State.modRegion_draft (s : State) (r : Nat) (f : Region → Region) : (s.modRegion r f).draft = s.draft := rfl
@[simp] theorem State.modRegion_taken (s : State) (r : Nat) (f : Region → Region) : (s.modRegion r f).taken = s.taken := rfl
@[simp] theorem State.modRegion_previous (s : State) (r : Nat) (f : Region → Region) : (s.modRegion r f).previous = s.previous := rfl
@[simp] theorem State.modRegion_mem (s : State) (r : Nat) (f : Region → Region) : (s.modRegion r f).mem = s.mem := rfl
@[simp] theorem State.modRegion_imem (s : State) (r : Nat) (f : Region → Region) : (s.modRegion r f).imem = s.imem := rfl
@[simp] theorem State.modRegion_ringWork (s : State) (r : Nat) (f : Region → Region) : (s.modRegion r f).ringWork = s.ringWork := rfl
@[simp] theorem State.modRegion_dir (s : State) (r : Nat) (f : Region → Region) : (s.modRegion r f).dir = s.dir := rfl
@[simp] theorem State.modRegion_fuses (s : State) (r : Nat) (f : Region → Region) : (s.modRegion r f).fuses = s.fuses := rfl
@[simp] theorem State.modRegion_boot (s : State) (r : Nat) (f : Region → Region) : (s.modRegion r f).boot = s.boot := rfl
@[simp] theorem State.modRegion_pins (s : State) (r : Nat) (f : Region → Region) : (s.modRegion r f).pins = s.pins := rfl
@[simp] theorem State.modRegion_fabric (s : State) (r : Nat) (f : Region → Region) : (s.modRegion r f).fabric = s.fabric := rfl
@[simp] theorem State.modRegion_mcan (s : State) (r : Nat) (f : Region → Region) : (s.modRegion r f).mcan = s.mcan := rfl
@[simp] theorem State.modRegion_insts (s : State) (r : Nat) (f : Region → Region) : (s.modRegion r f).insts = s.insts := rfl
@[simp] theorem State.modRegion_vfEnable (s : State) (r : Nat) (f : Region → Region) : (s.modRegion r f).vfEnable = s.vfEnable := rfl
@[simp] theorem State.modRegion_numVfs (s : State) (r : Nat) (f : Region → Region) : (s.modRegion r f).numVfs = s.numVfs := rfl
@[simp] theorem State.modRegion_ari (s : State) (r : Nat) (f : Region → Region) : (s.modRegion r f).ari = s.ari := rfl
@[simp] theorem State.modRegion_shed (s : State) (r : Nat) (f : Region → Region) : (s.modRegion r f).shed = s.shed := rfl
@[simp] theorem State.modRegion_worlds (s : State) (r : Nat) (f : Region → Region) : (s.modRegion r f).worlds = s.worlds := rfl
@[simp] theorem State.modRegion_power (s : State) (r : Nat) (f : Region → Region) : (s.modRegion r f).power = s.power := rfl
@[simp] theorem State.modRegion_sapflow (s : State) (r : Nat) (f : Region → Region) : (s.modRegion r f).sapflow = s.sapflow := rfl
@[simp] theorem State.modRegion_survey (s : State) (r : Nat) (f : Region → Region) : (s.modRegion r f).survey = s.survey := rfl
@[simp] theorem State.modRegion_health (s : State) (r : Nat) (f : Region → Region) : (s.modRegion r f).health = s.health := rfl
@[simp] theorem State.modRegion_heads (s : State) (r : Nat) (f : Region → Region) : (s.modRegion r f).heads = s.heads := rfl
@[simp] theorem State.modRegion_compose (s : State) (r : Nat) (f : Region → Region) : (s.modRegion r f).compose = s.compose := rfl
@[simp] theorem State.modRegion_canopy (s : State) (r : Nat) (f : Region → Region) : (s.modRegion r f).canopy = s.canopy := rfl
@[simp] theorem State.modRegion_regions (s : State) (r : Nat) (f : Region → Region) : (s.modRegion r f).regions = Tab.put s.regions r (f (s.region r)) := rfl
@[simp] theorem State.modRegion_pool (s : State) (r : Nat) (f : Region → Region) : (s.modRegion r f).pool = s.pool := rfl
@[simp] theorem State.modRegion_gfx (s : State) (r : Nat) (f : Region → Region) : (s.modRegion r f).gfx = s.gfx := rfl
@[simp] theorem State.modRegion_keys (s : State) (r : Nat) (f : Region → Region) : (s.modRegion r f).keys = s.keys := rfl
@[simp] theorem State.modRegion_haptics (s : State) (r : Nat) (f : Region → Region) : (s.modRegion r f).haptics = s.haptics := rfl
@[simp] theorem State.modRegion_reflex (s : State) (r : Nat) (f : Region → Region) : (s.modRegion r f).reflex = s.reflex := rfl
@[simp] theorem State.modRegion_onsets (s : State) (r : Nat) (f : Region → Region) : (s.modRegion r f).onsets = s.onsets := rfl
@[simp] theorem State.modRegion_audio (s : State) (r : Nat) (f : Region → Region) : (s.modRegion r f).audio = s.audio := rfl
@[simp] theorem State.modRegion_lanes (s : State) (r : Nat) (f : Region → Region) : (s.modRegion r f).lanes = s.lanes := rfl
@[simp] theorem State.modRegion_streams (s : State) (r : Nat) (f : Region → Region) : (s.modRegion r f).streams = s.streams := rfl
@[simp] theorem State.modRegion_out (s : State) (r : Nat) (f : Region → Region) : (s.modRegion r f).out = s.out := rfl

/-! ### setLive -/

@[simp] theorem State.setLive_pending (s : State) (i sub : Nat) (v : Val) : (s.setLive i sub v).pending = s.pending := rfl
@[simp] theorem State.setLive_now (s : State) (i sub : Nat) (v : Val) : (s.setLive i sub v).now = s.now := rfl
@[simp] theorem State.setLive_clock (s : State) (i sub : Nat) (v : Val) : (s.setLive i sub v).clock = s.clock := rfl
@[simp] theorem State.setLive_timeRuns (s : State) (i sub : Nat) (v : Val) : (s.setLive i sub v).timeRuns = s.timeRuns := rfl
@[simp] theorem State.setLive_part (s : State) (i sub : Nat) (v : Val) : (s.setLive i sub v).part = s.part := rfl
@[simp] theorem State.setLive_grade (s : State) (i sub : Nat) (v : Val) : (s.setLive i sub v).grade = s.grade := rfl
@[simp] theorem State.setLive_free (s : State) (i sub : Nat) (v : Val) : (s.setLive i sub v).free = s.free := rfl
@[simp] theorem State.setLive_live (s : State) (i sub : Nat) (v : Val) : (s.setLive i sub v).live = Tab.put s.live (entryKey i sub) v := rfl
@[simp] theorem State.setLive_active (s : State) (i sub : Nat) (v : Val) : (s.setLive i sub v).active = s.active := rfl
@[simp] theorem State.setLive_draft (s : State) (i sub : Nat) (v : Val) : (s.setLive i sub v).draft = s.draft := rfl
@[simp] theorem State.setLive_taken (s : State) (i sub : Nat) (v : Val) : (s.setLive i sub v).taken = s.taken := rfl
@[simp] theorem State.setLive_previous (s : State) (i sub : Nat) (v : Val) : (s.setLive i sub v).previous = s.previous := rfl
@[simp] theorem State.setLive_mem (s : State) (i sub : Nat) (v : Val) : (s.setLive i sub v).mem = s.mem := rfl
@[simp] theorem State.setLive_imem (s : State) (i sub : Nat) (v : Val) : (s.setLive i sub v).imem = s.imem := rfl
@[simp] theorem State.setLive_ringWork (s : State) (i sub : Nat) (v : Val) : (s.setLive i sub v).ringWork = s.ringWork := rfl
@[simp] theorem State.setLive_dir (s : State) (i sub : Nat) (v : Val) : (s.setLive i sub v).dir = s.dir := rfl
@[simp] theorem State.setLive_fuses (s : State) (i sub : Nat) (v : Val) : (s.setLive i sub v).fuses = s.fuses := rfl
@[simp] theorem State.setLive_boot (s : State) (i sub : Nat) (v : Val) : (s.setLive i sub v).boot = s.boot := rfl
@[simp] theorem State.setLive_pins (s : State) (i sub : Nat) (v : Val) : (s.setLive i sub v).pins = s.pins := rfl
@[simp] theorem State.setLive_fabric (s : State) (i sub : Nat) (v : Val) : (s.setLive i sub v).fabric = s.fabric := rfl
@[simp] theorem State.setLive_mcan (s : State) (i sub : Nat) (v : Val) : (s.setLive i sub v).mcan = s.mcan := rfl
@[simp] theorem State.setLive_insts (s : State) (i sub : Nat) (v : Val) : (s.setLive i sub v).insts = s.insts := rfl
@[simp] theorem State.setLive_vfEnable (s : State) (i sub : Nat) (v : Val) : (s.setLive i sub v).vfEnable = s.vfEnable := rfl
@[simp] theorem State.setLive_numVfs (s : State) (i sub : Nat) (v : Val) : (s.setLive i sub v).numVfs = s.numVfs := rfl
@[simp] theorem State.setLive_ari (s : State) (i sub : Nat) (v : Val) : (s.setLive i sub v).ari = s.ari := rfl
@[simp] theorem State.setLive_shed (s : State) (i sub : Nat) (v : Val) : (s.setLive i sub v).shed = s.shed := rfl
@[simp] theorem State.setLive_worlds (s : State) (i sub : Nat) (v : Val) : (s.setLive i sub v).worlds = s.worlds := rfl
@[simp] theorem State.setLive_power (s : State) (i sub : Nat) (v : Val) : (s.setLive i sub v).power = s.power := rfl
@[simp] theorem State.setLive_sapflow (s : State) (i sub : Nat) (v : Val) : (s.setLive i sub v).sapflow = s.sapflow := rfl
@[simp] theorem State.setLive_survey (s : State) (i sub : Nat) (v : Val) : (s.setLive i sub v).survey = s.survey := rfl
@[simp] theorem State.setLive_health (s : State) (i sub : Nat) (v : Val) : (s.setLive i sub v).health = s.health := rfl
@[simp] theorem State.setLive_heads (s : State) (i sub : Nat) (v : Val) : (s.setLive i sub v).heads = s.heads := rfl
@[simp] theorem State.setLive_compose (s : State) (i sub : Nat) (v : Val) : (s.setLive i sub v).compose = s.compose := rfl
@[simp] theorem State.setLive_canopy (s : State) (i sub : Nat) (v : Val) : (s.setLive i sub v).canopy = s.canopy := rfl
@[simp] theorem State.setLive_regions (s : State) (i sub : Nat) (v : Val) : (s.setLive i sub v).regions = s.regions := rfl
@[simp] theorem State.setLive_pool (s : State) (i sub : Nat) (v : Val) : (s.setLive i sub v).pool = s.pool := rfl
@[simp] theorem State.setLive_gfx (s : State) (i sub : Nat) (v : Val) : (s.setLive i sub v).gfx = s.gfx := rfl
@[simp] theorem State.setLive_keys (s : State) (i sub : Nat) (v : Val) : (s.setLive i sub v).keys = s.keys := rfl
@[simp] theorem State.setLive_haptics (s : State) (i sub : Nat) (v : Val) : (s.setLive i sub v).haptics = s.haptics := rfl
@[simp] theorem State.setLive_reflex (s : State) (i sub : Nat) (v : Val) : (s.setLive i sub v).reflex = s.reflex := rfl
@[simp] theorem State.setLive_onsets (s : State) (i sub : Nat) (v : Val) : (s.setLive i sub v).onsets = s.onsets := rfl
@[simp] theorem State.setLive_audio (s : State) (i sub : Nat) (v : Val) : (s.setLive i sub v).audio = s.audio := rfl
@[simp] theorem State.setLive_lanes (s : State) (i sub : Nat) (v : Val) : (s.setLive i sub v).lanes = s.lanes := rfl
@[simp] theorem State.setLive_streams (s : State) (i sub : Nat) (v : Val) : (s.setLive i sub v).streams = s.streams := rfl
@[simp] theorem State.setLive_out (s : State) (i sub : Nat) (v : Val) : (s.setLive i sub v).out = s.out := rfl

/-! ### arriveAt -/

@[simp] theorem State.arriveAt_pending (s : State) (t : Nat) : (s.arriveAt t).pending = s.pending := rfl
@[simp] theorem State.arriveAt_now (s : State) (t : Nat) : (s.arriveAt t).now = max s.now t := rfl
@[simp] theorem State.arriveAt_clock (s : State) (t : Nat) : (s.arriveAt t).clock = s.clock + (max s.now t - s.now) := rfl
@[simp] theorem State.arriveAt_timeRuns (s : State) (t : Nat) : (s.arriveAt t).timeRuns = s.timeRuns := rfl
@[simp] theorem State.arriveAt_part (s : State) (t : Nat) : (s.arriveAt t).part = s.part := rfl
@[simp] theorem State.arriveAt_grade (s : State) (t : Nat) : (s.arriveAt t).grade = s.grade := rfl
@[simp] theorem State.arriveAt_free (s : State) (t : Nat) : (s.arriveAt t).free = s.free := rfl
@[simp] theorem State.arriveAt_live (s : State) (t : Nat) : (s.arriveAt t).live = s.live := rfl
@[simp] theorem State.arriveAt_active (s : State) (t : Nat) : (s.arriveAt t).active = s.active := rfl
@[simp] theorem State.arriveAt_draft (s : State) (t : Nat) : (s.arriveAt t).draft = s.draft := rfl
@[simp] theorem State.arriveAt_taken (s : State) (t : Nat) : (s.arriveAt t).taken = s.taken := rfl
@[simp] theorem State.arriveAt_previous (s : State) (t : Nat) : (s.arriveAt t).previous = s.previous := rfl
@[simp] theorem State.arriveAt_mem (s : State) (t : Nat) : (s.arriveAt t).mem = s.mem := rfl
@[simp] theorem State.arriveAt_imem (s : State) (t : Nat) : (s.arriveAt t).imem = s.imem := rfl
@[simp] theorem State.arriveAt_ringWork (s : State) (t : Nat) : (s.arriveAt t).ringWork = s.ringWork := rfl
@[simp] theorem State.arriveAt_dir (s : State) (t : Nat) : (s.arriveAt t).dir = s.dir := rfl
@[simp] theorem State.arriveAt_fuses (s : State) (t : Nat) : (s.arriveAt t).fuses = s.fuses := rfl
@[simp] theorem State.arriveAt_boot (s : State) (t : Nat) : (s.arriveAt t).boot = s.boot := rfl
@[simp] theorem State.arriveAt_pins (s : State) (t : Nat) : (s.arriveAt t).pins = s.pins := rfl
@[simp] theorem State.arriveAt_fabric (s : State) (t : Nat) : (s.arriveAt t).fabric = s.fabric := rfl
@[simp] theorem State.arriveAt_mcan (s : State) (t : Nat) : (s.arriveAt t).mcan = s.mcan := rfl
@[simp] theorem State.arriveAt_insts (s : State) (t : Nat) : (s.arriveAt t).insts = s.insts := rfl
@[simp] theorem State.arriveAt_vfEnable (s : State) (t : Nat) : (s.arriveAt t).vfEnable = s.vfEnable := rfl
@[simp] theorem State.arriveAt_numVfs (s : State) (t : Nat) : (s.arriveAt t).numVfs = s.numVfs := rfl
@[simp] theorem State.arriveAt_ari (s : State) (t : Nat) : (s.arriveAt t).ari = s.ari := rfl
@[simp] theorem State.arriveAt_shed (s : State) (t : Nat) : (s.arriveAt t).shed = s.shed := rfl
@[simp] theorem State.arriveAt_worlds (s : State) (t : Nat) : (s.arriveAt t).worlds = s.worlds := rfl
@[simp] theorem State.arriveAt_power (s : State) (t : Nat) : (s.arriveAt t).power = s.power := rfl
@[simp] theorem State.arriveAt_sapflow (s : State) (t : Nat) : (s.arriveAt t).sapflow = s.sapflow := rfl
@[simp] theorem State.arriveAt_survey (s : State) (t : Nat) : (s.arriveAt t).survey = s.survey := rfl
@[simp] theorem State.arriveAt_health (s : State) (t : Nat) : (s.arriveAt t).health = s.health := rfl
@[simp] theorem State.arriveAt_heads (s : State) (t : Nat) : (s.arriveAt t).heads = s.heads := rfl
@[simp] theorem State.arriveAt_compose (s : State) (t : Nat) : (s.arriveAt t).compose = s.compose := rfl
@[simp] theorem State.arriveAt_canopy (s : State) (t : Nat) : (s.arriveAt t).canopy = s.canopy := rfl
@[simp] theorem State.arriveAt_regions (s : State) (t : Nat) : (s.arriveAt t).regions = s.regions := rfl
@[simp] theorem State.arriveAt_pool (s : State) (t : Nat) : (s.arriveAt t).pool = s.pool := rfl
@[simp] theorem State.arriveAt_gfx (s : State) (t : Nat) : (s.arriveAt t).gfx = s.gfx := rfl
@[simp] theorem State.arriveAt_keys (s : State) (t : Nat) : (s.arriveAt t).keys = s.keys := rfl
@[simp] theorem State.arriveAt_haptics (s : State) (t : Nat) : (s.arriveAt t).haptics = s.haptics := rfl
@[simp] theorem State.arriveAt_reflex (s : State) (t : Nat) : (s.arriveAt t).reflex = s.reflex := rfl
@[simp] theorem State.arriveAt_onsets (s : State) (t : Nat) : (s.arriveAt t).onsets = s.onsets := rfl
@[simp] theorem State.arriveAt_audio (s : State) (t : Nat) : (s.arriveAt t).audio = s.audio := rfl
@[simp] theorem State.arriveAt_lanes (s : State) (t : Nat) : (s.arriveAt t).lanes = s.lanes := rfl
@[simp] theorem State.arriveAt_streams (s : State) (t : Nat) : (s.arriveAt t).streams = s.streams := rfl
@[simp] theorem State.arriveAt_out (s : State) (t : Nat) : (s.arriveAt t).out = s.out := rfl

/-! ### useFree -/

@[simp] theorem State.useFree_pending (s : State)  : (s.useFree).pending = s.pending := rfl
@[simp] theorem State.useFree_now (s : State)  : (s.useFree).now = s.now := rfl
@[simp] theorem State.useFree_clock (s : State)  : (s.useFree).clock = s.clock := rfl
@[simp] theorem State.useFree_timeRuns (s : State)  : (s.useFree).timeRuns = s.timeRuns := rfl
@[simp] theorem State.useFree_part (s : State)  : (s.useFree).part = s.part := rfl
@[simp] theorem State.useFree_grade (s : State)  : (s.useFree).grade = s.grade := rfl
@[simp] theorem State.useFree_free (s : State)  : (s.useFree).free = s.free + 1 := rfl
@[simp] theorem State.useFree_live (s : State)  : (s.useFree).live = s.live := rfl
@[simp] theorem State.useFree_active (s : State)  : (s.useFree).active = s.active := rfl
@[simp] theorem State.useFree_draft (s : State)  : (s.useFree).draft = s.draft := rfl
@[simp] theorem State.useFree_taken (s : State)  : (s.useFree).taken = s.taken := rfl
@[simp] theorem State.useFree_previous (s : State)  : (s.useFree).previous = s.previous := rfl
@[simp] theorem State.useFree_mem (s : State)  : (s.useFree).mem = s.mem := rfl
@[simp] theorem State.useFree_imem (s : State)  : (s.useFree).imem = s.imem := rfl
@[simp] theorem State.useFree_ringWork (s : State)  : (s.useFree).ringWork = s.ringWork := rfl
@[simp] theorem State.useFree_dir (s : State)  : (s.useFree).dir = s.dir := rfl
@[simp] theorem State.useFree_fuses (s : State)  : (s.useFree).fuses = s.fuses := rfl
@[simp] theorem State.useFree_boot (s : State)  : (s.useFree).boot = s.boot := rfl
@[simp] theorem State.useFree_pins (s : State)  : (s.useFree).pins = s.pins := rfl
@[simp] theorem State.useFree_fabric (s : State)  : (s.useFree).fabric = s.fabric := rfl
@[simp] theorem State.useFree_mcan (s : State)  : (s.useFree).mcan = s.mcan := rfl
@[simp] theorem State.useFree_insts (s : State)  : (s.useFree).insts = s.insts := rfl
@[simp] theorem State.useFree_vfEnable (s : State)  : (s.useFree).vfEnable = s.vfEnable := rfl
@[simp] theorem State.useFree_numVfs (s : State)  : (s.useFree).numVfs = s.numVfs := rfl
@[simp] theorem State.useFree_ari (s : State)  : (s.useFree).ari = s.ari := rfl
@[simp] theorem State.useFree_shed (s : State)  : (s.useFree).shed = s.shed := rfl
@[simp] theorem State.useFree_worlds (s : State)  : (s.useFree).worlds = s.worlds := rfl
@[simp] theorem State.useFree_power (s : State)  : (s.useFree).power = s.power := rfl
@[simp] theorem State.useFree_sapflow (s : State)  : (s.useFree).sapflow = s.sapflow := rfl
@[simp] theorem State.useFree_survey (s : State)  : (s.useFree).survey = s.survey := rfl
@[simp] theorem State.useFree_health (s : State)  : (s.useFree).health = s.health := rfl
@[simp] theorem State.useFree_heads (s : State)  : (s.useFree).heads = s.heads := rfl
@[simp] theorem State.useFree_compose (s : State)  : (s.useFree).compose = s.compose := rfl
@[simp] theorem State.useFree_canopy (s : State)  : (s.useFree).canopy = s.canopy := rfl
@[simp] theorem State.useFree_regions (s : State)  : (s.useFree).regions = s.regions := rfl
@[simp] theorem State.useFree_pool (s : State)  : (s.useFree).pool = s.pool := rfl
@[simp] theorem State.useFree_gfx (s : State)  : (s.useFree).gfx = s.gfx := rfl
@[simp] theorem State.useFree_keys (s : State)  : (s.useFree).keys = s.keys := rfl
@[simp] theorem State.useFree_haptics (s : State)  : (s.useFree).haptics = s.haptics := rfl
@[simp] theorem State.useFree_reflex (s : State)  : (s.useFree).reflex = s.reflex := rfl
@[simp] theorem State.useFree_onsets (s : State)  : (s.useFree).onsets = s.onsets := rfl
@[simp] theorem State.useFree_audio (s : State)  : (s.useFree).audio = s.audio := rfl
@[simp] theorem State.useFree_lanes (s : State)  : (s.useFree).lanes = s.lanes := rfl
@[simp] theorem State.useFree_streams (s : State)  : (s.useFree).streams = s.streams := rfl
@[simp] theorem State.useFree_out (s : State)  : (s.useFree).out = s.out := rfl

/-! ### takeUp -/

@[simp] theorem State.takeUp_pending (s : State) (p : Nat → Bool) : (s.takeUp p).pending = s.pending := rfl
@[simp] theorem State.takeUp_now (s : State) (p : Nat → Bool) : (s.takeUp p).now = s.now := rfl
@[simp] theorem State.takeUp_clock (s : State) (p : Nat → Bool) : (s.takeUp p).clock = s.clock := rfl
@[simp] theorem State.takeUp_timeRuns (s : State) (p : Nat → Bool) : (s.takeUp p).timeRuns = s.timeRuns := rfl
@[simp] theorem State.takeUp_part (s : State) (p : Nat → Bool) : (s.takeUp p).part = s.part := rfl
@[simp] theorem State.takeUp_grade (s : State) (p : Nat → Bool) : (s.takeUp p).grade = s.grade := rfl
@[simp] theorem State.takeUp_free (s : State) (p : Nat → Bool) : (s.takeUp p).free = s.free := rfl
@[simp] theorem State.takeUp_live (s : State) (p : Nat → Bool) : (s.takeUp p).live = s.live := rfl
@[simp] theorem State.takeUp_active (s : State) (p : Nat → Bool) : (s.takeUp p).active = s.active := rfl
@[simp] theorem State.takeUp_draft (s : State) (p : Nat → Bool) : (s.takeUp p).draft = s.draft := rfl
@[simp] theorem State.takeUp_previous (s : State) (p : Nat → Bool) : (s.takeUp p).previous = s.previous := rfl
@[simp] theorem State.takeUp_mem (s : State) (p : Nat → Bool) : (s.takeUp p).mem = s.mem := rfl
@[simp] theorem State.takeUp_imem (s : State) (p : Nat → Bool) : (s.takeUp p).imem = s.imem := rfl
@[simp] theorem State.takeUp_ringWork (s : State) (p : Nat → Bool) : (s.takeUp p).ringWork = s.ringWork := rfl
@[simp] theorem State.takeUp_dir (s : State) (p : Nat → Bool) : (s.takeUp p).dir = s.dir := rfl
@[simp] theorem State.takeUp_fuses (s : State) (p : Nat → Bool) : (s.takeUp p).fuses = s.fuses := rfl
@[simp] theorem State.takeUp_boot (s : State) (p : Nat → Bool) : (s.takeUp p).boot = s.boot := rfl
@[simp] theorem State.takeUp_pins (s : State) (p : Nat → Bool) : (s.takeUp p).pins = s.pins := rfl
@[simp] theorem State.takeUp_fabric (s : State) (p : Nat → Bool) : (s.takeUp p).fabric = s.fabric := rfl
@[simp] theorem State.takeUp_mcan (s : State) (p : Nat → Bool) : (s.takeUp p).mcan = s.mcan := rfl
@[simp] theorem State.takeUp_insts (s : State) (p : Nat → Bool) : (s.takeUp p).insts = s.insts := rfl
@[simp] theorem State.takeUp_vfEnable (s : State) (p : Nat → Bool) : (s.takeUp p).vfEnable = s.vfEnable := rfl
@[simp] theorem State.takeUp_numVfs (s : State) (p : Nat → Bool) : (s.takeUp p).numVfs = s.numVfs := rfl
@[simp] theorem State.takeUp_ari (s : State) (p : Nat → Bool) : (s.takeUp p).ari = s.ari := rfl
@[simp] theorem State.takeUp_shed (s : State) (p : Nat → Bool) : (s.takeUp p).shed = s.shed := rfl
@[simp] theorem State.takeUp_worlds (s : State) (p : Nat → Bool) : (s.takeUp p).worlds = s.worlds := rfl
@[simp] theorem State.takeUp_power (s : State) (p : Nat → Bool) : (s.takeUp p).power = s.power := rfl
@[simp] theorem State.takeUp_sapflow (s : State) (p : Nat → Bool) : (s.takeUp p).sapflow = s.sapflow := rfl
@[simp] theorem State.takeUp_survey (s : State) (p : Nat → Bool) : (s.takeUp p).survey = s.survey := rfl
@[simp] theorem State.takeUp_health (s : State) (p : Nat → Bool) : (s.takeUp p).health = s.health := rfl
@[simp] theorem State.takeUp_heads (s : State) (p : Nat → Bool) : (s.takeUp p).heads = s.heads := rfl
@[simp] theorem State.takeUp_compose (s : State) (p : Nat → Bool) : (s.takeUp p).compose = s.compose := rfl
@[simp] theorem State.takeUp_canopy (s : State) (p : Nat → Bool) : (s.takeUp p).canopy = s.canopy := rfl
@[simp] theorem State.takeUp_regions (s : State) (p : Nat → Bool) : (s.takeUp p).regions = s.regions := rfl
@[simp] theorem State.takeUp_pool (s : State) (p : Nat → Bool) : (s.takeUp p).pool = s.pool := rfl
@[simp] theorem State.takeUp_gfx (s : State) (p : Nat → Bool) : (s.takeUp p).gfx = s.gfx := rfl
@[simp] theorem State.takeUp_keys (s : State) (p : Nat → Bool) : (s.takeUp p).keys = s.keys := rfl
@[simp] theorem State.takeUp_haptics (s : State) (p : Nat → Bool) : (s.takeUp p).haptics = s.haptics := rfl
@[simp] theorem State.takeUp_reflex (s : State) (p : Nat → Bool) : (s.takeUp p).reflex = s.reflex := rfl
@[simp] theorem State.takeUp_onsets (s : State) (p : Nat → Bool) : (s.takeUp p).onsets = s.onsets := rfl
@[simp] theorem State.takeUp_audio (s : State) (p : Nat → Bool) : (s.takeUp p).audio = s.audio := rfl
@[simp] theorem State.takeUp_lanes (s : State) (p : Nat → Bool) : (s.takeUp p).lanes = s.lanes := rfl
@[simp] theorem State.takeUp_streams (s : State) (p : Nat → Bool) : (s.takeUp p).streams = s.streams := rfl
@[simp] theorem State.takeUp_out (s : State) (p : Nat → Bool) : (s.takeUp p).out = s.out := rfl

/-! ### driveSvc -/

@[simp] theorem State.driveSvc_pending (s : State)  : (s.driveSvc).pending = s.pending := rfl
@[simp] theorem State.driveSvc_now (s : State)  : (s.driveSvc).now = s.now := rfl
@[simp] theorem State.driveSvc_clock (s : State)  : (s.driveSvc).clock = s.clock := rfl
@[simp] theorem State.driveSvc_timeRuns (s : State)  : (s.driveSvc).timeRuns = s.timeRuns := rfl
@[simp] theorem State.driveSvc_part (s : State)  : (s.driveSvc).part = s.part := rfl
@[simp] theorem State.driveSvc_grade (s : State)  : (s.driveSvc).grade = s.grade := rfl
@[simp] theorem State.driveSvc_free (s : State)  : (s.driveSvc).free = s.free := rfl
@[simp] theorem State.driveSvc_live (s : State)  : (s.driveSvc).live = Tab.put s.live (entryKey 0x2700 5) (.num 1) := rfl
@[simp] theorem State.driveSvc_active (s : State)  : (s.driveSvc).active = s.active := rfl
@[simp] theorem State.driveSvc_draft (s : State)  : (s.driveSvc).draft = s.draft := rfl
@[simp] theorem State.driveSvc_taken (s : State)  : (s.driveSvc).taken = s.taken := rfl
@[simp] theorem State.driveSvc_previous (s : State)  : (s.driveSvc).previous = s.previous := rfl
@[simp] theorem State.driveSvc_mem (s : State)  : (s.driveSvc).mem = s.mem := rfl
@[simp] theorem State.driveSvc_imem (s : State)  : (s.driveSvc).imem = s.imem := rfl
@[simp] theorem State.driveSvc_ringWork (s : State)  : (s.driveSvc).ringWork = s.ringWork := rfl
@[simp] theorem State.driveSvc_dir (s : State)  : (s.driveSvc).dir = s.dir := rfl
@[simp] theorem State.driveSvc_fuses (s : State)  : (s.driveSvc).fuses = s.fuses := rfl
@[simp] theorem State.driveSvc_boot (s : State)  : (s.driveSvc).boot = s.boot := rfl
@[simp] theorem State.driveSvc_pins (s : State)  : (s.driveSvc).pins = { s.pins with svcReqLow := true } := rfl
@[simp] theorem State.driveSvc_fabric (s : State)  : (s.driveSvc).fabric = s.fabric := rfl
@[simp] theorem State.driveSvc_mcan (s : State)  : (s.driveSvc).mcan = s.mcan := rfl
@[simp] theorem State.driveSvc_insts (s : State)  : (s.driveSvc).insts = s.insts := rfl
@[simp] theorem State.driveSvc_vfEnable (s : State)  : (s.driveSvc).vfEnable = s.vfEnable := rfl
@[simp] theorem State.driveSvc_numVfs (s : State)  : (s.driveSvc).numVfs = s.numVfs := rfl
@[simp] theorem State.driveSvc_ari (s : State)  : (s.driveSvc).ari = s.ari := rfl
@[simp] theorem State.driveSvc_shed (s : State)  : (s.driveSvc).shed = s.shed := rfl
@[simp] theorem State.driveSvc_worlds (s : State)  : (s.driveSvc).worlds = s.worlds := rfl
@[simp] theorem State.driveSvc_power (s : State)  : (s.driveSvc).power = s.power := rfl
@[simp] theorem State.driveSvc_sapflow (s : State)  : (s.driveSvc).sapflow = s.sapflow := rfl
@[simp] theorem State.driveSvc_survey (s : State)  : (s.driveSvc).survey = s.survey := rfl
@[simp] theorem State.driveSvc_health (s : State)  : (s.driveSvc).health = s.health := rfl
@[simp] theorem State.driveSvc_heads (s : State)  : (s.driveSvc).heads = s.heads := rfl
@[simp] theorem State.driveSvc_compose (s : State)  : (s.driveSvc).compose = s.compose := rfl
@[simp] theorem State.driveSvc_canopy (s : State)  : (s.driveSvc).canopy = s.canopy := rfl
@[simp] theorem State.driveSvc_regions (s : State)  : (s.driveSvc).regions = s.regions := rfl
@[simp] theorem State.driveSvc_pool (s : State)  : (s.driveSvc).pool = s.pool := rfl
@[simp] theorem State.driveSvc_gfx (s : State)  : (s.driveSvc).gfx = s.gfx := rfl
@[simp] theorem State.driveSvc_keys (s : State)  : (s.driveSvc).keys = s.keys := rfl
@[simp] theorem State.driveSvc_haptics (s : State)  : (s.driveSvc).haptics = s.haptics := rfl
@[simp] theorem State.driveSvc_reflex (s : State)  : (s.driveSvc).reflex = s.reflex := rfl
@[simp] theorem State.driveSvc_onsets (s : State)  : (s.driveSvc).onsets = s.onsets := rfl
@[simp] theorem State.driveSvc_audio (s : State)  : (s.driveSvc).audio = s.audio := rfl
@[simp] theorem State.driveSvc_lanes (s : State)  : (s.driveSvc).lanes = s.lanes := rfl
@[simp] theorem State.driveSvc_streams (s : State)  : (s.driveSvc).streams = s.streams := rfl
@[simp] theorem State.driveSvc_out (s : State)  : (s.driveSvc).out = s.out := rfl

/-! ### Reading a block structure after an update of one -/

@[simp] theorem State.inst_setInst (s : State) (i j : Nat) (x : Inst) : (s.setInst i x).inst j = if i = j then x else s.inst j := by
  simp [State.inst, State.setInst]
@[simp] theorem State.inst_modInst (s : State) (i j : Nat) (f : Inst → Inst) :
    (s.modInst i f).inst j = if i = j then f (s.inst i) else s.inst j := by simp [State.modInst]
@[simp] theorem State.head_modHead (s : State) (h k : Nat) (f : Head → Head) :
    (s.modHead h f).head k = if h = k then f (s.head h) else s.head k := by simp [State.head]
@[simp] theorem State.comp_modComp (s : State) (h k : Nat) (f : Composer → Composer) :
    (s.modComp h f).comp k = if h = k then f (s.comp h) else s.comp k := by simp [State.comp]
@[simp] theorem State.cano_modCano (s : State) (h k : Nat) (f : Canopy → Canopy) :
    (s.modCano h f).cano k = if h = k then f (s.cano h) else s.cano k := by simp [State.cano]
@[simp] theorem State.region_modRegion (s : State) (r k : Nat) (f : Region → Region) :
    (s.modRegion r f).region k = if r = k then f (s.region r) else s.region k := by simp [State.region]
@[simp] theorem State.sq_modSq (s : State) (i q : Nat) (f : Sq → Sq) : (s.modSq i q f).sq i q = f (s.sq i q) := by
  simp [State.sq, State.modSq]

/-! ### Reading an entry after an update of one -/

/-- A live entry after one was set. -/
theorem State.liveAt_setLive (s : State) (i sub j k : Nat) (v : Val) :
    (s.setLive i sub v).liveAt j k = if entryKey i sub = entryKey j k then v else s.liveAt j k := by simp [State.liveAt]
/-- An entry's value depends on the live store, the part and the grade alone. -/
theorem State.liveAt_congr (s t : State) (h1 : t.live = s.live) (h2 : t.part = s.part) (h3 : t.grade = s.grade) (i sub : Nat) :
    t.liveAt i sub = s.liveAt i sub := by simp [State.liveAt, h1, h2, h3]

@[simp] theorem State.liveAt_setInst (s : State) (i : Nat) (x : Inst) (j k : Nat) : (s.setInst i x).liveAt j k = s.liveAt j k := rfl
@[simp] theorem State.reg_setInst (s : State) (i : Nat) (x : Inst) (j k : Nat) : (s.setInst i x).reg j k = s.reg j k := rfl
@[simp] theorem State.cfg_setInst (s : State) (i : Nat) (x : Inst) (j k : Nat) : (s.setInst i x).cfg j k = s.cfg j k := rfl
@[simp] theorem State.liveAt_modInst (s : State) (i : Nat) (f : Inst → Inst) (j k : Nat) : (s.modInst i f).liveAt j k = s.liveAt j k := rfl
@[simp] theorem State.reg_modInst (s : State) (i : Nat) (f : Inst → Inst) (j k : Nat) : (s.modInst i f).reg j k = s.reg j k := rfl
@[simp] theorem State.cfg_modInst (s : State) (i : Nat) (f : Inst → Inst) (j k : Nat) : (s.modInst i f).cfg j k = s.cfg j k := rfl
@[simp] theorem State.liveAt_modSq (s : State) (i q : Nat) (f : Sq → Sq) (j k : Nat) : (s.modSq i q f).liveAt j k = s.liveAt j k := rfl
@[simp] theorem State.reg_modSq (s : State) (i q : Nat) (f : Sq → Sq) (j k : Nat) : (s.modSq i q f).reg j k = s.reg j k := rfl
@[simp] theorem State.cfg_modSq (s : State) (i q : Nat) (f : Sq → Sq) (j k : Nat) : (s.modSq i q f).cfg j k = s.cfg j k := rfl
@[simp] theorem State.liveAt_modHead (s : State) (h : Nat) (f : Head → Head) (j k : Nat) : (s.modHead h f).liveAt j k = s.liveAt j k := rfl
@[simp] theorem State.reg_modHead (s : State) (h : Nat) (f : Head → Head) (j k : Nat) : (s.modHead h f).reg j k = s.reg j k := rfl
@[simp] theorem State.cfg_modHead (s : State) (h : Nat) (f : Head → Head) (j k : Nat) : (s.modHead h f).cfg j k = s.cfg j k := rfl
@[simp] theorem State.liveAt_modComp (s : State) (h : Nat) (f : Composer → Composer) (j k : Nat) : (s.modComp h f).liveAt j k = s.liveAt j k := rfl
@[simp] theorem State.reg_modComp (s : State) (h : Nat) (f : Composer → Composer) (j k : Nat) : (s.modComp h f).reg j k = s.reg j k := rfl
@[simp] theorem State.cfg_modComp (s : State) (h : Nat) (f : Composer → Composer) (j k : Nat) : (s.modComp h f).cfg j k = s.cfg j k := rfl
@[simp] theorem State.liveAt_modCano (s : State) (h : Nat) (f : Canopy → Canopy) (j k : Nat) : (s.modCano h f).liveAt j k = s.liveAt j k := rfl
@[simp] theorem State.reg_modCano (s : State) (h : Nat) (f : Canopy → Canopy) (j k : Nat) : (s.modCano h f).reg j k = s.reg j k := rfl
@[simp] theorem State.cfg_modCano (s : State) (h : Nat) (f : Canopy → Canopy) (j k : Nat) : (s.modCano h f).cfg j k = s.cfg j k := rfl
@[simp] theorem State.liveAt_modRegion (s : State) (r : Nat) (f : Region → Region) (j k : Nat) : (s.modRegion r f).liveAt j k = s.liveAt j k := rfl
@[simp] theorem State.reg_modRegion (s : State) (r : Nat) (f : Region → Region) (j k : Nat) : (s.modRegion r f).reg j k = s.reg j k := rfl
@[simp] theorem State.cfg_modRegion (s : State) (r : Nat) (f : Region → Region) (j k : Nat) : (s.modRegion r f).cfg j k = s.cfg j k := rfl
@[simp] theorem State.liveAt_arriveAt (s : State) (t : Nat) (j k : Nat) : (s.arriveAt t).liveAt j k = s.liveAt j k := rfl
@[simp] theorem State.reg_arriveAt (s : State) (t : Nat) (j k : Nat) : (s.arriveAt t).reg j k = s.reg j k := rfl
@[simp] theorem State.cfg_arriveAt (s : State) (t : Nat) (j k : Nat) : (s.arriveAt t).cfg j k = s.cfg j k := rfl
@[simp] theorem State.liveAt_useFree (s : State)  (j k : Nat) : (s.useFree).liveAt j k = s.liveAt j k := rfl
@[simp] theorem State.reg_useFree (s : State)  (j k : Nat) : (s.useFree).reg j k = s.reg j k := rfl
@[simp] theorem State.cfg_useFree (s : State)  (j k : Nat) : (s.useFree).cfg j k = s.cfg j k := rfl
@[simp] theorem State.liveAt_takeUp (s : State) (p : Nat → Bool) (j k : Nat) : (s.takeUp p).liveAt j k = s.liveAt j k := rfl
@[simp] theorem State.reg_takeUp (s : State) (p : Nat → Bool) (j k : Nat) : (s.takeUp p).reg j k = s.reg j k := rfl
@[simp] theorem State.cfg_takeUp (s : State) (p : Nat → Bool) (j k : Nat) : (s.takeUp p).cfg j k = s.cfg j k := rfl
@[simp] theorem State.cfg_setLive (s : State) (i sub : Nat) (v : Val) (j k : Nat) : (s.setLive i sub v).cfg j k = s.cfg j k := rfl
theorem State.reg_setLive (s : State) (i sub j k : Nat) (v : Val) :
    (s.setLive i sub v).reg j k = if entryKey i sub = entryKey j k then v.toInt.toNat else s.reg j k := by
  simp only [State.reg, State.regI, State.liveAt_setLive]; split <;> rfl

end Sys2Proof.Machine
end

