-- ==== Sys2Proof/Laws/Effect.lean ====
section
/-! SUPPORT. What a function of the state may change, said once: `Eff c s t` says that t differs from s in the fields of the mask c alone (bit
n is the n-th field of State), that both memories keep their canonical form, and that fuses are one-way. -/
namespace Sys2Proof.Machine

/-- s with the fields of a mask taken from t. -/
def State.mask (c : Nat) (s t : State) : State :=
  State.mk (cond (Nat.testBit c 0) t.pending s.pending) (cond (Nat.testBit c 1) t.now s.now) (cond (Nat.testBit c 2) t.clock s.clock) (cond (Nat.testBit c 3) t.timeRuns s.timeRuns) (cond (Nat.testBit c 4) t.part s.part) (cond (Nat.testBit c 5) t.grade s.grade) (cond (Nat.testBit c 6) t.free s.free) (cond (Nat.testBit c 7) t.live s.live) (cond (Nat.testBit c 8) t.active s.active) (cond (Nat.testBit c 9) t.draft s.draft) (cond (Nat.testBit c 10) t.taken s.taken) (cond (Nat.testBit c 11) t.previous s.previous) (cond (Nat.testBit c 12) t.mem s.mem) (cond (Nat.testBit c 13) t.imem s.imem) (cond (Nat.testBit c 14) t.ringWork s.ringWork) (cond (Nat.testBit c 15) t.dir s.dir) (cond (Nat.testBit c 16) t.fuses s.fuses) (cond (Nat.testBit c 17) t.boot s.boot) (cond (Nat.testBit c 18) t.pins s.pins) (cond (Nat.testBit c 19) t.fabric s.fabric) (cond (Nat.testBit c 20) t.mcan s.mcan) (cond (Nat.testBit c 21) t.insts s.insts) (cond (Nat.testBit c 22) t.vfEnable s.vfEnable) (cond (Nat.testBit c 23) t.numVfs s.numVfs) (cond (Nat.testBit c 24) t.ari s.ari) (cond (Nat.testBit c 25) t.shed s.shed) (cond (Nat.testBit c 26) t.worlds s.worlds) (cond (Nat.testBit c 27) t.power s.power) (cond (Nat.testBit c 28) t.sapflow s.sapflow) (cond (Nat.testBit c 29) t.survey s.survey) (cond (Nat.testBit c 30) t.health s.health) (cond (Nat.testBit c 31) t.heads s.heads) (cond (Nat.testBit c 32) t.compose s.compose) (cond (Nat.testBit c 33) t.canopy s.canopy) (cond (Nat.testBit c 34) t.regions s.regions) (cond (Nat.testBit c 35) t.pool s.pool) (cond (Nat.testBit c 36) t.gfx s.gfx) (cond (Nat.testBit c 37) t.keys s.keys) (cond (Nat.testBit c 38) t.haptics s.haptics) (cond (Nat.testBit c 39) t.reflex s.reflex) (cond (Nat.testBit c 40) t.onsets s.onsets) (cond (Nat.testBit c 41) t.audio s.audio) (cond (Nat.testBit c 42) t.lanes s.lanes) (cond (Nat.testBit c 43) t.streams s.streams) (cond (Nat.testBit c 44) t.out s.out)

/-- The effect of a step or of a part of one. -/
structure Eff (c : Nat) (s t : State) : Prop where
  frame : t = State.mask c s t
  mem   : Memory.wf s.mem = true → Memory.wf t.mem = true
  imem  : Memory.wf s.imem = true → Memory.wf t.imem = true
  fuses : s.fuses.kept t.fuses

theorem Fuses.kept_refl (a : Fuses) : a.kept a := ⟨le_refl _, fun _ h => h, fun _ h => h, rfl, rfl⟩
theorem Fuses.kept_trans {a b c : Fuses} (h : a.kept b) (k : b.kept c) : a.kept c :=
  ⟨le_trans h.1 k.1, fun n x => k.2.1 n (h.2.1 n x), fun n x => k.2.2.1 n (h.2.2.1 n x), h.2.2.2.1.trans k.2.2.2.1,
   h.2.2.2.2.trans k.2.2.2.2⟩

theorem State.mask_self (c : Nat) (s : State) : s = State.mask c s s := by
  cases s; simp only [State.mask, Bool.cond_self]

/-- Masks compose. -/
theorem State.mask_trans {c : Nat} {s x t : State} (h : x = State.mask c s x) (k : t = State.mask c x t) : t = State.mask c s t := by
  have aux : ∀ {α : Type} (b : Bool) (x y z : α), cond b x (cond b y z) = cond b (cond b x (cond b y z)) z := fun b x y z => by cases b <;> rfl
  rw [k, h]; simp only [State.mask]; congr 1 <;> exact aux _ _ _ _

theorem State.mask_mono {c d : Nat} {s t : State} (h : t = State.mask c s t) (hd : c ||| d = d) : t = State.mask d s t := by
  have key : ∀ n, Nat.testBit d n = false → Nat.testBit c n = false := fun n hn => by
    rw [← hd, Nat.testBit_or] at hn; simp only [Bool.or_eq_false_iff] at hn; exact hn.1
  have aux : ∀ {α : Type} (n : Nat) (x y z : α), x = cond (Nat.testBit c n) y z → x = cond (Nat.testBit d n) x z := fun n x y z e => by
    cases hn : Nat.testBit d n
    · rw [key n hn] at e; exact e
    · rfl
  cases t
  injection h with h0 h1 h2 h3 h4 h5 h6 h7 h8 h9 h10 h11 h12 h13 h14 h15 h16 h17 h18 h19 h20 h21 h22 h23 h24 h25 h26 h27 h28 h29 h30 h31 h32 h33 h34 h35 h36 h37 h38 h39 h40 h41 h42 h43 h44
  simp only [State.mask]
  congr 1
  · exact aux 0 _ _ _ h0
  · exact aux 1 _ _ _ h1
  · exact aux 2 _ _ _ h2
  · exact aux 3 _ _ _ h3
  · exact aux 4 _ _ _ h4
  · exact aux 5 _ _ _ h5
  · exact aux 6 _ _ _ h6
  · exact aux 7 _ _ _ h7
  · exact aux 8 _ _ _ h8
  · exact aux 9 _ _ _ h9
  · exact aux 10 _ _ _ h10
  · exact aux 11 _ _ _ h11
  · exact aux 12 _ _ _ h12
  · exact aux 13 _ _ _ h13
  · exact aux 14 _ _ _ h14
  · exact aux 15 _ _ _ h15
  · exact aux 16 _ _ _ h16
  · exact aux 17 _ _ _ h17
  · exact aux 18 _ _ _ h18
  · exact aux 19 _ _ _ h19
  · exact aux 20 _ _ _ h20
  · exact aux 21 _ _ _ h21
  · exact aux 22 _ _ _ h22
  · exact aux 23 _ _ _ h23
  · exact aux 24 _ _ _ h24
  · exact aux 25 _ _ _ h25
  · exact aux 26 _ _ _ h26
  · exact aux 27 _ _ _ h27
  · exact aux 28 _ _ _ h28
  · exact aux 29 _ _ _ h29
  · exact aux 30 _ _ _ h30
  · exact aux 31 _ _ _ h31
  · exact aux 32 _ _ _ h32
  · exact aux 33 _ _ _ h33
  · exact aux 34 _ _ _ h34
  · exact aux 35 _ _ _ h35
  · exact aux 36 _ _ _ h36
  · exact aux 37 _ _ _ h37
  · exact aux 38 _ _ _ h38
  · exact aux 39 _ _ _ h39
  · exact aux 40 _ _ _ h40
  · exact aux 41 _ _ _ h41
  · exact aux 42 _ _ _ h42
  · exact aux 43 _ _ _ h43
  · exact aux 44 _ _ _ h44

theorem Eff.refl (c : Nat) (s : State) : Eff c s s := ⟨State.mask_self c s, id, id, Fuses.kept_refl _⟩

/-- A mask lies within a mask. -/
def Within (d c : Nat) : Prop := d ||| c = c
theorem Within.intro {d c : Nat} (h : d ||| c = c) : Within d c := h

/-- A function applied after what came before. -/
theorem Eff.call {c d : Nat} {s x y : State} (h : Eff c s x) (k : Eff d x y) (hd : Within d c) : Eff c s y :=
  ⟨State.mask_trans h.frame (State.mask_mono k.frame hd), k.mem ∘ h.mem, k.imem ∘ h.imem, Fuses.kept_trans h.fuses k.fuses⟩

/-- A record update that leaves memories and fuses. -/
theorem Eff.lit {c : Nat} {s x y : State} (h : Eff c s x) (e : y = State.mask c x y) (em : y.mem = x.mem) (ei : y.imem = x.imem)
    (ef : y.fuses = x.fuses) : Eff c s y :=
  ⟨State.mask_trans h.frame e, fun w => em ▸ h.mem w, fun w => ei ▸ h.imem w, ef ▸ h.fuses⟩

/-- A record update that touches a memory or the fuses. -/
theorem Eff.litMem {c : Nat} {s x y : State} (h : Eff c s x) (e : y = State.mask c x y) (em : Memory.wf x.mem = true → Memory.wf y.mem = true)
    (ei : Memory.wf x.imem = true → Memory.wf y.imem = true) (ef : x.fuses.kept y.fuses) : Eff c s y :=
  ⟨State.mask_trans h.frame e, em ∘ h.mem, ei ∘ h.imem, Fuses.kept_trans h.fuses ef⟩

/-- An effect whose end is written as a record. -/
def EffMk (c : Nat) (s t : State) : Prop := Eff c s t
theorem Eff.mk_iff {c : Nat} {s : State} {a0} {a1} {a2} {a3} {a4} {a5} {a6} {a7} {a8} {a9} {a10} {a11} {a12} {a13} {a14} {a15} {a16} {a17} {a18} {a19} {a20} {a21} {a22} {a23} {a24} {a25} {a26} {a27} {a28} {a29} {a30} {a31} {a32} {a33} {a34} {a35} {a36} {a37} {a38} {a39} {a40} {a41} {a42} {a43} {a44} :
    Eff c s (State.mk a0 a1 a2 a3 a4 a5 a6 a7 a8 a9 a10 a11 a12 a13 a14 a15 a16 a17 a18 a19 a20 a21 a22 a23 a24 a25 a26 a27 a28 a29 a30 a31 a32 a33 a34 a35 a36 a37 a38 a39 a40 a41 a42 a43 a44) = EffMk c s (State.mk a0 a1 a2 a3 a4 a5 a6 a7 a8 a9 a10 a11 a12 a13 a14 a15 a16 a17 a18 a19 a20 a21 a22 a23 a24 a25 a26 a27 a28 a29 a30 a31 a32 a33 a34 a35 a36 a37 a38 a39 a40 a41 a42 a43 a44) := rfl
theorem EffMk.lit {c : Nat} {s x y : State} (h : Eff c s x) (e : y = State.mask c x y) (em : y.mem = x.mem) (ei : y.imem = x.imem)
    (ef : y.fuses = x.fuses) : EffMk c s y := Eff.lit h e em ei ef

theorem Eff.step {c : Nat} {P : Prop} {s : State} (x : State) (h : Eff c s x) (k : Eff c s x → P) : P := k h

theorem Eff.ite {c : Nat} {s a b : State} {p : Prop} [d : Decidable p] (h : Eff c s a) (k : Eff c s b) : Eff c s (if p then a else b) := by
  cases d <;> assumption
theorem Eff.ite_snd {β : Type} {c : Nat} {s : State} {a b : β × State} {p : Prop} [d : Decidable p] (h : Eff c s a.2) (k : Eff c s b.2) :
    Eff c s (if p then a else b).2 := by cases d <;> assumption
theorem Eff.pair {β : Type} {c : Nat} {s t : State} {b : β} (h : Eff c s t) : Eff c s (b, t).2 := h
theorem Eff.each {c : Nat} {s x : State} {l : List Nat} {f : State → Nat → State} (h : Eff c s x)
    (k : ∀ t n, Eff c s t → Eff c s (f t n)) : Eff c s (x.each l f) := by
  induction l generalizing x with
  | nil => exact h
  | cons n ns ih => exact ih (k x n h)

theorem Eff.foldl {α : Type} {c : Nat} {s x : State} {l : List α} {f : State → α → State} (h : Eff c s x)
    (k : ∀ t a, Eff c s t → Eff c s (f t a)) : Eff c s (l.foldl f x) := by
  induction l generalizing x with
  | nil => exact h
  | cons n ns ih => exact ih (k x n h)

theorem Eff.foldl_snd {α β : Type} {c : Nat} {s : State} {p : β × State} {l : List α} {f : β × State → α → β × State} (h : Eff c s p.2)
    (k : ∀ t a, Eff c s t.2 → Eff c s (f t a).2) : Eff c s (l.foldl f p).2 := by
  induction l generalizing p with
  | nil => exact h
  | cons n ns ih => exact ih (k p n h)

theorem Eff.foldl_fst {α β : Type} {c : Nat} {s : State} {p : State × β} {l : List α} {f : State × β → α → State × β} (h : Eff c s p.1)
    (k : ∀ t a, Eff c s t.1 → Eff c s (f t a).1) : Eff c s (l.foldl f p).1 := by
  induction l generalizing p with
  | nil => exact h
  | cons n ns ih => exact ih (k p n h)

/-- An effect named by an equation. -/
theorem Eff.of_eq {c : Nat} {s x y : State} (h : Eff c s x) (e : x = y) : Eff c s y := e ▸ h
theorem Eff.of_snd {β : Type} {c : Nat} {s y : State} {p : β × State} {b : β} (h : Eff c s p.2) (e : p = (b, y)) : Eff c s y := by
  rw [e] at h; exact h
theorem Eff.of_some {c : Nat} {s y : State} {p : Option State} (h : ∀ t, p = some t → Eff c s t) (e : p = some y) : Eff c s y := h y e

/-- What an optional answer with a state may change. -/
structure Eff.Opt (c : Nat) (s : State) (o : Option (Nat × State)) : Prop where
  out : ∀ n t, o = some (n, t) → Eff c s t
theorem Eff.Opt.ite {c : Nat} {s : State} {a b : Option (Nat × State)} {p : Prop} [d : Decidable p] (h : Eff.Opt c s a) (k : Eff.Opt c s b) :
    Eff.Opt c s (if p then a else b) := by cases d <;> assumption
theorem Eff.Opt.some {c : Nat} {s : State} {p : Nat × State} (h : Eff c s p.2) : Eff.Opt c s (some p) := ⟨by
  rintro n t ⟨⟩; exact h⟩
theorem Eff.Opt.none {c : Nat} {s : State} : Eff.Opt c s none := ⟨by rintro n t ⟨⟩⟩

/-- What a command's outcome may change. -/
def Eff.Outcome (c : Nat) (s : State) (o : Host.Outcome State Fault Refusal) : Prop := ∃ t, o = .next t ∧ Eff c s t

theorem Eff.Outcome.next {c : Nat} {s t : State} (h : Eff c s t) : Eff.Outcome c s (.next t) := ⟨t, rfl, h⟩
theorem Eff.Outcome.ite {c : Nat} {s : State} {a b : Host.Outcome State Fault Refusal} {p : Prop} [d : Decidable p] (h : Eff.Outcome c s a)
    (k : Eff.Outcome c s b) : Eff.Outcome c s (if p then a else b) := by cases d <;> assumption

theorem Eff.Outcome.mono {c d : Nat} {s : State} {o : Host.Outcome State Fault Refusal} (h : Eff.Outcome d s o) (hd : Within d c) :
    Eff.Outcome c s o := by
  obtain ⟨t, e, k⟩ := h
  exact ⟨t, e, Eff.call (Eff.refl c s) k hd⟩

/-- Adding a power of two whose bit is clear sets that bit. -/
theorem add_pow_or (v n : Nat) (h : Nat.testBit v n = false) : v + 2 ^ n = v ||| 2 ^ n := by
  have hp : 2 ^ (n + 1) = 2 * 2 ^ n := pow_succ' 2 n
  have e : v = 2 ^ (n + 1) * (v / 2 ^ (n + 1)) + v % 2 ^ (n + 1) := (Nat.div_add_mod _ _).symm
  have hm : v % 2 ^ (n + 1) < 2 ^ (n + 1) := Nat.mod_lt _ (by positivity)
  have hlt : v % 2 ^ (n + 1) < 2 ^ n := by
    by_contra hc
    have : Nat.testBit (v % 2 ^ (n + 1)) n = true := by
      rw [Nat.testBit_eq_decide_div_mod_eq]
      have : v % 2 ^ (n + 1) / 2 ^ n = 1 := by apply Nat.div_eq_of_lt_le <;> omega
      simp [this]
    rw [Nat.testBit_mod_two_pow] at this
    simp [h] at this
  have key : v % 2 ^ (n + 1) ||| 2 ^ n = v % 2 ^ (n + 1) + 2 ^ n := by
    have := Nat.two_pow_add_eq_or_of_lt (i := n) hlt 1
    simp at this; rw [Nat.lor_comm, ← this, Nat.add_comm]
  have b2 := Nat.two_pow_add_eq_or_of_lt (i := n + 1) hm (v / 2 ^ (n + 1))
  have b3 := Nat.two_pow_add_eq_or_of_lt (i := n + 1) (b := v % 2 ^ (n + 1) + 2 ^ n) (by omega) (v / 2 ^ (n + 1))
  conv_rhs => rw [e, b2, Nat.lor_assoc, key, ← b3]
  omega

/-- Setting a bit clears none. -/
theorem bit_setBit (v n m : Nat) (h : bit v m = true) : bit (setBit v n true) m = true := by
  simp only [setBit, bit] at *
  split
  · simpa using h
  · rename_i hn
    simp only [if_true]
    rw [add_pow_or v n (by simpa using hn), Nat.testBit_or, h, Bool.true_or]

/-- A run of operations that keep the canonical form keeps it. -/
theorem Memory.wf_foldl {α : Type} (l : List α) (f : Memory → α → Memory) (h : ∀ m a, Memory.wf m = true → Memory.wf (f m a) = true) (m : Memory)
    (w : Memory.wf m = true) : Memory.wf (l.foldl f m) = true := by
  induction l generalizing m with
  | nil => exact w
  | cons a as ih => exact ih _ (h m a w)

/-! ### Fields outside the mask -/

theorem Eff.pending_eq {c : Nat} {s t : State} (h : Eff c s t) (hc : Nat.testBit c 0 = false := by rfl) : t.pending = s.pending := by
  have e := congrArg State.pending h.frame; simp only [State.mask, hc, cond_false] at e; exact e
theorem Eff.now_eq {c : Nat} {s t : State} (h : Eff c s t) (hc : Nat.testBit c 1 = false := by rfl) : t.now = s.now := by
  have e := congrArg State.now h.frame; simp only [State.mask, hc, cond_false] at e; exact e
theorem Eff.clock_eq {c : Nat} {s t : State} (h : Eff c s t) (hc : Nat.testBit c 2 = false := by rfl) : t.clock = s.clock := by
  have e := congrArg State.clock h.frame; simp only [State.mask, hc, cond_false] at e; exact e
theorem Eff.timeRuns_eq {c : Nat} {s t : State} (h : Eff c s t) (hc : Nat.testBit c 3 = false := by rfl) : t.timeRuns = s.timeRuns := by
  have e := congrArg State.timeRuns h.frame; simp only [State.mask, hc, cond_false] at e; exact e
theorem Eff.part_eq {c : Nat} {s t : State} (h : Eff c s t) (hc : Nat.testBit c 4 = false := by rfl) : t.part = s.part := by
  have e := congrArg State.part h.frame; simp only [State.mask, hc, cond_false] at e; exact e
theorem Eff.grade_eq {c : Nat} {s t : State} (h : Eff c s t) (hc : Nat.testBit c 5 = false := by rfl) : t.grade = s.grade := by
  have e := congrArg State.grade h.frame; simp only [State.mask, hc, cond_false] at e; exact e
theorem Eff.free_eq {c : Nat} {s t : State} (h : Eff c s t) (hc : Nat.testBit c 6 = false := by rfl) : t.free = s.free := by
  have e := congrArg State.free h.frame; simp only [State.mask, hc, cond_false] at e; exact e
theorem Eff.live_eq {c : Nat} {s t : State} (h : Eff c s t) (hc : Nat.testBit c 7 = false := by rfl) : t.live = s.live := by
  have e := congrArg State.live h.frame; simp only [State.mask, hc, cond_false] at e; exact e
theorem Eff.active_eq {c : Nat} {s t : State} (h : Eff c s t) (hc : Nat.testBit c 8 = false := by rfl) : t.active = s.active := by
  have e := congrArg State.active h.frame; simp only [State.mask, hc, cond_false] at e; exact e
theorem Eff.draft_eq {c : Nat} {s t : State} (h : Eff c s t) (hc : Nat.testBit c 9 = false := by rfl) : t.draft = s.draft := by
  have e := congrArg State.draft h.frame; simp only [State.mask, hc, cond_false] at e; exact e
theorem Eff.taken_eq {c : Nat} {s t : State} (h : Eff c s t) (hc : Nat.testBit c 10 = false := by rfl) : t.taken = s.taken := by
  have e := congrArg State.taken h.frame; simp only [State.mask, hc, cond_false] at e; exact e
theorem Eff.previous_eq {c : Nat} {s t : State} (h : Eff c s t) (hc : Nat.testBit c 11 = false := by rfl) : t.previous = s.previous := by
  have e := congrArg State.previous h.frame; simp only [State.mask, hc, cond_false] at e; exact e
theorem Eff.mem_eq {c : Nat} {s t : State} (h : Eff c s t) (hc : Nat.testBit c 12 = false := by rfl) : t.mem = s.mem := by
  have e := congrArg State.mem h.frame; simp only [State.mask, hc, cond_false] at e; exact e
theorem Eff.imem_eq {c : Nat} {s t : State} (h : Eff c s t) (hc : Nat.testBit c 13 = false := by rfl) : t.imem = s.imem := by
  have e := congrArg State.imem h.frame; simp only [State.mask, hc, cond_false] at e; exact e
theorem Eff.ringWork_eq {c : Nat} {s t : State} (h : Eff c s t) (hc : Nat.testBit c 14 = false := by rfl) : t.ringWork = s.ringWork := by
  have e := congrArg State.ringWork h.frame; simp only [State.mask, hc, cond_false] at e; exact e
theorem Eff.dir_eq {c : Nat} {s t : State} (h : Eff c s t) (hc : Nat.testBit c 15 = false := by rfl) : t.dir = s.dir := by
  have e := congrArg State.dir h.frame; simp only [State.mask, hc, cond_false] at e; exact e
theorem Eff.fuses_eq {c : Nat} {s t : State} (h : Eff c s t) (hc : Nat.testBit c 16 = false := by rfl) : t.fuses = s.fuses := by
  have e := congrArg State.fuses h.frame; simp only [State.mask, hc, cond_false] at e; exact e
theorem Eff.boot_eq {c : Nat} {s t : State} (h : Eff c s t) (hc : Nat.testBit c 17 = false := by rfl) : t.boot = s.boot := by
  have e := congrArg State.boot h.frame; simp only [State.mask, hc, cond_false] at e; exact e
theorem Eff.pins_eq {c : Nat} {s t : State} (h : Eff c s t) (hc : Nat.testBit c 18 = false := by rfl) : t.pins = s.pins := by
  have e := congrArg State.pins h.frame; simp only [State.mask, hc, cond_false] at e; exact e
theorem Eff.fabric_eq {c : Nat} {s t : State} (h : Eff c s t) (hc : Nat.testBit c 19 = false := by rfl) : t.fabric = s.fabric := by
  have e := congrArg State.fabric h.frame; simp only [State.mask, hc, cond_false] at e; exact e
theorem Eff.mcan_eq {c : Nat} {s t : State} (h : Eff c s t) (hc : Nat.testBit c 20 = false := by rfl) : t.mcan = s.mcan := by
  have e := congrArg State.mcan h.frame; simp only [State.mask, hc, cond_false] at e; exact e
theorem Eff.insts_eq {c : Nat} {s t : State} (h : Eff c s t) (hc : Nat.testBit c 21 = false := by rfl) : t.insts = s.insts := by
  have e := congrArg State.insts h.frame; simp only [State.mask, hc, cond_false] at e; exact e
theorem Eff.vfEnable_eq {c : Nat} {s t : State} (h : Eff c s t) (hc : Nat.testBit c 22 = false := by rfl) : t.vfEnable = s.vfEnable := by
  have e := congrArg State.vfEnable h.frame; simp only [State.mask, hc, cond_false] at e; exact e
theorem Eff.numVfs_eq {c : Nat} {s t : State} (h : Eff c s t) (hc : Nat.testBit c 23 = false := by rfl) : t.numVfs = s.numVfs := by
  have e := congrArg State.numVfs h.frame; simp only [State.mask, hc, cond_false] at e; exact e
theorem Eff.ari_eq {c : Nat} {s t : State} (h : Eff c s t) (hc : Nat.testBit c 24 = false := by rfl) : t.ari = s.ari := by
  have e := congrArg State.ari h.frame; simp only [State.mask, hc, cond_false] at e; exact e
theorem Eff.shed_eq {c : Nat} {s t : State} (h : Eff c s t) (hc : Nat.testBit c 25 = false := by rfl) : t.shed = s.shed := by
  have e := congrArg State.shed h.frame; simp only [State.mask, hc, cond_false] at e; exact e
theorem Eff.worlds_eq {c : Nat} {s t : State} (h : Eff c s t) (hc : Nat.testBit c 26 = false := by rfl) : t.worlds = s.worlds := by
  have e := congrArg State.worlds h.frame; simp only [State.mask, hc, cond_false] at e; exact e
theorem Eff.power_eq {c : Nat} {s t : State} (h : Eff c s t) (hc : Nat.testBit c 27 = false := by rfl) : t.power = s.power := by
  have e := congrArg State.power h.frame; simp only [State.mask, hc, cond_false] at e; exact e
theorem Eff.sapflow_eq {c : Nat} {s t : State} (h : Eff c s t) (hc : Nat.testBit c 28 = false := by rfl) : t.sapflow = s.sapflow := by
  have e := congrArg State.sapflow h.frame; simp only [State.mask, hc, cond_false] at e; exact e
theorem Eff.survey_eq {c : Nat} {s t : State} (h : Eff c s t) (hc : Nat.testBit c 29 = false := by rfl) : t.survey = s.survey := by
  have e := congrArg State.survey h.frame; simp only [State.mask, hc, cond_false] at e; exact e
theorem Eff.health_eq {c : Nat} {s t : State} (h : Eff c s t) (hc : Nat.testBit c 30 = false := by rfl) : t.health = s.health := by
  have e := congrArg State.health h.frame; simp only [State.mask, hc, cond_false] at e; exact e
theorem Eff.heads_eq {c : Nat} {s t : State} (h : Eff c s t) (hc : Nat.testBit c 31 = false := by rfl) : t.heads = s.heads := by
  have e := congrArg State.heads h.frame; simp only [State.mask, hc, cond_false] at e; exact e
theorem Eff.compose_eq {c : Nat} {s t : State} (h : Eff c s t) (hc : Nat.testBit c 32 = false := by rfl) : t.compose = s.compose := by
  have e := congrArg State.compose h.frame; simp only [State.mask, hc, cond_false] at e; exact e
theorem Eff.canopy_eq {c : Nat} {s t : State} (h : Eff c s t) (hc : Nat.testBit c 33 = false := by rfl) : t.canopy = s.canopy := by
  have e := congrArg State.canopy h.frame; simp only [State.mask, hc, cond_false] at e; exact e
theorem Eff.regions_eq {c : Nat} {s t : State} (h : Eff c s t) (hc : Nat.testBit c 34 = false := by rfl) : t.regions = s.regions := by
  have e := congrArg State.regions h.frame; simp only [State.mask, hc, cond_false] at e; exact e
theorem Eff.pool_eq {c : Nat} {s t : State} (h : Eff c s t) (hc : Nat.testBit c 35 = false := by rfl) : t.pool = s.pool := by
  have e := congrArg State.pool h.frame; simp only [State.mask, hc, cond_false] at e; exact e
theorem Eff.gfx_eq {c : Nat} {s t : State} (h : Eff c s t) (hc : Nat.testBit c 36 = false := by rfl) : t.gfx = s.gfx := by
  have e := congrArg State.gfx h.frame; simp only [State.mask, hc, cond_false] at e; exact e
theorem Eff.keys_eq {c : Nat} {s t : State} (h : Eff c s t) (hc : Nat.testBit c 37 = false := by rfl) : t.keys = s.keys := by
  have e := congrArg State.keys h.frame; simp only [State.mask, hc, cond_false] at e; exact e
theorem Eff.haptics_eq {c : Nat} {s t : State} (h : Eff c s t) (hc : Nat.testBit c 38 = false := by rfl) : t.haptics = s.haptics := by
  have e := congrArg State.haptics h.frame; simp only [State.mask, hc, cond_false] at e; exact e
theorem Eff.reflex_eq {c : Nat} {s t : State} (h : Eff c s t) (hc : Nat.testBit c 39 = false := by rfl) : t.reflex = s.reflex := by
  have e := congrArg State.reflex h.frame; simp only [State.mask, hc, cond_false] at e; exact e
theorem Eff.onsets_eq {c : Nat} {s t : State} (h : Eff c s t) (hc : Nat.testBit c 40 = false := by rfl) : t.onsets = s.onsets := by
  have e := congrArg State.onsets h.frame; simp only [State.mask, hc, cond_false] at e; exact e
theorem Eff.audio_eq {c : Nat} {s t : State} (h : Eff c s t) (hc : Nat.testBit c 41 = false := by rfl) : t.audio = s.audio := by
  have e := congrArg State.audio h.frame; simp only [State.mask, hc, cond_false] at e; exact e
theorem Eff.lanes_eq {c : Nat} {s t : State} (h : Eff c s t) (hc : Nat.testBit c 42 = false := by rfl) : t.lanes = s.lanes := by
  have e := congrArg State.lanes h.frame; simp only [State.mask, hc, cond_false] at e; exact e
theorem Eff.streams_eq {c : Nat} {s t : State} (h : Eff c s t) (hc : Nat.testBit c 43 = false := by rfl) : t.streams = s.streams := by
  have e := congrArg State.streams h.frame; simp only [State.mask, hc, cond_false] at e; exact e
theorem Eff.out_eq {c : Nat} {s t : State} (h : Eff c s t) (hc : Nat.testBit c 44 = false := by rfl) : t.out = s.out := by
  have e := congrArg State.out h.frame; simp only [State.mask, hc, cond_false] at e; exact e

end Sys2Proof.Machine
end

