-- ==== Sys2Proof/Laws/Bits.lean ====
section
/-! SUPPORT. What setting a bit does, said once for all bits. -/
namespace Sys2Proof.Machine

/-- A bit set or cleared reads so, and every other bit reads as before. -/
theorem bit_setBit_eq (v n m : Nat) (b : Bool) : bit (setBit v n b) m = if n = m then b else bit v m := by
  have hp : ∀ w, Nat.testBit (w ||| 2 ^ n) m = (if n = m then true else Nat.testBit w m) := fun w => by
    rw [Nat.testBit_or, Nat.testBit_two_pow]; by_cases h : n = m <;> simp [h]
  unfold setBit
  by_cases hv : bit v n = true
  · rw [if_pos hv]
    unfold bit at *
    cases b
    · have hw : Nat.testBit (v ^^^ 2 ^ n) n = false := by simp [Nat.testBit_xor, hv]
      have e := add_pow_or (v ^^^ 2 ^ n) n hw
      have e2 : (v ^^^ 2 ^ n) ||| 2 ^ n = v := by
        apply Nat.eq_of_testBit_eq; intro i
        rw [Nat.testBit_or, Nat.testBit_xor, Nat.testBit_two_pow]
        by_cases h : n = i
        · subst h; simp [hv]
        · simp [h]
      have e3 : v - 2 ^ n = v ^^^ 2 ^ n := by omega
      rw [if_neg Bool.false_ne_true, e3, Nat.testBit_xor, Nat.testBit_two_pow]
      by_cases h : n = m
      · subst h; simp [hv]
      · simp [h]
    · by_cases h : n = m
      · subst h; simp [hv]
      · simp [h]
  · rw [if_neg hv]
    unfold bit at *
    cases b
    · by_cases h : n = m
      · subst h; simpa using hv
      · simp [h]
    · rw [if_pos rfl, add_pow_or v n (by simpa using hv), hp]

end Sys2Proof.Machine
end

