-- ==== Sys2Proof/Laws/EffOps.lean ====
section
/-! SUPPORT. What each function of Machine/Ops.lean may change (see Laws/Effect.lean): its mask of fields, canonical memories, one-way fuses. -/
set_option linter.all false
namespace Sys2Proof.Machine

theorem State.setInst_eff (s : Sys2Proof.Machine.State) (i : ℕ) (x : Inst) {cM : Nat} {sB : State} (hB : Eff cM sB s) (hM : Within 2097152 cM) :
    Eff cM sB (State.setInst s i x) := by
  refine Eff.call hB ?_ hM; clear hB hM
  unfold State.setInst
  repeat' first
    | with_reducible exact Eff.refl _ _
    | with_reducible assumption
    | intro _
    | (extract_lets +onlyGivenNames x; refine Eff.step (c := 2097152) (s := s) x ?_ (fun hx => ?_) <;> [(unfold x; clear x); (clear_value x; revert x; intro _ _)])
    | (extract_lets +onlyGivenNames x; refine Eff.step (c := 2097152) (s := s) x.2 ?_ (fun hx => ?_) <;> [(unfold x; clear x); (clear_value x; revert x; intro _ _)])
    | (extract_lets +onlyGivenNames y; clear_value y; revert y; intro _)
    | with_reducible refine Eff.each ?_ ?_
    | with_reducible refine Eff.foldl ?_ ?_
    | with_reducible refine Eff.foldl_snd ?_ ?_
    | with_reducible refine Eff.foldl_fst ?_ ?_
    | refine Eff.of_snd ?_ (by with_reducible assumption)
    | with_reducible apply Eff.Outcome.ite
    | with_reducible apply Eff.Opt.ite
    | with_reducible apply Eff.Opt.some
    | with_reducible exact Eff.Opt.none
    | with_reducible apply Eff.ite
    | with_reducible apply Eff.ite_snd
    | dsimp only
    | split
    | ((simp only [Eff.mk_iff]); refine EffMk.lit ?_ rfl rfl rfl rfl)

theorem State.modInst_eff (s : Sys2Proof.Machine.State) (i : ℕ) (f : Inst → Inst) {cM : Nat} {sB : State} (hB : Eff cM sB s) (hM : Within 2097152 cM) :
    Eff cM sB (State.modInst s i f) := by
  refine Eff.call hB ?_ hM; clear hB hM
  unfold State.modInst
  repeat' first
    | with_reducible exact Eff.refl _ _
    | with_reducible assumption
    | ((with_reducible refine Within.intro ?_); rfl)
    | intro _
    | (extract_lets +onlyGivenNames x; refine Eff.step (c := 2097152) (s := s) x ?_ (fun hx => ?_) <;> [(unfold x; clear x); (clear_value x; revert x; intro _ _)])
    | (extract_lets +onlyGivenNames x; refine Eff.step (c := 2097152) (s := s) x.2 ?_ (fun hx => ?_) <;> [(unfold x; clear x); (clear_value x; revert x; intro _ _)])
    | (extract_lets +onlyGivenNames y; clear_value y; revert y; intro _)
    | with_reducible apply State.setInst_eff
    | with_reducible refine Eff.each ?_ ?_
    | with_reducible refine Eff.foldl ?_ ?_
    | with_reducible refine Eff.foldl_snd ?_ ?_
    | with_reducible refine Eff.foldl_fst ?_ ?_
    | refine Eff.of_snd ?_ (by with_reducible assumption)
    | with_reducible apply Eff.Outcome.ite
    | with_reducible apply Eff.Opt.ite
    | with_reducible apply Eff.Opt.some
    | with_reducible exact Eff.Opt.none
    | with_reducible apply Eff.ite
    | with_reducible apply Eff.ite_snd
    | dsimp only
    | split
    | ((simp only [Eff.mk_iff]); refine EffMk.lit ?_ rfl rfl rfl rfl)

theorem State.modHead_eff (s : Sys2Proof.Machine.State) (h : ℕ) (f : Head → Head) {cM : Nat} {sB : State} (hB : Eff cM sB s) (hM : Within 2147483648 cM) :
    Eff cM sB (State.modHead s h f) := by
  refine Eff.call hB ?_ hM; clear hB hM
  unfold State.modHead
  repeat' first
    | with_reducible exact Eff.refl _ _
    | with_reducible assumption
    | intro _
    | (extract_lets +onlyGivenNames x; refine Eff.step (c := 2147483648) (s := s) x ?_ (fun hx => ?_) <;> [(unfold x; clear x); (clear_value x; revert x; intro _ _)])
    | (extract_lets +onlyGivenNames x; refine Eff.step (c := 2147483648) (s := s) x.2 ?_ (fun hx => ?_) <;> [(unfold x; clear x); (clear_value x; revert x; intro _ _)])
    | (extract_lets +onlyGivenNames y; clear_value y; revert y; intro _)
    | with_reducible refine Eff.each ?_ ?_
    | with_reducible refine Eff.foldl ?_ ?_
    | with_reducible refine Eff.foldl_snd ?_ ?_
    | with_reducible refine Eff.foldl_fst ?_ ?_
    | refine Eff.of_snd ?_ (by with_reducible assumption)
    | with_reducible apply Eff.Outcome.ite
    | with_reducible apply Eff.Opt.ite
    | with_reducible apply Eff.Opt.some
    | with_reducible exact Eff.Opt.none
    | with_reducible apply Eff.ite
    | with_reducible apply Eff.ite_snd
    | dsimp only
    | split
    | ((simp only [Eff.mk_iff]); refine EffMk.lit ?_ rfl rfl rfl rfl)

theorem State.modComp_eff (s : Sys2Proof.Machine.State) (h : ℕ) (f : Composer → Composer) {cM : Nat} {sB : State} (hB : Eff cM sB s) (hM : Within 4294967296 cM) :
    Eff cM sB (State.modComp s h f) := by
  refine Eff.call hB ?_ hM; clear hB hM
  unfold State.modComp
  repeat' first
    | with_reducible exact Eff.refl _ _
    | with_reducible assumption
    | intro _
    | (extract_lets +onlyGivenNames x; refine Eff.step (c := 4294967296) (s := s) x ?_ (fun hx => ?_) <;> [(unfold x; clear x); (clear_value x; revert x; intro _ _)])
    | (extract_lets +onlyGivenNames x; refine Eff.step (c := 4294967296) (s := s) x.2 ?_ (fun hx => ?_) <;> [(unfold x; clear x); (clear_value x; revert x; intro _ _)])
    | (extract_lets +onlyGivenNames y; clear_value y; revert y; intro _)
    | with_reducible refine Eff.each ?_ ?_
    | with_reducible refine Eff.foldl ?_ ?_
    | with_reducible refine Eff.foldl_snd ?_ ?_
    | with_reducible refine Eff.foldl_fst ?_ ?_
    | refine Eff.of_snd ?_ (by with_reducible assumption)
    | with_reducible apply Eff.Outcome.ite
    | with_reducible apply Eff.Opt.ite
    | with_reducible apply Eff.Opt.some
    | with_reducible exact Eff.Opt.none
    | with_reducible apply Eff.ite
    | with_reducible apply Eff.ite_snd
    | dsimp only
    | split
    | ((simp only [Eff.mk_iff]); refine EffMk.lit ?_ rfl rfl rfl rfl)

theorem State.modCano_eff (s : Sys2Proof.Machine.State) (h : ℕ) (f : Canopy → Canopy) {cM : Nat} {sB : State} (hB : Eff cM sB s) (hM : Within 8589934592 cM) :
    Eff cM sB (State.modCano s h f) := by
  refine Eff.call hB ?_ hM; clear hB hM
  unfold State.modCano
  repeat' first
    | with_reducible exact Eff.refl _ _
    | with_reducible assumption
    | intro _
    | (extract_lets +onlyGivenNames x; refine Eff.step (c := 8589934592) (s := s) x ?_ (fun hx => ?_) <;> [(unfold x; clear x); (clear_value x; revert x; intro _ _)])
    | (extract_lets +onlyGivenNames x; refine Eff.step (c := 8589934592) (s := s) x.2 ?_ (fun hx => ?_) <;> [(unfold x; clear x); (clear_value x; revert x; intro _ _)])
    | (extract_lets +onlyGivenNames y; clear_value y; revert y; intro _)
    | with_reducible refine Eff.each ?_ ?_
    | with_reducible refine Eff.foldl ?_ ?_
    | with_reducible refine Eff.foldl_snd ?_ ?_
    | with_reducible refine Eff.foldl_fst ?_ ?_
    | refine Eff.of_snd ?_ (by with_reducible assumption)
    | with_reducible apply Eff.Outcome.ite
    | with_reducible apply Eff.Opt.ite
    | with_reducible apply Eff.Opt.some
    | with_reducible exact Eff.Opt.none
    | with_reducible apply Eff.ite
    | with_reducible apply Eff.ite_snd
    | dsimp only
    | split
    | ((simp only [Eff.mk_iff]); refine EffMk.lit ?_ rfl rfl rfl rfl)

theorem State.modRegion_eff (s : Sys2Proof.Machine.State) (r : ℕ) (f : Region → Region) {cM : Nat} {sB : State} (hB : Eff cM sB s) (hM : Within 17179869184 cM) :
    Eff cM sB (State.modRegion s r f) := by
  refine Eff.call hB ?_ hM; clear hB hM
  unfold State.modRegion
  repeat' first
    | with_reducible exact Eff.refl _ _
    | with_reducible assumption
    | intro _
    | (extract_lets +onlyGivenNames x; refine Eff.step (c := 17179869184) (s := s) x ?_ (fun hx => ?_) <;> [(unfold x; clear x); (clear_value x; revert x; intro _ _)])
    | (extract_lets +onlyGivenNames x; refine Eff.step (c := 17179869184) (s := s) x.2 ?_ (fun hx => ?_) <;> [(unfold x; clear x); (clear_value x; revert x; intro _ _)])
    | (extract_lets +onlyGivenNames y; clear_value y; revert y; intro _)
    | with_reducible refine Eff.each ?_ ?_
    | with_reducible refine Eff.foldl ?_ ?_
    | with_reducible refine Eff.foldl_snd ?_ ?_
    | with_reducible refine Eff.foldl_fst ?_ ?_
    | refine Eff.of_snd ?_ (by with_reducible assumption)
    | with_reducible apply Eff.Outcome.ite
    | with_reducible apply Eff.Opt.ite
    | with_reducible apply Eff.Opt.some
    | with_reducible exact Eff.Opt.none
    | with_reducible apply Eff.ite
    | with_reducible apply Eff.ite_snd
    | dsimp only
    | split
    | ((simp only [Eff.mk_iff]); refine EffMk.lit ?_ rfl rfl rfl rfl)

theorem State.takeUpWhere_eff (s : Sys2Proof.Machine.State) (p : ℕ → Bool) {cM : Nat} {sB : State} (hB : Eff cM sB s) (hM : Within 1024 cM) :
    Eff cM sB (State.takeUpWhere s p) := by
  refine Eff.call hB ?_ hM; clear hB hM
  unfold State.takeUpWhere
  repeat' first
    | with_reducible exact Eff.refl _ _
    | with_reducible assumption
    | intro _
    | (extract_lets +onlyGivenNames x; refine Eff.step (c := 1024) (s := s) x ?_ (fun hx => ?_) <;> [(unfold x; clear x); (clear_value x; revert x; intro _ _)])
    | (extract_lets +onlyGivenNames x; refine Eff.step (c := 1024) (s := s) x.2 ?_ (fun hx => ?_) <;> [(unfold x; clear x); (clear_value x; revert x; intro _ _)])
    | (extract_lets +onlyGivenNames y; clear_value y; revert y; intro _)
    | with_reducible refine Eff.each ?_ ?_
    | with_reducible refine Eff.foldl ?_ ?_
    | with_reducible refine Eff.foldl_snd ?_ ?_
    | with_reducible refine Eff.foldl_fst ?_ ?_
    | refine Eff.of_snd ?_ (by with_reducible assumption)
    | with_reducible apply Eff.Outcome.ite
    | with_reducible apply Eff.Opt.ite
    | with_reducible apply Eff.Opt.some
    | with_reducible exact Eff.Opt.none
    | with_reducible apply Eff.ite
    | with_reducible apply Eff.ite_snd
    | dsimp only
    | split
    | ((simp only [Eff.mk_iff]); refine EffMk.lit ?_ rfl rfl rfl rfl)

theorem State.takeUp_eff (s : Sys2Proof.Machine.State) (p : ℕ → Bool) {cM : Nat} {sB : State} (hB : Eff cM sB s) (hM : Within 1024 cM) :
    Eff cM sB (State.takeUp s p) := by
  refine Eff.call hB ?_ hM; clear hB hM
  unfold State.takeUp
  repeat' first
    | with_reducible exact Eff.refl _ _
    | with_reducible assumption
    | ((with_reducible refine Within.intro ?_); rfl)
    | intro _
    | (extract_lets +onlyGivenNames x; refine Eff.step (c := 1024) (s := s) x ?_ (fun hx => ?_) <;> [(unfold x; clear x); (clear_value x; revert x; intro _ _)])
    | (extract_lets +onlyGivenNames x; refine Eff.step (c := 1024) (s := s) x.2 ?_ (fun hx => ?_) <;> [(unfold x; clear x); (clear_value x; revert x; intro _ _)])
    | (extract_lets +onlyGivenNames y; clear_value y; revert y; intro _)
    | with_reducible apply State.takeUpWhere_eff
    | with_reducible refine Eff.each ?_ ?_
    | with_reducible refine Eff.foldl ?_ ?_
    | with_reducible refine Eff.foldl_snd ?_ ?_
    | with_reducible refine Eff.foldl_fst ?_ ?_
    | refine Eff.of_snd ?_ (by with_reducible assumption)
    | with_reducible apply Eff.Outcome.ite
    | with_reducible apply Eff.Opt.ite
    | with_reducible apply Eff.Opt.some
    | with_reducible exact Eff.Opt.none
    | with_reducible apply Eff.ite
    | with_reducible apply Eff.ite_snd
    | dsimp only
    | split
    | ((simp only [Eff.mk_iff]); refine EffMk.lit ?_ rfl rfl rfl rfl)

theorem State.setLive_eff (s : Sys2Proof.Machine.State) (i : ℕ) (sub : ℕ) (v : Val) {cM : Nat} {sB : State} (hB : Eff cM sB s) (hM : Within 128 cM) :
    Eff cM sB (State.setLive s i sub v) := by
  refine Eff.call hB ?_ hM; clear hB hM
  unfold State.setLive
  repeat' first
    | with_reducible exact Eff.refl _ _
    | with_reducible assumption
    | intro _
    | (extract_lets +onlyGivenNames x; refine Eff.step (c := 128) (s := s) x ?_ (fun hx => ?_) <;> [(unfold x; clear x); (clear_value x; revert x; intro _ _)])
    | (extract_lets +onlyGivenNames x; refine Eff.step (c := 128) (s := s) x.2 ?_ (fun hx => ?_) <;> [(unfold x; clear x); (clear_value x; revert x; intro _ _)])
    | (extract_lets +onlyGivenNames y; clear_value y; revert y; intro _)
    | with_reducible refine Eff.each ?_ ?_
    | with_reducible refine Eff.foldl ?_ ?_
    | with_reducible refine Eff.foldl_snd ?_ ?_
    | with_reducible refine Eff.foldl_fst ?_ ?_
    | refine Eff.of_snd ?_ (by with_reducible assumption)
    | with_reducible apply Eff.Outcome.ite
    | with_reducible apply Eff.Opt.ite
    | with_reducible apply Eff.Opt.some
    | with_reducible exact Eff.Opt.none
    | with_reducible apply Eff.ite
    | with_reducible apply Eff.ite_snd
    | dsimp only
    | split
    | ((simp only [Eff.mk_iff]); refine EffMk.lit ?_ rfl rfl rfl rfl)

theorem State.setReg_eff (s : Sys2Proof.Machine.State) (i : ℕ) (sub : ℕ) (v : ℕ) {cM : Nat} {sB : State} (hB : Eff cM sB s) (hM : Within 128 cM) :
    Eff cM sB (State.setReg s i sub v) := by
  refine Eff.call hB ?_ hM; clear hB hM
  unfold State.setReg
  repeat' first
    | with_reducible exact Eff.refl _ _
    | with_reducible assumption
    | ((with_reducible refine Within.intro ?_); rfl)
    | intro _
    | (extract_lets +onlyGivenNames x; refine Eff.step (c := 128) (s := s) x ?_ (fun hx => ?_) <;> [(unfold x; clear x); (clear_value x; revert x; intro _ _)])
    | (extract_lets +onlyGivenNames x; refine Eff.step (c := 128) (s := s) x.2 ?_ (fun hx => ?_) <;> [(unfold x; clear x); (clear_value x; revert x; intro _ _)])
    | (extract_lets +onlyGivenNames y; clear_value y; revert y; intro _)
    | with_reducible apply State.setLive_eff
    | with_reducible refine Eff.each ?_ ?_
    | with_reducible refine Eff.foldl ?_ ?_
    | with_reducible refine Eff.foldl_snd ?_ ?_
    | with_reducible refine Eff.foldl_fst ?_ ?_
    | refine Eff.of_snd ?_ (by with_reducible assumption)
    | with_reducible apply Eff.Outcome.ite
    | with_reducible apply Eff.Opt.ite
    | with_reducible apply Eff.Opt.some
    | with_reducible exact Eff.Opt.none
    | with_reducible apply Eff.ite
    | with_reducible apply Eff.ite_snd
    | dsimp only
    | split
    | ((simp only [Eff.mk_iff]); refine EffMk.lit ?_ rfl rfl rfl rfl)

theorem State.setRegI_eff (s : Sys2Proof.Machine.State) (i : ℕ) (sub : ℕ) (v : ℤ) {cM : Nat} {sB : State} (hB : Eff cM sB s) (hM : Within 128 cM) :
    Eff cM sB (State.setRegI s i sub v) := by
  refine Eff.call hB ?_ hM; clear hB hM
  unfold State.setRegI
  repeat' first
    | with_reducible exact Eff.refl _ _
    | with_reducible assumption
    | ((with_reducible refine Within.intro ?_); rfl)
    | intro _
    | (extract_lets +onlyGivenNames x; refine Eff.step (c := 128) (s := s) x ?_ (fun hx => ?_) <;> [(unfold x; clear x); (clear_value x; revert x; intro _ _)])
    | (extract_lets +onlyGivenNames x; refine Eff.step (c := 128) (s := s) x.2 ?_ (fun hx => ?_) <;> [(unfold x; clear x); (clear_value x; revert x; intro _ _)])
    | (extract_lets +onlyGivenNames y; clear_value y; revert y; intro _)
    | with_reducible apply State.setLive_eff
    | with_reducible refine Eff.each ?_ ?_
    | with_reducible refine Eff.foldl ?_ ?_
    | with_reducible refine Eff.foldl_snd ?_ ?_
    | with_reducible refine Eff.foldl_fst ?_ ?_
    | refine Eff.of_snd ?_ (by with_reducible assumption)
    | with_reducible apply Eff.Outcome.ite
    | with_reducible apply Eff.Opt.ite
    | with_reducible apply Eff.Opt.some
    | with_reducible exact Eff.Opt.none
    | with_reducible apply Eff.ite
    | with_reducible apply Eff.ite_snd
    | dsimp only
    | split
    | ((simp only [Eff.mk_iff]); refine EffMk.lit ?_ rfl rfl rfl rfl)

theorem State.setRegBytes_eff (s : Sys2Proof.Machine.State) (i : ℕ) (sub : ℕ) (v : List Sys2Proof.Byte) {cM : Nat} {sB : State} (hB : Eff cM sB s) (hM : Within 128 cM) :
    Eff cM sB (State.setRegBytes s i sub v) := by
  refine Eff.call hB ?_ hM; clear hB hM
  unfold State.setRegBytes
  repeat' first
    | with_reducible exact Eff.refl _ _
    | with_reducible assumption
    | ((with_reducible refine Within.intro ?_); rfl)
    | intro _
    | (extract_lets +onlyGivenNames x; refine Eff.step (c := 128) (s := s) x ?_ (fun hx => ?_) <;> [(unfold x; clear x); (clear_value x; revert x; intro _ _)])
    | (extract_lets +onlyGivenNames x; refine Eff.step (c := 128) (s := s) x.2 ?_ (fun hx => ?_) <;> [(unfold x; clear x); (clear_value x; revert x; intro _ _)])
    | (extract_lets +onlyGivenNames y; clear_value y; revert y; intro _)
    | with_reducible apply State.setLive_eff
    | with_reducible refine Eff.each ?_ ?_
    | with_reducible refine Eff.foldl ?_ ?_
    | with_reducible refine Eff.foldl_snd ?_ ?_
    | with_reducible refine Eff.foldl_fst ?_ ?_
    | refine Eff.of_snd ?_ (by with_reducible assumption)
    | with_reducible apply Eff.Outcome.ite
    | with_reducible apply Eff.Opt.ite
    | with_reducible apply Eff.Opt.some
    | with_reducible exact Eff.Opt.none
    | with_reducible apply Eff.ite
    | with_reducible apply Eff.ite_snd
    | dsimp only
    | split
    | ((simp only [Eff.mk_iff]); refine EffMk.lit ?_ rfl rfl rfl rfl)

theorem State.count_eff (s : Sys2Proof.Machine.State) (i : ℕ) (sub : ℕ) (n : ℕ) {cM : Nat} {sB : State} (hB : Eff cM sB s) (hM : Within 128 cM) :
    Eff cM sB (State.count s i sub n) := by
  refine Eff.call hB ?_ hM; clear hB hM
  unfold State.count
  repeat' first
    | with_reducible exact Eff.refl _ _
    | with_reducible assumption
    | ((with_reducible refine Within.intro ?_); rfl)
    | intro _
    | (extract_lets +onlyGivenNames x; refine Eff.step (c := 128) (s := s) x ?_ (fun hx => ?_) <;> [(unfold x; clear x); (clear_value x; revert x; intro _ _)])
    | (extract_lets +onlyGivenNames x; refine Eff.step (c := 128) (s := s) x.2 ?_ (fun hx => ?_) <;> [(unfold x; clear x); (clear_value x; revert x; intro _ _)])
    | (extract_lets +onlyGivenNames y; clear_value y; revert y; intro _)
    | with_reducible apply State.setReg_eff
    | with_reducible refine Eff.each ?_ ?_
    | with_reducible refine Eff.foldl ?_ ?_
    | with_reducible refine Eff.foldl_snd ?_ ?_
    | with_reducible refine Eff.foldl_fst ?_ ?_
    | refine Eff.of_snd ?_ (by with_reducible assumption)
    | with_reducible apply Eff.Outcome.ite
    | with_reducible apply Eff.Opt.ite
    | with_reducible apply Eff.Opt.some
    | with_reducible exact Eff.Opt.none
    | with_reducible apply Eff.ite
    | with_reducible apply Eff.ite_snd
    | dsimp only
    | split
    | ((simp only [Eff.mk_iff]); refine EffMk.lit ?_ rfl rfl rfl rfl)

theorem State.inc_eff (s : Sys2Proof.Machine.State) (i : ℕ) (sub : ℕ) {cM : Nat} {sB : State} (hB : Eff cM sB s) (hM : Within 128 cM) :
    Eff cM sB (State.inc s i sub) := by
  refine Eff.call hB ?_ hM; clear hB hM
  unfold State.inc
  repeat' first
    | with_reducible exact Eff.refl _ _
    | with_reducible assumption
    | ((with_reducible refine Within.intro ?_); rfl)
    | intro _
    | (extract_lets +onlyGivenNames x; refine Eff.step (c := 128) (s := s) x ?_ (fun hx => ?_) <;> [(unfold x; clear x); (clear_value x; revert x; intro _ _)])
    | (extract_lets +onlyGivenNames x; refine Eff.step (c := 128) (s := s) x.2 ?_ (fun hx => ?_) <;> [(unfold x; clear x); (clear_value x; revert x; intro _ _)])
    | (extract_lets +onlyGivenNames y; clear_value y; revert y; intro _)
    | with_reducible apply State.count_eff
    | with_reducible refine Eff.each ?_ ?_
    | with_reducible refine Eff.foldl ?_ ?_
    | with_reducible refine Eff.foldl_snd ?_ ?_
    | with_reducible refine Eff.foldl_fst ?_ ?_
    | refine Eff.of_snd ?_ (by with_reducible assumption)
    | with_reducible apply Eff.Outcome.ite
    | with_reducible apply Eff.Opt.ite
    | with_reducible apply Eff.Opt.some
    | with_reducible exact Eff.Opt.none
    | with_reducible apply Eff.ite
    | with_reducible apply Eff.ite_snd
    | dsimp only
    | split
    | ((simp only [Eff.mk_iff]); refine EffMk.lit ?_ rfl rfl rfl rfl)

theorem State.raise_eff (s : Sys2Proof.Machine.State) (i : ℕ) (sub : ℕ) (v : ℕ) {cM : Nat} {sB : State} (hB : Eff cM sB s) (hM : Within 128 cM) :
    Eff cM sB (State.raise s i sub v) := by
  refine Eff.call hB ?_ hM; clear hB hM
  unfold State.raise
  repeat' first
    | with_reducible exact Eff.refl _ _
    | with_reducible assumption
    | ((with_reducible refine Within.intro ?_); rfl)
    | intro _
    | (extract_lets +onlyGivenNames x; refine Eff.step (c := 128) (s := s) x ?_ (fun hx => ?_) <;> [(unfold x; clear x); (clear_value x; revert x; intro _ _)])
    | (extract_lets +onlyGivenNames x; refine Eff.step (c := 128) (s := s) x.2 ?_ (fun hx => ?_) <;> [(unfold x; clear x); (clear_value x; revert x; intro _ _)])
    | (extract_lets +onlyGivenNames y; clear_value y; revert y; intro _)
    | with_reducible apply State.setReg_eff
    | with_reducible refine Eff.each ?_ ?_
    | with_reducible refine Eff.foldl ?_ ?_
    | with_reducible refine Eff.foldl_snd ?_ ?_
    | with_reducible refine Eff.foldl_fst ?_ ?_
    | refine Eff.of_snd ?_ (by with_reducible assumption)
    | with_reducible apply Eff.Outcome.ite
    | with_reducible apply Eff.Opt.ite
    | with_reducible apply Eff.Opt.some
    | with_reducible exact Eff.Opt.none
    | with_reducible apply Eff.ite
    | with_reducible apply Eff.ite_snd
    | dsimp only
    | split
    | ((simp only [Eff.mk_iff]); refine EffMk.lit ?_ rfl rfl rfl rfl)

theorem State.arriveAt_eff (s : Sys2Proof.Machine.State) (t : ℕ) {cM : Nat} {sB : State} (hB : Eff cM sB s) (hM : Within 6 cM) :
    Eff cM sB (State.arriveAt s t) := by
  refine Eff.call hB ?_ hM; clear hB hM
  unfold State.arriveAt
  repeat' first
    | with_reducible exact Eff.refl _ _
    | with_reducible assumption
    | intro _
    | (extract_lets +onlyGivenNames x; refine Eff.step (c := 6) (s := s) x ?_ (fun hx => ?_) <;> [(unfold x; clear x); (clear_value x; revert x; intro _ _)])
    | (extract_lets +onlyGivenNames x; refine Eff.step (c := 6) (s := s) x.2 ?_ (fun hx => ?_) <;> [(unfold x; clear x); (clear_value x; revert x; intro _ _)])
    | (extract_lets +onlyGivenNames y; clear_value y; revert y; intro _)
    | with_reducible refine Eff.each ?_ ?_
    | with_reducible refine Eff.foldl ?_ ?_
    | with_reducible refine Eff.foldl_snd ?_ ?_
    | with_reducible refine Eff.foldl_fst ?_ ?_
    | refine Eff.of_snd ?_ (by with_reducible assumption)
    | with_reducible apply Eff.Outcome.ite
    | with_reducible apply Eff.Opt.ite
    | with_reducible apply Eff.Opt.some
    | with_reducible exact Eff.Opt.none
    | with_reducible apply Eff.ite
    | with_reducible apply Eff.ite_snd
    | dsimp only
    | split
    | ((simp only [Eff.mk_iff]); refine EffMk.lit ?_ rfl rfl rfl rfl)

theorem State.useFree_eff (s : Sys2Proof.Machine.State) {cM : Nat} {sB : State} (hB : Eff cM sB s) (hM : Within 64 cM) :
    Eff cM sB (State.useFree s) := by
  refine Eff.call hB ?_ hM; clear hB hM
  unfold State.useFree
  repeat' first
    | with_reducible exact Eff.refl _ _
    | with_reducible assumption
    | intro _
    | (extract_lets +onlyGivenNames x; refine Eff.step (c := 64) (s := s) x ?_ (fun hx => ?_) <;> [(unfold x; clear x); (clear_value x; revert x; intro _ _)])
    | (extract_lets +onlyGivenNames x; refine Eff.step (c := 64) (s := s) x.2 ?_ (fun hx => ?_) <;> [(unfold x; clear x); (clear_value x; revert x; intro _ _)])
    | (extract_lets +onlyGivenNames y; clear_value y; revert y; intro _)
    | with_reducible refine Eff.each ?_ ?_
    | with_reducible refine Eff.foldl ?_ ?_
    | with_reducible refine Eff.foldl_snd ?_ ?_
    | with_reducible refine Eff.foldl_fst ?_ ?_
    | refine Eff.of_snd ?_ (by with_reducible assumption)
    | with_reducible apply Eff.Outcome.ite
    | with_reducible apply Eff.Opt.ite
    | with_reducible apply Eff.Opt.some
    | with_reducible exact Eff.Opt.none
    | with_reducible apply Eff.ite
    | with_reducible apply Eff.ite_snd
    | dsimp only
    | split
    | ((simp only [Eff.mk_iff]); refine EffMk.lit ?_ rfl rfl rfl rfl)

theorem State.sendVector_eff (s : Sys2Proof.Machine.State) (i : ℕ) (v : ℕ) {cM : Nat} {sB : State} (hB : Eff cM sB s) (hM : Within 17592188141568 cM) :
    Eff cM sB (State.sendVector s i v) := by
  refine Eff.call hB ?_ hM; clear hB hM
  unfold State.sendVector
  repeat' first
    | with_reducible exact Eff.refl _ _
    | with_reducible assumption
    | ((with_reducible refine Within.intro ?_); rfl)
    | intro _
    | (extract_lets +onlyGivenNames x; refine Eff.step (c := 17592188141568) (s := s) x ?_ (fun hx => ?_) <;> [(unfold x; clear x); (clear_value x; revert x; intro _ _)])
    | (extract_lets +onlyGivenNames x; refine Eff.step (c := 17592188141568) (s := s) x.2 ?_ (fun hx => ?_) <;> [(unfold x; clear x); (clear_value x; revert x; intro _ _)])
    | (extract_lets +onlyGivenNames y; clear_value y; revert y; intro _)
    | with_reducible apply State.setInst_eff
    | with_reducible refine Eff.each ?_ ?_
    | with_reducible refine Eff.foldl ?_ ?_
    | with_reducible refine Eff.foldl_snd ?_ ?_
    | with_reducible refine Eff.foldl_fst ?_ ?_
    | refine Eff.of_snd ?_ (by with_reducible assumption)
    | with_reducible apply Eff.Outcome.ite
    | with_reducible apply Eff.Opt.ite
    | with_reducible apply Eff.Opt.some
    | with_reducible exact Eff.Opt.none
    | with_reducible apply Eff.ite
    | with_reducible apply Eff.ite_snd
    | dsimp only
    | split
    | ((simp only [Eff.mk_iff]); refine EffMk.lit ?_ rfl rfl rfl rfl)

theorem State.mapPages_eff (s : Sys2Proof.Machine.State) (i : ℕ) (ps : List ℕ) {cM : Nat} {sB : State} (hB : Eff cM sB s) (hM : Within 2097152 cM) :
    Eff cM sB (State.mapPages s i ps) := by
  refine Eff.call hB ?_ hM; clear hB hM
  unfold State.mapPages
  repeat' first
    | with_reducible exact Eff.refl _ _
    | with_reducible assumption
    | ((with_reducible refine Within.intro ?_); rfl)
    | intro _
    | (extract_lets +onlyGivenNames x; refine Eff.step (c := 2097152) (s := s) x ?_ (fun hx => ?_) <;> [(unfold x; clear x); (clear_value x; revert x; intro _ _)])
    | (extract_lets +onlyGivenNames x; refine Eff.step (c := 2097152) (s := s) x.2 ?_ (fun hx => ?_) <;> [(unfold x; clear x); (clear_value x; revert x; intro _ _)])
    | (extract_lets +onlyGivenNames y; clear_value y; revert y; intro _)
    | with_reducible apply State.modInst_eff
    | with_reducible refine Eff.each ?_ ?_
    | with_reducible refine Eff.foldl ?_ ?_
    | with_reducible refine Eff.foldl_snd ?_ ?_
    | with_reducible refine Eff.foldl_fst ?_ ?_
    | refine Eff.of_snd ?_ (by with_reducible assumption)
    | with_reducible apply Eff.Outcome.ite
    | with_reducible apply Eff.Opt.ite
    | with_reducible apply Eff.Opt.some
    | with_reducible exact Eff.Opt.none
    | with_reducible apply Eff.ite
    | with_reducible apply Eff.ite_snd
    | dsimp only
    | split
    | ((simp only [Eff.mk_iff]); refine EffMk.lit ?_ rfl rfl rfl rfl)

theorem State.writeIda_eff (s : State) (at' : BusAttr) (a : ℕ) (bs : List Byte) {cM : Nat} {sB : State} (hB : Eff cM sB s) (hM : Within 2105344 cM) :
    Eff cM sB (State.writeIda s at' a bs) := by
  refine Eff.call hB ?_ hM; clear hB hM
  unfold State.writeIda
  extract_lets i
  split
  · exact Eff.litMem (Eff.refl _ _) rfl id (Memory.wf_writeBytes _ _ _) (Fuses.kept_refl _)
  · exact Eff.refl _ _

theorem State.ringWrite_eff (s : Sys2Proof.Machine.State) (i : ℕ) (r : EvRecord) {cM : Nat} {sB : State} (hB : Eff cM sB s) (hM : Within 17592188149760 cM) :
    Eff cM sB (State.ringWrite s i r) := by
  refine Eff.call hB ?_ hM; clear hB hM
  unfold State.ringWrite
  repeat' first
    | with_reducible exact Eff.refl _ _
    | with_reducible assumption
    | ((with_reducible refine Within.intro ?_); rfl)
    | intro _
    | (extract_lets +onlyGivenNames x; refine Eff.step (c := 17592188149760) (s := s) x ?_ (fun hx => ?_) <;> [(unfold x; clear x); (clear_value x; revert x; intro _ _)])
    | (extract_lets +onlyGivenNames x; refine Eff.step (c := 17592188149760) (s := s) x.2 ?_ (fun hx => ?_) <;> [(unfold x; clear x); (clear_value x; revert x; intro _ _)])
    | (extract_lets +onlyGivenNames y; clear_value y; revert y; intro _)
    | with_reducible apply State.setInst_eff
    | with_reducible apply State.writeIda_eff
    | with_reducible apply State.sendVector_eff
    | with_reducible refine Eff.each ?_ ?_
    | with_reducible refine Eff.foldl ?_ ?_
    | with_reducible refine Eff.foldl_snd ?_ ?_
    | with_reducible refine Eff.foldl_fst ?_ ?_
    | refine Eff.of_snd ?_ (by with_reducible assumption)
    | with_reducible apply Eff.Outcome.ite
    | with_reducible apply Eff.Opt.ite
    | with_reducible apply Eff.Opt.some
    | with_reducible exact Eff.Opt.none
    | with_reducible apply Eff.ite
    | with_reducible apply Eff.ite_snd
    | dsimp only
    | split
    | ((simp only [Eff.mk_iff]); refine EffMk.lit ?_ rfl rfl rfl rfl)

theorem State.dropRecord_eff (s : Sys2Proof.Machine.State) (i : ℕ) {cM : Nat} {sB : State} (hB : Eff cM sB s) (hM : Within 2097280 cM) :
    Eff cM sB (State.dropRecord s i) := by
  refine Eff.call hB ?_ hM; clear hB hM
  unfold State.dropRecord
  repeat' first
    | with_reducible exact Eff.refl _ _
    | with_reducible assumption
    | ((with_reducible refine Within.intro ?_); rfl)
    | intro _
    | (extract_lets +onlyGivenNames x; refine Eff.step (c := 2097280) (s := s) x ?_ (fun hx => ?_) <;> [(unfold x; clear x); (clear_value x; revert x; intro _ _)])
    | (extract_lets +onlyGivenNames x; refine Eff.step (c := 2097280) (s := s) x.2 ?_ (fun hx => ?_) <;> [(unfold x; clear x); (clear_value x; revert x; intro _ _)])
    | (extract_lets +onlyGivenNames y; clear_value y; revert y; intro _)
    | with_reducible apply State.inc_eff
    | with_reducible apply State.modInst_eff
    | with_reducible refine Eff.each ?_ ?_
    | with_reducible refine Eff.foldl ?_ ?_
    | with_reducible refine Eff.foldl_snd ?_ ?_
    | with_reducible refine Eff.foldl_fst ?_ ?_
    | refine Eff.of_snd ?_ (by with_reducible assumption)
    | with_reducible apply Eff.Outcome.ite
    | with_reducible apply Eff.Opt.ite
    | with_reducible apply Eff.Opt.some
    | with_reducible exact Eff.Opt.none
    | with_reducible apply Eff.ite
    | with_reducible apply Eff.ite_snd
    | dsimp only
    | split
    | ((simp only [Eff.mk_iff]); refine EffMk.lit ?_ rfl rfl rfl rfl)

theorem State.deliver_eff (s : Sys2Proof.Machine.State) (i : ℕ) (r : EvRecord) {cM : Nat} {sB : State} (hB : Eff cM sB s) (hM : Within 17593261891712 cM) :
    Eff cM sB (State.deliver s i r) := by
  refine Eff.call hB ?_ hM; clear hB hM
  unfold State.deliver
  repeat' first
    | with_reducible exact Eff.refl _ _
    | with_reducible assumption
    | ((with_reducible refine Within.intro ?_); rfl)
    | intro _
    | (extract_lets +onlyGivenNames x; refine Eff.step (c := 17593261891712) (s := s) x ?_ (fun hx => ?_) <;> [(unfold x; clear x); (clear_value x; revert x; intro _ _)])
    | (extract_lets +onlyGivenNames x; refine Eff.step (c := 17593261891712) (s := s) x.2 ?_ (fun hx => ?_) <;> [(unfold x; clear x); (clear_value x; revert x; intro _ _)])
    | (extract_lets +onlyGivenNames y; clear_value y; revert y; intro _)
    | with_reducible apply State.dropRecord_eff
    | with_reducible apply State.setInst_eff
    | with_reducible apply State.ringWrite_eff
    | with_reducible refine Eff.each ?_ ?_
    | with_reducible refine Eff.foldl ?_ ?_
    | with_reducible refine Eff.foldl_snd ?_ ?_
    | with_reducible refine Eff.foldl_fst ?_ ?_
    | refine Eff.of_snd ?_ (by with_reducible assumption)
    | with_reducible apply Eff.Outcome.ite
    | with_reducible apply Eff.Opt.ite
    | with_reducible apply Eff.Opt.some
    | with_reducible exact Eff.Opt.none
    | with_reducible apply Eff.ite
    | with_reducible apply Eff.ite_snd
    | dsimp only
    | split
    | ((simp only [Eff.mk_iff]); refine EffMk.lit ?_ rfl rfl rfl rfl)

theorem State.deliverAll_eff (s : State) (i : ℕ) (a2 : List EvRecord) {cM : Nat} {sB : State} (hB : Eff cM sB s) (hM : Within 17593261891712 cM) :
    Eff cM sB (State.deliverAll s i a2) := by
  refine Eff.call hB ?_ hM; clear hB hM
  induction a2 generalizing s with
  | nil => exact Eff.refl _ _
  | cons r t ih => exact Eff.call (State.deliver_eff _ _ _ (Eff.refl _ _) rfl) (ih _) rfl

theorem State.event_eff (s : Sys2Proof.Machine.State) (i : ℕ) (type : ℕ) (resource : ℕ) (status : ℕ) (die : ℕ) (reason : ℕ) (detail : ℕ) {cM : Nat} {sB : State} (hB : Eff cM sB s) (hM : Within 17593261891712 cM) :
    Eff cM sB (State.event s i type resource status die reason detail) := by
  refine Eff.call hB ?_ hM; clear hB hM
  unfold State.event
  repeat' first
    | with_reducible exact Eff.refl _ _
    | with_reducible assumption
    | ((with_reducible refine Within.intro ?_); rfl)
    | intro _
    | (extract_lets +onlyGivenNames x; refine Eff.step (c := 17593261891712) (s := s) x ?_ (fun hx => ?_) <;> [(unfold x; clear x); (clear_value x; revert x; intro _ _)])
    | (extract_lets +onlyGivenNames x; refine Eff.step (c := 17593261891712) (s := s) x.2 ?_ (fun hx => ?_) <;> [(unfold x; clear x); (clear_value x; revert x; intro _ _)])
    | (extract_lets +onlyGivenNames y; clear_value y; revert y; intro _)
    | with_reducible apply State.deliver_eff
    | with_reducible refine Eff.each ?_ ?_
    | with_reducible refine Eff.foldl ?_ ?_
    | with_reducible refine Eff.foldl_snd ?_ ?_
    | with_reducible refine Eff.foldl_fst ?_ ?_
    | refine Eff.of_snd ?_ (by with_reducible assumption)
    | with_reducible apply Eff.Outcome.ite
    | with_reducible apply Eff.Opt.ite
    | with_reducible apply Eff.Opt.some
    | with_reducible exact Eff.Opt.none
    | with_reducible apply Eff.ite
    | with_reducible apply Eff.ite_snd
    | dsimp only
    | split
    | ((simp only [Eff.mk_iff]); refine EffMk.lit ?_ rfl rfl rfl rfl)

theorem State.eventAll_eff (s : Sys2Proof.Machine.State) (type : ℕ) (resource : ℕ) (status : ℕ) (die : ℕ) (reason : ℕ) (detail : ℕ) {cM : Nat} {sB : State} (hB : Eff cM sB s) (hM : Within 17593261891712 cM) :
    Eff cM sB (State.eventAll s type resource status die reason detail) := by
  refine Eff.call hB ?_ hM; clear hB hM
  unfold State.eventAll
  repeat' first
    | with_reducible exact Eff.refl _ _
    | with_reducible assumption
    | ((with_reducible refine Within.intro ?_); rfl)
    | intro _
    | (extract_lets +onlyGivenNames x; refine Eff.step (c := 17593261891712) (s := s) x ?_ (fun hx => ?_) <;> [(unfold x; clear x); (clear_value x; revert x; intro _ _)])
    | (extract_lets +onlyGivenNames x; refine Eff.step (c := 17593261891712) (s := s) x.2 ?_ (fun hx => ?_) <;> [(unfold x; clear x); (clear_value x; revert x; intro _ _)])
    | (extract_lets +onlyGivenNames y; clear_value y; revert y; intro _)
    | with_reducible apply State.event_eff
    | with_reducible refine Eff.each ?_ ?_
    | with_reducible refine Eff.foldl ?_ ?_
    | with_reducible refine Eff.foldl_snd ?_ ?_
    | with_reducible refine Eff.foldl_fst ?_ ?_
    | refine Eff.of_snd ?_ (by with_reducible assumption)
    | with_reducible apply Eff.Outcome.ite
    | with_reducible apply Eff.Opt.ite
    | with_reducible apply Eff.Opt.some
    | with_reducible exact Eff.Opt.none
    | with_reducible apply Eff.ite
    | with_reducible apply Eff.ite_snd
    | dsimp only
    | split
    | ((simp only [Eff.mk_iff]); refine EffMk.lit ?_ rfl rfl rfl rfl)

theorem State.queueEmcy_eff (s : Sys2Proof.Machine.State) (e : Emcy) {cM : Nat} {sB : State} (hB : Eff cM sB s) (hM : Within 17593262940288 cM) :
    Eff cM sB (State.queueEmcy s e) := by
  refine Eff.call hB ?_ hM; clear hB hM
  unfold State.queueEmcy
  repeat' first
    | with_reducible exact Eff.refl _ _
    | with_reducible assumption
    | ((with_reducible refine Within.intro ?_); rfl)
    | intro _
    | (extract_lets +onlyGivenNames x; refine Eff.step (c := 17593262940288) (s := s) x ?_ (fun hx => ?_) <;> [(unfold x; clear x); (clear_value x; revert x; intro _ _)])
    | (extract_lets +onlyGivenNames x; refine Eff.step (c := 17593262940288) (s := s) x.2 ?_ (fun hx => ?_) <;> [(unfold x; clear x); (clear_value x; revert x; intro _ _)])
    | (extract_lets +onlyGivenNames y; clear_value y; revert y; intro _)
    | with_reducible apply State.inc_eff
    | with_reducible apply State.deliver_eff
    | with_reducible refine Eff.each ?_ ?_
    | with_reducible refine Eff.foldl ?_ ?_
    | with_reducible refine Eff.foldl_snd ?_ ?_
    | with_reducible refine Eff.foldl_fst ?_ ?_
    | refine Eff.of_snd ?_ (by with_reducible assumption)
    | with_reducible apply Eff.Outcome.ite
    | with_reducible apply Eff.Opt.ite
    | with_reducible apply Eff.Opt.some
    | with_reducible exact Eff.Opt.none
    | with_reducible apply Eff.ite
    | with_reducible apply Eff.ite_snd
    | dsimp only
    | split
    | ((simp only [Eff.mk_iff]); refine EffMk.lit ?_ rfl rfl rfl rfl)

theorem State.raiseEmcy_eff (s : Sys2Proof.Machine.State) (code : ℕ) (status : ℕ) (die : ℕ) (cls : ℕ) (resource : ℕ) {cM : Nat} {sB : State} (hB : Eff cM sB s) (hM : Within 17593262940288 cM) :
    Eff cM sB (State.raiseEmcy s code status die cls resource) := by
  refine Eff.call hB ?_ hM; clear hB hM
  unfold State.raiseEmcy
  repeat' first
    | with_reducible exact Eff.refl _ _
    | with_reducible assumption
    | ((with_reducible refine Within.intro ?_); rfl)
    | intro _
    | (extract_lets +onlyGivenNames x; refine Eff.step (c := 17593262940288) (s := s) x ?_ (fun hx => ?_) <;> [(unfold x; clear x); (clear_value x; revert x; intro _ _)])
    | (extract_lets +onlyGivenNames x; refine Eff.step (c := 17593262940288) (s := s) x.2 ?_ (fun hx => ?_) <;> [(unfold x; clear x); (clear_value x; revert x; intro _ _)])
    | (extract_lets +onlyGivenNames y; clear_value y; revert y; intro _)
    | with_reducible apply State.queueEmcy_eff
    | with_reducible refine Eff.each ?_ ?_
    | with_reducible refine Eff.foldl ?_ ?_
    | with_reducible refine Eff.foldl_snd ?_ ?_
    | with_reducible refine Eff.foldl_fst ?_ ?_
    | refine Eff.of_snd ?_ (by with_reducible assumption)
    | with_reducible apply Eff.Outcome.ite
    | with_reducible apply Eff.Opt.ite
    | with_reducible apply Eff.Opt.some
    | with_reducible exact Eff.Opt.none
    | with_reducible apply Eff.ite
    | with_reducible apply Eff.ite_snd
    | dsimp only
    | split
    | ((simp only [Eff.mk_iff]); refine EffMk.lit ?_ rfl rfl rfl rfl)

theorem State.errorBit_eff (s : Sys2Proof.Machine.State) (n : ℕ) {cM : Nat} {sB : State} (hB : Eff cM sB s) (hM : Within 128 cM) :
    Eff cM sB (State.errorBit s n) := by
  refine Eff.call hB ?_ hM; clear hB hM
  unfold State.errorBit
  repeat' first
    | with_reducible exact Eff.refl _ _
    | with_reducible assumption
    | ((with_reducible refine Within.intro ?_); rfl)
    | intro _
    | (extract_lets +onlyGivenNames x; refine Eff.step (c := 128) (s := s) x ?_ (fun hx => ?_) <;> [(unfold x; clear x); (clear_value x; revert x; intro _ _)])
    | (extract_lets +onlyGivenNames x; refine Eff.step (c := 128) (s := s) x.2 ?_ (fun hx => ?_) <;> [(unfold x; clear x); (clear_value x; revert x; intro _ _)])
    | (extract_lets +onlyGivenNames y; clear_value y; revert y; intro _)
    | with_reducible apply State.setReg_eff
    | with_reducible refine Eff.each ?_ ?_
    | with_reducible refine Eff.foldl ?_ ?_
    | with_reducible refine Eff.foldl_snd ?_ ?_
    | with_reducible refine Eff.foldl_fst ?_ ?_
    | refine Eff.of_snd ?_ (by with_reducible assumption)
    | with_reducible apply Eff.Outcome.ite
    | with_reducible apply Eff.Opt.ite
    | with_reducible apply Eff.Opt.some
    | with_reducible exact Eff.Opt.none
    | with_reducible apply Eff.ite
    | with_reducible apply Eff.ite_snd
    | dsimp only
    | split
    | ((simp only [Eff.mk_iff]); refine EffMk.lit ?_ rfl rfl rfl rfl)

theorem State.clearErrorBit_eff (s : Sys2Proof.Machine.State) (n : ℕ) {cM : Nat} {sB : State} (hB : Eff cM sB s) (hM : Within 17593262940288 cM) :
    Eff cM sB (State.clearErrorBit s n) := by
  refine Eff.call hB ?_ hM; clear hB hM
  unfold State.clearErrorBit
  repeat' first
    | with_reducible exact Eff.refl _ _
    | with_reducible assumption
    | ((with_reducible refine Within.intro ?_); rfl)
    | intro _
    | (extract_lets +onlyGivenNames x; refine Eff.step (c := 17593262940288) (s := s) x ?_ (fun hx => ?_) <;> [(unfold x; clear x); (clear_value x; revert x; intro _ _)])
    | (extract_lets +onlyGivenNames x; refine Eff.step (c := 17593262940288) (s := s) x.2 ?_ (fun hx => ?_) <;> [(unfold x; clear x); (clear_value x; revert x; intro _ _)])
    | (extract_lets +onlyGivenNames y; clear_value y; revert y; intro _)
    | with_reducible apply State.setReg_eff
    | with_reducible apply State.raiseEmcy_eff
    | with_reducible refine Eff.each ?_ ?_
    | with_reducible refine Eff.foldl ?_ ?_
    | with_reducible refine Eff.foldl_snd ?_ ?_
    | with_reducible refine Eff.foldl_fst ?_ ?_
    | refine Eff.of_snd ?_ (by with_reducible assumption)
    | with_reducible apply Eff.Outcome.ite
    | with_reducible apply Eff.Opt.ite
    | with_reducible apply Eff.Opt.some
    | with_reducible exact Eff.Opt.none
    | with_reducible apply Eff.ite
    | with_reducible apply Eff.ite_snd
    | dsimp only
    | split
    | ((simp only [Eff.mk_iff]); refine EffMk.lit ?_ rfl rfl rfl rfl)

theorem State.driveSvc_eff (s : Sys2Proof.Machine.State) {cM : Nat} {sB : State} (hB : Eff cM sB s) (hM : Within 262272 cM) :
    Eff cM sB (State.driveSvc s) := by
  refine Eff.call hB ?_ hM; clear hB hM
  unfold State.driveSvc
  repeat' first
    | with_reducible exact Eff.refl _ _
    | with_reducible assumption
    | ((with_reducible refine Within.intro ?_); rfl)
    | intro _
    | (extract_lets +onlyGivenNames x; refine Eff.step (c := 262272) (s := s) x ?_ (fun hx => ?_) <;> [(unfold x; clear x); (clear_value x; revert x; intro _ _)])
    | (extract_lets +onlyGivenNames x; refine Eff.step (c := 262272) (s := s) x.2 ?_ (fun hx => ?_) <;> [(unfold x; clear x); (clear_value x; revert x; intro _ _)])
    | (extract_lets +onlyGivenNames y; clear_value y; revert y; intro _)
    | with_reducible apply State.setReg_eff
    | with_reducible refine Eff.each ?_ ?_
    | with_reducible refine Eff.foldl ?_ ?_
    | with_reducible refine Eff.foldl_snd ?_ ?_
    | with_reducible refine Eff.foldl_fst ?_ ?_
    | refine Eff.of_snd ?_ (by with_reducible assumption)
    | with_reducible apply Eff.Outcome.ite
    | with_reducible apply Eff.Opt.ite
    | with_reducible apply Eff.Opt.some
    | with_reducible exact Eff.Opt.none
    | with_reducible apply Eff.ite
    | with_reducible apply Eff.ite_snd
    | dsimp only
    | split
    | ((simp only [Eff.mk_iff]); refine EffMk.lit ?_ rfl rfl rfl rfl)

theorem State.cause_eff (s : Sys2Proof.Machine.State) (c : ℕ) (die : ℕ) (cls : ℕ) (resource : ℕ) {cM : Nat} {sB : State} (hB : Eff cM sB s) (hM : Within 17593263202432 cM) :
    Eff cM sB (State.cause s c die cls resource) := by
  refine Eff.call hB ?_ hM; clear hB hM
  unfold State.cause
  repeat' first
    | with_reducible exact Eff.refl _ _
    | with_reducible assumption
    | ((with_reducible refine Within.intro ?_); rfl)
    | intro _
    | (extract_lets +onlyGivenNames x; refine Eff.step (c := 17593263202432) (s := s) x ?_ (fun hx => ?_) <;> [(unfold x; clear x); (clear_value x; revert x; intro _ _)])
    | (extract_lets +onlyGivenNames x; refine Eff.step (c := 17593263202432) (s := s) x.2 ?_ (fun hx => ?_) <;> [(unfold x; clear x); (clear_value x; revert x; intro _ _)])
    | (extract_lets +onlyGivenNames y; clear_value y; revert y; intro _)
    | with_reducible apply State.setReg_eff
    | with_reducible apply State.errorBit_eff
    | with_reducible apply State.driveSvc_eff
    | with_reducible apply State.raiseEmcy_eff
    | with_reducible apply State.eventAll_eff
    | with_reducible refine Eff.each ?_ ?_
    | with_reducible refine Eff.foldl ?_ ?_
    | with_reducible refine Eff.foldl_snd ?_ ?_
    | with_reducible refine Eff.foldl_fst ?_ ?_
    | refine Eff.of_snd ?_ (by with_reducible assumption)
    | with_reducible apply Eff.Outcome.ite
    | with_reducible apply Eff.Opt.ite
    | with_reducible apply Eff.Opt.some
    | with_reducible exact Eff.Opt.none
    | with_reducible apply Eff.ite
    | with_reducible apply Eff.ite_snd
    | dsimp only
    | split
    | ((simp only [Eff.mk_iff]); refine EffMk.lit ?_ rfl rfl rfl rfl)

theorem State.modSq_eff (s : Sys2Proof.Machine.State) (i : ℕ) (q : ℕ) (f : Sq → Sq) {cM : Nat} {sB : State} (hB : Eff cM sB s) (hM : Within 2097152 cM) :
    Eff cM sB (State.modSq s i q f) := by
  refine Eff.call hB ?_ hM; clear hB hM
  unfold State.modSq
  repeat' first
    | with_reducible exact Eff.refl _ _
    | with_reducible assumption
    | ((with_reducible refine Within.intro ?_); rfl)
    | intro _
    | (extract_lets +onlyGivenNames x; refine Eff.step (c := 2097152) (s := s) x ?_ (fun hx => ?_) <;> [(unfold x; clear x); (clear_value x; revert x; intro _ _)])
    | (extract_lets +onlyGivenNames x; refine Eff.step (c := 2097152) (s := s) x.2 ?_ (fun hx => ?_) <;> [(unfold x; clear x); (clear_value x; revert x; intro _ _)])
    | (extract_lets +onlyGivenNames y; clear_value y; revert y; intro _)
    | with_reducible apply State.modInst_eff
    | with_reducible refine Eff.each ?_ ?_
    | with_reducible refine Eff.foldl ?_ ?_
    | with_reducible refine Eff.foldl_snd ?_ ?_
    | with_reducible refine Eff.foldl_fst ?_ ?_
    | refine Eff.of_snd ?_ (by with_reducible assumption)
    | with_reducible apply Eff.Outcome.ite
    | with_reducible apply Eff.Opt.ite
    | with_reducible apply Eff.Opt.some
    | with_reducible exact Eff.Opt.none
    | with_reducible apply Eff.ite
    | with_reducible apply Eff.ite_snd
    | dsimp only
    | split
    | ((simp only [Eff.mk_iff]); refine EffMk.lit ?_ rfl rfl rfl rfl)

theorem State.stopQueue_eff (s : Sys2Proof.Machine.State) (i : ℕ) (q : ℕ) (status : ℕ) {cM : Nat} {sB : State} (hB : Eff cM sB s) (hM : Within 17593261891712 cM) :
    Eff cM sB (State.stopQueue s i q status) := by
  refine Eff.call hB ?_ hM; clear hB hM
  unfold State.stopQueue
  repeat' first
    | with_reducible exact Eff.refl _ _
    | with_reducible assumption
    | ((with_reducible refine Within.intro ?_); rfl)
    | intro _
    | (extract_lets +onlyGivenNames x; refine Eff.step (c := 17593261891712) (s := s) x ?_ (fun hx => ?_) <;> [(unfold x; clear x); (clear_value x; revert x; intro _ _)])
    | (extract_lets +onlyGivenNames x; refine Eff.step (c := 17593261891712) (s := s) x.2 ?_ (fun hx => ?_) <;> [(unfold x; clear x); (clear_value x; revert x; intro _ _)])
    | (extract_lets +onlyGivenNames y; clear_value y; revert y; intro _)
    | with_reducible apply State.event_eff
    | with_reducible apply State.modSq_eff
    | with_reducible refine Eff.each ?_ ?_
    | with_reducible refine Eff.foldl ?_ ?_
    | with_reducible refine Eff.foldl_snd ?_ ?_
    | with_reducible refine Eff.foldl_fst ?_ ?_
    | refine Eff.of_snd ?_ (by with_reducible assumption)
    | with_reducible apply Eff.Outcome.ite
    | with_reducible apply Eff.Opt.ite
    | with_reducible apply Eff.Opt.some
    | with_reducible exact Eff.Opt.none
    | with_reducible apply Eff.ite
    | with_reducible apply Eff.ite_snd
    | dsimp only
    | split
    | ((simp only [Eff.mk_iff]); refine EffMk.lit ?_ rfl rfl rfl rfl)

theorem State.fetchFails_eff (s : Sys2Proof.Machine.State) (e : Sys2Proof.Entry) (type : ℕ) {cM : Nat} {sB : State} (hB : Eff cM sB s) (hM : Within 17593261891712 cM) :
    Eff cM sB (State.fetchFails s e type) := by
  refine Eff.call hB ?_ hM; clear hB hM
  unfold State.fetchFails
  repeat' first
    | with_reducible exact Eff.refl _ _
    | with_reducible assumption
    | ((with_reducible refine Within.intro ?_); rfl)
    | intro _
    | (extract_lets +onlyGivenNames x; refine Eff.step (c := 17593261891712) (s := s) x ?_ (fun hx => ?_) <;> [(unfold x; clear x); (clear_value x; revert x; intro _ _)])
    | (extract_lets +onlyGivenNames x; refine Eff.step (c := 17593261891712) (s := s) x.2 ?_ (fun hx => ?_) <;> [(unfold x; clear x); (clear_value x; revert x; intro _ _)])
    | (extract_lets +onlyGivenNames y; clear_value y; revert y; intro _)
    | with_reducible apply State.stopQueue_eff
    | with_reducible refine Eff.each ?_ ?_
    | with_reducible refine Eff.foldl ?_ ?_
    | with_reducible refine Eff.foldl_snd ?_ ?_
    | with_reducible refine Eff.foldl_fst ?_ ?_
    | refine Eff.of_snd ?_ (by with_reducible assumption)
    | with_reducible apply Eff.Outcome.ite
    | with_reducible apply Eff.Opt.ite
    | with_reducible apply Eff.Opt.some
    | with_reducible exact Eff.Opt.none
    | with_reducible apply Eff.ite
    | with_reducible apply Eff.ite_snd
    | dsimp only
    | split
    | ((simp only [Eff.mk_iff]); refine EffMk.lit ?_ rfl rfl rfl rfl)

theorem State.fetched_eff (s : Sys2Proof.Machine.State) (e : Sys2Proof.Entry) {cM : Nat} {sB : State} (hB : Eff cM sB s) (hM : Within 2097152 cM) :
    Eff cM sB (State.fetched s e) := by
  refine Eff.call hB ?_ hM; clear hB hM
  unfold State.fetched
  repeat' first
    | with_reducible exact Eff.refl _ _
    | with_reducible assumption
    | ((with_reducible refine Within.intro ?_); rfl)
    | intro _
    | (extract_lets +onlyGivenNames x; refine Eff.step (c := 2097152) (s := s) x ?_ (fun hx => ?_) <;> [(unfold x; clear x); (clear_value x; revert x; intro _ _)])
    | (extract_lets +onlyGivenNames x; refine Eff.step (c := 2097152) (s := s) x.2 ?_ (fun hx => ?_) <;> [(unfold x; clear x); (clear_value x; revert x; intro _ _)])
    | (extract_lets +onlyGivenNames y; clear_value y; revert y; intro _)
    | with_reducible apply State.modSq_eff
    | with_reducible refine Eff.each ?_ ?_
    | with_reducible refine Eff.foldl ?_ ?_
    | with_reducible refine Eff.foldl_snd ?_ ?_
    | with_reducible refine Eff.foldl_fst ?_ ?_
    | refine Eff.of_snd ?_ (by with_reducible assumption)
    | with_reducible apply Eff.Outcome.ite
    | with_reducible apply Eff.Opt.ite
    | with_reducible apply Eff.Opt.some
    | with_reducible exact Eff.Opt.none
    | with_reducible apply Eff.ite
    | with_reducible apply Eff.ite_snd
    | dsimp only
    | split
    | ((simp only [Eff.mk_iff]); refine EffMk.lit ?_ rfl rfl rfl rfl)

theorem State.queueEvent_eff (s : Sys2Proof.Machine.State) (i : ℕ) (q : ℕ) (tag : ℕ) (status : ℕ) {cM : Nat} {sB : State} (hB : Eff cM sB s) (hM : Within 17593261891712 cM) :
    Eff cM sB (State.queueEvent s i q tag status) := by
  refine Eff.call hB ?_ hM; clear hB hM
  unfold State.queueEvent
  repeat' first
    | with_reducible exact Eff.refl _ _
    | with_reducible assumption
    | ((with_reducible refine Within.intro ?_); rfl)
    | intro _
    | (extract_lets +onlyGivenNames x; refine Eff.step (c := 17593261891712) (s := s) x ?_ (fun hx => ?_) <;> [(unfold x; clear x); (clear_value x; revert x; intro _ _)])
    | (extract_lets +onlyGivenNames x; refine Eff.step (c := 17593261891712) (s := s) x.2 ?_ (fun hx => ?_) <;> [(unfold x; clear x); (clear_value x; revert x; intro _ _)])
    | (extract_lets +onlyGivenNames y; clear_value y; revert y; intro _)
    | with_reducible apply State.event_eff
    | with_reducible refine Eff.each ?_ ?_
    | with_reducible refine Eff.foldl ?_ ?_
    | with_reducible refine Eff.foldl_snd ?_ ?_
    | with_reducible refine Eff.foldl_fst ?_ ?_
    | refine Eff.of_snd ?_ (by with_reducible assumption)
    | with_reducible apply Eff.Outcome.ite
    | with_reducible apply Eff.Opt.ite
    | with_reducible apply Eff.Opt.some
    | with_reducible exact Eff.Opt.none
    | with_reducible apply Eff.ite
    | with_reducible apply Eff.ite_snd
    | dsimp only
    | split
    | ((simp only [Eff.mk_iff]); refine EffMk.lit ?_ rfl rfl rfl rfl)

theorem State.endEntry_eff (s : Sys2Proof.Machine.State) (i : ℕ) (q : ℕ) (tag : ℕ) (completion : Bool) (status : ℕ) {cM : Nat} {sB : State} (hB : Eff cM sB s) (hM : Within 17593261891712 cM) :
    Eff cM sB (State.endEntry s i q tag completion status) := by
  refine Eff.call hB ?_ hM; clear hB hM
  unfold State.endEntry
  repeat' first
    | with_reducible exact Eff.refl _ _
    | with_reducible assumption
    | ((with_reducible refine Within.intro ?_); rfl)
    | intro _
    | (extract_lets +onlyGivenNames x; refine Eff.step (c := 17593261891712) (s := s) x ?_ (fun hx => ?_) <;> [(unfold x; clear x); (clear_value x; revert x; intro _ _)])
    | (extract_lets +onlyGivenNames x; refine Eff.step (c := 17593261891712) (s := s) x.2 ?_ (fun hx => ?_) <;> [(unfold x; clear x); (clear_value x; revert x; intro _ _)])
    | (extract_lets +onlyGivenNames y; clear_value y; revert y; intro _)
    | with_reducible apply State.queueEvent_eff
    | with_reducible refine Eff.each ?_ ?_
    | with_reducible refine Eff.foldl ?_ ?_
    | with_reducible refine Eff.foldl_snd ?_ ?_
    | with_reducible refine Eff.foldl_fst ?_ ?_
    | refine Eff.of_snd ?_ (by with_reducible assumption)
    | with_reducible apply Eff.Outcome.ite
    | with_reducible apply Eff.Opt.ite
    | with_reducible apply Eff.Opt.some
    | with_reducible exact Eff.Opt.none
    | with_reducible apply Eff.ite
    | with_reducible apply Eff.ite_snd
    | dsimp only
    | split
    | ((simp only [Eff.mk_iff]); refine EffMk.lit ?_ rfl rfl rfl rfl)

theorem State.stopTargeting_eff (s : State) (type : ℕ) (target : ℕ) (status : ℕ) {cM : Nat} {sB : State} (hB : Eff cM sB s) (hM : Within 17593261891712 cM) :
    Eff cM sB (State.stopTargeting s type target status) := by
  refine Eff.call hB ?_ hM; clear hB hM
  unfold State.stopTargeting
  refine Eff.each (Eff.refl _ _) (fun t n ht => ?_)
  extract_lets q
  clear_value q
  split
  · exact State.stopQueue_eff _ _ _ _ ht rfl
  · exact ht

theorem State.securityEvent_eff (s : Sys2Proof.Machine.State) (reason : ℕ) (cls : ℕ) (resource : ℕ) {cM : Nat} {sB : State} (hB : Eff cM sB s) (hM : Within 17593261891712 cM) :
    Eff cM sB (State.securityEvent s reason cls resource) := by
  refine Eff.call hB ?_ hM; clear hB hM
  unfold State.securityEvent
  repeat' first
    | with_reducible exact Eff.refl _ _
    | with_reducible assumption
    | ((with_reducible refine Within.intro ?_); rfl)
    | intro _
    | (extract_lets +onlyGivenNames x; refine Eff.step (c := 17593261891712) (s := s) x ?_ (fun hx => ?_) <;> [(unfold x; clear x); (clear_value x; revert x; intro _ _)])
    | (extract_lets +onlyGivenNames x; refine Eff.step (c := 17593261891712) (s := s) x.2 ?_ (fun hx => ?_) <;> [(unfold x; clear x); (clear_value x; revert x; intro _ _)])
    | (extract_lets +onlyGivenNames y; clear_value y; revert y; intro _)
    | with_reducible apply State.event_eff
    | with_reducible refine Eff.each ?_ ?_
    | with_reducible refine Eff.foldl ?_ ?_
    | with_reducible refine Eff.foldl_snd ?_ ?_
    | with_reducible refine Eff.foldl_fst ?_ ?_
    | refine Eff.of_snd ?_ (by with_reducible assumption)
    | with_reducible apply Eff.Outcome.ite
    | with_reducible apply Eff.Opt.ite
    | with_reducible apply Eff.Opt.some
    | with_reducible exact Eff.Opt.none
    | with_reducible apply Eff.ite
    | with_reducible apply Eff.ite_snd
    | dsimp only
    | split
    | ((simp only [Eff.mk_iff]); refine EffMk.lit ?_ rfl rfl rfl rfl)

theorem State.countDenied_eff (s : Sys2Proof.Machine.State) (status : ℕ) {cM : Nat} {sB : State} (hB : Eff cM sB s) (hM : Within 128 cM) :
    Eff cM sB (State.countDenied s status) := by
  refine Eff.call hB ?_ hM; clear hB hM
  unfold State.countDenied
  repeat' first
    | with_reducible exact Eff.refl _ _
    | with_reducible assumption
    | ((with_reducible refine Within.intro ?_); rfl)
    | intro _
    | (extract_lets +onlyGivenNames x; refine Eff.step (c := 128) (s := s) x ?_ (fun hx => ?_) <;> [(unfold x; clear x); (clear_value x; revert x; intro _ _)])
    | (extract_lets +onlyGivenNames x; refine Eff.step (c := 128) (s := s) x.2 ?_ (fun hx => ?_) <;> [(unfold x; clear x); (clear_value x; revert x; intro _ _)])
    | (extract_lets +onlyGivenNames y; clear_value y; revert y; intro _)
    | with_reducible apply State.inc_eff
    | with_reducible refine Eff.each ?_ ?_
    | with_reducible refine Eff.foldl ?_ ?_
    | with_reducible refine Eff.foldl_snd ?_ ?_
    | with_reducible refine Eff.foldl_fst ?_ ?_
    | refine Eff.of_snd ?_ (by with_reducible assumption)
    | with_reducible apply Eff.Outcome.ite
    | with_reducible apply Eff.Opt.ite
    | with_reducible apply Eff.Opt.some
    | with_reducible exact Eff.Opt.none
    | with_reducible apply Eff.ite
    | with_reducible apply Eff.ite_snd
    | dsimp only
    | split
    | ((simp only [Eff.mk_iff]); refine EffMk.lit ?_ rfl rfl rfl rfl)

theorem State.reply_eff (s : Sys2Proof.Machine.State) (req : Sys2Proof.Requester) (service : ℕ) (status : ℕ) (failPos : ℕ) (body : List Sys2Proof.Byte) (moved : optParam ℕ body.length) {cM : Nat} {sB : State} (hB : Eff cM sB s) (hM : Within 17592189190272 cM) :
    Eff cM sB (State.reply s req service status failPos body moved) := by
  refine Eff.call hB ?_ hM; clear hB hM
  unfold State.reply
  repeat' first
    | with_reducible exact Eff.refl _ _
    | with_reducible assumption
    | ((with_reducible refine Within.intro ?_); rfl)
    | intro _
    | (extract_lets +onlyGivenNames x; refine Eff.step (c := 17592189190272) (s := s) x ?_ (fun hx => ?_) <;> [(unfold x; clear x); (clear_value x; revert x; intro _ _)])
    | (extract_lets +onlyGivenNames x; refine Eff.step (c := 17592189190272) (s := s) x.2 ?_ (fun hx => ?_) <;> [(unfold x; clear x); (clear_value x; revert x; intro _ _)])
    | (extract_lets +onlyGivenNames y; clear_value y; revert y; intro _)
    | with_reducible apply State.countDenied_eff
    | with_reducible apply State.sendVector_eff
    | with_reducible apply State.setInst_eff
    | with_reducible apply State.setReg_eff
    | with_reducible apply State.setRegBytes_eff
    | with_reducible refine Eff.each ?_ ?_
    | with_reducible refine Eff.foldl ?_ ?_
    | with_reducible refine Eff.foldl_snd ?_ ?_
    | with_reducible refine Eff.foldl_fst ?_ ?_
    | refine Eff.of_snd ?_ (by with_reducible assumption)
    | with_reducible apply Eff.Outcome.ite
    | with_reducible apply Eff.Opt.ite
    | with_reducible apply Eff.Opt.some
    | with_reducible exact Eff.Opt.none
    | with_reducible apply Eff.ite
    | with_reducible apply Eff.ite_snd
    | dsimp only
    | split
    | ((simp only [Eff.mk_iff]); refine EffMk.lit ?_ rfl rfl rfl rfl)

end Sys2Proof.Machine
end

