-- ==== Sys2Proof/Laws/EffAudioOps.lean ====
section
/-! SUPPORT. What each function of Machine/AudioOps.lean may change (see Laws/Effect.lean): its mask of fields, canonical memories, one-way fuses. -/
set_option linter.all false
namespace Sys2Proof.Machine

theorem State.modRow_eff (s : Sys2Proof.Machine.State) (i : ℕ) (f : XpRow → XpRow) {cM : Nat} {sB : State} (hB : Eff cM sB s) (hM : Within 2199023255552 cM) :
    Eff cM sB (State.modRow s i f) := by
  refine Eff.call hB ?_ hM; clear hB hM
  unfold State.modRow
  repeat' first
    | with_reducible exact Eff.refl _ _
    | with_reducible assumption
    | intro _
    | (extract_lets +onlyGivenNames x; refine Eff.step (c := 2199023255552) (s := s) x ?_ (fun hx => ?_) <;> [(unfold x; clear x); (clear_value x; revert x; intro _ _)])
    | (extract_lets +onlyGivenNames x; refine Eff.step (c := 2199023255552) (s := s) x.2 ?_ (fun hx => ?_) <;> [(unfold x; clear x); (clear_value x; revert x; intro _ _)])
    | (extract_lets +onlyGivenNames y; clear_value y; revert y; intro _)
    | with_reducible refine Eff.each ?_ ?_
    | with_reducible refine Eff.foldl ?_ ?_
    | with_reducible refine Eff.foldl_snd ?_ ?_
    | with_reducible refine Eff.foldl_fst ?_ ?_
    | refine Eff.of_snd ?_ (by with_reducible assumption)
    | with_reducible apply Eff.Outcome.ite
    | with_reducible apply Eff.Opt.ite
    | with_reducible apply Eff.Opt.some
    | with_reducible exact Eff.Opt.none
    | with_reducible apply Eff.ite
    | with_reducible apply Eff.ite_snd
    | dsimp only
    | split
    | ((simp only [Eff.mk_iff]); refine EffMk.lit ?_ rfl rfl rfl rfl)

theorem State.modXpo_eff (s : Sys2Proof.Machine.State) (o : ℕ) (f : XpOutput → XpOutput) {cM : Nat} {sB : State} (hB : Eff cM sB s) (hM : Within 2199023255552 cM) :
    Eff cM sB (State.modXpo s o f) := by
  refine Eff.call hB ?_ hM; clear hB hM
  unfold State.modXpo
  repeat' first
    | with_reducible exact Eff.refl _ _
    | with_reducible assumption
    | intro _
    | (extract_lets +onlyGivenNames x; refine Eff.step (c := 2199023255552) (s := s) x ?_ (fun hx => ?_) <;> [(unfold x; clear x); (clear_value x; revert x; intro _ _)])
    | (extract_lets +onlyGivenNames x; refine Eff.step (c := 2199023255552) (s := s) x.2 ?_ (fun hx => ?_) <;> [(unfold x; clear x); (clear_value x; revert x; intro _ _)])
    | (extract_lets +onlyGivenNames y; clear_value y; revert y; intro _)
    | with_reducible refine Eff.each ?_ ?_
    | with_reducible refine Eff.foldl ?_ ?_
    | with_reducible refine Eff.foldl_snd ?_ ?_
    | with_reducible refine Eff.foldl_fst ?_ ?_
    | refine Eff.of_snd ?_ (by with_reducible assumption)
    | with_reducible apply Eff.Outcome.ite
    | with_reducible apply Eff.Opt.ite
    | with_reducible apply Eff.Opt.some
    | with_reducible exact Eff.Opt.none
    | with_reducible apply Eff.ite
    | with_reducible apply Eff.ite_snd
    | dsimp only
    | split
    | ((simp only [Eff.mk_iff]); refine EffMk.lit ?_ rfl rfl rfl rfl)

theorem State.modStream_eff (s : Sys2Proof.Machine.State) (n : ℕ) (f : AudioStream → AudioStream) {cM : Nat} {sB : State} (hB : Eff cM sB s) (hM : Within 2199023255552 cM) :
    Eff cM sB (State.modStream s n f) := by
  refine Eff.call hB ?_ hM; clear hB hM
  unfold State.modStream
  repeat' first
    | with_reducible exact Eff.refl _ _
    | with_reducible assumption
    | intro _
    | (extract_lets +onlyGivenNames x; refine Eff.step (c := 2199023255552) (s := s) x ?_ (fun hx => ?_) <;> [(unfold x; clear x); (clear_value x; revert x; intro _ _)])
    | (extract_lets +onlyGivenNames x; refine Eff.step (c := 2199023255552) (s := s) x.2 ?_ (fun hx => ?_) <;> [(unfold x; clear x); (clear_value x; revert x; intro _ _)])
    | (extract_lets +onlyGivenNames y; clear_value y; revert y; intro _)
    | with_reducible refine Eff.each ?_ ?_
    | with_reducible refine Eff.foldl ?_ ?_
    | with_reducible refine Eff.foldl_snd ?_ ?_
    | with_reducible refine Eff.foldl_fst ?_ ?_
    | refine Eff.of_snd ?_ (by with_reducible assumption)
    | with_reducible apply Eff.Outcome.ite
    | with_reducible apply Eff.Opt.ite
    | with_reducible apply Eff.Opt.some
    | with_reducible exact Eff.Opt.none
    | with_reducible apply Eff.ite
    | with_reducible apply Eff.ite_snd
    | dsimp only
    | split
    | ((simp only [Eff.mk_iff]); refine EffMk.lit ?_ rfl rfl rfl rfl)

theorem State.modTone_eff (s : Sys2Proof.Machine.State) (g : ℕ) (f : ToneGen → ToneGen) {cM : Nat} {sB : State} (hB : Eff cM sB s) (hM : Within 2199023255552 cM) :
    Eff cM sB (State.modTone s g f) := by
  refine Eff.call hB ?_ hM; clear hB hM
  unfold State.modTone
  repeat' first
    | with_reducible exact Eff.refl _ _
    | with_reducible assumption
    | intro _
    | (extract_lets +onlyGivenNames x; refine Eff.step (c := 2199023255552) (s := s) x ?_ (fun hx => ?_) <;> [(unfold x; clear x); (clear_value x; revert x; intro _ _)])
    | (extract_lets +onlyGivenNames x; refine Eff.step (c := 2199023255552) (s := s) x.2 ?_ (fun hx => ?_) <;> [(unfold x; clear x); (clear_value x; revert x; intro _ _)])
    | (extract_lets +onlyGivenNames y; clear_value y; revert y; intro _)
    | with_reducible refine Eff.each ?_ ?_
    | with_reducible refine Eff.foldl ?_ ?_
    | with_reducible refine Eff.foldl_snd ?_ ?_
    | with_reducible refine Eff.foldl_fst ?_ ?_
    | refine Eff.of_snd ?_ (by with_reducible assumption)
    | with_reducible apply Eff.Outcome.ite
    | with_reducible apply Eff.Opt.ite
    | with_reducible apply Eff.Opt.some
    | with_reducible exact Eff.Opt.none
    | with_reducible apply Eff.ite
    | with_reducible apply Eff.ite_snd
    | dsimp only
    | split
    | ((simp only [Eff.mk_iff]); refine EffMk.lit ?_ rfl rfl rfl rfl)

theorem State.portEvent_eff (s : Sys2Proof.Machine.State) (p : ℕ) (reason : ℕ) {cM : Nat} {sB : State} (hB : Eff cM sB s) (hM : Within 17593261891712 cM) :
    Eff cM sB (State.portEvent s p reason) := by
  refine Eff.call hB ?_ hM; clear hB hM
  unfold State.portEvent
  repeat' first
    | with_reducible exact Eff.refl _ _
    | with_reducible assumption
    | ((with_reducible refine Within.intro ?_); rfl)
    | intro _
    | (extract_lets +onlyGivenNames x; refine Eff.step (c := 17593261891712) (s := s) x ?_ (fun hx => ?_) <;> [(unfold x; clear x); (clear_value x; revert x; intro _ _)])
    | (extract_lets +onlyGivenNames x; refine Eff.step (c := 17593261891712) (s := s) x.2 ?_ (fun hx => ?_) <;> [(unfold x; clear x); (clear_value x; revert x; intro _ _)])
    | (extract_lets +onlyGivenNames y; clear_value y; revert y; intro _)
    | with_reducible apply State.event_eff
    | with_reducible refine Eff.each ?_ ?_
    | with_reducible refine Eff.foldl ?_ ?_
    | with_reducible refine Eff.foldl_snd ?_ ?_
    | with_reducible refine Eff.foldl_fst ?_ ?_
    | refine Eff.of_snd ?_ (by with_reducible assumption)
    | with_reducible apply Eff.Outcome.ite
    | with_reducible apply Eff.Opt.ite
    | with_reducible apply Eff.Opt.some
    | with_reducible exact Eff.Opt.none
    | with_reducible apply Eff.ite
    | with_reducible apply Eff.ite_snd
    | dsimp only
    | split
    | ((simp only [Eff.mk_iff]); refine EffMk.lit ?_ rfl rfl rfl rfl)

theorem State.setEditBank_eff (s : Sys2Proof.Machine.State) (i : ℕ) (b : Tab ℤ) {cM : Nat} {sB : State} (hB : Eff cM sB s) (hM : Within 2199023255552 cM) :
    Eff cM sB (State.setEditBank s i b) := by
  refine Eff.call hB ?_ hM; clear hB hM
  unfold State.setEditBank
  repeat' first
    | with_reducible exact Eff.refl _ _
    | with_reducible assumption
    | ((with_reducible refine Within.intro ?_); rfl)
    | intro _
    | (extract_lets +onlyGivenNames x; refine Eff.step (c := 2199023255552) (s := s) x ?_ (fun hx => ?_) <;> [(unfold x; clear x); (clear_value x; revert x; intro _ _)])
    | (extract_lets +onlyGivenNames x; refine Eff.step (c := 2199023255552) (s := s) x.2 ?_ (fun hx => ?_) <;> [(unfold x; clear x); (clear_value x; revert x; intro _ _)])
    | (extract_lets +onlyGivenNames y; clear_value y; revert y; intro _)
    | with_reducible apply State.modRow_eff
    | with_reducible refine Eff.each ?_ ?_
    | with_reducible refine Eff.foldl ?_ ?_
    | with_reducible refine Eff.foldl_snd ?_ ?_
    | with_reducible refine Eff.foldl_fst ?_ ?_
    | refine Eff.of_snd ?_ (by with_reducible assumption)
    | with_reducible apply Eff.Outcome.ite
    | with_reducible apply Eff.Opt.ite
    | with_reducible apply Eff.Opt.some
    | with_reducible exact Eff.Opt.none
    | with_reducible apply Eff.ite
    | with_reducible apply Eff.ite_snd
    | dsimp only
    | split
    | ((simp only [Eff.mk_iff]); refine EffMk.lit ?_ rfl rfl rfl rfl)

theorem State.openRow_eff (s : Sys2Proof.Machine.State) (i : ℕ) {cM : Nat} {sB : State} (hB : Eff cM sB s) (hM : Within 2199023255552 cM) :
    Eff cM sB (State.openRow s i) := by
  refine Eff.call hB ?_ hM; clear hB hM
  unfold State.openRow
  repeat' first
    | with_reducible exact Eff.refl _ _
    | with_reducible assumption
    | ((with_reducible refine Within.intro ?_); rfl)
    | intro _
    | (extract_lets +onlyGivenNames x; refine Eff.step (c := 2199023255552) (s := s) x ?_ (fun hx => ?_) <;> [(unfold x; clear x); (clear_value x; revert x; intro _ _)])
    | (extract_lets +onlyGivenNames x; refine Eff.step (c := 2199023255552) (s := s) x.2 ?_ (fun hx => ?_) <;> [(unfold x; clear x); (clear_value x; revert x; intro _ _)])
    | (extract_lets +onlyGivenNames y; clear_value y; revert y; intro _)
    | with_reducible apply State.modRow_eff
    | with_reducible refine Eff.each ?_ ?_
    | with_reducible refine Eff.foldl ?_ ?_
    | with_reducible refine Eff.foldl_snd ?_ ?_
    | with_reducible refine Eff.foldl_fst ?_ ?_
    | refine Eff.of_snd ?_ (by with_reducible assumption)
    | with_reducible apply Eff.Outcome.ite
    | with_reducible apply Eff.Opt.ite
    | with_reducible apply Eff.Opt.some
    | with_reducible exact Eff.Opt.none
    | with_reducible apply Eff.ite
    | with_reducible apply Eff.ite_snd
    | dsimp only
    | split
    | ((simp only [Eff.mk_iff]); refine EffMk.lit ?_ rfl rfl rfl rfl)

theorem State.swapRow_eff (s : Sys2Proof.Machine.State) (i : ℕ) (req : ℕ) (late : Bool) {cM : Nat} {sB : State} (hB : Eff cM sB s) (hM : Within 19792285147328 cM) :
    Eff cM sB (State.swapRow s i req late) := by
  refine Eff.call hB ?_ hM; clear hB hM
  unfold State.swapRow
  repeat' first
    | with_reducible exact Eff.refl _ _
    | with_reducible assumption
    | ((with_reducible refine Within.intro ?_); rfl)
    | intro _
    | (extract_lets +onlyGivenNames x; refine Eff.step (c := 19792285147328) (s := s) x ?_ (fun hx => ?_) <;> [(unfold x; clear x); (clear_value x; revert x; intro _ _)])
    | (extract_lets +onlyGivenNames x; refine Eff.step (c := 19792285147328) (s := s) x.2 ?_ (fun hx => ?_) <;> [(unfold x; clear x); (clear_value x; revert x; intro _ _)])
    | (extract_lets +onlyGivenNames y; clear_value y; revert y; intro _)
    | with_reducible apply State.modRow_eff
    | with_reducible apply State.useFree_eff
    | with_reducible apply State.setReg_eff
    | with_reducible apply State.event_eff
    | with_reducible refine Eff.each ?_ ?_
    | with_reducible refine Eff.foldl ?_ ?_
    | with_reducible refine Eff.foldl_snd ?_ ?_
    | with_reducible refine Eff.foldl_fst ?_ ?_
    | refine Eff.of_snd ?_ (by with_reducible assumption)
    | with_reducible apply Eff.Outcome.ite
    | with_reducible apply Eff.Opt.ite
    | with_reducible apply Eff.Opt.some
    | with_reducible exact Eff.Opt.none
    | with_reducible apply Eff.ite
    | with_reducible apply Eff.ite_snd
    | dsimp only
    | split
    | ((simp only [Eff.mk_iff]); refine EffMk.lit ?_ rfl rfl rfl rfl)

theorem State.setGain_eff (s : Sys2Proof.Machine.State) (i : ℕ) (o : ℕ) (v : ℤ) {cM : Nat} {sB : State} (hB : Eff cM sB s) (hM : Within 2199023255552 cM) :
    Eff cM sB (State.setGain s i o v) := by
  refine Eff.call hB ?_ hM; clear hB hM
  unfold State.setGain
  repeat' first
    | with_reducible exact Eff.refl _ _
    | with_reducible assumption
    | ((with_reducible refine Within.intro ?_); rfl)
    | intro _
    | (extract_lets +onlyGivenNames x; refine Eff.step (c := 2199023255552) (s := s) x ?_ (fun hx => ?_) <;> [(unfold x; clear x); (clear_value x; revert x; intro _ _)])
    | (extract_lets +onlyGivenNames x; refine Eff.step (c := 2199023255552) (s := s) x.2 ?_ (fun hx => ?_) <;> [(unfold x; clear x); (clear_value x; revert x; intro _ _)])
    | (extract_lets +onlyGivenNames y; clear_value y; revert y; intro _)
    | with_reducible apply State.setEditBank_eff
    | with_reducible refine Eff.each ?_ ?_
    | with_reducible refine Eff.foldl ?_ ?_
    | with_reducible refine Eff.foldl_snd ?_ ?_
    | with_reducible refine Eff.foldl_fst ?_ ?_
    | refine Eff.of_snd ?_ (by with_reducible assumption)
    | with_reducible apply Eff.Outcome.ite
    | with_reducible apply Eff.Opt.ite
    | with_reducible apply Eff.Opt.some
    | with_reducible exact Eff.Opt.none
    | with_reducible apply Eff.ite
    | with_reducible apply Eff.ite_snd
    | dsimp only
    | split
    | ((simp only [Eff.mk_iff]); refine EffMk.lit ?_ rfl rfl rfl rfl)

theorem State.gainWrite_eff (s : Sys2Proof.Machine.State) (i : ℕ) (o : ℕ) (v : ℤ) {cM : Nat} {sB : State} (hB : Eff cM sB s) (hM : Within 2199023255552 cM) :
    Eff cM sB (State.gainWrite s i o v).2 := by
  refine Eff.call hB ?_ hM; clear hB hM
  unfold State.gainWrite
  repeat' first
    | with_reducible exact Eff.refl _ _
    | with_reducible assumption
    | ((with_reducible refine Within.intro ?_); rfl)
    | intro _
    | (extract_lets +onlyGivenNames x; refine Eff.step (c := 2199023255552) (s := s) x ?_ (fun hx => ?_) <;> [(unfold x; clear x); (clear_value x; revert x; intro _ _)])
    | (extract_lets +onlyGivenNames x; refine Eff.step (c := 2199023255552) (s := s) x.2 ?_ (fun hx => ?_) <;> [(unfold x; clear x); (clear_value x; revert x; intro _ _)])
    | (extract_lets +onlyGivenNames y; clear_value y; revert y; intro _)
    | with_reducible apply State.setGain_eff
    | with_reducible refine Eff.each ?_ ?_
    | with_reducible refine Eff.foldl ?_ ?_
    | with_reducible refine Eff.foldl_snd ?_ ?_
    | with_reducible refine Eff.foldl_fst ?_ ?_
    | refine Eff.of_snd ?_ (by with_reducible assumption)
    | with_reducible apply Eff.Outcome.ite
    | with_reducible apply Eff.Opt.ite
    | with_reducible apply Eff.Opt.some
    | with_reducible exact Eff.Opt.none
    | with_reducible apply Eff.ite
    | with_reducible apply Eff.ite_snd
    | dsimp only
    | split
    | ((simp only [Eff.mk_iff]); refine EffMk.lit ?_ rfl rfl rfl rfl)

theorem State.safeLoadWrite_eff (s : Sys2Proof.Machine.State) (i : ℕ) (t : ℕ) {cM : Nat} {sB : State} (hB : Eff cM sB s) (hM : Within 19792285147328 cM) :
    Eff cM sB (State.safeLoadWrite s i t).2 := by
  refine Eff.call hB ?_ hM; clear hB hM
  unfold State.safeLoadWrite
  repeat' first
    | with_reducible exact Eff.refl _ _
    | with_reducible assumption
    | ((with_reducible refine Within.intro ?_); rfl)
    | intro _
    | (extract_lets +onlyGivenNames x; refine Eff.step (c := 19792285147328) (s := s) x ?_ (fun hx => ?_) <;> [(unfold x; clear x); (clear_value x; revert x; intro _ _)])
    | (extract_lets +onlyGivenNames x; refine Eff.step (c := 19792285147328) (s := s) x.2 ?_ (fun hx => ?_) <;> [(unfold x; clear x); (clear_value x; revert x; intro _ _)])
    | (extract_lets +onlyGivenNames y; clear_value y; revert y; intro _)
    | with_reducible apply State.swapRow_eff
    | with_reducible apply State.setReg_eff
    | with_reducible apply State.modRow_eff
    | with_reducible refine Eff.each ?_ ?_
    | with_reducible refine Eff.foldl ?_ ?_
    | with_reducible refine Eff.foldl_snd ?_ ?_
    | with_reducible refine Eff.foldl_fst ?_ ?_
    | refine Eff.of_snd ?_ (by with_reducible assumption)
    | with_reducible apply Eff.Outcome.ite
    | with_reducible apply Eff.Opt.ite
    | with_reducible apply Eff.Opt.some
    | with_reducible exact Eff.Opt.none
    | with_reducible apply Eff.ite
    | with_reducible apply Eff.ite_snd
    | dsimp only
    | split
    | ((simp only [Eff.mk_iff]); refine EffMk.lit ?_ rfl rfl rfl rfl)

theorem State.rowLeaves_eff (s : Sys2Proof.Machine.State) (i : ℕ) (n : ℕ) {cM : Nat} {sB : State} (hB : Eff cM sB s) (hM : Within 2199023255680 cM) :
    Eff cM sB (State.rowLeaves s i n) := by
  refine Eff.call hB ?_ hM; clear hB hM
  unfold State.rowLeaves
  repeat' first
    | with_reducible exact Eff.refl _ _
    | with_reducible assumption
    | ((with_reducible refine Within.intro ?_); rfl)
    | intro _
    | (extract_lets +onlyGivenNames x; refine Eff.step (c := 2199023255680) (s := s) x ?_ (fun hx => ?_) <;> [(unfold x; clear x); (clear_value x; revert x; intro _ _)])
    | (extract_lets +onlyGivenNames x; refine Eff.step (c := 2199023255680) (s := s) x.2 ?_ (fun hx => ?_) <;> [(unfold x; clear x); (clear_value x; revert x; intro _ _)])
    | (extract_lets +onlyGivenNames y; clear_value y; revert y; intro _)
    | with_reducible apply State.setReg_eff
    | with_reducible apply State.modRow_eff
    | with_reducible apply State.setEditBank_eff
    | with_reducible refine Eff.each ?_ ?_
    | with_reducible refine Eff.foldl ?_ ?_
    | with_reducible refine Eff.foldl_snd ?_ ?_
    | with_reducible refine Eff.foldl_fst ?_ ?_
    | refine Eff.of_snd ?_ (by with_reducible assumption)
    | with_reducible apply Eff.Outcome.ite
    | with_reducible apply Eff.Opt.ite
    | with_reducible apply Eff.Opt.some
    | with_reducible exact Eff.Opt.none
    | with_reducible apply Eff.ite
    | with_reducible apply Eff.ite_snd
    | dsimp only
    | split
    | ((simp only [Eff.mk_iff]); refine EffMk.lit ?_ rfl rfl rfl rfl)

theorem State.streamEvent_eff (s : Sys2Proof.Machine.State) (n : ℕ) (reason : ℕ) (tag : ℕ) {cM : Nat} {sB : State} (hB : Eff cM sB s) (hM : Within 17593261891712 cM) :
    Eff cM sB (State.streamEvent s n reason tag) := by
  refine Eff.call hB ?_ hM; clear hB hM
  unfold State.streamEvent
  repeat' first
    | with_reducible exact Eff.refl _ _
    | with_reducible assumption
    | ((with_reducible refine Within.intro ?_); rfl)
    | intro _
    | (extract_lets +onlyGivenNames x; refine Eff.step (c := 17593261891712) (s := s) x ?_ (fun hx => ?_) <;> [(unfold x; clear x); (clear_value x; revert x; intro _ _)])
    | (extract_lets +onlyGivenNames x; refine Eff.step (c := 17593261891712) (s := s) x.2 ?_ (fun hx => ?_) <;> [(unfold x; clear x); (clear_value x; revert x; intro _ _)])
    | (extract_lets +onlyGivenNames y; clear_value y; revert y; intro _)
    | with_reducible apply State.event_eff
    | with_reducible refine Eff.each ?_ ?_
    | with_reducible refine Eff.foldl ?_ ?_
    | with_reducible refine Eff.foldl_snd ?_ ?_
    | with_reducible refine Eff.foldl_fst ?_ ?_
    | refine Eff.of_snd ?_ (by with_reducible assumption)
    | with_reducible apply Eff.Outcome.ite
    | with_reducible apply Eff.Opt.ite
    | with_reducible apply Eff.Opt.some
    | with_reducible exact Eff.Opt.none
    | with_reducible apply Eff.ite
    | with_reducible apply Eff.ite_snd
    | dsimp only
    | split
    | ((simp only [Eff.mk_iff]); refine EffMk.lit ?_ rfl rfl rfl rfl)

theorem State.endBuffer_eff (s : Sys2Proof.Machine.State) (b : AudioBuffer) (status : ℕ) {cM : Nat} {sB : State} (hB : Eff cM sB s) (hM : Within 17593261891712 cM) :
    Eff cM sB (State.endBuffer s b status) := by
  refine Eff.call hB ?_ hM; clear hB hM
  unfold State.endBuffer
  repeat' first
    | with_reducible exact Eff.refl _ _
    | with_reducible assumption
    | ((with_reducible refine Within.intro ?_); rfl)
    | intro _
    | (extract_lets +onlyGivenNames x; refine Eff.step (c := 17593261891712) (s := s) x ?_ (fun hx => ?_) <;> [(unfold x; clear x); (clear_value x; revert x; intro _ _)])
    | (extract_lets +onlyGivenNames x; refine Eff.step (c := 17593261891712) (s := s) x.2 ?_ (fun hx => ?_) <;> [(unfold x; clear x); (clear_value x; revert x; intro _ _)])
    | (extract_lets +onlyGivenNames y; clear_value y; revert y; intro _)
    | with_reducible apply State.endEntry_eff
    | with_reducible refine Eff.each ?_ ?_
    | with_reducible refine Eff.foldl ?_ ?_
    | with_reducible refine Eff.foldl_snd ?_ ?_
    | with_reducible refine Eff.foldl_fst ?_ ?_
    | refine Eff.of_snd ?_ (by with_reducible assumption)
    | with_reducible apply Eff.Outcome.ite
    | with_reducible apply Eff.Opt.ite
    | with_reducible apply Eff.Opt.some
    | with_reducible exact Eff.Opt.none
    | with_reducible apply Eff.ite
    | with_reducible apply Eff.ite_snd
    | dsimp only
    | split
    | ((simp only [Eff.mk_iff]); refine EffMk.lit ?_ rfl rfl rfl rfl)

theorem State.stopStream_eff (s : Sys2Proof.Machine.State) (n : ℕ) {cM : Nat} {sB : State} (hB : Eff cM sB s) (hM : Within 19792285147264 cM) :
    Eff cM sB (State.stopStream s n) := by
  refine Eff.call hB ?_ hM; clear hB hM
  unfold State.stopStream
  repeat' first
    | with_reducible exact Eff.refl _ _
    | with_reducible assumption
    | ((with_reducible refine Within.intro ?_); rfl)
    | intro _
    | (extract_lets +onlyGivenNames x; refine Eff.step (c := 19792285147264) (s := s) x ?_ (fun hx => ?_) <;> [(unfold x; clear x); (clear_value x; revert x; intro _ _)])
    | (extract_lets +onlyGivenNames x; refine Eff.step (c := 19792285147264) (s := s) x.2 ?_ (fun hx => ?_) <;> [(unfold x; clear x); (clear_value x; revert x; intro _ _)])
    | (extract_lets +onlyGivenNames y; clear_value y; revert y; intro _)
    | with_reducible apply State.modStream_eff
    | with_reducible apply State.endBuffer_eff
    | with_reducible apply State.streamEvent_eff
    | with_reducible refine Eff.each ?_ ?_
    | with_reducible refine Eff.foldl ?_ ?_
    | with_reducible refine Eff.foldl_snd ?_ ?_
    | with_reducible refine Eff.foldl_fst ?_ ?_
    | refine Eff.of_snd ?_ (by with_reducible assumption)
    | with_reducible apply Eff.Outcome.ite
    | with_reducible apply Eff.Opt.ite
    | with_reducible apply Eff.Opt.some
    | with_reducible exact Eff.Opt.none
    | with_reducible apply Eff.ite
    | with_reducible apply Eff.ite_snd
    | dsimp only
    | split
    | ((simp only [Eff.mk_iff]); refine EffMk.lit ?_ rfl rfl rfl rfl)

theorem State.streamPlay_eff (s : Sys2Proof.Machine.State) (n : ℕ) (prev : ℕ) {cM : Nat} {sB : State} (hB : Eff cM sB s) (hM : Within 19792285147328 cM) :
    Eff cM sB (State.streamPlay s n prev).2 := by
  refine Eff.call hB ?_ hM; clear hB hM
  unfold State.streamPlay
  repeat' first
    | with_reducible exact Eff.refl _ _
    | with_reducible assumption
    | ((with_reducible refine Within.intro ?_); rfl)
    | intro _
    | (extract_lets +onlyGivenNames x; refine Eff.step (c := 19792285147328) (s := s) x ?_ (fun hx => ?_) <;> [(unfold x; clear x); (clear_value x; revert x; intro _ _)])
    | (extract_lets +onlyGivenNames x; refine Eff.step (c := 19792285147328) (s := s) x.2 ?_ (fun hx => ?_) <;> [(unfold x; clear x); (clear_value x; revert x; intro _ _)])
    | (extract_lets +onlyGivenNames y; clear_value y; revert y; intro _)
    | with_reducible apply State.useFree_eff
    | with_reducible apply State.modStream_eff
    | with_reducible apply State.streamEvent_eff
    | with_reducible apply State.endBuffer_eff
    | with_reducible refine Eff.each ?_ ?_
    | with_reducible refine Eff.foldl ?_ ?_
    | with_reducible refine Eff.foldl_snd ?_ ?_
    | with_reducible refine Eff.foldl_fst ?_ ?_
    | refine Eff.of_snd ?_ (by with_reducible assumption)
    | with_reducible apply Eff.Outcome.ite
    | with_reducible apply Eff.Opt.ite
    | with_reducible apply Eff.Opt.some
    | with_reducible exact Eff.Opt.none
    | with_reducible apply Eff.ite
    | with_reducible apply Eff.ite_snd
    | dsimp only
    | split
    | ((simp only [Eff.mk_iff]); refine EffMk.lit ?_ rfl rfl rfl rfl)

theorem State.streamSample_eff (s : Sys2Proof.Machine.State) (n : ℕ) (prev : ℕ) {cM : Nat} {sB : State} (hB : Eff cM sB s) (hM : Within 19792285147328 cM) :
    Eff cM sB (State.streamSample s n prev).2 := by
  refine Eff.call hB ?_ hM; clear hB hM
  unfold State.streamSample
  repeat' first
    | with_reducible exact Eff.refl _ _
    | with_reducible assumption
    | ((with_reducible refine Within.intro ?_); rfl)
    | intro _
    | (extract_lets +onlyGivenNames x; refine Eff.step (c := 19792285147328) (s := s) x ?_ (fun hx => ?_) <;> [(unfold x; clear x); (clear_value x; revert x; intro _ _)])
    | (extract_lets +onlyGivenNames x; refine Eff.step (c := 19792285147328) (s := s) x.2 ?_ (fun hx => ?_) <;> [(unfold x; clear x); (clear_value x; revert x; intro _ _)])
    | (extract_lets +onlyGivenNames y; clear_value y; revert y; intro _)
    | with_reducible apply State.streamPlay_eff
    | with_reducible apply State.modStream_eff
    | with_reducible refine Eff.each ?_ ?_
    | with_reducible refine Eff.foldl ?_ ?_
    | with_reducible refine Eff.foldl_snd ?_ ?_
    | with_reducible refine Eff.foldl_fst ?_ ?_
    | refine Eff.of_snd ?_ (by with_reducible assumption)
    | with_reducible apply Eff.Outcome.ite
    | with_reducible apply Eff.Opt.ite
    | with_reducible apply Eff.Opt.some
    | with_reducible exact Eff.Opt.none
    | with_reducible apply Eff.ite
    | with_reducible apply Eff.ite_snd
    | dsimp only
    | split
    | ((simp only [Eff.mk_iff]); refine EffMk.lit ?_ rfl rfl rfl rfl)

theorem State.requestTone_eff (s : Sys2Proof.Machine.State) (g : ℕ) {cM : Nat} {sB : State} (hB : Eff cM sB s) (hM : Within 2199023255680 cM) :
    Eff cM sB (State.requestTone s g) := by
  refine Eff.call hB ?_ hM; clear hB hM
  unfold State.requestTone
  repeat' first
    | with_reducible exact Eff.refl _ _
    | with_reducible assumption
    | ((with_reducible refine Within.intro ?_); rfl)
    | intro _
    | (extract_lets +onlyGivenNames x; refine Eff.step (c := 2199023255680) (s := s) x ?_ (fun hx => ?_) <;> [(unfold x; clear x); (clear_value x; revert x; intro _ _)])
    | (extract_lets +onlyGivenNames x; refine Eff.step (c := 2199023255680) (s := s) x.2 ?_ (fun hx => ?_) <;> [(unfold x; clear x); (clear_value x; revert x; intro _ _)])
    | (extract_lets +onlyGivenNames y; clear_value y; revert y; intro _)
    | with_reducible apply State.modTone_eff
    | with_reducible apply State.inc_eff
    | with_reducible refine Eff.each ?_ ?_
    | with_reducible refine Eff.foldl ?_ ?_
    | with_reducible refine Eff.foldl_snd ?_ ?_
    | with_reducible refine Eff.foldl_fst ?_ ?_
    | refine Eff.of_snd ?_ (by with_reducible assumption)
    | with_reducible apply Eff.Outcome.ite
    | with_reducible apply Eff.Opt.ite
    | with_reducible apply Eff.Opt.some
    | with_reducible exact Eff.Opt.none
    | with_reducible apply Eff.ite
    | with_reducible apply Eff.ite_snd
    | dsimp only
    | split
    | ((simp only [Eff.mk_iff]); refine EffMk.lit ?_ rfl rfl rfl rfl)

theorem State.toneAdvance_eff (s0 : Sys2Proof.Machine.State) (g : ℕ) {cM : Nat} {sB : State} (hB : Eff cM sB s0) (hM : Within 2199023255680 cM) :
    Eff cM sB (State.toneAdvance s0 g) := by
  refine Eff.call hB ?_ hM; clear hB hM
  unfold State.toneAdvance
  repeat' first
    | with_reducible exact Eff.refl _ _
    | with_reducible assumption
    | ((with_reducible refine Within.intro ?_); rfl)
    | intro _
    | (extract_lets +onlyGivenNames x; refine Eff.step (c := 2199023255680) (s := s0) x ?_ (fun hx => ?_) <;> [(unfold x; clear x); (clear_value x; revert x; intro _ _)])
    | (extract_lets +onlyGivenNames x; refine Eff.step (c := 2199023255680) (s := s0) x.2 ?_ (fun hx => ?_) <;> [(unfold x; clear x); (clear_value x; revert x; intro _ _)])
    | (extract_lets +onlyGivenNames y; clear_value y; revert y; intro _)
    | with_reducible apply State.modTone_eff
    | with_reducible apply State.setReg_eff
    | with_reducible refine Eff.each ?_ ?_
    | with_reducible refine Eff.foldl ?_ ?_
    | with_reducible refine Eff.foldl_snd ?_ ?_
    | with_reducible refine Eff.foldl_fst ?_ ?_
    | refine Eff.of_snd ?_ (by with_reducible assumption)
    | with_reducible apply Eff.Outcome.ite
    | with_reducible apply Eff.Opt.ite
    | with_reducible apply Eff.Opt.some
    | with_reducible exact Eff.Opt.none
    | with_reducible apply Eff.ite
    | with_reducible apply Eff.ite_snd
    | dsimp only
    | split
    | ((simp only [Eff.mk_iff]); refine EffMk.lit ?_ rfl rfl rfl rfl)

theorem State.toneSample_eff (s0 : Sys2Proof.Machine.State) (g : ℕ) {cM : Nat} {sB : State} (hB : Eff cM sB s0) (hM : Within 2199023255744 cM) :
    Eff cM sB (State.toneSample s0 g).2 := by
  refine Eff.call hB ?_ hM; clear hB hM
  unfold State.toneSample
  repeat' first
    | with_reducible exact Eff.refl _ _
    | with_reducible assumption
    | ((with_reducible refine Within.intro ?_); rfl)
    | intro _
    | (extract_lets +onlyGivenNames x; refine Eff.step (c := 2199023255744) (s := s0) x ?_ (fun hx => ?_) <;> [(unfold x; clear x); (clear_value x; revert x; intro _ _)])
    | (extract_lets +onlyGivenNames x; refine Eff.step (c := 2199023255744) (s := s0) x.2 ?_ (fun hx => ?_) <;> [(unfold x; clear x); (clear_value x; revert x; intro _ _)])
    | (extract_lets +onlyGivenNames y; clear_value y; revert y; intro _)
    | with_reducible apply State.toneAdvance_eff
    | with_reducible apply State.useFree_eff
    | with_reducible apply State.modTone_eff
    | with_reducible apply State.setReg_eff
    | with_reducible refine Eff.each ?_ ?_
    | with_reducible refine Eff.foldl ?_ ?_
    | with_reducible refine Eff.foldl_snd ?_ ?_
    | with_reducible refine Eff.foldl_fst ?_ ?_
    | refine Eff.of_snd ?_ (by with_reducible assumption)
    | with_reducible apply Eff.Outcome.ite
    | with_reducible apply Eff.Opt.ite
    | with_reducible apply Eff.Opt.some
    | with_reducible exact Eff.Opt.none
    | with_reducible apply Eff.ite
    | with_reducible apply Eff.ite_snd
    | dsimp only
    | split
    | ((simp only [Eff.mk_iff]); refine EffMk.lit ?_ rfl rfl rfl rfl)

theorem State.silenceEvent_eff (s : Sys2Proof.Machine.State) (node : ℕ) (reason : ℕ) {cM : Nat} {sB : State} (hB : Eff cM sB s) (hM : Within 17593261891712 cM) :
    Eff cM sB (State.silenceEvent s node reason) := by
  refine Eff.call hB ?_ hM; clear hB hM
  unfold State.silenceEvent
  repeat' first
    | with_reducible exact Eff.refl _ _
    | with_reducible assumption
    | ((with_reducible refine Within.intro ?_); rfl)
    | intro _
    | (extract_lets +onlyGivenNames x; refine Eff.step (c := 17593261891712) (s := s) x ?_ (fun hx => ?_) <;> [(unfold x; clear x); (clear_value x; revert x; intro _ _)])
    | (extract_lets +onlyGivenNames x; refine Eff.step (c := 17593261891712) (s := s) x.2 ?_ (fun hx => ?_) <;> [(unfold x; clear x); (clear_value x; revert x; intro _ _)])
    | (extract_lets +onlyGivenNames y; clear_value y; revert y; intro _)
    | with_reducible apply State.event_eff
    | with_reducible refine Eff.each ?_ ?_
    | with_reducible refine Eff.foldl ?_ ?_
    | with_reducible refine Eff.foldl_snd ?_ ?_
    | with_reducible refine Eff.foldl_fst ?_ ?_
    | refine Eff.of_snd ?_ (by with_reducible assumption)
    | with_reducible apply Eff.Outcome.ite
    | with_reducible apply Eff.Opt.ite
    | with_reducible apply Eff.Opt.some
    | with_reducible exact Eff.Opt.none
    | with_reducible apply Eff.ite
    | with_reducible apply Eff.ite_snd
    | dsimp only
    | split
    | ((simp only [Eff.mk_iff]); refine EffMk.lit ?_ rfl rfl rfl rfl)

theorem State.judgeInput_eff (s : Sys2Proof.Machine.State) (i : ℕ) (x : ℚ) {cM : Nat} {sB : State} (hB : Eff cM sB s) (hM : Within 19792285147328 cM) :
    Eff cM sB (State.judgeInput s i x) := by
  refine Eff.call hB ?_ hM; clear hB hM
  unfold State.judgeInput
  repeat' first
    | with_reducible exact Eff.refl _ _
    | with_reducible assumption
    | ((with_reducible refine Within.intro ?_); rfl)
    | intro _
    | (extract_lets +onlyGivenNames x; refine Eff.step (c := 19792285147328) (s := s) x ?_ (fun hx => ?_) <;> [(unfold x; clear x); (clear_value x; revert x; intro _ _)])
    | (extract_lets +onlyGivenNames x; refine Eff.step (c := 19792285147328) (s := s) x.2 ?_ (fun hx => ?_) <;> [(unfold x; clear x); (clear_value x; revert x; intro _ _)])
    | (extract_lets +onlyGivenNames y; clear_value y; revert y; intro _)
    | with_reducible apply State.useFree_eff
    | with_reducible apply State.setRegI_eff
    | with_reducible apply State.modRow_eff
    | with_reducible apply State.silenceEvent_eff
    | with_reducible apply State.setReg_eff
    | with_reducible refine Eff.each ?_ ?_
    | with_reducible refine Eff.foldl ?_ ?_
    | with_reducible refine Eff.foldl_snd ?_ ?_
    | with_reducible refine Eff.foldl_fst ?_ ?_
    | refine Eff.of_snd ?_ (by with_reducible assumption)
    | with_reducible apply Eff.Outcome.ite
    | with_reducible apply Eff.Opt.ite
    | with_reducible apply Eff.Opt.some
    | with_reducible exact Eff.Opt.none
    | with_reducible apply Eff.ite
    | with_reducible apply Eff.ite_snd
    | dsimp only
    | split
    | ((simp only [Eff.mk_iff]); refine EffMk.lit ?_ rfl rfl rfl rfl)

theorem State.judgeOutput_eff (s : Sys2Proof.Machine.State) (o : ℕ) (x : ℚ) {cM : Nat} {sB : State} (hB : Eff cM sB s) (hM : Within 19792285147328 cM) :
    Eff cM sB (State.judgeOutput s o x) := by
  refine Eff.call hB ?_ hM; clear hB hM
  unfold State.judgeOutput
  repeat' first
    | with_reducible exact Eff.refl _ _
    | with_reducible assumption
    | ((with_reducible refine Within.intro ?_); rfl)
    | intro _
    | (extract_lets +onlyGivenNames x; refine Eff.step (c := 19792285147328) (s := s) x ?_ (fun hx => ?_) <;> [(unfold x; clear x); (clear_value x; revert x; intro _ _)])
    | (extract_lets +onlyGivenNames x; refine Eff.step (c := 19792285147328) (s := s) x.2 ?_ (fun hx => ?_) <;> [(unfold x; clear x); (clear_value x; revert x; intro _ _)])
    | (extract_lets +onlyGivenNames y; clear_value y; revert y; intro _)
    | with_reducible apply State.useFree_eff
    | with_reducible apply State.setRegI_eff
    | with_reducible apply State.modXpo_eff
    | with_reducible apply State.silenceEvent_eff
    | with_reducible apply State.setReg_eff
    | with_reducible refine Eff.each ?_ ?_
    | with_reducible refine Eff.foldl ?_ ?_
    | with_reducible refine Eff.foldl_snd ?_ ?_
    | with_reducible refine Eff.foldl_fst ?_ ?_
    | refine Eff.of_snd ?_ (by with_reducible assumption)
    | with_reducible apply Eff.Outcome.ite
    | with_reducible apply Eff.Opt.ite
    | with_reducible apply Eff.Opt.some
    | with_reducible exact Eff.Opt.none
    | with_reducible apply Eff.ite
    | with_reducible apply Eff.ite_snd
    | dsimp only
    | split
    | ((simp only [Eff.mk_iff]); refine EffMk.lit ?_ rfl rfl rfl rfl)

theorem State.setAmp_eff (s : Sys2Proof.Machine.State) (p : ℕ) (on : Bool) {cM : Nat} {sB : State} (hB : Eff cM sB s) (hM : Within 17593262153856 cM) :
    Eff cM sB (State.setAmp s p on) := by
  refine Eff.call hB ?_ hM; clear hB hM
  unfold State.setAmp
  repeat' first
    | with_reducible exact Eff.refl _ _
    | with_reducible assumption
    | ((with_reducible refine Within.intro ?_); rfl)
    | intro _
    | (extract_lets +onlyGivenNames x; refine Eff.step (c := 17593262153856) (s := s) x ?_ (fun hx => ?_) <;> [(unfold x; clear x); (clear_value x; revert x; intro _ _)])
    | (extract_lets +onlyGivenNames x; refine Eff.step (c := 17593262153856) (s := s) x.2 ?_ (fun hx => ?_) <;> [(unfold x; clear x); (clear_value x; revert x; intro _ _)])
    | (extract_lets +onlyGivenNames y; clear_value y; revert y; intro _)
    | with_reducible apply State.inc_eff
    | with_reducible apply State.setReg_eff
    | with_reducible apply State.event_eff
    | with_reducible refine Eff.each ?_ ?_
    | with_reducible refine Eff.foldl ?_ ?_
    | with_reducible refine Eff.foldl_snd ?_ ?_
    | with_reducible refine Eff.foldl_fst ?_ ?_
    | refine Eff.of_snd ?_ (by with_reducible assumption)
    | with_reducible apply Eff.Outcome.ite
    | with_reducible apply Eff.Opt.ite
    | with_reducible apply Eff.Opt.some
    | with_reducible exact Eff.Opt.none
    | with_reducible apply Eff.ite
    | with_reducible apply Eff.ite_snd
    | dsimp only
    | split
    | ((simp only [Eff.mk_iff]); refine EffMk.lit ?_ rfl rfl rfl rfl)

theorem State.judgeAmps_eff (s : Sys2Proof.Machine.State) {cM : Nat} {sB : State} (hB : Eff cM sB s) (hM : Within 17593262153856 cM) :
    Eff cM sB (State.judgeAmps s) := by
  refine Eff.call hB ?_ hM; clear hB hM
  unfold State.judgeAmps
  repeat' first
    | with_reducible exact Eff.refl _ _
    | with_reducible assumption
    | ((with_reducible refine Within.intro ?_); rfl)
    | intro _
    | (extract_lets +onlyGivenNames x; refine Eff.step (c := 17593262153856) (s := s) x ?_ (fun hx => ?_) <;> [(unfold x; clear x); (clear_value x; revert x; intro _ _)])
    | (extract_lets +onlyGivenNames x; refine Eff.step (c := 17593262153856) (s := s) x.2 ?_ (fun hx => ?_) <;> [(unfold x; clear x); (clear_value x; revert x; intro _ _)])
    | (extract_lets +onlyGivenNames y; clear_value y; revert y; intro _)
    | with_reducible apply State.setAmp_eff
    | with_reducible refine Eff.each ?_ ?_
    | with_reducible refine Eff.foldl ?_ ?_
    | with_reducible refine Eff.foldl_snd ?_ ?_
    | with_reducible refine Eff.foldl_fst ?_ ?_
    | refine Eff.of_snd ?_ (by with_reducible assumption)
    | with_reducible apply Eff.Outcome.ite
    | with_reducible apply Eff.Opt.ite
    | with_reducible apply Eff.Opt.some
    | with_reducible exact Eff.Opt.none
    | with_reducible apply Eff.ite
    | with_reducible apply Eff.ite_snd
    | dsimp only
    | split
    | ((simp only [Eff.mk_iff]); refine EffMk.lit ?_ rfl rfl rfl rfl)

theorem State.eachRow_eff {s : State} {f : State → ℕ → State} {cM : Nat} {sB : State} (h : Eff cM sB s)
    (k : ∀ t n, Eff cM sB t → Eff cM sB (f t n)) : Eff cM sB (State.eachRow s f) := Eff.each h k

theorem State.outputsFromMute_eff (s : Sys2Proof.Machine.State) {cM : Nat} {sB : State} (hB : Eff cM sB s) (hM : Within 2199023255552 cM) :
    Eff cM sB (State.outputsFromMute s) := by
  refine Eff.call hB ?_ hM; clear hB hM
  unfold State.outputsFromMute
  repeat' first
    | with_reducible exact Eff.refl _ _
    | with_reducible assumption
    | ((with_reducible refine Within.intro ?_); rfl)
    | intro _
    | (extract_lets +onlyGivenNames x; refine Eff.step (c := 2199023255552) (s := s) x ?_ (fun hx => ?_) <;> [(unfold x; clear x); (clear_value x; revert x; intro _ _)])
    | (extract_lets +onlyGivenNames x; refine Eff.step (c := 2199023255552) (s := s) x.2 ?_ (fun hx => ?_) <;> [(unfold x; clear x); (clear_value x; revert x; intro _ _)])
    | (extract_lets +onlyGivenNames y; clear_value y; revert y; intro _)
    | with_reducible apply State.modXpo_eff
    | with_reducible refine Eff.each ?_ ?_
    | with_reducible refine Eff.foldl ?_ ?_
    | with_reducible refine Eff.foldl_snd ?_ ?_
    | with_reducible refine Eff.foldl_fst ?_ ?_
    | refine Eff.of_snd ?_ (by with_reducible assumption)
    | with_reducible apply Eff.Outcome.ite
    | with_reducible apply Eff.Opt.ite
    | with_reducible apply Eff.Opt.some
    | with_reducible exact Eff.Opt.none
    | with_reducible apply Eff.ite
    | with_reducible apply Eff.ite_snd
    | dsimp only
    | split
    | ((simp only [Eff.mk_iff]); refine EffMk.lit ?_ rfl rfl rfl rfl)

theorem State.outputsToMute_eff (s : Sys2Proof.Machine.State) {cM : Nat} {sB : State} (hB : Eff cM sB s) (hM : Within 2199023255552 cM) :
    Eff cM sB (State.outputsToMute s) := by
  refine Eff.call hB ?_ hM; clear hB hM
  unfold State.outputsToMute
  repeat' first
    | with_reducible exact Eff.refl _ _
    | with_reducible assumption
    | ((with_reducible refine Within.intro ?_); rfl)
    | intro _
    | (extract_lets +onlyGivenNames x; refine Eff.step (c := 2199023255552) (s := s) x ?_ (fun hx => ?_) <;> [(unfold x; clear x); (clear_value x; revert x; intro _ _)])
    | (extract_lets +onlyGivenNames x; refine Eff.step (c := 2199023255552) (s := s) x.2 ?_ (fun hx => ?_) <;> [(unfold x; clear x); (clear_value x; revert x; intro _ _)])
    | (extract_lets +onlyGivenNames y; clear_value y; revert y; intro _)
    | with_reducible apply State.modXpo_eff
    | with_reducible refine Eff.each ?_ ?_
    | with_reducible refine Eff.foldl ?_ ?_
    | with_reducible refine Eff.foldl_snd ?_ ?_
    | with_reducible refine Eff.foldl_fst ?_ ?_
    | refine Eff.of_snd ?_ (by with_reducible assumption)
    | with_reducible apply Eff.Outcome.ite
    | with_reducible apply Eff.Opt.ite
    | with_reducible apply Eff.Opt.some
    | with_reducible exact Eff.Opt.none
    | with_reducible apply Eff.ite
    | with_reducible apply Eff.ite_snd
    | dsimp only
    | split
    | ((simp only [Eff.mk_iff]); refine EffMk.lit ?_ rfl rfl rfl rfl)

theorem State.settlePort_eff (s : Sys2Proof.Machine.State) (p : ℕ) {cM : Nat} {sB : State} (hB : Eff cM sB s) (hM : Within 128 cM) :
    Eff cM sB (State.settlePort s p) := by
  refine Eff.call hB ?_ hM; clear hB hM
  unfold State.settlePort
  repeat' first
    | with_reducible exact Eff.refl _ _
    | with_reducible assumption
    | ((with_reducible refine Within.intro ?_); rfl)
    | intro _
    | (extract_lets +onlyGivenNames x; refine Eff.step (c := 128) (s := s) x ?_ (fun hx => ?_) <;> [(unfold x; clear x); (clear_value x; revert x; intro _ _)])
    | (extract_lets +onlyGivenNames x; refine Eff.step (c := 128) (s := s) x.2 ?_ (fun hx => ?_) <;> [(unfold x; clear x); (clear_value x; revert x; intro _ _)])
    | (extract_lets +onlyGivenNames y; clear_value y; revert y; intro _)
    | with_reducible apply State.setReg_eff
    | with_reducible refine Eff.each ?_ ?_
    | with_reducible refine Eff.foldl ?_ ?_
    | with_reducible refine Eff.foldl_snd ?_ ?_
    | with_reducible refine Eff.foldl_fst ?_ ?_
    | refine Eff.of_snd ?_ (by with_reducible assumption)
    | with_reducible apply Eff.Outcome.ite
    | with_reducible apply Eff.Opt.ite
    | with_reducible apply Eff.Opt.some
    | with_reducible exact Eff.Opt.none
    | with_reducible apply Eff.ite
    | with_reducible apply Eff.ite_snd
    | dsimp only
    | split
    | ((simp only [Eff.mk_iff]); refine EffMk.lit ?_ rfl rfl rfl rfl)

theorem State.audioUptake_eff (s : Sys2Proof.Machine.State) {cM : Nat} {sB : State} (hB : Eff cM sB s) (hM : Within 2199023256704 cM) :
    Eff cM sB (State.audioUptake s) := by
  refine Eff.call hB ?_ hM; clear hB hM
  unfold State.audioUptake
  repeat' first
    | with_reducible exact Eff.refl _ _
    | with_reducible assumption
    | ((with_reducible refine Within.intro ?_); rfl)
    | intro _
    | (extract_lets +onlyGivenNames x; refine Eff.step (c := 2199023256704) (s := s) x ?_ (fun hx => ?_) <;> [(unfold x; clear x); (clear_value x; revert x; intro _ _)])
    | (extract_lets +onlyGivenNames x; refine Eff.step (c := 2199023256704) (s := s) x.2 ?_ (fun hx => ?_) <;> [(unfold x; clear x); (clear_value x; revert x; intro _ _)])
    | (extract_lets +onlyGivenNames y; clear_value y; revert y; intro _)
    | with_reducible apply State.takeUp_eff
    | with_reducible apply State.setReg_eff
    | with_reducible apply State.modXpo_eff
    | with_reducible apply State.outputsToMute_eff
    | with_reducible apply State.settlePort_eff
    | with_reducible refine Eff.each ?_ ?_
    | with_reducible refine Eff.foldl ?_ ?_
    | with_reducible refine Eff.foldl_snd ?_ ?_
    | with_reducible refine Eff.foldl_fst ?_ ?_
    | refine Eff.of_snd ?_ (by with_reducible assumption)
    | with_reducible apply Eff.Outcome.ite
    | with_reducible apply Eff.Opt.ite
    | with_reducible apply Eff.Opt.some
    | with_reducible exact Eff.Opt.none
    | with_reducible apply Eff.ite
    | with_reducible apply Eff.ite_snd
    | dsimp only
    | split
    | ((simp only [Eff.mk_iff]); refine EffMk.lit ?_ rfl rfl rfl rfl)

theorem State.audioStart_eff (s : Sys2Proof.Machine.State) {cM : Nat} {sB : State} (hB : Eff cM sB s) (hM : Within 2199023256704 cM) :
    Eff cM sB (State.audioStart s) := by
  refine Eff.call hB ?_ hM; clear hB hM
  unfold State.audioStart
  repeat' first
    | with_reducible exact Eff.refl _ _
    | with_reducible assumption
    | ((with_reducible refine Within.intro ?_); rfl)
    | intro _
    | (extract_lets +onlyGivenNames x; refine Eff.step (c := 2199023256704) (s := s) x ?_ (fun hx => ?_) <;> [(unfold x; clear x); (clear_value x; revert x; intro _ _)])
    | (extract_lets +onlyGivenNames x; refine Eff.step (c := 2199023256704) (s := s) x.2 ?_ (fun hx => ?_) <;> [(unfold x; clear x); (clear_value x; revert x; intro _ _)])
    | (extract_lets +onlyGivenNames y; clear_value y; revert y; intro _)
    | with_reducible apply State.takeUp_eff
    | with_reducible refine State.eachRow_eff ?_ ?_
    | with_reducible apply State.openRow_eff
    | with_reducible apply State.modRow_eff
    | with_reducible apply State.modXpo_eff
    | with_reducible apply State.setReg_eff
    | with_reducible apply State.settlePort_eff
    | with_reducible refine Eff.each ?_ ?_
    | with_reducible refine Eff.foldl ?_ ?_
    | with_reducible refine Eff.foldl_snd ?_ ?_
    | with_reducible refine Eff.foldl_fst ?_ ?_
    | refine Eff.of_snd ?_ (by with_reducible assumption)
    | with_reducible apply Eff.Outcome.ite
    | with_reducible apply Eff.Opt.ite
    | with_reducible apply Eff.Opt.some
    | with_reducible exact Eff.Opt.none
    | with_reducible apply Eff.ite
    | with_reducible apply Eff.ite_snd
    | dsimp only
    | split
    | ((simp only [Eff.mk_iff]); refine EffMk.lit ?_ rfl rfl rfl rfl)

theorem State.audioSleep_eff (s : Sys2Proof.Machine.State) {cM : Nat} {sB : State} (hB : Eff cM sB s) (hM : Within 17593262153856 cM) :
    Eff cM sB (State.audioSleep s) := by
  refine Eff.call hB ?_ hM; clear hB hM
  unfold State.audioSleep
  repeat' first
    | with_reducible exact Eff.refl _ _
    | with_reducible assumption
    | ((with_reducible refine Within.intro ?_); rfl)
    | intro _
    | (extract_lets +onlyGivenNames x; refine Eff.step (c := 17593262153856) (s := s) x ?_ (fun hx => ?_) <;> [(unfold x; clear x); (clear_value x; revert x; intro _ _)])
    | (extract_lets +onlyGivenNames x; refine Eff.step (c := 17593262153856) (s := s) x.2 ?_ (fun hx => ?_) <;> [(unfold x; clear x); (clear_value x; revert x; intro _ _)])
    | (extract_lets +onlyGivenNames y; clear_value y; revert y; intro _)
    | with_reducible apply State.setAmp_eff
    | with_reducible apply State.setReg_eff
    | with_reducible refine Eff.each ?_ ?_
    | with_reducible refine Eff.foldl ?_ ?_
    | with_reducible refine Eff.foldl_snd ?_ ?_
    | with_reducible refine Eff.foldl_fst ?_ ?_
    | refine Eff.of_snd ?_ (by with_reducible assumption)
    | with_reducible apply Eff.Outcome.ite
    | with_reducible apply Eff.Opt.ite
    | with_reducible apply Eff.Opt.some
    | with_reducible exact Eff.Opt.none
    | with_reducible apply Eff.ite
    | with_reducible apply Eff.ite_snd
    | dsimp only
    | split
    | ((simp only [Eff.mk_iff]); refine EffMk.lit ?_ rfl rfl rfl rfl)

theorem State.openRows_eff (s : Sys2Proof.Machine.State) {cM : Nat} {sB : State} (hB : Eff cM sB s) (hM : Within 2199023255552 cM) :
    Eff cM sB (State.openRows s) := by
  refine Eff.call hB ?_ hM; clear hB hM
  unfold State.openRows
  repeat' first
    | with_reducible exact Eff.refl _ _
    | with_reducible assumption
    | ((with_reducible refine Within.intro ?_); rfl)
    | intro _
    | (extract_lets +onlyGivenNames x; refine Eff.step (c := 2199023255552) (s := s) x ?_ (fun hx => ?_) <;> [(unfold x; clear x); (clear_value x; revert x; intro _ _)])
    | (extract_lets +onlyGivenNames x; refine Eff.step (c := 2199023255552) (s := s) x.2 ?_ (fun hx => ?_) <;> [(unfold x; clear x); (clear_value x; revert x; intro _ _)])
    | (extract_lets +onlyGivenNames y; clear_value y; revert y; intro _)
    | with_reducible apply State.openRow_eff
    | with_reducible refine Eff.each ?_ ?_
    | with_reducible refine Eff.foldl ?_ ?_
    | with_reducible refine Eff.foldl_snd ?_ ?_
    | with_reducible refine Eff.foldl_fst ?_ ?_
    | refine Eff.of_snd ?_ (by with_reducible assumption)
    | with_reducible apply Eff.Outcome.ite
    | with_reducible apply Eff.Opt.ite
    | with_reducible apply Eff.Opt.some
    | with_reducible exact Eff.Opt.none
    | with_reducible apply Eff.ite
    | with_reducible apply Eff.ite_snd
    | dsimp only
    | split
    | ((simp only [Eff.mk_iff]); refine EffMk.lit ?_ rfl rfl rfl rfl)

theorem State.audioWake_eff (s : Sys2Proof.Machine.State) {cM : Nat} {sB : State} (hB : Eff cM sB s) (hM : Within 2199023255680 cM) :
    Eff cM sB (State.audioWake s) := by
  refine Eff.call hB ?_ hM; clear hB hM
  unfold State.audioWake
  repeat' first
    | with_reducible exact Eff.refl _ _
    | with_reducible assumption
    | ((with_reducible refine Within.intro ?_); rfl)
    | intro _
    | (extract_lets +onlyGivenNames x; refine Eff.step (c := 2199023255680) (s := s) x ?_ (fun hx => ?_) <;> [(unfold x; clear x); (clear_value x; revert x; intro _ _)])
    | (extract_lets +onlyGivenNames x; refine Eff.step (c := 2199023255680) (s := s) x.2 ?_ (fun hx => ?_) <;> [(unfold x; clear x); (clear_value x; revert x; intro _ _)])
    | (extract_lets +onlyGivenNames y; clear_value y; revert y; intro _)
    | with_reducible apply State.openRows_eff
    | with_reducible apply State.settlePort_eff
    | with_reducible refine Eff.each ?_ ?_
    | with_reducible refine Eff.foldl ?_ ?_
    | with_reducible refine Eff.foldl_snd ?_ ?_
    | with_reducible refine Eff.foldl_fst ?_ ?_
    | refine Eff.of_snd ?_ (by with_reducible assumption)
    | with_reducible apply Eff.Outcome.ite
    | with_reducible apply Eff.Opt.ite
    | with_reducible apply Eff.Opt.some
    | with_reducible exact Eff.Opt.none
    | with_reducible apply Eff.ite
    | with_reducible apply Eff.ite_snd
    | dsimp only
    | split
    | ((simp only [Eff.mk_iff]); refine EffMk.lit ?_ rfl rfl rfl rfl)

theorem State.rampStream_eff (s : Sys2Proof.Machine.State) (n : ℕ) (samples : ℕ) (leaving : Bool) {cM : Nat} {sB : State} (hB : Eff cM sB s) (hM : Within 2199023255552 cM) :
    Eff cM sB (State.rampStream s n samples leaving) := by
  refine Eff.call hB ?_ hM; clear hB hM
  unfold State.rampStream
  repeat' first
    | with_reducible exact Eff.refl _ _
    | with_reducible assumption
    | ((with_reducible refine Within.intro ?_); rfl)
    | intro _
    | (extract_lets +onlyGivenNames x; refine Eff.step (c := 2199023255552) (s := s) x ?_ (fun hx => ?_) <;> [(unfold x; clear x); (clear_value x; revert x; intro _ _)])
    | (extract_lets +onlyGivenNames x; refine Eff.step (c := 2199023255552) (s := s) x.2 ?_ (fun hx => ?_) <;> [(unfold x; clear x); (clear_value x; revert x; intro _ _)])
    | (extract_lets +onlyGivenNames y; clear_value y; revert y; intro _)
    | with_reducible apply State.modStream_eff
    | with_reducible refine Eff.each ?_ ?_
    | with_reducible refine Eff.foldl ?_ ?_
    | with_reducible refine Eff.foldl_snd ?_ ?_
    | with_reducible refine Eff.foldl_fst ?_ ?_
    | refine Eff.of_snd ?_ (by with_reducible assumption)
    | with_reducible apply Eff.Outcome.ite
    | with_reducible apply Eff.Opt.ite
    | with_reducible apply Eff.Opt.some
    | with_reducible exact Eff.Opt.none
    | with_reducible apply Eff.ite
    | with_reducible apply Eff.ite_snd
    | dsimp only
    | split
    | ((simp only [Eff.mk_iff]); refine EffMk.lit ?_ rfl rfl rfl rfl)

theorem State.audioQuiesce_eff (s : Sys2Proof.Machine.State) (i : ℕ) {cM : Nat} {sB : State} (hB : Eff cM sB s) (hM : Within 2199023255680 cM) :
    Eff cM sB (State.audioQuiesce s i) := by
  refine Eff.call hB ?_ hM; clear hB hM
  unfold State.audioQuiesce
  repeat' first
    | with_reducible exact Eff.refl _ _
    | with_reducible assumption
    | ((with_reducible refine Within.intro ?_); rfl)
    | intro _
    | (extract_lets +onlyGivenNames x; refine Eff.step (c := 2199023255680) (s := s) x ?_ (fun hx => ?_) <;> [(unfold x; clear x); (clear_value x; revert x; intro _ _)])
    | (extract_lets +onlyGivenNames x; refine Eff.step (c := 2199023255680) (s := s) x.2 ?_ (fun hx => ?_) <;> [(unfold x; clear x); (clear_value x; revert x; intro _ _)])
    | (extract_lets +onlyGivenNames y; clear_value y; revert y; intro _)
    | with_reducible apply State.modStream_eff
    | with_reducible refine State.eachRow_eff ?_ ?_
    | with_reducible apply State.rowLeaves_eff
    | with_reducible apply State.rampStream_eff
    | with_reducible refine Eff.each ?_ ?_
    | with_reducible refine Eff.foldl ?_ ?_
    | with_reducible refine Eff.foldl_snd ?_ ?_
    | with_reducible refine Eff.foldl_fst ?_ ?_
    | refine Eff.of_snd ?_ (by with_reducible assumption)
    | with_reducible apply Eff.Outcome.ite
    | with_reducible apply Eff.Opt.ite
    | with_reducible apply Eff.Opt.some
    | with_reducible exact Eff.Opt.none
    | with_reducible apply Eff.ite
    | with_reducible apply Eff.ite_snd
    | dsimp only
    | split
    | ((simp only [Eff.mk_iff]); refine EffMk.lit ?_ rfl rfl rfl rfl)

theorem State.rowTaken_eff (s : Sys2Proof.Machine.State) (r : ℕ) {cM : Nat} {sB : State} (hB : Eff cM sB s) (hM : Within 2199023255680 cM) :
    Eff cM sB (State.rowTaken s r) := by
  refine Eff.call hB ?_ hM; clear hB hM
  unfold State.rowTaken
  repeat' first
    | with_reducible exact Eff.refl _ _
    | with_reducible assumption
    | ((with_reducible refine Within.intro ?_); rfl)
    | intro _
    | (extract_lets +onlyGivenNames x; refine Eff.step (c := 2199023255680) (s := s) x ?_ (fun hx => ?_) <;> [(unfold x; clear x); (clear_value x; revert x; intro _ _)])
    | (extract_lets +onlyGivenNames x; refine Eff.step (c := 2199023255680) (s := s) x.2 ?_ (fun hx => ?_) <;> [(unfold x; clear x); (clear_value x; revert x; intro _ _)])
    | (extract_lets +onlyGivenNames y; clear_value y; revert y; intro _)
    | with_reducible apply State.rowLeaves_eff
    | with_reducible apply State.rampStream_eff
    | with_reducible refine Eff.each ?_ ?_
    | with_reducible refine Eff.foldl ?_ ?_
    | with_reducible refine Eff.foldl_snd ?_ ?_
    | with_reducible refine Eff.foldl_fst ?_ ?_
    | refine Eff.of_snd ?_ (by with_reducible assumption)
    | with_reducible apply Eff.Outcome.ite
    | with_reducible apply Eff.Opt.ite
    | with_reducible apply Eff.Opt.some
    | with_reducible exact Eff.Opt.none
    | with_reducible apply Eff.ite
    | with_reducible apply Eff.ite_snd
    | dsimp only
    | split
    | ((simp only [Eff.mk_iff]); refine EffMk.lit ?_ rfl rfl rfl rfl)

theorem State.audioFreeze_eff (s : Sys2Proof.Machine.State) (i : ℕ) {cM : Nat} {sB : State} (hB : Eff cM sB s) (hM : Within 2199023255552 cM) :
    Eff cM sB (State.audioFreeze s i) := by
  refine Eff.call hB ?_ hM; clear hB hM
  unfold State.audioFreeze
  repeat' first
    | with_reducible exact Eff.refl _ _
    | with_reducible assumption
    | ((with_reducible refine Within.intro ?_); rfl)
    | intro _
    | (extract_lets +onlyGivenNames x; refine Eff.step (c := 2199023255552) (s := s) x ?_ (fun hx => ?_) <;> [(unfold x; clear x); (clear_value x; revert x; intro _ _)])
    | (extract_lets +onlyGivenNames x; refine Eff.step (c := 2199023255552) (s := s) x.2 ?_ (fun hx => ?_) <;> [(unfold x; clear x); (clear_value x; revert x; intro _ _)])
    | (extract_lets +onlyGivenNames y; clear_value y; revert y; intro _)
    | with_reducible apply State.modStream_eff
    | with_reducible apply State.rampStream_eff
    | with_reducible refine Eff.each ?_ ?_
    | with_reducible refine Eff.foldl ?_ ?_
    | with_reducible refine Eff.foldl_snd ?_ ?_
    | with_reducible refine Eff.foldl_fst ?_ ?_
    | refine Eff.of_snd ?_ (by with_reducible assumption)
    | with_reducible apply Eff.Outcome.ite
    | with_reducible apply Eff.Opt.ite
    | with_reducible apply Eff.Opt.some
    | with_reducible exact Eff.Opt.none
    | with_reducible apply Eff.ite
    | with_reducible apply Eff.ite_snd
    | dsimp only
    | split
    | ((simp only [Eff.mk_iff]); refine EffMk.lit ?_ rfl rfl rfl rfl)

theorem State.audioThaw_eff (s : Sys2Proof.Machine.State) (i : ℕ) {cM : Nat} {sB : State} (hB : Eff cM sB s) (hM : Within 2199023255552 cM) :
    Eff cM sB (State.audioThaw s i) := by
  refine Eff.call hB ?_ hM; clear hB hM
  unfold State.audioThaw
  repeat' first
    | with_reducible exact Eff.refl _ _
    | with_reducible assumption
    | ((with_reducible refine Within.intro ?_); rfl)
    | intro _
    | (extract_lets +onlyGivenNames x; refine Eff.step (c := 2199023255552) (s := s) x ?_ (fun hx => ?_) <;> [(unfold x; clear x); (clear_value x; revert x; intro _ _)])
    | (extract_lets +onlyGivenNames x; refine Eff.step (c := 2199023255552) (s := s) x.2 ?_ (fun hx => ?_) <;> [(unfold x; clear x); (clear_value x; revert x; intro _ _)])
    | (extract_lets +onlyGivenNames y; clear_value y; revert y; intro _)
    | with_reducible apply State.modStream_eff
    | with_reducible refine Eff.each ?_ ?_
    | with_reducible refine Eff.foldl ?_ ?_
    | with_reducible refine Eff.foldl_snd ?_ ?_
    | with_reducible refine Eff.foldl_fst ?_ ?_
    | refine Eff.of_snd ?_ (by with_reducible assumption)
    | with_reducible apply Eff.Outcome.ite
    | with_reducible apply Eff.Opt.ite
    | with_reducible apply Eff.Opt.some
    | with_reducible exact Eff.Opt.none
    | with_reducible apply Eff.ite
    | with_reducible apply Eff.ite_snd
    | dsimp only
    | split
    | ((simp only [Eff.mk_iff]); refine EffMk.lit ?_ rfl rfl rfl rfl)

theorem State.audioDiscard_eff (s : Sys2Proof.Machine.State) (i : ℕ) (q : ℕ) {cM : Nat} {sB : State} (hB : Eff cM sB s) (hM : Within 2199023255552 cM) :
    Eff cM sB (State.audioDiscard s i q) := by
  refine Eff.call hB ?_ hM; clear hB hM
  unfold State.audioDiscard
  repeat' first
    | with_reducible exact Eff.refl _ _
    | with_reducible assumption
    | ((with_reducible refine Within.intro ?_); rfl)
    | intro _
    | (extract_lets +onlyGivenNames x; refine Eff.step (c := 2199023255552) (s := s) x ?_ (fun hx => ?_) <;> [(unfold x; clear x); (clear_value x; revert x; intro _ _)])
    | (extract_lets +onlyGivenNames x; refine Eff.step (c := 2199023255552) (s := s) x.2 ?_ (fun hx => ?_) <;> [(unfold x; clear x); (clear_value x; revert x; intro _ _)])
    | (extract_lets +onlyGivenNames y; clear_value y; revert y; intro _)
    | with_reducible apply State.modStream_eff
    | with_reducible refine Eff.each ?_ ?_
    | with_reducible refine Eff.foldl ?_ ?_
    | with_reducible refine Eff.foldl_snd ?_ ?_
    | with_reducible refine Eff.foldl_fst ?_ ?_
    | refine Eff.of_snd ?_ (by with_reducible assumption)
    | with_reducible apply Eff.Outcome.ite
    | with_reducible apply Eff.Opt.ite
    | with_reducible apply Eff.Opt.some
    | with_reducible exact Eff.Opt.none
    | with_reducible apply Eff.ite
    | with_reducible apply Eff.ite_snd
    | dsimp only
    | split
    | ((simp only [Eff.mk_iff]); refine EffMk.lit ?_ rfl rfl rfl rfl)

theorem State.fadeInputs_eff (s : Sys2Proof.Machine.State) (p : ℕ) {cM : Nat} {sB : State} (hB : Eff cM sB s) (hM : Within 2199023255552 cM) :
    Eff cM sB (State.fadeInputs s p) := by
  refine Eff.call hB ?_ hM; clear hB hM
  unfold State.fadeInputs
  repeat' first
    | with_reducible exact Eff.refl _ _
    | with_reducible assumption
    | ((with_reducible refine Within.intro ?_); rfl)
    | intro _
    | (extract_lets +onlyGivenNames x; refine Eff.step (c := 2199023255552) (s := s) x ?_ (fun hx => ?_) <;> [(unfold x; clear x); (clear_value x; revert x; intro _ _)])
    | (extract_lets +onlyGivenNames x; refine Eff.step (c := 2199023255552) (s := s) x.2 ?_ (fun hx => ?_) <;> [(unfold x; clear x); (clear_value x; revert x; intro _ _)])
    | (extract_lets +onlyGivenNames y; clear_value y; revert y; intro _)
    | with_reducible apply State.modRow_eff
    | with_reducible refine Eff.each ?_ ?_
    | with_reducible refine Eff.foldl ?_ ?_
    | with_reducible refine Eff.foldl_snd ?_ ?_
    | with_reducible refine Eff.foldl_fst ?_ ?_
    | refine Eff.of_snd ?_ (by with_reducible assumption)
    | with_reducible apply Eff.Outcome.ite
    | with_reducible apply Eff.Opt.ite
    | with_reducible apply Eff.Opt.some
    | with_reducible exact Eff.Opt.none
    | with_reducible apply Eff.ite
    | with_reducible apply Eff.ite_snd
    | dsimp only
    | split
    | ((simp only [Eff.mk_iff]); refine EffMk.lit ?_ rfl rfl rfl rfl)

theorem State.audioShellFailed_eff (s : Sys2Proof.Machine.State) (p : ℕ) {cM : Nat} {sB : State} (hB : Eff cM sB s) (hM : Within 19792285147264 cM) :
    Eff cM sB (State.audioShellFailed s p) := by
  refine Eff.call hB ?_ hM; clear hB hM
  unfold State.audioShellFailed
  repeat' first
    | with_reducible exact Eff.refl _ _
    | with_reducible assumption
    | ((with_reducible refine Within.intro ?_); rfl)
    | intro _
    | (extract_lets +onlyGivenNames x; refine Eff.step (c := 19792285147264) (s := s) x ?_ (fun hx => ?_) <;> [(unfold x; clear x); (clear_value x; revert x; intro _ _)])
    | (extract_lets +onlyGivenNames x; refine Eff.step (c := 19792285147264) (s := s) x.2 ?_ (fun hx => ?_) <;> [(unfold x; clear x); (clear_value x; revert x; intro _ _)])
    | (extract_lets +onlyGivenNames y; clear_value y; revert y; intro _)
    | with_reducible apply State.portEvent_eff
    | with_reducible apply State.setReg_eff
    | with_reducible apply State.fadeInputs_eff
    | with_reducible refine Eff.each ?_ ?_
    | with_reducible refine Eff.foldl ?_ ?_
    | with_reducible refine Eff.foldl_snd ?_ ?_
    | with_reducible refine Eff.foldl_fst ?_ ?_
    | refine Eff.of_snd ?_ (by with_reducible assumption)
    | with_reducible apply Eff.Outcome.ite
    | with_reducible apply Eff.Opt.ite
    | with_reducible apply Eff.Opt.some
    | with_reducible exact Eff.Opt.none
    | with_reducible apply Eff.ite
    | with_reducible apply Eff.ite_snd
    | dsimp only
    | split
    | ((simp only [Eff.mk_iff]); refine EffMk.lit ?_ rfl rfl rfl rfl)

end Sys2Proof.Machine
end

