-- ==== Sys2Proof/Laws/EffBus.lean ====
section
/-! SUPPORT. What each function of Machine/Bus.lean may change (see Laws/Effect.lean): its mask of fields, canonical memories, one-way fuses. -/
set_option linter.all false
namespace Sys2Proof.Machine

theorem State.modCpu_eff (s : Sys2Proof.Machine.State) (c : ℕ) (f : CpuCore → CpuCore) {cM : Nat} {sB : State} (hB : Eff cM sB s) (hM : Within 67108864 cM) :
    Eff cM sB (State.modCpu s c f) := by
  refine Eff.call hB ?_ hM; clear hB hM
  unfold State.modCpu
  repeat' first
    | with_reducible exact Eff.refl _ _
    | with_reducible assumption
    | intro _
    | (extract_lets +onlyGivenNames x; refine Eff.step (c := 67108864) (s := s) x ?_ (fun hx => ?_) <;> [(unfold x; clear x); (clear_value x; revert x; intro _ _)])
    | (extract_lets +onlyGivenNames x; refine Eff.step (c := 67108864) (s := s) x.2 ?_ (fun hx => ?_) <;> [(unfold x; clear x); (clear_value x; revert x; intro _ _)])
    | (extract_lets +onlyGivenNames y; clear_value y; revert y; intro _)
    | with_reducible refine Eff.each ?_ ?_
    | with_reducible refine Eff.foldl ?_ ?_
    | with_reducible refine Eff.foldl_snd ?_ ?_
    | with_reducible refine Eff.foldl_fst ?_ ?_
    | refine Eff.of_snd ?_ (by with_reducible assumption)
    | with_reducible apply Eff.Outcome.ite
    | with_reducible apply Eff.Opt.ite
    | with_reducible apply Eff.Opt.some
    | with_reducible exact Eff.Opt.none
    | with_reducible apply Eff.ite
    | with_reducible apply Eff.ite_snd
    | dsimp only
    | split
    | ((simp only [Eff.mk_iff]); refine EffMk.lit ?_ rfl rfl rfl rfl)

theorem State.enterMonitor_eff (s : Sys2Proof.Machine.State) (c : ℕ) (n : ℕ) {cM : Nat} {sB : State} (hB : Eff cM sB s) (hM : Within 67108928 cM) :
    Eff cM sB (State.enterMonitor s c n) := by
  refine Eff.call hB ?_ hM; clear hB hM
  unfold State.enterMonitor
  repeat' first
    | with_reducible exact Eff.refl _ _
    | with_reducible assumption
    | ((with_reducible refine Within.intro ?_); rfl)
    | intro _
    | (extract_lets +onlyGivenNames x; refine Eff.step (c := 67108928) (s := s) x ?_ (fun hx => ?_) <;> [(unfold x; clear x); (clear_value x; revert x; intro _ _)])
    | (extract_lets +onlyGivenNames x; refine Eff.step (c := 67108928) (s := s) x.2 ?_ (fun hx => ?_) <;> [(unfold x; clear x); (clear_value x; revert x; intro _ _)])
    | (extract_lets +onlyGivenNames y; clear_value y; revert y; intro _)
    | with_reducible apply State.modCpu_eff
    | with_reducible apply State.useFree_eff
    | with_reducible refine Eff.each ?_ ?_
    | with_reducible refine Eff.foldl ?_ ?_
    | with_reducible refine Eff.foldl_snd ?_ ?_
    | with_reducible refine Eff.foldl_fst ?_ ?_
    | refine Eff.of_snd ?_ (by with_reducible assumption)
    | with_reducible apply Eff.Outcome.ite
    | with_reducible apply Eff.Opt.ite
    | with_reducible apply Eff.Opt.some
    | with_reducible exact Eff.Opt.none
    | with_reducible apply Eff.ite
    | with_reducible apply Eff.ite_snd
    | dsimp only
    | split
    | ((simp only [Eff.mk_iff]); refine EffMk.lit ?_ rfl rfl rfl rfl)

theorem State.takeSecure_eff (s : Sys2Proof.Machine.State) {cM : Nat} {sB : State} (hB : Eff cM sB s) (hM : Within 67108928 cM) :
    Eff cM sB (State.takeSecure s) := by
  refine Eff.call hB ?_ hM; clear hB hM
  unfold State.takeSecure
  repeat' first
    | with_reducible exact Eff.refl _ _
    | with_reducible assumption
    | ((with_reducible refine Within.intro ?_); rfl)
    | intro _
    | (extract_lets +onlyGivenNames x; refine Eff.step (c := 67108928) (s := s) x ?_ (fun hx => ?_) <;> [(unfold x; clear x); (clear_value x; revert x; intro _ _)])
    | (extract_lets +onlyGivenNames x; refine Eff.step (c := 67108928) (s := s) x.2 ?_ (fun hx => ?_) <;> [(unfold x; clear x); (clear_value x; revert x; intro _ _)])
    | (extract_lets +onlyGivenNames y; clear_value y; revert y; intro _)
    | with_reducible apply State.enterMonitor_eff
    | with_reducible refine Eff.each ?_ ?_
    | with_reducible refine Eff.foldl ?_ ?_
    | with_reducible refine Eff.foldl_snd ?_ ?_
    | with_reducible refine Eff.foldl_fst ?_ ?_
    | refine Eff.of_snd ?_ (by with_reducible assumption)
    | with_reducible apply Eff.Outcome.ite
    | with_reducible apply Eff.Opt.ite
    | with_reducible apply Eff.Opt.some
    | with_reducible exact Eff.Opt.none
    | with_reducible apply Eff.ite
    | with_reducible apply Eff.ite_snd
    | dsimp only
    | split
    | ((simp only [Eff.mk_iff]); refine EffMk.lit ?_ rfl rfl rfl rfl)

theorem State.secureInterrupt_eff (s : Sys2Proof.Machine.State) {cM : Nat} {sB : State} (hB : Eff cM sB s) (hM : Within 67108928 cM) :
    Eff cM sB (State.secureInterrupt s) := by
  refine Eff.call hB ?_ hM; clear hB hM
  unfold State.secureInterrupt
  repeat' first
    | with_reducible exact Eff.refl _ _
    | with_reducible assumption
    | ((with_reducible refine Within.intro ?_); rfl)
    | intro _
    | (extract_lets +onlyGivenNames x; refine Eff.step (c := 67108928) (s := s) x ?_ (fun hx => ?_) <;> [(unfold x; clear x); (clear_value x; revert x; intro _ _)])
    | (extract_lets +onlyGivenNames x; refine Eff.step (c := 67108928) (s := s) x.2 ?_ (fun hx => ?_) <;> [(unfold x; clear x); (clear_value x; revert x; intro _ _)])
    | (extract_lets +onlyGivenNames y; clear_value y; revert y; intro _)
    | with_reducible apply State.takeSecure_eff
    | with_reducible refine Eff.each ?_ ?_
    | with_reducible refine Eff.foldl ?_ ?_
    | with_reducible refine Eff.foldl_snd ?_ ?_
    | with_reducible refine Eff.foldl_fst ?_ ?_
    | refine Eff.of_snd ?_ (by with_reducible assumption)
    | with_reducible apply Eff.Outcome.ite
    | with_reducible apply Eff.Opt.ite
    | with_reducible apply Eff.Opt.some
    | with_reducible exact Eff.Opt.none
    | with_reducible apply Eff.ite
    | with_reducible apply Eff.ite_snd
    | dsimp only
    | split
    | ((simp only [Eff.mk_iff]); refine EffMk.lit ?_ rfl rfl rfl rfl)

theorem State.busRefused_eff (s : Sys2Proof.Machine.State) (at' : BusAttr) (a : ℕ) {cM : Nat} {sB : State} (hB : Eff cM sB s) (hM : Within 128 cM) :
    Eff cM sB (State.busRefused s at' a) := by
  refine Eff.call hB ?_ hM; clear hB hM
  unfold State.busRefused
  repeat' first
    | with_reducible exact Eff.refl _ _
    | with_reducible assumption
    | ((with_reducible refine Within.intro ?_); rfl)
    | intro _
    | (extract_lets +onlyGivenNames x; refine Eff.step (c := 128) (s := s) x ?_ (fun hx => ?_) <;> [(unfold x; clear x); (clear_value x; revert x; intro _ _)])
    | (extract_lets +onlyGivenNames x; refine Eff.step (c := 128) (s := s) x.2 ?_ (fun hx => ?_) <;> [(unfold x; clear x); (clear_value x; revert x; intro _ _)])
    | (extract_lets +onlyGivenNames y; clear_value y; revert y; intro _)
    | with_reducible apply State.setReg_eff
    | with_reducible apply State.inc_eff
    | with_reducible refine Eff.each ?_ ?_
    | with_reducible refine Eff.foldl ?_ ?_
    | with_reducible refine Eff.foldl_snd ?_ ?_
    | with_reducible refine Eff.foldl_fst ?_ ?_
    | refine Eff.of_snd ?_ (by with_reducible assumption)
    | with_reducible apply Eff.Outcome.ite
    | with_reducible apply Eff.Opt.ite
    | with_reducible apply Eff.Opt.some
    | with_reducible exact Eff.Opt.none
    | with_reducible apply Eff.ite
    | with_reducible apply Eff.ite_snd
    | dsimp only
    | split
    | ((simp only [Eff.mk_iff]); refine EffMk.lit ?_ rfl rfl rfl rfl)

theorem State.gateReported_eff (s : Sys2Proof.Machine.State) (die : ℕ) (a2 : Sys2Proof.ControlBlock) {cM : Nat} {sB : State} (hB : Eff cM sB s) (hM : Within 17593261891712 cM) :
    Eff cM sB (State.gateReported s die a2) := by
  refine Eff.call hB ?_ hM; clear hB hM
  unfold State.gateReported
  repeat' first
    | with_reducible exact Eff.refl _ _
    | with_reducible assumption
    | ((with_reducible refine Within.intro ?_); rfl)
    | intro _
    | (extract_lets +onlyGivenNames x; refine Eff.step (c := 17593261891712) (s := s) x ?_ (fun hx => ?_) <;> [(unfold x; clear x); (clear_value x; revert x; intro _ _)])
    | (extract_lets +onlyGivenNames x; refine Eff.step (c := 17593261891712) (s := s) x.2 ?_ (fun hx => ?_) <;> [(unfold x; clear x); (clear_value x; revert x; intro _ _)])
    | (extract_lets +onlyGivenNames y; clear_value y; revert y; intro _)
    | with_reducible apply State.event_eff
    | with_reducible refine Eff.each ?_ ?_
    | with_reducible refine Eff.foldl ?_ ?_
    | with_reducible refine Eff.foldl_snd ?_ ?_
    | with_reducible refine Eff.foldl_fst ?_ ?_
    | refine Eff.of_snd ?_ (by with_reducible assumption)
    | with_reducible apply Eff.Outcome.ite
    | with_reducible apply Eff.Opt.ite
    | with_reducible apply Eff.Opt.some
    | with_reducible exact Eff.Opt.none
    | with_reducible apply Eff.ite
    | with_reducible apply Eff.ite_snd
    | dsimp only
    | split
    | ((simp only [Eff.mk_iff]); refine EffMk.lit ?_ rfl rfl rfl rfl)

theorem State.busWrite_eff (s : State) (at' : BusAttr) (a : ℕ) (bs : List Byte) {cM : Nat} {sB : State} (hB : Eff cM sB s) (hM : Within 17593261895808 cM) :
    Eff cM sB (State.busWrite s at' a bs).1 := by
  refine Eff.call hB ?_ hM; clear hB hM
  unfold State.busWrite
  split
  · split
    · exact Eff.litMem (Eff.refl _ _) rfl (Memory.wf_writeBytes _ _ _) id (Fuses.kept_refl _)
    · exact Eff.litMem (Eff.refl _ _) rfl (Memory.wf_writeBytes _ _ _) id (Fuses.kept_refl _)
    · exact Eff.refl _ _
  · dsimp only
    split
    · exact State.gateReported_eff _ _ _ (State.busRefused_eff _ _ _ (Eff.refl _ _) (by exact rfl)) (by exact rfl)
    · exact State.busRefused_eff _ _ _ (Eff.refl _ _) (by exact rfl)
  · exact Eff.refl _ _

theorem State.busRead_eff (s : Sys2Proof.Machine.State) (at' : BusAttr) (a : ℕ) {cM : Nat} {sB : State} (hB : Eff cM sB s) (hM : Within 128 cM) :
    Eff cM sB (State.busRead s at' a).1 := by
  refine Eff.call hB ?_ hM; clear hB hM
  unfold State.busRead
  repeat' first
    | with_reducible exact Eff.refl _ _
    | with_reducible assumption
    | ((with_reducible refine Within.intro ?_); rfl)
    | intro _
    | (extract_lets +onlyGivenNames x; refine Eff.step (c := 128) (s := s) x ?_ (fun hx => ?_) <;> [(unfold x; clear x); (clear_value x; revert x; intro _ _)])
    | (extract_lets +onlyGivenNames x; refine Eff.step (c := 128) (s := s) x.2 ?_ (fun hx => ?_) <;> [(unfold x; clear x); (clear_value x; revert x; intro _ _)])
    | (extract_lets +onlyGivenNames y; clear_value y; revert y; intro _)
    | with_reducible apply State.busRefused_eff
    | with_reducible refine Eff.each ?_ ?_
    | with_reducible refine Eff.foldl ?_ ?_
    | with_reducible refine Eff.foldl_snd ?_ ?_
    | with_reducible refine Eff.foldl_fst ?_ ?_
    | refine Eff.of_snd ?_ (by with_reducible assumption)
    | with_reducible apply Eff.Outcome.ite
    | with_reducible apply Eff.Opt.ite
    | with_reducible apply Eff.Opt.some
    | with_reducible exact Eff.Opt.none
    | with_reducible apply Eff.ite
    | with_reducible apply Eff.ite_snd
    | dsimp only
    | split
    | ((simp only [Eff.mk_iff]); refine EffMk.lit ?_ rfl rfl rfl rfl)

theorem State.secureUse_eff (s : Sys2Proof.Machine.State) {cM : Nat} {sB : State} (hB : Eff cM sB s) (hM : Within 128 cM) :
    Eff cM sB (State.secureUse s) := by
  refine Eff.call hB ?_ hM; clear hB hM
  unfold State.secureUse
  repeat' first
    | with_reducible exact Eff.refl _ _
    | with_reducible assumption
    | ((with_reducible refine Within.intro ?_); rfl)
    | intro _
    | (extract_lets +onlyGivenNames x; refine Eff.step (c := 128) (s := s) x ?_ (fun hx => ?_) <;> [(unfold x; clear x); (clear_value x; revert x; intro _ _)])
    | (extract_lets +onlyGivenNames x; refine Eff.step (c := 128) (s := s) x.2 ?_ (fun hx => ?_) <;> [(unfold x; clear x); (clear_value x; revert x; intro _ _)])
    | (extract_lets +onlyGivenNames y; clear_value y; revert y; intro _)
    | with_reducible apply State.setReg_eff
    | with_reducible refine Eff.each ?_ ?_
    | with_reducible refine Eff.foldl ?_ ?_
    | with_reducible refine Eff.foldl_snd ?_ ?_
    | with_reducible refine Eff.foldl_fst ?_ ?_
    | refine Eff.of_snd ?_ (by with_reducible assumption)
    | with_reducible apply Eff.Outcome.ite
    | with_reducible apply Eff.Opt.ite
    | with_reducible apply Eff.Opt.some
    | with_reducible exact Eff.Opt.none
    | with_reducible apply Eff.ite
    | with_reducible apply Eff.ite_snd
    | dsimp only
    | split
    | ((simp only [Eff.mk_iff]); refine EffMk.lit ?_ rfl rfl rfl rfl)

theorem State.markSram_eff (s : Sys2Proof.Machine.State) {cM : Nat} {sB : State} (hB : Eff cM sB s) (hM : Within 67108992 cM) :
    Eff cM sB (State.markSram s) := by
  refine Eff.call hB ?_ hM; clear hB hM
  unfold State.markSram
  repeat' first
    | with_reducible exact Eff.refl _ _
    | with_reducible assumption
    | ((with_reducible refine Within.intro ?_); rfl)
    | intro _
    | (extract_lets +onlyGivenNames x; refine Eff.step (c := 67108992) (s := s) x ?_ (fun hx => ?_) <;> [(unfold x; clear x); (clear_value x; revert x; intro _ _)])
    | (extract_lets +onlyGivenNames x; refine Eff.step (c := 67108992) (s := s) x.2 ?_ (fun hx => ?_) <;> [(unfold x; clear x); (clear_value x; revert x; intro _ _)])
    | (extract_lets +onlyGivenNames y; clear_value y; revert y; intro _)
    | with_reducible apply State.secureUse_eff
    | with_reducible refine Eff.each ?_ ?_
    | with_reducible refine Eff.foldl ?_ ?_
    | with_reducible refine Eff.foldl_snd ?_ ?_
    | with_reducible refine Eff.foldl_fst ?_ ?_
    | refine Eff.of_snd ?_ (by with_reducible assumption)
    | with_reducible apply Eff.Outcome.ite
    | with_reducible apply Eff.Opt.ite
    | with_reducible apply Eff.Opt.some
    | with_reducible exact Eff.Opt.none
    | with_reducible apply Eff.ite
    | with_reducible apply Eff.ite_snd
    | dsimp only
    | split
    | ((simp only [Eff.mk_iff]); refine EffMk.lit ?_ rfl rfl rfl rfl)

end Sys2Proof.Machine
end

