-- ==== Sys2Proof/Laws/EffGraphicsOps.lean ====
section
/-! SUPPORT. What each function of Machine/GraphicsOps.lean may change (see Laws/Effect.lean): its mask of fields, canonical memories, one-way fuses. -/
set_option linter.all false
namespace Sys2Proof.Machine

theorem State.modCtx_eff (s : Sys2Proof.Machine.State) (c : ℕ) (f : GfxContext → GfxContext) {cM : Nat} {sB : State} (hB : Eff cM sB s) (hM : Within 68719476736 cM) :
    Eff cM sB (State.modCtx s c f) := by
  refine Eff.call hB ?_ hM; clear hB hM
  unfold State.modCtx
  repeat' first
    | with_reducible exact Eff.refl _ _
    | with_reducible assumption
    | intro _
    | (extract_lets +onlyGivenNames x; refine Eff.step (c := 68719476736) (s := s) x ?_ (fun hx => ?_) <;> [(unfold x; clear x); (clear_value x; revert x; intro _ _)])
    | (extract_lets +onlyGivenNames x; refine Eff.step (c := 68719476736) (s := s) x.2 ?_ (fun hx => ?_) <;> [(unfold x; clear x); (clear_value x; revert x; intro _ _)])
    | (extract_lets +onlyGivenNames y; clear_value y; revert y; intro _)
    | with_reducible refine Eff.each ?_ ?_
    | with_reducible refine Eff.foldl ?_ ?_
    | with_reducible refine Eff.foldl_snd ?_ ?_
    | with_reducible refine Eff.foldl_fst ?_ ?_
    | refine Eff.of_snd ?_ (by with_reducible assumption)
    | with_reducible apply Eff.Outcome.ite
    | with_reducible apply Eff.Opt.ite
    | with_reducible apply Eff.Opt.some
    | with_reducible exact Eff.Opt.none
    | with_reducible apply Eff.ite
    | with_reducible apply Eff.ite_snd
    | dsimp only
    | split
    | ((simp only [Eff.mk_iff]); refine EffMk.lit ?_ rfl rfl rfl rfl)

theorem State.modGdie_eff (s : Sys2Proof.Machine.State) (d : ℕ) (f : GfxDie → GfxDie) {cM : Nat} {sB : State} (hB : Eff cM sB s) (hM : Within 68719476736 cM) :
    Eff cM sB (State.modGdie s d f) := by
  refine Eff.call hB ?_ hM; clear hB hM
  unfold State.modGdie
  repeat' first
    | with_reducible exact Eff.refl _ _
    | with_reducible assumption
    | intro _
    | (extract_lets +onlyGivenNames x; refine Eff.step (c := 68719476736) (s := s) x ?_ (fun hx => ?_) <;> [(unfold x; clear x); (clear_value x; revert x; intro _ _)])
    | (extract_lets +onlyGivenNames x; refine Eff.step (c := 68719476736) (s := s) x.2 ?_ (fun hx => ?_) <;> [(unfold x; clear x); (clear_value x; revert x; intro _ _)])
    | (extract_lets +onlyGivenNames y; clear_value y; revert y; intro _)
    | with_reducible refine Eff.each ?_ ?_
    | with_reducible refine Eff.foldl ?_ ?_
    | with_reducible refine Eff.foldl_snd ?_ ?_
    | with_reducible refine Eff.foldl_fst ?_ ?_
    | refine Eff.of_snd ?_ (by with_reducible assumption)
    | with_reducible apply Eff.Outcome.ite
    | with_reducible apply Eff.Opt.ite
    | with_reducible apply Eff.Opt.some
    | with_reducible exact Eff.Opt.none
    | with_reducible apply Eff.ite
    | with_reducible apply Eff.ite_snd
    | dsimp only
    | split
    | ((simp only [Eff.mk_iff]); refine EffMk.lit ?_ rfl rfl rfl rfl)

theorem State.modJob_eff (s : Sys2Proof.Machine.State) (c : ℕ) (f : GfxJob → GfxJob) {cM : Nat} {sB : State} (hB : Eff cM sB s) (hM : Within 68719476736 cM) :
    Eff cM sB (State.modJob s c f) := by
  refine Eff.call hB ?_ hM; clear hB hM
  unfold State.modJob
  repeat' first
    | with_reducible exact Eff.refl _ _
    | with_reducible assumption
    | ((with_reducible refine Within.intro ?_); rfl)
    | intro _
    | (extract_lets +onlyGivenNames x; refine Eff.step (c := 68719476736) (s := s) x ?_ (fun hx => ?_) <;> [(unfold x; clear x); (clear_value x; revert x; intro _ _)])
    | (extract_lets +onlyGivenNames x; refine Eff.step (c := 68719476736) (s := s) x.2 ?_ (fun hx => ?_) <;> [(unfold x; clear x); (clear_value x; revert x; intro _ _)])
    | (extract_lets +onlyGivenNames y; clear_value y; revert y; intro _)
    | with_reducible apply State.modCtx_eff
    | with_reducible refine Eff.each ?_ ?_
    | with_reducible refine Eff.foldl ?_ ?_
    | with_reducible refine Eff.foldl_snd ?_ ?_
    | with_reducible refine Eff.foldl_fst ?_ ?_
    | refine Eff.of_snd ?_ (by with_reducible assumption)
    | with_reducible apply Eff.Outcome.ite
    | with_reducible apply Eff.Opt.ite
    | with_reducible apply Eff.Opt.some
    | with_reducible exact Eff.Opt.none
    | with_reducible apply Eff.ite
    | with_reducible apply Eff.ite_snd
    | dsimp only
    | split
    | ((simp only [Eff.mk_iff]); refine EffMk.lit ?_ rfl rfl rfl rfl)

theorem State.setCtxState_eff (s : Sys2Proof.Machine.State) (c : ℕ) (v : ℕ) {cM : Nat} {sB : State} (hB : Eff cM sB s) (hM : Within 128 cM) :
    Eff cM sB (State.setCtxState s c v) := by
  refine Eff.call hB ?_ hM; clear hB hM
  unfold State.setCtxState
  repeat' first
    | with_reducible exact Eff.refl _ _
    | with_reducible assumption
    | ((with_reducible refine Within.intro ?_); rfl)
    | intro _
    | (extract_lets +onlyGivenNames x; refine Eff.step (c := 128) (s := s) x ?_ (fun hx => ?_) <;> [(unfold x; clear x); (clear_value x; revert x; intro _ _)])
    | (extract_lets +onlyGivenNames x; refine Eff.step (c := 128) (s := s) x.2 ?_ (fun hx => ?_) <;> [(unfold x; clear x); (clear_value x; revert x; intro _ _)])
    | (extract_lets +onlyGivenNames y; clear_value y; revert y; intro _)
    | with_reducible apply State.setReg_eff
    | with_reducible refine Eff.each ?_ ?_
    | with_reducible refine Eff.foldl ?_ ?_
    | with_reducible refine Eff.foldl_snd ?_ ?_
    | with_reducible refine Eff.foldl_fst ?_ ?_
    | refine Eff.of_snd ?_ (by with_reducible assumption)
    | with_reducible apply Eff.Outcome.ite
    | with_reducible apply Eff.Opt.ite
    | with_reducible apply Eff.Opt.some
    | with_reducible exact Eff.Opt.none
    | with_reducible apply Eff.ite
    | with_reducible apply Eff.ite_snd
    | dsimp only
    | split
    | ((simp only [Eff.mk_iff]); refine EffMk.lit ?_ rfl rfl rfl rfl)

theorem State.startPeriod_eff (s : Sys2Proof.Machine.State) (d : ℕ) {cM : Nat} {sB : State} (hB : Eff cM sB s) (hM : Within 68719476736 cM) :
    Eff cM sB (State.startPeriod s d) := by
  refine Eff.call hB ?_ hM; clear hB hM
  unfold State.startPeriod
  repeat' first
    | with_reducible exact Eff.refl _ _
    | with_reducible assumption
    | ((with_reducible refine Within.intro ?_); rfl)
    | intro _
    | (extract_lets +onlyGivenNames x; refine Eff.step (c := 68719476736) (s := s) x ?_ (fun hx => ?_) <;> [(unfold x; clear x); (clear_value x; revert x; intro _ _)])
    | (extract_lets +onlyGivenNames x; refine Eff.step (c := 68719476736) (s := s) x.2 ?_ (fun hx => ?_) <;> [(unfold x; clear x); (clear_value x; revert x; intro _ _)])
    | (extract_lets +onlyGivenNames y; clear_value y; revert y; intro _)
    | with_reducible apply State.modGdie_eff
    | with_reducible refine Eff.each ?_ ?_
    | with_reducible refine Eff.foldl ?_ ?_
    | with_reducible refine Eff.foldl_snd ?_ ?_
    | with_reducible refine Eff.foldl_fst ?_ ?_
    | refine Eff.of_snd ?_ (by with_reducible assumption)
    | with_reducible apply Eff.Outcome.ite
    | with_reducible apply Eff.Opt.ite
    | with_reducible apply Eff.Opt.some
    | with_reducible exact Eff.Opt.none
    | with_reducible apply Eff.ite
    | with_reducible apply Eff.ite_snd
    | dsimp only
    | split
    | ((simp only [Eff.mk_iff]); refine EffMk.lit ?_ rfl rfl rfl rfl)

theorem State.gfxRun_eff (s : Sys2Proof.Machine.State) (d : ℕ) {cM : Nat} {sB : State} (hB : Eff cM sB s) (hM : Within 68719476864 cM) :
    Eff cM sB (State.gfxRun s d) := by
  refine Eff.call hB ?_ hM; clear hB hM
  unfold State.gfxRun
  repeat' first
    | with_reducible exact Eff.refl _ _
    | with_reducible assumption
    | ((with_reducible refine Within.intro ?_); rfl)
    | intro _
    | (extract_lets +onlyGivenNames x; refine Eff.step (c := 68719476864) (s := s) x ?_ (fun hx => ?_) <;> [(unfold x; clear x); (clear_value x; revert x; intro _ _)])
    | (extract_lets +onlyGivenNames x; refine Eff.step (c := 68719476864) (s := s) x.2 ?_ (fun hx => ?_) <;> [(unfold x; clear x); (clear_value x; revert x; intro _ _)])
    | (extract_lets +onlyGivenNames y; clear_value y; revert y; intro _)
    | with_reducible apply State.startPeriod_eff
    | with_reducible apply State.modGdie_eff
    | with_reducible apply State.setCtxState_eff
    | with_reducible apply State.modCtx_eff
    | with_reducible refine Eff.each ?_ ?_
    | with_reducible refine Eff.foldl ?_ ?_
    | with_reducible refine Eff.foldl_snd ?_ ?_
    | with_reducible refine Eff.foldl_fst ?_ ?_
    | refine Eff.of_snd ?_ (by with_reducible assumption)
    | with_reducible apply Eff.Outcome.ite
    | with_reducible apply Eff.Opt.ite
    | with_reducible apply Eff.Opt.some
    | with_reducible exact Eff.Opt.none
    | with_reducible apply Eff.ite
    | with_reducible apply Eff.ite_snd
    | dsimp only
    | split
    | ((simp only [Eff.mk_iff]); refine EffMk.lit ?_ rfl rfl rfl rfl)

theorem State.gfxLeave_eff (s : Sys2Proof.Machine.State) (d : ℕ) {cM : Nat} {sB : State} (hB : Eff cM sB s) (hM : Within 68719476864 cM) :
    Eff cM sB (State.gfxLeave s d) := by
  refine Eff.call hB ?_ hM; clear hB hM
  unfold State.gfxLeave
  repeat' first
    | with_reducible exact Eff.refl _ _
    | with_reducible assumption
    | ((with_reducible refine Within.intro ?_); rfl)
    | intro _
    | (extract_lets +onlyGivenNames x; refine Eff.step (c := 68719476864) (s := s) x ?_ (fun hx => ?_) <;> [(unfold x; clear x); (clear_value x; revert x; intro _ _)])
    | (extract_lets +onlyGivenNames x; refine Eff.step (c := 68719476864) (s := s) x.2 ?_ (fun hx => ?_) <;> [(unfold x; clear x); (clear_value x; revert x; intro _ _)])
    | (extract_lets +onlyGivenNames y; clear_value y; revert y; intro _)
    | with_reducible apply State.modGdie_eff
    | with_reducible apply State.count_eff
    | with_reducible apply State.modJob_eff
    | with_reducible refine Eff.each ?_ ?_
    | with_reducible refine Eff.foldl ?_ ?_
    | with_reducible refine Eff.foldl_snd ?_ ?_
    | with_reducible refine Eff.foldl_fst ?_ ?_
    | refine Eff.of_snd ?_ (by with_reducible assumption)
    | with_reducible apply Eff.Outcome.ite
    | with_reducible apply Eff.Opt.ite
    | with_reducible apply Eff.Opt.some
    | with_reducible exact Eff.Opt.none
    | with_reducible apply Eff.ite
    | with_reducible apply Eff.ite_snd
    | dsimp only
    | split
    | ((simp only [Eff.mk_iff]); refine EffMk.lit ?_ rfl rfl rfl rfl)

theorem State.preempt_eff (s : Sys2Proof.Machine.State) (d : ℕ) {cM : Nat} {sB : State} (hB : Eff cM sB s) (hM : Within 68719476864 cM) :
    Eff cM sB (State.preempt s d) := by
  refine Eff.call hB ?_ hM; clear hB hM
  unfold State.preempt
  repeat' first
    | with_reducible exact Eff.refl _ _
    | with_reducible assumption
    | ((with_reducible refine Within.intro ?_); rfl)
    | intro _
    | (extract_lets +onlyGivenNames x; refine Eff.step (c := 68719476864) (s := s) x ?_ (fun hx => ?_) <;> [(unfold x; clear x); (clear_value x; revert x; intro _ _)])
    | (extract_lets +onlyGivenNames x; refine Eff.step (c := 68719476864) (s := s) x.2 ?_ (fun hx => ?_) <;> [(unfold x; clear x); (clear_value x; revert x; intro _ _)])
    | (extract_lets +onlyGivenNames y; clear_value y; revert y; intro _)
    | with_reducible apply State.inc_eff
    | with_reducible apply State.modCtx_eff
    | with_reducible apply State.gfxLeave_eff
    | with_reducible apply State.setCtxState_eff
    | with_reducible refine Eff.each ?_ ?_
    | with_reducible refine Eff.foldl ?_ ?_
    | with_reducible refine Eff.foldl_snd ?_ ?_
    | with_reducible refine Eff.foldl_fst ?_ ?_
    | refine Eff.of_snd ?_ (by with_reducible assumption)
    | with_reducible apply Eff.Outcome.ite
    | with_reducible apply Eff.Opt.ite
    | with_reducible apply Eff.Opt.some
    | with_reducible exact Eff.Opt.none
    | with_reducible apply Eff.ite
    | with_reducible apply Eff.ite_snd
    | dsimp only
    | split
    | ((simp only [Eff.mk_iff]); refine EffMk.lit ?_ rfl rfl rfl rfl)

theorem State.requestPreemption_eff (s : Sys2Proof.Machine.State) (d : ℕ) {cM : Nat} {sB : State} (hB : Eff cM sB s) (hM : Within 68719476736 cM) :
    Eff cM sB (State.requestPreemption s d) := by
  refine Eff.call hB ?_ hM; clear hB hM
  unfold State.requestPreemption
  repeat' first
    | with_reducible exact Eff.refl _ _
    | with_reducible assumption
    | ((with_reducible refine Within.intro ?_); rfl)
    | intro _
    | (extract_lets +onlyGivenNames x; refine Eff.step (c := 68719476736) (s := s) x ?_ (fun hx => ?_) <;> [(unfold x; clear x); (clear_value x; revert x; intro _ _)])
    | (extract_lets +onlyGivenNames x; refine Eff.step (c := 68719476736) (s := s) x.2 ?_ (fun hx => ?_) <;> [(unfold x; clear x); (clear_value x; revert x; intro _ _)])
    | (extract_lets +onlyGivenNames y; clear_value y; revert y; intro _)
    | with_reducible apply State.modGdie_eff
    | with_reducible refine Eff.each ?_ ?_
    | with_reducible refine Eff.foldl ?_ ?_
    | with_reducible refine Eff.foldl_snd ?_ ?_
    | with_reducible refine Eff.foldl_fst ?_ ?_
    | refine Eff.of_snd ?_ (by with_reducible assumption)
    | with_reducible apply Eff.Outcome.ite
    | with_reducible apply Eff.Opt.ite
    | with_reducible apply Eff.Opt.some
    | with_reducible exact Eff.Opt.none
    | with_reducible apply Eff.ite
    | with_reducible apply Eff.ite_snd
    | dsimp only
    | split
    | ((simp only [Eff.mk_iff]); refine EffMk.lit ?_ rfl rfl rfl rfl)

theorem State.takeParts_eff (s : Sys2Proof.Machine.State) {cM : Nat} {sB : State} (hB : Eff cM sB s) (hM : Within 68719476736 cM) :
    Eff cM sB (State.takeParts s) := by
  refine Eff.call hB ?_ hM; clear hB hM
  unfold State.takeParts
  repeat' first
    | with_reducible exact Eff.refl _ _
    | with_reducible assumption
    | ((with_reducible refine Within.intro ?_); rfl)
    | intro _
    | (extract_lets +onlyGivenNames x; refine Eff.step (c := 68719476736) (s := s) x ?_ (fun hx => ?_) <;> [(unfold x; clear x); (clear_value x; revert x; intro _ _)])
    | (extract_lets +onlyGivenNames x; refine Eff.step (c := 68719476736) (s := s) x.2 ?_ (fun hx => ?_) <;> [(unfold x; clear x); (clear_value x; revert x; intro _ _)])
    | (extract_lets +onlyGivenNames y; clear_value y; revert y; intro _)
    | with_reducible apply State.modCtx_eff
    | with_reducible apply State.modJob_eff
    | with_reducible refine Eff.each ?_ ?_
    | with_reducible refine Eff.foldl ?_ ?_
    | with_reducible refine Eff.foldl_snd ?_ ?_
    | with_reducible refine Eff.foldl_fst ?_ ?_
    | refine Eff.of_snd ?_ (by with_reducible assumption)
    | with_reducible apply Eff.Outcome.ite
    | with_reducible apply Eff.Opt.ite
    | with_reducible apply Eff.Opt.some
    | with_reducible exact Eff.Opt.none
    | with_reducible apply Eff.ite
    | with_reducible apply Eff.ite_snd
    | dsimp only
    | split
    | ((simp only [Eff.mk_iff]); refine EffMk.lit ?_ rfl rfl rfl rfl)

theorem State.gfxSettle_eff (s : Sys2Proof.Machine.State) {cM : Nat} {sB : State} (hB : Eff cM sB s) (hM : Within 68719476864 cM) :
    Eff cM sB (State.gfxSettle s) := by
  refine Eff.call hB ?_ hM; clear hB hM
  unfold State.gfxSettle
  repeat' first
    | with_reducible exact Eff.refl _ _
    | with_reducible assumption
    | ((with_reducible refine Within.intro ?_); rfl)
    | intro _
    | (extract_lets +onlyGivenNames x; refine Eff.step (c := 68719476864) (s := s) x ?_ (fun hx => ?_) <;> [(unfold x; clear x); (clear_value x; revert x; intro _ _)])
    | (extract_lets +onlyGivenNames x; refine Eff.step (c := 68719476864) (s := s) x.2 ?_ (fun hx => ?_) <;> [(unfold x; clear x); (clear_value x; revert x; intro _ _)])
    | (extract_lets +onlyGivenNames y; clear_value y; revert y; intro _)
    | with_reducible apply State.takeParts_eff
    | with_reducible apply State.requestPreemption_eff
    | with_reducible apply State.gfxRun_eff
    | with_reducible refine Eff.each ?_ ?_
    | with_reducible refine Eff.foldl ?_ ?_
    | with_reducible refine Eff.foldl_snd ?_ ?_
    | with_reducible refine Eff.foldl_fst ?_ ?_
    | refine Eff.of_snd ?_ (by with_reducible assumption)
    | with_reducible apply Eff.Outcome.ite
    | with_reducible apply Eff.Opt.ite
    | with_reducible apply Eff.Opt.some
    | with_reducible exact Eff.Opt.none
    | with_reducible apply Eff.ite
    | with_reducible apply Eff.ite_snd
    | dsimp only
    | split
    | ((simp only [Eff.mk_iff]); refine EffMk.lit ?_ rfl rfl rfl rfl)

theorem State.storeTile_eff (s : Sys2Proof.Machine.State) (at' : BusAttr) (t : GfxTarget) (tx : ℕ) (ty : ℕ) (w : ℕ) (bs : List Sys2Proof.Byte) {cM : Nat} {sB : State} (hB : Eff cM sB s) (hM : Within 2105344 cM) :
    Eff cM sB (State.storeTile s at' t tx ty w bs) := by
  refine Eff.call hB ?_ hM; clear hB hM
  unfold State.storeTile
  repeat' first
    | with_reducible exact Eff.refl _ _
    | with_reducible assumption
    | ((with_reducible refine Within.intro ?_); rfl)
    | intro _
    | (extract_lets +onlyGivenNames x; refine Eff.step (c := 2105344) (s := s) x ?_ (fun hx => ?_) <;> [(unfold x; clear x); (clear_value x; revert x; intro _ _)])
    | (extract_lets +onlyGivenNames x; refine Eff.step (c := 2105344) (s := s) x.2 ?_ (fun hx => ?_) <;> [(unfold x; clear x); (clear_value x; revert x; intro _ _)])
    | (extract_lets +onlyGivenNames y; clear_value y; revert y; intro _)
    | with_reducible apply State.writeIda_eff
    | with_reducible refine Eff.each ?_ ?_
    | with_reducible refine Eff.foldl ?_ ?_
    | with_reducible refine Eff.foldl_snd ?_ ?_
    | with_reducible refine Eff.foldl_fst ?_ ?_
    | refine Eff.of_snd ?_ (by with_reducible assumption)
    | with_reducible apply Eff.Outcome.ite
    | with_reducible apply Eff.Opt.ite
    | with_reducible apply Eff.Opt.some
    | with_reducible exact Eff.Opt.none
    | with_reducible apply Eff.ite
    | with_reducible apply Eff.ite_snd
    | dsimp only
    | split
    | ((simp only [Eff.mk_iff]); refine EffMk.lit ?_ rfl rfl rfl rfl)

theorem State.finishTile_eff (s : Sys2Proof.Machine.State) (j : GfxJob) (d : List Sys2Proof.Byte) (p : GfxPart) (t : GfxTarget) (tx : ℕ) (ty : ℕ) (rendered : List Sys2Proof.TileData) {cM : Nat} {sB : State} (hB : Eff cM sB s) (hM : Within 2105536 cM) :
    Eff cM sB (State.finishTile s j d p t tx ty rendered) := by
  refine Eff.call hB ?_ hM; clear hB hM
  unfold State.finishTile
  repeat' first
    | with_reducible exact Eff.refl _ _
    | with_reducible assumption
    | ((with_reducible refine Within.intro ?_); rfl)
    | intro _
    | (extract_lets +onlyGivenNames x; refine Eff.step (c := 2105536) (s := s) x ?_ (fun hx => ?_) <;> [(unfold x; clear x); (clear_value x; revert x; intro _ _)])
    | (extract_lets +onlyGivenNames x; refine Eff.step (c := 2105536) (s := s) x.2 ?_ (fun hx => ?_) <;> [(unfold x; clear x); (clear_value x; revert x; intro _ _)])
    | (extract_lets +onlyGivenNames y; clear_value y; revert y; intro _)
    | with_reducible apply State.inc_eff
    | with_reducible apply State.writeIda_eff
    | with_reducible apply State.storeTile_eff
    | with_reducible refine Eff.each ?_ ?_
    | with_reducible refine Eff.foldl ?_ ?_
    | with_reducible refine Eff.foldl_snd ?_ ?_
    | with_reducible refine Eff.foldl_fst ?_ ?_
    | refine Eff.of_snd ?_ (by with_reducible assumption)
    | with_reducible apply Eff.Outcome.ite
    | with_reducible apply Eff.Opt.ite
    | with_reducible apply Eff.Opt.some
    | with_reducible exact Eff.Opt.none
    | with_reducible apply Eff.ite
    | with_reducible apply Eff.ite_snd
    | dsimp only
    | split
    | ((simp only [Eff.mk_iff]); refine EffMk.lit ?_ rfl rfl rfl rfl)

theorem State.spoilTile_eff (s : Sys2Proof.Machine.State) (j : GfxJob) (d : List Sys2Proof.Byte) (t : GfxTarget) (tx : ℕ) (ty : ℕ) {cM : Nat} {sB : State} (hB : Eff cM sB s) (hM : Within 2105408 cM) :
    Eff cM sB (State.spoilTile s j d t tx ty) := by
  refine Eff.call hB ?_ hM; clear hB hM
  unfold State.spoilTile
  repeat' first
    | with_reducible exact Eff.refl _ _
    | with_reducible assumption
    | ((with_reducible refine Within.intro ?_); rfl)
    | intro _
    | (extract_lets +onlyGivenNames x; refine Eff.step (c := 2105408) (s := s) x ?_ (fun hx => ?_) <;> [(unfold x; clear x); (clear_value x; revert x; intro _ _)])
    | (extract_lets +onlyGivenNames x; refine Eff.step (c := 2105408) (s := s) x.2 ?_ (fun hx => ?_) <;> [(unfold x; clear x); (clear_value x; revert x; intro _ _)])
    | (extract_lets +onlyGivenNames y; clear_value y; revert y; intro _)
    | with_reducible apply State.storeTile_eff
    | with_reducible apply State.writeIda_eff
    | with_reducible refine Eff.each ?_ ?_
    | with_reducible refine Eff.foldl ?_ ?_
    | with_reducible refine Eff.foldl_snd ?_ ?_
    | with_reducible refine Eff.foldl_fst ?_ ?_
    | refine Eff.of_snd ?_ (by with_reducible assumption)
    | with_reducible apply Eff.Outcome.ite
    | with_reducible apply Eff.Opt.ite
    | with_reducible apply Eff.Opt.some
    | with_reducible exact Eff.Opt.none
    | with_reducible apply Eff.ite
    | with_reducible apply Eff.ite_snd
    | dsimp only
    | split
    | ((simp only [Eff.mk_iff]); refine EffMk.lit ?_ rfl rfl rfl rfl)

theorem State.flushTile_eff (s : Sys2Proof.Machine.State) (j : GfxJob) (d : List Sys2Proof.Byte) (p : GfxPart) (rendered : List Sys2Proof.TileData) (tile : ℕ × ℕ) {cM : Nat} {sB : State} (hB : Eff cM sB s) (hM : Within 2105408 cM) :
    Eff cM sB (State.flushTile s j d p rendered tile) := by
  refine Eff.call hB ?_ hM; clear hB hM
  unfold State.flushTile
  repeat' first
    | with_reducible exact Eff.refl _ _
    | with_reducible assumption
    | ((with_reducible refine Within.intro ?_); rfl)
    | intro _
    | (extract_lets +onlyGivenNames x; refine Eff.step (c := 2105408) (s := s) x ?_ (fun hx => ?_) <;> [(unfold x; clear x); (clear_value x; revert x; intro _ _)])
    | (extract_lets +onlyGivenNames x; refine Eff.step (c := 2105408) (s := s) x.2 ?_ (fun hx => ?_) <;> [(unfold x; clear x); (clear_value x; revert x; intro _ _)])
    | (extract_lets +onlyGivenNames y; clear_value y; revert y; intro _)
    | with_reducible apply State.storeTile_eff
    | with_reducible refine Eff.each ?_ ?_
    | with_reducible refine Eff.foldl ?_ ?_
    | with_reducible refine Eff.foldl_snd ?_ ?_
    | with_reducible refine Eff.foldl_fst ?_ ?_
    | refine Eff.of_snd ?_ (by with_reducible assumption)
    | with_reducible apply Eff.Outcome.ite
    | with_reducible apply Eff.Opt.ite
    | with_reducible apply Eff.Opt.some
    | with_reducible exact Eff.Opt.none
    | with_reducible apply Eff.ite
    | with_reducible apply Eff.ite_snd
    | dsimp only
    | split
    | ((simp only [Eff.mk_iff]); refine EffMk.lit ?_ rfl rfl rfl rfl)

theorem State.fillSlice_eff (s : Sys2Proof.Machine.State) (j : GfxJob) (d : List Sys2Proof.Byte) (i : ℕ) (tiles : List ℕ) {cM : Nat} {sB : State} (hB : Eff cM sB s) (hM : Within 2105408 cM) :
    Eff cM sB (State.fillSlice s j d i tiles) := by
  refine Eff.call hB ?_ hM; clear hB hM
  unfold State.fillSlice
  repeat' first
    | with_reducible exact Eff.refl _ _
    | with_reducible assumption
    | ((with_reducible refine Within.intro ?_); rfl)
    | intro _
    | (extract_lets +onlyGivenNames x; refine Eff.step (c := 2105408) (s := s) x ?_ (fun hx => ?_) <;> [(unfold x; clear x); (clear_value x; revert x; intro _ _)])
    | (extract_lets +onlyGivenNames x; refine Eff.step (c := 2105408) (s := s) x.2 ?_ (fun hx => ?_) <;> [(unfold x; clear x); (clear_value x; revert x; intro _ _)])
    | (extract_lets +onlyGivenNames y; clear_value y; revert y; intro _)
    | with_reducible apply State.writeIda_eff
    | with_reducible refine Eff.each ?_ ?_
    | with_reducible refine Eff.foldl ?_ ?_
    | with_reducible refine Eff.foldl_snd ?_ ?_
    | with_reducible refine Eff.foldl_fst ?_ ?_
    | refine Eff.of_snd ?_ (by with_reducible assumption)
    | with_reducible apply Eff.Outcome.ite
    | with_reducible apply Eff.Opt.ite
    | with_reducible apply Eff.Opt.some
    | with_reducible exact Eff.Opt.none
    | with_reducible apply Eff.ite
    | with_reducible apply Eff.ite_snd
    | dsimp only
    | split
    | ((simp only [Eff.mk_iff]); refine EffMk.lit ?_ rfl rfl rfl rfl)

theorem State.finishTiles_eff (s : Sys2Proof.Machine.State) (j : GfxJob) (d : List Sys2Proof.Byte) (rendered : List Sys2Proof.TileData) {cM : Nat} {sB : State} (hB : Eff cM sB s) (hM : Within 2105536 cM) :
    Eff cM sB (State.finishTiles s j d rendered) := by
  refine Eff.call hB ?_ hM; clear hB hM
  unfold State.finishTiles
  repeat' first
    | with_reducible exact Eff.refl _ _
    | with_reducible assumption
    | ((with_reducible refine Within.intro ?_); rfl)
    | intro _
    | (extract_lets +onlyGivenNames x; refine Eff.step (c := 2105536) (s := s) x ?_ (fun hx => ?_) <;> [(unfold x; clear x); (clear_value x; revert x; intro _ _)])
    | (extract_lets +onlyGivenNames x; refine Eff.step (c := 2105536) (s := s) x.2 ?_ (fun hx => ?_) <;> [(unfold x; clear x); (clear_value x; revert x; intro _ _)])
    | (extract_lets +onlyGivenNames y; clear_value y; revert y; intro _)
    | with_reducible apply State.spoilTile_eff
    | with_reducible apply State.finishTile_eff
    | with_reducible refine Eff.each ?_ ?_
    | with_reducible refine Eff.foldl ?_ ?_
    | with_reducible refine Eff.foldl_snd ?_ ?_
    | with_reducible refine Eff.foldl_fst ?_ ?_
    | refine Eff.of_snd ?_ (by with_reducible assumption)
    | with_reducible apply Eff.Outcome.ite
    | with_reducible apply Eff.Opt.ite
    | with_reducible apply Eff.Opt.some
    | with_reducible exact Eff.Opt.none
    | with_reducible apply Eff.ite
    | with_reducible apply Eff.ite_snd
    | dsimp only
    | split
    | ((simp only [Eff.mk_iff]); refine EffMk.lit ?_ rfl rfl rfl rfl)

theorem State.endJob_eff (s : Sys2Proof.Machine.State) (c : ℕ) (status : ℕ) (quiet : Bool) {cM : Nat} {sB : State} (hB : Eff cM sB s) (hM : Within 17661981368448 cM) :
    Eff cM sB (State.endJob s c status quiet) := by
  refine Eff.call hB ?_ hM; clear hB hM
  unfold State.endJob
  repeat' first
    | with_reducible exact Eff.refl _ _
    | with_reducible assumption
    | ((with_reducible refine Within.intro ?_); rfl)
    | intro _
    | (extract_lets +onlyGivenNames x; refine Eff.step (c := 17661981368448) (s := s) x ?_ (fun hx => ?_) <;> [(unfold x; clear x); (clear_value x; revert x; intro _ _)])
    | (extract_lets +onlyGivenNames x; refine Eff.step (c := 17661981368448) (s := s) x.2 ?_ (fun hx => ?_) <;> [(unfold x; clear x); (clear_value x; revert x; intro _ _)])
    | (extract_lets +onlyGivenNames y; clear_value y; revert y; intro _)
    | with_reducible apply State.gfxLeave_eff
    | with_reducible apply State.modCtx_eff
    | with_reducible apply State.setCtxState_eff
    | with_reducible apply State.setReg_eff
    | with_reducible apply State.inc_eff
    | with_reducible apply State.event_eff
    | with_reducible apply State.gfxSettle_eff
    | with_reducible apply State.endEntry_eff
    | with_reducible refine Eff.each ?_ ?_
    | with_reducible refine Eff.foldl ?_ ?_
    | with_reducible refine Eff.foldl_snd ?_ ?_
    | with_reducible refine Eff.foldl_fst ?_ ?_
    | refine Eff.of_snd ?_ (by with_reducible assumption)
    | with_reducible apply Eff.Outcome.ite
    | with_reducible apply Eff.Opt.ite
    | with_reducible apply Eff.Opt.some
    | with_reducible exact Eff.Opt.none
    | with_reducible apply Eff.ite
    | with_reducible apply Eff.ite_snd
    | dsimp only
    | split
    | ((simp only [Eff.mk_iff]); refine EffMk.lit ?_ rfl rfl rfl rfl)

theorem State.abandonJob_eff (s : Sys2Proof.Machine.State) (c : ℕ) (quiet : Bool) {cM : Nat} {sB : State} (hB : Eff cM sB s) (hM : Within 17661981368448 cM) :
    Eff cM sB (State.abandonJob s c quiet) := by
  refine Eff.call hB ?_ hM; clear hB hM
  unfold State.abandonJob
  repeat' first
    | with_reducible exact Eff.refl _ _
    | with_reducible assumption
    | ((with_reducible refine Within.intro ?_); rfl)
    | intro _
    | (extract_lets +onlyGivenNames x; refine Eff.step (c := 17661981368448) (s := s) x ?_ (fun hx => ?_) <;> [(unfold x; clear x); (clear_value x; revert x; intro _ _)])
    | (extract_lets +onlyGivenNames x; refine Eff.step (c := 17661981368448) (s := s) x.2 ?_ (fun hx => ?_) <;> [(unfold x; clear x); (clear_value x; revert x; intro _ _)])
    | (extract_lets +onlyGivenNames y; clear_value y; revert y; intro _)
    | with_reducible apply State.modCtx_eff
    | with_reducible apply State.endJob_eff
    | with_reducible apply State.modJob_eff
    | with_reducible refine Eff.each ?_ ?_
    | with_reducible refine Eff.foldl ?_ ?_
    | with_reducible refine Eff.foldl_snd ?_ ?_
    | with_reducible refine Eff.foldl_fst ?_ ?_
    | refine Eff.of_snd ?_ (by with_reducible assumption)
    | with_reducible apply Eff.Outcome.ite
    | with_reducible apply Eff.Opt.ite
    | with_reducible apply Eff.Opt.some
    | with_reducible exact Eff.Opt.none
    | with_reducible apply Eff.ite
    | with_reducible apply Eff.ite_snd
    | dsimp only
    | split
    | ((simp only [Eff.mk_iff]); refine EffMk.lit ?_ rfl rfl rfl rfl)

theorem State.gfxQuiesce_eff (s : Sys2Proof.Machine.State) (i : ℕ) {cM : Nat} {sB : State} (hB : Eff cM sB s) (hM : Within 17661981368448 cM) :
    Eff cM sB (State.gfxQuiesce s i) := by
  refine Eff.call hB ?_ hM; clear hB hM
  unfold State.gfxQuiesce
  repeat' first
    | with_reducible exact Eff.refl _ _
    | with_reducible assumption
    | ((with_reducible refine Within.intro ?_); rfl)
    | intro _
    | (extract_lets +onlyGivenNames x; refine Eff.step (c := 17661981368448) (s := s) x ?_ (fun hx => ?_) <;> [(unfold x; clear x); (clear_value x; revert x; intro _ _)])
    | (extract_lets +onlyGivenNames x; refine Eff.step (c := 17661981368448) (s := s) x.2 ?_ (fun hx => ?_) <;> [(unfold x; clear x); (clear_value x; revert x; intro _ _)])
    | (extract_lets +onlyGivenNames y; clear_value y; revert y; intro _)
    | with_reducible apply State.abandonJob_eff
    | with_reducible apply State.setCtxState_eff
    | with_reducible apply State.modCtx_eff
    | with_reducible refine Eff.each ?_ ?_
    | with_reducible refine Eff.foldl ?_ ?_
    | with_reducible refine Eff.foldl_snd ?_ ?_
    | with_reducible refine Eff.foldl_fst ?_ ?_
    | refine Eff.of_snd ?_ (by with_reducible assumption)
    | with_reducible apply Eff.Outcome.ite
    | with_reducible apply Eff.Opt.ite
    | with_reducible apply Eff.Opt.some
    | with_reducible exact Eff.Opt.none
    | with_reducible apply Eff.ite
    | with_reducible apply Eff.ite_snd
    | dsimp only
    | split
    | ((simp only [Eff.mk_iff]); refine EffMk.lit ?_ rfl rfl rfl rfl)

theorem State.gfxCoreFailed_eff (s : Sys2Proof.Machine.State) (d : ℕ) {cM : Nat} {sB : State} (hB : Eff cM sB s) (hM : Within 17661981368448 cM) :
    Eff cM sB (State.gfxCoreFailed s d) := by
  refine Eff.call hB ?_ hM; clear hB hM
  unfold State.gfxCoreFailed
  repeat' first
    | with_reducible exact Eff.refl _ _
    | with_reducible assumption
    | ((with_reducible refine Within.intro ?_); rfl)
    | intro _
    | (extract_lets +onlyGivenNames x; refine Eff.step (c := 17661981368448) (s := s) x ?_ (fun hx => ?_) <;> [(unfold x; clear x); (clear_value x; revert x; intro _ _)])
    | (extract_lets +onlyGivenNames x; refine Eff.step (c := 17661981368448) (s := s) x.2 ?_ (fun hx => ?_) <;> [(unfold x; clear x); (clear_value x; revert x; intro _ _)])
    | (extract_lets +onlyGivenNames y; clear_value y; revert y; intro _)
    | with_reducible apply State.gfxLeave_eff
    | with_reducible apply State.modJob_eff
    | with_reducible apply State.setCtxState_eff
    | with_reducible apply State.modCtx_eff
    | with_reducible apply State.stopTargeting_eff
    | with_reducible refine Eff.each ?_ ?_
    | with_reducible refine Eff.foldl ?_ ?_
    | with_reducible refine Eff.foldl_snd ?_ ?_
    | with_reducible refine Eff.foldl_fst ?_ ?_
    | refine Eff.of_snd ?_ (by with_reducible assumption)
    | with_reducible apply Eff.Outcome.ite
    | with_reducible apply Eff.Opt.ite
    | with_reducible apply Eff.Opt.some
    | with_reducible exact Eff.Opt.none
    | with_reducible apply Eff.ite
    | with_reducible apply Eff.ite_snd
    | dsimp only
    | split
    | ((simp only [Eff.mk_iff]); refine EffMk.lit ?_ rfl rfl rfl rfl)

theorem State.gfxSleep_eff (s : Sys2Proof.Machine.State) {cM : Nat} {sB : State} (hB : Eff cM sB s) (hM : Within 68719476864 cM) :
    Eff cM sB (State.gfxSleep s) := by
  refine Eff.call hB ?_ hM; clear hB hM
  unfold State.gfxSleep
  repeat' first
    | with_reducible exact Eff.refl _ _
    | with_reducible assumption
    | ((with_reducible refine Within.intro ?_); rfl)
    | intro _
    | (extract_lets +onlyGivenNames x; refine Eff.step (c := 68719476864) (s := s) x ?_ (fun hx => ?_) <;> [(unfold x; clear x); (clear_value x; revert x; intro _ _)])
    | (extract_lets +onlyGivenNames x; refine Eff.step (c := 68719476864) (s := s) x.2 ?_ (fun hx => ?_) <;> [(unfold x; clear x); (clear_value x; revert x; intro _ _)])
    | (extract_lets +onlyGivenNames y; clear_value y; revert y; intro _)
    | with_reducible apply State.preempt_eff
    | with_reducible refine Eff.each ?_ ?_
    | with_reducible refine Eff.foldl ?_ ?_
    | with_reducible refine Eff.foldl_snd ?_ ?_
    | with_reducible refine Eff.foldl_fst ?_ ?_
    | refine Eff.of_snd ?_ (by with_reducible assumption)
    | with_reducible apply Eff.Outcome.ite
    | with_reducible apply Eff.Opt.ite
    | with_reducible apply Eff.Opt.some
    | with_reducible exact Eff.Opt.none
    | with_reducible apply Eff.ite
    | with_reducible apply Eff.ite_snd
    | dsimp only
    | split
    | ((simp only [Eff.mk_iff]); refine EffMk.lit ?_ rfl rfl rfl rfl)

end Sys2Proof.Machine
end

