-- ==== Sys2Proof/Laws/EffHapticOps.lean ====
section
/-! SUPPORT. What each function of Machine/HapticOps.lean may change (see Laws/Effect.lean): its mask of fields, canonical memories, one-way fuses. -/
set_option linter.all false
namespace Sys2Proof.Machine

theorem State.modHap_eff (s : Sys2Proof.Machine.State) (c : ℕ) (f : Haptic → Haptic) {cM : Nat} {sB : State} (hB : Eff cM sB s) (hM : Within 274877906944 cM) :
    Eff cM sB (State.modHap s c f) := by
  refine Eff.call hB ?_ hM; clear hB hM
  unfold State.modHap
  repeat' first
    | with_reducible exact Eff.refl _ _
    | with_reducible assumption
    | intro _
    | (extract_lets +onlyGivenNames x; refine Eff.step (c := 274877906944) (s := s) x ?_ (fun hx => ?_) <;> [(unfold x; clear x); (clear_value x; revert x; intro _ _)])
    | (extract_lets +onlyGivenNames x; refine Eff.step (c := 274877906944) (s := s) x.2 ?_ (fun hx => ?_) <;> [(unfold x; clear x); (clear_value x; revert x; intro _ _)])
    | (extract_lets +onlyGivenNames y; clear_value y; revert y; intro _)
    | with_reducible refine Eff.each ?_ ?_
    | with_reducible refine Eff.foldl ?_ ?_
    | with_reducible refine Eff.foldl_snd ?_ ?_
    | with_reducible refine Eff.foldl_fst ?_ ?_
    | refine Eff.of_snd ?_ (by with_reducible assumption)
    | with_reducible apply Eff.Outcome.ite
    | with_reducible apply Eff.Opt.ite
    | with_reducible apply Eff.Opt.some
    | with_reducible exact Eff.Opt.none
    | with_reducible apply Eff.ite
    | with_reducible apply Eff.ite_snd
    | dsimp only
    | split
    | ((simp only [Eff.mk_iff]); refine EffMk.lit ?_ rfl rfl rfl rfl)

theorem State.abandonPiezo_eff (s : Sys2Proof.Machine.State) (p : ℕ → Bool) {cM : Nat} {sB : State} (hB : Eff cM sB s) (hM : Within 536871040 cM) :
    Eff cM sB (State.abandonPiezo s p) := by
  refine Eff.call hB ?_ hM; clear hB hM
  unfold State.abandonPiezo
  repeat' first
    | with_reducible exact Eff.refl _ _
    | with_reducible assumption
    | ((with_reducible refine Within.intro ?_); rfl)
    | intro _
    | (extract_lets +onlyGivenNames x; refine Eff.step (c := 536871040) (s := s) x ?_ (fun hx => ?_) <;> [(unfold x; clear x); (clear_value x; revert x; intro _ _)])
    | (extract_lets +onlyGivenNames x; refine Eff.step (c := 536871040) (s := s) x.2 ?_ (fun hx => ?_) <;> [(unfold x; clear x); (clear_value x; revert x; intro _ _)])
    | (extract_lets +onlyGivenNames y; clear_value y; revert y; intro _)
    | with_reducible apply State.inc_eff
    | with_reducible refine Eff.each ?_ ?_
    | with_reducible refine Eff.foldl ?_ ?_
    | with_reducible refine Eff.foldl_snd ?_ ?_
    | with_reducible refine Eff.foldl_fst ?_ ?_
    | refine Eff.of_snd ?_ (by with_reducible assumption)
    | with_reducible apply Eff.Outcome.ite
    | with_reducible apply Eff.Opt.ite
    | with_reducible apply Eff.Opt.some
    | with_reducible exact Eff.Opt.none
    | with_reducible apply Eff.ite
    | with_reducible apply Eff.ite_snd
    | dsimp only
    | split
    | ((simp only [Eff.mk_iff]); refine EffMk.lit ?_ rfl rfl rfl rfl)

theorem State.setHapState_eff (s : Sys2Proof.Machine.State) (c : ℕ) (v : ℕ) {cM : Nat} {sB : State} (hB : Eff cM sB s) (hM : Within 275414777984 cM) :
    Eff cM sB (State.setHapState s c v) := by
  refine Eff.call hB ?_ hM; clear hB hM
  unfold State.setHapState
  repeat' first
    | with_reducible exact Eff.refl _ _
    | with_reducible assumption
    | ((with_reducible refine Within.intro ?_); rfl)
    | intro _
    | (extract_lets +onlyGivenNames x; refine Eff.step (c := 275414777984) (s := s) x ?_ (fun hx => ?_) <;> [(unfold x; clear x); (clear_value x; revert x; intro _ _)])
    | (extract_lets +onlyGivenNames x; refine Eff.step (c := 275414777984) (s := s) x.2 ?_ (fun hx => ?_) <;> [(unfold x; clear x); (clear_value x; revert x; intro _ _)])
    | (extract_lets +onlyGivenNames y; clear_value y; revert y; intro _)
    | with_reducible apply State.setReg_eff
    | with_reducible apply State.modHap_eff
    | with_reducible apply State.abandonPiezo_eff
    | with_reducible refine Eff.each ?_ ?_
    | with_reducible refine Eff.foldl ?_ ?_
    | with_reducible refine Eff.foldl_snd ?_ ?_
    | with_reducible refine Eff.foldl_fst ?_ ?_
    | refine Eff.of_snd ?_ (by with_reducible assumption)
    | with_reducible apply Eff.Outcome.ite
    | with_reducible apply Eff.Opt.ite
    | with_reducible apply Eff.Opt.some
    | with_reducible exact Eff.Opt.none
    | with_reducible apply Eff.ite
    | with_reducible apply Eff.ite_snd
    | dsimp only
    | split
    | ((simp only [Eff.mk_iff]); refine EffMk.lit ?_ rfl rfl rfl rfl)

theorem State.announce_eff (s : Sys2Proof.Machine.State) (c : ℕ) (t : ℕ) {cM : Nat} {sB : State} (hB : Eff cM sB s) (hM : Within 274877906944 cM) :
    Eff cM sB (State.announce s c t) := by
  refine Eff.call hB ?_ hM; clear hB hM
  unfold State.announce
  repeat' first
    | with_reducible exact Eff.refl _ _
    | with_reducible assumption
    | ((with_reducible refine Within.intro ?_); rfl)
    | intro _
    | (extract_lets +onlyGivenNames x; refine Eff.step (c := 274877906944) (s := s) x ?_ (fun hx => ?_) <;> [(unfold x; clear x); (clear_value x; revert x; intro _ _)])
    | (extract_lets +onlyGivenNames x; refine Eff.step (c := 274877906944) (s := s) x.2 ?_ (fun hx => ?_) <;> [(unfold x; clear x); (clear_value x; revert x; intro _ _)])
    | (extract_lets +onlyGivenNames y; clear_value y; revert y; intro _)
    | with_reducible apply State.modHap_eff
    | with_reducible refine Eff.each ?_ ?_
    | with_reducible refine Eff.foldl ?_ ?_
    | with_reducible refine Eff.foldl_snd ?_ ?_
    | with_reducible refine Eff.foldl_fst ?_ ?_
    | refine Eff.of_snd ?_ (by with_reducible assumption)
    | with_reducible apply Eff.Outcome.ite
    | with_reducible apply Eff.Opt.ite
    | with_reducible apply Eff.Opt.some
    | with_reducible exact Eff.Opt.none
    | with_reducible apply Eff.ite
    | with_reducible apply Eff.ite_snd
    | dsimp only
    | split
    | ((simp only [Eff.mk_iff]); refine EffMk.lit ?_ rfl rfl rfl rfl)

theorem State.bringPhase_eff (s : Sys2Proof.Machine.State) (c : ℕ) {cM : Nat} {sB : State} (hB : Eff cM sB s) (hM : Within 274877906944 cM) :
    Eff cM sB (State.bringPhase s c) := by
  refine Eff.call hB ?_ hM; clear hB hM
  unfold State.bringPhase
  repeat' first
    | with_reducible exact Eff.refl _ _
    | with_reducible assumption
    | ((with_reducible refine Within.intro ?_); rfl)
    | intro _
    | (extract_lets +onlyGivenNames x; refine Eff.step (c := 274877906944) (s := s) x ?_ (fun hx => ?_) <;> [(unfold x; clear x); (clear_value x; revert x; intro _ _)])
    | (extract_lets +onlyGivenNames x; refine Eff.step (c := 274877906944) (s := s) x.2 ?_ (fun hx => ?_) <;> [(unfold x; clear x); (clear_value x; revert x; intro _ _)])
    | (extract_lets +onlyGivenNames y; clear_value y; revert y; intro _)
    | with_reducible apply State.modHap_eff
    | with_reducible refine Eff.each ?_ ?_
    | with_reducible refine Eff.foldl ?_ ?_
    | with_reducible refine Eff.foldl_snd ?_ ?_
    | with_reducible refine Eff.foldl_fst ?_ ?_
    | refine Eff.of_snd ?_ (by with_reducible assumption)
    | with_reducible apply Eff.Outcome.ite
    | with_reducible apply Eff.Opt.ite
    | with_reducible apply Eff.Opt.some
    | with_reducible exact Eff.Opt.none
    | with_reducible apply Eff.ite
    | with_reducible apply Eff.ite_snd
    | dsimp only
    | split
    | ((simp only [Eff.mk_iff]); refine EffMk.lit ?_ rfl rfl rfl rfl)

theorem State.reflexDropped_eff (s : Sys2Proof.Machine.State) (c : ℕ) (t : HapticTrigger) (reason : ℕ) {cM : Nat} {sB : State} (hB : Eff cM sB s) (hM : Within 17593261891712 cM) :
    Eff cM sB (State.reflexDropped s c t reason) := by
  refine Eff.call hB ?_ hM; clear hB hM
  unfold State.reflexDropped
  repeat' first
    | with_reducible exact Eff.refl _ _
    | with_reducible assumption
    | ((with_reducible refine Within.intro ?_); rfl)
    | intro _
    | (extract_lets +onlyGivenNames x; refine Eff.step (c := 17593261891712) (s := s) x ?_ (fun hx => ?_) <;> [(unfold x; clear x); (clear_value x; revert x; intro _ _)])
    | (extract_lets +onlyGivenNames x; refine Eff.step (c := 17593261891712) (s := s) x.2 ?_ (fun hx => ?_) <;> [(unfold x; clear x); (clear_value x; revert x; intro _ _)])
    | (extract_lets +onlyGivenNames y; clear_value y; revert y; intro _)
    | with_reducible apply State.inc_eff
    | with_reducible apply State.event_eff
    | with_reducible refine Eff.each ?_ ?_
    | with_reducible refine Eff.foldl ?_ ?_
    | with_reducible refine Eff.foldl_snd ?_ ?_
    | with_reducible refine Eff.foldl_fst ?_ ?_
    | refine Eff.of_snd ?_ (by with_reducible assumption)
    | with_reducible apply Eff.Outcome.ite
    | with_reducible apply Eff.Opt.ite
    | with_reducible apply Eff.Opt.some
    | with_reducible exact Eff.Opt.none
    | with_reducible apply Eff.ite
    | with_reducible apply Eff.ite_snd
    | dsimp only
    | split
    | ((simp only [Eff.mk_iff]); refine EffMk.lit ?_ rfl rfl rfl rfl)

theorem State.endPlay_eff (s : Sys2Proof.Machine.State) (p : HapticPlay) (status : ℕ) {cM : Nat} {sB : State} (hB : Eff cM sB s) (hM : Within 17593261891712 cM) :
    Eff cM sB (State.endPlay s p status) := by
  refine Eff.call hB ?_ hM; clear hB hM
  unfold State.endPlay
  repeat' first
    | with_reducible exact Eff.refl _ _
    | with_reducible assumption
    | ((with_reducible refine Within.intro ?_); rfl)
    | intro _
    | (extract_lets +onlyGivenNames x; refine Eff.step (c := 17593261891712) (s := s) x ?_ (fun hx => ?_) <;> [(unfold x; clear x); (clear_value x; revert x; intro _ _)])
    | (extract_lets +onlyGivenNames x; refine Eff.step (c := 17593261891712) (s := s) x.2 ?_ (fun hx => ?_) <;> [(unfold x; clear x); (clear_value x; revert x; intro _ _)])
    | (extract_lets +onlyGivenNames y; clear_value y; revert y; intro _)
    | with_reducible apply State.endEntry_eff
    | with_reducible refine Eff.each ?_ ?_
    | with_reducible refine Eff.foldl ?_ ?_
    | with_reducible refine Eff.foldl_snd ?_ ?_
    | with_reducible refine Eff.foldl_fst ?_ ?_
    | refine Eff.of_snd ?_ (by with_reducible assumption)
    | with_reducible apply Eff.Outcome.ite
    | with_reducible apply Eff.Opt.ite
    | with_reducible apply Eff.Opt.some
    | with_reducible exact Eff.Opt.none
    | with_reducible apply Eff.ite
    | with_reducible apply Eff.ite_snd
    | dsimp only
    | split
    | ((simp only [Eff.mk_iff]); refine EffMk.lit ?_ rfl rfl rfl rfl)

theorem State.onset_eff (s : Sys2Proof.Machine.State) (c : ℕ) (t : HapticTrigger) (scaled : Bool) (play : Option HapticPlay) {cM : Nat} {sB : State} (hB : Eff cM sB s) (hM : Within 1374926405824 cM) :
    Eff cM sB (State.onset s c t scaled play) := by
  refine Eff.call hB ?_ hM; clear hB hM
  unfold State.onset
  repeat' first
    | with_reducible exact Eff.refl _ _
    | with_reducible assumption
    | ((with_reducible refine Within.intro ?_); rfl)
    | intro _
    | (extract_lets +onlyGivenNames x; refine Eff.step (c := 1374926405824) (s := s) x ?_ (fun hx => ?_) <;> [(unfold x; clear x); (clear_value x; revert x; intro _ _)])
    | (extract_lets +onlyGivenNames x; refine Eff.step (c := 1374926405824) (s := s) x.2 ?_ (fun hx => ?_) <;> [(unfold x; clear x); (clear_value x; revert x; intro _ _)])
    | (extract_lets +onlyGivenNames y; clear_value y; revert y; intro _)
    | with_reducible apply State.setHapState_eff
    | with_reducible apply State.modHap_eff
    | with_reducible apply State.inc_eff
    | with_reducible apply State.setReg_eff
    | with_reducible apply State.useFree_eff
    | with_reducible apply State.announce_eff
    | with_reducible refine Eff.each ?_ ?_
    | with_reducible refine Eff.foldl ?_ ?_
    | with_reducible refine Eff.foldl_snd ?_ ?_
    | with_reducible refine Eff.foldl_fst ?_ ?_
    | refine Eff.of_snd ?_ (by with_reducible assumption)
    | with_reducible apply Eff.Outcome.ite
    | with_reducible apply Eff.Opt.ite
    | with_reducible apply Eff.Opt.some
    | with_reducible exact Eff.Opt.none
    | with_reducible apply Eff.ite
    | with_reducible apply Eff.ite_snd
    | dsimp only
    | split
    | ((simp only [Eff.mk_iff]); refine EffMk.lit ?_ rfl rfl rfl rfl)

theorem State.effectOver_eff (s : Sys2Proof.Machine.State) (c : ℕ) (status : ℕ) {cM : Nat} {sB : State} (hB : Eff cM sB s) (hM : Within 17868139798656 cM) :
    Eff cM sB (State.effectOver s c status) := by
  refine Eff.call hB ?_ hM; clear hB hM
  unfold State.effectOver
  repeat' first
    | with_reducible exact Eff.refl _ _
    | with_reducible assumption
    | ((with_reducible refine Within.intro ?_); rfl)
    | intro _
    | (extract_lets +onlyGivenNames x; refine Eff.step (c := 17868139798656) (s := s) x ?_ (fun hx => ?_) <;> [(unfold x; clear x); (clear_value x; revert x; intro _ _)])
    | (extract_lets +onlyGivenNames x; refine Eff.step (c := 17868139798656) (s := s) x.2 ?_ (fun hx => ?_) <;> [(unfold x; clear x); (clear_value x; revert x; intro _ _)])
    | (extract_lets +onlyGivenNames y; clear_value y; revert y; intro _)
    | with_reducible apply State.modHap_eff
    | with_reducible apply State.setReg_eff
    | with_reducible apply State.endPlay_eff
    | with_reducible refine Eff.each ?_ ?_
    | with_reducible refine Eff.foldl ?_ ?_
    | with_reducible refine Eff.foldl_snd ?_ ?_
    | with_reducible refine Eff.foldl_fst ?_ ?_
    | refine Eff.of_snd ?_ (by with_reducible assumption)
    | with_reducible apply Eff.Outcome.ite
    | with_reducible apply Eff.Opt.ite
    | with_reducible apply Eff.Opt.some
    | with_reducible exact Eff.Opt.none
    | with_reducible apply Eff.ite
    | with_reducible apply Eff.ite_snd
    | dsimp only
    | split
    | ((simp only [Eff.mk_iff]); refine EffMk.lit ?_ rfl rfl rfl rfl)

theorem State.startWaiting_eff (s : Sys2Proof.Machine.State) (c : ℕ) (scaled : Bool) {cM : Nat} {sB : State} (hB : Eff cM sB s) (hM : Within 18968188297408 cM) :
    Eff cM sB (State.startWaiting s c scaled) := by
  refine Eff.call hB ?_ hM; clear hB hM
  unfold State.startWaiting
  repeat' first
    | with_reducible exact Eff.refl _ _
    | with_reducible assumption
    | ((with_reducible refine Within.intro ?_); rfl)
    | intro _
    | (extract_lets +onlyGivenNames x; refine Eff.step (c := 18968188297408) (s := s) x ?_ (fun hx => ?_) <;> [(unfold x; clear x); (clear_value x; revert x; intro _ _)])
    | (extract_lets +onlyGivenNames x; refine Eff.step (c := 18968188297408) (s := s) x.2 ?_ (fun hx => ?_) <;> [(unfold x; clear x); (clear_value x; revert x; intro _ _)])
    | (extract_lets +onlyGivenNames y; clear_value y; revert y; intro _)
    | with_reducible apply State.modHap_eff
    | with_reducible apply State.endPlay_eff
    | with_reducible apply State.onset_eff
    | with_reducible refine Eff.each ?_ ?_
    | with_reducible refine Eff.foldl ?_ ?_
    | with_reducible refine Eff.foldl_snd ?_ ?_
    | with_reducible refine Eff.foldl_fst ?_ ?_
    | refine Eff.of_snd ?_ (by with_reducible assumption)
    | with_reducible apply Eff.Outcome.ite
    | with_reducible apply Eff.Opt.ite
    | with_reducible apply Eff.Opt.some
    | with_reducible exact Eff.Opt.none
    | with_reducible apply Eff.ite
    | with_reducible apply Eff.ite_snd
    | dsimp only
    | split
    | ((simp only [Eff.mk_iff]); refine EffMk.lit ?_ rfl rfl rfl rfl)

theorem State.busyWaiting_eff (s : Sys2Proof.Machine.State) (c : ℕ) {cM : Nat} {sB : State} (hB : Eff cM sB s) (hM : Within 17868139798656 cM) :
    Eff cM sB (State.busyWaiting s c) := by
  refine Eff.call hB ?_ hM; clear hB hM
  unfold State.busyWaiting
  repeat' first
    | with_reducible exact Eff.refl _ _
    | with_reducible assumption
    | ((with_reducible refine Within.intro ?_); rfl)
    | intro _
    | (extract_lets +onlyGivenNames x; refine Eff.step (c := 17868139798656) (s := s) x ?_ (fun hx => ?_) <;> [(unfold x; clear x); (clear_value x; revert x; intro _ _)])
    | (extract_lets +onlyGivenNames x; refine Eff.step (c := 17868139798656) (s := s) x.2 ?_ (fun hx => ?_) <;> [(unfold x; clear x); (clear_value x; revert x; intro _ _)])
    | (extract_lets +onlyGivenNames y; clear_value y; revert y; intro _)
    | with_reducible apply State.endPlay_eff
    | with_reducible apply State.modHap_eff
    | with_reducible refine Eff.each ?_ ?_
    | with_reducible refine Eff.foldl ?_ ?_
    | with_reducible refine Eff.foldl_snd ?_ ?_
    | with_reducible refine Eff.foldl_fst ?_ ?_
    | refine Eff.of_snd ?_ (by with_reducible assumption)
    | with_reducible apply Eff.Outcome.ite
    | with_reducible apply Eff.Opt.ite
    | with_reducible apply Eff.Opt.some
    | with_reducible exact Eff.Opt.none
    | with_reducible apply Eff.ite
    | with_reducible apply Eff.ite_snd
    | dsimp only
    | split
    | ((simp only [Eff.mk_iff]); refine EffMk.lit ?_ rfl rfl rfl rfl)

theorem State.effectEnds_eff (s : Sys2Proof.Machine.State) (c : ℕ) (status : ℕ) {cM : Nat} {sB : State} (hB : Eff cM sB s) (hM : Within 18968188297408 cM) :
    Eff cM sB (State.effectEnds s c status) := by
  refine Eff.call hB ?_ hM; clear hB hM
  unfold State.effectEnds
  repeat' first
    | with_reducible exact Eff.refl _ _
    | with_reducible assumption
    | ((with_reducible refine Within.intro ?_); rfl)
    | intro _
    | (extract_lets +onlyGivenNames x; refine Eff.step (c := 18968188297408) (s := s) x ?_ (fun hx => ?_) <;> [(unfold x; clear x); (clear_value x; revert x; intro _ _)])
    | (extract_lets +onlyGivenNames x; refine Eff.step (c := 18968188297408) (s := s) x.2 ?_ (fun hx => ?_) <;> [(unfold x; clear x); (clear_value x; revert x; intro _ _)])
    | (extract_lets +onlyGivenNames y; clear_value y; revert y; intro _)
    | with_reducible apply State.setHapState_eff
    | with_reducible apply State.effectOver_eff
    | with_reducible apply State.busyWaiting_eff
    | with_reducible apply State.startWaiting_eff
    | with_reducible refine Eff.each ?_ ?_
    | with_reducible refine Eff.foldl ?_ ?_
    | with_reducible refine Eff.foldl_snd ?_ ?_
    | with_reducible refine Eff.foldl_fst ?_ ?_
    | refine Eff.of_snd ?_ (by with_reducible assumption)
    | with_reducible apply Eff.Outcome.ite
    | with_reducible apply Eff.Opt.ite
    | with_reducible apply Eff.Opt.some
    | with_reducible exact Eff.Opt.none
    | with_reducible apply Eff.ite
    | with_reducible apply Eff.ite_snd
    | dsimp only
    | split
    | ((simp only [Eff.mk_iff]); refine EffMk.lit ?_ rfl rfl rfl rfl)

theorem State.brakingEnds_eff (s : Sys2Proof.Machine.State) (c : ℕ) {cM : Nat} {sB : State} (hB : Eff cM sB s) (hM : Within 18968188297408 cM) :
    Eff cM sB (State.brakingEnds s c) := by
  refine Eff.call hB ?_ hM; clear hB hM
  unfold State.brakingEnds
  repeat' first
    | with_reducible exact Eff.refl _ _
    | with_reducible assumption
    | ((with_reducible refine Within.intro ?_); rfl)
    | intro _
    | (extract_lets +onlyGivenNames x; refine Eff.step (c := 18968188297408) (s := s) x ?_ (fun hx => ?_) <;> [(unfold x; clear x); (clear_value x; revert x; intro _ _)])
    | (extract_lets +onlyGivenNames x; refine Eff.step (c := 18968188297408) (s := s) x.2 ?_ (fun hx => ?_) <;> [(unfold x; clear x); (clear_value x; revert x; intro _ _)])
    | (extract_lets +onlyGivenNames y; clear_value y; revert y; intro _)
    | with_reducible apply State.effectEnds_eff
    | with_reducible apply State.useFree_eff
    | with_reducible apply State.announce_eff
    | with_reducible refine Eff.each ?_ ?_
    | with_reducible refine Eff.foldl ?_ ?_
    | with_reducible refine Eff.foldl_snd ?_ ?_
    | with_reducible refine Eff.foldl_fst ?_ ?_
    | refine Eff.of_snd ?_ (by with_reducible assumption)
    | with_reducible apply Eff.Outcome.ite
    | with_reducible apply Eff.Opt.ite
    | with_reducible apply Eff.Opt.some
    | with_reducible exact Eff.Opt.none
    | with_reducible apply Eff.ite
    | with_reducible apply Eff.ite_snd
    | dsimp only
    | split
    | ((simp only [Eff.mk_iff]); refine EffMk.lit ?_ rfl rfl rfl rfl)

theorem State.bodyEnds_eff (s : Sys2Proof.Machine.State) (c : ℕ) (e : HapticEffect) {cM : Nat} {sB : State} (hB : Eff cM sB s) (hM : Within 18968188297408 cM) :
    Eff cM sB (State.bodyEnds s c e) := by
  refine Eff.call hB ?_ hM; clear hB hM
  unfold State.bodyEnds
  repeat' first
    | with_reducible exact Eff.refl _ _
    | with_reducible assumption
    | ((with_reducible refine Within.intro ?_); rfl)
    | intro _
    | (extract_lets +onlyGivenNames x; refine Eff.step (c := 18968188297408) (s := s) x ?_ (fun hx => ?_) <;> [(unfold x; clear x); (clear_value x; revert x; intro _ _)])
    | (extract_lets +onlyGivenNames x; refine Eff.step (c := 18968188297408) (s := s) x.2 ?_ (fun hx => ?_) <;> [(unfold x; clear x); (clear_value x; revert x; intro _ _)])
    | (extract_lets +onlyGivenNames y; clear_value y; revert y; intro _)
    | with_reducible apply State.effectEnds_eff
    | with_reducible apply State.announce_eff
    | with_reducible apply State.setHapState_eff
    | with_reducible apply State.modHap_eff
    | with_reducible apply State.startWaiting_eff
    | with_reducible apply State.effectOver_eff
    | with_reducible refine Eff.each ?_ ?_
    | with_reducible refine Eff.foldl ?_ ?_
    | with_reducible refine Eff.foldl_snd ?_ ?_
    | with_reducible refine Eff.foldl_fst ?_ ?_
    | refine Eff.of_snd ?_ (by with_reducible assumption)
    | with_reducible apply Eff.Outcome.ite
    | with_reducible apply Eff.Opt.ite
    | with_reducible apply Eff.Opt.some
    | with_reducible exact Eff.Opt.none
    | with_reducible apply Eff.ite
    | with_reducible apply Eff.ite_snd
    | dsimp only
    | split
    | ((simp only [Eff.mk_iff]); refine EffMk.lit ?_ rfl rfl rfl rfl)

theorem State.brakeNow_eff (s : Sys2Proof.Machine.State) (c : ℕ) {cM : Nat} {sB : State} (hB : Eff cM sB s) (hM : Within 18968188297408 cM) :
    Eff cM sB (State.brakeNow s c) := by
  refine Eff.call hB ?_ hM; clear hB hM
  unfold State.brakeNow
  repeat' first
    | with_reducible exact Eff.refl _ _
    | with_reducible assumption
    | ((with_reducible refine Within.intro ?_); rfl)
    | intro _
    | (extract_lets +onlyGivenNames x; refine Eff.step (c := 18968188297408) (s := s) x ?_ (fun hx => ?_) <;> [(unfold x; clear x); (clear_value x; revert x; intro _ _)])
    | (extract_lets +onlyGivenNames x; refine Eff.step (c := 18968188297408) (s := s) x.2 ?_ (fun hx => ?_) <;> [(unfold x; clear x); (clear_value x; revert x; intro _ _)])
    | (extract_lets +onlyGivenNames y; clear_value y; revert y; intro _)
    | with_reducible apply State.bodyEnds_eff
    | with_reducible refine Eff.each ?_ ?_
    | with_reducible refine Eff.foldl ?_ ?_
    | with_reducible refine Eff.foldl_snd ?_ ?_
    | with_reducible refine Eff.foldl_fst ?_ ?_
    | refine Eff.of_snd ?_ (by with_reducible assumption)
    | with_reducible apply Eff.Outcome.ite
    | with_reducible apply Eff.Opt.ite
    | with_reducible apply Eff.Opt.some
    | with_reducible exact Eff.Opt.none
    | with_reducible apply Eff.ite
    | with_reducible apply Eff.ite_snd
    | dsimp only
    | split
    | ((simp only [Eff.mk_iff]); refine EffMk.lit ?_ rfl rfl rfl rfl)

theorem State.henRise_eff (s : Sys2Proof.Machine.State) (c : ℕ) {cM : Nat} {sB : State} (hB : Eff cM sB s) (hM : Within 275414777984 cM) :
    Eff cM sB (State.henRise s c) := by
  refine Eff.call hB ?_ hM; clear hB hM
  unfold State.henRise
  repeat' first
    | with_reducible exact Eff.refl _ _
    | with_reducible assumption
    | ((with_reducible refine Within.intro ?_); rfl)
    | intro _
    | (extract_lets +onlyGivenNames x; refine Eff.step (c := 275414777984) (s := s) x ?_ (fun hx => ?_) <;> [(unfold x; clear x); (clear_value x; revert x; intro _ _)])
    | (extract_lets +onlyGivenNames x; refine Eff.step (c := 275414777984) (s := s) x.2 ?_ (fun hx => ?_) <;> [(unfold x; clear x); (clear_value x; revert x; intro _ _)])
    | (extract_lets +onlyGivenNames y; clear_value y; revert y; intro _)
    | with_reducible apply State.setHapState_eff
    | with_reducible apply State.modHap_eff
    | with_reducible refine Eff.each ?_ ?_
    | with_reducible refine Eff.foldl ?_ ?_
    | with_reducible refine Eff.foldl_snd ?_ ?_
    | with_reducible refine Eff.foldl_fst ?_ ?_
    | refine Eff.of_snd ?_ (by with_reducible assumption)
    | with_reducible apply Eff.Outcome.ite
    | with_reducible apply Eff.Opt.ite
    | with_reducible apply Eff.Opt.some
    | with_reducible exact Eff.Opt.none
    | with_reducible apply Eff.ite
    | with_reducible apply Eff.ite_snd
    | dsimp only
    | split
    | ((simp only [Eff.mk_iff]); refine EffMk.lit ?_ rfl rfl rfl rfl)

theorem State.henFall_eff (s : Sys2Proof.Machine.State) (c : ℕ) (st : ℕ) (status : ℕ) {cM : Nat} {sB : State} (hB : Eff cM sB s) (hM : Within 17868676669568 cM) :
    Eff cM sB (State.henFall s c st status) := by
  refine Eff.call hB ?_ hM; clear hB hM
  unfold State.henFall
  repeat' first
    | with_reducible exact Eff.refl _ _
    | with_reducible assumption
    | ((with_reducible refine Within.intro ?_); rfl)
    | intro _
    | (extract_lets +onlyGivenNames x; refine Eff.step (c := 17868676669568) (s := s) x ?_ (fun hx => ?_) <;> [(unfold x; clear x); (clear_value x; revert x; intro _ _)])
    | (extract_lets +onlyGivenNames x; refine Eff.step (c := 17868676669568) (s := s) x.2 ?_ (fun hx => ?_) <;> [(unfold x; clear x); (clear_value x; revert x; intro _ _)])
    | (extract_lets +onlyGivenNames y; clear_value y; revert y; intro _)
    | with_reducible apply State.setHapState_eff
    | with_reducible apply State.modHap_eff
    | with_reducible apply State.effectOver_eff
    | with_reducible apply State.endPlay_eff
    | with_reducible refine Eff.each ?_ ?_
    | with_reducible refine Eff.foldl ?_ ?_
    | with_reducible refine Eff.foldl_snd ?_ ?_
    | with_reducible refine Eff.foldl_fst ?_ ?_
    | refine Eff.of_snd ?_ (by with_reducible assumption)
    | with_reducible apply Eff.Outcome.ite
    | with_reducible apply Eff.Opt.ite
    | with_reducible apply Eff.Opt.some
    | with_reducible exact Eff.Opt.none
    | with_reducible apply Eff.ite
    | with_reducible apply Eff.ite_snd
    | dsimp only
    | split
    | ((simp only [Eff.mk_iff]); refine EffMk.lit ?_ rfl rfl rfl rfl)

theorem State.hapTrip_eff (s : Sys2Proof.Machine.State) (c : ℕ) (reason : ℕ) {cM : Nat} {sB : State} (hB : Eff cM sB s) (hM : Within 17868676669568 cM) :
    Eff cM sB (State.hapTrip s c reason) := by
  refine Eff.call hB ?_ hM; clear hB hM
  unfold State.hapTrip
  repeat' first
    | with_reducible exact Eff.refl _ _
    | with_reducible assumption
    | ((with_reducible refine Within.intro ?_); rfl)
    | intro _
    | (extract_lets +onlyGivenNames x; refine Eff.step (c := 17868676669568) (s := s) x ?_ (fun hx => ?_) <;> [(unfold x; clear x); (clear_value x; revert x; intro _ _)])
    | (extract_lets +onlyGivenNames x; refine Eff.step (c := 17868676669568) (s := s) x.2 ?_ (fun hx => ?_) <;> [(unfold x; clear x); (clear_value x; revert x; intro _ _)])
    | (extract_lets +onlyGivenNames y; clear_value y; revert y; intro _)
    | with_reducible apply State.setReg_eff
    | with_reducible apply State.henFall_eff
    | with_reducible apply State.announce_eff
    | with_reducible apply State.event_eff
    | with_reducible refine Eff.each ?_ ?_
    | with_reducible refine Eff.foldl ?_ ?_
    | with_reducible refine Eff.foldl_snd ?_ ?_
    | with_reducible refine Eff.foldl_fst ?_ ?_
    | refine Eff.of_snd ?_ (by with_reducible assumption)
    | with_reducible apply Eff.Outcome.ite
    | with_reducible apply Eff.Opt.ite
    | with_reducible apply Eff.Opt.some
    | with_reducible exact Eff.Opt.none
    | with_reducible apply Eff.ite
    | with_reducible apply Eff.ite_snd
    | dsimp only
    | split
    | ((simp only [Eff.mk_iff]); refine EffMk.lit ?_ rfl rfl rfl rfl)

theorem State.hapUnfault_eff (s : Sys2Proof.Machine.State) (c : ℕ) {cM : Nat} {sB : State} (hB : Eff cM sB s) (hM : Within 17868676669568 cM) :
    Eff cM sB (State.hapUnfault s c) := by
  refine Eff.call hB ?_ hM; clear hB hM
  unfold State.hapUnfault
  repeat' first
    | with_reducible exact Eff.refl _ _
    | with_reducible assumption
    | ((with_reducible refine Within.intro ?_); rfl)
    | intro _
    | (extract_lets +onlyGivenNames x; refine Eff.step (c := 17868676669568) (s := s) x ?_ (fun hx => ?_) <;> [(unfold x; clear x); (clear_value x; revert x; intro _ _)])
    | (extract_lets +onlyGivenNames x; refine Eff.step (c := 17868676669568) (s := s) x.2 ?_ (fun hx => ?_) <;> [(unfold x; clear x); (clear_value x; revert x; intro _ _)])
    | (extract_lets +onlyGivenNames y; clear_value y; revert y; intro _)
    | with_reducible apply State.event_eff
    | with_reducible apply State.setReg_eff
    | with_reducible apply State.setHapState_eff
    | with_reducible apply State.henRise_eff
    | with_reducible refine Eff.each ?_ ?_
    | with_reducible refine Eff.foldl ?_ ?_
    | with_reducible refine Eff.foldl_snd ?_ ?_
    | with_reducible refine Eff.foldl_fst ?_ ?_
    | refine Eff.of_snd ?_ (by with_reducible assumption)
    | with_reducible apply Eff.Outcome.ite
    | with_reducible apply Eff.Opt.ite
    | with_reducible apply Eff.Opt.some
    | with_reducible exact Eff.Opt.none
    | with_reducible apply Eff.ite
    | with_reducible apply Eff.ite_snd
    | dsimp only
    | split
    | ((simp only [Eff.mk_iff]); refine EffMk.lit ?_ rfl rfl rfl rfl)

theorem State.hapOn_eff (s : Sys2Proof.Machine.State) (c : ℕ) {cM : Nat} {sB : State} (hB : Eff cM sB s) (hM : Within 275414777984 cM) :
    Eff cM sB (State.hapOn s c) := by
  refine Eff.call hB ?_ hM; clear hB hM
  unfold State.hapOn
  repeat' first
    | with_reducible exact Eff.refl _ _
    | with_reducible assumption
    | ((with_reducible refine Within.intro ?_); rfl)
    | intro _
    | (extract_lets +onlyGivenNames x; refine Eff.step (c := 275414777984) (s := s) x ?_ (fun hx => ?_) <;> [(unfold x; clear x); (clear_value x; revert x; intro _ _)])
    | (extract_lets +onlyGivenNames x; refine Eff.step (c := 275414777984) (s := s) x.2 ?_ (fun hx => ?_) <;> [(unfold x; clear x); (clear_value x; revert x; intro _ _)])
    | (extract_lets +onlyGivenNames y; clear_value y; revert y; intro _)
    | with_reducible apply State.setHapState_eff
    | with_reducible apply State.henRise_eff
    | with_reducible refine Eff.each ?_ ?_
    | with_reducible refine Eff.foldl ?_ ?_
    | with_reducible refine Eff.foldl_snd ?_ ?_
    | with_reducible refine Eff.foldl_fst ?_ ?_
    | refine Eff.of_snd ?_ (by with_reducible assumption)
    | with_reducible apply Eff.Outcome.ite
    | with_reducible apply Eff.Opt.ite
    | with_reducible apply Eff.Opt.some
    | with_reducible exact Eff.Opt.none
    | with_reducible apply Eff.ite
    | with_reducible apply Eff.ite_snd
    | dsimp only
    | split
    | ((simp only [Eff.mk_iff]); refine EffMk.lit ?_ rfl rfl rfl rfl)

theorem State.hapClearWrite_eff (s : Sys2Proof.Machine.State) (c : ℕ) {cM : Nat} {sB : State} (hB : Eff cM sB s) (hM : Within 17868676669632 cM) :
    Eff cM sB (State.hapClearWrite s c).2 := by
  refine Eff.call hB ?_ hM; clear hB hM
  unfold State.hapClearWrite
  repeat' first
    | with_reducible exact Eff.refl _ _
    | with_reducible assumption
    | ((with_reducible refine Within.intro ?_); rfl)
    | intro _
    | (extract_lets +onlyGivenNames x; refine Eff.step (c := 17868676669632) (s := s) x ?_ (fun hx => ?_) <;> [(unfold x; clear x); (clear_value x; revert x; intro _ _)])
    | (extract_lets +onlyGivenNames x; refine Eff.step (c := 17868676669632) (s := s) x.2 ?_ (fun hx => ?_) <;> [(unfold x; clear x); (clear_value x; revert x; intro _ _)])
    | (extract_lets +onlyGivenNames y; clear_value y; revert y; intro _)
    | with_reducible apply State.useFree_eff
    | with_reducible apply State.hapUnfault_eff
    | with_reducible apply State.modHap_eff
    | with_reducible refine Eff.each ?_ ?_
    | with_reducible refine Eff.foldl ?_ ?_
    | with_reducible refine Eff.foldl_snd ?_ ?_
    | with_reducible refine Eff.foldl_fst ?_ ?_
    | refine Eff.of_snd ?_ (by with_reducible assumption)
    | with_reducible apply Eff.Outcome.ite
    | with_reducible apply Eff.Opt.ite
    | with_reducible apply Eff.Opt.some
    | with_reducible exact Eff.Opt.none
    | with_reducible apply Eff.ite
    | with_reducible apply Eff.ite_snd
    | dsimp only
    | split
    | ((simp only [Eff.mk_iff]); refine EffMk.lit ?_ rfl rfl rfl rfl)

theorem State.cutOnTime_eff (s : Sys2Proof.Machine.State) (c : ℕ) {cM : Nat} {sB : State} (hB : Eff cM sB s) (hM : Within 18968188297408 cM) :
    Eff cM sB (State.cutOnTime s c) := by
  refine Eff.call hB ?_ hM; clear hB hM
  unfold State.cutOnTime
  repeat' first
    | with_reducible exact Eff.refl _ _
    | with_reducible assumption
    | ((with_reducible refine Within.intro ?_); rfl)
    | intro _
    | (extract_lets +onlyGivenNames x; refine Eff.step (c := 18968188297408) (s := s) x ?_ (fun hx => ?_) <;> [(unfold x; clear x); (clear_value x; revert x; intro _ _)])
    | (extract_lets +onlyGivenNames x; refine Eff.step (c := 18968188297408) (s := s) x.2 ?_ (fun hx => ?_) <;> [(unfold x; clear x); (clear_value x; revert x; intro _ _)])
    | (extract_lets +onlyGivenNames y; clear_value y; revert y; intro _)
    | with_reducible apply State.inc_eff
    | with_reducible apply State.announce_eff
    | with_reducible apply State.effectEnds_eff
    | with_reducible apply State.event_eff
    | with_reducible refine Eff.each ?_ ?_
    | with_reducible refine Eff.foldl ?_ ?_
    | with_reducible refine Eff.foldl_snd ?_ ?_
    | with_reducible refine Eff.foldl_fst ?_ ?_
    | refine Eff.of_snd ?_ (by with_reducible assumption)
    | with_reducible apply Eff.Outcome.ite
    | with_reducible apply Eff.Opt.ite
    | with_reducible apply Eff.Opt.some
    | with_reducible exact Eff.Opt.none
    | with_reducible apply Eff.ite
    | with_reducible apply Eff.ite_snd
    | dsimp only
    | split
    | ((simp only [Eff.mk_iff]); refine EffMk.lit ?_ rfl rfl rfl rfl)

theorem State.energyEvent_eff (s : Sys2Proof.Machine.State) (c : ℕ) (eff : ℕ) (reason : ℕ) {cM : Nat} {sB : State} (hB : Eff cM sB s) (hM : Within 17593261891712 cM) :
    Eff cM sB (State.energyEvent s c eff reason) := by
  refine Eff.call hB ?_ hM; clear hB hM
  unfold State.energyEvent
  repeat' first
    | with_reducible exact Eff.refl _ _
    | with_reducible assumption
    | ((with_reducible refine Within.intro ?_); rfl)
    | intro _
    | (extract_lets +onlyGivenNames x; refine Eff.step (c := 17593261891712) (s := s) x ?_ (fun hx => ?_) <;> [(unfold x; clear x); (clear_value x; revert x; intro _ _)])
    | (extract_lets +onlyGivenNames x; refine Eff.step (c := 17593261891712) (s := s) x.2 ?_ (fun hx => ?_) <;> [(unfold x; clear x); (clear_value x; revert x; intro _ _)])
    | (extract_lets +onlyGivenNames y; clear_value y; revert y; intro _)
    | with_reducible apply State.event_eff
    | with_reducible refine Eff.each ?_ ?_
    | with_reducible refine Eff.foldl ?_ ?_
    | with_reducible refine Eff.foldl_snd ?_ ?_
    | with_reducible refine Eff.foldl_fst ?_ ?_
    | refine Eff.of_snd ?_ (by with_reducible assumption)
    | with_reducible apply Eff.Outcome.ite
    | with_reducible apply Eff.Opt.ite
    | with_reducible apply Eff.Opt.some
    | with_reducible exact Eff.Opt.none
    | with_reducible apply Eff.ite
    | with_reducible apply Eff.ite_snd
    | dsimp only
    | split
    | ((simp only [Eff.mk_iff]); refine EffMk.lit ?_ rfl rfl rfl rfl)

theorem State.judgeEnergy_eff (s : Sys2Proof.Machine.State) (c : ℕ) {cM : Nat} {sB : State} (hB : Eff cM sB s) (hM : Within 18968188297408 cM) :
    Eff cM sB (State.judgeEnergy s c) := by
  refine Eff.call hB ?_ hM; clear hB hM
  unfold State.judgeEnergy
  repeat' first
    | with_reducible exact Eff.refl _ _
    | with_reducible assumption
    | ((with_reducible refine Within.intro ?_); rfl)
    | intro _
    | (extract_lets +onlyGivenNames x; refine Eff.step (c := 18968188297408) (s := s) x ?_ (fun hx => ?_) <;> [(unfold x; clear x); (clear_value x; revert x; intro _ _)])
    | (extract_lets +onlyGivenNames x; refine Eff.step (c := 18968188297408) (s := s) x.2 ?_ (fun hx => ?_) <;> [(unfold x; clear x); (clear_value x; revert x; intro _ _)])
    | (extract_lets +onlyGivenNames y; clear_value y; revert y; intro _)
    | with_reducible apply State.energyEvent_eff
    | with_reducible apply State.modHap_eff
    | with_reducible apply State.effectOver_eff
    | with_reducible apply State.announce_eff
    | with_reducible apply State.busyWaiting_eff
    | with_reducible apply State.setHapState_eff
    | with_reducible apply State.startWaiting_eff
    | with_reducible refine Eff.each ?_ ?_
    | with_reducible refine Eff.foldl ?_ ?_
    | with_reducible refine Eff.foldl_snd ?_ ?_
    | with_reducible refine Eff.foldl_fst ?_ ?_
    | refine Eff.of_snd ?_ (by with_reducible assumption)
    | with_reducible apply Eff.Outcome.ite
    | with_reducible apply Eff.Opt.ite
    | with_reducible apply Eff.Opt.some
    | with_reducible exact Eff.Opt.none
    | with_reducible apply Eff.ite
    | with_reducible apply Eff.ite_snd
    | dsimp only
    | split
    | ((simp only [Eff.mk_iff]); refine EffMk.lit ?_ rfl rfl rfl rfl)

theorem State.judgeLimits_eff (s : Sys2Proof.Machine.State) (c : ℕ) {cM : Nat} {sB : State} (hB : Eff cM sB s) (hM : Within 18968188297408 cM) :
    Eff cM sB (State.judgeLimits s c) := by
  refine Eff.call hB ?_ hM; clear hB hM
  unfold State.judgeLimits
  repeat' first
    | with_reducible exact Eff.refl _ _
    | with_reducible assumption
    | ((with_reducible refine Within.intro ?_); rfl)
    | intro _
    | (extract_lets +onlyGivenNames x; refine Eff.step (c := 18968188297408) (s := s) x ?_ (fun hx => ?_) <;> [(unfold x; clear x); (clear_value x; revert x; intro _ _)])
    | (extract_lets +onlyGivenNames x; refine Eff.step (c := 18968188297408) (s := s) x.2 ?_ (fun hx => ?_) <;> [(unfold x; clear x); (clear_value x; revert x; intro _ _)])
    | (extract_lets +onlyGivenNames y; clear_value y; revert y; intro _)
    | with_reducible apply State.hapTrip_eff
    | with_reducible apply State.cutOnTime_eff
    | with_reducible apply State.judgeEnergy_eff
    | with_reducible refine Eff.each ?_ ?_
    | with_reducible refine Eff.foldl ?_ ?_
    | with_reducible refine Eff.foldl_snd ?_ ?_
    | with_reducible refine Eff.foldl_fst ?_ ?_
    | refine Eff.of_snd ?_ (by with_reducible assumption)
    | with_reducible apply Eff.Outcome.ite
    | with_reducible apply Eff.Opt.ite
    | with_reducible apply Eff.Opt.some
    | with_reducible exact Eff.Opt.none
    | with_reducible apply Eff.ite
    | with_reducible apply Eff.ite_snd
    | dsimp only
    | split
    | ((simp only [Eff.mk_iff]); refine EffMk.lit ?_ rfl rfl rfl rfl)

theorem State.hapTrigger_eff (s : Sys2Proof.Machine.State) (c : ℕ) (t : HapticTrigger) {cM : Nat} {sB : State} (hB : Eff cM sB s) (hM : Within 18968188297408 cM) :
    Eff cM sB (State.hapTrigger s c t) := by
  refine Eff.call hB ?_ hM; clear hB hM
  unfold State.hapTrigger
  repeat' first
    | with_reducible exact Eff.refl _ _
    | with_reducible assumption
    | ((with_reducible refine Within.intro ?_); rfl)
    | intro _
    | (extract_lets +onlyGivenNames x; refine Eff.step (c := 18968188297408) (s := s) x ?_ (fun hx => ?_) <;> [(unfold x; clear x); (clear_value x; revert x; intro _ _)])
    | (extract_lets +onlyGivenNames x; refine Eff.step (c := 18968188297408) (s := s) x.2 ?_ (fun hx => ?_) <;> [(unfold x; clear x); (clear_value x; revert x; intro _ _)])
    | (extract_lets +onlyGivenNames y; clear_value y; revert y; intro _)
    | with_reducible apply State.reflexDropped_eff
    | with_reducible apply State.modHap_eff
    | with_reducible apply State.onset_eff
    | with_reducible apply State.inc_eff
    | with_reducible apply State.effectOver_eff
    | with_reducible refine Eff.each ?_ ?_
    | with_reducible refine Eff.foldl ?_ ?_
    | with_reducible refine Eff.foldl_snd ?_ ?_
    | with_reducible refine Eff.foldl_fst ?_ ?_
    | refine Eff.of_snd ?_ (by with_reducible assumption)
    | with_reducible apply Eff.Outcome.ite
    | with_reducible apply Eff.Opt.ite
    | with_reducible apply Eff.Opt.some
    | with_reducible exact Eff.Opt.none
    | with_reducible apply Eff.ite
    | with_reducible apply Eff.ite_snd
    | dsimp only
    | split
    | ((simp only [Eff.mk_iff]); refine EffMk.lit ?_ rfl rfl rfl rfl)

theorem State.hapUptake_eff (s : Sys2Proof.Machine.State) (c : ℕ) {cM : Nat} {sB : State} (hB : Eff cM sB s) (hM : Within 18968188298432 cM) :
    Eff cM sB (State.hapUptake s c) := by
  refine Eff.call hB ?_ hM; clear hB hM
  unfold State.hapUptake
  repeat' first
    | with_reducible exact Eff.refl _ _
    | with_reducible assumption
    | ((with_reducible refine Within.intro ?_); rfl)
    | intro _
    | (extract_lets +onlyGivenNames x; refine Eff.step (c := 18968188298432) (s := s) x ?_ (fun hx => ?_) <;> [(unfold x; clear x); (clear_value x; revert x; intro _ _)])
    | (extract_lets +onlyGivenNames x; refine Eff.step (c := 18968188298432) (s := s) x.2 ?_ (fun hx => ?_) <;> [(unfold x; clear x); (clear_value x; revert x; intro _ _)])
    | (extract_lets +onlyGivenNames y; clear_value y; revert y; intro _)
    | with_reducible apply State.takeUp_eff
    | with_reducible apply State.bringPhase_eff
    | with_reducible apply State.setReg_eff
    | with_reducible apply State.modHap_eff
    | with_reducible apply State.henFall_eff
    | with_reducible apply State.hapOn_eff
    | with_reducible apply State.judgeLimits_eff
    | with_reducible refine Eff.each ?_ ?_
    | with_reducible refine Eff.foldl ?_ ?_
    | with_reducible refine Eff.foldl_snd ?_ ?_
    | with_reducible refine Eff.foldl_fst ?_ ?_
    | refine Eff.of_snd ?_ (by with_reducible assumption)
    | with_reducible apply Eff.Outcome.ite
    | with_reducible apply Eff.Opt.ite
    | with_reducible apply Eff.Opt.some
    | with_reducible exact Eff.Opt.none
    | with_reducible apply Eff.ite
    | with_reducible apply Eff.ite_snd
    | dsimp only
    | split
    | ((simp only [Eff.mk_iff]); refine EffMk.lit ?_ rfl rfl rfl rfl)

theorem State.effectUptake_eff (s : Sys2Proof.Machine.State) {cM : Nat} {sB : State} (hB : Eff cM sB s) (hM : Within 1152 cM) :
    Eff cM sB (State.effectUptake s) := by
  refine Eff.call hB ?_ hM; clear hB hM
  unfold State.effectUptake
  repeat' first
    | with_reducible exact Eff.refl _ _
    | with_reducible assumption
    | ((with_reducible refine Within.intro ?_); rfl)
    | intro _
    | (extract_lets +onlyGivenNames x; refine Eff.step (c := 1152) (s := s) x ?_ (fun hx => ?_) <;> [(unfold x; clear x); (clear_value x; revert x; intro _ _)])
    | (extract_lets +onlyGivenNames x; refine Eff.step (c := 1152) (s := s) x.2 ?_ (fun hx => ?_) <;> [(unfold x; clear x); (clear_value x; revert x; intro _ _)])
    | (extract_lets +onlyGivenNames y; clear_value y; revert y; intro _)
    | with_reducible apply State.takeUp_eff
    | with_reducible apply State.setReg_eff
    | with_reducible refine Eff.each ?_ ?_
    | with_reducible refine Eff.foldl ?_ ?_
    | with_reducible refine Eff.foldl_snd ?_ ?_
    | with_reducible refine Eff.foldl_fst ?_ ?_
    | refine Eff.of_snd ?_ (by with_reducible assumption)
    | with_reducible apply Eff.Outcome.ite
    | with_reducible apply Eff.Opt.ite
    | with_reducible apply Eff.Opt.some
    | with_reducible exact Eff.Opt.none
    | with_reducible apply Eff.ite
    | with_reducible apply Eff.ite_snd
    | dsimp only
    | split
    | ((simp only [Eff.mk_iff]); refine EffMk.lit ?_ rfl rfl rfl rfl)

theorem State.hapSleep_eff (s : Sys2Proof.Machine.State) {cM : Nat} {sB : State} (hB : Eff cM sB s) (hM : Within 17868676669568 cM) :
    Eff cM sB (State.hapSleep s) := by
  refine Eff.call hB ?_ hM; clear hB hM
  unfold State.hapSleep
  repeat' first
    | with_reducible exact Eff.refl _ _
    | with_reducible assumption
    | ((with_reducible refine Within.intro ?_); rfl)
    | intro _
    | (extract_lets +onlyGivenNames x; refine Eff.step (c := 17868676669568) (s := s) x ?_ (fun hx => ?_) <;> [(unfold x; clear x); (clear_value x; revert x; intro _ _)])
    | (extract_lets +onlyGivenNames x; refine Eff.step (c := 17868676669568) (s := s) x.2 ?_ (fun hx => ?_) <;> [(unfold x; clear x); (clear_value x; revert x; intro _ _)])
    | (extract_lets +onlyGivenNames y; clear_value y; revert y; intro _)
    | with_reducible apply State.henFall_eff
    | with_reducible refine Eff.each ?_ ?_
    | with_reducible refine Eff.foldl ?_ ?_
    | with_reducible refine Eff.foldl_snd ?_ ?_
    | with_reducible refine Eff.foldl_fst ?_ ?_
    | refine Eff.of_snd ?_ (by with_reducible assumption)
    | with_reducible apply Eff.Outcome.ite
    | with_reducible apply Eff.Opt.ite
    | with_reducible apply Eff.Opt.some
    | with_reducible exact Eff.Opt.none
    | with_reducible apply Eff.ite
    | with_reducible apply Eff.ite_snd
    | dsimp only
    | split
    | ((simp only [Eff.mk_iff]); refine EffMk.lit ?_ rfl rfl rfl rfl)

theorem State.hapWake_eff (s : Sys2Proof.Machine.State) {cM : Nat} {sB : State} (hB : Eff cM sB s) (hM : Within 275414777984 cM) :
    Eff cM sB (State.hapWake s) := by
  refine Eff.call hB ?_ hM; clear hB hM
  unfold State.hapWake
  repeat' first
    | with_reducible exact Eff.refl _ _
    | with_reducible assumption
    | ((with_reducible refine Within.intro ?_); rfl)
    | intro _
    | (extract_lets +onlyGivenNames x; refine Eff.step (c := 275414777984) (s := s) x ?_ (fun hx => ?_) <;> [(unfold x; clear x); (clear_value x; revert x; intro _ _)])
    | (extract_lets +onlyGivenNames x; refine Eff.step (c := 275414777984) (s := s) x.2 ?_ (fun hx => ?_) <;> [(unfold x; clear x); (clear_value x; revert x; intro _ _)])
    | (extract_lets +onlyGivenNames y; clear_value y; revert y; intro _)
    | with_reducible apply State.hapOn_eff
    | with_reducible refine Eff.each ?_ ?_
    | with_reducible refine Eff.foldl ?_ ?_
    | with_reducible refine Eff.foldl_snd ?_ ?_
    | with_reducible refine Eff.foldl_fst ?_ ?_
    | refine Eff.of_snd ?_ (by with_reducible assumption)
    | with_reducible apply Eff.Outcome.ite
    | with_reducible apply Eff.Opt.ite
    | with_reducible apply Eff.Opt.some
    | with_reducible exact Eff.Opt.none
    | with_reducible apply Eff.ite
    | with_reducible apply Eff.ite_snd
    | dsimp only
    | split
    | ((simp only [Eff.mk_iff]); refine EffMk.lit ?_ rfl rfl rfl rfl)

theorem State.hapQuiesce_eff (s : Sys2Proof.Machine.State) (i : ℕ) {cM : Nat} {sB : State} (hB : Eff cM sB s) (hM : Within 18968188297408 cM) :
    Eff cM sB (State.hapQuiesce s i) := by
  refine Eff.call hB ?_ hM; clear hB hM
  unfold State.hapQuiesce
  repeat' first
    | with_reducible exact Eff.refl _ _
    | with_reducible assumption
    | ((with_reducible refine Within.intro ?_); rfl)
    | intro _
    | (extract_lets +onlyGivenNames x; refine Eff.step (c := 18968188297408) (s := s) x ?_ (fun hx => ?_) <;> [(unfold x; clear x); (clear_value x; revert x; intro _ _)])
    | (extract_lets +onlyGivenNames x; refine Eff.step (c := 18968188297408) (s := s) x.2 ?_ (fun hx => ?_) <;> [(unfold x; clear x); (clear_value x; revert x; intro _ _)])
    | (extract_lets +onlyGivenNames y; clear_value y; revert y; intro _)
    | with_reducible apply State.modHap_eff
    | with_reducible apply State.brakeNow_eff
    | with_reducible refine Eff.each ?_ ?_
    | with_reducible refine Eff.foldl ?_ ?_
    | with_reducible refine Eff.foldl_snd ?_ ?_
    | with_reducible refine Eff.foldl_fst ?_ ?_
    | refine Eff.of_snd ?_ (by with_reducible assumption)
    | with_reducible apply Eff.Outcome.ite
    | with_reducible apply Eff.Opt.ite
    | with_reducible apply Eff.Opt.some
    | with_reducible exact Eff.Opt.none
    | with_reducible apply Eff.ite
    | with_reducible apply Eff.ite_snd
    | dsimp only
    | split
    | ((simp only [Eff.mk_iff]); refine EffMk.lit ?_ rfl rfl rfl rfl)

theorem State.hapCoreFailed_eff (s : Sys2Proof.Machine.State) (d : ℕ) {cM : Nat} {sB : State} (hB : Eff cM sB s) (hM : Within 17868676669568 cM) :
    Eff cM sB (State.hapCoreFailed s d) := by
  refine Eff.call hB ?_ hM; clear hB hM
  unfold State.hapCoreFailed
  repeat' first
    | with_reducible exact Eff.refl _ _
    | with_reducible assumption
    | ((with_reducible refine Within.intro ?_); rfl)
    | intro _
    | (extract_lets +onlyGivenNames x; refine Eff.step (c := 17868676669568) (s := s) x ?_ (fun hx => ?_) <;> [(unfold x; clear x); (clear_value x; revert x; intro _ _)])
    | (extract_lets +onlyGivenNames x; refine Eff.step (c := 17868676669568) (s := s) x.2 ?_ (fun hx => ?_) <;> [(unfold x; clear x); (clear_value x; revert x; intro _ _)])
    | (extract_lets +onlyGivenNames y; clear_value y; revert y; intro _)
    | with_reducible apply State.hapTrip_eff
    | with_reducible refine Eff.each ?_ ?_
    | with_reducible refine Eff.foldl ?_ ?_
    | with_reducible refine Eff.foldl_snd ?_ ?_
    | with_reducible refine Eff.foldl_fst ?_ ?_
    | refine Eff.of_snd ?_ (by with_reducible assumption)
    | with_reducible apply Eff.Outcome.ite
    | with_reducible apply Eff.Opt.ite
    | with_reducible apply Eff.Opt.some
    | with_reducible exact Eff.Opt.none
    | with_reducible apply Eff.ite
    | with_reducible apply Eff.ite_snd
    | dsimp only
    | split
    | ((simp only [Eff.mk_iff]); refine EffMk.lit ?_ rfl rfl rfl rfl)

theorem State.hapBusLost_eff (s : Sys2Proof.Machine.State) (d : ℕ) {cM : Nat} {sB : State} (hB : Eff cM sB s) (hM : Within 17868676669568 cM) :
    Eff cM sB (State.hapBusLost s d) := by
  refine Eff.call hB ?_ hM; clear hB hM
  unfold State.hapBusLost
  repeat' first
    | with_reducible exact Eff.refl _ _
    | with_reducible assumption
    | ((with_reducible refine Within.intro ?_); rfl)
    | intro _
    | (extract_lets +onlyGivenNames x; refine Eff.step (c := 17868676669568) (s := s) x ?_ (fun hx => ?_) <;> [(unfold x; clear x); (clear_value x; revert x; intro _ _)])
    | (extract_lets +onlyGivenNames x; refine Eff.step (c := 17868676669568) (s := s) x.2 ?_ (fun hx => ?_) <;> [(unfold x; clear x); (clear_value x; revert x; intro _ _)])
    | (extract_lets +onlyGivenNames y; clear_value y; revert y; intro _)
    | with_reducible apply State.hapTrip_eff
    | with_reducible refine Eff.each ?_ ?_
    | with_reducible refine Eff.foldl ?_ ?_
    | with_reducible refine Eff.foldl_snd ?_ ?_
    | with_reducible refine Eff.foldl_fst ?_ ?_
    | refine Eff.of_snd ?_ (by with_reducible assumption)
    | with_reducible apply Eff.Outcome.ite
    | with_reducible apply Eff.Opt.ite
    | with_reducible apply Eff.Opt.some
    | with_reducible exact Eff.Opt.none
    | with_reducible apply Eff.ite
    | with_reducible apply Eff.ite_snd
    | dsimp only
    | split
    | ((simp only [Eff.mk_iff]); refine EffMk.lit ?_ rfl rfl rfl rfl)

theorem State.hapStart_eff (s : Sys2Proof.Machine.State) {cM : Nat} {sB : State} (hB : Eff cM sB s) (hM : Within 274877907072 cM) :
    Eff cM sB (State.hapStart s) := by
  refine Eff.call hB ?_ hM; clear hB hM
  unfold State.hapStart
  repeat' first
    | with_reducible exact Eff.refl _ _
    | with_reducible assumption
    | ((with_reducible refine Within.intro ?_); rfl)
    | intro _
    | (extract_lets +onlyGivenNames x; refine Eff.step (c := 274877907072) (s := s) x ?_ (fun hx => ?_) <;> [(unfold x; clear x); (clear_value x; revert x; intro _ _)])
    | (extract_lets +onlyGivenNames x; refine Eff.step (c := 274877907072) (s := s) x.2 ?_ (fun hx => ?_) <;> [(unfold x; clear x); (clear_value x; revert x; intro _ _)])
    | (extract_lets +onlyGivenNames y; clear_value y; revert y; intro _)
    | with_reducible apply State.modHap_eff
    | with_reducible apply State.setReg_eff
    | with_reducible refine Eff.each ?_ ?_
    | with_reducible refine Eff.foldl ?_ ?_
    | with_reducible refine Eff.foldl_snd ?_ ?_
    | with_reducible refine Eff.foldl_fst ?_ ?_
    | refine Eff.of_snd ?_ (by with_reducible assumption)
    | with_reducible apply Eff.Outcome.ite
    | with_reducible apply Eff.Opt.ite
    | with_reducible apply Eff.Opt.some
    | with_reducible exact Eff.Opt.none
    | with_reducible apply Eff.ite
    | with_reducible apply Eff.ite_snd
    | dsimp only
    | split
    | ((simp only [Eff.mk_iff]); refine EffMk.lit ?_ rfl rfl rfl rfl)

theorem State.hapTakeover_eff (s : Sys2Proof.Machine.State) (d : ℕ) {cM : Nat} {sB : State} (hB : Eff cM sB s) (hM : Within 17868676669568 cM) :
    Eff cM sB (State.hapTakeover s d) := by
  refine Eff.call hB ?_ hM; clear hB hM
  unfold State.hapTakeover
  repeat' first
    | with_reducible exact Eff.refl _ _
    | with_reducible assumption
    | ((with_reducible refine Within.intro ?_); rfl)
    | intro _
    | (extract_lets +onlyGivenNames x; refine Eff.step (c := 17868676669568) (s := s) x ?_ (fun hx => ?_) <;> [(unfold x; clear x); (clear_value x; revert x; intro _ _)])
    | (extract_lets +onlyGivenNames x; refine Eff.step (c := 17868676669568) (s := s) x.2 ?_ (fun hx => ?_) <;> [(unfold x; clear x); (clear_value x; revert x; intro _ _)])
    | (extract_lets +onlyGivenNames y; clear_value y; revert y; intro _)
    | with_reducible apply State.hapUnfault_eff
    | with_reducible refine Eff.each ?_ ?_
    | with_reducible refine Eff.foldl ?_ ?_
    | with_reducible refine Eff.foldl_snd ?_ ?_
    | with_reducible refine Eff.foldl_fst ?_ ?_
    | refine Eff.of_snd ?_ (by with_reducible assumption)
    | with_reducible apply Eff.Outcome.ite
    | with_reducible apply Eff.Opt.ite
    | with_reducible apply Eff.Opt.some
    | with_reducible exact Eff.Opt.none
    | with_reducible apply Eff.ite
    | with_reducible apply Eff.ite_snd
    | dsimp only
    | split
    | ((simp only [Eff.mk_iff]); refine EffMk.lit ?_ rfl rfl rfl rfl)

end Sys2Proof.Machine
end

