-- ==== Sys2Proof/Laws/Events.lean ====
section
/-! SUPPORT. What writing an event, an EMCY or a health cause leaves of the directory, and that stored numbers read back. -/
namespace Sys2Proof.Machine

/-- Keys of entries whose sub fits a byte are equal only for the same index and sub. -/
theorem entryKey_inj {i j a b : Nat} (ha : a < 256) (hb : b < 256) : entryKey i a = entryKey j b ↔ i = j ∧ a = b := by
  simp only [entryKey]; omega

@[simp] theorem Val.toInt_num (v : Int) : (Val.num v).toInt = v := rfl

/-- A number set in a register reads back. -/
@[simp] theorem State.reg_setReg_self (s : State) (i sub v : Nat) : (s.setReg i sub v).reg i sub = v := by
  simp [State.reg, State.regI, State.liveAt_setLive]
/-- A register set leaves another. -/
theorem State.reg_setReg_of_ne (s : State) (i sub j k v : Nat) (h : entryKey i sub ≠ entryKey j k) : (s.setReg i sub v).reg j k = s.reg j k := by
  simp [State.reg, State.regI, State.liveAt_setLive, h]

/-- The live store after a record is delivered: at most one entry changed, the count of lost events of the instance. -/
theorem State.liveAt_deliver (s : State) (i j k : Nat) (r : EvRecord) (hk : k % 256 ≠ 0x12) : (s.deliver i r).liveAt j k = s.liveAt j k := by
  have hd : ∀ t : State, (t.dropRecord i).liveAt j k = t.liveAt j k := fun t => by
    have : entryKey (0x2200 + i) 0x12 ≠ entryKey j k := by simp only [entryKey]; omega
    simp [State.dropRecord, State.inc, State.count, State.liveAt_setLive, this]
  have hs : ∀ (t : State) a b, (t.sendVector a b).liveAt j k = t.liveAt j k := fun t a b => by
    unfold State.sendVector; dsimp only; split
    · rfl
    · split <;> rfl
  have hw : ∀ (t : State) a b c, (t.writeIda a b c).liveAt j k = t.liveAt j k := fun t a b c => by
    unfold State.writeIda; dsimp only; split <;> rfl
  unfold State.deliver
  extract_lets x st
  split
  · rfl
  · split
    · split
      · rfl
      · exact hd s
    · split
      · split
        · rfl
        · exact hd s
      · split
        · unfold State.ringWrite
          dsimp only
          generalize (_ || _ || _ : Bool) = due
          cases due <;> simp only [if_true, if_false, Bool.false_eq_true, hs] <;> split <;> (first | (rw [hw]; rfl) | rfl)
        · exact hd s

theorem State.liveAt_event (s : State) (i a b c d e f j k : Nat) (hk : k % 256 ≠ 0x12) : (s.event i a b c d e f).liveAt j k = s.liveAt j k :=
  State.liveAt_deliver _ _ _ _ _ hk

theorem State.each_keeps {P : State → Prop} (l : List Nat) (f : State → Nat → State) (hf : ∀ t n, P t → P (f t n)) (s : State) (h : P s) :
    P (s.each l f) := by
  induction l generalizing s with
  | nil => exact h
  | cons n ns ih => exact ih _ (hf s n h)

theorem State.liveAt_eventAll (s : State) (a b c d e f j k : Nat) (hk : k % 256 ≠ 0x12) : (s.eventAll a b c d e f).liveAt j k = s.liveAt j k := by
  unfold State.eventAll
  exact State.each_keeps (P := fun t => t.liveAt j k = s.liveAt j k) _ _ (fun t n h => by rw [State.liveAt_event _ _ _ _ _ _ _ _ _ _ hk, h]) s rfl

theorem State.liveAt_deliverAll (s : State) (i j k : Nat) (rs : List EvRecord) (hk : k % 256 ≠ 0x12) : (s.deliverAll i rs).liveAt j k = s.liveAt j k := by
  induction rs generalizing s with
  | nil => rfl
  | cons r t ih => rw [State.deliverAll, ih, State.liveAt_deliver _ _ _ _ _ hk]

theorem State.liveAt_queueEmcy (s : State) (e : Emcy) (j k : Nat) (hk : k % 256 ≠ 0x12) (hj : entryKey 0x1F11 5 ≠ entryKey j k) :
    (s.queueEmcy e).liveAt j k = s.liveAt j k := by
  unfold State.queueEmcy
  extract_lets m full m1 m2 s1 s2
  rw [State.liveAt_deliver _ _ _ _ _ hk]
  change (if _ then _ else _ : State).liveAt j k = _
  split
  · simp only [State.inc, State.count, State.setReg_eq, State.liveAt_setLive, hj, if_false]; rfl
  · rfl

theorem State.liveAt_raiseEmcy (s : State) (a b c d e j k : Nat) (hk : k % 256 ≠ 0x12) (hj : entryKey 0x1F11 5 ≠ entryKey j k) :
    (s.raiseEmcy a b c d e).liveAt j k = s.liveAt j k := State.liveAt_queueEmcy _ _ _ _ hk hj

/-- An entry outside the error register, the EMCY counters and the health record. -/
def Quiet (j k : Nat) : Prop := k % 256 ≠ 0x12 ∧ k < 256 ∧ j ≠ 0x1001 ∧ j ≠ 0x1F11 ∧ j ≠ 0x2700

theorem State.liveAt_errorBit (s : State) (n j k : Nat) (h : Quiet j k) : (s.errorBit n).liveAt j k = s.liveAt j k := by
  obtain ⟨-, h2, h3, -, -⟩ := h
  have : entryKey 0x1001 0 ≠ entryKey j k := by rw [Ne, entryKey_inj (by omega) h2]; omega
  simp [State.errorBit, State.liveAt_setLive, this]

theorem State.liveAt_clearErrorBit (s : State) (n j k : Nat) (h : Quiet j k) : (s.clearErrorBit n).liveAt j k = s.liveAt j k := by
  obtain ⟨h1, h2, h3, h4, -⟩ := h
  have e1 : entryKey 0x1001 0 ≠ entryKey j k := by rw [Ne, entryKey_inj (by omega) h2]; omega
  have e2 : entryKey 0x1F11 5 ≠ entryKey j k := by rw [Ne, entryKey_inj (by omega) h2]; omega
  unfold State.clearErrorBit
  dsimp only
  split
  · rw [State.liveAt_raiseEmcy _ _ _ _ _ _ _ _ h1 e2]; simp [State.liveAt_setLive, e1]
  · simp [State.liveAt_setLive, e1]

/-- A health cause leaves every quiet entry. -/
theorem State.liveAt_cause (s : State) (c die cls res j k : Nat) (h : Quiet j k) : (s.cause c die cls res).liveAt j k = s.liveAt j k := by
  have h' := h
  obtain ⟨h1, h2, h3, h4, h5⟩ := h
  have e2 : entryKey 0x1F11 5 ≠ entryKey j k := by rw [Ne, entryKey_inj (by omega) h2]; omega
  have e3 : ∀ b, b < 256 → entryKey 0x2700 b ≠ entryKey j k := fun b hb => by rw [Ne, entryKey_inj hb h2]; omega
  unfold State.cause
  split
  · rfl
  · dsimp only
    split
    · rw [State.liveAt_eventAll _ _ _ _ _ _ _ _ _ h1]
      change (State.raiseEmcy _ _ _ _ _ _).liveAt j k = _
      rw [State.liveAt_raiseEmcy _ _ _ _ _ _ _ _ h1 e2, State.liveAt_errorBit _ _ _ _ h']
      simp [State.driveSvc, State.liveAt_setLive, e3]
      change ((((s.setLive _ _ _).setLive _ _ _).setLive _ _ _).setLive _ _ _ : State).liveAt j k = _
      simp [State.liveAt_setLive, e3]
    · rw [State.liveAt_eventAll _ _ _ _ _ _ _ _ _ h1]
      simp [State.liveAt_setLive, e3]

theorem State.reg_of_liveAt {s t : State} {j k : Nat} (h : t.liveAt j k = s.liveAt j k) : t.reg j k = s.reg j k := by
  simp [State.reg, State.regI, h]
theorem State.reg_event (s : State) (i a b c d e f j k : Nat) (hk : k % 256 ≠ 0x12) : (s.event i a b c d e f).reg j k = s.reg j k :=
  State.reg_of_liveAt (State.liveAt_event _ _ _ _ _ _ _ _ _ _ hk)
theorem State.reg_eventAll (s : State) (a b c d e f j k : Nat) (hk : k % 256 ≠ 0x12) : (s.eventAll a b c d e f).reg j k = s.reg j k :=
  State.reg_of_liveAt (State.liveAt_eventAll _ _ _ _ _ _ _ _ _ hk)
theorem State.reg_cause (s : State) (c die cls res j k : Nat) (h : Quiet j k) : (s.cause c die cls res).reg j k = s.reg j k :=
  State.reg_of_liveAt (State.liveAt_cause _ _ _ _ _ _ _ h)
theorem State.reg_raiseEmcy (s : State) (a b c d e j k : Nat) (hk : k % 256 ≠ 0x12) (hj : entryKey 0x1F11 5 ≠ entryKey j k) :
    (s.raiseEmcy a b c d e).reg j k = s.reg j k := State.reg_of_liveAt (State.liveAt_raiseEmcy _ _ _ _ _ _ _ _ hk hj)

end Sys2Proof.Machine
end

