-- ==== Sys2Proof/Laws/Next.lean ====
section
/-! SUPPORT. How a statement about a next state is reached, and how the frames of Safety.lean compose. -/
namespace Sys2Proof.Machine

/-- The outcome is a next state with a property. -/
def Next (o : Host.Outcome State Fault Refusal) (P : State → Prop) : Prop :=
  match o with
  | .next t => P t
  | _ => False

theorem exists_next {o : Host.Outcome State Fault Refusal} {P : State → Prop} (h : Next o P) : ∃ t, o = .next t ∧ P t := by
  cases o with
  | next t => exact ⟨t, rfl, h⟩
  | fault f => exact h.elim
  | refused r => exact h.elim

@[simp] theorem Next_next (t : State) (P : State → Prop) : Next (.next t) P ↔ P t := Iff.rfl

theorem Next.ite_pos {p : Prop} [Decidable p] {a b : Host.Outcome State Fault Refusal} {P : State → Prop} (hp : p) (h : Next a P) :
    Next (if p then a else b) P := by rw [if_pos hp]; exact h
theorem Next.ite_neg {p : Prop} [Decidable p] {a b : Host.Outcome State Fault Refusal} {P : State → Prop} (hp : ¬p) (h : Next b P) :
    Next (if p then a else b) P := by rw [if_neg hp]; exact h

theorem SameMemory.refl (s : State) : SameMemory s s := ⟨fun _ => rfl, fun _ => rfl⟩
theorem SameMemory.of_eq {s t : State} (h : t.mem = s.mem) (k : t.imem = s.imem) : SameMemory s t := by
  constructor <;> intro a
  · rw [h]
  · rw [k]
theorem SameRings.refl (s : State) : SameRings s s := ⟨rfl, rfl, rfl⟩
theorem SameRings.of_eff {c : Nat} {s t : State} (h : Eff c s t) (h8 : Nat.testBit c 8 = false := by rfl) (h9 : Nat.testBit c 9 = false := by rfl)
    (h11 : Nat.testBit c 11 = false := by rfl) : SameRings s t := ⟨h.active_eq h8, h.draft_eq h9, h.previous_eq h11⟩
theorem SameMemory.of_eff {c : Nat} {s t : State} (h : Eff c s t) (h12 : Nat.testBit c 12 = false := by rfl)
    (h13 : Nat.testBit c 13 = false := by rfl) : SameMemory s t := SameMemory.of_eq (h.mem_eq h12) (h.imem_eq h13)

theorem SameLiveBut.refl (s : State) (ks : List Nat) : SameLiveBut s s ks := fun _ _ _ => rfl
theorem SameLiveBut.of_live {s t : State} {ks : List Nat} (h : t.live = s.live) (h1 : t.part = s.part) (h2 : t.grade = s.grade) : SameLiveBut s t ks :=
  fun i sub _ => State.liveAt_congr s t h h1 h2 i sub
theorem SameLiveBut.trans_live {s t u : State} {ks : List Nat} (h : SameLiveBut s t ks) (e : u.live = t.live) (h1 : u.part = t.part)
    (h2 : u.grade = t.grade) : SameLiveBut s u ks := fun i sub hk => (State.liveAt_congr t u e h1 h2 i sub).trans (h i sub hk)
theorem SameLiveBut.setLive {s t : State} {ks : List Nat} (h : SameLiveBut s t ks) {i sub : Nat} (v : Val) (hk : entryKey i sub ∈ ks) :
    SameLiveBut s (t.setLive i sub v) ks := fun j k hj => by
  have : entryKey i sub ≠ entryKey j k := fun e => hj (e ▸ hk)
  rw [State.liveAt_setLive, if_neg this]; exact h j k hj

end Sys2Proof.Machine
end

