-- ==== Sys2Proof/Laws/Boot.lean ====
section
/-! SUPPORT. Registers after an entry into POWERED, an entry into a boot state and a halt (R80, R106, R109, R102). -/
namespace Sys2Proof.Machine

theorem State.live_default_of_wiped (s : State) (i k : Nat) (h : entryKey i k ≠ 0x230103) : s.wiped.liveAt i k = defaultAt s.part s.grade i k := by
  simp only [State.wiped, State.liveAt]
  unfold Tab.getD
  rw [Tab.find?_filter s.live _ (fun n => decide (n = 0x230103)) (fun e => rfl)]
  simp [h]
theorem State.powered_live (s : State) (c : Nat) (b : Bool) (i k : Nat) (h : entryKey i k ≠ 0x230103) (h1 : entryKey i k ≠ entryKey 0x2100 4) (h2 : entryKey i k ≠ entryKey 0x2700 5) :
   (s.powered c b).liveAt i k = defaultAt s.part s.grade i k := by
  simp only [State.powered, State.setReg_eq, State.liveAt_setLive, Ne.symm h1, Ne.symm h2, if_false]
  exact State.live_default_of_wiped s i k h
theorem State.powered_boot (s : State) (c : Nat) (b : Bool) : (s.powered c b).bootState = 0 := by
  simp only [State.bootState, State.reg, State.regI]
  rw [State.powered_live _ _ _ _ _ (by decide) (by decide) (by decide)]; rfl
theorem State.powered_cause (s : State) (c : Nat) (b : Bool) : (s.powered c b).reg 0x2100 4 = c := by
  simp [State.powered, State.reg, State.regI, State.liveAt_setLive, entryKey]


theorem State.sendVector_live (s : State) (i v : Nat) : (s.sendVector i v).live = s.live :=
  Eff.live_eq (State.sendVector_eff s i v (Eff.refl 17592188141568 s) rfl)
theorem State.sendVector_pins (s : State) (i v : Nat) : (s.sendVector i v).pins = s.pins :=
  Eff.pins_eq (State.sendVector_eff s i v (Eff.refl 17592188141568 s) rfl)
theorem State.reg_congr {s t : State} (h : t.live = s.live) (h1 : t.part = s.part) (h2 : t.grade = s.grade) (j k : Nat) : t.reg j k = s.reg j k :=
  State.reg_of_liveAt (State.liveAt_congr s t h h1 h2 j k)
theorem State.reg_sendVector (s : State) (i v j k : Nat) : (s.sendVector i v).reg j k = s.reg j k := by
  have h := State.sendVector_eff s i v (Eff.refl 17592188141568 s) rfl
  exact State.reg_congr h.live_eq h.part_eq h.grade_eq j k
theorem State.reg_each (l : List Nat) (f : State → Nat → State) (j k : Nat) (hf : ∀ t n, (f t n).reg j k = t.reg j k) (s : State) :
    (s.each l f).reg j k = s.reg j k :=
  State.each_keeps (P := fun t => t.reg j k = s.reg j k) _ _ (fun t n h => (hf t n).trans h) s rfl
theorem State.reg_driveSvc (s : State) (j k : Nat) (h : entryKey 0x2700 5 ≠ entryKey j k) : s.driveSvc.reg j k = s.reg j k := by
  unfold State.driveSvc; rw [State.reg_setReg_of_ne _ _ _ _ _ _ h]; exact State.reg_congr rfl rfl rfl _ _
theorem State.bootHalt_eq (s : State) (code : Nat) (svc : Bool) : (s.bootHalt code svc).bootState = 0xFF ∧ (s.bootHalt code svc).reg 0x2100 2 = code := by
  unfold State.bootHalt State.bootState
  dsimp only
  rw [State.reg_sendVector, State.reg_sendVector, State.reg_setReg_self, State.reg_setReg_of_ne _ _ _ _ _ _ (by decide), State.reg_setReg_self]
  exact ⟨rfl, rfl⟩
theorem State.each_pins (l : List Nat) (f : State → Nat → State) (hf : ∀ t n, (f t n).pins = t.pins) (s : State) : (s.each l f).pins = s.pins :=
  State.each_keeps (P := fun t => t.pins = s.pins) _ _ (fun t n h => (hf t n).trans h) s rfl
theorem State.bootHalt_svc (s : State) (code : Nat) : (s.bootHalt code true).pins.svcReqLow = true := by
  unfold State.bootHalt
  dsimp only
  rw [State.sendVector_pins]
  simp only [State.setReg_eq, State.setLive_pins]
  rw [State.each_pins]
  · rfl
  · intro t n; split <;> rfl
theorem State.bootHalt_nosvc (s : State) (code : Nat) : (s.bootHalt code false).pins = s.pins := by
  unfold State.bootHalt
  dsimp only
  rw [State.sendVector_pins]
  simp only [State.setReg_eq, State.setLive_pins]
  rw [State.each_pins]
  · rfl
  · intro t n; split <;> rfl
theorem State.bootEnter_state (s : State) (st : Nat) : (s.bootEnter st).bootState = st := by
  unfold State.bootEnter State.bootState
  have : ∀ t : State, t.useFree.reg 0x2100 1 = t.reg 0x2100 1 := fun t => State.reg_congr rfl rfl rfl _ _
  rw [this, State.reg_setReg_of_ne _ _ _ _ _ _ (by simp only [entryKey]; omega), State.reg_setReg_self]
theorem State.bootEnter_reg (s : State) (st j k : Nat) (h : entryKey 0x2100 1 ≠ entryKey j k) (h2 : entryKey 0x2103 st ≠ entryKey j k) : (s.bootEnter st).reg j k = s.reg j k := by
  unfold State.bootEnter
  have : ∀ t : State, t.useFree.reg j k = t.reg j k := fun t => State.reg_congr rfl rfl rfl _ _
  rw [this, State.reg_setReg_of_ne _ _ _ _ _ _ h2, State.reg_setReg_of_ne _ _ _ _ _ _ h]
theorem State.bootEnter_frame (s : State) (st : Nat) : Eff 192 s (s.bootEnter st) := State.bootEnter_eff s st (Eff.refl _ s) rfl


theorem State.bootSrc_of_zero {s : State} (h : s.reg 0x2002 1 = 0) : s.bootSrc = false := by simp [State.bootSrc, h]
theorem State.bootSrc_of_one {s : State} (h : s.reg 0x2002 1 = 1) : s.bootSrc = true := by simp [State.bootSrc, h]

end Sys2Proof.Machine
end

