-- ==== Sys2Proof/Laws/EffEntries.lean ====
section
/-! SUPPORT. What each function of Machine/Entries.lean may change (see Laws/Effect.lean): its mask of fields, canonical memories, one-way fuses. -/
set_option linter.all false
namespace Sys2Proof.Machine

theorem State.liveRead_eff (s : State) (f : Found) (idx : ℕ) (sub : ℕ) {cM : Nat} {sB : State} (hB : Eff cM sB s) (hM : Within 67108864 cM) :
    Eff cM sB (State.liveRead s f idx sub).2 := by
  refine Eff.call hB ?_ hM; clear hB hM
  unfold State.liveRead
  extract_lets b k
  clear_value b k
  repeat' first
    | with_reducible exact Eff.refl _ _
    | with_reducible assumption
    | ((with_reducible refine Within.intro ?_); rfl)
    | intro _
    | with_reducible apply State.useFree_eff
    | with_reducible apply State.newChallenge_eff
    | with_reducible refine Eff.each ?_ ?_
    | with_reducible refine Eff.foldl ?_ ?_
    | with_reducible refine Eff.foldl_snd ?_ ?_
    | with_reducible refine Eff.foldl_fst ?_ ?_
    | refine Eff.of_snd ?_ (by with_reducible assumption)
    | with_reducible apply Eff.Outcome.ite
    | with_reducible apply Eff.Opt.ite
    | with_reducible apply Eff.Opt.some
    | with_reducible exact Eff.Opt.none
    | with_reducible apply Eff.ite
    | with_reducible apply Eff.ite_snd

theorem State.viewRead_eff (s : Sys2Proof.Machine.State) (f : Found) (idx : ℕ) (sub : ℕ) (v : Sys2Proof.View) {cM : Nat} {sB : State} (hB : Eff cM sB s) (hM : Within 67108864 cM) :
    Eff cM sB (State.viewRead s f idx sub v).2 := by
  refine Eff.call hB ?_ hM; clear hB hM
  unfold State.viewRead
  repeat' first
    | with_reducible exact Eff.refl _ _
    | with_reducible assumption
    | ((with_reducible refine Within.intro ?_); rfl)
    | intro _
    | (extract_lets +onlyGivenNames x; refine Eff.step (c := 67108864) (s := s) x ?_ (fun hx => ?_) <;> [(unfold x; clear x); (clear_value x; revert x; intro _ _)])
    | (extract_lets +onlyGivenNames x; refine Eff.step (c := 67108864) (s := s) x.2 ?_ (fun hx => ?_) <;> [(unfold x; clear x); (clear_value x; revert x; intro _ _)])
    | (extract_lets +onlyGivenNames y; clear_value y; revert y; intro _)
    | with_reducible apply State.liveRead_eff
    | with_reducible refine Eff.each ?_ ?_
    | with_reducible refine Eff.foldl ?_ ?_
    | with_reducible refine Eff.foldl_snd ?_ ?_
    | with_reducible refine Eff.foldl_fst ?_ ?_
    | refine Eff.of_snd ?_ (by with_reducible assumption)
    | with_reducible apply Eff.Outcome.ite
    | with_reducible apply Eff.Opt.ite
    | with_reducible apply Eff.Opt.some
    | with_reducible exact Eff.Opt.none
    | with_reducible apply Eff.ite
    | with_reducible apply Eff.ite_snd
    | dsimp only
    | split
    | ((simp only [Eff.mk_iff]); refine EffMk.lit ?_ rfl rfl rfl rfl)

theorem State.readEntry_eff (s : Sys2Proof.Machine.State) (req : Sys2Proof.Requester) (idx : ℕ) (sub : ℕ) (v : Sys2Proof.View) {cM : Nat} {sB : State} (hB : Eff cM sB s) (hM : Within 67108864 cM) :
    Eff cM sB (State.readEntry s req idx sub v).2.2 := by
  refine Eff.call hB ?_ hM; clear hB hM
  unfold State.readEntry
  repeat' first
    | with_reducible exact Eff.refl _ _
    | with_reducible assumption
    | ((with_reducible refine Within.intro ?_); rfl)
    | intro _
    | (extract_lets +onlyGivenNames x; refine Eff.step (c := 67108864) (s := s) x ?_ (fun hx => ?_) <;> [(unfold x; clear x); (clear_value x; revert x; intro _ _)])
    | (extract_lets +onlyGivenNames x; refine Eff.step (c := 67108864) (s := s) x.2 ?_ (fun hx => ?_) <;> [(unfold x; clear x); (clear_value x; revert x; intro _ _)])
    | (extract_lets +onlyGivenNames y; clear_value y; revert y; intro _)
    | with_reducible apply State.viewRead_eff
    | with_reducible refine Eff.each ?_ ?_
    | with_reducible refine Eff.foldl ?_ ?_
    | with_reducible refine Eff.foldl_snd ?_ ?_
    | with_reducible refine Eff.foldl_fst ?_ ?_
    | refine Eff.of_snd ?_ (by with_reducible assumption)
    | with_reducible apply Eff.Outcome.ite
    | with_reducible apply Eff.Opt.ite
    | with_reducible apply Eff.Opt.some
    | with_reducible exact Eff.Opt.none
    | with_reducible apply Eff.ite
    | with_reducible apply Eff.ite_snd
    | dsimp only
    | split
    | ((simp only [Eff.mk_iff]); refine EffMk.lit ?_ rfl rfl rfl rfl)

theorem State.instanceWrite_eff (s : Sys2Proof.Machine.State) (i : ℕ) (sub : ℕ) (v : Val) {cM : Nat} {sB : State} (hB : Eff cM sB s) (hM : Within 35132410994880 cM) :
    Eff cM sB (State.instanceWrite s i sub v).2 := by
  refine Eff.call hB ?_ hM; clear hB hM
  unfold State.instanceWrite
  repeat' first
    | with_reducible exact Eff.refl _ _
    | with_reducible assumption
    | ((with_reducible refine Within.intro ?_); rfl)
    | intro _
    | (extract_lets +onlyGivenNames x; refine Eff.step (c := 35132410994880) (s := s) x ?_ (fun hx => ?_) <;> [(unfold x; clear x); (clear_value x; revert x; intro _ _)])
    | (extract_lets +onlyGivenNames x; refine Eff.step (c := 35132410994880) (s := s) x.2 ?_ (fun hx => ?_) <;> [(unfold x; clear x); (clear_value x; revert x; intro _ _)])
    | (extract_lets +onlyGivenNames y; clear_value y; revert y; intro _)
    | with_reducible apply State.resetInstance_eff
    | with_reducible apply State.setLive_eff
    | with_reducible apply State.securityEvent_eff
    | with_reducible apply State.awaitTaken_eff
    | with_reducible apply State.takeAssignments_eff
    | with_reducible refine Eff.each ?_ ?_
    | with_reducible refine Eff.foldl ?_ ?_
    | with_reducible refine Eff.foldl_snd ?_ ?_
    | with_reducible refine Eff.foldl_fst ?_ ?_
    | refine Eff.of_snd ?_ (by with_reducible assumption)
    | with_reducible apply Eff.Outcome.ite
    | with_reducible apply Eff.Opt.ite
    | with_reducible apply Eff.Opt.some
    | with_reducible exact Eff.Opt.none
    | with_reducible apply Eff.ite
    | with_reducible apply Eff.ite_snd
    | dsimp only
    | split
    | ((simp only [Eff.mk_iff]); refine EffMk.lit ?_ rfl rfl rfl rfl)

theorem State.draftWrite_eff (s : Sys2Proof.Machine.State) (sub : ℕ) (v : Val) {cM : Nat} {sB : State} (hB : Eff cM sB s) (hM : Within 640 cM) :
    Eff cM sB (State.draftWrite s sub v).2 := by
  refine Eff.call hB ?_ hM; clear hB hM
  unfold State.draftWrite
  repeat' first
    | with_reducible exact Eff.refl _ _
    | with_reducible assumption
    | ((with_reducible refine Within.intro ?_); rfl)
    | intro _
    | (extract_lets +onlyGivenNames x; refine Eff.step (c := 640) (s := s) x ?_ (fun hx => ?_) <;> [(unfold x; clear x); (clear_value x; revert x; intro _ _)])
    | (extract_lets +onlyGivenNames x; refine Eff.step (c := 640) (s := s) x.2 ?_ (fun hx => ?_) <;> [(unfold x; clear x); (clear_value x; revert x; intro _ _)])
    | (extract_lets +onlyGivenNames y; clear_value y; revert y; intro _)
    | with_reducible apply State.draftEffect_eff
    | with_reducible refine Eff.each ?_ ?_
    | with_reducible refine Eff.foldl ?_ ?_
    | with_reducible refine Eff.foldl_snd ?_ ?_
    | with_reducible refine Eff.foldl_fst ?_ ?_
    | refine Eff.of_snd ?_ (by with_reducible assumption)
    | with_reducible apply Eff.Outcome.ite
    | with_reducible apply Eff.Opt.ite
    | with_reducible apply Eff.Opt.some
    | with_reducible exact Eff.Opt.none
    | with_reducible apply Eff.ite
    | with_reducible apply Eff.ite_snd
    | dsimp only
    | split
    | ((simp only [Eff.mk_iff]); refine EffMk.lit ?_ rfl rfl rfl rfl)

theorem State.deviceWrite_eff (s : Sys2Proof.Machine.State) (req : Sys2Proof.Requester) (f : Found) (sub : ℕ) (v : Val) :
    Eff.Opt 35184372088778 s (State.deviceWrite s req f sub v) := by
  unfold State.deviceWrite
  repeat' first
    | with_reducible exact Eff.refl _ _
    | with_reducible assumption
    | ((with_reducible refine Within.intro ?_); rfl)
    | intro _
    | (extract_lets +onlyGivenNames x; refine Eff.step (c := 35184372088778) (s := s) x ?_ (fun hx => ?_) <;> [(unfold x; clear x); (clear_value x; revert x; intro _ _)])
    | (extract_lets +onlyGivenNames x; refine Eff.step (c := 35184372088778) (s := s) x.2 ?_ (fun hx => ?_) <;> [(unfold x; clear x); (clear_value x; revert x; intro _ _)])
    | (extract_lets +onlyGivenNames y; clear_value y; revert y; intro _)
    | with_reducible apply State.deviceResetWrite_eff
    | with_reducible apply State.svAdvanceWrite_eff
    | with_reducible apply State.revokeKeyWrite_eff
    | with_reducible apply State.recoveryWrite_eff
    | with_reducible apply State.draftWrite_eff
    | with_reducible apply State.commitWrite_eff
    | with_reducible apply State.confirmWrite_eff
    | with_reducible apply State.returnWrite_eff
    | with_reducible apply State.instanceWrite_eff
    | with_reducible apply State.shedWrite_eff
    | with_reducible apply State.useFree_eff
    | with_reducible apply State.debugResponseWrite_eff
    | with_reducible apply State.relockWrite_eff
    | with_reducible apply State.burnWrite_eff
    | with_reducible apply State.appletRevokeWrite_eff
    | with_reducible apply State.appletLoadWrite_eff
    | with_reducible apply State.writeAssets_eff
    | with_reducible refine Eff.each ?_ ?_
    | with_reducible refine Eff.foldl ?_ ?_
    | with_reducible refine Eff.foldl_snd ?_ ?_
    | with_reducible refine Eff.foldl_fst ?_ ?_
    | refine Eff.of_snd ?_ (by with_reducible assumption)
    | with_reducible apply Eff.Outcome.ite
    | with_reducible apply Eff.Opt.ite
    | with_reducible apply Eff.Opt.some
    | with_reducible exact Eff.Opt.none
    | with_reducible apply Eff.ite
    | with_reducible apply Eff.ite_snd
    | dsimp only
    | split
    | ((simp only [Eff.mk_iff]); refine EffMk.lit ?_ rfl rfl rfl rfl)

theorem State.blockWrite_eff (s : Sys2Proof.Machine.State) (req : Sys2Proof.Requester) (f : Found) (sub : ℕ) (v : Val) :
    Eff.Opt 25219714786506 s (State.blockWrite s req f sub v) := by
  unfold State.blockWrite
  repeat' first
    | with_reducible exact Eff.refl _ _
    | with_reducible assumption
    | ((with_reducible refine Within.intro ?_); rfl)
    | intro _
    | (extract_lets +onlyGivenNames x; refine Eff.step (c := 25219714786506) (s := s) x ?_ (fun hx => ?_) <;> [(unfold x; clear x); (clear_value x; revert x; intro _ _)])
    | (extract_lets +onlyGivenNames x; refine Eff.step (c := 25219714786506) (s := s) x.2 ?_ (fun hx => ?_) <;> [(unfold x; clear x); (clear_value x; revert x; intro _ _)])
    | (extract_lets +onlyGivenNames y; clear_value y; revert y; intro _)
    | with_reducible apply State.powerWrite_eff
    | with_reducible apply State.piezoWrite_eff
    | with_reducible apply State.speakerWrite_eff
    | with_reducible apply State.selftestWrite_eff
    | with_reducible apply State.retrainWrite_eff
    | with_reducible apply State.writeSpriteState_eff
    | with_reducible apply State.writeMembers_eff
    | with_reducible apply State.submitUpdate_eff
    | with_reducible apply State.recaptureWrite_eff
    | with_reducible apply State.hapClearWrite_eff
    | with_reducible apply State.requestTone_eff
    | with_reducible apply State.safeLoadWrite_eff
    | with_reducible apply State.gainWrite_eff
    | with_reducible apply State.groupStartWrite_eff
    | with_reducible apply State.streamPresetWrite_eff
    | with_reducible apply State.streamWrite_eff
    | with_reducible refine Eff.each ?_ ?_
    | with_reducible refine Eff.foldl ?_ ?_
    | with_reducible refine Eff.foldl_snd ?_ ?_
    | with_reducible refine Eff.foldl_fst ?_ ?_
    | refine Eff.of_snd ?_ (by with_reducible assumption)
    | with_reducible apply Eff.Outcome.ite
    | with_reducible apply Eff.Opt.ite
    | with_reducible apply Eff.Opt.some
    | with_reducible exact Eff.Opt.none
    | with_reducible apply Eff.ite
    | with_reducible apply Eff.ite_snd
    | dsimp only
    | split
    | ((simp only [Eff.mk_iff]); refine EffMk.lit ?_ rfl rfl rfl rfl)

theorem State.liveWrite_eff (s : State) (req : Requester) (f : Found) (idx : ℕ) (sub : ℕ) (v : Val) {cM : Nat} {sB : State} (hB : Eff cM sB s) (hM : Within 35184372088778 cM) :
    Eff cM sB (State.liveWrite s req f idx sub v).2 := by
  refine Eff.call hB ?_ hM; clear hB hM
  unfold State.liveWrite
  split
  · rename_i r h
    obtain ⟨n, t⟩ := r
    split at h
    · exact Eff.call (Eff.refl _ _) ((State.deviceWrite_eff ..).out _ _ h) rfl
    · exact Eff.call (Eff.refl _ _) ((State.blockWrite_eff ..).out _ _ h) rfl
  · exact State.setLive_eff _ _ _ _ (Eff.refl _ _) rfl

theorem State.entryEffect_eff (s : Sys2Proof.Machine.State) (req : Sys2Proof.Requester) (f : Found) (idx : ℕ) (sub : ℕ) (data : List Sys2Proof.Byte) {cM : Nat} {sB : State} (hB : Eff cM sB s) (hM : Within 35184372088778 cM) :
    Eff cM sB (State.entryEffect s req f idx sub data).2 := by
  refine Eff.call hB ?_ hM; clear hB hM
  unfold State.entryEffect
  repeat' first
    | with_reducible exact Eff.refl _ _
    | with_reducible assumption
    | ((with_reducible refine Within.intro ?_); rfl)
    | intro _
    | (extract_lets +onlyGivenNames x; refine Eff.step (c := 35184372088778) (s := s) x ?_ (fun hx => ?_) <;> [(unfold x; clear x); (clear_value x; revert x; intro _ _)])
    | (extract_lets +onlyGivenNames x; refine Eff.step (c := 35184372088778) (s := s) x.2 ?_ (fun hx => ?_) <;> [(unfold x; clear x); (clear_value x; revert x; intro _ _)])
    | (extract_lets +onlyGivenNames y; clear_value y; revert y; intro _)
    | with_reducible apply State.liveWrite_eff
    | with_reducible refine Eff.each ?_ ?_
    | with_reducible refine Eff.foldl ?_ ?_
    | with_reducible refine Eff.foldl_snd ?_ ?_
    | with_reducible refine Eff.foldl_fst ?_ ?_
    | refine Eff.of_snd ?_ (by with_reducible assumption)
    | with_reducible apply Eff.Outcome.ite
    | with_reducible apply Eff.Opt.ite
    | with_reducible apply Eff.Opt.some
    | with_reducible exact Eff.Opt.none
    | with_reducible apply Eff.ite
    | with_reducible apply Eff.ite_snd
    | dsimp only
    | split
    | ((simp only [Eff.mk_iff]); refine EffMk.lit ?_ rfl rfl rfl rfl)

theorem State.writeEntry_eff (s : Sys2Proof.Machine.State) (req : Sys2Proof.Requester) (idx : ℕ) (sub : ℕ) (data : List Sys2Proof.Byte) {cM : Nat} {sB : State} (hB : Eff cM sB s) (hM : Within 35184372088778 cM) :
    Eff cM sB (State.writeEntry s req idx sub data).2 := by
  refine Eff.call hB ?_ hM; clear hB hM
  unfold State.writeEntry
  repeat' first
    | with_reducible exact Eff.refl _ _
    | with_reducible assumption
    | ((with_reducible refine Within.intro ?_); rfl)
    | intro _
    | (extract_lets +onlyGivenNames x; refine Eff.step (c := 35184372088778) (s := s) x ?_ (fun hx => ?_) <;> [(unfold x; clear x); (clear_value x; revert x; intro _ _)])
    | (extract_lets +onlyGivenNames x; refine Eff.step (c := 35184372088778) (s := s) x.2 ?_ (fun hx => ?_) <;> [(unfold x; clear x); (clear_value x; revert x; intro _ _)])
    | (extract_lets +onlyGivenNames y; clear_value y; revert y; intro _)
    | with_reducible apply State.entryEffect_eff
    | with_reducible refine Eff.each ?_ ?_
    | with_reducible refine Eff.foldl ?_ ?_
    | with_reducible refine Eff.foldl_snd ?_ ?_
    | with_reducible refine Eff.foldl_fst ?_ ?_
    | refine Eff.of_snd ?_ (by with_reducible assumption)
    | with_reducible apply Eff.Outcome.ite
    | with_reducible apply Eff.Opt.ite
    | with_reducible apply Eff.Opt.some
    | with_reducible exact Eff.Opt.none
    | with_reducible apply Eff.ite
    | with_reducible apply Eff.ite_snd
    | dsimp only
    | split
    | ((simp only [Eff.mk_iff]); refine EffMk.lit ?_ rfl rfl rfl rfl)

end Sys2Proof.Machine
end

