-- ==== Sys2Proof/Laws/Exec.lean ====
section
/-! SUPPORT. The dispatch of each command, one equation per constructor, and the step over it. -/
namespace Sys2Proof.Machine

@[simp] theorem exec_powerOnResetRelease s : exec (.powerOnResetRelease) s = execPowerOnResetRelease s := rfl
@[simp] theorem exec_strapSampling bootSrc vrMode mgmtId s : exec (.strapSampling bootSrc vrMode mgmtId) s = execStrapSampling bootSrc vrMode mgmtId s := rfl
@[simp] theorem exec_resetNAssert s : exec (.resetNAssert) s = execResetNAssert s := rfl
@[simp] theorem exec_resetNRelease s : exec (.resetNRelease) s = execResetNRelease s := rfl
@[simp] theorem exec_railLoss rail s : exec (.railLoss rail) s = execRailLoss rail s := rfl
@[simp] theorem exec_aonPowerLoss s : exec (.aonPowerLoss) s = execAonPowerLoss s := rfl
@[simp] theorem exec_switchedRailsValid s : exec (.switchedRailsValid) s = execSwitchedRailsValid s := rfl
@[simp] theorem exec_railValidTimeout s : exec (.railValidTimeout) s = execRailValidTimeout s := rfl
@[simp] theorem exec_perstNAssert s : exec (.perstNAssert) s = execPerstNAssert s := rfl
@[simp] theorem exec_perstNRelease s : exec (.perstNRelease) s = execPerstNRelease s := rfl
@[simp] theorem exec_poweredComplete fusesOk dramOk romOk s : exec (.poweredComplete fusesOk dramOk romOk) s = execPoweredComplete fusesOk dramOk s romOk := rfl
@[simp] theorem exec_memorySpaceEnable romOk s : exec (.memorySpaceEnable romOk) s = execMemorySpaceEnable s romOk := rfl
@[simp] theorem exec_mcanServerStarted romOk s : exec (.mcanServerStarted romOk) s = execMcanServerStarted s romOk := rfl
@[simp] theorem exec_apertureWrite offset data s : exec (.apertureWrite offset data) s = execApertureWrite offset data s := rfl
@[simp] theorem exec_start withRestart romOk s : exec (.start withRestart romOk) s = execStart withRestart s romOk := rfl
@[simp] theorem exec_restart s : exec (.restart) s = execRestart s := rfl
@[simp] theorem exec_bootRegionCleared romOk s : exec (.bootRegionCleared romOk) s = execBootRegionCleared s romOk := rfl
@[simp] theorem exec_authenticationDone links romOk s : exec (.authenticationDone links romOk) s = execAuthenticationDone links s romOk := rfl
@[simp] theorem exec_memberCoreReady die s : exec (.memberCoreReady die) s = execMemberCoreReady die s := rfl
@[simp] theorem exec_coreReadyTimeout die s : exec (.coreReadyTimeout die) s = execCoreReadyTimeout die s := rfl
@[simp] theorem exec_distributionDone romOk s : exec (.distributionDone romOk) s = execDistributionDone s romOk := rfl
@[simp] theorem exec_bootSlotDone die r romOk s : exec (.bootSlotDone die r romOk) s = execBootSlotDone die r s romOk := rfl
@[simp] theorem exec_memoryTrainingDone failedStacks romOk s : exec (.memoryTrainingDone failedStacks romOk) s = execMemoryTrainingDone failedStacks s romOk := rfl
@[simp] theorem exec_ringApplyDone applyFault romOk s : exec (.ringApplyDone applyFault romOk) s = execRingApplyDone applyFault s romOk := rfl
@[simp] theorem exec_recoveryImageWrite data s : exec (.recoveryImageWrite data) s = execRecoveryImageWrite data s := rfl
@[simp] theorem exec_recoveryRingWrite data s : exec (.recoveryRingWrite data) s = execRecoveryRingWrite data s := rfl
@[simp] theorem exec_recoveryStart value s : exec (.recoveryStart value) s = execRecoveryStart value s := rfl
@[simp] theorem exec_recoverySegmentTimeout session s : exec (.recoverySegmentTimeout session) s = execRecoverySegmentTimeout session s := rfl
@[simp] theorem exec_deviceReset req value s : exec (.deviceReset req value) s = execDeviceReset req value s := rfl
@[simp] theorem exec_svAdvance req value s : exec (.svAdvance req value) s = execSvAdvance req value s := rfl
@[simp] theorem exec_revokeKey req slot s : exec (.revokeKey req slot) s = execRevokeKey req slot s := rfl
@[simp] theorem exec_linkDownDeclared a b s : exec (.linkDownDeclared a b) s = execLinkDownDeclared a b s := rfl
@[simp] theorem exec_timeBeacon errors s : exec (.timeBeacon errors) s = execTimeBeacon errors s := rfl
@[simp] theorem exec_ptmExchange master midpoint s : exec (.ptmExchange master midpoint) s = execPtmExchange master midpoint s := rfl
@[simp] theorem exec_read req idx sub view s : exec (.read req idx sub view) s = execRead req idx sub view s := rfl
@[simp] theorem exec_write req idx sub data s : exec (.write req idx sub data) s = execWrite req idx sub data s := rfl
@[simp] theorem exec_describe req idx sub s : exec (.describe req idx sub) s = execDescribe req idx sub s := rfl
@[simp] theorem exec_readGroup req entries s : exec (.readGroup req entries) s = execReadGroup req entries s := rfl
@[simp] theorem exec_readGroupCapture s : exec (.readGroupCapture) s = execReadGroupCapture s := rfl
@[simp] theorem exec_writeGroup req entries s : exec (.writeGroup req entries) s = execWriteGroup req entries s := rfl
@[simp] theorem exec_prepareAnswer die s : exec (.prepareAnswer die) s = execPrepareAnswer die s := rfl
@[simp] theorem exec_prepareTimeout die s : exec (.prepareTimeout die) s = execPrepareTimeout die s := rfl
@[simp] theorem exec_groupApply s : exec (.groupApply) s = execGroupApply s := rfl
@[simp] theorem exec_transportTimeout req request s : exec (.transportTimeout req request) s = execTransportTimeout req request s := rfl
@[simp] theorem exec_nmtStart node s : exec (.nmtStart node) s = execNmtStart node s := rfl
@[simp] theorem exec_nmtStop node s : exec (.nmtStop node) s = execNmtStop node s := rfl
@[simp] theorem exec_nmtResetNode node s : exec (.nmtResetNode node) s = execNmtResetNode node s := rfl
@[simp] theorem exec_nmtResetCommunication node s : exec (.nmtResetCommunication node) s = execNmtResetCommunication node s := rfl
@[simp] theorem exec_usdoExpeditedUpload idx sub s : exec (.usdoExpeditedUpload idx sub) s = execUsdoExpeditedUpload idx sub s := rfl
@[simp] theorem exec_usdoExpeditedDownload idx sub data s : exec (.usdoExpeditedDownload idx sub data) s = execUsdoExpeditedDownload idx sub data s := rfl
@[simp] theorem exec_usdoSegmentedUpload session idx sub s : exec (.usdoSegmentedUpload session idx sub) s = execUsdoSegmentedUpload session idx sub s := rfl
@[simp] theorem exec_usdoSegmentedDownload session idx sub s : exec (.usdoSegmentedDownload session idx sub) s = execUsdoSegmentedDownload session idx sub s := rfl
@[simp] theorem exec_usdoSegment session data last s : exec (.usdoSegment session data last) s = execUsdoSegment session data last s := rfl
@[simp] theorem exec_usdoBlockTransfer idx sub s : exec (.usdoBlockTransfer idx sub) s = execUsdoBlockTransfer idx sub s := rfl
@[simp] theorem exec_usdoTimeout session s : exec (.usdoTimeout session) s = execUsdoTimeout session s := rfl
@[simp] theorem exec_tunnelRequest message s : exec (.tunnelRequest message) s = execTunnelRequest message s := rfl
@[simp] theorem exec_heartbeat s : exec (.heartbeat) s = execHeartbeat s := rfl
@[simp] theorem exec_mcanBusOffRecovery s : exec (.mcanBusOffRecovery) s = execMcanBusOffRecovery s := rfl
@[simp] theorem exec_mcanErrorPassive state s : exec (.mcanErrorPassive state) s = execMcanErrorPassive s state := rfl
@[simp] theorem exec_emcySend s : exec (.emcySend) s = execEmcySend s := rfl
@[simp] theorem exec_svcRepeat s : exec (.svcRepeat) s = execSvcRepeat s := rfl
@[simp] theorem exec_wakeFrame identifier fdf data ide rtr s : exec (.wakeFrame identifier fdf data ide rtr) s = execWakeFrame identifier fdf data s ide rtr := rfl
@[simp] theorem exec_ringCommit req timeout s : exec (.ringCommit req timeout) s = execRingCommit req timeout s := rfl
@[simp] theorem exec_ringPrepareDone s : exec (.ringPrepareDone) s = execRingPrepareDone s := rfl
@[simp] theorem exec_ringPrepareTimeout die s : exec (.ringPrepareTimeout die) s = execRingPrepareTimeout die s := rfl
@[simp] theorem exec_ringApplied s : exec (.ringApplied) s = execRingApplied s := rfl
@[simp] theorem exec_ringConfirm req version s : exec (.ringConfirm req version) s = execRingConfirm req version s := rfl
@[simp] theorem exec_confirmDeadlineExpiry s : exec (.confirmDeadlineExpiry) s = execConfirmDeadlineExpiry s := rfl
@[simp] theorem exec_ringReturn req value s : exec (.ringReturn req value) s = execRingReturn req value s := rfl
@[simp] theorem exec_returnApplied s : exec (.returnApplied) s = execReturnApplied s := rfl
@[simp] theorem exec_draftReset req value s : exec (.draftReset req value) s = execDraftReset req value s := rfl
@[simp] theorem exec_draftImage req image s : exec (.draftImage req image) s = execDraftImage req image s := rfl
@[simp] theorem exec_registerWrite target s : exec (.registerWrite target) s = execRegisterWrite target s := rfl
@[simp] theorem exec_vfEnableSet numVfs s : exec (.vfEnableSet numVfs) s = execVfEnableSet numVfs s := rfl
@[simp] theorem exec_vfDisable numVfs s : exec (.vfDisable numVfs) s = execVfDisable numVfs s := rfl
@[simp] theorem exec_flr inst s : exec (.flr inst) s = execFlr inst s := rfl
@[simp] theorem exec_instanceReset req inst value s : exec (.instanceReset req inst value) s = execInstanceReset req inst value s := rfl
@[simp] theorem exec_instanceFault inst cause s : exec (.instanceFault inst cause) s = execInstanceFault inst cause s := rfl
@[simp] theorem exec_quiesceDone inst s : exec (.quiesceDone inst) s = execQuiesceDone inst s := rfl
@[simp] theorem exec_sqTail inst q tail s : exec (.sqTail inst q tail) s = execSqTail inst q tail s := rfl
@[simp] theorem exec_sqEnable inst q config s : exec (.sqEnable inst q config) s = execSqEnable inst q config s := rfl
@[simp] theorem exec_sqDisable inst q s : exec (.sqDisable inst q) s = execSqDisable inst q s := rfl
@[simp] theorem exec_evqEnable inst config s : exec (.evqEnable inst config) s = execEvqEnable inst config s := rfl
@[simp] theorem exec_evqDisable inst s : exec (.evqDisable inst) s = execEvqDisable inst s := rfl
@[simp] theorem exec_evqModerationExpiry inst s : exec (.evqModerationExpiry inst) s = execEvqModerationExpiry inst s := rfl
@[simp] theorem exec_timeLoRead inst s : exec (.timeLoRead inst) s = execTimeLoRead inst s := rfl
@[simp] theorem exec_bar2Access inst offset store length s : exec (.bar2Access inst offset store length) s = execBar2Access inst offset store length s := rfl
@[simp] theorem exec_assignmentWrite req entries s : exec (.assignmentWrite req entries) s = execAssignmentWrite req entries s := rfl
@[simp] theorem exec_assignmentTakenUp inst s : exec (.assignmentTakenUp inst) s = execAssignmentTakenUp inst s := rfl
@[simp] theorem exec_freeze req s : exec (.freeze req) s = execFreeze req s := rfl
@[simp] theorem exec_drainLimit s : exec (.drainLimit) s = execDrainLimit s := rfl
@[simp] theorem exec_freezeDone s : exec (.freezeDone) s = execFreezeDone s := rfl
@[simp] theorem exec_thaw req s : exec (.thaw req) s = execThaw req s := rfl
@[simp] theorem exec_save req s : exec (.save req) s = execSave req s := rfl
@[simp] theorem exec_saveDone dmaOk s : exec (.saveDone dmaOk) s = execSaveDone dmaOk s := rfl
@[simp] theorem exec_restore req image dmaOk s : exec (.restore req image dmaOk) s = execRestore req image dmaOk s := rfl
@[simp] theorem exec_restoreApplyDone s : exec (.restoreApplyDone) s = execRestoreApplyDone s := rfl
@[simp] theorem exec_malformedTlp inst s : exec (.malformedTlp inst) s = execMalformedTlp inst s := rfl
@[simp] theorem exec_unexpectedCompletion inst s : exec (.unexpectedCompletion inst) s = execUnexpectedCompletion inst s := rfl
@[simp] theorem exec_wcall core mode regs word s : exec (.wcall core mode regs word) s = execWcall core mode regs s word := rfl
@[simp] theorem exec_wret core mode s : exec (.wret core mode) s = execWret core mode s := rfl
@[simp] theorem exec_resume core finished s : exec (.resume core finished) s = execResume core finished s := rfl
@[simp] theorem exec_version core s : exec (.version core) s = execVersion core s := rfl
@[simp] theorem exec_appletCall core offered finished s : exec (.appletCall core offered finished) s = execAppletCall core offered finished s := rfl
@[simp] theorem exec_wcallBudgetExpiry core s : exec (.wcallBudgetExpiry core) s = execWcallBudgetExpiry core s := rfl
@[simp] theorem exec_appletFault core applet s : exec (.appletFault core applet) s = execAppletFault core applet s := rfl
@[simp] theorem exec_monitorHalt core s : exec (.monitorHalt core) s = execMonitorHalt core s := rfl
@[simp] theorem exec_appletKeyBurn req hash s : exec (.appletKeyBurn req hash) s = execAppletKeyBurn req hash s := rfl
@[simp] theorem exec_appletKeyRevoke req slot s : exec (.appletKeyRevoke req slot) s = execAppletKeyRevoke req slot s := rfl
@[simp] theorem exec_appletLoad req image s : exec (.appletLoad req image) s = execAppletLoad req image s := rfl
@[simp] theorem exec_secureEntryStart k s : exec (.secureEntryStart k) s = execSecureEntryStart k s := rfl
@[simp] theorem exec_secureEntryEnd s : exec (.secureEntryEnd) s = execSecureEntryEnd s := rfl
@[simp] theorem exec_secureEntryLimit s : exec (.secureEntryLimit) s = execSecureEntryLimit s := rfl
@[simp] theorem exec_secureClaim applet cls resource s : exec (.secureClaim applet cls resource) s = execSecureClaim applet cls resource s := rfl
@[simp] theorem exec_claimRelease applet cls resource s : exec (.claimRelease applet cls resource) s = execClaimRelease applet cls resource s := rfl
@[simp] theorem exec_debugChallenge req s : exec (.debugChallenge req) s = execDebugChallenge req s := rfl
@[simp] theorem exec_debugResponse req response s : exec (.debugResponse req response) s = execDebugResponse req response s := rfl
@[simp] theorem exec_debugRelock req value s : exec (.debugRelock req value) s = execDebugRelock req value s := rfl
@[simp] theorem exec_idcode trst s : exec (.idcode trst) s = execIdcode s trst := rfl
@[simp] theorem exec_samplePreload pins shiftIn s : exec (.samplePreload pins shiftIn) s = execSamplePreload pins s shiftIn := rfl
@[simp] theorem exec_extest shiftIn s : exec (.extest shiftIn) s = execExtest s shiftIn := rfl
@[simp] theorem exec_dtmcs s : exec (.dtmcs) s = execDtmcs s := rfl
@[simp] theorem exec_dmi address data op s : exec (.dmi address data op) s = execDmi address data op s := rfl
@[simp] theorem exec_unlock response s : exec (.unlock response) s = execUnlock response s := rfl
@[simp] theorem exec_bypass code s : exec (.bypass code) s = execBypass code s := rfl
@[simp] theorem exec_powerSleep req s : exec (.powerSleep req) s = execPowerSleep req s := rfl
@[simp] theorem exec_powerDeepSleep req s : exec (.powerDeepSleep req) s = execPowerDeepSleep req s := rfl
@[simp] theorem exec_powerOff req s : exec (.powerOff req) s = execPowerOff req s := rfl
@[simp] theorem exec_powerRun req s : exec (.powerRun req) s = execPowerRun req s := rfl
@[simp] theorem exec_handshakeAnswers delayNs linkUp l12Enabled s : exec (.handshakeAnswers delayNs linkUp l12Enabled) s = execHandshakeAnswers delayNs linkUp l12Enabled s := rfl
@[simp] theorem exec_handshakeDelayExpiry s : exec (.handshakeDelayExpiry) s = execHandshakeDelayExpiry s := rfl
@[simp] theorem exec_entryComplete s : exec (.entryComplete) s = execEntryComplete s := rfl
@[simp] theorem exec_deepAfterExpiry s : exec (.deepAfterExpiry) s = execDeepAfterExpiry s := rfl
@[simp] theorem exec_offNoticeExpiry s : exec (.offNoticeExpiry) s = execOffNoticeExpiry s := rfl
@[simp] theorem exec_wakeN lowNs heldLow s : exec (.wakeN lowNs heldLow) s = execWakeN lowNs heldLow s := rfl
@[simp] theorem exec_exitComplete s : exec (.exitComplete) s = execExitComplete s := rfl
@[simp] theorem exec_dieIdleEntry die coresWaiting s : exec (.dieIdleEntry die coresWaiting) s = execDieIdleEntry die coresWaiting s := rfl
@[simp] theorem exec_dieIdleExit die s : exec (.dieIdleExit die) s = execDieIdleExit die s := rfl
@[simp] theorem exec_domainSleepTimer die domain s : exec (.domainSleepTimer die domain) s = execDomainSleepTimer die domain s := rfl
@[simp] theorem exec_biasMonitor die warning s : exec (.biasMonitor die warning) s = execBiasMonitor die warning s := rfl
@[simp] theorem exec_vrAck die status s : exec (.vrAck die status) s = execVrAck die status s := rfl
@[simp] theorem exec_vrTimeout die s : exec (.vrTimeout die) s = execVrTimeout die s := rfl
@[simp] theorem exec_vrAlert statuses s : exec (.vrAlert statuses) s = execVrAlert statuses s := rfl
@[simp] theorem exec_clockStretchTimeout die s : exec (.clockStretchTimeout die) s = execClockStretchTimeout die s := rfl
@[simp] theorem exec_grantRound packageMw unshedMw floorMw s : exec (.grantRound packageMw unshedMw floorMw) s = execGrantRound packageMw unshedMw floorMw s := rfl
@[simp] theorem exec_projectionCheck projectedMw s : exec (.projectionCheck projectedMw) s = execProjectionCheck projectedMw s := rfl
@[simp] theorem exec_peakCurrentCheck die meanMa s : exec (.peakCurrentCheck die meanMa) s = execPeakCurrentCheck die meanMa s := rfl
@[simp] theorem exec_boardWaitExpiry channel s : exec (.boardWaitExpiry channel) s = execBoardWaitExpiry channel s := rfl
@[simp] theorem exec_railSample die rail mv s : exec (.railSample die rail mv) s = execRailSample die rail mv s := rfl
@[simp] theorem exec_tempSample die sensor deciC s : exec (.tempSample die sensor deciC) s = execTempSample die sensor deciC s := rfl
@[simp] theorem exec_railPersistence die rail s : exec (.railPersistence die rail) s = execRailPersistence die rail s := rfl
@[simp] theorem exec_tempPersistence die sensor s : exec (.tempPersistence die sensor) s = execTempPersistence die sensor s := rfl
@[simp] theorem exec_piezoRequest req channel value s : exec (.piezoRequest req channel value) s = execPiezoRequest req channel value s := rfl
@[simp] theorem exec_piezoInterval channel s : exec (.piezoInterval channel) s = execPiezoInterval channel s := rfl
@[simp] theorem exec_piezoMeasurement channel nf s : exec (.piezoMeasurement channel nf) s = execPiezoMeasurement channel nf s := rfl
@[simp] theorem exec_speakerRequest req output value s : exec (.speakerRequest req output value) s = execSpeakerRequest req output value s := rfl
@[simp] theorem exec_speakerInterval output s : exec (.speakerInterval output) s = execSpeakerInterval output s := rfl
@[simp] theorem exec_speakerBlock output mohm currentRmsMa s : exec (.speakerBlock output mohm currentRmsMa) s = execSpeakerBlock output mohm currentRmsMa s := rfl
@[simp] theorem exec_laneSurveySecond lane idleTransitions edges glitched s : exec (.laneSurveySecond lane idleTransitions edges glitched) s = execLaneSurveySecond lane idleTransitions edges glitched s := rfl
@[simp] theorem exec_dramTrack die correctionPs margin s : exec (.dramTrack die correctionPs margin) s = execDramTrack die correctionPs margin s := rfl
@[simp] theorem exec_selftestRun req die s : exec (.selftestRun req die) s = execSelftestRun req die s := rfl
@[simp] theorem exec_fieldSlotDone r s : exec (.fieldSlotDone r) s = execFieldSlotDone r s := rfl
@[simp] theorem exec_deferLimitExpiry s : exec (.deferLimitExpiry) s = execDeferLimitExpiry s := rfl
@[simp] theorem exec_coreHeartbeat die s : exec (.coreHeartbeat die) s = execCoreHeartbeat die s := rfl
@[simp] theorem exec_heartbeatTimeout die s : exec (.heartbeatTimeout die) s = execHeartbeatTimeout die s := rfl
@[simp] theorem exec_ackTimeout die s : exec (.ackTimeout die) s = execAckTimeout die s := rfl
@[simp] theorem exec_lendingServed die s : exec (.lendingServed die) s = execLendingServed die s := rfl
@[simp] theorem exec_successionDone s : exec (.successionDone) s = execSuccessionDone s := rfl
@[simp] theorem exec_hpdRising head s : exec (.hpdRising head) s = execHpdRising head s := rfl
@[simp] theorem exec_irqHpd head linkLost s : exec (.irqHpd head linkLost) s = execIrqHpd head linkLost s := rfl
@[simp] theorem exec_hpdUnplug head s : exec (.hpdUnplug head) s = execHpdUnplug head s := rfl
@[simp] theorem exec_debounceExpiry head s : exec (.debounceExpiry head) s = execDebounceExpiry head s := rfl
@[simp] theorem exec_cableMeasured head cm s : exec (.cableMeasured head cm) s = execCableMeasured head cm s := rfl
@[simp] theorem exec_capsReadDone head caps failed s : exec (.capsReadDone head caps failed) s = execCapsReadDone head caps s failed := rfl
@[simp] theorem exec_trainingAttemptDone head ok s : exec (.trainingAttemptDone head ok) s = execTrainingAttemptDone head ok s := rfl
@[simp] theorem exec_retrain req head value s : exec (.retrain req head value) s = execRetrain req head value s := rfl
@[simp] theorem exec_lineStart head s : exec (.lineStart head) s = execLineStart head s := rfl
@[simp] theorem exec_readySampled head reflex s : exec (.readySampled head reflex) s = execReadySampled head reflex s := rfl
@[simp] theorem exec_commit e opcode blockLength commitFlags reservedZero block blockAddr s : exec (.commit e opcode blockLength commitFlags reservedZero block blockAddr) s = execCommit e opcode blockLength commitFlags reservedZero block s blockAddr := rfl
@[simp] theorem exec_commitArrival head inst s : exec (.commitArrival head inst) s = execCommitArrival head inst s := rfl
@[simp] theorem exec_underrun head column s : exec (.underrun head column) s = execUnderrun head column s := rfl
@[simp] theorem exec_bandBegin head s : exec (.bandBegin head) s = execBandBegin head s := rfl
@[simp] theorem exec_bandComplete head band s : exec (.bandComplete head band) s = execBandComplete head band s := rfl
@[simp] theorem exec_spriteStateWrite req sprite value s : exec (.spriteStateWrite req sprite value) s = execSpriteStateWrite req sprite value s := rfl
@[simp] theorem exec_spriteOperation die count s : exec (.spriteOperation die count) s = execSpriteOperation die count s := rfl
@[simp] theorem exec_canopyMembersWrite req head members s : exec (.canopyMembersWrite req head members) s = execCanopyMembersWrite req head members s := rfl
@[simp] theorem exec_regionUpdate req applet region value s : exec (.regionUpdate req applet region value) s = execRegionUpdate req applet region value s := rfl
@[simp] theorem exec_updateArrival region s : exec (.updateArrival region) s = execUpdateArrival region s := rfl
@[simp] theorem exec_assetsWrite req store s : exec (.assetsWrite req store) s = execAssetsWrite req store s := rfl
@[simp] theorem exec_guardSignature region s : exec (.guardSignature region) s = execGuardSignature region s := rfl
@[simp] theorem exec_guardLate region s : exec (.guardLate region) s = execGuardLate region s := rfl
@[simp] theorem exec_job e opcode addr length splitMask reservedZero s : exec (.job e opcode addr length splitMask reservedZero) s = execJob e opcode addr length splitMask reservedZero s := rfl
@[simp] theorem exec_signal e addr value reservedZero s : exec (.signal e addr value reservedZero) s = execSignal e addr value reservedZero s := rfl
@[simp] theorem exec_wait e addr value timeoutUs reservedZero s : exec (.wait e addr value timeoutUs reservedZero) s = execWait e addr value timeoutUs reservedZero s := rfl
@[simp] theorem exec_waitSatisfied context s : exec (.waitSatisfied context) s = execWaitSatisfied context s := rfl
@[simp] theorem exec_waitTimeout context s : exec (.waitTimeout context) s = execWaitTimeout context s := rfl
@[simp] theorem exec_passBegin context s : exec (.passBegin context) s = execPassBegin context s := rfl
@[simp] theorem exec_bindPipeline context s : exec (.bindPipeline context) s = execBindPipeline context s := rfl
@[simp] theorem exec_bindTable context s : exec (.bindTable context) s = execBindTable context s := rfl
@[simp] theorem exec_viewport context s : exec (.viewport context) s = execViewport context s := rfl
@[simp] theorem exec_scissor context s : exec (.scissor context) s = execScissor context s := rfl
@[simp] theorem exec_draw context s : exec (.draw context) s = execDraw context s := rfl
@[simp] theorem exec_drawIndexed context s : exec (.drawIndexed context) s = execDrawIndexed context s := rfl
@[simp] theorem exec_drawIndirect context s : exec (.drawIndirect context) s = execDrawIndirect context s := rfl
@[simp] theorem exec_tileListOverflow context die flushed tiles s : exec (.tileListOverflow context die flushed tiles) s = execTileListOverflow context die flushed s tiles := rfl
@[simp] theorem exec_passDone context rendered binned s : exec (.passDone context rendered binned) s = execPassDone context rendered s binned := rfl
@[simp] theorem exec_jobDone context s : exec (.jobDone context) s = execJobDone context s := rfl
@[simp] theorem exec_preemption die s : exec (.preemption die) s = execPreemption die s := rfl
@[simp] theorem exec_midshaderPreemption die s : exec (.midshaderPreemption die) s = execMidshaderPreemption die s := rfl
@[simp] theorem exec_schedPeriod die s : exec (.schedPeriod die) s = execSchedPeriod die s := rfl
@[simp] theorem exec_jobTimeLimit context die s : exec (.jobTimeLimit context die) s = execJobTimeLimit context die s := rfl
@[simp] theorem exec_scanCycle die s : exec (.scanCycle die) s = execScanCycle die s := rfl
@[simp] theorem exec_selfFrameDone die bursts s : exec (.selfFrameDone die bursts) s = execSelfFrameDone die bursts s := rfl
@[simp] theorem exec_mutualPhaseDone die bursts s : exec (.mutualPhaseDone die bursts) s = execMutualPhaseDone die bursts s := rfl
@[simp] theorem exec_recapture req die value s : exec (.recapture req die value) s = execRecapture req die value s := rfl
@[simp] theorem exec_wakeScan die selfBursts mutualBursts s : exec (.wakeScan die selfBursts mutualBursts) s = execWakeScan die selfBursts mutualBursts s := rfl
@[simp] theorem exec_play e opcode effect scale startTime reservedZero s : exec (.play e opcode effect scale startTime reservedZero) s = execPlay e opcode effect scale startTime reservedZero s := rfl
@[simp] theorem exec_stop e reservedZero s : exec (.stop e reservedZero) s = execStop e reservedZero s := rfl
@[simp] theorem exec_playStartTime channel s : exec (.playStartTime channel) s = execPlayStartTime channel s := rfl
@[simp] theorem exec_htrigEdge pin rising s : exec (.htrigEdge pin rising) s = execHtrigEdge pin rising s := rfl
@[simp] theorem exec_reflexTrigger channel s : exec (.reflexTrigger channel) s = execReflexTrigger channel s := rfl
@[simp] theorem exec_ampReadyExpiry channel s : exec (.ampReadyExpiry channel) s = execAmpReadyExpiry channel s := rfl
@[simp] theorem exec_segmentEnd channel s : exec (.segmentEnd channel) s = execSegmentEnd channel s := rfl
@[simp] theorem exec_senseFrame bus slots s : exec (.senseFrame bus slots) s = execSenseFrame bus slots s := rfl
@[simp] theorem exec_brakeTimeout channel s : exec (.brakeTimeout channel) s = execBrakeTimeout channel s := rfl
@[simp] theorem exec_resonanceTrack channel estimate s : exec (.resonanceTrack channel estimate) s = execResonanceTrack channel estimate s := rfl
@[simp] theorem exec_ampFault channel s : exec (.ampFault channel) s = execAmpFault channel s := rfl
@[simp] theorem exec_engineLost channel s : exec (.engineLost channel) s = execEngineLost channel s := rfl
@[simp] theorem exec_onTimeLimit channel s : exec (.onTimeLimit channel) s = execOnTimeLimit channel s := rfl
@[simp] theorem exec_energyBlock channel s : exec (.energyBlock channel) s = execEnergyBlock channel s := rfl
@[simp] theorem exec_hapticClear req channel value s : exec (.hapticClear req channel value) s = execHapticClear req channel value s := rfl
@[simp] theorem exec_toneRequest gen s : exec (.toneRequest gen) s = execToneRequest gen s := rfl
@[simp] theorem exec_toneStart req gen value s : exec (.toneStart req gen value) s = execToneStart req gen value s := rfl
@[simp] theorem exec_samplePeriod received s : exec (.samplePeriod received) s = execSamplePeriod received s := rfl
@[simp] theorem exec_safeLoad req row time s : exec (.safeLoad req row time) s = execSafeLoad req row time s := rfl
@[simp] theorem exec_mclkLost s : exec (.mclkLost) s = execMclkLost s := rfl
@[simp] theorem exec_mclkRestored s : exec (.mclkRestored) s = execMclkRestored s := rfl
@[simp] theorem exec_tdmSlip port dropped s : exec (.tdmSlip port dropped) s = execTdmSlip port dropped s := rfl
@[simp] theorem exec_tdmNoClock port s : exec (.tdmNoClock port) s = execTdmNoClock port s := rfl
@[simp] theorem exec_tdmClockRestored port s : exec (.tdmClockRestored port) s = execTdmClockRestored port s := rfl
@[simp] theorem exec_buffer e opcode addr length format bufFlags startTime reservedZero host s : exec (.buffer e opcode addr length format bufFlags startTime reservedZero host) s = execBuffer e opcode addr length format bufFlags startTime reservedZero host s := rfl
@[simp] theorem exec_audioStop e reservedZero s : exec (.audioStop e reservedZero) s = execAudioStop e reservedZero s := rfl
@[simp] theorem exec_silenceHoldExpiry node s : exec (.silenceHoldExpiry node) s = execSilenceHoldExpiry node s := rfl
@[simp] theorem exec_laneSchedule lane s : exec (.laneSchedule lane) s = execLaneSchedule lane s := rfl
@[simp] theorem exec_descriptor lane frame s : exec (.descriptor lane frame) s = execDescriptor lane frame s := rfl
@[simp] theorem exec_response lane frame s : exec (.response lane frame) s = execResponse lane frame s := rfl
@[simp] theorem exec_ack lane frame s : exec (.ack lane frame) s = execAck lane frame s := rfl
@[simp] theorem exec_data lane frame s : exec (.data lane frame) s = execData lane frame s := rfl
@[simp] theorem exec_event lane frame s : exec (.event lane frame) s = execEvent lane frame s := rfl
@[simp] theorem exec_nak lane frame s : exec (.nak lane frame) s = execNak lane frame s := rfl
@[simp] theorem exec_responseTimeout lane s : exec (.responseTimeout lane) s = execResponseTimeout lane s := rfl
@[simp] theorem exec_recoveryExpiry partner s : exec (.recoveryExpiry partner) s = execRecoveryExpiry partner s := rfl
@[simp] theorem exec_laneBusOffRecovery lane s : exec (.laneBusOffRecovery lane) s = execLaneBusOffRecovery lane s := rfl
@[simp] theorem exec_laneCommand e opcode body s : exec (.laneCommand e opcode body) s = execLaneCommand e opcode body s := rfl
@[simp] theorem exec_laneRead e body s : exec (.laneRead e body) s = execLaneRead e body s := rfl
@[simp] theorem exec_groupStart req slot value s : exec (.groupStart req slot value) s = execGroupStart req slot value s := rfl
@[simp] theorem exec_groupTimeout slot s : exec (.groupTimeout slot) s = execGroupTimeout slot s := rfl
@[simp] theorem exec_echoMismatch lane s : exec (.echoMismatch lane) s = execEchoMismatch lane s := rfl
@[simp] theorem exec_laneErrorPassive lane state s : exec (.laneErrorPassive lane state) s = execLaneErrorPassive lane state s := rfl
@[simp] theorem exec_copy e opcode body s : exec (.copy e opcode body) s = execCopy e opcode body s := rfl
@[simp] theorem exec_append e body s : exec (.append e body) s = execAppend e body s := rfl
@[simp] theorem exec_check e body s : exec (.check e body) s = execCheck e body s := rfl
@[simp] theorem exec_streamEntryDone unit s : exec (.streamEntryDone unit) s = execStreamEntryDone unit s := rfl
@[simp] theorem exec_streamPreset req unit value s : exec (.streamPreset req unit value) s = execStreamPreset req unit value s := rfl

/-- A step takes the front command and runs it on the state with the queue's rest. -/
theorem step_cons (s : State) (c : Instr) (q : List Instr) (h : s.pending = c :: q) : step s = exec c { s with pending := q } := by
  simp [step, h]
/-- A step on an empty queue is a tick of device time. -/
theorem step_nil (s : State) (h : s.pending = []) : step s = .next s.tick := by simp [step, h]

end Sys2Proof.Machine
end

