-- ==== Sys2Proof/Laws/Instances.lean ====
section
/-! SUPPORT. Instances: what entering a state sets and leaves, and that an event leaves every output but the interrupts sent. -/
namespace Sys2Proof.Machine

theorem State.out_deliver (s : State) (i : Nat) (r : EvRecord) : (s.deliver i r).out = { s.out with msix := (s.deliver i r).out.msix } := by
  have hd : ∀ t : State, (t.dropRecord i).out = t.out := fun t => by unfold State.dropRecord State.inc; exact (State.count_eff _ _ _ _ (Eff.refl 128 _) rfl).out_eq rfl
  have hs : ∀ (t : State) a b, (t.sendVector a b).out = { t.out with msix := (t.sendVector a b).out.msix } := fun t a b => by
    unfold State.sendVector; dsimp only; split
    · rfl
    · split <;> rfl
  have hw : ∀ (t : State) a b c, (t.writeIda a b c).out = t.out := fun t a b c => by
    unfold State.writeIda; dsimp only; split <;> rfl
  have hr : (s.ringWrite i r).out = { s.out with msix := (s.ringWrite i r).out.msix } := by
    unfold State.ringWrite
    extract_lets x q rec1 t due q1 s1 s2
    have h2 : s2.out = s.out := by
      unfold s2; split
      · exact hw s1 _ _ _
      · rfl
    clear_value s2
    split
    · have h := hs s2 i q.vector
      generalize s2.sendVector i q.vector = y at h
      rw [h2] at h; exact h
    · rw [h2]
  unfold State.deliver
  dsimp only
  split
  · rfl
  · split
    · split
      · rfl
      · rw [hd]
    · split
      · split
        · rfl
        · rw [hd]
      · split
        · exact hr
        · rw [hd]
theorem State.out_event (s : State) (i a b c d e f : Nat) : (s.event i a b c d e f).out = { s.out with msix := (s.event i a b c d e f).out.msix } := State.out_deliver _ _ _

theorem State.instEnter_state (s : State) (i st c : Nat) : (s.instEnter i st c).instState i = st ∧ ∀ j, j ≠ i → (s.instEnter i st c).instState j = s.instState j := by
  have e : ∀ (t : State) j, (t.stateEvent i st c 0).instState j = t.instState j := fun t j => by
    unfold State.stateEvent State.instState
    dsimp only
    split
    · rw [State.reg_event _ _ _ _ _ _ _ _ _ _ (by decide), State.reg_event _ _ _ _ _ _ _ _ _ _ (by decide)]
    · rw [State.reg_event _ _ _ _ _ _ _ _ _ _ (by decide)]
  unfold State.instEnter
  constructor
  · rw [e]; exact State.reg_setReg_self _ _ _ _
  · intro j hj; rw [e]; exact State.reg_setReg_of_ne _ _ _ _ _ _ (by simp only [entryKey]; omega)
theorem State.reg_instEnter (s : State) (i st c j k : Nat) (hk : k % 256 ≠ 0x12) (hn : entryKey (0x2200+i) 1 ≠ entryKey j k) : (s.instEnter i st c).reg j k = s.reg j k := by
  unfold State.instEnter State.stateEvent
  dsimp only
  split
  · rw [State.reg_event _ _ _ _ _ _ _ _ _ _ hk, State.reg_event _ _ _ _ _ _ _ _ _ _ hk]; exact State.reg_setReg_of_ne _ _ _ _ _ _ hn
  · rw [State.reg_event _ _ _ _ _ _ _ _ _ _ hk]; exact State.reg_setReg_of_ne _ _ _ _ _ _ hn
theorem State.instState_congr {s t : State} (h : t.live = s.live) (hp : t.part = s.part) (hg : t.grade = s.grade) (i : Nat) : t.instState i = s.instState i :=
  State.reg_of_liveAt (State.liveAt_congr s t h hp hg _ _)
theorem State.reg_shedOutcome (s : State) (a b c j k : Nat) (hk : k % 256 ≠ 0x12) (hn : entryKey 0x2221 9 ≠ entryKey j k) : (s.shedOutcome a b c).reg j k = s.reg j k := by
  unfold State.shedOutcome
  rw [State.reg_event _ _ _ _ _ _ _ _ _ _ hk]; exact State.reg_setReg_of_ne _ _ _ _ _ _ hn
theorem State.shedOutcome_result (s : State) (a b c : Nat) : (s.shedOutcome a b c).reg 0x2221 9 = b := by
  unfold State.shedOutcome
  rw [State.reg_event _ _ _ _ _ _ _ _ _ _ (by decide)]; exact State.reg_setReg_self _ _ _ _

theorem State.sq_modSq_of_ne (s : State) (i q j p : Nat) (f : Sq → Sq) (h : (j, p) ≠ (i, q)) : (s.modSq i q f).sq j p = s.sq j p := by
  simp only [State.modSq, State.sq, State.modInst, State.setInst, State.inst, Tab.getD_put]
  by_cases hj : i = j
  · subst hj
    have hp : q ≠ p := fun e => h (by rw [e])
    simp [hp]
  · simp [hj]

end Sys2Proof.Machine
end

