-- ==== Sys2Proof/Laws/Requests.lean ====
section
/-! SUPPORT. An admitted WRITE does what its entry's handler does and is answered (R123, R127). -/
namespace Sys2Proof.Machine

/-- Taking a request changes the mailboxes alone. -/
theorem State.takeRequest_shape (s : State) (req : Requester) (r : DirRequest) : ∃ x, (s.takeRequest req r).2 = { s with insts := x } := by
  unfold State.takeRequest
  split
  · split
    · exact ⟨_, rfl⟩
    · dsimp only; split <;> exact ⟨_, rfl⟩
  · exact ⟨_, rfl⟩

theorem State.rightsOk_insts (s : State) (x : Tab Inst) (req : Requester) (f : Found) (w : Bool) (v : View) :
    State.rightsOk { s with insts := x } req f w v = s.rightsOk req f w v := by
  cases req <;> rfl

theorem State.writeStatus_insts (s : State) (x : Tab Inst) (req : Requester) (idx sub : Nat) (data : List Byte) :
    State.writeStatus { s with insts := x } req idx sub data = s.writeStatus req idx sub data := by
  unfold State.writeStatus State.checkWrite
  simp only [State.rightsOk_insts]
  rfl

/-- What an accepted WRITE does, whatever it brings beside its value (R123, R143). -/
theorem State.serve_admits (t : State) (req : Requester) (idx sub : Nat) (data : List Byte) (x : WriteExtra)
    (h3 : t.health.succession = false) (h4 : (t.operational || decide (0x2100 ≤ idx ∧ idx ≤ 0x2106)) = true)
    (h5 : t.writeStatus req idx sub data = Status.ok) (h6 : t.entryReserved idx sub = false) :
    t.serve req (.write idx sub data) x =
      ((t.demandWake (t.dieOf idx)).writeWith x req idx sub data).2.answer req 2
        ((t.demandWake (t.dieOf idx)).writeWith x req idx sub data).1 0 [] idx sub
        (movedBytes req ((t.demandWake (t.dieOf idx)).writeWith x req idx sub data).1 data.length) := by
  unfold State.serve
  dsimp only
  rw [if_neg (by rw [h3]; rcases Bool.or_eq_true _ _ ▸ h4 with h | h <;> simp only [h] <;> simp)]
  unfold State.serveWrite
  dsimp only
  rw [if_neg (by simp [h5]), if_neg (by simp [h6])]
  unfold State.performWrite
  simp only [Bool.false_eq_true, if_false]
  rfl

/-- What a WRITE does in a state that its mailbox has recorded and that admits it. -/
theorem State.serveTop_admits (t : State) (req : Requester) (idx sub : Nat) (data : List Byte) (f : Found) (hi : idx ≠ 0x1F12)
    (h3 : t.health.succession = false) (h4 : (t.operational || decide (0x2100 ≤ idx ∧ idx ≤ 0x2106)) = true)
    (h5 : t.writeStatus req idx sub data = Status.ok) (h6 : t.entryReserved idx sub = false)
    (h7 : (t.demandWake (t.dieOf idx)).serviceStatus idx = Status.ok) (hf : lookup t.part idx sub = some f) :
    t.serveTop req (.write idx sub data) =
      ((t.demandWake (t.dieOf idx)).entryEffect req f idx sub data).2.answer req 2
        ((t.demandWake (t.dieOf idx)).entryEffect req f idx sub data).1 0 [] idx sub
        (movedBytes req ((t.demandWake (t.dieOf idx)).entryEffect req f idx sub data).1 data.length) := by
  have hp : (t.demandWake (t.dieOf idx)).part = t.part := (State.demandWake_eff t (t.dieOf idx) (Eff.refl 134217920 t) rfl).part_eq
  have e2 : (t.demandWake (t.dieOf idx)).writeWith .plain req idx sub data = (t.demandWake (t.dieOf idx)).entryEffect req f idx sub data := by
    unfold State.writeWith State.writeEntry
    rw [hp, hf]
    dsimp only
    rw [if_neg (by simp [h7])]
  simp only [State.serveTop, hi, false_and, if_false]
  rw [State.serve_admits t req idx sub data .plain h3 h4 h5 h6, e2]

/-- Every transport carries a WRITE (R152). -/
theorem requestFits_write (req : Requester) (idx sub : Nat) (data : List Byte) : requestFits req (.write idx sub data) = true := by
  cases req <;> rfl

/-- What an admitted WRITE does. -/
theorem State.submit_admits (s : State) (req : Requester) (idx sub : Nat) (data : List Byte) (f : Found) (hi : idx ≠ 0x1F12)
    (h : s.admits req idx sub data = true) (hf : lookup s.part idx sub = some f) :
    s.submit req (.write idx sub data) =
      ((s.admitted req idx sub data).entryEffect req f idx sub data).2.concluded req idx sub data
        ((s.admitted req idx sub data).entryEffect req f idx sub data).1 := by
  unfold State.admits at h
  unfold State.admitted State.concluded State.submit
  dsimp only at h ⊢
  obtain ⟨x, hx⟩ := State.takeRequest_shape s req (.write idx sub data)
  have hw := State.writeStatus_insts s x req idx sub data
  simp only [Bool.and_eq_true, decide_eq_true_eq, Bool.not_eq_true'] at h
  obtain ⟨⟨⟨⟨⟨⟨h1, h2⟩, h3⟩, h4⟩, h5⟩, h6⟩, h7⟩ := h
  rw [if_neg (by simp [h1, requestFits_write]), if_pos h2, hx]
  rw [hx] at h7
  rw [State.serveTop_admits { s with insts := x } req idx sub data f hi h3 h4 (hw.trans h5) h6 h7 hf]
  rfl

/-- An admitted WRITE of a live entry that is no key's is its handler's answer. -/
theorem State.submit_live (s : State) (req : Requester) (idx sub : Nat) (data : List Byte) (f : Found) (hi : idx ≠ 0x1F12)
    (h : s.admits req idx sub data = true) (hf : lookup s.part idx sub = some f) (hb : f.obj.base ≠ 0x6200) (hk : f.row.kind = .live)
    (x : Nat × State) (hx : (s.admitted req idx sub data).liveWrite req f idx sub (f.row'.decode data) = x) :
    s.submit req (.write idx sub data) = x.2.concluded req idx sub data x.1 := by
  have e : (s.admitted req idx sub data).entryEffect req f idx sub data = x := by
    unfold State.entryEffect
    dsimp only
    rw [if_neg (by simp [State.keyDenied, hb]), if_pos hk, hx]
  rw [State.submit_admits s req idx sub data f hi h hf, e]

/-- Little-endian bytes read back (R11). -/
theorem leNat_leBytes (n v : Nat) (h : v < 256 ^ n) : leNat (leBytes n v) = v := by
  induction n generalizing v with
  | zero => simp only [pow_zero, Nat.lt_one_iff] at h; subst h; rfl
  | succ n ih =>
    rw [pow_succ] at h
    simp only [leBytes, leNat, BitVec.toNat_ofNat]
    rw [ih (v / 256) (by omega)]
    omega

/-- An admitted WRITE of a number to a live entry of an unsigned type is its handler's answer for that number. -/
theorem State.submit_num (s : State) (req : Requester) (idx sub v n : Nat) (f : Found) (hi : idx ≠ 0x1F12) (hf : lookup s.part idx sub = some f)
    (hn : f.row.ty.size = n) (h : s.admits req idx sub (leBytes n v) = true) (hb : f.obj.base ≠ 0x6200) (hk : f.row.kind = .live)
    (hd : ∀ bs, f.row'.decode bs = .num (leNat bs)) (hv : v < 256 ^ n) (x : Nat × State)
    (hx : (s.admitted req idx sub (leBytes n v)).liveWrite req f idx sub (.num v) = x) :
    s.submitNumber req idx sub v = x.2.concluded req idx sub (leBytes n v) x.1 := by
  have e : s.valueBytes idx sub v = leBytes n v := by simp [State.valueBytes, hf, hn]
  unfold State.submitNumber
  rw [e]
  refine State.submit_live s req idx sub _ f hi h hf hb hk x ?_
  rw [hd, leNat_leBytes n v hv]
  exact hx

end Sys2Proof.Machine
end

