-- ==== Sys2Proof/Laws/Rows.lean ====
section
/-! SUPPORT. What each command that is a directory write does when the write is admitted: its entry's handler, and the answer. -/
namespace Sys2Proof.Machine

theorem deviceReset_admits (req : Requester) (value : Nat) (s : State) (hv : value < 256 ^ 1) (h : s.admits req 8448 7 (leBytes 1 value) = true) :
    exec (.deviceReset req value) s = .next (((s.admitted req 8448 7 (leBytes 1 value)).deviceResetWrite value).2.concluded req 8448 7 (leBytes 1 value)
      ((s.admitted req 8448 7 (leBytes 1 value)).deviceResetWrite value).1) := by
  obtain ⟨f, hf, a1, a2, a3, a4⟩ : ∃ f, (∀ p, lookup p 8448 7 = some f) ∧ f.obj.base = 8448 ∧ f.row.kind = .live ∧ f.row.ty.size = 1 ∧
      ∀ bs, f.row'.decode bs = .num (leNat bs) := ⟨(lookup .ux3816 8448 7).get rfl, fun p => by cases p <;> rfl, rfl, rfl, rfl, fun _ => rfl⟩
  simp only [exec_deviceReset, execDeviceReset]
  rw [State.submit_num s req _ _ _ _ f (by decide) (hf _) a3 h (by rw [a1]; decide) a2 a4 hv ((s.admitted req 8448 7 (leBytes 1 value)).deviceResetWrite value) ?_]
  generalize s.admitted req 8448 7 (leBytes 1 value) = u
  simp only [State.liveWrite, State.deviceWrite, a1]; rfl

theorem svAdvance_admits (req : Requester) (value : Nat) (s : State) (hv : value < 256 ^ 1) (h : s.admits req 8450 2 (leBytes 1 value) = true) :
    exec (.svAdvance req value) s = .next (((s.admitted req 8450 2 (leBytes 1 value)).svAdvanceWrite value).2.concluded req 8450 2 (leBytes 1 value)
      ((s.admitted req 8450 2 (leBytes 1 value)).svAdvanceWrite value).1) := by
  obtain ⟨f, hf, a1, a2, a3, a4⟩ : ∃ f, (∀ p, lookup p 8450 2 = some f) ∧ f.obj.base = 8450 ∧ f.row.kind = .live ∧ f.row.ty.size = 1 ∧
      ∀ bs, f.row'.decode bs = .num (leNat bs) := ⟨(lookup .ux3816 8450 2).get rfl, fun p => by cases p <;> rfl, rfl, rfl, rfl, fun _ => rfl⟩
  simp only [exec_svAdvance, execSvAdvance]
  rw [State.submit_num s req _ _ _ _ f (by decide) (hf _) a3 h (by rw [a1]; decide) a2 a4 hv ((s.admitted req 8450 2 (leBytes 1 value)).svAdvanceWrite value) ?_]
  generalize s.admitted req 8450 2 (leBytes 1 value) = u
  simp only [State.liveWrite, State.deviceWrite, a1]; rfl

theorem revokeKey_admits (req : Requester) (slot : Nat) (s : State) (hv : slot < 256 ^ 1) (h : s.admits req 8450 4 (leBytes 1 slot) = true) :
    exec (.revokeKey req slot) s = .next (((s.admitted req 8450 4 (leBytes 1 slot)).revokeKeyWrite slot).2.concluded req 8450 4 (leBytes 1 slot)
      ((s.admitted req 8450 4 (leBytes 1 slot)).revokeKeyWrite slot).1) := by
  obtain ⟨f, hf, a1, a2, a3, a4⟩ : ∃ f, (∀ p, lookup p 8450 4 = some f) ∧ f.obj.base = 8450 ∧ f.row.kind = .live ∧ f.row.ty.size = 1 ∧
      ∀ bs, f.row'.decode bs = .num (leNat bs) := ⟨(lookup .ux3816 8450 4).get rfl, fun p => by cases p <;> rfl, rfl, rfl, rfl, fun _ => rfl⟩
  simp only [exec_revokeKey, execRevokeKey]
  rw [State.submit_num s req _ _ _ _ f (by decide) (hf _) a3 h (by rw [a1]; decide) a2 a4 hv ((s.admitted req 8450 4 (leBytes 1 slot)).revokeKeyWrite slot) ?_]
  generalize s.admitted req 8450 4 (leBytes 1 slot) = u
  simp only [State.liveWrite, State.deviceWrite, a1]; rfl

theorem ringCommit_admits (req : Requester) (timeout : Nat) (s : State) (hv : timeout < 256 ^ 2) (h : s.admits req 8466 1 (leBytes 2 timeout) = true) :
    exec (.ringCommit req timeout) s = .next (((s.admitted req 8466 1 (leBytes 2 timeout)).commitWrite timeout).2.concluded req 8466 1 (leBytes 2 timeout)
      ((s.admitted req 8466 1 (leBytes 2 timeout)).commitWrite timeout).1) := by
  obtain ⟨f, hf, a1, a2, a3, a4⟩ : ∃ f, (∀ p, lookup p 8466 1 = some f) ∧ f.obj.base = 8466 ∧ f.row.kind = .live ∧ f.row.ty.size = 2 ∧
      ∀ bs, f.row'.decode bs = .num (leNat bs) := ⟨(lookup .ux3816 8466 1).get rfl, fun p => by cases p <;> rfl, rfl, rfl, rfl, fun _ => rfl⟩
  simp only [exec_ringCommit, execRingCommit]
  rw [State.submit_num s req _ _ _ _ f (by decide) (hf _) a3 h (by rw [a1]; decide) a2 a4 hv ((s.admitted req 8466 1 (leBytes 2 timeout)).commitWrite timeout) ?_]
  generalize s.admitted req 8466 1 (leBytes 2 timeout) = u
  simp only [State.liveWrite, State.deviceWrite, a1]; rfl

theorem ringConfirm_admits (req : Requester) (version : Nat) (s : State) (hv : version < 256 ^ 4) (h : s.admits req 8466 2 (leBytes 4 version) = true) :
    exec (.ringConfirm req version) s = .next (((s.admitted req 8466 2 (leBytes 4 version)).confirmWrite version).2.concluded req 8466 2 (leBytes 4 version)
      ((s.admitted req 8466 2 (leBytes 4 version)).confirmWrite version).1) := by
  obtain ⟨f, hf, a1, a2, a3, a4⟩ : ∃ f, (∀ p, lookup p 8466 2 = some f) ∧ f.obj.base = 8466 ∧ f.row.kind = .live ∧ f.row.ty.size = 4 ∧
      ∀ bs, f.row'.decode bs = .num (leNat bs) := ⟨(lookup .ux3816 8466 2).get rfl, fun p => by cases p <;> rfl, rfl, rfl, rfl, fun _ => rfl⟩
  simp only [exec_ringConfirm, execRingConfirm]
  rw [State.submit_num s req _ _ _ _ f (by decide) (hf _) a3 h (by rw [a1]; decide) a2 a4 hv ((s.admitted req 8466 2 (leBytes 4 version)).confirmWrite version) ?_]
  generalize s.admitted req 8466 2 (leBytes 4 version) = u
  simp only [State.liveWrite, State.deviceWrite, a1]; rfl

theorem ringReturn_admits (req : Requester) (value : Nat) (s : State) (hv : value < 256 ^ 1) (h : s.admits req 8466 3 (leBytes 1 value) = true) :
    exec (.ringReturn req value) s = .next (((s.admitted req 8466 3 (leBytes 1 value)).returnWrite value).2.concluded req 8466 3 (leBytes 1 value)
      ((s.admitted req 8466 3 (leBytes 1 value)).returnWrite value).1) := by
  obtain ⟨f, hf, a1, a2, a3, a4⟩ : ∃ f, (∀ p, lookup p 8466 3 = some f) ∧ f.obj.base = 8466 ∧ f.row.kind = .live ∧ f.row.ty.size = 1 ∧
      ∀ bs, f.row'.decode bs = .num (leNat bs) := ⟨(lookup .ux3816 8466 3).get rfl, fun p => by cases p <;> rfl, rfl, rfl, rfl, fun _ => rfl⟩
  simp only [exec_ringReturn, execRingReturn]
  rw [State.submit_num s req _ _ _ _ f (by decide) (hf _) a3 h (by rw [a1]; decide) a2 a4 hv ((s.admitted req 8466 3 (leBytes 1 value)).returnWrite value) ?_]
  generalize s.admitted req 8466 3 (leBytes 1 value) = u
  simp only [State.liveWrite, State.deviceWrite, a1]; rfl

theorem draftReset_admits (req : Requester) (value : Nat) (s : State) (hv : value < 256 ^ 1) (h : s.admits req 8465 3 (leBytes 1 value) = true) :
    exec (.draftReset req value) s = .next (((s.admitted req 8465 3 (leBytes 1 value)).draftWrite 3 (.num value)).2.concluded req 8465 3 (leBytes 1 value)
      ((s.admitted req 8465 3 (leBytes 1 value)).draftWrite 3 (.num value)).1) := by
  obtain ⟨f, hf, a1, a2, a3, a4⟩ : ∃ f, (∀ p, lookup p 8465 3 = some f) ∧ f.obj.base = 8465 ∧ f.row.kind = .live ∧ f.row.ty.size = 1 ∧
      ∀ bs, f.row'.decode bs = .num (leNat bs) := ⟨(lookup .ux3816 8465 3).get rfl, fun p => by cases p <;> rfl, rfl, rfl, rfl, fun _ => rfl⟩
  simp only [exec_draftReset, execDraftReset]
  rw [State.submit_num s req _ _ _ _ f (by decide) (hf _) a3 h (by rw [a1]; decide) a2 a4 hv ((s.admitted req 8465 3 (leBytes 1 value)).draftWrite 3 (.num value)) ?_]
  generalize s.admitted req 8465 3 (leBytes 1 value) = u
  simp only [State.liveWrite, State.deviceWrite, a1]; rfl

theorem appletKeyRevoke_admits (req : Requester) (slot : Nat) (s : State) (hv : slot < 256 ^ 1) (h : s.admits req 8963 3 (leBytes 1 slot) = true) :
    exec (.appletKeyRevoke req slot) s = .next (((s.admitted req 8963 3 (leBytes 1 slot)).appletRevokeWrite slot).2.concluded req 8963 3 (leBytes 1 slot)
      ((s.admitted req 8963 3 (leBytes 1 slot)).appletRevokeWrite slot).1) := by
  obtain ⟨f, hf, a1, a2, a3, a4⟩ : ∃ f, (∀ p, lookup p 8963 3 = some f) ∧ f.obj.base = 8963 ∧ f.row.kind = .live ∧ f.row.ty.size = 1 ∧
      ∀ bs, f.row'.decode bs = .num (leNat bs) := ⟨(lookup .ux3816 8963 3).get rfl, fun p => by cases p <;> rfl, rfl, rfl, rfl, fun _ => rfl⟩
  simp only [exec_appletKeyRevoke, execAppletKeyRevoke]
  rw [State.submit_num s req _ _ _ _ f (by decide) (hf _) a3 h (by rw [a1]; decide) a2 a4 hv ((s.admitted req 8963 3 (leBytes 1 slot)).appletRevokeWrite slot) ?_]
  generalize s.admitted req 8963 3 (leBytes 1 slot) = u
  simp only [State.liveWrite, State.deviceWrite, a1]; rfl

theorem debugRelock_admits (req : Requester) (value : Nat) (s : State) (hv : value < 256 ^ 1) (h : s.admits req 8961 6 (leBytes 1 value) = true) :
    exec (.debugRelock req value) s = .next (((s.admitted req 8961 6 (leBytes 1 value)).relockWrite value).2.concluded req 8961 6 (leBytes 1 value)
      ((s.admitted req 8961 6 (leBytes 1 value)).relockWrite value).1) := by
  obtain ⟨f, hf, a1, a2, a3, a4⟩ : ∃ f, (∀ p, lookup p 8961 6 = some f) ∧ f.obj.base = 8961 ∧ f.row.kind = .live ∧ f.row.ty.size = 1 ∧
      ∀ bs, f.row'.decode bs = .num (leNat bs) := ⟨(lookup .ux3816 8961 6).get rfl, fun p => by cases p <;> rfl, rfl, rfl, rfl, fun _ => rfl⟩
  simp only [exec_debugRelock, execDebugRelock]
  rw [State.submit_num s req _ _ _ _ f (by decide) (hf _) a3 h (by rw [a1]; decide) a2 a4 hv ((s.admitted req 8961 6 (leBytes 1 value)).relockWrite value) ?_]
  generalize s.admitted req 8961 6 (leBytes 1 value) = u
  simp only [State.liveWrite, State.deviceWrite, a1]; rfl

theorem selftestRun_admits (req : Requester) (die : Nat) (s : State) (hv : die < 256 ^ 1) (h : s.admits req 10000 1 (leBytes 1 die) = true) :
    exec (.selftestRun req die) s = .next (((s.admitted req 10000 1 (leBytes 1 die)).selftestWrite die).2.concluded req 10000 1 (leBytes 1 die)
      ((s.admitted req 10000 1 (leBytes 1 die)).selftestWrite die).1) := by
  obtain ⟨f, hf, a1, a2, a3, a4⟩ : ∃ f, (∀ p, lookup p 10000 1 = some f) ∧ f.obj.base = 10000 ∧ f.row.kind = .live ∧ f.row.ty.size = 1 ∧
      ∀ bs, f.row'.decode bs = .num (leNat bs) := ⟨(lookup .ux3816 10000 1).get rfl, fun p => by cases p <;> rfl, rfl, rfl, rfl, fun _ => rfl⟩
  simp only [exec_selftestRun, execSelftestRun]
  rw [State.submit_num s req _ _ _ _ f (by decide) (hf _) a3 h (by rw [a1]; decide) a2 a4 hv ((s.admitted req 10000 1 (leBytes 1 die)).selftestWrite die) ?_]
  generalize s.admitted req 10000 1 (leBytes 1 die) = u
  simp only [State.liveWrite, State.blockWrite, a1]; rfl

theorem freeze_admits (req : Requester) (s : State) (h : s.admits req 8737 2 (leBytes 1 1) = true) :
    exec (.freeze req) s = .next (((s.admitted req 8737 2 (leBytes 1 1)).shedWrite 1 (Config.freeBytes (s.admitted req 8737 2 (leBytes 1 1)).free) (Config.freeBool (s.admitted req 8737 2 (leBytes 1 1)).free)).2.concluded req 8737 2 (leBytes 1 1)
      ((s.admitted req 8737 2 (leBytes 1 1)).shedWrite 1 (Config.freeBytes (s.admitted req 8737 2 (leBytes 1 1)).free) (Config.freeBool (s.admitted req 8737 2 (leBytes 1 1)).free)).1) := by
  obtain ⟨f, hf, a1, a2, a3, a4⟩ : ∃ f, (∀ p, lookup p 8737 2 = some f) ∧ f.obj.base = 8737 ∧ f.row.kind = .live ∧ f.row.ty.size = 1 ∧
      ∀ bs, f.row'.decode bs = .num (leNat bs) := ⟨(lookup .ux3816 8737 2).get rfl, fun p => by cases p <;> rfl, rfl, rfl, rfl, fun _ => rfl⟩
  simp only [exec_freeze, execFreeze]
  rw [State.submit_num s req _ _ _ _ f (by decide) (hf _) a3 h (by rw [a1]; decide) a2 a4 (by decide) ((s.admitted req 8737 2 (leBytes 1 1)).shedWrite 1 (Config.freeBytes (s.admitted req 8737 2 (leBytes 1 1)).free) (Config.freeBool (s.admitted req 8737 2 (leBytes 1 1)).free)) ?_]
  generalize s.admitted req 8737 2 (leBytes 1 1) = u
  simp only [State.liveWrite, State.deviceWrite, a1]; rfl

theorem thaw_admits (req : Requester) (s : State) (h : s.admits req 8737 2 (leBytes 1 2) = true) :
    exec (.thaw req) s = .next (((s.admitted req 8737 2 (leBytes 1 2)).shedWrite 2 (Config.freeBytes (s.admitted req 8737 2 (leBytes 1 2)).free) (Config.freeBool (s.admitted req 8737 2 (leBytes 1 2)).free)).2.concluded req 8737 2 (leBytes 1 2)
      ((s.admitted req 8737 2 (leBytes 1 2)).shedWrite 2 (Config.freeBytes (s.admitted req 8737 2 (leBytes 1 2)).free) (Config.freeBool (s.admitted req 8737 2 (leBytes 1 2)).free)).1) := by
  obtain ⟨f, hf, a1, a2, a3, a4⟩ : ∃ f, (∀ p, lookup p 8737 2 = some f) ∧ f.obj.base = 8737 ∧ f.row.kind = .live ∧ f.row.ty.size = 1 ∧
      ∀ bs, f.row'.decode bs = .num (leNat bs) := ⟨(lookup .ux3816 8737 2).get rfl, fun p => by cases p <;> rfl, rfl, rfl, rfl, fun _ => rfl⟩
  simp only [exec_thaw, execThaw]
  rw [State.submit_num s req _ _ _ _ f (by decide) (hf _) a3 h (by rw [a1]; decide) a2 a4 (by decide) ((s.admitted req 8737 2 (leBytes 1 2)).shedWrite 2 (Config.freeBytes (s.admitted req 8737 2 (leBytes 1 2)).free) (Config.freeBool (s.admitted req 8737 2 (leBytes 1 2)).free)) ?_]
  generalize s.admitted req 8737 2 (leBytes 1 2) = u
  simp only [State.liveWrite, State.deviceWrite, a1]; rfl

theorem save_admits (req : Requester) (s : State) (h : s.admits req 8737 2 (leBytes 1 3) = true) :
    exec (.save req) s = .next (((s.admitted req 8737 2 (leBytes 1 3)).shedWrite 3 (Config.freeBytes (s.admitted req 8737 2 (leBytes 1 3)).free) (Config.freeBool (s.admitted req 8737 2 (leBytes 1 3)).free)).2.concluded req 8737 2 (leBytes 1 3)
      ((s.admitted req 8737 2 (leBytes 1 3)).shedWrite 3 (Config.freeBytes (s.admitted req 8737 2 (leBytes 1 3)).free) (Config.freeBool (s.admitted req 8737 2 (leBytes 1 3)).free)).1) := by
  obtain ⟨f, hf, a1, a2, a3, a4⟩ : ∃ f, (∀ p, lookup p 8737 2 = some f) ∧ f.obj.base = 8737 ∧ f.row.kind = .live ∧ f.row.ty.size = 1 ∧
      ∀ bs, f.row'.decode bs = .num (leNat bs) := ⟨(lookup .ux3816 8737 2).get rfl, fun p => by cases p <;> rfl, rfl, rfl, rfl, fun _ => rfl⟩
  simp only [exec_save, execSave]
  rw [State.submit_num s req _ _ _ _ f (by decide) (hf _) a3 h (by rw [a1]; decide) a2 a4 (by decide) ((s.admitted req 8737 2 (leBytes 1 3)).shedWrite 3 (Config.freeBytes (s.admitted req 8737 2 (leBytes 1 3)).free) (Config.freeBool (s.admitted req 8737 2 (leBytes 1 3)).free)) ?_]
  generalize s.admitted req 8737 2 (leBytes 1 3) = u
  simp only [State.liveWrite, State.deviceWrite, a1]; rfl

theorem powerSleep_admits (req : Requester) (s : State) (h : s.admits req 9216 2 (leBytes 1 2) = true) :
    exec (.powerSleep req) s = .next (((s.admitted req 9216 2 (leBytes 1 2)).powerWrite req 2).2.concluded req 9216 2 (leBytes 1 2)
      ((s.admitted req 9216 2 (leBytes 1 2)).powerWrite req 2).1) := by
  obtain ⟨f, hf, a1, a2, a3, a4⟩ : ∃ f, (∀ p, lookup p 9216 2 = some f) ∧ f.obj.base = 9216 ∧ f.row.kind = .live ∧ f.row.ty.size = 1 ∧
      ∀ bs, f.row'.decode bs = .num (leNat bs) := ⟨(lookup .ux3816 9216 2).get rfl, fun p => by cases p <;> rfl, rfl, rfl, rfl, fun _ => rfl⟩
  simp only [exec_powerSleep, execPowerSleep]
  rw [State.submit_num s req _ _ _ _ f (by decide) (hf _) a3 h (by rw [a1]; decide) a2 a4 (by decide) ((s.admitted req 9216 2 (leBytes 1 2)).powerWrite req 2) ?_]
  generalize s.admitted req 9216 2 (leBytes 1 2) = u
  simp only [State.liveWrite, State.blockWrite, a1]; rfl

theorem powerDeepSleep_admits (req : Requester) (s : State) (h : s.admits req 9216 2 (leBytes 1 3) = true) :
    exec (.powerDeepSleep req) s = .next (((s.admitted req 9216 2 (leBytes 1 3)).powerWrite req 3).2.concluded req 9216 2 (leBytes 1 3)
      ((s.admitted req 9216 2 (leBytes 1 3)).powerWrite req 3).1) := by
  obtain ⟨f, hf, a1, a2, a3, a4⟩ : ∃ f, (∀ p, lookup p 9216 2 = some f) ∧ f.obj.base = 9216 ∧ f.row.kind = .live ∧ f.row.ty.size = 1 ∧
      ∀ bs, f.row'.decode bs = .num (leNat bs) := ⟨(lookup .ux3816 9216 2).get rfl, fun p => by cases p <;> rfl, rfl, rfl, rfl, fun _ => rfl⟩
  simp only [exec_powerDeepSleep, execPowerDeepSleep]
  rw [State.submit_num s req _ _ _ _ f (by decide) (hf _) a3 h (by rw [a1]; decide) a2 a4 (by decide) ((s.admitted req 9216 2 (leBytes 1 3)).powerWrite req 3) ?_]
  generalize s.admitted req 9216 2 (leBytes 1 3) = u
  simp only [State.liveWrite, State.blockWrite, a1]; rfl

theorem powerOff_admits (req : Requester) (s : State) (h : s.admits req 9216 2 (leBytes 1 4) = true) :
    exec (.powerOff req) s = .next (((s.admitted req 9216 2 (leBytes 1 4)).powerWrite req 4).2.concluded req 9216 2 (leBytes 1 4)
      ((s.admitted req 9216 2 (leBytes 1 4)).powerWrite req 4).1) := by
  obtain ⟨f, hf, a1, a2, a3, a4⟩ : ∃ f, (∀ p, lookup p 9216 2 = some f) ∧ f.obj.base = 9216 ∧ f.row.kind = .live ∧ f.row.ty.size = 1 ∧
      ∀ bs, f.row'.decode bs = .num (leNat bs) := ⟨(lookup .ux3816 9216 2).get rfl, fun p => by cases p <;> rfl, rfl, rfl, rfl, fun _ => rfl⟩
  simp only [exec_powerOff, execPowerOff]
  rw [State.submit_num s req _ _ _ _ f (by decide) (hf _) a3 h (by rw [a1]; decide) a2 a4 (by decide) ((s.admitted req 9216 2 (leBytes 1 4)).powerWrite req 4) ?_]
  generalize s.admitted req 9216 2 (leBytes 1 4) = u
  simp only [State.liveWrite, State.blockWrite, a1]; rfl

theorem powerRun_admits (req : Requester) (s : State) (h : s.admits req 9216 2 (leBytes 1 0) = true) :
    exec (.powerRun req) s = .next (((s.admitted req 9216 2 (leBytes 1 0)).powerWrite req 0).2.concluded req 9216 2 (leBytes 1 0)
      ((s.admitted req 9216 2 (leBytes 1 0)).powerWrite req 0).1) := by
  obtain ⟨f, hf, a1, a2, a3, a4⟩ : ∃ f, (∀ p, lookup p 9216 2 = some f) ∧ f.obj.base = 9216 ∧ f.row.kind = .live ∧ f.row.ty.size = 1 ∧
      ∀ bs, f.row'.decode bs = .num (leNat bs) := ⟨(lookup .ux3816 9216 2).get rfl, fun p => by cases p <;> rfl, rfl, rfl, rfl, fun _ => rfl⟩
  simp only [exec_powerRun, execPowerRun]
  rw [State.submit_num s req _ _ _ _ f (by decide) (hf _) a3 h (by rw [a1]; decide) a2 a4 (by decide) ((s.admitted req 9216 2 (leBytes 1 0)).powerWrite req 0) ?_]
  generalize s.admitted req 9216 2 (leBytes 1 0) = u
  simp only [State.liveWrite, State.blockWrite, a1]; rfl

theorem draftImage_admits (req : Requester) (image : List Byte) (s : State) (h : s.admits req 8465 4 image = true) :
    exec (.draftImage req image) s = .next (((s.admitted req 8465 4 image).draftWrite 4 (.bytes image)).2.concluded req 8465 4 image ((s.admitted req 8465 4 image).draftWrite 4 (.bytes image)).1) := by
  obtain ⟨f, hf, a1, a2, a4⟩ : ∃ f, (∀ p, lookup p 8465 4 = some f) ∧ f.obj.base = 8465 ∧ f.row.kind = .live ∧
      ∀ bs, f.row'.decode bs = .bytes bs := ⟨(lookup .ux3816 8465 4).get rfl, fun p => by cases p <;> rfl, rfl, rfl, fun _ => rfl⟩
  simp only [exec_draftImage, execDraftImage]
  rw [State.submit_live s req _ _ _ f (by decide) h (hf _) (by rw [a1]; decide) a2 ((s.admitted req 8465 4 image).draftWrite 4 (.bytes image)) ?_]
  generalize s.admitted req 8465 4 image = u
  rw [a4]
  simp only [State.liveWrite, State.deviceWrite, a1]; rfl

theorem appletKeyBurn_admits (req : Requester) (hash : List Byte) (s : State) (h : s.admits req 8963 2 hash = true) :
    exec (.appletKeyBurn req hash) s = .next (((s.admitted req 8963 2 hash).burnWrite req hash).2.concluded req 8963 2 hash ((s.admitted req 8963 2 hash).burnWrite req hash).1) := by
  obtain ⟨f, hf, a1, a2, a4⟩ : ∃ f, (∀ p, lookup p 8963 2 = some f) ∧ f.obj.base = 8963 ∧ f.row.kind = .live ∧
      ∀ bs, f.row'.decode bs = .bytes bs := ⟨(lookup .ux3816 8963 2).get rfl, fun p => by cases p <;> rfl, rfl, rfl, fun _ => rfl⟩
  simp only [exec_appletKeyBurn, execAppletKeyBurn]
  rw [State.submit_live s req _ _ _ f (by decide) h (hf _) (by rw [a1]; decide) a2 ((s.admitted req 8963 2 hash).burnWrite req hash) ?_]
  generalize s.admitted req 8963 2 hash = u
  rw [a4]
  simp only [State.liveWrite, State.deviceWrite, a1]; rfl

theorem appletLoad_admits (req : Requester) (image : List Byte) (s : State) (h : s.admits req 8964 1 image = true) :
    exec (.appletLoad req image) s = .next (((s.admitted req 8964 1 image).appletLoadWrite image).2.concluded req 8964 1 image ((s.admitted req 8964 1 image).appletLoadWrite image).1) := by
  obtain ⟨f, hf, a1, a2, a4⟩ : ∃ f, (∀ p, lookup p 8964 1 = some f) ∧ f.obj.base = 8964 ∧ f.row.kind = .live ∧
      ∀ bs, f.row'.decode bs = .bytes bs := ⟨(lookup .ux3816 8964 1).get rfl, fun p => by cases p <;> rfl, rfl, rfl, fun _ => rfl⟩
  simp only [exec_appletLoad, execAppletLoad]
  rw [State.submit_live s req _ _ _ f (by decide) h (hf _) (by rw [a1]; decide) a2 ((s.admitted req 8964 1 image).appletLoadWrite image) ?_]
  generalize s.admitted req 8964 1 image = u
  rw [a4]
  simp only [State.liveWrite, State.deviceWrite, a1]; rfl

theorem debugResponse_admits (req : Requester) (response : List Byte) (s : State) (h : s.admits req 8961 5 response = true) :
    exec (.debugResponse req response) s = .next (((s.admitted req 8961 5 response).debugResponseWrite response).2.concluded req 8961 5 response ((s.admitted req 8961 5 response).debugResponseWrite response).1) := by
  obtain ⟨f, hf, a1, a2, a4⟩ : ∃ f, (∀ p, lookup p 8961 5 = some f) ∧ f.obj.base = 8961 ∧ f.row.kind = .live ∧
      ∀ bs, f.row'.decode bs = .bytes bs := ⟨(lookup .ux3816 8961 5).get rfl, fun p => by cases p <;> rfl, rfl, rfl, fun _ => rfl⟩
  simp only [exec_debugResponse, execDebugResponse]
  rw [State.submit_live s req _ _ _ f (by decide) h (hf _) (by rw [a1]; decide) a2 ((s.admitted req 8961 5 response).debugResponseWrite response) ?_]
  generalize s.admitted req 8961 5 response = u
  rw [a4]
  simp only [State.liveWrite, State.deviceWrite, a1]; rfl

theorem assetsWrite_admits (req : Requester) (store : List Byte) (s : State) (h : s.admits req 8976 1 store = true) :
    exec (.assetsWrite req store) s = .next (((s.admitted req 8976 1 store).writeAssets store).2.concluded req 8976 1 store ((s.admitted req 8976 1 store).writeAssets store).1) := by
  obtain ⟨f, hf, a1, a2, a4⟩ : ∃ f, (∀ p, lookup p 8976 1 = some f) ∧ f.obj.base = 8976 ∧ f.row.kind = .live ∧
      ∀ bs, f.row'.decode bs = .bytes bs := ⟨(lookup .ux3816 8976 1).get rfl, fun p => by cases p <;> rfl, rfl, rfl, fun _ => rfl⟩
  simp only [exec_assetsWrite, execAssetsWrite]
  rw [State.submit_live s req _ _ _ f (by decide) h (hf _) (by rw [a1]; decide) a2 ((s.admitted req 8976 1 store).writeAssets store) ?_]
  generalize s.admitted req 8976 1 store = u
  rw [a4]
  simp only [State.liveWrite, State.deviceWrite, a1]; rfl

/-- A WRITE that is admitted names an entry. -/
theorem State.admits_lookup (s : State) (req : Requester) (idx sub : Nat) (data : List Byte) (h : s.admits req idx sub data = true) :
    ∃ f, lookup s.part idx sub = some f := by
  unfold State.admits at h
  simp only [Bool.and_eq_true, decide_eq_true_eq] at h
  obtain ⟨⟨⟨-, h5⟩, -⟩, -⟩ := h
  unfold State.writeStatus State.checkWrite at h5
  cases hl : lookup s.part idx sub with
  | none => simp [hl, Status.notPresent, Status.ok, Status.range] at h5
  | some f => exact ⟨f, rfl⟩

theorem instanceReset_object (n : Nat) (h : n < 32) : ∃ o e, objectAt (8704 + 1 * n) = some (o, n) ∧ o.base = 8704 ∧ o.sub? 21 = some e ∧ e.kind = .live ∧
    e.ty.size = 1 ∧ (e.lo = 21 ∧ ∀ bs, e.decode bs = .num (leNat bs)) := by
  interval_cases n <;> exact ⟨_, _, rfl, rfl, rfl, rfl, rfl, rfl, fun _ => rfl⟩
theorem instanceReset_admits (req : Requester) (inst value : Nat) (s : State) (hn : inst < 32) (hv : value < 256 ^ 1)
    (h : s.admits req (8704 + 1 * inst) 21 (leBytes 1 value) = true) :
    exec (.instanceReset req inst value) s = .next (((s.admitted req (8704 + 1 * inst) 21 (leBytes 1 value)).instanceWrite inst 0x15 (.num value)).2.concluded req (8704 + 1 * inst) 21 (leBytes 1 value)
      ((s.admitted req (8704 + 1 * inst) 21 (leBytes 1 value)).instanceWrite inst 0x15 (.num value)).1) := by
  obtain ⟨f, hf⟩ := State.admits_lookup s req _ _ _ h
  obtain ⟨o, e, h1, h2, h3, h4, h5, h6, h7⟩ := instanceReset_object inst hn
  have hf' := hf
  simp only [lookup, h1, h3] at hf'
  split at hf'
  · have hfe : f = ⟨o, inst, e⟩ := by simpa using hf'.symm
    subst hfe
    have hr : Found.row' ⟨o, inst, e⟩ = e := by simp [Found.row', h2, h6]
    simp only [exec_instanceReset, execInstanceReset, objectIndex, if_pos hn]
    rw [State.submit_num s req _ _ _ _ ⟨o, inst, e⟩ (by omega) hf h5 h (by rw [h2]; decide) h4 (by rw [hr]; exact h7) hv ((s.admitted req (8704 + 1 * inst) 21 (leBytes 1 value)).instanceWrite inst 0x15 (.num value)) ?_]
    generalize s.admitted req (8704 + 1 * inst) 21 (leBytes 1 value) = u
    unfold State.liveWrite
    rw [if_pos (by omega)]
    simp only [State.deviceWrite, h2]; rfl
  · simp at hf'

theorem piezoRequest_object (n : Nat) (h : n < 16) : ∃ o e, objectAt (9744 + 1 * n) = some (o, n) ∧ o.base = 9744 ∧ o.sub? 6 = some e ∧ e.kind = .live ∧
    e.ty.size = 1 ∧ (e.lo = 6 ∧ ∀ bs, e.decode bs = .num (leNat bs)) := by
  interval_cases n <;> exact ⟨_, _, rfl, rfl, rfl, rfl, rfl, rfl, fun _ => rfl⟩
theorem piezoRequest_admits (req : Requester) (channel value : Nat) (s : State) (hn : channel < 16) (hv : value < 256 ^ 1)
    (h : s.admits req (9744 + 1 * channel) 6 (leBytes 1 value) = true) :
    exec (.piezoRequest req channel value) s = .next (((s.admitted req (9744 + 1 * channel) 6 (leBytes 1 value)).piezoWrite channel value).2.concluded req (9744 + 1 * channel) 6 (leBytes 1 value)
      ((s.admitted req (9744 + 1 * channel) 6 (leBytes 1 value)).piezoWrite channel value).1) := by
  obtain ⟨f, hf⟩ := State.admits_lookup s req _ _ _ h
  obtain ⟨o, e, h1, h2, h3, h4, h5, h6, h7⟩ := piezoRequest_object channel hn
  have hf' := hf
  simp only [lookup, h1, h3] at hf'
  split at hf'
  · have hfe : f = ⟨o, channel, e⟩ := by simpa using hf'.symm
    subst hfe
    have hr : Found.row' ⟨o, channel, e⟩ = e := by simp [Found.row', h2, h6]
    simp only [exec_piezoRequest, execPiezoRequest, objectIndex, if_pos hn]
    rw [State.submit_num s req _ _ _ _ ⟨o, channel, e⟩ (by omega) hf h5 h (by rw [h2]; decide) h4 (by rw [hr]; exact h7) hv ((s.admitted req (9744 + 1 * channel) 6 (leBytes 1 value)).piezoWrite channel value) ?_]
    generalize s.admitted req (9744 + 1 * channel) 6 (leBytes 1 value) = u
    unfold State.liveWrite
    rw [if_neg (by omega)]
    simp only [State.blockWrite, h2]; rfl
  · simp at hf'

theorem speakerRequest_object (n : Nat) (h : n < 64) : ∃ o e, objectAt (9760 + 1 * n) = some (o, n) ∧ o.base = 9760 ∧ o.sub? 12 = some e ∧ e.kind = .live ∧
    e.ty.size = 1 ∧ (e.lo = 12 ∧ ∀ bs, e.decode bs = .num (leNat bs)) := by
  interval_cases n <;> exact ⟨_, _, rfl, rfl, rfl, rfl, rfl, rfl, fun _ => rfl⟩
theorem speakerRequest_admits (req : Requester) (output value : Nat) (s : State) (hn : output < 64) (hv : value < 256 ^ 1)
    (h : s.admits req (9760 + 1 * output) 12 (leBytes 1 value) = true) :
    exec (.speakerRequest req output value) s = .next (((s.admitted req (9760 + 1 * output) 12 (leBytes 1 value)).speakerWrite output value).2.concluded req (9760 + 1 * output) 12 (leBytes 1 value)
      ((s.admitted req (9760 + 1 * output) 12 (leBytes 1 value)).speakerWrite output value).1) := by
  obtain ⟨f, hf⟩ := State.admits_lookup s req _ _ _ h
  obtain ⟨o, e, h1, h2, h3, h4, h5, h6, h7⟩ := speakerRequest_object output hn
  have hf' := hf
  simp only [lookup, h1, h3] at hf'
  split at hf'
  · have hfe : f = ⟨o, output, e⟩ := by simpa using hf'.symm
    subst hfe
    have hr : Found.row' ⟨o, output, e⟩ = e := by simp [Found.row', h2, h6]
    simp only [exec_speakerRequest, execSpeakerRequest, objectIndex, if_pos hn]
    rw [State.submit_num s req _ _ _ _ ⟨o, output, e⟩ (by omega) hf h5 h (by rw [h2]; decide) h4 (by rw [hr]; exact h7) hv ((s.admitted req (9760 + 1 * output) 12 (leBytes 1 value)).speakerWrite output value) ?_]
    generalize s.admitted req (9760 + 1 * output) 12 (leBytes 1 value) = u
    unfold State.liveWrite
    rw [if_neg (by omega)]
    simp only [State.blockWrite, h2]; rfl
  · simp at hf'

theorem retrain_object (n : Nat) (h : n < 16) : ∃ o e, objectAt (12293 + 256 * n) = some (o, n) ∧ o.base = 12293 ∧ o.sub? 2 = some e ∧ e.kind = .live ∧
    e.ty.size = 1 ∧ (e.lo = 2 ∧ ∀ bs, e.decode bs = .num (leNat bs)) := by
  interval_cases n <;> exact ⟨_, _, rfl, rfl, rfl, rfl, rfl, rfl, fun _ => rfl⟩
theorem retrain_admits (req : Requester) (head value : Nat) (s : State) (hn : head < 16) (hv : value < 256 ^ 1)
    (h : s.admits req (12293 + 256 * head) 2 (leBytes 1 value) = true) :
    exec (.retrain req head value) s = .next (((s.admitted req (12293 + 256 * head) 2 (leBytes 1 value)).retrainWrite head).2.concluded req (12293 + 256 * head) 2 (leBytes 1 value)
      ((s.admitted req (12293 + 256 * head) 2 (leBytes 1 value)).retrainWrite head).1) := by
  obtain ⟨f, hf⟩ := State.admits_lookup s req _ _ _ h
  obtain ⟨o, e, h1, h2, h3, h4, h5, h6, h7⟩ := retrain_object head hn
  have hf' := hf
  simp only [lookup, h1, h3] at hf'
  split at hf'
  · have hfe : f = ⟨o, head, e⟩ := by simpa using hf'.symm
    subst hfe
    have hr : Found.row' ⟨o, head, e⟩ = e := by simp [Found.row', h2, h6]
    simp only [exec_retrain, execRetrain, objectIndex, if_pos hn]
    rw [State.submit_num s req _ _ _ _ ⟨o, head, e⟩ (by omega) hf h5 h (by rw [h2]; decide) h4 (by rw [hr]; exact h7) hv ((s.admitted req (12293 + 256 * head) 2 (leBytes 1 value)).retrainWrite head) ?_]
    generalize s.admitted req (12293 + 256 * head) 2 (leBytes 1 value) = u
    unfold State.liveWrite
    rw [if_neg (by omega)]
    simp only [State.blockWrite, h2]; rfl
  · simp at hf'

theorem spriteStateWrite_object (n : Nat) (h : n < 128) : ∃ o e, objectAt (16640 + 1 * n) = some (o, n) ∧ o.base = 16640 ∧ o.sub? 11 = some e ∧ e.kind = .live ∧
    e.ty.size = 1 ∧ (e.lo = 11 ∧ ∀ bs, e.decode bs = .num (leNat bs)) := by
  interval_cases n <;> exact ⟨_, _, rfl, rfl, rfl, rfl, rfl, rfl, fun _ => rfl⟩
theorem spriteStateWrite_admits (req : Requester) (sprite value : Nat) (s : State) (hn : sprite < 128) (hv : value < 256 ^ 1)
    (h : s.admits req (16640 + 1 * sprite) 11 (leBytes 1 value) = true) :
    exec (.spriteStateWrite req sprite value) s = .next (((s.admitted req (16640 + 1 * sprite) 11 (leBytes 1 value)).writeSpriteState req sprite value).2.concluded req (16640 + 1 * sprite) 11 (leBytes 1 value)
      ((s.admitted req (16640 + 1 * sprite) 11 (leBytes 1 value)).writeSpriteState req sprite value).1) := by
  obtain ⟨f, hf⟩ := State.admits_lookup s req _ _ _ h
  obtain ⟨o, e, h1, h2, h3, h4, h5, h6, h7⟩ := spriteStateWrite_object sprite hn
  have hf' := hf
  simp only [lookup, h1, h3] at hf'
  split at hf'
  · have hfe : f = ⟨o, sprite, e⟩ := by simpa using hf'.symm
    subst hfe
    have hr : Found.row' ⟨o, sprite, e⟩ = e := by simp [Found.row', h2, h6]
    simp only [exec_spriteStateWrite, execSpriteStateWrite, objectIndex, if_pos hn]
    rw [State.submit_num s req _ _ _ _ ⟨o, sprite, e⟩ (by omega) hf h5 h (by rw [h2]; decide) h4 (by rw [hr]; exact h7) hv ((s.admitted req (16640 + 1 * sprite) 11 (leBytes 1 value)).writeSpriteState req sprite value) ?_]
    generalize s.admitted req (16640 + 1 * sprite) 11 (leBytes 1 value) = u
    unfold State.liveWrite
    rw [if_neg (by omega)]
    simp only [State.blockWrite, h2]; rfl
  · simp at hf'

theorem canopyMembersWrite_object (n : Nat) (h : n < 16) : ∃ o e, objectAt (16896 + 1 * n) = some (o, n) ∧ o.base = 16896 ∧ o.sub? 5 = some e ∧ e.kind = .live ∧
    e.ty.size = 4 ∧ (e.lo = 5 ∧ ∀ bs, e.decode bs = .num (leNat bs)) := by
  interval_cases n <;> exact ⟨_, _, rfl, rfl, rfl, rfl, rfl, rfl, fun _ => rfl⟩
theorem canopyMembersWrite_admits (req : Requester) (head members : Nat) (s : State) (hn : head < 16) (hv : members < 256 ^ 4)
    (h : s.admits req (16896 + 1 * head) 5 (leBytes 4 members) = true) :
    exec (.canopyMembersWrite req head members) s = .next (((s.admitted req (16896 + 1 * head) 5 (leBytes 4 members)).writeMembers head members).2.concluded req (16896 + 1 * head) 5 (leBytes 4 members)
      ((s.admitted req (16896 + 1 * head) 5 (leBytes 4 members)).writeMembers head members).1) := by
  obtain ⟨f, hf⟩ := State.admits_lookup s req _ _ _ h
  obtain ⟨o, e, h1, h2, h3, h4, h5, h6, h7⟩ := canopyMembersWrite_object head hn
  have hf' := hf
  simp only [lookup, h1, h3] at hf'
  split at hf'
  · have hfe : f = ⟨o, head, e⟩ := by simpa using hf'.symm
    subst hfe
    have hr : Found.row' ⟨o, head, e⟩ = e := by simp [Found.row', h2, h6]
    simp only [exec_canopyMembersWrite, execCanopyMembersWrite, objectIndex, if_pos hn]
    rw [State.submit_num s req _ _ _ _ ⟨o, head, e⟩ (by omega) hf h5 h (by rw [h2]; decide) h4 (by rw [hr]; exact h7) hv ((s.admitted req (16896 + 1 * head) 5 (leBytes 4 members)).writeMembers head members) ?_]
    generalize s.admitted req (16896 + 1 * head) 5 (leBytes 4 members) = u
    unfold State.liveWrite
    rw [if_neg (by omega)]
    simp only [State.blockWrite, h2]; rfl
  · simp at hf'

theorem recapture_object (n : Nat) (h : n < 8) : ∃ o e, objectAt (24832 + 1 * n) = some (o, n) ∧ o.base = 24832 ∧ o.sub? 15 = some e ∧ e.kind = .live ∧
    e.ty.size = 1 ∧ (e.lo = 15 ∧ ∀ bs, e.decode bs = .num (leNat bs)) := by
  interval_cases n <;> exact ⟨_, _, rfl, rfl, rfl, rfl, rfl, rfl, fun _ => rfl⟩
theorem recapture_admits (req : Requester) (die value : Nat) (s : State) (hn : die < 8) (hv : value < 256 ^ 1)
    (h : s.admits req (24832 + 1 * die) 15 (leBytes 1 value) = true) :
    exec (.recapture req die value) s = .next (((s.admitted req (24832 + 1 * die) 15 (leBytes 1 value)).recaptureWrite die).2.concluded req (24832 + 1 * die) 15 (leBytes 1 value)
      ((s.admitted req (24832 + 1 * die) 15 (leBytes 1 value)).recaptureWrite die).1) := by
  obtain ⟨f, hf⟩ := State.admits_lookup s req _ _ _ h
  obtain ⟨o, e, h1, h2, h3, h4, h5, h6, h7⟩ := recapture_object die hn
  have hf' := hf
  simp only [lookup, h1, h3] at hf'
  split at hf'
  · have hfe : f = ⟨o, die, e⟩ := by simpa using hf'.symm
    subst hfe
    have hr : Found.row' ⟨o, die, e⟩ = e := by simp [Found.row', h2, h6]
    simp only [exec_recapture, execRecapture, objectIndex, if_pos hn]
    rw [State.submit_num s req _ _ _ _ ⟨o, die, e⟩ (by omega) hf h5 h (by rw [h2]; decide) h4 (by rw [hr]; exact h7) hv ((s.admitted req (24832 + 1 * die) 15 (leBytes 1 value)).recaptureWrite die) ?_]
    generalize s.admitted req (24832 + 1 * die) 15 (leBytes 1 value) = u
    unfold State.liveWrite
    rw [if_neg (by omega)]
    simp only [State.blockWrite, h2]; rfl
  · simp at hf'

theorem hapticClear_object (n : Nat) (h : n < 16) : ∃ o e, objectAt (25600 + 1 * n) = some (o, n) ∧ o.base = 25600 ∧ o.sub? 26 = some e ∧ e.kind = .live ∧
    e.ty.size = 1 ∧ (e.lo = 26 ∧ ∀ bs, e.decode bs = .num (leNat bs)) := by
  interval_cases n <;> exact ⟨_, _, rfl, rfl, rfl, rfl, rfl, rfl, fun _ => rfl⟩
theorem hapticClear_admits (req : Requester) (channel value : Nat) (s : State) (hn : channel < 16) (hv : value < 256 ^ 1)
    (h : s.admits req (25600 + 1 * channel) 26 (leBytes 1 value) = true) :
    exec (.hapticClear req channel value) s = .next (((s.admitted req (25600 + 1 * channel) 26 (leBytes 1 value)).hapClearWrite channel).2.concluded req (25600 + 1 * channel) 26 (leBytes 1 value)
      ((s.admitted req (25600 + 1 * channel) 26 (leBytes 1 value)).hapClearWrite channel).1) := by
  obtain ⟨f, hf⟩ := State.admits_lookup s req _ _ _ h
  obtain ⟨o, e, h1, h2, h3, h4, h5, h6, h7⟩ := hapticClear_object channel hn
  have hf' := hf
  simp only [lookup, h1, h3] at hf'
  split at hf'
  · have hfe : f = ⟨o, channel, e⟩ := by simpa using hf'.symm
    subst hfe
    have hr : Found.row' ⟨o, channel, e⟩ = e := by simp [Found.row', h2, h6]
    simp only [exec_hapticClear, execHapticClear, objectIndex, if_pos hn]
    rw [State.submit_num s req _ _ _ _ ⟨o, channel, e⟩ (by omega) hf h5 h (by rw [h2]; decide) h4 (by rw [hr]; exact h7) hv ((s.admitted req (25600 + 1 * channel) 26 (leBytes 1 value)).hapClearWrite channel) ?_]
    generalize s.admitted req (25600 + 1 * channel) 26 (leBytes 1 value) = u
    unfold State.liveWrite
    rw [if_neg (by omega)]
    simp only [State.blockWrite, h2]; rfl
  · simp at hf'

theorem toneStart_object (n : Nat) (h : n < 8) : ∃ o e, objectAt (26640 + 1 * n) = some (o, n) ∧ o.base = 26640 ∧ o.sub? 7 = some e ∧ e.kind = .live ∧
    e.ty.size = 1 ∧ (e.lo = 7 ∧ ∀ bs, e.decode bs = .num (leNat bs)) := by
  interval_cases n <;> exact ⟨_, _, rfl, rfl, rfl, rfl, rfl, rfl, fun _ => rfl⟩
theorem toneStart_admits (req : Requester) (gen value : Nat) (s : State) (hn : gen < 8) (hv : value < 256 ^ 1)
    (h : s.admits req (26640 + 1 * gen) 7 (leBytes 1 value) = true) :
    exec (.toneStart req gen value) s = .next (((s.admitted req (26640 + 1 * gen) 7 (leBytes 1 value)).requestTone gen).concluded req (26640 + 1 * gen) 7
      (leBytes 1 value) Status.ok) := by
  obtain ⟨f, hf⟩ := State.admits_lookup s req _ _ _ h
  obtain ⟨o, e, h1, h2, h3, h4, h5, h6, h7⟩ := toneStart_object gen hn
  have hf' := hf
  simp only [lookup, h1, h3] at hf'
  split at hf'
  · have hfe : f = ⟨o, gen, e⟩ := by simpa using hf'.symm
    subst hfe
    have hr : Found.row' ⟨o, gen, e⟩ = e := by simp [Found.row', h2, h6]
    simp only [exec_toneStart, execToneStart, objectIndex, if_pos hn]
    rw [State.submit_num s req _ _ _ _ ⟨o, gen, e⟩ (by omega) hf h5 h (by rw [h2]; decide) h4 (by rw [hr]; exact h7) hv (Status.ok, (s.admitted req (26640 + 1 * gen) 7 (leBytes 1 value)).requestTone gen) ?_]
    generalize s.admitted req (26640 + 1 * gen) 7 (leBytes 1 value) = u
    unfold State.liveWrite
    rw [if_neg (by omega)]
    simp only [State.blockWrite, h2]; rfl
  · simp at hf'

theorem safeLoad_object (n : Nat) (h : n < 128) : ∃ o e, objectAt (26880 + 1 * n) = some (o, n) ∧ o.base = 26880 ∧ o.sub? 65 = some e ∧ e.kind = .live ∧
    e.ty.size = 8 ∧ (e.lo = 65 ∧ ∀ bs, e.decode bs = .num (leNat bs)) := by
  interval_cases n <;> exact ⟨_, _, rfl, rfl, rfl, rfl, rfl, rfl, fun _ => rfl⟩
theorem safeLoad_admits (req : Requester) (row time : Nat) (s : State) (hn : row < 128) (hv : time < 256 ^ 8)
    (h : s.admits req (26880 + 1 * row) 65 (leBytes 8 time) = true) :
    exec (.safeLoad req row time) s = .next (((s.admitted req (26880 + 1 * row) 65 (leBytes 8 time)).safeLoadWrite row time).2.concluded req (26880 + 1 * row) 65 (leBytes 8 time)
      ((s.admitted req (26880 + 1 * row) 65 (leBytes 8 time)).safeLoadWrite row time).1) := by
  obtain ⟨f, hf⟩ := State.admits_lookup s req _ _ _ h
  obtain ⟨o, e, h1, h2, h3, h4, h5, h6, h7⟩ := safeLoad_object row hn
  have hf' := hf
  simp only [lookup, h1, h3] at hf'
  split at hf'
  · have hfe : f = ⟨o, row, e⟩ := by simpa using hf'.symm
    subst hfe
    have hr : Found.row' ⟨o, row, e⟩ = e := by simp [Found.row', h2, h6]
    simp only [exec_safeLoad, execSafeLoad, objectIndex, if_pos hn]
    rw [State.submit_num s req _ _ _ _ ⟨o, row, e⟩ (by omega) hf h5 h (by rw [h2]; decide) h4 (by rw [hr]; exact h7) hv ((s.admitted req (26880 + 1 * row) 65 (leBytes 8 time)).safeLoadWrite row time) ?_]
    generalize s.admitted req (26880 + 1 * row) 65 (leBytes 8 time) = u
    unfold State.liveWrite
    rw [if_neg (by omega)]
    simp only [State.blockWrite, h2]; rfl
  · simp at hf'

theorem groupStart_object (n : Nat) (h : n < 16) : ∃ o e, objectAt (30976 + 1 * n) = some (o, n) ∧ o.base = 30976 ∧ o.sub? 4 = some e ∧ e.kind = .live ∧
    e.ty.size = 1 ∧ (e.lo = 4 ∧ ∀ bs, e.decode bs = .num (leNat bs)) := by
  interval_cases n <;> exact ⟨_, _, rfl, rfl, rfl, rfl, rfl, rfl, fun _ => rfl⟩
theorem groupStart_admits (req : Requester) (slot value : Nat) (s : State) (hn : slot < 16) (hv : value < 256 ^ 1)
    (h : s.admits req (30976 + 1 * slot) 4 (leBytes 1 value) = true) :
    exec (.groupStart req slot value) s = .next (((s.admitted req (30976 + 1 * slot) 4 (leBytes 1 value)).groupStartWrite req slot value).2.concluded req (30976 + 1 * slot) 4 (leBytes 1 value)
      ((s.admitted req (30976 + 1 * slot) 4 (leBytes 1 value)).groupStartWrite req slot value).1) := by
  obtain ⟨f, hf⟩ := State.admits_lookup s req _ _ _ h
  obtain ⟨o, e, h1, h2, h3, h4, h5, h6, h7⟩ := groupStart_object slot hn
  have hf' := hf
  simp only [lookup, h1, h3] at hf'
  split at hf'
  · have hfe : f = ⟨o, slot, e⟩ := by simpa using hf'.symm
    subst hfe
    have hr : Found.row' ⟨o, slot, e⟩ = e := by simp [Found.row', h2, h6]
    simp only [exec_groupStart, execGroupStart, objectIndex, if_pos hn]
    rw [State.submit_num s req _ _ _ _ ⟨o, slot, e⟩ (by omega) hf h5 h (by rw [h2]; decide) h4 (by rw [hr]; exact h7) hv ((s.admitted req (30976 + 1 * slot) 4 (leBytes 1 value)).groupStartWrite req slot value) ?_]
    generalize s.admitted req (30976 + 1 * slot) 4 (leBytes 1 value) = u
    unfold State.liveWrite
    rw [if_neg (by omega)]
    simp only [State.blockWrite, h2]; rfl
  · simp at hf'

theorem streamPreset_object (n : Nat) (h : n < 16) : ∃ o e, objectAt (31296 + 1 * n) = some (o, n) ∧ o.base = 31296 ∧ o.sub? 7 = some e ∧ e.kind = .live ∧
    e.ty.size = 1 ∧ (e.lo = 7 ∧ ∀ bs, e.decode bs = .num (leNat bs)) := by
  interval_cases n <;> exact ⟨_, _, rfl, rfl, rfl, rfl, rfl, rfl, fun _ => rfl⟩
theorem streamPreset_admits (req : Requester) (unit value : Nat) (s : State) (hn : unit < 16) (hv : value < 256 ^ 1)
    (h : s.admits req (31296 + 1 * unit) 7 (leBytes 1 value) = true) :
    exec (.streamPreset req unit value) s = .next (((s.admitted req (31296 + 1 * unit) 7 (leBytes 1 value)).streamPresetWrite unit value).2.concluded req (31296 + 1 * unit) 7 (leBytes 1 value)
      ((s.admitted req (31296 + 1 * unit) 7 (leBytes 1 value)).streamPresetWrite unit value).1) := by
  obtain ⟨f, hf⟩ := State.admits_lookup s req _ _ _ h
  obtain ⟨o, e, h1, h2, h3, h4, h5, h6, h7⟩ := streamPreset_object unit hn
  have hf' := hf
  simp only [lookup, h1, h3] at hf'
  split at hf'
  · have hfe : f = ⟨o, unit, e⟩ := by simpa using hf'.symm
    subst hfe
    have hr : Found.row' ⟨o, unit, e⟩ = e := by simp [Found.row', h2, h6]
    simp only [exec_streamPreset, execStreamPreset, objectIndex, if_pos hn]
    rw [State.submit_num s req _ _ _ _ ⟨o, unit, e⟩ (by omega) hf h5 h (by rw [h2]; decide) h4 (by rw [hr]; exact h7) hv ((s.admitted req (31296 + 1 * unit) 7 (leBytes 1 value)).streamPresetWrite unit value) ?_]
    generalize s.admitted req (31296 + 1 * unit) 7 (leBytes 1 value) = u
    unfold State.liveWrite
    rw [if_neg (by omega)]
    simp only [State.blockWrite, h2]; rfl
  · simp at hf'

/-- A WRITE that brings more than its value, when it is admitted. -/
theorem State.submitWith_admits (s : State) (req : Requester) (idx sub v : Nat) (x : WriteExtra)
    (ha : s.admits req idx sub (s.valueBytes idx sub v) = true) :
    s.submitWith req idx sub v x =
      ((s.admitted req idx sub (s.valueBytes idx sub v)).writeWith x req idx sub (s.valueBytes idx sub v)).2.concluded req idx sub (s.valueBytes idx sub v)
        ((s.admitted req idx sub (s.valueBytes idx sub v)).writeWith x req idx sub (s.valueBytes idx sub v)).1 := by
  unfold State.admits at ha
  unfold State.admitted State.concluded State.submitWith
  dsimp only at ha ⊢
  generalize s.valueBytes idx sub v = data at ha ⊢
  obtain ⟨y, hy⟩ := State.takeRequest_shape s req (.write idx sub data)
  have hw := State.writeStatus_insts s y req idx sub data
  simp only [Bool.and_eq_true, decide_eq_true_eq, Bool.not_eq_true'] at ha
  obtain ⟨⟨⟨⟨⟨⟨h1, h2⟩, h3⟩, h4⟩, h5⟩, h6⟩, h7⟩ := ha
  rw [if_neg (by simp [h1]), if_pos h2, hy]
  rw [State.serve_admits { s with insts := y } req idx sub data x h3 h4 (hw.trans h5) h6]
  rfl

theorem restore_admits (req : Requester) (image : List Byte) (dmaOk : Bool) (s : State) (h : s.admits req 0x2221 2 (leBytes 1 4) = true) :
    exec (.restore req image dmaOk) s = .next (((s.admitted req 0x2221 2 (leBytes 1 4)).shedWrite 4 image dmaOk).2.concluded req 0x2221 2 (leBytes 1 4)
      ((s.admitted req 0x2221 2 (leBytes 1 4)).shedWrite 4 image dmaOk).1) := by
  have e : s.valueBytes 0x2221 2 4 = leBytes 1 4 := by unfold State.valueBytes; cases s.part <;> rfl
  simp only [exec_restore, execRestore]
  rw [State.submitWith_admits s req 0x2221 2 4 _ (by rw [e]; exact h), e]
  rfl

end Sys2Proof.Machine
end

