-- ==== Sys2Proof/Tests/Slice0.lean ====
section
/-! SUPPORT. Tests and witnesses. Each WellFormed check refuses an ill-formed command; some rules on fixed values; and for each obligation with
hypotheses, concrete states and operands that meet them together (a clause whose hypothesis rests on a free value of Config, such as an image or a debug
response that passes its cryptographic check, has none: Lean cannot evaluate that value). -/
namespace Sys2Proof.Tests
open Sys2Proof Sys2Proof.Machine

section
set_option Elab.async false

/-! ### States the tests and witnesses start from -/

/-- Registers set in a state: (index, sub, value). -/
def setRegs (s : State) (l : List (Nat × Nat × Nat)) : State := l.foldl (fun t e => t.setReg e.1 e.2.1 e.2.2) s
/-- Ring values active and taken up. -/
def setUse (s : State) (l : List (Nat × Nat × Nat)) : State :=
  let f := fun (v : Tab Val) => l.foldl (fun (t : Tab Val) e => Tab.put t (entryKey e.1 e.2.1) (.num e.2.2)) v
  { s with active := f s.active, taken := f s.taken }
/-- The state after reset at a boot state. -/
def booting (n : Nat) : State := setRegs State.reset [(0x2100, 1, n)]
/-- An OPERATIONAL device: every Core and Shell is ACTIVE, I0 and I1 are ACTIVE; core 0 of D0 runs in the secure world. -/
def dev : State := setRegs { booting 8 with worlds := { cores := [(0, { world := .secure, mode := .machine })] } }
  ((List.range 8).flatMap (fun d => [(0x2008 + d, 2, 2), (0x2008 + d, 3, 2)]) ++ [(0x2200, 1, 1), (0x2201, 1, 1)])
/-- Firmware of D0's secure world, and the mailbox of I0. -/
def fw : Requester := .core 0 .secure
def box : Requester := .mailbox 0 7 none
/-- A device whose MCAN node is OPERATIONAL. -/
def can : State := setRegs dev [(0x1F11, 2, 5), (0x1F11, 1, 16)]
/-- A device whose instance i has its submission queue 0 of a type enabled on a target, with two entries waiting. -/
def queued (s : State) (i type target : Nat) : State := s.modSq i 0 (fun q => { q with
  config := BitVec.ofNat 32 (2 ^ 31 + type * 2 ^ 16), target := target, tail := 2 })
def ent (i : Nat) : Entry := { inst := i, q := 0, flags := 1, tag := 5 }
/-- The first n pages of instance i's memory are mapped. -/
def mapAll (s : State) (i n : Nat) : State := s.modInst i (fun x => { x with mapped := List.range n })

/-! ### Well-formed commands: an ill-formed command for each check -/

theorem test_wf_dies : (Instr.coreReadyTimeout 8).wf = false ∧ (Instr.railLoss (.core 8)).wf = false ∧ (Instr.coreReadyTimeout 7).wf = true := by decide
theorem test_wf_requesters : (Requester.mailbox 32 0 none).wf = false ∧ (Requester.mailbox 0 (2 ^ 16) none).wf = false ∧
    (Requester.mailbox 0 0 (some (2 ^ 64, 0))).wf = false ∧ (Requester.mailbox 0 0 (some (0, 2 ^ 32))).wf = false ∧
    (Requester.core 8 .normal).wf = false ∧ (Requester.tunnel (2 ^ 16)).wf = false ∧ (Requester.mailbox 31 0 (some (0, 16))).wf = true := by decide
theorem test_wf_groups : (Instr.writeGroup .mcan [⟨2 ^ 16, 0, []⟩]).wf = false ∧ (Instr.readGroup .mcan [⟨0, 256, .active⟩]).wf = false ∧
    (DirRequest.malformed 256 0).wf = false ∧ (DirRequest.describe (2 ^ 16) 0).wf = false ∧ (DirRequest.read 0 256 .active).wf = false ∧
    (DirRequest.write 0 256 []).wf = false ∧ (Instr.read .mcan (2 ^ 16) 0 .active).wf = false ∧ (Instr.write .mcan 0 256 []).wf = false := by decide
theorem test_wf_entries : (Instr.stop ⟨32, 0, 0, 0⟩ true).wf = false ∧ (Instr.stop ⟨0, 16, 0, 0⟩ true).wf = false ∧
    (Instr.stop ⟨0, 0, 2 ^ 16, 0⟩ true).wf = false ∧ (Instr.stop ⟨0, 0, 0, 2 ^ 32⟩ true).wf = false ∧ (Instr.stop (ent 0) true).wf = true := by decide
theorem test_wf_reports : (Instr.authenticationDone [⟨0, 1, 4⟩] true).wf = false ∧ (Instr.authenticationDone [⟨8, 1, 0⟩] true).wf = false ∧
    (Instr.bootSlotDone 0 ⟨2 ^ 16, none, .corePll, 0⟩).wf = false ∧ (Instr.memoryTrainingDone [8] true).wf = false ∧ (Instr.timeBeacon [(8, 0)]).wf = false ∧
    (Instr.vrAlert [(8, 0)]).wf = false ∧ (Instr.samplePeriod [(64, 0)]).wf = false := by decide
theorem test_wf_registers : (Instr.registerWrite (.page 32 0 0)).wf = false ∧ (Instr.registerWrite (.page 0 (2 ^ 16) 0)).wf = false ∧
    (Instr.registerWrite (.boot 0 (2 ^ 32))).wf = false ∧ (Instr.registerWrite (.config 32 .d3hot true)).wf = false ∧
    (Instr.registerWrite (.entry .mcan 0 256 [])).wf = false ∧ (Instr.apertureWrite (2 ^ 32) []).wf = false := by decide
theorem test_wf_keypad : (Instr.secureEntryStart ⟨2 ^ 16, 0, 0, [], []⟩).wf = false ∧ (Instr.secureEntryStart ⟨0, 16, 0, [], []⟩).wf = false ∧
    (Instr.secureEntryStart ⟨0, 0, 8, [], []⟩).wf = false ∧ (Instr.secureEntryStart ⟨0, 0, 0, [512], []⟩).wf = false := by decide
theorem test_wf_measured : (Instr.passDone 0 [⟨5, 0, 0, []⟩]).wf = false ∧ (Instr.passDone 136 []).wf = false ∧ (Instr.selfFrameDone 0 [⟨16, []⟩]).wf = false ∧
    (Instr.ack 0 ⟨2048, [], true, 0, 0⟩).wf = false ∧ (Instr.ack 64 ⟨0, [], true, 0, 0⟩).wf = false ∧ (Instr.wakeFrame 2048 false [] false false).wf = false := by decide
theorem test_wf_queues : (Instr.laneRead (ent 0) ⟨2 ^ 16, 1, 1, 0, 0, [], true⟩).wf = false ∧ (Instr.laneRead (ent 0) ⟨0, 256, 1, 0, 0, [], true⟩).wf = false ∧
    (Instr.copy (ent 0) (2 ^ 16) ⟨0, 0, 0, 0, true, none⟩).wf = false ∧ (Instr.append (ent 0) ⟨2 ^ 64, 0, 0, 0, true, none⟩).wf = false ∧
    (Instr.check (ent 0) ⟨0, 0, 2 ^ 32, 0, true, none⟩).wf = false ∧ (Instr.sqTail 0 16 0).wf = false := by decide
theorem test_wf_numbers : (Instr.wcall 32 .user [] 11).wf = false ∧ (Instr.hpdRising 16).wf = false ∧ (Instr.spriteStateWrite .mcan 128 0).wf = false ∧
    (Instr.updateArrival 128).wf = false ∧ (Instr.reflexTrigger 16).wf = false ∧ (Instr.toneRequest 8).wf = false ∧ (Instr.silenceHoldExpiry 192).wf = false ∧
    (Instr.recoveryExpiry 2048).wf = false ∧ (Instr.groupTimeout 16).wf = false ∧ (Instr.dmi 0 0 4).wf = false := by decide

/-! ### The rules' numbers -/

/-- The words the table gives no bits: no command is spelled by a word. -/
theorem test_no_words : decodeTableWord 16 0x1234 = none := by decide
/-- R126, R123: an entry that does not exist, a read-only entry, a value of the wrong length. -/
theorem test_checks : dev.checkWrite fw 0xFFFF 0 [] = 0x0203 ∧ dev.checkWrite fw 0x2100 1 [0] = 0x0101 ∧ dev.checkWrite box 0x2100 7 [0xA5, 0] = 0x0202 := by decide +kernel
/-- R106: 0xA5 resets the device with cause 6. -/
theorem test_device_reset : dev.admits box 0x2100 7 [0xA5] = true ∧ (dev.powered 6 false).reg 0x2100 4 = 6 := by decide +kernel
/-- R206: the ring is full when one slot is left. -/
theorem test_ring_full : ({ tail := 62, head := 63 } : Evq).full = true ∧ ({ tail := 63, head := 0 } : Evq).full = true ∧ ({ tail := 61, head := 63 } : Evq).full = false := by decide


/-! ### Witnesses: for each statement with hypotheses, states and operands that meet those of its clauses -/

theorem witness_IdleStepIsOneTick : State.reset.pending = [] ∧ State.reset.timeRuns = false ∧ ({ State.reset with timeRuns := true } : State).timeRuns = true := by decide

def porOut : State := { State.reset with boot := { porReleased := true } }
def resetLow : State := { State.reset with boot := { resetHigh := false } }
theorem witness_ResetPinsAndStraps :
    (State.reset.boot.porReleased = false ∧ State.reset.powerState ≠ 4) ∧ resetLow.boot.resetHigh = false ∧ State.reset.boot.perstHigh = false ∧
    (porOut.boot.porReleased = true ∧ porOut.boot.resetHigh = true ∧ porOut.boot.strapsSampled = false ∧ porOut.powerState ≠ 4 ∧ porOut.bootState = 0 ∧
      porOut.power.railsWait = none ∧ 15 < 16) := by decide

def asleep (n : Nat) : State := setRegs porOut [(0x2400, 1, n)]
def leaving (n : Nat) : State := { State.reset with power := { railsWait := some 9, exitFrom := n } }
theorem witness_WhatEntersPowered :
    (Rail.shell ≠ .aon ∧ Rail.shell ≠ .io18 ∧ porOut.boot.porReleased = true ∧ porOut.powerState < 3) ∧
    ((asleep 3).boot.porReleased = true ∧ (asleep 3).powerState = 3 ∧ Rail.sram = .sram) ∧ (asleep 4).powerState = 4 ∧
    ((asleep 3).powerState = 3 ∧ Rail.pcie ≠ .sram ∧ Rail.pcie ≠ .vdd1 ∧ Rail.pcie ≠ .vdd2h ∧ Rail.pcie ≠ .vddq) ∧
    ((leaving 4).power.railsWait = some 9 ∧ (leaving 4).power.exitFrom = 4) ∧ ((leaving 3).power.railsWait = some 9 ∧ (leaving 3).power.exitFrom ≠ 4) := by decide
theorem witness_SwitchedRailsTimeout : ((leaving 4).power.railsWait = some 9 ∧ (leaving 4).power.exitFrom = 4) ∧
    ((leaving 3).power.railsWait = some 9 ∧ (leaving 3).power.exitFrom = 3) ∧
    ((leaving 0).power.railsWait = some 9 ∧ (leaving 0).power.exitFrom ≠ 3 ∧ (leaving 0).power.exitFrom ≠ 4) := by decide

def strapped (n src : Nat) : State := setRegs { booting n with boot := { strapsSampled := true, perstHigh := true } } [(0x2002, 1, src)]
def failed : State := { dev with health := { stopped := true } }
theorem witness_PerstAssertion : (asleep 4).powerState = 4 ∧ (failed.powerState ≠ 4 ∧ failed.health.stopped = true) ∧
    (dev.powerState ≠ 4 ∧ dev.health.stopped = false ∧ dev.operational = true) ∧
    ((strapped 2 0).powerState ≠ 4 ∧ (strapped 2 0).health.stopped = false ∧ (strapped 2 0).operational = false ∧ (strapped 2 0).boot.strapsSampled = true ∧
      (strapped 2 0).reg 0x2002 1 ≠ 1) ∧ ((strapped 2 1).reg 0x2002 1 = 1 ∧ (strapped 2 1).powerState ≠ 4 ∧ (strapped 2 1).health.stopped = false ∧
      (strapped 2 1).operational = false ∧ (strapped 2 1).boot.strapsSampled = true) := by decide

def romReady (src : Nat) : State := { strapped 1 src with boot := { strapsSampled := true, ltssm := true } }
theorem witness_RomStates :
    ((strapped 0 0).bootState = 0 ∧ (strapped 0 0).powerState = 0 ∧ (strapped 0 0).boot.strapsSampled = true ∧ (strapped 0 0).boot.resetHigh = true ∧
      (strapped 0 0).boot.perstHigh = true) ∧ (strapped 0 1).reg 0x2002 1 = 1 ∧
    ((romReady 0).boot.ltssm = true ∧ (romReady 0).bootState = 1 ∧ (romReady 0).reg 0x2002 1 = 0 ∧ (romReady 0).boot.clearing = false) ∧
    ((romReady 1).bootState = 1 ∧ (romReady 1).reg 0x2002 1 = 1 ∧ (romReady 1).boot.clearing = false) := by decide

def window (clearing : Bool) : State := { booting 2 with boot := { memorySpace := true, ltssm := true, clearing := clearing } }
theorem witness_BootWindow :
    ((window false).windowOpen = true ∧ (window false).bootState = 2 ∧ 0x3FFFFC + [1, 2, 3, 4].length ≤ 0x400000 ∧ (window false).boot.clearing = false) ∧
    ((window true).windowOpen = true ∧ (window true).bootState = 2 ∧ (window true).boot.clearing = true) ∧ State.reset.bootState ≠ 2 ∧
    (window false).reg 0x2002 1 = 0 ∧ (3 ≤ (booting 8).bootState ∧ (booting 8).bootState ≤ 8) := by decide

theorem witness_AuthenticationEnds : (booting 3).bootState = 3 ∧ (booting 3).imageCheck (booting 3).boot.latchedImage (booting 3).boot.latchedRing = some 0x0201 := by
  decide +kernel

def joining : State := { booting 4 with boot := { awaitingReady := [7], reachable := List.range 8 } }
theorem witness_MembersJoin : (joining.bootState = 4 ∧ 7 ∈ joining.boot.awaitingReady) ∧ ((booting 4).bootState = 4 ∧ (booting 4).boot.awaitingReady = []) ∧
    (∀ d, d < joining.dies → d ∈ joining.boot.reachable) ∧ joining.boot.awaitingReady ≠ [] := by decide

def slots (cores : List Nat) (shell0 : Nat) : State := setRegs (booting 5) (cores.map (fun d => (0x2008 + d, 2, 2)) ++ [(0x2008, 3, shell0)])
def lastSlot : State := { slots [0] 2 with boot := { slotsDone := [1, 2, 3, 4, 5, 6, 7] } }
theorem witness_BootSlots : ((slots [0, 1] 2).bootState = 5 ∧ (slots [0, 1] 2).nextSlot = some 1 ∧ (slots [0, 1] 2).nextSlot ≠ some 0) ∧ (lastSlot.bootState = 5 ∧ lastSlot.nextSlot = some 0) ∧
    ((slots [2] 2).coreActive 0 = false ∧ (slots [2] 2).coreActive 1 = false) ∧ ((slots [0] 2).coreActive 0 = true ∧ (slots [0] 2).shellUp 0 = true) ∧
    ((slots [1] 2).coreActive 0 = false ∧ (slots [1] 2).coreActive 1 = true ∧ (slots [1] 2).shellUp 0 = true ∧ (slots [1] 2).shellUp 1 = true) ∧
    ((slots [0] 3).coreActive 0 = true ∧ (slots [0] 3).shellUp 0 = false) := by decide +kernel

def ringGiven : State := { booting 7 with boot := { latchedRing := 68 } }
theorem witness_TrainingAndInitialRing : ((booting 6).bootState = 6 ∧ 0 ∈ [0, 3]) ∧ (0 ∉ [3] ∧ (booting 6).trunk ∉ [3]) ∧
    ((booting 7).bootState = 7 ∧ (booting 7).boot.latchedRing = 0) ∧
    (ringGiven.bootState = 7 ∧ ringGiven.boot.latchedRing ≠ 0 ∧ (ringGiven.ringImageCheck (ringGiven.bootBytes ringOffset ringGiven.boot.latchedRing)).1 ≠ Status.ok) := by
  decide +kernel

def rescue : State := { booting 2 with mcan := { serving := true } }
def versioned : State := setRegs dev [(0x2101, 2, 5)]
theorem witness_BootObjects :
    (rescue.admits .mcan 0x2104 0 [1, 2] = true ∧ rescue.mcan.serving = true ∧ rescue.bootState = 2 ∧ rescue.boot.clearing = false ∧ rescue.powerState ≠ 2 ∧
      rescue.reg 0x2408 1 ≠ 1 ∧ rescue.trunk = 0) ∧ rescue.admits .mcan 0x2105 0 [1, 2] = true ∧ rescue.admits .mcan 0x2106 0 (leBytes 1 1) = true ∧ (0x2104 ≤ 0x2106 ∧ dev.mcan.serving = false ∧ ({ rescue with live := dev.live } : State).bootState ≠ 2) ∧
    dev.admits box 0x2100 7 (leBytes 1 0xA5) = true ∧ (255 < 256 ∧ 255 ≠ 0xA5 ∧ dev.reaches box 0x2100 7 (leBytes 1 255) = true) ∧
    (versioned.admits fw 0x2102 2 (leBytes 1 5) = true ∧ (versioned.admitted fw 0x2102 2 (leBytes 1 5)).fuses.securityCount < 5 ∧
      5 ≤ (versioned.admitted fw 0x2102 2 (leBytes 1 5)).reg 0x2101 2) ∧
    (3 ≤ 3 ∧ dev.admits fw 0x2102 4 (leBytes 1 3) = true ∧ 3 ≠ (dev.admitted fw 0x2102 4 (leBytes 1 3)).reg 0x2101 3) := by decide +kernel

/-- Every link of the part up at x16. -/
def linked : State := { dev with fabric := { links := (Part.links .ux3816).map (fun k => (k, 3)) } }
theorem witness_LinksAndRoutes : (linked.fabricUp = true ∧ linked.part ≠ .ux3804 ∧ linkKey 0 1 ∈ linked.part.links ∧ 2 ≤ linked.linkCode (linkKey 0 1)) ∧
    (linked.nextHop 0 1 = some 1 ∧ 0 < linked.dies ∧ 1 < linked.dies) ∧
    (∃ c, linked.part.cross 0 = some c ∧ linked.joined 0 c = true ∧ (linked.hops c c).map (· + 1) = linked.hops 0 c ∧ linked.nextHop 0 c = some c) := by decide +kernel

def ptm : State := { dev with active := [(entryKey 0x2010 2, .num 1)] }
def ticking : State := { dev with timeRuns := true, fabric := { aligned := true } }
theorem witness_TimeShown : (ticking.timeRuns = true ∧ (7, (-3 : Int)) ∈ [(7, (-3 : Int))] ∧ 7 < ticking.dies ∧ 7 ≠ ticking.trunk ∧ ticking.shellUp 7 = true ∧ ticking.fabric.aligned = true ∧
      ∀ c, c < ticking.dies → ∀ d, d < ticking.dies → (ticking.skewOf c - ticking.skewOf d).natAbs ≤ 8) ∧
    (ptm.serving = true ∧ ptm.cfg 0x2010 2 = 1) ∧ ({ dev with active := [(entryKey 0x2010 2, .num 0)] } : State).cfg 0x2010 2 ≠ 1 ∧ dev.pageWritable 0 = true := by decide +kernel

theorem witness_RequestChecks : lookup dev.part 0xFFFF 0 = none ∧ (lookup dev.part 0x2100 7).isSome = true ∧
    (dev.dir.blocked = [] ∧ dev.dir.running = none ∧ dev.dir.queued = [] ∧ 0x2100 ≠ 0x1F12 ∧ dev.operational = true ∧ dev.health.succession = false ∧
      dev.writeStatus box 0x2100 7 [] ≠ Status.ok ∧ ∃ t, exec (.write box 0x2100 7 []) dev = .next t) :=
  ⟨by decide +kernel, by decide +kernel, by decide, by decide, by decide, by decide, by decide, by decide, by decide +kernel, _, rfl⟩

def busyBox : State := dev.modInst 0 (fun x => { x with mbox := { outstanding := true } })
theorem witness_SingleRequests : (0x2100 ≠ 0x1F12 ∧ dev.admits box 0x2100 7 [0xA5] = true ∧ (lookup dev.part 0x2100 7).isSome = true) ∧
    (dev.transportOpen box = true ∧ requestFits box (.read 0x2100 1 .active) = true ∧ box ≠ .mcan ∧ View.draft ≠ .active ∧ dev.operational = true ∧ dev.health.succession = false ∧
      (dev.takeRequest box (.read 0x2100 1 .active)).1 = true ∧
      (dev.takeRequest box (.describe 0x2100 1)).1 = true) ∧ State.reset.transportOpen box = false ∧ (busyBox.inst 0).mbox.outstanding = true := by decide +kernel

def twoGains : List GroupWrite := [⟨0x6900, 1, [0, 0]⟩, ⟨0x6901, 1, [0, 0]⟩]
def grouped (es : List GroupWrite) (w : List Nat) (T : Option Nat) : State :=
  { dev with dir := { running := some { req := fw, entries := es, accepted := 0, dies := es.map (fun _ => 0), waiting := w, commitT := T } } }
def versionSet : List GroupWrite := [⟨0x2111, 1, leBytes 4 9⟩]
def badSet : List GroupWrite := versionSet ++ [⟨0x2100, 1, [0]⟩]
theorem witness_WriteGroups :
    (dev.transportOpen fw = true ∧ fw ≠ .mcan ∧ dev.operational = true ∧ dev.health.succession = false ∧ dev.takeRequest fw (.writeGroup twoGains) = (true, dev) ∧ dev.dir.running = none ∧
      dev.dir.queued = [] ∧ dev.dir.blocked = [] ∧ twoGains ≠ [] ∧ twoGains.length ≤ 64 ∧ (twoGains.map (fun e => e.data.length)).sum ≤ 4096) ∧
    dev.trunkWake.groupChecks fw 1 [] twoGains = none ∧ ((dev.trunkWake.groupChecks fw 1 [] [⟨0xFFFF, 0, []⟩]).map (·.1) = some 1) ∧
    (∀ g ∈ (grouped twoGains [0] none).dir.running, g.waiting = [0] ∧ g.failWith = 0 ∧ g.commitT = none ∧ (grouped twoGains [0] none).health.succession = false ∧
      (grouped twoGains [0] none).coreActive 0 = true ∧ (grouped twoGains [0] none).now ≤ g.sentAt + ms 2) ∧
    (∀ g ∈ (grouped versionSet [0] none).dir.running, (grouped versionSet [0] none).prepareResult g 0 = none) ∧
    (∀ g ∈ (grouped badSet [0] none).dir.running, ((grouped badSet [0] none).prepareResult g 0).map (fun r => (r.1, decide (r.2 ≠ Status.deniedSecureClaim ∧ r.2 ≠ 0))) = some (2, true)) ∧
    (grouped twoGains [] (some 20000)).dir.running.map (·.commitT) = some (some 20000) ∧ (grouped twoGains [] (some 20000)).dir.reads = [] ∧
    (Status.timeout ≠ Status.ok ∧ Status.timeout ≠ Status.degraded ∧ (grouped twoGains [] none).dir.queued = [] ∧ (grouped twoGains [] none).dir.blocked = []) := by
  decide +kernel

def getGroup : List GroupRead := [⟨0x2100, 1, .active⟩, ⟨0x2100, 4, .active⟩]
def reading (w : Option WriteGroup) : State := { dev with dir := { running := w, reads := [{ req := fw, entries := getGroup, captureT := 20000 }] } }
def applying : WriteGroup := { req := fw, entries := twoGains, accepted := 0, commitT := some 20000 }
def held69 : State := { dev with dir := { running := some { applying with commitT := none, dies := [0, 0] } } }

theorem witness_ReadGroupsAndWaits :
    (dev.transportOpen fw = true ∧ fw ≠ .mcan ∧ dev.operational = true ∧ dev.health.succession = false ∧ dev.dir.blocked = [] ∧ dev.takeRequest fw (.readGroup getGroup) = (true, dev) ∧
      getGroup ≠ [] ∧ getGroup.length ≤ 64 ∧ (∀ e ∈ getGroup, dev.checkRead fw e.idx e.sub e.view = Status.ok)) ∧
    ((reading none).dir.reads.length = 1 ∧ (reading none).dir.running = none ∧ (reading none).health.succession = false ∧ ({ reading none with health := { succession := true } } : State).health.succession = true ∧
      ((State.arriveAt { reading none with dir := { (reading none).dir with reads := [] } } 20000).captureEach fw 1 [⟨0xFFFF, 0, .active⟩] []).1.1 ≠ Status.ok ∧
      ((State.arriveAt { reading none with dir := { (reading none).dir with reads := [] } } 20000).captureEach fw 1 getGroup []).1.1 = Status.ok) ∧
    ((reading (some applying)).dir.running = some applying ∧ applying.commitT = some 20000 ∧ (reading (some { applying with commitT := none })).dir.running.map (·.commitT) = some none) ∧
    (dev.transportOpen box = true ∧ requestFits box (.read 0x2100 1 .active) = true) ∧ (dev.takeRequest box (.read 0x2100 1 .active)).1 = true ∧ dev.checkRead box 0x2100 1 .active = Status.ok ∧
    (held69.transportOpen fw = true ∧ held69.writeStatus fw 0x6900 1 [0, 0] = Status.ok ∧ 0x6900 ≠ 0x1F12 ∧ held69.entryReserved 0x6900 1 = true ∧ held69.dir.blocked = []) := by
  decide +kernel

def ringed (phase version : Nat) : State := { setRegs dev [(0x2110, 6, phase), (0x2110, 7, 500), (0x2111, 1, version)] with previous := some {} }
theorem witness_RingCommands :
    (600 < 65536 ∧ (ringed 0 5).admits fw 0x2112 1 (leBytes 2 600) = true ∧ (ringed 0 5).admits fw 0x2112 1 (leBytes 2 0xFFFF) = true ∧ ((ringed 0 5).admitted fw 0x2112 1 (leBytes 2 600)).ringPhase = 0 ∧
      (ringed 0 5).versionHigh < (ringed 0 5).reg 0x2111 1 ∧ (ringed 0 0).reg 0x2111 1 ≤ (ringed 0 0).versionHigh) ∧
    ((ringed 2 5).admits fw 0x2112 2 (leBytes 4 0) = true ∧ (ringed 2 5).ringPhase = 2 ∧ (ringed 2 5).now ≤ (ringed 2 5).reg 0x2110 7 ∧ 0 = (ringed 2 5).ringVersion) ∧
    ((ringed 0 5).admits fw 0x2112 3 (leBytes 1 1) = true ∧ (ringed 0 5).previous ≠ none ∧ dev.previous = none ∧ (ringed 1 5).admits fw 0x2112 3 (leBytes 1 1) = true ∧ (ringed 1 5).ringPhase = 1) ∧
    ((ringed 0 5).admits fw 0x2111 3 (leBytes 1 1) = true ∧ (ringed 2 5).admits fw 0x2111 3 (leBytes 1 2) = true ∧ dev.admits fw 0x2111 3 (leBytes 1 3) = true) ∧
    ((ringed 0 5).admits fw 0x2111 4 [] = true ∧ ((ringed 0 5).ringImageCheck []).1 ≠ Status.ok) := by decide +kernel

def ringBusy (phase : Nat) (w : RingWork) : State := { ringed phase 5 with ringWork := some w }
/-- A draft is refused or not, so one of the two clauses on RING_PREPARE_DONE is met whatever the draft (evaluating every check of the default ring takes the kernel minutes). -/
theorem witness_RingOutcomes_draft (s : State) : s.refusals s.draft = [] ∨ ∃ r, lowestRefused (s.refusals s.draft) = some r := by
  cases s.refusals s.draft with
  | nil => exact .inl rfl
  | cons a as => exact .inr (by unfold lowestRefused; split <;> exact ⟨_, rfl⟩)
theorem witness_RingOutcomes :
    ((ringBusy 1 {}).ringWork = some {} ∧ (ringBusy 1 {}).ringPhase = 1 ∧ (ringBusy 1 {}).health.succession = false ∧ ({} : RingWork).decided = false ∧ ({} : RingWork).timedOut = []) ∧
    ((ringBusy 1 { waiting := [0, 7] }).ringPhase = 1 ∧ 7 ∈ [0, 7] ∧ [0, 7].erase 7 = 0 :: [] ∧ [7].erase 7 = []) ∧
    ((ringBusy 1 { decided := true, timeoutS := 0 }).ringWork = some { decided := true, timeoutS := 0 } ∧ (ringBusy 1 { decided := true, timeoutS := 30 }).ringPhase = 1) ∧
    ((ringed 2 5).ringPhase = 2 ∧ (ringed 2 5).reg 0x2110 7 ≠ 0) ∧ ((ringBusy 3 {}).previous = some {} ∧ (ringBusy 3 {}).ringPhase = 3) ∧
    (dev.serviceStatus (0x690001 / 256) ≠ Status.hwFault) := by decide +kernel

def beating : State := { can with mcan := { heartbeatDue := some 9 } }
theorem witness_NmtHeartbeatWake : (can.mcanRuns = true ∧ 16 = can.nodeId ∧ can.nmtState ≠ 4) ∧ (17 ≠ 0 ∧ 17 ≠ can.nodeId) ∧
    (beating.mcan.heartbeatDue = some 9 ∧ beating.mcanRuns = true ∧ beating.health.succession = false) ∧
    (can.operational = true ∧ can.health.stopped = false ∧ [0x57, 16].length = 2 ∧ field [0x57, 16] 0 1 = 0x57 ∧ field [0x57, 16] 1 1 = can.nodeId ∧
      field [0x57, 0] 1 1 = 0 ∧ ({ can with active := [(entryKey 0x1F10 7, .num 1)] } : State).cfg 0x1F10 7 = 1 ∧ 0x7FF ≠ can.cfg 0x1F10 6) := by decide +kernel

def emcy (code : Nat) : Emcy := ⟨code, 1, 0, 0, 0, 0, 0, 0, 0⟩
def sending (r : Option Emcy) : State := { can with mcan := { queue := if r.isSome then [] else [emcy 0x8120], replacement := r } }
def repeating (r : Option Emcy) : State := { setRegs can [(0x2700, 1, 1)] with mcan := { repeatDue := some 7, firstRequest := some (emcy 0xFF01), replacement := r } }
theorem witness_EmcyAndErrors : can.serving = true ∧ (can.mcanRuns = true ∧ can.reg 0x1F11 3 ≠ 1 ∧ (setRegs can [(0x1F11, 3, 1)]).mcanRuns = true ∧ (setRegs can [(0x1F11, 3, 1)]).reg 0x1F11 3 ≠ 0) ∧ (7 < 8 ∧ 7 ≠ 0) ∧
    ((emcy 0x8120).code ≠ 0xFF01 ∧ (sending none).mcan.queue.length < 15 ∧ 15 ≤ ({ queue := List.replicate 15 (emcy 1) } : Mcan).queue.length ∧ (emcy 0xFF01).code = 0xFF01) ∧
    ((sending none).nextEmcy = some (emcy 0x8120) ∧ (sending none).emcyOpen = true ∧ (sending none).mcan.replacement ≠ some (emcy 0x8120)) ∧
    ((sending (some (emcy 0xFF01))).nextEmcy = some (emcy 0xFF01) ∧ (sending (some (emcy 0xFF01))).emcyOpen = true) ∧
    ((repeating none).mcan.repeatDue = some 7 ∧ (repeating none).mcan.firstRequest = some (emcy 0xFF01) ∧ (repeating none).operational = true ∧ (repeating none).health.stopped = false ∧
      (repeating none).healthState = 1 ∧ (repeating (some (emcy 0xFF01))).mcan.replacement ≠ none ∧
      ({ repeating none with active := [(entryKey 0x1F10 0xA, .num 0)] } : State).cfg 0x1F10 0xA = 0 ∧ ({ repeating none with active := [(entryKey 0x1F10 0xA, .num 9)] } : State).cfg 0x1F10 0xA ≠ 0) := by decide +kernel

def session (down : Bool) : UsdoSession := { id := 3, idx := 0x2104, sub := 0, download := down, deadline := 10 }
def sessions (down : Bool) (n : Nat) : State := { can with mcan := { sessions := session down :: List.replicate (n - 1) { session down with id := 4 } } }
def rescueSession : State := { rescue with mcan := { serving := true, sessions := [session true] } }
theorem witness_UsdoTransfers :
    (can.usdoServed = true ∧ ((can.submit .mcan (.read 0x2100 1 .active)).out.usdo.getLast?.map (fun a => (a.abort, decide (a.body.length ≤ 56)))) = some (none, true) ∧
      (can.submit .mcan (.read 0x2100 1 .active)).mcan.sessions = can.mcan.sessions ∧ can.session? 3 = none ∧ can.mcan.sessions.length < 4) ∧
    ((sessions true 4).session? 9 = none ∧ 4 ≤ (sessions true 4).mcan.sessions.length ∧ (sessions true 4).usdoServed = true) ∧
    ((sessions true 1).session? 3 = some (session true) ∧ (sessions true 1).now ≤ 10 ∧ (session true).download = true) ∧
    ((sessions false 1).session? 3 = some (session false) ∧ (session false).download = false) ∧
    (rescueSession.session? 3 = some (session true) ∧ rescueSession.usdoServed = true ∧ rescueSession.bootState = 2) ∧ dev.usdoServed = false ∧
    (can.usdoServed = true ∧ can.operational = true ∧ can.health.succession = false ∧ can.writeStatus .mcan 0x1F12 0 [1] = Status.ok ∧ can.mcan.tunnelRunning = false ∧
      ({ can with mcan := { tunnelRunning := true } } : State).mcan.tunnelRunning = true) := by decide +kernel

/-! ### Host -/

def sqOn (i : Nat) : State := queued dev i 6 0
def sqAsleep : State := setRegs (sqOn 0) [(0x2400, 1, 2)]
def frozenSq : State := setRegs (sqOn 1) [(0x2201, 1, 5)]
theorem witness_SubmissionQueues :
    ((sqOn 0).pageWritable 0 = true ∧ 15 < 16 ∧ ((sqOn 0).sq 0 0).enabled = true ∧ ((sqOn 0).sq 0 0).stopped = false ∧ (sqOn 0).isShed 0 = false ∧ 15 % 65536 < ((sqOn 0).sq 0 0).size ∧
      (sqOn 0).powerState ≠ 2 ∧ ((sqOn 0).sq 0 0).size ≤ 16 % 65536) ∧ (sqAsleep.powerState = 2 ∧ sqAsleep.pageWritable 0 = true) ∧
    (frozenSq.isShed 1 = true ∧ frozenSq.pageWritable 1 = true) ∧
    (dev.pageWritable 0 = true ∧ (dev.sq 0 15).enabled = false ∧ (0x80060000#32 : Word32).getLsbD 31 = true ∧ dev.enableStatus 0 15 0x80060000#32 = Status.ok ∧
      dev.enableStatus 0 15 0x80070000#32 ≠ Status.ok) ∧ ((queued dev 1 2 15).sq 1 0).type ≠ 3 ∧ ((queued dev 1 2 15).sq 1 0).type ≠ 4 ∧ ((queued dev 1 2 15).sq 1 0).type ≠ 6 ∧ ((queued dev 1 6 15).sq 1 0).type = 6 ∧
    ((({ queued dev 1 6 15 with haptics := [(15, { play := some { inst := 2, q := 0, tag := 3, completion := true, effect := 0, scale := 1, dueAt := 9, placed := false } })] } : State).discardUnstarted 1 0).hap 15).play.isSome = true := by decide +kernel

def ringOn (i head tail : Nat) : State := dev.modInst i (fun x => { x with
  evq := { config := 0x80000000#32, head := head, tail := tail, moderation := 10, lastIrq := some 0 }, msixEnabled := true, msixSize := 2,
  vectors := [(1, { masked := false })] })
theorem witness_EventRingControl : (1 ≠ 0 ∧ dev.pageWritable 1 = true ∧ (dev.inst 1).evq.enabled = false ∧ (0x80000000#32 : Word32).getLsbD 31 = true ∧ dev.evqOk 1 0x80000000#32 = true ∧
      dev.evqOk 1 0x800B0000#32 = false) ∧ (dev.pageWritable 0 = true ∧ (dev.inst 0).evq.enabled = false ∧ dev.evqOk 0 0x800A0000#32 = true) ∧
    ((ringOn 1 0 1).pageWritable 1 = true ∧ ((ringOn 1 0 1).inst 1).evq.enabled = true ∧ ((ringOn 1 0 1).inst 1).evq.head ≠ ((ringOn 1 0 1).inst 1).evq.tail ∧
      ((ringOn 1 0 1).inst 1).evq.moderation ≠ 0 ∧ ((ringOn 1 0 1).inst 1).evq.lastIrq = some 0) := by decide +kernel

theorem witness_EventDelivery : ((ringOn 1 0 62).operational = true ∧ (ringOn 1 0 62).health.stopped = false ∧ (ringOn 1 0 62).health.succession = false ∧ (ringOn 1 0 62).isShed 1 = false ∧
      ((ringOn 1 0 62).inst 1).evq.enabled = true ∧ ((ringOn 1 0 62).inst 1).evq.full = false) ∧ ((ringOn 1 0 63).inst 1).evq.full = true ∧ (dev.inst 1).evq.enabled = false ∧
    (frozenSq.operational = true ∧ frozenSq.health.stopped = false ∧ frozenSq.health.succession = false ∧ frozenSq.isShed 1 = true ∧ (frozenSq.inst 1).held.length < 512) ∧ State.reset.operational = false ∧
    (((ringOn 1 0 0).inst 1).msixEnabled = true ∧ 1 < ((ringOn 1 0 0).inst 1).msixSize ∧ ((ringOn 1 0 0).inst 1).functionMask = false ∧
      (Tab.getD ((ringOn 1 0 0).inst 1).vectors 1 {}).masked = false ∧ (Tab.getD ((ringOn 1 0 0).inst 1).vectors 0 {}).masked = true) := by decide +kernel

def mapped : State := mapAll (setRegs dev [(0x2200, 4, 1), (0x2201, 4, 1)]) 1 16
def booted : State := { booting 2 with boot := { ltssm := true } }
def claimsHead : State := { dev with worlds := { claims := [⟨1, 1, 15⟩], perm := [(0x1000000, 1)] } }
theorem witness_HostAccess : (mapped.pageOpen 1 = true ∧ mapped.isShed 1 = false ∧ 1048572 + [1, 2, 3, 4].length ≤ (if 1 = 0 then 2 ^ 32 else 2 ^ 28) ∧
      mapped.idaOk 1 (mapped.reg (0x2200 + 1) 0x11 * 1048576 + 1048572) [1, 2, 3, 4].length = true) ∧
    mapped.idaOk 1 (mapped.reg (0x2200 + 1) 0x11 * 1048576 + 1048573) 4 = false ∧ (0x14 ≠ 0x10 ∧ bit 1 0 = true ∧ dev.operational = true ∧ booted.boot.ltssm = true ∧ mapped.pageWritable 1 = true) ∧
    (State.reset.boot.ltssm = false ∧ State.reset.operational = false) ∧
    (claimsHead.cpuRuns 31 = true ∧ (claimsHead.cpu 31).world = .normal ∧ 7 < claimsHead.dies ∧ claimsHead.targetServes (.control 7) = true ∧ claimsHead.blockRefuses (.power 1 15) .normal = true ∧
      claimsHead.blockRefuses .claimTable .normal = true ∧ claimsHead.blockRefuses (.power 1 14) .normal = false) ∧
    (dev.cpuRuns 0 = true ∧ (dev.cpu 0).world = .secure ∧ dev.targetServes (.control 0) = true ∧ dev.targetAt (4096 * 0x1000000) = some (.stack 0)) ∧
    (claimsHead.busOutcome (claimsHead.coreAttr 31) 0x1000000FFC true = .refused ∧ claimsHead.busOutcome (claimsHead.coreAttr 31) 0x1000001000 true = .done ∧
      claimsHead.targetAt 0x1000001000 = some (.stack 0)) := by decide +kernel

def vfs : State := { dev with vfEnable := true, numVfs := 31 }
theorem witness_Instances : (dev.operational = true ∧ dev.vfEnable = false ∧ 31 ≤ 31) ∧ (vfs.operational = true ∧ vfs.vfEnable = true ∧ 30 < vfs.numVfs) ∧
    (31 < 32 ∧ dev.instState 1 = 1 ∧ (setRegs dev [(0x2201, 1, 4)]).instState 1 = 4) ∧ (setRegs dev [(0x2201, 1, 2)]).instState 1 = 2 ∧ dev.instState 31 = 0 ∧
    (31 < 32 ∧ 1 < 256 ∧ dev.admits fw (0x2200 + 1 * 31) 0x15 (leBytes 1 1) = true) ∧ ([⟨0x2201, 6, [1, 0]⟩, ⟨0x2202, 6, [0, 0]⟩] : List GroupWrite).length ≠ 1 ∧
    (({ takenFrom := some 0 } : Inst)).takenFrom.isSome = true := by decide +kernel

def shedOf (st : Nat) : State := setRegs dev [(0x2221, 1, 1), (0x2201, 1, st), (0x2221, 3, 1), (0x2221, 4, 5)]
def shedRuns (st c : Nat) : State := { shedOf st with shed := { running := some c, target := 1, drainDeadline := if c = 1 then some 5000000 else none } }
def drawing : State := { shedRuns 4 1 with gfx := { dies := [(0, { running := some 0 })], ctxs := [(0, { job := some { inst := 1, q := 0, tag := 5, completion := true, addr := 0, length := 144, parts := [], passes := 1, pass := none, failure := none } })] } }
theorem witness_FreezeAndThaw :
    ((shedOf 1).admits fw 0x2221 2 (leBytes 1 1) = true ∧ ((shedOf 1).admitted fw 0x2221 2 (leBytes 1 1)).shed.running = none ∧ ((shedOf 1).admitted fw 0x2221 2 (leBytes 1 1)).reg 0x2221 1 = 1 ∧
      ((shedOf 1).admitted fw 0x2221 2 (leBytes 1 1)).instState 1 = 1 ∧ (shedOf 5).instState 1 ≠ 1) ∧ (shedRuns 4 1).admits fw 0x2221 2 (leBytes 1 1) = true ∧
    ((shedRuns 4 1).shed.drainDeadline = some 5000000 ∧ (shedRuns 4 1).shed.target < 32 ∧ (shedOf 1).reg 0x2221 1 < 32 ∧
      (∃ c, (drawing.gdie 0).running = some c ∧ drawing.ctxInst c = some drawing.shed.target) ∧ 0 < drawing.dies) ∧
    ((shedRuns 4 1).shed.running = some 1 ∧ (shedRuns 4 1).instState (shedRuns 4 1).shed.target = 4 ∧ (shedRuns 4 1).freezeReady 1 = true) ∧
    ({ shedRuns 4 1 with streams := [(0, { inst := 1, q := 0, tag := 0, completion := false, opcode := 1, body := ⟨0, 0, 1, 0, true, none⟩, data := [] })] } : State).freezeReady 1 = false ∧
    ((shedOf 5).admits fw 0x2221 2 (leBytes 1 2) = true ∧ (shedOf 5).shed.running = none ∧ (shedOf 5).instState ((shedOf 5).reg 0x2221 1) = 5) := by decide +kernel


def saved (room : Nat) : State := setRegs (shedOf 5) [(0x2221, 6, room)]
/-- A buffer holds the image or is smaller (evaluating the image's length takes the kernel minutes). -/
theorem witness_SaveAndRestore_buffer (s : State) : s.requiredBytes ≤ s.reg 0x2221 6 ∨ s.reg 0x2221 6 < s.requiredBytes := le_or_gt _ _
/-- A restore whose sections are applied, with a commit that head 15 has yet to latch or without. -/
def restored (waits : Bool) : State := { shedRuns 6 4 with
  shed := { running := some 4, target := 1, applied := true }
  heads := if waits then [(15, { running := true, pending := [{ inst := 1, q := 0, tag := 5, completion := true, records := [] }] })] else [] }
theorem witness_SaveAndRestore :
    ((saved 1000000).admits fw 0x2221 2 (leBytes 1 3) = true ∧ (saved 1000000).shed.running = none ∧ (saved 1000000).instState ((saved 1000000).reg 0x2221 1) = 5 ∧
      (saved 1000000).reg 0x2221 6 = 1000000 ∧ (shedOf 1).instState 1 ≠ 5) ∧
    (shedRuns 5 3).shed.running = some 3 ∧
    ((shedOf 5).operational = true ∧ (shedOf 5).admits fw 0x2221 2 (leBytes 1 4) = true ∧ (shedOf 5).reg 0x2221 1 < 32 ∧
      ((shedOf 5).shedImageCheck ((shedOf 5).reg 0x2221 1) (shedOf 5).shedSource []).1 ≠ Status.ok) ∧
    ((shedOf 5).shed.running = none ∧ (shedOf 5).instState ((shedOf 5).reg 0x2221 1) = 5) ∧
    ((shedRuns 6 4).shed.running = some 4 ∧ (shedRuns 6 4).instState (shedRuns 6 4).shed.target = 6 ∧ (shedRuns 6 4).shed.applied = false ∧ (restored false).shed.applied = true ∧
      (restored false).restoreShown 1 = true ∧ (restored true).restoreShown 1 = false) ∧
    crc32c (slice [] (65536 * 0) 65536) ≠ (0, (0, 1)).2.2 := by decide +kernel

/-! ### Worlds -/

def cpus (x : CpuCore) : State := { dev with worlds := { cores := [(31, x)], applets := [(1, { dieMask := 0x80 })], nextToken := 4 } }
def calling (v : Nat) (mode : Privilege) : CpuCore := { world := .secure, mode := mode, service := some v }
/-- Core 31 calls applet 1, as it stands. -/
def calls (mode : Privilege) (x : Applet) : State := { cpus (calling 0x10000 mode) with worlds := { (cpus (calling 0x10000 mode)).worlds with applets := [(1, x)] } }
theorem witness_WorldSwitches : (dev.cpuRuns 31 = true ∧ (dev.cpu 31).world = .normal) ∧ ((cpus (calling 2 .machine)).cpuRuns 31 = true ∧ ((cpus (calling 2 .machine)).cpu 31).world = .secure) ∧
    ((cpus { calling 2 .machine with result := some ⟨0, [7]⟩ }).cpu 31).result = some ⟨0, [7]⟩ ∧ Privilege.user ≠ .machine ∧
    (0x2000000B % 128 = 0x0B ∧ 0x2000000B ≠ 0x0000000B ∧ 0x2000000B ≠ 0x0000100B ∧ ((cpus (calling 0x10000 .user)).cpu 31).service = some 0x10000 ∧
      (cpus (calling 0x10000 .user)).cpuRuns 31 = true ∧ ((cpus { world := .secure, mode := .user }).cpu 31).service = none ∧ Privilege.supervisor ≠ .machine) := by decide +kernel

def suspended : State := { cpus { calling 1 .machine with regs := [(10, 3)] } with worlds := { (cpus { calling 1 .machine with regs := [(10, 3)] }).worlds with
  applets := [(1, { dieMask := 0x80, suspended := some 3 })] } }
theorem witness_MonitorServices : (cpus (calling 2 .machine)).serviceOf 31 = some 2 ∧
    ((cpus (calling 0x10000 .machine)).serviceOf 31 = some 0x10000 ∧ ((cpus (calling 0x10000 .machine)).cpu 31).mode = .machine ∧
      0x10000 ≠ 1 ∧ 0x10000 ≠ 2 ∧ (calls .machine { dieMask := 0x80 }).applet? (0x10000 / 65536) = some { dieMask := 0x80 } ∧ bit 0x80 (31 / 4) = true ∧ bit 0x40 (31 / 4) = false ∧
      (calls .machine { dieMask := 0x80, faulted := true }).applet? 1 = some { dieMask := 0x80, faulted := true } ∧ (calls .machine { dieMask := 0x80, suspended := some 3 }).applet? 1 = some { dieMask := 0x80, suspended := some 3 } ∧ (cpus (calling 0x20000 .machine)).applet? (0x20000 / 65536) = none) ∧
    (((cpus (calling 0x10000 .user)).cpu 31).mode = .user ∧ (cpus (calling 0x10000 .user)).serviceOf 31 = some 0x10000 ∧ (cpus (calling 0x10000 .user)).applet? 1 = some { dieMask := 0x80 } ∧ ({} : Applet).faulted = false ∧ 0 + 1 < 10) ∧
    (10 ≤ (if ({ calling 0x10000 .user with resumes := true } : CpuCore).resumes then ({ resumes := 9 } : Applet).resumes + 1 else 0)) ∧
    (suspended.serviceOf 31 = some 1 ∧ (suspended.cpu 31).mode = .machine ∧
      List.find? (fun (e : Nat × Applet) => decide (e.2.suspended = some (Tab.getD (suspended.cpu 31).regs 10 0))) suspended.worlds.applets = some (1, { dieMask := 0x80, suspended := some 3 })) ∧
    ((cpus (calling 1 .machine)).serviceOf 31 = some 1 ∧
      List.find? (fun (e : Nat × Applet) => decide (e.2.suspended = some (Tab.getD ((cpus (calling 1 .machine)).cpu 31).regs 10 0))) (cpus (calling 1 .machine)).worlds.applets = none) ∧
    (((cpus (calling 0x10000 .user)).serviceOf 31).map (· / 65536) = some 1 ∧ ((cpus (calling 2 .machine)).serviceOf 31).map (· / 65536) ≠ some 1) := by decide +kernel

def pad : KeypadRequest := ⟨1, 15, 7, [511], [0]⟩
def claiming (mask : Nat) (cs : List Claim) : State := setRegs { dev with worlds := { applets := [(1, { claimMask := mask })], claims := cs } } [(0x437F, 0x13, 3)]
theorem witness_SecureEntryAndClaims : (claiming 6 []).keypadStatus pad = Status.ok ∧ (claiming 0 []).keypadStatus pad ≠ Status.ok ∧
    ({ claiming 6 [] with worlds := { entry := some pad } } : State).worlds.entry.isSome = true ∧ dev.worlds.entry = none ∧
    ((claiming 6 []).claimStatus 1 [(2, 511)] = Status.ok ∧ (claiming 0 []).claimStatus 1 [(2, 511)] ≠ Status.ok) ∧
    ((claiming 6 []).applet? 1 = some { claimMask := 6 } ∧ 511 < (claiming 6 []).claimCount 2 ∧ bit 6 2 = true ∧ bit 0 2 = false ∧ (claiming 6 [⟨2, 2, 511⟩]).claimed 2 511 = true ∧
      (∀ c ∈ (claiming 6 [⟨2, 2, 511⟩]).worlds.claims, c.cls = 2 → c.resource = 511 → c.applet ≠ 1) ∧ (claiming 6 (List.replicate 64 ⟨2, 2, 0⟩)).claimed 2 511 = false) := by decide +kernel

def slot0Used : State := { dev with fuses := { appletState := 1 } }
theorem witness_AppletKeysAndLoading :
    (dev.admits box 0x2303 2 (List.replicate 48 1) = true ∧ (List.replicate 48 (1 : Byte)).length = 48 ∧ bits (dev.admitted box 0x2303 2 (List.replicate 48 1)).fuses.appletState 1 0 = 0) ∧
    (slot0Used.admits fw 0x2303 2 (List.replicate 48 1) = true ∧ bit slot0Used.fuses.appletState 0 = true ∧ bit slot0Used.fuses.appletState 1 = false ∧ worldOf fw = .secure) ∧
    ({ dev with fuses := { appletState := 3 } } : State).admits fw 0x2303 2 (List.replicate 48 1) = true ∧ (bits slot0Used.fuses.appletState 1 0 ≠ 0 ∧ worldOf box = .normal) ∧
    (1 ≤ 1 ∧ dev.admits fw 0x2303 3 (leBytes 1 1) = true) ∧ (1 < 2 ∧ dev.reaches fw 0x2303 3 (leBytes 1 2) = true) ∧
    (dev.admits fw 0x2304 1 [] = true ∧ (dev.admitted fw 0x2304 1 []).appletStatus [] ≠ Status.ok) := by decide +kernel

def probed (unlocked : Nat) : State := { dev with pins := { trstHigh := true }, worlds := { jtagIr := 0x12, unlocked := unlocked } }
theorem witness_DebugUnlockAndPort : 15 < 16 ∧ ((probed 0).worlds.jtagIr = 0x12 ∧ (probed 0).pins.trstHigh = true ∧ dev.pins.trstHigh = false) ∧
    ((probed 0).scanOpen = false ∧ (probed 2).scanOpen = true ∧ (probed 0).debugResponseOk [] = false) ∧
    ((probed 2).cpuRuns 31 = true ∧ (probed 2).invasive ((probed 2).cpu 31).world = true ∧ (probed 0).invasive .normal = false ∧ (probed 0).invasive ((probed 0).cpu 31).world = false) ∧
    (dev.admits fw 0x2301 5 (List.replicate 100 0) = true ∧ dev.debugResponseOk (List.replicate 100 0) = false ∧ dev.worlds.challenge = none) ∧
    (dev.admits fw 0x2301 6 (leBytes 1 1) = true ∧ dev.reaches fw 0x2301 6 (leBytes 1 0) = true) ∧ (State.reset.scanOpen = true ∧ dev.scanOpen = false) ∧ 255 % 256 ∉ [1, 2, 3, 0x10, 0x11, 0x12] := by
  decide +kernel

/-! ### Power and health -/

def powered (st phase : Nat) (p : PowerWork) : State := setRegs { dev with power := p } [(0x2400, 1, st), (0x2400, 3, phase)]
theorem witness_PowerRequests :
    (dev.admits fw 0x2400 2 (leBytes 1 2) = true ∧ (dev.admitted fw 0x2400 2 (leBytes 1 2)).reg 0x2400 3 = 0 ∧ (dev.admitted fw 0x2400 2 (leBytes 1 2)).powerState ≠ 2) ∧
    ((powered 2 0 {}).admits fw 0x2400 2 (leBytes 1 2) = true ∧ ((powered 2 0 {}).admitted fw 0x2400 2 (leBytes 1 2)).powerState = 2 ∧
      ((powered 2 0 {}).admitted fw 0x2400 2 (leBytes 1 2)).reg 0x2400 3 = 0) ∧ ((powered 0 1 {}).admits fw 0x2400 2 (leBytes 1 2) = true ∧ (powered 0 1 {}).reg 0x2400 3 ≠ 0) ∧
    dev.admits fw 0x2400 2 (leBytes 1 3) = true ∧ (powered 0 1 {}).admits fw 0x2400 2 (leBytes 1 3) = true ∧ (powered 2 0 {}).admits fw 0x2400 2 (leBytes 1 0) = true ∧
    ((powered 0 0 { target := 4 }).admits fw 0x2400 2 (leBytes 1 4) = true ∧ ((powered 0 3 { exitSource := 1 }).admits fw 0x2400 2 (leBytes 1 4) = true ∧ (powered 0 3 { exitSource := 1 }).exitRuns = true) ∧
      dev.admits fw 0x2400 2 (leBytes 1 4) = true ∧ dev.power.target ≠ 4 ∧ dev.exitRuns = false ∧ ((powered 2 0 {}).admits fw 0x2400 2 (leBytes 1 4) = true ∧ (powered 2 0 {}).exitRuns = false)) ∧
    ((powered 0 1 {}).reg 0x2400 3 = 1 ∧ (powered 0 1 {}).power.delayUntil = none) ∧ ({ delayUntil := some 8 } : PowerWork).delayUntil = some 8 := by decide +kernel

/-- A handshake with no block that answers, one refused by a claim, and one delayed by a running effect. -/
def asking (cs : List Claim) (hap : Nat) (second : Bool) : State := setRegs { powered 0 1 { target := 2, secondQuery := second } with worlds := { claims := cs } } [(0x641F - 0x10, 0x18, hap)]
theorem witness_PowerRequests_handshake : (asking [] 0 false).powerAnswers true true = [] ∧
    ((chooseAnswer (((asking [⟨1, 2, 511⟩] 0 false).powerAnswers true true).filter (fun x => x.refuse))).map (·.reason) = some 1 ∧ (asking [⟨1, 2, 511⟩] 0 false).power.secondQuery = false) ∧
    ((chooseAnswer ((asking [] 3 true).powerAnswers true true)).map (·.reason) = some 3 ∧ (asking [] 3 true).power.secondQuery = true) ∧
    ((asking [] 3 false).powerAnswers true true ≠ [] ∧ (∀ x ∈ (asking [] 3 false).powerAnswers true true, x.refuse = false ∧ x.reason ≠ 7) ∧
      ms ((asking [] 3 false).use 0x2400 5) ≤ ms ((asking [] 3 false).use 0x2400 5) ∧ ms ((asking [] 3 false).use 0x2400 5) < ms 65536) := by decide +kernel

theorem witness_PowerEntriesAndExits : ((powered 0 2 { target := 2 }).reg 0x2400 3 = 2 ∧ (powered 0 2 { target := 2 }).power.target = 2 ∧ (powered 0 2 { target := 2 }).power.wakeDuring = none ∧
      (powered 0 2 { target := 3, wakeDuring := some 4 }).power.wakeDuring = some 4) ∧
    ((powered 2 0 { deepAfter := some 6 }).power.deepAfter = some 6 ∧ (powered 2 0 { deepAfter := some 6 }).powerState = 2 ∧ (powered 2 0 { deepAfter := some 6 }).reg 0x2400 3 = 0) ∧
    (powered 0 0 { offNotice := some 6 }).power.offNotice = some 6 ∧ (199 < 200 ∧ 1000 ≤ 1000 ∧ 2 ≤ (powered 2 0 {}).powerState ∧ dev.powerState ≤ 1 ∧ dev.power.target = 0) ∧
    (powered 0 3 { exitSource := 1 }).exitRuns = true ∧ (dev.exitRuns = false ∧ dev.entryRuns = false ∧ wakeMarked 1 3 = true ∧ wakeMarked 4 3 = false) ∧
    ((powered 2 1 { target := 3 }).exitRuns = false ∧ (powered 2 1 { target := 3 }).entryRuns = true ∧ (powered 2 1 { target := 3 }).power.target ≠ 4 ∧ wakeMarked 4 (powered 2 1 { target := 3 }).powerState = true) ∧
    (3 ≤ (powered 3 0 {}).powerState ∧ dev.powerState < 3) ∧
    ((powered 2 3 { exitSource := 1, exitFrom := 2 }).exitRuns = true ∧ (powered 2 3 { exitSource := 1, exitFrom := 2 }).power.railsWait = none ∧
      (powered 2 3 { exitSource := 1, exitFrom := 2 }).power.exitFrom ≠ 4 ∧ (powered 2 3 { exitSource := 1, offAfterExit := true }).power.offAfterExit = true) ∧
    (powered 3 3 { exitSource := 1, railsWait := some 5 }).power.railsWait ≠ none := by decide +kernel

def idling : State := setUse (setRegs dev ((List.range 16).map (fun c => (0x6400 + c, 0x18, 2)))) [(0x2400, 4, 1)]
def regulated (mode bias mv : Nat) : State := setRegs { dev with now := 5000000, power := { vr := [(7, ⟨800, 795, false⟩), (6, ⟨800, 795, true⟩)] } }
  [(0x240F, 6, mode), (0x240F, 3, bias), (0x240F, 5, mv)]
theorem witness_DiesAndRegulators : (7 < idling.dies ∧ idling.operational = true ∧ idling.powerState ≤ 1 ∧ idling.reg 0x2400 3 = 0 ∧ idling.reg (0x2408 + 7) 1 = 0 ∧ idling.dieMayIdle 7 = true) ∧
    ((setUse dev [(0x2400, 4, 0)]).dieMayIdle 7 = false) ∧ ((setRegs dev [(0x240F, 1, 1)]).reg (0x2408 + 7) 1 = 1 ∧ dev.reg (0x2408 + 7) 1 ≠ 1) ∧
    ((regulated 0 599 0).reg (0x2408 + 7) 6 = 0 ∧ (regulated 0 599 0).regI (0x2408 + 7) 3 < 600 ∧ 600 ≤ (regulated 0 600 0).regI (0x2408 + 7) 3) ∧
    ((regulated 1 0 845).reg (0x2408 + 7) 6 = 1 ∧ (regulated 1 0 845).reg (0x2408 + 7) 5 + 5 ≤ 850) ∧
    (max (Tab.getD (regulated 0 599 0).power.lastWarning 7 0) (Tab.getD (regulated 0 599 0).power.lastFall 7 0) + ms 1 ≤ (regulated 0 599 0).now ∧
      (regulated 0 599 0).useI 0x2410 1 < (regulated 0 599 0).regI (0x2408 + 7) 3 ∧ dev.now < max (Tab.getD dev.power.lastWarning 7 0) (Tab.getD dev.power.lastFall 7 0) + ms 1) ∧
    (Tab.find? (regulated 1 0 800).power.vr 7 = some ⟨800, 795, false⟩ ∧ Tab.find? (regulated 1 0 800).power.vr 6 = some ⟨800, 795, true⟩ ∧ Tab.find? dev.power.vr 7 = none) ∧
    (bit 0x8000 15 = true ∧ bit 0x800 15 = false ∧ bit 0x800 11 = true ∧ bit 0 11 = false) := by decide +kernel

def capped (clock canopy slotSt : Nat) (cal : Bool) : State := setRegs (setUse { dev with sapflow := { calibration := cal, canopyGranted := if canopy = 0 then [] else [3] } }
  ([(0x2500, 1, 40), (0x2500, 2, 100), (0x2500, 3, 400)] ++ (List.range 8).map (fun d => (0x2508 + d, 1, 20000)))) ((List.range 8).map (fun d => (0x2508 + d, 5, clock)) ++ [(0x2710, 2, slotSt)])
def waitingPlay : State := { dev with haptics := [(15, { play := some { inst := 1, q := 0, tag := 3, completion := true, effect := 0, scale := 1000, dueAt := 9, placed := false } })] }
theorem witness_SapflowRoundsAndCuts : (dev.serving = true ∧ dev.health.succession = false) ∧ failed.serving = false ∧ ((0 : Int) ≤ 3 ∧ (0 : Int) ≤ 100) ∧
    (((9900 : Nat) : Int) ≤ (250 * (capped 400 0 0 false).use 0x2500 1 : Nat) - ((capped 400 0 0 false).use 0x2500 2 : Int) ∧
      ((250 * (capped 400 0 0 false).use 0x2500 1 : Nat) - ((capped 400 0 0 false).use 0x2500 2 : Int) : Int) < (9901 : Nat)) ∧
    ((capped 450 0 0 false).dieList.filter (fun d => decide ((capped 450 0 0 false).use 0x2500 3 < (capped 450 0 0 false).reg (0x2508 + d) 5)) ≠ []) ∧
    ((∀ d ∈ (capped 400 1 0 false).dieList, (capped 400 1 0 false).reg (0x2508 + d) 5 ≤ (capped 400 1 0 false).use 0x2500 3) ∧ (capped 400 1 0 false).sapflow.canopyGranted.filter (fun h => !(capped 400 1 0 false).claimed 1 h) ≠ []) ∧
    ((capped 400 0 0 true).sapflow.canopyGranted = [] ∧ (capped 400 0 0 true).sapflow.calibration = true ∧ (capped 400 0 2 false).reg 0x2710 2 = 2 ∧ (capped 400 0 0 false).reg 0x2710 2 ≠ 2) ∧
    (7 < (capped 400 0 0 false).dies ∧ 20000 ≤ (capped 400 0 0 false).use (0x2508 + 7) 1 ∧ (capped 400 0 0 false).use (0x2508 + 7) 1 < 20001 ∧ (capped 450 0 0 false).use 0x2500 3 < (capped 450 0 0 false).reg (0x2508 + 7) 5 ∧
      (capped 400 0 0 false).reg (0x2508 + 7) 5 ≤ (capped 400 0 0 false).use 0x2500 3 ∧ (capped 400 0 0 false).survey.piezoRunning = [] ∧ (capped 400 0 0 false).survey.pilotRunning = []) ∧
    (∃ c ∈ Tab.keys ({ piezoRunning := [(15, 0)] } : SurveyWork).piezoRunning, hapDie c = 7) ∧ ((waitingPlay.hap 15).play.map (·.placed) = some false) ∧ (dev.hap 15).play = none := by decide +kernel

def surveyed (rail sensor : Nat) : State := { dev with survey := { rails := [(16 * 7 + 11, { state := rail })], sensors := [(16 * 7 + 5, { state := sensor })], piezoRunning := [(15, 4)], pilotRunning := [63] } }
def speaking (method : Nat) : State := { dev with active := [(entryKey (0x2620 + 63) 1, .num method)] }
theorem witness_SurveyReadings : (7 < dev.dies ∧ 11 < 12 ∧ dev.surveyWorks 7 = true ∧ 11 ≠ 3 ∧ 11 ≠ 9 ∧ dev.regBytes (0x2608 + 7) 1 = []) ∧ (Tab.getD dev.survey.rails (16 * 7 + 11) {}).state = 0 ∧
    ((Tab.getD (surveyed 1 2).survey.rails (16 * 7 + 11) {}).state ≠ 0 ∧ (Tab.getD (surveyed 1 2).survey.rails (16 * 7 + 11) {}).raised = false) ∧ 5 < 6 ∧
    (bit (Tab.getD (surveyed 1 2).survey.sensors (16 * 7 + 5) {}).state 1 = true ∧ (Tab.getD (surveyed 1 2).survey.sensors (16 * 7 + 5) {}).raised = false) ∧
    (dev.admits fw (0x2610 + 15) 6 (leBytes 1 1) = true ∧ dev.reaches fw (0x2610 + 15) 6 (leBytes 1 0) = true) ∧
    ((speaking 2).admits fw (0x2620 + 63) 0xC (leBytes 1 1) = true ∧ (speaking 2).cfg (0x2620 + 63) 1 = 2 ∧ (speaking 1).admits fw (0x2620 + 63) 0xC (leBytes 1 1) = true ∧ (speaking 1).cfg (0x2620 + 63) 1 ≠ 2 ∧
      dev.reaches fw (0x2620 + 63) 0xC (leBytes 1 2) = true) ∧ (15 < 2 * dev.dies ∧ dev.cfg 0x2600 3 ≠ 0 ∧ (speaking 2).cfg 0x2600 5 ≠ 0) ∧
    (15 ∉ dev.survey.piezoWaiting ∧ Tab.find? dev.survey.piezoRunning 15 = none ∧ dev.piezoReady 15 = false) ∧ Tab.find? (surveyed 0 0).survey.piezoRunning 15 = some 4 ∧
    ((speaking 1).cfg (0x2620 + 63) 1 = 1 ∧ 63 ∈ (surveyed 0 0).survey.pilotRunning) ∧
    ((setUse dev [(0x7000 + 63, 1, 1)]).serving = true ∧ 63 < (setUse dev [(0x7000 + 63, 1, 1)]).laneCount ∧ (setUse dev [(0x7000 + 63, 1, 1)]).laneMode 63 ≠ 0) ∧
    (dev.operational = true ∧ dev.health.stopped = false ∧ 7 ∉ dev.survey.margin) := by decide +kernel

def testing (st die : Nat) : State := setRegs { dev with health := { slot := some 4 } } [(0x2710, 2, st), (0x2710, 3, die)]
def lendable : State := setRegs dev [(0x2708 + 7, 3, 6), (0x2008 + 7, 2, 3)]
theorem witness_SelfTestAndHealth : (dev.reaches fw 0x2710 1 (leBytes 1 8) = true ∧ 7 < 8) ∧
    (({ dev with part := .ux3804 } : State).admits fw 0x2710 1 (leBytes 1 7) = true ∧ 7 ≤ 7 ∧ ({ dev with part := .ux3804 } : State).dies ≤ 7) ∧
    (dev.admits fw 0x2710 1 (leBytes 1 0) = true ∧ 0 < dev.dies ∧ 0 = dev.trunk) ∧
    (idling.admits fw 0x2710 1 (leBytes 1 7) = true ∧ 7 ≠ idling.trunk ∧ ¬(7 = 1 ∧ idling.trunk = 0) ∧ idling.reg (0x2008 + 7) 2 ≠ 3 ∧ idling.shellUp 7 = true ∧ idling.reg 0x2710 2 = 0 ∧ idling.powerState ≤ 1 ∧
      idling.entryRuns = false ∧ idling.exitRuns = false ∧ idling.dieIsIdle 7 = true) ∧ ((testing 1 3).admits fw 0x2710 1 (leBytes 1 7) = true ∧ (testing 1 3).reg 0x2710 2 ≠ 0) ∧
    ((testing 2 7).serving = true ∧ (testing 2 7).reg 0x2710 2 = 2) ∧ ((testing 1 7).health.slot = some 4 ∧ (testing 1 7).reg 0x2710 2 = 1) ∧ (dev.watched 7 = true ∧ dev.watched 8 = false) ∧
    (dev.healthState = 0 ∧ (setRegs dev [(0x2700, 1, 2)]).healthState = 2) ∧
    (lendable.operational = true ∧ lendable.health.stopped = false ∧ 7 < lendable.dies ∧ lendable.reg (0x2708 + 7) 3 ≠ 0xFF ∧ lendable.reg (0x2008 + 7) 2 = 3 ∧ Tab.getD lendable.health.lending 7 0 = 0) ∧
    ({ succession := true } : HealthWork).succession = true := by decide +kernel


/-! ### Heads -/

def headIs (h : Nat) (x : Head) (l : List (Nat × Nat × Nat)) : State := setRegs { dev with heads := [(h, x)] } l
def sinkOf : SinkData := { dpcd := [], edid := [1], displayid := [], rateMax := 4, lanes := 4, adaptive := none, limits := none, typeSeven := none, detailed := none }
def lk (st : Nat) : List (Nat × Nat × Nat) := [(0x3002 + 256 * 15, 1, st)]
theorem witness_HeadLinks : ((setRegs dev [(0x2400, 1, 3)]).hpdSampled 15 = false ∧ (headIs 15 {} (lk 1)).hpdSampled 15 = true ∧ failed.serving = false ∧ failed.hpdSampled 15 = true ∧
      (headIs 15 {} (lk 6)).hpdSampled 15 = true ∧ (headIs 15 {} (lk 6)).operational = true ∧ (headIs 15 {} (lk 6)).health.stopped = false ∧ 1 < (headIs 15 {} (lk 6)).linkState 15) ∧
    ((headIs 15 {} (lk 1)).powerState < 3 ∧ (headIs 15 {} (lk 1)).serving = true ∧ (headIs 15 {} (lk 1)).linkState 15 = 1 ∧ (headIs 15 {} (lk 2)).linkState 15 ≠ 1) ∧
    (((headIs 15 { debounce := some 100 } (lk 2)).head 15).debounce = some 100 ∧ (headIs 15 { debounce := some 100 } (lk 2)).linkState 15 = 2) ∧ (headIs 15 {} (lk 3)).linkState 15 = 3 ∧
    (headIs 15 {} (lk 4)).linkState 15 = 4 ∧ (headIs 15 { sink := some sinkOf } (lk 4)).candidatesFor 15 ((headIs 15 { sink := some sinkOf } (lk 4)).ringMode 15) ≠ [] ∧
    ((headIs 15 {} (lk 4)).candidatesFor 15 ((headIs 15 {} (lk 4)).ringMode 15) = [] ∧ (headIs 15 {} (lk 4)).use (0x3001 + 256 * 15) 4 ≠ 1) ∧ (⟨0, 4⟩ : LinkConfig) ∈ candidatesIn 4 4 4 4 {} ∧
    ((headIs 15 { candidates := [⟨0, 4⟩, ⟨1, 2⟩] } (lk 5)).linkState 15 = 5 ∧ ((headIs 15 { candidates := [⟨0, 4⟩, ⟨1, 2⟩] } (lk 5)).head 15).candidates[0]? = some ⟨0, 4⟩ ∧ 0 + 1 < 2 ∧ 2 ≤ 1 + 1) ∧
    ((headIs 15 { link := some ⟨0, 4⟩ } (lk 6)).serving = true ∧ (headIs 15 { link := some ⟨0, 4⟩ } (lk 6)).linkState 15 = 6 ∧ ((headIs 15 { link := some ⟨0, 4⟩ } (lk 6)).head 15).link = some ⟨0, 4⟩) ∧
    ((headIs 15 {} (lk 5)).linkState 15 ≠ 0 ∧ ((headIs 15 {} (lk 5)).head 15).link = none ∧ 1 < (headIs 15 {} (lk 5)).linkState 15) ∧ ((headIs 15 {} []).head ((headIs 15 {} []).timingHead 15)).uptake = false ∧
    (15 < 16 ∧ (headIs 15 {} (lk 8)).admits fw (0x3005 + 256 * 15) 2 (leBytes 1 1) = true ∧ (headIs 15 {} (lk 8)).linkState 15 = 8 ∧ (headIs 15 {} (lk 7)).linkState 15 = 7) := by decide +kernel

def runs (x : Head) (var : Nat) : State := headIs 15 { x with running := true, sMin := 1092, sMax := 1200 } [(0x3004 + 256 * 15, 1, var), (0x3005 + 256 * 15, 1, var)]
theorem witness_LinesAndFrames : ((headIs 14 { pairedTaken := true } []).timingHead 15 ≠ 15 ∧ dev.shed.running ≠ some 4) ∧ (dev.timingHead 15 = 15 ∧ (dev.head 15).running = false ∧ (dev.head 15).startPending = false) ∧
    ((headIs 15 { startPending := true } []).timingHead 15 = 15 ∧ ((headIs 15 { startPending := true } []).head 15).startPending = true) ∧
    (((runs {} 0).head 15).running = true ∧ ((runs {} 0).head 15).toLine0 = none ∧ ((runs { toLine0 := some 1 } 0).head 15).toLine0 = some 1 ∧ 1 < 2) ∧
    (((runs {} 0).head 15).aborting = none ∧ (runs {} 0).hreg 0x3004 15 1 ≠ 1 ∧ (runs {} 1).hreg 0x3004 15 1 = 1 ∧ ((runs {} 1).head 15).sMin ≤ ((runs {} 1).head 15).sMax ∧ ((runs {} 1).head 15).ready = none ∧
      ((runs { ready := some (1197, true) } 1).head 15).ready = some (1197, true) ∧ 1197 + 3 ≤ ((runs {} 1).head 15).sMax ∧ ((runs {} 1).head 15).sMin ≤ 1092) ∧
    ((runs { aborting := some (7, 1090) } 0).head 15).aborting = some (7, 1090) ∧ ((runs {} 0).head 15).latchedNext = false ∧ ((runs { latchedNext := true } 0).head 15).latchedNext = true ∧
    (dev.head (dev.timingHead 15)).readyRaised = false ∧
    ((runs { readyRaised := true, line := 1080 } 1).timingHead 15 = 15 ∧ ((runs { readyRaised := true, line := 1080 } 1).head 15).readyRaised = true ∧ (runs { readyRaised := true, line := 1080 } 1).hreg 0x3005 15 1 = 1 ∧
      1080 + 2 < ((runs {} 1).head 15).sMax ∧ (runs { readyRaised := true, line := 1080 } 1).cutoff 15 ≤ 1080) ∧
    (((runs { readyRaised := true, ready := some (3, true) } 1).head 15).ready.isSome = true ∧ (runs { readyRaised := true } 0).hreg 0x3005 15 1 ≠ 1) := by decide +kernel

/-- A commit block of one record: an entry of layer 0 with a value of n bytes. Sub 2 is latched and takes 1 byte; there is no sub 0xFF. -/
def block (sub n : Nat) : List Byte := leBytes 4 0x54494D43 ++ leBytes 2 1 ++ leBytes 2 0 ++ leBytes 4 28 ++ leBytes 4 0 ++ leBytes 2 0x4000 ++ leBytes 1 sub ++ leBytes 1 0 ++
  leBytes 2 n ++ leBytes 2 0 ++ leBytes 4 0
/-- The queue's ring lies in the instance's memory, which has no quota. -/
def lostQueue : State := (queued dev 1 2 15).modSq 1 0 (fun q => { q with config := BitVec.ofNat 32 (2 ^ 31 + 2 ^ 30 + 2 * 2 ^ 16) })
def pend : PendingCommit := { inst := 1, q := 0, tag := 5, completion := true, records := [] }
theorem witness_CommitsAndUnderrun : (dev.canFetch (ent 1) 2 = false ∧ dev.fetchOpen (ent 1) 2 = false ∧ lostQueue.fetchOpen (ent 1) 2 = true ∧ lostQueue.fetchLands (ent 1) = false) ∧
    (mapped.idaOk 1 0 64 = true ∧ dev.idaOk 1 0 64 = false ∧ (queued dev 1 2 15).commitFetch 15 1 0 28 0 none = none ∧ (queued dev 1 2 15).commitFetch 15 1 0 28 0 (some (block 2 1)) = some (block 2 1)) ∧
    (frozenSq.isShed 1 = true ∧ dev.isShed 1 = false) ∧ ((queued dev 1 2 15).canFetch (ent 1) 2 = true ∧ entryFlagsOk (ent 1) = true ∧ 28 % 4 = 0 ∧ 16 ≤ 28) ∧
    ((queued dev 1 2 15).timingHead ((queued dev 1 2 15).sq 1 0).target = 15 ∧ blockRecords 28 [] = none ∧ blockRecords 28 (block 0xFF 4) = some [⟨0x4000, 0xFF, leBytes 4 0, true⟩] ∧
      (queued dev 1 2 15).commitCheck [15] 1 [⟨0x4000, 0xFF, leBytes 4 0, true⟩] ≠ Status.ok) ∧
    ((queued dev 0 2 0).canFetch (ent 0) 2 = true ∧ blockRecords 28 (block 2 1) = some [⟨0x4000, 2, [0], true⟩] ∧ (queued dev 0 2 0).pairOf ((queued dev 0 2 0).sq 0 0).target = [0] ∧
      (queued dev 0 2 0).commitCheck [0] 0 [⟨0x4000, 2, [0], true⟩] = Status.ok) ∧ recordsAscend [⟨0x4001, 1, [], true⟩, ⟨0x4000, 1, [], true⟩] = false ∧ dev.commitCheck [15] 1 [] = Status.ok ∧
    ((dev.head 15).checked.find? (fun p => p.inst = 1) = none ∧ ((headIs 15 { checked := [pend] } []).head 15).checked.find? (fun p => p.inst = 1) = some pend) ∧
    ((dev.head 15).running = false ∧ ((runs {} 0).head 15).running = true ∧ ((runs {} 0).head 15).aborting = none ∧ ((runs {} 1).head 15).latchedNext = false ∧ (runs {} 1).hreg 0x3004 15 1 = 1) ∧
    ((dev.head (dev.timingHead 15)).running = false ∧ ((runs { underCol := some 3 } 0).head 15).underCol.isSome = true) ∧
    (((runs { line := 1079 } 0).head ((runs { line := 1079 } 0).timingHead 15)).line < ((runs { line := 1079 } 0).modeOf ((runs { line := 1079 } 0).timingHead 15)).vActive ∧ 1919 < ((runs {} 0).modeOf 15).hActive ∧
      ((runs {} 0).head 15).underCol = none) := by
  decide +kernel

def composing (h : Nat) (x : Composer) : State := { headIs h { running := true } [] with compose := [(h, x)] }
def reflexed : State := { dev with reflex := { sprites := [(127, 1, 3), (127, 2, 515), (0, 1, 3)] } }
theorem witness_BandsSpritesCanopy : dev.canBegin 15 = false ∧ ((composing 15 { decidedFrame := 1 }).canBegin 15 = true ∧ (composing 15 { decidedFrame := 1 }).composerBusy 15 = false ∧
      (∀ k ∈ (composing 15 { decidedFrame := 1 }).composerHeads 15, k ≠ 15 → (composing 15 { decidedFrame := 1 }).canBegin k = false) ∧ (composing 15 { slots := [{ frame := 1, band := 67 }] }).composerBusy 15 = true) ∧
    ((dev.comp 15).slots.find? (fun e => e.band = 67 && !e.complete) = none ∧ ((composing 15 { slots := [{ frame := 1, band := 67 }] }).comp 15).slots.find? (fun e => e.band = 67 && !e.complete) = some { frame := 1, band := 67 }) ∧
    (((headIs 15 { fallback := some 0xFF0000 } []).head 15).fallback = some 0xFF0000 ∧ (headIs 15 { fallback := some 0xFF0000 } []).regionAt 15 1919 1079 = none) ∧ (∀ o ∈ reflexed.reflex.sprites, o.2.2 < 1024) ∧
    (dev.sprite 127 0xB = 0 ∧ dev.sprite 127 0xB ≠ 1 ∧ (runs { reflexStart := true } 1).reflexHead (127 / 8) = true) ∧
    (127 < 128 ∧ dev.admits fw (0x4100 + 127) 0xB (leBytes 1 3) = true ∧ 127 ∉ (dev.admitted fw (0x4100 + 127) 0xB (leBytes 1 3)).entrySprites ∧
      127 ∈ ({ dev with worlds := { entry := some { pad with masks := [127 * 2 ^ 24 + 2 ^ 31] } } } : State).entrySprites) ∧
    (15 < 16 ∧ dev.admits fw (0x4200 + 15) 5 (leBytes 4 256) = true ∧ dev.membersOk 15 1 = false ∧ dev.membersOk 15 0 = true) ∧ (dev.canopyReg 15 6 = 0 ∧ dev.canopyReg 15 6 ≠ 3) := by decide +kernel

def regionIs (st policy owner : Nat) (x : Region) : State := setUse (setRegs { dev with regions := [(127, x)] } [(0x437F, 0x13, st)]) [(0x437F, 7, policy), (0x437F, 0xB, owner)]
def enabledRegion : State := setUse dev [(0x437F, 1, 1)]
theorem witness_HeartwoodRegions :
    (127 < 128 ∧ dev.operational = true ∧ dev.serviceStatus (0x4300 + 127) = Status.ok ∧ dev.admits fw (0x4300 + 127) 0x12 (dev.valueBytes (0x4300 + 127) 0x12 1) = true) ∧
    (dev.updateCheck 127 none ≠ Status.ok ∧ dev.regionUse 127 1 ≠ 1) ∧ ((dev.region 127).submitted = none ∧ ((regionIs 0 0 0 { submitted := some {} }).region 127).submitted = some {}) ∧
    (dev.admits fw 0x2310 1 [] = true ∧ enabledRegion.admits fw 0x2310 1 [] = true ∧ enabledRegion.regionUse 127 1 = 1 ∧ (∀ r, r < 128 → dev.regionUse r 1 ≠ 1) ∧ Assets.storeOk [1] = false) ∧
    ((dev.region 127).compareDue = false ∧ ((regionIs 3 2 1 { compareDue := true }).region 127).compareDue = true ∧ 2 ≤ (regionIs 3 2 1 { compareDue := true }).regionReg 127 0x13 ∧
      (regionIs 3 2 1 { compareDue := true }).now ≤ ((regionIs 3 2 1 { compareDue := true }).region 127).doneAt + us 200) ∧
    ((regionIs 3 2 1 {}).regionUse 127 7 = 2 ∧ (regionIs 3 1 1 {}).regionUse 127 7 ≠ 2 ∧ (regionIs 6 0 0 {}).regionReg 127 0x13 = 6 ∧ 5 < 6 ∧ (regionIs 1 0 0 {}).regionReg 127 0x13 < 2 ∧ (regionIs 5 2 0 {}).regionReg 127 0x13 ≤ 5) := by
  decide +kernel


/-! ### Graphics, keys, haptics -/

def gfxIs (c : Nat) (x : GfxContext) (d : GfxDie) : State := setRegs { mapAll (queued dev 1 1 c) 1 16 with gfx := { ctxs := [(c, x)], dies := [(7, d)] } } [(0x2201, 4, 1)]
/-- I1 holds context slot 127 when its bit of context_slots is set. -/
def ctxBits : List Byte := List.replicate 15 0 ++ [128]
def holding (s : State) : State := s.setRegBytes 0x2201 8 ctxBits
def memOf (s : State) (a : Nat) (bs : List Byte) : State := { s with imem := Memory.writeBytes s.imem (idaKey 1 a) bs }
def part7 : GfxPart := { die := 7, ctx := 127, taken := true }
def jobOf (p : Option GfxPass) (f : Option GfxFailure) : GfxJob := { inst := 1, q := 0, tag := 5, completion := true, addr := 0, length := 144, parts := [part7], passes := 1, pass := p, failure := f }
def ctxJob (p : Option GfxPass) (f : Option GfxFailure) : GfxContext := { job := some (jobOf p f) }
def waits (d : Option Nat) : GfxWait := { inst := 1, q := 0, tag := 5, completion := true, addr := 8, value := 1, deadline := d }
/-- A command buffer of one pass of 1 by 1 pixels in IMMEDIATE mode with no draw. -/
def buffer : List Byte := leBytes 4 0x44534D43 ++ leBytes 2 1 ++ leBytes 2 1 ++ leBytes 4 144 ++ leBytes 4 0 ++ [1, 0, 0, 0, 1, 0, 1, 0]
theorem witness_GraphicsQueues : (dev.canFetch (ent 1) 1 = false ∧ dev.ctxFree (dev.sq 1 0).target = true) ∧ ((gfxIs 127 {} {}).canFetch (ent 1) 1 = true ∧ (gfxIs 127 {} {}).ctxFree ((gfxIs 127 {} {}).sq 1 0).target = true ∧ (ent 1).flags ≤ 1 ∧ 8 % 8 = 0 ∧
      (gfxIs 127 {} {}).idaOk 1 1048568 8 = true ∧ (gfxIs 127 {} {}).idaOk 1 1048576 8 = false ∧ 10000000 ≤ 10000000 ∧ 10000000 < 10000001) ∧ (gfxIs 127 { wait := some (waits none) } {}).ctxFree 127 = false ∧
    (((gfxIs 127 {} {}).ctx 127).wait = none ∧ ((gfxIs 127 { wait := some (waits (some 9)) } {}).ctx 127).wait = some (waits (some 9)) ∧ (waits none).deadline = none ∧
      (waits (some 9)).value ≤ leNat ((memOf (gfxIs 127 { wait := some (waits (some 9)) } {}) 8 [1]).readIda (ctxAttr 127 1) 8 8) ∧ leNat ((gfxIs 127 { wait := some (waits (some 9)) } {}).readIda (ctxAttr 127 1) 8 8) < (waits (some 9)).value) ∧
    (64 % 64 = 0 ∧ 16 ≤ 16777216 ∧ 16777216 % 16 = 0 ∧ (∃ d ∈ (List.range 8).filter (bit 128), (gfxIs 127 {} {}).holdsCtx 1 (ctxOn 127 d) = false) ∧
      (∀ d ∈ (List.range 8).filter (bit 128), (holding (gfxIs 127 {} {})).holdsCtx 1 (ctxOn 127 d) = true) ∧ (∀ d ∈ [ctxDie 127], (holding (gfxIs 127 {} {})).coreActive d = true) ∧
      (∃ d ∈ [ctxDie 127], (holding (setRegs (gfxIs 127 {} {}) [(0x200F, 2, 3)])).coreActive d = false) ∧ (gfxIs 127 {} {}).idaOk 1 0 144 = true ∧ (gfxIs 127 {} {}).idaOk 1 1048576 144 = false ∧
      (gfxIs 127 {} {}).bufferOk (jobOf none none) = false ∧ (memOf (gfxIs 127 {} {}) 0 buffer).bufferOk (jobOf none none) = true) ∧
    (((gfxIs 127 {} {}).ctx 127).job = none ∧ ((gfxIs 127 (ctxJob none none) {}).ctx 127).job = some (jobOf none none) ∧ (jobOf none none).index < (jobOf none none).passes ∧ (jobOf none (some ⟨2, 3, 0, 0, 0⟩)).failure.isSome = true) ∧
    ((setRegs dev [(ctxIndex 127, 2, 0)]).reg (ctxIndex 127) 2 = 0 ∧ (setRegs (gfxIs 127 (ctxJob none none) { running := some 127 }) [(ctxIndex 127, 2, 5)]).reg (ctxIndex 127) 2 ≠ 0 ∧
      (jobOf none none).parts.find? (fun p => p.die = 7) = some part7 ∧ ((gfxIs 127 (ctxJob none none) { running := some 127 }).gdie 7).running = some part7.ctx ∧ ((gfxIs 127 (ctxJob none none) {}).gdie 7).running ≠ some part7.ctx) := by
  decide +kernel

def passOf (cursor ending : Nat) : GfxPass := { desc := [1, 0, 0, 0, 1, 0, 1, 0], binned := true, cursor := cursor, ending := ending }
def inPass (cmd : List Byte) : State := memOf (gfxIs 127 (ctxJob (some (passOf 144 (144 + cmd.length))) none) { running := some 127 }) 144 cmd
def head4 (op len : Nat) : List Byte := leBytes 2 op ++ leBytes 2 len
def command (op len : Nat) : List Byte := head4 op len ++ List.replicate (len - 4) 0
def meets (o : Nat) (s : State) : Bool := decide ((s.ctx 127).job = some (jobOf (some (passOf 144 (144 + commandLength o))) none) ∧ s.jobRunning (jobOf none none) = true ∧
  field (s.cmdBytes (jobOf none none) 144 4) 0 2 = o ∧ field (s.cmdBytes (jobOf none none) 144 4) 2 2 = commandLength o)
theorem witness_GraphicsPasses : ((gfxIs 127 {} {}).ctx 127).job = none ∧ (((gfxIs 127 (ctxJob none none) {}).ctx 127).job = some (jobOf none none) ∧ (gfxIs 127 (ctxJob none none) {}).jobRunning (jobOf none none) = false) ∧
    (((gfxIs 127 (ctxJob none none) { running := some 127 }).ctx 127).job = some (jobOf none none) ∧ (jobOf none none).parts.all (·.taken) = true ∧ (gfxIs 127 (ctxJob none none) { running := some 127 }).jobRunning (jobOf none none) = true ∧
      passOk ((gfxIs 127 (ctxJob none none) { running := some 127 }).cmdBytes (jobOf none none) 16 128) = false ∧ passOk ((memOf (gfxIs 127 (ctxJob none none) { running := some 127 }) 0 buffer).cmdBytes (jobOf none none) 16 128) = true ∧
      ((jobOf none none).parts.map (·.die)).Nodup) ∧ (∀ o ∈ [1, 2, 3, 4, 5, 6, 7], meets o (inPass (command o (commandLength o))) = true) ∧
    (field ((inPass (command 8 12)).cmdBytes (jobOf none none) 144 4) 0 2 = 8 ∧ field ((inPass (command 1 16)).cmdBytes (jobOf none none) 144 4) 2 2 ≠ 12) ∧
    (part7.binned = false ∧ ({ part7 with binned := true } : GfxPart).binned = true ∧ (passOf 144 144).ending ≤ (passOf 144 144).cursor ∧ (passOf 144 156).cursor < (passOf 144 156).ending) ∧
    (((gfxIs 127 {} {}).gdie 7).request = none ∧ (gfxIs 127 {} {}).budgetSpent 7 = false ∧ ((gfxIs 127 {} { request := some 3 }).gdie 7).request = some 3 ∧ ((gfxIs 127 {} { running := some 127 }).gdie 7).running = some 127) ∧
    (((gfxIs 127 {} {}).gdie 7).period = none ∧ ((gfxIs 127 {} { period := some 3 }).gdie 7).period = some 3 ∧ (gfxIs 127 {} { period := some 3 }).gfxInstances 7 = [] ∧
      (gfxIs 127 (ctxJob none none) { period := some 3, running := some 127 }).gfxInstances 7 ≠ [] ∧ (gfxIs 127 (ctxJob none none) { period := some 3 }).gfxInstances 7 ≠ []) := by decide +kernel

def keyAt (st : Nat) (l : List (Nat × Nat × Nat)) (k : Keys) : State := setUse (setRegs { dev with keys := k } [(0x6200 + 511, 0x10, st)])
  ([(0x6200 + 511, 5, 100), (0x6200 + 511, 6, 60), (0x6200 + 511, 7, 0), (0x6200 + 511, 8, 2), (0x6200 + 511, 9, 2), (0x6200 + 511, 0xA, 10), (0x6200 + 511, 0xB, 80), (0x6200 + 511, 0xF, 1), (0x6200 + 511, 1, 1)] ++ l)
def cycling (ph : Nat) : State := { dev with keys := { dies := [(7, { cycle := some 1000, nextPhase := ph })] } }
def wakes : State := setRegs (keyAt 2 [(0x6107, 1, 1)] { dies := [(7, { wakeDue := some 9 })] }) [(0x2400, 1, 2)]
theorem witness_KeysAreScanned : failed.serving = false ∧ (dev.serving = true ∧ dev.reg 0x2400 3 ≠ 2 ∧ dev.shellUp 7 = true ∧ dev.keyServed 7 = true ∧ (dev.kdie 7).cycle = none ∧ (setUse dev [(0x6107, 1, 1)]).use (0x6100 + 7) 1 = 1 ∧
      (setUse dev [(0x6107, 1, 0)]).use (0x6100 + 7) 1 ≠ 1) ∧ (0 < 64 ∧ 64 / 2 ≤ ((List.range 64).filter (fun j => !true || dev.burstUsable 7 (0 + 500 * j))).length) ∧
    (((cycling 0).kdie 7).cycle = some 1000 ∧ ((cycling 0).kdie 7).nextPhase = 0 ∧ ((cycling 7).kdie 7).nextPhase ≠ 0 ∧ 7 ≤ ((cycling 7).kdie 7).nextPhase ∧ (dev.electrodes 7 1).length ≤ 6) ∧
    ((keyAt 3 [] {}).keyState 511 = 3 ∧ (keyAt 3 [] {}).keyCfg 511 8 ≤ 2 ∧ 1 < (keyAt 3 [] {}).keyCfg 511 8 ∧ ((keyAt 3 [] { keys := [(511, { negative := 2 })] }).keyw 511).negative = 2) ∧
    ((keyAt 4 [] {}).keyState 511 ≠ 3 ∧ (keyAt 4 [] {}).keyCfg 511 9 ≤ 2 ∧ 1 < (keyAt 4 [] {}).keyCfg 511 9 ∧ (keyAt 4 [] {}).keyCfg 511 0xA ≠ 0 ∧
      sec ((keyAt 4 [] {}).keyCfg 511 0xA) ≤ ({ keyAt 4 [] {} with now := 10000000000 } : State).now - 0 ∧ (keyAt 4 [] {}).now - 0 < sec ((keyAt 4 [] {}).keyCfg 511 0xA)) ∧
    ((keyAt 2 [] {}).keyState 511 = 2 ∧ ((keyAt 2 [] {}).elec ((keyAt 2 [] {}).keySelf 511)).reading = none) ∧
    (15 + 1 < 17 ∧ 16 ≤ 15 + 1) ∧ (7 < 8 ∧ dev.admits fw (0x6100 + 7) 0xF (leBytes 1 1) = true) ∧ (511 ∈ (keyAt 3 [] {}).keysOn 7 ∧ (keyAt 3 [] {}).keyState 511 ≠ 5) ∧ dev.powerState ≠ 2 ∧
    (wakes.powerState = 2 ∧ wakes.use (0x6100 + 7) 1 = 1 ∧ (wakes.kdie 7).wakeDue = some 9 ∧ (wakes.keysOn 7).find? (fun k => decide (wakes.keyCfg k 0xF = 1)) = some 511) := by decide +kernel

def gainBytes (v : Nat) : List Byte := leBytes 2 v
theorem witness_GainsAreJudged : (127 < 128 ∧ 63 < 64 ∧ (gainBytes 0x8000).length = 2 ∧ (lookup dev.part (0x6900 + 127) (63 + 1)).isSome = true ∧ (∀ f, lookup dev.part (0x6900 + 127) (63 + 1) = some f → dev.rightsOk fw f true .active = true)) ∧
    (dev.reaches fw (0x6900 + 127) (63 + 1) (gainBytes 121) = true ∧
      ¬(signedOf 16 (leNat (gainBytes 121)) = -32768 ∨ (-1200 ≤ signedOf 16 (leNat (gainBytes 121)) ∧ signedOf 16 (leNat (gainBytes 121)) ≤ 120))) ∧
    (dev.admits fw (0x6900 + 127) (63 + 1) (gainBytes 120) = true ∧ dev.admits fw (0x6900 + 127) (63 + 1) (gainBytes 0x8000) = true ∧ dev.admits fw (0x6900 + 127) (63 + 1) (gainBytes (65536 - 1200)) = true) ∧
    ((({ pending := some 0 } : XpRow).pending.isSome = true) ∧ (dev.row 127).pending = none ∧ (dev.row 127).copyUntil ≤ dev.now) ∧
    ((lookup dev.part (0x6900 + 127) 0x45).isSome = true ∧ (List.replicate 128 (0 : Byte)).length = 128) ∧ (-1200 ≤ (-1200 : Int) ∧ (-1200 : Int) ≤ 120 ∧ (120 : Int) ≤ 120) := by
  refine ⟨⟨by decide, by decide, by decide, by decide +kernel, fun f _ => ?_⟩, by decide +kernel, by decide +kernel, by decide +kernel, by decide +kernel, by decide⟩
  have h : ∀ g, lookup dev.part (0x6900 + 127) (63 + 1) = some g → dev.rightsOk fw g true .active = true := by
    intro g hg
    have e : (lookup dev.part (0x6900 + 127) (63 + 1)).all (fun g => dev.rightsOk fw g true .active) = true := by decide +kernel
    rw [hg] at e; exact e
  exact h f ‹_›

/-- Effect 255: one segment of 100 µs, no overdrive, braking for 500 µs. -/
def effect : List Byte := [1, 1] ++ leBytes 2 1 ++ leBytes 2 1000 ++ leBytes 2 0 ++ leBytes 2 500 ++ List.replicate 6 0 ++ leBytes 2 0 ++ leBytes 2 100 ++ List.replicate 8 0
def hapIs (st : Nat) (x : Haptic) : State := setRegs { queued dev 1 6 15 with haptics := [(15, x)], taken := [(entryKey (0x6500 + 255) 1, .bytes effect)], timeRuns := true } [(0x6400 + 15, 0x18, st)]
def playOf (placed : Bool) : HapticPlay := { inst := 1, q := 0, tag := 5, completion := true, effect := 255, scale := 1000, dueAt := 12000, placed := placed }
def effectIs (st : HapticStage) (p : Option HapticPlay) : HapticEffect := { trigger := ⟨255, 1000, .software, 0⟩, descriptor := effect, level := 1000, onset := 0, stage := st, stageEnd := 1000000000, play := p }
theorem witness_HapticEffects : (dev.canFetch (ent 1) 6 = false ∧ (dev.hap (dev.sq 1 0).target).play = none ∧ frozenSq.isShed 1 = true ∧ (hapIs 2 {}).isShed 1 = false) ∧
    (dev.shellUp (hapDie 15) = true ∧ dev.hapServed 15 = true ∧ (dev.hap 15).lastEdge = none) ∧
    ((hapIs 2 {}).canFetch (ent 1) 6 = true ∧ 15 = ((hapIs 2 {}).sq 1 0).target ∧ ((hapIs 2 {}).hap 15).play = none ∧ 255 ≤ 255 ∧ 1000 ≤ 1000 ∧ (hapIs 2 {}).effectBytes 0 = [] ∧ (hapIs 2 {}).effectBytes 255 ≠ [] ∧
      (hapIs 5 {}).hapState 15 = 5 ∧ (hapIs 6 {}).hapState 15 = 6 ∧ (hapIs 2 {}).hapState 15 ≠ 5 ∧ (hapIs 2 {}).boardHolds 15 = false) ∧
    (((hapIs 2 {}).hap 15).running = none ∧ ((hapIs 3 { running := some (effectIs .braking none) }).hap 15).running = some (effectIs .braking none) ∧
      ((hapIs 3 { running := some (effectIs (.segment 0) (some (playOf true))) }).hap 15).running.map (·.play) = some (some (playOf true))) ∧
    (((hapIs 2 { play := some (playOf true) }).hap 15).play = some (playOf true) ∧ (playOf true).placed = true ∧ (playOf false).placed = false ∧ (hapIs 1 {}).hapState 15 = 1 ∧ (hapIs 2 {}).hapState 15 ∉ [0, 1, 5, 6] ∧
      us ((hapIs 4 {}).hapCfg 15 0xF) < (effectIs .braking none).stageEnd - max 0 (playOf true).dueAt) ∧
    ((setRegs dev [(0x2400, 1, 2)]).powerState = 2 ∧ dev.powerState < 2 ∧ (hapIs 6 {}).effectBytes 255 ≠ [] ∧ 2 ≤ (hapIs 2 {}).hapState 15 ∧ (hapIs 2 {}).hapState 15 ≤ 4) := by decide +kernel
theorem witness_HapticEffects_events :
    ((setUse { dev with active := [(entryKey (0x6400 + 15) 0x14, .num 3)] } []).cfg (0x6400 + 15) 0x14 = 3 ∧ 15 < 2 * dev.dies ∧ ({ dev with active := [(entryKey (0x6400 + 15) 0x14, .num 0)] } : State).cfg (0x6400 + 15) 0x14 = 0) ∧
    (dev.reflex.haptics.find? (fun r => r.1 = 15) = none ∧ ({ haptics := [(15, ⟨255, 1000, .reflex, 3⟩)] } : Reflex).haptics.find? (fun r => r.1 = 15) = some (15, ⟨255, 1000, .reflex, 3⟩)) ∧
    (((hapIs 1 { ready := some 9 }).hap 15).ready = some 9 ∧ (hapIs 1 { ready := some 9 }).hapState 15 = 1 ∧ ((hapIs 2 {}).hap 15).ready = none) ∧
    ((effectIs .overdrive none).stage = .overdrive ∧ 0 < field effect 1 1 ∧ field effect 1 1 ≤ 0 + 1 ∧ (effectIs (.segment 0) none).stage ≠ .braking ∧ brakes effect = true ∧ brakes [1, 1, 0, 0] = false) ∧
    (failed.serving = false ∧ (hapIs 2 {}).serving = true) ∧ ((setUse dev [(0x640F, 0xD, 0)]).hapCfg 15 0xD = 0 ∧ (setUse dev [(0x640F, 0xD, 4), (0x640F, 0xB, 100), (0x640F, 0xC, 300)]).hapCfg 15 0xB ≤ (setUse dev [(0x640F, 0xD, 4), (0x640F, 0xB, 100), (0x640F, 0xC, 300)]).hapCfg 15 0xC) ∧
    (((hapIs 2 { hen := true }).hap 15).hen = true ∧ (hapIs 0 {}).hapState 15 = 0 ∧ ((hapIs 0 {}).hap 15).window = []) ∧
    (((hapIs 5 { limited := true }).hap 15).limited = true ∧ 4 * [(0 : Nat)].sum ≤ 3 * 1 ∧ (1 : Nat) < [2].sum) ∧
    (15 < 16 ∧ (hapIs 6 {}).admits fw (0x6400 + 15) 0x1A (leBytes 1 1) = true ∧ (hapIs 2 {}).admits fw (0x6400 + 15) 0x1A (leBytes 1 1) = true ∧ (hapIs 6 {}).hapServed 15 = true ∧ (hapIs 6 {}).reg (0x6400 + 15) 0x19 ≠ 3 ∧
      (setRegs (hapIs 6 {}) [(0x200F, 2, 4)]).hapServed 15 = false) ∧ ((setUse dev [(0x640F, 1, 1)]).hapCfg 15 1 = 1 ∧ (setUse dev [(0x640F, 1, 0)]).hapCfg 15 1 ≠ 1) := by decide +kernel


/-! ### Lanes, streams, audio -/

def laneIs (mode st : Nat) (x : LaneWork) (p : PartnerWork) (pst : Nat) : State :=
  setUse (setRegs { queued dev 1 4 63 with lanes := { lanes := [(63, x)], partners := [(2047, p)] } } [(0x7000 + 63, 9, st), (0x7100 + 2047, 8, pst)])
    [(0x7000 + 63, 1, mode), (0x7100 + 2047, 1, 1), (0x7100 + 2047, 2, 1000)]
def trans (r : LaneRequest) (left : Nat) (resend : Bool) : LaneTransaction := { partner := 2047, request := r, left := left, started := 0, deadline := 100, resend := resend }
def frameOf (type : Nat) (payload : List Byte) : LaneFrame := { identifier := 0, bytes := (encodeFrame 1 1 31 type 3 payload).2, gapless := true, rtt := 0, shift := 0 }
def rxOf (type : Nat) (payload : List Byte) : LaneRx := decodeFrame 1 (frameOf type payload)
def emptyLane : State := laneIs 1 1 {} {} 2
def waitingOn (t : LaneTransaction) : State := laneIs 1 1 { current := some t } {} 2
def known (rx : Option Nat) (n : Nat) : State := laneIs 1 1 {} { alive := true, rxAlive := rx, requests := n, fresh := false } 2
theorem witness_LanesAndStreams : failed.serving = false ∧
    ((waitingOn (trans .poll 2 false)).serving = true ∧ 63 < (waitingOn (trans .poll 2 false)).laneCount ∧ ((waitingOn (trans .poll 2 false)).lane 63).current = some (trans .poll 2 false) ∧ (trans .poll 2 false).resend = false ∧
      (trans .poll 2 true).resend = true ∧ (waitingOn (trans .poll 2 true)).laneRuns 63 = true ∧ (waitingOn (trans .poll 2 true)).laneState 63 ≠ 3) ∧
    ((emptyLane.lane 63).current = none ∧ emptyLane.laneRuns 63 = true ∧ (emptyLane.lane 63).stopped = false ∧ (laneIs 1 3 {} {} 2).laneState 63 = 3) ∧
    ((({ acks := [(2047, 9)] } : LaneWork).acks = (2047, 9) :: []) ∧ (({ groups := [(15, 2047)] } : LaneWork).groups = (15, 2047) :: []) ∧ (laneIs 1 1 { groups := [(15, 2047)] } {} 2).partnerState 2047 = 2 ∧
      (({ queue := [(2047, .poll)] } : LaneWork).queue = (2047, .poll) :: []) ∧ (laneIs 1 1 { queue := [(2047, .poll)] } {} 3).partnerState 2047 ≠ 2 ∧ emptyLane.heldBack .poll = false ∧
      frozenSq.heldBack (.read 1 (.entry 1 0 5 true { partner := 2047, object := 1, length := 1, laneFlags := 1, resultAddr := 0, value := [], reservedZero := true })) = true) ∧
    (emptyLane.duePartner 63 = some 2047 ∧ emptyLane.pollPeriod 2047 ≠ 0 ∧ (emptyLane.partner 2047).nextDue ≤ emptyLane.now) ∧ (LaneRequest.poll).type ≠ 6 ∧
    ((rxOf 10 [0]).crcOk = true ∧ (rxOf 10 [0]).broken = false ∧ (rxOf 10 [0]).dir = 1 ∧ (rxOf 10 [0]).type = 10 ∧ (rxOf 10 [0]).node = 31 ∧ ({ frameOf 10 [0] with gapless := false } : LaneFrame).gapless = false ∧
      (decodeFrame 1 { frameOf 10 [0] with bytes := (frameOf 10 [0]).bytes.set 4 1 }).crcOk = false) := by decide +kernel
theorem witness_LanesAndStreams_answers :
    (2047 = 32 * 63 + (rxOf 10 [0]).node ∧ answers .poll (rxOf 10 [0]) = true ∧ (rxOf 10 [0]).dir ≠ 0 ∧ emptyLane.payloadFits 2047 (rxOf 10 [0]) = true ∧ emptyLane.judgeAlive 2047 (rxOf 10 [0]) false = .accept ∧
      (known (some 3) 1).judgeAlive 2047 (rxOf 10 [0]) false = .repeats ∧ (known (some 1) 1).judgeAlive 2047 (rxOf 10 [0]) false = .skip) ∧
    ((rxOf 10 [0]).type ≠ 14 ∧ (rxOf 14 [1]).type = 14 ∧ (trans (.command 4 1 [] .nobody) 0 false).request.type = 3 ∧ (trans (.read 1 .nobody) 0 false).request.type = 4) ∧
    ((emptyLane.laneRuns 63 = true ∧ emptyLane.laneMode 63 = 1) ∧ (dev.laneRuns 63 = false) ∧ ((trans .poll 2 false).left ≠ 0 ∧ emptyLane.partnerState 2047 ≠ 3 ∧ (trans .poll 0 false).left = 0 ∧ (trans .poll 0 false).request.type ≠ 1)) ∧
    (emptyLane.partnerState 2047 < 3 ∧ 3 ≤ (laneIs 1 1 {} {} 3).partnerState 2047 ∧ (laneIs 1 1 {} {} 3).laneState (2047 / 32) ≠ 4) ∧
    ((laneIs 2 3 {} {} 2).serving = true ∧ (laneIs 2 3 {} {} 2).laneState 63 = 3 ∧ (laneIs 2 1 {} {} 2).laneRuns 63 = true ∧ (laneIs 2 1 {} {} 2).laneMode 63 = 2 ∧ 3 ≤ 3) := by decide +kernel

def bodyOf (p len : Nat) : LaneEntry := { partner := p, object := 254, length := len, laneFlags := 1, resultAddr := 0, value := [], reservedZero := true }
def streamOf (host : Option (List Byte)) (fl : Nat) : StreamEntry := { src := 0, dst := 0, length := 16777216, streamFlags := fl, reservedZero := true, host := host }
def groupIs (st : Nat) (bm res v : List Byte) : State := setUse ((((setRegs dev [(0x7900 + 15, 6, st), (0x7000 + 63, 9, 1)]).setRegBytes (0x7900 + 15) 1 bm).setRegBytes (0x7900 + 15) 8 res).setRegBytes (0x7900 + 15) 3 v) [(0x7100 + 2047, 1, 1)]
def lastPartner : List Byte := List.replicate 255 0 ++ [128]
def streamRuns (op fl : Nat) : State := { dev with streams := [(15, { inst := 1, q := 0, tag := 5, completion := true, opcode := op, body := streamOf none fl, data := [1, 2] })] }
theorem witness_LanesAndStreams_entries : dev.canFetch (ent 1) 4 = false ∧ (emptyLane.canFetch (ent 1) 4 = true ∧ 40 < 41 ∧ 58 < 59) ∧
    ((ent 1).flags ≤ 1 ∧ (bodyOf 2047 40).object ≠ 0 ∧ (bodyOf 2047 40).object ≤ 254 ∧ (bodyOf 2047 40).laneFlags ≤ 1 ∧ 1 ≤ (bodyOf 2047 40).length ∧ (bodyOf 2047 40).length ≤ 40 ∧ (bodyOf 2047 58).length ≤ 58 ∧ allZero ((bodyOf 2047 40).value.drop 40) = true ∧
      (emptyLane.sq 1 0).target < 0x1000 ∧ (bodyOf 2047 40).partner / 32 = (emptyLane.sq 1 0).target ∧ (bodyOf 2015 40).partner / 32 ≠ (emptyLane.sq 1 0).target ∧ emptyLane.laneState (2047 / 32) ≠ 0 ∧ emptyLane.laneState (2047 / 32) ≠ 4 ∧
      (laneIs 1 4 {} {} 2).laneState (2047 / 32) = 4) ∧
    (15 < 16 ∧ dev.reaches fw (0x7900 + 15) 4 (leBytes 1 2) = true ∧ dev.admits fw (0x7900 + 15) 4 (leBytes 1 1) = true ∧ groupTargets (dev.regBytes (0x7900 + 15) 1) = []) ∧
    ((groupIs 0 lastPartner [] [7]).admits fw (0x7900 + 15) 4 (leBytes 1 1) = true ∧ groupTargets ((groupIs 0 lastPartner [] [7]).regBytes (0x7900 + 15) 1) = [2047] ∧ 2047 < 32 * (groupIs 0 lastPartner [] [7]).laneCount ∧
      (groupIs 0 lastPartner [] [7]).use (0x7100 + 2047) 1 ≠ 0 ∧ ((groupIs 0 lastPartner [] [7]).regBytes (0x7900 + 15) 3).length = 1 ∧ instanceOf? fw = none ∧ (groupIs 0 lastPartner [] [7]).reg (0x7900 + 15) 6 ≠ 1 ∧ (groupIs 0 lastPartner [] [7]).laneState (2047 / 32) ≠ 4 ∧
      (groupIs 1 lastPartner [] [7]).reg (0x7900 + 15) 6 = 1) ∧
    (dev.reg (0x7900 + 15) 6 ≠ 1 ∧ (groupIs 1 [] (List.replicate 1023 0 ++ [16]) []).reg (0x7900 + 15) 6 = 1 ∧ groupResult ((groupIs 1 [] (List.replicate 1023 0 ++ [16]) []).regBytes (0x7900 + 15) 8) 2047 = 1) ∧
    (dev.canFetch (ent 1) 5 = false ∧ (queued dev 1 5 15).canFetch (ent 1) 5 = true ∧ (queued dev 1 5 15).streamRun 15 = none ∧ 15 = ((queued dev 1 5 15).sq 1 0).target ∧ 16777216 ≤ 16777216 ∧ 15 < 16 ∧ bit (streamOf none 1).streamFlags 0 = true ∧
      (setRegs (queued dev 1 5 15) [(0x2201, 4, 0)]).idaOk 1 0 16777216 = false ∧ (mapAll (setRegs (queued dev 1 5 15) [(0x2201, 4, 64)]) 1 256).idaOk 1 0 16777216 = true ∧ (streamOf (some []) 0).host.isSome = true) ∧
    (dev.streamRun 15 = none ∧ ((streamRuns 3 8).streamRun 15).isSome = true ∧ bit (streamOf none 8).streamFlags 3 = true ∧ bit (streamOf none 2).streamFlags 3 = false ∧ bit (streamOf none 2).streamFlags 1 = true ∧ [] ≠ (streamRuns 3 8).streamBytes 15 0) ∧
    (dev.reaches fw (0x7A40 + 15) 7 (leBytes 1 0) = true ∧ dev.reaches fw (0x7A40 + 15) 7 (leBytes 1 4) = true ∧ dev.admits fw (0x7A40 + 15) 7 (leBytes 1 1) = true ∧ dev.admits fw (0x7A40 + 15) 7 (leBytes 1 3) = true ∧
      (streamRuns 1 0).admits fw (0x7A40 + 15) 7 (leBytes 1 3) = true ∧ ((streamRuns 1 0).streamRun 15).isSome = true) := by decide +kernel

def audioIs (a : Audio) (l u : List (Nat × Nat × Nat)) : State := setUse (setRegs { queued dev 1 3 (64 + 63) with audio := a } l) u
theorem witness_AudioCrosspoint :
    (dev.reflex.tones.contains 7 = false ∧ ({ tones := [7] } : Reflex).tones.contains 7 = true) ∧ (7 < 8 ∧ dev.admits fw (0x6810 + 7) 7 (leBytes 1 1) = true) ∧
    ((dev.toneGen 7).requested = false ∧ ((audioIs { tones := [(7, { requested := true })] } [] []).toneGen 7).requested = true) ∧
    (127 < 128 ∧ dev.admits fw (0x6900 + 127) 0x41 (leBytes 8 0) = true ∧ (dev.row 127).pending = none ∧ 0 ≤ dev.now + sec 10 ∧ dev.now + sec 10 < 10000000001 ∧ dev.admits fw (0x6900 + 127) 0x41 (leBytes 8 10000000001) = true ∧
      (audioIs { rows := [(127, { pending := some 9 })] } [] []).admits fw (0x6900 + 127) 0x41 (leBytes 8 0) = true ∧ 1 < ({ dev with now := 2 } : State).now) ∧
    ((audioIs {} [(0x6800, 5, 1)] []).serving = true ∧ (audioIs {} [(0x6800, 5, 1)] []).reg 0x6800 5 = 1 ∧ (audioIs {} [(0x6800, 5, 2)] []).reg 0x6800 5 ≠ 1 ∧
      (audioIs {} [(0x6800, 5, 2)] [(0x6800, 1, 1)]).use 0x6800 1 = 1 ∧ (audioIs {} [(0x6800, 5, 2)] [(0x6800, 1, 1)]).audio.switching = none ∧ ({ switching := some 1 } : Audio).switching = some 1) ∧
    (7 < dev.dies ∧ (audioIs {} [(0x680F, 0xF, 1)] [(0x680F, 2, 0)]).tdmState 7 = 1 ∧ (audioIs {} [(0x680F, 0xF, 1)] [(0x680F, 2, 0)]).use (0x6808 + 7) 2 ≠ 1 ∧ (audioIs {} [(0x680F, 0xF, 2)] []).tdmState 7 = 2 ∧ dev.tdmState 7 ≠ 1) ∧
    (dev.canFetch (ent 1) 3 = false ∧ (audioIs {} [] []).canFetch (ent 1) 3 = true ∧ (ent 1).flags ≤ 1 ∧ 16777216 % 4 = 0 ∧ 63 = ((audioIs {} [] []).sq 1 0).target - 64 ∧ 3 % 2 ≠ 0) ∧
    ((dev.stream 63).held = false ∧ (dev.stream 63).fade = 0) ∧ (dev.serving = true ∧ dev.health.succession = false) ∧ (bit (dev.reg 0x6800 8) (63 / 8) = false ∧ bit ((setRegs dev [(0x6800, 8, 128)]).reg 0x6800 8) (63 / 8) = true) ∧
    (¬((setUse dev [(0x680F, 7, 1)]).use (0x6808 + 63 / 8) 7 = 2 ∧ (setUse dev [(0x680F, 7, 1)]).use (0x6808 + 63 / 8) 9 = 63 % 8)) ∧
    (191 < 192 ∧ (setRegs dev [(0x6A3F, 0x11, 2)]).reg (if 191 < 128 then 0x6900 + 191 else 0x6A00 + (191 - 128)) (if 191 < 128 then 0x48 else 0x11) ≠ 1) ∧ (dev.reg (0x6808 + 7) 0x10 = ofBool false ∧ dev.reg (0x6808 + 7) 0x10 ≠ ofBool true) := by decide +kernel

/-! ### Further witnesses: the hypotheses of further clauses, and of those under which a command changes nothing -/

theorem witness_ResetPinsAndStraps_more : (porOut.boot.porReleased = true ∧ (asleep 4).powerState = 4) ∧
    (State.reset.boot.resetHigh = true ∧ (strapped 0 0).boot.perstHigh = true) := by decide +kernel
theorem witness_WhatEntersPowered_more : (State.reset.boot.porReleased = false ∧ State.reset.power.railsWait = none) ∧
    (Rail.vddq ≠ .aon ∧ Rail.vddq ≠ .io18 ∧ (asleep 3).powerState ≠ 4) := by decide +kernel
theorem witness_PerstAssertion_more : (porOut.powerState ≠ 4 ∧ porOut.health.stopped = false ∧ porOut.operational = false ∧ porOut.boot.strapsSampled = false) := by decide +kernel
theorem witness_RomStates_more : ((romReady 0).configOpen = true ∧ (romReady 0).bootState = 1 ∧ (romReady 0).reg 0x2002 1 ≠ 1 ∧ (romReady 0).boot.clearing = false) ∧
    ((romReady 1).configOpen = true ∧ (romReady 1).reg 0x2002 1 = 1 ∧ State.reset.configOpen = false ∧ dev.bootState ≠ 0 ∧ dev.bootState ≠ 1) ∧
    ((strapped 0 1).bootState = 0 ∧ (strapped 0 1).powerState = 0 ∧ (strapped 0 1).boot.strapsSampled = true ∧ (strapped 0 1).boot.resetHigh = true) := by decide +kernel
theorem witness_BootWindow_more : (dev.bootState ≠ 2 ∧ dev.windowOpen = false ∧ 0x400000 < 0x3FFFFD + [1, 2, 3, 4].length) ∧
    ((window true).boot.clearing = true ∧ (window true).bootState = 2) ∧
    (({ romReady 0 with boot := { clearing := true, memorySpace := true } } : State).bootState = 1 ∧ ({ romReady 0 with boot := { clearing := true, memorySpace := true } } : State).reg 0x2002 1 ≠ 1) ∧
    (({ booting 0xFF with boot := { memorySpace := true, ltssm := true } } : State).windowOpen = true ∧ (booting 0xFF).bootState = 0xFF) := by decide +kernel
theorem witness_MembersJoin_more : (joining.operational = false ∧ joining.reg (0x2008 + 7) 2 ≠ 3 ∧ dev.bootState ≠ 4) := by decide +kernel
theorem witness_BootSlots_more : (dev.bootState ≠ 5 ∧ 0 < sramBase 7 ∧ 0 < stackBase 7 + 0x7FF00000) ∧
    ((slots [1] 3).coreActive 0 = false ∧ (slots [1] 3).coreActive 1 = true ∧ (slots [1] 3).shellUp 0 = false) := by decide +kernel
theorem witness_TrainingAndInitialRing_more : (dev.bootState ≠ 6 ∧ dev.bootState ≠ 7) ∧
    ((∀ d, d < (booting 6).dies → (booting 6).shellUp d = true → ({ booting 6 with fabric := linked.fabric } : State).reached d = true)) := by decide +kernel
theorem witness_BootObjects_more : (dev.admits fw 0x2102 2 (leBytes 1 0) = true ∧ 0 ≤ (dev.admitted fw 0x2102 2 (leBytes 1 0)).fuses.securityCount) ∧
    (dev.admits fw 0x2102 4 (leBytes 1 0) = true ∧ 0 = (dev.admitted fw 0x2102 4 (leBytes 1 0)).reg 0x2101 3 ∧ (3 < 4 ∧ dev.reaches fw 0x2102 4 (leBytes 1 4) = true) ∧ worldOf box = .normal) := by decide +kernel
theorem witness_LinksAndRoutes_more : (linked.fabricUp = true ∧ linked.part.linkNamed 0 1 ∈ linked.part.links ∧ 2 ≤ linked.linkCode (linked.part.linkNamed 0 1)) ∧
    (State.reset.fabricUp = false ∧ dev.part.linkNamed 0 3 ∉ dev.part.links ∧ ({ linked with fabric := {} } : State).linkCode (linked.part.linkNamed 0 1) ≤ 1) ∧
    (Part.linkNamed .ux3804 1 0 = 257 ∧ 257 ∈ Part.links .ux3804) := by decide +kernel
theorem witness_TimeShown_more : (ticking.timeRuns = true ∧ ticking.fabric.aligned = true ∧ State.reset.timeRuns = false) ∧
    ((∀ d, d < ticking.dies → (ticking.slewOf d).skewAt 7 = 0 ∧ (ticking.slewOf d).goal = 0)) ∧
    (failed.serving = false ∧ State.reset.pageWritable 0 = false) := by decide +kernel
theorem witness_SingleRequests_more : ((rescue.takeRequest .mcan (.read 0x2104 0 .active)).1 = true ∧ (0x2100 ≤ 0x2104 ∧ 0x2104 ≤ 0x2106) ∧ (busyBox.inst 0).mbox.outstanding = true) := by decide +kernel
theorem witness_WriteGroups_more : ((∀ g ∈ (grouped twoGains [0] none).dir.running, 0 ∈ g.waiting ∧ (grouped twoGains [0] none).answersPrepare 0 = true ∧ g.failWith ≠ Status.aborted ∧ (grouped twoGains [0] none).now ≤ g.sentAt + ms 2)) ∧
    ((∀ g ∈ (grouped versionSet [0] none).dir.running, (grouped versionSet [0] none).prepareResult g 0 = none)) ∧
    (dev.dir.running = none ∧ (grouped twoGains [0] none).dir.running.map (·.commitT) = some none ∧ (grouped twoGains [0] none).dir.running.map (·.waiting) = some [0]) ∧
    (({ applying with failWith := 5, failPos := 2 } : WriteGroup).failWith ≠ 0 ∧ 1 < ({ applying with failWith := 5, failPos := 2 } : WriteGroup).failPos ∧ applying.failWith = 0) ∧
    ((grouped twoGains [] (some 20000)).dir.running.map (·.commitT) = some (some 20000) ∧ (grouped twoGains [] (some 20000)).health.succession = false) := by decide +kernel
theorem witness_ReadGroupsAndWaits_more : ((reading none).health.succession = false ∧ ({ req := fw, entries := getGroup, captureT := 20000 } : ReadGroup) ∈ ((reading none).commitBy 20000).dir.reads) ∧
    (applying.commitT = some 20000 ∧ 20000 ≤ 20000 ∧ 19999 < 20000 ∧ dev.dir.reads = []) ∧
    ((dev.takeRequest box (.write 0x2100 7 [0xA5])).1 = true ∧ dev.writeStatus box 0x2100 7 [0xA5] = Status.ok ∧ 0x2100 ≠ 0x1F12 ∧ dev.entryReserved 0x2100 7 = false) ∧
    ((dev.takeRequest box (.describe 0x2100 7)).1 = true ∧ (lookup dev.part 0x2100 7).isSome = true ∧ box ≠ .mcan) := by decide +kernel
theorem witness_RingCommands_more : ((ringed 2 5).admits fw 0x2112 2 (leBytes 4 0) = true ∧ (ringed 2 5).reg 0x2110 7 ≠ 0 ∧ (ringed 2 5).reg 0x2110 7 < ({ ringed 2 5 with now := 501 } : State).now ∧ ({ ringed 2 5 with now := 501 } : State).admits fw 0x2112 2 (leBytes 4 0) = true) ∧
    ((ringed 2 5).admits fw 0x2112 2 (leBytes 4 1) = true ∧ 1 ≠ (ringed 2 5).ringVersion) ∧
    ((ringed 2 5).admits fw 0x2112 3 (leBytes 1 1) = true ∧ (ringed 2 5).ringPhase = 2 ∧ (ringed 2 5).reg 0x2110 7 ≠ (ringed 2 5).now ∧ dev.admits fw 0x2112 3 (leBytes 1 1) = true) ∧
    ((ringed 1 5).admits fw 0x2111 3 (leBytes 1 1) = true ∧ (ringed 1 5).draftBusy = true ∧ (ringed 0 5).draftBusy = false ∧ (ringed 1 5).admits fw 0x2111 4 [] = true) ∧
    (dev.previous = none ∧ dev.admits fw 0x2111 3 (leBytes 1 2) = true) := by decide +kernel
theorem witness_RingOutcomes_more : (({ ringBusy 1 {} with health := { succession := true } } : State).health.succession = true) ∧
    ((setRegs dev [(0x200F, 3, 3)]).serviceStatus 0x63FF = Status.hwFault) := by decide +kernel
theorem witness_NmtHeartbeatWake_more : ((setRegs can [(0x1F11, 2, 4)]).nmtState = 4 ∧ (setRegs can [(0x1F11, 2, 4)]).mcanRuns = true ∧ dev.mcan.heartbeatDue = none ∧ failed.operational = true ∧ failed.health.stopped = true) := by decide +kernel
theorem witness_EmcyAndErrors_more : ((emcy 0xFF02).code = 0xFF02 ∧ can.mcan.queue = [] ∧ can.nextEmcy = none ∧ can.mcan.repeatDue = none) ∧
    ((repeating (some (emcy 0xFF01))).mcan.replacement = some (emcy 0xFF01) ∧ ({ failure := some (emcy 0xFF02) } : Mcan).replacement ≠ some (emcy 0xFF02) ∧ ({ failure := some (emcy 0xFF02) } : Mcan).queue = []) ∧
    (({ queue := [emcy 1], replacement := some (emcy 0xFF01) } : Mcan).queue = emcy 1 :: [] ∧ ({ queue := [emcy 1] } : Mcan).replacement ≠ some (emcy 1)) := by decide +kernel
theorem witness_UsdoTransfers_more : ((can.submit .mcan (.read 0x7900 8 .active)).out.usdo.getLast?.map (fun a => decide (56 < a.body.length)) = some true) ∧
    ((can.submit .mcan (.read 0xFFFF 8 .active)).out.usdo.getLast?.map (fun a => a.abort.isSome) = some true ∧ 56 < (List.replicate 57 (0 : Byte)).length) ∧
    (({ sessions true 1 with now := 11 } : State).session? 3 = some (session true) ∧ (session true).deadline < 11 ∧ can.session? 3 = none) ∧
    (({ can with mcan := { sessions := [session true] } } : State).session? 3 = some (session true) ∧ can.operational = true ∧ rescueSession.operational = false) := by decide +kernel
theorem witness_SubmissionQueues_more : ((sqOn 0).pageWritable 0 = true ∧ 15 < 16 ∧ (dev.sq 0 15).enabled = false ∧ (0x80060000#32 : Word32).getLsbD 31 = true ∧ (0x00060000#32 : Word32).getLsbD 31 = false ∧ 16 ≤ 16) ∧
    (State.reset.pageWritable 0 = false ∧ (((sqOn 0).modSq 0 0 (fun y => { y with stopped := true })).sq 0 0).stopped = true) ∧
    (((queued dev 1 3 15).sq 1 0).type = 3 ∧ ((queued dev 1 4 15).sq 1 0).type = 4 ∧ ((queued dev 1 6 15).sq 1 0).type = 6) := by decide +kernel
theorem witness_EventRingControl_more : (dev.pageWritable 1 = true ∧ ((ringOn 1 0 0).inst 1).evq.enabled = true ∧ (ringOn 1 0 0).pageWritable 1 = true ∧ (0#32 : Word32).getLsbD 31 = false ∧ ((ringOn 1 0 0).inst 1).evq.head = ((ringOn 1 0 0).inst 1).evq.tail) := by decide +kernel
theorem witness_EventDelivery_more : ((frozenSq.modInst 1 (fun x => { x with held := List.replicate 512 (dev.record 5 0 0 0 0 0) })).isShed 1 = true ∧ 512 ≤ ((frozenSq.modInst 1 (fun x => { x with held := List.replicate 512 (dev.record 5 0 0 0 0 0) })).inst 1).held.length) ∧
    ((dev.inst 1).msixEnabled = false ∧ ((ringOn 1 0 0).inst 1).msixSize ≤ 2 ∧ (ringOn 1 0 62).isShed 1 = false) := by decide +kernel
theorem witness_HostAccess_more : (frozenSq.isShed 1 = true ∧ ({ mapped with live := (setRegs mapped [(0x2201, 1, 5)]).live } : State).isShed 1 = true ∧ ({ mapped with live := (setRegs mapped [(0x2201, 1, 5)]).live } : State).pageOpen 1 = true) ∧
    (State.reset.pageOpen 1 = false ∧ State.reset.cpuRuns 31 = false) ∧
    (claimsHead.busOutcome (claimsHead.coreAttr 31) 0x1000000FFC false = .refused ∧ claimsHead.busOutcome (claimsHead.coreAttr 31) 0x1000001000 false = .done) := by decide +kernel
theorem witness_Instances_more : (dev.admits fw 0x2201 6 [1, 0] = true ∧ (lookup dev.part 0x2201 6).isSome = true ∧ 0x2201 ≠ 0x1F12) ∧
    (State.reset.operational = false ∧ vfs.vfEnable = true ∧ vfs.numVfs ≤ 31 ∧ 31 < 32 ∧ dev.vfEnable = false) ∧
    (dev.instState 31 = 0 ∧ dev.instState 1 ≠ 2 ∧ (setRegs dev [(0x2201, 1, 3)]).instState 1 = 3) ∧
    ((shedRuns 4 1).shed.running ≠ none ∧ (shedRuns 4 1).shed.target = 1 ∧ dev.shed.running = none) ∧
    (dev.reaches fw (0x2200 + 1 * 31) 0x15 (leBytes 1 2) = true ∧ (dev.inst 1).takenFrom = none ∧ (setRegs dev [(0x2201, 1, 6)]).instState 1 = 6) := by decide +kernel
theorem witness_FreezeAndThaw_more : ((shedRuns 4 1).admits fw 0x2221 2 (leBytes 1 2) = true ∧ (shedOf 1).shed.drainDeadline = none ∧ (shedOf 1).shed.running ≠ some 1 ∧ (shedOf 1).instState 1 ≠ 5 ∧ (shedOf 1).admits fw 0x2221 2 (leBytes 1 2) = true) := by decide +kernel
theorem witness_SaveAndRestore_more : ((shedRuns 4 1).admits fw 0x2221 2 (leBytes 1 3) = true ∧ (shedRuns 4 1).admits fw 0x2221 2 (leBytes 1 4) = true ∧ (shedOf 1).admits fw 0x2221 2 (leBytes 1 4) = true ∧ (shedOf 1).admits fw 0x2221 2 (leBytes 1 3) = true ∧ (shedOf 1).shed.running = none ∧ (shedOf 1).shed.running ≠ some 3 ∧ (shedOf 1).shed.running ≠ some 4) ∧
    ((restored false).shed.target < 32) := by decide +kernel
theorem witness_WorldSwitches_more : (0x0000000B % 128 = 0x0B ∧ 0x13 % 128 ≠ 0x0B ∧ State.reset.cpuRuns 31 = false ∧ (dev.cpu 31).world = .normal ∧ (dev.cpu 0).world = .secure ∧ dev.cpuRuns 0 = true) ∧
    (((cpus { calling 2 .machine with irqFrom := some (.normal, .user) }).cpu 31).irqFrom = some (.normal, .user) ∧ ((cpus (calling 2 .machine)).cpu 31).irqFrom = none) := by decide +kernel
theorem witness_MonitorServices_more : ((dev.serviceOf 31 = none) ∧ (calls .machine { dieMask := 0x80 }).serviceOf 31 = some 0x10000 ∧ ({ dieMask := 0x80 } : Applet).faulted = false ∧ ({ dieMask := 0x80 } : Applet).suspended = none) ∧
    (((calls .user { dieMask := 0x80 }).cpu 31).inApplet = true ∧ (calls .user { dieMask := 0x80 }).serviceOf 31 = some 0x10000 ∧ ((calls .machine { dieMask := 0x80 }).cpu 31).inApplet = false) ∧
    (dev.applet? 1 = none ∧ State.reset.cpuRuns 0 = false ∧ (dev.serviceOf 31) ≠ some 1) := by decide +kernel
theorem witness_SecureEntryAndClaims_more : (dev.applet? 1 = none ∧ dev.claimCount 2 ≤ 512 ∧ (claiming 6 []).worlds.claims.length < 64 ∧ (claiming 6 []).claimed 2 511 = false ∧ (claiming 6 (List.replicate 64 ⟨2, 2, 0⟩)).worlds.claims.length = 64) := by decide +kernel
theorem witness_DebugUnlockAndPort_more : ((probed 0).worlds.challenge = none ∧ (probed 0).fuses.debugKey = false ∧ State.reset.bootState ≤ 2 ∧ dev.pins.trstHigh = false ∧ 0x12 ∈ [1, 2, 3, 0x10, 0x11, 0x12]) := by decide +kernel
theorem witness_PowerRequests_more : ((powered 2 2 { target := 3 }).admits fw 0x2400 2 (leBytes 1 4) = true ∧ (powered 2 2 { target := 3 }).reg 0x2400 3 = 2 ∧ (powered 2 2 { target := 3 }).exitRuns = false) ∧
    (dev.reg 0x2400 3 ≠ 1 ∧ dev.power.delayUntil = none ∧ dev.power.wakeDuring = none ∧ (powered 2 0 { wakeDuring := some 1 }).powerState = 2 ∧ wakeMarked 1 2 = true) := by decide +kernel
theorem witness_PowerEntriesAndExits_more : (dev.reg 0x2400 3 ≠ 2 ∧ dev.power.deepAfter = none ∧ dev.power.offNotice = none ∧ (200 ≤ 200 ∧ 999 < 1000) ∧ dev.exitRuns = false) ∧
    ((powered 0 2 { target := 2 }).entryRuns = true ∧ (powered 0 2 { target := 2 }).exitRuns = false ∧ wakeMarked 4 0 = false ∧ wakeMarked 3 2 = true ∧ (powered 0 2 { target := 4 }).power.target = 4) := by decide +kernel
theorem witness_DiesAndRegulators_more : (dev.dies ≤ 8 ∧ State.reset.operational = false ∧ 2 ≤ (powered 2 0 {}).powerState ∧ dev.reg (0x2408 + 7) 1 ≠ 1) ∧
    (600 ≤ (regulated 0 600 0).regI (0x2408 + 7) 3 ∧ (regulated 1 0 848).reg (0x2408 + 7) 6 = 1 ∧ 850 < (regulated 1 0 848).reg (0x2408 + 7) 5 + 5 ∧ (regulated 3 0 0).reg (0x2408 + 7) 6 ≠ 0) ∧
    (({ regulated 1 0 555 with power := {} } : State).reg (0x2408 + 7) 6 = 1 ∧ Tab.find? ({ regulated 1 0 555 with power := {} } : State).power.vr 7 = none ∧ 555 ≤ (regulated 1 0 555).reg (0x2408 + 7) 5) := by decide +kernel
theorem witness_SapflowRoundsAndCuts_more : (failed.serving = false ∧ dev.dies ≤ 8 ∧ (0 : Int) ≤ (250 * dev.use 0x2500 1 : Nat) - (dev.use 0x2500 2 : Int)) ∧
    ((dev.reg 0x2710 2 ≠ 1) ∧ ({ dev with survey := { piezoRunning := [(15, 4)] } } : State).survey.piezoRunning ≠ []) := by decide +kernel
theorem witness_SurveyReadings_more : ((12 ≤ 12) ∧ State.reset.surveyWorks 7 = false ∧ (7 ≠ 0 ∧ 9 = 9) ∧ 6 ≤ 6) ∧
    ((dev.admits fw (0x2610 + 15) 6 (leBytes 1 1) = true ∧ 15 ∈ ({ piezoWaiting := [15] } : SurveyWork).piezoWaiting) ∧ Tab.find? dev.survey.piezoRunning 15 = none) ∧
    (({ dev with survey := { margin := [7] } } : State).survey.margin = [7] ∧ dev.powerState ≤ 1 ∧ dev.shellUp 7 = true ∧ (dev.laneMode 63 = 0) ∧ 64 ≤ 64) := by decide +kernel
theorem witness_SelfTestAndHealth_more : ((setRegs idling [(0x2008 + 6, 3, 3)]).shellUp 6 = false ∧ (setUse idling [(0x6808 + 7, 1, 1)]).dieIsIdle 7 = false ∧ (setRegs idling [(0x2008 + 7, 3, 3)]).admits fw 0x2710 1 (leBytes 1 7) = true ∧ (dev.reg 0x2710 2 ≠ 2) ∧ dev.health.slot = none) ∧
    ((setRegs dev [(0x200F, 2, 3)]).reg (0x2008 + 7) 2 = 3 ∧ (setRegs dev [(0x200F, 3, 3)]).reg (0x2008 + 7) 3 = 3 ∧ (setRegs dev [(0x2700, 1, 1)]).healthState = 1 ∧ dev.health.succession = false ∧ slotItems ⟨0, none, .corePll, 0⟩ = []) := by decide +kernel
theorem witness_HeadLinks_more : ((headIs 15 {} (lk 2)).linkState 15 = 2 ∧ ((headIs 15 {} (lk 2)).head 15).debounce = none ∧ (headIs 15 {} (lk 4)).linkState 15 ≠ 3 ∧ (headIs 15 {} (lk 3)).linkState 15 ≠ 4) ∧
    (((headIs 15 {} (lk 5)).head 15).candidates[0]? = none ∧ (headIs 15 {} (lk 4)).linkState 15 ≠ 5 ∧ (headIs 15 {} (lk 4)).linkState 15 ≠ 7) ∧
    (4 ∈ [1, 2, 4] ∧ carries ⟨0, 4⟩ {} = true) ∧
    (dev.reaches fw (0x3005 + 256 * 15) 2 (leBytes 1 0) = true ∧ ((headIs 15 { link := some ⟨0, 4⟩ } (lk 6)).hpdSampled 15 = true)) ∧
    ((headIs 15 { running := true } (lk 6)).generates 15 = true ∧ (headIs 15 {} (lk 6)).generates 15 = false) := by decide +kernel
theorem witness_LinesAndFrames_more : (15 ∈ (runs {} 0).pairOf 15 ∧ ((runs { toLine0 := some 2 } 0).head 15).toLine0 = some 2 ∧ 1 < 2) ∧
    (((runs { latchedNext := false } 1).head 15).latchedNext = false ∧ ((runs { readyRaised := true, reflexStart := true, line := 1080 } 1).head 15).reflexStart = true ∧ ((runs { readyRaised := true } 1).head 15).reflexStart = false) ∧
    (((runs { readyRaised := true, reflexStart := true, line := 3 } 1).head 15).line < (runs { readyRaised := true, reflexStart := true, line := 3 } 1).cutoff 15) := by decide +kernel
theorem witness_CommitsAndUnderrun_more : ((dev.cutoff 15 ≤ 1079) ∧ recordsAscend [] = true ∧ (queued dev 1 2 15).commitFetch 15 1 0 28 1 none = none ∧ (2 : Nat) ≠ 1) ∧
    (((runs { aborting := some (7, 1090) } 0).head 15).aborting.isSome = true ∧ ((runs { toLine0 := some 1, aborted := true } 0).head 15).aborted = true ∧ ((runs { latchedCommit := true, line := 1080 } 1).head 15).latchedCommit = true ∧ (runs { line := 1080 } 1).cutoff 15 ≤ 1080) := by decide +kernel
theorem witness_BandsSpritesCanopy_more : (((composing 15 { bgFrame := some 0 }).comp 15).bgFrame = some ((composing 15 { bgFrame := some 0 }).comp 15).frameNumber ∧ ((composing 15 {}).head 15).fallback = none ∧ dev.canopyReg 15 6 ∉ [2, 3, 6]) ∧
    (instanceOf? box = some 0 ∧ instanceOf? fw = none ∧ dev.reaches fw (0x4100 + 127) 0xB (leBytes 1 4) = true ∧ dev.admits box (0x4100 + 127) 0xB (leBytes 1 3) = true) := by decide +kernel
theorem witness_HeartwoodRegions_more : (enabledRegion.regionUse 127 0xB = 0 ∧ dev.regionUse 127 1 ≠ 1 ∧ (setUse { dev with active := [(entryKey 0x437F 1, .num 1)] } [(0x437F, 1, 1), (0x437F, 2, 255)]).heartwoodLayer (0x40FF - 0x4000) = (setUse { dev with active := [(entryKey 0x437F 1, .num 1)] } [(0x437F, 1, 1), (0x437F, 2, 255)]).heartwoodLayer 255) := by decide +kernel
theorem witness_GraphicsQueues_more : ((gfxIs 127 { wait := some (waits none) } {}).ctxFree ((gfxIs 127 { wait := some (waits none) } {}).sq 1 0).target = false ∧ dev.ctxFree (dev.sq 1 0).target = true ∧ (testing 2 7).inFieldSlot 7 = true ∧ dev.inFieldSlot 7 = false) ∧
    (((gfxIs 127 {} {}).ctx 127).job = none ∧ (jobOf none none).parts.find? (fun p => p.die = 3) = none) := by decide +kernel
theorem witness_GraphicsPasses_more : (((gfxIs 127 (ctxJob none none) {}).ctx 127).job = some (jobOf none none) ∧ (jobOf none none).pass = none ∧ (jobOf none (some ⟨2, 3, 0, 0, 0⟩)).failure.isSome = true) ∧
    (sliceFills (leBytes 4 0 ++ List.replicate 20 0 ++ leBytes 4 4096) 1 [600] = true ∧ sliceFills [] 1 [] = false) := by decide +kernel
theorem witness_HapticEffects_more : (((hapIs 1 { ready := some 9, limited := true, held := some ⟨255, 1000, .reflex, 3⟩ }).hap 15).held = some ⟨255, 1000, .reflex, 3⟩ ∧ (hapIs 1 {}).effectBytes 0 = [] ∧ (hapIs 2 {}).hapServed 15 = true) ∧
    (dev.reaches fw (0x6400 + 15) 0x1A (leBytes 1 2) = true ∧ (setRegs (hapIs 6 {}) [(0x640F, 0x19, 3)]).reg (0x6400 + 15) 0x19 ≠ 0 ∧ (setRegs (hapIs 6 {}) [(0x640F, 0x19, 3)]).hapServed 15 = true ∧ (setRegs (hapIs 6 {}) [(0x640F, 0x19, 3)]).senseBusUp 15 = true ∧ ((hapIs 6 { ampLow := true }).hap 15).ampLow = true) ∧
    (outranked ⟨255, 1000, .software, 0⟩ (effectIs (.segment 0) none) 0 = false ∧ outranked ⟨255, 1000, .software, 0⟩ { effectIs (.segment 0) none with trigger := ⟨255, 1000, .reflex, 3⟩, triggered := 0 } 0 = true) ∧
    (((hapIs 2 { play := some { playOf true with dueAt := 0 } }).hap 15).play = some { playOf true with dueAt := 0 } ∧ ({ playOf true with dueAt := 0 } : HapticPlay).dueAt ≤ (hapIs 2 {}).now ∧ (effectIs .overdrive none).stage = .overdrive) := by decide +kernel
theorem witness_LanesAndStreams_more : ((emptyLane.laneRuns 63 = true ∧ emptyLane.laneState 63 ≠ 3) ∧ (setUse emptyLane [(0x2600, 7, 0)]).use 0x2600 7 ≠ 1 ∧ emptyLane.use 0x2600 7 = 1 ∧ (0 : Int).natAbs ≤ 12500) ∧
    (((laneIs 2 1 {} {} 2).lane 63).current = none ∧ (laneIs 2 1 {} {} 2).laneMode 63 = 2 ∧ (laneIs 2 1 {} {} 2).partnerState 2047 = 2 ∧ (rxOf 13 [0]).type = 13) ∧
    (instanceOf? box = some 0 ∧ (groupIs 0 lastPartner [] [7]).laneState (2047 / 32) ≠ 0 ∧ (groupIs 0 lastPartner [] [7]).laneServed (2047 / 32 / 8) = true ∧ 16 ≤ 16) ∧
    ((streamOf (some [1, 2, 3]) 0).host = some [1, 2, 3] ∧ (streamOf none 0).host = none) := by decide +kernel
theorem witness_AudioCrosspoint_more : (((audioIs { tones := [(7, { ignored := true })] } [] []).toneGen 7).ignored = true ∧ (dev.toneGen 7).ignored = false ∧ dev.reaches fw (0x6810 + 7) 7 (leBytes 1 0) = true) ∧
    ((audioIs {} [(0x6800, 5, 1)] [(0x6800, 1, 0)]).use 0x6800 1 = 0 ∧ (audioIs {} [(0x6800, 5, 1)] [(0x6800, 1, 1)]).use 0x6800 1 ≠ 0) ∧
    ((slipped true [1, 2, 3]).length = 2 ∧ (slipped false [1, 2, 3]) = [1, 1, 2, 3] ∧ (dev.xpo 63).transmit.length = 3) := by decide +kernel

/-! ### A few results -/

/-- R353: 0x1F of 5 bits is 0xFFFF; R362: an opaque STRAIGHT pixel replaces what is below it. -/
theorem test_pixels : Pixel.expand 5 16 31 = 65535 ∧ Pixel.expand 10 16 0x200 = 0x8020 ∧ Pixel.blend 65535 2 65535 65535 5 9 = 5 := by decide
/-- R603: the check values of the three presets over "123456789". -/
theorem test_presets : Crc.value ⟨8, 0x2F, 0xFF, false, false, 0xFF⟩ [0x31, 0x32, 0x33, 0x34, 0x35, 0x36, 0x37, 0x38, 0x39] = 0xDF ∧
    Crc.value ⟨16, 0x1021, 0xFFFF, false, false, 0⟩ [0x31, 0x32, 0x33, 0x34, 0x35, 0x36, 0x37, 0x38, 0x39] = 0x29B1 ∧
    Crc.value ⟨32, 0x1EDC6F41, 0xFFFFFFFF, true, true, 0xFFFFFFFF⟩ [0x31, 0x32, 0x33, 0x34, 0x35, 0x36, 0x37, 0x38, 0x39] = 0xE3069283 := by decide +kernel
/-- A step takes the front command and leaves the rest. -/
theorem test_step_takes_front : ∃ t, step { resetLow with pending := [.resetNRelease, .idcode none] } = .next t ∧ t.pending = [.idcode none] ∧ t.boot.resetHigh = true :=
  ⟨_, rfl, rfl, rfl⟩

end

end Sys2Proof.Tests
end

section
/-! SUPPORT and O56. The expansion of R353: the lemmas about `Pixel.expand` (what one more bit adds, its bits, what
lies within one period and beyond it) and the statement assembled from them. -/
namespace Sys2Proof.Machine

namespace Pixel

@[simp] theorem expand_width_zero (n v : Nat) : expand n 0 v = 0 := rfl

/-- One more bit of width appends the pattern's next bit below the others. -/
theorem expand_width_succ (n w v : Nat) :
    expand n (w + 1) v = Nat.bit (bit v (n - 1 - w % n)) (expand n w v) := by
  simp only [expand, List.range_succ, List.foldl_append, List.foldl_cons, List.foldl_nil]
  cases bit v (n - 1 - w % n) <;> rfl

theorem expand_lt (n w v : Nat) : expand n w v < 2 ^ w := by
  induction w with
  | zero => simp
  | succ w ih =>
    rw [expand_width_succ, Nat.bit_val, pow_succ]
    have := Bool.toNat_le (bit v (n - 1 - w % n))
    omega

/-- R353's rule: counted from the top, bit j of the result is bit j mod n of the component. -/
theorem bit_expand (n w v j : Nat) (hj : j < w) :
    bit (expand n w v) (w - 1 - j) = bit v (n - 1 - j % n) := by
  induction w with
  | zero => omega
  | succ w ih =>
    rw [expand_width_succ]
    obtain rfl | hlt : j = w ∨ j < w := by omega
    · rw [show j + 1 - 1 - j = 0 by omega]
      exact Nat.testBit_bit_zero _ _
    · rw [show w + 1 - 1 - j = (w - 1 - j) + 1 by omega, ← ih hlt]
      exact Nat.testBit_bit_succ ..

/-- Within one period the expansion is the component's top bits. -/
theorem expand_of_width_le {n w v : Nat} (hv : v < 2 ^ n) (hw : w ≤ n) : expand n w v = v >>> (n - w) := by
  induction w with
  | zero => simp [Nat.shiftRight_eq_div_pow, Nat.div_eq_of_lt hv]
  | succ w ih =>
    have hshift : v >>> (n - w) = (v >>> (n - (w + 1))) >>> 1 := by
      rw [← Nat.shiftRight_add]; congr 1; omega
    have hbit : bit v (n - 1 - w % n) = (v >>> (n - (w + 1))).testBit 0 := by
      rw [Nat.mod_eq_of_lt hw, Nat.testBit_shiftRight, bit]; congr 1; omega
    rw [expand_width_succ, ih (by omega), hshift, hbit, Nat.bit_testBit_zero_shiftRight_one]

/-- Beyond one period the component stands on top of its own expansion to the rest of the width. -/
theorem expand_width_add {n v : Nat} (hv : v < 2 ^ n) (w : Nat) :
    expand n (n + w) v = v <<< w + expand n w v := by
  induction w with
  | zero => simp [expand_of_width_le hv (le_refl n)]
  | succ w ih =>
    rw [← Nat.add_assoc, expand_width_succ, expand_width_succ, ih, Nat.add_mod_left, Nat.bit_val, Nat.bit_val,
      Nat.shiftLeft_succ]
    ring

theorem expand_width_add_or {n v : Nat} (hv : v < 2 ^ n) (w : Nat) :
    expand n (n + w) v = v <<< w ||| expand n w v := by
  rw [expand_width_add hv, Nat.shiftLeft_add_eq_or_of_lt (expand_lt n w v)]

/-- Over k whole periods the expansion is the geometric sum of the shifted component: it is
`v * (2 ^ (n * k) - 1) / (2 ^ n - 1)`, here without subtraction. -/
theorem expand_periods {n v : Nat} (hv : v < 2 ^ n) (k : Nat) :
    2 ^ n * expand n (n * k) v + v = 2 ^ (n * k) * v + expand n (n * k) v := by
  induction k with
  | zero => simp
  | succ k ih =>
    rw [Nat.mul_succ, Nat.add_comm (n * k) n, expand_width_add hv, Nat.shiftLeft_eq, pow_add]
    linear_combination ih

theorem expand_10_16 {v : Nat} (hv : v < 1024) : expand 10 16 v = (v <<< 6) ||| (v >>> 4) := by
  rw [expand_width_add_or (n := 10) hv 6, expand_of_width_le (n := 10) hv (by decide)]

theorem expand_6_16 {v : Nat} (hv : v < 64) : expand 6 16 v = (v <<< 10) ||| (v <<< 4) ||| (v >>> 2) := by
  rw [expand_width_add_or (n := 6) hv 10, expand_width_add_or (n := 6) hv 4,
    expand_of_width_le (n := 6) hv (by decide), Nat.or_assoc]

theorem expand_5_16 {v : Nat} (hv : v < 32) :
    expand 5 16 v = (v <<< 11) ||| (v <<< 6) ||| (v <<< 1) ||| (v >>> 4) := by
  rw [expand_width_add_or (n := 5) hv 11, expand_width_add_or (n := 5) hv 6, expand_width_add_or (n := 5) hv 1,
    expand_of_width_le (n := 5) hv (by decide), Nat.or_assoc, Nat.or_assoc]

/-- Where n divides 16, the factor is 65,535 / (2 ^ n - 1). -/
theorem expand_8_16 {v : Nat} (hv : v < 256) : expand 8 16 v = v * 257 := by
  have h : 2 ^ 8 * expand 8 16 v + v = 2 ^ 16 * v + expand 8 16 v := expand_periods (n := 8) hv 2
  omega

theorem expand_2_16 {v : Nat} (hv : v < 4) : expand 2 16 v = v * 21845 := by
  have h : 2 ^ 2 * expand 2 16 v + v = 2 ^ 16 * v + expand 2 16 v := expand_periods (n := 2) hv 8
  omega

theorem expand_1_16 {v : Nat} (hv : v < 2) : expand 1 16 v = v * 65535 := by
  have h : 2 ^ 1 * expand 1 16 v + v = 2 ^ 16 * v + expand 1 16 v := expand_periods (n := 1) hv 16
  omega

/-- XRGB8888 and RGB565 have no alpha. -/
theorem unpack_alpha_of_no_alpha {f : Nat} (hf : f = 2 ∨ f = 3) (w : Nat) : (unpack f w).a = 65535 := by
  obtain rfl | rfl := hf <;> rfl

end Pixel

/-- Settles O56: the bits by induction on the width, the closed forms by cutting the width into periods of n bits. -/
theorem componentsAreExpanded : Obligations.ComponentsAreExpanded :=
  ⟨fun n w v j _ hj => Pixel.bit_expand n w v j hj, Pixel.expand_lt,
    fun _ => Pixel.expand_8_16, fun _ => Pixel.expand_10_16, fun _ => Pixel.expand_5_16, fun _ => Pixel.expand_6_16,
    fun _ => Pixel.expand_2_16, fun _ => Pixel.expand_1_16,
    fun w => ⟨Pixel.unpack_alpha_of_no_alpha (.inl rfl) w, Pixel.unpack_alpha_of_no_alpha (.inr rfl) w⟩⟩

end Sys2Proof.Machine
end

section
/-! SUPPORT and O58. The gains of R535: the two entries of a row that hold gains, what checks 1 to 6 of R123 say of their values, a write that
check 6 turns away, the edit bank under a write, and the coefficient that the binary search finds. -/
namespace Sys2Proof.Machine

/-! ### The entries of a crosspoint row -/

/-- The object `xp_row` (R121). -/
def xpRowObject : ObjectRow := ⟨0x6900, 1, .xpRow, .xpRow, .device, "xp_row", Objects.o6900⟩
/-- `gain` of a row, subs 0x01 to 0x40. -/
def gainEntry : SubEntry := ⟨1, 64, "gain", .i16, .rw, .live, .mute, .orSpan (-32768) (-1200) 120, 0⟩
/-- `preset` of a row, sub 0x45. -/
def presetEntry : SubEntry := ⟨69, 69, "preset", .blob, .rw, .ring, .presetMute, .any, 128⟩

theorem objectAt_xpRow {row : Nat} (h : row < 128) : objectAt (0x6900 + row) = some (xpRowObject, row) := by
  interval_cases row <;> rfl

theorem xpRowObject_sub_gain {node : Nat} (h : node < 64) : xpRowObject.sub? (node + 1) = some gainEntry := by
  interval_cases node <;> rfl

theorem xpRowObject_sub_preset : xpRowObject.sub? 0x45 = some presetEntry := rfl

/-- What an index and a sub name is their object's number and row. -/
theorem eq_of_lookup {p : Part} {idx sub k : Nat} {f : Found} {o : ObjectRow} {e : SubEntry} (ho : objectAt idx = some (o, k))
    (he : o.sub? sub = some e) (h : lookup p idx sub = some f) : f = ⟨o, k, e⟩ := by
  simp only [lookup, ho, he] at h
  split at h
  · split at h
    · cases h
    · exact (Option.some.inj h).symm
  · cases h

theorem eq_of_lookup_gain {p : Part} {row node : Nat} {f : Found} (hrow : row < 128) (hnode : node < 64)
    (h : lookup p (0x6900 + row) (node + 1) = some f) : f = ⟨xpRowObject, row, gainEntry⟩ :=
  eq_of_lookup (objectAt_xpRow hrow) (xpRowObject_sub_gain hnode) h

theorem eq_of_lookup_preset {p : Part} {row : Nat} {f : Found} (hrow : row < 128)
    (h : lookup p (0x6900 + row) 0x45 = some f) : f = ⟨xpRowObject, row, presetEntry⟩ :=
  eq_of_lookup (objectAt_xpRow hrow) xpRowObject_sub_preset h

@[simp] theorem xpRowObject_base : xpRowObject.base = 0x6900 := rfl

@[simp] theorem row'_xpRow (k : Nat) (e : SubEntry) : Found.row' ⟨xpRowObject, k, e⟩ = e := by simp [Found.row']

/-! ### Checks 1 to 6 on a gain and on a preset -/

/-- A read-write entry of a row is open to both worlds, in and out of AWAIT_IMAGE: rights, length and value alone decide. -/
theorem State.checkWrite_xpRow {s : State} {req : Requester} {idx sub k : Nat} {e : SubEntry} {bs : List Byte}
    (hf : lookup s.part idx sub = some ⟨xpRowObject, k, e⟩) (ha : e.acc = .rw) (hr : s.rightsOk req ⟨xpRowObject, k, e⟩ true .active = true)
    (hl : e.lengthOk bs.length = true) :
    s.checkWrite req idx sub bs = if Found.valueOk ⟨xpRowObject, k, e⟩ s.part s.grade bs = true then Status.ok else Status.range := by
  have hshut : s.recoveryShut ⟨xpRowObject, k, e⟩ = false := by simp [State.recoveryShut]
  have hworld : worldOk req e true = true := by simp [worldOk, ha]
  have hsecure : s.secureOnly req ⟨xpRowObject, k, e⟩ = false := by simp [State.secureOnly]
  have hacc : accessOk e true = true := by simp [accessOk, ha]
  have hlen : s.lengthFits idx ⟨xpRowObject, k, e⟩ bs.length = true := by simpa [State.lengthFits] using hl
  cases hv : Found.valueOk ⟨xpRowObject, k, e⟩ s.part s.grade bs <;> simp [State.checkWrite, hf, hshut, hworld, hsecure, hr, hacc, hlen, hv]

theorem gainOk_iff (v : Int) : gainOk v = true ↔ v = -32768 ∨ (-1200 ≤ v ∧ v ≤ 120) := by simp [gainOk]

theorem gainEntry_decode (bs : List Byte) : gainEntry.decode bs = .num (signedOf 16 (leNat bs)) := rfl

/-- The range of `gain` is R535's. -/
theorem gainEntry_inRange (p : Part) (g : Grade) (k : Nat) (v : Int) : gainEntry.inRange p g k v = gainOk v := by
  have hlow : gainEntry.ty.lowest = -32768 := rfl
  have hhigh : gainEntry.ty.highest = 32767 := rfl
  have hr : gainEntry.rng = .orSpan (-32768) (-1200) 120 := rfl
  rw [Bool.eq_iff_iff, gainOk_iff]
  simp only [SubEntry.inRange, hlow, hhigh, hr, Bool.and_eq_true, decide_eq_true_eq]
  omega

theorem gain_valueOk (p : Part) (g : Grade) (k : Nat) (bs : List Byte) :
    Found.valueOk ⟨xpRowObject, k, gainEntry⟩ p g bs = gainOk (signedOf 16 (leNat bs)) := by
  have hty : gainEntry.ty = .i16 := rfl
  have hv : gainEntry.valueOk p g k (gainEntry.decode bs) = gainEntry.inRange p g k (signedOf 16 (leNat bs)) := rfl
  simp [Found.valueOk, hty, hv, gainEntry_inRange]

theorem preset_valueOk (p : Part) (g : Grade) (k : Nat) {bs : List Byte} (hlen : bs.length = 128) :
    Found.valueOk ⟨xpRowObject, k, presetEntry⟩ p g bs = (List.range 64).all (fun o => gainOk (signedOf 16 (field bs (2 * o) 2))) := by
  have hv : presetEntry.valueOk p g k (presetEntry.decode bs) = true := rfl
  have hty : presetEntry.ty = .blob := rfl
  have hlo : presetEntry.lo = 0x45 := rfl
  have hmax : presetEntry.maxLen = 128 := rfl
  simp [Found.valueOk, Found.blobOk, hv, hty, hlo, hmax, hlen]

theorem State.checkWrite_gain {s : State} {req : Requester} {row node : Nat} {bs : List Byte} (hlen : bs.length = 2)
    (hf : lookup s.part (0x6900 + row) (node + 1) = some ⟨xpRowObject, row, gainEntry⟩)
    (hr : s.rightsOk req ⟨xpRowObject, row, gainEntry⟩ true .active = true) :
    s.checkWrite req (0x6900 + row) (node + 1) bs = if gainOk (signedOf 16 (leNat bs)) = true then Status.ok else Status.range := by
  rw [State.checkWrite_xpRow hf rfl hr (by rw [hlen]; rfl), gain_valueOk]

theorem State.checkWrite_preset {s : State} {req : Requester} {row : Nat} {bs : List Byte} (hlen : bs.length = 128)
    (hf : lookup s.part (0x6900 + row) 0x45 = some ⟨xpRowObject, row, presetEntry⟩)
    (hr : s.rightsOk req ⟨xpRowObject, row, presetEntry⟩ true .active = true) :
    s.checkWrite req (0x6900 + row) 0x45 bs =
      if (List.range 64).all (fun o => gainOk (signedOf 16 (field bs (2 * o) 2))) = true then Status.ok else Status.range := by
  rw [State.checkWrite_xpRow hf rfl hr (by rw [hlen]; rfl), preset_valueOk _ _ _ hlen]

/-! ### A write that check 6 turns away -/

/-- A WRITE that comes to the check of its value names an entry, and its rights pass. -/
theorem State.reaches_lookup {s : State} {req : Requester} {idx sub : Nat} {data : List Byte} (h : s.reaches req idx sub data = true) :
    ∃ f, lookup s.part idx sub = some f ∧ s.rightsOk req f true .active = true := by
  simp only [State.reaches, Bool.and_eq_true] at h
  obtain ⟨-, h⟩ := h
  cases hl : lookup s.part idx sub with
  | none => simp [hl] at h
  | some f => simp only [hl, Bool.and_eq_true] at h; exact ⟨f, rfl, h.2⟩

/-- A WRITE that fails a check is answered with its status; its die wakes (R143). -/
theorem State.serve_refused (t : State) (req : Requester) (idx sub : Nat) (data : List Byte) (x : WriteExtra)
    (hsucc : t.health.succession = false) (hserved : (t.operational || decide (0x2100 ≤ idx ∧ idx ≤ 0x2106)) = true)
    (hst : t.writeStatus req idx sub data ≠ Status.ok) :
    t.serve req (.write idx sub data) x =
      (t.demandWake (t.dieOf idx)).answer req 2 (t.writeStatus req idx sub data) 0 [] idx sub 0 := by
  unfold State.serve
  dsimp only
  rw [if_neg (by rw [hsucc]; rcases Bool.or_eq_true _ _ ▸ hserved with h | h <;> simp only [h] <;> simp)]
  unfold State.serveWrite
  dsimp only
  rw [if_pos hst]

/-- A WRITE that comes to the check of its value and fails it ends with RANGE. -/
theorem State.submit_turnedAway {s : State} {req : Requester} {idx sub : Nat} {data : List Byte} (hi : idx ≠ 0x1F12)
    (h : s.reaches req idx sub data = true) (hst : s.writeStatus req idx sub data = Status.range) :
    s.submit req (.write idx sub data) = s.turnedAway req idx sub data := by
  simp only [State.reaches, Bool.and_eq_true, Bool.not_eq_true'] at h
  obtain ⟨⟨⟨⟨hopen, htake⟩, hsucc⟩, hserved⟩, -⟩ := h
  obtain ⟨x, hx⟩ := State.takeRequest_shape s req (.write idx sub data)
  have hst' := (State.writeStatus_insts s x req idx sub data).trans hst
  have hserve := State.serve_refused { s with insts := x } req idx sub data .plain hsucc hserved (by rw [hst']; decide)
  rw [hst'] at hserve
  unfold State.submit State.turnedAway State.admitted
  dsimp only
  rw [if_neg (by simp [hopen, requestFits_write]), if_pos htake, hx]
  simp only [State.serveTop, hi, false_and, if_false, hserve]
  rfl

/-- Every message carries a value of up to 8,176 bytes (R169, R170). -/
theorem mailboxTooLong_of_le (req : Requester) {n : Nat} (h : n ≤ 8176) : mailboxTooLong req n = false := by
  unfold mailboxTooLong
  split <;> simp [h]

theorem State.submit_gain_refused {s : State} {req : Requester} {row node : Nat} {bs : List Byte} (hrow : row < 128) (hnode : node < 64)
    (hlen : bs.length = 2) (h : s.reaches req (0x6900 + row) (node + 1) bs = true) (hbad : ¬ gainOk (signedOf 16 (leNat bs)) = true) :
    s.submit req (.write (0x6900 + row) (node + 1) bs) = s.turnedAway req (0x6900 + row) (node + 1) bs := by
  obtain ⟨f, hf, hr⟩ := State.reaches_lookup h
  obtain rfl := eq_of_lookup_gain hrow hnode hf
  refine State.submit_turnedAway (by omega) h ?_
  have hc := (State.checkWrite_gain hlen hf hr).trans (if_neg hbad)
  simp [State.writeStatus, hc, mailboxTooLong_of_le req (show bs.length ≤ 8176 by omega)]

/-! ### An admitted write of a gain -/

theorem State.liveWrite_gain (u : State) (req : Requester) {row node : Nat} (hnode : node < 64) (v : Int) :
    u.liveWrite req ⟨xpRowObject, row, gainEntry⟩ (0x6900 + row) (node + 1) (.num v) = u.gainWrite row node v := by
  have hsub : node + 1 ≠ 0x41 := by omega
  unfold State.liveWrite
  rw [if_neg (by omega)]
  simp [State.blockWrite, hsub, Val.toInt]

theorem State.submit_gain {s : State} {req : Requester} {row node : Nat} {bs : List Byte} (hrow : row < 128) (hnode : node < 64)
    (h : s.admits req (0x6900 + row) (node + 1) bs = true) :
    s.submit req (.write (0x6900 + row) (node + 1) bs) =
      ((s.admitted req (0x6900 + row) (node + 1) bs).gainWrite row node (signedOf 16 (leNat bs))).2.concluded req (0x6900 + row) (node + 1) bs
        ((s.admitted req (0x6900 + row) (node + 1) bs).gainWrite row node (signedOf 16 (leNat bs))).1 := by
  obtain ⟨f, hf⟩ := State.admits_lookup s req _ _ _ h
  obtain rfl := eq_of_lookup_gain hrow hnode hf
  refine State.submit_live s req _ _ _ _ (by omega) h hf (by simp) rfl _ ?_
  rw [row'_xpRow, gainEntry_decode, State.liveWrite_gain _ req hnode]

/-! ### The edit bank under a write -/

theorem State.setGain_shape (s : State) (i o : Nat) (v : Int) : s.setGain i o v = { s with audio := (s.setGain i o v).audio } := rfl

@[simp] theorem State.bankIsB_setGain (s : State) (i j o : Nat) (v : Int) : (s.setGain i o v).bankIsB j = s.bankIsB j := rfl

/-- The row after a gain of its edit bank is set: the bank that is not active is replaced. -/
theorem State.row_setGain (s : State) (i o : Nat) (v : Int) : (s.setGain i o v).row i =
    let b := if v = -32768 then Tab.erase (s.editBank i) o else Tab.put (s.editBank i) o v
    if s.bankIsB i then { s.row i with bankA := b } else { s.row i with bankB := b } := by
  simp [State.setGain, State.setEditBank, State.modRow, State.row]

@[simp] theorem State.activeBank_setGain (s : State) (i o : Nat) (v : Int) : (s.setGain i o v).activeBank i = s.activeBank i := by
  cases hb : s.bankIsB i <;> simp [State.activeBank, State.row_setGain, hb]

theorem State.editBank_setGain (s : State) (i o : Nat) (v : Int) : (s.setGain i o v).editBank i =
    if v = -32768 then Tab.erase (s.editBank i) o else Tab.put (s.editBank i) o v := by
  cases hb : s.bankIsB i <;> simp [State.editBank, State.row_setGain, hb]

/-- A gain reads back at its node, a mute as the bank's lack of a gain; the other nodes read as before. -/
theorem State.gainRead_setGain (s : State) (i o k : Nat) (v : Int) :
    (s.setGain i o v).gainRead i k = if o = k then v else s.gainRead i k := by
  rw [State.gainRead, State.editBank_setGain, State.gainRead]
  split
  · next hv =>
    rw [Tab.getD, Tab.find?_erase]
    split
    · exact hv.symm
    · rfl
  · exact Tab.getD_put ..

theorem State.gainWrite_busy {s : State} {i o : Nat} {v : Int} (hv : gainOk v = true)
    (hw : (s.row i).pending.isSome = true ∨ s.now < (s.row i).copyUntil) : s.gainWrite i o v = (Status.busy, s) := by
  rw [gainOk_iff] at hv
  unfold State.gainWrite
  dsimp only
  rw [if_neg (by omega), if_pos hw]

theorem State.gainWrite_ok {s : State} {i o : Nat} {v : Int} (hv : gainOk v = true) (hp : (s.row i).pending = none)
    (hc : (s.row i).copyUntil ≤ s.now) : s.gainWrite i o v = (Status.ok, s.setGain i o v) := by
  rw [gainOk_iff] at hv
  unfold State.gainWrite
  dsimp only
  rw [if_neg (by omega), if_neg (by rw [hp]; simp [hc])]

/-! ### The coefficient of a gain (R534) -/

/-- The search ends at a number that passes with a successor that fails. -/
theorem largestBelow_spec (p : Nat → Bool) (k base : Nat) (hlow : p base = true) (hhigh : p (base + 2 ^ k) = false) :
    p (largestBelow p k base) = true ∧ p (largestBelow p k base + 1) = false := by
  induction k generalizing base with
  | zero => exact ⟨hlow, hhigh⟩
  | succ k ih =>
    cases hm : p (base + 2 ^ k) with
    | true =>
      simp only [largestBelow, hm, if_true]
      exact ih _ hm (by rwa [Nat.add_assoc, ← Nat.two_mul, ← Nat.pow_succ'])
    | false =>
      simp only [largestBelow, hm, Bool.false_eq_true, if_false]
      exact ih _ hlow hm

theorem atMostDb_of_nonneg {c n : Nat} {v : Int} (hv : 0 ≤ v) : atMostDb c n v 1 = true ↔ c ^ 200 ≤ 2 ^ (n * 200) * 10 ^ v.toNat := by
  simp [atMostDb, not_lt.2 hv]

theorem atMostDb_of_nonpos {c n : Nat} {v : Int} (hv : v ≤ 0) : atMostDb c n v 1 = true ↔ c ^ 200 * 10 ^ v.natAbs ≤ 2 ^ (n * 200) := by
  rcases hv.lt_or_eq with h | rfl
  · simp [atMostDb, h]
  · simp [atMostDb]

theorem atMostDb_zero (n : Nat) (v : Int) : atMostDb 0 n v 1 = true := by
  have h0 : 0 ^ 200 = 0 := zero_pow (by decide)
  rcases le_total v 0 with h | h
  · rw [atMostDb_of_nonpos h, h0, Nat.zero_mul]
    exact Nat.zero_le _
  · rw [atMostDb_of_nonneg h, h0]
    exact Nat.zero_le _

/-- +12 dB is below a factor 4, so that the search's end is above every coefficient. -/
theorem atMostDb_search_end {v : Int} (hv : v ≤ 120) : atMostDb (2 * 2 ^ 25 - 1) 23 v 1 = false := by
  rw [← Bool.not_eq_true]
  have hpow : ∀ b : Nat, b ≤ 2 ^ 25 → b ^ 200 < (2 * 2 ^ 25 - 1) ^ 200 := fun b hb => Nat.pow_lt_pow_left (by omega) (by decide)
  rcases le_total v 0 with h | h
  · rw [atMostDb_of_nonpos h, not_le, pow_mul]
    exact (hpow _ (by decide)).trans_le (Nat.le_mul_of_pos_right _ (by positivity))
  · rw [atMostDb_of_nonneg h, not_le, pow_mul]
    have h12 : 10 ^ v.toNat ≤ (2 ^ 2) ^ 200 :=
      calc 10 ^ v.toNat ≤ 10 ^ (3 * 40) := Nat.pow_le_pow_right (by decide) (by omega)
        _ = (10 ^ 3) ^ 40 := pow_mul ..
        _ ≤ ((2 ^ 2) ^ 5) ^ 40 := Nat.pow_le_pow_left (by decide) _
        _ = (2 ^ 2) ^ 200 := (pow_mul ..).symm
    calc (2 ^ 23) ^ 200 * 10 ^ v.toNat ≤ (2 ^ 23) ^ 200 * (2 ^ 2) ^ 200 := Nat.mul_le_mul_left _ h12
      _ = (2 ^ 23 * 2 ^ 2) ^ 200 := (mul_pow ..).symm
      _ < (2 * 2 ^ 25 - 1) ^ 200 := hpow _ (by decide)

/-- A gain's coefficient c is the one for which 2 c - 1 and 2 c + 1 lie on the two sides of 2^23 × 10^(v / 200). -/
theorem coefOf_spec {v : Int} (hv : v ≤ 120) :
    atMostDb (2 * coefOf v - 1) 23 v 1 = true ∧ atMostDb (2 * coefOf v + 1) 23 v 1 = false := by
  exact largestBelow_spec (fun c => atMostDb (2 * c - 1) 23 v 1) 25 0 (atMostDb_zero 23 v)
    (by simpa only [Nat.zero_add] using atMostDb_search_end hv)

theorem coefOf_of_nonneg {v : Int} (h0 : 0 ≤ v) (hv : v ≤ 120) :
    (2 * coefOf v - 1) ^ 200 ≤ 2 ^ 4600 * 10 ^ v.toNat ∧ 2 ^ 4600 * 10 ^ v.toNat < (2 * coefOf v + 1) ^ 200 := by
  obtain ⟨hle, hlt⟩ := coefOf_spec hv
  rw [atMostDb_of_nonneg h0, show 23 * 200 = 4600 from rfl] at hle
  rw [← Bool.not_eq_true, atMostDb_of_nonneg h0, show 23 * 200 = 4600 from rfl, not_le] at hlt
  exact ⟨hle, hlt⟩

theorem coefOf_of_nonpos {v : Int} (h0 : v ≤ 0) :
    (2 * coefOf v - 1) ^ 200 * 10 ^ v.natAbs ≤ 2 ^ 4600 ∧ 2 ^ 4600 < (2 * coefOf v + 1) ^ 200 * 10 ^ v.natAbs := by
  obtain ⟨hle, hlt⟩ := coefOf_spec (h0.trans (by decide) : v ≤ 120)
  rw [atMostDb_of_nonpos h0, show 23 * 200 = 4600 from rfl] at hle
  rw [← Bool.not_eq_true, atMostDb_of_nonpos h0, show 23 * 200 = 4600 from rfl, not_le] at hlt
  exact ⟨hle, hlt⟩

theorem scaleBy_eq (x g : Rat) : scaleBy x g = x * coefOf g / 2 ^ 22 := by
  simp only [scaleBy, Int.cast_natCast, Nat.cast_pow, Nat.cast_ofNat]

/-- Settles O58: the range of `gain` and of `preset` is R535's; outside it the write is turned away, inside it the handler sets the edit bank
unless a safe-load waits or a copy runs; and the search of `coefOf` ends between two neighbours. -/
theorem gainsAreJudged : Obligations.GainsAreJudged := by
  refine ⟨?_, ?_, ?_, ?_, ?_, ?_⟩
  · rintro req row node bs _ f s hrow hnode hlen rfl hf hr
    obtain rfl := eq_of_lookup_gain hrow hnode hf
    refine ⟨rfl, rfl, ?_⟩
    rw [State.checkWrite_gain hlen hf hr]
    simp only [gainOk_iff]
  · intro req row node bs s hrow hnode hlen h hbad
    rw [← gainOk_iff] at hbad
    exact congrArg Host.Outcome.next (State.submit_gain_refused hrow hnode hlen h hbad)
  · rintro req row node bs s _ hrow hnode h rfl
    exact congrArg Host.Outcome.next (State.submit_gain hrow hnode h)
  · intro row node v s hv
    rw [← gainOk_iff] at hv
    refine ⟨State.gainWrite_busy hv, fun hp hc => ⟨s.setGain row node v, State.gainWrite_ok hv hp hc, ?_, ?_, ?_, State.setGain_shape ..⟩⟩
    · rw [State.gainRead_setGain, if_pos rfl]
    · exact State.activeBank_setGain ..
    · intro k hk
      rw [State.gainRead_setGain, if_neg hk.symm]
  · intro req row bs f s hrow hlen hf hr
    obtain rfl := eq_of_lookup_preset hrow hf
    rw [State.checkWrite_preset hlen hf hr]
    constructor
    · intro hall
      exact if_pos (List.all_eq_true.2 fun o ho => (gainOk_iff _).2 (hall o (List.mem_range.1 ho)))
    · intro o ho hmute hout
      refine if_neg (fun hall => ?_)
      have hok := (gainOk_iff _).1 (List.all_eq_true.1 hall o (List.mem_range.2 ho))
      omega
  · intro x v _ hv
    exact ⟨coefOf v, scaleBy_eq x v, fun h0 => coefOf_of_nonneg h0 hv, coefOf_of_nonpos⟩

end Sys2Proof.Machine
end

section
/-! SUPPORT, O53 and O54. What every command and every step may change, from what each command may change (the `Eff` files). -/
set_option Elab.async false
namespace Sys2Proof.Machine

/-- Every field of the state but the queue, the part and the grade. -/
def allButQueueAndPart : Nat := 35184372088782

/-- Every command answers a next state, which differs outside the queue, the part and the grade alone. -/
theorem exec_eff (c : Instr) (s : State) : Eff.Outcome allButQueueAndPart s (exec c s) := by
  cases c with
  | powerOnResetRelease => exact (execPowerOnResetRelease_eff s).mono rfl
  | strapSampling bootSrc vrMode mgmtId => exact (execStrapSampling_eff bootSrc vrMode mgmtId s).mono rfl
  | resetNAssert => exact (execResetNAssert_eff s).mono rfl
  | resetNRelease => exact (execResetNRelease_eff s).mono rfl
  | railLoss rail => exact (execRailLoss_eff rail s).mono rfl
  | aonPowerLoss => exact (execAonPowerLoss_eff s).mono rfl
  | switchedRailsValid => exact (execSwitchedRailsValid_eff s).mono rfl
  | railValidTimeout => exact (execRailValidTimeout_eff s).mono rfl
  | perstNAssert => exact (execPerstNAssert_eff s).mono rfl
  | perstNRelease => exact (execPerstNRelease_eff s).mono rfl
  | poweredComplete fusesOk dramOk romOk => exact (execPoweredComplete_eff fusesOk dramOk s romOk).mono rfl
  | memorySpaceEnable romOk => exact (execMemorySpaceEnable_eff s romOk).mono rfl
  | mcanServerStarted romOk => exact (execMcanServerStarted_eff s romOk).mono rfl
  | apertureWrite offset data => exact (execApertureWrite_eff offset data s).mono rfl
  | start withRestart romOk => exact (execStart_eff withRestart s romOk).mono rfl
  | restart => exact (execRestart_eff s).mono rfl
  | bootRegionCleared romOk => exact (execBootRegionCleared_eff s romOk).mono rfl
  | authenticationDone links romOk => exact (execAuthenticationDone_eff links s romOk).mono rfl
  | memberCoreReady die => exact (execMemberCoreReady_eff die s).mono rfl
  | coreReadyTimeout die => exact (execCoreReadyTimeout_eff die s).mono rfl
  | distributionDone romOk => exact (execDistributionDone_eff s romOk).mono rfl
  | bootSlotDone die r romOk => exact (execBootSlotDone_eff die r s romOk).mono rfl
  | memoryTrainingDone failedStacks romOk => exact (execMemoryTrainingDone_eff failedStacks s romOk).mono rfl
  | ringApplyDone applyFault romOk => exact (execRingApplyDone_eff applyFault s romOk).mono rfl
  | recoveryImageWrite data => exact (execRecoveryImageWrite_eff data s).mono rfl
  | recoveryRingWrite data => exact (execRecoveryRingWrite_eff data s).mono rfl
  | recoveryStart value => exact (execRecoveryStart_eff value s).mono rfl
  | recoverySegmentTimeout session => exact (execRecoverySegmentTimeout_eff session s).mono rfl
  | deviceReset req value => exact (execDeviceReset_eff req value s).mono rfl
  | svAdvance req value => exact (execSvAdvance_eff req value s).mono rfl
  | revokeKey req slot => exact (execRevokeKey_eff req slot s).mono rfl
  | linkDownDeclared a b => exact (execLinkDownDeclared_eff a b s).mono rfl
  | timeBeacon errors => exact (execTimeBeacon_eff errors s).mono rfl
  | ptmExchange master midpoint => exact (execPtmExchange_eff master midpoint s).mono rfl
  | read req idx sub view => exact (execRead_eff req idx sub view s).mono rfl
  | write req idx sub data => exact (execWrite_eff req idx sub data s).mono rfl
  | describe req idx sub => exact (execDescribe_eff req idx sub s).mono rfl
  | readGroup req entries => exact (execReadGroup_eff req entries s).mono rfl
  | readGroupCapture => exact (execReadGroupCapture_eff s).mono rfl
  | writeGroup req entries => exact (execWriteGroup_eff req entries s).mono rfl
  | prepareAnswer die => exact (execPrepareAnswer_eff die s).mono rfl
  | prepareTimeout die => exact (execPrepareTimeout_eff die s).mono rfl
  | groupApply => exact (execGroupApply_eff s).mono rfl
  | transportTimeout req request => exact (execTransportTimeout_eff req request s).mono rfl
  | nmtStart node => exact (execNmtStart_eff node s).mono rfl
  | nmtStop node => exact (execNmtStop_eff node s).mono rfl
  | nmtResetNode node => exact (execNmtResetNode_eff node s).mono rfl
  | nmtResetCommunication node => exact (execNmtResetCommunication_eff node s).mono rfl
  | usdoExpeditedUpload idx sub => exact (execUsdoExpeditedUpload_eff idx sub s).mono rfl
  | usdoExpeditedDownload idx sub data => exact (execUsdoExpeditedDownload_eff idx sub data s).mono rfl
  | usdoSegmentedUpload session idx sub => exact (execUsdoSegmentedUpload_eff session idx sub s).mono rfl
  | usdoSegmentedDownload session idx sub => exact (execUsdoSegmentedDownload_eff session idx sub s).mono rfl
  | usdoSegment session data last => exact (execUsdoSegment_eff session data last s).mono rfl
  | usdoBlockTransfer idx sub => exact (execUsdoBlockTransfer_eff idx sub s).mono rfl
  | usdoTimeout session => exact (execUsdoTimeout_eff session s).mono rfl
  | tunnelRequest message => exact (execTunnelRequest_eff message s).mono rfl
  | heartbeat => exact (execHeartbeat_eff s).mono rfl
  | mcanBusOffRecovery => exact (execMcanBusOffRecovery_eff s).mono rfl
  | mcanErrorPassive state => exact (execMcanErrorPassive_eff s state).mono rfl
  | emcySend => exact (execEmcySend_eff s).mono rfl
  | svcRepeat => exact (execSvcRepeat_eff s).mono rfl
  | wakeFrame identifier fdf data ide rtr => exact (execWakeFrame_eff identifier fdf data s ide rtr).mono rfl
  | ringCommit req timeout => exact (execRingCommit_eff req timeout s).mono rfl
  | ringPrepareDone => exact (execRingPrepareDone_eff s).mono rfl
  | ringPrepareTimeout die => exact (execRingPrepareTimeout_eff die s).mono rfl
  | ringApplied => exact (execRingApplied_eff s).mono rfl
  | ringConfirm req version => exact (execRingConfirm_eff req version s).mono rfl
  | confirmDeadlineExpiry => exact (execConfirmDeadlineExpiry_eff s).mono rfl
  | ringReturn req value => exact (execRingReturn_eff req value s).mono rfl
  | returnApplied => exact (execReturnApplied_eff s).mono rfl
  | draftReset req value => exact (execDraftReset_eff req value s).mono rfl
  | draftImage req image => exact (execDraftImage_eff req image s).mono rfl
  | registerWrite target => exact (execRegisterWrite_eff target s).mono rfl
  | vfEnableSet numVfs => exact (execVfEnableSet_eff numVfs s).mono rfl
  | vfDisable numVfs => exact (execVfDisable_eff numVfs s).mono rfl
  | flr inst => exact (execFlr_eff inst s).mono rfl
  | instanceReset req inst value => exact (execInstanceReset_eff req inst value s).mono rfl
  | instanceFault inst cause => exact (execInstanceFault_eff inst cause s).mono rfl
  | quiesceDone inst => exact (execQuiesceDone_eff inst s).mono rfl
  | sqTail inst q tail => exact (execSqTail_eff inst q tail s).mono rfl
  | sqEnable inst q config => exact (execSqEnable_eff inst q config s).mono rfl
  | sqDisable inst q => exact (execSqDisable_eff inst q s).mono rfl
  | evqEnable inst config => exact (execEvqEnable_eff inst config s).mono rfl
  | evqDisable inst => exact (execEvqDisable_eff inst s).mono rfl
  | evqModerationExpiry inst => exact (execEvqModerationExpiry_eff inst s).mono rfl
  | timeLoRead inst => exact (execTimeLoRead_eff inst s).mono rfl
  | bar2Access inst offset store length => exact (execBar2Access_eff inst offset store length s).mono rfl
  | assignmentWrite req entries => exact (execAssignmentWrite_eff req entries s).mono rfl
  | assignmentTakenUp inst => exact (execAssignmentTakenUp_eff inst s).mono rfl
  | freeze req => exact (execFreeze_eff req s).mono rfl
  | drainLimit => exact (execDrainLimit_eff s).mono rfl
  | freezeDone => exact (execFreezeDone_eff s).mono rfl
  | thaw req => exact (execThaw_eff req s).mono rfl
  | save req => exact (execSave_eff req s).mono rfl
  | saveDone dmaOk => exact (execSaveDone_eff dmaOk s).mono rfl
  | restore req image dmaOk => exact (execRestore_eff req image dmaOk s).mono rfl
  | restoreApplyDone => exact (execRestoreApplyDone_eff s).mono rfl
  | malformedTlp inst => exact (execMalformedTlp_eff inst s).mono rfl
  | unexpectedCompletion inst => exact (execUnexpectedCompletion_eff inst s).mono rfl
  | wcall core mode regs word => exact (execWcall_eff core mode regs s word).mono rfl
  | wret core mode => exact (execWret_eff core mode s).mono rfl
  | resume core finished => exact (execResume_eff core finished s).mono rfl
  | version core => exact (execVersion_eff core s).mono rfl
  | appletCall core offered finished => exact (execAppletCall_eff core offered finished s).mono rfl
  | wcallBudgetExpiry core => exact (execWcallBudgetExpiry_eff core s).mono rfl
  | appletFault core applet => exact (execAppletFault_eff core applet s).mono rfl
  | monitorHalt core => exact (execMonitorHalt_eff core s).mono rfl
  | appletKeyBurn req hash => exact (execAppletKeyBurn_eff req hash s).mono rfl
  | appletKeyRevoke req slot => exact (execAppletKeyRevoke_eff req slot s).mono rfl
  | appletLoad req image => exact (execAppletLoad_eff req image s).mono rfl
  | secureEntryStart k => exact (execSecureEntryStart_eff k s).mono rfl
  | secureEntryEnd => exact (execSecureEntryEnd_eff s).mono rfl
  | secureEntryLimit => exact (execSecureEntryLimit_eff s).mono rfl
  | secureClaim applet cls resource => exact (execSecureClaim_eff applet cls resource s).mono rfl
  | claimRelease applet cls resource => exact (execClaimRelease_eff applet cls resource s).mono rfl
  | debugChallenge req => exact (execDebugChallenge_eff req s).mono rfl
  | debugResponse req response => exact (execDebugResponse_eff req response s).mono rfl
  | debugRelock req value => exact (execDebugRelock_eff req value s).mono rfl
  | idcode trst => exact (execIdcode_eff s trst).mono rfl
  | samplePreload pins shiftIn => exact (execSamplePreload_eff pins s shiftIn).mono rfl
  | extest shiftIn => exact (execExtest_eff s shiftIn).mono rfl
  | dtmcs => exact (execDtmcs_eff s).mono rfl
  | dmi address data op => exact (execDmi_eff address data op s).mono rfl
  | unlock response => exact (execUnlock_eff response s).mono rfl
  | bypass code => exact (execBypass_eff code s).mono rfl
  | powerSleep req => exact (execPowerSleep_eff req s).mono rfl
  | powerDeepSleep req => exact (execPowerDeepSleep_eff req s).mono rfl
  | powerOff req => exact (execPowerOff_eff req s).mono rfl
  | powerRun req => exact (execPowerRun_eff req s).mono rfl
  | handshakeAnswers delayNs linkUp l12Enabled => exact (execHandshakeAnswers_eff delayNs linkUp l12Enabled s).mono rfl
  | handshakeDelayExpiry => exact (execHandshakeDelayExpiry_eff s).mono rfl
  | entryComplete => exact (execEntryComplete_eff s).mono rfl
  | deepAfterExpiry => exact (execDeepAfterExpiry_eff s).mono rfl
  | offNoticeExpiry => exact (execOffNoticeExpiry_eff s).mono rfl
  | wakeN lowNs heldLow => exact (execWakeN_eff lowNs heldLow s).mono rfl
  | exitComplete => exact (execExitComplete_eff s).mono rfl
  | dieIdleEntry die coresWaiting => exact (execDieIdleEntry_eff die coresWaiting s).mono rfl
  | dieIdleExit die => exact (execDieIdleExit_eff die s).mono rfl
  | domainSleepTimer die domain => exact (execDomainSleepTimer_eff die domain s).mono rfl
  | biasMonitor die warning => exact (execBiasMonitor_eff die warning s).mono rfl
  | vrAck die status => exact (execVrAck_eff die status s).mono rfl
  | vrTimeout die => exact (execVrTimeout_eff die s).mono rfl
  | vrAlert statuses => exact (execVrAlert_eff statuses s).mono rfl
  | clockStretchTimeout die => exact (execClockStretchTimeout_eff die s).mono rfl
  | grantRound packageMw unshedMw floorMw => exact (execGrantRound_eff packageMw unshedMw floorMw s).mono rfl
  | projectionCheck projectedMw => exact (execProjectionCheck_eff projectedMw s).mono rfl
  | peakCurrentCheck die meanMa => exact (execPeakCurrentCheck_eff die meanMa s).mono rfl
  | boardWaitExpiry channel => exact (execBoardWaitExpiry_eff channel s).mono rfl
  | railSample die rail mv => exact (execRailSample_eff die rail mv s).mono rfl
  | tempSample die sensor deciC => exact (execTempSample_eff die sensor deciC s).mono rfl
  | railPersistence die rail => exact (execRailPersistence_eff die rail s).mono rfl
  | tempPersistence die sensor => exact (execTempPersistence_eff die sensor s).mono rfl
  | piezoRequest req channel value => exact (execPiezoRequest_eff req channel value s).mono rfl
  | piezoInterval channel => exact (execPiezoInterval_eff channel s).mono rfl
  | piezoMeasurement channel nf => exact (execPiezoMeasurement_eff channel nf s).mono rfl
  | speakerRequest req output value => exact (execSpeakerRequest_eff req output value s).mono rfl
  | speakerInterval output => exact (execSpeakerInterval_eff output s).mono rfl
  | speakerBlock output mohm currentRmsMa => exact (execSpeakerBlock_eff output mohm currentRmsMa s).mono rfl
  | laneSurveySecond lane idleTransitions edges glitched => exact (execLaneSurveySecond_eff lane idleTransitions edges glitched s).mono rfl
  | dramTrack die correctionPs margin => exact (execDramTrack_eff die correctionPs margin s).mono rfl
  | selftestRun req die => exact (execSelftestRun_eff req die s).mono rfl
  | fieldSlotDone r => exact (execFieldSlotDone_eff r s).mono rfl
  | deferLimitExpiry => exact (execDeferLimitExpiry_eff s).mono rfl
  | coreHeartbeat die => exact (execCoreHeartbeat_eff die s).mono rfl
  | heartbeatTimeout die => exact (execHeartbeatTimeout_eff die s).mono rfl
  | ackTimeout die => exact (execAckTimeout_eff die s).mono rfl
  | lendingServed die => exact (execLendingServed_eff die s).mono rfl
  | successionDone => exact (execSuccessionDone_eff s).mono rfl
  | hpdRising head => exact (execHpdRising_eff head s).mono rfl
  | irqHpd head linkLost => exact (execIrqHpd_eff head linkLost s).mono rfl
  | hpdUnplug head => exact (execHpdUnplug_eff head s).mono rfl
  | debounceExpiry head => exact (execDebounceExpiry_eff head s).mono rfl
  | cableMeasured head cm => exact (execCableMeasured_eff head cm s).mono rfl
  | capsReadDone head caps failed => exact (execCapsReadDone_eff head caps s failed).mono rfl
  | trainingAttemptDone head ok => exact (execTrainingAttemptDone_eff head ok s).mono rfl
  | retrain req head value => exact (execRetrain_eff req head value s).mono rfl
  | lineStart head => exact (execLineStart_eff head s).mono rfl
  | readySampled head reflex => exact (execReadySampled_eff head reflex s).mono rfl
  | commit e opcode blockLength commitFlags reservedZero block blockAddr => exact (execCommit_eff e opcode blockLength commitFlags reservedZero block s blockAddr).mono rfl
  | commitArrival head inst => exact (execCommitArrival_eff head inst s).mono rfl
  | underrun head column => exact (execUnderrun_eff head column s).mono rfl
  | bandBegin head => exact (execBandBegin_eff head s).mono rfl
  | bandComplete head band => exact (execBandComplete_eff head band s).mono rfl
  | spriteStateWrite req sprite value => exact (execSpriteStateWrite_eff req sprite value s).mono rfl
  | spriteOperation die count => exact (execSpriteOperation_eff die count s).mono rfl
  | canopyMembersWrite req head members => exact (execCanopyMembersWrite_eff req head members s).mono rfl
  | regionUpdate req applet region value => exact (execRegionUpdate_eff req applet region value s).mono rfl
  | updateArrival region => exact (execUpdateArrival_eff region s).mono rfl
  | assetsWrite req store => exact (execAssetsWrite_eff req store s).mono rfl
  | guardSignature region => exact (execGuardSignature_eff region s).mono rfl
  | guardLate region => exact (execGuardLate_eff region s).mono rfl
  | job e opcode addr length splitMask reservedZero => exact (execJob_eff e opcode addr length splitMask reservedZero s).mono rfl
  | signal e addr value reservedZero => exact (execSignal_eff e addr value reservedZero s).mono rfl
  | wait e addr value timeoutUs reservedZero => exact (execWait_eff e addr value timeoutUs reservedZero s).mono rfl
  | waitSatisfied context => exact (execWaitSatisfied_eff context s).mono rfl
  | waitTimeout context => exact (execWaitTimeout_eff context s).mono rfl
  | passBegin context => exact (execPassBegin_eff context s).mono rfl
  | bindPipeline context => exact (execBindPipeline_eff context s).mono rfl
  | bindTable context => exact (execBindTable_eff context s).mono rfl
  | viewport context => exact (execViewport_eff context s).mono rfl
  | scissor context => exact (execScissor_eff context s).mono rfl
  | draw context => exact (execDraw_eff context s).mono rfl
  | drawIndexed context => exact (execDrawIndexed_eff context s).mono rfl
  | drawIndirect context => exact (execDrawIndirect_eff context s).mono rfl
  | tileListOverflow context die flushed tiles => exact (execTileListOverflow_eff context die flushed s tiles).mono rfl
  | passDone context rendered binned => exact (execPassDone_eff context rendered s binned).mono rfl
  | jobDone context => exact (execJobDone_eff context s).mono rfl
  | preemption die => exact (execPreemption_eff die s).mono rfl
  | midshaderPreemption die => exact (execMidshaderPreemption_eff die s).mono rfl
  | schedPeriod die => exact (execSchedPeriod_eff die s).mono rfl
  | jobTimeLimit context die => exact (execJobTimeLimit_eff context die s).mono rfl
  | scanCycle die => exact (execScanCycle_eff die s).mono rfl
  | selfFrameDone die bursts => exact (execSelfFrameDone_eff die bursts s).mono rfl
  | mutualPhaseDone die bursts => exact (execMutualPhaseDone_eff die bursts s).mono rfl
  | recapture req die value => exact (execRecapture_eff req die value s).mono rfl
  | wakeScan die selfBursts mutualBursts => exact (execWakeScan_eff die selfBursts mutualBursts s).mono rfl
  | play e opcode effect scale startTime reservedZero => exact (execPlay_eff e opcode effect scale startTime reservedZero s).mono rfl
  | stop e reservedZero => exact (execStop_eff e reservedZero s).mono rfl
  | playStartTime channel => exact (execPlayStartTime_eff channel s).mono rfl
  | htrigEdge pin rising => exact (execHtrigEdge_eff pin rising s).mono rfl
  | reflexTrigger channel => exact (execReflexTrigger_eff channel s).mono rfl
  | ampReadyExpiry channel => exact (execAmpReadyExpiry_eff channel s).mono rfl
  | segmentEnd channel => exact (execSegmentEnd_eff channel s).mono rfl
  | senseFrame bus slots => exact (execSenseFrame_eff bus slots s).mono rfl
  | brakeTimeout channel => exact (execBrakeTimeout_eff channel s).mono rfl
  | resonanceTrack channel estimate => exact (execResonanceTrack_eff channel estimate s).mono rfl
  | ampFault channel => exact (execAmpFault_eff channel s).mono rfl
  | engineLost channel => exact (execEngineLost_eff channel s).mono rfl
  | onTimeLimit channel => exact (execOnTimeLimit_eff channel s).mono rfl
  | energyBlock channel => exact (execEnergyBlock_eff channel s).mono rfl
  | hapticClear req channel value => exact (execHapticClear_eff req channel value s).mono rfl
  | toneRequest gen => exact (execToneRequest_eff gen s).mono rfl
  | toneStart req gen value => exact (execToneStart_eff req gen value s).mono rfl
  | samplePeriod received => exact (execSamplePeriod_eff received s).mono rfl
  | safeLoad req row time => exact (execSafeLoad_eff req row time s).mono rfl
  | mclkLost => exact (execMclkLost_eff s).mono rfl
  | mclkRestored => exact (execMclkRestored_eff s).mono rfl
  | tdmSlip port dropped => exact (execTdmSlip_eff port dropped s).mono rfl
  | tdmNoClock port => exact (execTdmNoClock_eff port s).mono rfl
  | tdmClockRestored port => exact (execTdmClockRestored_eff port s).mono rfl
  | buffer e opcode addr length format bufFlags startTime reservedZero host => exact (execBuffer_eff e opcode addr length format bufFlags startTime reservedZero host s).mono rfl
  | audioStop e reservedZero => exact (execAudioStop_eff e reservedZero s).mono rfl
  | silenceHoldExpiry node => exact (execSilenceHoldExpiry_eff node s).mono rfl
  | laneSchedule lane => exact (execLaneSchedule_eff lane s).mono rfl
  | descriptor lane frame => exact (execDescriptor_eff lane frame s).mono rfl
  | response lane frame => exact (execResponse_eff lane frame s).mono rfl
  | ack lane frame => exact (execAck_eff lane frame s).mono rfl
  | data lane frame => exact (execData_eff lane frame s).mono rfl
  | event lane frame => exact (execEvent_eff lane frame s).mono rfl
  | nak lane frame => exact (execNak_eff lane frame s).mono rfl
  | responseTimeout lane => exact (execResponseTimeout_eff lane s).mono rfl
  | recoveryExpiry partner => exact (execRecoveryExpiry_eff partner s).mono rfl
  | laneBusOffRecovery lane => exact (execLaneBusOffRecovery_eff lane s).mono rfl
  | laneCommand e opcode body => exact (execLaneCommand_eff e opcode body s).mono rfl
  | laneRead e body => exact (execLaneRead_eff e body s).mono rfl
  | groupStart req slot value => exact (execGroupStart_eff req slot value s).mono rfl
  | groupTimeout slot => exact (execGroupTimeout_eff slot s).mono rfl
  | echoMismatch lane => exact (execEchoMismatch_eff lane s).mono rfl
  | laneErrorPassive lane state => exact (execLaneErrorPassive_eff lane state s).mono rfl
  | copy e opcode body => exact (execCopy_eff e opcode body s).mono rfl
  | append e body => exact (execAppend_eff e body s).mono rfl
  | check e body => exact (execCheck_eff e body s).mono rfl
  | streamEntryDone unit => exact (execStreamEntryDone_eff unit s).mono rfl
  | streamPreset req unit value => exact (execStreamPreset_eff req unit value s).mono rfl

theorem exec_leaves_queue (c : Instr) (s : State) :
    ∃ t, exec c s = .next t ∧ t.pending = s.pending ∧ t.part = s.part ∧ t.grade = s.grade := by
  obtain ⟨t, ht, he⟩ := exec_eff c s
  exact ⟨t, ht, he.pending_eq, he.part_eq, he.grade_eq⟩

/-- Settles O53, by what every command may change. -/
theorem commandsLeaveTheQueue : Obligations.CommandsLeaveTheQueue := by
  refine ⟨exec_leaves_queue, fun c s rest h => ?_⟩
  rw [step_cons s c rest h]
  exact exec_leaves_queue c { s with pending := rest }

theorem Eff.memoryOk {c : Nat} {s t : State} (h : Eff c s t) (hs : s.memoryOk = true) : t.memoryOk = true := by
  simp only [State.memoryOk, Bool.and_eq_true] at hs ⊢
  exact ⟨h.mem hs.1, h.imem hs.2⟩

/-- Settles O54: a step is a tick, which leaves memories and fuses, or the front command, whose effect keeps both. -/
theorem everyStepIsSafe : Obligations.EveryStepIsSafe := by
  intro s
  cases hq : s.pending with
  | nil =>
    have he := State.tick_eff s (Eff.refl 6 s) rfl
    exact ⟨s.tick, step_nil s hq, he.memoryOk, he.fuses⟩
  | cons c rest =>
    obtain ⟨t, ht, he⟩ := exec_eff c { s with pending := rest }
    exact ⟨t, (step_cons s c rest hq).trans ht, he.memoryOk, he.fuses⟩

/-- Settles O1. -/
theorem stepRunsFrontCommand : Obligations.StepRunsFrontCommand :=
  fun c s rest => step_cons { s with pending := c :: rest } c rest rfl

theorem State.tick_of_runs {s : State} (h : s.timeRuns = true) : s.tick = { s with now := s.now + 4, clock := s.clock + 4 } := by
  rw [State.tick, if_pos h]

theorem State.tick_of_stopped {s : State} (h : s.timeRuns = false) : s.tick = { s with clock := s.clock + 4 } := by
  simp [State.tick, h]

/-- Settles O2: a step on an empty queue is a tick. -/
theorem idleStepIsOneTick : Obligations.IdleStepIsOneTick := fun s hq =>
  ⟨fun h => by rw [step_nil s hq, State.tick_of_runs h], fun h => by rw [step_nil s hq, State.tick_of_stopped h]⟩

/-- Settles O55, by evaluating the reset state; both memories are empty there. -/
theorem stateAfterReset : Obligations.StateAfterReset :=
  ⟨rfl, rfl, rfl, rfl, rfl, rfl, rfl, rfl, rfl, rfl, rfl, rfl, fun _ => ⟨rfl, rfl⟩, rfl, rfl, rfl⟩

end Sys2Proof.Machine
end

section
/-! O3 to O6. The reset pins and straps, what enters POWERED and what stands there, and the wait for the switched rails. -/
set_option Elab.async false
namespace Sys2Proof.Machine

/-! ### Pins and straps -/

/-- PERST_N's release where its level is high, as R66 adjusts it. -/
theorem Boot.ite_adjust {b : Boot} {high : Bool} (t : Nat) (h : b.perstHigh = high) : (if high then b.adjust t else b) =
    { b with perstOrigin := if high = true ∧ b.resetHigh = true then max t (b.resetRelease + ms 1) else b.perstOrigin } := by
  subst h
  unfold Boot.adjust
  by_cases h : b.perstHigh = true ∧ b.resetHigh = true
  · rw [if_pos h.1, if_pos h.2, if_pos h]
  · rw [if_neg h]
    split_ifs with hp hr
    · exact absurd ⟨hp, hr⟩ h
    · rfl
    · rfl

theorem execPowerOnResetRelease_acts {s : State} (hp : s.boot.porReleased = false) (ho : s.powerState ≠ 4) :
    execPowerOnResetRelease s = .next { s with
      boot := { s.boot with
        porReleased := true
        resetRelease := if s.boot.resetHigh = true ∧ s.boot.resetDriven = false then s.clock else s.boot.resetRelease
        perstOrigin := if s.boot.perstHigh = true ∧ s.boot.resetHigh = true
          then max s.boot.perstOrigin ((if s.boot.resetDriven = false then s.clock else s.boot.resetRelease) + ms 1) else s.boot.perstOrigin }
      pins := { s.pins with mcanStby := !s.boot.resetHigh } } := by
  unfold execPowerOnResetRelease
  rw [if_neg (by simp [hp, ho])]
  cases hr : s.boot.resetHigh <;> simp [Boot.ite_adjust, hr]

theorem execStrapSampling_acts {src vr : Bool} {id : Nat} {s : State} (hp : s.boot.porReleased = true) (hr : s.boot.resetHigh = true)
    (hs : s.boot.strapsSampled = false) (ho : s.powerState ≠ 4) (hb : s.bootState = 0) (hw : s.power.railsWait = none) :
    execStrapSampling src vr id s = .next (
      let released := if s.boot.resetDriven then s.boot.resetRelease else s.clock
      let s1 : State := { s with
        boot := { s.boot with
          strapsSampled := true, origin := s.clock, resetRelease := released
          perstOrigin := if s.boot.perstHigh then max s.boot.perstOrigin (released + ms 1) else s.boot.perstOrigin }
        pins := { s.pins with svcReqLow := false, mcanStby := false }
        now := 0, timeRuns := true }
      ((((s1.setReg 0x2002 1 (ofBool src)).setReg 0x2002 2 (ofBool vr)).setReg 0x2002 3 (id % 16)).setReg 0x2100 3 (ofBool src)).setReg 0x2700 5 0) := by
  unfold execStrapSampling
  rw [if_neg (by simp [hp, hr, hs, ho, hb, hw])]
  simp [Boot.ite_adjust, hr]

/-- Settles O3: each command is the branch of its definition that its conditions choose; PERST_N's release is R66's in each. -/
theorem resetPinsAndStraps : Obligations.ResetPinsAndStraps := by
  refine ⟨fun s hp ho => execPowerOnResetRelease_acts hp ho, ?_, ?_, ?_, ?_, ?_, ?_, ?_⟩
  · intro s h
    exact if_pos h
  · intro s h
    rw [exec_resetNRelease, execResetNRelease, if_neg (by simp [h])]
    simp [Boot.ite_adjust]
  · intro s h
    exact if_pos h
  · intro s h
    rw [exec_perstNRelease, execPerstNRelease, if_neg (by simp [h]), Boot.adjust]
    cases hr : s.boot.resetHigh <;> simp [hr]
  · intro s h
    exact if_pos h
  · intro src vr id s hp hr hs ho hb hw
    exact execStrapSampling_acts hp hr hs ho hb hw
  · intro src vr id s h
    refine if_pos ?_
    simpa using h

/-! ### The state in POWERED -/

theorem State.railsLeft_eq (s : State) : s.railsLeft =
    if s.power.railsWait ≠ none then s.power.railsWait.map (· - s.now) else if s.pins.pwrenMain then none else some (ms 50) := by
  unfold State.railsLeft
  cases s.power.railsWait <;> simp

theorem State.powered_svcReq (s : State) (c : Nat) (b : Bool) : (s.powered c b).reg 0x2700 5 = ofBool (s.pins.svcReqLow || b) :=
  State.reg_setReg_self _ _ _ _

/-- The tainted flag (R266) is in the always-on domain. -/
theorem State.powered_tainted (s : State) (c : Nat) (b : Bool) : (s.powered c b).liveAt 0x2301 3 = s.liveAt 0x2301 3 := by
  simp only [State.powered, State.setReg_eq, State.liveAt_setLive]
  rw [if_neg (by decide), if_neg (by decide)]
  simp only [State.wiped, State.liveAt, Tab.getD]
  rw [Tab.find?_filter s.live _ (fun n => decide (n = 0x230103)) (fun _ => rfl)]
  rfl

/-- Settles O4, field by field. -/
theorem entryIntoPowered : Obligations.EntryIntoPowered := by
  rintro s t cause svc rfl
  refine ⟨State.powered_boot s cause svc, State.powered_cause s cause svc, State.powered_svcReq s cause svc, State.powered_tainted s cause svc,
    ?_, rfl, rfl, rfl, rfl, rfl, fun _ => ⟨rfl, rfl⟩, rfl, rfl, ?_, rfl, rfl, rfl, rfl, rfl, rfl, rfl, rfl, rfl, rfl, rfl, rfl, rfl, rfl, rfl, rfl,
    rfl, rfl, rfl, rfl, rfl, rfl⟩
  · intro i sub hk
    simp only [List.mem_cons, List.not_mem_nil, or_false, not_or] at hk
    obtain ⟨hcause, hsvc, htainted⟩ := hk
    exact State.powered_live s cause svc i sub htainted hcause hsvc
  · rw [← State.railsLeft_eq]
    rfl

/-- Settles O5, branch by branch; what stands in POWERED is `State.powered`'s. -/
theorem whatEntersPowered : Obligations.WhatEntersPowered := by
  refine ⟨?_, ?_, ?_, fun _ => rfl, ?_, ?_, ?_⟩
  · intro s
    refine ⟨_, rfl, rfl, State.powered_boot _ _ _, State.powered_cause _ _ _, rfl, rfl, Bool.or_false _⟩
  · intro r s haon hio hpor hoff hdeep
    refine ⟨s.powered 1 true, ?_, rfl, State.powered_boot _ _ _, State.powered_cause _ _ _, Bool.or_true _, ?_, rfl, rfl⟩
    · simp only [exec_railLoss, execRailLoss]
      rw [if_neg (by simp [haon, hio, hpor, hoff])]
      by_cases h3 : s.powerState = 3
      · have hkept := hdeep.resolve_left (not_not_intro h3)
        rw [if_pos h3, if_neg (by simp [hkept])]
      · rw [if_neg h3]
    · rw [State.powered_svcReq, Bool.or_true]
      rfl
  · intro r s h
    simp only [exec_railLoss, execRailLoss]
    by_cases h' : r = .aon ∨ r = .io18 ∨ s.powerState = 4 ∨ (!s.boot.porReleased) = true
    · rw [if_pos h']
    · have hdeep : s.powerState = 3 ∧ r ≠ .sram ∧ r ≠ .vdd1 ∧ r ≠ .vdd2h ∧ r ≠ .vddq := by
        simp only [Bool.not_eq_true'] at h'
        tauto
      obtain ⟨h3, hkept⟩ := hdeep
      rw [if_neg h', if_pos h3, if_pos (by simp [hkept])]
  · intro s w hw hx
    refine ⟨State.powered { s with power := { s.power with railsWait := none } } 2 false, ?_, rfl, State.powered_boot _ _ _, State.powered_cause _ _ _, rfl, rfl⟩
    simp [execSwitchedRailsValid, hw, hx]
  · intro s w hw hx
    simp [execSwitchedRailsValid, hw, hx]
  · intro s hw
    simp [execSwitchedRailsValid, hw]

/-! ### The wait for the switched rails -/

/-- An exit's source is no longer shown, and SVC_REQ_N is low. -/
theorem State.driveSvc_reg_svc (s : State) : s.driveSvc.reg 0x2700 5 = 1 := State.reg_setReg_self _ _ _ _

theorem State.driveSvc_sameLive (s : State) (ks : List Nat) (hk : entryKey 0x2700 5 ∈ ks) : SameLiveBut s s.driveSvc ks :=
  SameLiveBut.setLive (SameLiveBut.of_live rfl rfl rfl) _ hk

/-- Settles O6: the three exits that may wait. -/
theorem switchedRailsTimeout : Obligations.SwitchedRailsTimeout := by
  refine ⟨?_, ?_⟩
  · intro s w hw
    have hlive := (s.arriveAt w).driveSvc_sameLive [0x270005, 0x240003] (by decide)
    have hsvc := (s.arriveAt w).driveSvc_reg_svc
    simp only [exec_railValidTimeout, execRailValidTimeout, hw]
    by_cases h4 : s.power.exitFrom = 4
    · rw [if_pos h4]
      refine ⟨_, rfl, rfl, ?_, rfl, fun _ => ⟨rfl, rfl, rfl, rfl, rfl⟩, fun h3 => by omega, fun _ h => absurd h4 h, ?_,
        SameMemory.of_eq rfl rfl, ⟨rfl, rfl, rfl⟩, rfl, rfl, rfl⟩
      · exact (State.reg_setReg_of_ne _ _ _ _ _ _ (by decide)).trans hsvc
      · exact SameLiveBut.setLive (hlive.trans_live rfl rfl rfl) _ (by decide)
    · rw [if_neg h4]
      by_cases h3 : s.power.exitFrom = 3
      · rw [if_pos h3]
        refine ⟨_, rfl, rfl, ?_, rfl, fun h => absurd h h4, fun _ => ⟨rfl, rfl, rfl, rfl, rfl, rfl⟩, fun h => absurd h3 h, ?_,
          SameMemory.of_eq rfl rfl, ⟨rfl, rfl, rfl⟩, rfl, rfl, rfl⟩
        · exact (State.reg_setReg_of_ne _ _ _ _ _ _ (by decide)).trans hsvc
        · exact SameLiveBut.setLive (hlive.trans_live rfl rfl rfl) _ (by decide)
      · rw [if_neg h3]
        exact ⟨_, rfl, rfl, hsvc, rfl, fun h => absurd h h4, fun h => absurd h h3, fun _ _ => ⟨rfl, rfl⟩, hlive.trans_live rfl rfl rfl,
          SameMemory.of_eq rfl rfl, ⟨rfl, rfl, rfl⟩, rfl, rfl, rfl⟩
  · intro s hw
    simp [execRailValidTimeout, hw]

end Sys2Proof.Machine
end

section
/-! O7. PERST_N and the reset of the endpoint. -/
set_option Elab.async false
namespace Sys2Proof.Machine

/-! ### PERST_N -/

theorem Tab.find?_map {α : Type} (t : Tab α) (f : α → α) (k : Nat) :
    Tab.find? (List.map (fun e : Nat × α => (e.1, f e.2)) t) k = (Tab.find? t k).map f := by
  induction t with
  | nil => rfl
  | cons e r ih =>
    simp only [List.map_cons, Tab.find?, ih]
    split <;> rfl

/-- Disabling an instance leaves VF Enable and NumVFs. -/
theorem State.each_disableOne_frame (l : List Nat) (s : State) :
    (s.each l (fun t j => t.disableOne j)).vfEnable = s.vfEnable ∧ (s.each l (fun t j => t.disableOne j)).numVfs = s.numVfs := by
  have he : Eff 35132398411968 s (s.each l (fun t j => t.disableOne j)) :=
    Eff.each (Eff.refl _ s) (fun t n h => State.disableOne_eff t n h rfl)
  exact ⟨he.vfEnable_eq, he.numVfs_eq⟩

theorem State.endpointReset_vf (s : State) : s.endpointReset.vfEnable = false ∧ s.endpointReset.numVfs = 0 := by
  simp only [State.endpointReset, State.resetInstance, if_true]
  generalize (List.range 31).map (· + 1) = l
  exact State.each_disableOne_frame l _

theorem State.endpointReset_closed (s : State) : s.endpointReset.boot.memorySpace = false ∧ s.endpointReset.ari = false := by
  unfold State.endpointReset
  generalize s.resetInstance 0 = t
  exact ⟨rfl, rfl⟩

/-- Every function's configuration space is at its reset values after an endpoint reset (R82). -/
theorem State.endpointReset_config (s : State) (i : Nat) :
    (s.endpointReset.inst i).pci = {} ∧ (s.endpointReset.inst i).msixEnabled = false := by
  unfold State.endpointReset
  generalize s.resetInstance 0 = t
  simp only [State.inst, Tab.getD, Tab.find?_map]
  cases Tab.find? t.insts i <;> exact ⟨rfl, rfl⟩

theorem State.perstRestart_bootState (s : State) : s.perstRestart.bootState = 0 := by
  simp only [State.perstRestart, State.bootState]
  iterate 4 rw [State.reg_setReg_of_ne _ _ _ _ _ _ (by decide)]
  exact (State.reg_congr rfl rfl rfl _ _).trans (State.powered_boot s 4 false)

theorem State.perstRestart_cause (s : State) : s.perstRestart.reg 0x2100 4 = 4 := by
  simp only [State.perstRestart]
  iterate 4 rw [State.reg_setReg_of_ne _ _ _ _ _ _ (by decide)]
  exact (State.reg_congr rfl rfl rfl _ _).trans (State.powered_cause s 4 false)

theorem State.perstRestart_mgmtId (s : State) : s.perstRestart.reg 0x2002 3 = s.reg 0x2002 3 := by
  simp only [State.perstRestart]
  rw [State.reg_setReg_of_ne _ _ _ _ _ _ (by decide), State.reg_setReg_self]

/-- Device time, the straps and a debug unlock stay in a restart by PERST_N. -/
theorem State.perstRestart_keeps (s : State) : s.perstRestart.boot.perstHigh = s.boot.perstHigh ∧ s.perstRestart.now = s.now ∧
    s.perstRestart.fuses = s.fuses ∧ s.perstRestart.boot.strapsSampled = s.boot.strapsSampled ∧
    s.perstRestart.worlds.unlocked = s.worlds.unlocked := by
  simp [State.perstRestart, State.powered, State.wiped]

/-- Settles O7, branch by branch of the assertion. -/
theorem perstAssertion : Obligations.PerstAssertion := by
  refine ⟨?_, ?_, ?_, ?_, ?_, ?_, ?_⟩
  · intro s h4
    simp [execPerstNAssert, h4]
  · intro s h4 hst
    refine ⟨State.powered { s with boot := { s.boot with perstHigh := false } } 3 false, ?_, rfl, State.powered_boot _ _ _, State.powered_cause _ _ _, rfl⟩
    simp [execPerstNAssert, h4, hst]
  · intro s h4 hst hop
    simp [execPerstNAssert, h4, hst, hop]
  · intro s h4 hst hop hs
    simp [execPerstNAssert, h4, hst, hop, hs]
  · intro s h4 hst hop hs hsrc
    have hrun : exec .perstNAssert s = .next (State.perstRestart { s with boot := { s.boot with perstHigh := false } }) := by
      simp [execPerstNAssert, h4, hst, hop, hs, State.bootSrc, hsrc]
    obtain ⟨hperst, hnow, hfuses, hstraps, hunlocked⟩ := State.perstRestart_keeps { s with boot := { s.boot with perstHigh := false } }
    have hid := State.perstRestart_mgmtId { s with boot := { s.boot with perstHigh := false } }
    exact ⟨_, hrun, rfl, State.perstRestart_bootState _, State.perstRestart_cause _, hperst, hnow, hfuses, hid, hstraps.trans hs, hunlocked⟩
  · intro s h4 hst hop hs hsrc
    simp [execPerstNAssert, h4, hst, hop, hs, State.bootSrc, hsrc]
  · intro s
    obtain ⟨hvf, hnum⟩ := s.endpointReset_vf
    exact ⟨s.endpointReset_closed.1, s.endpointReset_closed.2, hvf, hnum, s.endpointReset_config⟩

end Sys2Proof.Machine
end

section
/-! O8. The ROM's states up to AWAIT_IMAGE. -/
set_option Elab.async false
namespace Sys2Proof.Machine

theorem State.bootHalt_frame (s : State) (code : Nat) (svc : Bool) : Eff 17592189452416 s (s.bootHalt code svc) :=
  State.bootHalt_eff s code svc (Eff.refl _ s) rfl

/-- A halt sets no pin but SVC_REQ_N. -/
theorem State.bootHalt_pins (s : State) (code : Nat) : (s.bootHalt code true).pins = { s.pins with svcReqLow := true } := by
  unfold State.bootHalt
  dsimp only
  rw [State.sendVector_pins]
  simp only [State.setReg_eq, State.setLive_pins]
  rw [State.each_pins]
  · rfl
  · intro t n; split <;> rfl

@[simp] theorem State.bootEnter_boot (s : State) (st : Nat) : (s.bootEnter st).boot = s.boot := (s.bootEnter_frame st).boot_eq
@[simp] theorem State.bootEnter_fuses (s : State) (st : Nat) : (s.bootEnter st).fuses = s.fuses := (s.bootEnter_frame st).fuses_eq
@[simp] theorem State.bootEnter_clock (s : State) (st : Nat) : (s.bootEnter st).clock = s.clock := (s.bootEnter_frame st).clock_eq
@[simp] theorem State.bootEnter_pins (s : State) (st : Nat) : (s.bootEnter st).pins = s.pins := (s.bootEnter_frame st).pins_eq
@[simp] theorem State.bootEnter_mcan (s : State) (st : Nat) : (s.bootEnter st).mcan = s.mcan := (s.bootEnter_frame st).mcan_eq
@[simp] theorem State.bootEnter_out (s : State) (st : Nat) : (s.bootEnter st).out = s.out := (s.bootEnter_frame st).out_eq
@[simp] theorem State.linkStarts_boot (s : State) : s.linkStarts.boot = { s.boot with ltssm := true } := rfl
@[simp] theorem State.linkStarts_pins (s : State) : s.linkStarts.pins = { s.pins with pcieIdle := false } := rfl
@[simp] theorem State.linkStarts_fuses (s : State) : s.linkStarts.fuses = s.fuses := rfl
@[simp] theorem State.linkStarts_clock (s : State) : s.linkStarts.clock = s.clock := rfl
@[simp] theorem State.reg_linkStarts (s : State) (i k : Nat) : s.linkStarts.reg i k = s.reg i k := rfl

/-- A halt at the end of POWERED: the link is started there too (log entry 112). -/
theorem State.linkStarts_bootHalt (s : State) (code : Nat) :
    let t := s.linkStarts.bootHalt code true
    t.fuses = s.fuses ∧ t.boot.ltssm = true ∧ t.pins.pcieIdle = false ∧ t.clock = s.clock ∧
      t.bootState = 0xFF ∧ t.reg 0x2100 2 = code ∧ t.pins.svcReqLow = true := by
  have he := s.linkStarts.bootHalt_frame code true
  obtain ⟨hstate, hcode⟩ := s.linkStarts.bootHalt_eq code true
  refine ⟨he.fuses_eq, ?_, ?_, he.clock_eq, hstate, hcode, State.bootHalt_svc _ _⟩
  · rw [he.boot_eq]; rfl
  · rw [State.bootHalt_pins]; rfl

/-- ROM_READY: D0's Core and Shell are ACTIVE. -/
theorem State.romReady_eq (s : State) :
    let t := (((s.setReg 0x2008 2 2).setReg 0x2008 3 2).bootEnter 1).linkStarts
    t.fuses = s.fuses ∧ t.boot.ltssm = true ∧ t.pins.pcieIdle = false ∧ t.clock = s.clock ∧
      t.bootState = 1 ∧ t.reg 0x2008 2 = 2 ∧ t.reg 0x2008 3 = 2 := by
  refine ⟨by simp, by simp, by simp, by simp, State.bootEnter_state _ _, ?_, ?_⟩
  · rw [State.reg_linkStarts, State.bootEnter_reg _ _ _ _ (by decide) (by decide), State.reg_setReg_of_ne _ _ _ _ _ _ (by decide),
      State.reg_setReg_self]
  · rw [State.reg_linkStarts, State.bootEnter_reg _ _ _ _ (by decide) (by decide), State.reg_setReg_self]

/-- The state in which POWERED_COMPLETE judges: device time has reached PERST_N's release on a PCIe boot, and the clearing is over. -/
def State.judgedAtPowered (s : State) : State :=
  let u := if s.bootSrc then s else s.clockReaches s.boot.perstOrigin
  { u with boot := { u.boot with clearing := false } }

theorem State.judgedAtPowered_fuses (s : State) : s.judgedAtPowered.fuses = s.fuses := by
  unfold State.judgedAtPowered; split <;> rfl

theorem State.judgedAtPowered_clock (s : State) :
    s.judgedAtPowered.clock = if s.reg 0x2002 1 = 1 then s.clock else max s.clock s.boot.perstOrigin := by
  unfold State.judgedAtPowered State.bootSrc
  by_cases h : s.reg 0x2002 1 = 1 <;> simp [h, State.clockReaches]

theorem execPoweredComplete_acts {s : State} (hb : s.bootState = 0) (hp : s.powerState = 0) (hs : s.boot.strapsSampled = true)
    (hr : s.boot.resetHigh = true) (h : s.reg 0x2002 1 = 1 ∨ s.boot.perstHigh = true) (f d ok : Bool) :
    execPoweredComplete f d s ok =
      if f = false then .next (s.judgedAtPowered.linkStarts.bootHalt 0x0110 true)
      else if d = false then .next (s.judgedAtPowered.linkStarts.bootHalt 0x0111 true)
      else .next (s.judgedAtPowered.linkStarts.romChecked ok
        (((s.judgedAtPowered.setReg 0x2008 2 2).setReg 0x2008 3 2).bootEnter 1).linkStarts) := by
  unfold execPoweredComplete
  rw [if_neg (by rcases h with h | h <;> simp [hb, hp, hs, hr, State.bootSrc, h])]
  cases f <;> cases d <;> rfl

/-- Memory Space Enable is set, and opens AWAIT_IMAGE from ROM_READY on a PCIe boot whose region is cleared. -/
theorem State.memorySpaceSet_eq (s : State) :
    (s.memorySpaceSet true).bootState = (if s.bootState = 1 ∧ s.bootSrc = false ∧ s.boot.clearing = false then 2 else s.bootState) ∧
      (s.memorySpaceSet true).boot.memorySpace = true := by
  unfold State.memorySpaceSet
  by_cases h : s.bootState = 1 ∧ s.bootSrc = false ∧ s.boot.clearing = false
  · obtain ⟨h1, h2, h3⟩ := h
    simp only [h1, h2, h3]
    exact ⟨State.bootEnter_state _ _, rfl⟩
  · have hn : ¬(true = true ∧ s.bootState = 1 ∧ (!s.bootSrc) = true ∧ (!s.boot.clearing) = true) := by simpa using h
    dsimp only
    rw [if_neg h, if_neg hn]
    exact ⟨rfl, rfl⟩

theorem execMemorySpaceEnable_acts {s : State} (h : s.configOpen = true) : execMemorySpaceEnable s true = .next (s.memorySpaceSet true) := by
  simp [execMemorySpaceEnable, h]

theorem State.memorySpaceSet_frame (s : State) : SameMemory s (s.memorySpaceSet true) ∧ SameRings s (s.memorySpaceSet true) := by
  have he := State.memorySpaceSet_eff s true (Eff.refl 2228416 s) rfl
  exact ⟨SameMemory.of_eff he, SameRings.of_eff he⟩

/-- The recovery server serves, and its boot-up message is sent under the default node offset (R149). -/
def State.serverStarted (s : State) : State :=
  (({ s with mcan := { s.mcan with serving := true } } : State).setReg 0x1F11 1 (16 + s.reg 0x2002 3)).sendMcan (0x700 + (16 + s.reg 0x2002 3)) [0]

theorem State.serverStarted_frame (s : State) : Eff 17592187093184 s (s.serverStarted.bootEnter 2) := by
  refine State.bootEnter_eff _ 2 (State.sendMcan_eff _ _ _ (State.setReg_eff _ _ _ _ ?_ rfl) rfl) rfl
  exact Eff.lit (Eff.refl _ s) rfl rfl rfl rfl

/-- Settles O8: what the ROM enters or halts with, and the frame of a halt. -/
theorem romStates : Obligations.RomStates := by
  refine ⟨?_, ?_, ?_, ?_, ?_, ?_, ?_, ?_, ?_, ?_⟩
  · intro f d ok s hb hp hs hr h
    rw [exec_poweredComplete, execPoweredComplete_acts hb hp hs hr h]
    have hhalt := s.judgedAtPowered.linkStarts_bootHalt
    have hready := s.judgedAtPowered.romReady_eq
    have hf := s.judgedAtPowered_fuses
    have hc := s.judgedAtPowered_clock
    cases f
    · obtain ⟨h1, h2, h3, h4, h5, h6, h7⟩ := hhalt 0x0110
      exact ⟨_, rfl, h1.trans hf, h2, h3, h4.trans hc, nofun, fun _ => ⟨h5, h6, h7⟩, nofun, nofun⟩
    cases d
    · obtain ⟨h1, h2, h3, h4, h5, h6, h7⟩ := hhalt 0x0111
      exact ⟨_, rfl, h1.trans hf, h2, h3, h4.trans hc, nofun, nofun, fun _ _ => ⟨h5, h6, h7⟩, nofun⟩
    cases ok
    · obtain ⟨h1, h2, h3, h4, h5, h6, h7⟩ := hhalt 0x0F01
      exact ⟨_, rfl, h1.trans hf, h2, h3, h4.trans hc, nofun, nofun, nofun, fun _ _ _ => ⟨h5, h6, h7⟩⟩
    · obtain ⟨h1, h2, h3, h4, h5, h6, h7⟩ := hready
      exact ⟨_, rfl, h1.trans hf, h2, h3, h4.trans hc, fun _ _ _ => ⟨h5, h6, h7⟩, nofun, nofun, nofun⟩
  · intro f d ok s h
    refine if_pos ?_
    simpa [State.bootSrc] using h
  · intro s ho hb hsrc hcl
    obtain ⟨hstate, hspace⟩ := s.memorySpaceSet_eq
    refine ⟨_, execMemorySpaceEnable_acts ho, ?_, hspace, s.memorySpaceSet_frame.1, s.memorySpaceSet_frame.2⟩
    rw [hstate, if_pos ⟨hb, by simp [State.bootSrc, hsrc], hcl⟩]
  · intro s ho h
    obtain ⟨hstate, hspace⟩ := s.memorySpaceSet_eq
    refine ⟨_, execMemorySpaceEnable_acts ho, ?_, hspace, s.memorySpaceSet_frame.1, s.memorySpaceSet_frame.2⟩
    rw [hstate, if_neg]
    rintro ⟨h1, h2, h3⟩
    simp [h1, h3] at h
    simp [State.bootSrc, h] at h2
  · intro s hb hsrc hcl
    refine ⟨s.serverStarted.bootEnter 2, by simp [execMcanServerStarted, hb, State.bootSrc, hsrc, hcl, State.serverStarted],
      State.bootEnter_state _ _, by simp [State.serverStarted, State.sendMcan], ?_, ⟨_, by rw [State.bootEnter_out]; rfl, ?_, rfl⟩,
      SameMemory.of_eff s.serverStarted_frame, SameRings.of_eff s.serverStarted_frame⟩
    · rw [State.bootEnter_reg _ _ _ _ (by decide) (by decide)]
      exact State.reg_setReg_self _ _ _ _
    · exact (Nat.add_assoc _ _ _).symm
  · intro s h ok
    refine if_pos ?_
    simpa [State.bootSrc] using h
  · intro ok s h
    simp [execMemorySpaceEnable, h]
  · intro s ho hb
    simp [execMemorySpaceEnable, ho, hb]
  · intro s hb hsrc hcl
    simp [execMcanServerStarted, hb, State.bootSrc, hsrc, hcl]
  · intro s
    exact ⟨(s.bootHalt_eq _ _).1, (s.bootHalt_eq _ _).2, s.bootHalt_svc _⟩

end Sys2Proof.Machine
end

section
/-! O9. The boot window. -/
set_option Elab.async false
namespace Sys2Proof.Machine

/-! ### What an access writes, and what a clearing leaves -/

/-- A run of bytes written to the device's memory. -/
theorem SameMemoryBut.of_writeBytes {s t : State} (a : Nat) (bs : List Byte) (hm : t.mem = s.mem.writeBytes a bs) (hi : t.imem = s.imem) :
    SameMemoryBut s t a bs.length := by
  refine ⟨fun b hb => ?_, fun b => by rw [hi]⟩
  rw [hm, Memory.read_writeBytes, if_neg (by omega)]

theorem Memory.read_writeBytes_at (m : Memory) (a n : Nat) (bs : List Byte) (h : n < bs.length) :
    Memory.read (m.writeBytes a bs) (a + n) = bs.getD n 0 := by
  rw [Memory.read_writeBytes, if_pos (by omega), Nat.add_sub_cancel_left]

/-- A stretch of the device's memory cleared: it reads 0, and every other byte as before. -/
theorem SameMemoryBut.of_clear {s t : State} (a n : Nat) (hm : t.mem = s.mem.clear a n) (hi : t.imem = s.imem) :
    (∀ b, a ≤ b → b < a + n → Memory.read t.mem b = 0) ∧ SameMemoryBut s t a n := by
  refine ⟨fun b h1 h2 => ?_, fun b hb => ?_, fun b => by rw [hi]⟩
  · rw [hm, Memory.read_clear, if_pos ⟨h1, h2⟩]
  · rw [hm, Memory.read_clear, if_neg (by omega)]

/-! ### The window's commands -/

theorem State.apertureWrite_lands {s : State} {off : Nat} {bs : List Byte} (hw : s.windowOpen = true) (hb : s.bootState = 2)
    (hl : off + bs.length ≤ 0x400000) (hc : s.boot.clearing = false) :
    s.apertureWrite off bs = { s with mem := s.mem.writeBytes (stackBase 0 + (s.boot.aperturePage * 0x400000 + off)) bs } := by
  unfold State.apertureWrite
  dsimp only
  rw [if_neg (by simp [hw, hb]; omega), if_neg (by simp [hc])]

theorem State.apertureWrite_held {s : State} {off : Nat} {bs : List Byte} (hw : s.windowOpen = true) (hb : s.bootState = 2)
    (hl : off + bs.length ≤ 0x400000) (hc : s.boot.clearing = true) :
    s.apertureWrite off bs = { s with boot := { s.boot with
      heldWrites := s.boot.heldWrites ++ [(s.boot.aperturePage * 0x400000 + off, bs)] } } := by
  unfold State.apertureWrite
  dsimp only
  rw [if_neg (by simp [hw, hb]; omega), if_pos hc]

theorem State.apertureWrite_ignored {s : State} {off : Nat} {bs : List Byte}
    (h : s.bootState ≠ 2 ∨ s.windowOpen = false ∨ 0x400000 < off + bs.length) : s.apertureWrite off bs = s := by
  unfold State.apertureWrite
  refine if_pos ?_
  rcases h with h | h | h
  · exact .inr (.inl h)
  · exact .inl (by simp [h])
  · exact .inr (.inr h)

theorem State.finishClear_of_clearing {s : State} (h : s.boot.clearing = true) : s.finishClear = { s with
    mem := s.boot.heldWrites.foldl (fun (m : Memory) w => Memory.writeBytes m (stackBase 0 + w.1) w.2) s.mem
    boot := { s.boot with clearing := false, heldWrites := [] } } := by
  simp [State.finishClear, h]

/-- A clearing over leaves the directory and the window's registers. -/
theorem State.finishClear_keeps (s : State) : (∀ i k, s.finishClear.reg i k = s.reg i k) ∧
    s.finishClear.boot.imageLength = s.boot.imageLength ∧ s.finishClear.boot.ringLength = s.boot.ringLength ∧
    s.finishClear.boot.memorySpace = s.boot.memorySpace ∧ s.finishClear.boot.clearing = false := by
  have he := State.finishClear_eff s (Eff.refl 135168 s) rfl
  refine ⟨State.reg_congr he.live_eq he.part_eq he.grade_eq, ?_⟩
  unfold State.finishClear
  cases hc : s.boot.clearing <;> simp [hc]

theorem execBootRegionCleared_acts {s : State} (h : s.boot.clearing = true) : execBootRegionCleared s true =
    .next (if s.finishClear.bootState = 1 ∧ (!s.finishClear.bootSrc) = true ∧ s.finishClear.boot.memorySpace = true
      then s.finishClear.bootEnter 2 else s.finishClear) := by
  simp [execBootRegionCleared, h]

theorem execStart_acts (withRestart : Bool) (s : State) : execStart withRestart s true = .next (s.bootControl true withRestart) := by
  simp [execStart]

theorem State.bootControl_restart {s : State} (start : Bool) (h : s.windowOpen = true) : s.bootControl start true = s.bootRestart := by
  simp [State.bootControl, h]

theorem State.bootControl_closed {s : State} (start restart : Bool) (h : s.windowOpen = false) : s.bootControl start restart = s := by
  simp [State.bootControl, h]

theorem State.bootControl_start {s : State} (hw : s.windowOpen = true) (hb : s.bootState = 2) (hs : s.reg 0x2002 1 ≠ 1) :
    s.bootControl true false = s.bootStart := by
  simp [State.bootControl, hw, hb, State.bootSrc, hs]

/-! ### RESTART from BOOT_HALT -/

/-- The members that a RESTART resets. -/
def State.restartDies (s : State) : State :=
  s.each s.dieList (fun t d => (t.setReg (0x2008 + d) 2 (if d = 0 then 2 else 1)).setReg (0x2008 + d) 3 (if d = 0 then 2 else 1))

/-- What every member of the list keeps, the run over the list keeps. -/
theorem State.each_keeps_mem {P : State → Prop} (l : List Nat) (f : State → Nat → State) (hf : ∀ t, ∀ n ∈ l, P t → P (f t n)) (s : State)
    (h : P s) : P (s.each l f) := by
  induction l generalizing s with
  | nil => exact h
  | cons n ns ih => exact ih (fun t m hm => hf t m (List.mem_cons_of_mem _ hm)) _ (hf s n (List.mem_cons_self ..) h)

/-- A register that no die's turn writes. -/
theorem State.restartDies_of_ne (s : State) {j k : Nat} (hj : j < 0x2008 ∨ 0x2010 ≤ j) (hk : k < 256) : s.restartDies.reg j k = s.reg j k := by
  refine State.each_keeps_mem (P := fun t => t.reg j k = s.reg j k) _ _ (fun t n hn h => ?_) s rfl
  have hlt : n < 8 := (List.mem_range.1 hn).trans_le (by show s.part.dies ≤ 8; cases s.part <;> decide)
  rw [State.reg_setReg_of_ne _ _ _ _ _ _ (by simp only [entryKey]; omega), State.reg_setReg_of_ne _ _ _ _ _ _ (by simp only [entryKey]; omega), h]

theorem State.each_setTwo_of_mem (l : List Nat) (v : Nat → Nat) {d : Nat} (hd : d ∈ l) (s : State) :
    let t := s.each l (fun t d => (t.setReg (0x2008 + d) 2 (v d)).setReg (0x2008 + d) 3 (v d))
    t.reg (0x2008 + d) 2 = v d ∧ t.reg (0x2008 + d) 3 = v d := by
  dsimp only
  have hset : ∀ (t : State) (n : Nat), n ≠ d → ((t.setReg (0x2008 + n) 2 (v n)).setReg (0x2008 + n) 3 (v n)).reg (0x2008 + d) 2 = t.reg (0x2008 + d) 2 ∧
      ((t.setReg (0x2008 + n) 2 (v n)).setReg (0x2008 + n) 3 (v n)).reg (0x2008 + d) 3 = t.reg (0x2008 + d) 3 := by
    intro t n hn
    have hk : ∀ a b, a < 4 → b < 4 → entryKey (0x2008 + n) a ≠ entryKey (0x2008 + d) b := fun a b ha hb => by simp only [entryKey]; omega
    constructor <;>
      rw [State.reg_setReg_of_ne _ _ _ _ _ _ (hk _ _ (by decide) (by decide)), State.reg_setReg_of_ne _ _ _ _ _ _ (hk _ _ (by decide) (by decide))]
  have hself : ∀ t : State, ((t.setReg (0x2008 + d) 2 (v d)).setReg (0x2008 + d) 3 (v d)).reg (0x2008 + d) 2 = v d ∧
      ((t.setReg (0x2008 + d) 2 (v d)).setReg (0x2008 + d) 3 (v d)).reg (0x2008 + d) 3 = v d := fun t =>
    ⟨by rw [State.reg_setReg_of_ne _ _ _ _ _ _ (by simp only [entryKey]; omega), State.reg_setReg_self], State.reg_setReg_self _ _ _ _⟩
  -- once set, the later dies' turns leave it
  have hlater : ∀ (r : List Nat) (t : State), t.reg (0x2008 + d) 2 = v d ∧ t.reg (0x2008 + d) 3 = v d →
      let u := t.each r (fun t d => (t.setReg (0x2008 + d) 2 (v d)).setReg (0x2008 + d) 3 (v d))
      u.reg (0x2008 + d) 2 = v d ∧ u.reg (0x2008 + d) 3 = v d := fun r t ht =>
    State.each_keeps (P := fun t => t.reg (0x2008 + d) 2 = v d ∧ t.reg (0x2008 + d) 3 = v d) r _ (fun t n h => by
      by_cases hn : n = d
      · subst hn; exact hself t
      · rw [(hset t n hn).1, (hset t n hn).2]; exact h) t ht
  induction l generalizing s with
  | nil => cases hd
  | cons n ns ih =>
    rcases List.mem_cons.1 hd with rfl | hm
    · exact hlater ns _ (hself s)
    · exact ih hm _

/-- Where BOOT_HALT ends, before the image's record is dropped: ROM_READY with cause 5 and no halt code. -/
def State.restartEntered (s : State) : State := ((s.clearRegion.bootEnter 1).setReg 0x2100 2 0).setReg 0x2100 4 5

theorem State.restartEntered_regs (s : State) : s.restartEntered.reg 0x2100 1 = 1 ∧ s.restartEntered.reg 0x2100 4 = 5 ∧ s.restartEntered.reg 0x2100 2 = 0 := by
  unfold State.restartEntered
  refine ⟨?_, State.reg_setReg_self _ _ _ _, ?_⟩
  · rw [State.reg_setReg_of_ne _ _ _ _ _ _ (by decide), State.reg_setReg_of_ne _ _ _ _ _ _ (by decide)]
    exact State.bootEnter_state _ _
  · rw [State.reg_setReg_of_ne _ _ _ _ _ _ (by decide), State.reg_setReg_self]

/-- A RESTART from BOOT_HALT, with the entries that it keeps. -/
theorem State.bootRestart_halted {s : State} (h : s.bootState = 0xFF) :
    (∀ i k, i ≠ 0x2101 → k < 256 → s.bootRestart.reg i k = s.restartEntered.restartDies.reg i k) ∧
    s.bootRestart.mem = s.mem.clear (stackBase 0) bootRegionSize ∧ s.bootRestart.boot.imageLength = 0 ∧ s.bootRestart.boot.ringLength = 0 := by
  have hd : Eff 128 s.restartEntered s.restartEntered.restartDies :=
    Eff.each (Eff.refl _ _) (fun t n ht => State.setReg_eff _ _ _ _ (State.setReg_eff _ _ _ _ ht rfl) rfl)
  have he : s.bootRestart = { s.restartEntered.restartDies with
      live := s.restartEntered.restartDies.live.filter (fun e => decide (e.1 / 256 ≠ 0x2101))
      mcan := { s.restartEntered.mcan with serving := false, sessions := [], tunnelRunning := false }
      fabric := {}
      boot := { s.restartEntered.boot with ltssm := true, coordinator := 0, latchedImage := 0, latchedRing := 0, reachable := [],
                                           awaitingReady := [], slotsDone := [], slotEvents := [] } } := by
    unfold State.bootRestart
    rw [if_neg (by omega), if_neg (by omega)]
    rfl
  have hb : s.restartEntered.boot = s.clearRegion.boot := by simp [State.restartEntered]
  refine ⟨fun i k hi hk => ?_, ?_, ?_, ?_⟩
  · refine State.reg_of_liveAt ?_
    rw [he]
    simp only [State.liveAt, Tab.getD]
    rw [Tab.find?_filter _ _ (fun n => decide (n / 256 ≠ 0x2101)) (fun _ => rfl),
      if_pos (decide_eq_true (by simp only [entryKey]; omega))]
  · rw [he]
    exact (hd.mem_eq).trans ((State.bootEnter_frame s.clearRegion 1).mem_eq)
  · rw [he]
    exact congrArg Boot.imageLength hb
  · rw [he]
    exact congrArg Boot.ringLength hb

/-- Settles O9: each command by the boot state and the window; what lands is a run of bytes, what a RESTART clears is the boot region. -/
theorem bootWindow : Obligations.BootWindow := by
  refine ⟨?_, ?_, ?_, ?_, ?_, ?_, ?_, ?_, ?_, ?_⟩
  · intro off bs s hw hb hl hc
    refine ⟨_, congrArg Host.Outcome.next (State.apertureWrite_lands hw hb hl hc), ?_, ?_, rfl, ⟨rfl, rfl, rfl⟩, rfl⟩
    · intro n hn
      rw [Nat.add_assoc (stackBase 0)]
      exact Memory.read_writeBytes_at _ _ _ _ hn
    · rw [Nat.add_assoc (stackBase 0)]
      exact SameMemoryBut.of_writeBytes _ bs rfl rfl
  · intro off bs s hw hb hl hc
    exact congrArg Host.Outcome.next (State.apertureWrite_held hw hb hl hc)
  · intro off bs s h
    exact congrArg Host.Outcome.next (State.apertureWrite_ignored h)
  · intro s hc hb
    have hst : s.finishClear.bootState ≠ 1 := by
      rw [State.bootState, s.finishClear_keeps.1]
      exact fun h => absurd (hb.symm.trans h) (by decide)
    rw [exec_bootRegionCleared, execBootRegionCleared_acts hc, if_neg (fun h => hst h.1), State.finishClear_of_clearing hc]
  · intro s hc hb hsrc hms
    obtain ⟨hreg, -, -, hspace, hdone⟩ := s.finishClear_keeps
    have hopens : s.finishClear.bootState = 1 ∧ (!s.finishClear.bootSrc) = true ∧ s.finishClear.boot.memorySpace = true :=
      ⟨(hreg _ _).trans hb, by simp [State.bootSrc, hreg, hsrc], hspace.trans hms⟩
    rw [exec_bootRegionCleared, execBootRegionCleared_acts hc, if_pos hopens]
    refine ⟨_, rfl, State.bootEnter_state _ _, by rw [State.bootEnter_boot, hdone], ?_⟩
    exact SameRings.of_eff (State.bootEnter_eff _ 2 (State.finishClear_eff s (Eff.refl 135360 s) rfl) rfl)
  · intro s hw hb hsrc
    obtain ⟨-, himage, hring, -, -⟩ := s.finishClear_keeps
    have he := State.bootControl_eff s true false (Eff.refl 1708224 s) rfl
    rw [exec_start, execStart_acts]
    rw [State.bootControl_start hw hb hsrc] at he ⊢
    exact ⟨_, rfl, State.bootEnter_state _ _, by rw [State.bootStart, State.bootEnter_boot, ← himage],
      by rw [State.bootStart, State.bootEnter_boot, ← hring], SameRings.of_eff he, he.fuses_eq⟩
  · intro s
    by_cases hw : s.windowOpen = true
    · rw [exec_start, exec_restart, execStart_acts, execRestart, State.bootControl_restart _ hw, State.bootControl_restart _ hw]
    · rw [Bool.not_eq_true] at hw
      rw [exec_start, exec_restart, execStart_acts, execRestart, State.bootControl_closed _ _ hw, State.bootControl_closed _ _ hw]
  · intro s hw hb
    have he : s.bootRestart = s.clearRegion := if_pos hb
    rw [exec_restart, execRestart, State.bootControl_restart _ hw, he]
    obtain ⟨hzero, hsame⟩ := SameMemoryBut.of_clear (s := s) (t := s.clearRegion) (stackBase 0) bootRegionSize rfl rfl
    exact ⟨_, rfl, hb, rfl, rfl, rfl, hzero, hsame, rfl, ⟨rfl, rfl, rfl⟩⟩
  · intro s hw hb
    have he := State.bootRestart_eff s (Eff.refl 1708224 s) rfl
    obtain ⟨hreg, hmem, himage, hring⟩ := State.bootRestart_halted hb
    obtain ⟨hstate, hcause, hcode⟩ := s.restartEntered_regs
    have hroom : ∀ k, k < 256 → s.bootRestart.reg 0x2100 k = s.restartEntered.reg 0x2100 k := fun k hk =>
      (hreg _ _ (by decide) hk).trans (State.restartDies_of_ne _ (by decide) hk)
    rw [exec_restart, execRestart, State.bootControl_restart _ hw]
    obtain ⟨hzero, hsame⟩ := SameMemoryBut.of_clear (s := s) (stackBase 0) bootRegionSize hmem he.imem_eq
    refine ⟨_, rfl, (hroom 1 (by decide)).trans hstate, (hroom 4 (by decide)).trans hcause, (hroom 2 (by decide)).trans hcode, himage, hring, ?_,
      hzero, hsame, SameRings.of_eff he, he.fuses_eq⟩
    intro d h0 hd
    have hd8 : d < 8 := hd.trans_le (by show s.part.dies ≤ 8; cases s.part <;> decide)
    obtain ⟨hcore, hshell⟩ := State.each_setTwo_of_mem s.restartEntered.dieList (fun d => if d = 0 then 2 else 1) (List.mem_range.2 hd)
      s.restartEntered
    rw [hreg _ _ (by omega) (by decide), hreg _ _ (by omega) (by decide)]
    rw [if_neg (by omega)] at hcore hshell
    exact ⟨hcore, hshell⟩
  · intro s h
    rw [exec_start, exec_restart, execStart_acts, execRestart]
    rcases h with hw | ⟨h2, hff⟩
    · rw [State.bootControl_closed _ _ hw, State.bootControl_closed _ _ hw]
      exact ⟨rfl, rfl⟩
    · have he : s.bootRestart = s := by unfold State.bootRestart; rw [if_neg h2, if_pos hff]
      simp [State.bootControl, he, h2]

end Sys2Proof.Machine
end

section
/-! O10. The end of AUTHENTICATING. -/
set_option Elab.async false
namespace Sys2Proof.Machine

/-! ### What the loading of an image leaves of the directory -/

/-- An entry that no refusal on the bus writes: not the refusal's registers (R247), nor a count of lost events. -/
def OffBus (j k : Nat) : Prop := k % 256 ≠ 0x12 ∧ entryKey 0x2300 4 ≠ entryKey j k ∧ entryKey 0x2300 5 ≠ entryKey j k ∧ entryKey 0x2300 6 ≠ entryKey j k

theorem State.liveAt_busRefused (s : State) (at' : BusAttr) (a : Nat) {j k : Nat} (h : OffBus j k) : (s.busRefused at' a).liveAt j k = s.liveAt j k := by
  obtain ⟨-, h4, h5, h6⟩ := h
  simp [State.busRefused, State.inc, State.count, State.liveAt_setLive, h4, h5, h6]

theorem State.liveAt_gateReported (s : State) (d : Nat) (b : ControlBlock) {j k : Nat} (h : OffBus j k) : (s.gateReported d b).liveAt j k = s.liveAt j k := by
  unfold State.gateReported
  split
  · exact State.liveAt_event _ _ _ _ _ _ _ _ _ _ h.1
  · rfl

theorem State.liveAt_busWrite (s : State) (at' : BusAttr) (a : Nat) (bs : List Byte) {j k : Nat} (h : OffBus j k) :
    (s.busWrite at' a bs).1.liveAt j k = s.liveAt j k := by
  unfold State.busWrite
  split
  · split <;> rfl
  · dsimp only
    split
    · rw [State.liveAt_gateReported _ _ _ h, State.liveAt_busRefused _ _ _ h]
    · exact State.liveAt_busRefused _ _ _ h
  · rfl

theorem State.liveAt_loadAt (s : State) (a : Nat) (bs : List Byte) (secure : Bool) {j k : Nat} (h : OffBus j k) :
    (s.loadAt a bs secure).liveAt j k = s.liveAt j k := by
  unfold State.loadAt
  dsimp only
  split
  · exact State.liveAt_busWrite s _ _ _ h
  · exact State.liveAt_busWrite s _ _ _ h

/-- Loading an image's sections writes no entry but those of a refusal, and leaves the boot's record. -/
theorem State.loadSections_keeps (xs : List Section) (img : List Byte) (s : State) :
    (∀ j k, OffBus j k → (xs.foldl (fun (t : State) x => t.loadSection img x) s).liveAt j k = s.liveAt j k) ∧
    (xs.foldl (fun (t : State) x => t.loadSection img x) s).boot = s.boot := by
  refine ⟨fun j k h => ?_, ?_⟩
  · induction xs generalizing s with
    | nil => rfl
    | cons x xs ih =>
      refine (ih _).trans ?_
      exact State.each_keeps (P := fun t => t.liveAt j k = s.liveAt j k) _ _ (fun t d ht => (State.liveAt_loadAt t _ _ _ h).trans ht) s rfl
  · exact (Eff.foldl (c := 17593329004672) (Eff.refl _ s) (fun t x ht => State.loadSection_eff t img x ht rfl)).boot_eq

/-! ### The links trained, the cause of lost links, and the members awaited -/

theorem State.reg_linksTrained (s : State) (links : List LinkReport) {j k : Nat} (hk : k % 256 ≠ 3) (hk' : k % 256 ≠ 4) :
    (s.linksTrained links).reg j k = s.reg j k := by
  have hset : ∀ (t : State) (d b v : Nat), k % 256 ≠ b → b < 256 → (t.setReg (0x2008 + d) b v).reg j k = t.reg j k := fun t d b v h hb =>
    State.reg_setReg_of_ne _ _ _ _ _ _ (by simp only [entryKey]; omega)
  unfold State.linksTrained State.showLinks State.installRoutes
  dsimp only
  refine (State.reg_congr rfl rfl rfl j k).trans ((State.reg_each _ _ j k (fun t d => hset t d 4 _ hk' (by decide)) _).trans ?_)
  exact (State.reg_congr rfl rfl rfl j k).trans (State.reg_each _ _ j k (fun t d => hset t d 3 _ hk (by decide)) s)

theorem State.liveAt_fabricCause (s : State) {j k : Nat} (h : Quiet j k) : s.fabricCause.liveAt j k = s.liveAt j k := by
  unfold State.fabricCause
  split
  · exact State.liveAt_cause s _ _ _ _ _ _ h
  · rfl

theorem State.liveAt_bootEnter (s : State) (st : Nat) {j k : Nat} (h1 : entryKey 0x2100 1 ≠ entryKey j k) (h2 : entryKey 0x2103 st ≠ entryKey j k) :
    (s.bootEnter st).liveAt j k = s.liveAt j k := by
  simp only [State.bootEnter, State.liveAt_useFree, State.setReg_eq, State.liveAt_setLive, h1, h2, if_false]

/-- DISTRIBUTING begins: the image's record, the reachable dies, and the members awaited, which are in RESET (R95, R97). -/
def State.distributionBegins (s : State) (img : List Byte) : State :=
  let ds := s.dieList.filter (fun d => s.reachedD0 d)
  let s2 := (s.recordImage img).fabricCause.bootEnter 4
  let wait := (ds.drop 1).filter (fun d => s2.reg (0x2008 + d) 2 ≠ 3)
  let s3 : State := { s2 with
    worlds := { s2.worlds with perm := [] }
    boot := { s2.boot with reachable := ds, awaitingReady := wait, readyDeadline := s2.now + ms 5 } }
  s3.each wait (fun t d => t.setReg (0x2008 + d) 2 1)

theorem execAuthenticationDone_passes {links : List LinkReport} {s : State} (hb : s.bootState = 3)
    (hi : s.imageCheck s.boot.latchedImage s.boot.latchedRing = none) (hr : (s.linksTrained links).reachedD0 1 = true) :
    execAuthenticationDone links s true = .next ((sectionsOf (s.bootBytes 0 s.boot.latchedImage)).foldl
      (fun (t : State) x => t.loadSection (s.bootBytes 0 s.boot.latchedImage) x)
      ((s.linksTrained links).distributionBegins (s.bootBytes 0 s.boot.latchedImage))) := by
  unfold execAuthenticationDone
  dsimp only
  rw [if_neg (not_not_intro hb), if_neg (by decide), hi]
  dsimp only
  rw [if_neg (by simp [hr])]
  rfl

theorem execAuthenticationDone_fails {links : List LinkReport} {s : State} {code : Nat} (hb : s.bootState = 3)
    (hi : s.imageCheck s.boot.latchedImage s.boot.latchedRing = some code) :
    execAuthenticationDone links s true = .next ((s.linksTrained links).bootHalt code false) := by
  unfold execAuthenticationDone
  dsimp only
  rw [if_neg (not_not_intro hb), if_neg (by decide), hi]

theorem execAuthenticationDone_split {links : List LinkReport} {s : State} (hb : s.bootState = 3)
    (hi : s.imageCheck s.boot.latchedImage s.boot.latchedRing = none) (hr : (s.linksTrained links).reachedD0 1 = false) :
    execAuthenticationDone links s true = .next ((s.linksTrained links).bootHalt 0x0301 true) := by
  unfold execAuthenticationDone
  dsimp only
  rw [if_neg (not_not_intro hb), if_neg (by decide), hi]
  dsimp only
  rw [if_pos (by simp [hr])]

theorem Part.dies_le (p : Part) : p.dies ≤ 8 := by cases p <;> decide

/-- Up to the members' reset the record of a member's Core stands as it was. -/
theorem State.coreState_recorded (s : State) (img : List Byte) {d : Nat} (hd : d < 8) :
    ((s.recordImage img).fabricCause.bootEnter 4).reg (0x2008 + d) 2 = s.reg (0x2008 + d) 2 := by
  rw [State.bootEnter_reg _ _ _ _ (by simp only [entryKey]; omega) (by simp only [entryKey]; omega)]
  rw [State.reg_of_liveAt (State.liveAt_fabricCause _ (by unfold Quiet; omega))]
  refine State.reg_of_liveAt ?_
  simp only [State.recordImage, State.setReg_eq, State.setRegBytes_eq, State.liveAt_setLive]
  rw [if_neg, if_neg, if_neg, if_neg, if_neg] <;> (simp only [entryKey]; omega)

/-- A register of each die of a list is set. -/
theorem State.reg_each_setReg (l : List Nat) (b k : Nat) (v : Nat → Nat) (d : Nat) (s : State) :
    (s.each l (fun t n => t.setReg (b + n) k (v n))).reg (b + d) k = if d ∈ l then v d else s.reg (b + d) k := by
  induction l generalizing s with
  | nil => simp [State.each]
  | cons n ns ih =>
    rw [State.each, ih]
    by_cases hn : n = d
    · subst hn
      rw [State.reg_setReg_self, if_pos (List.mem_cons_self ..), ite_self]
    · rw [State.reg_setReg_of_ne _ _ _ _ _ _ (by simp only [entryKey]; omega)]
      simp [Ne.symm hn]

theorem State.distributionBegins_eq (s : State) (img : List Byte) :
    let t := s.distributionBegins img
    t.bootState = 4 ∧ t.regBytes 0x2101 5 = Config.sha384 (signedPart img) ∧ t.boot.readyDeadline = s.now + ms 5 ∧
      t.boot.reachable = s.dieList.filter (fun d => s.reachedD0 d) ∧
      t.boot.awaitingReady = (t.boot.reachable.drop 1).filter (fun d => s.reg (0x2008 + d) 2 ≠ 3) ∧
      ∀ d, d ∈ t.boot.awaitingReady → t.reg (0x2008 + d) 2 = 1 := by
  have hlive : Eff 17593263202496 s ((s.recordImage img).fabricCause.bootEnter 4) :=
    State.bootEnter_eff _ 4 (State.fabricCause_eff _ (State.recordImage_eff s img (Eff.refl _ s) rfl) rfl) rfl
  unfold State.distributionBegins
  extract_lets ds s2 wait _ _ s3 t
  have hboot : t.boot = s3.boot :=
    (Eff.each (c := 128) (Eff.refl _ s3) (fun t n ht => State.setReg_eff _ _ _ _ ht rfl)).boot_eq
  have hkeep : ∀ j k, k % 256 ≠ 2 → t.liveAt j k = s2.liveAt j k := fun j k hk =>
    State.each_keeps (P := fun t => t.liveAt j k = s2.liveAt j k) _ _
      (fun t n ht => by rw [State.setReg_eq, State.liveAt_setLive, if_neg (by simp only [entryKey]; omega), ht]) s3 rfl
  have hwait : wait = (ds.drop 1).filter (fun d => s.reg (0x2008 + d) 2 ≠ 3) := by
    refine List.filter_congr (fun d hd => ?_)
    have hlt : d < s.dies := List.mem_range.1 (List.mem_of_mem_filter (List.mem_of_mem_drop hd))
    rw [s.coreState_recorded img (hlt.trans_le s.part.dies_le)]
  refine ⟨?_, ?_, ?_, ?_, ?_, ?_⟩
  · exact (State.reg_of_liveAt (hkeep 0x2100 1 (by decide))).trans (State.bootEnter_state _ _)
  · rw [State.regBytes, hkeep 0x2101 5 (by decide)]
    have hquiet : s2.liveAt 0x2101 5 = (s.recordImage img).liveAt 0x2101 5 :=
      (State.liveAt_bootEnter _ _ (by decide) (by decide)).trans (State.liveAt_fabricCause _ (by unfold Quiet; decide))
    rw [hquiet, State.recordImage, State.setRegBytes_eq, State.liveAt_setLive, if_pos rfl]
    rfl
  · rw [hboot]
    exact congrArg (· + ms 5) hlive.now_eq
  · rw [hboot]
  · rw [hboot]
    exact hwait
  · intro d hd
    rw [hboot] at hd
    exact (State.reg_each_setReg wait 0x2008 2 (fun _ => 1) d s3).trans (if_pos hd)

/-- Settles O10: the effect of the command gives its frame, and each outcome of the checks its state. -/
theorem authenticationEnds : Obligations.AuthenticationEnds := by
  refine ⟨?_, fun links ok s hb => if_pos hb⟩
  intro links ok s hb
  obtain ⟨t, ht, he⟩ := execAuthenticationDone_eff links s ok
  refine ⟨t, ht, SameRings.of_eff he, he.fuses_eq, ?_, ?_, ?_, ?_⟩
  · rintro rfl
    have hrom : execAuthenticationDone links s false = .next (s.bootHalt 0x0F01 true) := by simp [execAuthenticationDone, hb]
    obtain rfl := Host.Outcome.next.inj (hrom.symm.trans ht)
    exact ⟨(s.bootHalt_eq _ _).1, (s.bootHalt_eq _ _).2, s.bootHalt_svc _⟩
  · rintro code rfl hi
    obtain rfl := Host.Outcome.next.inj ((execAuthenticationDone_fails hb hi).symm.trans ht)
    refine ⟨(State.bootHalt_eq _ _ _).1, (State.bootHalt_eq _ _ _).2, ?_⟩
    rw [State.bootHalt_nosvc, (State.linksTrained_eff s links (Eff.refl 524416 s) rfl).pins_eq]
  · rintro rfl hi hr
    obtain rfl := Host.Outcome.next.inj ((execAuthenticationDone_passes hb hi hr).symm.trans ht)
    have hl := State.linksTrained_eff s links (Eff.refl 524416 s) rfl
    obtain ⟨hstate, hdigest, hdue, hreach, hwait, hreset⟩ :=
      (s.linksTrained links).distributionBegins_eq (s.bootBytes 0 s.boot.latchedImage)
    generalize (s.linksTrained links).distributionBegins (s.bootBytes 0 s.boot.latchedImage) = u at *
    obtain ⟨hlive, hboot⟩ := State.loadSections_keeps (sectionsOf (s.bootBytes 0 s.boot.latchedImage)) (s.bootBytes 0 s.boot.latchedImage) u
    have hsub : ∀ j k, k % 256 ≠ 0x12 → k % 256 < 4 → OffBus j k := fun j k h1 h2 => by unfold OffBus entryKey; omega
    rw [hboot]
    refine ⟨(State.reg_of_liveAt (hlive _ _ (hsub _ _ (by decide) (by decide)))).trans hstate, ?_, ?_, ?_, ?_, ?_⟩
    · rw [State.regBytes, hlive _ _ (by unfold OffBus entryKey; decide)]
      exact hdigest
    · rw [hdue, hl.now_eq]
    · rw [hreach]
      unfold State.dieList State.dies
      rw [hl.part_eq]
    · rw [hwait]
      refine List.filter_congr (fun d _ => ?_)
      rw [State.reg_linksTrained s links (by decide) (by decide)]
    · intro d hd
      exact (State.reg_of_liveAt (hlive _ _ (hsub _ _ (by decide) (by decide)))).trans (hreset d hd)
  · rintro rfl hi hr
    obtain rfl := Host.Outcome.next.inj ((execAuthenticationDone_split hb hi hr).symm.trans ht)
    exact ⟨(State.bootHalt_eq _ _ _).1, (State.bootHalt_eq _ _ _).2, State.bootHalt_svc _ _⟩

end Sys2Proof.Machine
end

section
/-! O11. A Core that fails where no queue is open, by which the statement about a failed Core is refuted. -/
set_option Elab.async false
namespace Sys2Proof.Machine

/-- A run over a list, with a property that every turn keeps and under which the turns agree. -/
theorem State.each_congr {P : State → Prop} {f g : State → Nat → State} (h : ∀ t n, P t → f t n = g t n ∧ P (g t n)) (l : List Nat) (s : State)
    (hs : P s) : s.each l f = s.each l g := by
  induction l generalizing s with
  | nil => rfl
  | cons n ns ih =>
    rw [State.each, State.each, (h s n hs).1]
    exact ih _ (h s n hs).2

theorem State.each_self (l : List Nat) (s : State) : s.each l (fun t _ => t) = s := by
  induction l with
  | nil => rfl
  | cons n ns ih => exact ih

/-- With no instance's page in use no queue is enabled, and none is stopped. -/
theorem State.stopTargeting_of_noPages {s : State} (h : s.insts = []) (type target status : Nat) : s.stopTargeting type target status = s := by
  refine (State.each_congr (P := fun t => t.insts = []) (g := fun t _ => t) (fun t n ht => ⟨?_, ht⟩) _ s h).trans (State.each_self _ s)
  have hq : t.sq (n / 16) (n % 16) = {} := by
    unfold State.sq State.inst
    rw [ht, Tab.getD_nil]
    rfl
  dsimp only
  rw [hq]
  exact if_neg (fun hc => by simp [Sq.enabled] at hc)

/-- What becomes of a die's contexts when its Core fails, without their queues. -/
def State.ctxsFaulted (s : State) (d : Nat) : State :=
  (s.each s.allCtxs (fun t c => t.modJob c (fun j =>
    if j.parts.any (fun p => p.die = d) then j.fail { status := Status.hwFault, reason := 5, dies := 2 ^ d, pass := j.index, offset := 0 } else j))).each
    ((List.range 16).map (16 * d + ·) ++ [0x80 + d]) (fun t c => (t.modCtx c (fun x => { x with wait := none })).setCtxState c 4)

theorem State.ctxsFaulted_frame (s : State) (d : Nat) : Eff 68719476864 s (s.ctxsFaulted d) := by
  refine Eff.each (Eff.each (Eff.refl _ s) ?_) ?_
  · intro t n ht
    exact State.modJob_eff _ _ _ ht rfl
  · intro t n ht
    exact State.setCtxState_eff _ _ _ (State.modCtx_eff _ _ _ ht rfl) rfl

theorem State.gfxCoreFailed_of_noPages {s : State} (d : Nat) (h : s.insts = []) (hr : (s.gdie d).running = none) :
    s.gfxCoreFailed d = s.ctxsFaulted d := by
  have hleave : s.gfxLeave d = s := by simp [State.gfxLeave, hr]
  unfold State.gfxCoreFailed State.ctxsFaulted
  dsimp only
  rw [hleave]
  refine State.each_congr (P := fun t => t.insts = []) (fun t c ht => ⟨State.stopTargeting_of_noPages ?_ _ _ _, ?_⟩) _ _ ?_
  · exact ht
  · exact ht
  · refine State.each_keeps (P := fun t => t.insts = []) _ _ ?_ s h
    exact fun t n ht => ht

theorem State.streamsCoreFailed_of_noPages {s : State} (d : Nat) (h : s.insts = []) (hs : s.streams = []) : s.streamsCoreFailed d = s := by
  have hrun : ∀ t : State, t.streams = [] → ∀ u, t.streamRun u = none := fun t ht u => by unfold State.streamRun; rw [ht]; rfl
  refine (State.each_congr (P := fun t => t.insts = [] ∧ t.streams = []) (g := fun t _ => t) (fun t u ht => ⟨?_, ht⟩) _ s ⟨h, hs⟩).trans
    (State.each_self _ s)
  dsimp only
  rw [hrun t ht.2 u]
  exact State.stopTargeting_of_noPages ht.1 _ _ _

/-- The failed Core's own registers. -/
def State.coreRecorded (s : State) (d c : Nat) : State :=
  (((s.setReg (0x2008 + d) 2 3).setReg (0x2708 + d) 1 c).setReg (0x2708 + d) 4 s.now).inc 0x2700 7

/-- A Core's failure before OPERATIONAL, with no queue, no stream entry and no secure entry, reported to a device that has asked for no
replacement yet. -/
theorem State.coreFailed_of_noPages {s : State} {d : Nat} (c : Nat) (h3 : s.reg (0x2008 + d) 2 ≠ 3) (hop : s.operational = false)
    (hi : s.insts = []) (hs : s.streams = []) (hr : (s.gdie d).running = none) (hw : s.worlds.entry = none) (hh : s.healthState ≠ 1) :
    s.coreFailed d c true = ((((s.coreRecorded d c).ctxsFaulted d).unservedBlocks d).degradeGroups d).cause c d 1 d := by
  have hf := (s.coreRecorded d c).ctxsFaulted_frame d
  have hg : (s.coreRecorded d c).gfxCoreFailed d = (s.coreRecorded d c).ctxsFaulted d := State.gfxCoreFailed_of_noPages d hi hr
  have hst : ((s.coreRecorded d c).ctxsFaulted d).streamsCoreFailed d = (s.coreRecorded d c).ctxsFaulted d :=
    State.streamsCoreFailed_of_noPages d (hf.insts_eq.trans hi) (hf.streams_eq.trans hs)
  have hentry : ((((s.coreRecorded d c).ctxsFaulted d).unservedBlocks d).degradeGroups d).worlds.entry = none := by
    have he := State.degradeGroups_eff _ d (State.unservedBlocks_eff ((s.coreRecorded d c).ctxsFaulted d) d (Eff.refl 22273165680768 _) rfl) rfl
    rw [he.worlds_eq, hf.worlds_eq]
    exact hw
  unfold State.coreFailed
  rw [if_neg h3]
  unfold State.coreRecorded at *
  dsimp only
  rw [hg, hst]
  rw [hentry, hop]
  simp [State.emcyLost, hh]

/-- A UX-3804 after reset. -/
def smallReset : State := { State.reset with part := .ux3804 }

/-- The failure of a Core numbered 0x6F8, whose state would stand in the word of health causes (0x2700.02): after the cause CORE_WATCHDOG (2)
the word reads 3 + 2 ^ 2. -/
theorem smallReset_coreFailed : (smallReset.coreFailed 0x6F8 2 true).reg (0x2008 + 0x6F8) 2 = 7 := by
  rw [State.coreFailed_of_noPages (s := smallReset) 2 (by decide) (by decide) rfl rfl rfl rfl (by decide)]
  decide +kernel

/-- Refutes O11: its clause on a failed Core speaks of every die number. No die of a part has the number 0x6F8, but there the record of the
Core's state (0x2008 + 0x6F8 = 0x2700, sub 2) is the word of health causes, in which the failure's own cause sets a bit. -/
theorem not_membersJoin : ¬ Obligations.MembersJoin := by
  intro h
  obtain ⟨-, -, hfails, -⟩ := h
  have hcore := (hfails smallReset 0x6F8 2 true (by decide) (by decide)).1
  rw [smallReset_coreFailed] at hcore
  exact absurd hcore (by decide)

end Sys2Proof.Machine
end

section
/-! O12. The boot's self-test slots, and the die that holds the trunk role after them. -/
set_option Elab.async false
namespace Sys2Proof.Machine

/-! ### A slot's record and its memory -/

theorem State.slotRecord_regs (s : State) (d : Nat) (r : SlotResult) :
    (s.slotRecord d r).reg (0x2718 + d) 2 = r.failed % 4096 ∧ (s.slotRecord d r).reg (0x2718 + d) 3 = s.now ∧
    (s.slotRecord d r).reg (0x2718 + d) 1 = (if r.failed % 1024 = 0 then Status.ok else Status.hwFault) := by
  have hne : ∀ (t : State) (a b v : Nat), a < 256 → b < 256 → a ≠ b → (t.setReg (0x2718 + d) a v).reg (0x2718 + d) b = t.reg (0x2718 + d) b :=
    fun t a b v ha hb hab => State.reg_setReg_of_ne _ _ _ _ _ _ (by simp only [entryKey]; omega)
  unfold State.slotRecord
  refine ⟨?_, ?_, ?_⟩
  · rw [hne _ 6 2 _ (by decide) (by decide) (by decide), hne _ 4 2 _ (by decide) (by decide) (by decide),
      hne _ 3 2 _ (by decide) (by decide) (by decide), State.reg_setReg_self]
  · rw [hne _ 6 3 _ (by decide) (by decide) (by decide), hne _ 4 3 _ (by decide) (by decide) (by decide), State.reg_setReg_self]
  · rw [hne _ 6 1 _ (by decide) (by decide) (by decide), hne _ 4 1 _ (by decide) (by decide) (by decide),
      hne _ 3 1 _ (by decide) (by decide) (by decide), hne _ 2 1 _ (by decide) (by decide) (by decide), State.reg_setReg_self]
    rfl

/-- Training a stack, or testing it, overwrites its top 1 MiB alone. -/
theorem State.read_stackTop (s : State) (d a : Nat) (h : a < stackBase d + 0x7FF00000 ∨ stackBase d + 0x80000000 ≤ a) :
    Memory.read (s.stackTop d).mem a = Memory.read s.mem a := by
  refine (Memory.read_writeBytes _ _ _ _).trans (if_neg ?_)
  have := List.length_take_le 0x100000 (Config.freeBytes s.free)
  omega

theorem State.read_slotMemory (s : State) (d a : Nat) (h : a < sramBase d ∨ sramBase d + 0x80000 ≤ a)
    (h' : a < stackBase d + 0x7FF00000 ∨ stackBase d + 0x80000000 ≤ a) : Memory.read (s.slotMemory d).mem a = Memory.read s.mem a := by
  unfold State.slotMemory
  rw [State.read_stackTop _ _ _ h']
  refine (Memory.read_writeBytes _ _ _ _).trans (if_neg ?_)
  have := List.length_take_le 0x80000 (Config.freeBytes s.free)
  omega

/-! ### The order of the slots -/

/-- The members' slots come in ascending order before D0's. -/
theorem State.nextSlot_spec {s : State} {d : Nat} (h : s.nextSlot = some d) :
    d ∉ s.boot.slotsDone ∧ (d = 0 ∨ s.shellUp d = true) ∧
    (d = 0 → ∀ e, 0 < e → e < s.dies → s.shellUp e = true → e ∈ s.boot.slotsDone) ∧
    (d ≠ 0 → ∀ e, 0 < e → e < d → s.shellUp e = true → e ∈ s.boot.slotsDone) := by
  unfold State.nextSlot State.dieList at h
  rw [List.range_eq_range', List.drop_range', List.find?_append, Option.or_eq_some_iff] at h
  have hopen : ∀ e, (!(!s.boot.slotsDone.contains e && (decide (e = 0) || s.shellUp e))) = true → s.shellUp e = true → e ∈ s.boot.slotsDone := by
    intro e he hup
    simpa [hup] using he
  rcases h with h | ⟨hnone, h⟩
  · obtain ⟨hp, hmem, hbefore⟩ := List.find?_range'_eq_some.1 h
    rw [List.mem_range'_1] at hmem
    simp only [Bool.and_eq_true, Bool.or_eq_true, decide_eq_true_eq, Bool.not_eq_true', List.contains_eq_mem, decide_eq_false_iff_not] at hp
    refine ⟨hp.1, hp.2, fun h0 => by omega, fun _ e he0 hed hup => hopen e (hbefore e (by omega) hed) hup⟩
  · obtain ⟨hp, rfl⟩ : (!s.boot.slotsDone.contains 0 && (decide ((0 : Nat) = 0) || s.shellUp 0)) = true ∧ 0 = d := by
      simpa [List.find?_singleton] using h
    refine ⟨by simpa using hp, .inl rfl, fun _ e he0 hed hup => ?_, fun h0 => absurd rfl h0⟩
    have hfail := List.find?_eq_none.1 hnone e (List.mem_range'_1.2 (by omega))
    exact hopen e (by rw [Bool.not_eq_true', ← Bool.not_eq_true]; exact hfail) hup

/-! ### The trunk -/

/-- What the marking of the dies' SRAM shows. -/
theorem State.liveAt_markSram (s : State) {j k : Nat} (h1 : k % 256 ≠ 1) (h2 : k % 256 ≠ 2) : s.markSram.liveAt j k = s.liveAt j k := by
  unfold State.markSram State.secureUse
  refine State.each_keeps (P := fun t => t.liveAt j k = s.liveAt j k) _ _ (fun t d ht => ?_) _ ?_
  · rw [State.setReg_eq, State.setReg_eq, State.liveAt_setLive, if_neg (by simp only [entryKey]; omega), State.liveAt_setLive,
      if_neg (by simp only [entryKey]; omega), ht]
  · refine State.each_keeps (P := fun t => t.liveAt j k = s.liveAt j k) _ _ ?_ s rfl
    exact fun t d ht => ht

theorem State.reg_setTrunk (s : State) (t : Nat) {j k : Nat} (h1 : k % 256 ≠ 1) (h2 : k % 256 ≠ 2) (h : entryKey 0x2000 4 ≠ entryKey j k) :
    (s.setTrunk t).reg j k = s.reg j k := by
  unfold State.setTrunk
  rw [State.reg_of_liveAt (State.liveAt_markSram _ h1 h2), State.reg_setReg_of_ne _ _ _ _ _ _ h]
  exact State.reg_each _ _ _ _ (fun u d => State.reg_setReg_of_ne _ _ _ _ _ _ (by simp only [entryKey]; omega)) s

theorem State.trunk_setTrunk (s : State) (t : Nat) : (s.setTrunk t).trunk = t := by
  unfold State.setTrunk State.trunk
  rw [State.reg_of_liveAt (State.liveAt_markSram _ (by decide) (by decide)), State.reg_setReg_self]

theorem State.shellUp_setTrunk (s : State) (t d : Nat) : (s.setTrunk t).shellUp d = s.shellUp d := by
  unfold State.shellUp
  rw [State.reg_setTrunk s t (by decide) (by decide) (by simp only [entryKey]; omega)]

theorem State.slotsEnd_noTrunk {s : State} (h0 : s.coreActive 0 = false) (h1 : s.coreActive 1 = false) : s.slotsEnd = s.bootHalt 0x0401 true := by
  unfold State.slotsEnd
  rw [if_pos (by simp [h0, h1])]

/-- The end of the slots by the die t that takes the trunk role: D0 where its Core is ACTIVE, else D1. -/
theorem State.slotsEnd_trunk {s : State} {t : Nat} (h : s.coreActive 0 = true ∧ t = 0 ∨ s.coreActive 0 = false ∧ s.coreActive 1 = true ∧ t = 1) :
    s.slotsEnd = if s.shellUp 0 = true ∧ s.shellUp t = true
      then (if t = 1 then (s.setTrunk t).setReg 0x2700 6 (s.setTrunk t).now else s.setTrunk t).bootEnter 6
      else (s.setTrunk t).bootHalt 0x0402 true := by
  have ht : (if s.coreActive 0 = true then 0 else 1) = t := by
    rcases h with ⟨h0, rfl⟩ | ⟨h0, -, rfl⟩ <;> simp [h0]
  unfold State.slotsEnd
  rw [if_neg (by rcases h with ⟨h0, -⟩ | ⟨-, h1, -⟩ <;> simp [*])]
  simp only [State.shellUp_setTrunk, ht]
  by_cases hs : s.shellUp 0 = true ∧ s.shellUp t = true
  · rw [if_pos hs, if_neg (by simp [hs])]
  · rw [if_neg hs, if_pos (by simpa [imp_iff_not_or] using hs)]

/-- Settles O12. -/
theorem bootSlots : Obligations.BootSlots := by
  refine ⟨?_, ?_, State.slotRecord_regs, fun s d a => State.read_slotMemory s d a, fun s d => State.nextSlot_spec, ?_, ?_, ?_, ?_⟩
  · intro die r s hb hn
    simp only [exec_bootSlotDone]
    exact ⟨by simp [execBootSlotDone, hb, hn], by simp [execBootSlotDone, hb, hn]⟩
  · intro die r ok s h
    exact if_pos h
  · intro s h0 h1
    rw [State.slotsEnd_noTrunk h0 h1]
    exact ⟨(s.bootHalt_eq _ _).1, (s.bootHalt_eq _ _).2, s.bootHalt_svc _⟩
  · intro s h0 hs
    rw [State.slotsEnd_trunk (.inl ⟨h0, rfl⟩), if_pos ⟨hs, hs⟩, if_neg (by decide)]
    refine ⟨State.bootEnter_state _ _, ?_⟩
    rw [State.trunk, State.bootEnter_reg _ _ _ _ (by decide) (by decide)]
    exact s.trunk_setTrunk 0
  · intro s h0 h1 hs hs'
    rw [State.slotsEnd_trunk (.inr ⟨h0, h1, rfl⟩), if_pos ⟨hs, hs'⟩, if_pos rfl]
    refine ⟨State.bootEnter_state _ _, ?_, ?_⟩
    · rw [State.trunk, State.bootEnter_reg _ _ _ _ (by decide) (by decide), State.reg_setReg_of_ne _ _ _ _ _ _ (by decide)]
      exact s.trunk_setTrunk 1
    · rw [State.bootEnter_reg _ _ _ _ (by decide) (by decide), State.reg_setReg_self]
      exact (State.setTrunk_eff s 1 (Eff.refl 67108992 s) rfl).now_eq
  · intro s h
    have hlost : ∃ t, s.slotsEnd = (s.setTrunk t).bootHalt 0x0402 true := by
      rcases h with ⟨h0, hs⟩ | ⟨h0, h1, hs⟩
      · exact ⟨0, by rw [State.slotsEnd_trunk (.inl ⟨h0, rfl⟩), if_neg (by simp [hs])]⟩
      · exact ⟨1, by rw [State.slotsEnd_trunk (.inr ⟨h0, h1, rfl⟩), if_neg (by rcases hs with hs | hs <;> simp [hs])]⟩
    obtain ⟨t, ht⟩ := hlost
    rw [ht]
    exact ⟨(State.bootHalt_eq _ _ _).1, (State.bootHalt_eq _ _ _).2, State.bootHalt_svc _ _⟩

end Sys2Proof.Machine
end

section
/-! PROOF of the boot objects (R103, R104, R106, R108, R110). -/
set_option Elab.async false
namespace Sys2Proof.Machine

/-! ### The recovery objects -/

/-- The recovery objects are refused outside AWAIT_IMAGE on the ROM's server, so a write of one that is admitted comes there. -/
theorem State.recovery_of_admits {s : State} {req : Requester} {idx sub : Nat} {data : List Byte} {f : Found}
    (hf : lookup s.part idx sub = some f) (hb : 0x2104 ≤ f.obj.base ∧ f.obj.base ≤ 0x2106) (h : s.admits req idx sub data = true) :
    s.mcan.serving = true ∧ s.bootState = 2 := by
  by_contra hn
  have hshut : s.recoveryShut f = true := by
    rw [State.recoveryShut, decide_eq_true hb]
    cases hs : s.mcan.serving <;> simp_all
  have hc : s.checkWrite req idx sub data = Status.deniedAccess := by simp [State.checkWrite, hf, hshut]
  simp only [State.admits, Bool.and_eq_true, decide_eq_true_eq, State.writeStatus, hc] at h
  obtain ⟨⟨⟨-, hst⟩, -⟩, -⟩ := h
  simp [Status.deniedAccess, Status.ok, Status.range] at hst

/-- Waking a domain counts in the two registers of its die that count it, and in no other. -/
theorem State.liveAt_wakeDomain (s : State) (d : Nat) (m : Domain) (idle : Bool) (i k : Nat) (hk : k < 256 ∧ k ≠ 9 ∧ k ≠ 10) :
    (s.wakeDomain d m idle).liveAt i k = s.liveAt i k := by
  obtain ⟨hlt, h9, h10⟩ := hk
  unfold State.wakeDomain
  split
  · rfl
  · dsimp only
    rw [State.liveAt_useFree]
    unfold State.raise State.inc State.count
    rw [State.setReg_eq, State.setReg_eq, State.liveAt_setLive, if_neg (by simp only [entryKey]; omega), State.liveAt_setLive,
      if_neg (by simp only [entryKey]; omega)]
    rfl

theorem State.liveAt_demandWake (s : State) (d i k : Nat) (hk : k < 256 ∧ k ≠ 9 ∧ k ≠ 10) : (s.demandWake d).liveAt i k = s.liveAt i k := by
  unfold State.demandWake
  dsimp only
  split_ifs <;> simp only [State.liveAt_wakeDomain _ _ _ _ _ _ hk]

theorem State.reg_demandWake (s : State) (d i k : Nat) (hk : k < 256 ∧ k ≠ 9 ∧ k ≠ 10) : (s.demandWake d).reg i k = s.reg i k :=
  State.reg_of_liveAt (State.liveAt_demandWake s d i k hk)

theorem State.admitted_mcan (s : State) (idx sub : Nat) (data : List Byte) :
    (s.admitted .mcan idx sub data).mcan = s.mcan ∧ (s.admitted .mcan idx sub data).bootState = s.bootState :=
  ⟨(State.demandWake_eff s (s.dieOf idx) (Eff.refl 134217920 s) rfl).mcan_eq, State.reg_demandWake s _ _ _ (by decide)⟩

/-- An admitted write of a recovery object is the ROM's. -/
theorem State.submit_recovery (s : State) (idx : Nat) (data : List Byte) (f : Found) (hi : 0x2104 ≤ idx ∧ idx ≤ 0x2106)
    (hf : lookup s.part idx 0 = some f) (hb : f.obj.base = idx) (hk : f.row.kind = .live)
    (hd : (f.row'.decode data).toBytes = data) (h : s.admits .mcan idx 0 data = true) :
    s.submit .mcan (.write idx 0 data) =
      ((s.admitted .mcan idx 0 data).recoveryWrite idx data).2.concluded .mcan idx 0 data
        ((s.admitted .mcan idx 0 data).recoveryWrite idx data).1 := by
  refine State.submit_live s .mcan idx 0 data f (by omega) h hf (by omega) hk _ ?_
  unfold State.liveWrite
  rw [if_pos (by omega)]
  generalize s.admitted .mcan idx 0 data = u
  obtain rfl | rfl | rfl : idx = 0x2104 ∨ idx = 0x2105 ∨ idx = 0x2106 := by omega
  all_goals simp [State.deviceWrite, hb, hd]

theorem State.recoveryWrite_open {u : State} (idx : Nat) (data : List Byte) (h : u.mcan.serving = true ∧ u.bootState = 2) :
    u.recoveryWrite idx data =
      (let s1 := u.finishClear
       if idx = 0x2104 then
         (Status.ok, { s1 with mem := s1.mem.writeBytes (stackBase 0) data, boot := { s1.boot with imageLength := data.length } })
       else if idx = 0x2105 then
         (Status.ok, { s1 with mem := s1.mem.writeBytes (stackBase 0 + ringOffset) data, boot := { s1.boot with ringLength := data.length } })
       else (Status.ok, s1.bootStart)) := by
  unfold State.recoveryWrite
  rw [if_neg (by simp [h.1, h.2])]

theorem State.bootStart_finishClear (s : State) : s.finishClear.bootStart = s.bootStart := by
  have h : s.finishClear.finishClear = s.finishClear := by
    by_cases hc : s.boot.clearing <;> simp [State.finishClear, hc]
  simp only [State.bootStart, h]

theorem State.recovery_admitted {s : State} {idx : Nat} {data : List Byte} {f : Found} (hf : lookup s.part idx 0 = some f)
    (hb : f.obj.base = idx) (hi : 0x2104 ≤ idx ∧ idx ≤ 0x2106) (h : s.admits .mcan idx 0 data = true) :
    (s.admitted .mcan idx 0 data).mcan.serving = true ∧ (s.admitted .mcan idx 0 data).bootState = 2 := by
  have hopen := State.recovery_of_admits hf (hb ▸ hi) h
  obtain ⟨hm, hbt⟩ := State.admitted_mcan s idx 0 data
  exact ⟨by rw [hm]; exact hopen.1, by rw [hbt]; exact hopen.2⟩

theorem recoveryImageWrite_admits (data : List Byte) (s : State) (h : s.admits .mcan 0x2104 0 data = true) :
    exec (.recoveryImageWrite data) s = .next (State.concluded { (s.admitted .mcan 0x2104 0 data).finishClear with
      mem := (s.admitted .mcan 0x2104 0 data).finishClear.mem.writeBytes (stackBase 0) data
      boot := { (s.admitted .mcan 0x2104 0 data).finishClear.boot with imageLength := data.length } } .mcan 0x2104 0 data Status.ok) := by
  obtain ⟨f, hf, hb, hk, hd⟩ : ∃ f, (∀ p, lookup p 0x2104 0 = some f) ∧ f.obj.base = 0x2104 ∧ f.row.kind = .live ∧
      ∀ bs, (f.row'.decode bs).toBytes = bs := ⟨(lookup .ux3816 0x2104 0).get rfl, fun p => by cases p <;> rfl, rfl, rfl, fun _ => rfl⟩
  have hopen := State.recovery_admitted (hf _) hb (by decide) h
  simp only [exec_recoveryImageWrite, execRecoveryImageWrite]
  rw [State.submit_recovery s 0x2104 data f (by decide) (hf _) hb hk (hd _) h, State.recoveryWrite_open _ _ hopen]
  rfl

theorem recoveryRingWrite_admits (data : List Byte) (s : State) (h : s.admits .mcan 0x2105 0 data = true) :
    exec (.recoveryRingWrite data) s = .next (State.concluded { (s.admitted .mcan 0x2105 0 data).finishClear with
      mem := (s.admitted .mcan 0x2105 0 data).finishClear.mem.writeBytes (stackBase 0 + ringOffset) data
      boot := { (s.admitted .mcan 0x2105 0 data).finishClear.boot with ringLength := data.length } } .mcan 0x2105 0 data Status.ok) := by
  obtain ⟨f, hf, hb, hk, hd⟩ : ∃ f, (∀ p, lookup p 0x2105 0 = some f) ∧ f.obj.base = 0x2105 ∧ f.row.kind = .live ∧
      ∀ bs, (f.row'.decode bs).toBytes = bs := ⟨(lookup .ux3816 0x2105 0).get rfl, fun p => by cases p <;> rfl, rfl, rfl, fun _ => rfl⟩
  have hopen := State.recovery_admitted (hf _) hb (by decide) h
  simp only [exec_recoveryRingWrite, execRecoveryRingWrite]
  rw [State.submit_recovery s 0x2105 data f (by decide) (hf _) hb hk (hd _) h, State.recoveryWrite_open _ _ hopen]
  rfl

theorem recoveryStart_admits (s : State) (h : s.admits .mcan 0x2106 0 (leBytes 1 1) = true) :
    exec (.recoveryStart 1) s =
      .next ((s.admitted .mcan 0x2106 0 (leBytes 1 1)).bootStart.concluded .mcan 0x2106 0 (leBytes 1 1) Status.ok) := by
  obtain ⟨f, hf, hb, hk, hn, hd⟩ : ∃ f, (∀ p, lookup p 0x2106 0 = some f) ∧ f.obj.base = 0x2106 ∧ f.row.kind = .live ∧ f.row.ty.size = 1 ∧
      ∀ bs, f.row'.decode bs = .num (leNat bs) := ⟨(lookup .ux3816 0x2106 0).get rfl, fun p => by cases p <;> rfl, rfl, rfl, rfl, fun _ => rfl⟩
  have hopen := State.recovery_admitted (hf _) hb (by decide) h
  simp only [exec_recoveryStart, execRecoveryStart]
  rw [State.submit_num s .mcan 0x2106 0 1 1 f (by decide) (hf _) hn h (by rw [hb]; decide) hk hd (by decide)
    ((s.admitted .mcan 0x2106 0 (leBytes 1 1)).recoveryWrite 0x2106 (Val.num 1).toBytes) ?_, State.recoveryWrite_open _ _ hopen]
  · dsimp only
    rw [if_neg (by decide), if_neg (by decide), State.bootStart_finishClear]
  · generalize s.admitted .mcan 0x2106 0 (leBytes 1 1) = u
    unfold State.liveWrite
    rw [if_pos (by decide)]
    simp [State.deviceWrite, hb]

theorem State.recovery_refused (req : Requester) (idx : Nat) (data : List Byte) (v : View) (s : State) (hi : 0x2104 ≤ idx ∧ idx ≤ 0x2106)
    (h : s.mcan.serving = false ∨ s.bootState ≠ 2) :
    s.checkWrite req idx 0 data = Status.deniedAccess ∧ s.checkRead req idx 0 v = Status.deniedAccess := by
  obtain ⟨f, hf, hb⟩ : ∃ f, lookup s.part idx 0 = some f ∧ f.obj.base = idx := by
    obtain rfl | rfl | rfl : idx = 0x2104 ∨ idx = 0x2105 ∨ idx = 0x2106 := by omega
    all_goals exact ⟨_, by cases s.part <;> rfl, rfl⟩
  have hshut : s.recoveryShut f = true := by
    rw [State.recoveryShut, hb, decide_eq_true hi]
    rcases h with h | h <;> simp [h]
  simp [State.checkWrite, State.checkRead, hf, hshut]

/-! ### Values out of range -/

theorem length_leBytes (n v : Nat) : (leBytes n v).length = n := by
  induction n generalizing v with
  | zero => rfl
  | succ n ih => simp [leBytes, ih]

/-- A WRITE of a value out of its entry's range is turned away, where the entry is one a requester may write. -/
theorem State.submitNumber_turnedAway {s : State} {req : Requester} {idx sub v n : Nat} {f : Found} (hi : idx ≠ 0x1F12)
    (hf : lookup s.part idx sub = some f) (hn : f.row.ty.size = n) (hl : n ≤ 8176) (h : s.reaches req idx sub (leBytes n v) = true)
    (hshut : s.recoveryShut f = false) (hsec : s.secureOnly req f = false) (hacc : accessOk f.row' true = true)
    (hlen : s.lengthFits idx f n = true) (hval : f.valueOk s.part s.grade (leBytes n v) = false) :
    s.submitNumber req idx sub v = s.turnedAway req idx sub (leBytes n v) := by
  have e : s.valueBytes idx sub v = leBytes n v := by simp [State.valueBytes, hf, hn]
  have hr := h
  simp only [State.reaches, hf, Bool.and_eq_true] at hr
  obtain ⟨-, hw, hrights⟩ := hr
  have hc : s.checkWrite req idx sub (leBytes n v) = Status.range := by
    simp [State.checkWrite, length_leBytes, hf, hshut, hw, hsec, hrights, hacc, hlen, hval]
  unfold State.submitNumber
  rw [e]
  exact State.submit_turnedAway hi h (by simp [State.writeStatus, hc, mailboxTooLong_of_le req (show (leBytes n v).length ≤ 8176 by rwa [length_leBytes])])

@[simp] theorem decode_u8 (lo hi : Nat) (name : String) (acc : Acc) (kind : Kind) (dflt : Dflt) (rng : Rng) (cap : Nat) (bs : List Byte) :
    (⟨lo, hi, name, .u8, acc, kind, dflt, rng, cap⟩ : SubEntry).decode bs = .num (leNat bs) := rfl

theorem deviceReset_turnedAway (req : Requester) (v : Nat) (s : State) (hv : v < 256) (hne : v ≠ 0xA5)
    (h : s.reaches req 0x2100 7 (leBytes 1 v) = true) : exec (.deviceReset req v) s = .next (s.turnedAway req 0x2100 7 (leBytes 1 v)) := by
  obtain ⟨f, hf, hb, hn, hacc, hlen, hrow⟩ : ∃ f, (∀ p, lookup p 0x2100 7 = some f) ∧ f.obj.base = 0x2100 ∧ f.row.ty.size = 1 ∧
      accessOk f.row' true = true ∧ s.lengthFits 0x2100 f 1 = true ∧
      f.row' = ⟨7, 7, "reset", .u8, .wo, .live, .blank, .only [165], 0⟩ :=
    ⟨(lookup .ux3816 0x2100 7).get rfl, fun p => by cases p <;> rfl, rfl, rfl, rfl, rfl, rfl⟩
  simp only [exec_deviceReset, execDeviceReset]
  rw [State.submitNumber_turnedAway (by decide) (hf _) hn (by decide) h (by simp [State.recoveryShut, hb]) (by simp [State.secureOnly, hb]) hacc
    hlen ?_]
  have hx : (v : Int) ≠ 165 := by omega
  simp [Found.valueOk, SubEntry.valueOk, SubEntry.inRange, hrow, hb, decode_u8, Val.toInt, leNat_leBytes 1 v hv, hx]

theorem revokeKey_turnedAway (req : Requester) (n : Nat) (s : State) (hlow : 3 < n) (hn : n < 256)
    (h : s.reaches req 0x2102 4 (leBytes 1 n) = true) : exec (.revokeKey req n) s = .next (s.turnedAway req 0x2102 4 (leBytes 1 n)) := by
  obtain ⟨f, hf, hb, hs, hacc, hlen, hrow⟩ : ∃ f, (∀ p, lookup p 0x2102 4 = some f) ∧ f.obj.base = 0x2102 ∧ f.row.ty.size = 1 ∧
      accessOk f.row' true = true ∧ s.lengthFits 0x2102 f 1 = true ∧
      f.row' = ⟨4, 4, "revoke_key", .u8, .rws, .live, .blank, .span 0 3, 0⟩ :=
    ⟨(lookup .ux3816 0x2102 4).get rfl, fun p => by cases p <;> rfl, rfl, rfl, rfl, rfl, rfl⟩
  simp only [exec_revokeKey, execRevokeKey]
  rw [State.submitNumber_turnedAway (by decide) (hf _) hs (by decide) h (by simp [State.recoveryShut, hb]) (by simp [State.secureOnly, hb]) hacc
    hlen ?_]
  have hx : ¬ (n : Int) ≤ 3 := by omega
  simp [Found.valueOk, SubEntry.valueOk, SubEntry.inRange, hrow, hb, decode_u8, Val.toInt, leNat_leBytes 1 n hn, hx]

theorem State.checkWrite_secureFuses (req : Requester) (sub : Nat) (data : List Byte) (s : State) (h : worldOf req = .normal)
    (hsub : sub = 2 ∨ sub = 4) : s.checkWrite req 0x2102 sub data = Status.deniedWorld := by
  obtain ⟨f, hf, hb, hacc⟩ : ∃ f, lookup s.part 0x2102 sub = some f ∧ f.obj.base = 0x2102 ∧ f.row'.acc = .rws := by
    rcases hsub with rfl | rfl
    all_goals exact ⟨_, by cases s.part <;> rfl, rfl, rfl⟩
  simp [State.checkWrite, hf, State.recoveryShut, hb, worldOk, hacc, h]

/-! ### The obligation -/

/-- Settles O14: an admitted write is its entry's handler, on the recovery objects the ROM's server's in AWAIT_IMAGE; a value out of range is turned
away by the checks. -/
theorem bootObjects : Obligations.BootObjects := by
  unfold Obligations.BootObjects
  refine ⟨?_, ?_, ?_, fun req idx data v s hlo hhi h => State.recovery_refused req idx data v s ⟨hlo, hhi⟩ h, ?_, deviceReset_turnedAway, ?_, ?_,
    revokeKey_turnedAway, fun req data s h => ⟨State.checkWrite_secureFuses req 2 data s h (.inl rfl), State.checkWrite_secureFuses req 4 data s h (.inr rfl)⟩⟩
  · rintro data s u h rfl
    exact recoveryImageWrite_admits data s h
  · rintro data s u h rfl
    exact recoveryRingWrite_admits data s h
  · rintro s u h rfl
    exact recoveryStart_admits s h
  · intro req s h
    simp [deviceReset_admits req 0xA5 s (by decide) h, State.deviceResetWrite]
  · rintro req v s u hv h rfl
    refine ⟨fun hlt hle => ?_, fun hr => ?_⟩
    · rw [svAdvance_admits req v s hv h, State.svAdvanceWrite, if_neg (by omega)]
    · rw [svAdvance_admits req v s hv h, State.svAdvanceWrite, if_pos hr]
  · rintro req n s u hn h rfl
    refine ⟨fun hle hne => ?_, fun he => ?_⟩
    · rw [revokeKey_admits req n s hn h, State.revokeKeyWrite, if_neg (by omega)]
    · rw [revokeKey_admits req n s hn h, State.revokeKeyWrite, if_pos (.inr he)]

end Sys2Proof.Machine
end

section
/-! PROOF of the fabric's links and routes (R22, R23, R24). -/
set_option Elab.async false
namespace Sys2Proof.Machine

/-! ### What a declared link-down shows -/

theorem State.linkCode_countRetries (s : State) (ds : List Nat) (k : Nat) : (s.countRetries ds).linkCode k = s.linkCode k := by
  unfold State.countRetries
  refine State.each_keeps (P := fun t => t.linkCode k = s.linkCode k) _ _ ?_ s rfl
  exact fun t d ht => ht

theorem State.linkCode_showLinks (s : State) (k : Nat) : s.showLinks.linkCode k = s.linkCode k := by
  unfold State.showLinks State.installRoutes
  refine State.each_keeps (P := fun t => t.linkCode k = s.linkCode k) _ _ ?_ s rfl
  exact fun t d ht => ht

/-! ### Routes -/

/-- A route's first die is joined to its start, one hop nearer its end, and first in the order of preference among such dies. -/
theorem State.nextHop_spec {s : State} {a b d : Nat} (h : s.nextHop a b = some d) :
    s.joined a d = true ∧ (∃ n, s.hops a b = some (n + 1) ∧ s.hops d b = some n) ∧
    ∀ c, s.part.cross a = some c → s.joined a c = true → (s.hops c b).map (· + 1) = s.hops a b → d = c := by
  unfold State.nextHop at h
  cases hn : s.hops a b with
  | none => simp [hn] at h
  | some n =>
    simp only [hn] at h
    split_ifs at h with h0
    have hgood := List.find?_some h
    simp only [Bool.and_eq_true, decide_eq_true_eq] at hgood
    obtain ⟨hj, hh⟩ := hgood
    refine ⟨hj, ?_, fun c hc hjc hhc => ?_⟩
    · cases hd : s.hops d b with
      | none => simp [hd] at hh
      | some m =>
        simp only [hd, Option.map_some, Option.some.injEq] at hh
        exact ⟨m, by rw [hh], rfl⟩
    · rw [hc] at h
      simp only [Option.toList_some, List.cons_append, List.find?_cons, hjc, hhc, decide_true, Bool.and_self] at h
      exact (Option.some.inj h).symm

/-- One entry of the route table, as installing puts it. -/
def State.putRoute (s : State) (t : Tab Nat) (p : Nat × Nat) : Tab Nat :=
  match s.nextHop p.1 p.2 with
  | none => t
  | some d => Tab.put t (16 * p.1 + p.2) d

/-- A route stays, or is put, in the table that takes the routes of a list of pairs. -/
theorem State.getD_foldl_putRoute {s : State} {a b d : Nat} (hb : b < 16) (h : s.nextHop a b = some d) (l : List (Nat × Nat))
    (hl : ∀ p ∈ l, p.2 < 16) (t : Tab Nat) (ht : Tab.getD t (16 * a + b) 99 = d ∨ (a, b) ∈ l) :
    Tab.getD (l.foldl s.putRoute t) (16 * a + b) 99 = d := by
  induction l generalizing t with
  | nil => simpa using ht
  | cons p l ih =>
    have hp := hl p (by simp)
    refine ih (fun q hq => hl q (by simp [hq])) _ ?_
    by_cases he : p = (a, b)
    · subst he
      left
      simp [State.putRoute, h]
    · rcases ht with ht | ht
      · left
        unfold State.putRoute
        split
        · exact ht
        · rw [Tab.getD_put, if_neg, ht]
          rintro hk
          exact he (Prod.ext (by omega) (by omega))
      · right
        simpa [Ne.symm he] using ht

theorem State.getD_installRoutes {s : State} {a b d : Nat} (ha : a < s.dies) (hb : b < s.dies) (h : s.nextHop a b = some d) :
    Tab.getD s.installRoutes.fabric.routes (16 * a + b) 99 = d := by
  have h8 : s.dies ≤ 8 := Part.dies_le s.part
  refine State.getD_foldl_putRoute (by omega) h _ (fun p hp => ?_) [] (.inr ?_)
  · simp only [List.mem_flatMap, List.mem_map, State.dieList, List.mem_range] at hp
    obtain ⟨x, -, y, hy, rfl⟩ := hp
    exact (show y < 16 by omega)
  · simp only [List.mem_flatMap, List.mem_map, State.dieList, List.mem_range]
    exact ⟨a, ha, b, hb, rfl⟩

/-! ### The obligation -/

/-- Settles O15: the command's definition, what its declared link shows, and the choice of the next die. -/
theorem linksAndRoutes : Obligations.LinksAndRoutes := by
  unfold Obligations.LinksAndRoutes
  refine ⟨?_, ?_, fun a b d s h => State.nextHop_spec h, fun a b d s ha hb h => State.getD_installRoutes ha hb h⟩
  · rintro a b key s s1 s2 hup rfl hmem hcode rfl rfl
    refine ⟨?_, ?_, fun k hk => ?_⟩
    · rw [exec_linkDownDeclared, execLinkDownDeclared]
      dsimp only
      rw [if_neg (by simp [hup, hmem]; omega)]
      simp only [State.fabricCause, State.linksDown, decide_eq_true_eq, apply_ite State.cutOff, Bool.not_eq_true']
    · rw [State.linkCode_countRetries, State.linkCode_showLinks, State.linkCode, Tab.getD_put, if_pos rfl]
    · rw [State.linkCode_countRetries, State.linkCode_showLinks, State.linkCode, Tab.getD_put, if_neg (Ne.symm hk)]
      rfl
  · intro a b s h
    rw [exec_linkDownDeclared, execLinkDownDeclared]
    dsimp only
    rw [if_pos (by simpa using h)]

end Sys2Proof.Machine
end

section
/-! PROOF of device time as seen: the beacon, the PTM exchange and the read of TIME_LO (R39, R41, R197). -/
set_option Elab.async false
namespace Sys2Proof.Machine

/-! ### A counter that slews -/

/-- A slewing counter moves from where it is at one moment toward its goal, and never past it. -/
theorem Slew.skewAt_between (x : Slew) {t T : Nat} (h : t ≤ T) :
    min (x.skewAt t) x.goal ≤ x.skewAt T ∧ x.skewAt T ≤ max (x.skewAt t) x.goal := by
  have hn : (t - x.since) / 4 ≤ (T - x.since) / 4 := Nat.div_le_div_right (by omega)
  simp only [Slew.skewAt, Slew.goal, slewed]
  omega

/-- Two counters whose present and coming counts lie within 8 ns stay so. -/
theorem Slew.skewAt_close {x y : Slew} {t T : Nat} (h : t ≤ T) (h1 : (x.skewAt t - y.skewAt t).natAbs ≤ 8) (h2 : (x.skewAt t - y.goal).natAbs ≤ 8)
    (h3 : (x.goal - y.skewAt t).natAbs ≤ 8) (h4 : (x.goal - y.goal).natAbs ≤ 8) : (x.skewAt T - y.skewAt T).natAbs ≤ 8 := by
  have hx := x.skewAt_between h
  have hy := y.skewAt_between h
  omega

/-- A goal clamped to intervals that all hold k lies in each of them, and no further from k than it was. -/
theorem foldl_clamp {lo hi : Nat → Int} {k : Int} (l : List Nat) (h : ∀ x ∈ l, lo x ≤ k ∧ k ≤ hi x) (e : Int) :
    let g := l.foldl (fun v x => max (lo x) (min (hi x) v)) e
    min e k ≤ g ∧ g ≤ max e k ∧ ∀ x ∈ l, lo x ≤ g ∧ g ≤ hi x := by
  induction l generalizing e with
  | nil => simp
  | cons a l ih =>
    obtain ⟨ha1, ha2⟩ := h a (by simp)
    obtain ⟨h1, h2, h3⟩ := ih (fun x hx => h x (by simp [hx])) (max (lo a) (min (hi a) e))
    simp only [List.foldl_cons]
    refine ⟨by omega, by omega, fun x hx => ?_⟩
    rcases List.mem_cons.1 hx with rfl | hx
    · omega
    · exact h3 x hx

/-! ### One member's measurement -/

/-- Counters of different dies whose present and coming counts lie within 8 ns of each other. -/
def State.closeSlews (s : State) : Prop :=
  ∀ c d, c < s.dies → d < s.dies → c ≠ d → ∀ x y : Int, x = s.skewOf c ∨ x = (s.slewOf c).goal → y = s.skewOf d ∨ y = (s.slewOf d).goal → (x - y).natAbs ≤ 8

theorem State.trunk_beaconFinds (s : State) (d : Nat) (e : Int) : (s.beaconFinds d e).trunk = s.trunk := by
  simp only [State.beaconFinds, State.raise, State.trunk]
  rw [State.reg_setReg_of_ne _ _ _ _ _ _ (by decide)]
  rfl

theorem State.slewOf_beaconFinds (s : State) (d c : Nat) (e : Int) (hd : d ≠ s.trunk) : (s.beaconFinds d e).slewOf c =
    if c = d then { since := s.now, skew := s.skewOf d, correction := s.heldGoal d (s.skewOf d - e) - s.skewOf d } else s.slewOf c := by
  have hs : (s.beaconFinds d e).fabric.slews = Tab.put s.fabric.slews d
    { since := s.now, skew := s.skewOf d, correction := s.heldGoal d (s.skewOf d - e) - s.skewOf d } := rfl
  rw [State.slewOf, State.trunk_beaconFinds, hs, Tab.getD_put]
  by_cases hc : c = d
  · subst hc
    simp [hd]
  · rw [if_neg hc, if_neg (Ne.symm hc), State.slewOf]

/-- A measurement steps no counter. -/
theorem State.skewOf_beaconFinds (s : State) (d c : Nat) (e : Int) (hd : d ≠ s.trunk) : (s.beaconFinds d e).skewOf c = s.skewOf c := by
  have hn : (s.beaconFinds d e).now = s.now := rfl
  rw [State.skewOf, State.slewOf_beaconFinds _ _ _ _ hd, hn]
  split
  · next h => subst h; simp [Slew.skewAt, slewed]
  · rfl

/-- Where an aligned counter goes lies within 8 ns of every other counter's present and coming counts. -/
theorem State.heldGoal_close {s : State} {d : Nat} (ha : s.fabric.aligned = true) (h : s.closeSlews) (hd : d < s.dies) (e : Int) (c : Nat)
    (hc : c < s.dies) (hne : c ≠ d) (y : Int) (hy : y = s.skewOf c ∨ y = (s.slewOf c).goal) : (s.heldGoal d e - y).natAbs ≤ 8 := by
  have hk : ∀ x ∈ s.dieList.filter (fun x => decide (x ≠ d)), max (s.skewOf x) (s.slewOf x).goal - 8 ≤ s.skewOf d ∧
      s.skewOf d ≤ min (s.skewOf x) (s.slewOf x).goal + 8 := by
    intro x hx
    simp only [List.mem_filter, State.dieList, List.mem_range, decide_eq_true_eq] at hx
    have h1 := h d x hd hx.1 (Ne.symm hx.2) _ _ (.inl rfl) (.inl rfl)
    have h2 := h d x hd hx.1 (Ne.symm hx.2) _ _ (.inl rfl) (.inr rfl)
    omega
  obtain ⟨-, -, hmem⟩ := foldl_clamp _ hk e
  have hc' := hmem c (by simp [State.dieList, hc, hne])
  have hg : s.heldGoal d e = (s.dieList.filter (fun x => decide (x ≠ d))).foldl (fun v x =>
      max (max (s.skewOf x) (s.slewOf x).goal - 8) (min (min (s.skewOf x) (s.slewOf x).goal + 8) v)) e := by
    rw [State.heldGoal, if_neg (by simp [ha])]
  rw [hg]
  rcases hy with rfl | rfl <;> omega

theorem State.closeSlews_beaconFinds {s : State} {d : Nat} (ha : s.fabric.aligned = true) (h : s.closeSlews) (hd : d < s.dies) (ht : d ≠ s.trunk)
    (e : Int) : (s.beaconFinds d e).closeSlews := by
  have hgoal : ∀ c, ((s.beaconFinds d e).slewOf c).goal = if c = d then s.heldGoal d (s.skewOf d - e) else (s.slewOf c).goal := by
    intro c
    rw [State.slewOf_beaconFinds _ _ _ _ ht]
    split <;> simp [Slew.goal]
  intro b c hb hc hne x y hx hy
  rw [State.skewOf_beaconFinds _ _ _ _ ht, hgoal] at hx hy
  have hold := h b c hb hc hne x y
  have hclose := State.heldGoal_close ha h hd (s.skewOf d - e)
  by_cases h1 : b = d
  · subst h1
    rw [if_neg (Ne.symm hne)] at hy
    rw [if_pos rfl] at hx
    rcases hx with hx | rfl
    · exact hold (.inl hx) hy
    · exact hclose c hc (Ne.symm hne) y hy
  · rw [if_neg h1] at hx
    by_cases h2 : c = d
    · subst h2
      rw [if_pos rfl] at hy
      rcases hy with hy | rfl
      · exact hold hx (.inl hy)
      · have := hclose b hb hne x hx
        omega
    · rw [if_neg h2] at hy
      exact hold hx hy

/-! ### All measurements of a beacon -/

/-- One measurement as the beacon takes it: within 8 ns once aligned. -/
def State.beaconMeasures (t : State) (e : Nat × Int) : State := t.beaconFinds e.1 (if t.fabric.aligned then max (-8) (min 8 e.2) else e.2)

theorem State.liveAt_beaconMeasures (s : State) (e : Nat × Int) (i k : Nat) (hk : entryKey i k ∉ [0x201006]) :
    (s.beaconMeasures e).liveAt i k = s.liveAt i k := by
  unfold State.beaconMeasures State.beaconFinds State.raise
  rw [State.setReg_eq, State.liveAt_setLive, if_neg (fun h => hk (by rw [← h]; decide))]
  rfl

/-- The measurements of a beacon: what they leave, and what skew_max_ns has recorded. -/
theorem State.foldl_beaconMeasures (es : List (Nat × Int)) (s : State) (hes : ∀ e ∈ es, e.1 < s.dies ∧ e.1 ≠ s.trunk) :
    let t := es.foldl State.beaconMeasures s
    (t.now = s.now ∧ t.fabric.beaconLast = s.fabric.beaconLast ∧ t.part = s.part) ∧ t.trunk = s.trunk ∧ t.fabric.aligned = s.fabric.aligned ∧ s.reg 0x2010 6 ≤ t.reg 0x2010 6 ∧ (∀ d, t.skewOf d = s.skewOf d) ∧
    (∀ e ∈ es, min 65535 (if s.fabric.aligned then max (-8) (min 8 e.2) else e.2).natAbs ≤ t.reg 0x2010 6) ∧
    (s.fabric.aligned = true → s.closeSlews → t.closeSlews) ∧ SameLiveBut s t [0x201006] := by
  induction es generalizing s with
  | nil => simp [SameLiveBut.refl]
  | cons e es ih =>
    obtain ⟨hed, het⟩ := hes e (by simp)
    have htrunk : (s.beaconMeasures e).trunk = s.trunk := State.trunk_beaconFinds s _ _
    have hal : (s.beaconMeasures e).fabric.aligned = s.fabric.aligned := rfl
    have hreg : (s.beaconMeasures e).reg 0x2010 6 =
        max (s.reg 0x2010 6) (min 65535 (if s.fabric.aligned then max (-8) (min 8 e.2) else e.2).natAbs) := State.reg_setReg_self _ _ _ _
    obtain ⟨h0, h1, h2, h3, h4, h5, h6, h7⟩ := ih (s.beaconMeasures e) (fun e' he' => by rw [htrunk]; exact hes e' (by simp [he']))
    simp only [List.foldl_cons]
    refine ⟨h0, h1.trans htrunk, h2, by omega, fun d => (h4 d).trans (State.skewOf_beaconFinds s _ d _ het), fun e' he' => ?_,
      fun ha hc => h6 ha (State.closeSlews_beaconFinds ha hc hed het _),
      fun i k hk => (h7 i k hk).trans (State.liveAt_beaconMeasures s e i k hk)⟩
    rcases List.mem_cons.1 he' with rfl | he'
    · omega
    · exact h5 e' he'

theorem State.liveAt_countRetries (s : State) (ds : List Nat) :
    SameLiveBut s (s.countRetries ds) (ds.map (fun d => entryKey (0x2008 + d) 5)) := by
  intro i k hk
  have hl : ∀ d ∈ ds.filter (fun d => decide (d < s.dies)), entryKey (0x2008 + d) 5 ≠ entryKey i k := fun d hd h => hk (by
    rw [← h]
    exact List.mem_map.2 ⟨d, List.mem_of_mem_filter hd, rfl⟩)
  refine State.each_keeps_mem (P := fun t => t.liveAt i k = s.liveAt i k) _ _ ?_ s rfl
  intro t d hd ht
  rw [State.liveAt_useFree, State.count, State.setReg_eq, State.liveAt_setLive, if_neg (hl d hd), ht]

/-- What a beacon does, in O16's terms. -/
theorem timeBeacon_spec (errors : List (Nat × Int)) (s : State) (h : s.timeRuns = true) :
    ∃ t : State, exec (.timeBeacon errors) s = .next t ∧ t.now = max s.now s.beaconDue ∧ t.fabric.beaconLast = some t.now ∧
      s.reg 0x2010 6 ≤ t.reg 0x2010 6 ∧ (∀ d, t.skewOf d = (s.slewOf d).skewAt t.now) ∧
      (∀ e, e ∈ errors → e.1 < s.dies → e.1 ≠ s.trunk → s.shellUp e.1 = true →
        min 65535 (if s.fabric.aligned then max (-8) (min 8 e.2) else e.2).natAbs ≤ t.reg 0x2010 6) ∧
      (s.fabric.aligned = true →
        (∀ c d, c < s.dies → d < s.dies → ∀ x y : Int, x = (s.slewOf c).skewAt t.now ∨ x = (s.slewOf c).goal →
          y = (s.slewOf d).skewAt t.now ∨ y = (s.slewOf d).goal → (x - y).natAbs ≤ 8) →
        ∀ c d T, c < s.dies → d < s.dies → t.now ≤ T → ((t.slewOf c).skewAt T - (t.slewOf d).skewAt T).natAbs ≤ 8) ∧
      SameLiveBut s t (0x201006 :: s.dieList.map (fun d => entryKey (0x2008 + d) 5)) ∧ SameMemory s t ∧ SameRings s t := by
  obtain ⟨t, ht, he⟩ := execTimeBeacon_eff errors s
  let s1 : State := { s.arriveAt s.beaconDue with fabric := { s.fabric with beaconLast := some (s.arriveAt s.beaconDue).now } }
  let es := errors.filter (fun e => decide (e.1 < s.dies ∧ e.1 ≠ s.trunk) && s.shellUp e.1)
  let u := es.foldl State.beaconMeasures s1
  have htu : t = u.countRetries u.dieList := by
    rw [execTimeBeacon, if_neg (by simp [h])] at ht
    exact (Host.Outcome.next.inj ht).symm
  obtain ⟨⟨hnow, hlast, hpart⟩, htrunk, hal, hmono, hskew, hrec, hclose, hlive⟩ := State.foldl_beaconMeasures es s1 (fun e he => by
    simp only [es, List.mem_filter, Bool.and_eq_true, decide_eq_true_eq] at he
    exact he.2.1)
  have hc := State.countRetries_eff u u.dieList (Eff.refl 192 u) rfl
  rw [← htu] at hc
  have hdies : u.dieList = s.dieList := congrArg (fun p : Part => List.range p.dies) hpart
  have hut : SameLiveBut u t (s.dieList.map (fun d => entryKey (0x2008 + d) 5)) := by
    rw [htu, ← hdies]
    exact State.liveAt_countRetries u u.dieList
  have hkey : ∀ i, (∀ d, i ≠ 0x2008 + d ∨ d ≥ 8) → ∀ k, k < 256 → entryKey i k ∉ s.dieList.map (fun d => entryKey (0x2008 + d) 5) := by
    intro i hi k hk hmem
    obtain ⟨d, hd, hkd⟩ := List.mem_map.1 hmem
    have hd8 : d < 8 := lt_of_lt_of_le (List.mem_range.1 hd) (Part.dies_le s.part)
    simp only [entryKey] at hkd
    rcases hi d with h | h <;> omega
  have hregs : ∀ i k, (∀ d, i ≠ 0x2008 + d ∨ d ≥ 8) → k < 256 → t.reg i k = u.reg i k := fun i k hi hk =>
    State.reg_of_liveAt (hut i k (hkey i hi k hk))
  have hr6 : t.reg 0x2010 6 = u.reg 0x2010 6 := hregs _ _ (fun d => by omega) (by decide)
  have htt : t.trunk = u.trunk := hregs 0x2000 4 (fun d => by omega) (by decide)
  have hslew : ∀ d, t.slewOf d = u.slewOf d := fun d => by simp only [State.slewOf, htt, hc.fabric_eq]
  have hsl1 : ∀ d, s1.slewOf d = s.slewOf d := fun d => rfl
  have htn : t.now = s1.now := hc.now_eq.trans hnow
  refine ⟨t, ht, htn, ?_, hr6 ▸ hmono, fun d => ?_, fun e hmem hd hne hup => ?_, fun ha hall c d T hcd hdd hT => ?_, fun i k hk => ?_,
    SameMemory.of_eff he, SameRings.of_eff he⟩
  · rw [hc.fabric_eq, hlast, htn]
  · calc t.skewOf d = u.skewOf d := by simp only [State.skewOf, hslew, hc.now_eq]
      _ = s1.skewOf d := hskew d
      _ = (s.slewOf d).skewAt t.now := by rw [htn]; rfl
  · rw [hr6]
    exact hrec e (by simp [es, hmem, hd, hne, hup])
  · have hs1 : s1.closeSlews := fun b c hb hc' _ x y hx hy => hall b c hb hc' x y (by rw [htn]; exact hx) (by rw [htn]; exact hy)
    have hu := hclose ha hs1
    by_cases hne : c = d
    · subst hne; simp
    · have hud : u.dies = s.dies := congrArg Part.dies hpart
      have hcl := hu c d (hud ▸ hcd) (hud ▸ hdd) hne
      rw [hslew, hslew]
      rw [hc.now_eq] at hT
      exact Slew.skewAt_close hT (hcl _ _ (.inl rfl) (.inl rfl)) (hcl _ _ (.inl rfl) (.inr rfl)) (hcl _ _ (.inr rfl) (.inl rfl))
        (hcl _ _ (.inr rfl) (.inr rfl))
  · simp only [List.mem_cons, not_or] at hk
    rw [hut i k hk.2, hlive i k (by simpa using hk.1)]
    rfl

theorem State.inst_out (s : State) (o : Outputs) (i : Nat) : ({ s with out := o } : State).inst i = s.inst i := rfl

/-! ### The obligation -/

/-- Settles O16: a beacon records and slews, a PTM exchange records a pair, and a read of TIME_LO latches the high bits. -/
theorem timeShown : Obligations.TimeShown := by
  unfold Obligations.TimeShown
  refine ⟨timeBeacon_spec, ?_, ?_, ?_, ?_, ?_⟩
  · intro errors s h
    rw [exec_timeBeacon, execTimeBeacon, if_pos (by simp [h])]
  · intro master midpoint s hs hcfg hm
    have hx : execPtmExchange master midpoint s = _ := if_pos ⟨hs, hcfg⟩
    obtain ⟨t, ht, he⟩ := execPtmExchange_eff master midpoint s
    obtain rfl := Host.Outcome.next.inj (hx.symm.trans ht)
    have h4 : ∀ (u : State) (m v : Nat), ((u.setReg 0x2010 4 m).setReg 0x2010 5 v).reg 0x2010 4 = m := fun u m v => by
      rw [State.reg_setReg_of_ne _ _ _ _ _ _ (by decide), State.reg_setReg_self]
    refine ⟨_, ht, rfl, rfl, ?_, ?_, ?_, ?_, ?_, SameMemory.of_eff he, SameRings.of_eff he⟩
    · rw [h4]
      exact le_max_left _ _
    · rw [h4]
      exact max_le (Nat.le_add_right_of_le (Nat.sub_le _ _)) (min_le_left _ _)
    · intro h1 h2
      rw [h4]
      exact (congrArg _ (min_eq_right h2)).trans (max_eq_right h1)
    · rw [State.reg_setReg_self, Nat.mod_eq_of_lt hm]
    · exact ((SameLiveBut.of_live rfl rfl rfl).setLive _ (by decide)).setLive _ (by decide)
  · intro master midpoint s h
    rw [exec_ptmExchange, execPtmExchange, if_neg (by rcases h with h | h <;> simp [h])]
  · intro inst s h
    obtain ⟨t, ht, he⟩ := execTimeLoRead_eff inst s
    have hopen : s.pageOpen inst = true := by
      simp only [State.pageWritable, Bool.and_eq_true] at h
      exact h.1
    have hread : s.pageRead inst 0x20 = s.now % 2 ^ 32 := by simp [State.pageRead, hopen, h]
    have hx := ht
    rw [execTimeLoRead] at hx
    dsimp only at hx
    rw [if_pos h, hread] at hx
    obtain rfl := Host.Outcome.next.inj hx
    refine ⟨_, ht, rfl, ?_, fun i hi => ?_, rfl, SameMemory.of_eff he, SameRings.of_eff he⟩
    · rw [State.inst_out, State.inst_modInst, if_pos rfl]
    · rw [State.inst_out, State.inst_modInst, if_neg (Ne.symm hi)]
  · intro inst s h
    rw [exec_timeLoRead, execTimeLoRead]
    simp [h]

end Sys2Proof.Machine
end

section
/-! PROOF of the checks of a WRITE in the order of R123, and of what one that fails them leaves as it was. -/
set_option Elab.async false
namespace Sys2Proof.Machine

/-! ### The order of the checks -/

theorem worldOk_iff (req : Requester) (e : SubEntry) : worldOk req e true = true ↔ ¬ (e.acc = .rws ∧ worldOf req = .normal) := by
  simp [worldOk, imp_iff_not_or]

theorem accessOk_iff (e : SubEntry) : accessOk e true = true ↔ ¬ (e.acc = .ro ∨ e.acc = .const) := by
  unfold accessOk
  cases e.acc <;> simp

theorem State.checkWrite_eq (s : State) (req : Requester) (idx sub : Nat) (data : List Byte) (f : Found) (h : lookup s.part idx sub = some f) :
    s.checkWrite req idx sub data =
      if s.recoveryShut f = true then Status.deniedAccess
      else if (f.row'.acc = .rws ∧ worldOf req = .normal) ∨ s.secureOnly req f = true then Status.deniedWorld
      else if s.rightsOk req f true .active = false then Status.deniedInstance
      else if f.row'.acc = .ro ∨ f.row'.acc = .const then Status.deniedAccess
      else if s.lengthFits idx f data.length = false then Status.typeLength
      else if f.valueOk s.part s.grade data = false then Status.range else Status.ok := by
  have hw := worldOk_iff req f.row'
  have ha := accessOk_iff f.row'
  unfold State.checkWrite
  rw [h]
  dsimp only
  refine if_congr Iff.rfl rfl (if_congr ?_ rfl (if_congr ?_ rfl (if_congr ?_ rfl (if_congr ?_ rfl (if_congr ?_ rfl rfl)))))
  · rw [Bool.not_eq_true', ← Bool.not_eq_true, hw, not_not]
  · simp
  · rw [Bool.not_eq_true', ← Bool.not_eq_true, ha, not_not]
  · simp
  · simp

/-! ### An answer's registers -/

theorem State.liveAt_sendVector (s : State) (i v j k : Nat) : (s.sendVector i v).liveAt j k = s.liveAt j k := by
  unfold State.sendVector
  dsimp only
  split_ifs <;> rfl

theorem State.liveAt_setReg_of_ne {s : State} {i k j l v : Nat} (h : entryKey i k ≠ entryKey j l) : (s.setReg i k v).liveAt j l = s.liveAt j l := by
  rw [State.setReg_eq, State.liveAt_setLive, if_neg h]

theorem State.liveAt_countDenied (s : State) (status j k : Nat) (h : entryKey j k ≠ 0x1F0105) : (s.countDenied status).liveAt j k = s.liveAt j k := by
  unfold State.countDenied State.inc State.count
  split
  · exact State.liveAt_setReg_of_ne (Ne.symm h)
  · rfl

/-- An answer writes the count of denied requests, MCAN's last status and the tunnel's response, and no other entry. -/
theorem State.sameLiveBut_reply (s : State) (req : Requester) (service status failPos : Nat) (body : List Byte) (moved : Nat) :
    SameLiveBut s (s.reply req service status failPos body moved) [0x1F0105, 0x1F1104, 0x1F1300] := by
  intro j k hk
  simp only [List.mem_cons, not_or, List.not_mem_nil, not_false_eq_true, and_true] at hk
  obtain ⟨h1, h2, h3⟩ := hk
  have hc := s.liveAt_countDenied status j k h1
  unfold State.reply
  cases req with
  | mailbox i tag ind =>
    dsimp only
    split
    · exact hc
    · rw [State.liveAt_sendVector, State.liveAt_setInst]
      split <;> exact hc
  | mcan => exact (State.liveAt_setReg_of_ne (Ne.symm h2)).trans hc
  | tunnel tag =>
    dsimp only
    rw [State.setRegBytes, State.liveAt_setLive, if_neg (show entryKey 0x1F13 0 ≠ entryKey j k from Ne.symm h3)]
    exact hc
  | core d w => exact hc

theorem State.sameLiveBut_answer (s : State) (req : Requester) (service status failPos : Nat) (body : List Byte) (idx sub moved : Nat) :
    SameLiveBut s (s.answer req service status failPos body idx sub moved) [0x1F0105, 0x1F1104, 0x1F1300] := by
  unfold State.answer
  cases req with
  | mcan =>
    intro j k hk
    simp only [List.mem_cons, not_or, List.not_mem_nil, not_false_eq_true, and_true] at hk
    exact (State.liveAt_setReg_of_ne (Ne.symm hk.2.1)).trans (s.liveAt_countDenied status j k hk.1)
  | mailbox i tag ind => exact s.sameLiveBut_reply _ _ _ _ _ _
  | tunnel tag => exact s.sameLiveBut_reply _ _ _ _ _ _
  | core d w => exact s.sameLiveBut_reply _ _ _ _ _ _

theorem State.sameLiveBut_wakeDomain (s : State) (d : Nat) (m : Domain) (idle : Bool) :
    SameLiveBut s (s.wakeDomain d m idle) [entryKey (0x2408 + d) 9, entryKey (0x2408 + d) 0xA] := by
  intro j k hk
  simp only [List.mem_cons, not_or, List.not_mem_nil, not_false_eq_true, and_true] at hk
  unfold State.wakeDomain
  split
  · rfl
  · dsimp only
    rw [State.liveAt_useFree, State.raise, State.liveAt_setReg_of_ne (Ne.symm hk.2), State.inc, State.count,
      State.liveAt_setReg_of_ne (Ne.symm hk.1)]
    rfl

/-- A die's demand wakes it and the trunk's die. -/
theorem State.sameLiveBut_demandWake (s : State) (d : Nat) : SameLiveBut s (s.demandWake d)
    ([s.trunk, d].flatMap (fun d => [entryKey (0x2408 + d) 9, entryKey (0x2408 + d) 0xA])) := by
  intro j k hk
  simp only [List.flatMap_cons, List.flatMap_nil, List.append_nil, List.mem_append, not_or] at hk
  have ht : ∀ (u : State) m b, (u.wakeDomain s.trunk m b).liveAt j k = u.liveAt j k := fun u m b => u.sameLiveBut_wakeDomain _ m b j k hk.1
  have hd : ∀ (u : State) m b, (u.wakeDomain d m b).liveAt j k = u.liveAt j k := fun u m b => u.sameLiveBut_wakeDomain _ m b j k hk.2
  unfold State.demandWake
  dsimp only
  split_ifs <;> simp only [ht, hd]

/-! ### A WRITE that fails a check -/

theorem State.settleRequests_of_none {s : State} (h : s.dir.blocked = []) : s.settleRequests = s := by
  simp [State.settleRequests, State.drain, h]

/-- With the directory idle, what the answer of a WRITE that fails a check leaves. -/
theorem State.answered_frame {s t : State} (req : Requester) (idx sub : Nat) (data : List Byte) (service status failPos moved : Nat) (hb : s.dir.blocked = [])
    (ht : t = ((s.admitted req idx sub data).answer req service status failPos [] idx sub moved).settleRequests) :
    SameRings s t ∧ SameMemory s t ∧ t.fuses = s.fuses ∧ t.dir = s.dir ∧ t.now = s.now ∧
    SameLiveBut s t ([0x1F0105, 0x1F1104, 0x1F1300] ++
      [s.trunk, s.dieOf idx].flatMap (fun d => [entryKey (0x2408 + d) 9, entryKey (0x2408 + d) 0xA])) := by
  obtain ⟨x, hx⟩ := State.takeRequest_shape s req (.write idx sub data)
  have he : Eff 17592323408064 s ((s.admitted req idx sub data).answer req service status failPos [] idx sub moved) := by
    exact State.answer_eff _ _ _ _ _ _ _ _ _
      (State.demandWake_eff _ _ (State.takeRequest_eff s req _ (Eff.refl 17592323408064 s) rfl) rfl) rfl
  rw [State.settleRequests_of_none (by rw [he.dir_eq]; exact hb)] at ht
  subst ht
  refine ⟨SameRings.of_eff he, SameMemory.of_eff he, he.fuses_eq, he.dir_eq, he.now_eq, fun j k hk => ?_⟩
  simp only [List.mem_append, not_or] at hk
  rw [State.sameLiveBut_answer _ req _ _ _ _ _ _ _ j k hk.1, State.admitted, hx]
  exact State.sameLiveBut_demandWake _ _ j k hk.2

theorem State.submit_failing (s : State) (req : Requester) (idx sub : Nat) (data : List Byte) (hb : s.dir.blocked = []) (hi : idx ≠ 0x1F12)
    (hop : s.operational = true) (hs : s.health.succession = false) (hst : s.writeStatus req idx sub data ≠ Status.ok) :
    ∃ t : State, exec (.write req idx sub data) s = .next t ∧ SameRings s t ∧ SameMemory s t ∧ t.fuses = s.fuses ∧ t.dir = s.dir ∧ t.now = s.now ∧
      SameLiveBut s t ([0x1F0105, 0x1F1104, 0x1F1300] ++
        [s.trunk, s.dieOf idx].flatMap (fun d => [entryKey (0x2408 + d) 9, entryKey (0x2408 + d) 0xA])) := by
  obtain ⟨x, hx⟩ := State.takeRequest_shape s req (.write idx sub data)
  refine ⟨_, by rw [exec_write, execWrite], ?_⟩
  unfold State.submit
  dsimp only
  split_ifs with h1 h2
  · exact ⟨⟨rfl, rfl, rfl⟩, SameMemory.of_eq rfl rfl, rfl, rfl, rfl, SameLiveBut.refl _ _⟩
  · refine State.answered_frame req idx sub data 2 (s.writeStatus req idx sub data) 0 0 hb ?_
    have hst' := State.writeStatus_insts s x req idx sub data
    rw [State.admitted, hx]
    simp only [State.serveTop, hi, false_and, if_false]
    rw [State.serve_refused { s with insts := x } req idx sub data .plain hs (by rw [Bool.or_eq_true]; exact .inl hop) (by rw [hst']; exact hst), hst']
    rfl
  · rw [hx]
    exact ⟨⟨rfl, rfl, rfl⟩, SameMemory.of_eq rfl rfl, rfl, rfl, rfl, SameLiveBut.of_live rfl rfl rfl⟩

/-- Settles O17: the checks as `checkWrite` makes them, and what the answer to a WRITE that fails one writes. -/
theorem requestChecks : Obligations.RequestChecks := by
  unfold Obligations.RequestChecks
  refine ⟨fun s req idx sub data h => ?_, State.checkWrite_eq, fun s req idx sub data hb _ _ hi hop hs hst =>
    State.submit_failing s req idx sub data hb hi hop hs hst⟩
  simp [State.checkWrite, h]

end Sys2Proof.Machine
end

section
/-! PROOF of single requests (R123, R127, R143, R152, R166). -/
set_option Elab.async false
namespace Sys2Proof.Machine

/-- A request that its transport takes is served. -/
theorem State.submit_taken {s t : State} {req : Requester} {r : DirRequest} (ho : s.transportOpen req = true) (hf : requestFits req r = true)
    (ht : s.takeRequest req r = (true, t)) : s.submit req r = (t.serveTop req r).settleRequests := by
  unfold State.submit
  rw [if_neg (by simp [ho, hf]), ht]
  rfl

/-- A transport that is closed, or does not carry the request, changes nothing. -/
theorem State.submit_closed {s : State} {req : Requester} {r : DirRequest} (h : s.transportOpen req = false ∨ requestFits req r = false) :
    s.submit req r = s := by
  unfold State.submit
  rw [if_pos (by rcases h with h | h <;> simp [h])]

/-- A mailbox that holds a request takes no second (R166). -/
theorem State.submit_outstanding {s : State} {i tag : Nat} {ind : Option (Nat × Nat)} {r : DirRequest}
    (h : (s.inst i).mbox.outstanding = true) : s.submit (.mailbox i tag ind) r = s := by
  have ht : s.takeRequest (.mailbox i tag ind) r = (false, s) := if_pos h
  unfold State.submit
  rw [ht]
  exact ite_self s

theorem State.serve_read {t : State} {req : Requester} {idx sub : Nat} {v : View} (hs : t.health.succession = false)
    (hop : t.operational = true ∨ (0x2100 ≤ idx ∧ idx ≤ 0x2106)) : t.serveTop req (.read idx sub v) = t.serveRead req idx sub v := by
  unfold State.serveTop State.serve
  dsimp only
  rw [if_neg (by rcases hop with h | h <;> simp [hs, h])]

theorem State.serve_describe {t : State} {req : Requester} {idx sub : Nat} (hs : t.health.succession = false) (hop : t.operational = true) :
    t.serveTop req (.describe idx sub) = t.serveDescribe req idx sub := by
  unfold State.serveTop State.serve
  dsimp only
  rw [if_neg (by simp [hs, hop])]

/-- The codes at the head of a DESCRIBE body, and its length. -/
theorem State.description_fields (s : State) (f : Found) :
    (s.description f).length = 32 ∧ field (s.description f) 0 1 = f.row'.ty.code ∧ field (s.description f) 1 1 = f.row'.acc.code ∧
    field (s.description f) 2 1 = f.obj.scope.code ∧ field (s.description f) 3 1 = f.row'.kind.code := by
  have hty : f.row'.ty.code < 256 := by cases f.row'.ty <;> decide
  have hacc : f.row'.acc.code < 256 := by cases f.row'.acc <;> decide
  have hsc : f.obj.scope.code < 256 := by cases f.obj.scope <;> decide
  have hk : f.row'.kind.code < 256 := by cases f.row'.kind <;> decide
  refine ⟨?_, ?_, ?_, ?_, ?_⟩
  · unfold State.description
    dsimp only
    split_ifs <;> simp [length_leBytes]
  all_goals simp [State.description, field, slice, leBytes, leNat, Nat.mod_eq_of_lt, *]

/-- Settles O18: a request that its transport takes is served by its service, and any other changes nothing. -/
theorem singleRequests : Obligations.SingleRequests := by
  unfold Obligations.SingleRequests
  refine ⟨fun req idx sub data f s hi ha hf => ?_, ?_, ?_, State.description_fields, ?_, ?_, ?_⟩
  · rw [exec_write, execWrite, State.submit_admits s req idx sub data f hi ha hf]
  · rintro req idx sub v s t u ho hfit hop hs ht rfl
    obtain ⟨x, hx⟩ := State.takeRequest_shape s req (.read idx sub v)
    rw [ht] at hx
    subst hx
    rw [exec_read, execRead, State.submit_taken ho hfit ht, State.serve_read (t := { s with insts := x }) hs hop]
    rfl
  · rintro req idx sub s t u ho hreq hop hs ht rfl
    have hfit : requestFits req (.describe idx sub) = true := by cases req <;> first | rfl | exact absurd rfl hreq
    obtain ⟨x, hx⟩ := State.takeRequest_shape s req (.describe idx sub)
    rw [ht] at hx
    subst hx
    rw [exec_describe, execDescribe, State.submit_taken ho hfit ht, State.serve_describe (t := { s with insts := x }) hs hop]
    rfl
  · intro idx sub v s hv
    rw [exec_read, execRead, State.submit_closed (.inr (by simp [requestFits, hv])), exec_describe, execDescribe, State.submit_closed (.inr rfl)]
    exact ⟨rfl, rfl⟩
  · intro req idx sub data v s h
    simp only [exec_write, execWrite, exec_read, execRead, exec_describe, execDescribe, State.submit_closed (.inl h), and_self]
  · intro i tag ind idx sub data v s h
    simp only [exec_write, execWrite, exec_read, execRead, exec_describe, execDescribe, State.submit_outstanding h, and_self]

end Sys2Proof.Machine
end

section
/-! PROOF of write groups (R128 to R135, R142, R143, R736). -/
set_option Elab.async false
namespace Sys2Proof.Machine

/-! ### A group begins -/

theorem State.trunkWake_dir (s : State) : s.trunkWake.dir = s.dir ∧ s.trunkWake.health = s.health := by
  have he : Eff 134217920 s s.trunkWake := State.trunkWake_eff s (Eff.refl 134217920 s) rfl
  exact ⟨he.dir_eq, he.health_eq⟩

theorem State.each_demandWake_dir (s : State) (ds : List Nat) : (s.each ds (fun v d => v.demandWake d)).dir = s.dir := by
  refine State.each_keeps (P := fun t => t.dir = s.dir) _ _ ?_ s rfl
  exact fun t d ht => (State.demandWake_eff t d (Eff.refl 134217920 t) rfl).dir_eq.trans ht

theorem State.groupEnds_dir (s : State) (g : WriteGroup) (st pos : Nat) : (s.groupEnds g st pos).dir = s.dir :=
  (State.groupEnds_eff s g st pos (Eff.refl 17592189190336 s) rfl).dir_eq

/-- Nothing waits for its turn: no group starts. -/
theorem State.groupNext_of_none {s : State} (h : s.dir.queued = []) (n : Nat) : s.groupNext n = s := by
  cases n with
  | zero => rfl
  | succ n =>
    unfold State.groupNext
    split_ifs with h1
    · rfl
    · rw [h]

/-- A group that starts with nothing else waiting: its prepares, or its end. -/
theorem State.groupNext_only {u : State} (g : WriteGroup) (hr : u.dir.running = none) (hq : u.dir.queued = []) (hs : u.health.succession = false) (n : Nat) :
    State.groupNext { u with dir := { u.dir with queued := u.dir.queued ++ [g] } } (n + 1) =
      if g.failWith ≠ 0 then u.groupEnds g g.failWith g.failPos
      else State.each { u with dir := { u.dir with running := some { g with
          dies := g.entries.map (fun e => u.dieOf e.idx), waiting := (g.entries.map (fun e => u.dieOf e.idx)).eraseDups, sentAt := u.now } } }
        (g.entries.map (fun e => u.dieOf e.idx)).eraseDups (fun v d => v.demandWake d) := by
  have hu : ({ u with dir := { u.dir with queued := [] } } : State) = u := by rw [← hq]
  unfold State.groupNext
  dsimp only
  rw [if_neg (by simp [hr, hs]), hq]
  dsimp only [List.nil_append]
  split_ifs with hf
  · rw [hu, State.groupNext_of_none (by rw [State.groupEnds_dir]; exact hq)]
  · rw [← hq]
    rfl

/-- A group that its transport takes and that is of the sizes of R128, with nothing else waiting. -/
theorem State.submit_writeGroup {req : Requester} {es : List GroupWrite} {s t : State} (ho : s.transportOpen req = true) (hreq : req ≠ .mcan)
    (hop : s.operational = true) (hs : s.health.succession = false) (ht : s.takeRequest req (.writeGroup es) = (true, t)) (hr : s.dir.running = none)
    (hq : s.dir.queued = []) (hne : es ≠ []) (hlen : es.length ≤ 64) (hsum : (es.map (fun e => e.data.length)).sum ≤ 4096) :
    let c := (t.trunkWake.groupChecks req 1 [] es).getD (0, 0)
    let g : WriteGroup := { req := req, entries := es, accepted := t.trunkWake.now, failPos := c.1, failWith := c.2 }
    s.submit req (.writeGroup es) = State.settleRequests (
      if c.2 ≠ 0 then t.trunkWake.groupEnds g c.2 c.1
      else State.each { t.trunkWake with dir := { t.trunkWake.dir with running := some { g with
          dies := es.map (fun e => t.trunkWake.dieOf e.idx), waiting := (es.map (fun e => t.trunkWake.dieOf e.idx)).eraseDups, sentAt := t.trunkWake.now } } }
        (es.map (fun e => t.trunkWake.dieOf e.idx)).eraseDups (fun v d => v.demandWake d)) := by
  obtain ⟨x, hx⟩ := State.takeRequest_shape s req (.writeGroup es)
  rw [ht] at hx
  subst hx
  have hfit : requestFits req (.writeGroup es) = true := by cases req <;> first | rfl | exact absurd rfl hreq
  obtain ⟨hd, hh⟩ := State.trunkWake_dir { s with insts := x }
  rw [State.submit_taken ho hfit ht]
  unfold State.serveTop State.serve
  dsimp only
  rw [if_neg (by simp only [hs, Bool.false_eq_true, false_or, not_and, Bool.not_eq_true', show State.operational { s with insts := x } = true from hop]; simp)]
  unfold State.serveWriteGroup
  dsimp only
  rw [if_neg (by simp [hne]; omega), if_neg (by rw [hd]; simp [hq])]
  exact congrArg _ (State.groupNext_only _ (by rw [hd]; exact hr) (by rw [hd]; exact hq) (by rw [hh]; exact hs) 19)

/-! ### Its dies answer -/

theorem prepareAnswer_eq {die : Nat} {s : State} {g : WriteGroup} (hr : s.dir.running = some g) (hs : s.health.succession = false)
    (hd : die ∈ g.waiting) (ha : s.answersPrepare die = true) (hn : s.now ≤ g.sentAt + ms 2) (hf : g.failWith ≠ Status.aborted) :
    exec (.prepareAnswer die) s = .next (State.groupAnswered
      (if ((s.prepareResult g die).map (fun f => decide (f.2 = Status.deniedSecureClaim))).getD false
        then (s.claimsMoved (s.setJudged g.entries) ++ s.claimsStopped (s.groupDraft g.entries)).foldl (fun (t : State) c => t.securityEvent 1 c.1 c.2) s
        else s)
      (({ g with waiting := g.waiting.erase die } : WriteGroup).joinFailure (s.prepareResult g die))) := by
  rw [exec_prepareAnswer, execPrepareAnswer, hr]
  dsimp only
  rw [if_neg (by simp [hs, hd, ha]; omega), if_neg hf]

/-- A group that ends otherwise than at T, with nothing else waiting. -/
theorem State.groupOver_frame {s : State} (g : WriteGroup) {st pos : Nat} (hq : s.dir.queued = []) (hb : s.dir.blocked = []) (hok : st ≠ Status.ok)
    (hdeg : st ≠ Status.degraded) :
    let t := s.groupOver g st pos
    t.dir = { s.dir with running := none } ∧ SameRings s t ∧ SameMemory s t ∧ t.fuses = s.fuses ∧
      SameLiveBut s t [0x1F0102, 0x1F0104, 0x1F0105, 0x1F1104, 0x1F1300] := by
  intro t
  let u : State := { s with dir := { s.dir with running := none } }
  have he := State.groupEnds_eff u g st pos (Eff.refl 17592189190336 u) rfl
  have ht : t = u.groupEnds g st pos := by
    simp only [t, State.groupOver]
    rw [State.settleRequests_of_none (by rw [State.groupEnds_dir]; exact hb), State.groupNext_of_none (by rw [State.groupEnds_dir]; exact hq)]
  have hrings : SameRings u (u.groupEnds g st pos) := SameRings.of_eff he
  have hmem : SameMemory u (u.groupEnds g st pos) := SameMemory.of_eff he
  rw [ht]
  refine ⟨he.dir_eq, hrings, hmem, he.fuses_eq, fun j k hk => ?_⟩
  simp only [List.mem_cons, not_or, List.not_mem_nil, not_false_eq_true, and_true] at hk
  obtain ⟨h2, h4, h5, hm, ht3⟩ := hk
  have hcount : ∀ v w, (((u.setReg 0x1F01 2 v).setReg 0x1F01 4 w).useFree).liveAt j k = s.liveAt j k := fun v w => by
    rw [State.liveAt_useFree, State.liveAt_setReg_of_ne (Ne.symm h4), State.liveAt_setReg_of_ne (Ne.symm h2)]
    rfl
  unfold State.groupEnds State.inc State.count State.raise
  dsimp only
  rw [if_neg (show ¬ (st = Status.ok ∨ st = Status.degraded) by simp [hok, hdeg])]
  split
  · exact hcount _ _
  · exact (State.sameLiveBut_answer _ g.req _ _ _ _ _ _ _ j k (by simp [h5, hm, ht3])).trans (hcount _ _)

/-! ### The obligation -/

/-- Settles O19: a group is checked and sent, its dies' answers are taken one by one, and it commits or ends. -/
theorem writeGroups : Obligations.WriteGroups := by
  unfold Obligations.WriteGroups
  refine ⟨?_, ?_, ?_, ?_, ?_, ?_, ?_, ?_, ?_, fun s g st pos hq hb hok hdeg => State.groupOver_frame g hq hb hok hdeg⟩
  · rintro req es s t u ds ho hreq hop hs ht rfl rfl hr hq hb hne hlen hsum
    have hsub := State.submit_writeGroup ho hreq hop hs ht hr hq hne hlen hsum
    obtain ⟨x, hx⟩ := State.takeRequest_shape s req (.writeGroup es)
    rw [ht] at hx
    have htd : t.dir = s.dir := by rw [show t = { s with insts := x } from hx]
    have hblocked : t.trunkWake.dir.blocked = [] := by
      rw [(State.trunkWake_dir t).1, htd]
      exact hb
    refine ⟨fun hc => ?_, fun p st hst hc => ?_⟩
    · rw [exec_writeGroup, execWriteGroup, hsub, hc]
      dsimp only [Option.getD_none]
      rw [if_neg (by simp), State.settleRequests_of_none (by rw [State.each_demandWake_dir]; exact hblocked)]
    · rw [exec_writeGroup, execWriteGroup, hsub, hc]
      dsimp only [Option.getD_some]
      rw [if_pos hst, State.settleRequests_of_none (by rw [State.groupEnds_dir]; exact hblocked)]
  · intro die s g hr hs hd ha hn hf hne
    rw [prepareAnswer_eq hr hs hd ha hn hf, if_neg]
    cases hp : s.prepareResult g die with
    | none => simp
    | some r => simpa using hne r.1 r.2 hp
  · intro die p s g hr hs hd ha hn hf hp
    rw [prepareAnswer_eq hr hs hd ha hn hf, hp, if_pos (by simp)]
  · intro die s g hr hs hd hf
    rw [exec_prepareTimeout, execPrepareTimeout, hr]
    dsimp only
    rw [if_neg (by simp [hs, hd]), if_neg hf]
  · intro g p st
    refine ⟨rfl, fun h => if_pos h, fun h hp => if_neg (by simp [h]; omega)⟩
  · intro s g
    refine ⟨fun h => if_pos h, fun h hf => ?_, fun h hf => ?_⟩
    · rw [State.groupAnswered, if_neg (by simp [h]), if_pos hf]
    · rw [State.groupAnswered, if_neg (by simp [h]), if_neg (by simp [hf])]
  · intro die s h
    cases hr : s.dir.running with
    | none => simp [execPrepareAnswer, execPrepareTimeout, hr]
    | some g => simp [execPrepareAnswer, execPrepareTimeout, hr, h g hr]
  · rintro T e s u g hr hs hT rfl rfl
    rw [exec_groupApply, execGroupApply, hr]
    dsimp only
    rw [hT]
    dsimp only
    rw [if_neg (by simp [hs]), State.groupCommit]
  · intro s h
    rw [exec_groupApply, execGroupApply]
    cases hr : s.dir.running with
    | none => rfl
    | some g =>
      dsimp only
      rw [h g hr]

end Sys2Proof.Machine
end

section
/-! PROOF of read groups and of the limits of single requests (R130, R134, R139, R142, R168, R171). -/
set_option Elab.async false
namespace Sys2Proof.Machine

/-! ### A read group begins -/

/-- A read group whose entries pass their checks waits for its capture time. -/
theorem State.serveReadGroup_ok {t : State} {req : Requester} {es : List GroupRead} (hne : es ≠ []) (hlen : es.length ≤ 64)
    (hall : ∀ e ∈ es, t.checkRead req e.idx e.sub e.view = Status.ok) :
    t.serveReadGroup req es =
      (let u := t.useFree.each ((es.map (fun e => t.dieOf e.idx)).eraseDups) (fun v d => v.demandWake d)
       { u with dir := { u.dir with
          reads := u.dir.reads.takeWhile (fun r => decide (r.captureT ≤ t.captureTime)) ++
            ({ req := req, entries := es, captureT := t.captureTime } : ReadGroup) :: u.dir.reads.dropWhile (fun r => decide (r.captureT ≤ t.captureTime)) } }) := by
  have hfind : (es.zipIdx 1).find? (fun e => decide (t.checkRead req e.1.idx e.1.sub e.1.view ≠ Status.ok)) = none := by
    rw [List.find?_eq_none]
    intro e he
    simpa using hall e.1 (List.fst_mem_of_mem_zipIdx he)
  unfold State.serveReadGroup
  rw [if_neg (by simp [hne]; omega), hfind]

theorem State.captureTime_bounds (s : State) : s.now + us 20 ≤ s.captureTime ∧ s.captureTime ≤ s.now + us 520 := by
  have h : Config.freeNat s.free % (us 500 + 1) < us 500 + 1 := Nat.mod_lt _ (Nat.succ_pos _)
  simp only [State.captureTime, us] at h ⊢
  omega

/-! ### Its values -/

/-- A read group that meets a refusal returns no value. -/
theorem State.captureEach_refused (req : Requester) (es : List GroupRead) (s : State) (n : Nat) (vs : List (List Byte)) :
    (s.captureEach req n es vs).1.1 ≠ Status.ok → (s.captureEach req n es vs).1.2.2 = [] := by
  induction es generalizing s n vs with
  | nil => exact fun h => absurd rfl h
  | cons e es ih =>
    unfold State.captureEach
    dsimp only
    split_ifs with h
    · exact fun _ => rfl
    · exact ih _ _ _

/-- A read group's answer, by what its capture found. -/
theorem State.captureRead_cases (s : State) (g : ReadGroup) : ∃ (st pos : Nat) (vs : List (List Byte)) (u : State),
    (s.arriveAt g.captureT).captureEach g.req 1 g.entries [] = ((st, pos, vs), u) ∧
    (st = Status.ok → (vs.map List.length).sum ≤ 4096 →
      s.captureRead g = u.useFree.answer g.req 4 Status.ok pos (vs.flatMap groupValue) 0 0 (vs.flatMap groupValue).length) ∧
    (st = Status.ok → 4096 < (vs.map List.length).sum → s.captureRead g = u.useFree.answer g.req 4 Status.typeLength 0 [] 0 0 0) ∧
    (st ≠ Status.ok → s.captureRead g = u.useFree.answer g.req 4 st pos [] 0 0 0) := by
  have hempty := State.captureEach_refused g.req g.entries (s.arriveAt g.captureT) 1 []
  rcases hc : (s.arriveAt g.captureT).captureEach g.req 1 g.entries [] with ⟨⟨st, pos, vs⟩, u⟩
  rw [hc] at hempty
  refine ⟨st, pos, vs, u, rfl, fun hok hle => ?_, fun hok hlt => ?_, fun hne => ?_⟩
  · rw [State.captureRead, hc]
    dsimp only
    rw [if_neg (by omega), hok]
  · rw [State.captureRead, hc]
    exact if_pos hlt
  · obtain rfl : vs = [] := hempty hne
    rw [State.captureRead, hc]
    rfl

/-! ### A write to a reserved entry -/

theorem State.entryReserved_of_running {s t : State} (h : t.dir.running = s.dir.running) (idx sub : Nat) :
    t.entryReserved idx sub = s.entryReserved idx sub := by
  simp only [State.entryReserved, h]

/-- A waiting write whose entry is reserved goes on waiting. -/
theorem State.settleRequests_of_reserved {s : State} {w : WaitingRequest} {idx sub : Nat} {data : List Byte} (hb : s.dir.blocked = [w])
    (hw : w.request = .write idx sub data) (ha : w.accepted = true) (hr : s.entryReserved idx sub = true) : s.settleRequests = s := by
  have hc : s.canResume w = false := by simp [State.canResume, hw, ha, hr]
  simp [State.settleRequests, State.drain, hb, hc]

theorem State.submit_reserved {req : Requester} {idx sub : Nat} {data : List Byte} {s t : State} (ho : s.transportOpen req = true)
    (hop : s.operational = true) (hs : s.health.succession = false) (ht : s.takeRequest req (.write idx sub data) = (true, t))
    (hst : s.writeStatus req idx sub data = Status.ok) (hi : idx ≠ 0x1F12) (hres : s.entryReserved idx sub = true) (hb : s.dir.blocked = []) :
    s.submit req (.write idx sub data) = { t.demandWake (t.dieOf idx) with dir := { (t.demandWake (t.dieOf idx)).dir with
      blocked := [{ req := req, request := .write idx sub data, accepted := true }] } } := by
  obtain ⟨x, hx⟩ := State.takeRequest_shape s req (.write idx sub data)
  rw [ht] at hx
  subst hx
  have hd : (State.demandWake { s with insts := x } (s.dieOf idx)).dir = s.dir :=
    (State.demandWake_eff { s with insts := x } (s.dieOf idx) (Eff.refl 134217920 _) rfl).dir_eq
  have hdie : State.dieOf { s with insts := x } idx = s.dieOf idx := rfl
  have hst' := (State.writeStatus_insts s x req idx sub data).trans hst
  have hres' : State.entryReserved { s with insts := x } idx sub = true := hres
  have hsucc : State.operational { s with insts := x } = true := hop
  rw [State.submit_taken ho (requestFits_write _ _ _ _) ht, State.serveTop]
  dsimp only
  rw [if_neg (by simp [hi]), State.serve]
  dsimp only
  rw [if_neg (by simp [hs, hsucc]), State.serveWrite]
  dsimp only
  rw [if_neg (by simp [hst']), if_pos hres', hdie, hd, hb]
  refine State.settleRequests_of_reserved (w := { req := req, request := .write idx sub data, accepted := true }) rfl rfl rfl ?_
  exact (State.entryReserved_of_running rfl idx sub).trans hres

/-! ### A request whose die does not answer -/

/-- The transport timeout of a request that its transport takes. -/
theorem transportTimeout_taken {req : Requester} {r : DirRequest} {s t : State} (ho : s.transportOpen req = true) (hf : requestFits req r = true)
    (hop : s.operational = true) (hs : s.health.succession = false) (ht : s.takeRequest req r = (true, t)) :
    (∀ idx sub v, r = .read idx sub v → s.checkRead req idx sub v = Status.ok → exec (.transportTimeout req r) s =
      .next (let u := t.demandWake (s.dieOf idx); (u.arriveAt (u.now + ms (u.cfg 0x1F14 0))).answer req 1 Status.timeout 0 [] idx sub 0)) ∧
    (∀ idx sub data, r = .write idx sub data → s.writeStatus req idx sub data = Status.ok → idx ≠ 0x1F12 → s.entryReserved idx sub = false →
      exec (.transportTimeout req r) s = .next (let u := t.demandWake (s.dieOf idx)
        let w := if Config.freeBool u.free then (u.useFree.writeEntry req idx sub data).2 else u.useFree
        (w.arriveAt (w.now + ms (w.cfg 0x1F14 0))).answer req 2 Status.timeout 0 [] idx sub 0)) ∧
    (∀ idx sub f, r = .describe idx sub → lookup s.part idx sub = some f → exec (.transportTimeout req r) s =
      .next (let u := t.demandWake (s.dieOf idx); (u.arriveAt (u.now + ms (u.cfg 0x1F14 0))).answer req 3 Status.timeout 0 [] idx sub 0)) := by
  have hx : ¬ ((!s.transportOpen req) = true ∨ (!requestFits req r) = true ∨ (!s.operational) = true ∨ s.health.succession = true) := by
    simp [ho, hf, hop, hs]
  refine ⟨?_, ?_, ?_⟩
  · rintro idx sub v rfl hc
    rw [exec_transportTimeout, execTransportTimeout]
    dsimp only
    rw [if_neg hx, ht]
    simp [hc]
  · rintro idx sub data rfl hc hi hres
    rw [exec_transportTimeout, execTransportTimeout]
    dsimp only
    rw [if_neg hx, ht]
    simp [hc, hi, hres]
  · rintro idx sub f rfl hc
    rw [exec_transportTimeout, execTransportTimeout]
    dsimp only
    rw [if_neg hx, ht]
    simp [hc]

theorem requestFits_of_ne_mcan {req : Requester} (h : req ≠ .mcan) (r : DirRequest) : requestFits req r = true := by
  cases req with
  | mcan => exact absurd rfl h
  | _ => rfl

/-- Settles O20: a read group waits, is captured and is answered; a request whose die is silent times out; a reserved entry's write waits. -/
theorem readGroupsAndWaits : Obligations.ReadGroupsAndWaits := by
  unfold Obligations.ReadGroupsAndWaits
  refine ⟨?_, ?_, ?_, State.captureRead_cases, ?_, ?_, ?_, ?_, ?_⟩
  · rintro req es s t u ho hreq hop hs hb ht hne hlen hall rfl
    obtain ⟨x, hx⟩ := State.takeRequest_shape s req (.readGroup es)
    rw [ht] at hx
    subst hx
    have hop' : State.operational { s with insts := x } = true := hop
    refine ⟨_, (State.captureTime_bounds _).1, (State.captureTime_bounds _).2, ?_⟩
    rw [exec_readGroup, execReadGroup, State.submit_taken ho (requestFits_of_ne_mcan hreq _) ht]
    unfold State.serveTop State.serve
    dsimp only
    rw [if_neg (by simp [hs, hop']), State.serveReadGroup_ok hne hlen hall, State.settleRequests_of_none]
    dsimp only
    rw [State.each_demandWake_dir]
    exact hb
  · intro s g gs hg
    refine ⟨fun hs => ?_, fun u hs hu hmem => ?_, fun u hs hu hmem => ?_⟩
    · rw [exec_readGroupCapture, execReadGroupCapture, hg]
      exact if_pos hs
    · subst hu
      rw [exec_readGroupCapture, execReadGroupCapture, hg]
      dsimp only
      rw [if_neg (by simp [hs]), if_pos (by simpa using hmem)]
    · subst hu
      rw [exec_readGroupCapture, execReadGroupCapture, hg]
      dsimp only
      rw [if_neg (by simp [hs]), if_neg (by simpa using hmem)]
  · intro s g T t hr hT
    refine ⟨fun h => ?_, fun h => ?_⟩
    · simp [State.commitBy, hr, hT, h]
    · simp [State.commitBy, hr, hT, h]
  · intro s h
    rw [exec_readGroupCapture, execReadGroupCapture, h]
  · rintro req idx sub v s t u ho hf hop hs ht hc rfl
    exact (transportTimeout_taken ho hf hop hs ht).1 idx sub v rfl hc
  · rintro req idx sub data s t u w ho hop hs ht hc hi hres rfl rfl
    exact (transportTimeout_taken ho (requestFits_write _ _ _ _) hop hs ht).2.1 idx sub data rfl hc hi hres
  · rintro req idx sub f s t u ho hreq hop hs ht hl rfl
    exact (transportTimeout_taken ho (requestFits_of_ne_mcan hreq _) hop hs ht).2.2 idx sub f rfl hl
  · rintro req idx sub data s t u ho hop hs ht hc hi hres hb rfl
    rw [exec_write, execWrite, State.submit_reserved ho hop hs ht hc hi hres hb]

end Sys2Proof.Machine
end

section
/-! PROOF of the ring commands as admitted writes (R137, R178 to R182). -/
set_option Elab.async false
namespace Sys2Proof.Machine

theorem State.draftWrite_busy {u : State} (h : u.draftBusy = true) {sub : Nat} {v : Val} (hv : sub = 3 → 1 ≤ v.toInt.toNat ∧ v.toInt.toNat ≤ 3) :
    u.draftWrite sub v = (Status.busy, u) := by
  rw [State.draftWrite, if_neg (by rintro ⟨h3, hr⟩; have := hv h3; omega), if_pos h]

theorem State.draftWrite_free {u : State} (h : u.draftBusy = false) {sub : Nat} {v : Val} (hv : sub = 3 → 1 ≤ v.toInt.toNat ∧ v.toInt.toNat ≤ 3) :
    u.draftWrite sub v = u.draftEffect sub v := by
  rw [State.draftWrite, if_neg (by rintro ⟨h3, hr⟩; have := hv h3; omega), if_neg (by simp [h])]

/-- A commit that starts. -/
theorem State.commitWrite_starts {u : State} {v : Nat} (hv : v ≤ 600 ∨ v = 0xFFFF) (hp : u.ringPhase = 0) (hver : u.versionHigh < u.reg 0x2111 1) :
    ∃ t : State, u.commitWrite v = (Status.pending, t) ∧ t.ringPhase = 1 ∧
      (∃ w, t.ringWork = some w ∧ w.decided = false ∧ w.prepareAt = u.now ∧ w.timeoutS = (if v = 0xFFFF then 30 else v) ∧
        w.values = u.draft ∧ w.version = u.reg 0x2111 1 ∧ w.label = u.regBytes 0x2111 2) ∧
      SameRings u t ∧ SameMemory u t ∧ SameLiveBut u t [0x211006] := by
  unfold State.commitWrite
  rw [if_neg (by omega), if_neg (by simp [hp]), if_neg (by omega)]
  exact ⟨_, rfl, State.reg_setReg_self _ _ _ _, ⟨_, rfl, rfl, rfl, rfl, rfl, rfl, rfl⟩, ⟨rfl, rfl, rfl⟩, SameMemory.of_eq rfl rfl,
    (SameLiveBut.of_live rfl rfl rfl).setLive _ (by decide)⟩

/-- A return that starts. -/
theorem State.startReturn_spec (u : State) (reason : Nat) : (u.startReturn reason).ringPhase = 3 ∧ (u.startReturn reason).reg 0x2110 7 = 0 ∧
    (u.startReturn reason).ringWork = some { decided := true, commitT := u.now + us 20, cause := reason, prepareAt := u.now } ∧
    SameRings u (u.startReturn reason) ∧ SameLiveBut u (u.startReturn reason) [0x211006, 0x211007] := by
  unfold State.startReturn
  refine ⟨?_, State.reg_setReg_self _ _ _ _, rfl, ⟨rfl, rfl, rfl⟩,
    ((SameLiveBut.of_live rfl rfl rfl).setLive _ (by decide)).setLive _ (by decide)⟩
  rw [State.ringPhase, State.reg_setReg_of_ne _ _ _ _ _ _ (by decide), State.reg_setReg_self]

theorem State.returnWrite_one {u : State} : (u.ringPhase = 0 ∨ (u.ringPhase = 2 ∧ u.reg 0x2110 7 ≠ u.now) → u.previous ≠ none →
      u.returnWrite 1 = (Status.pending, u.startReturn 4)) ∧
    (u.ringPhase = 0 ∨ u.ringPhase = 2 → u.previous = none → u.returnWrite 1 = (Status.deniedAccess, u)) ∧
    (u.ringPhase = 1 → u.returnWrite 1 = (Status.busy, u)) := by
  refine ⟨fun hp hprev => ?_, fun hp hprev => ?_, fun hp => ?_⟩
  · have h3 : u.ringPhase ≠ 3 := by omega
    have hb : u.draftBusy = false := by simp [State.draftBusy]; omega
    unfold State.returnWrite
    dsimp only
    rw [if_neg (by decide), if_neg (fun h => h3 h.1), if_neg (by simp [hb]), if_neg hprev, if_neg (by rintro ⟨h2, h7, -⟩; omega)]
  · have h3 : u.ringPhase ≠ 3 := by omega
    have hb : u.draftBusy = false := by simp [State.draftBusy]; omega
    unfold State.returnWrite
    dsimp only
    rw [if_neg (by decide), if_neg (fun h => h3 h.1), if_neg (by simp [hb]), if_pos hprev]
  · have h3 : u.ringPhase ≠ 3 := by omega
    have hb : u.draftBusy = true := by simp [State.draftBusy, hp]
    unfold State.returnWrite
    dsimp only
    rw [if_neg (by decide), if_neg (fun h => h3 h.1), if_pos hb]

theorem State.liveAt_setRegBytes_of_ne {s : State} {i k j l : Nat} {v : List Byte} (h : entryKey i k ≠ entryKey j l) :
    (s.setRegBytes i k v).liveAt j l = s.liveAt j l := by
  rw [State.setRegBytes, State.liveAt_setLive, if_neg h]

/-- An image that passes its checks becomes the draft. -/
theorem State.loadDraft_ok {u : State} {img : List Byte} (h : (u.ringImageCheck img).1 = Status.ok) :
    ∃ t : State, u.loadDraft img = (Status.ok, t) ∧ t.draft = u.ringImageValues img ∧ t.active = u.active ∧
      t.reg 0x2111 1 = field img 8 4 ∧ t.regBytes 0x2111 2 = slice img 0xC 8 ∧ SameLiveBut u t [0x211101, 0x211102, 0x211105] := by
  unfold State.loadDraft
  dsimp only
  rw [if_neg (by simp [h])]
  refine ⟨_, rfl, rfl, rfl, ?_, ?_, ?_⟩
  · exact (State.reg_of_liveAt (State.liveAt_setRegBytes_of_ne (by decide))).trans (State.reg_setReg_self _ _ _ _)
  · rw [State.setRegBytes, State.regBytes, State.liveAt_setLive, if_pos rfl]
    rfl
  · exact SameLiveBut.setLive (SameLiveBut.setLive (((SameLiveBut.refl u _).setLive _ (by decide)).trans_live rfl rfl rfl) _ (by decide)) _ (by decide)

/-! ### The obligation -/

/-- Settles O21: each command is the handler of its entry, by phase, version and what is held. -/
theorem ringCommands : Obligations.RingCommands := by
  unfold Obligations.RingCommands
  refine ⟨?_, ?_, ?_, ?_, ?_⟩
  · rintro req v s u hv ha rfl hrange
    simp only [ringCommit_admits req v s hv ha]
    generalize s.admitted req 0x2112 1 (leBytes 2 v) = u
    refine ⟨fun hp hver => ?_, fun hp => ?_, fun hp hver => ?_⟩
    · obtain ⟨t, ht, hrest⟩ := State.commitWrite_starts hrange hp hver
      exact ⟨t, by rw [ht], hrest⟩
    · rw [State.commitWrite, if_neg (by omega), if_pos hp]
    · rw [State.commitWrite, if_neg (by omega), if_neg (by simp [hp]), if_pos hver]
  · rintro req v s u hv ha rfl
    simp only [ringConfirm_admits req v s hv ha]
    generalize s.admitted req 0x2112 2 (leBytes 4 v) = u
    refine ⟨fun hp ht he => ?_, fun hp ht he => ?_, fun h => ?_⟩
    · rw [State.confirmWrite, if_neg (by omega), if_neg (by simp [he])]
    · rw [State.confirmWrite, if_neg (by omega), if_pos he]
    · rw [State.confirmWrite, if_pos h]
  · rintro req s u ha rfl
    simp only [ringReturn_admits req 1 s (by decide) ha]
    generalize s.admitted req 0x2112 3 (leBytes 1 1) = u
    obtain ⟨hstart, hnone, hbusy⟩ := State.returnWrite_one (u := u)
    refine ⟨fun hp hprev => ?_, fun hp hprev => by rw [hnone hp hprev], fun hp => by rw [hbusy hp]⟩
    obtain ⟨h1, h2, h3, h4, h5⟩ := u.startReturn_spec 4
    exact ⟨u.startReturn 4, by rw [hstart hp hprev], h1, h2, ⟨_, h3, rfl, rfl⟩, h4, h5⟩
  · rintro req v s u hlo hhi ha rfl
    simp only [draftReset_admits req v s (by omega) ha]
    generalize s.admitted req 0x2111 3 (leBytes 1 v) = u
    have hv : 3 = 3 → 1 ≤ (Val.num v).toInt.toNat ∧ (Val.num v).toInt.toNat ≤ 3 := fun _ => ⟨by simpa [Val.toInt] using hlo, by simpa [Val.toInt] using hhi⟩
    refine ⟨fun hb => by rw [State.draftWrite_busy hb hv], fun hb => ?_⟩
    rw [State.draftWrite_free hb hv]
    refine ⟨?_, ?_, ?_, ?_⟩
    · rintro rfl; rfl
    · rintro rfl; rfl
    · rintro r rfl hr
      simp [State.draftEffect, State.resetDraft, Val.toInt, hr]
    · rintro rfl hr
      simp [State.draftEffect, State.resetDraft, Val.toInt, hr]
  · rintro req img s u ha rfl
    simp only [draftImage_admits req img s ha]
    generalize s.admitted req 0x2111 4 img = u
    have hv : 4 = 3 → 1 ≤ (Val.bytes img).toInt.toNat ∧ (Val.bytes img).toInt.toNat ≤ 3 := fun h => absurd h (by decide)
    have hload : u.draftEffect 4 (.bytes img) = u.loadDraft img := rfl
    refine ⟨fun hb => by rw [State.draftWrite_busy hb hv], fun hb hok => ?_, fun hb hbad => ?_⟩
    · obtain ⟨t, ht, hrest⟩ := State.loadDraft_ok hok
      exact ⟨t, by rw [State.draftWrite_free hb hv, hload, ht], hrest⟩
    · rw [State.draftWrite_free hb hv, hload, State.loadDraft, if_pos hbad]

end Sys2Proof.Machine
end

section
/-! PROOF of the outcome of a commit and of a return (R180, R182 to R184, R187, R189). -/
set_option Elab.async false
namespace Sys2Proof.Machine

/-! ### A commit is decided -/

theorem State.ringDecide_of_refused {s : State} {w : RingWork} {r : Refused} (hw : s.ringWork = some w)
    (h : lowestRefused (w.timedOut.filterMap (fun d => (w.asked.find? (fun a => a.1 = d)).map (fun a =>
      ({ status := Status.timeout, idx := a.2.1, sub := a.2.2 } : Refused))) ++ s.refusals w.values) = some r) :
    s.ringDecide = ((s.claimsStopped w.values).foldl (fun (t : State) c => t.securityEvent 1 c.1 c.2) s).ringFails r := by
  rw [State.ringDecide, hw]
  dsimp only
  rw [h]

/-- A refused commit: nothing applied, its reason shown. -/
theorem State.ringFails_spec (s : State) (r : Refused) : (s.ringFails r).ringWork = none ∧ (s.ringFails r).ringPhase = 0 ∧
    (s.ringFails r).reg 0x2110 9 = r.status ∧ (s.ringFails r).reg 0x2110 0xA = r.idx ∧ (s.ringFails r).reg 0x2110 0xB = r.sub := by
  have hreg : ∀ (t : State) a b k, k % 256 ≠ 0x12 → (t.ringEvent a b).reg 0x2110 k = t.reg 0x2110 k := fun t a b k hk => State.reg_event _ _ _ _ _ _ _ _ _ _ hk
  have hne : ∀ (t : State) a b v, a ≠ b → a < 256 → b < 256 → (t.setReg 0x2110 a v).reg 0x2110 b = t.reg 0x2110 b := fun t a b v h ha hb =>
    State.reg_setReg_of_ne _ _ _ _ _ _ (by simp only [entryKey]; omega)
  unfold State.ringFails
  refine ⟨?_, ?_, ?_, ?_, ?_⟩
  · exact (State.ringEvent_eff _ 5 _ (Eff.refl 17593261891712 _) rfl).ringWork_eq
  · rw [State.ringPhase, hreg _ _ _ _ (by decide), State.reg_setReg_self]
  · rw [hreg _ _ _ _ (by decide), hne _ _ _ _ (by decide) (by decide) (by decide), hne _ _ _ _ (by decide) (by decide) (by decide),
      hne _ _ _ _ (by decide) (by decide) (by decide), State.reg_setReg_self]
  · rw [hreg _ _ _ _ (by decide), hne _ _ _ _ (by decide) (by decide) (by decide), hne _ _ _ _ (by decide) (by decide) (by decide),
      State.reg_setReg_self]
  · rw [hreg _ _ _ _ (by decide), hne _ _ _ _ (by decide) (by decide) (by decide), State.reg_setReg_self]

/-! ### Uptake leaves the rings -/

/-- What the subsystems take up at T, and the event of it, leave the rings and the clock. -/
theorem State.ringUptake_keeps (u old : State) (reason version : Nat) :
    let t := (u.ringUptake old).ringEvent reason version
    SameRings u t ∧ t.ringWork = u.ringWork ∧ t.now = u.now := by
  have he := State.ringEvent_eff (u.ringUptake old) reason version (State.ringUptake_eff u old (Eff.refl 23432807851200 u) rfl) rfl
  exact ⟨SameRings.of_eff he, he.ringWork_eq, he.now_eq⟩

/-! ### The values of a return -/

theorem Tab.mem_map_of_find? {α : Type} {t : Tab α} {k : Nat} {v : α} (h : Tab.find? t k = some v) : k ∈ t.map (·.1) := by
  induction t with
  | nil => simp [Tab.find?] at h
  | cons e t ih =>
    simp only [Tab.find?] at h
    split at h
    · next he => simp_all
    · exact List.mem_cons_of_mem _ (ih h)

/-- A key at which two rings differ is listed among their differences. -/
theorem mem_diffKeys {a b : Tab Val} {k : Nat} (h : Tab.find? a k ≠ Tab.find? b k) : k ∈ diffKeys a b := by
  simp only [diffKeys, List.mem_filter, List.mem_eraseDups, List.map_append, List.mem_append, decide_eq_true_eq]
  refine ⟨?_, h⟩
  cases ha : Tab.find? a k with
  | some v => exact .inl (Tab.mem_map_of_find? ha)
  | none =>
    cases hb : Tab.find? b k with
    | some v => exact .inr (Tab.mem_map_of_find? hb)
    | none => exact absurd (ha.trans hb.symm) h

/-- One entry of a return: out of service it keeps the active value. -/
def State.returnEntry (s : State) (t : Tab Val) (k : Nat) : Tab Val :=
  if s.serviceStatus (k / 256) = Status.hwFault then
    match Tab.find? s.active k with | none => Tab.erase t k | some v => Tab.put t k v
  else t

theorem State.find?_returnEntry (s : State) (t : Tab Val) (k j : Nat) : Tab.find? (s.returnEntry t k) j =
    if k = j ∧ s.serviceStatus (j / 256) = Status.hwFault then Tab.find? s.active j else Tab.find? t j := by
  unfold State.returnEntry
  by_cases hs : s.serviceStatus (k / 256) = Status.hwFault
  · rw [if_pos hs]
    have hj : (k = j ∧ s.serviceStatus (j / 256) = Status.hwFault) ↔ k = j := ⟨fun h => h.1, fun h => ⟨h, h ▸ hs⟩⟩
    cases ha : Tab.find? s.active k with
    | none =>
      refine (Tab.find?_erase _ _ _).trans ?_
      simp only [hj]
      split
      · next hk => rw [← hk, ha]
      · rfl
    | some v =>
      refine (Tab.find?_put _ _ _ _).trans ?_
      simp only [hj]
      split
      · next hk => rw [← hk, ha]
      · rfl
  · rw [if_neg hs, if_neg]
    rintro ⟨rfl, h⟩
    exact hs h

theorem State.find?_foldl_returnEntry (s : State) (l : List Nat) (t : Tab Val) (j : Nat) : Tab.find? (l.foldl s.returnEntry t) j =
    if j ∈ l ∧ s.serviceStatus (j / 256) = Status.hwFault then Tab.find? s.active j else Tab.find? t j := by
  induction l generalizing t with
  | nil => simp
  | cons k l ih =>
    have hmem : j ∈ k :: l ↔ k = j ∨ j ∈ l := by rw [List.mem_cons, eq_comm]
    rw [List.foldl_cons, ih, State.find?_returnEntry]
    simp only [hmem]
    by_cases hs : s.serviceStatus (j / 256) = Status.hwFault
    · by_cases hj : j ∈ l
      · simp only [hs, hj, or_true, and_self, if_true]
      · simp only [hs, hj, or_false, and_true, if_false]
    · simp only [hs, and_false, if_false]

/-- A return gives each entry its previous value, but one out of service keeps its own. -/
theorem State.find?_returnValues (s : State) (prev : Tab Val) (k : Nat) : Tab.find? (s.returnValues prev) k =
    if s.serviceStatus (k / 256) = Status.hwFault then Tab.find? s.active k else Tab.find? prev k := by
  rw [show s.returnValues prev = (diffKeys prev s.active).foldl s.returnEntry prev from rfl, State.find?_foldl_returnEntry]
  by_cases hs : s.serviceStatus (k / 256) = Status.hwFault
  · by_cases hk : k ∈ diffKeys prev s.active
    · simp [hs, hk]
    · have he : Tab.find? prev k = Tab.find? s.active k := by
        by_contra h
        exact hk (mem_diffKeys h)
      simp [hs, hk, he]
  · simp [hs]

/-! ### A ring becomes active -/

theorem State.liveAt_copyDraft (s : State) {j k : Nat} (h1 : entryKey j k ≠ 0x211101) (h2 : entryKey j k ≠ 0x211102) :
    s.copyDraft.liveAt j k = s.liveAt j k := by
  unfold State.copyDraft
  rw [State.liveAt_setRegBytes_of_ne (Ne.symm h2), State.liveAt_setReg_of_ne (Ne.symm h1)]
  rfl

theorem State.reg_copyDraft_version (s : State) : s.copyDraft.reg 0x2111 1 = (s.versionHigh + 1) % 2 ^ 32 := by
  unfold State.copyDraft
  rw [State.reg_of_liveAt (State.liveAt_setRegBytes_of_ne (by decide)), State.reg_setReg_self]

theorem State.liveAt_showPrevious (s : State) {j k : Nat} (h3 : entryKey j k ≠ 0x211003) (h4 : entryKey j k ≠ 0x211004)
    (h5 : entryKey j k ≠ 0x211005) : s.showPrevious.liveAt j k = s.liveAt j k := by
  unfold State.showPrevious
  split
  · rw [State.liveAt_setRegBytes_of_ne (Ne.symm h5), State.liveAt_setReg_of_ne (Ne.symm h4), State.liveAt_setReg_of_ne (Ne.symm h3)]
  · rw [State.liveAt_setRegBytes_of_ne (Ne.symm h5), State.liveAt_setReg_of_ne (Ne.symm h4), State.liveAt_setReg_of_ne (Ne.symm h3)]

theorem State.showPrevious_frame (s : State) : Eff 128 s s.showPrevious := State.showPrevious_eff s (Eff.refl 128 s) rfl

/-- A ring that is made active, with the ring it replaces held: its identity and the previous ring's as shown. -/
def State.shownRing (s0 : State) (vals : Tab Val) (version : Nat) (label : List Byte) (prev : Option HeldRing) : State :=
  ({ s0.activate vals version label with previous := prev, ringWork := none } : State).showPrevious

theorem State.shownRing_spec (s0 : State) (vals : Tab Val) (version : Nat) (label : List Byte) (prev : Option HeldRing) :
    let t := s0.shownRing vals version label prev
    t.active = vals ∧ t.previous = prev ∧ t.ringWork = none ∧ t.now = s0.now ∧ t.ringVersion = version ∧ t.regBytes 0x2110 2 = label := by
  have he := State.showPrevious_frame { s0.activate vals version label with previous := prev, ringWork := none }
  refine ⟨he.active_eq, he.previous_eq, he.ringWork_eq, he.now_eq, ?_, ?_⟩
  · refine (State.reg_of_liveAt (State.liveAt_showPrevious _ (by decide) (by decide) (by decide))).trans ?_
    refine (State.reg_of_liveAt (State.liveAt_setRegBytes_of_ne (s := ({ s0 with active := vals } : State).setReg 0x2110 1 version) (by decide))).trans ?_
    exact State.reg_setReg_self _ _ _ _
  · refine (congrArg Val.toBytes (State.liveAt_showPrevious _ (by decide) (by decide) (by decide))).trans ?_
    exact congrArg Val.toBytes ((State.liveAt_setLive (({ s0 with active := vals } : State).setReg 0x2110 1 version) _ _ _ _ _).trans (if_pos rfl))

/-- The active ring copied to the draft, with the phase and the deadline that follow. -/
def State.settled (t : State) (phase deadline : Nat) : State := (t.copyDraft.setReg 0x2110 6 phase).setReg 0x2110 7 deadline

theorem State.copyDraft_frame (t : State) : t.copyDraft.active = t.active ∧ t.copyDraft.draft = t.active ∧ t.copyDraft.previous = t.previous ∧
    t.copyDraft.ringWork = t.ringWork ∧ t.copyDraft.now = t.now := by
  have he := State.copyDraft_eff t (Eff.refl 640 t) rfl
  exact ⟨he.active_eq, by simp [State.copyDraft, State.setRegBytes], he.previous_eq, he.ringWork_eq, he.now_eq⟩

theorem State.settled_frame (t : State) (p q : Nat) : (t.settled p q).active = t.active ∧ (t.settled p q).draft = t.active ∧
    (t.settled p q).previous = t.previous ∧ (t.settled p q).ringWork = t.ringWork ∧ (t.settled p q).now = t.now := t.copyDraft_frame

theorem State.liveAt_settled (t : State) (p q : Nat) {k : Nat} (hk : k < 6 ∨ (7 < k ∧ k < 256)) :
    (t.settled p q).liveAt 0x2110 k = t.liveAt 0x2110 k := by
  unfold State.settled
  rw [State.liveAt_setReg_of_ne (by simp only [entryKey]; omega), State.liveAt_setReg_of_ne (by simp only [entryKey]; omega),
    State.liveAt_copyDraft _ (by simp only [entryKey]; omega) (by simp only [entryKey]; omega)]

theorem State.settled_regs (t : State) (p q : Nat) : (t.settled p q).ringPhase = p ∧ (t.settled p q).reg 0x2110 7 = q ∧
    (t.settled p q).reg 0x2111 1 = (t.versionHigh + 1) % 2 ^ 32 := by
  refine ⟨?_, State.reg_setReg_self _ _ _ _, ?_⟩
  · rw [State.ringPhase, State.settled, State.reg_setReg_of_ne _ _ _ _ _ _ (by decide), State.reg_setReg_self]
  · rw [State.settled, State.reg_setReg_of_ne _ _ _ _ _ _ (by decide), State.reg_setReg_of_ne _ _ _ _ _ _ (by decide), State.reg_copyDraft_version]

/-- The state in which a committed ring is active, before the subsystems take its values up. -/
def State.committed (s0 : State) (w : RingWork) : State :=
  (((s0.shownRing w.values w.version w.label (some { version := s0.ringVersion, label := s0.regBytes 0x2110 2, values := s0.active })).setReg
    0x2110 8 w.version).setReg 0x2110 9 (if w.degraded then Status.degraded else Status.ok)).settled (if w.timeoutS = 0 then 0 else 2)
    (if w.timeoutS = 0 then 0 else w.commitT + sec w.timeoutS)

theorem ringApplied_eq {s : State} {w : RingWork} (hw : s.ringWork = some w) (hs : s.health.succession = false) (hp : s.ringPhase = 1)
    (hd : w.decided = true) : exec .ringApplied s =
      .next ((((s.arriveAt w.commitT).committed w).ringUptake (s.arriveAt w.commitT)).ringEvent 1 w.version) := by
  rw [exec_ringApplied, execRingApplied, hw]
  dsimp only
  rw [if_neg (by simp [hs, hp, hd])]
  by_cases ht : w.timeoutS = 0
  · simp only [State.committed, State.settled, State.shownRing, ht, if_true]
  · simp only [State.committed, State.settled, State.shownRing, ht, if_false]

theorem State.committed_spec (s0 : State) (w : RingWork) (u : State) (hu : u = s0.committed w) :
    (u.active = w.values ∧ u.draft = w.values ∧
      u.previous = some { version := s0.ringVersion, label := s0.regBytes 0x2110 2, values := s0.active } ∧ u.ringWork = none ∧ u.now = s0.now) ∧
    u.ringVersion = w.version ∧ u.versionHigh = w.version ∧ u.regBytes 0x2110 2 = w.label ∧
    u.reg 0x2110 9 = (if w.degraded then Status.degraded else Status.ok) ∧
    (w.timeoutS = 0 → u.ringPhase = 0 ∧ u.reg 0x2110 7 = 0) ∧ (w.timeoutS ≠ 0 → u.ringPhase = 2 ∧ u.reg 0x2110 7 = w.commitT + sec w.timeoutS) ∧
    u.reg 0x2111 1 = (w.version + 1) % 2 ^ 32 := by
  obtain ⟨ha, hpr, hw, hn, hv, hl⟩ := s0.shownRing_spec w.values w.version w.label
    (some { version := s0.ringVersion, label := s0.regBytes 0x2110 2, values := s0.active })
  unfold State.committed at hu
  generalize s0.shownRing w.values w.version w.label (some { version := s0.ringVersion, label := s0.regBytes 0x2110 2, values := s0.active }) = t at *
  generalize hst : (if w.degraded then Status.degraded else Status.ok) = st at *
  generalize hv' : (t.setReg 0x2110 8 w.version).setReg 0x2110 9 st = v at *
  have h8 : v.versionHigh = w.version := by
    rw [← hv', State.versionHigh, State.reg_setReg_of_ne _ _ _ _ _ _ (by decide), State.reg_setReg_self]
  have h9 : v.reg 0x2110 9 = st := by rw [← hv', State.reg_setReg_self]
  have hlow : ∀ k, k < 6 → v.liveAt 0x2110 k = t.liveAt 0x2110 k := fun k hk => by
    rw [← hv', State.liveAt_setReg_of_ne (by simp only [entryKey]; omega), State.liveAt_setReg_of_ne (by simp only [entryKey]; omega)]
  obtain ⟨f1, f2, f3, f4, f5⟩ := v.settled_frame (if w.timeoutS = 0 then 0 else 2) (if w.timeoutS = 0 then 0 else w.commitT + sec w.timeoutS)
  obtain ⟨r6, r7, r1⟩ := v.settled_regs (if w.timeoutS = 0 then 0 else 2) (if w.timeoutS = 0 then 0 else w.commitT + sec w.timeoutS)
  have hlive := fun k => @State.liveAt_settled v (if w.timeoutS = 0 then 0 else 2) (if w.timeoutS = 0 then 0 else w.commitT + sec w.timeoutS) k
  rw [← hu] at f1 f2 f3 f4 f5 r6 r7 r1 hlive
  have hva : v.active = t.active ∧ v.previous = t.previous ∧ v.ringWork = t.ringWork ∧ v.now = t.now := by rw [← hv']; exact ⟨rfl, rfl, rfl, rfl⟩
  obtain ⟨va, vp, vw, vn⟩ := hva
  refine ⟨⟨f1.trans (va.trans ha), f2.trans (va.trans ha), f3.trans (vp.trans hpr), f4.trans (vw.trans hw), f5.trans (vn.trans hn)⟩,
    ?_, ?_, ?_, ?_, fun h0 => ?_, fun h0 => ?_, by rw [r1, h8]⟩
  · exact (State.reg_of_liveAt ((hlive 1 (by decide)).trans (hlow 1 (by decide)))).trans hv
  · exact (State.reg_of_liveAt (hlive 8 (by decide))).trans h8
  · exact (congrArg Val.toBytes ((hlive 2 (by decide)).trans (hlow 2 (by decide)))).trans hl
  · exact (State.reg_of_liveAt (hlive 9 (by decide))).trans h9
  · rw [r6, r7, if_pos h0, if_pos h0]; exact ⟨rfl, rfl⟩
  · rw [r6, r7, if_neg h0, if_neg h0]; exact ⟨rfl, rfl⟩

/-- The state in which the previous ring is active again, before the subsystems take its values up. -/
def State.returned (s0 : State) (w : RingWork) (r : HeldRing) : State :=
  let vals := s0.returnValues r.values
  (((s0.shownRing vals r.version r.label none).setReg 0x2110 9 (if vals ≠ r.values ∨ w.degraded then Status.degraded else Status.ok)).settled
    0 0).inc 0x2110 0xC

theorem returnApplied_eq {s : State} {w : RingWork} {r : HeldRing} (hw : s.ringWork = some w) (hr : s.previous = some r)
    (hs : s.health.succession = false) (hp : s.ringPhase = 3) : exec .returnApplied s =
      .next ((((s.arriveAt w.commitT).returned w r).ringUptake (s.arriveAt w.commitT)).ringEvent w.cause s.ringVersion) := by
  rw [exec_returnApplied, execReturnApplied, hw, hr]
  exact if_neg (by simp [hs, hp])

theorem State.returned_spec (s0 : State) (w : RingWork) (r : HeldRing) (u : State) (hu : u = s0.returned w r) :
    u.active = s0.returnValues r.values ∧ u.draft = u.active ∧ u.previous = none ∧ u.ringWork = none ∧ u.now = s0.now ∧
    u.ringVersion = r.version ∧ u.ringPhase = 0 ∧ u.reg 0x2110 7 = 0 := by
  obtain ⟨ha, hpr, hw, hn, hv, -⟩ := s0.shownRing_spec (s0.returnValues r.values) r.version r.label none
  unfold State.returned at hu
  dsimp only at hu
  generalize s0.shownRing (s0.returnValues r.values) r.version r.label none = t at *
  generalize (if s0.returnValues r.values ≠ r.values ∨ w.degraded = true then Status.degraded else Status.ok) = st at *
  obtain ⟨f1, f2, f3, f4, f5⟩ := (t.setReg 0x2110 9 st).settled_frame 0 0
  obtain ⟨r6, r7, -⟩ := (t.setReg 0x2110 9 st).settled_regs 0 0
  have hlive := @State.liveAt_settled (t.setReg 0x2110 9 st) 0 0 1 (by decide)
  generalize (t.setReg 0x2110 9 st).settled 0 0 = v at *
  have hinc : ∀ k, k < 0xC → u.liveAt 0x2110 k = v.liveAt 0x2110 k := fun k hk => by
    rw [hu, State.inc, State.count, State.liveAt_setReg_of_ne (by simp only [entryKey]; omega)]
  have huv : u.active = v.active ∧ u.draft = v.draft ∧ u.previous = v.previous ∧ u.ringWork = v.ringWork ∧ u.now = v.now := by
    rw [hu]; exact ⟨rfl, rfl, rfl, rfl, rfl⟩
  obtain ⟨u1, u2, u3, u4, u5⟩ := huv
  refine ⟨u1.trans (f1.trans ha), u2.trans (f2.trans (f1.symm.trans u1.symm)), u3.trans (f3.trans hpr), u4.trans (f4.trans hw),
    u5.trans (f5.trans hn), ?_, (State.reg_of_liveAt (hinc 6 (by decide))).trans r6, (State.reg_of_liveAt (hinc 7 (by decide))).trans r7⟩
  refine (State.reg_of_liveAt ((hinc 1 (by decide)).trans (hlive.trans ?_))).trans hv
  exact State.liveAt_setReg_of_ne (by decide)

/-! ### The obligation -/

/-- Settles O22: a commit decided, applied or refused, and a return, by the equations of their commands. -/
theorem ringOutcomes : Obligations.RingOutcomes := by
  unfold Obligations.RingOutcomes
  refine ⟨?_, ?_, ?_, ?_, ?_, ?_, ?_, ?_, fun s prev k h => ?_, fun s prev k h => ?_, ?_⟩
  · intro s w hw hs hp hd ht hr
    rw [exec_ringPrepareDone, execRingPrepareDone, hw]
    dsimp only
    rw [if_neg (by simp [hs, hp, hd]), State.ringDecide, hw]
    dsimp only
    rw [ht, hr]
    rfl
  · intro s w r hw hs hp hd hr
    have hx : execRingPrepareDone s = .next s.ringDecide := by
      rw [execRingPrepareDone, hw]
      exact if_neg (by simp [hs, hp, hd])
    obtain ⟨t, ht, he⟩ := execRingPrepareDone_eff s
    obtain rfl := Host.Outcome.next.inj (hx.symm.trans ht)
    rw [State.ringDecide_of_refused hw hr] at ht he
    obtain ⟨h1, h2, h3, h4, h5⟩ := State.ringFails_spec ((s.claimsStopped w.values).foldl (fun (t : State) c => t.securityEvent 1 c.1 c.2) s) r
    exact ⟨_, ht, h1, h2, h3, h4, h5, SameRings.of_eff he, he.mem_eq⟩
  · intro die d2 ds s w hw hs hp hd hmem he
    rw [exec_ringPrepareTimeout, execRingPrepareTimeout, hw]
    dsimp only
    rw [if_neg (by simp [hs, hp, hd, hmem]), he, if_neg (by simp)]
  · intro die s w hw hs hp hd hmem he
    rw [exec_ringPrepareTimeout, execRingPrepareTimeout, hw]
    dsimp only
    rw [if_neg (by simp [hs, hp, hd, hmem]), he, if_pos rfl]
  · intro s w hw hs hp hd
    obtain ⟨⟨ha, hdr, hpr, hwk, hn⟩, hv, hvh, hl, h9, h0, h2, h1⟩ := State.committed_spec (s.arriveAt w.commitT) w _ rfl
    obtain ⟨⟨ka, kd, kp⟩, kw, kn⟩ := State.ringUptake_keeps ((s.arriveAt w.commitT).committed w) (s.arriveAt w.commitT) 1 w.version
    exact ⟨_, _, ringApplied_eq hw hs hp hd, rfl, ka.trans ha, kd.trans hdr, kp.trans hpr, kw.trans hwk,
      ha, hv, hvh, hl, h9, h0, h2, h1, kn.trans hn⟩
  · intro s hs hp h7
    rw [exec_confirmDeadlineExpiry, execConfirmDeadlineExpiry, if_neg (by simp [hs, hp, h7])]
  · intro s reason
    obtain ⟨h1, h2, h3, h4, -⟩ := s.startReturn_spec reason
    exact ⟨h1, h2, h3, h4⟩
  · intro s w r hw hr hs hp
    obtain ⟨ha, hdr, hpr, hwk, hn, hv, h6, h7⟩ := State.returned_spec (s.arriveAt w.commitT) w r _ rfl
    obtain ⟨⟨ka, kd, kp⟩, kw, kn⟩ := State.ringUptake_keeps ((s.arriveAt w.commitT).returned w r) (s.arriveAt w.commitT) w.cause s.ringVersion
    exact ⟨_, _, returnApplied_eq hw hr hs hp, rfl, ka.trans ha, kd.trans (hdr.trans ka.symm), kp.trans hpr, kw.trans hwk, ka.symm, hv, h6, h7,
      kn.trans hn⟩
  · rw [State.find?_returnValues, if_neg h]
  · rw [State.find?_returnValues, if_pos h]
  · intro die s hs
    refine ⟨?_, ?_, ?_, ?_, ?_⟩
    · rw [exec_ringPrepareDone, execRingPrepareDone]
      cases s.ringWork <;> simp [hs]
    · rw [exec_ringPrepareTimeout, execRingPrepareTimeout]
      cases s.ringWork <;> simp [hs]
    · rw [exec_ringApplied, execRingApplied]
      cases s.ringWork <;> simp [hs]
    · rw [exec_confirmDeadlineExpiry, execConfirmDeadlineExpiry, if_pos (.inl hs)]
    · rw [exec_returnApplied, execReturnApplied]
      cases s.ringWork <;> cases s.previous <;> simp [hs]

end Sys2Proof.Machine
end

section
/-! PROOF of NMT, the heartbeat and the wake frame (R146, R147, R156, R158, R164, R165, R692). -/
set_option Elab.async false
namespace Sys2Proof.Machine

/-! ### A reset of communication -/

theorem State.reg_armHeartbeat (s : State) (i k : Nat) : s.armHeartbeat.reg i k = s.reg i k := rfl

theorem State.reg_sendMcan (s : State) (id : Nat) (data : List Byte) (i k : Nat) : (s.sendMcan id data).reg i k = s.reg i k := rfl

theorem State.commReset_regs (s : State) : s.commReset.nmtState = (if s.cfg 0x1F10 8 = 1 then 5 else 0x7F) ∧
    s.commReset.nodeId = s.cfg 0x1F10 5 + s.reg 0x2002 3 ∧ s.commReset.reg 0x1F11 3 = 0 := by
  have hne : ∀ (t : State) a b v, a ≠ b → a < 256 → b < 256 → (t.setReg 0x1F11 a v).reg 0x1F11 b = t.reg 0x1F11 b := fun t a b v h ha hb =>
    State.reg_setReg_of_ne _ _ _ _ _ _ (by simp only [entryKey]; omega)
  unfold State.commReset State.nmtState State.nodeId
  dsimp only
  simp only [State.reg_armHeartbeat, State.reg_sendMcan]
  refine ⟨?_, ?_, State.reg_setReg_self _ _ _ _⟩
  · rw [hne _ _ _ _ (by decide) (by decide) (by decide), State.reg_setReg_self]
    rfl
  · rw [hne _ _ _ _ (by decide) (by decide) (by decide), hne _ _ _ _ (by decide) (by decide) (by decide), State.reg_setReg_self]
    rfl

theorem State.commReset_frame (s : State) :
    s.commReset.mcan = { s.mcan with
      sessions := [], busOff := false, heartbeatDue := if s.cfg 0x1017 0 = 0 then none else some (s.now + ms (s.cfg 0x1017 0)) } ∧
    s.commReset.out = { s.out with mcan := s.out.mcan ++
      [{ identifier := 0x700 + (s.cfg 0x1F10 5 + s.reg 0x2002 3), data := [0], fdf := true, brs := decide (s.cfg 0x1F10 2 ≠ 0) }] } ∧
    SameLiveBut s s.commReset [0x1F1101, 0x1F1102, 0x1F1103] ∧ SameMemory s s.commReset ∧ SameRings s s.commReset := by
  have he := State.commReset_eff s (Eff.refl 17592187093120 s) rfl
  let s1 : State := { s with mcan := { s.mcan with sessions := [], busOff := false } }
  have hnode : (s1.setReg 0x1F11 1 (s.cfg 0x1F10 5 + s.reg 0x2002 3)).nodeId = s.cfg 0x1F10 5 + s.reg 0x2002 3 := State.reg_setReg_self _ _ _ _
  refine ⟨?_, ?_, ?_, SameMemory.of_eff he, SameRings.of_eff he⟩
  · rfl
  · refine Eq.trans ?_ (congrArg (fun n => ({ s.out with mcan := s.out.mcan ++
      [{ identifier := 0x700 + n, data := [0], fdf := true, brs := decide (s.cfg 0x1F10 2 ≠ 0) }] } : Outputs)) hnode)
    rfl
  · exact (((SameLiveBut.of_live (t := s1) rfl rfl rfl).setLive _ (by decide)).setLive _ (by decide)).setLive _ (by decide) |>.trans_live rfl rfl rfl

/-! ### The wake frame's source -/

theorem State.wakeFrom_steady {s : State} (hx : s.exitRuns = false) (he : s.entryRuns = false) :
    s.wakeFrom 2 = if s.powerState = 2 ∨ s.powerState = 3 then s.beginExit 2 else s := by
  unfold State.wakeFrom
  dsimp only
  rw [if_neg (by simp [hx]), if_neg (by simp [he])]
  exact if_congr (by simp [wakeMarked]) rfl rfl

theorem State.beginExit_spec (s : State) (source : Nat) : (s.beginExit source).reg 0x2400 3 = 3 ∧ (s.beginExit source).power.exitSource = source ∧
    (s.beginExit source).power.exitFrom = s.powerState := by
  have hps : ∀ t : State, t = (if s.powerState = 3 then s.timeResumes else s) → t.powerState = s.powerState := by
    rintro t rfl
    split <;> rfl
  unfold State.beginExit
  exact ⟨State.reg_setReg_self _ _ _ _, rfl, hps _ rfl⟩

/-! ### The obligation -/

/-- Settles O23: each command by its own condition; the wake frame is source 2. -/
theorem nmtHeartbeatWake : Obligations.NmtHeartbeatWake := by
  unfold Obligations.NmtHeartbeatWake
  refine ⟨?_, ?_, ?_, ?_, ?_, ?_, ?_, ?_, ?_⟩
  · intro node s hr hn
    have hfor : s.nmtFor node = true := by simp [State.nmtFor, hr, hn]
    refine ⟨?_, fun h4 => ?_, fun h4 => ?_, ?_, ?_⟩
    · rw [exec_nmtStart, execNmtStart, if_pos hfor]
    · rw [exec_nmtStop, execNmtStop, if_pos ⟨hfor, h4⟩]
    · rw [exec_nmtStop, execNmtStop, if_neg (fun h => h.2 h4)]
    · rw [exec_nmtResetNode, execNmtResetNode, if_pos hfor]
    · rw [exec_nmtResetCommunication, execNmtResetCommunication, if_pos hfor]
  · intro node s h
    have hfor : ¬ s.nmtFor node = true := by
      simp only [State.nmtFor, Bool.and_eq_true, decide_eq_true_eq, not_and, not_or]
      rcases h with h | h
      · simp [h]
      · exact fun _ => h
    refine ⟨?_, ?_, ?_, ?_⟩
    · rw [exec_nmtStart, execNmtStart, if_neg hfor]
    · rw [exec_nmtStop, execNmtStop, if_neg (fun h => hfor h.1)]
    · rw [exec_nmtResetNode, execNmtResetNode, if_neg hfor]
    · rw [exec_nmtResetCommunication, execNmtResetCommunication, if_neg hfor]
  · intro s
    obtain ⟨h1, h2, h3⟩ := s.commReset_regs
    exact ⟨h1, h2, h3, s.commReset_frame⟩
  · intro t s hd hr hs
    rw [exec_heartbeat, execHeartbeat, hd]
    exact if_neg (by simp [hr, hs])
  · intro s h
    rw [exec_heartbeat, execHeartbeat]
    cases hd : s.mcan.heartbeatDue with
    | none => rfl
    | some t => exact if_pos (by rcases h with h | h | h <;> simp_all)
  · intro data s hop hst hl h0 h1
    rw [exec_wakeFrame, execWakeFrame]
    exact if_pos ⟨hop, by simp [hst], by simp, by simp, rfl, by simp, hl, h0, h1⟩
  · intro id ide rtr fdf data s h
    rw [exec_wakeFrame, execWakeFrame]
    refine if_neg ?_
    rintro ⟨a1, a2, a3, a4, a5, a6, a7, a8, a9⟩
    simp only [Bool.not_eq_true'] at a2 a3 a4 a6
    rcases h with h | h | h | h | h | h | h | h | h
    · simp [a3] at h
    · simp [a4] at h
    · simp [a6] at h
    · exact h a5
    · exact h a7
    · exact h a8
    · rcases a9 with a9 | a9
      · exact h.1 a9
      · rcases h.2 with h2 | h2
        · exact h2 a9.1
        · exact h2 a9.2
    · simp [a1] at h
    · simp [a2] at h
  · intro s hx he
    refine ⟨fun hp => ?_, fun h2 h3 => ?_⟩
    · obtain ⟨b1, b2, b3⟩ := s.beginExit_spec 2
      rw [State.wakeFrom_steady hx he, if_pos hp]
      exact ⟨rfl, b1, b2, b3⟩
    · rw [State.wakeFrom_steady hx he, if_neg (by simp [h2, h3])]
  · intro s hx he ht hw
    have hm : wakeMarked 2 s.power.target = true := by simpa [wakeMarked] using ht
    have h4 : s.power.target ≠ 4 := by omega
    unfold State.wakeFrom
    dsimp only
    rw [if_neg (by simp [hx]), if_pos he, if_neg (by simp [hm, h4]), hw]
    rfl

end Sys2Proof.Machine
end

section
/-! PROOF of bus errors and EMCYs (R148, R159 to R162, R697). -/
set_option Elab.async false
namespace Sys2Proof.Machine

/-! ### The error register -/

theorem bit_succ_of_even {w n : Nat} (hw : bit w 0 = false) (hn : n ≠ 0) : bit (w + 1) n = bit w n := by
  obtain ⟨n, rfl⟩ := Nat.exists_eq_succ_of_ne_zero hn
  have h2 : w % 2 = 0 := by simpa [bit, Nat.testBit_zero] using hw
  simp only [bit, Nat.succ_eq_add_one, Nat.testBit_add_one]
  rw [show (w + 1) / 2 = w / 2 by omega]

/-- A cause set in the error register shows there, with the bit that says there is one. -/
theorem errorRegister_set (v n : Nat) (hn : n ≠ 0) : bit (errorRegister v n true) n = true ∧ bit (errorRegister v n true) 0 = true := by
  unfold errorRegister
  dsimp only
  have hset : bit (setBit (setBit v 0 false) n true) n = true := by rw [bit_setBit_eq, if_pos rfl]
  have hzero : bit (setBit (setBit v 0 false) n true) 0 = false := by rw [bit_setBit_eq, if_neg hn, bit_setBit_eq, if_pos rfl]
  generalize setBit (setBit v 0 false) n true = w at *
  have hw : w ≠ 0 := by rintro rfl; simp [bit] at hset
  rw [if_neg hw, bit_succ_of_even hzero hn]
  refine ⟨hset, ?_⟩
  simp only [bit, Nat.testBit_zero, decide_eq_true_eq, decide_eq_false_iff_not] at hzero ⊢
  omega

/-! ### The queue of EMCYs -/

/-- An EMCY raised: where it waits. -/
theorem State.queueEmcy_mcan (s : State) (e : Emcy) : (s.queueEmcy e).mcan =
    if e.code = 0xFF01 then { s.mcan with nextSequence := (s.mcan.nextSequence + 1) % 65536, replacement := some e }
    else if e.code = 0xFF02 then { s.mcan with nextSequence := (s.mcan.nextSequence + 1) % 65536, failure := some e }
    else if s.mcan.queue.length ≥ 15 then { s.mcan with nextSequence := (s.mcan.nextSequence + 1) % 65536 }
    else { s.mcan with nextSequence := (s.mcan.nextSequence + 1) % 65536, queue := s.mcan.queue ++ [e] } := by
  have hd : ∀ (t : State) (i : Nat) (r : EvRecord), (t.deliver i r).mcan = t.mcan := fun t i r =>
    (State.deliver_eff t i r (Eff.refl 17593261891712 t) rfl).mcan_eq
  unfold State.queueEmcy
  dsimp only
  rw [hd]
  split <;> rfl

theorem State.reg_queueEmcy_full (s : State) (e : Emcy) (h1 : e.code ≠ 0xFF01) (h2 : e.code ≠ 0xFF02) (hf : 15 ≤ s.mcan.queue.length) :
    (s.queueEmcy e).reg 0x1F11 5 = min (2 ^ 32 - 1) (s.reg 0x1F11 5 + 1) := by
  unfold State.queueEmcy
  dsimp only
  rw [State.reg_of_liveAt (State.liveAt_deliver _ _ _ _ _ (by decide)), if_pos ⟨h1, h2, hf⟩, State.inc, State.count, State.reg_setReg_self]
  rfl

theorem Emcy.bytes_fields (e : Emcy) : e.bytes.length = 20 ∧ field e.bytes 0 2 = e.code % 65536 ∧ field e.bytes 2 1 = e.register % 256 ∧
    field e.bytes 3 1 = e.health % 256 ∧ field e.bytes 4 2 = e.status % 65536 ∧ field e.bytes 6 1 = e.die % 256 ∧ field e.bytes 7 1 = e.cls % 256 ∧
    field e.bytes 8 2 = e.resource % 65536 ∧ field e.bytes 10 2 = e.sequence % 65536 ∧ field e.bytes 12 8 = e.time % 2 ^ 64 := by
  refine ⟨by simp [Emcy.bytes, length_leBytes], ?_, ?_, ?_, ?_, ?_, ?_, ?_, ?_, ?_⟩
  all_goals simp [Emcy.bytes, field, slice, leBytes, leNat]
  all_goals omega

/-! ### The oldest EMCY leaves -/

theorem State.nextEmcy_cases (s : State) : (s.mcan.queue = [] → s.mcan.replacement = none → s.nextEmcy = s.mcan.failure) ∧
    (∀ r, s.mcan.queue = [] → s.mcan.replacement = some r → s.nextEmcy = some r) ∧
    (∀ e es, s.mcan.queue = e :: es → s.mcan.replacement = none → s.nextEmcy = some e) ∧
    (∀ e es r, s.mcan.queue = e :: es → s.mcan.replacement = some r → s.nextEmcy = some (if s.emcyAge e < s.emcyAge r then r else e)) := by
  refine ⟨fun hq hr => ?_, fun r hq hr => ?_, fun e es hq hr => ?_, fun e es r hq hr => ?_⟩
  all_goals simp [State.nextEmcy, hq, hr]

theorem Mcan.withoutEmcy_cases (m : Mcan) (e : Emcy) : (m.replacement = some e → m.withoutEmcy e = { m with replacement := none }) ∧
    (∀ es, m.replacement ≠ some e → m.queue = e :: es → m.withoutEmcy e = { m with queue := es }) ∧
    (m.replacement ≠ some e → m.queue = [] → m.withoutEmcy e = { m with failure := none }) := by
  refine ⟨fun h => if_pos h, fun es h hq => ?_, fun h hq => ?_⟩
  · rw [Mcan.withoutEmcy, if_neg h, if_pos (by simp [hq]), hq]
    rfl
  · rw [Mcan.withoutEmcy, if_neg h, if_neg (by simp [hq])]

theorem emcySend_sends {s : State} {e : Emcy} (hn : s.nextEmcy = some e) (ho : s.emcyOpen = true) :
    ∃ t : State, exec .emcySend s = .next t ∧ t.now = (match s.mcan.lastEmcy with | none => s.now | some l => max s.now (l + ms (s.cfg 0x1F10 0xB))) ∧
      t.out = { s.out with mcan := s.out.mcan ++ [{ identifier := 0x80 + s.nodeId, data := e.bytes, fdf := true, brs := decide (s.cfg 0x1F10 2 ≠ 0) }] } ∧
      t.mcan = { s.mcan.withoutEmcy e with
        lastEmcy := some t.now
        repeatDue := if s.mcan.replacement = some e ∧ s.mcan.repeatDue = none ∧ s.healthState = 1 ∧ s.cfg 0x1F10 0xA ≠ 0
          then some (t.now + sec (s.cfg 0x1F10 0xA)) else s.mcan.repeatDue } ∧
      t.live = s.live ∧ SameMemory s t ∧ SameRings s t := by
  obtain ⟨t, ht, he⟩ := execEmcySend_eff s
  have hx := ht
  rw [execEmcySend, hn] at hx
  dsimp only at hx
  rw [if_neg (by simp [ho])] at hx
  obtain rfl := Host.Outcome.next.inj hx
  have hrearm : (((decide (s.mcan.replacement = some e) && s.mcan.repeatDue.isNone) && decide (s.healthState = 1 ∧ s.cfg 0x1F10 0xA ≠ 0)) = true) ↔
      (s.mcan.replacement = some e ∧ s.mcan.repeatDue = none ∧ s.healthState = 1 ∧ s.cfg 0x1F10 0xA ≠ 0) := by
    simp [and_assoc]
  cases hl : s.mcan.lastEmcy with
  | none =>
    rw [hl] at ht he
    refine ⟨_, ht, rfl, rfl, ?_, rfl, SameMemory.of_eff he, SameRings.of_eff he⟩
    simp only [State.sendMcan, if_congr hrearm rfl rfl]
  | some l =>
    rw [hl] at ht he
    refine ⟨_, ht, rfl, rfl, ?_, rfl, SameMemory.of_eff he, SameRings.of_eff he⟩
    simp only [State.sendMcan, if_congr hrearm rfl rfl]

/-! ### The obligation -/

/-- Settles O24: the error states, where an EMCY waits, which leaves, and the repeat of the replacement request. -/
theorem emcyAndErrors : Obligations.EmcyAndErrors := by
  unfold Obligations.EmcyAndErrors
  refine ⟨?_, ?_, ?_, ?_, ?_, fun _ _ _ _ _ _ => rfl, ?_, ?_, ?_, Emcy.bytes_fields, State.nextEmcy_cases, fun s e => emcySend_sends, ?_,
    Mcan.withoutEmcy_cases, ?_, ?_⟩
  · intro s hs
    rw [exec_mcanBusOffRecovery, execMcanBusOffRecovery, if_neg (by simp [hs])]
  · intro s hs
    rw [exec_mcanBusOffRecovery, execMcanBusOffRecovery, if_pos (by simp [hs])]
  · intro s hr
    have h2 : s.reg 0x1F11 3 ≠ 2 := by
      simp only [State.mcanRuns, Bool.and_eq_true, decide_eq_true_eq] at hr
      exact hr.2
    refine ⟨fun h => ?_, fun h => ?_, ?_⟩
    · rw [exec_mcanErrorPassive, execMcanErrorPassive, if_neg (by simp [hr, h]), if_pos rfl]
    · rw [exec_mcanErrorPassive, execMcanErrorPassive, if_neg (by simp [hr, h]), if_neg (by decide), if_pos rfl]
    · rw [exec_mcanErrorPassive, execMcanErrorPassive, if_neg (by simp [hr, h2]), if_neg (by decide), if_neg (by decide)]
  · intro n s h
    rw [exec_mcanErrorPassive, execMcanErrorPassive, if_pos (by rcases h with h | h <;> simp [h])]
  · intro s n _ hn
    rw [State.errorBit, State.reg_setReg_self]
    exact errorRegister_set _ _ hn
  · intro s e h1 h2 hq
    rw [State.queueEmcy_mcan, if_neg h1, if_neg h2, if_neg (by omega)]
  · intro s e h1 h2 hq
    exact ⟨by rw [State.queueEmcy_mcan, if_neg h1, if_neg h2, if_pos hq], s.reg_queueEmcy_full e h1 h2 hq⟩
  · intro s e
    refine ⟨fun h => ?_, fun h => ?_⟩
    · rw [State.queueEmcy_mcan, if_pos h]
    · rw [State.queueEmcy_mcan, if_neg (by omega), if_pos h]
  · intro s h
    rw [exec_emcySend, execEmcySend]
    cases hn : s.nextEmcy with
    | none => rfl
    | some e => exact if_pos (by rcases h with h | h <;> simp_all)
  · intro s t e hd hf hop hst hh
    have hserved : ¬ ((!s.operational) = true ∨ s.health.stopped = true ∨ s.healthState ≠ 1) := by simp [hop, hst, hh]
    rw [exec_svcRepeat, execSvcRepeat, hd, hf]
    dsimp only
    rw [if_neg hserved]
    refine ⟨fun hr => ?_, fun hr hn => ?_, fun hr hn hc => ?_⟩
    · exact if_pos (by simpa [Option.isSome_iff_ne_none] using hr)
    · rw [if_neg (by simp [hr])]
      exact if_pos hn
    · rw [if_neg (by simp [hr]), if_neg hn]
      refine ⟨_, rfl, ?_⟩
      dsimp only
      rw [State.queueEmcy_mcan, if_pos hc]
      exact congrArg (fun h => ({ s.mcan with
        nextSequence := (s.mcan.nextSequence + 1) % 65536
        replacement := some { e with register := s.reg 0x1001 0, health := h, sequence := s.mcan.nextSequence }
        repeatDue := some (t + sec (s.cfg 0x1F10 0xA)) } : Mcan)) hh
  · intro s h
    rw [exec_svcRepeat, execSvcRepeat]
    cases hd : s.mcan.repeatDue with
    | none => rfl
    | some t =>
      cases hf : s.mcan.firstRequest with
      | none => rfl
      | some e => exact if_pos (by rcases h with h | h | h | h | h <;> simp_all)

end Sys2Proof.Machine
end

section
/-! PROOF of USDO and the tunnel (R105, R147, R151 to R153, R155, R157, R163, R170). -/
set_option Elab.async false
namespace Sys2Proof.Machine

/-! ### Sessions -/

theorem usdoSegmentedUpload_opens {n idx sub : Nat} {s : State} {a : UsdoAnswer} (hserved : s.usdoServed = true) (hn : s.session? n = none)
    (hl : s.mcan.sessions.length < 4) (ha : (s.submit .mcan (.read idx sub .active)).out.usdo.getLast? = some a) :
    (a.abort ≠ none → exec (.usdoSegmentedUpload n idx sub) s = .next (s.submit .mcan (.read idx sub .active))) ∧
    (a.abort = none → (s.submit .mcan (.read idx sub .active)).mcan.sessions = s.mcan.sessions →
      ∃ t : State, exec (.usdoSegmentedUpload n idx sub) s = .next t ∧ t.mcan.sessions = s.mcan.sessions ++ [⟨n, idx, sub, false, a.body, s.sessionDeadline⟩] ∧
        t.reg 0x1F11 4 = s.reg 0x1F11 4) := by
  rw [exec_usdoSegmentedUpload, execUsdoSegmentedUpload, if_neg (by simp [hserved, hn]), if_neg (by omega)]
  dsimp only
  rw [ha]
  dsimp only
  generalize s.submit .mcan (.read idx sub .active) = t
  refine ⟨fun h => if_pos (by simpa [Option.isSome_iff_ne_none] using h), fun h hs => ?_⟩
  rw [if_neg (by simp [h]), State.openSession, if_neg (by simp [hs]; omega)]
  refine ⟨_, rfl, ?_, ?_⟩
  · exact congrArg (· ++ [⟨n, idx, sub, false, a.body, s.sessionDeadline⟩]) hs
  · exact State.reg_setReg_self _ _ _ _

theorem usdoSegmentedUpload_refused {n idx sub : Nat} {s : State} (hserved : s.usdoServed = true) (hn : s.session? n = none)
    (hl : 4 ≤ s.mcan.sessions.length) : exec (.usdoSegmentedDownload n idx sub) s = .next (s.usdoAbort 0x05040005) ∧
      exec (.usdoSegmentedUpload n idx sub) s = .next (s.usdoAbort 0x05040005) := by
  rw [exec_usdoSegmentedUpload, execUsdoSegmentedUpload, if_neg (by simp [hserved, hn]), if_pos hl, exec_usdoSegmentedDownload,
    execUsdoSegmentedDownload, if_neg (by simp [hserved, hn]), State.openSession, if_pos hl]
  exact ⟨rfl, rfl⟩

/-- A segment that comes in time to an open session. -/
theorem usdoSegment_taken {n : Nat} {data : List Byte} {last : Bool} {s : State} {x : UsdoSession} (hx : s.session? n = some x)
    (hserved : s.usdoServed = true) (hd : s.now ≤ x.deadline) : exec (.usdoSegment n data last) s =
      if last = false then .next (s.setSessions (fun l => l.map (fun z => if z.id = n
        then { x with data := if x.download then x.data ++ data else x.data, deadline := s.sessionDeadline } else z)))
      else if x.download then .next ((s.setSessions (fun l => l.filter (fun z => z.id ≠ n))).submit .mcan (.write x.idx x.sub (x.data ++ data)))
      else .next (((s.setSessions (fun l => l.filter (fun z => z.id ≠ n))).sendUsdo { status := Status.ok, body := x.data }).setReg 0x1F11 4 Status.ok) := by
  rw [exec_usdoSegment, execUsdoSegment, hx]
  dsimp only
  rw [if_neg (by simp [hserved]; omega)]
  cases last <;> rfl

theorem usdoSegment_upload {n : Nat} {data : List Byte} {s : State} {x : UsdoSession} (hx : s.session? n = some x) (hserved : s.usdoServed = true)
    (hd : s.now ≤ x.deadline) (hup : x.download = false) : ∃ t : State, exec (.usdoSegment n data true) s = .next t ∧
      t.out = { s.out with usdo := s.out.usdo ++ [{ status := Status.ok, body := x.data, fdf := true, brs := decide (s.cfg 0x1F10 2 ≠ 0) }] } ∧
      t.reg 0x1F11 4 = 0 ∧ t.mcan = { s.mcan with sessions := s.mcan.sessions.filter (fun z => z.id ≠ n) } ∧
      SameLiveBut s t [0x1F1104] ∧ SameMemory s t ∧ SameRings s t := by
  rw [usdoSegment_taken hx hserved hd, if_neg (by decide), if_neg (by simp [hup])]
  refine ⟨_, rfl, rfl, State.reg_setReg_self _ _ _ _, rfl, ?_, SameMemory.of_eq rfl rfl, ⟨rfl, rfl, rfl⟩⟩
  exact (SameLiveBut.of_live rfl rfl rfl).setLive _ (by decide)

/-! ### The tunnel -/

theorem State.submit_tunnel {m : List Byte} {s : State} (hserved : s.usdoServed = true) (hop : s.operational = true) (hs : s.health.succession = false)
    (hst : s.writeStatus .mcan 0x1F12 0 m = Status.ok) : s.submit .mcan (.write 0x1F12 0 m) = State.settleRequests (
      if s.mcan.tunnelRunning then s.answer .mcan 2 Status.busy 0 [] 0x1F12 0 0 else (s.answer .mcan 2 Status.ok 0 [] 0x1F12 0 0).runTunnel m) := by
  rw [State.submit_taken (t := s) (show s.transportOpen .mcan = true from hserved) rfl rfl, State.serveTop]
  dsimp only
  rw [if_pos ⟨rfl, hop, by simp [hs]⟩, if_neg (by simp [hst])]

/-! ### The obligation -/

/-- Settles O25: each transfer by its command's definition. -/
theorem usdoTransfers : Obligations.UsdoTransfers := by
  unfold Obligations.UsdoTransfers
  refine ⟨?_, ?_, ?_, ?_, fun n idx sub s a => usdoSegmentedUpload_opens, ?_, fun n idx sub s => usdoSegmentedUpload_refused, ?_, ?_, ?_, ?_, ?_,
    fun s code => rfl, ?_, ?_, ?_, ?_, ?_⟩
  · intro idx sub s hserved hlen
    rw [exec_usdoExpeditedUpload, execUsdoExpeditedUpload, if_neg (by simp [hserved])]
    refine if_neg ?_
    cases ha : (s.submit .mcan (.read idx sub .active)).out.usdo.getLast? with
    | none => simp
    | some a => simpa using hlen a ha
  · intro idx sub s a ha hlen
    rw [exec_usdoExpeditedUpload, execUsdoExpeditedUpload]
    dsimp only
    rw [ha, if_pos (show ((some a).map (fun a : UsdoAnswer => decide (56 < a.body.length))).getD false = true by simpa using hlen), ite_self]
  · intro idx sub data s hserved hlen
    rw [exec_usdoExpeditedDownload, execUsdoExpeditedDownload, if_neg (by simp [hserved, hlen])]
  · intro idx sub data s hlen
    rw [exec_usdoExpeditedDownload, execUsdoExpeditedDownload, if_pos (.inr hlen)]
  · intro n idx sub s hserved hn hl
    rw [exec_usdoSegmentedDownload, execUsdoSegmentedDownload, if_neg (by simp [hserved, hn]), State.openSession, if_neg (by omega)]
    rfl
  · intro n idx sub s x hx
    rw [exec_usdoSegmentedDownload, execUsdoSegmentedDownload, if_pos (by simp [hx]), exec_usdoSegmentedUpload, execUsdoSegmentedUpload,
      if_pos (by simp [hx])]
    exact ⟨rfl, rfl⟩
  · intro n data s x hx hserved hd hdown
    rw [usdoSegment_taken hx hserved hd, usdoSegment_taken hx hserved hd, hdown]
    exact ⟨rfl, rfl⟩
  · intro n data s x hx hserved hd hup
    refine ⟨?_, usdoSegment_upload hx hserved hd hup⟩
    rw [usdoSegment_taken hx hserved hd, hup]
    rfl
  · intro n data last s x hx h
    rw [exec_usdoSegment, execUsdoSegment, hx]
    exact if_pos (by rcases h with h | h <;> simp [h])
  · intro idx sub s hserved
    rw [exec_usdoBlockTransfer, execUsdoBlockTransfer, if_pos hserved]
  · intro n s x hx hserved
    refine ⟨fun hop => ?_, fun hb => ?_, rfl⟩
    · rw [exec_usdoTimeout, execUsdoTimeout, hx]
      exact if_pos ⟨hop, hserved⟩
    · rw [exec_recoverySegmentTimeout, execRecoverySegmentTimeout, hx]
      exact if_pos ⟨hb, hserved⟩
  · intro n s x hx
    refine ⟨fun h => ?_, fun h => ?_⟩
    · rw [exec_usdoTimeout, execUsdoTimeout, hx]
      exact if_neg (by rcases h with h | h <;> simp [h])
    · rw [exec_recoverySegmentTimeout, execRecoverySegmentTimeout, hx]
      exact if_neg (by rcases h with h | h <;> simp [h])
  · intro n data last s hx
    rw [exec_usdoSegment, execUsdoSegment, exec_usdoTimeout, execUsdoTimeout, exec_recoverySegmentTimeout, execRecoverySegmentTimeout, hx]
    exact ⟨rfl, rfl, rfl⟩
  · intro m s hserved
    have hx : exec (.tunnelRequest m) s = .next (s.submit .mcan (.write 0x1F12 0 m)) := by
      rw [exec_tunnelRequest, execTunnelRequest, if_neg (by simp [hserved])]
    refine ⟨hx, fun hop hs hst => ⟨fun hr => ?_, fun hr => ?_⟩⟩
    · rw [hx, State.submit_tunnel hserved hop hs hst, if_neg (by simp [hr])]
    · rw [hx, State.submit_tunnel hserved hop hs hst, if_pos hr]
  · intro n idx sub data s h
    rw [exec_usdoExpeditedUpload, execUsdoExpeditedUpload, exec_usdoExpeditedDownload, execUsdoExpeditedDownload, exec_usdoSegmentedUpload,
      execUsdoSegmentedUpload, exec_usdoSegmentedDownload, execUsdoSegmentedDownload, exec_usdoBlockTransfer, execUsdoBlockTransfer,
      exec_tunnelRequest, execTunnelRequest]
    simp [h]

end Sys2Proof.Machine
end

section
/-! PROOF of the submission queues (R201, R203 to R205, R231, R619). -/
set_option Elab.async false
namespace Sys2Proof.Machine

/-! ### What a stopped or disabled queue drops -/

theorem State.stream_modStream (s : State) (n m : Nat) (f : AudioStream → AudioStream) :
    (s.modStream n f).stream m = if n = m then f (s.stream m) else s.stream m := by
  unfold State.modStream State.stream
  dsimp only
  rw [Tab.getD_put]
  by_cases h : n = m
  · rw [if_pos h, if_pos h, h]
  · rw [if_neg h, if_neg h]

/-- What clearing ENABLE leaves of one stream's buffers. -/
def AudioStream.without (x : AudioStream) (i q : Nat) : AudioStream :=
  { x with buffers := x.buffers.filter (fun b => b.started || decide (b.inst ≠ i ∨ b.q ≠ q)) }

theorem AudioStream.without_twice (x : AudioStream) (i q : Nat) : (x.without i q).without i q = x.without i q := by
  simp [AudioStream.without]

theorem State.stream_audioDiscard (s : State) (i q n : Nat) (hn : n < 48) :
    ((s.audioDiscard i q).stream n).buffers = ((s.stream n).without i q).buffers := by
  have hstep : ∀ (t : State) (m : Nat), ((if (t.stream m).buffers = [] then t else t.modStream m (fun x => x.without i q)).stream n).buffers =
      if m = n then ((t.stream n).without i q).buffers else (t.stream n).buffers := by
    intro t m
    by_cases hm : m = n
    · subst hm
      rw [if_pos rfl]
      split
      · next h => simp [AudioStream.without, h]
      · rw [State.stream_modStream, if_pos rfl]
    · rw [if_neg hm]
      split
      · rfl
      · rw [State.stream_modStream, if_neg hm]
  have hall : ∀ (l : List Nat) (t : State), ((t.each l (fun t m => if (t.stream m).buffers = [] then t
      else t.modStream m (fun x => x.without i q))).stream n).buffers =
      if n ∈ l then ((t.stream n).without i q).buffers else (t.stream n).buffers := by
    intro l
    induction l with
    | nil => intro t; rfl
    | cons m l ih =>
      intro t
      rw [State.each, ih]
      by_cases hm : m = n
      · subst hm
        rw [if_pos (List.mem_cons_self ..)]
        have h1 := hstep t m
        rw [if_pos rfl] at h1
        split
        · exact (congrArg (List.filter _) h1).trans (congrArg AudioStream.buffers (AudioStream.without_twice _ i q))
        · exact h1
      · have h1 := hstep t m
        rw [if_neg hm] at h1
        have hmem : n ∈ m :: l ↔ n ∈ l := by simp [Ne.symm hm]
        simp only [hmem]
        split
        · exact congrArg (List.filter _) h1
        · exact h1
  exact (hall _ s).trans (if_pos (List.mem_range.2 hn))

/-- A lane's queue without the requests of one submission queue. -/
def LaneWork.without (x : LaneWork) (i q : Nat) : LaneWork := { x with queue := x.queue.filter (fun r => !r.2.fromQueue i q) }

theorem State.lane_discardUnstarted (s : State) (i q : Nat) (h : (s.sq i q).type = 4) (l : Nat) :
    ((s.discardUnstarted i q).lane l).queue = (s.lane l).queue.filter (fun r => !r.2.fromQueue i q) := by
  have hd : s.discardUnstarted i q = { s with lanes := { s.lanes with lanes := s.lanes.lanes.map (fun e => (e.1, e.2.without i q)) } } := by
    unfold State.discardUnstarted
    dsimp only
    rw [if_neg (by omega), if_neg (by omega), if_pos h]
    rfl
  rw [hd]
  simp only [State.lane, Tab.getD]
  rw [Tab.find?_map s.lanes.lanes (fun x => x.without i q) l]
  cases Tab.find? s.lanes.lanes l <;> rfl

theorem State.hap_discardUnstarted (s : State) (i q : Nat) (h : (s.sq i q).type = 6) (c : Nat) : ((s.discardUnstarted i q).hap c).play =
    if c = (s.sq i q).target then (s.hap c).play.bind (fun p => if p.inst = i ∧ p.q = q then none else some p) else (s.hap c).play := by
  unfold State.discardUnstarted
  dsimp only
  rw [if_neg (by omega), if_pos h]
  simp only [State.modHap, State.hap, Tab.getD_put]
  by_cases hc : c = (s.sq i q).target
  · subst hc
    simp
  · rw [if_neg (Ne.symm hc), if_neg hc]

theorem State.discardUnstarted_other (s : State) (i q : Nat) (h3 : (s.sq i q).type ≠ 3) (h4 : (s.sq i q).type ≠ 4) (h6 : (s.sq i q).type ≠ 6) :
    s.discardUnstarted i q = s := by
  unfold State.discardUnstarted
  dsimp only
  rw [if_neg h3, if_neg h6, if_neg h4]

/-! ### A queue's own state -/

theorem State.modSq_keeps (s : State) (i q : Nat) (f : Sq → Sq) : (s.modSq i q f).sq i q = f (s.sq i q) ∧
    (∀ j p, (j, p) ≠ (i, q) → (s.modSq i q f).sq j p = s.sq j p) ∧ (∀ j, j ≠ i → (s.modSq i q f).inst j = s.inst j) ∧ (s.modSq i q f).live = s.live ∧
    SameMemory s (s.modSq i q f) ∧ SameRings s (s.modSq i q f) ∧ (s.modSq i q f).out = s.out := by
  have he := State.modSq_eff s i q f (Eff.refl 2097152 s) rfl
  refine ⟨State.sq_modSq s i q f, fun j p h => State.sq_modSq_of_ne s i q j p f h, fun j hj => ?_, rfl, SameMemory.of_eff he, SameRings.of_eff he, rfl⟩
  rw [State.modSq, State.inst_modInst, if_neg (Ne.symm hj)]

/-- A tail that its queue takes. -/
theorem sqTail_taken {i q tail : Nat} {s : State} (hw : s.pageWritable i = true) (hq : q < 16) (he : (s.sq i q).enabled = true)
    (hs : (s.sq i q).stopped = false) : exec (.sqTail i q tail) s = .next
      (if s.isShed i then s.modSq i q (fun y => { y with tail := tail % 65536 })
       else if (s.sq i q).size ≤ tail % 65536 then s.stopQueue i q Status.range
       else (s.modSq i q (fun y => { y with tail := tail % 65536 })).bellWake) := by
  rw [exec_sqTail, execSqTail, State.sqTailWrite, if_neg (by simp [hw, he, hs]; omega)]

theorem sqEnable_taken {i q : Nat} {config : Word32} {s : State} (hw : s.pageWritable i = true) (hq : q < 16) (he : (s.sq i q).enabled = false)
    (hc : config.getLsbD 31 = true) : exec (.sqEnable i q config) s = .next
      (if s.enableStatus i q config = Status.ok then
        s.modSq i q (fun y => { y with config := sqConfigMask config, head := 0, tail := 0, stopped := false })
       else s.modSq i q (fun y => { y with config := sqConfigMask config &&& 0x7FFFFFFF#32, status := s.enableStatus i q config })) := by
  rw [exec_sqEnable, execSqEnable, State.sqEnableWrite, if_neg (by simp [hw, he, hc]; omega)]

/-- Settles O26: a tail, an ENABLE set and an ENABLE cleared, by page, queue and state. -/
theorem submissionQueues : Obligations.SubmissionQueues := by
  unfold Obligations.SubmissionQueues
  refine ⟨?_, ?_, ?_, ?_, fun i q f s => s.modSq_keeps i q f, ?_, ?_, ?_, ?_, fun s i q st => ⟨_, rfl, rfl⟩⟩
  · intro i q tail s hw hq he hs
    rw [sqTail_taken hw hq he hs]
    have bellWake_awake : s.powerState ≠ 2 → (s.modSq i q (fun y => { y with tail := tail % 65536 })).bellWake = _ := fun h => if_neg h
    have bellWake_asleep : s.powerState = 2 → (s.modSq i q (fun y => { y with tail := tail % 65536 })).bellWake = _ := fun h => if_pos h
    refine ⟨fun hsh ht hp => ?_, fun hsh ht hp => ?_, fun hsh ht => ?_, fun hsh => ?_⟩
    · rw [if_neg (by simp [hsh]), if_neg (by omega), bellWake_awake hp]
    · rw [if_neg (by simp [hsh]), if_neg (by omega), bellWake_asleep hp]
    · rw [if_neg (by simp [hsh]), if_pos ht]
    · rw [if_pos hsh]
  · intro i q tail s h
    rw [exec_sqTail, execSqTail, State.sqTailWrite, if_pos (by rcases h with h | h | h | h <;> simp [h])]
  · intro i q config s hw hq he hc
    rw [sqEnable_taken hw hq he hc]
    exact ⟨fun h => by rw [if_pos h], fun h => by rw [if_neg h]⟩
  · intro i q config s h
    rw [exec_sqEnable, execSqEnable, State.sqEnableWrite, if_pos (by rcases h with h | h | h | h <;> simp only [h] <;> simp)]
  · intro i q config s
    rw [State.enableStatus]
    refine if_congr Iff.rfl rfl (if_congr ?_ rfl rfl)
    simp
  · intro i q s hw hq he
    rw [exec_sqDisable, execSqDisable, State.sqDisableWrite, if_neg (by simp [hw, he]; omega)]
  · intro i q s h
    rw [exec_sqDisable, execSqDisable, State.sqDisableWrite, if_pos (by rcases h with h | h | h <;> simp [h])]
  · intro i q s
    refine ⟨s.discardUnstarted_other i q, fun h n hn => ?_, s.lane_discardUnstarted i q, s.hap_discardUnstarted i q⟩
    rw [show s.discardUnstarted i q = s.audioDiscard i q from if_pos h]
    exact s.stream_audioDiscard i q n hn

end Sys2Proof.Machine
end

section
/-! PROOF of the event rings' control (R98, R206, R207, R209). -/
set_option Elab.async false
namespace Sys2Proof.Machine

/-- ENABLE set on a page that takes the write. -/
theorem evqEnable_taken {i : Nat} {config : Word32} {s : State} (hw : s.pageWritable i = true) (he : (s.inst i).evq.enabled = false)
    (hc : config.getLsbD 31 = true) : exec (.evqEnable i config) s = .next
      (if s.evqOk i config then
        let s1 := s.modInst i (fun x => { x with evq := { x.evq with config := evqConfigMask config, head := 0, tail := 0, phase := true, lastIrq := none } })
        if i = 0 then ({ s1 with boot := { s1.boot with slotEvents := [] } } : State).deliverAll 0 s.boot.slotEvents else s1
       else s.modInst i (fun x => { x with evq := { x.evq with config := evqConfigMask config &&& 0x7FFFFFFF#32 } })) := by
  rw [exec_evqEnable, execEvqEnable, State.evqEnableWrite]
  dsimp only
  rw [if_neg (by simp only [hw, he, hc]; decide)]

theorem State.evqOk_iff (s : State) (i : Nat) (config : Word32) : s.evqOk i config = true ↔ (bits config.toNat 19 16 ≤ 10 ∧
    (config.getLsbD 30 = true → s.belowQuota i (s.inst i).evq.base (32 * (64 * 2 ^ bits config.toNat 19 16)) = true)) := by
  unfold State.evqOk
  simp only [Bool.and_eq_true, decide_eq_true_eq, Bool.or_eq_true, Bool.not_eq_true']
  cases config.getLsbD 30 <;> simp

theorem State.modInst_keeps (s : State) (i : Nat) (f : Inst → Inst) : (s.modInst i f).inst i = f (s.inst i) ∧
    (∀ j, j ≠ i → (s.modInst i f).inst j = s.inst j) ∧ (s.modInst i f).live = s.live ∧ SameMemory s (s.modInst i f) ∧ SameRings s (s.modInst i f) ∧
    (s.modInst i f).out = s.out := by
  refine ⟨?_, fun j hj => ?_, rfl, SameMemory.of_eq rfl rfl, ⟨rfl, rfl, rfl⟩, rfl⟩
  · rw [State.inst_modInst, if_pos rfl]
  · rw [State.inst_modInst, if_neg (Ne.symm hj)]

/-- Settles O27: ENABLE set, ENABLE cleared and the moderation timer, by page and ring. -/
theorem eventRingControl : Obligations.EventRingControl := by
  unfold Obligations.EventRingControl
  refine ⟨?_, ?_, ?_, ?_, fun i config s => s.evqOk_iff i config, ?_, ?_, ?_, ?_, fun i f s => s.modInst_keeps i f⟩
  · intro i config s hi hw he hc hok
    rw [evqEnable_taken hw he hc, if_pos hok]
    exact congrArg _ (if_neg hi)
  · intro config s hw he hc hok
    rw [evqEnable_taken hw he hc, if_pos hok]
    rfl
  · intro i config s hw he hc hok
    rw [evqEnable_taken hw he hc, if_neg (by simp [hok])]
  · intro i config s h
    rw [exec_evqEnable, execEvqEnable, State.evqEnableWrite]
    dsimp only
    rw [if_pos (by rcases h with h | h | h <;> simp only [h] <;> simp)]
  · intro i s hw he
    rw [exec_evqDisable, execEvqDisable, State.evqDisableWrite, if_neg (by simp [hw, he])]
  · intro i s h
    rw [exec_evqDisable, execEvqDisable, State.evqDisableWrite, if_pos (by rcases h with h | h <;> simp [h])]
  · intro i l s hw he hne hm hl
    rw [exec_evqModerationExpiry, execEvqModerationExpiry]
    dsimp only
    rw [hl]
    dsimp only
    rw [if_neg (by simp [hw, he, hne, hm])]
    rfl
  · intro i s h
    rw [exec_evqModerationExpiry, execEvqModerationExpiry]
    dsimp only
    cases hl : (s.inst i).evq.lastIrq with
    | none => rfl
    | some l => exact if_pos (by rcases h with h | h | h | h | h <;> simp_all)

end Sys2Proof.Machine
end

section
/-! PROOF of where an event record lands, and what is lost (R79, R198, R199, R206, R208 to R210, R233, R692, R697). -/
set_option Elab.async false
namespace Sys2Proof.Machine

/-! ### A vector sent or pending -/

/-- Sending a vector leaves the event ring of its instance, and the other instances. -/
theorem State.inst_sendVector (s : State) (i v j : Nat) : ((s.sendVector i v).inst j).evq = (s.inst j).evq ∧ (j ≠ i → (s.sendVector i v).inst j = s.inst j) := by
  have hset : ∀ x : Inst, x.evq = (s.inst i).evq →
      ((s.setInst i x).inst j).evq = (s.inst j).evq ∧ (j ≠ i → (s.setInst i x).inst j = s.inst j) := by
    intro x hx
    rw [State.inst_setInst]
    by_cases h : i = j
    · subst h
      exact ⟨by rw [if_pos rfl, hx], fun hne => absurd rfl hne⟩
    · rw [if_neg h]
      exact ⟨rfl, fun _ => rfl⟩
  unfold State.sendVector
  dsimp only
  split_ifs
  · exact ⟨rfl, fun _ => rfl⟩
  · exact hset _ rfl
  · exact ⟨rfl, fun _ => rfl⟩

/-! ### A record that lands -/

/-- The event ring with a record in the slot that its tail names. -/
def Evq.taking (q : Evq) (r : EvRecord) (irq : Option Nat) : Evq :=
  { q with
    slots := Tab.put q.slots q.tail { r with flags := ofBool q.phase + 2 * ofBool q.lost, sequence := q.sequence }, tail := (q.tail + 1) % q.size
    phase := if (q.tail + 1) % q.size = 0 then !q.phase else q.phase, lost := false, sequence := (q.sequence + 1) % 2 ^ 32, lastIrq := irq }

/-- A unit's write of an instance's memory leaves its event ring, and the other instances. -/
theorem State.inst_writeIda (s : State) (at' : BusAttr) (a : Nat) (bs : List Byte) (j : Nat) :
    ((s.writeIda at' a bs).inst j).evq = (s.inst j).evq ∧ (j ≠ at'.inst → (s.writeIda at' a bs).inst j = s.inst j) := by
  have hmap : ∀ ps, ((s.mapPages at'.inst ps).inst j).evq = (s.inst j).evq ∧ (j ≠ at'.inst → (s.mapPages at'.inst ps).inst j = s.inst j) := by
    intro ps
    unfold State.mapPages
    dsimp only
    rw [State.inst_modInst]
    split
    · next h => subst h; exact ⟨rfl, fun hne => absurd rfl hne⟩
    · exact ⟨rfl, fun _ => rfl⟩
  unfold State.writeIda
  dsimp only
  split
  · exact hmap _
  · exact ⟨rfl, fun _ => rfl⟩

/-- A record that lands now sends the ring's vector (R209). -/
def Evq.interrupts (q : Evq) (now : Nat) : Bool :=
  decide (q.head = q.tail) || decide (q.moderation = 0) || (match q.lastIrq with | none => true | some l => decide (l + us q.moderation ≤ now))

theorem State.inst_ringWrite (s : State) (i : Nat) (r : EvRecord) :
    (∃ irq, ((s.ringWrite i r).inst i).evq = (s.inst i).evq.taking r irq) ∧ ∀ j, j ≠ i → (s.ringWrite i r).inst j = s.inst j := by
  have hset : ∀ (q : Evq) (j : Nat), (s.setInst i { s.inst i with evq := q }).inst j = if i = j then { s.inst i with evq := q } else s.inst j :=
    fun q j => State.inst_setInst _ _ _ _
  have hif : ∀ (t : State) (p : Prop) [Decidable p] (d n : Nat) (bs : List Byte) (j : Nat),
      ((if p then t.writeIda (BusSource.core.serving d i) n bs else t).inst j).evq = (t.inst j).evq ∧
      (j ≠ i → (if p then t.writeIda (BusSource.core.serving d i) n bs else t).inst j = t.inst j) := fun t p _ d n bs j => by
    split
    · exact State.inst_writeIda t _ n bs j
    · exact ⟨rfl, fun _ => rfl⟩
  have hsend : ∀ (t : State) (p : Prop) [Decidable p] (v j : Nat), ((if p then t.sendVector i v else t).inst j).evq = (t.inst j).evq ∧
      (j ≠ i → (if p then t.sendVector i v else t).inst j = t.inst j) := fun t p _ v j => by
    split
    · exact State.inst_sendVector t i v j
    · exact ⟨rfl, fun _ => rfl⟩
  unfold State.ringWrite
  dsimp only
  refine ⟨⟨if (s.inst i).evq.interrupts s.now then some s.now else (s.inst i).evq.lastIrq, ?_⟩, fun j hj => ?_⟩
  · refine (hsend _ _ _ i).1.trans ?_
    refine (hif _ _ _ _ _ i).1.trans ?_
    rw [hset, if_pos rfl]
    rfl
  · rw [(hsend _ _ _ j).2 hj, (hif _ _ _ _ _ j).2 hj, hset, if_neg (Ne.symm hj)]

/-! ### The obligation -/

theorem State.inst_setReg (s : State) (i k v j : Nat) : (s.setReg i k v).inst j = s.inst j := rfl

theorem State.deliver_lands {s : State} {i : Nat} (r : EvRecord) (hop : s.operational = true) (hst : s.health.stopped = false)
    (hs : s.health.succession = false) (hsh : s.isShed i = false) (he : (s.inst i).evq.enabled = true) (hf : (s.inst i).evq.full = false) :
    s.deliver i r = s.ringWrite i r := by
  unfold State.deliver
  dsimp only
  rw [if_neg (by simp [hop, hst]), if_neg (by simp [hs]), if_neg (by simp [hsh]), if_pos ⟨he, by simp [hf]⟩]

theorem State.deliver_drops {s : State} {i : Nat} (r : EvRecord) (hop : s.operational = true) (hst : s.health.stopped = false)
    (hs : s.health.succession = false) (h : (s.isShed i = false ∧ ((s.inst i).evq.enabled = false ∨ (s.inst i).evq.full = true)) ∨
      (s.isShed i = true ∧ 512 ≤ (s.inst i).held.length)) : s.deliver i r = s.dropRecord i := by
  unfold State.deliver
  dsimp only
  rw [if_neg (by simp [hop, hst]), if_neg (by simp [hs])]
  rcases h with ⟨hsh, h⟩ | ⟨hsh, h⟩
  · rw [if_neg (by simp [hsh]), if_neg (by rcases h with h | h <;> simp [h])]
  · rw [if_pos hsh, if_neg (by omega)]

/-- Settles O28: a record lands, is held or is dropped; a vector is sent, pending or neither. -/
theorem eventDelivery : Obligations.EventDelivery := by
  unfold Obligations.EventDelivery
  refine ⟨?_, ?_, ?_, ?_, ?_, ?_⟩
  · intro s i r hop hst hs hsh he hf
    rw [State.deliver_lands r hop hst hs hsh he hf]
    obtain ⟨⟨irq, hq⟩, hother⟩ := s.inst_ringWrite i r
    have heff := State.ringWrite_eff s i r (Eff.refl 17592188149760 s) rfl
    dsimp only
    rw [hq]
    refine ⟨?_, rfl, rfl, rfl, rfl, rfl, fun n hn => ?_, heff.live_eq, heff.mem_eq, SameRings.of_eff heff, hother⟩
    · exact (Tab.getD_put _ _ _ _ _).trans (if_pos rfl)
    · exact (Tab.getD_put _ _ _ _ _).trans (if_neg (Ne.symm hn))
  · intro s i r hop hst hs h
    rw [State.deliver_drops r hop hst hs h]
    unfold State.dropRecord State.inc State.count
    refine ⟨?_, State.reg_setReg_self _ _ _ _, ?_, SameMemory.of_eq rfl rfl, ⟨rfl, rfl, rfl⟩, rfl, fun j hj => ?_⟩
    · rw [State.inst_setReg, State.inst_modInst, if_pos rfl]
    · exact (SameLiveBut.of_live rfl rfl rfl).setLive _ (by simp)
    · rw [State.inst_setReg, State.inst_modInst, if_neg (Ne.symm hj)]
  · intro s i r hop hst hs hsh hl
    unfold State.deliver
    dsimp only
    rw [if_neg (by simp [hop, hst]), if_neg (by simp [hs]), if_pos hsh, if_pos hl]
  · intro s i r h
    unfold State.deliver
    exact if_pos (by rcases h with h | h <;> simp [h])
  · intro s i v hm
    unfold State.sendVector
    dsimp only
    rw [if_neg (by simp [hm])]
    refine ⟨fun h1 h2 h3 => if_neg (by simp [h2, h3]; omega), fun h => if_pos ?_⟩
    rcases h with h | h | h
    · exact .inl h
    · exact .inr (.inr h)
    · exact .inr (.inl h)
  · intro s i v hm
    unfold State.sendVector
    exact if_pos (by simp [hm])

end Sys2Proof.Machine
end

section
/-! PROOF of the accesses of the host and of the management cores (R26 to R28, R86, R196, R197, R212, R220, R231, R246 to R248, R262). -/
set_option Elab.async false
namespace Sys2Proof.Machine

/-! ### BAR2 -/

/-- A store of the host that lands. -/
theorem State.writeIda_host {s : State} {i a : Nat} {bs : List Byte} (hsh : s.isShed i = false) (hok : s.idaOk i a bs.length = true) :
    s.writeIda (hostAttr i) a bs = { s.mapPages i (pagesOf a bs.length) with imem := s.imem.writeBytes (idaKey i a) bs } := by
  have hu : s.unitsWrite i = true := by
    simp only [State.isShed, decide_eq_false_iff_not] at hsh
    simp only [State.unitsWrite, decide_eq_true_eq]
    omega
  have hinst : (hostAttr i).inst = i := rfl
  unfold State.writeIda
  dsimp only
  rw [hinst, if_pos (by rw [hu, hok]; rfl)]

theorem bar2Store_lands {i offset len : Nat} {bs : List Byte} {s : State} (ho : s.pageOpen i = true) (hsh : s.isShed i = false)
    (hr : offset + bs.length ≤ (if i = 0 then 2 ^ 32 else 2 ^ 28)) (hok : s.idaOk i (s.reg (0x2200 + i) 0x11 * 1048576 + offset) bs.length = true) :
    ∃ t : State, exec (.bar2Access i offset (some bs) len) s = .next t ∧
      (∀ n, n < bs.length → Memory.read t.imem (idaKey i (s.reg (0x2200 + i) 0x11 * 1048576 + offset) + n) = bs.getD n 0) ∧
      (∀ a, a < idaKey i (s.reg (0x2200 + i) 0x11 * 1048576 + offset) ∨ idaKey i (s.reg (0x2200 + i) 0x11 * 1048576 + offset) + bs.length ≤ a →
        Memory.read t.imem a = Memory.read s.imem a) ∧ t.mem = s.mem ∧ t.live = s.live ∧ SameRings s t ∧ t.out = s.out := by
  refine ⟨s.writeIda (hostAttr i) (s.reg (0x2200 + i) 0x11 * 1048576 + offset) bs, ?_, ?_⟩
  · rw [exec_bar2Access, execBar2Access, if_neg (by simp [ho])]
    dsimp only
    rw [if_neg (by simp [hok]; omega), if_neg (by simp [hsh])]
  · rw [State.writeIda_host hsh hok]
    refine ⟨fun n hn => Memory.read_writeBytes_at _ _ _ _ hn, fun a ha => ?_, rfl, rfl, ⟨rfl, rfl, rfl⟩, rfl⟩
    exact (Memory.read_writeBytes _ _ _ _).trans (if_neg (by omega))

theorem bar2_refused {i offset len n : Nat} {store : Option (List Byte)} {s : State} (ho : s.pageOpen i = true)
    (hn : n = (match store with | none => len | some bs => bs.length))
    (h : (if i = 0 then 2 ^ 32 else 2 ^ 28) < offset + n ∨ s.idaOk i (s.reg (0x2200 + i) 0x11 * 1048576 + offset) n = false) :
    exec (.bar2Access i offset store len) s = .next { s with out := { s.out with
      refused := s.out.refused ++ [i], aer := s.out.aer ++ [(i, .unsupportedRequest)] } } := by
  rw [exec_bar2Access]
  unfold execBar2Access
  rw [if_neg (by simp [ho])]
  dsimp only
  cases store with
  | none =>
    subst hn
    exact if_pos (by simpa using h)
  | some bs =>
    subst hn
    exact if_pos (by simpa using h)

/-! ### A core's exceptions -/

theorem State.cpu_modCpu (s : State) (c : Nat) (f : CpuCore → CpuCore) : (s.modCpu c f).cpu c = f (s.cpu c) := by
  simp [State.modCpu, State.cpu]

/-- An exception of a core in the normal world. -/
theorem State.coreException_normal {s : State} {c : Nat} (h : (s.cpu c).world = .normal) (cause : Nat) :
    s.coreException c cause = s.modCpu c (fun y => { y with trap := some .supervisor, mode := .supervisor, scause := cause }) := by
  unfold State.coreException
  dsimp only
  rw [h]

theorem State.busRefused_regs (s : State) (at' : BusAttr) (a : Nat) :
    (s.busRefused at' a).reg 0x2300 4 = satAdd (entryBits 0x2300 4) (s.reg 0x2300 4) 1 ∧ (s.busRefused at' a).reg 0x2300 5 = at'.word ∧
    (s.busRefused at' a).reg 0x2300 6 = a := by
  unfold State.busRefused State.inc State.count
  refine ⟨?_, ?_, State.reg_setReg_self _ _ _ _⟩
  · rw [State.reg_setReg_of_ne _ _ _ _ _ _ (by decide), State.reg_setReg_of_ne _ _ _ _ _ _ (by decide), State.reg_setReg_self]
  · rw [State.reg_setReg_of_ne _ _ _ _ _ _ (by decide), State.reg_setReg_self]

theorem State.busRefused_frame (s : State) (at' : BusAttr) (a : Nat) : Eff 128 s (s.busRefused at' a) :=
  State.busRefused_eff s at' a (Eff.refl 128 s) rfl

theorem State.reg_gateReported (s : State) (d : Nat) (b : ControlBlock) (k : Nat) (hk : k % 256 ≠ 0x12) :
    (s.gateReported d b).reg 0x2300 k = s.reg 0x2300 k := by
  unfold State.gateReported
  split
  · exact State.reg_event _ _ _ _ _ _ _ _ _ _ hk
  · rfl

theorem coreAttr_world (s : State) (c : Nat) : (s.coreAttr c).world = (s.cpu c).world := by
  unfold State.coreAttr
  cases (s.cpu c).world <;> rfl

/-! ### The control windows -/

theorem State.controlWrite_refused {c die v : Nat} {b : ControlBlock} {s : State} (hr : s.cpuRuns c = true) (hw : (s.cpu c).world = .normal)
    (hd : die < s.dies) (ht : s.targetServes (.control die) = true) (hb : s.blockRefuses b .normal = true) :
    let t := s.controlWrite c die b v
    (t.cpu c).trap = some .supervisor ∧ (t.cpu c).scause = 7 ∧ t.reg 0x2300 4 = satAdd (entryBits 0x2300 4) (s.reg 0x2300 4) 1 ∧
      t.reg 0x2300 5 = (s.coreAttr c).word ∧ t.mem = s.mem ∧ SameRings s t ∧ t.worlds.perm = s.worlds.perm ∧ t.worlds.claims = s.worlds.claims := by
  have hwa := (coreAttr_world s c).trans hw
  have he := State.gateReported_eff _ die b (State.busRefused_eff s (s.coreAttr c) (controlBase die + Config.blockOffset (blockNumber b))
    (Eff.refl 17593261891712 s) rfl) rfl
  obtain ⟨h4, h5, -⟩ := s.busRefused_regs (s.coreAttr c) (controlBase die + Config.blockOffset (blockNumber b))
  have g4 := State.reg_gateReported (s.busRefused (s.coreAttr c) (controlBase die + Config.blockOffset (blockNumber b))) die b 4 (by decide)
  have g5 := State.reg_gateReported (s.busRefused (s.coreAttr c) (controlBase die + Config.blockOffset (blockNumber b))) die b 5 (by decide)
  unfold State.controlWrite
  dsimp only
  rw [if_neg (by simp [hr]), if_neg (by simp [ht]; omega), hwa, if_pos hb]
  generalize (s.busRefused (s.coreAttr c) (controlBase die + Config.blockOffset (blockNumber b))).gateReported die b = u at *
  have hcpu : u.cpu c = s.cpu c := by simp only [State.cpu, he.worlds_eq]
  rw [State.storeRefused, State.coreException_normal (by rw [hcpu]; exact hw), State.cpu_modCpu]
  have hrings : SameRings s u := SameRings.of_eff he
  exact ⟨rfl, rfl, g4.trans h4, g5.trans h5, he.mem_eq, hrings, congrArg (·.perm) he.worlds_eq, congrArg (·.claims) he.worlds_eq⟩

theorem State.controlRead_refused {c die : Nat} {b : ControlBlock} {s : State} (hr : s.cpuRuns c = true) (hw : (s.cpu c).world = .normal)
    (hd : die < s.dies) (ht : s.targetServes (.control die) = true) (hb : s.blockRefuses b .normal = true) :
    let t := s.controlRead c die b
    (t.cpu c).trap = some .supervisor ∧ (t.cpu c).scause = 5 ∧ (t.cpu c).loaded = some 0 ∧
      t.reg 0x2300 4 = satAdd (entryBits 0x2300 4) (s.reg 0x2300 4) 1 ∧ t.reg 0x2300 5 = (s.coreAttr c).word ∧ SameMemory s t ∧ SameRings s t := by
  have hwa := (coreAttr_world s c).trans hw
  have he := s.busRefused_frame (s.coreAttr c) (controlBase die + Config.blockOffset (blockNumber b))
  obtain ⟨h4, h5, -⟩ := s.busRefused_regs (s.coreAttr c) (controlBase die + Config.blockOffset (blockNumber b))
  unfold State.controlRead
  dsimp only
  rw [if_neg (by simp [hr]), if_neg (by simp [ht]; omega), hwa, if_pos hb]
  generalize s.busRefused (s.coreAttr c) (controlBase die + Config.blockOffset (blockNumber b)) = u at *
  have hcpu : (u.loaded c 0).cpu c = { s.cpu c with loaded := some 0 } := by
    rw [State.loaded, State.cpu_modCpu]
    simp only [State.cpu, he.worlds_eq]
  rw [State.coreException_normal (by rw [hcpu]; exact hw), State.cpu_modCpu, hcpu]
  have hmem : SameMemory s u := SameMemory.of_eff he
  have hrings : SameRings s u := SameRings.of_eff he
  exact ⟨rfl, rfl, rfl, h4, h5, hmem, hrings⟩

/-- A secure core sets the code of one granule of a die's memory. -/
theorem State.controlWrite_permission {c die g v : Nat} {s : State} (hr : s.cpuRuns c = true) (hw : (s.cpu c).world = .secure) (hd : die < s.dies)
    (ht : s.targetServes (.control die) = true) (ha : s.targetAt (4096 * g) = some (.stack die) ∨ s.targetAt (4096 * g) = some (.sram die)) :
    let t := s.controlWrite c die (.permission g) v
    t.granuleCode (4096 * g) = v % 4 ∧ (∀ a, a / 4096 ≠ g → t.granuleCode a = s.granuleCode a) ∧ t.worlds.cores = s.worlds.cores ∧
    SameMemory s t ∧ SameRings s t := by
  have hwa := (coreAttr_world s c).trans hw
  let perm := if v % 4 = 0 then Tab.erase s.worlds.perm g else Tab.put s.worlds.perm g (v % 4)
  let u : State := { s with worlds := { s.worlds with perm := perm } }
  have hperm : ∀ k, Tab.getD perm k 0 = if k = g then v % 4 else Tab.getD s.worlds.perm k 0 := by
    intro k
    simp only [perm]
    by_cases h0 : v % 4 = 0
    · rw [if_pos h0]
      simp only [Tab.getD, Tab.find?_erase]
      by_cases hk : g = k <;> simp [hk, h0, eq_comm]
    · rw [if_neg h0, Tab.getD_put]
      by_cases hk : g = k <;> simp [hk, eq_comm]
  have he := State.secureUse_eff u (Eff.refl 128 u) rfl
  have hmem : SameMemory u u.secureUse := SameMemory.of_eff he
  have hrings : SameRings u u.secureUse := SameRings.of_eff he
  unfold State.controlWrite
  dsimp only
  rw [if_neg (by simp [hr]), if_neg (by simp [ht]; omega), hwa, if_neg (by simp [State.blockRefuses]),
    if_pos (by rcases ha with ha | ha <;> simp [ha])]
  have hcode : ∀ a, u.secureUse.granuleCode a = Tab.getD perm (a / 4096) 0 := fun a => by
    rw [State.granuleCode, he.worlds_eq]
  refine ⟨?_, fun a hag => ?_, congrArg (·.cores) he.worlds_eq, hmem, hrings⟩
  · rw [hcode, hperm, if_pos (by omega)]
  · rw [hcode, hperm, if_neg hag]
    rfl

/-! ### A core's own stores and loads -/

theorem State.coreStore_refused {c a v : Nat} {s : State} {tgt : BusTarget} (hr : s.cpuRuns c = true) (hw : (s.cpu c).world = .normal)
    (ht : s.targetAt a = some tgt) (hc : ∀ d, tgt ≠ .control d) (ho : s.busOutcome (s.coreAttr c) a true = .refused) :
    let t := s.coreStore c a v
    (t.cpu c).trap = some .supervisor ∧ (t.cpu c).scause = 7 ∧ t.reg 0x2300 4 = satAdd (entryBits 0x2300 4) (s.reg 0x2300 4) 1 ∧
        t.reg 0x2300 5 = (s.coreAttr c).word ∧ t.reg 0x2300 6 = a ∧ SameMemory s t ∧ SameRings s t := by
  have he := s.busRefused_frame (s.coreAttr c) a
  obtain ⟨h4, h5, h6⟩ := s.busRefused_regs (s.coreAttr c) a
  have hb : s.busWrite (s.coreAttr c) a (leBytes 4 v) = (s.busRefused (s.coreAttr c) a, .refused) := by
    unfold State.busWrite
    rw [ho]
    dsimp only
    rw [ht]
    cases tgt with
    | control d => exact absurd rfl (hc d)
    | _ => rfl
  unfold State.coreStore
  dsimp only
  rw [if_neg (by simp [hr]), hb, if_neg (fun h => by cases h)]
  generalize s.busRefused (s.coreAttr c) a = u at *
  have hcpu : u.cpu c = s.cpu c := by simp only [State.cpu, he.worlds_eq]
  have hmem : SameMemory s u := SameMemory.of_eff he
  have hrings : SameRings s u := SameRings.of_eff he
  rw [State.storeRefused, State.coreException_normal (by rw [hcpu]; exact hw), State.cpu_modCpu]
  exact ⟨rfl, rfl, h4, h5, h6, hmem, hrings⟩

theorem State.coreStore_done {c a v d : Nat} {s : State} (hr : s.cpuRuns c = true) (ht : s.targetAt a = some (.stack d) ∨ s.targetAt a = some (.sram d))
    (ho : s.busOutcome (s.coreAttr c) a true = .done) : s.coreStore c a v = { s with mem := s.mem.writeBytes a (leBytes 4 v) } := by
  unfold State.coreStore State.busWrite
  dsimp only
  rw [if_neg (by simp [hr]), ho]
  rcases ht with ht | ht <;> rw [ht] <;> exact if_pos rfl

theorem State.coreLoad_refused {c a : Nat} {s : State} (hr : s.cpuRuns c = true) (hw : (s.cpu c).world = .normal)
    (ho : s.busOutcome (s.coreAttr c) a false = .refused) :
    let t := s.coreLoad c a
    (t.cpu c).trap = some .supervisor ∧ (t.cpu c).scause = 5 ∧ t.reg 0x2300 4 = satAdd (entryBits 0x2300 4) (s.reg 0x2300 4) 1 ∧
      t.reg 0x2300 6 = a ∧ SameMemory s t ∧ SameRings s t := by
  have he := s.busRefused_frame (s.coreAttr c) a
  obtain ⟨h4, -, h6⟩ := s.busRefused_regs (s.coreAttr c) a
  unfold State.coreLoad State.busRead
  dsimp only
  rw [if_neg (by simp [hr]), ho]
  dsimp only
  rw [if_neg (by decide)]
  generalize s.busRefused (s.coreAttr c) a = u at *
  generalize leNat (s.busBytes (s.coreAttr c) a 4) = n
  have hcpu : (u.loaded c n).cpu c = { s.cpu c with loaded := some n } := by
    rw [State.loaded, State.cpu_modCpu]
    simp only [State.cpu, he.worlds_eq]
  have hmem : SameMemory s u := SameMemory.of_eff he
  have hrings : SameRings s u := SameRings.of_eff he
  rw [State.coreException_normal (by rw [hcpu]; exact hw), State.cpu_modCpu, hcpu]
  exact ⟨rfl, rfl, h4, h6, hmem, hrings⟩

theorem State.coreLoad_done {c a : Nat} {s : State} (hr : s.cpuRuns c = true) (ho : s.busOutcome (s.coreAttr c) a false = .done) :
    s.coreLoad c a = s.loaded c (leNat (s.busBytes (s.coreAttr c) a 4)) := by
  unfold State.coreLoad State.busRead
  dsimp only
  rw [if_neg (by simp [hr]), ho]
  exact if_pos rfl

theorem State.core_stopped {c : Nat} {s : State} (h : s.cpuRuns c = false) (die a v : Nat) (b : ControlBlock) :
    s.coreStore c a v = s ∧ s.coreLoad c a = s ∧ s.controlWrite c die b v = s ∧ s.controlRead c die b = s := by
  have hn : (!s.cpuRuns c) = true := by simp [h]
  exact ⟨if_pos hn, if_pos hn, if_pos hn, if_pos hn⟩

/-! ### The obligation -/

/-- Settles O29: each access by its target, and what refuses it. -/
theorem hostAccess : Obligations.HostAccess := by
  unfold Obligations.HostAccess
  refine ⟨fun i offset len bs s => bar2Store_lands, ?_, ?_, fun i offset len n store s => bar2_refused, ?_, ?_, ?_, ?_,
    fun c die a v b s h => State.core_stopped h die a v b, ?_, fun c die g v s => State.controlWrite_permission, ?_, ?_⟩
  · intro i offset len bs s ho hsh hr hok
    rw [exec_bar2Access, execBar2Access, if_neg (by simp [ho])]
    dsimp only
    rw [if_neg (by simp [hok]; omega), if_pos hsh]
  · intro i offset len s ho hr hok
    rw [exec_bar2Access, execBar2Access, if_neg (by simp [ho])]
    dsimp only
    have hread : s.readIda (hostAttr i) (s.reg (0x2200 + i) 0x11 * 1048576 + offset) len =
        s.imem.readBytes (idaKey i (s.reg (0x2200 + i) 0x11 * 1048576 + offset)) len := if_pos hok
    rw [if_neg (by simp [hok]; omega), hread]
  · intro i offset len store s ho
    rw [exec_bar2Access]
    unfold execBar2Access
    exact if_pos (by simp [ho])
  · intro i off v c die a ctl reg b on req idx sub data s
    refine ⟨fun h => ?_, fun h => ?_, fun h => ?_, ?_⟩
    · rw [exec_registerWrite, execRegisterWrite]
      exact if_neg h
    · rw [exec_registerWrite, execRegisterWrite, if_pos rfl, if_pos h]
    · rw [exec_registerWrite, execRegisterWrite, if_pos rfl, if_neg (by simp [h])]
    · simp only [exec_registerWrite, execRegisterWrite, exec_write, execWrite, and_self]
  · intro i v s hw
    unfold State.pageWrite
    dsimp only
    rw [if_neg (by decide), if_neg (by omega), if_neg (by simp [hw]), if_pos rfl]
  · intro i v reg ctl on s
    refine ⟨fun h1 h2 => ?_, fun h => ?_⟩
    · have hc : (!s.configOpen) = true := by simp [State.configOpen, h1, h2]
      exact ⟨if_pos hc, if_pos hc⟩
    · have hc : ¬ (!s.configOpen) = true := by rcases h with h | h <;> simp [State.configOpen, h]
      exact ⟨if_neg hc, if_neg hc, if_neg hc⟩
  · exact fun c die v b s hr hw hd ht hb => ⟨State.controlWrite_refused hr hw hd ht hb, State.controlRead_refused hr hw hd ht hb⟩
  · intro c a v s hr hw
    refine ⟨fun d ht => ⟨fun ho => ?_, State.coreStore_done hr ht⟩, State.coreLoad_refused hr hw, State.coreLoad_done hr⟩
    rcases ht with ht | ht
    · exact State.coreStore_refused hr hw ht (fun d h => by cases h) ho
    · exact State.coreStore_refused hr hw ht (fun d h => by cases h) ho
  · intro i s
    rw [exec_malformedTlp, execMalformedTlp, exec_unexpectedCompletion, execUnexpectedCompletion]
    exact ⟨rfl, rfl⟩

end Sys2Proof.Machine
end

section
/-! PROOF of the instances' life (R82, R198, R215 to R217, R219 to R221, R224 to R226). -/
set_option Elab.async false
namespace Sys2Proof.Machine

/-! ### What a record leaves of an instance -/

/-- A part of an instance that its event ring, its pending vectors and its mapped pages are not in. -/
structure Inst.Apart {α : Type} (g : Inst → α) : Prop where
  evq : ∀ x q, g { x with evq := q } = g x
  vectors : ∀ x p, g { x with vectors := p } = g x
  mapped : ∀ x m d, g { x with mapped := m, pageDies := d } = g x

section
variable {α : Type} {g : Inst → α}

theorem State.apart_setInst (s : State) (i j : Nat) (x : Inst) (h : g x = g (s.inst i)) : g ((s.setInst i x).inst j) = g (s.inst j) := by
  rw [State.inst_setInst]
  split
  · next hij => rw [h, hij]
  · rfl

theorem State.apart_sendVector (hg : Inst.Apart g) (s : State) (i v j : Nat) : g ((s.sendVector i v).inst j) = g (s.inst j) := by
  unfold State.sendVector
  dsimp only
  split_ifs
  · rfl
  · exact State.apart_setInst _ _ _ _ (hg.vectors _ _)
  · rfl

theorem State.apart_mapPages (hg : Inst.Apart g) (s : State) (i : Nat) (ps : List Nat) (j : Nat) : g ((s.mapPages i ps).inst j) = g (s.inst j) := by
  unfold State.mapPages
  exact State.apart_setInst _ _ _ _ (hg.mapped _ _ _)

theorem State.apart_dropRecord (hg : Inst.Apart g) (s : State) (i j : Nat) : g ((s.dropRecord i).inst j) = g (s.inst j) := by
  have hm : g ((s.modInst i (fun x => { x with evq := { x.evq with lost := true } })).inst j) = g (s.inst j) :=
    State.apart_setInst _ _ _ _ (hg.evq _ _)
  exact hm

theorem State.apart_writeIda (hg : Inst.Apart g) (s : State) (at' : BusAttr) (a : Nat) (bs : List Byte) (j : Nat) :
    g ((s.writeIda at' a bs).inst j) = g (s.inst j) := by
  unfold State.writeIda
  dsimp only
  split
  · exact State.apart_mapPages hg s _ _ j
  · rfl

theorem State.apart_ringWrite (hg : Inst.Apart g) (s : State) (i : Nat) (r : EvRecord) (j : Nat) : g ((s.ringWrite i r).inst j) = g (s.inst j) := by
  have hset : ∀ q : Evq, g ((s.setInst i { s.inst i with evq := q }).inst j) = g (s.inst j) := fun q => State.apart_setInst s i j _ (hg.evq _ _)
  have hida : ∀ (t : State) (p : Prop) [Decidable p] (at' : BusAttr) (n : Nat) (bs : List Byte),
      g ((if p then t.writeIda at' n bs else t).inst j) = g (t.inst j) := fun t p _ at' n bs => by
    split
    · exact State.apart_writeIda hg _ _ _ _ _
    · rfl
  have hsend : ∀ (t : State) (p : Prop) [Decidable p] (v : Nat), g ((if p then t.sendVector i v else t).inst j) = g (t.inst j) := fun t p _ v => by
    split
    · exact State.apart_sendVector hg _ _ _ _
    · rfl
  exact (hsend _ _ _).trans ((hida _ _ _ _ _).trans (hset _))

/-- A record leaves every such part of every instance, the held records too where the instance is not frozen. -/
theorem State.apart_deliver (hg : Inst.Apart g) (s : State) (i : Nat) (r : EvRecord) (j : Nat)
    (hh : s.isShed i = false ∨ ∀ x l, g { x with held := l } = g x) : g ((s.deliver i r).inst j) = g (s.inst j) := by
  have hdrop := s.apart_dropRecord hg i j
  unfold State.deliver
  dsimp only
  split_ifs with h1 h2 h3 h4 h5
  · rfl
  · rfl
  · exact hdrop
  · exact State.apart_setInst s i j _ (hh.elim (fun h => absurd h4 (by simp [h])) (fun h => h _ _))
  · exact hdrop
  · exact State.apart_ringWrite hg s i r j
  · exact hdrop

end

/-- The status of instance j's last change of state. -/
def State.changeOf (s : State) (j : Nat) : Nat := (s.inst j).changeStatus

theorem State.changeOf_deliver (s : State) (i : Nat) (r : EvRecord) (j : Nat) : (s.deliver i r).changeOf j = s.changeOf j :=
  State.apart_deliver (g := Inst.changeStatus) ⟨fun _ _ => rfl, fun _ _ => rfl, fun _ _ _ => rfl⟩ s i r j (.inr fun _ _ => rfl)

theorem State.changeOf_stateEvent (s : State) (i reason st d j : Nat) : (s.stateEvent i reason st d).changeOf j = s.changeOf j := by
  unfold State.stateEvent State.event
  dsimp only
  split
  · rw [State.changeOf_deliver, State.changeOf_deliver]
  · rw [State.changeOf_deliver]

theorem State.changeOf_instEnter (s : State) (i st status : Nat) : (s.instEnter i st status).changeOf i = status := by
  rw [State.instEnter, State.changeOf_stateEvent, State.changeOf, State.inst_modInst, if_pos rfl]

/-! ### VF Enable -/

/-- The VFs' sampled vector counts. -/
theorem State.each_msixSize (s : State) (l : List Nat) : (s.each l (fun t i => t.modInst i (fun x => { x with msixSize := t.reg (0x2200 + i) 3 }))).live = s.live ∧
    (s.each l (fun t i => t.modInst i (fun x => { x with msixSize := t.reg (0x2200 + i) 3 }))).vfEnable = s.vfEnable ∧
    (s.each l (fun t i => t.modInst i (fun x => { x with msixSize := t.reg (0x2200 + i) 3 }))).numVfs = s.numVfs ∧
    (∀ i k, (s.each l (fun t i => t.modInst i (fun x => { x with msixSize := t.reg (0x2200 + i) 3 }))).reg i k = s.reg i k) ∧
    ∀ i ∈ l, ((s.each l (fun t i => t.modInst i (fun x => { x with msixSize := t.reg (0x2200 + i) 3 }))).inst i).msixSize = s.reg (0x2200 + i) 3 := by
  induction l generalizing s with
  | nil => exact ⟨rfl, rfl, rfl, fun _ _ => rfl, fun i hi => absurd hi (by simp)⟩
  | cons n l ih =>
    obtain ⟨h1, h2, h3, h4, h5⟩ := ih (s.modInst n (fun x => { x with msixSize := s.reg (0x2200 + n) 3 }))
    refine ⟨h1, h2, h3, h4, fun i hi => ?_⟩
    by_cases hl : i ∈ l
    · exact h5 i hl
    · obtain rfl : i = n := by simpa [hl] using hi
      have hkeep : ∀ t : State, (t.inst i).msixSize = s.reg (0x2200 + i) 3 →
          ((t.each l (fun t i => t.modInst i (fun x => { x with msixSize := t.reg (0x2200 + i) 3 }))).inst i).msixSize = s.reg (0x2200 + i) 3 := by
        intro t ht
        refine State.each_keeps_mem (P := fun t => (t.inst i).msixSize = s.reg (0x2200 + i) 3) l _ ?_ t ht
        intro u m hm hu
        have hne : m ≠ i := fun h => hl (h ▸ hm)
        rw [State.inst_modInst, if_neg hne]
        exact hu
      refine hkeep _ ?_
      rw [State.inst_modInst, if_pos rfl]

/-! ### An instance changes state -/

theorem State.instEnter_spec {i : Nat} (st status : Nat) (s : State) : (s.instEnter i st status).instState i = st ∧
    ((s.instEnter i st status).inst i).changeStatus = status ∧ (∀ j, j ≠ i → (s.instEnter i st status).instState j = s.instState j) ∧
    SameRings s (s.instEnter i st status) ∧ ∃ u : State, s.instEnter i st status = u.stateEvent i st status 0 := by
  obtain ⟨h1, h2⟩ := s.instEnter_state i st status
  exact ⟨h1, s.changeOf_instEnter i st status, h2, SameRings.of_eff (State.instEnter_eff s i st status (Eff.refl 17593261891712 s) rfl), ⟨_, rfl⟩⟩

/-! ### The reset entry -/

theorem instanceReset_turnedAway {req : Requester} {i v : Nat} {s : State} (hi : i < 32) (hv : v < 256) (hne : v ≠ 1)
    (h : s.reaches req (0x2200 + 1 * i) 0x15 (leBytes 1 v) = true) :
    exec (.instanceReset req i v) s = .next (s.turnedAway req (0x2200 + 1 * i) 0x15 (leBytes 1 v)) := by
  obtain ⟨f, hf, -⟩ := State.reaches_lookup h
  obtain ⟨o, hobj, hbase, hsub⟩ : ∃ o, objectAt (0x2200 + 1 * i) = some (o, i) ∧ o.base = 0x2200 ∧
      o.sub? 0x15 = some ⟨21, 21, "command", .u8, .wo, .live, .blank, .only [1], 0⟩ := by
    interval_cases i <;> exact ⟨_, rfl, rfl, rfl⟩
  have hfe : f = ⟨o, i, ⟨21, 21, "command", .u8, .wo, .live, .blank, .only [1], 0⟩⟩ := by
    have hf' := hf
    simp only [lookup, hobj, hsub] at hf'
    split at hf'
    · simpa using hf'.symm
    · exact absurd hf' (by simp)
  subst hfe
  have hrow : Found.row' ⟨o, i, ⟨21, 21, "command", .u8, .wo, .live, .blank, .only [1], 0⟩⟩ =
      ⟨21, 21, "command", .u8, .wo, .live, .blank, .only [1], 0⟩ := by simp [Found.row', hbase]
  have hx : (v : Int) ≠ 1 := by omega
  simp only [exec_instanceReset, execInstanceReset, objectIndex, if_pos hi]
  rw [State.submitNumber_turnedAway (n := 1) (by omega) hf rfl (by decide) h (by simp [State.recoveryShut, hbase]) (by simp [State.secureOnly, hbase])
    (by rw [hrow]; rfl) (by simp [State.lengthFits, hrow, hbase, SubEntry.lengthOk, Ty.isBytes]; rfl) ?_]
  · simp [Found.valueOk, SubEntry.valueOk, SubEntry.inRange, hrow, hbase, Val.toInt, leNat_leBytes 1 v hv, hx]

/-! ### The obligation -/

/-- Settles O30: each of an instance's changes by its state, and the reset and assignment entries by their WRITE. -/
theorem instances : Obligations.Instances := by
  unfold Obligations.Instances
  refine ⟨?_, ?_, ?_, ?_, ?_, ?_, ?_, ?_, ?_, ?_, ?_, ⟨rfl, rfl, rfl, rfl⟩, ?_, ?_, ?_, fun i st status s _ => s.instEnter_spec st status, ?_, ?_, ?_,
    ?_, ?_, ?_, ?_, fun req i v s => instanceReset_turnedAway, ?_, ?_, ?_⟩
  · intro n s hop hvf hn
    obtain ⟨h1, h2, h3, h4, h5⟩ := State.each_msixSize { s with vfEnable := true, numVfs := n } ((List.range 31).map (· + 1))
    refine ⟨_, ?_, h2, h3, fun i hlo hhi => ?_, h1⟩
    · rw [exec_vfEnableSet, execVfEnableSet, if_neg (by simp [hop, hvf]; omega)]
      simp only [State.instState, h4]
      rfl
    · exact h5 i (List.mem_map.2 ⟨i - 1, List.mem_range.2 (by omega), by omega⟩)
  · intro n s h
    rw [exec_vfEnableSet, execVfEnableSet, if_pos (by rcases h with h | h | h <;> simp [h])]
  · intro n s hop hvf hn
    rw [exec_vfDisable, execVfDisable, if_neg (by simp [hop, hvf]; omega)]
  · intro n s h
    rw [exec_vfDisable, execVfDisable, if_pos (by rcases h with h | h | h <;> simp [h])]
  · intro i s hop hi
    rw [exec_flr, execFlr, if_neg (by simp [hop]; omega)]
  · intro i s h
    rw [exec_flr, execFlr, if_pos (by rcases h with h | h <;> simp [h])]
  · intro i s hi
    exact if_neg hi
  · intro s
    unfold State.resetInstance
    exact if_pos rfl
  · intro i cause s hop hi hst
    rw [exec_instanceFault, execInstanceFault, if_neg (by simp [hop]; omega)]
    exact if_neg (by omega)
  · intro i cause s hop hi h0 h1 h4
    rw [exec_instanceFault, execInstanceFault, if_neg (by simp [hop]; omega)]
    exact if_pos ⟨h1, h4⟩
  · intro i cause s h
    rw [exec_instanceFault, execInstanceFault, if_pos (by rcases h with h | h | h <;> simp [h])]
  · intro i s hop hi hst
    rw [exec_quiesceDone, execQuiesceDone, if_pos ⟨hop, hi, hst⟩]
  · intro i s h
    rw [exec_quiesceDone, execQuiesceDone, if_neg (by rintro ⟨h1, h2, h3⟩; exact h.elim (fun h => by simp [h] at h1) (fun h => h.elim (by omega) (fun h => h h3)))]
  · intro i s
    exact (State.instEnter_state _ i 1 Status.ok).1
  · intro i s h
    exact ⟨if_pos h, if_pos h, if_pos (.inl h)⟩
  · intro i s h0 h2
    unfold State.resetOne
    dsimp only
    rw [if_neg h0, if_neg h2]
  · intro i s h2
    unfold State.resetOne
    dsimp only
    rw [if_neg (by omega), if_pos h2]
  · intro i s h0
    exact if_neg h0
  · intro i st s h
    unfold State.faultInstance
    dsimp only
    rw [if_neg (by omega)]
  · intro i st s
    refine ⟨fun hr ht => if_pos ⟨Option.isSome_iff_ne_none.2 hr, ht⟩, fun h => if_neg ?_⟩
    rintro ⟨h1, h2⟩
    rcases h with h | h
    · simp [h] at h1
    · exact h h2
  · intro req i v s hi hv ha
    rw [instanceReset_admits req i v s hi hv ha, State.instanceWrite, if_pos rfl]
  · intro req e es s
    refine ⟨rfl, fun h => ?_⟩
    rw [exec_assignmentWrite, exec_writeGroup]
    unfold execAssignmentWrite execWriteGroup
    split
    · exact absurd rfl h
    · rfl
  · rintro req e f s u hi ha rfl hf
    rw [exec_assignmentWrite, execAssignmentWrite, State.submit_admits s req e.idx e.sub e.data f hi ha hf]
  · intro i s
    refine ⟨fun h => ?_, fun h => ?_⟩
    · rw [exec_assignmentTakenUp, execAssignmentTakenUp, if_pos (Option.isSome_iff_ne_none.2 h)]
    · rw [exec_assignmentTakenUp, execAssignmentTakenUp, if_neg (by simp [h])]

end Sys2Proof.Machine
end

section
/-! PROOF of freezing and thawing an instance (R227 to R231, R234). -/
set_option Elab.async false
namespace Sys2Proof.Machine

/-! ### Registers and instances under what only some fields are written by -/

theorem State.reg_of_eff {c : Nat} {s t : State} (he : Eff c s t) (h4 : Nat.testBit c 4 = false) (h5 : Nat.testBit c 5 = false)
    (h7 : Nat.testBit c 7 = false) (j k : Nat) : t.reg j k = s.reg j k :=
  State.reg_congr (he.live_eq h7) (he.part_eq h4) (he.grade_eq h5) j k

theorem State.inst_of_eff {c : Nat} {s t : State} (he : Eff c s t) (h : Nat.testBit c 21 = false) (j : Nat) : t.inst j = s.inst j := by
  unfold State.inst
  rw [he.insts_eq h]

/-! ### The held records and the mailbox of an instance that runs -/

theorem State.inst_deliver_of_ne (s : State) (i : Nat) (r : EvRecord) {j : Nat} (h : j ≠ i) : (s.deliver i r).inst j = s.inst j := by
  have hdrop : (s.dropRecord i).inst j = s.inst j := by
    unfold State.dropRecord State.inc State.count
    rw [State.inst_setReg, State.inst_modInst, if_neg (Ne.symm h)]
  unfold State.deliver
  dsimp only
  split_ifs
  · rfl
  · rfl
  · exact hdrop
  · rw [State.inst_setInst, if_neg (Ne.symm h)]
  · exact hdrop
  · exact (s.inst_ringWrite i r).2 j h
  · exact hdrop

theorem State.held_deliver (s : State) (i : Nat) (r : EvRecord) (j : Nat) (h : s.isShed j = false) :
    ((s.deliver i r).inst j).held = (s.inst j).held := by
  by_cases hj : j = i
  · subst hj
    exact State.apart_deliver (g := Inst.held) ⟨fun _ _ => rfl, fun _ _ => rfl, fun _ _ _ => rfl⟩ s j r j (.inl h)
  · rw [State.inst_deliver_of_ne s i r hj]

theorem State.mbox_deliver (s : State) (i : Nat) (r : EvRecord) (j : Nat) : ((s.deliver i r).inst j).mbox = (s.inst j).mbox :=
  State.apart_deliver (g := Inst.mbox) ⟨fun _ _ => rfl, fun _ _ => rfl, fun _ _ _ => rfl⟩ s i r j (.inr fun _ _ => rfl)

theorem State.instState_deliver (s : State) (i : Nat) (r : EvRecord) (j : Nat) : (s.deliver i r).instState j = s.instState j :=
  State.reg_of_liveAt (State.liveAt_deliver _ _ _ _ _ (by decide))

/-- An instance is ACTIVE and holds no records. -/
def State.Emptied (s : State) (i : Nat) : Prop := s.instState i = 1 ∧ (s.inst i).held = []

theorem State.Emptied.notShed {s : State} {i : Nat} (h : s.Emptied i) : s.isShed i = false := by
  unfold State.isShed
  rw [h.1]
  rfl

theorem State.Emptied.deliver {s : State} {i : Nat} (h : s.Emptied i) (j : Nat) (r : EvRecord) : (s.deliver j r).Emptied i :=
  ⟨(s.instState_deliver j r i).trans h.1, (s.held_deliver j r i h.notShed).trans h.2⟩

theorem State.Emptied.deliverAll {i : Nat} (j : Nat) (rs : List EvRecord) {s : State} (h : s.Emptied i) : (s.deliverAll j rs).Emptied i := by
  induction rs generalizing s with
  | nil => exact h
  | cons r rs ih => exact ih (h.deliver j r)

theorem State.Emptied.stopQueue {s : State} {i : Nat} (h : s.Emptied i) (j q st : Nat) : (s.stopQueue j q st).Emptied i := by
  refine State.Emptied.deliver (s := s.modSq j q (fun x => { x with stopped := true, status := st })) ⟨h.1, ?_⟩ _ _
  have hm : ((s.modSq j q (fun x => { x with stopped := true, status := st })).inst i).held = (s.inst i).held :=
    State.apart_setInst (g := Inst.held) s j i _ rfl
  rw [hm, h.2]

theorem State.Emptied.tailsResume {s : State} {i : Nat} (h : s.Emptied i) (j : Nat) : (s.tailsResume j).Emptied i := by
  refine State.each_keeps (P := fun t => t.Emptied i) _ _ (fun t q ht => ?_) s h
  dsimp only
  split
  · exact ht.stopQueue _ _ _
  · exact ht

/-! ### The graphics contexts settle -/

/-- Taking up what may run writes the contexts' states and no other register. -/
theorem State.reg_gfxSettle (s : State) (j k : Nat) (h : ∀ c, entryKey (ctxIndex c) 1 ≠ entryKey j k) : s.gfxSettle.reg j k = s.reg j k := by
  have hrun : ∀ (t : State) (d : Nat), (t.gfxRun d).reg j k = t.reg j k := fun t d => by
    unfold State.gfxRun
    split
    · rfl
    have hs : ∀ (p : Prop) [Decidable p], (if p then t.startPeriod d else t).reg j k = t.reg j k := fun p _ => by
      split
      · rfl
      · rfl
    dsimp only
    split
    · exact hs _
    · rw [State.setCtxState, State.reg_setReg_of_ne _ _ _ _ _ _ (h _)]
      exact hs _
  unfold State.gfxSettle
  have htake : s.takeParts.reg j k = s.reg j k := State.reg_of_eff (State.takeParts_eff s (Eff.refl 68719476736 s) rfl) rfl rfl rfl j k
  rw [← htake]
  refine State.reg_each _ _ j k (fun t d => ?_) _
  have hpre : (t.requestPreemption d).reg j k = t.reg j k := by
    unfold State.requestPreemption
    split
    · rfl
    · rfl
  dsimp only
  rw [hrun]
  split
  · split
    · exact hpre
    · rfl
  · rfl

theorem ctxIndex_ge (c : Nat) : 0x4820 ≤ ctxIndex c := by
  unfold ctxIndex
  split <;> omega

theorem State.instState_gfxSettle (s : State) {i : Nat} (h : i < 32) : s.gfxSettle.instState i = s.instState i :=
  s.reg_gfxSettle _ _ fun c => by have := ctxIndex_ge c; unfold entryKey; omega

theorem State.Emptied.gfxSettle {s : State} {i : Nat} (hi : i < 32) (h : s.Emptied i) : s.gfxSettle.Emptied i :=
  ⟨(s.instState_gfxSettle hi).trans h.1,
    (congrArg Inst.held (State.inst_of_eff (State.gfxSettle_eff s (Eff.refl 68719476864 s) rfl) rfl i)).trans h.2⟩

theorem State.Emptied.of_eff {c : Nat} {s t : State} {i : Nat} (h : s.Emptied i) (he : Eff c s t) (h4 : Nat.testBit c 4 = false)
    (h5 : Nat.testBit c 5 = false) (h7 : Nat.testBit c 7 = false) (h18 : Nat.testBit c 21 = false) : t.Emptied i :=
  ⟨(State.reg_of_eff he h4 h5 h7 _ _).trans h.1, (congrArg Inst.held (State.inst_of_eff he h18 i)).trans h.2⟩

theorem State.Emptied.stateEvent {s : State} {i : Nat} (h : s.Emptied i) (j reason st d : Nat) : (s.stateEvent j reason st d).Emptied i := by
  unfold State.stateEvent State.event
  dsimp only
  split
  · exact (h.deliver _ _).deliver _ _
  · exact h.deliver _ _

theorem State.mbox_stateEvent (s : State) (i j reason st d : Nat) : ((s.stateEvent j reason st d).inst i).mbox = (s.inst i).mbox := by
  unfold State.stateEvent State.event
  dsimp only
  split
  · rw [State.mbox_deliver, State.mbox_deliver]
  · rw [State.mbox_deliver]

theorem State.mbox_instEnter (s : State) (i st status : Nat) : ((s.instEnter i st status).inst i).mbox = (s.inst i).mbox := by
  rw [State.instEnter, State.mbox_stateEvent, State.inst_modInst, if_pos rfl]
  rfl

theorem State.held_instEnter_active (s : State) (i status : Nat) (h : (s.inst i).held = []) : ((s.instEnter i 1 status).inst i).held = [] := by
  refine (State.Emptied.stateEvent (s := (s.setReg (0x2200 + i) 1 1).modInst i (fun x => { x with changeStatus := status })) ⟨?_, ?_⟩ _ _ _ _).2
  · exact State.reg_setReg_self _ _ _ _
  · rw [State.inst_modInst, if_pos rfl]
    exact h

/-! ### Asking what draws to stop -/

theorem State.ctxInst_modGdie (s : State) (d : Nat) (f : GfxDie → GfxDie) (c : Nat) : (s.modGdie d f).ctxInst c = s.ctxInst c := rfl

theorem State.gdie_modGdie (s : State) (d e : Nat) (f : GfxDie → GfxDie) : (s.modGdie d f).gdie e = if d = e then f (s.gdie d) else s.gdie e := by
  simp only [State.gdie, State.modGdie, Tab.getD_put]

/-- A die's cores are asked to stop. -/
theorem State.gdie_requestPreemption (s : State) (d e : Nat) : ((s.requestPreemption d).gdie e).running = (s.gdie e).running ∧
    ((s.gdie e).request ≠ none → ((s.requestPreemption d).gdie e).request ≠ none) ∧
    ((s.gdie d).running ≠ none → ((s.requestPreemption d).gdie d).request ≠ none) := by
  unfold State.requestPreemption
  split
  · next h =>
    rw [State.gdie_modGdie, State.gdie_modGdie, if_pos rfl]
    split
    · next hde => subst hde; exact ⟨rfl, fun _ => by simp, fun _ => by simp⟩
    · exact ⟨rfl, id, fun _ => by simp⟩
  · next h => exact ⟨rfl, id, fun hr => absurd (Option.isSome_iff_ne_none.2 hr) h⟩

/-- A step of a freeze: die d's cores are asked to stop where a context of the instance draws on them. -/
def State.freezeDie (i : Nat) (t : State) (d : Nat) : State :=
  match (t.gdie d).running with
  | some c => if t.ctxInst c = some i then t.requestPreemption d else t
  | none => t

theorem State.freezeDie_keeps (i : Nat) (t : State) (d : Nat) : (∀ e, ((State.freezeDie i t d).gdie e).running = (t.gdie e).running ∧
    ((t.gdie e).request ≠ none → ((State.freezeDie i t d).gdie e).request ≠ none)) ∧ (∀ c, (State.freezeDie i t d).ctxInst c = t.ctxInst c) := by
  have hctx : ∀ c, (t.requestPreemption d).ctxInst c = t.ctxInst c := fun c => by
    unfold State.requestPreemption
    split
    · rfl
    · rfl
  unfold State.freezeDie
  split
  · split
    · exact ⟨fun e => ⟨(t.gdie_requestPreemption d e).1, (t.gdie_requestPreemption d e).2.1⟩, hctx⟩
    · exact ⟨fun _ => ⟨rfl, id⟩, fun _ => rfl⟩
  · exact ⟨fun _ => ⟨rfl, id⟩, fun _ => rfl⟩

theorem State.freezeDie_asks {i d c : Nat} {t : State} (hr : (t.gdie d).running = some c) (hc : t.ctxInst c = some i) :
    ((State.freezeDie i t d).gdie d).request ≠ none := by
  unfold State.freezeDie
  rw [hr]
  dsimp only
  rw [if_pos hc]
  exact (t.gdie_requestPreemption d d).2.2 (by simp [hr])

theorem State.each_freezeDie {i : Nat} (l : List Nat) (t : State) :
    (∀ e, ((t.each l (State.freezeDie i)).gdie e).running = (t.gdie e).running ∧
      ((t.gdie e).request ≠ none → ((t.each l (State.freezeDie i)).gdie e).request ≠ none)) ∧
    ∀ d ∈ l, ∀ c, (t.gdie d).running = some c → t.ctxInst c = some i → ((t.each l (State.freezeDie i)).gdie d).request ≠ none := by
  induction l generalizing t with
  | nil => exact ⟨fun _ => ⟨rfl, id⟩, fun d hd => absurd hd (by simp)⟩
  | cons n l ih =>
    obtain ⟨h1, h2⟩ := ih (State.freezeDie i t n)
    obtain ⟨k1, k2⟩ := State.freezeDie_keeps i t n
    refine ⟨fun e => ⟨(h1 e).1.trans (k1 e).1, fun h => (h1 e).2 ((k1 e).2 h)⟩, fun d hd c hr hc => ?_⟩
    rcases List.mem_cons.1 hd with rfl | hd
    · exact (h1 d).2 (State.freezeDie_asks hr hc)
    · exact h2 d hd c ((k1 d).1.trans hr) ((k2 c).trans hc)

theorem State.gfxFreeze_asks (s : State) (i d c : Nat) (hd : d < s.dies) (hr : (s.gdie d).running = some c) (hc : s.ctxInst c = some i) :
    ((s.gfxFreeze i).gdie d).request ≠ none :=
  (State.each_freezeDie s.dieList s).2 d (List.mem_range.2 hd) c hr hc

/-! ### The commands -/

/-- FREEZE of an ACTIVE instance. -/
theorem State.freezeWrite_active {i : Nat} {u : State} (h : u.instState i = 1) : (u.freezeWrite i).1 = Status.pending ∧
    (u.freezeWrite i).2.instState i = 4 ∧ (u.freezeWrite i).2.shed = {
      running := some 1
      target := i
      drainDeadline := if u.reg 0x2221 3 = 1 then some (u.now + ms (u.reg 0x2221 4)) else none } := by
  obtain ⟨v, hst, hshed, hw⟩ : ∃ v : State, v.instState i = 4 ∧
      v.shed = {
        running := some 1
        target := i
        drainDeadline := if decide (u.reg 0x2221 3 = 1) then some (u.now + ms (u.reg 0x2221 4)) else none } ∧
      u.freezeWrite i = (Status.pending, (if decide (u.reg 0x2221 3 = 1) then v else v.gfxFreeze i).audioFreeze i) := by
    unfold State.freezeWrite
    rw [if_neg (not_not.2 h)]
    refine ⟨_, ?_, ?_, rfl⟩
    · exact (State.instEnter_state _ i 4 Status.ok).1
    · exact (State.instEnter_eff _ i 4 Status.ok (Eff.refl 17593261891712 _) rfl).shed_eq
  have he : Eff 2267742732288 v ((if decide (u.reg 0x2221 3 = 1) then v else v.gfxFreeze i).audioFreeze i) := by
    refine State.audioFreeze_eff _ i ?_ rfl
    split
    · exact Eff.refl _ _
    · exact State.gfxFreeze_eff v i (Eff.refl _ _) rfl
  rw [hw]
  exact ⟨rfl, (State.reg_of_eff he rfl rfl rfl _ _).trans hst, he.shed_eq.trans (hshed.trans (by simp))⟩

/-- The freeze steps are done. -/
theorem State.freezeEnd_spec {i : Nat} (s : State) (hi : i < 32) : (s.freezeEnd i).instState i = 5 ∧ (s.freezeEnd i).shed = {} ∧
    (s.freezeEnd i).reg 0x2221 9 = Status.ok := by
  unfold State.freezeEnd
  generalize hv : State.gfxSettle ((State.setReg { s with shed := {} } 0x2221 9 Status.ok)) = v
  have hshed : v.shed = {} := hv ▸ (State.gfxSettle_eff (State.setReg { s with shed := {} } 0x2221 9 Status.ok) (Eff.refl 68719476864 _) rfl).shed_eq
  have hreg : v.reg 0x2221 9 = Status.ok := by
    rw [← hv, State.reg_gfxSettle _ _ _ fun c => by unfold entryKey; omega]
    exact State.reg_setReg_self _ _ _ _
  unfold State.enterFrozen
  refine ⟨(State.instEnter_state _ i 5 Status.ok).1, ?_, ?_⟩
  · exact ((State.instEnter_eff (v.modInst i (fun x => { x with frozenTime := v.now })) i 5 Status.ok (Eff.refl 17593261891712 _) rfl).shed_eq).trans hshed
  · rw [State.reg_instEnter _ _ _ _ _ _ (by decide) (by unfold entryKey; omega)]
    exact hreg

/-- THAW of a FROZEN instance. -/
theorem State.thawWrite_frozen {i : Nat} {u v w t : State} (hi : i < 32) (h : u.instState i = 5)
    (hv : v = State.deliverAll ((u.setReg (0x2200 + i) 1 1).modInst i (fun y => { y with held := [], heldSaved := 0 })) i (u.inst i).held)
    (hw : w = (((v.gfxSettle).audioThaw i).playsResume i).tailsResume i)
    (ht : t = (State.setReg { w.modInst i (fun y => { y with mbox := { y.mbox with recorded := none } }) with
      dir := { w.dir with blocked := w.dir.blocked ++ (u.inst i).mbox.recorded.toList.map (fun r => { req := r.1, request := r.2, accepted := false }) } }
      0x2221 9 Status.ok).instEnter i 1 Status.ok) :
    u.thawWrite i = (Status.pending, t) ∧ (t.inst i).held = [] ∧ (t.inst i).mbox.recorded = none ∧ t.instState i = 1 ∧ t.reg 0x2221 9 = Status.ok := by
  have hq : v.Emptied i := by
    subst hv
    refine State.Emptied.deliverAll _ _ ⟨State.reg_setReg_self _ _ _ _, ?_⟩
    rw [State.inst_modInst, if_pos rfl]
  have hwq : w.Emptied i := by
    subst hw
    refine State.Emptied.tailsResume ?_ i
    refine ((hq.gfxSettle hi).of_eff (State.audioThaw_eff v.gfxSettle i (Eff.refl 2199023255552 _) rfl) rfl rfl rfl rfl).of_eff
      (State.playsResume_eff _ i (Eff.refl 274877907008 _) rfl) rfl rfl rfl rfl
  have hin : ∀ dir, (State.setReg { w.modInst i (fun y => { y with mbox := { y.mbox with recorded := none } }) with dir := dir } 0x2221 9 Status.ok).inst i =
      { w.inst i with mbox := { (w.inst i).mbox with recorded := none } } := fun dir => by
    have hm := State.inst_modInst w i i (fun y => { y with mbox := { y.mbox with recorded := none } })
    rw [if_pos rfl] at hm
    exact hm
  refine ⟨?_, ?_, ?_, ?_, ?_⟩
  · unfold State.thawWrite
    rw [if_neg (by omega)]
    subst ht hw hv
    rfl
  · rw [ht]
    refine State.held_instEnter_active _ i _ ?_
    rw [hin]
    exact hwq.2
  · rw [ht, State.mbox_instEnter, hin]
  · rw [ht]
    exact (State.instEnter_state _ i 1 Status.ok).1
  · rw [ht, State.reg_instEnter _ _ _ _ _ _ (by decide) (by unfold entryKey; omega)]
    exact State.reg_setReg_self _ _ _ _

theorem State.shedWrite_free {u : State} (h : u.shed.running = none) (img : List Byte) (ok : Bool) :
    u.shedWrite 1 img ok = u.freezeWrite (u.reg 0x2221 1) ∧ u.shedWrite 2 img ok = u.thawWrite (u.reg 0x2221 1) ∧
    u.shedWrite 3 img ok = u.saveWrite (u.reg 0x2221 1) ∧ u.shedWrite 4 img ok = u.restoreWrite (u.reg 0x2221 1) img ok := by
  unfold State.shedWrite
  rw [h]
  exact ⟨rfl, rfl, rfl, rfl⟩

theorem State.shedWrite_busy {u : State} {c : Nat} (h : u.shed.running = some c) (n : Nat) (img : List Byte) (ok : Bool) :
    u.shedWrite n img ok = (Status.busy, u) := by
  unfold State.shedWrite
  rw [h]
  rfl

/-! ### The obligation -/

/-- Settles O31: each shed command by the state of its target, as the admitted WRITE and as its end. -/
theorem freezeAndThaw : Obligations.FreezeAndThaw := by
  unfold Obligations.FreezeAndThaw
  refine ⟨?_, ?_, ?_, ?_, ?_, ?_, ?_⟩
  · rintro req s u ha rfl hr hi
    generalize hb : Config.freeBytes (s.admitted req 8737 2 (leBytes 1 1)).free = img
    generalize ho : Config.freeBool (s.admitted req 8737 2 (leBytes 1 1)).free = ok
    have hx := freeze_admits req s ha
    rw [hb, ho, (State.shedWrite_free hr img ok).1] at hx
    refine ⟨fun h => ?_, fun h => ?_⟩
    · obtain ⟨h1, h2, h3⟩ := State.freezeWrite_active h
      have he := State.freezeWrite_eff (s.admitted req 8737 2 (leBytes 1 1)) ((s.admitted req 8737 2 (leBytes 1 1)).reg 0x2221 1)
        (Eff.refl 19861038178432 _) rfl
      rw [h1] at hx
      exact ⟨_, hx, h2, h3, SameRings.of_eff he, he.mem_eq⟩
    · rw [hx, State.freezeWrite, if_pos h]
  · refine fun req s u c => ⟨?_, ?_⟩
    · rintro ha rfl hr
      rw [freeze_admits req s ha, State.shedWrite_busy hr]
    · rintro ha rfl hr
      rw [thaw_admits req s ha, State.shedWrite_busy hr]
  · intro t s ht
    have hx : exec .drainLimit s = .next ((State.arriveAt { s with shed := { s.shed with drainDeadline := none } } t).gfxFreeze s.shed.target) := by
      rw [exec_drainLimit, execDrainLimit, ht]
    have he := State.gfxFreeze_eff (State.arriveAt { s with shed := { s.shed with drainDeadline := none } } t) s.shed.target (Eff.refl 68719476736 _) rfl
    have hm : SameMemory s _ := SameMemory.of_eq he.mem_eq he.imem_eq
    have hs : SameRings s _ := ⟨he.active_eq, he.draft_eq, he.previous_eq⟩
    exact ⟨_, hx, he.now_eq, he.shed_eq, he.live_eq, hm, hs, fun d c =>
      State.gfxFreeze_asks (State.arriveAt { s with shed := { s.shed with drainDeadline := none } } t) s.shed.target d c⟩
  · intro s h
    rw [exec_drainLimit, execDrainLimit, h]
  · intro s h1 h2 h3 hi
    have hx : exec .freezeDone s = .next (s.freezeEnd s.shed.target) := by
      rw [exec_freezeDone, execFreezeDone, if_pos ⟨h1, h2, h3⟩]
    obtain ⟨k1, k2, k3⟩ := s.freezeEnd_spec hi
    have he := State.freezeEnd_eff s s.shed.target (Eff.refl 17662014922880 s) rfl
    exact ⟨_, hx, k1, k2, k3, SameRings.of_eff he, he.mem_eq⟩
  · intro s h
    rw [exec_freezeDone, execFreezeDone, if_neg]
    rintro ⟨h1, h2, h3⟩
    exact h.elim (fun h => h h1) (fun h => h.elim (fun h => h h2) (fun h => by simp [h] at h3))
  · rintro req s u ha rfl hr hi
    generalize hb : Config.freeBytes (s.admitted req 8737 2 (leBytes 1 2)).free = img
    generalize ho : Config.freeBool (s.admitted req 8737 2 (leBytes 1 2)).free = ok
    have hx := thaw_admits req s ha
    rw [hb, ho, (State.shedWrite_free hr img ok).2.1] at hx
    refine ⟨fun h => ?_, fun h => ?_⟩
    · obtain ⟨h1, h2, h3, h4, h5⟩ := State.thawWrite_frozen hi h rfl rfl rfl
      have he := State.thawWrite_eff (s.admitted req 8737 2 (leBytes 1 2)) ((s.admitted req 8737 2 (leBytes 1 2)).reg 0x2221 1)
        (Eff.refl 20135882563776 _) rfl
      rw [h1] at hx he
      exact ⟨_, _, _, hx, rfl, rfl, rfl, h2, h3, h4, h5, SameRings.of_eff he, he.mem_eq⟩
    · rw [hx, State.thawWrite, if_pos h]

end Sys2Proof.Machine
end

section
/-! PROOF of saving and restoring a shed image (R227, R228, R235 to R240). -/
set_option Elab.async false
namespace Sys2Proof.Machine

/-! ### The outcome of a shed command -/

theorem State.hostData_sendVector (s : State) (i v : Nat) : (s.sendVector i v).out.hostData = s.out.hostData := by
  unfold State.sendVector
  dsimp only
  split_ifs
  · rfl
  · rfl
  · rfl

theorem State.hostData_ringWrite (s : State) (i : Nat) (r : EvRecord) : (s.ringWrite i r).out.hostData = s.out.hostData := by
  have hida : ∀ (t : State) (p : Prop) [Decidable p] (at' : BusAttr) (n : Nat) (bs : List Byte),
      (if p then t.writeIda at' n bs else t).out.hostData = t.out.hostData := fun t p _ at' n bs => by
    unfold State.writeIda
    dsimp only
    split_ifs
    · rfl
    · rfl
    · rfl
  have hsend : ∀ (t : State) (p : Prop) [Decidable p] (v : Nat), (if p then t.sendVector i v else t).out.hostData = t.out.hostData := fun t p _ v => by
    split
    · exact State.hostData_sendVector _ _ _
    · rfl
  exact (hsend _ _ _).trans (hida _ _ _ _ _)

theorem State.hostData_deliver (s : State) (i : Nat) (r : EvRecord) : (s.deliver i r).out.hostData = s.out.hostData := by
  unfold State.deliver
  dsimp only
  split_ifs
  · rfl
  · rfl
  · rfl
  · rfl
  · rfl
  · exact s.hostData_ringWrite i r
  · rfl

/-- A shed command ends with its result, leaves the control free and every other register, but for counts of lost records, as it was. -/
theorem State.shedOutcome_spec (s : State) (reason st d : Nat) : (s.shedOutcome reason st d).reg 0x2221 9 = st ∧ (s.shedOutcome reason st d).shed = {} ∧
    (s.shedOutcome reason st d).out.hostData = s.out.hostData ∧
    (∀ j k, k % 256 ≠ 0x12 → entryKey 0x2221 9 ≠ entryKey j k → (s.shedOutcome reason st d).reg j k = s.reg j k) := by
  unfold State.shedOutcome
  refine ⟨?_, ?_, ?_, fun j k hk hn => ?_⟩
  · rw [State.reg_event _ _ _ _ _ _ _ _ _ _ (by decide), State.reg_setReg_self]
  · have he := State.event_eff (State.setReg { s with shed := {} } 0x2221 9 st) 0 0x0003 s.shed.target st 0xFF reason d (Eff.refl 17593261891712 _) rfl
    exact he.shed_eq
  · exact State.hostData_deliver _ _ _
  · rw [State.reg_event _ _ _ _ _ _ _ _ _ _ hk, State.reg_setReg_of_ne _ _ _ _ _ _ hn]
    rfl

theorem entryKey_inst_ne {i k j m : Nat} (h : k % 256 ≠ m % 256) : entryKey i k ≠ entryKey j m := by
  unfold entryKey
  omega

theorem State.instState_shedOutcome (s : State) (reason st d i : Nat) : (s.shedOutcome reason st d).instState i = s.instState i :=
  (s.shedOutcome_spec reason st d).2.2.2 _ _ (by decide) (entryKey_inst_ne (by decide))

/-! ### SAVE -/

theorem saveDone_ok {s : State} (h : s.shed.running = some 3) : ∃ t : State, exec (.saveDone true) s = .next t ∧
    t.out.hostData = s.out.hostData ++ [(0, s.reg 0x2221 5, s.shed.image)] ∧ t.reg 0x2221 0xB = s.shed.image.length ∧ t.reg 0x2221 9 = Status.ok ∧
    t.shed = {} ∧ SameRings s t ∧ t.mem = s.mem := by
  obtain ⟨t, ht, he⟩ := execSaveDone_eff true s
  have hx := ht
  rw [execSaveDone, if_neg (by simp [h]), if_neg (by decide)] at hx
  obtain rfl := Host.Outcome.next.inj hx
  refine ⟨_, ht, ?_, ?_, ?_, ?_, SameRings.of_eff he, he.mem_eq⟩
  · exact (State.shedOutcome_spec _ _ _ _).2.2.1
  · refine ((State.shedOutcome_spec _ _ _ _).2.2.2 _ _ (by decide) (entryKey_inst_ne (by decide))).trans ?_
    exact State.reg_setReg_self _ _ _ _
  · exact (State.shedOutcome_spec _ _ _ _).1
  · exact (State.shedOutcome_spec _ _ _ _).2.1

theorem saveDone_failed {s : State} (h : s.shed.running = some 3) : ∃ t : State, exec (.saveDone false) s = .next t ∧
    t.out.hostData = s.out.hostData ∧ t.reg 0x2221 9 = Status.aborted ∧ t.shed = {} ∧ (∀ i, i < 32 → t.instState i = s.instState i) ∧
    SameRings s t ∧ t.mem = s.mem := by
  obtain ⟨t, ht, he⟩ := execSaveDone_eff false s
  have hx := ht
  rw [execSaveDone, if_neg (by simp [h]), if_pos (by decide)] at hx
  obtain rfl := Host.Outcome.next.inj hx
  obtain ⟨h1, h2, h3, -⟩ := s.shedOutcome_spec 5 Status.aborted 0
  exact ⟨_, ht, h3, h1, h2, fun i _ => s.instState_shedOutcome 5 Status.aborted 0 i, SameRings.of_eff he, he.mem_eq⟩

/-! ### RESTORE -/

/-- A check that passes names no section. -/
theorem State.shedImageCheck_ok {s : State} {i : Nat} {src : Option Nat} {img : List Byte} (h : (s.shedImageCheck i src img).1 = Status.ok) :
    (s.shedImageCheck i src img).2 = 0 := by
  have hr : ¬ Status.range = Status.ok := by decide
  have hd : ¬ Status.deniedInstance = Status.ok := by decide
  revert h
  unfold State.shedImageCheck
  split
  · exact fun h => absurd h hr
  split
  · exact fun h => absurd h hr
  split
  · exact fun h => absurd h hr
  split
  · exact fun h => absurd h hd
  split
  · exact fun h => absurd h hr
  · exact fun _ => rfl

/-- The state in which a RESTORE's image is taken. -/
def State.restoring (u : State) (i : Nat) (img : List Byte) : State :=
  { u with shed := { running := some 4, target := i, image := img, sourceInst := u.shedSource } }

theorem State.restoreWrite_passes {u : State} {i : Nat} {img : List Byte} (h : u.instState i = 5) (hc : (u.shedImageCheck i u.shedSource img).1 = Status.ok) :
    ∃ v : State, v = (u.restoring i img).setReg 0x2221 0xA 0 ∧
      u.restoreWrite i img true = (Status.pending, (match u.shedSource with
        | none => v
        | some j => (v.moveResources i j img).dropUnstarted j).instEnter i 6 Status.ok) := by
  refine ⟨_, rfl, ?_⟩
  unfold State.restoreWrite
  rw [if_neg (not_not.2 h)]
  dsimp only
  rw [if_neg (by decide), if_neg (not_not.2 hc), State.shedImageCheck_ok hc]
  rfl

theorem State.restoreWrite_refused {u : State} {i : Nat} {img : List Byte} (h : u.instState i = 5)
    (hc : (u.shedImageCheck i u.shedSource img).1 ≠ Status.ok) : u.restoreWrite i img true = (Status.pending,
      ((u.restoring i img).setReg 0x2221 0xA (u.shedImageCheck i u.shedSource img).2).shedOutcome 5 (u.shedImageCheck i u.shedSource img).1 0) := by
  unfold State.restoreWrite
  rw [if_neg (not_not.2 h)]
  dsimp only
  rw [if_neg (by decide), if_pos hc]
  rfl

theorem State.restoreWrite_cut {u : State} {i : Nat} {img : List Byte} (h : u.instState i = 5) :
    u.restoreWrite i img false = (Status.pending, ((u.restoring i img).setReg 0x2221 0xA 0).shedOutcome 5 Status.aborted 0) := by
  unfold State.restoreWrite
  rw [if_neg (not_not.2 h)]
  rfl

theorem State.instState_setReg_of_ne (s : State) {k : Nat} (v i : Nat) (n : Nat) (hk : k % 256 ≠ 1) : (s.setReg n k v).instState i = s.instState i :=
  State.reg_setReg_of_ne _ _ _ _ _ _ (entryKey_inst_ne hk)

/-- A RESTORE that is taken: what it leaves, by its check. -/
theorem State.restoreWrite_spec {u : State} {i : Nat} (img : List Byte) (ok : Bool) (h : u.instState i = 5) :
    (u.restoreWrite i img ok).1 = Status.pending ∧
    (ok = true → (u.shedImageCheck i u.shedSource img).1 = Status.ok →
      (u.restoreWrite i img ok).2.instState i = 6 ∧ (u.restoreWrite i img ok).2.shed.running = some 4 ∧ (u.restoreWrite i img ok).2.shed.image = img ∧
      (u.restoreWrite i img ok).2.shed.applied = false ∧ ∃ v : State, v = (u.restoring i img).setReg 0x2221 0xA 0 ∧
        (u.shedSource = none → (u.restoreWrite i img ok).2 = v.instEnter i 6 Status.ok) ∧
        (∀ j, u.shedSource = some j → (u.restoreWrite i img ok).2 = ((v.moveResources i j img).dropUnstarted j).instEnter i 6 Status.ok)) ∧
    (ok = true → (u.shedImageCheck i u.shedSource img).1 ≠ Status.ok → (∀ j, (u.restoreWrite i img ok).2.instState j = u.instState j) ∧
      (u.restoreWrite i img ok).2.reg 0x2221 9 = (u.shedImageCheck i u.shedSource img).1 ∧
      (u.restoreWrite i img ok).2.reg 0x2221 0xA = (u.shedImageCheck i u.shedSource img).2 ∧ (u.restoreWrite i img ok).2.shed = {}) ∧
    (ok = false → (∀ j, (u.restoreWrite i img ok).2.instState j = u.instState j) ∧
      (u.restoreWrite i img ok).2.reg 0x2221 9 = Status.aborted ∧ (u.restoreWrite i img ok).2.shed = {}) := by
  have hst : ∀ v reason st j, (((u.restoring i img).setReg 0x2221 0xA v).shedOutcome reason st 0).instState j = u.instState j := fun v reason st j => by
    rw [State.instState_shedOutcome, State.instState_setReg_of_ne _ _ _ _ (by decide)]
    rfl
  cases ok with
  | false =>
    rw [State.restoreWrite_cut h]
    exact ⟨rfl, fun h => absurd h (by decide), fun h => absurd h (by decide), fun _ => ⟨hst _ _ _, (State.shedOutcome_spec _ _ _ _).1,
      (State.shedOutcome_spec _ _ _ _).2.1⟩⟩
  | true =>
    by_cases hc : (u.shedImageCheck i u.shedSource img).1 = Status.ok
    · obtain ⟨v, hv, hw⟩ := State.restoreWrite_passes h hc
      rw [hw]
      refine ⟨rfl, fun _ _ => ?_, fun _ hn => absurd hc hn, fun h => absurd h (by decide)⟩
      have hshed : ∀ w : State, Eff 4675071901824 v w → (w.instEnter i 6 Status.ok).shed = v.shed := fun w hw =>
        (State.instEnter_eff w i 6 Status.ok (Eff.refl 17593261891712 w) rfl).shed_eq.trans hw.shed_eq
      have hs : ((match u.shedSource with
          | none => v
          | some j => (v.moveResources i j img).dropUnstarted j).instEnter i 6 Status.ok).shed = v.shed := by
        refine hshed _ ?_
        split
        · exact Eff.refl _ _
        · exact State.dropUnstarted_eff _ _ (State.moveResources_eff v i _ img (Eff.refl _ _) rfl) rfl
      have hvs : v.shed = { running := some 4, target := i, image := img, sourceInst := u.shedSource } := by rw [hv]; rfl
      refine ⟨(State.instEnter_state _ i 6 Status.ok).1, ?_, ?_, ?_, v, hv, fun hn => ?_, fun j hj => ?_⟩
      · dsimp only
        rw [hs, hvs]
      · dsimp only
        rw [hs, hvs]
      · dsimp only
        rw [hs, hvs]
      · simp only [hn]
      · simp only [hj]
    · rw [State.restoreWrite_refused h hc]
      refine ⟨rfl, fun _ hn => absurd hn hc, fun _ _ => ⟨hst _ _ _, (State.shedOutcome_spec _ _ _ _).1, ?_, (State.shedOutcome_spec _ _ _ _).2.1⟩,
        fun h => absurd h (by decide)⟩
      exact ((State.shedOutcome_spec _ _ _ _).2.2.2 _ _ (by decide) (entryKey_inst_ne (by decide))).trans (State.reg_setReg_self _ _ _ _)

/-! ### The obligation -/

/-- Settles O32: SAVE, RESTORE and their ends by the state of the target, the check of the image and the steps of its application. -/
theorem saveAndRestore : Obligations.SaveAndRestore := by
  unfold Obligations.SaveAndRestore
  refine ⟨?_, ?_, fun s h => ⟨saveDone_ok h, saveDone_failed h⟩, ?_, ?_, ?_, ?_, ?_, fun _ _ => rfl, ?_, ?_, ?_⟩
  · rintro req s u ha rfl hr
    have hx := save_admits req s ha
    rw [(State.shedWrite_free hr _ _).2.2.1] at hx
    refine ⟨fun h hb => ?_, fun h hb => ?_, fun h => ?_⟩
    · rw [hx, State.saveWrite, if_neg (not_not.2 h), if_neg (by omega)]
    · rw [hx, State.saveWrite, if_neg (not_not.2 h), if_pos hb]
    · rw [hx, State.saveWrite, if_pos h]
  · refine fun req img ok c s u => ⟨?_, ?_⟩
    · rintro ha rfl hr
      rw [save_admits req s ha, State.shedWrite_busy hr]
    · rintro ha rfl
      refine ⟨fun hr => ?_, fun hr h => ?_⟩
      · rw [restore_admits req img ok s ha, State.shedWrite_busy hr]
      · rw [restore_admits req img ok s ha, (State.shedWrite_free hr img ok).2.2.2, State.restoreWrite, if_pos h]
  · intro ok s h
    rw [exec_saveDone, execSaveDone, if_pos h]
  · rintro req img ok s u ha rfl hr hi h
    have hx := restore_admits req img ok s ha
    rw [(State.shedWrite_free hr img ok).2.2.2] at hx
    obtain ⟨h1, h2, h3, h4⟩ := State.restoreWrite_spec img ok h
    rw [h1] at hx
    have he := State.restoreWrite_eff (s.admitted req 8737 2 (leBytes 1 4)) ((s.admitted req 8737 2 (leBytes 1 4)).reg 0x2221 1) img ok
      (Eff.refl 22268367347840 _) rfl
    refine ⟨_, hx, SameRings.of_eff he, he.mem_eq, h2, fun hok hc => ?_, fun hok => ?_⟩
    · obtain ⟨k1, k2⟩ := h3 hok hc
      exact ⟨fun i _ => k1 i, k2⟩
    · obtain ⟨k1, k2⟩ := h4 hok
      exact ⟨fun i _ => k1 i, k2⟩
  · intro s hr hst
    have hx : exec .restoreApplyDone s = execRestoreApplyDone s := exec_restoreApplyDone s
    rw [execRestoreApplyDone, if_neg (by simp [hr, hst])] at hx
    refine ⟨fun ha => ?_, fun ha hs => ?_, fun ha hs => ?_⟩
    · rw [if_neg (by simp [ha])] at hx
      cases hi : s.applyImage with
      | error e =>
        rw [hi] at hx
        refine ⟨_, hx, fun u hu => ?_, fun e' he => ?_⟩
        · cases hu
        · rw [Except.error.inj he]
      | ok u =>
        rw [hi] at hx
        refine ⟨_, hx, fun u' hu => ?_, fun e' he => ?_⟩
        · rw [Except.ok.inj hu]
        · cases he
    · rw [if_pos ha, State.restoreSettles, if_pos ⟨hr, ha, hst, hs⟩] at hx
      exact hx
    · rw [if_pos ha, State.restoreSettles, if_neg (by simp [hs])] at hx
      exact hx
  · intro s h
    rw [exec_restoreApplyDone, execRestoreApplyDone, if_pos h]
  · rintro s t1 t2 p rfl
    refine ⟨fun hp => ?_, fun hp h1 => ?_, fun hp h1 => ⟨fun h2 => ?_, fun t3 h2 => ?_⟩⟩
    · unfold State.applyImage
      dsimp only
      rw [hp]
    · unfold State.applyImage
      dsimp only
      rw [hp]
      dsimp only
      rw [h1]
    · unfold State.applyImage
      dsimp only
      rw [hp]
      dsimp only
      rw [h1]
      dsimp only
      rw [h2]
    · unfold State.applyImage
      dsimp only
      rw [hp]
      dsimp only
      rw [h1]
      dsimp only
      rw [h2]
  · rintro s v rfl
    have happ : s.applyEnds = (State.setReg { (match s.shed.sourceInst with
        | none => s
        | some j => ((s.deliverAll s.shed.target (s.inst j).held).modInst j (fun x => { x with held := [], heldSaved := 0 })).unmapAll j) with
        shed := {} } 0x2221 9 Status.ok).enterFrozen s.shed.target := by
      unfold State.applyEnds
      cases s.shed.sourceInst <;> rfl
    refine ⟨happ, ?_⟩
    rw [happ]
    exact (State.enterFrozen_eff _ s.shed.target (Eff.refl 17593261891712 _) rfl).shed_eq
  · intro s _
    exact (State.instEnter_state _ s.shed.target 5 Status.ok).1
  · intro s i data e h
    exact if_neg fun hc => h hc.1

end Sys2Proof.Machine
end

section
/-! PROOF of the world switch (R242, R250 to R254). -/
set_option Elab.async false
namespace Sys2Proof.Machine

/-! ### A core's own state -/

theorem State.cpu_modCpu_of_ne (s : State) {c d : Nat} (f : CpuCore → CpuCore) (h : d ≠ c) : (s.modCpu c f).cpu d = s.cpu d := by
  simp only [State.cpu, State.modCpu, Tab.getD_put, if_neg (Ne.symm h)]

theorem State.modCpu_frame (s : State) (c : Nat) (f : CpuCore → CpuCore) :
    s.modCpu c f = { s with worlds := { s.worlds with cores := (s.modCpu c f).worlds.cores } } := rfl

/-- A table made from a list of keys. -/
theorem Tab.find?_mapKeys {α : Type} (f : Nat → α) (l : List Nat) {k : Nat} (h : k ∈ l) : Tab.find? (l.map (fun k => (k, f k))) k = some (f k) := by
  induction l with
  | nil => exact absurd h (by simp)
  | cons n l ih =>
    simp only [List.map_cons, Tab.find?]
    by_cases hn : n = k
    · simp [hn]
    · simp [hn, ih ((List.mem_cons.1 h).resolve_left (Ne.symm hn))]

theorem getD_regs (f : Nat → Nat) {k : Nat} (h : k < 32) : Tab.getD ((List.range 32).map (fun k => (k, f k))) k 0 = f k := by
  rw [Tab.getD, Tab.find?_mapKeys f _ (List.mem_range.2 h)]
  rfl

/-! ### The words of custom-0 -/

theorem custom0Of_custom {w : Nat} (h : w % 128 = 0x0B) :
    custom0Of w = some (if w = 0x0000000B then .wcall else if w = 0x0000100B then .wret else .illegal) := by
  unfold custom0Of wcallWord wretWord
  rw [if_neg (not_not.2 h)]
  split_ifs
  · rfl
  · rfl
  · rfl

theorem custom0Of_other {w : Nat} (h : w % 128 ≠ 0x0B) : custom0Of w = none := if_pos h

/-- A word that the core's world and mode do not have is an illegal instruction. -/
theorem State.custom0_illegal {s : State} {c word : Nat} {mode : Privilege} (regs : List Nat) (hr : s.cpuRuns c = true) (hw : word % 128 = 0x0B)
    (hm : ¬ ((s.cpu c).world = .normal ∧ mode = .machine)) (hs : ¬ ((s.cpu c).world = .secure ∧ mode = .supervisor))
    (h1 : word = 0x0000000B → ¬ ((s.cpu c).world = .normal ∧ mode = .supervisor))
    (h2 : word = 0x0000100B → ¬ ((s.cpu c).world = .secure ∧ mode = .machine)) :
    s.custom0 c mode word regs = (s.executes c mode).coreException c 2 := by
  unfold State.custom0
  rw [if_neg (by simp only [hr]; rintro (h | h | h); exacts [by simp at h, hm h, hs h]), custom0Of_custom hw]
  by_cases hc : word = 0x0000000B
  · rw [if_pos hc]
    exact if_neg (h1 hc)
  · by_cases hw' : word = 0x0000100B
    · rw [if_neg hc, if_pos hw']
      exact if_neg (h2 hw')
    · rw [if_neg hc, if_neg hw']
      rfl

theorem State.cpu_executes (s : State) (c : Nat) (mode : Privilege) :
    (s.executes c mode).cpu c = { s.cpu c with mode := mode, trap := none, irqFrom := if mode = .machine then (s.cpu c).irqFrom else none } :=
  State.cpu_modCpu _ _ _

/-- An illegal instruction of the normal world is one to supervisor mode. -/
theorem State.illegal_normal {s : State} {c : Nat} (mode : Privilege) (h : (s.cpu c).world = .normal) :
    (s.executes c mode).coreException c 2 = { s with worlds := { s.worlds with cores := ((s.executes c mode).coreException c 2).worlds.cores } } ∧
    (∀ d, d ≠ c → ((s.executes c mode).coreException c 2).cpu d = s.cpu d) ∧ (((s.executes c mode).coreException c 2).cpu c).world = .normal ∧
    (((s.executes c mode).coreException c 2).cpu c).mode = .supervisor ∧ (((s.executes c mode).coreException c 2).cpu c).trap = some .supervisor ∧
    (((s.executes c mode).coreException c 2).cpu c).scause = 2 := by
  have hn : ((s.executes c mode).cpu c).world = .normal := by rw [State.cpu_executes]; exact h
  rw [State.coreException_normal hn]
  refine ⟨rfl, fun d hd => ?_, ?_, ?_, ?_, ?_⟩
  · rw [State.cpu_modCpu_of_ne _ _ hd]
    exact State.cpu_modCpu_of_ne _ _ hd
  · rw [State.cpu_modCpu]; exact hn
  · rw [State.cpu_modCpu]
  · rw [State.cpu_modCpu]
  · rw [State.cpu_modCpu]

/-- A secure core in the state in which the monitor takes an illegal instruction. -/
def State.illegalTaken (s : State) (c : Nat) (mode : Privilege) : State :=
  (s.executes c mode).modCpu c (fun y => { y with trap := some .machine, mode := .machine, mcause := 2 })

theorem State.illegalTaken_spec {s : State} {c : Nat} (mode : Privilege) (h : (s.cpu c).world = .secure) :
    s.illegalTaken c mode = { s with worlds := { s.worlds with cores := (s.illegalTaken c mode).worlds.cores } } ∧
    (∀ d, d ≠ c → (s.illegalTaken c mode).cpu d = s.cpu d) ∧ ((s.illegalTaken c mode).cpu c).world = .secure ∧
    ((s.illegalTaken c mode).cpu c).mode = .machine ∧ ((s.illegalTaken c mode).cpu c).trap = some .machine ∧
    ((s.illegalTaken c mode).cpu c).mcause = 2 := by
  unfold State.illegalTaken
  refine ⟨rfl, fun d hd => ?_, ?_, ?_, ?_, ?_⟩
  · rw [State.cpu_modCpu_of_ne _ _ hd]
    exact State.cpu_modCpu_of_ne _ _ hd
  · rw [State.cpu_modCpu, State.cpu_executes]; exact h
  · rw [State.cpu_modCpu]
  · rw [State.cpu_modCpu]
  · rw [State.cpu_modCpu]

theorem State.illegal_monitor {s : State} {c : Nat} (h : (s.cpu c).world = .secure) :
    (s.executes c .machine).coreException c 2 = (s.illegalTaken c .machine).monitorFault c := by
  unfold State.coreException
  dsimp only
  rw [State.cpu_executes]
  dsimp only
  rw [h]
  rfl

theorem State.illegal_applet {s : State} {c v : Nat} (h : (s.cpu c).world = .secure) (hv : (s.cpu c).service = some v) :
    (s.executes c .user).coreException c 2 = ((s.illegalTaken c .user).faultApplet (v / 65536)).endCall c { status := Status.aborted } := by
  unfold State.coreException
  dsimp only
  rw [State.cpu_executes]
  dsimp only
  rw [h, hv]
  rfl

theorem State.illegal_noService {s : State} {c : Nat} (h : (s.cpu c).world = .secure) (hv : (s.cpu c).service = none) :
    (s.executes c .user).coreException c 2 = s.illegalTaken c .user := by
  unfold State.coreException
  dsimp only
  rw [State.cpu_executes]
  dsimp only
  rw [h, hv]
  rfl

/-! ### The obligation -/

/-- Settles O33: WCALL and WRET by world and mode, each of the other cases an illegal instruction of that world. -/
theorem worldSwitches : Obligations.WorldSwitches := by
  unfold Obligations.WorldSwitches
  refine ⟨fun w => ⟨custom0Of_custom, custom0Of_other⟩, ?_, ?_, ?_, ?_, ?_, ?_, ?_⟩
  · intro c word mode regs s h
    have hi : ∀ w rs, s.custom0 c mode w rs = s := fun w rs => if_pos (by simpa using h)
    exact ⟨by rw [exec_wcall, execWcall, hi], by rw [exec_wret, execWret, hi]⟩
  · intro c word mode regs s h
    rw [exec_wcall, execWcall, State.custom0, custom0Of_other h]
    split
    · rfl
    · rfl
  · intro c regs s hr hw
    refine ⟨_, rfl, ?_⟩
    have hc : s.custom0 c .supervisor 0x0000000B regs = (s.executes c .supervisor).modCpu c (fun x => { x with
        world := .secure, mode := .machine, mcause := 24, regs := regTable regs, service := some (regs.getD 17 0 % 2 ^ 32), result := none
        resumes := false, callAt := s.now }) := by
      unfold State.custom0
      rw [if_neg (by simp [hr, hw])]
      exact if_pos ⟨hw, rfl⟩
    rw [hc]
    refine ⟨rfl, fun d hd => ?_, ?_⟩
    · rw [State.cpu_modCpu_of_ne _ _ hd]
      exact State.cpu_modCpu_of_ne _ _ hd
    · rw [State.cpu_modCpu, State.cpu_executes]
      refine ⟨rfl, rfl, rfl, rfl, rfl, rfl, rfl, rfl, fun k h1 h2 => ?_⟩
      exact (getD_regs (fun k => if k = 0 then 0 else regs.getD k 0) h2).trans (if_neg (by omega))
  · intro c word mode regs s hr hw
    refine ⟨fun hn hm => ?_, fun hs hm hne => ?_, fun hs hm => ?_⟩
    · refine ⟨_, rfl, ?_⟩
      rw [State.custom0_illegal regs hr hw ?_ (by simp [hn]) ?_ (by simp [hn])]
      · exact State.illegal_normal mode hn
      · rintro ⟨-, rfl⟩
        exact hm.elim (fun h => nomatch h) (fun h => nomatch h.1)
      · rintro rfl ⟨-, rfl⟩
        exact hm.elim (fun h => nomatch h) (fun h => h.2 rfl)
    · subst hm
      refine ⟨s.illegalTaken c .machine, ?_, State.illegalTaken_spec .machine hs⟩
      rw [exec_wcall, execWcall, State.custom0_illegal regs hr hw (by simp [hs]) (by simp) (by simp) (fun h => absurd h hne),
        State.illegal_monitor hs]
    · subst hm
      have hx : exec (.wcall c .user regs word) s = .next ((s.executes c .user).coreException c 2) := by
        rw [exec_wcall, execWcall, State.custom0_illegal regs hr hw (by simp) (by simp) (by simp) (by simp)]
      obtain ⟨h1, h2, h3, -, h4, h5⟩ := State.illegalTaken_spec (c := c) .user hs
      refine ⟨s.illegalTaken c .user, h1, h2, h3, h4, h5, fun v hv => ?_, fun hv => ?_⟩
      · rw [hx, State.illegal_applet hs hv]
      · rw [hx, State.illegal_noService hs hv]
  · intro c r s hr hs hres hirq
    refine ⟨_, rfl, ?_⟩
    have hc : s.custom0 c .machine wretWord [] = (s.executes c .machine).modCpu c (fun x => { x with
        world := .normal, mode := .supervisor, regs := wretRegs x, service := none, result := none, resumes := false, irqFrom := none }) := by
      unfold State.custom0
      rw [if_neg (by simp [hr, hs])]
      refine (if_pos ⟨hs, rfl⟩).trans ?_
      split
      · next m h => exact absurd h (hirq m)
      · rfl
    rw [hc]
    have hregs : ∀ k, k < 32 → Tab.getD (wretRegs ((s.executes c .machine).cpu c)) k 0 = if k = 10 then r.status
        else if 11 ≤ k ∧ k ≤ 15 then r.values.getD (k - 11) 0
        else if (5 ≤ k ∧ k ≤ 7) ∨ (28 ≤ k ∧ k ≤ 31) then 0 else Tab.getD (s.cpu c).regs k 0 := fun k hk => by
      rw [State.cpu_executes]
      unfold wretRegs
      rw [getD_regs _ hk, hres]
      rfl
    refine ⟨rfl, fun d hd => ?_, ?_⟩
    · rw [State.cpu_modCpu_of_ne _ _ hd]
      exact State.cpu_modCpu_of_ne _ _ hd
    · rw [State.cpu_modCpu]
      refine ⟨rfl, rfl, rfl, hregs 10 (by decide), fun k h1 h2 => ?_, fun k h => ?_, fun k h => ?_⟩
      · exact (hregs k (by omega)).trans (by rw [if_neg (by omega), if_pos ⟨h1, h2⟩])
      · exact (hregs k (by omega)).trans (by rw [if_neg (by omega), if_neg (by omega), if_pos h])
      · exact (hregs k (by omega)).trans (by rw [if_neg (by omega), if_neg (by omega), if_neg (by omega)])
  · intro c m s hr hs hirq
    refine ⟨_, rfl, ?_⟩
    have hc : s.custom0 c .machine wretWord [] = (s.executes c .machine).modCpu c (fun x => { x with world := .normal, mode := m, irqFrom := none }) := by
      unfold State.custom0
      rw [if_neg (by simp [hr, hs])]
      refine (if_pos ⟨hs, rfl⟩).trans ?_
      rw [hirq]
    rw [hc]
    refine ⟨rfl, fun d hd => ?_, ?_⟩
    · rw [State.cpu_modCpu_of_ne _ _ hd]
      exact State.cpu_modCpu_of_ne _ _ hd
    · rw [State.cpu_modCpu, State.cpu_executes]
  · intro c mode s hr
    refine ⟨fun hn hm => ⟨_, rfl, ?_⟩, fun hs hm => ?_⟩
    · rw [State.custom0_illegal [] hr (by decide) (fun h => hm h.2) (by simp [hn]) (fun h => absurd h (by decide)) (by simp [hn])]
      exact State.illegal_normal mode hn
    · subst hm
      rw [exec_wret, execWret, exec_wcall, execWcall, State.custom0_illegal [] hr (by decide) (by simp) (by simp) (fun h => absurd h (by decide)) (by simp),
        State.custom0_illegal [] hr (by decide) (by simp) (by simp) (by simp) (fun h => absurd h (by decide))]

end Sys2Proof.Machine
end

section
/-! PROOF of the monitor's services (R252 to R254, R683). -/
set_option Elab.async false
namespace Sys2Proof.Machine

/-! ### The loaded applets -/

theorem State.modApplet_some {s : State} {a : Nat} {x : Applet} (h : s.applet? a = some x) (f : Applet → Applet) :
    s.modApplet a f = { s with worlds := { s.worlds with applets := Tab.put s.worlds.applets a (f x) } } := by
  unfold State.modApplet
  rw [h]

theorem State.applet?_modApplet {s : State} {a : Nat} {x : Applet} (h : s.applet? a = some x) (f : Applet → Applet) (b : Nat) :
    (s.modApplet a f).applet? b = if a = b then some (f x) else s.applet? b := by
  rw [State.modApplet_some h]
  exact Tab.find?_put _ _ _ _

/-! ### Zeroised granules -/

theorem Memory.read_clearGranules (gs : List Nat) (m : Memory) (b : Nat) :
    ((∃ g ∈ gs, 4096 * g ≤ b ∧ b < 4096 * g + 4096) → Memory.read (gs.foldl (fun (m : Memory) g => m.clear (4096 * g) 4096) m) b = 0) ∧
    ((∀ g ∈ gs, b < 4096 * g ∨ 4096 * g + 4096 ≤ b) → Memory.read (gs.foldl (fun (m : Memory) g => m.clear (4096 * g) 4096) m) b = Memory.read m b) := by
  induction gs generalizing m with
  | nil => exact ⟨fun ⟨g, hg, _⟩ => absurd hg (by simp), fun _ => rfl⟩
  | cons n gs ih =>
    obtain ⟨h1, h2⟩ := ih (m.clear (4096 * n) 4096)
    refine ⟨fun ⟨g, hg, hb⟩ => ?_, fun h => ?_⟩
    · by_cases ht : ∃ g ∈ gs, 4096 * g ≤ b ∧ b < 4096 * g + 4096
      · exact h1 ht
      · rcases List.mem_cons.1 hg with rfl | hg
        · refine (h2 fun k hk => ?_).trans ?_
          · by_contra hc
            exact ht ⟨k, hk, by omega⟩
          · rw [Memory.read_clear, if_pos hb]
        · exact absurd ⟨g, hg, hb⟩ ht
    · have hn := h n (by simp)
      refine (h2 fun k hk => h k (List.mem_cons_of_mem _ hk)).trans ?_
      rw [Memory.read_clear, if_neg (by omega)]

/-! ### Claims released -/

theorem State.releaseClaims_claims (s : State) (p : Claim → Bool) : (s.releaseClaims p).worlds.claims = s.worlds.claims.filter (fun c => !p c) := by
  unfold State.releaseClaims
  refine State.each_keeps (P := fun t => t.worlds.claims = s.worlds.claims.filter (fun c => !p c)) _ _ (fun t h ht => ?_) _ rfl
  split
  · exact ht
  · rw [(State.headRing_eff t h (Eff.refl 17659833885824 t) rfl).worlds_eq]
    exact ht

/-! ### An applet faults -/

/-- The state in which a faulted applet's part in the worlds ends: its memory zeroised, its record that of a faulted one. -/
def State.faultMarked (s : State) (a : Nat) (x : Applet) : State :=
  { s with
    mem := (s.appletMemory a x).foldl (fun (m : Memory) g => m.clear (4096 * g) 4096) s.mem
    worlds := { s.worlds with applets := Tab.put s.worlds.applets a { x with faulted := true, suspended := none, resumes := 0, program := [] } } }

theorem State.faultApplet_eq {s : State} {a : Nat} {x : Applet} (h : s.applet? a = some x) : s.faultApplet a =
    (if s.worlds.entry.map (·.applet) = some a then (s.faultMarked a x).endSecureEntry 3 else s.faultMarked a x).releaseClaims
      (fun c => decide (c.applet = a)) := by
  unfold State.faultApplet
  rw [h]
  dsimp only
  rw [State.modApplet_some (s := { s with mem := (s.appletMemory a x).foldl (fun (m : Memory) g => m.clear (4096 * g) 4096) s.mem }) h]
  rfl

theorem State.applet?_faultMarked (s : State) (a : Nat) (x : Applet) (b : Nat) : (s.faultMarked a x).applet? b =
    if a = b then some { x with faulted := true, suspended := none, resumes := 0, program := [] } else s.applet? b :=
  Tab.find?_put _ _ _ _

theorem State.faultApplet_mem {s : State} {a : Nat} {x : Applet} (h : s.applet? a = some x) : (s.faultApplet a).mem = (s.faultMarked a x).mem := by
  rw [State.faultApplet_eq h, (State.releaseClaims_eff _ _ (Eff.refl 17659900994688 _) rfl).mem_eq]
  split
  · exact (State.endSecureEntry_eff (s.faultMarked a x) 3 (Eff.refl 18347095762112 _) rfl).mem_eq
  · rfl

theorem State.faultApplet_claims {s : State} {a : Nat} {x : Applet} (h : s.applet? a = some x) : ∀ k ∈ (s.faultApplet a).worlds.claims, k.applet ≠ a := by
  rw [State.faultApplet_eq h, State.releaseClaims_claims]
  intro k hk
  simpa using (List.mem_filter.1 hk).2

/-! ### A call over its budget -/

theorem wcallBudgetExpiry_suspends {c v : Nat} {x : Applet} {s u : State} (hv : s.serviceOf c = some v) (hx : s.applet? (v / 65536) = some x)
    (hin : (s.cpu c).inApplet = true) (hu : u = s.arriveAt ((s.cpu c).callAt + us (s.cfg 0x2300 7)))
    (hn : (if (s.cpu c).resumes then x.resumes + 1 else 0) < 10) : ∃ t : State, exec (.wcallBudgetExpiry c) s = .next t ∧
      t = { u with worlds := t.worlds } ∧ (t.cpu c).result = some { status := Status.busy, values := [s.worlds.nextToken] } ∧
      t.worlds.nextToken = s.worlds.nextToken + 1 ∧ (t.applet? (v / 65536)).map (·.suspended) = some (some s.worlds.nextToken) ∧
      ∀ d, d ≠ c → t.cpu d = s.cpu d := by
  subst hu
  have hcpu : (s.arriveAt ((s.cpu c).callAt + us (s.cfg 0x2300 7))).cpu c = s.cpu c := rfl
  generalize hk : (if (s.cpu c).resumes then x.resumes + 1 else 0) = n at hn
  generalize hu : s.arriveAt ((s.cpu c).callAt + us (s.cfg 0x2300 7)) = u
  have hux : u.applet? (v / 65536) = some x := by rw [← hu]; exact hx
  have huw : u.worlds = s.worlds := by rw [← hu]; rfl
  have ht : exec (.wcallBudgetExpiry c) s = .next (State.endCall { u.modApplet (v / 65536) (fun y => { y with suspended := some u.worlds.nextToken, resumes := n }) with
      worlds := { (u.modApplet (v / 65536) (fun y => { y with suspended := some u.worlds.nextToken, resumes := n })).worlds with
        nextToken := u.worlds.nextToken + 1 } } c { status := Status.busy, values := [u.worlds.nextToken] }) := by
    rw [exec_wcallBudgetExpiry, execWcallBudgetExpiry, hv]
    dsimp only
    rw [hx]
    dsimp only
    rw [hin, if_neg (by decide), hcpu, hk, if_neg (by omega), hu]
  rw [State.modApplet_some hux, huw] at ht
  refine ⟨_, ht, rfl, ?_, rfl, ?_, fun d hd => ?_⟩
  · rw [State.endCall, State.cpu_modCpu]
  · have hput : ∀ y : Applet, Tab.find? (Tab.put s.worlds.applets (v / 65536) y) (v / 65536) = some y := fun y => by rw [Tab.find?_put, if_pos rfl]
    unfold State.endCall State.applet?
    exact congrArg (Option.map (·.suspended)) (hput _)
  · rw [State.endCall, State.cpu_modCpu_of_ne _ _ hd]
    rfl

theorem wcallBudgetExpiry_faults {c v : Nat} {x : Applet} {s : State} (hv : s.serviceOf c = some v) (hx : s.applet? (v / 65536) = some x)
    (hin : (s.cpu c).inApplet = true) (hn : 10 ≤ (if (s.cpu c).resumes then x.resumes + 1 else 0)) : exec (.wcallBudgetExpiry c) s =
    .next (((s.arriveAt ((s.cpu c).callAt + us (s.cfg 0x2300 7))).faultApplet (v / 65536)).endCall c { status := Status.aborted }) := by
  rw [exec_wcallBudgetExpiry, execWcallBudgetExpiry, hv]
  dsimp only
  rw [hx]
  dsimp only
  have hcpu : (s.arriveAt ((s.cpu c).callAt + us (s.cfg 0x2300 7))).cpu c = s.cpu c := rfl
  rw [hin, if_neg (by decide), hcpu, if_pos hn]

/-! ### A call of an applet -/

theorem appletCall_eq {c v : Nat} {s : State} (offered : Bool) (fin : Option ServiceResult) (hv : s.serviceOf c = some v) (h1 : v ≠ 1) (h2 : v ≠ 2)
    (hm : (s.cpu c).mode = .machine) : exec (.appletCall c offered fin) s =
      (match s.applet? (v / 65536) with
      | none => .next (s.endCall c { status := Status.notPresent })
      | some x =>
        if !bit x.dieMask (c / 4) then .next (s.endCall c { status := Status.notPresent })
        else if x.faulted then .next (s.endCall c { status := Status.hwFault })
        else if x.suspended.isSome then .next (s.endCall c { status := Status.busy })
        else if !offered then .next (s.endCall c { status := Status.notPresent })
        else .next (s.runApplet c (v / 65536) fin false)) := by
  rw [exec_appletCall, execAppletCall, hv]
  dsimp only
  rw [if_neg (by simp [h1, h2, hm])] <;> rfl

/-! ### The obligation -/

/-- Settles O34: each service by the call that waits for it, and what an applet's fault leaves. -/
theorem monitorServices : Obligations.MonitorServices := by
  unfold Obligations.MonitorServices
  refine ⟨?_, ?_, fun c r s => rfl, ?_, ?_, ?_, ?_, ?_, ?_, ?_, ?_, ?_, ?_, ?_, ?_⟩
  · intro c s h
    rw [exec_version, execVersion, if_neg (not_not.2 h)]
  · intro c s h
    rw [exec_version, execVersion, if_pos h]
  · intro c v offered fin s hv h1 h2 hm
    have hx := appletCall_eq offered fin hv h1 h2 hm
    refine ⟨fun hn => ?_, fun x ha => ?_⟩
    · rw [hx, hn]
    · rw [ha] at hx
      dsimp only at hx
      refine ⟨fun hb => ?_, fun hb hf => ?_, fun hb hf hs => ?_, fun hb hf hs ho => ?_, fun ho hb hf hs => ⟨fun hfin => ?_, fun r hfin => ?_⟩⟩
      · rw [hx, hb]; rfl
      · rw [hx, hb, hf]; rfl
      · rw [hx, hb, hf]
        exact (if_neg (by decide)).trans ((if_neg (by decide)).trans (if_pos (Option.isSome_iff_ne_none.2 hs)))
      · rw [hx, hb, hf, hs, ho]; rfl
      · rw [hx, hb, hf, hs, ho, hfin]; rfl
      · rw [hx, hb, hf, hs, ho, hfin]; rfl
  · intro c offered fin s h
    rw [exec_appletCall, execAppletCall]
    split
    · rfl
    · next v hv =>
      dsimp only
      rw [if_pos]
      rcases h with h | h | h | h
      · rw [h] at hv; cases hv
      · rw [h] at hv; cases hv; exact .inl rfl
      · rw [h] at hv; cases hv; exact .inr (.inl rfl)
      · exact .inr (.inr h)
  · intro c v x s u hv hx hin hu
    refine ⟨wcallBudgetExpiry_suspends hv hx hin hu, fun hn => ?_⟩
    rw [wcallBudgetExpiry_faults hv hx hin hn, hu]
  · intro c s h
    rw [exec_wcallBudgetExpiry, execWcallBudgetExpiry]
    split
    · rfl
    · next v hv =>
      dsimp only
      split
      · rfl
      · next x hx =>
        rcases h with h | h | h
        · rw [h] at hv; cases hv
        · rw [h v hv] at hx; cases hx
        · rw [h]; rfl
  · intro c a x fin s hv hm hfind
    rw [exec_resume, execResume, if_neg (by simp [hv, hm])]
    dsimp only
    rw [hfind]
  · intro c fin s hv hm hfind
    refine ⟨_, Config.freeNat s.free % 65536, ?_, rfl⟩
    rw [exec_resume, execResume, if_neg (by simp [hv, hm])]
    dsimp only
    rw [hfind]
    rfl
  · intro c fin s h
    rw [exec_resume, execResume, if_pos h]
  · intro c a x s ha hf
    have hx : exec (.appletFault c a) s = .next (if decide ((s.serviceOf c).map (· / 65536) = some a) && (s.cpu c).inApplet then
        (s.faultApplet a).endCall c { status := Status.aborted } else s.faultApplet a) := by
      rw [exec_appletFault, execAppletFault, if_neg (by simp [ha, hf])]
    refine ⟨fun h1 h2 => ?_, fun h => ?_⟩
    · rw [hx, if_pos (by simp [h2]; simpa using h1)]
    · rw [hx, if_neg]
      intro hc
      obtain ⟨h1, h2⟩ := (Bool.and_eq_true _ _).mp hc
      exact h.elim (fun h => h (of_decide_eq_true h1)) (fun h => by simp [h] at h2)
  · intro c a s h
    rw [exec_appletFault, execAppletFault, if_pos]
    cases ha : s.applet? a with
    | none => rfl
    | some x => exact h x ha
  · intro a x s ha
    refine ⟨⟨s.faultMarked a x, ?_, fun b hb => ?_, rfl, State.faultApplet_eq ha⟩, State.faultApplet_claims ha, fun g hg b h1 h2 => ?_, fun b hb => ?_⟩
    · rw [State.applet?_faultMarked, if_pos rfl]
    · rw [State.applet?_faultMarked, if_neg (Ne.symm hb)]
    · rw [State.faultApplet_mem ha]
      exact (Memory.read_clearGranules _ _ b).1 ⟨g, hg, h1, h2⟩
    · rw [State.faultApplet_mem ha]
      exact (Memory.read_clearGranules _ _ b).2 hb
  · intro c s h
    rw [exec_monitorHalt, execMonitorHalt, if_neg (by simp [h])]
    rfl
  · intro c s h
    rw [exec_monitorHalt, execMonitorHalt, if_pos (by simp [h])]

end Sys2Proof.Machine
end

section
/-! PROOF of secure entry and the claims (R186, R258 to R260, R414). -/
set_option Elab.async false
namespace Sys2Proof.Machine

/-! ### Placing claims -/

/-- The state of placing claims differs in the claims and their count alone. -/
theorem State.placeClaims_spec (s : State) (a : Nat) (bs : List (Nat × Nat)) : s.placeClaims a bs =
      { s with live := (s.placeClaims a bs).live, worlds := { s.worlds with claims := (s.placeClaims a bs).worlds.claims } } ∧
    (s.placeClaims a bs).reg 0x2300 3 = (s.placeClaims a bs).worlds.claims.length ∧ ∀ b ∈ bs, (s.placeClaims a bs).claimed b.1 b.2 = true := by
  refine ⟨rfl, State.reg_setReg_self _ _ _ _, fun b hb => ?_⟩
  have hc : (s.placeClaims a bs).worlds.claims =
      s.worlds.claims ++ (bs.filter (fun b => !s.claimed b.1 b.2)).map (fun b => { applet := a, cls := b.1, resource := b.2 }) := rfl
  unfold State.claimed
  rw [hc, List.any_append, Bool.or_eq_true]
  by_cases hs : s.claimed b.1 b.2 = true
  · exact .inl hs
  · refine .inr (List.any_eq_true.2 ⟨_, List.mem_map.2 ⟨b, List.mem_filter.2 ⟨hb, by simp [hs]⟩, rfl⟩, by simp⟩)

/-! ### The status of one claim -/

theorem State.claimStatus_one {s : State} {a cls r : Nat} {x : Applet} (ha : s.applet? a = some x) (hr : r < s.claimCount cls) :
    s.claimStatus a [(cls, r)] = if bit x.claimMask cls = false then Status.deniedAccess
      else if s.worlds.claims.any (fun c => decide (c.applet = a ∧ c.cls = cls ∧ c.resource = r)) = true then
        (if 64 < s.worlds.claims.length then Status.busy else Status.ok)
      else if s.claimed cls r = true then Status.deniedSecureClaim else if 64 < s.worlds.claims.length + 1 then Status.busy else Status.ok := by
  unfold State.claimStatus
  rw [ha]
  dsimp only
  rw [if_neg (by simp; omega)]
  by_cases hb : bit x.claimMask cls = false
  · rw [if_pos hb, if_pos (by simp [hb])]
  · rw [if_neg hb, if_neg (by simpa using hb)]
    by_cases hm : s.worlds.claims.any (fun c => decide (c.applet = a ∧ c.cls = cls ∧ c.resource = r)) = true
    · rw [if_pos hm]
      simp only [List.filter, hm, Bool.not_true, List.any_nil, List.length_nil]
      rfl
    · rw [if_neg hm]
      simp only [Bool.not_eq_true] at hm
      simp only [List.filter, hm, Bool.not_false, List.any_cons, List.any_nil, Bool.or_false, List.length_cons, List.length_nil]

theorem State.notOwn_of_unclaimed {s : State} {cls r : Nat} (a : Nat) (h : s.claimed cls r = false) :
    ¬ s.worlds.claims.any (fun c => decide (c.applet = a ∧ c.cls = cls ∧ c.resource = r)) = true := by
  intro hm
  obtain ⟨c, hc, hd⟩ := List.any_eq_true.1 hm
  obtain ⟨-, h1, h2⟩ := of_decide_eq_true hd
  have : s.claimed cls r = true := List.any_eq_true.2 ⟨c, hc, by simp [h1, h2]⟩
  simp [h] at this

/-! ### Silent keys -/

theorem State.keyw_modKey (s : State) (k j : Nat) (f : KeyWork → KeyWork) : (s.modKey k f).keyw j = if k = j then f (s.keyw k) else s.keyw j := by
  simp only [State.keyw, State.modKey, Tab.getD_put]

theorem State.each_silent (l : List Nat) (s : State) :
    (∀ x, (s.keyw x).silent = true → ((s.each l (fun t x => t.modKey x (fun w => { w with silent := true }))).keyw x).silent = true) ∧
    ∀ x ∈ l, ((s.each l (fun t x => t.modKey x (fun w => { w with silent := true }))).keyw x).silent = true := by
  induction l generalizing s with
  | nil => exact ⟨fun _ h => h, fun x hx => absurd hx (by simp)⟩
  | cons n l ih =>
    obtain ⟨h1, h2⟩ := ih (s.modKey n (fun w => { w with silent := true }))
    refine ⟨fun x hx => h1 x ?_, fun x hx => ?_⟩
    · rw [State.keyw_modKey]
      split
      · rfl
      · exact hx
    · rcases List.mem_cons.1 hx with rfl | hx
      · refine h1 x ?_
        rw [State.keyw_modKey, if_pos rfl]
      · exact h2 x hx

/-! ### Claims released -/

theorem State.releaseClaims_entry (s : State) (p : Claim → Bool) : (s.releaseClaims p).worlds.entry = s.worlds.entry := by
  unfold State.releaseClaims
  refine State.each_keeps (P := fun t => t.worlds.entry = s.worlds.entry) _ _ (fun t h ht => ?_) _ rfl
  split
  · exact ht
  · rw [(State.headRing_eff t h (Eff.refl 17659833885824 t) rfl).worlds_eq]
    exact ht

/-! ### The obligation -/

/-- Settles O35: secure entry, its ends and the claims, each by the status that the monitor's checks give. -/
theorem secureEntryAndClaims : Obligations.SecureEntryAndClaims := by
  unfold Obligations.SecureEntryAndClaims
  refine ⟨?_, ?_, fun s => rfl, ?_, ?_, ?_, ?_, ?_, fun _ _ => rfl, ?_, ?_, ?_, fun _ _ _ _ => rfl, fun _ _ => rfl⟩
  · refine fun k s => ⟨fun h => ?_, fun h => ?_⟩
    · obtain ⟨hf, -, hc⟩ := s.placeClaims_spec k.applet ((1, k.head) :: k.keys.map (fun x => (2, x)))
      refine ⟨(((State.setReg { (s.placeClaims k.applet ((1, k.head) :: k.keys.map (fun x => (2, x)))).served (s.keypadStatus k) with
        worlds := { ((s.placeClaims k.applet ((1, k.head) :: k.keys.map (fun x => (2, x)))).served (s.keypadStatus k)).worlds with entry := some k } }
        0x2302 1 1).setReg 0x2302 2 k.head).setReg 0x2302 3 s.now), ?_, rfl, ?_, ?_, ?_, ?_, ?_, ?_⟩
      · rw [exec_secureEntryStart, execSecureEntryStart, if_neg (not_not.2 h)]
        rfl
      · rw [State.reg_setReg_of_ne _ _ _ _ _ _ (entryKey_inst_ne (by decide)), State.reg_setReg_of_ne _ _ _ _ _ _ (entryKey_inst_ne (by decide)),
          State.reg_setReg_self]
      · rw [State.reg_setReg_of_ne _ _ _ _ _ _ (entryKey_inst_ne (by decide)), State.reg_setReg_self]
      · rw [State.reg_setReg_self]
      · exact hc (1, k.head) (by simp)
      · exact fun x hx => hc (2, x) (List.mem_cons_of_mem _ (List.mem_map.2 ⟨x, hx, rfl⟩))
      · rw [hf]
        exact ⟨⟨fun _ => rfl, fun _ => rfl⟩, ⟨rfl, rfl, rfl⟩, rfl, rfl, rfl⟩
    · rw [exec_secureEntryStart, execSecureEntryStart, if_pos h]
  · intro k s h
    unfold State.keypadStatus
    dsimp only
    split
    · rfl
    · exact if_pos (.inr (.inr (Option.isSome_iff_ne_none.2 h)))
  · intro s k h
    rw [exec_secureEntryLimit, execSecureEntryLimit, if_neg (by simp [h])]
  · intro s h
    rw [exec_secureEntryLimit, execSecureEntryLimit, if_pos h]
  · intro s k reason h
    refine ⟨_, _, rfl, rfl, ?_, ?_, ?_, ?_, fun x hx => ?_⟩
    · unfold State.endSecureEntry
      rw [h]
    · have he : ∀ t : State, t.worlds.entry = none →
          (((t.each k.keys (fun t x => t.modKey x (fun w => { w with silent := true }))).setReg 0x2302 1 0).setReg 0x2302 2 0xFF).worlds.entry = none :=
        fun t ht => State.each_keeps (P := fun t => t.worlds.entry = none) k.keys (fun t x => t.modKey x (fun w => { w with silent := true }))
          (fun _ _ h => h) t ht
      exact he _ (State.releaseClaims_entry _ _)
    · rw [State.reg_setReg_of_ne _ _ _ _ _ _ (entryKey_inst_ne (by decide)), State.reg_setReg_self]
    · rw [State.reg_setReg_self]
    · exact (State.each_silent k.keys _).2 x hx
  · intro s reason h
    unfold State.endSecureEntry
    rw [h]
  · intro s p
    have he := State.releaseClaims_eff s p (Eff.refl 17659900994688 s) rfl
    exact ⟨rfl, s.releaseClaims_claims p, SameRings.of_eff he, he.mem_eq⟩
  · refine fun a cls r s => ⟨fun h => ?_, fun h => ?_⟩
    · obtain ⟨hf, hn, hc⟩ := s.placeClaims_spec a [(cls, r)]
      refine ⟨(s.placeClaims a [(cls, r)]).served (s.claimStatus a [(cls, r)]), ?_, hc (cls, r) (by simp), h, hn, ?_⟩
      · rw [exec_secureClaim, execSecureClaim, if_pos h]
      · exact congrArg (fun t : State => t.served (s.claimStatus a [(cls, r)])) hf
    · rw [exec_secureClaim, execSecureClaim, if_neg h]
  · intro a cls r x s ha hr
    rw [State.claimStatus_one ha hr]
    refine ⟨fun hb => ?_, fun hb hc hl => ?_, fun hb hc ho => ?_, fun hb hc hl => ?_⟩
    · rw [if_pos hb]
    · rw [if_neg (by simp [hb]), if_neg (State.notOwn_of_unclaimed a hc), if_neg (by simp [hc]), if_pos (by omega)]
    · rw [if_neg (by simp [hb]), if_neg, if_pos hc]
      intro hm
      obtain ⟨c, hmem, hd⟩ := List.any_eq_true.1 hm
      obtain ⟨h1, h2, h3⟩ := of_decide_eq_true hd
      exact ho c hmem h2 h3 h1
    · rw [if_neg (by simp [hb]), if_neg (State.notOwn_of_unclaimed a hc), if_neg (by simp [hc]), if_neg (by omega)]
  · intro a cls r s h
    unfold State.claimStatus
    split
    · rfl
    · next x hx =>
      refine if_pos ?_
      simpa using h.resolve_left (by simp [hx])

end Sys2Proof.Machine
end

section
/-! PROOF of the applet keys and the loading of applets (R123, R255 to R257, R269). -/
set_option Elab.async false
namespace Sys2Proof.Machine

/-! ### The marks of secure memory -/

/-- Marking the management SRAM writes the granules and the registers of secure memory in use, and nothing else that is shown or loaded. -/
theorem State.markSram_keeps (s : State) {j k : Nat} (hj : j < 0x2308) (hk : k < 256) : s.markSram.reg j k = s.reg j k ∧
    s.markSram.worlds.applets = s.worlds.applets ∧ s.markSram.worlds.claims = s.worlds.claims := by
  unfold State.markSram State.secureUse
  refine State.each_keeps (P := fun t => t.reg j k = s.reg j k ∧ t.worlds.applets = s.worlds.applets ∧ t.worlds.claims = s.worlds.claims)
    _ _ (fun t d ht => ?_) _ ?_
  · obtain ⟨h1, h2, h3⟩ := ht
    refine ⟨?_, h2, h3⟩
    rw [State.reg_setReg_of_ne _ _ _ _ _ _ (by unfold entryKey; omega), State.reg_setReg_of_ne _ _ _ _ _ _ (by unfold entryKey; omega)]
    exact h1
  · refine State.each_keeps (P := fun t => t.reg j k = s.reg j k ∧ t.worlds.applets = s.worlds.applets ∧ t.worlds.claims = s.worlds.claims)
      _ _ ?_ s ⟨rfl, rfl, rfl⟩
    exact fun _ _ h => h

/-! ### The keys -/

theorem bit_of_bits_zero {v : Nat} (h : bits v 1 0 = 0) : bit v 0 = false := by
  simp only [bits] at h
  simp [bit, Nat.testBit]
  omega

theorem bits_ne_zero_of_bit {v : Nat} (h : bit v 0 = true) : bits v 1 0 ≠ 0 := by
  intro h0
  simp [bit_of_bits_zero h0] at h

theorem State.burnWrite_first {u : State} {req : Requester} {hash : List Byte} (hl : hash.length = 48) (h : bits u.fuses.appletState 1 0 = 0) :
    u.burnWrite req hash = (Status.ok, { u with fuses := { u.fuses with
      appletState := setBit u.fuses.appletState 0 true, appletHash := Tab.put u.fuses.appletHash 0 hash } }) := by
  have hf : firstBelow 2 (fun n => !bit u.fuses.appletState n) = some 0 := by
    have h0 : bit u.fuses.appletState 0 = false := bit_of_bits_zero h
    simp [firstBelow, List.range_succ, h0]
  unfold State.burnWrite
  dsimp only
  rw [if_neg (not_not.2 hl), if_neg (by simp [h]), hf]

theorem State.burnWrite_second {u : State} {req : Requester} {hash : List Byte} (hl : hash.length = 48) (h0 : bit u.fuses.appletState 0 = true)
    (h1 : bit u.fuses.appletState 1 = false) (hw : worldOf req = .secure) : u.burnWrite req hash = (Status.ok, { u with fuses := { u.fuses with
      appletState := setBit u.fuses.appletState 1 true, appletHash := Tab.put u.fuses.appletHash 1 hash } }) := by
  have hf : firstBelow 2 (fun n => !bit u.fuses.appletState n) = some 1 := by simp [firstBelow, List.range_succ, h0, h1]
  unfold State.burnWrite
  dsimp only
  rw [if_neg (not_not.2 hl), if_neg (by simp [hw]), hf]

theorem State.burnWrite_full {u : State} {req : Requester} {hash : List Byte} (hl : hash.length = 48) (h0 : bit u.fuses.appletState 0 = true)
    (h1 : bit u.fuses.appletState 1 = true) (hw : worldOf req = .secure) : u.burnWrite req hash = (Status.deniedAccess, u) := by
  have hf : firstBelow 2 (fun n => !bit u.fuses.appletState n) = none := by simp [firstBelow, List.range_succ, h0, h1]
  unfold State.burnWrite
  dsimp only
  rw [if_neg (not_not.2 hl), if_neg (by simp [hw]), hf]

theorem State.checkWrite_burn_normal {req : Requester} (data : List Byte) {s : State} (hw : worldOf req = .normal)
    (h : bits s.fuses.appletState 1 0 ≠ 0) : s.checkWrite req 0x2303 2 data = Status.deniedWorld := by
  obtain ⟨f, hf, hb, hlo⟩ : ∃ f, lookup s.part 0x2303 2 = some f ∧ f.obj.base = 0x2303 ∧ f.row.lo = 2 := by
    exact ⟨_, by cases s.part <;> rfl, rfl, rfl⟩
  have hsec : s.secureOnly req f = true := by simp [State.secureOnly, hb, hlo, hw, h]
  rw [State.checkWrite_eq s req _ _ data f hf, if_neg (by simp [State.recoveryShut, hb]), if_pos (.inr hsec)]

theorem State.checkWrite_revoke_normal {req : Requester} (data : List Byte) (s : State) (hw : worldOf req = .normal) :
    s.checkWrite req 0x2303 3 data = Status.deniedWorld := by
  obtain ⟨f, hf, hb, hacc⟩ : ∃ f, lookup s.part 0x2303 3 = some f ∧ f.obj.base = 0x2303 ∧ f.row'.acc = .rws := by
    exact ⟨_, by cases s.part <;> rfl, rfl, rfl⟩
  rw [State.checkWrite_eq s req _ _ data f hf, if_neg (by simp [State.recoveryShut, hb]), if_pos (.inl ⟨hacc, hw⟩)]

theorem appletKeyRevoke_turnedAway (req : Requester) (slot : Nat) (s : State) (hn : slot < 256) (hlow : 1 < slot)
    (h : s.reaches req 0x2303 3 (leBytes 1 slot) = true) : exec (.appletKeyRevoke req slot) s = .next (s.turnedAway req 0x2303 3 (leBytes 1 slot)) := by
  obtain ⟨f, hf, hb, hlo, hs, hacc, hlen, hrow⟩ : ∃ f, (∀ p, lookup p 0x2303 3 = some f) ∧ f.obj.base = 0x2303 ∧ f.row.lo = 3 ∧ f.row.ty.size = 1 ∧
      accessOk f.row' true = true ∧ s.lengthFits 0x2303 f 1 = true ∧
      f.row' = ⟨3, 3, "revoke", .u8, .rws, .live, .blank, .span 0 1, 0⟩ :=
    ⟨(lookup .ux3816 0x2303 3).get rfl, fun p => by cases p <;> rfl, rfl, rfl, rfl, rfl, rfl, rfl⟩
  simp only [exec_appletKeyRevoke, execAppletKeyRevoke]
  rw [State.submitNumber_turnedAway (by decide) (hf _) hs (by decide) h (by simp [State.recoveryShut, hb]) (by simp [State.secureOnly, hlo]) hacc
    hlen ?_]
  have hx : ¬ (slot : Int) ≤ 1 := by omega
  simp [Found.valueOk, SubEntry.valueOk, SubEntry.inRange, hrow, hb, decode_u8, Val.toInt, leNat_leBytes 1 slot hn, hx]

/-! ### Loading -/

/-- What a write of the image leaves: its status as the result, and a loaded applet where it passes. -/
theorem State.appletLoadWrite_spec (u : State) (img : List Byte) : (u.appletLoadWrite img).1 = Status.ok ∧
    (u.appletLoadWrite img).2.reg 0x2304 2 = u.appletStatus img ∧ (u.appletLoadWrite img).2.worlds.claims = u.worlds.claims ∧
    (u.appletStatus img ≠ Status.ok → (u.appletLoadWrite img).2 = u.setReg 0x2304 2 (u.appletStatus img)) ∧
    (u.appletStatus img = Status.ok → (u.appletLoadWrite img).2.applet? (field img 6 2) = some (appletOf img) ∧
      (∀ a, a ≠ field img 6 2 → (u.appletLoadWrite img).2.applet? a = u.applet? a) ∧
      bit ((u.appletLoadWrite img).2.reg 0x2300 2) (field img 6 2) = true) := by
  by_cases h : u.appletStatus img = Status.ok
  · obtain ⟨v, hv, hreg, happ, hcl, hw⟩ : ∃ v : State, bit (v.reg 0x2300 2) (field img 6 2) = true ∧ v.reg 0x2304 2 = u.appletStatus img ∧
        v.worlds.applets = Tab.put u.worlds.applets (field img 6 2) (appletOf img) ∧ v.worlds.claims = u.worlds.claims ∧
        u.appletLoadWrite img = (Status.ok, v.markSram) := by
      unfold State.appletLoadWrite
      dsimp only
      rw [if_neg (not_not.2 h)]
      refine ⟨_, ?_, ?_, ?_, ?_, rfl⟩
      · rw [State.reg_setReg_self, bit_setBit_eq, if_pos rfl]
      · rw [State.reg_setReg_of_ne _ _ _ _ _ _ (by decide)]
        exact State.reg_setReg_self _ _ _ _
      · rfl
      · rfl
    rw [hw]
    obtain ⟨h1, h2, h3⟩ := v.markSram_keeps (j := 0x2304) (k := 2) (by decide) (by decide)
    refine ⟨rfl, h1.trans hreg, h3.trans hcl, fun hn => absurd h hn, fun _ => ⟨?_, fun a ha => ?_, ?_⟩⟩
    · rw [State.applet?, h2, happ, Tab.find?_put, if_pos rfl]
    · rw [State.applet?, h2, happ, Tab.find?_put, if_neg (Ne.symm ha)]
      rfl
    · rw [(v.markSram_keeps (j := 0x2300) (k := 2) (by decide) (by decide)).1]
      exact hv
  · have hw : u.appletLoadWrite img = (Status.ok, u.setReg 0x2304 2 (u.appletStatus img)) := by
      unfold State.appletLoadWrite
      dsimp only
      rw [if_pos h]
    rw [hw]
    exact ⟨rfl, State.reg_setReg_self _ _ _ _, rfl, fun _ => rfl, fun hk => absurd hk h⟩

theorem State.appletStatus_eq (image : List Byte) (s : State) : s.appletStatus image =
    if appletHeaderOk s.dies image = false then Status.range
    else if s.appletKeyOk image = false ∨ signatureOk image = false then Status.deniedAccess
    else if s.appletFits (field image 6 2) (appletOf image) = false ∨ (∃ x, s.applet? (field image 6 2) = some x ∧
      (x.suspended ≠ none ∨ ∃ c ∈ s.worlds.claims, c.applet = field image 6 2)) then Status.busy else Status.ok := by
  unfold State.appletStatus State.applet?
  dsimp only
  refine if_congr (by simp) rfl (if_congr (by simp) rfl (if_congr (or_congr (by simp) ?_) rfl rfl))
  cases Tab.find? s.worlds.applets (field image 6 2) with
  | none => simp
  | some x => simp [Option.isSome_iff_ne_none]

/-! ### The obligation -/

/-- Settles O36: the fuses' two WRITEs by the slots burned, and the load by the status of its image. -/
theorem appletKeysAndLoading : Obligations.AppletKeysAndLoading := by
  unfold Obligations.AppletKeysAndLoading
  refine ⟨?_, fun req data s hw => ⟨State.checkWrite_burn_normal data hw, State.checkWrite_revoke_normal data s hw⟩, ?_,
    fun req slot s => appletKeyRevoke_turnedAway req slot s, ?_, State.appletStatus_eq⟩
  · rintro req hash s u ha rfl hl
    have hx := appletKeyBurn_admits req hash s ha
    refine ⟨fun h => ?_, fun h0 h1 hw => ?_, fun h0 h1 hw => ?_⟩
    · rw [hx, State.burnWrite_first hl h]
    · rw [hx, State.burnWrite_second hl h0 h1 hw]
    · rw [hx, State.burnWrite_full hl h0 h1 hw]
  · rintro req slot s u hs ha rfl
    rw [appletKeyRevoke_admits req slot s (by omega) ha, State.appletRevokeWrite, if_neg (by omega)]
  · rintro req image s u ha rfl
    have hx := appletLoad_admits req image s ha
    obtain ⟨h1, h2, h3, h4, h5⟩ := (s.admitted req 0x2304 1 image).appletLoadWrite_spec image
    have he := State.appletLoadWrite_eff (s.admitted req 0x2304 1 image) image (Eff.refl 67108992 _) rfl
    have hx' : exec (.appletLoad req image) s =
        .next (((s.admitted req 0x2304 1 image).appletLoadWrite image).2.concluded req 0x2304 1 image Status.ok) := by
      rw [← h1]
      exact hx
    exact ⟨_, hx', h2, SameMemory.of_eff he, SameRings.of_eff he, he.fuses_eq, h3, h4, h5⟩

end Sys2Proof.Machine
end

section
/-! PROOF of the debug unlock and the debug port (R77, R245, R264 to R269). -/
set_option Elab.async false
namespace Sys2Proof.Machine

/-! ### The enables and their closure -/

theorem bit_or (v w n : Nat) : bit (v ||| w) n = (bit v n || bit w n) := by
  unfold bit
  exact Nat.testBit_or _ _ _

theorem bit_ite_or {v n : Nat} (p : Prop) [Decidable p] (k : Nat) (h : bit v n = true) : bit (if p then v ||| k else v) n = true := by
  split
  · rw [bit_or, h, Bool.true_or]
  · exact h

theorem debugClosure_keeps {v n : Nat} (h : bit v n = true) : bit (debugClosure v) n = true :=
  bit_ite_or _ 1 (bit_ite_or _ 6 h)

theorem debugClosure_closed : ∀ v, v < 16 → debugClosure v < 16 ∧
    (bit (debugClosure v) 3 = true → bit (debugClosure v) 2 = true ∧ bit (debugClosure v) 1 = true) ∧
    (bit (debugClosure v) 1 = true → bit (debugClosure v) 0 = true) := by
  decide

/-! ### Challenge and response -/

theorem State.newChallenge_spec (s : State) : s.newChallenge.1.length = 48 ∧
    s.newChallenge.2 = { s with worlds := { s.worlds with challenge := some s.newChallenge.1, nonces := s.worlds.nonces + 1 } } := by
  refine ⟨?_, rfl⟩
  simp [State.newChallenge]

theorem State.debugResponseWrite_refused {s : State} {resp : List Byte} (h : s.debugResponseOk resp = false) :
    s.debugResponseWrite resp = (Status.deniedAccess, { s with worlds := { s.worlds with challenge := none } }) := by
  unfold State.debugResponseWrite
  dsimp only
  rw [if_pos (by simp [h])]

/-- A valid response opens what it asks, a secure enable with the key store zeroised and the tainted flag set. -/
theorem State.debugResponseWrite_opens {s t : State} {resp : List Byte} (h : s.debugResponseOk resp = true) (ht : t = (s.debugResponseWrite resp).2) :
    (s.debugResponseWrite resp).1 = Status.ok ∧
    t.worlds = { s.worlds with challenge := none, unlocked := s.worlds.unlocked ||| field resp 0 4 } ∧
    (bits t.debugEffective 3 2 ≠ bits s.debugEffective 3 2 → t.reg 0x2301 3 = 1 ∧ t.power.zeroised = true) := by
  have hold : ({ s with worlds := { s.worlds with challenge := none } } : State).debugEffective = s.debugEffective := rfl
  subst ht
  unfold State.debugResponseWrite
  dsimp only
  rw [if_neg (by simp [h]), hold]
  by_cases hb : bits (debugClosure (s.fuses.debugEnables % 16 ||| (s.worlds.unlocked ||| field resp 0 4))) 3 2 ≠ bits s.debugEffective 3 2
  · rw [if_pos hb]
    exact ⟨rfl, rfl, fun _ => ⟨State.reg_setReg_self _ _ _ _, rfl⟩⟩
  · rw [if_neg hb]
    exact ⟨rfl, rfl, fun hn => absurd hn hb⟩

theorem State.debugResponseWrite_status (s : State) (resp : List Byte) :
    (s.debugResponseWrite resp).1 = if s.debugResponseOk resp then Status.ok else Status.deniedAccess := by
  by_cases h : s.debugResponseOk resp = true
  · rw [(State.debugResponseWrite_opens h rfl).1, if_pos h]
  · rw [State.debugResponseWrite_refused (by simpa using h), if_neg h]

theorem State.debugResponseOk_false {s : State} {resp : List Byte}
    (h : s.worlds.challenge = none ∨ s.fuses.debugKey = false ∨ resp.length ≠ 100 ∨ 16 ≤ field resp 0 4) : s.debugResponseOk resp = false := by
  unfold State.debugResponseOk
  split
  · rfl
  · next c hc =>
    rcases h with h | h | h | h
    · rw [h] at hc; cases hc
    · simp [h]
    · simp [h]
    · simp [Nat.not_lt.2 h]

theorem debugRelock_turnedAway (req : Requester) (v : Nat) (s : State) (hn : v < 256) (hne : v ≠ 1)
    (h : s.reaches req 0x2301 6 (leBytes 1 v) = true) : exec (.debugRelock req v) s = .next (s.turnedAway req 0x2301 6 (leBytes 1 v)) := by
  obtain ⟨f, hf, hb, hs, hacc, hlen, hrow⟩ : ∃ f, (∀ p, lookup p 0x2301 6 = some f) ∧ f.obj.base = 0x2301 ∧ f.row.ty.size = 1 ∧
      accessOk f.row' true = true ∧ s.lengthFits 0x2301 f 1 = true ∧ f.row' = ⟨6, 6, "relock", .u8, .wo, .live, .blank, .only [1], 0⟩ :=
    ⟨(lookup .ux3816 0x2301 6).get rfl, fun p => by cases p <;> rfl, rfl, rfl, rfl, rfl, rfl⟩
  simp only [exec_debugRelock, execDebugRelock]
  rw [State.submitNumber_turnedAway (by decide) (hf _) hs (by decide) h (by simp [State.recoveryShut, hb]) (by simp [State.secureOnly, hb]) hacc
    hlen ?_]
  have hx : ¬ (v : Int) = 1 := by omega
  simp [Found.valueOk, SubEntry.valueOk, SubEntry.inRange, hrow, hb, decode_u8, Val.toInt, leNat_leBytes 1 v hn, hx]

/-! ### The debug port -/

theorem State.jtag_open {s : State} (ir : Nat) (dr : List Byte) (f : Worlds → Worlds) (h : s.pins.trstHigh = true) :
    s.jtag ir dr f = { s with worlds := f { s.worlds with jtagIr := ir, jtagDr := dr, extest := false } } := by
  unfold State.jtag
  rw [h]
  rfl

theorem State.jtag_shut {s : State} (ir : Nat) (dr : List Byte) (f : Worlds → Worlds) (h : s.pins.trstHigh = false) : s.jtag ir dr f = s := by
  unfold State.jtag
  rw [h]
  rfl

theorem dtmcs_fields (k : Nat) : (leBytes 4 (k % 8 * 2 ^ 12 + 7 * 16 + 1)).length = 4 ∧ leNat (leBytes 4 (k % 8 * 2 ^ 12 + 7 * 16 + 1)) % 16 = 1 ∧
    leNat (leBytes 4 (k % 8 * 2 ^ 12 + 7 * 16 + 1)) / 16 % 64 = 7 := by
  rw [leNat_leBytes 4 _ (by omega)]
  exact ⟨length_leBytes _ _, by omega, by omega⟩

theorem State.sbBlocked_of_closed {s : State} (h : s.invasive .normal = false) : ∃ e, e ≠ 0 ∧ s.sbBlocked = some e := by
  unfold State.sbBlocked
  dsimp only
  split
  · next he => exact ⟨_, he, rfl⟩
  split
  · exact ⟨_, by decide, rfl⟩
  split
  · exact ⟨_, by decide, rfl⟩
  · exact ⟨7, by decide, if_pos (by simp [h])⟩

theorem State.debugHalt_spec (c : Nat) (s : State) : (s.cpuRuns c = false ∨ s.invasive (s.cpu c).world = false → s.debugHalt c = s) ∧
    (s.cpuRuns c = true → s.invasive (s.cpu c).world = true → ((s.debugHalt c).cpu c).debugHalted = true ∧ ∀ d, d ≠ c → (s.debugHalt c).cpu d = s.cpu d) := by
  unfold State.debugHalt
  refine ⟨fun h => if_neg ?_, fun hr hi => ?_⟩
  · rcases h with h | h
    · simp [h]
    · simp [h]
  · rw [if_pos (by simp [hr, hi])]
    refine ⟨?_, fun d hd => ?_⟩
    · rw [State.cpu_modCpu]
    · rw [State.cpu_modCpu_of_ne _ _ hd]
      rfl

/-! ### The obligation -/

/-- Settles O37: the enables, the challenge and its response, and each debug port instruction where the port is open. -/
theorem debugUnlockAndPort : Obligations.DebugUnlockAndPort := by
  unfold Obligations.DebugUnlockAndPort
  refine ⟨?_, fun r s => rfl, ?_, ?_, ?_, ?_, fun _ _ => State.debugResponseOk_false, ?_, fun req v s => debugRelock_turnedAway req v s,
    fun ir dr f s => ⟨State.jtag_open ir dr f, State.jtag_shut ir dr f⟩, fun x s => ⟨rfl, rfl⟩, fun p => rfl, ?_, ?_, ?_, ?_, ?_, ?_, ?_, ?_, ?_⟩
  · intro v hv
    obtain ⟨h1, h2, h3⟩ := debugClosure_closed v hv
    exact ⟨h1, fun n => debugClosure_keeps, h2, h3⟩
  · intro f s hb
    refine ⟨?_, s.newChallenge_spec⟩
    unfold State.liveRead
    simp [hb]
  · refine fun s => ⟨fun h1 h2 => ?_, fun h => ?_⟩
    · rw [exec_debugChallenge, execDebugChallenge, if_neg (by simp [h1, h2])]
      rfl
    · rw [exec_debugChallenge, execDebugChallenge, if_pos (by simpa using h)]
  · rintro req resp s u ha rfl
    rw [debugResponse_admits req resp s ha, State.debugResponseWrite_status]
  · intro resp s t ht
    have he := State.debugResponseWrite_eff s resp (Eff.refl 201326720 s) rfl
    rw [← ht] at he
    refine ⟨?_, SameMemory.of_eff he, SameRings.of_eff he, fun h => ?_, fun h => (State.debugResponseWrite_opens h ht).2⟩
    · by_cases h : s.debugResponseOk resp = true
      · rw [(State.debugResponseWrite_opens h ht).2.1]
      · rw [ht, State.debugResponseWrite_refused (by simpa using h)]
    · rw [ht, State.debugResponseWrite_refused h]
  · rintro req v s u hv ha rfl rfl
    rw [debugRelock_admits req 1 s (by omega) ha]
    rfl
  · intro pins load s
    refine ⟨fun h => ?_, fun h => ?_, fun h => ?_, fun h => ?_, by simp [State.scanOpen, or_assoc]⟩
    · rw [exec_samplePreload, execSamplePreload, if_pos h]
    · rw [exec_samplePreload, execSamplePreload, if_neg (by simp [h])]
    · rw [exec_extest, execExtest, if_pos h]
    · rw [exec_extest, execExtest, if_neg (by simp [h])]
  · intro s
    obtain ⟨h1, h2, h3⟩ := dtmcs_fields (Config.freeNat s.free)
    exact ⟨_, h1, h2, h3, rfl⟩
  · intro a d s u ht
    have hx : ∀ op, exec (.dmi a d op) s = execDmi a d op s := fun op => rfl
    refine ⟨fun hu => ?_, fun hu => ?_, ?_⟩
    · rw [hx, execDmi, if_neg (by simp [ht]), hu]
      rfl
    · rw [hx, execDmi, if_neg (by simp [ht]), hu]
      rfl
    · rw [hx, execDmi, if_neg (by simp [ht])]
      rfl
  · intro a d op s ht
    rw [exec_dmi, execDmi, if_pos (by simp [ht])]
  · intro c s
    obtain ⟨h1, h2⟩ := State.debugHalt_spec c s
    refine ⟨h1, h2, rfl, rfl, ?_⟩
    unfold State.debugAttr BusSource.world
    simp
  · intro s h
    obtain ⟨e, he, hb⟩ := State.sbBlocked_of_closed h
    refine ⟨e, he, ?_, ?_⟩
    · unfold State.sbWrite
      rw [hb]
    · unfold State.sbRead
      rw [hb]
  · intro r s ht
    refine ⟨?_, ?_⟩
    · rw [exec_unlock, execUnlock, if_neg (by simp [ht])]
    · rw [exec_unlock, execUnlock, if_neg (by simp [ht])]
  · intro r s ht
    rw [exec_unlock]
    exact if_pos (by simp [ht])
  · intro code s
    refine ⟨fun h => ?_, fun h => ?_⟩
    · rw [exec_bypass, execBypass, if_neg (by simpa using h)]
    · rw [exec_bypass, execBypass, if_pos (by simpa using h)]

end Sys2Proof.Machine
end

section
/-! PROOF of the requests for a power state (R611, R612, R615 to R617). -/
set_option Elab.async false
namespace Sys2Proof.Machine

/-! ### The answers of the blocks -/

theorem PowerAnswer.before_reason {a b : PowerAnswer} (h : a.before b = true) : a.reason ≤ b.reason := by
  have h := of_decide_eq_true h
  rcases List.cons_lt_cons_iff.1 h with h | h
  · exact Nat.le_of_lt h
  · exact Nat.le_of_eq h.1

theorem PowerAnswer.reason_of_not_before {a b : PowerAnswer} (h : ¬ a.before b = true) : b.reason ≤ a.reason := by
  by_contra hlt
  exact h (decide_eq_true (List.cons_lt_cons_iff.2 (.inl (Nat.lt_of_not_le hlt))))

theorem chooseAnswer_none {as : List PowerAnswer} (h : chooseAnswer as = none) : as = [] := by
  cases as with
  | nil => rfl
  | cons a as =>
    unfold chooseAnswer at h
    split at h
    · cases h
    · cases h

theorem chooseAnswer_some {as : List PowerAnswer} {a : PowerAnswer} (h : chooseAnswer as = some a) : a ∈ as ∧ ∀ b ∈ as, a.reason ≤ b.reason := by
  induction as generalizing a with
  | nil => cases h
  | cons x as ih =>
    unfold chooseAnswer at h
    split at h
    · next hn =>
      obtain rfl := Option.some.inj h
      obtain rfl := chooseAnswer_none hn
      simp
    · next b hb =>
      obtain ⟨hm, hle⟩ := ih hb
      obtain rfl := Option.some.inj h
      split
      · next hbef =>
        refine ⟨List.mem_cons_of_mem _ hm, fun c hc => ?_⟩
        rcases List.mem_cons.1 hc with rfl | hc
        · exact PowerAnswer.before_reason hbef
        · exact hle c hc
      · next hbef =>
        refine ⟨by simp, fun c hc => ?_⟩
        rcases List.mem_cons.1 hc with rfl | hc
        · exact Nat.le_refl _
        · exact Nat.le_trans (PowerAnswer.reason_of_not_before hbef) (hle c hc)

/-! ### A write of the power request -/

/-- The device turns off from a state that needs no exit: the notice of 10 ms runs. -/
theorem State.beginOff_power (u : State) : u.beginOff.power.target = 4 ∧ u.beginOff.power.offNotice = some (u.now + ms 10) := by
  have hnow : u.abortHandshake.now = u.now := (State.abortHandshake_eff u (Eff.refl 17593396109440 u) rfl).now_eq
  unfold State.beginOff
  dsimp only
  rw [(State.secureInterrupt_eff _ (Eff.refl 67108928 _) rfl).power_eq, ← hnow]
  exact ⟨rfl, rfl⟩

theorem State.powerWrite_off (u : State) (req : Requester) : u.powerWrite req 4 =
    if u.power.target = 4 then (Status.ok, u)
    else if u.exitRuns then (Status.ok, { u with power := { u.power with offAfterExit := true } })
    else if u.powerState = 2 ∧ u.reg 0x2400 3 ≠ 2 then
      (Status.ok, State.beginExit { u.abortHandshake with power := { u.abortHandshake.power with offAfterExit := true } } 4)
    else (Status.ok, u.beginOff) := by
  unfold State.powerWrite
  rfl

theorem State.powerWrite_other (u : State) (req : Requester) {v : Nat} (h : v = 0 ∨ v = 2 ∨ v = 3) : u.powerWrite req v =
    if u.reg 0x2400 3 ≠ 0 then (Status.busy, u)
    else if u.powerState = 2 then
      if v = 0 then (Status.ok, u.beginExit 4) else if v = 2 then (Status.ok, u)
      else (Status.pending, u.startHandshake 3 (decide (worldOf req = .secure)) false)
    else if v = 0 then (Status.ok, u) else (Status.pending, u.startHandshake v (decide (worldOf req = .secure)) false) := by
  unfold State.powerWrite
  rcases h with rfl | rfl | rfl
  · rfl
  · rfl
  · rfl

/-! ### The handshake -/

theorem handshakeAnswers_eq (d : Nat) (up l12 : Bool) {s : State} (h1 : s.reg 0x2400 3 = 1) (h2 : s.power.delayUntil = none) :
    exec (.handshakeAnswers d up l12) s = (
      let as := s.powerAnswers up l12
      let refusals := as.filter (fun (a : PowerAnswer) => a.refuse)
      let claims := refusals.any (fun (a : PowerAnswer) => decide (a.reason = 1))
      if s.power.secondQuery then
        match chooseAnswer as with
        | none => .next s.beginEntry
        | some a => .next (s.refusePower a.reason a claims)
      else
        match chooseAnswer refusals with
        | some a => .next (s.refusePower a.reason a claims)
        | none => match chooseAnswer as with
          | none => .next s.beginEntry
          | some a =>
            let d := if as.any (fun (b : PowerAnswer) => decide (b.reason = 7)) then max d 2200000 else d
            if ms (s.use 0x2400 5) < d then .next (s.refusePower 0x0B a false)
            else .next { s with power := { s.power with delayUntil := some (s.now + d) } }) := by
  rw [exec_handshakeAnswers, execHandshakeAnswers, if_neg (by simp [h1, h2])] <;> rfl

/-! ### The obligation -/

/-- Settles O38: each request by the state and phase, and the handshake by its answers. -/
theorem powerRequests : Obligations.PowerRequests := by
  unfold Obligations.PowerRequests
  refine ⟨?_, ?_, ?_, ?_, fun _ _ _ _ => rfl, ?_, ?_, ?_, fun _ _ => chooseAnswer_some, fun _ => chooseAnswer_none, ?_, ?_, ?_⟩
  · rintro req s u ha rfl
    have hx := powerSleep_admits req s ha
    rw [State.powerWrite_other _ req (.inr (.inl rfl))] at hx
    refine ⟨fun h1 h2 => ?_, fun h1 h2 => ?_, fun h1 => ?_⟩
    · rw [hx, if_neg (not_not.2 h1), if_neg h2]; rfl
    · rw [hx, if_neg (not_not.2 h1), if_pos h2]; rfl
    · rw [hx, if_pos h1]
  · rintro req s u ha rfl
    have hx := powerDeepSleep_admits req s ha
    rw [State.powerWrite_other _ req (.inr (.inr rfl))] at hx
    refine ⟨fun h1 => ?_, fun h1 => ?_⟩
    · rw [hx, if_neg (not_not.2 h1)]
      split
      · rfl
      · rfl
    · rw [hx, if_pos h1]
  · rintro req s u ha rfl
    have hx := powerRun_admits req s ha
    rw [State.powerWrite_other _ req (.inl rfl)] at hx
    refine ⟨fun h1 h2 => ?_, fun h1 h2 => ?_, fun h1 => ?_⟩
    · rw [hx, if_neg (not_not.2 h1), if_neg h2]; rfl
    · rw [hx, if_neg (not_not.2 h1), if_pos h2]; rfl
    · rw [hx, if_pos h1]
  · rintro req s u ha rfl
    have hx := powerOff_admits req s ha
    rw [State.powerWrite_off] at hx
    refine ⟨fun h => ?_, fun h1 h2 => ?_, fun h1 h2 h3 => ?_, ?_⟩
    · rw [hx, if_pos h]
    · rw [hx, if_neg h1, if_pos h2]
    · refine ⟨_, ?_, rfl, State.beginOff_power _⟩
      rw [hx, if_neg h1, if_neg (by simp [h2]), if_neg (fun h => h3.elim (fun h' => h' h.1) h.2)]
    · rintro h1 h2 h3 h4 v rfl
      rw [hx, if_neg h1, if_neg (by simp [h2]), if_pos ⟨h3, h4⟩]
  · refine fun s => ⟨fun h => if_pos h, fun h => ?_⟩
    unfold State.abortHandshake
    rw [if_neg (not_not.2 h)]
  · intro d up l12 s h1 h2
    have hx := handshakeAnswers_eq d up l12 h1 h2
    dsimp only at hx
    refine ⟨fun h => ?_, fun a h hq => ?_, fun a h hq => ?_, fun a delay h hr hq h7 hn => ?_⟩
    · rw [hx, h]
      cases s.power.secondQuery <;> rfl
    · rw [hx, hq, h]
      rfl
    · rw [hx, hq, h]
      rfl
    · have hf : (s.powerAnswers up l12).filter (fun (a : PowerAnswer) => a.refuse) = [] :=
        List.filter_eq_nil_iff.2 fun x hm => by simp [hr x hm]
      have hd : (if (s.powerAnswers up l12).any (fun (b : PowerAnswer) => decide (b.reason = 7)) then max d 2200000 else d) = delay := by
        by_cases h7' : ∃ x ∈ s.powerAnswers up l12, x.reason = 7
        · rw [if_pos (by simpa using h7'), h7 h7']
        · rw [if_neg (by simpa using h7'), hn (fun x hm hx => h7' ⟨x, hm, hx⟩)]
      have hnone : chooseAnswer [] = none := rfl
      rw [if_neg (by simp [hq]), hf, hnone, h] at hx
      dsimp only at hx
      rw [hd] at hx
      refine ⟨fun hle => ?_, fun hlt => ?_⟩
      · exact hx.trans (if_neg (Nat.not_lt.2 hle))
      · rw [hx, if_pos hlt]
  · intro d up l12 s h
    rw [exec_handshakeAnswers, execHandshakeAnswers, if_pos h]
  · intro t s h
    rw [exec_handshakeDelayExpiry, execHandshakeDelayExpiry, h]
    rfl
  · intro s h
    rw [exec_handshakeDelayExpiry, execHandshakeDelayExpiry, h]
  · rintro s u v reason st a claims rfl rfl rfl
    refine ⟨fun h => ?_, fun k h => ?_⟩
    · unfold State.refusePower
      dsimp only
      rw [h]
    · unfold State.refusePower
      dsimp only
      rw [h]

end Sys2Proof.Machine
end

section
/-! PROOF of the entries into and exits from the power states (R40, R54, R55, R68, R69, R263, R610, R613, R614, R617 to R620, R623). -/
set_option Elab.async false
namespace Sys2Proof.Machine

/-! ### What the dies' and regulators' part in a change of state leaves of the request -/

/-- The device's request and exit are those of another state. -/
def SameRequest (s t : State) : Prop := t.power.wakeDuring = s.power.wakeDuring ∧ t.power.exitSource = s.power.exitSource ∧
  t.power.exitFrom = s.power.exitFrom ∧ t.power.offAfterExit = s.power.offAfterExit

theorem SameRequest.trans {s t u : State} (h : SameRequest s t) (k : SameRequest t u) : SameRequest s u :=
  ⟨k.1.trans h.1, k.2.1.trans h.2.1, k.2.2.1.trans h.2.2.1, k.2.2.2.trans h.2.2.2⟩

theorem SameRequest.refl (s : State) : SameRequest s s := ⟨rfl, rfl, rfl, rfl⟩

theorem SameRequest.of_power {s t : State} (h : t.power = s.power) : SameRequest s t := by
  unfold SameRequest
  rw [h]
  exact ⟨rfl, rfl, rfl, rfl⟩

theorem SameRequest.setDiePower (s : State) (st : Nat) : SameRequest s (s.setDiePower st) := by
  unfold State.setDiePower
  refine State.each_keeps (P := fun t => SameRequest s t) _ _ (fun t d ht => ht.trans ?_) s (SameRequest.refl s)
  dsimp only
  split_ifs
  all_goals exact ⟨rfl, rfl, rfl, rfl⟩

theorem SameRequest.vrCommand (s : State) (d mv : Nat) : SameRequest s (s.vrCommand d mv) := by
  unfold State.vrCommand
  dsimp only
  split
  · exact SameRequest.refl s
  · exact ⟨rfl, rfl, rfl, rfl⟩

/-- A die's regulator and clock grant at the entry into a sleep state. -/
def State.sleepDie (target : Nat) (t : State) (d : Nat) : State :=
  let mv := if target = 3 then 550 else t.use 0x2410 3
  let t0 : State := if t.powerState ≤ 1 ∧ t.reg (0x2408 + d) 6 = 1 then
      { t with power := { t.power with runVr := Tab.put t.power.runVr d (t.reg (0x2408 + d) 5) } }
    else t
  (if mv = 0 then t0 else t0.vrCommand d mv).setReg (0x2508 + d) 5 0

theorem SameRequest.sleepDie (target : Nat) (t : State) (d : Nat) : SameRequest t (State.sleepDie target t d) := by
  unfold State.sleepDie
  dsimp only
  have h0 : SameRequest t (if t.powerState ≤ 1 ∧ t.reg (0x2408 + d) 6 = 1 then
      { t with power := { t.power with runVr := Tab.put t.power.runVr d (t.reg (0x2408 + d) 5) } } else t) := by
    split
    · exact ⟨rfl, rfl, rfl, rfl⟩
    · exact SameRequest.refl t
  refine SameRequest.trans (h0.trans ?_) (SameRequest.of_power rfl)
  generalize (if t.powerState ≤ 1 ∧ t.reg (0x2408 + d) 6 = 1 then _ else t) = t0
  generalize (if target = 3 then 550 else t.use 0x2410 3) = mv
  split
  · exact SameRequest.refl _
  · exact SameRequest.vrCommand _ _ _

/-- The dies asleep, before the heads and links go down. -/
def State.diesAsleep (s : State) (target : Nat) : State :=
  State.setDiePower { s.each s.dieList (State.sleepDie target) with
    sapflow := { (s.each s.dieList (State.sleepDie target)).sapflow with canopyGranted := [], calibration := false } } target

theorem State.enterSleepState_eq (s : State) (target : Nat) : s.enterSleepState target =
    if target = 3 then (s.diesAsleep target).headsDown.linksSleep.isolate else (s.diesAsleep target).headsDown := rfl

theorem SameRequest.diesAsleep (s : State) (target : Nat) : SameRequest s (s.diesAsleep target) := by
  have hloop : SameRequest s (s.each s.dieList (State.sleepDie target)) :=
    State.each_keeps (P := fun t => SameRequest s t) _ _ (fun t d ht => ht.trans (SameRequest.sleepDie target t d)) s (SameRequest.refl s)
  unfold State.diesAsleep
  exact hloop.trans (SameRequest.trans (SameRequest.of_power rfl) (SameRequest.setDiePower _ target))

theorem SameRequest.enterSleepState (s : State) (target : Nat) : SameRequest s (s.enterSleepState target) := by
  rw [State.enterSleepState_eq]
  have h := SameRequest.diesAsleep s target
  generalize s.diesAsleep target = v at h ⊢
  have hd : SameRequest s v.headsDown := h.trans (SameRequest.of_power (State.headsDown_eff v (Eff.refl 40802189440 v) rfl).power_eq)
  split
  · refine hd.trans ((SameRequest.of_power (State.linksSleep_eff v.headsDown (Eff.refl 524416 _) rfl).power_eq).trans ?_)
    exact SameRequest.of_power rfl
  · exact hd

/-- The entry into DEEP_SLEEP isolates the pins, the one into SLEEP leaves them. -/
theorem State.enterSleepState_pins (s : State) (target : Nat) : (target = 3 → (s.enterSleepState target).pins = { s.pins with
      pwrenMain := false, clkreqLow := false, pcieIdle := true, gpioKept := s.pins.gpio, gpio := [] }) ∧
    (target ≠ 3 → (s.enterSleepState target).pins = s.pins) := by
  have hdie : ∀ t d, (State.sleepDie target t d).pins = t.pins := fun t d => by
    have hvr : ∀ (u : State) (mv : Nat), ((if mv = 0 then u else u.vrCommand d mv).setReg (0x2508 + d) 5 0).pins = u.pins := fun u mv => by
      split
      · rfl
      · exact (State.vrCommand_eff u d mv (Eff.refl 134217856 u) rfl).pins_eq
    unfold State.sleepDie
    dsimp only
    have h0 : (if t.powerState ≤ 1 ∧ t.reg (0x2408 + d) 6 = 1 then
        { t with power := { t.power with runVr := Tab.put t.power.runVr d (t.reg (0x2408 + d) 5) } } else t).pins = t.pins := by
      split
      · rfl
      · rfl
    exact (hvr _ _).trans h0
  have hv : (s.diesAsleep target).headsDown.pins = s.pins := by
    rw [(State.headsDown_eff (s.diesAsleep target) (Eff.refl 40802189440 _) rfl).pins_eq]
    unfold State.diesAsleep
    rw [(State.setDiePower_eff _ target (Eff.refl 134217856 _) rfl).pins_eq]
    exact State.each_pins _ _ hdie s
  rw [State.enterSleepState_eq]
  refine ⟨fun h => ?_, fun h => ?_⟩
  · rw [if_pos h, ← hv, ← (State.linksSleep_eff (s.diesAsleep target).headsDown (Eff.refl 524416 _) rfl).pins_eq]
    rfl
  · rw [if_neg h]
    exact hv

/-! ### The exit that completes -/

/-- A die's clock grant and regulator at the exit. -/
def State.exitDie (u : State) (d : Nat) : State :=
  let u1 := u.setReg (0x2508 + d) 5 (u.use 0x2500 3)
  match Tab.find? u1.power.runVr d with
  | none => u1
  | some mv => ({ u1 with power := { u1.power with runVr := Tab.erase u1.power.runVr d } } : State).vrCommand d mv

theorem SameRequest.exitDie (u : State) (d : Nat) : SameRequest u (u.exitDie d) := by
  unfold State.exitDie
  dsimp only
  split
  · exact ⟨rfl, rfl, rfl, rfl⟩
  · exact SameRequest.trans ⟨rfl, rfl, rfl, rfl⟩ (SameRequest.vrCommand _ _ _)

/-- The state from which an exit is completed: it no longer runs. -/
def State.exitOver (s : State) : State :=
  { s with power := { s.power with exitSource := 0, exitFrom := 0, offAfterExit := false, railsWait := none, awake := [] } }

/-- The blocks awake after an exit. -/
def State.blocksAwake (s : State) (deep : Bool) : State :=
  State.headsWake ((((s.keysWake deep).hapWake).lanesWake deep).audioWake) deep

theorem SameRequest.blocksAwake (s : State) (deep : Bool) : SameRequest s (s.blocksAwake deep) := by
  unfold State.blocksAwake
  refine SameRequest.of_power ?_
  rw [(State.headsWake_eff _ deep (Eff.refl 17642654015616 _) rfl).power_eq, (State.audioWake_eff _ (Eff.refl 2199023255680 _) rfl).power_eq,
    (State.lanesWake_eff _ deep (Eff.refl 21991308402816 _) rfl).power_eq, (State.hapWake_eff _ (Eff.refl 275414777984 _) rfl).power_eq,
    (State.keysWake_eff _ deep (Eff.refl 18280523768000 _) rfl).power_eq]

theorem SameRequest.finishExit (s : State) : SameRequest s.exitOver s.finishExit := by
  unfold State.finishExit
  extract_lets p deep t s1 s2 s3 s4 s5 s6 n mcan s7 pme power s8 s9 health s10
  have h2 : SameRequest s1 s2 := by
    refine SameRequest.trans (SameRequest.of_power ?_) (SameRequest.setDiePower _ 0)
    split
    · exact (State.banksWake_eff s1 (Eff.refl 786560 s1) rfl).power_eq
    · rfl
  have h3 : SameRequest s2 s3 := SameRequest.of_power rfl
  have h4 : SameRequest s3 s4 := SameRequest.blocksAwake s3 deep
  have h5 : SameRequest s4 s5 := State.each_keeps (P := fun t => SameRequest s4 t) _ _
    (fun u h hu => hu.trans (SameRequest.of_power (State.reverify_eff u h (Eff.refl 17610441760896 u) rfl).power_eq)) s4 (SameRequest.refl s4)
  have h6 : SameRequest s5 s6 := State.each_keeps (P := fun t => SameRequest s5 t) _ _
    (fun u d hu => hu.trans (SameRequest.exitDie u d)) s5 (SameRequest.refl s5)
  have h8 : SameRequest s6 s8 := by
    have h7 : SameRequest s6 s7 := SameRequest.of_power rfl
    refine h7.trans ?_
    unfold s8
    split
    · exact ⟨rfl, rfl, rfl, rfl⟩
    · exact SameRequest.refl s7
  have h9 : SameRequest s8 s9 := SameRequest.of_power (State.eventAll_eff s8 _ _ _ _ _ _ (Eff.refl 17593261891712 s8) rfl).power_eq
  have h10 : SameRequest s9 s10 := by
    unfold s10
    split
    · exact SameRequest.of_power (State.cause_eff { s9 with health := { s9.health with pendingRail := false } } _ _ _ _
        (Eff.refl 17593263202432 _) rfl).power_eq
    · exact SameRequest.refl s9
  have h11 : SameRequest s10 s10.gfxSettle := SameRequest.of_power (State.gfxSettle_eff s10 (Eff.refl 68719476864 s10) rfl).power_eq
  exact h2.trans (h3.trans (h4.trans (h5.trans (h6.trans (h8.trans (h9.trans (h10.trans h11)))))))

/-! ### An entry completes -/

/-- An entry is complete, before its event: `s1` is the state with every block asleep. -/
def State.shownAsleep (s1 : State) (target : Nat) : State :=
  let s2 := ((((s1.setReg 0x2400 1 target).setReg 0x2400 3 0).setReg 0x2400 7 Status.ok).setReg 0x2400 0xA s1.now).inc 0x2400
    (if target = 2 then 0xC else 0xD)
  { s2 with
    power := { s2.power with target := 0, wakeDuring := none, delayUntil := none, sleepStart := s2.now, deepAfter := none, idleSince := [], awake := [] }
    mcan := { s2.mcan with heartbeatDue := none } }

theorem State.shownAsleep_frame (s1 : State) (target : Nat) : SameRings s1 (s1.shownAsleep target) ∧ (s1.shownAsleep target).mem = s1.mem ∧
    (s1.shownAsleep target).timeRuns = s1.timeRuns ∧ (s1.shownAsleep target).pins = s1.pins := by
  unfold State.shownAsleep
  have he : Eff 128 s1 (((((s1.setReg 0x2400 1 target).setReg 0x2400 3 0).setReg 0x2400 7 Status.ok).setReg 0x2400 0xA s1.now).inc 0x2400
      (if target = 2 then 0xC else 0xD)) :=
    State.inc_eff _ _ _ (State.setReg_eff _ _ _ _ (State.setReg_eff _ _ _ _ (State.setReg_eff _ _ _ _ (State.setReg_eff _ _ _ _
      (Eff.refl 128 s1) rfl) rfl) rfl) rfl) rfl
  generalize ((((s1.setReg 0x2400 1 target).setReg 0x2400 3 0).setReg 0x2400 7 Status.ok).setReg 0x2400 0xA s1.now).inc 0x2400
    (if target = 2 then 0xC else 0xD) = s2 at he
  exact ⟨⟨he.active_eq, he.draft_eq, he.previous_eq⟩, he.mem_eq, he.timeRuns_eq, he.pins_eq⟩

/-- The state in which an entry from s is complete. -/
def State.entered (s : State) (target : Nat) : State := (s.hapSleep.enterSleepState target).shownAsleep target

theorem State.entered_frame (s : State) (target : Nat) : SameRings s (s.entered target) ∧ (s.entered target).mem = s.mem ∧
    (s.entered target).timeRuns = s.timeRuns ∧
    (target = 3 → (s.entered target).pins = { s.pins with
      pwrenMain := false, clkreqLow := false, pcieIdle := true, gpioKept := s.pins.gpio, gpio := [] }) ∧
    (target ≠ 3 → (s.entered target).pins = s.pins) := by
  have hh := State.hapSleep_eff s (Eff.refl 17868676669568 s) rfl
  have he := State.enterSleepState_eff s.hapSleep target (Eff.refl 41205629056 _) rfl
  have hp := s.hapSleep.enterSleepState_pins target
  rw [hh.pins_eq] at hp
  unfold State.entered
  generalize s.hapSleep = h at hh he hp ⊢
  generalize h.enterSleepState target = v at he hp ⊢
  obtain ⟨⟨f1, f2, f3⟩, f4, f5, f6⟩ := v.shownAsleep_frame target
  rw [f6]
  exact ⟨⟨f1.trans (he.active_eq.trans hh.active_eq), f2.trans (he.draft_eq.trans hh.draft_eq), f3.trans (he.previous_eq.trans hh.previous_eq)⟩,
    f4.trans (he.mem_eq.trans hh.mem_eq), f5.trans (he.timeRuns_eq.trans hh.timeRuns_eq), hp⟩

theorem State.entered_regs (s : State) (target : Nat) : (s.entered target).reg 0x2400 1 = target ∧ (s.entered target).reg 0x2400 3 = 0 ∧
    (s.entered target).reg 0x2400 7 = Status.ok ∧ (s.entered target).reg 0x2400 0xA = s.now := by
  have hnow : (s.hapSleep.enterSleepState target).now = s.now :=
    (State.enterSleepState_eff s.hapSleep target (Eff.refl 41205629056 _) rfl).now_eq.trans (State.hapSleep_eff s (Eff.refl 17868676669568 s) rfl).now_eq
  have hinc : ∀ (t : State) (j : Nat), j ≠ 0xC → j ≠ 0xD → j < 256 →
      (t.inc 0x2400 (if target = 2 then 0xC else 0xD)).reg 0x2400 j = t.reg 0x2400 j := fun t j h1 h2 _ => by
    unfold State.inc State.count
    refine State.reg_setReg_of_ne _ _ _ _ _ _ ?_
    unfold entryKey
    split
    · omega
    · omega
  have hreg : ∀ j, j ≠ 0xC → j ≠ 0xD → j < 256 → (s.entered target).reg 0x2400 j =
      ((((((s.hapSleep.enterSleepState target).setReg 0x2400 1 target).setReg 0x2400 3 0).setReg 0x2400 7 Status.ok).setReg 0x2400 0xA
        (s.hapSleep.enterSleepState target).now)).reg 0x2400 j := fun j h1 h2 h3 => hinc _ j h1 h2 h3
  refine ⟨?_, ?_, ?_, ?_⟩
  · rw [hreg 1 (by decide) (by decide) (by decide)]
    simp only [State.reg_setReg_of_ne _ _ _ _ _ _ (entryKey_inst_ne (show 0xA % 256 ≠ 1 % 256 by decide)),
      State.reg_setReg_of_ne _ _ _ _ _ _ (entryKey_inst_ne (show 7 % 256 ≠ 1 % 256 by decide)),
      State.reg_setReg_of_ne _ _ _ _ _ _ (entryKey_inst_ne (show 3 % 256 ≠ 1 % 256 by decide)), State.reg_setReg_self]
  · rw [hreg 3 (by decide) (by decide) (by decide)]
    simp only [State.reg_setReg_of_ne _ _ _ _ _ _ (entryKey_inst_ne (show 0xA % 256 ≠ 3 % 256 by decide)),
      State.reg_setReg_of_ne _ _ _ _ _ _ (entryKey_inst_ne (show 7 % 256 ≠ 3 % 256 by decide)), State.reg_setReg_self]
  · rw [hreg 7 (by decide) (by decide) (by decide)]
    simp only [State.reg_setReg_of_ne _ _ _ _ _ _ (entryKey_inst_ne (show 0xA % 256 ≠ 7 % 256 by decide)), State.reg_setReg_self]
  · rw [hreg 0xA (by decide) (by decide) (by decide), State.reg_setReg_self]
    exact hnow

theorem entryComplete_eq {s : State} (h1 : s.reg 0x2400 3 = 2) (h2 : s.power.target = 2 ∨ s.power.target = 3) : exec .entryComplete s =
    (let u := (s.entered s.power.target).eventAll 0x0090 0xFFFF Status.ok 0xFF s.power.target (256 * s.powerState)
     let v := if s.power.target = 3 then u.timeStops else u
     match s.power.wakeDuring with
     | some k => .next (v.beginExit k)
     | none => if v.power.wakeLow then .next (v.beginExit 1) else .next v.armDeep) := by
  have hw : (s.hapSleep.enterSleepState s.power.target).power.wakeDuring = s.power.wakeDuring :=
    (SameRequest.enterSleepState s.hapSleep s.power.target).1.trans
      (congrArg PowerWork.wakeDuring (State.hapSleep_eff s (Eff.refl 17868676669568 s) rfl).power_eq)
  rw [← hw, exec_entryComplete, execEntryComplete]
  exact if_neg (by omega)

/-! ### WAKE_N and the sources -/

theorem State.wakeFrom_entry {s : State} {k : Nat} (hx : s.exitRuns = false) (he : s.entryRuns = true) : s.wakeFrom k =
    if s.power.target = 4 ∨ !(wakeMarked k s.powerState || wakeMarked k s.power.target) then s
    else State.inc { s with power := { s.power with wakeDuring := some (s.power.wakeDuring.getD k) } } 0x2400 0xB := by
  unfold State.wakeFrom
  dsimp only
  rw [if_neg (by simp [hx]), if_pos he]

theorem State.beginExit_time (s : State) (k : Nat) :
    (3 ≤ s.powerState → (s.beginExit k).pins = { s.pins with pwrenMain := true, pwrenMem := true } ∧
      (s.beginExit k).power.railsWait = some ((s.beginExit k).now + ms 50)) ∧
    (s.powerState < 3 → (s.beginExit k).pins = s.pins ∧ (s.beginExit k).power.railsWait = none) ∧
    (s.powerState = 3 → (s.beginExit k).timeRuns = true ∧ s.now ≤ (s.beginExit k).now) ∧
    (s.powerState ≠ 3 → (s.beginExit k).now = s.now ∧ (s.beginExit k).timeRuns = s.timeRuns) := by
  unfold State.beginExit
  dsimp only
  have hp : (if s.powerState = 3 then s.timeResumes else s).pins = s.pins := by
    split
    · rfl
    · rfl
  refine ⟨fun h => ?_, fun h => ?_, fun h => ?_, fun h => ?_⟩
  · rw [decide_eq_true h]
    refine ⟨?_, rfl⟩
    rw [← hp]
    rfl
  · rw [decide_eq_false (by omega)]
    exact ⟨hp, rfl⟩
  · rw [if_pos h]
    exact ⟨rfl, Nat.le_max_left _ _⟩
  · rw [if_neg h]
    exact ⟨rfl, rfl⟩

/-! ### The obligation -/

/-- Settles O39: entries, exits, the OFF notice, WAKE_N and the marked sources, each by state and phase. -/
theorem powerEntriesAndExits : Obligations.PowerEntriesAndExits := by
  unfold Obligations.PowerEntriesAndExits
  refine ⟨?_, ?_, fun s => rfl, ?_, ?_, ?_, ?_, ?_, ?_, ?_, ?_, ?_, ?_, ?_, ?_, ?_, ?_⟩
  · intro s h1 h2
    obtain ⟨r1, r3, r7, rA⟩ := s.entered_regs s.power.target
    obtain ⟨f1, f2, f3, f5, f6⟩ := s.entered_frame s.power.target
    have hx := entryComplete_eq h1 h2
    refine ⟨s.entered s.power.target, r1, r3, r7, rA, rfl, rfl, rfl, f1, f2, f3, fun h => ?_, fun h => f6 (by omega), ?_⟩
    · rw [f5 h]
      exact ⟨rfl, rfl, rfl, rfl, rfl⟩
    · rintro v rfl
      refine ⟨fun h => ?_, fun k h => ?_⟩
      · rw [hx, h]
        dsimp only
        rw [← apply_ite Host.Outcome.next]
      · rw [hx, h]
  · intro s h
    rw [exec_entryComplete, execEntryComplete]
    exact if_pos h
  · intro t s h1 h2 h3
    rw [exec_deepAfterExpiry, execDeepAfterExpiry, h1]
    exact if_neg (by simp [h2, h3])
  · intro s h
    rw [exec_deepAfterExpiry, execDeepAfterExpiry]
    split
    · rfl
    · next t ht => exact if_pos (h.resolve_left (by simp [ht]))
  · intro t s h
    refine ⟨(s.arriveAt t).enterOff, ?_, State.reg_setReg_self _ _ _ _, rfl, rfl, rfl, rfl, rfl, rfl, rfl, rfl, rfl, rfl, rfl, rfl, rfl⟩
    rw [exec_offNoticeExpiry, execOffNoticeExpiry, h]
    rfl
  · intro s h
    rw [exec_offNoticeExpiry, execOffNoticeExpiry, h]
  · rintro n held s u v rfl
    have hx : exec (.wakeN n held) s = execWakeN n held s := rfl
    refine ⟨fun h => ?_, fun h1 h2 => ?_, fun h1 h2 h3 => ?_, ?_⟩
    · rw [hx]
      exact if_pos h
    · rw [hx]
      refine (if_neg (by omega)).trans ?_
      rw [if_neg (show ¬ n < 1000 by omega), if_neg (fun h => absurd h.1 (by omega))]
      refine if_neg fun h => ?_
      rcases h2 with h2 | h2
      · exact absurd h.1 (Nat.not_le.2 h2)
      · exact h2 h.2
    · rw [hx]
      refine (if_neg (by omega)).trans ?_
      rw [if_neg (show ¬ n < 1000 by omega), if_neg (fun h => absurd h.1 (by omega))]
      exact if_pos ⟨h2, h3⟩
    · rintro h1 h2 rfl
      rw [hx, execWakeN, if_neg (by omega)]
      dsimp only
      rw [if_pos h2]
      by_cases hf : Config.freeBool s.free = true
      · rw [if_neg (by simp [hf])]
        exact .inr (apply_ite Host.Outcome.next _ _ _).symm
      · exact .inl (if_pos ⟨h2, by simpa using hf⟩)
  · intro s k h
    unfold State.wakeFrom
    exact if_pos h
  · intro s k hx he
    unfold State.wakeFrom
    dsimp only
    rw [if_neg (by simp [hx]), if_neg (by simp [he])]
    exact ⟨fun h => if_pos h, fun h => if_neg (by simp [h])⟩
  · intro s k hx he ht hm
    rw [State.wakeFrom_entry hx he, if_neg]
    rintro (h | h)
    · exact ht h
    · rcases hm with hm | hm
      · simp [hm] at h
      · simp [hm] at h
  · intro s k hx he h
    rw [State.wakeFrom_entry hx he, if_pos]
    exact h.imp id (fun h => by simp [h.1, h.2])
  · intro state h1 h2
    interval_cases state
    · decide
    · decide
    · decide
  · intro s k
    obtain ⟨h1, h2, h3⟩ := s.beginExit_spec k
    exact ⟨h1, h2, h3, s.beginExit_time k⟩
  · intro s h1 h2 h3
    rw [exec_exitComplete, execExitComplete, if_neg (by simp [h1, h2, h3])]
  · intro s h
    rw [exec_exitComplete, execExitComplete, if_pos (by simpa using h)]
  · intro s
    obtain ⟨-, h1, h2, h3⟩ := SameRequest.finishExit s
    have he := State.finishExit_eff s (Eff.refl 25288435835072 s) rfl
    exact ⟨h1, h2, h3, SameRings.of_eff he, he.mem_eq, he.now_eq⟩

end Sys2Proof.Machine
end

section
/-! PROOF of the dies' idle state, their domains and regulators (R609, R624 to R631, R633, R666, R727). -/
set_option Elab.async false
namespace Sys2Proof.Machine

/-! ### IDLE -/

theorem State.settleIdle_state {s : State} (h : s.powerState ≤ 1) :
    s.settleIdle.powerState = if ∀ d ∈ s.dieList, s.reg (0x2408 + d) 1 = 1 then 1 else 0 := by
  have hall : ofBool (s.dieList.all (fun d => decide (s.reg (0x2408 + d) 1 = 1))) = if ∀ d ∈ s.dieList, s.reg (0x2408 + d) 1 = 1 then 1 else 0 := by
    by_cases ha : ∀ d ∈ s.dieList, s.reg (0x2408 + d) 1 = 1
    · rw [if_pos ha, show s.dieList.all (fun d => decide (s.reg (0x2408 + d) 1 = 1)) = true by simpa using ha]
      rfl
    · rw [if_neg ha, show s.dieList.all (fun d => decide (s.reg (0x2408 + d) 1 = 1)) = false by simpa using ha]
      rfl
  unfold State.settleIdle
  dsimp only
  rw [if_neg (by omega), hall]
  generalize (if ∀ d ∈ s.dieList, s.reg (0x2408 + d) 1 = 1 then 1 else 0) = st
  split
  · next he => exact he
  · unfold State.powerState
    rw [State.reg_setReg_of_ne _ _ _ _ _ _ (entryKey_inst_ne (by decide)), State.reg_setReg_self]

theorem State.sameLiveBut_setReg (s : State) (i k v : Nat) : SameLiveBut s (s.setReg i k v) [entryKey i k] := by
  intro j m hj
  rw [State.setReg_eq, State.liveAt_setLive, if_neg (fun h => hj (by simp [h]))]

theorem State.leaveIdle_spec {s : State} {d : Nat} (h : s.reg (0x2408 + d) 1 = 1) : ∃ u : State, s.leaveIdle d = u.settleIdle ∧
    u.reg (0x2408 + d) 1 = 0 ∧ SameLiveBut s u [entryKey (0x2408 + d) 1] ∧ u = { s with live := u.live, power := u.power } := by
  refine ⟨_, if_neg (not_not.2 h), State.reg_setReg_self _ _ _ _, ?_, rfl⟩
  exact State.sameLiveBut_setReg { s with power := { s.power with
    idleSpans := Tab.put s.power.idleSpans d
      ((Tab.getD s.power.idleSpans d []).filter (fun p => decide (s.now < p.2 + ms 100)) ++ [(Tab.getD s.power.idleSince d s.now, s.now)])
    idleSince := Tab.erase s.power.idleSince d } } (0x2408 + d) 1 0

/-! ### Regulators -/

/-- A STATUS_WORD is judged by its VOUT and POWER_GOOD# bits. -/
theorem State.vrJudge_spec {d st : Nat} {s u v : State} (hu : u = s.setReg (0x2408 + d) 7 st)
    (hv : v = { u with power := { u.power with vr := Tab.erase u.power.vr d } }) :
    (bit st 15 = true → s.vrJudge d st = u.vrFault d 2) ∧ (bit st 15 = false → bit st 11 = true → s.vrJudge d st = u) ∧
    (∀ c, bit st 15 = false → bit st 11 = false → Tab.find? s.power.vr d = some c →
      (c.retried = false → s.vrJudge d st = v) ∧ (c.retried = true → s.vrJudge d st = v.voltageEvent d 5 Status.ok)) ∧
    (bit st 15 = false → bit st 11 = false → Tab.find? s.power.vr d = none → s.vrJudge d st = v) := by
  have hf : ∀ o, Tab.find? s.power.vr d = o → Tab.find? u.power.vr d = o := fun o h => by rw [hu]; exact h
  unfold State.vrJudge
  dsimp only
  rw [← hu, ← hv]
  refine ⟨fun h => if_pos h, fun h1 h2 => ?_, fun c h1 h2 hc => ⟨fun hr => ?_, fun hr => ?_⟩, fun h1 h2 hc => ?_⟩
  · rw [if_neg (by simp [h1]), if_neg (by simp [h2])]
  · rw [if_neg (by simp [h1]), if_pos (by simp [h2]), hf _ hc]
    exact if_neg (show ¬ c.retried = true by simp [hr])
  · rw [if_neg (by simp [h1]), if_pos (by simp [h2]), hf _ hc]
    exact if_pos hr
  · rw [if_neg (by simp [h1]), if_pos (by simp [h2]), hf _ hc]
    rfl

theorem State.vrUnacknowledged_none {s : State} {d : Nat} (h : Tab.find? s.power.vr d = none) : s.vrUnacknowledged d = s := by
  unfold State.vrUnacknowledged
  rw [h]

theorem State.vrUnacknowledged_some {s : State} {d : Nat} {c : VrCommand} (h : Tab.find? s.power.vr d = some c) :
    (c.retried = false → ∃ t u w : State, s.vrUnacknowledged d = t ∧ u = (s.inc (0x2408 + d) 8).pmbusWrite d 3 [] ∧
      (∃ code, w = u.pmbusWrite d 0x21 (leBytes 2 code)) ∧ t = { w with power := { w.power with vr := Tab.put w.power.vr d { c with retried := true } } }) ∧
    (c.retried = true → s.vrUnacknowledged d = (s.inc (0x2408 + d) 8).vrFault d 1) := by
  unfold State.vrUnacknowledged
  rw [h]
  dsimp only
  refine ⟨fun hr => ?_, fun hr => if_pos hr⟩
  rw [if_neg (by simp [hr])]
  exact ⟨_, _, _, rfl, rfl, ⟨_, rfl⟩, rfl⟩

/-! ### The bias -/

theorem biasMonitor_eq {d : Nat} {s : State} (hd : d < s.dies) (hop : s.operational = true) (hp : s.powerState ≤ 1) :
    exec (.biasMonitor d true) s = .next (s.biasRaise d) ∧ exec (.biasMonitor d false) s = .next (s.biasLower d) := by
  simp only [exec_biasMonitor, execBiasMonitor, hd, hop, hp, and_self, if_true, Bool.false_eq_true, if_false]

theorem State.biasRaise_spec {d : Nat} {s u : State} (hu : u = { s with power := { s.power with lastWarning := Tab.put s.power.lastWarning d s.now } }) :
    (s.reg (0x2408 + d) 6 = 0 → s.regI (0x2408 + d) 3 < 600 → s.biasRaise d =
      ((u.setRegI (0x2408 + d) 3 (min 600 (s.regI (0x2408 + d) 3 + 20))).setReg (0x2408 + d) 4 (runAssist (min 600 (s.regI (0x2408 + d) 3 + 20)))).inc (0x2608 + d) 6) ∧
    (s.reg (0x2408 + d) 6 = 0 → 600 ≤ s.regI (0x2408 + d) 3 → s.biasRaise d = u) ∧
    (s.reg (0x2408 + d) 6 = 1 → s.reg (0x2408 + d) 5 + 5 ≤ 850 → s.biasRaise d = (u.vrCommand d (s.reg (0x2408 + d) 5 + 5)).inc (0x2608 + d) 6) ∧
    (s.reg (0x2408 + d) 6 ≠ 0 → s.reg (0x2408 + d) 6 ≠ 1 ∨ 850 < s.reg (0x2408 + d) 5 + 5 → s.biasRaise d = u) := by
  subst hu
  unfold State.biasRaise
  dsimp only
  refine ⟨fun h hb => ?_, fun h hb => ?_, fun h hb => ?_, fun h hb => ?_⟩
  · rw [if_pos h, if_neg (by omega)]
  · rw [if_pos h, if_pos hb]
  · rw [if_neg (by omega), if_pos ⟨h, hb⟩]
  · rw [if_neg h, if_neg (by omega)]

theorem State.biasLower_spec {d : Nat} {s u : State}
    (hq : max (Tab.getD s.power.lastWarning d 0) (Tab.getD s.power.lastFall d 0) + ms 1 ≤ s.now)
    (hu : u = { s with power := { s.power with lastFall := Tab.put s.power.lastFall d s.now } }) :
    (s.reg (0x2408 + d) 6 = 0 → s.useI 0x2410 1 < s.regI (0x2408 + d) 3 → s.biasLower d =
      ((u.setRegI (0x2408 + d) 3 (max (s.useI 0x2410 1) (s.regI (0x2408 + d) 3 - 10))).setReg (0x2408 + d) 4
        (runAssist (max (s.useI 0x2410 1) (s.regI (0x2408 + d) 3 - 10)))).inc (0x2608 + d) 7) ∧
    (s.reg (0x2408 + d) 6 = 0 → s.regI (0x2408 + d) 3 ≤ s.useI 0x2410 1 → s.biasLower d = s) ∧
    (s.reg (0x2408 + d) 6 = 1 → Tab.find? s.power.vr d = none → 555 ≤ s.reg (0x2408 + d) 5 →
      s.biasLower d = (u.vrCommand d (s.reg (0x2408 + d) 5 - 5)).inc (0x2608 + d) 7) ∧
    (s.reg (0x2408 + d) 6 ≠ 0 → s.reg (0x2408 + d) 6 ≠ 1 ∨ Tab.find? s.power.vr d ≠ none ∨ s.reg (0x2408 + d) 5 < 555 → s.biasLower d = s) := by
  subst hu
  unfold State.biasLower
  dsimp only
  rw [if_neg (Nat.not_lt.2 hq)]
  refine ⟨fun h hb => ?_, fun h hb => ?_, fun h hn hb => ?_, fun h hb => ?_⟩
  · rw [if_pos h, if_neg (by omega)]
  · rw [if_pos h, if_pos hb]
  · rw [if_neg (by omega), if_pos ⟨h, hn, hb⟩]
  · rw [if_neg h, if_neg]
    rintro ⟨h1, h2, h3⟩
    exact hb.elim (fun hb => hb h1) (fun hb => hb.elim (fun hb => hb h2) (fun hb => absurd h3 (by omega)))

/-! ### The obligation -/

/-- Settles O40: the idle state, the bias and the regulators, each by the die's registers and its command. -/
theorem diesAndRegulators : Obligations.DiesAndRegulators := by
  unfold Obligations.DiesAndRegulators
  refine ⟨?_, ?_, ?_, ?_, fun s => State.settleIdle_state, fun d m s => rfl, ?_, ?_, ?_, ?_, ?_, ?_, fun _ _ _ _ _ => State.vrJudge_spec,
    ?_, ?_, ?_, ?_⟩
  · intro d s h1 h2 h3 h4 h5 h6
    rw [exec_dieIdleEntry, execDieIdleEntry, if_pos ⟨h1, h2, h3, h4, h5, rfl, h6⟩]
  · intro d w s h
    rw [exec_dieIdleEntry, execDieIdleEntry, if_neg]
    rintro ⟨h1, h2, h3, h4, h5, h6, h7⟩
    simp only [h2, h4, h5, h6, h7] at h
    simp at h
    omega
  · intro d s hd h
    obtain ⟨u, hu, h1, h2, h3⟩ := State.leaveIdle_spec h
    refine ⟨u, ?_, h1, h2, h3⟩
    rw [exec_dieIdleExit, execDieIdleExit, if_pos hd, hu]
  · intro d s h
    rw [exec_dieIdleExit, execDieIdleExit]
    split
    · next hd => exact congrArg _ (if_pos (h.resolve_left (by omega)))
    · rfl
  · intro d w s h
    rw [exec_biasMonitor, execBiasMonitor, if_neg]
    rintro ⟨h1, h2, h3⟩
    exact h.elim (by omega) (fun h => h.elim (by simp [h2]) (by omega))
  · intro d s u hd hop hp hu
    obtain ⟨h1, h2, h3, h4⟩ := State.biasRaise_spec hu
    rw [(biasMonitor_eq hd hop hp).1]
    exact ⟨fun a b => congrArg _ (h1 a b), fun a b => congrArg _ (h2 a b), fun a b => congrArg _ (h3 a b), fun a b => congrArg _ (h4 a b)⟩
  · intro d s u hd hop hp hq hu
    obtain ⟨h1, h2, h3, h4⟩ := State.biasLower_spec hq hu
    rw [(biasMonitor_eq hd hop hp).2]
    exact ⟨fun a b => congrArg _ (h1 a b), fun a b => congrArg _ (h2 a b), fun a b c => congrArg _ (h3 a b c), fun a b => congrArg _ (h4 a b)⟩
  · intro d s h
    have hl : s.biasLower d = s := if_pos h
    simp only [exec_biasMonitor, execBiasMonitor, Bool.false_eq_true, if_false, hl, ite_self]
  · intro d st c s h
    rw [exec_vrAck, execVrAck, h]
  · intro d st s h
    refine ⟨?_, ?_, ?_⟩
    · rw [exec_vrAck, execVrAck, h]
    · rw [exec_vrTimeout, execVrTimeout, State.vrUnacknowledged_none h]
    · rw [exec_clockStretchTimeout, execClockStretchTimeout, State.vrUnacknowledged_none h]
  · intro d c s h
    obtain ⟨h1, h2⟩ := State.vrUnacknowledged_some h
    rw [exec_vrTimeout, execVrTimeout]
    refine ⟨fun hr => ?_, fun hr => ?_⟩
    · obtain ⟨t, u, w, ht, hu, hw, htw⟩ := h1 hr
      exact ⟨t, u, w, congrArg _ ht, hu, hw, htw⟩
    · rw [h2 hr]
  · intro d s
    rw [exec_clockStretchTimeout, exec_vrTimeout]
    rfl
  · intro d reason s
    refine ⟨fun h => if_neg (not_not.2 h), fun h => if_pos h⟩
  · intro ws s
    rw [exec_vrAlert]
    rfl

end Sys2Proof.Machine
end

section
/-! PROOF of Sapflow's rounds and cuts (R639 to R641, R643 to R646, R668, R676, R678, R681). -/
set_option Elab.async false
namespace Sys2Proof.Machine

/-! ### The graphics passes -/

/-- What a pass does to the grants: it spends the room it takes, in steps of 50 MHz that end below the wanted clock plus one step. -/
def Spends (step : Int) (want : Nat) (gs : List (Nat × Nat)) (room : Int) (r : List (Nat × Nat) × Int) : Prop :=
  0 ≤ r.2 ∧ r.1.map (·.1) = gs.map (·.1) ∧ 50 * (room - r.2) = step * (((r.1.map (·.2)).sum : Nat) - ((gs.map (·.2)).sum : Nat) : Int) ∧
  List.Forall₂ (fun a b => a.2 ≤ b.2 ∧ (b.2 ≤ a.2 ∨ b.2 < want + 50)) gs r.1

theorem spends_gfxPass (step : Int) (want : Nat) (gs : List (Nat × Nat)) (room : Int) (hr : 0 ≤ room) :
    Spends step want gs room (gfxPass step want gs room) := by
  induction gs generalizing room with
  | nil => exact ⟨hr, rfl, by simp [gfxPass], List.Forall₂.nil⟩
  | cons e gs ih =>
    obtain ⟨d, g⟩ := e
    by_cases hup : g < want ∧ step ≤ room
    · have hstep : gfxPass step want ((d, g) :: gs) room =
          ((d, g + 50) :: (gfxPass step want gs (room - step)).1, (gfxPass step want gs (room - step)).2) := by
        simp [gfxPass, hup]
      obtain ⟨h1, h2, h3, h4⟩ := ih (room - step) (by omega)
      rw [hstep]
      refine ⟨h1, by simpa using h2, ?_, List.Forall₂.cons ⟨by simp, .inr (by simp; omega)⟩ h4⟩
      simp only [List.map_cons, List.sum_cons]
      push_cast at h3 ⊢
      linarith
    · have hstep : gfxPass step want ((d, g) :: gs) room = ((d, g) :: (gfxPass step want gs room).1, (gfxPass step want gs room).2) := by
        have hb : (decide (g < want) && decide (step ≤ room)) = false := by simpa using hup
        simp [gfxPass, hb]
      obtain ⟨h1, h2, h3, h4⟩ := ih room hr
      rw [hstep]
      refine ⟨h1, by simpa using h2, ?_, List.Forall₂.cons ⟨by simp, .inl (by simp)⟩ h4⟩
      simp only [List.map_cons, List.sum_cons]
      push_cast at h3 ⊢
      linarith

theorem forall₂_grants_trans {want : Nat} {as bs cs : List (Nat × Nat)}
    (h1 : List.Forall₂ (fun a b : Nat × Nat => a.2 ≤ b.2 ∧ (b.2 ≤ a.2 ∨ b.2 < want + 50)) as bs)
    (h2 : List.Forall₂ (fun a b : Nat × Nat => a.2 ≤ b.2 ∧ (b.2 ≤ a.2 ∨ b.2 < want + 50)) bs cs) :
    List.Forall₂ (fun a b : Nat × Nat => a.2 ≤ b.2 ∧ (b.2 ≤ a.2 ∨ b.2 < want + 50)) as cs := by
  induction h1 generalizing cs with
  | nil => exact h2
  | cons hab _ ih =>
    cases h2 with
    | cons hbc ht => exact List.Forall₂.cons ⟨by omega, by omega⟩ (ih ht)

theorem spends_gfxPasses (step : Int) (want n : Nat) (gs : List (Nat × Nat)) (room : Int) (hr : 0 ≤ room) :
    Spends step want gs room (gfxPasses step want n gs room) := by
  induction n generalizing gs room with
  | zero => exact ⟨hr, rfl, by simp [gfxPasses], List.forall₂_same.2 fun _ _ => ⟨Nat.le_refl _, .inl (Nat.le_refl _)⟩⟩
  | succ n ih =>
    obtain ⟨h1, h2, h3, h4⟩ := spends_gfxPass step want gs room hr
    obtain ⟨k1, k2, k3, k4⟩ := ih (gfxPass step want gs room).1 (gfxPass step want gs room).2 h1
    refine ⟨k1, k2.trans h2, ?_, forall₂_grants_trans h4 k4⟩
    change 50 * (room - (gfxPasses step want n (gfxPass step want gs room).1 (gfxPass step want gs room).2).2) = step *
      ((((gfxPasses step want n (gfxPass step want gs room).1 (gfxPass step want gs room).2).1.map (·.2)).sum : Nat) - ((gs.map (·.2)).sum : Nat) : Int)
    linarith

/-! ### The memory a round can write -/

/-- A memory differs from a state's in what the self-test of the waiting die may write, where one waits. -/
def SlotMemoryOnly (s : State) (m : Memory) : Prop := (s.reg 0x2710 2 ≠ 1 → m = s.mem) ∧
  ∀ b, b < stackBase (s.reg 0x2710 3) + 0x7FF00000 ∨ stackBase (s.reg 0x2710 3) + 0x80000000 ≤ b →
    b < sramBase (s.reg 0x2710 3) ∨ sramBase (s.reg 0x2710 3) + 0x80000 ≤ b → Memory.read m b = Memory.read s.mem b

theorem SlotMemoryOnly.refl (s : State) : SlotMemoryOnly s s.mem := ⟨fun _ => rfl, fun _ _ _ => rfl⟩

theorem State.slotBegins_mem (s : State) : SlotMemoryOnly s s.slotBegins.mem := by
  unfold State.slotBegins
  dsimp only
  split
  · exact SlotMemoryOnly.refl s
  · next h1 =>
    split
    · rw [(State.slotAborted_eff s (Eff.refl 17593261891712 s) rfl).mem_eq]
      exact SlotMemoryOnly.refl s
    · rw [(State.chooseGuards_eff _ (Eff.refl 17610441760896 _) rfl).mem_eq]
      refine ⟨fun h => absurd (not_not.1 h1) h, fun b hb1 hb2 => ?_⟩
      exact State.read_slotMemory ((s.setReg 0x2710 2 2).setReg (0x2008 + s.reg 0x2710 3) 2 1) (s.reg 0x2710 3) b hb2 hb1

theorem State.grantClasses_mem (s : State) (room : Int) : SlotMemoryOnly s (s.grantClasses room).2.1.mem := by
  unfold State.grantClasses
  extract_lets slotMw slot slotOk
  split
  next room1 s1 l1 h1 =>
  have hs1 : SlotMemoryOnly s s1.mem := by
    split at h1
    · cases h1
      exact SlotMemoryOnly.refl s
    · split at h1
      · cases h1
        exact s.slotBegins_mem
      · cases h1
        have he : Eff 17610441760896 s ((s.slotCut).inc 0x2501 0xA) := State.inc_eff _ _ _ (State.slotCut_eff s (Eff.refl _ s) rfl) rfl
        rw [he.mem_eq]
        exact SlotMemoryOnly.refl s
  extract_lets calMw calOk
  split
  next room2 s2 l2 h2 =>
  have hs2 : s2.mem = s1.mem := by
    split at h2
    · cases h2
      rfl
    · split at h2
      · cases h2
        rfl
      · cases h2
        exact (State.inc_eff _ _ _ (State.pauseCalibration_eff s1 (Eff.refl 805306496 s1) rfl) rfl).mem_eq
  have hfold : ∀ (l : List Nat) (t : State), (l.foldl (fun (u : State) h => u.withdrawBuild h) t).mem = t.mem := by
    intro l
    induction l with
    | nil => exact fun _ => rfl
    | cons n l ih => exact fun t => (ih _).trans (State.withdrawBuild_eff t n (Eff.refl 17602120261760 t) rfl).mem_eq
  have hfin : ∀ l : List Nat, SlotMemoryOnly s (l.foldl (fun (u : State) h => u.withdrawBuild h) s2).mem := fun l => by
    rw [hfold, hs2]
    exact hs1
  exact hfin _

/-- The round's start, before the classes are granted, leaves the memory and what the self-test waits for. -/
theorem SlotMemoryOnly.of_start {s t : State} {m : Memory} (hm : t.mem = s.mem) (h2 : t.reg 0x2710 2 = s.reg 0x2710 2)
    (h3 : t.reg 0x2710 3 = s.reg 0x2710 3) (h : SlotMemoryOnly t m) : SlotMemoryOnly s m := by
  unfold SlotMemoryOnly at h
  rw [hm, h2, h3] at h
  exact h

theorem State.dieList_lt {s : State} {d : Nat} (h : d ∈ s.dieList) : d < 8 := Nat.lt_of_lt_of_le (List.mem_range.1 h) (Part.dies_le s.part)

theorem State.reg_biasFloor (s : State) {j k : Nat} (hj : 0x2410 ≤ j) (hk : k < 256) : s.biasFloor.reg j k = s.reg j k := by
  refine State.each_keeps_mem (P := fun t => t.reg j k = s.reg j k) _ _ (fun t d hd ht => ?_) s rfl
  have := State.dieList_lt hd
  dsimp only
  split
  · exact ht
  · rw [State.reg_setReg_of_ne _ _ _ _ _ _ (by unfold entryKey; omega), ← ht]
    refine State.reg_of_liveAt ?_
    rw [State.setRegI, State.liveAt_setLive, if_neg (by unfold entryKey; omega)]

theorem State.reg_setFloors (s : State) (fs : List Nat) {j k : Nat} (hj : 0x2510 ≤ j) (hk : k < 256) : (s.setFloors fs).reg j k = s.reg j k := by
  refine State.each_keeps_mem (P := fun t => t.reg j k = s.reg j k) _ _ (fun t d hd ht => ?_) s rfl
  have := State.dieList_lt hd
  rw [State.reg_setReg_of_ne _ _ _ _ _ _ (by unfold entryKey; omega)]
  exact ht

theorem SlotMemoryOnly.of_mem {s : State} {m m' : Memory} (h : SlotMemoryOnly s m) (hm : m' = m) : SlotMemoryOnly s m' := hm ▸ h

/-- Two states have one device memory and one device time. -/
def SameMemNow (s t : State) : Prop := t.mem = s.mem ∧ t.now = s.now

theorem SameMemNow.trans {s t u : State} (h : SameMemNow s t) (k : SameMemNow t u) : SameMemNow s u := ⟨k.1.trans h.1, k.2.trans h.2⟩

theorem SameMemNow.of_eff {c : Nat} {s t : State} (h : Eff c s t) (h1 : Nat.testBit c 1 = false) (h12 : Nat.testBit c 12 = false) : SameMemNow s t :=
  ⟨h.mem_eq h12, h.now_eq h1⟩

theorem SameMemNow.each (l : List Nat) (f : State → Nat → State) (hf : ∀ t n, SameMemNow t (f t n)) (s : State) : SameMemNow s (s.each l f) :=
  State.each_keeps (P := fun t => SameMemNow s t) l f (fun t n ht => ht.trans (hf t n)) s ⟨rfl, rfl⟩

theorem grantRound_spec (p u : Nat) (fl : List Nat) {s t : State} (hs : s.serving = true) (hh : s.health.succession = false)
    (ht : exec (.grantRound p u fl) s = .next t) :
    SlotMemoryOnly s t.mem ∧ t.now = max s.now ((s.now + 999999) / 1000000 * 1000000) := by
  rw [exec_grantRound, execGrantRound, if_neg (by simp [hs, hh])] at ht
  revert ht
  extract_lets t0 limit room t1 t2 a g want t3 short t4 left t5 t6 t7 sapflow t8 t9
  intro ht
  obtain rfl := Host.Outcome.next.inj ht
  have h0 : t0.mem = s.mem ∧ t0.now = max s.now ((s.now + 999999) / 1000000 * 1000000) ∧ ∀ k, k < 256 → t0.reg 0x2710 k = s.reg 0x2710 k := by
    have htake := State.takeUp_eff (s.arriveAt ((s.now + 999999) / 1000000 * 1000000)) isSapflowIndex (Eff.refl 1024 _) rfl
    have hfloor := State.biasFloor_eff ((s.arriveAt ((s.now + 999999) / 1000000 * 1000000)).takeUp isSapflowIndex) (Eff.refl 128 _) rfl
    refine ⟨hfloor.mem_eq.trans htake.mem_eq, hfloor.now_eq.trans htake.now_eq, fun k hk => ?_⟩
    rw [State.reg_biasFloor _ (by decide) hk]
    exact State.reg_of_eff htake rfl rfl rfl _ _
  clear_value t0
  have h1 : SameMemNow t0 t1 ∧ ∀ k, k < 256 → t1.reg 0x2710 k = t0.reg 0x2710 k := by
    have hfl := State.setFloors_eff ((t0.setReg 0x2501 1 p).setReg 0x2501 2 u) fl (Eff.refl 128 _) rfl
    refine ⟨⟨hfl.mem_eq, hfl.now_eq⟩, fun k hk => ?_⟩
    unfold t1 State.inc State.count
    rw [State.reg_setReg_of_ne _ _ _ _ _ _ (by unfold entryKey; omega), State.reg_setFloors _ _ (by decide) hk,
      State.reg_setReg_of_ne _ _ _ _ _ _ (by unfold entryKey; omega), State.reg_setReg_of_ne _ _ _ _ _ _ (by unfold entryKey; omega)]
  clear_value t1
  have h2 : SameMemNow t1 t2 ∧ ∀ k, k < 256 → t2.reg 0x2710 k = t1.reg 0x2710 k := by
    unfold t2
    split
    · refine ⟨⟨rfl, rfl⟩, fun k hk => ?_⟩
      unfold State.inc State.count
      rw [State.reg_setReg_of_ne _ _ _ _ _ _ (by unfold entryKey; omega)]
    · exact ⟨⟨rfl, rfl⟩, fun _ _ => rfl⟩
  clear_value t2
  have ha : SlotMemoryOnly s a.2.1.mem ∧ a.2.1.now = t2.now :=
    ⟨SlotMemoryOnly.of_start (h2.1.1.trans (h1.1.1.trans h0.1))
      ((h2.2 2 (by decide)).trans ((h1.2 2 (by decide)).trans (h0.2.2 2 (by decide))))
      ((h2.2 3 (by decide)).trans ((h1.2 3 (by decide)).trans (h0.2.2 3 (by decide)))) (t2.grantClasses_mem room),
      (State.grantClasses_eff t2 room (Eff.refl 17619837006016 t2) rfl).now_eq⟩
  clear_value a
  have h3 : SameMemNow a.2.1 t3 := SameMemNow.each _ _ (fun v d => by split <;> exact ⟨rfl, rfl⟩) _
  clear_value t3
  have h4 : SameMemNow t3 t4 := by
    unfold t4
    split <;> exact ⟨rfl, rfl⟩
  clear_value t4
  have h5 : SameMemNow t4 t5 := ⟨rfl, rfl⟩
  clear_value t5
  have h6 : SameMemNow t5 t6 := by
    unfold t6
    split
    · exact SameMemNow.of_eff (State.sapflowEvent_eff t5 _ _ _ _ (Eff.refl 17593261891712 t5) rfl) rfl rfl
    · exact ⟨rfl, rfl⟩
  clear_value t6
  have h7 : SameMemNow t6 t7 := (SameMemNow.of_eff (State.shedReport_eff t6 (Eff.refl 17593530327168 t6) rfl) rfl rfl).trans
    (SameMemNow.each _ _ (fun v b => SameMemNow.of_eff (State.boardWindow_eff v b (Eff.refl 17593530327168 v) rfl) rfl rfl) _)
  clear_value t7
  have h8 : SameMemNow t7 t8 := ⟨rfl, rfl⟩
  clear_value t8
  have h9 : SameMemNow t8 t9 := SameMemNow.each _ _ (fun v c => by
    split
    · exact ⟨rfl, rfl⟩
    · split
      · exact ⟨rfl, rfl⟩
      · exact SameMemNow.of_eff (State.placePlay_eff v c _ (Eff.refl 274877907008 v) rfl) rfl rfl) _
  clear_value t9
  have h10 : SameMemNow t9 t9.startCalibrations := ⟨rfl, rfl⟩
  obtain ⟨hm, hn⟩ := h3.trans (h4.trans (h5.trans (h6.trans (h7.trans (h8.trans (h9.trans h10))))))
  exact ⟨ha.1.of_mem hm, hn.trans (ha.2.trans (h2.1.2.trans (h1.1.2.trans h0.2.1)))⟩

/-! ### The obligation -/

/-- Settles O41: the grant round, its cuts and the peak check, each by what it finds. -/
theorem sapflowRoundsAndCuts : Obligations.SapflowRoundsAndCuts := by
  unfold Obligations.SapflowRoundsAndCuts
  refine ⟨?_, ?_, fun step want n gs room _ hr => spends_gfxPasses step want n gs room hr, ?_, ?_, ?_, ?_, ?_, ?_⟩
  · intro p u fl s hs hh
    obtain ⟨t, ht, he⟩ := execGrantRound_eff p u fl s
    obtain ⟨hm, hnow⟩ := grantRound_spec p u fl hs hh ht
    exact ⟨t, ht, hnow, SameRings.of_eff he, he.fuses_eq, he.worlds_eq, he.pins_eq, hm.1, hm.2⟩
  · intro p u mw fl s h
    refine ⟨?_, ?_⟩
    · rw [exec_grantRound, execGrantRound, if_pos (by simpa using h)]
    · rw [exec_projectionCheck, execProjectionCheck]
      exact if_pos (h.elim (fun h => .inl (by simp [h])) (fun h => .inr (.inl h)))
  · intro mw s h
    rw [exec_projectionCheck, execProjectionCheck]
    exact if_pos (.inr (.inr h))
  · intro mw s hs hh hmw
    have hx : exec (.projectionCheck mw) s = execProjectionCheck mw s := rfl
    rw [execProjectionCheck, if_neg (by simp [hs, hh]; omega)] at hx
    dsimp only at hx
    refine ⟨?_, fun hl => ?_⟩
    · rintro high rfl hne
      rw [hx, if_pos hne]
    · have hnone : s.dieList.filter (fun d => decide (s.use 0x2500 3 < s.reg (0x2508 + d) 5)) = [] :=
        List.filter_eq_nil_iff.2 fun d hd => by simpa using hl d hd
      rw [hnone, if_neg (by simp)] at hx
      rintro builds rfl
      refine ⟨fun hne => ?_, fun hb hc => ?_, fun hb hc h2 => ?_, fun hb hc h2 => ?_⟩
      · rw [hx, if_pos hne]
      · rw [hx, hb, if_neg (by simp), if_pos hc]
      · rw [hx, hb, if_neg (by simp), if_neg (by simp [hc]), if_pos h2]
      · rw [hx, hb, if_neg (by simp), if_neg (by simp [hc]), if_neg h2]
  · rintro d ma s u hd hs rfl
    have hx : exec (.peakCurrentCheck d ma) s = execPeakCurrentCheck d ma s := rfl
    rw [execPeakCurrentCheck, if_neg (by simp [hs]; omega)] at hx
    dsimp only at hx
    refine ⟨fun h => ?_, fun h h5 => ?_, fun h h5 => ⟨fun hc hp => ?_, fun hb => ?_⟩⟩
    · rw [hx, if_pos h]
    · rw [hx, if_neg (by omega), if_pos h5]
    · rw [hx, if_neg (by omega), if_neg (by omega), if_neg]
      simpa using ⟨hc, hp⟩
    · refine ⟨_, rfl, ?_⟩
      rw [hx, if_neg (by omega), if_neg (by omega), if_pos]
      simpa using hb
  · intro d ma s h
    rw [exec_peakCurrentCheck, execPeakCurrentCheck, if_pos (by simpa using h)]
  · intro c p s h hp
    rw [exec_boardWaitExpiry, execBoardWaitExpiry, h]
    exact if_neg (by simp [hp])
  · intro c s h
    rw [exec_boardWaitExpiry, execBoardWaitExpiry]
    split
    · rfl
    · next p hp => exact if_pos (h p hp)

end Sys2Proof.Machine
end

section
/-!
# O57: blending, the matrix and the last stages of a pixel

Blending weighs two 16-bit colours by an alpha that is itself at most 65535, so the result lies between the two.
-/
set_option Elab.async false
namespace Sys2Proof.Machine

/-- A weighted mean of two values, the weights adding to 65535, rounded to the nearest: it lies between the two. -/
theorem weighted_between (e c d : Nat) (he : e ≤ 65535) (h : c ≤ d) :
    c ≤ (c * e + d * (65535 - e) + 32767) / 65535 ∧ (c * e + d * (65535 - e) + 32767) / 65535 ≤ d := by
  obtain ⟨f, rfl⟩ : ∃ f, e = 65535 - f := ⟨65535 - e, by omega⟩
  obtain ⟨k, rfl⟩ := Nat.exists_eq_add_of_le h
  have hf : ∃ f', f' ≤ 65535 ∧ 65535 - (65535 - f) = f' := ⟨_, by omega, rfl⟩
  obtain ⟨f', hf', hff⟩ := hf
  have hsum : 65535 - f = 65535 - f' := by omega
  rw [hff, hsum]
  have hmul : c * (65535 - f') + (c + k) * f' = 65535 * c + k * f' := by
    zify [hf']
    ring
  have hk : k * f' ≤ k * 65535 := Nat.mul_le_mul_left k hf'
  rw [hmul]
  omega

/-- The same without the order of the two: the weighted mean of 16-bit values is a 16-bit value. -/
theorem weighted_le (e c d : Nat) (he : e ≤ 65535) (hc : c ≤ 65535) (hd : d ≤ 65535) :
    (c * e + d * (65535 - e) + 32767) / 65535 ≤ 65535 := by
  have h1 : c * e ≤ 65535 * e := Nat.mul_le_mul_right e hc
  have h2 : d * (65535 - e) ≤ 65535 * (65535 - e) := Nat.mul_le_mul_right _ hd
  omega

/-- R361's effective alpha of 16-bit values is a 16-bit value. -/
theorem effectiveAlpha_le (a g : Nat) (ha : a ≤ 65535) (hg : g ≤ 65535) : (a * g + 32767) / 65535 ≤ 65535 := by
  have h1 : a * g ≤ 65535 * g := Nat.mul_le_mul_right g ha
  omega

namespace Pixel

/-- A blended colour is a 16-bit value in every mode. -/
theorem blend_le (mode g a c d : Nat) (hg : g ≤ 65535) (ha : a ≤ 65535) (hc : c ≤ 65535) (hd : d ≤ 65535) :
    blend 65535 mode g a c d ≤ 65535 := by
  have he : (if mode = 0 then g else (a * g + 65535 / 2) / 65535) ≤ 65535 := by
    split
    · exact hg
    · exact effectiveAlpha_le a g ha hg
  unfold blend
  dsimp only
  split
  · exact weighted_le _ c d he hc hd
  · exact min_le_left _ _

/-- A transparent STRAIGHT pixel leaves what is below it, an opaque one at full global alpha replaces it. -/
theorem blend_straight_ends (g c d : Nat) :
    blend 65535 2 g 0 c d = d ∧ blend 65535 2 65535 65535 c d = c := by
  have h0 : (0 * g + 32767) / 65535 = 0 := by omega
  constructor
  · simp only [blend, OfNat.ofNat_ne_zero, if_false, if_true, Nat.reduceDiv, h0]
    omega
  · simp only [blend, OfNat.ofNat_ne_zero, if_false, if_true]
    omega

/-- An opaque pixel with its own alpha ignored, at full global alpha, replaces what is below it. -/
theorem blend_opaque (a c d : Nat) (hc : c ≤ 65535) : blend 65535 0 65535 a c d = c := by
  simp only [blend, if_true, OfNat.zero_ne_ofNat, if_false]
  omega

/-- A row of the matrix is clamped to 16 bits. -/
theorem matrixRow_le (m0 m1 m2 o : Int) (r g b : Nat) : matrixRow m0 m1 m2 o r g b ≤ 65535 := by
  unfold matrixRow clampInt
  omega

/-- A coefficient of 1.0 alone gives its colour. -/
theorem matrixRow_unit (c r g b : Nat) (hc : c ≤ 65535) :
    matrixRow 65536 0 0 0 c g b = c ∧ matrixRow 0 65536 0 0 r c b = c := by
  unfold matrixRow clampInt
  omega

/-- Stage 9 keeps the order of its values. -/
theorem quantise_mono (t p q : Nat) (h : p ≤ q) : quantise 10 t p ≤ quantise 10 t q ∧ quantise 8 t p ≤ quantise 8 t q := by
  simp only [quantise, if_true, show (8 : Nat) ≠ 10 by decide, if_false]
  omega

/-- The dither thresholds: each lies below 16 and the pattern repeats every four pixels. -/
theorem ditherAt_periodic (x y : Nat) :
    ditherAt x y < 16 ∧ ditherAt (x + 4) y = ditherAt x y ∧ ditherAt x (y + 4) = ditherAt x y := by
  have hall : ∀ i < 4, ∀ j < 4, ditherAt i j < 16 := by decide
  have hmod : ditherAt (x % 4) (y % 4) = ditherAt x y := by simp [ditherAt]
  refine ⟨hmod ▸ hall _ (Nat.mod_lt _ (by decide)) _ (Nat.mod_lt _ (by decide)), ?_, ?_⟩
  · simp [ditherAt]
  · simp [ditherAt]

/-- Every threshold below 16 stands in the pattern. -/
theorem ditherAt_onto (k : Nat) (hk : k < 16) : ∃ x y, x < 4 ∧ y < 4 ∧ ditherAt x y = k := by
  have hall : ∀ k < 16, ∃ x < 4, ∃ y < 4, ditherAt x y = k := by decide
  obtain ⟨x, hx, y, hy, hxy⟩ := hall k hk
  exact ⟨x, y, hx, hy, hxy⟩

end Pixel

/-- Settles O57: the quotients are the definition's, and the bounds those of a weighted mean and of a clamp. -/
theorem blendingAndDepth : Obligations.BlendingAndDepth := by
  unfold Obligations.BlendingAndDepth
  refine ⟨fun g a c d hg ha hc hd => ⟨rfl, rfl, rfl, fun mode => Pixel.blend_le mode g a c d hg ha hc hd,
      (Pixel.blend_straight_ends g c d).1, (Pixel.blend_straight_ends g c d).2, Pixel.blend_opaque a c d hc,
      weighted_between _ c d (effectiveAlpha_le a g ha hg)⟩,
    Pixel.matrixRow_le, fun c r g b hc => Pixel.matrixRow_unit c r g b hc, fun c => ?_, fun t p => ?_, Pixel.quantise_mono,
    Pixel.ditherAt_periodic, Pixel.ditherAt_onto⟩
  · rw [Pixel.to12, Nat.shiftRight_eq_div_pow]
  · simp [Pixel.quantise, Nat.shiftRight_eq_div_pow]

end Sys2Proof.Machine
end

section
/-! PROOF of the survey's readings (R652, R654, R655, R657, R658, R661 to R663, R667, R669, R673, R674, R676, R683). -/
set_option Elab.async false
namespace Sys2Proof.Machine

/-! ### A one-byte entry whose value is out of its range -/

/-- A value that an entry of one byte does not take is turned away as R123 has it, whichever of the indexed objects it names. -/
theorem State.submitNumber_outOfRange {req : Requester} {idx i sub v : Nat} {o : ObjectRow} {e : SubEntry} {s : State}
    (hobj : objectAt idx = some (o, i)) (hsub : o.sub? sub = some e) (hidx : idx ≠ 0x1F12)
    (hbase : 0x2304 ≤ o.base ∧ o.base ≠ 0x7100 ∧ ¬ (o.base = 0x7900 ∧ e.lo = 3) ∧ o.base ≠ 0x6600) (hty : e.ty = .u8) (hacc : accessOk e true = true)
    (hv : v < 256) (hrange : ∀ p g, e.inRange p g i v = false) (h : s.reaches req idx sub (leBytes 1 v) = true) :
    s.submitNumber req idx sub v = s.turnedAway req idx sub (leBytes 1 v) := by
  obtain ⟨hlow, hlane, hstream, hword⟩ := hbase
  obtain ⟨f, hf, -⟩ := State.reaches_lookup h
  have hfe : f = ⟨o, i, e⟩ := by
    have hf' := hf
    simp only [lookup, hobj, hsub] at hf'
    split at hf'
    · split at hf'
      · exact absurd hf' (by simp)
      · simpa using hf'.symm
    · exact absurd hf' (by simp)
  subst hfe
  have hrow : Found.row' ⟨o, i, e⟩ = e := if_neg (fun hh => by have := hh.1; simp only at this; omega)
  have hdec : e.decode (leBytes 1 v) = .num (v : Int) := by simp [SubEntry.decode, hty, leNat_leBytes 1 v hv, Ty.isBytes, Ty.signed]
  refine State.submitNumber_turnedAway (n := 1) hidx hf (by simp [hty]; rfl) (by decide) h ?_ ?_ (by rw [hrow]; exact hacc) ?_ ?_
  · simp [State.recoveryShut]; omega
  · simp [State.secureOnly]; omega
  · simp [State.lengthFits, hrow, hlane, hstream, SubEntry.lengthOk, hty, Ty.isBytes, show o.base ≠ 0x2111 by omega]; rfl
  · simp [Found.valueOk, hrow, SubEntry.valueOk, hdec, hty, Val.toInt, hrange]

theorem piezoRequest_turnedAway {req : Requester} {c v : Nat} {s : State} (hc : c < 16) (hv : v < 256) (hne : v ≠ 1)
    (h : s.reaches req (0x2610 + c) 6 (leBytes 1 v) = true) :
    exec (.piezoRequest req c v) s = .next (s.turnedAway req (0x2610 + c) 6 (leBytes 1 v)) := by
  obtain ⟨o, hobj, hbase, hsub⟩ : ∃ o, objectAt (0x2610 + c) = some (o, c) ∧ o.base = 0x2610 ∧
      o.sub? 6 = some ⟨6, 6, "request", .u8, .wo, .live, .blank, .only [1], 0⟩ := by
    interval_cases c <;> exact ⟨_, rfl, rfl, rfl⟩
  have hx : (v : Int) ≠ 1 := by omega
  rw [exec_piezoRequest, execPiezoRequest, objectIndex, if_pos hc, Nat.one_mul,
    State.submitNumber_outOfRange hobj hsub (by omega) (by rw [hbase]; decide) rfl rfl hv (by simp [SubEntry.inRange, hx]) h]

theorem speakerRequest_turnedAway {req : Requester} {o v : Nat} {s : State} (ho : o < 64) (hv : v < 256) (hne : v ≠ 1)
    (h : s.reaches req (0x2620 + o) 0xC (leBytes 1 v) = true) :
    exec (.speakerRequest req o v) s = .next (s.turnedAway req (0x2620 + o) 0xC (leBytes 1 v)) := by
  obtain ⟨r, hobj, hbase, hsub⟩ : ∃ r, objectAt (0x2620 + o) = some (r, o) ∧ r.base = 0x2620 ∧
      r.sub? 0xC = some ⟨12, 12, "request", .u8, .wo, .live, .blank, .only [1], 0⟩ := by
    interval_cases o <;> exact ⟨_, rfl, rfl, rfl⟩
  have hx : (v : Int) ≠ 1 := by omega
  rw [exec_speakerRequest, execSpeakerRequest, objectIndex, if_pos ho, Nat.one_mul,
    State.submitNumber_outOfRange hobj hsub (by omega) (by rw [hbase]; decide) rfl rfl hv (by simp [SubEntry.inRange, hx]) h]

/-! ### Rails -/

/-- What a patch of bytes holds where it was made. -/
theorem slice_patch (bs v : List Byte) (off n : Nat) (hn : v.length = n) (h : off + n ≤ bs.length) : slice (patch bs off v) off n = v := by
  have htake : (bs.take off).length = off := List.length_take_of_le (by omega)
  rw [slice, patch, List.append_assoc, List.drop_append_of_le_length htake.ge, List.drop_of_length_le htake.le, List.nil_append,
    List.take_append_of_le_length hn.ge, List.take_of_length_le hn.le]

/-- Only the entry named changes when one is set. -/
theorem State.sameLiveBut_setLive (s : State) (i k : Nat) (v : Val) : SameLiveBut s (s.setLive i k v) [entryKey i k] := by
  intro j m hj
  rw [State.liveAt_setLive, if_neg (fun h => hj (by simp [h]))]

/-- A rail that leaves its limits, or leaves them on the other side: its condition is entered (R657). -/
theorem State.railJudge_entered {s : State} {d r mv st : Nat} {c : Condition} (hc : c = Tab.getD s.survey.rails (16 * d + r) {})
    (hst : st = if mv * 10000 < s.railReference d r * (10000 - 75 * (railNominal r).2) then 1
      else if s.railReference d r * (100 + (railNominal r).2) < mv * 100 then 2 else 0)
    (h : st ≠ 0) (hne : c.state ≠ st) :
    s.railJudge d r mv = State.surveyEvent (((((State.setReg
        { s with survey := { s.survey with rails := Tab.put s.survey.rails (16 * d + r) { c with state := st, since := if c.state = 0 then s.now else c.since, inside := none } } }
        (0x2608 + d) 2 (setBit (s.reg (0x2608 + d) 2) r true)).inc (0x2608 + d) 5).errorBit 2).raiseEmcy 0x3000 Status.ok d 0xA (16 * d + r)))
        0x0095 r d st mv := by
  subst hc hst
  unfold State.railJudge
  simp only [decide_eq_true_eq]
  exact if_pos ⟨h, hne⟩

/-- A rail whose condition is neither entered nor changed. -/
theorem State.railJudge_kept {s : State} {d r mv st : Nat} {c : Condition} (hc : c = Tab.getD s.survey.rails (16 * d + r) {})
    (hst : st = if mv * 10000 < s.railReference d r * (10000 - 75 * (railNominal r).2) then 1
      else if s.railReference d r * (100 + (railNominal r).2) < mv * 100 then 2 else 0)
    (h : st = 0 ∨ st = c.state) :
    s.railJudge d r mv =
      if c.state = 0 then s
      else if ¬(s.railReference d r * (1000 - 5 * (railNominal r).2) ≤ mv * 1000 ∧ mv * 1000 ≤ s.railReference d r * (1000 + 5 * (railNominal r).2)) then
        { s with survey := { s.survey with rails := Tab.put s.survey.rails (16 * d + r) { c with inside := none } } }
      else match c.inside with
        | none => { s with survey := { s.survey with rails := Tab.put s.survey.rails (16 * d + r) { c with inside := some s.now } } }
        | some t =>
          if s.now < t + ms 10 then s
          else
            let u := State.surveyEvent (State.setReg { s with survey := { s.survey with rails := Tab.put s.survey.rails (16 * d + r) {} } } (0x2608 + d) 2
              (setBit (s.reg (0x2608 + d) 2) r false)) 0x0095 r d 3 mv
            if u.survey.rails.any (fun e => decide (e.2.state ≠ 0)) then u else u.clearErrorBit 2 := by
  subst hc hst
  unfold State.railJudge
  simp only [decide_eq_true_eq]
  rw [if_neg (by tauto)]
  simp only [Bool.not_eq_true', decide_eq_false_iff_not] <;> rfl

/-! ### Temperatures -/

/-- R658's judging of one limit with its hysteresis of 3 degrees. -/
def limitHeld (was : Bool) (thr v : Int) : Bool := if thr ≤ v then true else if v ≤ thr - 30 then false else was

/-- The events, the EMCY and the error register of a temperature leave the sensors' conditions as the judging put them. -/
theorem State.tempJudge_sensors (s : State) (d n : Nat) (v : Int) : ∃ c : Condition,
    (s.tempJudge d n v).survey.sensors = Tab.put s.survey.sensors (16 * d + n) c ∧
    c.state = ofBool (limitHeld (bit (Tab.getD s.survey.sensors (16 * d + n) {}).state 0) (10 * s.cfgI 0x2600 1) v) +
      2 * ofBool (limitHeld (bit (Tab.getD s.survey.sensors (16 * d + n) {}).state 1) (10 * s.junctionMax) v) := by
  have hevent : ∀ (t : State) a b c e f, (t.surveyEvent a b c e f).survey = t.survey := fun t a b c e f =>
    (State.surveyEvent_eff t a b c e f (Eff.refl 17593261891712 t) rfl).survey_eq
  have hclear : ∀ t : State, (t.clearErrorBit 3).survey = t.survey := fun t => (State.clearErrorBit_eff t 3 (Eff.refl 17593262940288 t) rfl).survey_eq
  have hemcy : ∀ t : State, ((t.errorBit 3).raiseEmcy 0x4200 Status.ok d 0 0).survey = t.survey := fun t =>
    (State.raiseEmcy_eff _ _ _ _ _ _ (State.errorBit_eff t 3 (Eff.refl 17593262940288 t) rfl) rfl).survey_eq
  unfold State.tempJudge
  extract_lets k c one warn lim st since survey s1 detail s2 s3 s4
  have h2 : s2.survey = s1.survey := by unfold s2; split <;> simp only [hevent]
  have h3 : s3.survey = s2.survey := by unfold s3; split <;> simp only [hevent, hemcy]
  have h4 : s4.survey = s3.survey := by unfold s4; split <;> simp only [hevent]
  refine ⟨{ c with state := st, since := since, raised := c.raised && lim }, ?_, rfl⟩
  split <;> simp only [hclear, h4, h3, h2] <;> rfl

theorem bit_twoFlags (a b : Bool) : bit (ofBool a + 2 * ofBool b) 0 = a ∧ bit (ofBool a + 2 * ofBool b) 1 = b := by
  cases a <;> cases b <;> decide

/-! ### Measurements -/

theorem Tab.find?_putAll {α : Type} (v : α) (c : Nat) (ps : List Nat) (t : Tab α) (h : c ∈ ps ∨ Tab.find? t c = some v) :
    Tab.find? (ps.foldl (fun t c => Tab.put t c v) t) c = some v := by
  induction ps generalizing t with
  | nil => simpa using h
  | cons p ps ih =>
    refine ih _ ?_
    rw [Tab.find?_put]
    rcases h with h | h
    · rcases List.mem_cons.1 h with rfl | h
      · exact .inr (if_pos rfl)
      · exact .inl h
    · exact .inr (by split <;> simp [h])

/-- A measurement asked for starts at once where its channel may, and waits otherwise. -/
theorem State.askPiezo_spec {s : State} {c : Nat} (hw : c ∉ s.survey.piezoWaiting) (hr : Tab.find? s.survey.piezoRunning c = none) :
    (State.piezoReady s c = false → c ∈ (s.askPiezo c).survey.piezoWaiting) ∧
    (State.piezoReady s c = true → Tab.find? (s.askPiezo c).survey.piezoRunning c = some s.now) := by
  have hask : s.askPiezo c = State.startCalibrations { s with survey := { s.survey with piezoWaiting := s.survey.piezoWaiting ++ [c] } } :=
    if_neg (by simp [hw, hr])
  have hready : ∀ x, State.piezoReady { s with survey := { s.survey with piezoWaiting := s.survey.piezoWaiting ++ [c] } } x = s.piezoReady x := fun _ => rfl
  rw [hask]
  constructor
  · intro h
    simp [State.startCalibrations, hready, h]
  · intro h
    refine Tab.find?_putAll s.now c _ _ (.inl ?_)
    simp [hready, h]

/-! ### Load events leave the entries and the memory -/

theorem State.reg_loadEvent (s : State) (a b c e h j k : Nat) (hk : k % 256 ≠ 0x12) : (s.loadEvent a b c e h).reg j k = s.reg j k := by
  have hevent : ∀ (t : State) a b c e f, (t.surveyEvent a b c e f).reg j k = t.reg j k := by
    intro t a b c e f
    unfold State.surveyEvent
    split
    · exact State.reg_event _ _ _ _ _ _ _ _ _ _ hk
    · rfl
  unfold State.loadEvent
  dsimp only
  split
  · rw [State.reg_event _ _ _ _ _ _ _ _ _ _ hk, hevent]
  · rw [hevent]

/-- A change of a lane's line state is reported or not: its entries and all that no event touches are as before. -/
theorem State.eff_loadEventUnless (p : Prop) [Decidable p] (s : State) (a b c e h : Nat) :
    Eff 17593261891712 s (if p then s else s.loadEvent a b c e h) := by
  split
  · exact Eff.refl _ s
  · exact State.loadEvent_eff s a b c e h (Eff.refl _ s) rfl

theorem State.reg_loadEventUnless (p : Prop) [Decidable p] (s : State) (a b c e h j k : Nat) (hk : k % 256 ≠ 0x12) :
    (if p then s else s.loadEvent a b c e h).reg j k = s.reg j k := by
  split
  · rfl
  · exact State.reg_loadEvent _ _ _ _ _ _ _ _ hk

/-- The second of a lane that works (R675): the three entries it shows. -/
theorem laneSurveySecond_spec {n idle edges gl : Nat} {s : State} (hn : n < s.laneCount) (hs : s.serving = true) (hm : s.laneMode n ≠ 0) :
    ∃ t : State, exec (.laneSurveySecond n idle edges gl) s = .next t ∧
    t.reg (0x2660 + n) 1 = (if idle = 0 then 1 else 2) ∧ t.reg (0x2660 + n) 2 = (if 20 * edges < 1000 * gl then 2 else 1) ∧
    (edges = 0 → t.reg (0x2660 + n) 3 = 0) ∧ t.free = s.free + 1 ∧ SameRings s t ∧ t.mem = s.mem := by
  have hx : exec (.laneSurveySecond n idle edges gl) s = execLaneSurveySecond n idle edges gl s := rfl
  rw [execLaneSurveySecond, if_neg (by simp [hs, hm]; omega)] at hx
  extract_lets i bias term pm s1 h s2 at hx
  refine ⟨_, hx, ?_⟩
  have hne : ∀ a b, a % 256 ≠ b % 256 → entryKey i a ≠ entryKey i b := fun a b hab => by unfold entryKey; omega
  have h1 : Eff 128 s s1 := State.count_eff _ _ _ _ (State.setReg_eff _ _ _ _ (State.setReg_eff _ _ _ _ (State.setReg_eff s _ _ _ (Eff.refl _ s) rfl) rfl) rfl) rfl
  have hr1 : s1.reg i 1 = bias ∧ s1.reg i 2 = term ∧ s1.reg i 3 = pm := by
    unfold s1 State.count
    refine ⟨?_, ?_, ?_⟩
    · rw [State.reg_setReg_of_ne _ _ _ _ _ _ (hne 6 1 (by decide)), State.reg_setReg_of_ne _ _ _ _ _ _ (hne 3 1 (by decide)),
        State.reg_setReg_of_ne _ _ _ _ _ _ (hne 2 1 (by decide)), State.reg_setReg_self]
    · rw [State.reg_setReg_of_ne _ _ _ _ _ _ (hne 6 2 (by decide)), State.reg_setReg_of_ne _ _ _ _ _ _ (hne 3 2 (by decide)), State.reg_setReg_self]
    · rw [State.reg_setReg_of_ne _ _ _ _ _ _ (hne 6 3 (by decide)), State.reg_setReg_self]
  have h2 : Eff 17593261891712 s1 s2 := State.eff_loadEventUnless _ _ _ _ _ _ _
  have hr2 : ∀ k, k % 256 ≠ 0x12 → s2.reg i k = s1.reg i k := fun k hk => State.reg_loadEventUnless _ _ _ _ _ _ _ _ _ hk
  have h3 := State.eff_loadEventUnless (s.reg i 2 = term) s2 (0x200 + n) (n / 8) 4 (term + 2 ^ 32 * pm) h
  have hr3 : ∀ k, k % 256 ≠ 0x12 → _ = s2.reg i k := fun k hk =>
    State.reg_loadEventUnless (s.reg i 2 = term) s2 (0x200 + n) (n / 8) 4 (term + 2 ^ 32 * pm) h i k hk
  generalize (if s.reg i 2 = term then s2 else s2.loadEvent (0x200 + n) (n / 8) 4 (term + 2 ^ 32 * pm) h) = t at h3 hr3 ⊢
  obtain ⟨hb, ht, hp⟩ := hr1
  refine ⟨?_, ?_, fun h0 => ?_, ?_, ⟨?_, ?_, ?_⟩, ?_⟩
  · exact ((hr3 1 (by decide)).trans (hr2 1 (by decide))).trans hb
  · exact ((hr3 2 (by decide)).trans (hr2 2 (by decide))).trans ht
  · exact (((hr3 3 (by decide)).trans (hr2 3 (by decide))).trans hp).trans (if_pos h0)
  · exact congrArg (· + 1) ((h3.free_eq.trans h2.free_eq).trans h1.free_eq)
  · exact (h3.active_eq.trans h2.active_eq).trans h1.active_eq
  · exact (h3.draft_eq.trans h2.draft_eq).trans h1.draft_eq
  · exact (h3.previous_eq.trans h2.previous_eq).trans h1.previous_eq
  · exact (h3.mem_eq.trans h2.mem_eq).trans h1.mem_eq

/-! ### The obligation -/

/-- Settles O42: the judgings of rails and temperatures by their conditions, the measurements by what starts them, the rest case by case. -/
theorem surveyReadings : Obligations.SurveyReadings := by
  unfold Obligations.SurveyReadings
  refine ⟨?_, ?_, ?_, ?_, ?_, ?_, ?_, ?_, ?_, fun req c v s => piezoRequest_turnedAway, ?_, fun req o v s => speakerRequest_turnedAway, ?_, ?_,
    fun c s => State.askPiezo_spec, ?_, ?_, ?_, ?_, ?_, ?_, ?_, ?_, ?_, ?_, ?_⟩
  · intro d r mv s hd hr hw hrail hold
    refine ⟨_, if_neg (by simp [hw]; omega), rfl, State.sameLiveBut_setLive _ _ _ _, ?_⟩
    have hlen : (if s.regBytes (0x2608 + d) 1 = [] then List.replicate 24 (0 : Byte) else s.regBytes (0x2608 + d) 1).length = 24 := by
      split
      · exact List.length_replicate
      · next hne => exact hold.resolve_left hne
    generalize hbs : (if s.regBytes (0x2608 + d) 1 = [] then List.replicate 24 (0 : Byte) else s.regBytes (0x2608 + d) 1) = bs at hlen
    rw [State.regBytes, State.setRegBytes, State.liveAt_setLive, if_pos rfl]
    exact slice_patch bs _ _ 2 (length_leBytes 2 mv) (by omega)
  · intro d r mv s h
    exact if_pos (by rcases h with h | h | h | h <;> simp [h])
  · intro d r mv k ref tol st c s hk hc href htol hst
    subst hk href htol
    refine ⟨State.railJudge_entered hc hst, fun h0 hs0 => ?_, fun hs0 hkept => ?_⟩
    · rw [State.railJudge_kept hc hst (.inl h0), if_pos hs0]
    · rw [State.railJudge_kept hc hst hkept, if_neg hs0]
      refine ⟨fun hfar => if_pos hfar, fun hlow hhigh => ?_⟩
      rw [if_neg (not_not.2 ⟨hlow, hhigh⟩)]
      refine ⟨fun hin => by rw [hin], fun t hin ht => ?_, fun t u hin ht hu => ?_⟩
      · rw [hin]
        exact if_pos ht
      · rw [hin, hu]
        exact if_neg (by omega)
  · intro d r c s u hc hu
    subst hc hu
    refine ⟨fun h0 hraised => ?_, fun h => ?_⟩
    · exact if_neg (by simp [h0, hraised])
    · exact if_pos (by rcases h with h | h <;> simp [h])
  · intro d n v s hd hn hw
    refine ⟨_, if_neg (by simp [hw]; omega), ?_, ?_, rfl⟩
    · have hne : entryKey (0x2608 + d) 3 ≠ entryKey (0x2608 + d) 4 := by unfold entryKey; omega
      simp [State.regI, State.setRegI, State.setRegBytes, State.liveAt_setLive, hne, Val.toInt]
    · intro j m hj
      simp only [List.mem_cons, List.not_mem_nil, or_false, not_or] at hj
      simp [State.setRegI, State.setRegBytes, State.liveAt_setLive, Ne.symm hj.1, Ne.symm hj.2]
  · intro d n v s h
    exact if_pos (by rcases h with h | h | h <;> simp [h])
  · intro d n v s
    obtain ⟨c, hsensors, hstate⟩ := s.tempJudge_sensors d n v
    refine ⟨?_, ?_, fun k hk => ?_⟩
    · rw [hsensors, Tab.getD_put, if_pos rfl, hstate, (bit_twoFlags _ _).1]
      rfl
    · rw [hsensors, Tab.getD_put, if_pos rfl, hstate, (bit_twoFlags _ _).2]
      rfl
    · rw [hsensors, Tab.getD_put, if_neg (Ne.symm hk)]
  · intro d n c s u hc hu
    subst hc hu
    refine ⟨fun h0 hraised => ?_, fun h => ?_⟩
    · exact if_neg (by simp [h0, hraised])
    · exact if_pos (by rcases h with h | h <;> simp [h])
  · intro req c s u hc h hu
    subst hu
    have hx := piezoRequest_admits req c 1 s hc (by decide) (by rwa [Nat.one_mul])
    rwa [Nat.one_mul] at hx
  · intro req o s u ho h hu
    subst hu
    have hx := speakerRequest_admits req o 1 s ho (by decide) (by rwa [Nat.one_mul])
    rw [Nat.one_mul] at hx
    refine ⟨fun hm => ?_, fun hm => ?_⟩
    · rw [hx, State.speakerWrite, if_pos ⟨rfl, hm⟩]
    · rw [hx, State.speakerWrite, if_neg (fun hh => hm hh.2)]
  · intro c s
    refine ⟨fun h1 h2 h3 => if_neg (by simp [h2, h3]; omega), fun h => if_pos ?_⟩
    rcases h with h | h | h <;> simp [h]
  · intro o s
    refine ⟨fun h1 h2 h3 h4 => if_neg (by simp [h2, h3, h4]; omega), fun h => if_pos ?_⟩
    rcases h with h | h | h | h <;> simp [h]
  · intro c s h
    exact if_pos (by rcases h with h | h <;> simp [h, Option.isSome_iff_ne_none])
  · intro c nf t0 st s t u hrun hst hu ht
    subst hst hu ht
    rw [exec_piezoMeasurement, execPiezoMeasurement, hrun]
  · intro c nf s hrun
    rw [exec_piezoMeasurement, execPiezoMeasurement, hrun]
  · intro c c0 tol
    refine ⟨fun h => if_pos h, fun h1 h2 => ?_, fun h1 h2 h3 => ?_, fun h1 h2 h3 => ?_⟩
    · rw [piezoState, if_neg (by omega), if_pos h2]
    · rw [piezoState, if_neg (by omega), if_neg (by omega), if_pos h3]
    · rw [piezoState, if_neg (by omega), if_neg (by omega), if_neg (by omega)]
  · intro z nom
    refine ⟨fun h => if_pos h, fun h1 h2 => ?_, fun h1 h2 h3 => ?_, fun h1 h2 h3 => ?_⟩
    · rw [speakerState, if_neg (by omega), if_pos h2]
    · rw [speakerState, if_neg (by omega), if_neg (by omega), if_pos h3]
    · rw [speakerState, if_neg (by omega), if_neg (by omega), if_neg (by omega)]
  · intro o z i st s t ho hs hcount hst ht
    subst hst ht
    refine if_neg ?_
    simp only [hs, List.contains_iff_mem, Bool.not_true, Bool.false_eq_true, false_or, not_or]
    exact ⟨by omega, fun hh => hcount.elim hh.1 hh.2⟩
  · intro o z i s h
    refine if_pos ?_
    rcases h with h | h | ⟨h1, h2⟩
    · exact .inl h
    · exact .inr (.inl (by simp [h]))
    · refine .inr (.inr ?_)
      rintro (⟨hm, hi⟩ | ⟨hm, hrun⟩)
      · exact h1.elim (fun hne => hne hm) (fun hlt => absurd hi (by omega))
      · exact h2.elim (fun hne => hne hm) (fun hout => hout (by simpa using hrun))
  · intro n idle edges gl s hn hs hm
    exact laneSurveySecond_spec hn hs hm
  · intro n idle edges gl s h
    exact if_pos (by rcases h with h | h | h <;> simp [h])
  · intro d ps s t u hd hop hstop hup hpow ht hu
    subst ht hu
    have hgate : ¬(s.dies ≤ d ∨ (!s.operational) = true ∨ s.health.stopped = true ∨ (!s.shellUp d) = true ∨
        (2 ≤ s.powerState ∧ (!s.exitRuns) = true)) := by
      rcases hpow with h | h <;> simp [hop, hstop, hup, h] <;> omega
    refine ⟨(if_neg hgate).trans (if_pos rfl), fun hout => (if_neg hgate).trans ?_, fun hin => (if_neg hgate).trans ?_⟩
    · exact (if_neg (by decide)).trans (if_neg (by simpa using hout))
    · exact (if_neg (by decide)).trans (if_pos (by simpa using hin))
  · intro d ps m s h
    exact if_pos (by rcases h with h | h | h | h | ⟨h, h'⟩ <;> simp [*])

end Sys2Proof.Machine
end

section
/-! PROOF of self-test and health (R679 to R682, R684, R685, R688, R689, R691, R692, with R136 and R187 at a succession). -/
set_option Elab.async false
namespace Sys2Proof.Machine

/-! ### Self-test -/

theorem selftestRun_turnedAway {req : Requester} {d : Nat} {s : State} (hd : d < 256) (h7 : 7 < d)
    (h : s.reaches req 0x2710 1 (leBytes 1 d) = true) :
    exec (.selftestRun req d) s = .next (s.turnedAway req 0x2710 1 (leBytes 1 d)) := by
  obtain ⟨o, hobj, hbase, hsub⟩ : ∃ o, objectAt 0x2710 = some (o, 0) ∧ o.base = 0x2710 ∧
      o.sub? 1 = some ⟨1, 1, "run", .u8, .wo, .live, .blank, .span 0 7, 0⟩ := ⟨_, rfl, rfl, rfl⟩
  have hx : ¬(d : Int) ≤ 7 := by omega
  rw [exec_selftestRun, execSelftestRun,
    State.submitNumber_outOfRange hobj hsub (by decide) (by rw [hbase]; decide) rfl rfl hd (by simp [SubEntry.inRange, hx]) h]

/-- What a slot records of its die (R682). -/
theorem State.slotRecord_spec (s : State) (d : Nat) (r : SlotResult) :
    (s.slotRecord d r).reg (0x2718 + d) 1 = (if internalFailed r = 0 then Status.ok else Status.hwFault) ∧
    (s.slotRecord d r).reg (0x2718 + d) 2 = r.failed % 4096 ∧ (s.slotRecord d r).reg (0x2718 + d) 3 = s.now := by
  have hne : ∀ {a b : Nat}, a % 256 ≠ b % 256 → ∀ (t : State) v, (t.setReg (0x2718 + d) a v).reg (0x2718 + d) b = t.reg (0x2718 + d) b :=
    fun hab t v => State.reg_setReg_of_ne _ _ _ _ _ _ (entryKey_inst_ne hab)
  unfold State.slotRecord
  refine ⟨?_, ?_, ?_⟩
  · rw [hne (by decide), hne (by decide), hne (by decide), hne (by decide), State.reg_setReg_self]
  · rw [hne (by decide), hne (by decide), hne (by decide), State.reg_setReg_self]
  · rw [hne (by decide), hne (by decide), State.reg_setReg_self]

/-- The request and slot state that a slot's abort leaves, before its event. -/
def State.slotCleared (s : State) : State :=
  let s1 := (((s.setReg 0x2710 2 0).setReg 0x2710 3 0xFF).setReg (0x2718 + s.reg 0x2710 3) 1 Status.aborted)
  { s1 with health := { s1.health with slot := none } }

theorem State.slotAborted_eq (s : State) :
    s.slotAborted = s.slotCleared.event 0 0x0099 (s.reg 0x2710 3) Status.aborted (s.reg 0x2710 3) 2 0 := rfl

theorem State.slotCleared_spec (s : State) :
    s.slotCleared.reg 0x2710 2 = 0 ∧ s.slotCleared.reg (0x2718 + s.reg 0x2710 3) 1 = Status.aborted ∧
    SameLiveBut s s.slotCleared [entryKey 0x2710 2, entryKey 0x2710 3, entryKey (0x2718 + s.reg 0x2710 3) 1] := by
  generalize hd : s.reg 0x2710 3 = d
  have hlive : ∀ j k, s.slotCleared.liveAt j k = (((s.setReg 0x2710 2 0).setReg 0x2710 3 0xFF).setReg (0x2718 + d) 1 Status.aborted).liveAt j k := by
    subst hd
    exact fun _ _ => rfl
  refine ⟨?_, ?_, fun j k hj => ?_⟩
  · refine (State.reg_of_liveAt (hlive 0x2710 2)).trans ?_
    refine (State.reg_setReg_of_ne _ _ _ _ _ _ (by unfold entryKey; omega)).trans ?_
    exact (State.reg_setReg_of_ne _ _ _ _ _ _ (by decide)).trans (State.reg_setReg_self _ _ _ _)
  · exact (State.reg_of_liveAt (hlive _ _)).trans (State.reg_setReg_self _ _ _ _)
  · simp only [List.mem_cons, List.not_mem_nil, or_false, not_or] at hj
    obtain ⟨h1, h2, h3⟩ := hj
    rw [hlive, State.setReg_eq, State.liveAt_setLive, if_neg (Ne.symm h3), State.setReg_eq, State.liveAt_setLive, if_neg (Ne.symm h2),
      State.setReg_eq, State.liveAt_setLive, if_neg (Ne.symm h1)]

/-! ### Causes of the health state -/

/-- The state that the first cause leaves before its EMCY and its event (R684, R685). -/
def State.firstCause (s : State) (c : Nat) : State :=
  (((((s.setReg 0x2700 2 (setBit (s.reg 0x2700 2) c true)).setReg 0x2700 1 1).setReg 0x2700 3 c).setReg 0x2700 4 s.now).driveSvc).errorBit 7

theorem State.reg_firstCause (s : State) (c : Nat) :
    (s.firstCause c).reg 0x2700 1 = 1 ∧ (s.firstCause c).reg 0x2700 2 = setBit (s.reg 0x2700 2) c true ∧
    (s.firstCause c).reg 0x2700 3 = c ∧ (s.firstCause c).reg 0x2700 4 = s.now ∧ (s.firstCause c).pins.svcReqLow = true := by
  have hskip : ∀ k, k ≠ 5 → k < 256 → (s.firstCause c).reg 0x2700 k =
      ((((s.setReg 0x2700 2 (setBit (s.reg 0x2700 2) c true)).setReg 0x2700 1 1).setReg 0x2700 3 c).setReg 0x2700 4 s.now).reg 0x2700 k := by
    intro k h5 hk
    refine (State.reg_setReg_of_ne _ _ _ _ _ _ (by unfold entryKey; omega)).trans ?_
    exact (State.reg_setReg_of_ne _ _ _ _ _ _ (entryKey_inst_ne (by omega))).trans rfl
  have hne : ∀ {a b : Nat}, a % 256 ≠ b % 256 → ∀ (t : State) v, (t.setReg 0x2700 a v).reg 0x2700 b = t.reg 0x2700 b :=
    fun hab t v => State.reg_setReg_of_ne _ _ _ _ _ _ (entryKey_inst_ne hab)
  refine ⟨?_, ?_, ?_, ?_, rfl⟩
  · rw [hskip 1 (by decide) (by decide), hne (by decide), hne (by decide), State.reg_setReg_self]
  · rw [hskip 2 (by decide) (by decide), hne (by decide), hne (by decide), hne (by decide), State.reg_setReg_self]
  · rw [hskip 3 (by decide) (by decide), hne (by decide), State.reg_setReg_self]
  · rw [hskip 4 (by decide) (by decide), State.reg_setReg_self]

/-- The replacement request's EMCY kept for its repeats, with the first of them due (R161). -/
def State.repeatPlanned (s : State) : State :=
  { s with mcan := { s.mcan with
    firstRequest := s.mcan.replacement
    repeatDue := if s.cfg 0x1F10 0xA = 0 then none else some (s.now + sec (s.cfg 0x1F10 0xA)) } }

/-- The EMCY and the events of the first cause leave the health entries and the pins. -/
theorem State.cause_first {s : State} (c die cls r : Nat) (h : s.healthState = 0) :
    (∀ k, k % 256 ≠ 0x12 → k < 256 → (s.cause c die cls r).reg 0x2700 k = (s.firstCause c).reg 0x2700 k) ∧
    (s.cause c die cls r).pins = (s.firstCause c).pins := by
  have hcause : s.cause c die cls r = State.eventAll (State.repeatPlanned ((s.firstCause c).raiseEmcy 0xFF01 Status.degraded die cls r))
      0x0098 (healthDie die) Status.degraded die c (1 + 256 * cls + 65536 * r) :=
    (if_neg (by omega)).trans (if_pos h)
  rw [hcause]
  constructor
  · intro k hk hlt
    rw [State.reg_eventAll _ _ _ _ _ _ _ _ _ hk]
    exact State.reg_raiseEmcy _ _ _ _ _ _ _ _ hk (by unfold entryKey; omega)
  · refine (State.eventAll_eff _ _ _ _ _ _ _ (Eff.refl 17593262940288 _) rfl).pins_eq.trans ?_
    exact (State.raiseEmcy_eff (s.firstCause c) _ _ _ _ _ (Eff.refl 17593262940288 _) rfl).pins_eq

/-! ### The obligation -/

/-- Settles O43: the self-test's request by R680's order, its end and abort by their records, the first cause by what it leaves. -/
theorem selfTestAndHealth : Obligations.SelfTestAndHealth := by
  unfold Obligations.SelfTestAndHealth
  refine ⟨fun req d s => selftestRun_turnedAway, ?_, ?_, ?_, ?_, ?_, ?_, ?_, ?_, ?_, ?_, ?_, ?_, ?_, ?_, ?_, ?_, ?_, ?_⟩
  · intro req d s u hd h hu
    subst hu
    rw [selftestRun_admits req d s (by omega) h]
    generalize s.admitted req 10000 1 (leBytes 1 d) = u
    rw [State.selftestWrite, if_neg (by omega)]
    refine ⟨fun h1 => ?_, fun h1 h2 => ?_, fun h1 htrunk hfirst hfailed hup => ⟨fun h2 => ?_, fun hidle hpow hentry hexit hdie => ?_⟩⟩
    · rw [if_pos h1]
    · rw [if_neg (by omega), if_pos (by simpa using h2)]
    · rw [if_neg (by omega), if_neg (by simp [htrunk, hfailed, hup]; simpa using hfirst), if_pos (by simpa using h2)]
    · rw [if_neg (by omega), if_neg (by simp [htrunk, hfailed, hup]; simpa using hfirst), if_neg (by simp [hidle, hentry, hexit, hdie]; omega)]
      refine ⟨_, rfl, ?_, ?_, rfl, rfl, fun j k hj => ?_⟩
      · exact (State.reg_setReg_of_ne _ _ _ _ _ _ (by decide)).trans (State.reg_setReg_self _ _ _ _)
      · exact State.reg_setReg_self _ _ _ _
      · simp only [List.mem_cons, List.not_mem_nil, or_false, not_or] at hj
        rw [State.setReg_eq, State.liveAt_setLive, if_neg (Ne.symm hj.2), State.setReg_eq, State.liveAt_setLive, if_neg (Ne.symm hj.1)]
        rfl
  · intro r d s u v hs h2 hd hu hv
    obtain ⟨hr1, hr2, hr3⟩ := s.slotRecord_spec d r
    refine ⟨?_, hr1, hr2, hr3, fun _ => rfl⟩
    subst hd hu hv
    refine (if_neg (by simp [hs, h2])).trans ?_
    simp only [decide_eq_true_eq, ne_eq, ite_not]
    rfl
  · intro r s h
    exact if_pos (by rcases h with h | h <;> simp [h])
  · intro t s hslot hst
    rw [exec_deferLimitExpiry, execDeferLimitExpiry, hslot]
    exact if_pos hst
  · intro s h
    rw [exec_deferLimitExpiry, execDeferLimitExpiry]
    rcases h with h | h
    · rw [h]
    · cases s.health.slot with
      | none => rfl
      | some t => exact if_neg h
  · intro s
    obtain ⟨h1, h2, h3⟩ := s.slotCleared_spec
    exact ⟨s.slotCleared, s.slotAborted_eq, h1, rfl, h2, rfl, h3⟩
  · intro d s h
    exact if_pos h
  · intro d s h
    exact ⟨if_pos h, if_pos h⟩
  · intro d c report s h
    exact if_pos h
  · intro d c cls report s h
    exact if_pos h
  · intro d s h
    have hw : ¬s.watched d = true := by simp [h]
    exact ⟨if_neg hw, if_neg hw, if_neg hw⟩
  · intro s c die cls r h
    obtain ⟨hreg, hpins⟩ := State.cause_first c die cls r h
    obtain ⟨h1, h2, h3, h4, h5⟩ := s.reg_firstCause c
    refine ⟨(hreg 1 (by decide) (by decide)).trans h1, ?_, (hreg 3 (by decide) (by decide)).trans h3, (hreg 4 (by decide) (by decide)).trans h4, ?_⟩
    · rw [hreg 2 (by decide) (by decide), h2, bit_setBit_eq, if_pos rfl]
    · rw [hpins, h5]
  · intro s c die cls r h
    exact (if_neg (by omega)).trans (if_neg (by omega))
  · intro s c die cls r h
    exact if_pos h
  · intro d l s u hop hstop hd hl hne hfailed hlend hu
    subst hl hu
    refine (if_neg ?_).trans rfl
    simp [hop, hstop, hfailed, hlend, hne]
    omega
  · intro d s h
    exact if_pos (by rcases h with h | h | h | h | h | h <;> simp [h])
  · intro s t u w hsucc ht hu hw
    subst ht hu hw
    exact if_neg (by simp [hsucc])
  · intro s h
    exact if_pos (by simp [h])

end Sys2Proof.Machine
end

section
/-! PROOF of a head's link (R273, R274, R287 to R294, R301, R307, R310). -/
set_option Elab.async false
namespace Sys2Proof.Machine

/-! ### A head's entries -/

theorem entryKey_head_ne {o o' k k' : Nat} (h : Nat) (hk : o * 256 + k ≠ o' * 256 + k') : entryKey (o + 256 * h) k ≠ entryKey (o' + 256 * h) k' := by
  unfold entryKey
  intro he
  exact hk (by linarith)

theorem State.hreg_setH (s : State) (o h k v : Nat) : (s.setH o h k v).hreg o h k = v := State.reg_setReg_self _ _ _ _

theorem State.hreg_setH_of_ne (s : State) {o o' k k' : Nat} (h v : Nat) (hk : o * 256 + k ≠ o' * 256 + k') :
    (s.setH o h k v).hreg o' h k' = s.hreg o' h k' := State.reg_setReg_of_ne _ _ _ _ _ _ (entryKey_head_ne h hk)

theorem State.hreg_incH_of_ne (s : State) {o o' k k' : Nat} (h : Nat) (hk : o * 256 + k ≠ o' * 256 + k') :
    (s.incH o h k).hreg o' h k' = s.hreg o' h k' := State.hreg_setH_of_ne _ _ _ hk

theorem State.hreg_setRegBytes_of_ne (s : State) {o o' k k' : Nat} (h : Nat) (bs : List Byte) (hk : o * 256 + k ≠ o' * 256 + k') :
    (s.setRegBytes (o + 256 * h) k bs).hreg o' h k' = s.hreg o' h k' :=
  State.reg_of_liveAt (by rw [State.setRegBytes, State.liveAt_setLive, if_neg (entryKey_head_ne h hk)])

theorem State.hreg_modHead (s : State) (g : Nat) (f : Head → Head) (o h k : Nat) : (s.modHead g f).hreg o h k = s.hreg o h k := rfl

theorem State.hreg_linkEvent (s : State) (g r o h k : Nat) (hk : k % 256 ≠ 0x12) : (s.linkEvent g r).hreg o h k = s.hreg o h k :=
  State.reg_event _ _ _ _ _ _ _ _ _ _ hk

theorem State.regBytes_setRegBytes (s : State) (i k : Nat) (bs : List Byte) : (s.setRegBytes i k bs).regBytes i k = bs := by
  rw [State.regBytes, State.setRegBytes, State.liveAt_setLive, if_pos rfl]
  rfl

theorem State.regBytes_of_liveAt {s t : State} {i k : Nat} (h : t.liveAt i k = s.liveAt i k) : t.regBytes i k = s.regBytes i k := by
  rw [State.regBytes, h, State.regBytes]

theorem State.regBytes_setRegBytes_of_ne (s : State) {i j k m : Nat} (bs : List Byte) (h : entryKey i k ≠ entryKey j m) :
    (s.setRegBytes i k bs).regBytes j m = s.regBytes j m :=
  State.regBytes_of_liveAt (by rw [State.setRegBytes, State.liveAt_setLive, if_neg h])

theorem State.regBytes_setH_of_ne (s : State) {o o' k k' : Nat} (h v : Nat) (hk : o * 256 + k ≠ o' * 256 + k') :
    (s.setH o h k v).regBytes (o' + 256 * h) k' = s.regBytes (o' + 256 * h) k' :=
  State.regBytes_of_liveAt (by rw [State.setH, State.setReg_eq, State.liveAt_setLive, if_neg (entryKey_head_ne h hk)])

theorem State.regBytes_linkEvent (s : State) (g r i k : Nat) (hk : k % 256 ≠ 0x12) : (s.linkEvent g r).regBytes i k = s.regBytes i k :=
  State.regBytes_of_liveAt (State.liveAt_event _ _ _ _ _ _ _ _ _ _ hk)

/-! ### The link's state -/

theorem State.linkState_linkEnter (s : State) (h st : Nat) : (s.linkEnter h st).linkState h = st := by
  unfold State.linkEnter State.linkState
  dsimp only
  split
  · next heq => exact (State.hreg_setH_of_ne _ _ _ (by decide)).trans heq
  · rw [State.hreg_setH_of_ne _ _ _ (by decide), State.hreg_setH]

/-- Entering a link state writes that state, its time and the mode's state alone. -/
theorem State.hreg_linkEnter (s : State) (h st o k : Nat) (h9 : 0x3004 * 256 + 9 ≠ o * 256 + k) (h1 : 0x3002 * 256 + 1 ≠ o * 256 + k)
    (h13 : 0x3002 * 256 + 13 ≠ o * 256 + k) : (s.linkEnter h st).hreg o h k = s.hreg o h k := by
  unfold State.linkEnter
  dsimp only
  split
  · exact State.hreg_setH_of_ne _ _ _ h9
  · rw [State.hreg_setH_of_ne _ _ _ h13, State.hreg_setH_of_ne _ _ _ h1, State.hreg_setH_of_ne _ _ _ h9]

theorem State.linkEnter_eq_live (s : State) (h st : Nat) : s.linkEnter h st = { s with live := (s.linkEnter h st).live } := by
  unfold State.linkEnter
  dsimp only
  split <;> rfl

theorem State.head_linkEnter (s : State) (h st g : Nat) : (s.linkEnter h st).head g = s.head g := by
  rw [State.linkEnter_eq_live]
  rfl

theorem State.head_linkEvent (s : State) (h r g : Nat) : (s.linkEvent h r).head g = s.head g :=
  congrArg (fun t => Tab.getD t g ({} : Head)) (State.linkEvent_eff s h r (Eff.refl 17593261891712 s) rfl).heads_eq

/-! ### What the generator and the mode leave of a head -/

/-- What training keeps of a head. -/
def Head.linkPart (x : Head) : Option LinkConfig × Bool × Bool × List LinkConfig × Option LinkConfig × Nat × Option SinkData :=
  (x.link, x.lit, x.idlePattern, x.candidates, x.firstCand, x.attempt, x.sink)

/-- The link part and the preference of every head are as before. -/
def State.SameLinks (s t : State) : Prop := ∀ g, (t.head g).linkPart = (s.head g).linkPart ∧ (t.head g).preferred = (s.head g).preferred

theorem State.SameLinks.refl (s : State) : s.SameLinks s := fun _ => ⟨rfl, rfl⟩

theorem State.SameLinks.trans {s t u : State} (h1 : s.SameLinks t) (h2 : t.SameLinks u) : s.SameLinks u :=
  fun g => ⟨(h2 g).1.trans (h1 g).1, (h2 g).2.trans (h1 g).2⟩

theorem State.SameLinks.modHead {s t : State} (h : s.SameLinks t) (g : Nat) {f : Head → Head} (hf : ∀ x, (f x).linkPart = x.linkPart ∧ (f x).preferred = x.preferred) :
    s.SameLinks (t.modHead g f) := by
  refine h.trans fun k => ?_
  rw [State.head_modHead]
  split
  · next hg => exact hg ▸ hf _
  · exact ⟨rfl, rfl⟩

theorem State.SameLinks.of_heads {s t u : State} (h : s.SameLinks t) (hu : u.heads = t.heads) : s.SameLinks u := by
  intro g
  have : u.head g = t.head g := congrArg (fun x => Tab.getD x g ({} : Head)) hu
  rw [this]
  exact h g

theorem State.sameLinks_haltGenerator (s : State) (h : Nat) : s.SameLinks (s.haltGenerator h) := by
  unfold State.haltGenerator
  dsimp only
  refine State.each_keeps (P := s.SameLinks) _ _ (fun t g ht => ?_) _ ?_
  · refine State.SameLinks.modHead (State.SameLinks.of_heads ht ?_) _ ?_
    · rfl
    · exact fun _ => ⟨rfl, rfl⟩
  · refine (State.SameLinks.refl s).modHead _ ?_
    exact fun _ => ⟨rfl, rfl⟩

theorem State.sameLinks_stopGenerator (s : State) (h : Nat) : s.SameLinks (s.stopGenerator h) := by
  unfold State.stopGenerator
  split
  · exact State.SameLinks.refl s
  · exact s.sameLinks_haltGenerator h

theorem State.hreg_stopGenerator (s : State) (g o h k : Nat) : (s.stopGenerator g).hreg o h k = s.hreg o h k := by
  unfold State.stopGenerator
  split
  · rfl
  · exact State.reg_of_eff (State.haltGenerator_eff s g (Eff.refl 6442450944 s) rfl) rfl rfl rfl (o + 256 * h) k

theorem State.sameLinks_relimit (s : State) (h : Nat) : s.SameLinks (s.relimit h) := by
  unfold State.relimit
  dsimp only
  refine State.each_keeps (P := s.SameLinks) _ _ (fun t g ht => ?_) _ (State.SameLinks.refl s)
  refine State.SameLinks.modHead (State.SameLinks.of_heads ht ?_) _ ?_
  · rfl
  · exact fun _ => ⟨rfl, rfl⟩

/-- A mode taken up leaves the links; the preference of its head is as asked. -/
theorem State.adoptMode_links (s : State) (h : Nat) (m : HeadMode) (p : Bool) :
    (∀ g, ((s.adoptMode h m p).head g).linkPart = (s.head g).linkPart) ∧ ((s.adoptMode h m p).head h).preferred = p := by
  have hpart : ∀ (t : State) (f : Head → Head), (∀ x, (f x).linkPart = x.linkPart) → ∀ j g, ((t.modHead j f).head g).linkPart = (t.head g).linkPart := by
    intro t f hf j g
    rw [State.head_modHead]
    split
    · next hg => exact hg ▸ hf _
    · rfl
  unfold State.adoptMode
  dsimp only
  split
  · refine ⟨fun g => ?_, ?_⟩
    · refine (hpart _ _ ?_ _ g).trans (hpart s _ ?_ _ g)
      · exact fun _ => rfl
      · exact fun _ => rfl
    · rw [State.head_modHead, if_pos rfl]
  · unfold State.setMode
    refine ⟨fun g => ?_, ?_⟩
    · refine (State.sameLinks_relimit _ h g).1.trans ((hpart _ _ ?_ _ g).trans (hpart s _ ?_ _ g))
      · exact fun _ => rfl
      · exact fun _ => rfl
    · rw [(State.sameLinks_relimit _ h h).2, State.head_modHead, if_pos rfl]

theorem State.head_modeEvent (s : State) (h r g : Nat) : (s.modeEvent h r).head g = s.head g :=
  congrArg (fun t => Tab.getD t g ({} : Head)) (State.modeEvent_eff s h r (Eff.refl 17593261891712 s) rfl).heads_eq

theorem State.takeMode_links (s : State) (h : Nat) (m : HeadMode) (p : Bool) :
    (∀ g, ((s.takeMode h m p).head g).linkPart = (s.head g).linkPart) ∧ ((s.takeMode h m p).head h).preferred = p := by
  have hhead : ∀ g, (s.takeMode h m p).head g = (s.adoptMode h m p).head g := by
    intro g
    unfold State.takeMode State.fixedEvent
    dsimp only
    split
    · rfl
    · split
      · exact State.head_modeEvent _ _ _ _
      · rfl
  simp only [hhead]
  exact s.adoptMode_links h m p

theorem State.linkState_refreshFetch (s : State) (d h : Nat) : (s.refreshFetch d).linkState h = s.linkState h := by
  unfold State.refreshFetch
  dsimp only
  have hne : ∀ (t : State) {i k v : Nat}, i % 256 ≠ 2 ∧ k < 256 ∨ k % 256 ≠ 1 → (t.setReg i k v).linkState h = t.linkState h := fun t _ _ _ hk =>
    State.reg_setReg_of_ne _ _ _ _ _ _ (by unfold entryKey; omega)
  refine State.each_keeps (P := fun t => t.linkState h = s.linkState h) _ _ (fun t g ht => ?_) _ ?_
  · have h3 : ((((t.setReg (0x300A + 256 * g) 1 (t.headFetch g (t.modeOf g))).setReg (0x300A + 256 * g) 2 (t.dieFetch (t.composingDie g))).setReg
        (0x300A + 256 * g) 3 (ofBool (decide (25600 < t.dieFetch (t.composingDie g)))))).linkState h = s.linkState h := by
      rw [hne _ (.inl (by omega)), hne _ (.inl (by omega)), hne _ (.inl (by omega)), ht]
    split
    · rw [hne _ (.inr (by decide)), h3]
    · exact h3
  · exact State.each_keeps (P := fun t => t.linkState h = s.linkState h) _ _ (fun t l ht => (hne _ (.inr (by decide))).trans ht) _ rfl

theorem State.linkState_afterMode (s : State) (g : Nat) (old : HeadMode) (b : Bool) (h : Nat) : (s.afterMode g old b).linkState h = s.linkState h := by
  unfold State.afterMode
  refine (State.linkState_refreshFetch _ _ _).trans ?_
  have hset : (s.setH 0x3004 g 8 (s.clippedNow g)).linkState h = s.linkState h :=
    State.reg_setReg_of_ne _ _ _ _ _ _ (by unfold entryKey; omega)
  unfold State.clipAfterMode
  dsimp only
  split
  · exact hset
  · exact (State.reg_event _ _ _ _ _ _ _ _ _ _ (by decide)).trans hset

theorem State.linkState_afterModes (s old : State) (g h : Nat) : (s.afterModes old g).linkState h = s.linkState h := by
  unfold State.afterModes
  refine State.each_keeps (P := fun t => t.linkState h = s.linkState h) _ _ (fun t k ht => ?_) _ rfl
  split
  · exact ht
  · exact (State.linkState_afterMode _ _ _ _ _).trans ht

theorem State.head_afterModes (s old : State) (h g : Nat) : (s.afterModes old h).head g = s.head g :=
  congrArg (fun t => Tab.getD t g ({} : Head)) (State.afterModes_eff s old h (Eff.refl 17601851826304 s) rfl).heads_eq

theorem State.head_afterMode (s : State) (h : Nat) (old : HeadMode) (b : Bool) (g : Nat) : (s.afterMode h old b).head g = s.head g :=
  congrArg (fun t => Tab.getD t g ({} : Head)) (State.afterMode_eff s h old b (Eff.refl 17601851826304 s) rfl).heads_eq

/-! ### Training's steps -/

theorem State.linkDown_spec (s : State) (h st r : Nat) :
    (s.linkDown h st r).linkState h = st ∧ (s.linkDown h st r).hreg 0x3002 h 2 = 0xFF ∧ (s.linkDown h st r).hreg 0x3002 h 3 = 0 ∧
    ((s.linkDown h st r).head h).link = none ∧ ((s.linkDown h st r).head h).lit = false := by
  have hreg : ∀ k, k % 256 ≠ 0x12 → (s.linkDown h st r).hreg 0x3002 h k = (((s.linkEnter h st).setH 0x3002 h 2 0xFF).setH 0x3002 h 3 0).hreg 0x3002 h k := by
    intro k hk
    unfold State.linkDown
    exact (State.hreg_stopGenerator _ _ _ _ _).trans (State.hreg_linkEvent _ _ _ _ _ _ hk)
  have hpart : ((s.linkDown h st r).head h).linkPart = (none, false, false, (s.head h).candidates, (s.head h).firstCand, (s.head h).attempt, (s.head h).sink) := by
    unfold State.linkDown
    have hhead : (((s.linkEnter h st).setH 0x3002 h 2 0xFF).setH 0x3002 h 3 0).head h = s.head h := State.head_linkEnter s h st h
    rw [(State.sameLinks_stopGenerator _ h h).1, State.head_linkEvent, State.head_modHead, if_pos rfl, hhead]
    rfl
  refine ⟨?_, ?_, ?_, congrArg (·.1) hpart, congrArg (·.2.1) hpart⟩
  · rw [State.linkState, hreg 1 (by decide), State.hreg_setH_of_ne _ _ _ (by decide), State.hreg_setH_of_ne _ _ _ (by decide)]
    exact State.linkState_linkEnter s h st
  · rw [hreg 2 (by decide), State.hreg_setH_of_ne _ _ _ (by decide), State.hreg_setH]
  · rw [hreg 3 (by decide), State.hreg_setH]

theorem State.startTraining_spec (s : State) (h : Nat) (cs : List LinkConfig) (first : Option LinkConfig) :
    ((s.startTraining h cs first).head h).candidates = cs ∧ ((s.startTraining h cs first).head h).attempt = 0 ∧
    ((s.startTraining h cs first).head h).firstCand = first ∧ s.startTraining h cs first = { s with heads := (s.startTraining h cs first).heads } ∧
    (((s.startTraining h cs first).head h).spread = true ↔
      s.use (0x3001 + 256 * h) 3 = 1 ∧ ∃ k, (s.head h).sink = some k ∧ bit (k.dpcd.getD 3 0).toNat 0 = true) ∧
    ((s.startTraining h cs first).head h).idlePattern = (s.head h).idlePattern ∧
    ((s.startTraining h cs first).head h).preferred = (s.head h).preferred := by
  obtain ⟨spread, hspread⟩ : ∃ b : Bool, b = (decide (s.use (0x3001 + 256 * h) 3 = 1) && (match (s.head h).sink with
    | none => false
    | some k => bit ((k.dpcd.getD 3 0).toNat) 0)) := ⟨_, rfl⟩
  have hhead : (s.startTraining h cs first).head h = { s.head h with
      candidates := cs, attempt := 0, firstCand := first, spread := spread, drive := (Config.startLevels (s.hreg 0x3002 h 4)).1 % 4
      preEmphasis := (Config.startLevels (s.hreg 0x3002 h 4)).2 % 4, ffe := 0 } := by
    rw [hspread]
    exact (State.head_modHead s h h _).trans (if_pos rfl)
  rw [hhead]
  refine ⟨rfl, rfl, rfl, rfl, ?_, rfl, rfl⟩
  subst hspread
  cases hk : (s.head h).sink with
  | none => simp
  | some k => simp

theorem State.enterRetraining_spec (s : State) (h : Nat) (cs : List LinkConfig) (first : Option LinkConfig) :
    (s.enterRetraining h cs first).linkState h = 7 ∧ ((s.enterRetraining h cs first).head h).candidates = cs ∧
    ((s.enterRetraining h cs first).head h).firstCand = first ∧ ((s.enterRetraining h cs first).head h).attempt = 0 ∧
    ((s.enterRetraining h cs first).head h).idlePattern = true ∧ ((s.enterRetraining h cs first).head h).link = none ∧
    (s.enterRetraining h cs first).hreg 0x3002 h 2 = 0xFF := by
  obtain ⟨s2, hs2⟩ : ∃ s2, s2 = (((s.linkEnter h 7).incH 0x3002 h 7).setH 0x3002 h 2 0xFF).setH 0x3002 h 3 0 := ⟨_, rfl⟩
  obtain ⟨h1, h2, h3, h4, -⟩ := s2.startTraining_spec h cs first
  have heq : s.enterRetraining h cs first = (((s2.startTraining h cs first).modHead h
      (fun x => { x with link := none, idlePattern := true, lit := false })).linkEvent h 3).stopGenerator h := by
    rw [hs2]
    rfl
  have hreg : ∀ k, k % 256 ≠ 0x12 → (s.enterRetraining h cs first).hreg 0x3002 h k = s2.hreg 0x3002 h k := by
    intro k hk
    rw [heq, State.hreg_stopGenerator, State.hreg_linkEvent _ _ _ _ _ _ hk, State.hreg_modHead, h4]
    rfl
  have hpart : ((s.enterRetraining h cs first).head h).linkPart = (none, false, true, cs, first, 0, ((s2.startTraining h cs first).head h).sink) := by
    rw [heq, (State.sameLinks_stopGenerator _ h h).1, State.head_linkEvent, State.head_modHead, if_pos rfl]
    simp only [Head.linkPart, h1, h2, h3]
  refine ⟨?_, congrArg (·.2.2.2.1) hpart, congrArg (·.2.2.2.2.1) hpart, congrArg (·.2.2.2.2.2.1) hpart, congrArg (·.2.2.1) hpart, congrArg (·.1) hpart, ?_⟩
  · rw [State.linkState, hreg 1 (by decide), hs2, State.hreg_setH_of_ne _ _ _ (by decide), State.hreg_setH_of_ne _ _ _ (by decide),
      State.hreg_incH_of_ne _ _ (by decide)]
    exact State.linkState_linkEnter s h 7
  · rw [hreg 2 (by decide), hs2, State.hreg_setH_of_ne _ _ _ (by decide), State.hreg_setH]

/-- A head whose sink's entries are forgotten (R290), before the event and the cable's length. -/
def State.sinkCleared (s : State) (h : Nat) : State :=
  let s0 := (s.setH 0x3002 h 5 0).modHead h (fun x => { x with debounce := none, connected := false, sink := none })
  let s1 := ((s0.setRegBytes (0x3003 + 256 * h) 1 []).setRegBytes (0x3003 + 256 * h) 2 []).setRegBytes (0x3003 + 256 * h) 3 []
  (((s1.setH 0x3002 h 2 0xFF).setH 0x3002 h 3 0).setH 0x3002 h 11 0).setH 0x3002 h 12 0

theorem State.sinkGone_eq (s : State) (h : Nat) :
    s.sinkGone h = (if (s.head h).connected then (s.sinkCleared h).linkEvent h 4 else s.sinkCleared h).setH 0x3002 h 4 0xFFFF := rfl

theorem State.hreg_sinkCleared (s : State) (h : Nat) :
    (s.sinkCleared h).hreg 0x3002 h 5 = 0 ∧ (s.sinkCleared h).hreg 0x3002 h 2 = 0xFF ∧ (s.sinkCleared h).hreg 0x3002 h 3 = 0 ∧
    (s.sinkCleared h).hreg 0x3002 h 11 = 0 ∧ (s.sinkCleared h).hreg 0x3002 h 12 = 0 := by
  unfold State.sinkCleared
  refine ⟨?_, ?_, ?_, ?_, State.hreg_setH _ _ _ _ _⟩
  · rw [State.hreg_setH_of_ne _ _ _ (by decide), State.hreg_setH_of_ne _ _ _ (by decide), State.hreg_setH_of_ne _ _ _ (by decide),
      State.hreg_setH_of_ne _ _ _ (by decide), State.hreg_setRegBytes_of_ne _ _ _ (by decide), State.hreg_setRegBytes_of_ne _ _ _ (by decide),
      State.hreg_setRegBytes_of_ne _ _ _ (by decide), State.hreg_modHead, State.hreg_setH]
  · rw [State.hreg_setH_of_ne _ _ _ (by decide), State.hreg_setH_of_ne _ _ _ (by decide), State.hreg_setH_of_ne _ _ _ (by decide), State.hreg_setH]
  · rw [State.hreg_setH_of_ne _ _ _ (by decide), State.hreg_setH_of_ne _ _ _ (by decide), State.hreg_setH]
  · rw [State.hreg_setH_of_ne _ _ _ (by decide), State.hreg_setH]

theorem State.regBytes_sinkCleared (s : State) (h : Nat) :
    (s.sinkCleared h).regBytes (0x3003 + 256 * h) 1 = [] ∧ (s.sinkCleared h).regBytes (0x3003 + 256 * h) 2 = [] ∧
    (s.sinkCleared h).regBytes (0x3003 + 256 * h) 3 = [] := by
  have hset : ∀ (t : State) (k v m : Nat), k < 256 ∧ m < 256 →
      (t.setH 0x3002 h k v).regBytes (0x3003 + 256 * h) m = t.regBytes (0x3003 + 256 * h) m :=
    fun t k v m hk => State.regBytes_setH_of_ne t h v (by omega)
  have hbytes : ∀ (t : State) (k m : Nat), k % 256 ≠ m % 256 →
      (t.setRegBytes (0x3003 + 256 * h) k []).regBytes (0x3003 + 256 * h) m = t.regBytes (0x3003 + 256 * h) m :=
    fun t k m hk => State.regBytes_setRegBytes_of_ne _ _ (entryKey_inst_ne hk)
  unfold State.sinkCleared
  refine ⟨?_, ?_, ?_⟩
  · rw [hset _ _ _ _ (by decide), hset _ _ _ _ (by decide),
      hset _ _ _ _ (by decide), hset _ _ _ _ (by decide),
      hbytes _ _ _ (by decide), hbytes _ _ _ (by decide), State.regBytes_setRegBytes]
  · rw [hset _ _ _ _ (by decide), hset _ _ _ _ (by decide),
      hset _ _ _ _ (by decide), hset _ _ _ _ (by decide),
      hbytes _ _ _ (by decide), State.regBytes_setRegBytes]
  · rw [hset _ _ _ _ (by decide), hset _ _ _ _ (by decide),
      hset _ _ _ _ (by decide), hset _ _ _ _ (by decide),
      State.regBytes_setRegBytes]

theorem State.head_sinkCleared (s : State) (h : Nat) : (s.sinkCleared h).head h = { s.head h with debounce := none, connected := false, sink := none } := by
  have hset : ∀ (t : State) (o k v : Nat), (t.setH o h k v).head h = t.head h := fun _ _ _ _ => rfl
  have hbytes : ∀ (t : State) (i k : Nat) (bs : List Byte), (t.setRegBytes i k bs).head h = t.head h := fun _ _ _ _ => rfl
  unfold State.sinkCleared
  rw [hset, hset, hset, hset, hbytes, hbytes, hbytes, State.head_modHead, if_pos rfl, hset]

theorem State.sinkGone_spec (s : State) (h : Nat) :
    ((s.sinkGone h).head h).sink = none ∧ ((s.sinkGone h).head h).connected = false ∧ ((s.sinkGone h).head h).debounce = none ∧
    (s.sinkGone h).hreg 0x3002 h 5 = 0 ∧ (s.sinkGone h).hreg 0x3002 h 2 = 0xFF ∧ (s.sinkGone h).hreg 0x3002 h 3 = 0 ∧ (s.sinkGone h).hreg 0x3002 h 4 = 0xFFFF ∧
    (s.sinkGone h).hreg 0x3002 h 11 = 0 ∧ (s.sinkGone h).hreg 0x3002 h 12 = 0 ∧ (s.sinkGone h).regBytes (0x3003 + 256 * h) 1 = [] ∧
    (s.sinkGone h).regBytes (0x3003 + 256 * h) 2 = [] ∧ (s.sinkGone h).regBytes (0x3003 + 256 * h) 3 = [] := by
  obtain ⟨h5, h2, h3, h11, h12⟩ := s.hreg_sinkCleared h
  obtain ⟨b1, b2, b3⟩ := s.regBytes_sinkCleared h
  have hhead := s.head_sinkCleared h
  rw [State.sinkGone_eq]
  generalize s.sinkCleared h = s2 at *
  obtain ⟨s3, hs3⟩ : ∃ s3, s3 = (if (s.head h).connected then s2.linkEvent h 4 else s2) := ⟨_, rfl⟩
  have hhead3 : s3.head h = s2.head h := by
    rw [hs3]
    split
    · exact State.head_linkEvent _ _ _ _
    · rfl
  have hreg : ∀ k, k % 256 ≠ 0x12 → s3.hreg 0x3002 h k = s2.hreg 0x3002 h k := by
    intro k hk
    rw [hs3]
    split
    · exact State.hreg_linkEvent _ _ _ _ _ _ hk
    · rfl
  have hbytes : ∀ k, k % 256 ≠ 0x12 → s3.regBytes (0x3003 + 256 * h) k = s2.regBytes (0x3003 + 256 * h) k := by
    intro k hk
    rw [hs3]
    split
    · exact State.regBytes_linkEvent _ _ _ _ _ hk
    · rfl
  have hkeep : (s3.setH 0x3002 h 4 0xFFFF).head h = { s.head h with debounce := none, connected := false, sink := none } := hhead3.trans hhead
  rw [← hs3, hkeep]
  refine ⟨rfl, rfl, rfl, ?_, ?_, ?_, State.hreg_setH _ _ _ _ _, ?_, ?_, ?_, ?_, ?_⟩
  · rw [State.hreg_setH_of_ne _ _ _ (by decide), hreg 5 (by decide), h5]
  · rw [State.hreg_setH_of_ne _ _ _ (by decide), hreg 2 (by decide), h2]
  · rw [State.hreg_setH_of_ne _ _ _ (by decide), hreg 3 (by decide), h3]
  · rw [State.hreg_setH_of_ne _ _ _ (by decide), hreg 11 (by decide), h11]
  · rw [State.hreg_setH_of_ne _ _ _ (by decide), hreg 12 (by decide), h12]
  · rw [State.regBytes_setH_of_ne _ _ _ (by decide), hbytes 1 (by decide), b1]
  · rw [State.regBytes_setH_of_ne _ _ _ (by decide), hbytes 2 (by decide), b2]
  · rw [State.regBytes_setH_of_ne _ _ _ (by decide), hbytes 3 (by decide), b3]

/-! ### The candidates -/

/-- A candidate carries the mode within the limits, at the lowest such rate for its lanes (R288). -/
theorem mem_candidatesIn {rm lm sr sl : Nat} {m : HeadMode} {c : LinkConfig} (h : c ∈ candidatesIn rm lm sr sl m) :
    carries c m = true ∧ c.rate ≤ rm ∧ c.rate ≤ sr ∧ c.rate < 5 ∧ c.lanes ≤ lm ∧ c.lanes ≤ sl ∧ c.lanes ∈ [1, 2, 4] ∧
    ∀ r, r < c.rate → carries ⟨r, c.lanes⟩ m = false := by
  obtain ⟨n, hn, hc⟩ := List.mem_filterMap.1 h
  split at hc
  · next hlim =>
    obtain ⟨r, hfind, rfl⟩ := Option.map_eq_some_iff.1 hc
    obtain ⟨hok, hr, hlow⟩ := List.find?_range_eq_some.1 hfind
    simp only [Bool.and_eq_true, decide_eq_true_eq] at hok
    obtain ⟨⟨hrm, hrs⟩, hcar⟩ := hok
    refine ⟨hcar, hrm, hrs, List.mem_range.1 hr, hlim.1, hlim.2, ?_, fun q hq => ?_⟩
    · simp only [List.mem_cons, List.not_mem_nil, or_false] at hn ⊢
      omega
    · have hq' := hlow q hq
      simpa [show q ≤ rm by simp only at hq; omega, show q ≤ sr by simp only at hq; omega] using hq'
  · exact nomatch hc

theorem exists_candidatesIn {rm lm sr sl r n : Nat} {m : HeadMode} (hn : n ∈ [1, 2, 4]) (hlm : n ≤ lm) (hsl : n ≤ sl) (hrm : r ≤ rm) (hsr : r ≤ sr)
    (hr : r < 5) (hcar : carries ⟨r, n⟩ m = true) : ∃ c ∈ candidatesIn rm lm sr sl m, c.lanes = n := by
  have hfound : ((List.range 5).find? (fun r => decide (r ≤ rm ∧ r ≤ sr) && carries ⟨r, n⟩ m)).isSome = true :=
    List.find?_isSome.2 ⟨r, List.mem_range.2 hr, by simp [hrm, hsr, hcar]⟩
  obtain ⟨q, hq⟩ := Option.isSome_iff_exists.1 hfound
  refine ⟨⟨q, n⟩, List.mem_filterMap.2 ⟨n, ?_, ?_⟩, rfl⟩
  · simp only [List.mem_cons, List.not_mem_nil, or_false] at hn ⊢
    omega
  · rw [if_pos ⟨hlm, hsl⟩, hq]
    rfl

theorem candidatesIn_descend (rm lm sr sl : Nat) (m : HeadMode) : (candidatesIn rm lm sr sl m).Pairwise (fun a b => b.lanes < a.lanes) := by
  have hlanes : ∀ (n : Nat) (c : LinkConfig), (if n ≤ lm ∧ n ≤ sl then
      ((List.range 5).find? (fun r => decide (r ≤ rm ∧ r ≤ sr) && carries ⟨r, n⟩ m)).map (fun r => (⟨r, n⟩ : LinkConfig)) else none) = some c → c.lanes = n := by
    intro n c hc
    split at hc
    · obtain ⟨r, -, rfl⟩ := Option.map_eq_some_iff.1 hc
      rfl
    · exact nomatch hc
  refine List.Pairwise.filterMap (R := fun a b => b < a) _ (fun a b hab c hc c' hc' => ?_) (by decide)
  rw [hlanes a c hc, hlanes b c' hc']
  exact hab

end Sys2Proof.Machine
end

section
/-! PROOF of a head's link, the statement: capabilities, modes and attempts (R287 to R294, R301, R307, R310). -/
set_option Elab.async false
namespace Sys2Proof.Machine

/-! ### Reading the capabilities -/

/-- A head whose idle pattern ends, as the reading of the capabilities begins. -/
def State.idleEnded (s : State) (h : Nat) : State := s.modHead h (fun x => { x with idlePattern := false })

theorem State.head_idleEnded (s : State) (h g : Nat) :
    ((s.idleEnded h).head g).sink = (s.head g).sink ∧ ((s.idleEnded h).head g).pairedTaken = (s.head g).pairedTaken ∧
    ((s.idleEnded h).head h).idlePattern = false := by
  unfold State.idleEnded
  rw [State.head_modHead, State.head_modHead, if_pos rfl]
  refine ⟨?_, ?_, rfl⟩
  · split
    · next hg => subst hg; rfl
    · rfl
  · split
    · next hg => subst hg; rfl
    · rfl

theorem State.candidatesFor_idleEnded (s : State) (h g : Nat) (m : HeadMode) : (s.idleEnded h).candidatesFor g m = s.candidatesFor g m := by
  unfold State.candidatesFor
  rw [(s.head_idleEnded h g).1]
  rfl

theorem State.ringMode_idleEnded (s : State) (h g : Nat) : (s.idleEnded h).ringMode g = s.ringMode g := by
  unfold State.ringMode State.timingHead
  rw [(s.head_idleEnded h (g / 2 * 2)).2.1]
  rfl

/-- The mode of the ring carried over the link: the head trains it. -/
theorem State.decideCaps_trains {s : State} {h : Nat} (hcs : s.candidatesFor h (s.ringMode h) ≠ []) :
    (s.decideCaps h).linkState h = 5 ∧ ((s.decideCaps h).head h).attempt = 0 ∧ ((s.decideCaps h).head h).idlePattern = false ∧
    ((s.decideCaps h).head h).candidates = s.candidatesFor h (s.ringMode h) := by
  have hcs' : (s.idleEnded h).candidatesFor h ((s.idleEnded h).ringMode h) = s.candidatesFor h (s.ringMode h) := by
    rw [State.ringMode_idleEnded, State.candidatesFor_idleEnded]
  have heq : s.decideCaps h = State.afterModes ((((s.idleEnded h).takeMode h ((s.idleEnded h).ringMode h) false).startTraining h
      ((s.idleEnded h).candidatesFor h ((s.idleEnded h).ringMode h)) ((s.idleEnded h).candidatesFor h ((s.idleEnded h).ringMode h)).head?).linkEnter h 5)
      (s.idleEnded h) h := if_pos (hcs' ▸ hcs)
  rw [heq, hcs', State.linkState_afterModes, State.linkState_linkEnter, State.head_afterModes, State.head_linkEnter]
  obtain ⟨h1, h2, -, -, -, h6, -⟩ := State.startTraining_spec ((s.idleEnded h).takeMode h ((s.idleEnded h).ringMode h) false) h
    (s.candidatesFor h (s.ringMode h)) (s.candidatesFor h (s.ringMode h)).head?
  refine ⟨rfl, h2, ?_, h1⟩
  rw [h6]
  exact (congrArg (·.2.2.1) ((State.takeMode_links (s.idleEnded h) h _ false).1 h)).trans (s.head_idleEnded h h).2.2

/-- A head that shows no mode of the ring (R301). -/
def State.linkUnsupported (s : State) (h : Nat) (m : HeadMode) : State := ((s.adoptMode h m false).afterModes s h).linkDown h 9 6

/-- A head that trains a mode of its sink's instead of the ring's (R301). -/
def State.linkSubstituted (s : State) (h : Nat) (m : HeadMode) (cs : List LinkConfig) : State :=
  ((((s.takeMode h m true).startTraining h cs cs.head?).linkEnter h 5).modeEvent h 4).afterMode h (s.modeOf h) true

/-- The mode of the ring not carried: what remains is decided by the head's policy and the sink's preferred timing (R301). -/
theorem State.decideCaps_notCarried {s : State} {h : Nat} (hcs : s.candidatesFor h (s.ringMode h) = []) :
    s.decideCaps h =
      if s.use (0x3001 + 256 * h) 4 ≠ 1 then (s.idleEnded h).linkUnsupported h (s.ringMode h)
      else match (s.head h).sink.bind (·.preferred) with
        | none => (s.idleEnded h).linkUnsupported h (s.ringMode h)
        | some p =>
          if !(modeOk (substituteMode p (s.ringMode h)) (s.head (h / 2 * 2)).pairedTaken (s.use (0x3001 + 256 * h) 1) (s.use (0x3001 + 256 * h) 2) &&
              s.regionsInside h (substituteMode p (s.ringMode h))) || s.candidatesFor h (substituteMode p (s.ringMode h)) = [] then
            (s.idleEnded h).linkUnsupported h (s.ringMode h)
          else (s.idleEnded h).linkSubstituted h (substituteMode p (s.ringMode h)) (s.candidatesFor h (substituteMode p (s.ringMode h))) := by
  obtain ⟨u, hu⟩ : ∃ u, u = s.idleEnded h := ⟨_, rfl⟩
  have hdef : s.decideCaps h =
      if u.candidatesFor h (u.ringMode h) ≠ [] then
        State.afterModes (((u.takeMode h (u.ringMode h) false).startTraining h (u.candidatesFor h (u.ringMode h))
          (u.candidatesFor h (u.ringMode h)).head?).linkEnter h 5) u h
      else if s.use (0x3001 + 256 * h) 4 ≠ 1 then u.linkUnsupported h (u.ringMode h)
      else match (u.head h).sink.bind (·.preferred) with
        | none => u.linkUnsupported h (u.ringMode h)
        | some p =>
          if !(modeOk (substituteMode p (u.ringMode h)) (u.head (h / 2 * 2)).pairedTaken (s.use (0x3001 + 256 * h) 1) (s.use (0x3001 + 256 * h) 2) &&
              s.regionsInside h (substituteMode p (u.ringMode h))) || u.candidatesFor h (substituteMode p (u.ringMode h)) = [] then
            u.linkUnsupported h (u.ringMode h)
          else u.linkSubstituted h (substituteMode p (u.ringMode h)) (u.candidatesFor h (substituteMode p (u.ringMode h))) := by
    subst hu
    rfl
  have hring : u.ringMode h = s.ringMode h := hu ▸ s.ringMode_idleEnded h h
  have hcand : ∀ m, u.candidatesFor h m = s.candidatesFor h m := fun m => hu ▸ s.candidatesFor_idleEnded h h m
  have hsink : (u.head h).sink = (s.head h).sink := hu ▸ (s.head_idleEnded h h).1
  have hpair : (u.head (h / 2 * 2)).pairedTaken = (s.head (h / 2 * 2)).pairedTaken := hu ▸ (s.head_idleEnded h _).2.1
  rw [hdef, hring, hcand, hsink, hpair, if_neg (not_not.2 hcs), ← hu]
  simp only [hcand]

theorem State.linkSubstituted_spec (s : State) (h : Nat) (m : HeadMode) (cs : List LinkConfig) :
    (s.linkSubstituted h m cs).linkState h = 5 ∧ ((s.linkSubstituted h m cs).head h).preferred = true ∧
    ((s.linkSubstituted h m cs).head h).candidates = cs := by
  obtain ⟨h1, -, -, -, -, -, h7⟩ := State.startTraining_spec (s.takeMode h m true) h cs cs.head?
  have hhead : (s.linkSubstituted h m cs).head h = ((s.takeMode h m true).startTraining h cs cs.head?).head h := by
    unfold State.linkSubstituted
    rw [State.head_afterMode, State.head_modeEvent, State.head_linkEnter]
  rw [hhead]
  refine ⟨?_, h7.trans (s.takeMode_links h m true).2, h1⟩
  unfold State.linkSubstituted
  rw [State.linkState_afterMode]
  exact (State.reg_event _ _ _ _ _ _ _ _ _ _ (by decide)).trans (State.linkState_linkEnter _ _ _)

/-- The mode of the ring not carried, by the head's policy (R301). -/
theorem State.decideCaps_policy {s u v : State} {h : Nat} (hcs : s.candidatesFor h (s.ringMode h) = []) (hu : u = s.idleEnded h)
    (hv : v = u.linkUnsupported h (s.ringMode h)) :
    (s.use (0x3001 + 256 * h) 4 ≠ 1 ∨ (s.head h).sink.bind (·.preferred) = none → s.decideCaps h = v) ∧
    (∀ p m, s.use (0x3001 + 256 * h) 4 = 1 → (s.head h).sink.bind (·.preferred) = some p → m = substituteMode p (s.ringMode h) →
      (s.candidatesFor h m = [] → s.decideCaps h = v) ∧
      (s.candidatesFor h m ≠ [] → modeOk m (s.head (h / 2 * 2)).pairedTaken (s.use (0x3001 + 256 * h) 1) (s.use (0x3001 + 256 * h) 2) = true →
        s.regionsInside h m = true → (s.decideCaps h).linkState h = 5 ∧ ((s.decideCaps h).head h).preferred = true ∧
        ((s.decideCaps h).head h).candidates = s.candidatesFor h m)) := by
  subst hu hv
  rw [State.decideCaps_notCarried hcs]
  refine ⟨fun hno => ?_, fun p m hpolicy hpref hm => ?_⟩
  · by_cases hpolicy : s.use (0x3001 + 256 * h) 4 ≠ 1
    · rw [if_pos hpolicy]
    · rw [if_neg hpolicy, hno.resolve_left hpolicy]
  · subst hm
    rw [if_neg (not_not.2 hpolicy), hpref]
    refine ⟨fun hnone => if_pos (by simp [hnone]), fun hsome hmode hregions => ?_⟩
    dsimp only
    rw [if_neg (by simp [hmode, hregions, hsome])]
    exact State.linkSubstituted_spec _ _ _ _

/-! ### The sink as read -/

/-- The head with its sink as read, before the event of a tiled sink (R289). -/
def State.sinkRead (s : State) (h n : Nat) (k : SinkData) : State :=
  let s0 := s.count (0x3002 + 256 * h) 10 (min 2 n)
  let s1 := if (s.head h).lastEdid ≠ [] ∧ (s.head h).lastEdid ≠ k.edid then s0.incH 0x3003 h 4 else s0
  let s2 := ((s1.setRegBytes (0x3003 + 256 * h) 1 k.dpcd).setRegBytes (0x3003 + 256 * h) 2 k.edid).setRegBytes (0x3003 + 256 * h) 3 k.displayid
  ((s2.setH 0x3002 h 11 (k.range.getD (0, 0)).1).setH 0x3002 h 12 (k.range.getD (0, 0)).2).modHead h (fun y => { y with sink := some k, lastEdid := k.edid })

theorem State.sinkRead_spec (s : State) (h n : Nat) (k : SinkData) :
    ((s.sinkRead h n k).head h).sink = some k ∧ ((s.sinkRead h n k).head h).lastEdid = k.edid ∧
    (s.sinkRead h n k).regBytes (0x3003 + 256 * h) 1 = k.dpcd ∧ (s.sinkRead h n k).regBytes (0x3003 + 256 * h) 2 = k.edid ∧
    (s.sinkRead h n k).regBytes (0x3003 + 256 * h) 3 = k.displayid ∧ (s.sinkRead h n k).hreg 0x3002 h 11 = (k.range.getD (0, 0)).1 ∧
    (s.sinkRead h n k).hreg 0x3002 h 12 = (k.range.getD (0, 0)).2 := by
  have hset : ∀ (t : State) (k v m : Nat), k < 256 ∧ m < 256 →
      (t.setH 0x3002 h k v).regBytes (0x3003 + 256 * h) m = t.regBytes (0x3003 + 256 * h) m :=
    fun t k v m hk => State.regBytes_setH_of_ne t h v (by omega)
  have hmod : ∀ (t : State) (f : Head → Head) m, (t.modHead h f).regBytes (0x3003 + 256 * h) m = t.regBytes (0x3003 + 256 * h) m := fun _ _ _ => rfl
  unfold State.sinkRead
  rw [State.head_modHead, if_pos rfl]
  refine ⟨rfl, rfl, ?_, ?_, ?_, ?_, ?_⟩
  · rw [hmod, hset _ _ _ _ (by decide), hset _ _ _ _ (by decide), State.regBytes_setRegBytes_of_ne _ _ (entryKey_inst_ne (by decide)),
      State.regBytes_setRegBytes_of_ne _ _ (entryKey_inst_ne (by decide)), State.regBytes_setRegBytes]
  · rw [hmod, hset _ _ _ _ (by decide), hset _ _ _ _ (by decide), State.regBytes_setRegBytes_of_ne _ _ (entryKey_inst_ne (by decide)), State.regBytes_setRegBytes]
  · rw [hmod, hset _ _ _ _ (by decide), hset _ _ _ _ (by decide), State.regBytes_setRegBytes]
  · rw [State.hreg_modHead, State.hreg_setH_of_ne _ _ _ (by decide), State.hreg_setH]
  · rw [State.hreg_modHead, State.hreg_setH]

theorem State.sinkRead_eff (s : State) (h n : Nat) (k : SinkData) : Eff 2147483776 s (s.sinkRead h n k) := by
  unfold State.sinkRead
  refine State.modHead_eff _ _ _ (State.setReg_eff _ _ _ _ (State.setReg_eff _ _ _ _ (State.setRegBytes_eff _ _ _ _ (State.setRegBytes_eff _ _ _ _
    (State.setRegBytes_eff _ _ _ _ ?_ rfl) rfl) rfl) rfl) rfl) rfl
  have h0 : Eff 2147483776 s (s.count (0x3002 + 256 * h) 10 (min 2 n)) := State.count_eff _ _ _ _ (Eff.refl _ s) rfl
  split
  · exact State.inc_eff _ _ _ h0 rfl
  · exact h0

/-- A sink read decides the link from the state with that sink. -/
theorem capsReadDone_read {s : State} {h n : Nat} {k : SinkData} (hlink : s.linkState h = 4) :
    ∃ t : State, exec (.capsReadDone h (some k) n) s = .next ((t.decideCaps h).settleHead h) ∧
    (t.head h).sink = some k ∧ (t.head h).lastEdid = k.edid ∧ t.regBytes (0x3003 + 256 * h) 1 = k.dpcd ∧ t.regBytes (0x3003 + 256 * h) 2 = k.edid ∧
    t.regBytes (0x3003 + 256 * h) 3 = k.displayid ∧ t.hreg 0x3002 h 11 = (k.range.getD (0, 0)).1 ∧ t.hreg 0x3002 h 12 = (k.range.getD (0, 0)).2 ∧
    t.mem = s.mem ∧ SameRings s t ∧ t.now = s.now := by
  obtain ⟨u, hu⟩ : ∃ u, u = s.sinkRead h n k := ⟨_, rfl⟩
  have hcount : (s.count (0x3002 + 256 * h) 10 (min 2 n)).linkState h = 4 := (State.hreg_setH_of_ne s h _ (by decide)).trans hlink
  have hx : exec (.capsReadDone h (some k) n) s = .next (((if ((s.head h).pairedTaken && decide (h % 2 = 0) && k.tileRight) = true then
      u.event (u.headHolder h) 0x001E h Status.ok (h / 2) 2 0 else u).decideCaps h).settleHead h) := by
    subst hu
    have htaken : (if (some k).isSome = true ∧ s.linkState h = 4 then s.count (0x3002 + 256 * h) 10 (min 2 n) else s) =
        s.count (0x3002 + 256 * h) 10 (min 2 n) := if_pos ⟨rfl, hlink⟩
    rw [exec_capsReadDone]
    unfold execCapsReadDone
    simp only [htaken]
    rw [if_neg (not_not.2 hcount)]
    rfl
  obtain ⟨h1, h2, h3, h4, h5, h6, h7⟩ := s.sinkRead_spec h n k
  have he := s.sinkRead_eff h n k
  rw [← hu] at h1 h2 h3 h4 h5 h6 h7 he
  refine ⟨_, hx, ?_⟩
  split
  · have hev := State.event_eff u (u.headHolder h) 0x001E h Status.ok (h / 2) 2 0 (Eff.refl 17593261891712 u) rfl
    have hhead : (u.event (u.headHolder h) 0x001E h Status.ok (h / 2) 2 0).head h = u.head h := congrArg (fun t => Tab.getD t h ({} : Head)) hev.heads_eq
    have hbytes : ∀ m, m % 256 ≠ 0x12 → (u.event (u.headHolder h) 0x001E h Status.ok (h / 2) 2 0).regBytes (0x3003 + 256 * h) m =
        u.regBytes (0x3003 + 256 * h) m := fun m hm => State.regBytes_of_liveAt (State.liveAt_event _ _ _ _ _ _ _ _ _ _ hm)
    have hreg : ∀ m, m % 256 ≠ 0x12 → (u.event (u.headHolder h) 0x001E h Status.ok (h / 2) 2 0).hreg 0x3002 h m = u.hreg 0x3002 h m :=
      fun m hm => State.reg_event _ _ _ _ _ _ _ _ _ _ hm
    rw [hhead, hbytes 1 (by decide), hbytes 2 (by decide), hbytes 3 (by decide), hreg 11 (by decide), hreg 12 (by decide)]
    exact ⟨h1, h2, h3, h4, h5, h6, h7, hev.mem_eq.trans he.mem_eq,
      ⟨hev.active_eq.trans he.active_eq, hev.draft_eq.trans he.draft_eq, hev.previous_eq.trans he.previous_eq⟩, hev.now_eq.trans he.now_eq⟩
  · exact ⟨h1, h2, h3, h4, h5, h6, h7, he.mem_eq, ⟨he.active_eq, he.draft_eq, he.previous_eq⟩, he.now_eq⟩

/-! ### A sink unplugged -/

/-- The head whose sink went away while its link was in use (R290). -/
def State.linkUnplugged (s : State) (h : Nat) : State :=
  ((((s.sinkGone h).modHead h (fun x => { x with link := none, preferred := false, idlePattern := false, lit := false })).linkEnter h 1).stopGenerator h).settleHead h

theorem State.hpdUnplug_lit {s u : State} {h : Nat} (hs : s.hpdSampled h = true) (hserv : s.serving = true) (hlink : 1 < s.linkState h)
    (hu : u = { s with pins := { s.pins with hpd := s.pins.hpd.filter (· ≠ h) } }) :
    exec (.hpdUnplug h) s = .next (if (u.linkUnplugged h).generates ((u.linkUnplugged h).timingHead h) then
      (u.linkUnplugged h).modHead ((u.linkUnplugged h).timingHead h) (fun x => { x with nextMode := some (x.nextMode.getD x.mode) }) else u.linkUnplugged h) := by
  subst hu
  rw [exec_hpdUnplug, execHpdUnplug, if_neg (by simp [hs])]
  exact if_neg (show ¬((!s.serving) = true ∨ s.linkState h ≤ 1) by simp [hserv]; omega)

/-! ### An attempt that trains -/

/-- The head lit at the configuration that trained, before it enters its state (R292). -/
def State.linkLit (s : State) (h : Nat) (c : LinkConfig) (first : Bool) : State :=
  let s2 := ((s.incH 0x3002 h 6).setH 0x3002 h 2 c.rate).setH 0x3002 h 3 c.lanes
  let s3 := s2.modHead h (fun y => { y with link := some c, idlePattern := false, lit := true })
  (if first then s3 else s3.incH 0x3002 h 8).trainedLevels h

theorem State.linkEnter_eq_of {s u : State} (hu : ∃ l hs f, u = { s with live := l, heads := hs, free := f }) (h st : Nat) :
    u.linkEnter h st = { s with live := (u.linkEnter h st).live, heads := (u.linkEnter h st).heads, free := (u.linkEnter h st).free } := by
  obtain ⟨l, hs, f, rfl⟩ := hu
  unfold State.linkEnter
  dsimp only
  split <;> rfl

theorem State.head_linkLit (s : State) (h : Nat) (c : LinkConfig) (first : Bool) :
    ((s.linkLit h c first).head h).link = some c ∧ ((s.linkLit h c first).head h).lit = true ∧ ((s.linkLit h c first).head h).idlePattern = false := by
  have hfree : ∀ (t : State) f, (t.useFree.modHead h f).head h = f (t.head h) := fun t f => (State.head_modHead t.useFree h h f).trans (if_pos rfl)
  have hlit : ∀ (t : State) f, (t.modHead h f).head h = f (t.head h) := fun t f => (State.head_modHead t h h f).trans (if_pos rfl)
  have hinc : ∀ t : State, (t.incH 0x3002 h 8).head h = t.head h := fun _ => rfl
  unfold State.linkLit State.trainedLevels
  dsimp only
  rw [hfree]
  cases first
  · rw [if_neg (by decide), hinc, hlit]
    exact ⟨rfl, rfl, rfl⟩
  · rw [if_pos rfl, hlit]
    exact ⟨rfl, rfl, rfl⟩

theorem State.hreg_linkLit (s : State) (h : Nat) (c : LinkConfig) (first : Bool) :
    (s.linkLit h c first).hreg 0x3002 h 2 = c.rate ∧ (s.linkLit h c first).hreg 0x3002 h 3 = c.lanes := by
  have hlevels : ∀ (t : State) k, (t.trainedLevels h).hreg 0x3002 h k = t.hreg 0x3002 h k := fun _ _ => rfl
  unfold State.linkLit
  rw [hlevels, hlevels]
  cases first
  · rw [if_neg (by decide), State.hreg_incH_of_ne _ _ (by decide), State.hreg_incH_of_ne _ _ (by decide), State.hreg_modHead, State.hreg_modHead,
      State.hreg_setH_of_ne _ _ _ (by decide), State.hreg_setH, State.hreg_setH]
    exact ⟨rfl, rfl⟩
  · rw [if_pos rfl, State.hreg_modHead, State.hreg_modHead, State.hreg_setH_of_ne _ _ _ (by decide), State.hreg_setH, State.hreg_setH]
    exact ⟨rfl, rfl⟩

theorem State.linkLit_eq (s : State) (h : Nat) (c : LinkConfig) (first : Bool) :
    ∃ l hs f, s.linkLit h c first = { s with live := l, heads := hs, free := f } := by
  have hlevels : ∀ t : State, ∃ hs f, t.trainedLevels h = { t with heads := hs, free := f } := fun t => ⟨_, _, rfl⟩
  have hinc : ∀ (t : State) k, ∃ l, t.incH 0x3002 h k = { t with live := l } := fun t k => ⟨_, rfl⟩
  have hset : ∀ (t : State) k v, ∃ l, t.setH 0x3002 h k v = { t with live := l } := fun t k v => ⟨_, rfl⟩
  have hmod : ∀ (t : State) f, ∃ hs, t.modHead h f = { t with heads := hs } := fun t f => ⟨_, rfl⟩
  have hlast : ∀ t : State, ∃ l, (if first = true then t else t.incH 0x3002 h 8) = { t with live := l } := by
    intro t
    cases first
    · exact hinc t 8
    · exact ⟨t.live, rfl⟩
  unfold State.linkLit
  dsimp only
  obtain ⟨l1, h1⟩ := hinc s 6
  rw [h1]
  obtain ⟨l2, h2⟩ := hset { s with live := l1 } 2 c.rate
  rw [h2]
  obtain ⟨l3, h3⟩ := hset { s with live := l2 } 3 c.lanes
  rw [h3]
  obtain ⟨hs4, h4⟩ := hmod { s with live := l3 } (fun y => { y with link := some c, idlePattern := false, lit := true })
  rw [h4]
  obtain ⟨l5, h5⟩ := hlast { s with live := l3, heads := hs4 }
  rw [h5]
  obtain ⟨hs6, f6, h6⟩ := hlevels { s with live := l5, heads := hs4 }
  exact ⟨l5, hs6, f6, h6⟩

/-- The end of an attempt (R291, R292). -/
theorem trainingAttemptDone_spec {s : State} {h : Nat} {c : LinkConfig} (hlink : s.linkState h = 5 ∨ s.linkState h = 7)
    (hc : (s.head h).candidates[(s.head h).attempt]? = some c) :
    (∃ t : State, exec (.trainingAttemptDone h true) s = .next ((t.linkEvent h (if (s.head h).firstCand = some c then 2 else 7)).beginRun h) ∧ t.linkState h = 6 ∧
      t.hreg 0x3002 h 2 = c.rate ∧ t.hreg 0x3002 h 3 = c.lanes ∧ (t.head h).link = some c ∧ (t.head h).lit = true ∧ (t.head h).idlePattern = false ∧
      t = { s with live := t.live, heads := t.heads, free := t.free }) ∧
    ((s.head h).attempt + 1 < (s.head h).candidates.length → ∃ t : State, exec (.trainingAttemptDone h false) s = .next t ∧ (t.head h).attempt = (s.head h).attempt + 1 ∧
      t.linkState h = s.linkState h ∧ t = { s with live := t.live, heads := t.heads }) ∧
    ((s.head h).candidates.length ≤ (s.head h).attempt + 1 →
      exec (.trainingAttemptDone h false) s = .next (((s.incH 0x3002 h 6).linkDown h 8 5).settleHead h)) := by
  have hgate : ¬(s.linkState h ≠ 5 ∧ s.linkState h ≠ 7) := by omega
  have hx : ∀ ok, exec (.trainingAttemptDone h ok) s =
      if ok then .next ((((s.linkLit h c (decide ((s.head h).firstCand = some c))).linkEnter h 6).linkEvent h
          (if decide ((s.head h).firstCand = some c) then 2 else 7)).beginRun h)
      else if (s.head h).attempt + 1 < (s.head h).candidates.length then
        .next ((s.incH 0x3002 h 6).modHead h (fun y => { y with attempt := y.attempt + 1 }))
      else .next (((s.incH 0x3002 h 6).linkDown h 8 5).settleHead h) := by
    intro ok
    rw [exec_trainingAttemptDone, execTrainingAttemptDone]
    dsimp only
    rw [if_neg hgate, hc]
    rfl
  have hdone := (hx true).trans (if_pos rfl)
  have hfail := (hx false).trans (if_neg (by decide))
  obtain ⟨h2, h3⟩ := s.hreg_linkLit h c (decide ((s.head h).firstCand = some c))
  obtain ⟨h4, h5, h6⟩ := s.head_linkLit h c (decide ((s.head h).firstCand = some c))
  have h7 := State.linkEnter_eq_of (s.linkLit_eq h c (decide ((s.head h).firstCand = some c))) h 6
  have hreg : ∀ k, k = 2 ∨ k = 3 → ((s.linkLit h c (decide ((s.head h).firstCand = some c))).linkEnter h 6).hreg 0x3002 h k =
      (s.linkLit h c (decide ((s.head h).firstCand = some c))).hreg 0x3002 h k :=
    fun k hk => State.hreg_linkEnter _ _ _ _ _ (by omega) (by omega) (by omega)
  rw [← State.head_linkEnter _ h 6] at h4 h5 h6
  refine ⟨⟨_, ?_, State.linkState_linkEnter _ _ _, (hreg 2 (.inl rfl)).trans h2, (hreg 3 (.inr rfl)).trans h3, h4, h5, h6, h7⟩, fun hmore => ⟨_, hfail.trans (if_pos hmore), ?_, ?_, rfl⟩, fun hlast => hfail.trans (if_neg (by omega))⟩
  · simpa only [decide_eq_true_eq] using hdone
  · rw [State.head_modHead, if_pos rfl]
    rfl
  · exact State.hreg_incH_of_ne _ _ (by decide)

theorem retrain_turnedAway {req : Requester} {h v : Nat} {s : State} (hh : h < 16) (hv : v < 256) (hne : v ≠ 1)
    (hr : s.reaches req (0x3005 + 256 * h) 2 (leBytes 1 v) = true) :
    exec (.retrain req h v) s = .next (s.turnedAway req (0x3005 + 256 * h) 2 (leBytes 1 v)) := by
  obtain ⟨o, hobj, hbase, hsub⟩ : ∃ o, objectAt (0x3005 + 256 * h) = some (o, h) ∧ o.base = 0x3005 ∧
      o.sub? 2 = some ⟨2, 2, "retrain", .u8, .wo, .live, .blank, .only [1], 0⟩ := by
    interval_cases h <;> exact ⟨_, rfl, rfl, rfl⟩
  have hx : (v : Int) ≠ 1 := by omega
  rw [exec_retrain, execRetrain, objectIndex, if_pos hh,
    State.submitNumber_outOfRange hobj hsub (by omega) (by rw [hbase]; decide) rfl rfl hv (by simp [SubEntry.inRange, hx]) hr]

/-! ### The obligation -/

/-- Settles O44: the reading of the capabilities by the candidates, the attempts by their outcomes, the rest by the link's state. -/
theorem headLinks : Obligations.HeadLinks := by
  unfold Obligations.HeadLinks
  refine ⟨?_, ?_, ?_, ?_, ?_, ?_, ?_, ?_, ?_, fun h s => State.decideCaps_trains, ?_, ?_, ?_, candidatesIn_descend, ?_, ?_, ?_,
    fun h st r s => s.linkDown_spec h st r, ?_, ?_, ?_, ?_, ?_, ?_, ?_, ?_⟩
  · intro h s u v hu hv hs
    subst hu hv
    refine ⟨if_pos (by simp [hs]), if_pos (by simp [hs]), fun l => if_pos (by simp [hs])⟩
  · intro h s
    exact decide_eq_true_iff
  · intro h s u hs hu
    subst hu
    refine ⟨fun hserv hlink => ⟨_, (if_neg (by simp [hs])).trans (congrArg Host.Outcome.next (if_pos (by simp [hserv, hlink]))), ?_, ?_, ?_, ?_⟩, fun hnot => ?_⟩
    · exact State.linkState_linkEnter _ _ _
    · exact (State.hreg_linkEnter _ _ _ _ _ (by decide) (by decide) (by decide)).trans (State.hreg_setH _ _ _ _ _)
    · unfold State.hpdRise
      rw [State.head_modHead, if_pos rfl]
      rfl
    · unfold State.hpdRise
      rw [State.linkEnter_eq_live]
      rfl
    · refine (if_neg (by simp [hs])).trans (congrArg Host.Outcome.next (if_neg ?_))
      rcases hnot with hn | hn <;> simp [hn]
  · intro h t0 s hdeb hlink
    have hx : exec (.debounceExpiry h) s = .next ((((s.arriveAt t0).modHead h (fun x => { x with debounce := none, connected := true })).linkEnter h 3).linkEvent h 1) := by
      rw [exec_debounceExpiry, execDebounceExpiry, hdeb]
      exact if_neg (not_not.2 hlink)
    refine ⟨_, hx, State.linkState_linkEnter _ _ _, ?_, ?_, ?_⟩
    · rw [State.head_linkEnter, State.head_modHead, if_pos rfl]
    · rw [State.head_linkEnter, State.head_modHead, if_pos rfl]
    · rw [State.linkEnter_eq_live]
      rfl
  · intro h s hno
    rw [exec_debounceExpiry, execDebounceExpiry]
    rcases hno with hno | hno
    · rw [hno]
    · cases (s.head h).debounce with
      | none => rfl
      | some t => exact if_pos hno
  · intro h cm s
    refine ⟨fun hno => if_pos hno, fun hlink => ⟨_, if_neg (not_not.2 hlink), State.linkState_linkEnter _ _ _, ?_, ?_⟩⟩
    · rw [State.hreg_linkEnter _ _ _ _ _ (by decide) (by decide) (by decide), State.hreg_setH]
    · rw [State.linkEnter_eq_live]
      rfl
  · intro h n k s hlink
    exact capsReadDone_read hlink
  · intro h n s hlink
    exact (if_neg (not_not.2 hlink)).trans rfl
  · intro h n k s hlink
    have hsame : (if k.isSome = true ∧ s.linkState h = 4 then s.count (0x3002 + 256 * h) 10 (min 2 n) else s) = s := if_neg (fun hh => hlink hh.2)
    rw [exec_capsReadDone]
    unfold execCapsReadDone
    simp only [hsame]
    exact if_pos hlink
  · intro h s u v hcs hu hv
    exact State.decideCaps_policy hcs hu hv
  · intro rm lm sr sl m c hc
    exact mem_candidatesIn hc
  · intro rm lm sr sl r n m
    exact exists_candidatesIn
  · intro h c s hlink hc
    exact trainingAttemptDone_spec hlink hc
  · intro h ok s hno
    rw [exec_trainingAttemptDone, execTrainingAttemptDone]
    dsimp only
    rcases hno with hno | hno
    · rw [if_pos hno]
    · split
      · rfl
      · rw [hno]
  · intro h l s hs
    refine ⟨fun hnot => if_pos (by rcases hnot with hn | hn <;> simp [hn]), fun hop hstop hno => ?_, fun c hop hstop hlink hl hst => ?_⟩
    · rw [exec_irqHpd, execIrqHpd, if_neg (by simp [hs, hop, hstop])]
      cases hlink : (s.head h).link with
      | none => rfl
      | some c =>
        refine if_neg ?_
        rcases hno with hn | hn | hn
        · exact absurd hn (by simp [hlink])
        · simp [hn]
        · simp [hn]
    · rw [exec_irqHpd, execIrqHpd, if_neg (by simp [hs, hop, hstop]), hlink]
      exact if_pos (by simp [hl, hst])
  · intro h cs first s t ht
    subst ht
    exact s.enterRetraining_spec h cs first
  · intro h cs first s t ht
    subst ht
    obtain ⟨h1, h2, h3, h4, h5, -, -⟩ := s.startTraining_spec h cs first
    exact ⟨h1, h2, h3, h4, h5⟩
  · intro h s t ht
    subst ht
    obtain ⟨h1, h2, h3, h4, h5, h6, h7, h8, h9, h10, h11, h12⟩ := s.sinkGone_spec h
    have he := State.sinkGone_eff s h (Eff.refl 17599704342656 s) rfl
    exact ⟨h1, h2, h3, h4, h5, h6, h7, h8, h9, h10, h11, h12, he.mem_eq, he.active_eq, he.draft_eq, he.previous_eq⟩
  · intro h s u w y hs hu hw hy
    subst hw hy
    refine ⟨fun hnot => ?_, fun hserv hlink => ⟨fun hgen => ?_, fun hgen => ?_⟩⟩
    · subst hu
      exact (if_neg (by simp [hs])).trans (if_pos (by rcases hnot with hn | hn <;> simp [hn]))
    · exact (State.hpdUnplug_lit hs hserv hlink hu).trans (congrArg Host.Outcome.next (if_neg (ne_true_of_eq_false hgen)))
    · exact (State.hpdUnplug_lit hs hserv hlink hu).trans (congrArg Host.Outcome.next (if_pos hgen))
  · intro h s hno
    exact if_neg (by rcases hno with hno | hno | hno <;> simp [hno])
  · intro req h v s u hh hv hadm hu
    subst hu
    exact retrain_admits req h v s hh (by omega) hadm
  · exact fun req h v s => retrain_turnedAway
  · intro h s
    refine ⟨fun hlow => if_pos hlow, fun hst => ?_, fun cs hst hcs => ?_, fun hlow hst => ?_⟩
    · exact (if_neg (by omega)).trans ((if_neg (by omega)).trans (if_pos hst))
    · subst hcs
      exact (if_neg (by omega)).trans (if_pos hst)
    · exact (if_neg (by omega)).trans ((if_neg (by omega)).trans (if_neg (by omega)))

end Sys2Proof.Machine
end

section
/-! PROOF of lines and frame starts (R279 to R285, R292, R310, R319, R320, R322, R331, R340). -/
set_option Elab.async false
namespace Sys2Proof.Machine

/-! ### What a change of the state leaves of every head -/

/-- A part `p` of every head is as before. -/
def State.KeepsHead {β : Type} (p : Head → β) (s t : State) : Prop := ∀ g, p (t.head g) = p (s.head g)

theorem State.KeepsHead.refl {β : Type} (p : Head → β) (s : State) : State.KeepsHead p s s := fun _ => rfl

theorem State.KeepsHead.trans {β : Type} {p : Head → β} {s t u : State} (h1 : State.KeepsHead p s t) (h2 : State.KeepsHead p t u) : State.KeepsHead p s u :=
  fun g => (h2 g).trans (h1 g)

theorem State.KeepsHead.of_heads {β : Type} {p : Head → β} {s t u : State} (h : State.KeepsHead p s t) (hu : u.heads = t.heads) : State.KeepsHead p s u :=
  fun g => (congrArg (fun x => p (Tab.getD x g ({} : Head))) hu).trans (h g)

theorem State.KeepsHead.modHead {β : Type} {p : Head → β} {s t : State} (h : State.KeepsHead p s t) (g : Nat) {f : Head → Head} (hf : ∀ x, p (f x) = p x) :
    State.KeepsHead p s (t.modHead g f) := by
  refine h.trans fun k => ?_
  rw [State.head_modHead]
  split
  · next hg => exact hg ▸ hf _
  · rfl

/-- Where a head's line stands and the window of its frame. -/
def Head.linePart (x : Head) : Bool × Nat × Option Nat × Nat × Nat := (x.running, x.line, x.toLine0, x.sMin, x.sMax)

theorem State.showFlips_keepsLine (s : State) (t : Nat) : State.KeepsHead Head.linePart s (s.showFlips t) := by
  unfold State.showFlips
  extract_lets x f c s1 s2
  split
  · exact State.KeepsHead.refl _ s
  · have h1 : s1.heads = s.heads := by
      unfold s1
      generalize x.toShow = ps
      suffices h : ∀ u : State, u.heads = s.heads → (ps.foldl (fun u p =>
          if x.cfg.flipSet then u.event p.inst 0x0014 t (if p.late then Status.late else Status.ok) (t / 2) 0 (p.tag + 2 ^ 32 * (f % 2 ^ 32)) else u) u).heads = s.heads from
        h s rfl
      induction ps with
      | nil => exact fun u hu => hu
      | cons p ps ih =>
        intro u hu
        refine ih _ ?_
        split
        · exact (State.event_eff _ _ _ _ _ _ _ _ (Eff.refl 17593261891712 u) rfl).heads_eq.trans hu
        · exact hu
    have h2 : s2.heads = s.heads := by
      unfold s2
      clear_value s1
      split
      · exact h1
      · exact h1
    refine State.each_keeps (P := State.KeepsHead Head.linePart s) _ _ (fun u g hu => ?_) _ ?_
    · extract_lets u1
      have hu1 : State.KeepsHead Head.linePart s u1 := hu.of_heads rfl
      clear_value u1
      split
      · refine State.KeepsHead.of_heads (t := u1.modHead g (fun y => { y with fallback := none })) (hu1.modHead g ?_) rfl
        exact fun _ => rfl
      · exact hu1
    · refine State.KeepsHead.modHead ((State.KeepsHead.refl _ s).of_heads h2) _ ?_
      exact fun _ => rfl

/-- What line 0's head is before the flips and the blocks that follow it. -/
theorem State.lineZero_head (s : State) (h : Nat) : ((s.lineZero h).head h).linePart = (true, 0, none, (s.windowOf h).1, (s.windowOf h).2) := by
  unfold State.lineZero
  extract_lets x w var carried s1 s2 s3
  have h2 : (s2.head h).linePart = (true, 0, none, (s.windowOf h).1, (s.windowOf h).2) := by
    unfold s2
    rw [State.head_modHead, if_pos rfl]
    rfl
  have h3 : (s3.head h).linePart = (s2.head h).linePart := s2.showFlips_keepsLine h h
  have hrest : State.KeepsHead Head.linePart s3 (s3.each (s.pairOf h) (fun u0 g =>
    let u := u0.modHead g (fun y => { y with filled := 0, underran := false, underCol := none })
    let u1 := ((u.regionsFrame g).canopyValid g).canopyTally g
    u1.modComp g (fun c => { c with slots := c.slots.filter (fun e => decide (u.frames g ≤ e.frame)) }))) := by
    refine State.each_keeps (P := State.KeepsHead Head.linePart s3) _ _ (fun u g hu => ?_) _ (State.KeepsHead.refl _ s3)
    extract_lets v v1
    have hv : State.KeepsHead Head.linePart s3 v := by
      refine State.KeepsHead.modHead hu g ?_
      exact fun _ => rfl
    refine hv.of_heads ?_
    exact (State.canopyTally_eff _ g (State.canopyValid_eff _ g (State.regionsFrame_eff v g (Eff.refl 17619031695488 v) rfl) rfl) rfl).heads_eq
  exact ((hrest h).trans h3).trans h2

/-- A line's start takes the enables of the heads and its time. -/
theorem State.lineSample_spec {s : State} {h g : Nat} (hg : g ∈ s.pairOf h) : ((s.lineSample h).head g).reflexStart = decide (s.hreg 0x3005 g 1 = 1) ∧
    ((s.lineSample h).head g).lineAt = s.now ∧ s.lineSample h = { s with heads := (s.lineSample h).heads } := by
  unfold State.lineSample
  unfold State.pairOf at hg ⊢
  split at hg
  · next hp =>
    rw [if_pos hp]
    simp only [State.each]
    simp only [List.mem_cons, List.not_mem_nil, or_false] at hg
    rcases hg with rfl | rfl
    · rw [State.head_modHead, if_neg (by omega), State.head_modHead, if_pos rfl]
      exact ⟨rfl, rfl, rfl⟩
    · rw [State.head_modHead, if_pos rfl]
      exact ⟨rfl, rfl, rfl⟩
  · next hp =>
    rw [if_neg hp]
    simp only [State.each]
    obtain rfl := List.mem_singleton.1 hg
    rw [State.head_modHead, if_pos rfl]
    exact ⟨rfl, rfl, rfl⟩

/-! ### Where a frame starts -/

theorem State.frameStartKind_fixed {s : State} {h : Nat} (n : Nat) (ha : (s.head h).aborting = none) (hf : s.hreg 0x3004 h 1 ≠ 1) :
    s.frameStartKind h n = if n = (s.head h).sMin then some .fixed else none := by
  unfold State.frameStartKind
  dsimp only
  rw [ha]
  exact if_pos hf

/-- A variable head's start (R282): by the window and a ready that was counted. -/
theorem State.frameStartKind_variable {s : State} {h : Nat} (n : Nat) (ha : (s.head h).aborting = none) (hf : s.hreg 0x3004 h 1 = 1) :
    s.frameStartKind h n =
      if n < (s.head h).sMin then none
      else if ((s.head h).ready.map (fun r => decide (r.1 + 3 ≤ (s.head h).sMax ∧ max (r.1 + 2) (s.head h).sMin ≤ n))).getD false then
        (s.head h).ready.map (fun r => readyKind r.2)
      else if n = (s.head h).sMax then some .repeated else none := by
  unfold State.frameStartKind
  dsimp only
  rw [ha]
  dsimp only
  rw [if_neg (not_not.2 hf)]
  cases (s.head h).ready with
  | none => rfl
  | some r => simp

theorem State.frameStartKind_spec {s : State} {h : Nat} (n : Nat) (ha : (s.head h).aborting = none) :
    (s.hreg 0x3004 h 1 ≠ 1 → s.frameStartKind h n = if n = (s.head h).sMin then some .fixed else none) ∧
    (s.hreg 0x3004 h 1 = 1 → (n < (s.head h).sMin → s.frameStartKind h n = none) ∧
      ((s.head h).sMin ≤ (s.head h).sMax → (s.frameStartKind h (s.head h).sMax).isSome = true) ∧
      ((s.head h).ready = none → (s.head h).sMin ≤ n → s.frameStartKind h n = if n = (s.head h).sMax then some .repeated else none) ∧
      (∀ r rx, (s.head h).ready = some (r, rx) → (s.head h).sMin ≤ n → s.frameStartKind h n =
        if r + 3 ≤ (s.head h).sMax ∧ r + 2 ≤ n then some (if rx then .reflex else .content) else if n = (s.head h).sMax then some .repeated else none)) := by
  refine ⟨State.frameStartKind_fixed n ha, fun hv => ⟨fun hn => ?_, fun hle => ?_, fun hr hn => ?_, fun r rx hr hn => ?_⟩⟩
  · rw [State.frameStartKind_variable n ha hv, if_pos hn]
  · rw [State.frameStartKind_variable _ ha hv, if_neg (by omega), if_pos rfl]
    cases (s.head h).ready with
    | none => rfl
    | some r =>
      split
      · rfl
      · rfl
  · rw [State.frameStartKind_variable n ha hv, if_neg (by omega), hr]
    rfl
  · rw [State.frameStartKind_variable n ha hv, if_neg (by omega), hr]
    simp only [Option.map_some, Option.getD_some, decide_eq_true_eq, readyKind]
    by_cases hc : r + 3 ≤ (s.head h).sMax ∧ r + 2 ≤ n
    · rw [if_pos hc, if_pos (by omega)]
    · rw [if_neg hc, if_neg (by omega)]

/-! ### Where a head latches -/

theorem State.latchDue_spec {s : State} {h : Nat} (n : Nat) (hl : (s.head h).latchedNext = false) (ha : (s.head h).aborting = none) :
    (s.hreg 0x3004 h 1 ≠ 1 → (s.latchDue h n = true ↔ n = (s.modeOf h).vActive - 1 - (s.head h).cfg.guard)) ∧
    (s.hreg 0x3004 h 1 = 1 → (s.latchDue h n = true ↔ n + 2 = (s.head h).sMax ∨
      (n = (s.modeOf h).vActive - 1 - (s.head h).cfg.guard ∧ ((s.head h).ready ≠ none ∨ (s.head h).pending ≠ [])))) := by
  have hready : (s.head h).ready.isSome = true ↔ (s.head h).ready ≠ none := Option.isSome_iff_ne_none
  have hpending : (!(s.head h).pending.isEmpty) = true ↔ (s.head h).pending ≠ [] := by simp
  unfold State.latchDue State.cutoff
  dsimp only
  rw [if_neg (by simp [hl, ha])]
  refine ⟨fun hf => ?_, fun hv => ?_⟩
  · rw [if_pos hf]
    exact decide_eq_true_iff
  · rw [if_neg (not_not.2 hv)]
    simp only [Bool.or_eq_true, Bool.and_eq_true, decide_eq_true_eq, hready, hpending]
    tauto

/-! ### A reflex start -/

theorem readySampled_raised {s u : State} {h t : Nat} (ht : t = s.timingHead h) (hraised : (s.head t).readyRaised = true)
    (hu : u = s.modHead t (fun y => { y with readyRaised := false })) :
    exec (.readySampled h true) s =
      if (s.head t).running = false ∨ (s.head h).reflexStart = false ∨ s.hreg 0x3004 t 1 ≠ 1 ∨ (s.head t).toLine0.isSome = true ∨
          (s.head t).aborting.isSome = true ∨ (s.head t).ready.isSome = true ∨ (s.head t).sMax ≤ (s.head t).line + 2 then .next u
      else .next (if s.cutoff t ≤ (s.head t).line ∧ (s.head t).latchedNext = false then
        (u.modHead t (fun y => { y with ready := some ((s.head t).line, true) })).latchDecision t
        else u.modHead t (fun y => { y with ready := some ((s.head t).line, true) })) := by
  subst ht hu
  rw [exec_readySampled, execReadySampled, if_neg (by simp [hraised])]
  simp only [Bool.not_eq_true']

/-! ### The obligation -/

/-- Settles O45: each line by the generator's state, the frame starts and latches by the window and what waits. -/
theorem linesAndFrames : Obligations.LinesAndFrames := by
  unfold Obligations.LinesAndFrames
  refine ⟨?_, ?_, ?_, ?_, ?_, fun _ _ => rfl, fun h g s => State.lineSample_spec, ?_, ?_, fun h n s => State.frameStartKind_spec n, ?_,
    fun h n s => State.latchDue_spec n, ?_, ?_, ?_⟩
  · intro h s hne
    exact congrArg Host.Outcome.next (if_pos hne)
  · intro h s ht hr hp
    rw [exec_lineStart, execLineStart, if_neg (not_not.2 ht), State.lineStart, if_pos (by simp [hr]), if_neg (by simp [hp])]
  · intro s hne
    exact if_neg (fun hh => hne hh.1)
  · intro h s ht hr hp
    rw [exec_lineStart, execLineStart, if_neg (not_not.2 ht), State.lineStart, if_pos (by simp [hr]), if_pos hp]
  · intro h s u ht hr hu
    subst hu
    have hx : exec (.lineStart h) s = .next ((s.lineStart h).restoreSettles) := congrArg Host.Outcome.next (if_neg (not_not.2 ht))
    rw [hx, State.lineStart, if_neg (by simp [hr])]
    refine ⟨fun hk => by rw [hk], fun k hk hle => ?_, fun k hk hlt => ?_⟩
    · rw [hk]
      dsimp only
      rw [if_pos hle]
    · rw [hk]
      dsimp only
      rw [if_neg (by omega)]
  · intro h s
    have hl := s.lineZero_head h
    have he := State.lineZero_eff s h (Eff.refl 17625474146432 s) rfl
    exact ⟨congrArg (·.1) hl, congrArg (·.2.1) hl, congrArg (·.2.2.1) hl, congrArg (·.2.2.2.1) hl, congrArg (·.2.2.2.2) hl, he.mem_eq,
      he.active_eq, he.draft_eq, he.previous_eq⟩
  · intro h s m hm
    subst hm
    exact ⟨fun hf => if_neg hf, fun hv => if_pos hv⟩
  · intro h n k at1 s ha
    unfold State.frameStartKind
    dsimp only
    rw [ha]
  · intro h n s hno
    exact if_pos (by rcases hno with hn | hn <;> simp [hn])
  · intro h s
    refine ⟨?_, fun hn => ?_⟩
    · rw [exec_readySampled, execReadySampled, if_pos (by simp)]
    · rw [exec_readySampled, execReadySampled, if_pos (by simp [hn])]
  · intro h t s u ht hraised hu
    rw [readySampled_raised ht hraised hu]
    refine ⟨fun hno => if_pos hno, fun v h1 h2 h3 h4 h5 h6 h7 hv => ⟨fun hc hl => ?_, fun hno => ?_⟩⟩
    all_goals
      subst hv
      rw [if_neg (by simp [h1, h2, h3, h4, h5, h6]; omega)]
    · rw [if_pos ⟨hc, hl⟩]
    · rw [if_neg (by rintro ⟨hc, hl⟩; rcases hno with hn | hn <;> simp_all; omega)]

end Sys2Proof.Machine
end

section
/-! PROOF of commits and underruns (R311 to R318, R320 to R324, R334 to R338, R343). -/
set_option Elab.async false
namespace Sys2Proof.Machine

/-! ### The checks of a commit -/

theorem firstBad_nil : firstBad [] = Status.ok := rfl

theorem firstBad_cons (a : Nat) (l : List Nat) : firstBad (a :: l) = if a = Status.ok then firstBad l else a := by
  unfold firstBad
  rw [List.find?_cons]
  by_cases h : a = Status.ok
  · simp [h]
  · simp [h]

theorem firstBad_eq_ok (l : List Nat) : firstBad l = Status.ok ↔ ∀ x ∈ l, x = Status.ok := by
  induction l with
  | nil => simp [firstBad_nil]
  | cons a l ih =>
    rw [firstBad_cons]
    by_cases h : a = Status.ok
    · simp [h, ih]
    · simp [h]

theorem firstBad_mem {l : List Nat} (h : firstBad l ≠ Status.ok) : firstBad l ∈ l := by
  induction l with
  | nil => exact absurd rfl h
  | cons a l ih =>
    rw [firstBad_cons] at h ⊢
    split at h
    · next ha => exact List.mem_cons_of_mem _ (by rw [if_pos ha]; exact ih h)
    · next ha => rw [if_neg ha]; exact List.mem_cons_self

/-- The checks in their order (R317). -/
theorem State.commitCheck_spec (s : State) (hs : List Nat) (inst : Nat) (rs : List Record) :
    (recordsAscend rs = false → s.commitCheck hs inst rs = Status.range) ∧
    (s.commitCheck hs inst rs = Status.ok ↔ recordsAscend rs = true ∧ (∀ r ∈ rs, s.recordNames hs inst r = Status.ok ∧ s.recordLength r = Status.ok ∧
      s.recordRange r = Status.ok) ∧ s.composition hs inst rs = Status.ok) ∧
    (recordsAscend rs = true → ∀ r ∈ rs, s.recordNames hs inst r ≠ Status.ok → ∃ x ∈ rs, s.commitCheck hs inst rs = s.recordNames hs inst x) := by
  have hmap : ∀ (f : Record → Nat), firstBad (rs.map f) = Status.ok ↔ ∀ r ∈ rs, f r = Status.ok := by
    intro f
    rw [firstBad_eq_ok]
    simp
  unfold State.commitCheck
  refine ⟨fun h => if_pos (by simp [h]), ?_, fun h r hr hbad => ?_⟩
  · by_cases h : recordsAscend rs = true
    · rw [if_neg (by simp [h]), firstBad_eq_ok]
      simp only [List.mem_cons, List.not_mem_nil, or_false, forall_eq_or_imp, forall_eq, hmap, h, true_and]
      constructor
      · rintro ⟨h1, h2, h3, h4⟩
        exact ⟨fun r hr => ⟨h1 r hr, h2 r hr, h3 r hr⟩, h4⟩
      · rintro ⟨h1, h4⟩
        exact ⟨fun r hr => (h1 r hr).1, fun r hr => (h1 r hr).2.1, fun r hr => (h1 r hr).2.2, h4⟩
    · rw [if_pos (by simp [h])]
      exact ⟨fun hh => absurd hh (by decide), fun hh => absurd hh.1 h⟩
  · rw [if_neg (by simp [h]), firstBad_cons]
    have hne : firstBad (rs.map (s.recordNames hs inst)) ≠ Status.ok := fun hh => hbad ((hmap _).1 hh r hr)
    rw [if_neg hne]
    obtain ⟨x, hx, hxe⟩ := List.mem_map.1 (firstBad_mem hne)
    exact ⟨x, hx, hxe.symm⟩

theorem State.recordNames_eq_ok (s : State) (hs : List Nat) (inst : Nat) (r : Record) : s.recordNames hs inst r = Status.ok ↔ (lookup s.part r.idx r.sub).isSome = true ∧
    latchedEntry r.idx r.sub = true ∧ s.recordHead r.idx ∈ hs ∧ ¬(0x4000 ≤ r.idx ∧ r.idx < 0x4100 ∧ s.layerJoins (r.idx - 0x4000) = true) ∧
    s.commitEntitled inst r.idx = true := by
  unfold State.recordNames
  cases hl : lookup s.part r.idx r.sub with
  | none => simp [Status.notPresent, Status.ok]
  | some f =>
    simp only [Option.isSome_some, true_and]
    by_cases h1 : (!latchedEntry r.idx r.sub || !hs.contains (s.recordHead r.idx) ||
        (decide (0x4000 ≤ r.idx ∧ r.idx < 0x4100) && s.layerJoins (r.idx - 0x4000))) = true
    · rw [if_pos h1]
      refine ⟨fun hh => absurd hh (by decide), fun ⟨ha, hb, hc, hd⟩ => ?_⟩
      simp only [ha, Bool.not_true, Bool.false_or, Bool.or_eq_true, Bool.not_eq_true', Bool.and_eq_true, decide_eq_true_eq] at h1
      rcases h1 with h1 | h1
      · exact absurd hb (by simpa using h1)
      · exact absurd ⟨h1.1.1, h1.1.2, h1.2⟩ hc
    · rw [if_neg h1]
      simp only [Bool.not_eq_true, Bool.or_eq_false_iff, Bool.not_eq_false', Bool.and_eq_false_iff, decide_eq_false_iff_not] at h1
      obtain ⟨⟨h2, h3⟩, h4⟩ := h1
      have h5 : ¬(0x4000 ≤ r.idx ∧ r.idx < 0x4100 ∧ s.layerJoins (r.idx - 0x4000) = true) := by
        rintro ⟨ha, hb, hc⟩
        rcases h4 with h4 | h4
        · exact h4 ⟨ha, hb⟩
        · exact absurd hc (by simp [h4])
      cases he : s.commitEntitled inst r.idx with
      | false => exact ⟨fun hh => absurd hh (by decide), fun hh => absurd hh.2.2.2 (by decide)⟩
      | true => exact ⟨fun _ => ⟨h2, by simpa using h3, h5, rfl⟩, fun _ => rfl⟩

/-! ### Taking a commit -/

theorem State.fetchFails_spec (e : Entry) (n : Nat) (s : State) :
    (s.canFetch e n = true ↔ s.fetchOpen e n = true ∧ s.fetchLands e = true) ∧ (s.fetchOpen e n = false → s.fetchFails e n = s) ∧
    (s.fetchOpen e n = true → s.fetchLands e = false → s.fetchFails e n = s.stopQueue e.inst e.q Status.deniedInstance) := by
  refine ⟨?_, fun h => if_neg (by simp [h]), fun h1 h2 => if_pos (by simp [h1, h2])⟩
  unfold State.canFetch
  simp

/-- A well-formed entry whose block is at hand: refused by its checks, or on its way (R317, R318). -/
theorem commit_fetched {e : Entry} {op a len fl h : Nat} {z : Bool} {b : Option (List Byte)} {s : State} {bs : List Byte} (hf : s.canFetch e 2 = true)
    (hh : h = (s.sq e.inst e.q).target)
    (hok : ¬(op ≠ 1 ∨ (!entryFlagsOk e) = true ∨ (!z) = true ∨ len < 16 ∨ 65536 < len ∨ len % 4 ≠ 0 ∨ 1 < fl)) (hb : s.commitFetch h e.inst a len fl b = some bs) :
    (s.timingHead h ≠ h ∨ blockRecords len bs = none →
      exec (.commit e op len fl z b a) s = .next ((s.fetched e).refuseCommit h e Status.range)) ∧
    ∀ rs st, s.timingHead h = h → blockRecords len bs = some rs → st = s.commitCheck (s.pairOf h) e.inst rs →
      (st ≠ Status.ok → exec (.commit e op len fl z b a) s = .next ((s.fetched e).refuseCommit h e st)) ∧
      (st = Status.ok → ∃ (t : State) (p : PendingCommit), exec (.commit e op len fl z b a) s = .next t ∧
        (t.head h).checked = ((s.fetched e).head h).checked ++ [p] ∧ p.inst = e.inst ∧ p.q = e.q ∧ p.tag = e.tag ∧
        p.late = false ∧ p.records = rs.map (fun r => (r.idx, r.sub, s.recordValue r)) ∧ t = { s.fetched e with heads := t.heads }) := by
  have hx : exec (.commit e op len fl z b a) s = execCommit e op len fl z b s a := rfl
  rw [execCommit, if_neg (by simp [hf])] at hx
  dsimp only at hx
  rw [if_neg hok, ← hh, hb] at hx
  dsimp only at hx
  refine ⟨fun hno => hx.trans ?_, fun rs st ht hrs hst => ?_⟩
  · rcases hno with hn | hn
    · exact if_pos hn
    · split
      · rfl
      · rw [hn]
  · rw [if_neg (not_not.2 ht), hrs] at hx
    subst hst
    refine ⟨fun hbad => hx.trans (if_pos hbad), fun hgood =>
      ⟨_, s.commitOf e.inst e.q e.tag (entryCompletion e) rs, hx.trans (if_neg (not_not.2 hgood)), ?_, rfl, rfl, rfl, rfl, rfl, rfl⟩⟩
    rw [State.head_modHead, if_pos rfl]

/-! ### Arrival -/

/-- The pending commits that an arrival replaces end; the heads and the rest of what no event touches stay. -/
theorem State.replaced_eff (h : Nat) (old : List PendingCommit) (s : State) :
    Eff 17593261891712 s (old.foldl (fun t q => (t.incH 0x3007 h 4).endEntry q.inst q.q q.tag q.completion Status.aborted) s) := by
  suffices hgen : ∀ t, Eff 17593261891712 s t →
      Eff 17593261891712 s (old.foldl (fun t q => (t.incH 0x3007 h 4).endEntry q.inst q.q q.tag q.completion Status.aborted) t) from hgen s (Eff.refl _ s)
  induction old with
  | nil => exact fun t ht => ht
  | cons q old ih => exact fun t ht => ih _ (State.endEntry_eff _ _ _ _ _ _ (State.inc_eff _ _ _ ht rfl) rfl)

theorem State.commitArrives_spec (s : State) (h : Nat) (p : PendingCommit) : ∃ t : State, s.commitArrives h p = t.afterArrival h (s.arrivalNow h) ∧
    (t.head h).checked = (s.head h).checked.erase p ∧ t.mem = s.mem ∧ SameRings s t ∧
    (t.head h).pending = (s.head h).pending.filter (fun q => q.inst ≠ p.inst) ++ [{ p with late := p.late || decide (s.arrivalNow h = .late) }] := by
  unfold State.commitArrives
  extract_lets a p1 old s1 s2
  have he : Eff 17593261891712 s1 s2 := State.replaced_eff h old s1
  have hhead : s2.head h = s1.head h := congrArg (fun x => Tab.getD x h ({} : Head)) he.heads_eq
  have hs1 : s1.head h = { s.head h with checked := (s.head h).checked.erase p, pending := (s.head h).pending.filter (fun q => q.inst ≠ p.inst) ++ [p1] } := by
    unfold s1
    rw [State.head_modHead, if_pos rfl]
  refine ⟨s2, rfl, ?_, he.mem_eq, ⟨he.active_eq, he.draft_eq, he.previous_eq⟩, ?_⟩
  · rw [hhead, hs1]
  · rw [hhead, hs1]

theorem State.arrivalNow_spec (s : State) (h : Nat) : ((s.head h).running = false ∨ (s.head h).aborting.isSome = true → s.arrivalNow h = .wait) ∧
    ((s.head h).running = true → (s.head h).aborting = none →
      (s.hreg 0x3004 h 1 ≠ 1 → ((s.head h).toLine0 = none → s.arrivalNow h = if s.cutoff h ≤ (s.head h).line then .late else .wait) ∧
        ((s.head h).toLine0.isSome = true → s.arrivalNow h = if (s.head h).aborted then .wait else .late)) ∧
      (s.hreg 0x3004 h 1 = 1 → ((s.head h).toLine0.isSome = true → s.arrivalNow h = .wait) ∧
        ((s.head h).toLine0 = none → s.arrivalNow h = if (s.head h).line < s.cutoff h then .ready else if (s.head h).latchedCommit then .wait
          else if (s.head h).line + 2 < (s.head h).sMax then .latch else if (s.head h).ready.isSome then .wait else .late))) := by
  unfold State.arrivalNow
  dsimp only
  refine ⟨fun hno => if_pos (by rcases hno with hn | hn <;> simp [hn]), fun hr ha => ?_⟩
  rw [if_neg (by simp [hr, ha])]
  refine ⟨fun hf => ⟨fun h0 => ?_, fun h0 => ?_⟩, fun hv => ⟨fun h0 => ?_, fun h0 => ?_⟩⟩
  · rw [if_pos hf, if_neg (by simp [h0])]
  · rw [if_pos hf, if_pos h0]
  · rw [if_neg (not_not.2 hv), if_pos h0]
  · rw [if_neg (not_not.2 hv), if_neg (by simp [h0])]

/-! ### The latch decision -/

/-- What waits for a head's latch decision and has been shown to it. -/
def Head.latchPart (x : Head) : List PendingCommit × Bool × List PendingCommit × Nat := (x.pending, x.latchedNext, x.toShow, x.line)

theorem State.latchCommits_heads (t : Nat) (ps : List PendingCommit) (s : State) : (ps.foldl (fun u p => u.latchCommit t p) s).heads = s.heads := by
  induction ps generalizing s with
  | nil => rfl
  | cons p ps ih => exact (ih _).trans (State.latchCommit_eff s t p (Eff.refl 17631916597376 s) rfl).heads_eq

theorem State.latchDecision_head (s : State) (h : Nat) :
    ((s.latchDecision h).head h).latchPart = ([], true, (s.head h).toShow ++ (s.head h).pending, (s.head h).line) := by
  unfold State.latchDecision
  extract_lets ps hs again member s0 s1 s2 s3 v
  have h0 : s0.heads = s.heads :=
    State.each_keeps (P := fun u => u.heads = s.heads) _ _ (fun u g hu => (State.membersTaken_eff u g (Eff.refl 8589934720 u) rfl).heads_eq.trans hu) _ rfl
  have h1 : s1.head h = s.head h := congrArg (fun x => Tab.getD x h ({} : Head)) ((s0.latchCommits_heads h ps).trans h0)
  have h2 : (s2.head h).latchPart = ([], true, (s.head h).toShow ++ (s.head h).pending, (s.head h).line) := by
    unfold s2
    rw [State.head_modHead, if_pos rfl, h1]
    rfl
  clear_value s2
  have h3 : State.KeepsHead Head.latchPart s2 s3 := by
    refine State.each_keeps (P := State.KeepsHead Head.latchPart s2) _ _ (fun u g hu => ?_) _ (State.KeepsHead.refl _ s2)
    refine State.KeepsHead.modHead hu g ?_
    exact fun _ => rfl
  clear_value s3 v
  refine Eq.trans ?_ ((h3 h).trans h2)
  refine State.each_keeps (P := fun u => (u.head h).latchPart = (s3.head h).latchPart) _ _ (fun u g hu => ?_) _ rfl
  extract_lets next u1 u2
  have hu1 : u1.heads = u.heads := rfl
  have hu2 : u2.heads = u1.heads :=
    (State.canopyDecide_eff _ v g (member g) again (State.refreshFetch_eff _ (g / 2) (State.regionsLatch_eff _ g
      (State.clipAfterCommit_eff u1 g (Eff.refl 17619031695488 u1) rfl) rfl) rfl) rfl).heads_eq
  have hlast : (if again = true then u2.recompose g next else u2).heads = u.heads := by
    split
    · exact hu2.trans hu1
    · exact hu2.trans hu1
  exact (congrArg (fun x => (Tab.getD x h ({} : Head)).latchPart) hlast).trans hu

/-! ### Underruns -/

/-- A head's underrun counted, before its events (R336). -/
def State.underrunCounted (s : State) (h line : Nat) : State :=
  let s1 := ((s.incH 0x3007 h 10).setH 0x3007 h 14 line).setH 0x3007 h 15 s.now
  if (s.head h).underran then s1 else s1.incH 0x3007 h 11

theorem State.underrunCounted_spec (s : State) (h line : Nat) :
    (s.underrunCounted h line).hreg 0x3007 h 14 = line ∧ (s.underrunCounted h line).hreg 0x3007 h 15 = s.now ∧
    (s.underrunCounted h line).hreg 0x3007 h 10 = satAdd (entryBits (0x3007 + 256 * h) 10) (s.hreg 0x3007 h 10) 1 := by
  have h1 : ((((s.incH 0x3007 h 10).setH 0x3007 h 14 line).setH 0x3007 h 15 s.now).hreg 0x3007 h 14 = line ∧
      (((s.incH 0x3007 h 10).setH 0x3007 h 14 line).setH 0x3007 h 15 s.now).hreg 0x3007 h 15 = s.now ∧
      (((s.incH 0x3007 h 10).setH 0x3007 h 14 line).setH 0x3007 h 15 s.now).hreg 0x3007 h 10 =
        satAdd (entryBits (0x3007 + 256 * h) 10) (s.hreg 0x3007 h 10) 1) := by
    refine ⟨?_, State.hreg_setH _ _ _ _ _, ?_⟩
    · rw [State.hreg_setH_of_ne _ _ _ (by decide), State.hreg_setH]
    · rw [State.hreg_setH_of_ne _ _ _ (by decide), State.hreg_setH_of_ne _ _ _ (by decide)]
      exact State.reg_setReg_self _ _ _ _
  unfold State.underrunCounted
  dsimp only
  split
  · exact h1
  · rw [State.hreg_incH_of_ne _ _ (by decide), State.hreg_incH_of_ne _ _ (by decide), State.hreg_incH_of_ne _ _ (by decide)]
    exact h1

theorem State.underrunCounted_eff (s : State) (h line : Nat) : Eff 128 s (s.underrunCounted h line) := by
  unfold State.underrunCounted
  have h1 : Eff 128 s (((s.incH 0x3007 h 10).setH 0x3007 h 14 line).setH 0x3007 h 15 s.now) :=
    State.setReg_eff _ _ _ _ (State.setReg_eff _ _ _ _ (State.inc_eff _ _ _ (Eff.refl _ s) rfl) rfl) rfl
  dsimp only
  split
  · exact h1
  · exact State.inc_eff _ _ _ h1 rfl

theorem State.hreg_rasterEvent (s : State) (g m ty r d o h k : Nat) (hk : k % 256 ≠ 0x12) : (s.rasterEvent g m ty r d).hreg o h k = s.hreg o h k := by
  unfold State.rasterEvent
  dsimp only
  split
  · rfl
  · exact State.reg_event _ _ _ _ _ _ _ _ _ _ hk

theorem State.hreg_spoilBuild (s : State) (h k : Nat) (hk : k < 256) : (s.spoilBuild h).hreg 0x3007 h k = s.hreg 0x3007 h k := by
  unfold State.spoilBuild
  dsimp only
  split
  · exact State.reg_setReg_of_ne _ _ _ _ _ _ (by unfold entryKey; omega)
  · rfl

/-- An underrun of the pixels that are sent (R334 to R336). -/
theorem underrun_counts {h t col : Nat} {s : State} (ht : t = s.timingHead h) (hr : (s.head t).running = true) (h0 : (s.head t).toLine0 = none)
    (ha : (s.head t).aborting = none) (hl : (s.head t).line < (s.modeOf t).vActive) (hc : col < (s.modeOf t).hActive) (hu : (s.head h).underCol = none) :
    ∃ u : State, exec (.underrun h col) s = .next (if (s.head h).cfg.privileged then u.abortFrame h else u) ∧ (u.head h).underCol = some col ∧ (u.head h).underran = true ∧
      u.hreg 0x3007 h 14 = (s.head t).line ∧ u.hreg 0x3007 h 15 = s.now ∧ u.hreg 0x3007 h 10 = satAdd (entryBits (0x3007 + 256 * h) 10) (s.hreg 0x3007 h 10) 1 ∧
      u.mem = s.mem ∧ SameRings s u ∧ (u.head h).filled = (s.head h).filled + (if (s.head h).cfg.privileged then 0 else 1) := by
  subst ht
  have hx : exec (.underrun h col) s = execUnderrun h col s := rfl
  rw [execUnderrun, if_neg (by simp [hr, h0, ha, hu]; omega)] at hx
  extract_lets s1 s2 detail s3 s4 b s5 at hx
  obtain ⟨h14, h15, h10⟩ := s.underrunCounted_spec h (s.head (s.timingHead h)).line
  have h2 : Eff 128 s s2 := s.underrunCounted_eff h (s.head (s.timingHead h)).line
  have hs2 : s2 = s.underrunCounted h (s.head (s.timingHead h)).line := rfl
  rw [← hs2] at h14 h15 h10
  clear_value s2
  have h3 : Eff 17593261891712 s2 s3 ∧ ∀ k, k % 256 ≠ 0x12 → s3.hreg 0x3007 h k = s2.hreg 0x3007 h k := by
    unfold s3
    split
    · exact ⟨State.rasterEvent_eff _ _ _ _ _ _ (Eff.refl _ s2) rfl, fun k hk => State.hreg_rasterEvent _ _ _ _ _ _ _ _ _ hk⟩
    · split
      · exact ⟨Eff.refl _ s2, fun _ _ => rfl⟩
      · exact ⟨State.rasterEvent_eff _ _ _ _ _ _ (Eff.refl _ s2) rfl, fun k hk => State.hreg_rasterEvent _ _ _ _ _ _ _ _ _ hk⟩
  clear_value s3
  obtain ⟨h3, h3reg⟩ := h3
  have hhead3 : s3.head h = s.head h := congrArg (fun x => Tab.getD x h ({} : Head)) (h3.heads_eq.trans h2.heads_eq)
  have hhead4 : s4.head h = { s.head h with underran := true, underCol := some col
                                            filled := if (s.head h).cfg.privileged then (s.head h).filled else (s.head h).filled + 1 } := by
    unfold s4
    rw [State.head_modHead, if_pos rfl, hhead3]
  have h4reg : ∀ k, s4.hreg 0x3007 h k = s3.hreg 0x3007 h k := fun _ => rfl
  have h4 : Eff 2147483648 s3 s4 := State.modHead_eff _ _ _ (Eff.refl _ s3) rfl
  clear_value s4
  have h5 : Eff 8589934720 s4 s5 ∧ ∀ k, k < 256 → s5.hreg 0x3007 h k = s4.hreg 0x3007 h k := by
    unfold s5
    split
    · exact ⟨State.spoilBuild_eff s4 h (Eff.refl _ s4) rfl, fun k hk => State.hreg_spoilBuild s4 h k hk⟩
    · exact ⟨Eff.refl _ s4, fun _ _ => rfl⟩
  clear_value s5
  obtain ⟨h5, h5reg⟩ := h5
  have hhead5 : s5.head h = s4.head h := congrArg (fun x => Tab.getD x h ({} : Head)) h5.heads_eq
  have hreg : ∀ k, k < 256 → k % 256 ≠ 0x12 → s5.hreg 0x3007 h k = s2.hreg 0x3007 h k := fun k hlt hk =>
    ((h5reg k hlt).trans (h4reg k)).trans (h3reg k hk)
  refine ⟨s5, hx, ?_, ?_, ?_, ?_, ?_, ?_, ⟨?_, ?_, ?_⟩, ?_⟩
  · rw [hhead5, hhead4]
  · rw [hhead5, hhead4]
  · exact (hreg 14 (by decide) (by decide)).trans h14
  · exact (hreg 15 (by decide) (by decide)).trans h15
  · exact (hreg 10 (by decide) (by decide)).trans h10
  · exact ((h5.mem_eq.trans h4.mem_eq).trans h3.mem_eq).trans h2.mem_eq
  · exact ((h5.active_eq.trans h4.active_eq).trans h3.active_eq).trans h2.active_eq
  · exact ((h5.draft_eq.trans h4.draft_eq).trans h3.draft_eq).trans h2.draft_eq
  · exact ((h5.previous_eq.trans h4.previous_eq).trans h3.previous_eq).trans h2.previous_eq
  · rw [hhead5, hhead4]
    dsimp only
    split
    · rfl
    · rfl

/-- What an abort leaves of the head that times the frame (R338). -/
def Head.abortPart (x : Head) : Option (Nat × Nat) × Bool × Option (Nat × Bool) := (x.aborting, x.latchedNext, x.ready)

theorem State.abortFrame_head {s : State} {h t n : Nat} (ht : t = s.timingHead h) (hn : n = (s.head t).line + 1 + (s.modeOf t).vFront) :
    ((s.abortFrame h).head t).abortPart = (some ((s.head t).line, if s.hreg 0x3004 t 1 = 1 then max n (s.head t).sMin else n), false, none) := by
  subst ht hn
  unfold State.abortFrame
  extract_lets t x at0 at1 commitReady s1 s2
  have h1 : (s1.head t).abortPart = (some (x.line, at1), false, none) := by
    unfold s1
    rw [State.head_modHead, if_pos rfl]
    rfl
  clear_value s1
  have h2 : s2.heads = s1.heads := by
    refine State.each_keeps (P := fun u => u.heads = s1.heads) _ _ (fun u g hu => ?_) _ rfl
    refine (State.spoilBuild_eff _ g (Eff.refl 8589934720 _) rfl).heads_eq.trans ?_
    exact hu
  clear_value s2
  exact (congrArg (fun x => (Tab.getD x t ({} : Head)).abortPart) h2).trans h1

/-! ### The obligation -/

/-- Settles O46: a commit by its entry and checks, its arrival by the head's state, the underrun by where it falls. -/
theorem commitsAndUnderrun : Obligations.CommitsAndUnderrun := by
  unfold Obligations.CommitsAndUnderrun
  refine ⟨?_, State.fetchFails_spec, ?_, ?_, fun hs inst rs s => s.commitCheck_spec hs inst rs, fun hs inst r s => s.recordNames_eq_ok hs inst r, ?_, ?_,
    fun h s => s.arrivalNow_spec h, fun _ _ => ⟨rfl, rfl⟩, ?_, ?_, fun h t col s => underrun_counts, ?_⟩
  · intro e op a len fl z b s hf
    exact if_pos (by simp [hf])
  · intro h inst a len fl b s
    refine ⟨fun hf => if_neg hf, fun hok => ?_, fun hno => ?_⟩
    · rw [State.commitFetch, if_pos rfl, if_pos hok]
    · rw [State.commitFetch, if_pos rfl, if_neg (by simp [hno])]
  · intro e op a len fl h z b s hf hh
    refine ⟨fun hbad => ?_, fun h1 h2 h3 h4 h5 h6 h7 => ?_⟩
    · have hx : exec (.commit e op len fl z b a) s = execCommit e op len fl z b s a := rfl
      rw [execCommit, if_neg (by simp [hf])] at hx
      exact hx.trans (if_pos (by simpa using hbad))
    · have hok : ¬(op ≠ 1 ∨ (!entryFlagsOk e) = true ∨ (!z) = true ∨ len < 16 ∨ 65536 < len ∨ len % 4 ≠ 0 ∨ 1 < fl) := by
        simp [h1, h2, h3, h6]
        omega
      refine ⟨fun hnone => ?_, fun bs hb => commit_fetched hf hh hok hb⟩
      have hx : exec (.commit e op len fl z b a) s = execCommit e op len fl z b s a := rfl
      rw [execCommit, if_neg (by simp [hf])] at hx
      dsimp only at hx
      rw [if_neg hok, ← hh, hnone] at hx
      exact hx
  · intro h inst s hno
    rw [exec_commitArrival, execCommitArrival]
    rcases hno with hn | hn
    · rw [hn]
    · split
      · rfl
      · exact congrArg Host.Outcome.next (if_pos hn)
  · intro h inst p s hp hs
    obtain ⟨t, ht, hchecked, hmem, hrings, hpend⟩ := s.commitArrives_spec h p
    have hinst : p.inst = inst := by simpa using List.find?_some hp
    refine ⟨t, ?_, hchecked, hmem, hrings, hinst ▸ hpend⟩
    rw [exec_commitArrival, execCommitArrival, hp]
    exact congrArg Host.Outcome.next ((if_neg (by simp [hs])).trans ht)
  · intro h s
    have hl := s.latchDecision_head h
    exact ⟨congrArg (·.1) hl, congrArg (·.2.1) hl, congrArg (·.2.2.1) hl, congrArg (·.2.2.2) hl⟩
  · intro h t col s ht hno
    subst ht
    refine if_pos ?_
    rcases hno with hn | hn | hn | hn | hn | hn <;> simp [hn]
  · intro h t n s ht hn
    have ha := State.abortFrame_head ht hn
    exact ⟨congrArg (·.1) ha, congrArg (·.2.1) ha, congrArg (·.2.2) ha⟩

end Sys2Proof.Machine
end

section
/-! PROOF of bands, sprites and the Canopy's members (R345 to R347, R361, R366, R369, R370, R378, R379, R385, R388, R515, R519). -/
set_option Elab.async false
namespace Sys2Proof.Machine

/-! ### Insertion by a key -/

/-- An insertion that puts an element before the first one with a greater key. -/
def InsertsBy {α : Type} (key : α → Nat) (ins : α → List α → List α) : Prop :=
  (∀ a, ins a [] = [a]) ∧ ∀ a b l, ins a (b :: l) = if key a < key b then a :: b :: l else b :: ins a l

theorem InsertsBy.perm {α : Type} {key : α → Nat} {ins : α → List α → List α} (h : InsertsBy key ins) (a : α) (l : List α) : (ins a l).Perm (a :: l) := by
  obtain ⟨hnil, hcons⟩ := h
  induction l with
  | nil => rw [hnil]
  | cons b l ih =>
    rw [hcons]
    split
    · exact List.Perm.refl _
    · exact (ih.cons b).trans (List.Perm.swap a b l)

theorem InsertsBy.sorted {α : Type} {key : α → Nat} {ins : α → List α → List α} (h : InsertsBy key ins) (a : α) {l : List α}
    (hl : l.Pairwise (fun x y => key x ≤ key y)) : (ins a l).Pairwise (fun x y => key x ≤ key y) := by
  have hperm := h.perm a
  obtain ⟨hnil, hcons⟩ := h
  induction l with
  | nil => rw [hnil]; exact List.pairwise_singleton _ _
  | cons b l ih =>
    obtain ⟨hb, hrest⟩ := List.pairwise_cons.1 hl
    rw [hcons]
    split
    · next hlt =>
      refine List.pairwise_cons.2 ⟨fun x hx => ?_, hl⟩
      rcases List.mem_cons.1 hx with rfl | hx
      · exact hlt.le
      · exact hlt.le.trans (hb x hx)
    · next hge =>
      refine List.pairwise_cons.2 ⟨fun x hx => ?_, ih hrest⟩
      rcases List.mem_cons.1 ((hperm l).mem_iff.1 hx) with rfl | hx
      · omega
      · exact hb x hx

theorem InsertsBy.fold {α : Type} {key : α → Nat} {ins : α → List α → List α} (h : InsertsBy key ins) (l : List α) :
    (l.foldl (fun acc a => ins a acc) []).Perm l ∧ (l.foldl (fun acc a => ins a acc) []).Pairwise (fun x y => key x ≤ key y) := by
  suffices hgen : ∀ acc : List α, acc.Pairwise (fun x y => key x ≤ key y) →
      (l.foldl (fun acc a => ins a acc) acc).Perm (acc ++ l) ∧ (l.foldl (fun acc a => ins a acc) acc).Pairwise (fun x y => key x ≤ key y) by
    simpa using hgen [] List.Pairwise.nil
  induction l with
  | nil => exact fun acc hacc => ⟨by simp, hacc⟩
  | cons a l ih =>
    intro acc hacc
    obtain ⟨hp, hs⟩ := ih (ins a acc) (h.sorted a hacc)
    refine ⟨hp.trans (((h.perm a acc).append_right l).trans ?_), hs⟩
    exact List.perm_middle.symm

theorem State.zOrder_spec (s : State) (h : Nat) :
    (s.zOrder h).Pairwise (fun a b => s.layer a 4 ≤ s.layer b 4) ∧ (s.zOrder h).Perm ((s.enabledLayers h).filter (fun l => !s.heartwoodLayer l)) := by
  have hins : InsertsBy (fun l => s.layer l 4) s.insertZ := ⟨fun _ => rfl, fun _ _ _ => rfl⟩
  exact ⟨(hins.fold _).2, (hins.fold _).1⟩

/-- The place of an operation's source: pins before keys (R519). -/
def opRank (x : Nat × Nat × Nat) : Nat := if 512 ≤ x.2.2 then x.2.2 - 512 else 512 + x.2.2

theorem opRank_order {a b : Nat × Nat × Nat} (ha : a.2.2 < 1024) (hb : b.2.2 < 1024) (h : opRank a ≤ opRank b) :
    (512 ≤ b.2.2 → 512 ≤ a.2.2) ∧ ((512 ≤ a.2.2 ↔ 512 ≤ b.2.2) → a.2.2 ≤ b.2.2) := by
  unfold opRank at h
  split at h <;> split at h <;> omega

/-! ### The Canopy's state -/

theorem State.canopyReg_event (s : State) (g r h k : Nat) (hk : k % 256 ≠ 0x12) : (s.canopyEvent g r).canopyReg h k = s.canopyReg h k := by
  unfold State.canopyEvent
  split
  · exact State.reg_event _ _ _ _ _ _ _ _ _ _ hk
  · rfl

theorem State.canopyReg_canopyEnter (s : State) (h st : Nat) : (s.canopyEnter h st).canopyReg h 6 = st := by
  have hne : ∀ (t : State) k v, k % 256 ≠ 6 → (t.setReg (0x4200 + h) k v).canopyReg h 6 = t.canopyReg h 6 := fun t k v hk =>
    State.reg_setReg_of_ne _ _ _ _ _ _ (entryKey_inst_ne hk)
  unfold State.canopyEnter
  extract_lets was s1 s2 s3
  split
  · next heq => exact heq
  · have h1 : s1.canopyReg h 6 = st := State.reg_setReg_self _ _ _ _
    have h2 : s2.canopyReg h 6 = st := by
      unfold s2
      split
      · exact (State.canopyReg_event _ _ _ _ _ (by decide)).trans h1
      · exact h1
    have h3 : s3.canopyReg h 6 = st := (hne _ _ _ (by decide)).trans h2
    split
    · rw [State.canopyReg_event _ _ _ _ _ (by decide), hne _ _ _ (by decide), hne _ _ _ (by decide), h2]
    · split
      · exact (State.canopyReg_event _ _ _ _ _ (by decide)).trans h3
      · split
        · exact (State.canopyReg_event _ _ _ _ _ (by decide)).trans h3
        · exact h3

theorem State.membersOk_iff (s : State) (h m : Nat) : s.membersOk h m = true ↔
    (∀ k, k < 32 → bit m k = true → 8 ≤ k ∧ s.layerHead (32 * (h / 2) + k) = h ∧ s.heartwoodLayer (32 * (h / 2) + k) = false) := by
  have hlow : m % 256 = 0 ↔ ∀ k, k < 8 → bit m k = false := by
    constructor
    · intro h0 k hk
      have : (m % 2 ^ 8).testBit k = m.testBit k := by rw [Nat.testBit_mod_two_pow]; simp [hk]
      rw [bit, ← this, show m % 2 ^ 8 = 0 from h0]
      exact Nat.zero_testBit k
    · intro hbits
      refine Nat.eq_of_testBit_eq (x := m % 2 ^ 8) fun k => ?_
      rw [Nat.testBit_mod_two_pow, Nat.zero_testBit]
      by_cases hk : k < 8
      · simpa [hk] using show m.testBit k = false from hbits k hk
      · simp [hk]
  unfold State.membersOk
  simp only [Bool.and_eq_true, decide_eq_true_eq, List.all_eq_true, List.mem_range, Bool.or_eq_true, Bool.not_eq_true', hlow]
  constructor
  · rintro ⟨h1, h2⟩ k hk hb
    rcases h2 k hk with h3 | ⟨h3, h4⟩
    · exact absurd hb (by simp [h3])
    · refine ⟨?_, h3, h4⟩
      by_contra hlt
      exact absurd hb (by simp [h1 k (by omega)])
  · intro hall
    refine ⟨fun k hk => ?_, fun k hk => ?_⟩
    · by_contra hb
      obtain ⟨h8, -⟩ := hall k (by omega) (by simpa using hb)
      omega
    · by_cases hb : bit m k = true
      · exact .inr (hall k hk hb).2
      · exact .inl (by simpa using hb)

/-! ### Sprites -/

theorem spriteAfter_bits (op v : Nat) : bit (spriteAfter op v) 0 = (if op = 1 ∨ op = 4 ∨ op = 5 then true else if op = 2 then false else bit v 0) ∧
    bit (spriteAfter op v) 1 = (if op = 3 then !bit v 1 else if op = 4 then false else if op = 5 then true else bit v 1) := by
  unfold spriteAfter
  by_cases h1 : op = 1
  · simp [h1, bit_setBit_eq]
  by_cases h2 : op = 2
  · simp [h2, bit_setBit_eq]
  by_cases h3 : op = 3
  · simp [h3, bit_setBit_eq]
  by_cases h4 : op = 4
  · simp [h4, bit_setBit_eq]
  by_cases h5 : op = 5
  · simp [h5, bit_setBit_eq]
  simp [h1, h2, h3, h4, h5]

theorem State.spriteSet_spec (s : State) (sp v : Nat) (r : Bool) : (s.sprite sp 0xB = v → s.spriteSet sp v r = s) ∧
    (s.sprite sp 0xB ≠ v → (s.spriteSet sp v r).sprite sp 0xB = v ∧ (s.spriteSet sp v r).sprite sp 0xC = s.now ∧
      s.spriteSet sp v r = { s with live := (s.spriteSet sp v r).live, heads := (s.spriteSet sp v r).heads } ∧
      (r = true → s.reflexHead (sp / 8) = true → ((s.spriteSet sp v r).head (s.timingHead (sp / 8))).readyRaised = true)) := by
  refine ⟨fun h => if_pos h, fun h => ?_⟩
  obtain ⟨u, hu⟩ : ∃ u, u = (s.setReg (0x4100 + sp) 0xB v).setReg (0x4100 + sp) 0xC s.now := ⟨_, rfl⟩
  have heq : s.spriteSet sp v r = if (r && s.reflexHead (sp / 8)) = true then
      u.modHead (s.timingHead (sp / 8)) (fun x => { x with readyRaised := true }) else u := by
    rw [hu]
    exact if_neg h
  have hB : u.sprite sp 0xB = v := by
    rw [hu]
    exact (State.reg_setReg_of_ne _ _ _ _ _ _ (entryKey_inst_ne (by decide))).trans (State.reg_setReg_self _ _ _ _)
  have hC : u.sprite sp 0xC = s.now := by
    rw [hu]
    exact State.reg_setReg_self _ _ _ _
  have hs : u = { s with live := u.live } := by
    rw [hu]
    rfl
  rw [heq]
  split
  · refine ⟨hB, hC, ?_, fun _ _ => by rw [State.head_modHead, if_pos rfl]⟩
    rw [hs]
    rfl
  · next hno =>
    refine ⟨hB, hC, ?_, fun h1 h2 => absurd (by simp [h1, h2]) hno⟩
    rw [hs]

theorem spriteStateWrite_turnedAway {req : Requester} {sp v : Nat} {s : State} (hsp : sp < 128) (h3 : 3 < v) (hv : v < 256)
    (h : s.reaches req (0x4100 + sp) 0xB (leBytes 1 v) = true) :
    exec (.spriteStateWrite req sp v) s = .next (s.turnedAway req (0x4100 + sp) 0xB (leBytes 1 v)) := by
  obtain ⟨o, hobj, hbase, hsub⟩ : ∃ o, objectAt (0x4100 + sp) = some (o, sp) ∧ o.base = 0x4100 ∧
      o.sub? 0xB = some ⟨11, 11, "state", .u8, .rw, .live, .num 0, .span 0 3, 0⟩ := by
    interval_cases sp <;> exact ⟨_, rfl, rfl, rfl⟩
  have hx : ¬(v : Int) ≤ 3 := by omega
  rw [exec_spriteStateWrite, execSpriteStateWrite, objectIndex, if_pos hsp, Nat.one_mul,
    State.submitNumber_outOfRange hobj hsub (by omega) (by rw [hbase]; decide) rfl rfl hv (by simp [SubEntry.inRange, hx]) h]

/-! ### Bands -/

theorem State.comp_modComp_self (s : State) (h : Nat) (f : Composer → Composer) : (s.modComp h f).comp h = f (s.comp h) :=
  (State.comp_modComp s h h f).trans (if_pos rfl)

/-- A band that begins takes its slot, composed from its frame's state (R347, R370). -/
theorem bandBegin_begins {h : Nat} {s : State} (hc : s.canBegin h = true) (hb : s.composerBusy h = false)
    (hfirst : ∀ k ∈ s.composerHeads h, k ≠ h → s.canBegin k = true → s.deadlineFirst k h = false) :
    ∃ u : State, u = { s with compose := u.compose } ∧ (u.comp h).slots = (s.comp h).slots ∧ (u.comp h).nextBand = (s.nextBandOf h).2 + 1 ∧
      (u.comp h).frameNumber = (s.nextBandOf h).1 ∧ exec (.bandBegin h) s = .next (u.modComp h (fun c => { c with slots := c.slots ++
        [(u.composing h).fillSlot h { frame := (s.nextBandOf h).1, band := (s.nextBandOf h).2 }] })) := by
  have hx : exec (.bandBegin h) s = execBandBegin h s := rfl
  have hany : ¬(s.composerHeads h).any (fun k => decide (k ≠ h) && s.canBegin k && s.deadlineFirst k h) = true := by
    simp only [List.any_eq_true, Bool.and_eq_true, decide_eq_true_eq, not_exists, not_and]
    rintro k hk ⟨hne, hcan⟩ hd
    exact absurd hd (by simp [hfirst k hk hne hcan])
  rw [execBandBegin, if_neg (by simp [hc, hb]), if_neg hany] at hx
  extract_lets fb s1 t s2 at hx
  have h2 : s2.comp h = { s1.comp h with
      sampled := (t.spritesBeginning h fb.2).foldl (fun m n => Tab.put m (n + 8 * (fb.1 % 2)) (s.sprite (8 * h + n) 0xB)) (s1.comp h).sampled } :=
    s1.comp_modComp_self h _
  have h1 : s1.comp h = { s.comp h with frameNumber := fb.1, nextBand := fb.2 + 1 } := s.comp_modComp_self h _
  refine ⟨s2, rfl, ?_, ?_, ?_, hx⟩
  · rw [h2, h1]
  · rw [h2, h1]
  · rw [h2, h1]

/-- A completed band: its slot, its counts and the lines it gives to the surface (R347, R388). -/
theorem bandComplete_completes {h b : Nat} {e : BandSlot} {s : State} (he : (s.comp h).slots.find? (fun e => e.band = b && !e.complete) = some e) : ∃ t : State,
    exec (.bandComplete h b) s = .next (t.freeSlots h) ∧
    (t.comp h).slots = (s.comp h).slots.map (fun f => if f = e then { f with complete := true } else f) ∧
    t.hreg 0x300A h 5 = satAdd (entryBits (0x300A + 256 * h) 5) (s.hreg 0x300A h 5) 1 ∧
    t.hreg 0x300A h 4 = min (s.hreg 0x300A h 4) (s.linesUntil h e.frame (16 * b)).toNat ∧ t = { s with live := t.live, compose := t.compose, canopy := t.canopy } ∧
    (s.canopyReg h 6 ∉ [2, 3, 6] → t.cano h = s.cano h) ∧
    (s.canopyReg h 6 ∈ [2, 3, 6] → (t.cano h).bandsWritten = (s.cano h).bandsWritten ++ [(e.frame, b)] ∧
      (t.cano h).surface = e.surface.foldl (fun x y => Tab.put x y.1 y.2) (s.cano h).surface) := by
  have hx : exec (.bandComplete h b) s = execBandComplete h b s := rfl
  unfold execBandComplete at hx
  extract_lets c at hx
  split at hx
  case h_1 hnone => exact absurd (he.symm.trans hnone) (by simp)
  rename_i e' he'
  obtain rfl : e = e' := Option.some.inj (he.symm.trans he')
  extract_lets lead s1 s2 s3 s4 at hx
  have hslots : (s3.comp h).slots = (s.comp h).slots.map (fun f => if f = e then { f with complete := true } else f) := by
    have hcomp : s3.comp h = s1.comp h := rfl
    rw [hcomp]
    unfold s1
    rw [s.comp_modComp_self h]
  have h5 : s3.hreg 0x300A h 5 = satAdd (entryBits (0x300A + 256 * h) 5) (s.hreg 0x300A h 5) 1 :=
    (State.hreg_setH_of_ne s2 (o := 0x300A) (o' := 0x300A) (k := 4) (k' := 5) h _ (by decide)).trans (State.reg_setReg_self _ _ _ _)
  have h4' : s2.reg (0x300A + 256 * h) 4 = s.hreg 0x300A h 4 := State.hreg_incH_of_ne s1 (o := 0x300A) (o' := 0x300A) (k := 5) (k' := 4) h (by decide)
  have h4 : s3.hreg 0x300A h 4 = min (s.hreg 0x300A h 4) (s.linesUntil h e.frame (16 * b)).toNat := by
    rw [← h4']
    exact State.reg_setReg_self _ _ _ _
  have h3 : s3 = { s with live := s3.live, compose := s3.compose, canopy := s3.canopy } := rfl
  have hcano : s3.cano h = s.cano h := rfl
  by_cases hst : s.canopyReg h 6 ∈ [2, 3, 6]
  · have hwrite : s3.writeSurface (s.surfaceAttr h) h e.surface =
        s3.modCano h (fun c => { c with surface := e.surface.foldl (fun t e => Tab.put t e.1 e.2) c.surface }) := if_pos rfl
    have hs4 : s4 = (s3.modCano h (fun c => { c with surface := e.surface.foldl (fun t e => Tab.put t e.1 e.2) c.surface })).modCano h
        (fun k => { k with bandsWritten := k.bandsWritten ++ [(e.frame, b)] }) := by
      rw [← hwrite]
      exact if_pos (by simpa using hst)
    have hcano4 : s4.cano h = { s.cano h with
        surface := e.surface.foldl (fun t e => Tab.put t e.1 e.2) (s.cano h).surface, bandsWritten := (s.cano h).bandsWritten ++ [(e.frame, b)] } := by
      rw [hs4, State.cano_modCano, if_pos rfl, State.cano_modCano, if_pos rfl, hcano]
    clear_value s3
    refine ⟨s4, hx, ?_, ?_, ?_, ?_, fun hno => absurd hst hno, fun _ => ?_⟩
    · rw [hs4]
      exact hslots
    · rw [hs4]
      exact h5
    · rw [hs4]
      exact h4
    · rw [hs4, h3]
      rfl
    · rw [hcano4]
      exact ⟨rfl, rfl⟩
  · have hs4 : s4 = s3 := if_neg (by simpa using hst)
    clear_value s3
    rw [hs4] at hx
    exact ⟨s3, hx, hslots, h5, h4, h3, fun _ => hcano, fun hh => absurd hh hst⟩

/-! ### Pixels -/

/-- A head that shows one colour shows it outside protected regions (R366, R369). -/
theorem State.composePixel_plain {s : State} {h x y : Nat} (hp : s.plainFrame h = true)
    (hr : decide ((s.comp h).bgFrame = some (s.comp h).frameNumber) = true ∨ s.regionAt h x y = none) :
    s.composePixel h x y = round12 (s.post h (s.matrix h (background16 (s.backgroundOf h)))) := by
  have hnone : (if decide ((s.comp h).bgFrame = some (s.comp h).frameNumber) = true then none else s.regionAt h x y) = none := by
    rcases hr with hr | hr
    · exact if_pos hr
    · rw [hr, ite_self]
  unfold State.composePixel
  simp only [hnone, hp, if_true]

/-! ### The obligation -/

/-- Settles O47: bands by their slots, the orders by insertion, sprites by their operations, members by the entry's checks. -/
theorem bandsSpritesCanopy : Obligations.BandsSpritesCanopy := by
  unfold Obligations.BandsSpritesCanopy
  refine ⟨?_, ?_, fun h s => bandBegin_begins, ?_, ?_, ?_, ?_, fun h b e s => bandComplete_completes, ?_, fun h s => s.zOrder_spec h, ?_, ?_, ?_,
    fun _ _ _ _ _ => ⟨rfl, rfl⟩, spriteAfter_bits, fun sp v r s => s.spriteSet_spec sp v r, ?_, fun req sp v s => spriteStateWrite_turnedAway, ?_,
    fun h m s => s.membersOk_iff h m, ?_⟩
  · intro h s hno
    rw [exec_bandBegin, execBandBegin]
    rcases hno with hn | hn | ⟨k, hk, hne, hcan, hd⟩
    · rw [if_pos (.inl (by simp [hn]))]
    · rw [if_pos (.inr hn)]
    · split
      · rfl
      · rw [if_pos (List.any_eq_true.2 ⟨k, hk, by simp [hne, hcan, hd]⟩)]
  · intro h k s
    simp [State.composerHeads]
  · intro h e s
    exact ⟨rfl, rfl, rfl, rfl, fun hno => if_neg (by simpa using hno)⟩
  · intro h s hc
    unfold State.canBegin at hc
    simp only [Bool.and_eq_true, decide_eq_true_eq] at hc
    obtain ⟨⟨⟨⟨hgen, hserves⟩, hslots⟩, -⟩, -⟩ := hc
    exact ⟨hslots, hserves, hgen⟩
  · intro h b s
    unfold State.composeBand
    refine ⟨by simp, fun l hl => ?_⟩
    obtain ⟨k, -, rfl⟩ := List.mem_map.1 hl
    simp
  · intro h b s hno
    rw [exec_bandComplete]
    unfold execBandComplete
    dsimp only
    rw [hno]
  · intro h s e he
    unfold State.freeSlots at he
    rw [s.comp_modComp_self h, List.mem_filter] at he
    refine ⟨he.1, ?_⟩
    simpa using he.2
  · intro h x y c s hf hr
    have hb : s.backgroundOf h = c := by rw [State.backgroundOf, hf]
    rw [← hb]
    exact State.composePixel_plain (by simp [State.plainFrame, hf]) (.inr hr)
  · intro h x y s hbg hf
    have hb : s.backgroundOf h = s.reg (0x3009 + 256 * h) 1 := by rw [State.backgroundOf, hf]
    rw [← hb]
    exact State.composePixel_plain (by simp [State.plainFrame, hbg]) (.inl (by simp [hbg]))
  · intro d n s
    have hins : InsertsBy opRank insertOp := ⟨fun _ => rfl, fun _ _ _ => rfl⟩
    obtain ⟨hperm, hsorted⟩ := hins.fold ((s.reflex.sprites.filter (fun o => o.1 / 16 = d)).take n)
    refine ⟨_, _, rfl, hperm, fun hall => ?_, rfl⟩
    refine hsorted.imp_of_mem fun {a b} ha hb hab => opRank_order ?_ ?_ hab
    · exact hall a (List.mem_of_mem_filter (List.mem_of_mem_take (hperm.mem_iff.1 ha)))
    · exact hall b (List.mem_of_mem_filter (List.mem_of_mem_take (hperm.mem_iff.1 hb)))
  · intro req sp v s u hsp hv h hu
    subst hu
    have hx := spriteStateWrite_admits req sp v s hsp (by omega) (by rwa [Nat.one_mul])
    rw [Nat.one_mul] at hx
    rw [hx]
    refine ⟨fun h1 h2 => ?_, fun hno => ?_⟩
    · rw [State.writeSpriteState, if_pos ⟨h1, by simpa using h2⟩]
    · rw [State.writeSpriteState, if_neg (by rintro ⟨h1, h2⟩; rcases hno with hn | hn <;> simp_all)]
  · intro req h m s u hh hm hadm hu
    subst hu
    have hx := canopyMembersWrite_admits req h m s hh (by omega) (by rwa [Nat.one_mul])
    rw [Nat.one_mul] at hx
    rw [hx]
    refine ⟨fun hno => ?_, fun hok => ?_⟩
    · rw [State.writeMembers, if_pos (by simp [hno])]
    · rw [State.writeMembers, if_neg (by simp [hok])]
  · intro h st s
    exact ⟨fun heq => if_pos heq, fun _ => s.canopyReg_canopyEnter h st⟩

end Sys2Proof.Machine
end

section
/-! PROOF of Heartwood's regions (R394, R398, R399, R404, R407 to R412). -/
set_option Elab.async false
namespace Sys2Proof.Machine

/-! ### A region's entries -/

theorem State.regionReg_setReg_self (s : State) (r k v : Nat) : (s.setReg (0x4300 + r) k v).regionReg r k = v := State.reg_setReg_self _ _ _ _

theorem State.regionReg_setReg_of_ne (s : State) (r v : Nat) {k m : Nat} (h : k % 256 ≠ m % 256) : (s.setReg (0x4300 + r) k v).regionReg r m = s.regionReg r m :=
  State.reg_setReg_of_ne _ _ _ _ _ _ (entryKey_inst_ne h)

theorem State.region_modRegion_self (s : State) (r : Nat) (f : Region → Region) : (s.modRegion r f).region r = f (s.region r) :=
  (State.region_modRegion s r r f).trans (if_pos rfl)

theorem State.region_modRegion_of_ne (s : State) {r q : Nat} (f : Region → Region) (h : q ≠ r) : (s.modRegion r f).region q = s.region q :=
  (State.region_modRegion s r q f).trans (if_neg (Ne.symm h))

theorem State.reg_regionEvent (s : State) (r a b c d j k : Nat) (hk : k % 256 ≠ 0x12) : (s.regionEvent r a b c d).reg j k = s.reg j k := by
  unfold State.regionEvent
  dsimp only
  split
  · exact State.reg_event _ _ _ _ _ _ _ _ _ _ hk
  · exact (State.reg_event _ _ _ _ _ _ _ _ _ _ hk).trans (State.reg_event _ _ _ _ _ _ _ _ _ _ hk)

theorem State.region_regionEvent (s : State) (r a b c d q : Nat) : (s.regionEvent r a b c d).region q = s.region q :=
  congrArg (fun x => Tab.getD x q ({} : Region)) (State.regionEvent_eff s r a b c d (Eff.refl 17593261891712 s) rfl).regions_eq

/-! ### The states of a region -/

/-- A region's state entered, before its event (R409). -/
def State.regionEntered (s : State) (r st : Nat) : State :=
  (s.setReg (0x4300 + r) 0x13 st).modRegion r (fun x => { x with freshEvent := true, heldFrames := if st = 5 then 0 else x.heldFrames })

theorem State.regionEnter_new {s : State} {r st : Nat} (h : s.regionReg r 0x13 ≠ st) :
    s.regionEnter r st = (s.regionEntered r st).regionEvent r 0x20 r st (s.regionReg r 0x16 * 2 ^ 32 + s.regionReg r 0x15) := if_neg h

theorem State.regionReg_regionEnter_state (s : State) (r st : Nat) : (s.regionEnter r st).regionReg r 0x13 = st := by
  by_cases h : s.regionReg r 0x13 = st
  · unfold State.regionEnter
    rw [if_pos h, h]
  · rw [State.regionEnter_new h]
    exact (State.reg_regionEvent _ _ _ _ _ _ _ _ (by decide)).trans (State.reg_setReg_self _ _ _ _)

theorem State.regionReg_regionEnter (s : State) (r st k : Nat) (hk : k % 256 ≠ 0x12) (h13 : k % 256 ≠ 0x13) : (s.regionEnter r st).regionReg r k = s.regionReg r k := by
  by_cases h : s.regionReg r 0x13 = st
  · unfold State.regionEnter
    rw [if_pos h]
  · rw [State.regionEnter_new h]
    exact (State.reg_regionEvent _ _ _ _ _ _ _ _ hk).trans (State.reg_setReg_of_ne _ _ _ _ _ _ (entryKey_inst_ne (Ne.symm h13)))

theorem State.verified_regionEnter (s : State) (r st : Nat) : ((s.regionEnter r st).region r).verified = (s.region r).verified := by
  by_cases h : s.regionReg r 0x13 = st
  · unfold State.regionEnter
    rw [if_pos h]
  · rw [State.regionEnter_new h, State.region_regionEvent]
    unfold State.regionEntered
    rw [State.region_modRegion_self]
    rfl

/-! ### Updates -/

theorem State.submitUpdate_spec (s : State) (r : Nat) (applet : Option Nat) :
    (s.updateCheck r applet ≠ Status.ok → s.submitUpdate r applet = (s.updateCheck r applet, s)) ∧
    (s.updateCheck r applet = Status.ok → ∃ t : State, s.submitUpdate r applet = (Status.ok, t) ∧ (t.region r).submitted = some (s.contentOf r) ∧ t = { s with regions := t.regions } ∧
      (∀ q, q ≠ r → t.region q = s.region q)) := by
  refine ⟨fun h => if_pos h, fun h => ⟨s.modRegion r (fun x => { x with submitted := some (s.contentOf r) }), ?_, ?_, rfl, fun q hq => ?_⟩⟩
  · unfold State.submitUpdate
    dsimp only
    rw [if_neg (not_not.2 h), h]
  · rw [State.region_modRegion_self]
  · exact State.region_modRegion_of_ne _ _ hq

/-- What R398 asks of a content set, apart from the region's enable and the applet that updates it. -/
def State.ContentGood (s : State) (r : Nat) (c : ContentSet) : Prop :=
  (c.format = 1 ∨ c.format = 2) ∧ c.bufferAddr % 64 = 0 ∧ c.bufferPitch % 64 = 0 ∧
  4 * s.regionUse r 4 ≤ c.bufferPitch ∧ s.granulesSecure c.bufferAddr (c.bufferPitch * (s.regionUse r 5 - 1) + 4 * s.regionUse r 4) = true ∧
  Assets.scriptOk s.assetStore c.script = true ∧ ∀ k, k < 16 → field c.maskAssets (2 * k) 2 ≠ 0 → (Assets.find s.assetStore (field c.maskAssets (2 * k) 2) 2).isSome = true

/-- R398's order: the region's enable, its content, its owner. -/
theorem State.updateCheck_enabled {s : State} {r : Nat} (applet : Option Nat) (he : s.regionUse r 1 = 1) :
    (¬s.ContentGood r (s.contentOf r) → s.updateCheck r applet = Status.range) ∧
    (s.ContentGood r (s.contentOf r) → s.updateCheck r applet =
      if s.regionUse r 0xB ≠ 0 ∧ applet ≠ some (s.regionUse r 0xB) then Status.deniedAccess else Status.ok) := by
  have hall : ((List.range 16).all (fun k => let a := field (s.contentOf r).maskAssets (2 * k) 2
      decide (a = 0) || (Assets.find s.assetStore a 2).isSome) = true) ↔
      ∀ k, k < 16 → field (s.contentOf r).maskAssets (2 * k) 2 ≠ 0 → (Assets.find s.assetStore (field (s.contentOf r).maskAssets (2 * k) 2) 2).isSome = true := by
    simp only [List.all_eq_true, List.mem_range, Bool.or_eq_true, decide_eq_true_eq]
    exact forall_congr' fun k => forall_congr' fun _ => ⟨fun h hne => h.resolve_left hne, fun h => (em _).imp_right h⟩
  unfold State.updateCheck
  extract_lets c w st
  rw [if_neg (not_not.2 he)]
  by_cases h1 : (c.format = 1 ∨ c.format = 2) ∧ c.bufferAddr % 64 = 0 ∧ c.bufferPitch % 64 = 0 ∧ 4 * w ≤ c.bufferPitch
  case neg =>
    rw [if_pos (by rw [decide_eq_false h1]; rfl)]
    exact ⟨fun _ => rfl, fun ⟨ha, hb, hc, hd, _⟩ => absurd ⟨ha, hb, hc, hd⟩ h1⟩
  rw [if_neg (by rw [decide_eq_true h1]; decide)]
  by_cases h2 : s.granulesSecure c.bufferAddr (c.bufferPitch * (s.regionUse r 5 - 1) + 4 * w) = true
  case neg =>
    rw [if_pos (by simpa using h2)]
    exact ⟨fun _ => rfl, fun ⟨_, _, _, _, he, _⟩ => absurd he h2⟩
  rw [if_neg (by simp [h2])]
  by_cases h3 : Assets.scriptOk st c.script = true
  case neg =>
    rw [if_pos (by simpa using h3)]
    exact ⟨fun _ => rfl, fun ⟨_, _, _, _, _, hf, _⟩ => absurd hf h3⟩
  rw [if_neg (by simp [h3])]
  by_cases h4 : (List.range 16).all (fun k => let a := field c.maskAssets (2 * k) 2; decide (a = 0) || (Assets.find st a 2).isSome) = true
  case neg =>
    rw [if_pos (by simpa only [Bool.not_eq_true'] using Bool.eq_false_iff.2 h4)]
    exact ⟨fun _ => rfl, fun ⟨_, _, _, _, _, _, hg⟩ => absurd (hall.2 hg) h4⟩
  rw [if_neg (by rw [h4]; decide)]
  exact ⟨fun hbad => absurd ⟨h1.1, h1.2.1, h1.2.2.1, h1.2.2.2, h2, h3, hall.1 h4⟩ hbad, fun _ => rfl⟩

/-- The handler of a region's update entry. -/
theorem regionUpdate_admits {req : Requester} {applet : Option Nat} {r v : Nat} {s : State} (hr : r < 128)
    (h : s.admits req (0x4300 + r) 0x12 (s.valueBytes (0x4300 + r) 0x12 v) = true) :
    exec (.regionUpdate req applet r v) s = .next
      (((s.admitted req (0x4300 + r) 0x12 (s.valueBytes (0x4300 + r) 0x12 v)).submitUpdate r applet).2.concluded req (0x4300 + r) 0x12
        (s.valueBytes (0x4300 + r) 0x12 v) ((s.admitted req (0x4300 + r) 0x12 (s.valueBytes (0x4300 + r) 0x12 v)).submitUpdate r applet).1) := by
  obtain ⟨f, hf⟩ := State.admits_lookup s req _ _ _ h
  obtain ⟨o, hobj, hbase, hsub⟩ : ∃ o, objectAt (0x4300 + r) = some (o, r) ∧ o.base = 0x4300 ∧
      o.sub? 0x12 = some ⟨18, 18, "update", .u8, .rws, .live, .num 0, .only [1], 0⟩ := by
    interval_cases r <;> exact ⟨_, rfl, rfl, rfl⟩
  have hfe : f = ⟨o, r, ⟨18, 18, "update", .u8, .rws, .live, .num 0, .only [1], 0⟩⟩ := by
    have hf' := hf
    simp only [lookup, hobj, hsub] at hf'
    split at hf'
    · simpa using hf'.symm
    · exact absurd hf' (by simp)
  subst hfe
  rw [exec_regionUpdate]
  unfold execRegionUpdate
  rw [objectIndex, if_pos hr, Nat.one_mul, State.submitWith_admits s req _ _ v _ h]
  generalize s.valueBytes (0x4300 + r) 0x12 v = data at *
  have hserv : (s.admitted req (0x4300 + r) 0x12 data).serviceStatus (0x4300 + r) = Status.ok := by
    unfold State.admits at h
    simp only [Bool.and_eq_true, decide_eq_true_eq] at h
    exact h.2
  have hpart : (s.admitted req (0x4300 + r) 0x12 data).part = s.part := by
    obtain ⟨x, hx⟩ := State.takeRequest_shape s req (.write (0x4300 + r) 0x12 data)
    unfold State.admitted
    rw [hx]
    exact (State.demandWake_eff _ _ (Eff.refl 134217920 _) rfl).part_eq
  have hwrite : (s.admitted req (0x4300 + r) 0x12 data).writeWith (match applet with | none => .plain | some a => .applet a) req (0x4300 + r) 0x12 data =
      (s.admitted req (0x4300 + r) 0x12 data).submitUpdate r applet := by
    cases applet with
    | some a =>
      refine (if_neg (not_not.2 hserv)).trans ?_
      rw [Nat.add_sub_cancel_left]
    | none =>
      unfold State.writeWith State.writeEntry
      rw [hpart, hf]
      dsimp only
      rw [if_neg (not_not.2 hserv)]
      unfold State.entryEffect
      dsimp only
      rw [if_neg (by simp [State.keyDenied, hbase]), if_pos rfl, State.liveWrite, if_neg (by omega)]
      simp [State.blockWrite, hbase]
  exact congrArg (fun x : Nat × State => Host.Outcome.next (x.2.concluded req (0x4300 + r) 0x12 data x.1)) hwrite

/-! ### Signatures -/

theorem State.regionMatch_spec (s : State) (r : Nat) : (s.regionMatch r).regionReg r 0x19 = 0 ∧
    (s.regionMatch r).regionReg r 0x17 = satAdd (entryBits (0x4300 + r) 0x17) (s.regionReg r 0x17) 1 ∧
    (s.regionMatch r).regionReg r 0x13 = (if s.regionReg r 0x13 ∈ [2, 4, 5, 6] then 3 else s.regionReg r 0x13) ∧
    (s.regionUse r 7 = 2 → ((s.regionMatch r).region r).verified = some (s.region r).captured) ∧
    (s.regionUse r 7 ≠ 2 → ((s.regionMatch r).region r).verified = (s.region r).verified) := by
  unfold State.regionMatch
  extract_lets s1 st
  have h19 : s1.regionReg r 0x19 = 0 := State.reg_setReg_self _ _ _ _
  have h17 : s1.regionReg r 0x17 = satAdd (entryBits (0x4300 + r) 0x17) (s.regionReg r 0x17) 1 :=
    (State.regionReg_setReg_of_ne _ _ _ (by decide)).trans (State.reg_setReg_self _ _ _ _)
  have h13 : s1.regionReg r 0x13 = s.regionReg r 0x13 :=
    (State.regionReg_setReg_of_ne _ _ _ (by decide)).trans (State.reg_setReg_of_ne _ _ _ _ _ _ (entryKey_inst_ne (by decide)))
  have hver : (s1.region r).verified = if s.regionUse r 7 = 2 then some (s.region r).captured else (s.region r).verified := by
    unfold s1
    rw [State.region_modRegion_self]
    rfl
  clear_value s1
  have hmem : s.regionReg r 0x13 ∈ [2, 4, 5, 6] ↔ st = 2 ∨ st = 4 ∨ st = 5 ∨ st = 6 := by simp [st]
  by_cases h : st = 2 ∨ st = 4 ∨ st = 5 ∨ st = 6
  · rw [if_pos h, if_pos (hmem.2 h)]
    refine ⟨?_, ?_, State.regionReg_regionEnter_state _ _ _, fun h2 => ?_, fun h2 => ?_⟩
    · rw [State.regionReg_regionEnter _ _ _ _ (by decide) (by decide), h19]
    · rw [State.regionReg_regionEnter _ _ _ _ (by decide) (by decide), h17]
    · rw [State.verified_regionEnter, hver, if_pos h2]
    · rw [State.verified_regionEnter, hver, if_neg h2]
  · rw [if_neg h, if_neg (fun hh => h (hmem.1 hh))]
    exact ⟨h19, h17, h13, fun h2 => by rw [hver, if_pos h2], fun h2 => by rw [hver, if_neg h2]⟩

theorem State.secureIrq_secureInterrupt (s : State) : s.secureInterrupt.worlds.secureIrq = s.worlds.secureIrq + 1 := by
  unfold State.secureInterrupt State.takeSecure
  dsimp only
  split
  · rfl
  · rfl

theorem State.reg_spoilBuild (s : State) (h j k : Nat) (hk : k % 256 ≠ 0xF) : (s.spoilBuild h).reg j k = s.reg j k := by
  unfold State.spoilBuild
  dsimp only
  split
  · exact State.reg_setReg_of_ne _ _ _ _ _ _ (entryKey_inst_ne (Ne.symm hk))
  · rfl

/-- An abort writes only its counts and the build's (R338). -/
theorem State.reg_abortFrame (s : State) (h j k : Nat) (hk : k % 256 ≠ 0xF ∧ k % 256 ≠ 12 ∧ k % 256 ≠ 13) : (s.abortFrame h).reg j k = s.reg j k := by
  unfold State.abortFrame
  extract_lets t x at0 at1 commitReady s1 s2
  have h1 : s1.reg j k = s.reg j k := rfl
  clear_value s1
  have h2 : s2.reg j k = s1.reg j k := by
    refine State.each_keeps (P := fun u => u.reg j k = s1.reg j k) _ _ (fun u g hu => ?_) _ rfl
    exact (State.reg_spoilBuild _ _ _ _ hk.1).trans hu
  clear_value s2
  refine (State.reg_setReg_of_ne _ _ _ _ _ _ (entryKey_inst_ne (Ne.symm hk.2.2))).trans ?_
  exact (State.reg_setReg_of_ne _ _ _ _ _ _ (entryKey_inst_ne (Ne.symm hk.2.1))).trans (h2.trans h1)

theorem State.reg_mismatchAbort (s : State) (h j k : Nat) (hk : k % 256 ≠ 0xF ∧ k % 256 ≠ 12 ∧ k % 256 ≠ 13) (h12 : k % 256 ≠ 0x12) :
    (s.mismatchAbort h).reg j k = s.reg j k := by
  unfold State.mismatchAbort
  dsimp only
  split
  · refine (State.reg_abortFrame _ _ _ _ hk).trans ?_
    unfold State.rasterEvent
    dsimp only
    split
    · rfl
    · exact State.reg_event _ _ _ _ _ _ _ _ _ _ h12
  · rfl

/-- A mismatch counted, before the action of its region (R410). -/
def State.mismatchCounted (s : State) (r reason : Nat) : State :=
  let s1 := ((s.inc (0x4300 + r) 0x18).inc (0x4300 + r) 0x19).setReg (0x4300 + r) 0x1A s.now
  let s2 := if (s.region r).freshEvent then
      (s1.modRegion r (fun x => { x with freshEvent := false })).regionEvent r 0x0021 r reason (s.regionReg r 0x16 * 2 ^ 32 + s.regionReg r 0x15)
    else s1
  if s.regionUse r 0xB ≠ 0 then s2.secureInterrupt else s2

theorem State.mismatchCounted_spec (s : State) (r reason : Nat) :
    (s.mismatchCounted r reason).regionReg r 0x18 = satAdd (entryBits (0x4300 + r) 0x18) (s.regionReg r 0x18) 1 ∧
    (s.mismatchCounted r reason).regionReg r 0x19 = satAdd (entryBits (0x4300 + r) 0x19) (s.regionReg r 0x19) 1 ∧
    (s.mismatchCounted r reason).regionReg r 0x1A = s.now ∧ (s.mismatchCounted r reason).regionReg r 0x13 = s.regionReg r 0x13 ∧
    (s.mismatchCounted r reason).worlds.secureIrq = s.worlds.secureIrq + (if s.regionUse r 0xB = 0 then 0 else 1) := by
  unfold State.mismatchCounted
  extract_lets s1 s2
  have h18 : s1.regionReg r 0x18 = satAdd (entryBits (0x4300 + r) 0x18) (s.regionReg r 0x18) 1 :=
    (State.regionReg_setReg_of_ne _ _ _ (by decide)).trans ((State.regionReg_setReg_of_ne _ _ _ (by decide)).trans (State.reg_setReg_self _ _ _ _))
  have h19' : (s.inc (0x4300 + r) 0x18).reg (0x4300 + r) 0x19 = s.regionReg r 0x19 := State.reg_setReg_of_ne _ _ _ _ _ _ (entryKey_inst_ne (by decide))
  have h19 : s1.regionReg r 0x19 = satAdd (entryBits (0x4300 + r) 0x19) (s.regionReg r 0x19) 1 := by
    rw [← h19']
    exact (State.regionReg_setReg_of_ne _ _ _ (by decide)).trans (State.reg_setReg_self _ _ _ _)
  have h1A : s1.regionReg r 0x1A = s.now := State.reg_setReg_self _ _ _ _
  have h13 : s1.regionReg r 0x13 = s.regionReg r 0x13 :=
    (State.regionReg_setReg_of_ne _ _ _ (by decide)).trans ((State.regionReg_setReg_of_ne _ _ _ (by decide)).trans
      (State.reg_setReg_of_ne _ _ _ _ _ _ (entryKey_inst_ne (by decide))))
  have hw : s1.worlds = s.worlds := rfl
  clear_value s1
  have h2 : (∀ k, k % 256 ≠ 0x12 → s2.regionReg r k = s1.regionReg r k) ∧ s2.worlds = s1.worlds := by
    unfold s2
    split
    · exact ⟨fun k hk => State.reg_regionEvent _ _ _ _ _ _ _ _ hk,
        (State.regionEvent_eff (s1.modRegion r (fun x => { x with freshEvent := false })) _ _ _ _ _ (Eff.refl 17593261891712 _) rfl).worlds_eq⟩
    · exact ⟨fun _ _ => rfl, rfl⟩
  clear_value s2
  obtain ⟨hreg2, hw2⟩ := h2
  have hkeep : ∀ k, s2.secureInterrupt.regionReg r k = s2.regionReg r k := fun k =>
    State.reg_of_eff (State.secureInterrupt_eff s2 (Eff.refl 67108928 s2) rfl) rfl rfl rfl (0x4300 + r) k
  by_cases hB : s.regionUse r 0xB ≠ 0
  · rw [if_pos hB, hkeep, hkeep, hkeep, hkeep, State.secureIrq_secureInterrupt, hw2, hw, if_neg hB, hreg2 _ (by decide), hreg2 _ (by decide),
      hreg2 _ (by decide), hreg2 _ (by decide)]
    exact ⟨h18, h19, h1A, h13, rfl⟩
  · rw [if_neg hB, hw2, hw, if_pos (not_not.1 hB), hreg2 _ (by decide), hreg2 _ (by decide), hreg2 _ (by decide), hreg2 _ (by decide)]
    exact ⟨h18, h19, h1A, h13, rfl⟩

/-- A mismatch in a state that is verified or waits for it: counted, and from VERIFIED the action (R410, R411). -/
theorem State.regionMismatch_eq {s : State} {r reason : Nat} (hlo : 2 ≤ s.regionReg r 0x13) (hhi : s.regionReg r 0x13 ≤ 5) :
    s.regionMismatch r reason =
      if s.regionReg r 0x13 ≠ 3 then s.mismatchCounted r reason
      else if s.regionUse r 7 = 1 then (s.mismatchCounted r reason).regionEnter r 4
      else if s.regionUse r 7 = 2 then (s.mismatchCounted r reason).regionEnter r (if (s.region r).verified.isSome then 5 else 4)
      else if s.regionUse r 7 = 3 then
        if s.regionUse r 0xA ≤ (s.mismatchCounted r reason).regionReg r 0x19 then ((s.mismatchCounted r reason).mismatchAbort (r / 8)).regionEnter r 4
        else (s.mismatchCounted r reason).mismatchAbort (r / 8)
      else s.mismatchCounted r reason := if_neg (by omega)

theorem State.regionMismatch_spec {s : State} {r n : Nat} (hlo : 2 ≤ s.regionReg r 0x13) (hhi : s.regionReg r 0x13 ≤ 5) :
    (s.regionMismatch r n).regionReg r 0x18 = satAdd (entryBits (0x4300 + r) 0x18) (s.regionReg r 0x18) 1 ∧
    (s.regionMismatch r n).regionReg r 0x19 = satAdd (entryBits (0x4300 + r) 0x19) (s.regionReg r 0x19) 1 ∧
    (s.regionMismatch r n).regionReg r 0x1A = s.now ∧ (s.regionMismatch r n).worlds.secureIrq = s.worlds.secureIrq + (if s.regionUse r 0xB = 0 then 0 else 1) ∧
    (s.regionMismatch r n).regionReg r 0x13 = (if s.regionReg r 0x13 ≠ 3 then s.regionReg r 0x13 else if s.regionUse r 7 = 1 then 4
      else if s.regionUse r 7 = 2 then (if (s.region r).verified.isSome then 5 else 4)
      else if s.regionUse r 7 = 3 ∧ s.regionUse r 0xA ≤ satAdd (entryBits (0x4300 + r) 0x19) (s.regionReg r 0x19) 1 then 4 else 3) := by
  obtain ⟨h18, h19, h1A, h13, hirq⟩ := s.mismatchCounted_spec r n
  rw [State.regionMismatch_eq hlo hhi]
  generalize (if s.regionUse r 0xB = 0 then 0 else 1) = q at hirq ⊢
  generalize s.mismatchCounted r n = u at *
  have henter : ∀ (v : State) st, (∀ k, k = 0x18 ∨ k = 0x19 ∨ k = 0x1A → v.regionReg r k = u.regionReg r k) → v.worlds = u.worlds →
      (v.regionEnter r st).regionReg r 0x18 = satAdd (entryBits (0x4300 + r) 0x18) (s.regionReg r 0x18) 1 ∧
      (v.regionEnter r st).regionReg r 0x19 = satAdd (entryBits (0x4300 + r) 0x19) (s.regionReg r 0x19) 1 ∧
      (v.regionEnter r st).regionReg r 0x1A = s.now ∧ (v.regionEnter r st).worlds.secureIrq = s.worlds.secureIrq + q ∧
      (v.regionEnter r st).regionReg r 0x13 = st := by
    intro v st hv hw
    have hworlds : (v.regionEnter r st).worlds = v.worlds := (State.regionEnter_eff v r st (Eff.refl 17610441760896 v) rfl).worlds_eq
    refine ⟨?_, ?_, ?_, ?_, State.regionReg_regionEnter_state _ _ _⟩
    · rw [State.regionReg_regionEnter _ _ _ _ (by decide) (by decide), hv _ (.inl rfl), h18]
    · rw [State.regionReg_regionEnter _ _ _ _ (by decide) (by decide), hv _ (.inr (.inl rfl)), h19]
    · rw [State.regionReg_regionEnter _ _ _ _ (by decide) (by decide), hv _ (.inr (.inr rfl)), h1A]
    · rw [hworlds, hw, hirq]
  have habort : ∀ k, k = 0x13 ∨ k = 0x18 ∨ k = 0x19 ∨ k = 0x1A → (u.mismatchAbort (r / 8)).regionReg r k = u.regionReg r k := fun k hk =>
    State.reg_mismatchAbort u (r / 8) (0x4300 + r) k (by omega) (by omega)
  have hwabort : (u.mismatchAbort (r / 8)).worlds = u.worlds := (State.mismatchAbort_eff u (r / 8) (Eff.refl 17608294277312 u) rfl).worlds_eq
  by_cases hst : s.regionReg r 0x13 ≠ 3
  · rw [if_pos hst, if_pos hst]
    exact ⟨h18, h19, h1A, hirq, h13⟩
  rw [if_neg hst, if_neg hst]
  by_cases ha1 : s.regionUse r 7 = 1
  · rw [if_pos ha1, if_pos ha1]
    exact henter u 4 (fun _ _ => rfl) rfl
  rw [if_neg ha1, if_neg ha1]
  by_cases ha2 : s.regionUse r 7 = 2
  · rw [if_pos ha2, if_pos ha2]
    exact henter u _ (fun _ _ => rfl) rfl
  rw [if_neg ha2, if_neg ha2]
  have h3 : u.regionReg r 0x13 = 3 := h13.trans (not_not.1 hst)
  by_cases ha3 : s.regionUse r 7 = 3
  · rw [if_pos ha3, h19]
    by_cases hlim : s.regionUse r 0xA ≤ satAdd (entryBits (0x4300 + r) 0x19) (s.regionReg r 0x19) 1
    · rw [if_pos hlim, if_pos ⟨ha3, hlim⟩]
      exact henter _ 4 (fun k hk => habort k (.inr hk)) hwabort
    · rw [if_neg hlim, if_neg (fun hh => hlim hh.2), habort _ (.inr (.inl rfl)), habort _ (.inr (.inr (.inl rfl))), habort _ (.inr (.inr (.inr rfl))),
        habort _ (.inl rfl), hwabort]
      exact ⟨h18, h19, h1A, hirq, h3⟩
  · rw [if_neg ha3, if_neg (fun hh => ha3 hh.1)]
    exact ⟨h18, h19, h1A, hirq, h3⟩

theorem State.compareDue_cleared (s : State) (r : Nat) : ((s.modRegion r (fun x => { x with compareDue := false })).region r).compareDue = false := by
  rw [State.region_modRegion_self]

/-- A guard's signature compared in time or late (R407, R408). -/
theorem guardSignature_compares {r : Nat} {s : State} (hd : (s.region r).compareDue = true) (hst : 2 ≤ s.regionReg r 0x13) :
    ∃ t : State, (t.region r).compareDue = false ∧ t.regionReg r 0x15 = (s.region r).mainSig ∧
    t = { s with live := t.live, regions := t.regions } ∧ SameLiveBut s t [entryKey (0x4300 + r) 0x15, entryKey (0x4300 + r) 0x16] ∧
    exec (.guardSignature r) s = .next (if (s.region r).doneAt + us 200 < s.now then t.regionMismatch r 2
      else if (s.region r).guardSig = (s.region r).mainSig then t.regionMatch r else t.regionMismatch r 1) ∧
    (s.now ≤ (s.region r).doneAt + us 200 → t.regionReg r 0x16 = (s.region r).guardSig) := by
  obtain ⟨u, hu⟩ : ∃ u, u = (s.modRegion r (fun x => { x with compareDue := false })).setReg (0x4300 + r) 0x15 (s.region r).mainSig := ⟨_, rfl⟩
  have hx : exec (.guardSignature r) s = if (s.region r).doneAt + us 200 < s.now then .next (u.regionMismatch r 2)
      else .next (if (s.region r).guardSig = (s.region r).mainSig then (u.setReg (0x4300 + r) 0x16 (s.region r).guardSig).regionMatch r
        else (u.setReg (0x4300 + r) 0x16 (s.region r).guardSig).regionMismatch r 1) := by
    rw [hu, exec_guardSignature, execGuardSignature, if_neg (by simp [hd]; omega)]
  have hdue : (u.region r).compareDue = false := by
    rw [hu]
    exact s.compareDue_cleared r
  have h15 : u.regionReg r 0x15 = (s.region r).mainSig := by
    rw [hu]
    exact State.reg_setReg_self _ _ _ _
  have hlive : SameLiveBut s u [entryKey (0x4300 + r) 0x15] := by
    rw [hu]
    exact State.sameLiveBut_setReg (s.modRegion r (fun x => { x with compareDue := false })) _ _ _
  have hs : u = { s with live := u.live, regions := u.regions } := by
    rw [hu]
    rfl
  by_cases hlate : (s.region r).doneAt + us 200 < s.now
  · refine ⟨u, hdue, h15, hs, fun i k hk => hlive i k ?_, ?_, fun hle => absurd hlate (by omega)⟩
    · exact fun hmem => hk (List.mem_cons.2 (.inl (List.mem_singleton.1 hmem)))
    · rw [hx, if_pos hlate, if_pos hlate]
  · refine ⟨u.setReg (0x4300 + r) 0x16 (s.region r).guardSig, hdue, ?_, ?_, fun i k hk => ?_, ?_, fun _ => State.reg_setReg_self _ _ _ _⟩
    · exact (State.regionReg_setReg_of_ne _ _ _ (by decide)).trans h15
    · rw [hs]
      rfl
    · simp only [List.mem_cons, List.not_mem_nil, or_false, not_or] at hk
      rw [State.setReg_eq, State.liveAt_setLive, if_neg (Ne.symm hk.2)]
      exact hlive i k (by simp [hk.1])
    · rw [hx, if_neg hlate, if_neg hlate]

theorem guardLate_mismatches {r : Nat} {s : State} (hd : (s.region r).compareDue = true) (hst : 2 ≤ s.regionReg r 0x13) :
    ∃ t : State, (t.region r).compareDue = false ∧ t.regionReg r 0x15 = (s.region r).mainSig ∧
    t.now = max s.now ((s.region r).doneAt + us 200) ∧ t = { s with now := t.now, clock := t.clock, live := t.live, regions := t.regions } ∧
    exec (.guardLate r) s = .next (t.regionMismatch r 2) := by
  refine ⟨_, ?_, State.reg_setReg_self _ _ _ _, rfl, ?_, if_neg (by simp [hd]; omega)⟩
  · exact (s.arriveAt ((s.region r).doneAt + us 200)).compareDue_cleared r
  · rfl

/-! ### The obligation -/

/-- Settles O48: updates by R398's order, comparisons by match and mismatch, the state's entry by what it writes. -/
theorem heartwoodRegions : Obligations.HeartwoodRegions := by
  unfold Obligations.HeartwoodRegions
  refine ⟨?_, ?_, ?_, ?_, ?_, ?_, fun r s => guardSignature_compares, fun r s => guardLate_mismatches, ?_, ?_, ?_, fun _ _ => if_pos rfl, ?_, ?_⟩
  · intro req applet r v s u hr h hu
    subst hu
    exact regionUpdate_admits hr h
  · intro r applet s
    obtain ⟨h1, h2⟩ := s.submitUpdate_spec r applet
    refine ⟨h1, h2, fun hoff => if_pos hoff, fun c good hc hgood => ?_⟩
    subst hc
    have hg : good ↔ s.ContentGood r (s.contentOf r) := hgood
    refine ⟨fun he hbad => (State.updateCheck_enabled applet he).1 (fun hh => hbad (hg.2 hh)), fun he hh hB happ => ?_, fun he hh hB => ?_⟩
    · rw [(State.updateCheck_enabled applet he).2 (hg.1 hh), if_pos ⟨hB, happ⟩]
    · rw [(State.updateCheck_enabled applet he).2 (hg.1 hh), if_neg (fun hno => hB.elim hno.1 hno.2)]
  · intro r s h
    rw [exec_updateArrival, execUpdateArrival, h]
  · intro r c s h
    refine ⟨s.modRegion r (fun x => { x with submitted := none, pending := some c }), ?_, ?_, fun q hq => State.region_modRegion_of_ne _ _ hq, rfl, ?_⟩
    · rw [State.region_modRegion_self]
    · rw [State.region_modRegion_self]
    · rw [exec_updateArrival, execUpdateArrival, h]
  · intro req store s u h hu
    subst hu
    have hx := assetsWrite_admits req store s h
    rw [hx]
    generalize s.admitted req 8976 1 store = u
    have hbusy : (List.range 128).any (fun r => decide (u.regionUse r 1 = 1)) = true ↔ ∃ r, r < 128 ∧ u.regionUse r 1 = 1 := by
      simp
    refine ⟨fun hb => ?_, fun hfree hbad => ?_, fun hfree hok => ?_⟩
    · rw [State.writeAssets, if_pos (hbusy.2 hb)]
    · rw [State.writeAssets, if_neg (fun hh => by obtain ⟨r, hr, h1⟩ := hbusy.1 hh; exact hfree r hr h1), if_pos (by simp [hbad])]
    · rw [State.writeAssets, if_neg (fun hh => by obtain ⟨r, hr, h1⟩ := hbusy.1 hh; exact hfree r hr h1), if_neg (by simp [hok])]
      refine ⟨_, rfl, ?_, State.regBytes_setRegBytes _ _ _ _, rfl, fun i k hk => ?_⟩
      · exact (State.regBytes_setRegBytes_of_ne _ _ (entryKey_inst_ne (by decide))).trans (State.regBytes_setRegBytes _ _ _ _)
      · simp only [List.mem_cons, List.not_mem_nil, or_false, not_or] at hk
        rw [State.setRegBytes, State.liveAt_setLive, if_neg (Ne.symm hk.2), State.setRegBytes, State.liveAt_setLive, if_neg (Ne.symm hk.1)]
  · intro r s h
    refine ⟨if_pos ?_, if_pos ?_⟩
    · rcases h with h | h
      · exact .inl (by simp [h])
      · exact .inr h
    · rcases h with h | h
      · exact .inl (by simp [h])
      · exact .inr h
  · intro r s t ht
    subst ht
    exact s.regionMatch_spec r
  · intro r n s h
    exact if_pos h
  · intro r n s t _ hlo hhi ht
    subst ht
    exact State.regionMismatch_spec hlo hhi
  · intro r st s h
    refine ⟨s.regionEntered r st, State.regionEnter_new h, State.reg_setReg_self _ _ _ _, ?_, rfl, ?_⟩
    · unfold State.regionEntered
      rw [State.region_modRegion_self]
    · exact fun i k hk => State.sameLiveBut_setReg s (0x4300 + r) 0x13 st i k hk
  · intro inst idx sub v s hlo hhi hh
    exact if_pos ⟨hlo, hhi, hh⟩

end Sys2Proof.Machine
end

section
/-! PROOF of the graphics queues (R421 to R424, R442, R446 to R448, R450, R455, R681). -/
set_option Elab.async false
namespace Sys2Proof.Machine

/-! ### What a fetch leaves of an instance's memory -/

theorem State.pageReached_fetched (s : State) (e : Entry) (i p : Nat) : (s.fetched e).pageReached i p = s.pageReached i p := by
  have hmapped : ((s.fetched e).inst i).mapped = (s.inst i).mapped := by
    unfold State.fetched State.modSq
    rw [State.inst_modInst]
    split
    · next h => rw [h]
    · rfl
  unfold State.pageReached
  rw [hmapped]
  rfl

theorem State.idaOk_fetched (s : State) (e : Entry) (i a n : Nat) : (s.fetched e).idaOk i a n = s.idaOk i a n := by
  unfold State.idaOk
  have hpages : (s.fetched e).pageReached i = s.pageReached i := funext (s.pageReached_fetched e i)
  rw [hpages]
  rfl

theorem State.readIda_fetched (s : State) (e : Entry) (b : BusAttr) (a n : Nat) : (s.fetched e).readIda b a n = s.readIda b a n := by
  unfold State.readIda
  dsimp only
  rw [State.idaOk_fetched]
  rfl

theorem State.canFetch_instState {s : State} {e : Entry} {n : Nat} (h : s.canFetch e n = true) : s.instState e.inst = 1 := by
  unfold State.canFetch State.fetchOpen at h
  simp only [Bool.and_eq_true, decide_eq_true_eq] at h
  obtain ⟨⟨⟨⟨⟨-, h1⟩, -⟩, -⟩, -⟩, -⟩ := h
  exact h1

/-- A SIGNAL's store: its bytes where the address is reached, and nothing elsewhere (R212, R423). -/
theorem State.writeIda_spec {s : State} {b : BusAttr} {a : Nat} {bs : List Byte} (hu : s.unitsWrite b.inst = true) :
    s.writeIda b a bs = { s with imem := (s.writeIda b a bs).imem, insts := (s.writeIda b a bs).insts } ∧
    (s.idaOk b.inst a bs.length = true → ∀ k, Memory.read (s.writeIda b a bs).imem k =
      if idaKey b.inst a ≤ k ∧ k < idaKey b.inst a + bs.length then bs.getD (k - idaKey b.inst a) 0 else Memory.read s.imem k) ∧
    (s.idaOk b.inst a bs.length = false → (s.writeIda b a bs).imem = s.imem) := by
  unfold State.writeIda
  dsimp only
  by_cases hok : s.idaOk b.inst a bs.length = true
  · rw [if_pos (by simp [hu, hok])]
    exact ⟨rfl, fun _ k => Memory.read_writeBytes _ _ _ _, fun hno => absurd hok (by simp [hno])⟩
  · rw [if_neg (by simp [hok])]
    exact ⟨rfl, fun hyes => absurd hyes hok, fun _ => rfl⟩

/-! ### Contexts -/

theorem State.ctx_modCtx_self (s : State) (c : Nat) (f : GfxContext → GfxContext) : (s.modCtx c f).ctx c = f (s.ctx c) := by
  simp [State.ctx, State.modCtx]

theorem State.reg_setCtxState (s : State) (c v : Nat) : (s.setCtxState c v).reg (ctxIndex c) 1 = v := State.reg_setReg_self _ _ _ _

/-- What settling the cores may change. -/
theorem State.gfxSettle_frame (s : State) : s.gfxSettle = { s with live := s.gfxSettle.live, gfx := s.gfxSettle.gfx } :=
  (State.gfxSettle_eff s (Eff.refl 68719476864 s) rfl).frame

/-- A context whose wait is over, before what tells its queue. -/
def State.waitCleared (s : State) (c : Nat) : State := (s.modCtx c (fun x => { x with wait := none })).setCtxState c 0

theorem State.waitCleared_spec (s : State) (c : Nat) : ((s.waitCleared c).ctx c).wait = none ∧ ((s.waitCleared c).ctx c).job = (s.ctx c).job ∧
    (s.waitCleared c).reg (ctxIndex c) 1 = 0 ∧ s.waitCleared c = { s with live := (s.waitCleared c).live, gfx := (s.waitCleared c).gfx } ∧
    SameLiveBut s (s.waitCleared c) [entryKey (ctxIndex c) 1] := by
  have hctx : (s.waitCleared c).ctx c = { s.ctx c with wait := none } := s.ctx_modCtx_self c (fun x => { x with wait := none })
  rw [hctx]
  exact ⟨rfl, rfl, State.reg_setCtxState _ _ _, rfl, State.sameLiveBut_setReg (s.modCtx c (fun x => { x with wait := none })) _ _ _⟩

/-! ### Jobs -/

theorem State.cmdBytes_congr {s : State} {j k : GfxJob} (hi : j.inst = k.inst) (ha : j.addr = k.addr) (off n : Nat) : s.cmdBytes j off n = s.cmdBytes k off n := by
  have hattr : j.attr.inst = k.attr.inst := hi
  unfold State.cmdBytes State.readIda
  simp only [hattr, ha]

theorem State.recordChain_congr {s : State} {j k : GfxJob} (hi : j.inst = k.inst) (ha : j.addr = k.addr) (hl : j.length = k.length) (n off : Nat) :
    s.recordChain j n off = s.recordChain k n off := by
  induction n generalizing off with
  | zero => simp only [State.recordChain, hl]
  | succ n ih => simp only [State.recordChain, hl, State.cmdBytes_congr hi ha, ih]

theorem State.bufferOk_congr {s : State} {j k : GfxJob} (hi : j.inst = k.inst) (ha : j.addr = k.addr) (hl : j.length = k.length) : s.bufferOk j = s.bufferOk k := by
  unfold State.bufferOk
  simp only [State.cmdBytes_congr hi ha, hl, State.recordChain_congr hi ha hl]

/-- The first failure of a job's first checks (R424). -/
def State.jobFailure (s : State) (e : Entry) (c : Nat) (ds : List Nat) (j : GfxJob) : Option GfxFailure :=
  if !ds.all (fun d => s.holdsCtx e.inst (ctxOn c d)) then some { status := Status.deniedInstance, reason := 6 }
  else if ((ds.filter (fun d => !s.coreActive d)).map (2 ^ ·) |>.sum) ≠ 0 then
    some { status := Status.hwFault, reason := 5, dies := (ds.filter (fun d => !s.coreActive d)).map (2 ^ ·) |>.sum }
  else if !s.idaOk e.inst j.addr j.length then some { status := Status.deniedInstance, reason := 2 }
  else if !s.bufferOk j then some { status := Status.range, reason := 1 }
  else none

theorem sum_powers_ne_zero (l : List Nat) : ((l.map (2 ^ ·)).sum ≠ 0) ↔ l ≠ [] := by
  cases l with
  | nil => simp
  | cons a l =>
    have : 0 < 2 ^ a := Nat.two_pow_pos a
    simp only [List.map_cons, List.sum_cons, ne_eq, reduceCtorEq, not_false_eq_true, iff_true]
    omega

theorem State.jobFailure_spec (s : State) (e : Entry) (c : Nat) (ds : List Nat) (j : GfxJob) :
    ((∃ d ∈ ds, s.holdsCtx e.inst (ctxOn c d) = false) → ∃ f, s.jobFailure e c ds j = some f ∧ f.status = Status.deniedInstance ∧ f.reason = 6) ∧
    ((∀ d ∈ ds, s.holdsCtx e.inst (ctxOn c d) = true) → (∃ d ∈ ds, s.coreActive d = false) →
      ∃ f, s.jobFailure e c ds j = some f ∧ f.status = Status.hwFault ∧ f.reason = 5) ∧
    ((∀ d ∈ ds, s.holdsCtx e.inst (ctxOn c d) = true) → (∀ d ∈ ds, s.coreActive d = true) →
      (s.idaOk e.inst j.addr j.length = false → ∃ f, s.jobFailure e c ds j = some f ∧ f.status = Status.deniedInstance ∧ f.reason = 2) ∧
      (s.idaOk e.inst j.addr j.length = true → s.bufferOk j = false → ∃ f, s.jobFailure e c ds j = some f ∧ f.status = Status.range ∧ f.reason = 1) ∧
      (s.idaOk e.inst j.addr j.length = true → s.bufferOk j = true → s.jobFailure e c ds j = none)) := by
  have hheld : (∀ d ∈ ds, s.holdsCtx e.inst (ctxOn c d) = true) → ¬(!ds.all (fun d => s.holdsCtx e.inst (ctxOn c d))) = true := by
    intro h
    rw [List.all_eq_true.2 h]
    decide
  unfold State.jobFailure
  refine ⟨fun ⟨d, hd, hno⟩ => ?_, fun hall ⟨d, hd, hno⟩ => ?_, fun hall hact => ?_⟩
  · rw [if_pos]
    · exact ⟨_, rfl, rfl, rfl⟩
    · rw [Bool.not_eq_true', List.all_eq_false]
      exact ⟨d, hd, by simp [hno]⟩
  · rw [if_neg (hheld hall), if_pos]
    · exact ⟨_, rfl, rfl, rfl⟩
    · rw [sum_powers_ne_zero]
      exact List.ne_nil_of_mem (List.mem_filter.2 ⟨hd, by simp [hno]⟩)
  · have hdead : ¬((ds.filter (fun d => !s.coreActive d)).map (2 ^ ·) |>.sum) ≠ 0 := by
      rw [sum_powers_ne_zero, not_not]
      exact List.filter_eq_nil_iff.2 fun d hd => by simp [hact d hd]
    rw [if_neg (hheld hall), if_neg hdead]
    refine ⟨fun hida => ?_, fun hida hbuf => ?_, fun hida hbuf => ?_⟩
    · rw [if_pos (by simp [hida])]
      exact ⟨_, rfl, rfl, rfl⟩
    · rw [if_neg (by simp [hida]), if_pos (by simp [hbuf])]
      exact ⟨_, rfl, rfl, rfl⟩
    · rw [if_neg (by simp [hida]), if_neg (by simp [hbuf])]

/-- A job's entry well formed: the job on its context with its parts or its first failure (R424, R442). -/
theorem job_starts {e : Entry} {op a l m : Nat} {z : Bool} {s : State} (hf : s.canFetch e 1 = true) (hfree : s.ctxFree (s.sq e.inst e.q).target = true)
    (hslot : ∀ d, d < 8 → bit m d = true → s.inFieldSlot d = false)
    (hop : op = 1) (hflags : e.flags ≤ 1) (hz : z = true) (ha : a % 64 = 0) (hl : 16 ≤ l) (hl' : l ≤ 16777216) (hl16 : l % 16 = 0) :
    ∃ (t : State) (j : GfxJob) (ds : List Nat),
      ds = (if m = 0 then [ctxDie (s.sq e.inst e.q).target] else (List.range 8).filter (bit m)) ∧ exec (.job e op a l m z) s = .next t.gfxSettle ∧
      (t.ctx (s.sq e.inst e.q).target).job = some j ∧ j.inst = e.inst ∧ j.q = e.q ∧ j.tag = e.tag ∧ j.completion = bit e.flags 0 ∧ j.addr = a ∧ j.length = l ∧ j.pass = none ∧
      j.index = 0 ∧ t = { s with insts := t.insts, gfx := t.gfx } ∧
      ((∃ d ∈ ds, s.holdsCtx e.inst (ctxOn (s.sq e.inst e.q).target d) = false) → ∃ f, j.failure = some f ∧ f.status = Status.deniedInstance ∧ f.reason = 6) ∧
      ((∀ d ∈ ds, s.holdsCtx e.inst (ctxOn (s.sq e.inst e.q).target d) = true) → (∃ d ∈ ds, s.coreActive d = false) → ∃ f, j.failure = some f ∧ f.status = Status.hwFault ∧ f.reason = 5) ∧
      ((∀ d ∈ ds, s.holdsCtx e.inst (ctxOn (s.sq e.inst e.q).target d) = true) → (∀ d ∈ ds, s.coreActive d = true) →
        (s.idaOk e.inst a l = false → ∃ f, j.failure = some f ∧ f.status = Status.deniedInstance ∧ f.reason = 2) ∧
        (s.idaOk e.inst a l = true → s.bufferOk j = false → ∃ f, j.failure = some f ∧ f.status = Status.range ∧ f.reason = 1) ∧
        (s.idaOk e.inst a l = true → s.bufferOk j = true → j.failure = none ∧ j.parts = ds.map (fun d => { die := d, ctx := ctxOn (s.sq e.inst e.q).target d }) ∧
          j.passes = leNat (s.cmdBytes j 6 2))) := by
  have hx : exec (.job e op a l m z) s = execJob e op a l m z s := rfl
  have hany : (List.range 8).any (fun d => bit m d && s.inFieldSlot d) = false := by
    rw [List.any_eq_false]
    intro d hd
    simp only [Bool.and_eq_true, not_and, Bool.not_eq_true]
    exact hslot d (List.mem_range.1 hd)
  unfold execJob at hx
  extract_lets c s1 dies j held dead fail j1 at hx
  rw [if_neg (by rw [hany]; simp [hfree, c]), if_neg (by simp [hf]), if_neg (by simp [hop, entryFlagsOk, hflags, hz, ha, hl16]; omega)] at hx
  have hfail : j1.failure = s.jobFailure e c dies j := rfl
  obtain ⟨h1, h2, h3⟩ := s.jobFailure_spec e c dies j
  have hbuf : s.bufferOk j1 = s.bufferOk j := State.bufferOk_congr rfl rfl rfl
  have hcmd : s.cmdBytes j1 6 2 = s.cmdBytes j 6 2 := State.cmdBytes_congr rfl rfl 6 2
  refine ⟨s1.modCtx c (fun x => { x with job := some j1 }), j1, dies, rfl, hx, ?_, rfl, rfl, rfl, rfl, rfl, rfl, rfl, rfl, rfl, ?_, ?_, ?_⟩
  · rw [State.ctx_modCtx_self]
  · rw [hfail]; exact h1
  · rw [hfail]; exact h2
  · rw [hfail, hbuf, hcmd]
    intro hall hact
    obtain ⟨h4, h5, h6⟩ := h3 hall hact
    refine ⟨h4, h5, fun hida hb => ⟨h6 hida hb, ?_, rfl⟩⟩
    have hnone : fail = none := h6 hida hb
    exact if_neg (by rw [hnone]; decide)

/-! ### The end of a job -/

theorem State.jobLeft_eff (c : Nat) (ps : List GfxPart) {s u : State} (h : Eff 68719476864 s u) :
    Eff 68719476864 s (ps.foldl (fun t p =>
      let t1 := t.modCtx p.ctx (fun x => { x with guest := if x.guest = some c then none else x.guest, preempted := false })
      if p.taken then t1.setCtxState p.ctx 0 else t1) u) := by
  induction ps generalizing u with
  | nil => exact h
  | cons p ps ih =>
    refine ih ?_
    have h1 := State.modCtx_eff u p.ctx (fun x => { x with guest := if x.guest = some c then none else x.guest, preempted := false }) h rfl
    dsimp only
    split
    · exact State.setReg_eff _ _ _ _ h1 rfl
    · exact h1

theorem State.jobLeft_reg (c : Nat) (ps : List GfxPart) (u : State) (j k : Nat) (hk : k % 256 ≠ 1) :
    (ps.foldl (fun t p =>
      let t1 := t.modCtx p.ctx (fun x => { x with guest := if x.guest = some c then none else x.guest, preempted := false })
      if p.taken then t1.setCtxState p.ctx 0 else t1) u).reg j k = u.reg j k := by
  induction ps generalizing u with
  | nil => rfl
  | cons p ps ih =>
    refine (ih _).trans ?_
    dsimp only
    split
    · exact State.reg_setReg_of_ne _ _ _ _ _ _ (entryKey_inst_ne (Ne.symm hk))
    · rfl

theorem State.reg_gfxLeave (s : State) (d j k : Nat) (hk : k % 256 ≠ 6) : (s.gfxLeave d).reg j k = s.reg j k := by
  have hcount : ∀ (u : State) c n, (u.count (ctxIndex c) 6 n).reg j k = u.reg j k := fun u c n =>
    State.reg_setReg_of_ne _ _ _ _ _ _ (entryKey_inst_ne (Ne.symm hk))
  unfold State.gfxLeave
  split
  · rfl
  · dsimp only
    split
    · exact hcount _ _ _
    · exact hcount _ _ _

/-- The context of a job that ended, before what tells its queue (R448, R450). -/
def State.jobEnded (s : State) (c status : Nat) (j : GfxJob) : State :=
  let s1 := s.each (j.parts.filter (fun p => decide ((s.gdie p.die).running = some p.ctx)) |>.map (·.die)) (fun t d => t.gfxLeave d)
  let s2 := j.parts.foldl (fun t p =>
    let t1 := t.modCtx p.ctx (fun x => { x with guest := if x.guest = some c then none else x.guest, preempted := false })
    if p.taken then t1.setCtxState p.ctx 0 else t1) s1
  let s3 := (((s2.modCtx c (fun x => { x with job := none })).setCtxState c 0).inc (ctxIndex c) 4).setReg (ctxIndex c) 8 status
  if status = Status.ok then s3 else s3.inc (ctxIndex c) 5

theorem State.jobEnded_spec (s : State) (c st : Nat) (j : GfxJob) :
    ((s.jobEnded c st j).ctx c).job = none ∧ (s.jobEnded c st j).reg (ctxIndex c) 8 = st ∧ (s.jobEnded c st j).reg (ctxIndex c) 1 = 0 ∧
    (s.jobEnded c st j).reg (ctxIndex c) 4 = satAdd (entryBits (ctxIndex c) 4) (s.reg (ctxIndex c) 4) 1 ∧
    (s.jobEnded c st j).reg (ctxIndex c) 5 = (if st = Status.ok then s.reg (ctxIndex c) 5 else satAdd (entryBits (ctxIndex c) 5) (s.reg (ctxIndex c) 5) 1) ∧
    s.jobEnded c st j = { s with live := (s.jobEnded c st j).live, gfx := (s.jobEnded c st j).gfx } := by
  have hne : ∀ (u : State) {k m : Nat} (v : Nat), k % 256 ≠ m % 256 → (u.setReg (ctxIndex c) k v).reg (ctxIndex c) m = u.reg (ctxIndex c) m :=
    fun u _ _ v hk => State.reg_setReg_of_ne _ _ _ _ _ _ (entryKey_inst_ne hk)
  have hinc : ∀ (u : State) {k m : Nat}, k % 256 ≠ m % 256 → (u.inc (ctxIndex c) k).reg (ctxIndex c) m = u.reg (ctxIndex c) m :=
    fun u _ _ hk => State.reg_setReg_of_ne _ _ _ _ _ _ (entryKey_inst_ne hk)
  have hself : ∀ (u : State) (k : Nat), (u.inc (ctxIndex c) k).reg (ctxIndex c) k = satAdd (entryBits (ctxIndex c) k) (u.reg (ctxIndex c) k) 1 :=
    fun u k => State.reg_setReg_self _ _ _ _
  unfold State.jobEnded
  extract_lets s1 s2 s3
  have h1 : Eff 68719476864 s s1 ∧ ∀ k, k % 256 ≠ 6 → s1.reg (ctxIndex c) k = s.reg (ctxIndex c) k := by
    refine State.each_keeps (P := fun u => Eff 68719476864 s u ∧ ∀ k, k % 256 ≠ 6 → u.reg (ctxIndex c) k = s.reg (ctxIndex c) k) _ _ (fun u d hu => ?_) _
      ⟨Eff.refl _ s, fun _ _ => rfl⟩
    exact ⟨State.gfxLeave_eff u d hu.1 rfl, fun k hk => (State.reg_gfxLeave u d _ _ hk).trans (hu.2 k hk)⟩
  clear_value s1
  have h2 : Eff 68719476864 s s2 := State.jobLeft_eff c j.parts h1.1
  have hr2 : ∀ k, k % 256 ≠ 6 → k % 256 ≠ 1 → s2.reg (ctxIndex c) k = s.reg (ctxIndex c) k := fun k h6 hk =>
    (State.jobLeft_reg c j.parts s1 _ _ hk).trans (h1.2 k h6)
  clear_value s2
  obtain ⟨u, hu⟩ : ∃ u, u = (s2.modCtx c (fun x => { x with job := none })).setCtxState c 0 := ⟨_, rfl⟩
  have hs3 : s3 = (u.inc (ctxIndex c) 4).setReg (ctxIndex c) 8 st := by rw [hu]
  have hu1 : u.reg (ctxIndex c) 1 = 0 := by rw [hu]; exact State.reg_setCtxState _ _ _
  have hur : ∀ k, k % 256 ≠ 6 → k % 256 ≠ 1 → u.reg (ctxIndex c) k = s.reg (ctxIndex c) k := by
    intro k h6 hk
    rw [hu]
    exact (State.reg_setReg_of_ne _ _ _ _ _ _ (entryKey_inst_ne (Ne.symm hk))).trans (hr2 k h6 hk)
  have huj : (u.ctx c).job = none := by
    rw [hu]
    exact congrArg GfxContext.job (s2.ctx_modCtx_self c (fun x => { x with job := none }))
  have hue : Eff 68719476864 s u := by
    rw [hu]
    exact State.setReg_eff _ _ _ _ (State.modCtx_eff _ _ _ h2 rfl) rfl
  clear_value s3
  subst hs3
  have h3e : Eff 68719476864 s ((u.inc (ctxIndex c) 4).setReg (ctxIndex c) 8 st) := State.setReg_eff _ _ _ _ (State.inc_eff _ _ _ hue rfl) rfl
  have h38 : ((u.inc (ctxIndex c) 4).setReg (ctxIndex c) 8 st).reg (ctxIndex c) 8 = st := State.reg_setReg_self _ _ _ _
  have h31 : ((u.inc (ctxIndex c) 4).setReg (ctxIndex c) 8 st).reg (ctxIndex c) 1 = 0 := by rw [hne _ _ (by decide), hinc _ (by decide), hu1]
  have h34 : ((u.inc (ctxIndex c) 4).setReg (ctxIndex c) 8 st).reg (ctxIndex c) 4 = satAdd (entryBits (ctxIndex c) 4) (s.reg (ctxIndex c) 4) 1 := by
    rw [hne _ _ (by decide), hself, hur 4 (by decide) (by decide)]
  have h35 : ((u.inc (ctxIndex c) 4).setReg (ctxIndex c) 8 st).reg (ctxIndex c) 5 = s.reg (ctxIndex c) 5 := by
    rw [hne _ _ (by decide), hinc _ (by decide), hur 5 (by decide) (by decide)]
  have h3j : (((u.inc (ctxIndex c) 4).setReg (ctxIndex c) 8 st).ctx c).job = none := huj
  generalize (u.inc (ctxIndex c) 4).setReg (ctxIndex c) 8 st = w at *
  by_cases hok : st = Status.ok
  · rw [if_pos hok, if_pos hok]
    exact ⟨h3j, h38, h31, h34, h35, h3e.frame⟩
  · rw [if_neg hok, if_neg hok]
    refine ⟨h3j, ?_, ?_, ?_, ?_, (State.inc_eff w (ctxIndex c) 5 h3e rfl).frame⟩
    · rw [hinc _ (by decide), h38]
    · rw [hinc _ (by decide), h31]
    · rw [hinc _ (by decide), h34]
    · rw [hself, h35]

/-! ### The obligation -/

theorem State.endWait_eq (s : State) (c : Nat) (x : GfxWait) :
    s.endWait c x = ((s.waitCleared c).endEntry x.inst x.q x.tag x.completion Status.ok).gfxSettle := rfl

/-- SIGNAL: its value stored in the instance's memory (R423). -/
theorem signal_stores {e : Entry} {a v : Nat} {z : Bool} {s : State} (hf : s.canFetch e 1 = true) (hfree : s.ctxFree (s.sq e.inst e.q).target = true)
    (hflags : e.flags ≤ 1) (hz : z = true) (ha : a % 8 = 0) :
    ∃ t : State, exec (.signal e a v z) s = .next (t.endEntry e.inst e.q e.tag (bit e.flags 0) Status.ok) ∧
      t = { s with imem := t.imem, insts := t.insts } ∧
      (s.idaOk e.inst a 8 = true → ∀ k, Memory.read t.imem k = if idaKey e.inst a ≤ k ∧ k < idaKey e.inst a + 8 then (leBytes 8 v).getD (k - idaKey e.inst a) 0 else Memory.read s.imem k) ∧
      (s.idaOk e.inst a 8 = false → t.imem = s.imem) := by
  have hu : (s.fetched e).unitsWrite (ctxAttr (s.sq e.inst e.q).target e.inst).inst = true := by
    have h0 : s.instState e.inst = 1 := State.canFetch_instState hf
    have h1 : (s.fetched e).instState e.inst = 1 := h0
    unfold State.unitsWrite
    exact decide_eq_true (by rw [show (ctxAttr (s.sq e.inst e.q).target e.inst).inst = e.inst from rfl, h1]; decide)
  obtain ⟨hframe, hin, hout⟩ := State.writeIda_spec (a := a) (bs := leBytes 8 v) hu
  rw [length_leBytes] at hin hout
  have hida : (s.fetched e).idaOk e.inst a 8 = s.idaOk e.inst a 8 := s.idaOk_fetched e _ _ _
  refine ⟨_, ?_, ?_, fun h => hin (hida.trans h), fun h => hout (hida.trans h)⟩
  · rw [exec_signal]
    unfold execSignal
    rw [if_neg (by simp [hfree]), if_neg (by simp [hf]), if_neg (by simp [entryFlagsOk, hflags, hz, ha])]
    rfl
  · exact hframe.trans rfl

/-- WAIT: the wait that its context then holds, over at once when its value is reached (R423). -/
theorem wait_holds {e : Entry} {a v w : Nat} {z : Bool} {s : State} (hf : s.canFetch e 1 = true) (hfree : s.ctxFree (s.sq e.inst e.q).target = true)
    (hflags : e.flags ≤ 1) (hz : z = true) (ha : a % 8 = 0) (hw : w ≤ 10000000) :
    ∃ (t : State) (x : GfxWait), x.inst = e.inst ∧ x.q = e.q ∧ x.tag = e.tag ∧ x.completion = bit e.flags 0 ∧ x.addr = a ∧ x.value = v ∧
      x.deadline = (if w = 0 then none else some (s.now + us w)) ∧ (t.ctx (s.sq e.inst e.q).target).wait = some x ∧ t = { s with insts := t.insts, gfx := t.gfx } ∧
      exec (.wait e a v w z) s = .next (if v ≤ leNat (s.readIda (ctxAttr (s.sq e.inst e.q).target e.inst) a 8) then t.endWait (s.sq e.inst e.q).target x else t.setReg (ctxIndex (s.sq e.inst e.q).target) 1 3) := by
  have hx : exec (.wait e a v w z) s = execWait e a v w z s := rfl
  unfold execWait at hx
  extract_lets c x s1 at hx
  rw [if_neg (by simp [hfree, c]), if_neg (by simp [hf]), if_neg (by simp [entryFlagsOk, hflags, hz, ha]; omega)] at hx
  have hmet : s1.waitMet c x = decide (v ≤ leNat (s.readIda (ctxAttr c e.inst) a 8)) := by
    rw [← State.readIda_fetched s e]
    rfl
  rw [hmet] at hx
  refine ⟨s1, x, rfl, rfl, rfl, rfl, rfl, rfl, rfl, ?_, rfl, hx.trans ?_⟩
  · exact congrArg GfxContext.wait ((s.fetched e).ctx_modCtx_self c (fun y => { y with wait := some x }))
  · simp only [decide_eq_true_eq]
    rfl

/-- The end of a job, with what its failure reports (R448). -/
theorem State.endJob_spec {c st : Nat} {j : GfxJob} {s : State} (hj : (s.ctx c).job = some j) :
    s.endJob c st false = (State.endEntry (match j.failure with
      | some f => (s.jobEnded c st j).event j.inst 0x80 c st (ctxDie c) f.reason (f.dies * 2 ^ 56 + f.pass * 2 ^ 48 + f.offset)
      | none => s.jobEnded c st j) j.inst j.q j.tag j.completion st).gfxSettle := by
  unfold State.endJob
  rw [hj]
  dsimp only
  cases j.failure <;> rfl

/-- The time limit of a job that runs: its failure kept, and its cores asked for (R447). -/
theorem jobTimeLimit_runs {c d : Nat} {j : GfxJob} {p : GfxPart} {s u : State} (hj : (s.ctx c).job = some j) (hp : j.parts.find? (fun p => p.die = d) = some p)
    (hlimit : s.reg (ctxIndex c) 2 ≠ 0) (hu : u = s.arriveAt ((s.gdie d).since + (ms (s.reg (ctxIndex c) 2) - p.ran))) (hrun : (s.gdie d).running = some p.ctx) :
    ∃ t : State, exec (.jobTimeLimit c d) s = .next t ∧ t = { u with gfx := t.gfx } ∧ (t.gdie d).request = some ((s.gdie d).request.getD u.now) ∧
      (t.ctx c).job = some { j with failure := some (j.failure.getD { status := Status.timeout, reason := 3, dies := 2 ^ d, pass := j.index, offset := 0 }) } := by
  have hx : exec (.jobTimeLimit c d) s = execJobTimeLimit c d s := rfl
  unfold execJobTimeLimit at hx
  rw [hj] at hx
  dsimp only at hx
  rw [hp] at hx
  dsimp only at hx
  rw [if_neg (by simp [hlimit, hrun]), ← hu] at hx
  have hg : u.gdie d = s.gdie d := by rw [hu]; rfl
  have hc : (u.ctx c).job = some j := by rw [hu]; exact hj
  clear hu
  refine ⟨_, hx, ?_, ?_, ?_⟩
  · unfold State.requestPreemption
    split <;> rfl
  · unfold State.requestPreemption
    rw [show ∀ f, (u.modJob c f).gdie d = u.gdie d from fun _ => rfl, if_pos (by rw [hg, hrun]; rfl), State.gdie_modGdie, if_pos rfl,
      show ∀ f, (u.modJob c f).gdie d = u.gdie d from fun _ => rfl, hg]
    rfl
  · have hkeep : ∀ v : State, (v.requestPreemption d).ctx c = v.ctx c := by
      intro v
      unfold State.requestPreemption
      split <;> rfl
    rw [hkeep]
    unfold State.modJob
    rw [State.ctx_modCtx_self]
    dsimp only
    rw [hc]
    rfl

/-- Settles O49: the gates of an entry and of a job, and the branches of each. -/
theorem graphicsQueues : Obligations.GraphicsQueues := by
  unfold Obligations.GraphicsQueues
  refine ⟨fun e a v w z s => ⟨fun hfree => ?_, fun hfree hf => ?_⟩, fun e op a l m z s => ⟨fun h => ?_, fun hfree hslot hf => ?_⟩,
    fun e a v z s hf hfree => ⟨fun h => ?_, fun hflags hz ha => signal_stores hf hfree hflags hz ha⟩,
    fun e a v w z s hf hfree => ⟨fun h => ?_, fun hflags hz ha hw => wait_holds hf hfree hflags hz ha hw⟩,
    fun c s h => ?_, fun c x s h => ⟨?_, fun hd => ?_⟩, fun c d x s u h hd hu => ⟨fun hmet => ?_, fun hmet => ?_⟩, fun c x s => ?_,
    fun e op a l m z s hf hfree hslot => ⟨fun h => ?_, fun hop hflags hz ha hl hl' hl16 => job_starts hf hfree hslot hop hflags hz ha hl hl' hl16⟩,
    fun c s h => ?_, fun c j s h hrun => ?_, fun c j s h hpass hend => ?_, fun c st j s h => ?_, fun c d s h => ?_,
    fun c d j p s u hj hp hlimit hu => ⟨fun hrun => ?_, fun hrun => jobTimeLimit_runs hj hp hlimit hu hrun⟩, State.gfxSettle_frame⟩
  · have hno : (!s.ctxFree (s.sq e.inst e.q).target) = true := by rw [hfree]; rfl
    exact ⟨if_pos hno, if_pos hno⟩
  · have hyes : ¬(!s.ctxFree (s.sq e.inst e.q).target) = true := by rw [hfree]; decide
    have hno : (!s.canFetch e 1) = true := by rw [hf]; rfl
    exact ⟨(if_neg hyes).trans (if_pos hno), (if_neg hyes).trans (if_pos hno)⟩
  · refine if_pos ?_
    rcases h with h | ⟨d, hd, hm, hs⟩
    · exact .inl (by rw [h]; rfl)
    · exact .inr (List.any_eq_true.2 ⟨d, List.mem_range.2 hd, by rw [hm, hs]; rfl⟩)
  · have hany : (List.range 8).any (fun d => bit m d && s.inFieldSlot d) = false := List.any_eq_false.2 fun d hd => by
      simp only [Bool.and_eq_true, not_and, Bool.not_eq_true]
      exact hslot d (List.mem_range.1 hd)
    rw [exec_job]
    unfold execJob
    dsimp only
    rw [if_neg (by rw [hany]; simp [hfree]), if_pos (by simp [hf])]
  · rw [exec_signal]
    unfold execSignal
    rw [if_neg (by simp [hfree]), if_neg (by simp [hf]), if_pos (by rcases h with h | h | h <;> simp [entryFlagsOk, h])]
  · rw [exec_wait]
    unfold execWait
    dsimp only
    rw [if_neg (by simp [hfree]), if_neg (by simp [hf]), if_pos (by rcases h with h | h | h | h <;> simp [entryFlagsOk, h])]
  · rw [exec_waitSatisfied, exec_waitTimeout, execWaitSatisfied, execWaitTimeout, h]
    exact ⟨rfl, rfl⟩
  · rw [exec_waitSatisfied, execWaitSatisfied, h]
    dsimp only
    unfold State.waitMet
    simp only [decide_eq_true_eq]
  · rw [exec_waitTimeout, execWaitTimeout, h]
    dsimp only
    rw [hd]
  · rw [exec_waitTimeout, execWaitTimeout, h]
    dsimp only
    rw [hd]
    dsimp only
    rw [← hu, if_pos (by rw [hu]; exact decide_eq_true hmet)]
  · have hx : exec (.waitTimeout c) s = .next ((u.waitCleared c).stopQueue x.inst x.q Status.timeout) := by
      rw [exec_waitTimeout, execWaitTimeout, h]
      dsimp only
      rw [hd]
      dsimp only
      rw [← hu, if_neg (by rw [hu]; exact fun hyes => absurd (of_decide_eq_true hyes) (Nat.not_le.2 hmet))]
      rfl
    obtain ⟨hwait, hjob, hreg, hframe, hlive⟩ := u.waitCleared_spec c
    have hl : ∀ i k, u.liveAt i k = s.liveAt i k := by rw [hu]; exact fun _ _ => rfl
    refine ⟨_, hx, hwait, hjob.trans (by rw [hu]; rfl), hreg, hframe, ?_⟩
    exact fun i k hk => (hlive i k hk).trans (hl i k)
  · obtain ⟨hwait, -, hreg, hframe, hlive⟩ := s.waitCleared_spec c
    exact ⟨_, s.endWait_eq c x, hwait, hreg, hframe, hlive⟩
  · have hany : (List.range 8).any (fun d => bit m d && s.inFieldSlot d) = false := List.any_eq_false.2 fun d hd => by
      simp only [Bool.and_eq_true, not_and, Bool.not_eq_true]
      exact hslot d (List.mem_range.1 hd)
    rw [exec_job]
    unfold execJob
    dsimp only
    rw [if_neg (by rw [hany]; simp [hfree]), if_neg (by simp [hf]), if_pos (by rcases h with h | h | h | h | h | h | h <;> simp [entryFlagsOk, h])]
  · rw [exec_jobDone, execJobDone, h]
  · rw [exec_jobDone, execJobDone, h]
    exact if_pos hrun
  · rw [exec_jobDone, execJobDone, h]
    refine if_neg ?_
    rintro (hsome | ⟨hnone, hlt⟩)
    · rw [hpass] at hsome; cases hsome
    · rcases hend with hsome | hle
      · rw [hnone] at hsome; cases hsome
      · omega
  · obtain ⟨hjob, h8, h1, h4, h5, hframe⟩ := s.jobEnded_spec c st j
    exact ⟨s.jobEnded c st j, State.endJob_spec h, hjob, h8, h1, h4, h5, hframe⟩
  · rw [exec_jobTimeLimit]
    unfold execJobTimeLimit
    dsimp only
    rcases h with h | h | ⟨j, hj, hp⟩
    · rw [h]
    · split
      · rfl
      · split
        · rfl
        · exact if_pos (.inl h)
    · rw [hj]
      dsimp only
      rw [hp]
  · rw [exec_jobTimeLimit]
    unfold execJobTimeLimit
    rw [hj]
    dsimp only
    rw [hp]
    exact if_pos (.inr hrun)

end Sys2Proof.Machine
end

section
/-! PROOF of the graphics passes and the cores (R425 to R429, R431 to R436, R443 to R445, R447, R450, R454). -/
set_option Elab.async false
namespace Sys2Proof.Machine

/-! ### A job and what a mark on it changes -/

theorem State.job_modJob {s : State} {c : Nat} {j : GfxJob} (f : GfxJob → GfxJob) (h : (s.ctx c).job = some j) : ((s.modJob c f).ctx c).job = some (f j) := by
  unfold State.modJob
  rw [State.ctx_modCtx_self]
  exact congrArg (Option.map f) h

/-- A counter of each die of a list without repetition counts once. -/
theorem State.each_inc_once (k : Nat) {n : Nat} : ∀ (l : List Nat) (s : State), l.Nodup → n ∈ l →
    (s.each l (fun t i => t.inc (0x4808 + i) k)).reg (0x4808 + n) k = satAdd (entryBits (0x4808 + n) k) (s.reg (0x4808 + n) k) 1 := by
  have hskip : ∀ (s : State) (i : Nat), i ≠ n → (s.inc (0x4808 + i) k).reg (0x4808 + n) k = s.reg (0x4808 + n) k := fun s i hi =>
    State.reg_setReg_of_ne _ _ _ _ _ _ (by unfold entryKey; omega)
  have hout : ∀ (l : List Nat) (s : State), n ∉ l → (s.each l (fun t i => t.inc (0x4808 + i) k)).reg (0x4808 + n) k = s.reg (0x4808 + n) k := by
    intro l
    induction l with
    | nil => exact fun _ _ => rfl
    | cons i l ih =>
      intro s hn
      rw [List.mem_cons, not_or] at hn
      exact (ih _ hn.2).trans (hskip s i (Ne.symm hn.1))
  intro l
  induction l with
  | nil => exact fun _ _ h => absurd h (by simp)
  | cons i l ih =>
    intro s hd hn
    rw [List.nodup_cons] at hd
    by_cases hi : i = n
    · subst hi
      exact (hout l _ hd.1).trans (State.reg_setReg_self _ _ _ _)
    · rcases List.mem_cons.1 hn with h | h
      · exact absurd h.symm hi
      · refine (ih _ hd.2 h).trans ?_
        rw [hskip s i hi]

/-! ### A pass begins -/

theorem passBegin_begins {c : Nat} {j : GfxJob} {d : List Byte} {s : State} (hj : (s.ctx c).job = some j) (hpass : j.pass = none) (hfail : j.failure = none)
    (hidx : j.index < j.passes) (htaken : j.parts.all (·.taken) = true) (hrun : s.jobRunning j = true) (hd : d = s.cmdBytes j j.offset 128) :
    (passOk d = false → exec (.passBegin c) s = .next (s.modJob c (fun k => { k with failure := some (k.failure.getD { status := Status.range, reason := 1, pass := k.index, offset := k.offset }) }))) ∧
    (passOk d = true → ∃ (t : State) (p : GfxPass), exec (.passBegin c) s = .next t ∧ p.desc = d ∧ p.binned = passBinned d j.parts.length ∧ p.cursor = j.offset + 128 ∧
      p.ending = j.offset + 128 + field d 8 4 ∧ p.pipeline = none ∧ p.draws = [] ∧
      (t.ctx c).job = some { j with pass := some p, parts := j.parts.map (fun q => { q with binned := passBinned d j.parts.length, overflows := 0, flushed := [] }) } ∧
      t = { s with live := t.live, gfx := t.gfx } ∧
      (∀ n, (j.parts.map (·.die)).Nodup → n ∈ j.parts.map (·.die) → t.reg (0x4808 + n) (if passBinned d j.parts.length then 3 else 4) =
        satAdd (entryBits (0x4808 + n) (if passBinned d j.parts.length then 3 else 4)) (s.reg (0x4808 + n) (if passBinned d j.parts.length then 3 else 4)) 1)) := by
  have hx : exec (.passBegin c) s = execPassBegin c s := rfl
  unfold execPassBegin at hx
  rw [hj] at hx
  dsimp only at hx
  rw [if_neg (by simp [hpass, hfail, htaken, hrun, hidx]), ← hd] at hx
  refine ⟨fun hok => ?_, fun hok => ?_⟩
  · rw [if_pos (by rw [hok]; rfl)] at hx
    exact hx
  · rw [if_neg (by rw [hok]; decide)] at hx
    obtain ⟨p, hp⟩ : ∃ p : GfxPass, p = { desc := d, binned := passBinned d j.parts.length, cursor := j.offset + 128, ending := j.offset + 128 + field d 8 4 } := ⟨_, rfl⟩
    rw [← hp] at hx
    have hgfx : ∀ u : State, Eff 128 u (u.each (j.parts.map (·.die)) (fun t k => t.inc (0x4808 + k) (if passBinned d j.parts.length then 3 else 4))) := fun u =>
      State.each_keeps (P := Eff 128 u) _ _ (fun t n ht => State.inc_eff t _ _ ht rfl) _ (Eff.refl _ u)
    refine ⟨_, p, hx, by rw [hp], by rw [hp], by rw [hp], by rw [hp], by rw [hp], by rw [hp], ?_, ?_, fun n hnd hn => ?_⟩
    · rw [(hgfx _).frame]
      exact State.job_modJob _ hj
    · rw [(hgfx _).frame]
      rfl
    · exact (State.each_inc_once _ _ _ hnd hn).trans rfl

/-! ### The draw stream -/

theorem takeCommand_idle {c op : Nat} {j : GfxJob} {s : State} (hj : (s.ctx c).job = some j)
    (h : j.pass = none ∨ j.failure.isSome = true ∨ s.jobRunning j = false ∨ (∃ p, j.pass = some p ∧ p.ending ≤ p.cursor)) : s.takeCommand c op = s := by
  unfold State.takeCommand
  rw [hj]
  dsimp only
  cases hp : j.pass with
  | none => rfl
  | some p =>
    refine if_pos ?_
    rcases h with h | h | h | ⟨q, hq, hle⟩
    · rw [hp] at h; cases h
    · exact .inl h
    · exact .inr (.inr (by rw [h]; rfl))
    · rw [hp] at hq; cases hq
      exact .inr (.inl hle)

/-- What a command that can be taken does: refuse, wait for its turn, or change the pass (R428, R429). -/
theorem State.takeCommand_eq {c : Nat} {j : GfxJob} {p : GfxPass} {s : State} (hj : (s.ctx c).job = some j) (hp : j.pass = some p) (hfail : j.failure = none)
    (hlt : p.cursor < p.ending) (hrun : s.jobRunning j = true) (op : Nat) :
    s.takeCommand c op =
      if field (s.cmdBytes j p.cursor 4) 2 2 ≠ commandLength (field (s.cmdBytes j p.cursor 4) 0 2) ∨ field (s.cmdBytes j p.cursor 4) 2 2 = 0 ∨
          p.ending < p.cursor + field (s.cmdBytes j p.cursor 4) 2 2 then
        s.modJob c (fun k => { k with failure := some (k.failure.getD { status := Status.range, reason := 1, pass := k.index, offset := p.cursor }) })
      else if field (s.cmdBytes j p.cursor 4) 0 2 ≠ op then s
      else ((s.drawCommand j p op (s.cmdBytes j p.cursor (field (s.cmdBytes j p.cursor 4) 2 2))).map (fun q =>
        s.modJob c (fun k => { k with pass := some { q with cursor := p.cursor + field (s.cmdBytes j p.cursor 4) 2 2 } }))).getD
          (s.modJob c (fun k => { k with failure := some (k.failure.getD { status := Status.range, reason := 1, pass := k.index, offset := p.cursor }) })) := by
  conv_lhs => unfold State.takeCommand
  rw [hj]
  dsimp only
  rw [hp]
  dsimp only
  rw [if_neg (by simp [hfail, hrun, hlt])]
  cases s.drawCommand j p op (s.cmdBytes j p.cursor (field (s.cmdBytes j p.cursor 4) 2 2)) <;> rfl

/-- One command at its place in the stream that is whole: its answer by the table of R429. -/
theorem State.takeCommand_draws {c op : Nat} {j : GfxJob} {p : GfxPass} {s bad : State} {go : GfxPass → State} (hj : (s.ctx c).job = some j) (hp : j.pass = some p) (hfail : j.failure = none)
    (hlt : p.cursor < p.ending) (hrun : s.jobRunning j = true)
    (hbad : bad = s.modJob c (fun k => { k with failure := some (k.failure.getD { status := Status.range, reason := 1, pass := k.index, offset := p.cursor }) }))
    (hgo : ∀ q, go q = s.modJob c (fun k => { k with pass := some { q with cursor := p.cursor + field (s.cmdBytes j p.cursor 4) 2 2 } }))
    (ho : field (s.cmdBytes j p.cursor 4) 0 2 = op) (hl : field (s.cmdBytes j p.cursor 4) 2 2 = commandLength op) (hpos : commandLength op ≠ 0)
    (hend : p.cursor + field (s.cmdBytes j p.cursor 4) 2 2 ≤ p.ending) :
    s.takeCommand c op = ((s.drawCommand j p op (s.cmdBytes j p.cursor (field (s.cmdBytes j p.cursor 4) 2 2))).map go).getD bad := by
  rw [State.takeCommand_eq hj hp hfail hlt hrun op, if_neg (by simp only [ho, hl] at hend ⊢; simp only [ne_eq, not_true_eq_false, false_or, not_or]; omega), if_neg (by simp [ho]),
    ← hbad, ← funext hgo]

theorem commandLength_eq_zero {o : Nat} (h : o = 0 ∨ 7 < o) : commandLength o = 0 := by
  unfold commandLength
  rw [if_neg (by omega), if_neg (by omega), if_neg (by omega)]

/-! ### A tile list that overflows, and a pass that ends -/

theorem execPassDone_eq {c : Nat} {r : List TileData} {b : List (List Nat)} {j : GfxJob} {p : GfxPass} {s : State} (hj : (s.ctx c).job = some j) (hp : j.pass = some p)
    (h : (p.ending ≤ p.cursor ∧ s.jobRunning j = true) ∨ j.failure.isSome = true) :
    ∃ u t : State, u = ((s.each (List.range b.length) (fun t i => t.fillSlice j p.desc i (b.getD i []))).finishTiles j p.desc r).modJob c
        (fun k => { k with pass := none, index := k.index + 1, offset := p.ending }) ∧
      t = (if s.passTranslates j.inst p.desc then u else u.modJob c (fun k => { k with failure := some (k.failure.getD { status := Status.deniedInstance, reason := 2, pass := j.index, offset := 0 }) })) ∧
      exec (.passDone c r b) s = .next t := by
  refine ⟨_, _, rfl, rfl, ?_⟩
  rw [exec_passDone]
  unfold execPassDone
  rw [hj]
  dsimp only
  rw [hp]
  dsimp only
  rw [if_neg]
  · rfl
  · rintro ⟨hleft, hnone⟩
    rcases h with ⟨hle, hrun⟩ | h
    · rcases hleft with hlt | hno
      · omega
      · rw [hrun] at hno; cases hno
    · rw [hnone] at h; cases h

theorem passDone_ends {c : Nat} {r : List TileData} {b : List (List Nat)} {j : GfxJob} {p : GfxPass} {s u : State} (hj : (s.ctx c).job = some j) (hp : j.pass = some p)
    (hu : u = s.each (List.range b.length) (fun t i => t.fillSlice j p.desc i (b.getD i [])))
    (h : (p.ending ≤ p.cursor ∧ s.jobRunning j = true) ∨ j.failure.isSome = true) :
    ∃ t : State, exec (.passDone c r b) s = .next t ∧
      t = { s with free := t.free, live := t.live, imem := t.imem, insts := t.insts, gfx := t.gfx } ∧ t.imem = (u.finishTiles j p.desc r).imem ∧
      (t.ctx c).job = some { j with pass := none, index := j.index + 1, offset := p.ending, failure := if s.passTranslates j.inst p.desc then j.failure else some (j.failure.getD { status := Status.deniedInstance, reason := 2, pass := j.index, offset := 0 }) } := by
  obtain ⟨v, t, hv, ht, hx⟩ := execPassDone_eq (r := r) (b := b) hj hp h
  rw [← hu] at hv
  have hue : Eff 2105536 s u := by
    rw [hu]
    exact State.each_keeps (P := Eff 2105536 s) _ _ (fun t n ht => State.fillSlice_eff t _ _ _ _ ht rfl) _ (Eff.refl _ s)
  have hwe : Eff 2105536 s (u.finishTiles j p.desc r) := State.finishTiles_eff u j p.desc r hue rfl
  have hwj : ((u.finishTiles j p.desc r).ctx c).job = some j := by
    rw [hwe.frame]
    exact hj
  have hve : Eff 68721582272 s v := by
    rw [hv]
    exact State.modJob_eff _ c _ (Eff.call (Eff.refl _ s) hwe rfl) rfl
  have hvj : (v.ctx c).job = some { j with pass := none, index := j.index + 1, offset := p.ending } := by
    rw [hv]
    exact State.job_modJob _ hwj
  have hvm : v.imem = (u.finishTiles j p.desc r).imem := by rw [hv]; rfl
  refine ⟨t, hx, ?_⟩
  clear hx hv
  rw [ht]
  cases s.passTranslates j.inst p.desc with
  | true =>
    rw [if_pos rfl, if_pos rfl]
    exact ⟨hve.frame, hvm, hvj⟩
  | false =>
    rw [if_neg (by decide), if_neg (by decide)]
    exact ⟨(State.modJob_eff v c _ hve rfl).frame, hvm, State.job_modJob _ hvj⟩

/-- A tile list that fills its slice: the die's list is flushed, counted, and the second turns the die to IMMEDIATE (R434). -/
theorem tileListOverflow_fills {c d : Nat} {fl : List TileData} {tl : List Nat} {j : GfxJob} {p : GfxPass} {q : GfxPart} {s : State} (hj : (s.ctx c).job = some j)
    (hp : j.pass = some p) (hq : j.parts.find? (fun p => p.die = d) = some q) (hb : q.binned = true) (hrun : (s.gdie d).running = some q.ctx)
    (hfill : sliceFills p.desc j.parts.length tl = true) :
    ∃ (t : State) (k : GfxJob), exec (.tileListOverflow c d fl tl) s =
        .next (if s.reg (ctxIndex c) 3 = 1 then t.event j.inst 0x81 c Status.ok d (if q.overflows = 1 then 2 else 1) (j.index * 2 ^ 48 + j.tag) else t) ∧
      (t.ctx c).job = some k ∧ k = { j with parts := k.parts } ∧ (∀ x ∈ k.parts, x.die = d → x.binned = decide (q.overflows ≠ 1)) ∧
      k.parts.map (·.overflows) = j.parts.map (fun x => if x.die = d then x.overflows + 1 else x.overflows) ∧
      t.reg (0x4808 + d) 5 = satAdd (entryBits (0x4808 + d) 5) (s.reg (0x4808 + d) 5) 1 ∧
      t.reg (0x4808 + d) 6 = (if q.overflows = 1 then satAdd (entryBits (0x4808 + d) 6) (s.reg (0x4808 + d) 6) 1 else s.reg (0x4808 + d) 6) ∧
      t = { s with free := t.free, live := t.live, imem := t.imem, insts := t.insts, gfx := t.gfx } := by
  have hx : exec (.tileListOverflow c d fl tl) s = execTileListOverflow c d fl s tl := rfl
  unfold execTileListOverflow at hx
  rw [hj] at hx
  dsimp only at hx
  rw [hp, hq] at hx
  dsimp only at hx
  rw [if_neg (by simp [hb, hrun, hfill])] at hx
  obtain ⟨mine, hmine⟩ : ∃ l, l = fl.filter (fun t => decide ((rowOwner j.parts (tileGrid p.desc).2 t.ty).map (·.die) = some d)) := ⟨_, rfl⟩
  rw [← hmine] at hx
  obtain ⟨v, hv⟩ : ∃ v, v = ((mine.map (fun t => (t.tx, t.ty))).eraseDups).foldl (fun u t => u.flushTile j p.desc q mine t)
      (s.fillSlice j p.desc (j.parts.findIdx (fun q => q.die = d)) tl.dropLast) := ⟨_, rfl⟩
  rw [← hv] at hx
  have hve : Eff 2105408 s v := by
    rw [hv]
    exact Eff.foldl (State.fillSlice_eff s _ _ _ _ (Eff.refl _ s) rfl) (fun u t hu => State.flushTile_eff u _ _ _ _ _ hu rfl)
  have hvj : (v.ctx c).job = some j := by rw [hve.frame]; exact hj
  have hvr : ∀ i k, v.reg i k = s.reg i k := fun i k => by rw [hve.frame]; rfl
  clear hv
  obtain ⟨w, hw⟩ : ∃ w, w = v.modJob c (fun k => { k with parts := k.parts.map (fun x =>
      if x.die = d then { x with overflows := x.overflows + 1, binned := !decide (q.overflows = 1), flushed := x.flushed ++ mine.map (fun t => (t.tx, t.ty)) } else x) }) := ⟨_, rfl⟩
  rw [← hw] at hx
  have hwe : Eff 68721582272 s w := by
    rw [hw]
    exact State.modJob_eff _ c _ (Eff.call (Eff.refl _ s) hve rfl) rfl
  have hwj : (w.ctx c).job = some { j with parts := j.parts.map (fun x =>
      if x.die = d then { x with overflows := x.overflows + 1, binned := !decide (q.overflows = 1), flushed := x.flushed ++ mine.map (fun t => (t.tx, t.ty)) } else x) } := by
    rw [hw]
    exact State.job_modJob _ hvj
  have hwr : ∀ i k, w.reg i k = s.reg i k := fun i k => by rw [hw]; exact hvr i k
  clear hw
  have hflag : (if decide (q.overflows = 1) = true then 2 else 1) = if q.overflows = 1 then 2 else 1 := by simp only [decide_eq_true_eq]
  have hself : ∀ (u : State) (k : Nat), (u.inc (0x4808 + d) k).reg (0x4808 + d) k = satAdd (entryBits (0x4808 + d) k) (u.reg (0x4808 + d) k) 1 :=
    fun u k => State.reg_setReg_self _ _ _ _
  have hinc : ∀ (u : State) {k m : Nat}, k % 256 ≠ m % 256 → (u.inc (0x4808 + d) k).reg (0x4808 + d) m = u.reg (0x4808 + d) m :=
    fun u _ _ hk => State.reg_setReg_of_ne _ _ _ _ _ _ (entryKey_inst_ne hk)
  have h5e : Eff 68721582272 s (w.inc (0x4808 + d) 5) := State.inc_eff _ _ _ hwe rfl
  rw [hflag] at hx
  refine ⟨_, { j with parts := j.parts.map (fun x =>
      if x.die = d then { x with overflows := x.overflows + 1, binned := !decide (q.overflows = 1), flushed := x.flushed ++ mine.map (fun t => (t.tx, t.ty)) } else x) }, hx,
    ?_, rfl, ?_, ?_, ?_, ?_, ?_⟩
  · split <;> exact hwj
  · intro x hx hd
    obtain ⟨y, -, rfl⟩ := List.mem_map.1 hx
    split at hd
    · next hy => rw [if_pos hy]; by_cases h1 : q.overflows = 1 <;> simp [h1]
    · next hy => exact absurd hd hy
  · rw [List.map_map]
    refine List.map_congr_left fun y _ => ?_
    simp only [Function.comp_apply]
    split <;> rfl
  · by_cases h1 : q.overflows = 1
    · rw [if_pos (decide_eq_true h1), hinc _ (by decide), hself, hwr]
    · rw [if_neg (by simpa using h1), hself, hwr]
  · by_cases h1 : q.overflows = 1
    · rw [if_pos (decide_eq_true h1), if_pos h1, hself, hinc _ (by decide), hwr]
    · rw [if_neg (by simpa using h1), if_neg h1, hinc _ (by decide), hwr]
  · by_cases h1 : q.overflows = 1
    · rw [if_pos (decide_eq_true h1)]
      exact (State.inc_eff _ _ _ h5e rfl).frame
    · rw [if_neg (by simpa using h1)]
      exact h5e.frame

/-! ### Signatures -/

theorem Crc.bitStep_lt {p : Crc.Params} (hp : p.poly < 2 ^ p.width) (r : Nat) (b : Bool) : Crc.bitStep p r b < 2 ^ p.width := by
  have h : 2 * r % 2 ^ p.width < 2 ^ p.width := Nat.mod_lt _ (Nat.two_pow_pos _)
  unfold Crc.bitStep
  dsimp only
  split
  · exact Nat.xor_lt_two_pow h hp
  · exact h

theorem Crc.byteStep_lt {p : Crc.Params} (hp : p.poly < 2 ^ p.width) {r : Nat} (hr : r < 2 ^ p.width) (v : Byte) : Crc.byteStep p r v < 2 ^ p.width := by
  unfold Crc.byteStep
  dsimp only
  generalize List.range 8 = l
  induction l generalizing r with
  | nil => exact hr
  | cons i l ih => exact ih (Crc.bitStep_lt hp _ _)

theorem Crc.run_lt {p : Crc.Params} (hp : p.poly < 2 ^ p.width) : ∀ (bs : List Byte) {r : Nat}, r < 2 ^ p.width → Crc.run p r bs < 2 ^ p.width
  | [], _, hr => hr
  | b :: bs, _, hr => Crc.run_lt hp bs (Crc.byteStep_lt hp hr b)

theorem tileSignature_lt (bs : List Byte) : tileSignature bs < 2 ^ 64 - 1 := by
  have h : Crc.value crc64 bs < 2 ^ 64 := by
    have hrun : Crc.run crc64 0 bs < 2 ^ 64 := Crc.run_lt (p := crc64) (by decide) bs (by decide)
    exact Nat.xor_lt_two_pow hrun (by decide)
  unfold tileSignature
  dsimp only
  split <;> omega

theorem crc64_check : Crc.value crc64 [0x31, 0x32, 0x33, 0x34, 0x35, 0x36, 0x37, 0x38, 0x39] = 0x6C40DF5F0B497347 := by decide +kernel

/-! ### The cores -/

theorem State.gdie_modGdie_self (s : State) (d : Nat) (f : GfxDie → GfxDie) : (s.modGdie d f).gdie d = f (s.gdie d) := by
  rw [State.gdie_modGdie, if_pos rfl]

theorem State.gdie_gfxLeave {s : State} {d c : Nat} (h : (s.gdie d).running = some c) :
    ((s.gfxLeave d).gdie d).running = none ∧ ((s.gfxLeave d).gdie d).request = none := by
  have hcount : ∀ (u : State) i k n, (u.count i k n).gdie d = u.gdie d := fun _ _ _ _ => rfl
  have hjob : ∀ (u : State) c f, (u.modJob c f).gdie d = u.gdie d := fun _ _ _ => rfl
  unfold State.gfxLeave
  rw [h]
  dsimp only
  split
  · rw [hcount, State.gdie_modGdie_self]
    exact ⟨rfl, rfl⟩
  · rw [hjob, hcount, State.gdie_modGdie_self]
    exact ⟨rfl, rfl⟩

theorem State.reg_gfxLeave_busy {s : State} {d c : Nat} (h : (s.gdie d).running = some c) :
    (s.gfxLeave d).reg (ctxIndex c) 6 = satAdd (entryBits (ctxIndex c) 6) (s.reg (ctxIndex c) 6) (s.now - (s.gdie d).since) := by
  have hcount : ∀ (u : State) n, (u.count (ctxIndex c) 6 n).reg (ctxIndex c) 6 = satAdd (entryBits (ctxIndex c) 6) (u.reg (ctxIndex c) 6) n :=
    fun u n => State.reg_setReg_self _ _ _ _
  have hjob : ∀ (u : State) c f i k, (u.modJob c f).reg i k = u.reg i k := fun _ _ _ _ _ => rfl
  have hdie : ∀ (u : State) f i k, (u.modGdie d f).reg i k = u.reg i k := fun _ _ _ _ => rfl
  unfold State.gfxLeave
  rw [h]
  dsimp only
  split
  · rw [hcount, hdie]
  · rw [hjob, hcount, hdie]

/-- The state of a pre-empted die before the use of its reserved context counts. -/
def State.vacated (s : State) (d c : Nat) : State := (((s.gfxLeave d).modCtx c (fun x => { x with preempted := true })).inc (ctxIndex c) 7).setCtxState c 2

theorem State.vacated_spec {d c : Nat} {s : State} (h : (s.gdie d).running = some c) :
    ((s.vacated d c).gdie d).running = none ∧ ((s.vacated d c).gdie d).request = none ∧ ((s.vacated d c).ctx c).preempted = true ∧
    (s.vacated d c).reg (ctxIndex c) 1 = 2 ∧ (s.vacated d c).reg (ctxIndex c) 7 = satAdd (entryBits (ctxIndex c) 7) (s.reg (ctxIndex c) 7) 1 ∧
    (s.vacated d c).reg (ctxIndex c) 6 = satAdd (entryBits (ctxIndex c) 6) (s.reg (ctxIndex c) 6) (s.now - (s.gdie d).since) := by
  obtain ⟨hrun, hreq⟩ := State.gdie_gfxLeave h
  have hne : ∀ (u : State) {k m : Nat} (v : Nat), k % 256 ≠ m % 256 → (u.setReg (ctxIndex c) k v).reg (ctxIndex c) m = u.reg (ctxIndex c) m :=
    fun u _ _ v hk => State.reg_setReg_of_ne _ _ _ _ _ _ (entryKey_inst_ne hk)
  have hctx : ∀ (u : State) f i k, (u.modCtx c f).reg i k = u.reg i k := fun _ _ _ _ => rfl
  refine ⟨hrun, hreq, ?_, State.reg_setCtxState _ _ _, ?_, ?_⟩
  · exact congrArg GfxContext.preempted ((s.gfxLeave d).ctx_modCtx_self c (fun x => { x with preempted := true }))
  · unfold State.vacated State.setCtxState State.inc State.count
    rw [hne _ _ (by decide), State.reg_setReg_self, hctx, State.reg_gfxLeave _ _ _ _ (by decide)]
  · unfold State.vacated State.setCtxState State.inc State.count
    rw [hne _ _ (by decide), hne _ _ (by decide), hctx, State.reg_gfxLeave_busy h]

/-- A pre-empted context leaves its core, counts it and is charged for its time (R445). -/
theorem State.preempt_running {d c : Nat} {s t : State} (h : (s.gdie d).running = some c) (ht : t = s.preempt d) :
    (t.gdie d).running = none ∧ (t.gdie d).request = none ∧ (t.ctx c).preempted = true ∧
    t.reg (ctxIndex c) 1 = 2 ∧ t.reg (ctxIndex c) 7 = satAdd (entryBits (ctxIndex c) 7) (s.reg (ctxIndex c) 7) 1 ∧
    t.reg (ctxIndex c) 6 = satAdd (entryBits (ctxIndex c) 6) (s.reg (ctxIndex c) 6) (s.now - (s.gdie d).since) ∧ t = { s with live := t.live, gfx := t.gfx } := by
  have hframe : t = { s with live := t.live, gfx := t.gfx } := by
    rw [ht]
    exact (State.preempt_eff s d (Eff.refl 68719476864 s) rfl).frame
  have heq : t = if c < 0x80 ∧ s.runnable (0x80 + d) then (s.vacated d c).inc (0x4808 + d) 10 else s.vacated d c := by
    rw [ht]
    unfold State.preempt
    rw [h]
    rfl
  obtain ⟨hrun, hreq, hpre, h1, h7, h6⟩ := State.vacated_spec h
  have hne : ∀ k, k % 256 ≠ 10 → ((s.vacated d c).inc (0x4808 + d) 10).reg (ctxIndex c) k = (s.vacated d c).reg (ctxIndex c) k := fun k hk =>
    State.reg_setReg_of_ne _ _ _ _ _ _ (entryKey_inst_ne (Ne.symm hk))
  by_cases hwait : c < 0x80 ∧ s.runnable (0x80 + d) = true
  · rw [if_pos hwait] at heq
    clear ht
    subst heq
    exact ⟨hrun, hreq, hpre, (hne 1 (by decide)).trans h1, (hne 7 (by decide)).trans h7, (hne 6 (by decide)).trans h6, hframe⟩
  · rw [if_neg hwait] at heq
    clear ht
    subst heq
    exact ⟨hrun, hreq, hpre, h1, h7, h6, hframe⟩

theorem getD_foldl_put {α : Type} (v : Nat → α) (dflt : α) (i : Nat) : ∀ (l : List Nat) (t : Tab α),
    Tab.getD (l.foldl (fun t k => Tab.put t k (v k)) t) i dflt = if i ∈ l then v i else Tab.getD t i dflt := by
  intro l
  induction l with
  | nil => intro t; simp
  | cons k l ih =>
    intro t
    rw [List.foldl_cons, ih, Tab.getD_put]
    by_cases hl : i ∈ l
    · simp [hl]
    · by_cases hk : i = k
      · subst hk; simp
      · simp [hl, hk, Ne.symm hk]

/-- A period gives each runnable instance its share by weight, and the others none (R444). -/
theorem State.startPeriod_spec {d : Nat} {s t : State} (ht : t = s.startPeriod d) : (t.gdie d).period = some s.now ∧ (t.gdie d).running = (s.gdie d).running ∧
    (∀ i ∈ s.gfxInstances d, Tab.getD (t.gdie d).budgets i 0 =
      if s.gfxWeight i d = 0 then 0 else s.gfxPeriod * s.gfxWeight i d / ((s.gfxInstances d).map (fun k => s.gfxWeight k d)).sum) ∧
    (∀ i, i ∉ s.gfxInstances d → Tab.getD (t.gdie d).budgets i 0 = 0) ∧ t = { s with gfx := t.gfx } := by
  subst ht
  unfold State.startPeriod
  dsimp only
  rw [State.gdie_modGdie_self]
  dsimp only
  refine ⟨rfl, rfl, fun i hi => ?_, fun i hi => ?_, rfl⟩
  · rw [getD_foldl_put (fun i => if s.gfxWeight i d = 0 then 0 else s.gfxPeriod * s.gfxWeight i d / ((s.gfxInstances d).map (fun k => s.gfxWeight k d)).sum), if_pos hi]
  · rw [getD_foldl_put (fun i => if s.gfxWeight i d = 0 then 0 else s.gfxPeriod * s.gfxWeight i d / ((s.gfxInstances d).map (fun k => s.gfxWeight k d)).sum), if_neg hi]
    rfl

/-- A period that ends while a context runs (R443, R444). -/
theorem schedPeriod_running {d p c : Nat} {s u : State} (hp : (s.gdie d).period = some p) (hu : u = s.arriveAt (p + s.gfxPeriod)) (hne : u.gfxInstances d ≠ [])
    (hr : (s.gdie d).running = some c) :
    ∃ t : State, (t.gdie d).running = some c ∧ (t.gdie d).period = some u.now ∧ t = { u with live := t.live, gfx := t.gfx } ∧
      exec (.schedPeriod d) s = .next (if c < 0x80 ∧ t.ctxInst c ≠ t.pickInstance d then t.requestPreemption d else t) := by
  have hx : exec (.schedPeriod d) s = execSchedPeriod d s := rfl
  have hur : (u.gdie d).running = some c := by rw [hu]; exact hr
  unfold execSchedPeriod at hx
  rw [hp] at hx
  dsimp only at hx
  rw [← hu, if_neg hne, hur] at hx
  dsimp only at hx
  obtain ⟨t, ht, ht'⟩ : ∃ t : State, t = (if c < 0x80 then ((u.gfxLeave d).startPeriod d).modGdie d (fun g => { g with running := some c, since := u.now }) else u.startPeriod d) ∧
      exec (.schedPeriod d) s = .next (if c < 0x80 ∧ t.ctxInst c ≠ t.pickInstance d then t.requestPreemption d else t) := ⟨_, rfl, hx⟩
  have hle : Eff 68719476864 u (u.gfxLeave d) := State.gfxLeave_eff u d (Eff.refl _ u) rfl
  have hlnow : (u.gfxLeave d).now = u.now := by rw [hle.frame]; rfl
  clear hu hx
  by_cases hc : c < 0x80
  · rw [if_pos hc] at ht
    obtain ⟨hper, -⟩ := State.startPeriod_spec (d := d) (s := u.gfxLeave d) rfl
    refine ⟨t, ?_, ?_, ?_, ht'⟩
    · rw [ht, State.gdie_modGdie_self]
    · rw [ht, State.gdie_modGdie_self, ← hlnow]
      exact hper
    · rw [ht]
      exact (State.modGdie_eff _ d _ (State.startPeriod_eff _ d hle rfl) rfl).frame
  · rw [if_neg hc] at ht
    obtain ⟨hper, hrun, -⟩ := State.startPeriod_spec (d := d) (s := u) rfl
    refine ⟨t, ?_, ?_, ?_, ht'⟩
    · rw [ht]; exact hrun.trans hur
    · rw [ht]; exact hper
    · rw [ht]; exact (State.startPeriod_eff u d (Eff.refl 68719476864 u) rfl).frame

/-- Settles O50: a pass from its beginning to its end, the draw stream command by command, and the cores' periods. -/
theorem graphicsPasses : Obligations.GraphicsPasses := by
  unfold Obligations.GraphicsPasses
  refine ⟨fun c s h => ⟨?_, fun d fl tl => ?_, fun r b => ?_⟩, fun c j s hj h => ?_, fun c j d s hj hpass hfail hidx htaken hrun hd => passBegin_begins hj hpass hfail hidx htaken hrun hd,
    fun d k => ⟨fun h => ?_, fun h => ?_, fun h => ?_⟩, fun c s => ⟨rfl, rfl, rfl, rfl, rfl, rfl, rfl⟩, fun c op s h => ?_, fun c op j s hj h => takeCommand_idle hj h,
    fun c op o l j p b s bad go hj hp hfail hlt hrun ho hl hb hbad hgo => ?_, fun c d fl tl j s hj h => ?_,
    fun c d fl tl j p q s hj hp hq => ⟨fun h => ?_, fun hb hrun hfill => tileListOverflow_fills hj hp hq hb hrun hfill⟩, fun d k tl => ?_,
    fun c r b j p s u hj hp hu => ⟨fun h hnone => ?_, fun h => passDone_ends hj hp hu h⟩, fun c r b j s hj hp => ?_, fun j d p a x y r s hb hs => ?_, tileSignature_lt, crc64_check,
    fun d s h h' => ?_, fun d s h => ?_, fun d s h => ?_, fun d r s h => ?_, fun d c s t h ht => State.preempt_running h ht, fun d s t ht => State.startPeriod_spec ht,
    fun d s h => ?_, fun d p s u hp hu => ⟨fun h => ?_, fun hne hr => ?_, fun hne c hr => schedPeriod_running hp hu hne hr⟩⟩
  · rw [exec_passBegin, execPassBegin, h]
  · rw [exec_tileListOverflow, execTileListOverflow, h]
  · rw [exec_passDone, execPassDone, h]
  · rw [exec_passBegin, execPassBegin, hj]
    exact if_pos (by rcases h with h | h | h | h | h <;> simp [h])
  · unfold passBinned
    exact if_pos h
  · unfold passBinned
    exact (if_neg (by omega)).trans (if_pos h)
  · unfold passBinned
    rw [if_neg (by omega), if_neg (by omega), decide_eq_true_eq]
    rfl
  · unfold State.takeCommand
    rw [h]
  · subst ho hl hb
    have hcmd := fun op => State.takeCommand_eq hj hp hfail hlt hrun op
    have hdraw := fun {op : Nat} => State.takeCommand_draws (op := op) hj hp hfail hlt hrun hbad hgo
    refine ⟨fun h => ?_, fun h => ?_, fun hlen h1 h7 hend hne => ?_, fun ho hl hend => ?_, fun ho hl hend => ?_, fun ho hl hend => ?_, fun ho hl hend => ?_, fun ho hl hend => ?_,
      fun ho hl hend => ?_, fun ho hl hend => ?_⟩
    · rw [hcmd, hbad]
      refine if_pos ?_
      rcases h with h | h | h
      · rw [commandLength_eq_zero (.inl h)]; exact Decidable.em _ |>.elim (fun h0 => .inr (.inl h0)) .inl
      · rw [commandLength_eq_zero (.inr h)]; exact Decidable.em _ |>.elim (fun h0 => .inr (.inl h0)) .inl
      · exact .inr (.inr h)
    · rw [hcmd, hbad]
      refine if_pos (.inl ?_)
      unfold commandLength
      rcases h with ⟨ho, hl⟩ | ⟨ho, hl⟩ | ⟨ho, hl⟩
      · simp only [List.mem_cons, List.not_mem_nil, or_false] at ho
        rwa [if_pos ho]
      · simp only [List.mem_cons, List.not_mem_nil, or_false] at ho
        rwa [if_neg (by omega), if_pos ho]
      · rwa [if_neg (by omega), if_neg (by omega), if_pos ho]
    · have hpos : commandLength (field (s.cmdBytes j p.cursor 4) 0 2) ≠ 0 := by
        unfold commandLength
        split
        · decide
        · split
          · decide
          · rw [if_pos (by omega)]; decide
      rw [hcmd, if_neg (by rw [not_or, not_or]; exact ⟨fun hno => hno hlen, by rw [hlen]; exact hpos, by omega⟩), if_pos hne]
    · rw [hdraw ho (by rw [hl]; rfl) (by decide) (by rw [hl]; exact hend)]
      unfold State.drawCommand
      dsimp only
      rw [if_pos rfl]
      generalize field (s.cmdBytes j p.cursor (field (s.cmdBytes j p.cursor 4) 2 2)) 4 8 = a
      by_cases ha : a % 256 = 0 ∧ s.pipelineOk j.attr a p.desc = true
      · rw [if_pos ha, if_pos (by simp [ha])]
        rfl
      · rw [if_neg ha, if_neg (by simpa using ha)]
        rfl
    · rw [hdraw ho (by rw [hl]; rfl) (by decide) (by rw [hl]; exact hend)]
      unfold State.drawCommand
      dsimp only
      rw [if_neg (by decide), if_pos rfl]
      split <;> rfl
    · rw [hdraw ho (by rw [hl]; rfl) (by decide) (by rw [hl]; exact hend)]
      unfold State.drawCommand
      dsimp only
      rw [if_neg (by decide), if_neg (by decide), if_pos rfl]
      rfl
    · rw [hdraw ho (by rw [hl]; rfl) (by decide) (by rw [hl]; exact hend)]
      unfold State.drawCommand
      dsimp only
      rw [if_neg (by decide), if_neg (by decide), if_neg (by decide), if_pos rfl]
      rfl
    · rw [hdraw ho (by rw [hl]; rfl) (by decide) (by rw [hl]; exact hend)]
      unfold State.drawCommand
      dsimp only
      rw [if_neg (by decide), if_neg (by decide), if_neg (by decide), if_neg (by decide)]
      by_cases hpipe : p.pipeline = none
      · rw [if_pos hpipe, if_pos hpipe]
        rfl
      · rw [if_neg hpipe, if_neg hpipe, if_pos rfl]
        rfl
    · rw [hdraw ho (by rw [hl]; rfl) (by decide) (by rw [hl]; exact hend)]
      unfold State.drawCommand
      dsimp only
      rw [if_neg (by decide), if_neg (by decide), if_neg (by decide), if_neg (by decide)]
      by_cases hpipe : p.pipeline = none
      · rw [if_pos hpipe, if_neg (by simp [hpipe])]
        rfl
      · rw [if_neg hpipe, if_neg (by decide), if_pos rfl]
        simp only [ne_eq, hpipe, not_false_eq_true, true_and]
        split <;> rfl
    · rw [hdraw ho (by rw [hl]; rfl) (by decide) (by rw [hl]; exact hend)]
      unfold State.drawCommand
      dsimp only
      rw [if_neg (by decide), if_neg (by decide), if_neg (by decide), if_neg (by decide)]
      by_cases hpipe : p.pipeline = none
      · rw [if_pos hpipe, if_neg (by simp [hpipe])]
        rfl
      · rw [if_neg hpipe, if_neg (by decide), if_neg (by decide)]
        simp only [ne_eq, hpipe, not_false_eq_true, true_and]
        split <;> rfl
  · rw [exec_tileListOverflow]
    unfold execTileListOverflow
    rw [hj]
    dsimp only
    cases hp : j.pass with
    | none => rfl
    | some p =>
      rcases h with h | h
      · rw [hp] at h; cases h
      · rw [h]
  · rw [exec_tileListOverflow]
    unfold execTileListOverflow
    rw [hj]
    dsimp only
    rw [hp, hq]
    exact if_pos (by rcases h with h | h | h <;> simp [h])
  · unfold sliceFills
    rw [decide_eq_true_eq]
    rfl
  · rw [exec_passDone]
    unfold execPassDone
    rw [hj]
    dsimp only
    rw [hp]
    exact if_pos (by rcases h with h | h <;> simp [h, hnone])
  · rw [exec_passDone]
    unfold execPassDone
    rw [hj]
    dsimp only
    rw [hp]
  · unfold State.finishTile
    dsimp only
    rw [if_pos (by simp [hb, hs])]
  · rw [exec_preemption, execPreemption, if_neg (by simp [h, h'])]
  · rw [exec_preemption, execPreemption, if_pos (by rcases h with h | h <;> simp [h])]
  · rw [exec_midshaderPreemption, execMidshaderPreemption, h]
  · refine ⟨(s.arriveAt (r + us 40)).inc (0x4808 + d) 9, ?_, rfl, ?_, rfl, ?_⟩
    · rw [exec_midshaderPreemption, execMidshaderPreemption, h]
    · exact (State.reg_setReg_self _ _ _ _).trans rfl
    · exact State.sameLiveBut_setReg (s.arriveAt (r + us 40)) _ _ _
  · rw [exec_schedPeriod, execSchedPeriod, h]
  · rw [exec_schedPeriod]
    unfold execSchedPeriod
    rw [hp]
    dsimp only
    rw [← hu, if_pos h]
  · have hur : (u.gdie d).running = none := by rw [hu]; exact hr
    rw [exec_schedPeriod]
    unfold execSchedPeriod
    rw [hp]
    dsimp only
    rw [← hu, if_neg hne, hur]

end Sys2Proof.Machine
end

section
/-! PROOF of the key engines (R457, R460, R461, R466 to R470, R472 to R474, R477). -/
set_option Elab.async false
namespace Sys2Proof.Machine

/-! ### Reports of a key and what they leave -/

theorem State.reg_keyEvent (s : State) (key type reason detail j k : Nat) (hk : k % 256 ≠ 0x12) : (s.keyEvent key type reason detail).reg j k = s.reg j k := by
  unfold State.keyEvent
  split
  · exact State.reg_of_eff (State.secureInterrupt_eff _ (Eff.refl 67108928 _) rfl) rfl rfl rfl j k
  · split
    · rfl
    · exact State.reg_event _ _ _ _ _ _ _ _ _ _ hk

theorem State.keys_keyEvent (s : State) (key type reason detail : Nat) : (s.keyEvent key type reason detail).keys = s.keys := by
  rw [(State.keyEvent_eff s key type reason detail (Eff.refl 17593329000640 s) rfl).frame]
  rfl

theorem State.reflex_keyEvent (s : State) (key type reason detail : Nat) : (s.keyEvent key type reason detail).reflex = s.reflex := by
  rw [(State.keyEvent_eff s key type reason detail (Eff.refl 17593329000640 s) rfl).frame]
  rfl

theorem State.reg_dispatchTime (s : State) (d b j k : Nat) (hk : k % 256 ≠ 0x44) : (s.dispatchTime d b).reg j k = s.reg j k := by
  unfold State.dispatchTime State.raise
  exact State.reg_setReg_of_ne _ _ _ _ _ _ (entryKey_inst_ne (Ne.symm hk))

theorem State.reg_dispatchRelease (s : State) (key j k : Nat) (hk : k % 256 ≠ 0x43) (hk' : k % 256 ≠ 0x44) : (s.dispatchRelease key).reg j k = s.reg j k := by
  unfold State.dispatchRelease
  dsimp only
  split
  · rfl
  · rw [State.reg_dispatchTime _ _ _ _ _ hk']
    refine (State.reg_setReg_of_ne _ _ _ _ _ _ (entryKey_inst_ne (Ne.symm hk))).trans ?_
    unfold State.sendSprite
    split <;> rfl

theorem State.keys_dispatchRelease (s : State) (key : Nat) : (s.dispatchRelease key).keys = s.keys := by
  rw [(State.dispatchRelease_eff s key (Eff.refl 549755814080 s) rfl).frame]
  rfl

theorem State.keyw_modKey_self (s : State) (k : Nat) (f : KeyWork → KeyWork) : (s.modKey k f).keyw k = f (s.keyw k) := by
  rw [State.keyw_modKey, if_pos rfl]

theorem State.keyState_setKeyState (s : State) (k v : Nat) : (s.setKeyState k v).keyState k = v := State.reg_setReg_self _ _ _ _

theorem State.keyState_setKeyState_of_ne (s : State) {k j : Nat} (v : Nat) (h : k ≠ j) : (s.setKeyState k v).keyState j = s.keyState j :=
  State.reg_setReg_of_ne _ _ _ _ _ _ (by unfold entryKey; omega)

/-! ### A key's release and a key's capture -/

theorem State.releaseKey_unpressed {s : State} {k : Nat} (reason : Nat) (report : Bool) (h : s.keyState k ≠ 4) : s.releaseKey k reason report = s := by
  unfold State.releaseKey
  rw [if_pos h]

/-- What a release is: the key's state, its counts, its reflexes, and its report. -/
theorem State.releaseKey_pressed {s : State} {k : Nat} (reason : Nat) (report : Bool) (h : s.keyState k = 4) :
    (∀ j m, m % 256 ≠ 0x12 → m % 256 ≠ 0x43 → m % 256 ≠ 0x44 → (s.releaseKey k reason report).reg j m = (s.setKeyState k 3).reg j m) ∧
    (s.releaseKey k reason report).keys = ((s.setKeyState k 3).modKey k (fun x => { x with np := 0, nr := 0, negative := 0 })).keys := by
  unfold State.releaseKey
  rw [if_neg (by simp [h])]
  dsimp only
  split
  · refine ⟨fun j m h12 h43 h44 => ?_, ?_⟩
    · rw [State.reg_keyEvent _ _ _ _ _ _ _ h12, State.reg_dispatchRelease _ _ _ _ h43 h44]
      rfl
    · rw [State.keys_keyEvent, State.keys_dispatchRelease]
  · refine ⟨fun j m h12 h43 h44 => ?_, ?_⟩
    · rw [State.reg_dispatchRelease _ _ _ _ h43 h44]
      rfl
    · rw [State.keys_dispatchRelease]

theorem State.keyState_releaseKey (s : State) (k reason : Nat) (report : Bool) (j : Nat) :
    (s.releaseKey k reason report).keyState j = if k = j ∧ s.keyState k = 4 then 3 else s.keyState j := by
  by_cases h : s.keyState k = 4
  · obtain ⟨hreg, -⟩ := State.releaseKey_pressed reason report h
    refine (hreg _ 0x10 (by decide) (by decide) (by decide)).trans ?_
    by_cases hk : k = j
    · subst hk
      rw [if_pos ⟨rfl, h⟩]
      exact State.keyState_setKeyState s k 3
    · rw [if_neg (fun hh => hk hh.1)]
      exact State.keyState_setKeyState_of_ne s 3 hk
  · rw [State.releaseKey_unpressed reason report h, if_neg (fun hh => h hh.2)]

theorem State.keyState_capture (s : State) (k : Nat) (r u : Bool) (j : Nat) : (s.capture k r u).keyState j = if k = j then 1 else s.keyState j := by
  have h1 : (s.setKeyState k 1).keyState j = if k = j then 1 else s.keyState j := by
    by_cases hk : k = j
    · subst hk
      rw [if_pos rfl]
      exact State.keyState_setKeyState s k 1
    · rw [if_neg hk]
      exact State.keyState_setKeyState_of_ne s 1 hk
  unfold State.capture
  dsimp only
  split
  · exact h1
  · exact (State.reg_setReg_of_ne _ _ _ _ _ _ (entryKey_inst_ne (by decide))).trans h1

/-- A recapture leaves its keys in CAPTURING, those SUSPENDED apart (R477). -/
theorem State.recaptureDie_keyState {d k : Nat} (reason : Nat) {s : State} (hk : k ∈ s.keysOn d) (h5 : s.keyState k ≠ 5) : (s.recaptureDie d reason).keyState k = 1 := by
  unfold State.recaptureDie
  generalize s.keysOn d = l at hk
  have hstep : ∀ (t : State) (n : Nat), (if t.keyState n = 5 then t else (t.releaseKey n reason true).capture n false false).keyState k =
      if n = k ∧ t.keyState n ≠ 5 then 1 else t.keyState k := by
    intro t n
    by_cases hn : t.keyState n = 5
    · rw [if_pos hn, if_neg (fun hh => hh.2 hn)]
    · rw [if_neg hn, State.keyState_capture, State.keyState_releaseKey]
      by_cases hnk : n = k
      · rw [if_pos hnk, if_pos ⟨hnk, hn⟩]
      · rw [if_neg hnk, if_neg (fun hh => hnk hh.1), if_neg (fun hh => hnk hh.1)]
  have hkeep : ∀ (l : List Nat) (t : State), t.keyState k = 1 →
      (t.each l (fun t n => if t.keyState n = 5 then t else (t.releaseKey n reason true).capture n false false)).keyState k = 1 := fun l t ht =>
    State.each_keeps (P := fun u => u.keyState k = 1) _ _ (fun u n hu => by
      rw [hstep]
      split
      · rfl
      · exact hu) _ ht
  induction l generalizing s with
  | nil => cases hk
  | cons n l ih =>
    by_cases hn : n = k
    · exact hkeep l _ (by rw [hstep, if_pos ⟨hn, by rw [hn]; exact h5⟩])
    · refine ih ?_ (by simpa [Ne.symm hn] using hk)
      rw [hstep, if_neg (fun hh => hn hh.1)]
      exact h5

/-! ### Readings -/

theorem nearest_bounds {n d : Nat} (up : Bool) (hd : 0 < d) : 2 * (nearest n d up * d) ≤ 2 * n + d ∧ 2 * n ≤ 2 * (nearest n d up * d) + d := by
  unfold nearest
  rw [if_neg (by omega)]
  split
  · next h =>
    have hdiv : 2 * n = 2 * d * (2 * n / (2 * d)) + d := by
      have := Nat.div_add_mod (2 * n) (2 * d)
      omega
    rw [Nat.mul_div_mul_left _ _ (by decide : 0 < 2)] at hdiv
    have hm : 2 * d * (n / d) = 2 * (n / d * d) := by ring
    rw [hm] at hdiv
    cases up
    · rw [show n / d + ofBool false = n / d from rfl]
      omega
    · rw [show n / d + ofBool true = n / d + 1 from rfl, Nat.add_mul]
      omega
  · have h1 := Nat.div_add_mod (2 * n + d) (2 * d)
    have h2 := Nat.mod_lt (2 * n + d) (show 0 < 2 * d by omega)
    have hm : 2 * d * ((2 * n + d) / (2 * d)) = 2 * ((2 * n + d) / (2 * d) * d) := by ring
    omega

theorem State.readingOf_few {d a n : Nat} {counts : List Nat} {q : Bool} {s : State} (h : ((List.range n).filter (fun j => !q || s.burstUsable d (a + 500 * j))).length < n / 2) :
    s.readingOf d a n counts q = none := by
  unfold State.readingOf
  exact if_pos h

theorem State.readingOf_enough {d a n : Nat} {counts : List Nat} {q : Bool} {s : State} {ok : List Nat} (hok : ok = (List.range n).filter (fun j => !q || s.burstUsable d (a + 500 * j)))
    (h : n / 2 ≤ ok.length) : s.readingOf d a n counts q = some (min 65535 (nearest ((ok.map (fun j => counts.getD j 0)).sum * n) ok.length (Config.freeBool s.free))) := by
  subst hok
  unfold State.readingOf
  exact if_neg (Nat.not_lt.2 h)

theorem State.burstUsable_congr {s t : State} {d : Nat} (hhap : t.haptics = s.haptics) (htaken : t.taken = s.taken) (hpart : t.part = s.part) (hgrade : t.grade = s.grade)
    (hdie : t.kdie d = s.kdie d) (n : Nat) : t.burstUsable d n = s.burstUsable d n := by
  unfold State.burstUsable State.quietChannels State.use State.useI State.takenAt
  rw [hhap, htaken, hpart, hgrade, hdie]

/-- One electrode's self reading at the end of its frame (R467). -/
def State.electrodeRead (die start : Nat) (bursts : List BurstReading) (u : State) (e : Nat) : State :=
  let r := u.readingOf die start 64 (burstCounts bursts e) true
  let u1 := u.modElec e (fun x => { x with reading := r })
  match r with
  | none => u1.inc (0x6100 + die) 0xE
  | some v =>
    let u2 := (u1.setReg (0x6000 + e) 3 v).useFree
    let x := u2.elec e
    if !x.capturing then u2
    else if x.capCount + 1 < 16 then u2.modElec e (fun x => { x with capSum := x.capSum + v, capCount := x.capCount + 1 })
    else
      let b := nearest (x.capSum + v) 16 (Config.freeBool u2.free)
      (((u2.setReg (0x6000 + e) 4 b).modElec e (fun x => { x with capturing := false, capSum := 0, capCount := 0, drift := 0 })).setReg
        (0x6000 + e) 5 2).useFree

theorem State.elec_modElec (s : State) (e f : Nat) (g : ElectrodeWork → ElectrodeWork) : (s.modElec e g).elec f = if e = f then g (s.elec e) else s.elec f := by
  simp only [State.elec, State.modElec, Tab.getD_put]

theorem State.elec_modElec_self (s : State) (e : Nat) (g : ElectrodeWork → ElectrodeWork) : (s.modElec e g).elec e = g (s.elec e) := by
  rw [State.elec_modElec, if_pos rfl]

theorem State.electrodeRead_eff (die start : Nat) (bursts : List BurstReading) {s u : State} (e : Nat) (h : Eff 137438953664 s u) :
    Eff 137438953664 s (u.electrodeRead die start bursts e) := by
  unfold State.electrodeRead
  dsimp only
  have h1 := State.modElec_eff u e (fun x => { x with reading := u.readingOf die start 64 (burstCounts bursts e) true }) h rfl
  split
  · exact State.inc_eff _ _ _ h1 rfl
  · next v _ =>
    have h2 := State.useFree_eff _ (State.setReg_eff _ (0x6000 + e) 3 v h1 rfl) rfl
    split
    · exact h2
    · split
      · exact State.modElec_eff _ _ _ h2 rfl
      · exact State.useFree_eff _ (State.setReg_eff _ _ _ _ (State.modElec_eff _ _ _ (State.setReg_eff _ _ _ _ h2 rfl) rfl) rfl) rfl

theorem State.electrodeRead_dies (die start : Nat) (bursts : List BurstReading) (u : State) (e : Nat) :
    (u.electrodeRead die start bursts e).keys.dies = u.keys.dies := by
  unfold State.electrodeRead
  dsimp only
  split
  · rfl
  · split
    · rfl
    · split <;> rfl

/-- What the last steps of a reading keep: the reading, and its shown value. -/
theorem State.electrodeRead_self (die start : Nat) (bursts : List BurstReading) (u : State) (e : Nat) :
    ((u.electrodeRead die start bursts e).elec e).reading = u.readingOf die start 64 (burstCounts bursts e) true ∧
    ∀ v, u.readingOf die start 64 (burstCounts bursts e) true = some v → (u.electrodeRead die start bursts e).reg (0x6000 + e) 3 = v := by
  have hne : ∀ (w : State) {k : Nat} (v : Nat), k % 256 ≠ 3 → (w.setReg (0x6000 + e) k v).reg (0x6000 + e) 3 = w.reg (0x6000 + e) 3 := fun w _ v hk =>
    State.reg_setReg_of_ne _ _ _ _ _ _ (entryKey_inst_ne hk)
  have helec : ∀ (w : State) (f : ElectrodeWork → ElectrodeWork), (∀ x, (f x).reading = x.reading) → ((w.modElec e f).elec e).reading = (w.elec e).reading := fun w f hf => by
    rw [State.elec_modElec_self, hf]
  unfold State.electrodeRead
  cases hr : u.readingOf die start 64 (burstCounts bursts e) true with
  | none =>
    refine ⟨?_, fun v hv => by cases hv⟩
    exact congrArg ElectrodeWork.reading (u.elec_modElec_self e (fun x => { x with reading := none }))
  | some v =>
    have hread : ((u.modElec e (fun x => { x with reading := some v })).elec e).reading = some v :=
      congrArg ElectrodeWork.reading (u.elec_modElec_self e (fun x => { x with reading := some v }))
    obtain ⟨w, hw⟩ : ∃ w, w = ((u.modElec e (fun x => { x with reading := some v })).setReg (0x6000 + e) 3 v).useFree := ⟨_, rfl⟩
    have hwe : (w.elec e).reading = some v := by rw [hw]; exact hread
    have hwr : w.reg (0x6000 + e) 3 = v := by rw [hw]; exact State.reg_setReg_self _ _ _ _
    dsimp only
    rw [← hw]
    clear hw
    suffices h : ∀ t : State, t = _ → (t.elec e).reading = some v ∧ t.reg (0x6000 + e) 3 = v from
      ⟨(h _ rfl).1, fun v' hv' => (h _ rfl).2.trans (Option.some.inj hv')⟩
    intro t ht
    rw [ht]
    clear ht
    split
    · exact ⟨hwe, hwr⟩
    · split
      · exact ⟨(helec w (fun x => { x with capSum := x.capSum + v, capCount := x.capCount + 1 }) fun _ => rfl).trans hwe, hwr⟩
      · refine ⟨?_, (hne _ _ (by decide)).trans ((hne _ _ (by decide)).trans hwr)⟩
        exact (helec (w.setReg (0x6000 + e) 4 _) (fun x => { x with capturing := false, capSum := 0, capCount := 0, drift := 0 }) fun _ => rfl).trans hwe

theorem State.electrodeRead_other (die start : Nat) (bursts : List BurstReading) (u : State) {e f : Nat} (h : e ≠ f) :
    ((u.electrodeRead die start bursts e).elec f) = u.elec f ∧ (u.electrodeRead die start bursts e).reg (0x6000 + f) 3 = u.reg (0x6000 + f) 3 := by
  have hne : ∀ (w : State) {k : Nat} (v : Nat), k % 256 ≠ 3 → (w.setReg (0x6000 + e) k v).reg (0x6000 + f) 3 = w.reg (0x6000 + f) 3 := fun w _ v hk =>
    State.reg_setReg_of_ne _ _ _ _ _ _ (entryKey_inst_ne hk)
  have h3 : ∀ (w : State) (v : Nat), (w.setReg (0x6000 + e) 3 v).reg (0x6000 + f) 3 = w.reg (0x6000 + f) 3 := fun w v =>
    State.reg_setReg_of_ne _ _ _ _ _ _ (by unfold entryKey; omega)
  have helec : ∀ (w : State) (g : ElectrodeWork → ElectrodeWork), (w.modElec e g).elec f = w.elec f := fun w g => by
    rw [State.elec_modElec, if_neg h]
  unfold State.electrodeRead
  dsimp only
  split
  · exact ⟨helec u (fun x => { x with reading := u.readingOf die start 64 (burstCounts bursts e) true }), State.reg_setReg_of_ne _ _ _ _ _ _ (entryKey_inst_ne (by decide))⟩
  · next v _ =>
    have hwe := helec u (fun x => { x with reading := u.readingOf die start 64 (burstCounts bursts e) true })
    have hwr := h3 (u.modElec e (fun x => { x with reading := u.readingOf die start 64 (burstCounts bursts e) true })) v
    obtain ⟨w, hw⟩ : ∃ w, w = ((u.modElec e (fun x => { x with reading := u.readingOf die start 64 (burstCounts bursts e) true })).setReg (0x6000 + e) 3 v).useFree := ⟨_, rfl⟩
    rw [← hw]
    replace hwe : w.elec f = u.elec f := by rw [hw]; exact hwe
    replace hwr : w.reg (0x6000 + f) 3 = u.reg (0x6000 + f) 3 := by rw [hw]; exact hwr
    clear hw
    split
    · exact ⟨hwe, hwr⟩
    · split
      · exact ⟨(helec w _).trans hwe, hwr⟩
      · refine ⟨?_, (hne _ _ (by decide)).trans ((hne _ _ (by decide)).trans hwr)⟩
        exact (helec (w.setReg (0x6000 + e) 4 _) (fun x => { x with capturing := false, capSum := 0, capCount := 0, drift := 0 })).trans hwe

/-- Reading an electrode keeps what decides which bursts are usable. -/
theorem State.electrodeRead_usable (die start : Nat) (bursts : List BurstReading) (u : State) (e d n : Nat) :
    (u.electrodeRead die start bursts e).burstUsable d n = u.burstUsable d n := by
  have he := State.electrodeRead_eff die start bursts e (Eff.refl _ u)
  have hdie : (u.electrodeRead die start bursts e).kdie d = u.kdie d := by
    unfold State.kdie
    rw [State.electrodeRead_dies]
  refine State.burstUsable_congr ?_ ?_ he.part_eq he.grade_eq hdie n
  · rw [he.frame]; rfl
  · rw [he.frame]; rfl

/-- After the electrodes of a list are read, each of them holds its reading. -/
theorem State.electrodeRead_each {die start : Nat} (bursts : List BurstReading) {s : State} {e : Nat} :
    ∀ (l : List Nat) (u : State), (∀ n, u.burstUsable die n = s.burstUsable die n) → e ∈ l →
      ((((u.each l (fun t e => t.electrodeRead die start bursts e)).elec e).reading = none ↔ ((List.range 64).filter (fun j => s.burstUsable die (start + 500 * j))).length < 32) ∧
      ∀ v, ((u.each l (fun t e => t.electrodeRead die start bursts e)).elec e).reading = some v → (u.each l (fun t e => t.electrodeRead die start bursts e)).reg (0x6000 + e) 3 = v) := by
  have hread : ∀ u : State, (∀ n, u.burstUsable die n = s.burstUsable die n) →
      ((((u.electrodeRead die start bursts e).elec e).reading = none ↔ ((List.range 64).filter (fun j => s.burstUsable die (start + 500 * j))).length < 32) ∧
      ∀ v, ((u.electrodeRead die start bursts e).elec e).reading = some v → (u.electrodeRead die start bursts e).reg (0x6000 + e) 3 = v) := by
    intro u hu
    obtain ⟨h1, h2⟩ := State.electrodeRead_self die start bursts u e
    have hok : ((List.range 64).filter (fun j => !true || u.burstUsable die (start + 500 * j))) = (List.range 64).filter (fun j => s.burstUsable die (start + 500 * j)) :=
      List.filter_congr fun j _ => by rw [hu]; rfl
    rw [h1]
    refine ⟨?_, fun v hv => h2 v hv⟩
    by_cases hfew : ((List.range 64).filter (fun j => s.burstUsable die (start + 500 * j))).length < 32
    · exact iff_of_true (State.readingOf_few (by rw [hok]; exact hfew)) hfew
    · refine iff_of_false ?_ hfew
      rw [State.readingOf_enough rfl (by rw [hok]; omega)]
      exact Option.some_ne_none _
  have hkeep : ∀ (l : List Nat) (u : State), (∀ n, u.burstUsable die n = s.burstUsable die n) →
      (((u.elec e).reading = none ↔ ((List.range 64).filter (fun j => s.burstUsable die (start + 500 * j))).length < 32) ∧ ∀ v, (u.elec e).reading = some v → u.reg (0x6000 + e) 3 = v) →
      ((((u.each l (fun t e => t.electrodeRead die start bursts e)).elec e).reading = none ↔ ((List.range 64).filter (fun j => s.burstUsable die (start + 500 * j))).length < 32) ∧
      ∀ v, ((u.each l (fun t e => t.electrodeRead die start bursts e)).elec e).reading = some v → (u.each l (fun t e => t.electrodeRead die start bursts e)).reg (0x6000 + e) 3 = v) := by
    intro l
    induction l with
    | nil => exact fun _ _ h => h
    | cons n l ih =>
      intro u hu h
      refine ih _ (fun m => (State.electrodeRead_usable die start bursts u n die m).trans (hu m)) ?_
      by_cases hn : n = e
      · rw [hn]
        exact hread u hu
      · obtain ⟨h1, h2⟩ := State.electrodeRead_other die start bursts u hn
        rw [h1, h2]
        exact h
  intro l
  induction l with
  | nil => exact fun _ _ h => absurd h (by simp)
  | cons n l ih =>
    intro u hu he
    by_cases hn : n = e
    · subst hn
      exact hkeep l _ (fun m => (State.electrodeRead_usable die start bursts u n die m).trans (hu m)) (hread u hu)
    · exact ih _ (fun m => (State.electrodeRead_usable die start bursts u n die m).trans (hu m)) (by simpa [Ne.symm hn] using he)

/-- The end of the self frame (R467). -/
theorem selfFrameDone_reads {d c : Nat} (bs : List BurstReading) {s : State} (hc : (s.kdie d).cycle = some c) (hp : (s.kdie d).nextPhase = 0) :
    ∃ t : State, exec (.selfFrameDone d bs) s = .next t ∧
    t = { s with now := t.now, clock := t.clock, free := t.free, live := t.live, keys := t.keys } ∧ t.now = max s.now (c + 40000) ∧
    (∀ e, e < 16 → s.role (16 * d + e) = 1 ∨ s.role (16 * d + e) = 2 →
      ((t.elec (16 * d + e)).reading = none ↔ ((List.range 64).filter (fun j => s.burstUsable d (c + 8000 + 500 * j))).length < 32) ∧
      (∀ v, (t.elec (16 * d + e)).reading = some v → t.reg (0x6000 + (16 * d + e)) 3 = v)) := by
  have hx : exec (.selfFrameDone d bs) s = .next ((s.arriveAt (c + 40000)).each ((s.arriveAt (c + 40000)).electrodes d 1 ++ (s.arriveAt (c + 40000)).electrodes d 2)
      (fun u e => u.electrodeRead d (c + 8000) bs e)) := by
    rw [exec_selfFrameDone]
    unfold execSelfFrameDone
    rw [hc]
    dsimp only
    rw [if_neg (by simp [hp])]
    rfl
  have he : Eff 137438953664 (s.arriveAt (c + 40000)) ((s.arriveAt (c + 40000)).each ((s.arriveAt (c + 40000)).electrodes d 1 ++ (s.arriveAt (c + 40000)).electrodes d 2)
      (fun u e => u.electrodeRead d (c + 8000) bs e)) :=
    State.each_keeps (P := Eff 137438953664 (s.arriveAt (c + 40000))) _ _ (fun u e hu => State.electrodeRead_eff d _ bs e hu) _ (Eff.refl _ _)
  refine ⟨_, hx, ?_, ?_, fun e hlt hrole => ?_⟩
  · exact (Eff.call (State.arriveAt_eff s _ (Eff.refl 137438953670 s) rfl) he rfl).frame
  · rw [he.frame]; rfl
  · refine State.electrodeRead_each bs _ _ (fun _ => rfl) ?_
    have hmem : 16 * d + e ∈ (List.range 16).map (16 * d + ·) := List.mem_map.2 ⟨e, List.mem_range.2 hlt, rfl⟩
    rcases hrole with h | h
    · exact List.mem_append_left _ (List.mem_filter.2 ⟨hmem, decide_eq_true h⟩)
    · exact List.mem_append_right _ (List.mem_filter.2 ⟨hmem, decide_eq_true h⟩)

/-! ### A scan cycle and its phases -/

/-- The next moment of the grid of scan cycles (R460). -/
theorem State.cycleStart_spec (s : State) (d t : Nat) : s.cycleStart d t % 200000 = 1000 * s.use (0x6100 + d) 2 % 200000 ∧ t ≤ s.cycleStart d t ∧ s.cycleStart d t < t + 200000 := by
  unfold State.cycleStart
  dsimp only
  omega

theorem State.kdie_modKdie_self (s : State) (d : Nat) (f : KeyDie → KeyDie) : (s.modKdie d f).kdie d = f (s.kdie d) := by
  simp [State.kdie, State.modKdie]

/-- A scan cycle of an engine that scans (R460). -/
theorem scanCycle_starts {d : Nat} {s u : State} (hs : s.serving = true) (hp : s.reg 0x2400 3 ≠ 2) (hsh : s.shellUp d = true) (hk : s.keyServed d = true) (hc : (s.kdie d).cycle = none)
    (hu : u = (s.each ((List.range 64).map (64 * d + ·)) (fun t k => if (t.keyw k).oldHolder.isSome then (t.releaseKey k 4 true).modKey k (fun x => { x with oldHolder := none }) else t)).keyUptake d) :
    (u.use (0x6100 + d) 1 ≠ 1 → exec (.scanCycle d) s = .next u) ∧
    (u.use (0x6100 + d) 1 = 1 → ∃ (t : State) (c : Nat), exec (.scanCycle d) s = .next t ∧ (t.kdie d).cycle = some c ∧ (t.kdie d).lastStart = some c ∧ (t.kdie d).nextPhase = 0 ∧
      c % 200000 = 1000 * u.use (0x6100 + d) 2 % 200000 ∧ s.now ≤ c ∧ (∀ l, (s.kdie d).lastStart = some l → l + 200000 ≤ c) ∧
      ((s.kdie d).lastStart = none → c < s.now + 200000) ∧ (∀ l, (s.kdie d).lastStart = some l → c < max s.now (l + 200000) + 200000) ∧ t.now = max u.now c ∧
      t.reg (0x6100 + d) 0xD = satAdd (entryBits (0x6100 + d) 0xD) (u.reg (0x6100 + d) 0xD) 1 ∧ t = { u with now := t.now, clock := t.clock, live := t.live, keys := t.keys }) := by
  have hx : exec (.scanCycle d) s = execScanCycle d s := rfl
  unfold execScanCycle at hx
  rw [if_neg (by simp [hs, hp, hsh, hk, hc])] at hx
  dsimp only at hx
  rw [← hu] at hx
  refine ⟨fun hoff => ?_, fun hon => ?_⟩
  · rw [if_pos hoff] at hx
    exact hx
  · rw [if_neg (by simp [hon])] at hx
    have hreg : ∀ (c : Nat) f, (((u.arriveAt c).inc (0x6100 + d) 0xD).modKdie d f).reg (0x6100 + d) 0xD = satAdd (entryBits (0x6100 + d) 0xD) (u.reg (0x6100 + d) 0xD) 1 :=
      fun c f => (State.reg_setReg_self (u.arriveAt c) _ _ _).trans rfl
    cases hl : (s.kdie d).lastStart with
    | none =>
      rw [hl] at hx
      obtain ⟨hmod, hge, hlt⟩ := u.cycleStart_spec d s.now
      refine ⟨_, _, hx, ?_, ?_, ?_, hmod, hge, fun l hh => ?_, fun _ => hlt, fun l hh => ?_, rfl, hreg _ _, rfl⟩
      · rw [State.kdie_modKdie_self]
      · rw [State.kdie_modKdie_self]
      · rw [State.kdie_modKdie_self]
      · cases hh
      · cases hh
    | some l =>
      rw [hl] at hx
      obtain ⟨hmod, hge, hlt⟩ := u.cycleStart_spec d (max s.now (l + 200000))
      refine ⟨_, _, hx, ?_, ?_, ?_, hmod, le_trans (le_max_left _ _) hge, fun l' hh => ?_, fun hh => ?_, fun l' hh => ?_, rfl, hreg _ _, rfl⟩
      · rw [State.kdie_modKdie_self]
      · rw [State.kdie_modKdie_self]
      · rw [State.kdie_modKdie_self]
      · cases hh
        exact le_trans (le_max_right _ _) hge
      · cases hh
      · cases hh
        exact hlt

/-- The moment of a phase's decision: within the phase's own limit (R466). -/
theorem State.decideTime_spec (s : State) (d ending : Nat) :
    (s.decideTime d ending).now ≤ max s.now (ending + (if s.coreActive d = true then us 4 else us 6)) ∧ max s.now ending ≤ (s.decideTime d ending).now := by
  have hlim : Config.freeNat s.free % ((if s.coreActive d = true then us 4 else us 6) + 1) ≤ if s.coreActive d = true then us 4 else us 6 :=
    Nat.lt_succ_iff.1 (Nat.mod_lt _ (Nat.succ_pos _))
  have hnow : (s.decideTime d ending).now = max s.now (ending + Config.freeNat s.free % ((if s.coreActive d = true then us 4 else us 6) + 1)) := rfl
  rw [hnow]
  omega

/-- The keys of a phase evaluated, before the phase counts (R466 to R470). -/
def State.phaseRead (s : State) (die t : Nat) (bursts : List BurstReading) : State :=
  let p := (s.kdie die).nextPhase
  let ending := t + 60000 + 20000 * p
  let s1 := s.arriveAt ending
  let dry := decide (s.reg (0x6100 + die) 0xB = 0)
  match (s1.electrodes die 1)[p]? with
  | none => s1
  | some e =>
    let read (g : Nat) : Option Nat := s1.readingOf die (t + 44000 + 20000 * p) 32 (burstCounts bursts g) true
    let bad := ((s1.electrodes die 2).filter (fun g => (read g).isNone)).length
    let ks := (s1.keysOn die).filter (fun k => decide (s1.keyTx k = e))
    (((s1.count (0x6100 + die) 0xE bad).decideTime die ending).each ks (fun u k => u.evaluateKey k (read (s1.keyRx k)) ending dry)).useFree

theorem State.phaseRead_idle {s : State} {d t : Nat} {bs : List BurstReading} (h : (s.electrodes d 1).length ≤ (s.kdie d).nextPhase) :
    s.phaseRead d t bs = s.arriveAt (t + 60000 + 20000 * (s.kdie d).nextPhase) := by
  have hnone : ((s.arriveAt (t + 60000 + 20000 * (s.kdie d).nextPhase)).electrodes d 1)[(s.kdie d).nextPhase]? = none := List.getElem?_eq_none h
  unfold State.phaseRead
  dsimp only
  rw [hnone]

theorem State.phaseRead_spec (s : State) (d t : Nat) (bs : List BurstReading) :
    max s.now (t + 60000 + 20000 * (s.kdie d).nextPhase) ≤ (s.phaseRead d t bs).now ∧
    (s.phaseRead d t bs).now ≤ max s.now (t + 60000 + 20000 * (s.kdie d).nextPhase + (if s.coreActive d = true then us 4 else us 6)) ∧
    Eff 18280523768006 s (s.phaseRead d t bs) := by
  have harrive : Eff 18280523768006 s (s.arriveAt (t + 60000 + 20000 * (s.kdie d).nextPhase)) := State.arriveAt_eff s _ (Eff.refl _ s) rfl
  unfold State.phaseRead
  dsimp only
  split
  · exact ⟨le_rfl, by
      rw [show (s.arriveAt (t + 60000 + 20000 * (s.kdie d).nextPhase)).now = max s.now (t + 60000 + 20000 * (s.kdie d).nextPhase) from rfl]
      omega, harrive⟩
  · next e _ =>
    obtain ⟨n, hn⟩ : ∃ n, n = ((s.arriveAt (t + 60000 + 20000 * (s.kdie d).nextPhase)).electrodes d 2).filter (fun g =>
        ((s.arriveAt (t + 60000 + 20000 * (s.kdie d).nextPhase)).readingOf d (t + 44000 + 20000 * (s.kdie d).nextPhase) 32 (burstCounts bs g) true).isNone) := ⟨_, rfl⟩
    rw [← hn]
    obtain ⟨w, hw⟩ : ∃ w, w = (s.arriveAt (t + 60000 + 20000 * (s.kdie d).nextPhase)).count (0x6100 + d) 0xE n.length := ⟨_, rfl⟩
    rw [← hw]
    have hwe : Eff 18280523768006 s w := by rw [hw]; exact State.count_eff _ _ _ _ harrive rfl
    have hwn : w.now = max s.now (t + 60000 + 20000 * (s.kdie d).nextPhase) := by rw [hw]; rfl
    have hcore : w.coreActive d = s.coreActive d := by
      rw [hw]
      unfold State.coreActive
      exact congrArg (fun v => decide (v = 2)) (State.reg_setReg_of_ne (s.arriveAt _) _ _ _ _ _ (entryKey_inst_ne (by decide)))
    clear hw
    obtain ⟨h1, h2⟩ := w.decideTime_spec d (t + 60000 + 20000 * (s.kdie d).nextPhase)
    have hve : Eff 18280523768000 (w.decideTime d (t + 60000 + 20000 * (s.kdie d).nextPhase)) ((w.decideTime d (t + 60000 + 20000 * (s.kdie d).nextPhase)).each
        (((s.arriveAt (t + 60000 + 20000 * (s.kdie d).nextPhase)).keysOn d).filter (fun k => decide ((s.arriveAt (t + 60000 + 20000 * (s.kdie d).nextPhase)).keyTx k = e)))
        (fun u k => u.evaluateKey k ((s.arriveAt (t + 60000 + 20000 * (s.kdie d).nextPhase)).readingOf d (t + 44000 + 20000 * (s.kdie d).nextPhase) 32
          (burstCounts bs ((s.arriveAt (t + 60000 + 20000 * (s.kdie d).nextPhase)).keyRx k)) true) (t + 60000 + 20000 * (s.kdie d).nextPhase) (decide (s.reg (0x6100 + d) 0xB = 0)))) :=
      State.each_keeps (P := Eff 18280523768000 _) _ _ (fun u k hu => State.evaluateKey_eff u _ _ _ _ hu rfl) _ (Eff.refl _ _)
    have hnow := hve.now_eq
    rw [hcore, hwn] at h1
    rw [hwn] at h2
    refine ⟨?_, ?_, ?_⟩
    · refine le_trans ?_ (le_of_eq hnow.symm)
      omega
    · refine le_trans (le_of_eq hnow) (le_trans h1 ?_)
      omega
    · exact State.useFree_eff _ (Eff.call (State.decideTime_eff _ _ _ hwe rfl) hve rfl) rfl

/-- What the last phase adds: drift, saturation and water (R472 to R474). -/
def State.phaseEnds (s : State) (die : Nat) (dry : Bool) : State :=
  let es := s.electrodes die 1 ++ s.electrodes die 2
  let s3 := (s.each (s.keysOn die) (fun u k => u.driftKey k dry)).each es (fun u e => u.driftElec e dry)
  (s3.each es (fun u e => u.saturationStep e)).waterStep die

theorem State.phaseEnds_eff (s : State) (d : Nat) (dry : Bool) : Eff 18280523768000 s (s.phaseEnds d dry) := by
  unfold State.phaseEnds
  dsimp only
  have h1 : Eff 18280523768000 s (s.each (s.keysOn d) (fun u k => u.driftKey k dry)) :=
    State.each_keeps (P := Eff 18280523768000 s) _ _ (fun u k hu => State.driftKey_eff u k dry hu rfl) _ (Eff.refl _ s)
  have h2 := State.each_keeps (P := Eff 18280523768000 s) (s.electrodes d 1 ++ s.electrodes d 2) (fun u e => u.driftElec e dry) (fun u e hu => State.driftElec_eff u e dry hu rfl) _ h1
  have h3 := State.each_keeps (P := Eff 18280523768000 s) (s.electrodes d 1 ++ s.electrodes d 2) (fun u e => u.saturationStep e) (fun u e hu => State.saturationStep_eff u e hu rfl) _ h2
  exact State.waterStep_eff _ d h3 rfl

theorem execMutualPhaseDone_eq {d c : Nat} (bs : List BurstReading) {s : State} (hc : (s.kdie d).cycle = some c) :
    exec (.mutualPhaseDone d bs) s = .next (if (s.kdie d).nextPhase < 7 then (s.phaseRead d c bs).modKdie d (fun g => { g with nextPhase := (s.kdie d).nextPhase + 1 })
      else ((s.phaseRead d c bs).phaseEnds d (decide (s.reg (0x6100 + d) 0xB = 0))).modKdie d (fun g => { g with cycle := none, nextPhase := 0 })) := by
  rw [exec_mutualPhaseDone]
  unfold execMutualPhaseDone
  rw [hc]
  dsimp only
  split <;> rfl

/-- A phase ends, with its decision inside the phase's limit; the eighth ends the cycle (R466). -/
theorem mutualPhaseDone_ends {d c : Nat} (bs : List BurstReading) {s : State} (hc : (s.kdie d).cycle = some c) :
    ∃ t : State, exec (.mutualPhaseDone d bs) s = .next t ∧
    max s.now (c + 60000 + 20000 * (s.kdie d).nextPhase) ≤ t.now ∧ t.now ≤ max s.now (c + 60000 + 20000 * (s.kdie d).nextPhase + us 6) ∧
    (s.coreActive d = true → t.now ≤ max s.now (c + 60000 + 20000 * (s.kdie d).nextPhase + us 4)) ∧ SameRings s t ∧ t.mem = s.mem ∧
    (t.kdie d).nextPhase = (if (s.kdie d).nextPhase < 7 then (s.kdie d).nextPhase + 1 else 0) ∧ (7 ≤ (s.kdie d).nextPhase → (t.kdie d).cycle = none) ∧
    ((s.kdie d).nextPhase < 7 → (s.electrodes d 1).length ≤ (s.kdie d).nextPhase → t = { s with now := t.now, clock := t.clock, keys := t.keys } ∧ (t.kdie d).cycle = some c ∧
      t.now = max s.now (c + 60000 + 20000 * (s.kdie d).nextPhase)) := by
  have hx := execMutualPhaseDone_eq bs hc
  obtain ⟨hlo, hhi, he⟩ := s.phaseRead_spec d c bs
  have hsix : (if s.coreActive d = true then us 4 else us 6) ≤ us 6 := by split <;> decide
  have hfour : s.coreActive d = true → (if s.coreActive d = true then us 4 else us 6) = us 4 := fun h => if_pos h
  by_cases hp : (s.kdie d).nextPhase < 7
  · rw [if_pos hp] at hx
    have ht : Eff 18280523768006 s ((s.phaseRead d c bs).modKdie d (fun g => { g with nextPhase := (s.kdie d).nextPhase + 1 })) := State.modKdie_eff _ d _ he rfl
    refine ⟨_, hx, hlo, le_trans hhi (by omega), fun hcore => ?_, SameRings.of_eff ht, ht.mem_eq, ?_, fun h7 => absurd hp (by omega), fun _ hidle => ?_⟩
    · rw [hfour hcore] at hhi
      exact hhi
    · rw [State.kdie_modKdie_self, if_pos hp]
    · have hkd : ((s.arriveAt (c + 60000 + 20000 * (s.kdie d).nextPhase)).kdie d).cycle = some c := hc
      rw [State.phaseRead_idle hidle, State.kdie_modKdie_self]
      exact ⟨rfl, hkd, rfl⟩
  · rw [if_neg hp] at hx
    have hee : Eff 18280523768000 (s.phaseRead d c bs) (((s.phaseRead d c bs).phaseEnds d (decide (s.reg (0x6100 + d) 0xB = 0))).modKdie d
        (fun g => { g with cycle := none, nextPhase := 0 })) := State.modKdie_eff _ d _ ((s.phaseRead d c bs).phaseEnds_eff d _) rfl
    have hnow := hee.now_eq
    have ht := Eff.call he hee rfl
    refine ⟨_, hx, le_trans hlo (le_of_eq hnow.symm), le_trans (le_of_eq hnow) (le_trans hhi (by omega)), fun hcore => ?_, SameRings.of_eff ht, ht.mem_eq, ?_, fun _ => ?_,
      fun hlt => absurd hlt hp⟩
    · rw [hfour hcore] at hhi
      exact le_trans (le_of_eq hnow) hhi
    · rw [State.kdie_modKdie_self, if_neg hp]
    · rw [State.kdie_modKdie_self]

/-! ### The decision for a key -/

/-- A released key's count of candidates, and its moment of crossing (R468). -/
def State.counted (s : State) (k np ending : Nat) : State := s.modKey k (fun x => { x with np := np, crossing := if np = 1 then ending else x.crossing })

theorem State.rebase_spec (s : State) (k m v : Nat) (force : Bool) :
    (s.rebase k m v force).reg (0x6200 + k) 0x12 = m ∧ (force = true → (s.rebase k m v force).reg (0x6000 + s.keySelf k) 4 = v) ∧
    (∀ n, n % 256 ≠ 0x12 → n % 256 ≠ 4 → (s.rebase k m v force).reg (0x6200 + k) n = s.reg (0x6200 + k) n) ∧
    (s.rebase k m v force).keyw k = { s.keyw k with drift := 0, negative := 0 } ∧ (s.rebase k m v force).reflex = s.reflex := by
  obtain ⟨u, hu⟩ : ∃ u, u = (s.setReg (0x6200 + k) 0x12 m).modKey k (fun x => { x with drift := 0, negative := 0 }) := ⟨_, rfl⟩
  have h12 : u.reg (0x6200 + k) 0x12 = m := by rw [hu]; exact State.reg_setReg_self _ _ _ _
  have hother : ∀ n, n % 256 ≠ 0x12 → u.reg (0x6200 + k) n = s.reg (0x6200 + k) n := fun n hn => by
    rw [hu]; exact State.reg_setReg_of_ne _ _ _ _ _ _ (entryKey_inst_ne (Ne.symm hn))
  have hkey : u.keyw k = { s.keyw k with drift := 0, negative := 0 } := by rw [hu]; exact State.keyw_modKey_self _ _ _
  have hreflex : u.reflex = s.reflex := by rw [hu]; rfl
  unfold State.rebase
  dsimp only
  rw [← hu]
  clear hu
  have h4 : ∀ n, n % 256 ≠ 4 → (u.setReg (0x6000 + s.keySelf k) 4 v).reg (0x6200 + k) n = u.reg (0x6200 + k) n := fun n hn =>
    State.reg_setReg_of_ne _ _ _ _ _ _ (entryKey_inst_ne (Ne.symm hn))
  by_cases hheld : (!force && s.selfHeld k) = true
  · rw [if_pos hheld]
    refine ⟨h12, fun hf => ?_, fun n hn _ => hother n hn, hkey, hreflex⟩
    rw [hf] at hheld
    cases hheld
  · rw [if_neg hheld]
    exact ⟨(h4 0x12 (by decide)).trans h12, fun _ => State.reg_setReg_self _ _ _ _, fun n hn hn' => (h4 n hn').trans (hother n hn), hkey, hreflex⟩

/-- A released key: pressed after its debounce cycles, and rebased after three negative ones (R468, R473). -/
theorem decideKey_released {k m v ending np : Nat} {dm ds : Int} {dry : Bool} {s t : State} (h3 : s.keyState k = 3) (ht : t = s.decideKey k m v ending dm ds dry)
    (hnp : np = (if (s.keyCfg k 5 : Int) ≤ dm ∧ (s.keyCfg k 7 = 0 ∨ (s.keyCfg k 7 : Int) ≤ ds) ∧ dry = true then (s.keyw k).np + 1 else 0)) :
    (s.keyCfg k 8 ≤ np → ∃ u : State, t = (u.dispatchPress k).keyEvent k 0x30 1 (u.keyDetail k (s.now - (u.keyw k).heldFrom)) ∧ u.keyState k = 4 ∧
      u.reg (0x6200 + k) 0x15 = satAdd (entryBits (0x6200 + k) 0x15) (s.reg (0x6200 + k) 0x15) 1 ∧ u.reg (0x6200 + k) 0x17 = s.now ∧
      (u.keyw k).heldFrom = (if np = 1 then ending else (s.keyw k).crossing) ∧ (u.keyw k).silent = false ∧ u = { s with live := u.live, keys := u.keys }) ∧
    (np < s.keyCfg k 8 → t.keyState k = 3 ∧ (t.keyw k).np = np ∧ t.reg (0x6200 + k) 0x15 = s.reg (0x6200 + k) 0x15 ∧ t.reflex = s.reflex ∧
      ((-(s.keyCfg k 0xB : Int) < dm ∧ -(s.keyCfg k 0xB : Int) < ds) ∨ (s.keyw k).negative ≠ 2 → t = { s with keys := t.keys }) ∧
      ((dm ≤ -(s.keyCfg k 0xB : Int) ∨ ds ≤ -(s.keyCfg k 0xB : Int)) → (s.keyw k).negative = 2 →
        ∃ u : State, t = u.keyStateEvent k 3 ∧ u.reg (0x6200 + k) 0x12 = m ∧ (u.keyw k).negative = 0)) := by
  have hcand : (if (decide ((s.keyCfg k 5 : Int) ≤ dm) && (decide (s.keyCfg k 7 = 0) || decide ((s.keyCfg k 7 : Int) ≤ ds)) && dry) = true then (s.keyw k).np + 1 else 0) = np := by
    rw [hnp]
    simp only [Bool.and_eq_true, Bool.or_eq_true, decide_eq_true_eq, and_assoc]
  unfold State.decideKey at ht
  dsimp only at ht
  rw [if_pos h3, hcand, show s.modKey k (fun x => { x with np := np, crossing := if np = 1 then ending else x.crossing }) = s.counted k np ending from rfl] at ht
  have hkey : (s.counted k np ending).keyw k = { s.keyw k with np := np, crossing := if np = 1 then ending else (s.keyw k).crossing } := State.keyw_modKey_self _ _ _
  have hframe : s.counted k np ending = { s with keys := (s.counted k np ending).keys } := rfl
  have hreg : ∀ i n, (s.counted k np ending).reg i n = s.reg i n := fun _ _ => rfl
  clear hcand hnp
  generalize s.counted k np ending = w at *
  refine ⟨fun hle => ?_, fun hlt => ?_⟩
  · rw [if_pos hle] at ht
    obtain ⟨u, hu⟩ : ∃ u, u = (((w.setKeyState k 4).modKey k (fun x => { x with nr := 0, heldFrom := (w.keyw k).crossing, negative := 0, silent := false })).inc (0x6200 + k) 0x15).setReg
      (0x6200 + k) 0x17 s.now := ⟨_, rfl⟩
    rw [← hu] at ht
    have hue : Eff 137438953600 w u := by
      rw [hu]
      exact State.setReg_eff _ _ _ _ (State.inc_eff _ _ _ (State.modKey_eff _ _ _ (State.setReg_eff w _ _ _ (Eff.refl _ w) rfl) rfl) rfl) rfl
    have huk : u.keyw k = { w.keyw k with nr := 0, heldFrom := (w.keyw k).crossing, negative := 0, silent := false } := by
      rw [hu]
      exact State.keyw_modKey_self (w.setKeyState k 4) k (fun x => { x with nr := 0, heldFrom := (w.keyw k).crossing, negative := 0, silent := false })
    have hne : ∀ (x : State) {a b : Nat} (y : Nat), a % 256 ≠ b % 256 → (x.setReg (0x6200 + k) a y).reg (0x6200 + k) b = x.reg (0x6200 + k) b := fun x _ _ y hab =>
      State.reg_setReg_of_ne _ _ _ _ _ _ (entryKey_inst_ne hab)
    have hmod : ∀ (x : State) f n, (x.modKey k f).reg (0x6200 + k) n = x.reg (0x6200 + k) n := fun _ _ _ => rfl
    refine ⟨u, ?_, ?_, ?_, ?_, ?_, ?_, ?_⟩
    · rw [ht, huk]
    · rw [hu]
      unfold State.keyState State.inc State.count
      rw [hne _ _ (by decide), hne _ _ (by decide), hmod]
      exact State.keyState_setKeyState w k 4
    · rw [hu]
      unfold State.inc State.count
      rw [hne _ _ (by decide), State.reg_setReg_self, hmod]
      unfold State.setKeyState
      rw [hne _ _ (by decide), hreg]
    · rw [hu]
      exact State.reg_setReg_self _ _ _ _
    · rw [huk, hkey]
    · rw [huk]
    · rw [hue.frame, hframe]
      rfl
  · rw [if_neg (by omega)] at ht
    have hq : ∀ n : Nat, ∃ x, x = w.modKey k (fun x => { x with negative := n }) ∧ x.keyw k = { w.keyw k with negative := n } ∧ x = { s with keys := x.keys } ∧
        (∀ i m, x.reg i m = s.reg i m) := fun n =>
      ⟨_, rfl, State.keyw_modKey_self _ _ _, congrArg (fun y : State => y.modKey k (fun x => { x with negative := n })) hframe, hreg⟩
    obtain ⟨x, hx, hxk, hxf, hxr⟩ := hq (if decide (dm ≤ -(s.keyCfg k 0xB : Int) ∨ ds ≤ -(s.keyCfg k 0xB : Int)) = true then (s.keyw k).negative + 1 else 0)
    rw [← hx] at ht
    have hxs : x.keyState k = 3 := (hxr _ _).trans h3
    have hxn : (x.keyw k).np = np := by rw [hxk, hkey]
    have hxe : x.reflex = s.reflex := by rw [hxf]
    clear hx hxk
    by_cases hneg : dm ≤ -(s.keyCfg k 0xB : Int) ∨ ds ≤ -(s.keyCfg k 0xB : Int)
    · rw [if_pos (decide_eq_true hneg)] at ht
      by_cases h2 : (s.keyw k).negative = 2
      · rw [if_pos (by omega)] at ht
        obtain ⟨h12, -, hother, hrk, hrr⟩ := x.rebase_spec k m v false
        subst ht
        unfold State.keyStateEvent
        refine ⟨?_, ?_, ?_, ?_, fun h => ?_, fun _ _ => ⟨_, rfl, h12, ?_⟩⟩
        · exact (State.reg_keyEvent _ _ _ _ _ _ _ (by decide)).trans ((hother 0x10 (by decide) (by decide)).trans hxs)
        · unfold State.keyw
          rw [State.keys_keyEvent]
          exact (congrArg KeyWork.np hrk).trans hxn
        · exact (State.reg_keyEvent _ _ _ _ _ _ _ (by decide)).trans ((hother 0x15 (by decide) (by decide)).trans (hxr _ _))
        · rw [State.reflex_keyEvent, hrr, hxe]
        · rcases h with ⟨ha, hb⟩ | h
          · rcases hneg with hneg | hneg <;> omega
          · exact absurd h2 h
        · rw [hrk]
      · rw [if_neg (by omega)] at ht
        subst ht
        exact ⟨hxs, hxn, hxr _ _, hxe, fun _ => hxf, fun _ h => absurd h h2⟩
    · rw [if_neg (by rw [if_neg (by simpa using hneg)]; decide)] at ht
      subst ht
      exact ⟨hxs, hxn, hxr _ _, hxe, fun _ => hxf, fun h => absurd h hneg⟩

/-- A key that is not released: released by its debounce or its hold limit (R468, R470). -/
theorem decideKey_pressed {k m v ending nr : Nat} {dm ds : Int} {dry : Bool} {s t : State} (h3 : s.keyState k ≠ 3) (ht : t = s.decideKey k m v ending dm ds dry)
    (hnr : nr = (if dm < (s.keyCfg k 6 : Int) then (s.keyw k).nr + 1 else 0)) :
    (s.keyCfg k 9 ≤ nr → ∃ u : State, t = u.releaseKey k 2 true ∧ u = { s with keys := u.keys }) ∧
    (nr < s.keyCfg k 9 → s.keyCfg k 0xA ≠ 0 → sec (s.keyCfg k 0xA) ≤ ending - (s.keyw k).heldFrom → ∃ u : State, t = u.releaseKey k 3 true ∧ u.reg (0x6200 + k) 0x12 = m ∧
      u.reg (0x6000 + s.keySelf k) 4 = v ∧ u.reg (0x6200 + k) 0x16 = satAdd (entryBits (0x6200 + k) 0x16) (s.reg (0x6200 + k) 0x16) 1) ∧
    (nr < s.keyCfg k 9 → s.keyCfg k 0xA = 0 ∨ ending - (s.keyw k).heldFrom < sec (s.keyCfg k 0xA) → t = { s with keys := t.keys } ∧ (t.keyw k).nr = nr) := by
  unfold State.decideKey at ht
  dsimp only at ht
  rw [if_neg h3, ← hnr] at ht
  refine ⟨fun hle => ?_, fun hlt hlim hlong => ?_, fun hlt hshort => ?_⟩
  · rw [if_pos hle] at ht
    exact ⟨_, ht, rfl⟩
  · rw [if_neg (by omega), if_pos ⟨hlim, hlong⟩] at ht
    obtain ⟨h12, h4, hother, -, -⟩ := (s.modKey k (fun x => { x with nr := nr })).rebase_spec k m v true
    have hne : ∀ (x : State) {i b : Nat}, b % 256 ≠ 0x16 → (x.inc (0x6200 + k) 0x16).reg i b = x.reg i b := fun x _ _ hb =>
      State.reg_setReg_of_ne _ _ _ _ _ _ (entryKey_inst_ne (Ne.symm hb))
    refine ⟨_, ht, ?_, ?_, ?_⟩
    · rw [hne _ (by decide), h12]
    · rw [hne _ (by decide)]
      exact h4 rfl
    · refine (State.reg_setReg_self _ _ _ _).trans ?_
      rw [hother 0x16 (by decide) (by decide)]
      rfl
  · rw [if_neg (by omega), if_neg (fun hh => by rcases hshort with h | h <;> omega)] at ht
    subst ht
    exact ⟨rfl, by rw [State.keyw_modKey_self]⟩

/-! ### The evaluation of a key -/

theorem driftStep_spec (b r c l : Nat) : (c + 1 < l → driftStep b r c l = (b, c + 1)) ∧
    (l ≤ c + 1 → (driftStep b r c l).2 = 0 ∧ (b < r → (driftStep b r c l).1 = b + 1) ∧ (r < b → (driftStep b r c l).1 = b - 1) ∧ (r = b → (driftStep b r c l).1 = b)) := by
  unfold driftStep
  refine ⟨fun h => if_pos h, fun h => ?_⟩
  rw [if_neg (by omega)]
  refine ⟨rfl, fun hlt => if_pos hlt, fun hlt => ?_, fun heq => ?_⟩
  · exact (if_neg (by omega)).trans (if_pos hlt)
  · exact (if_neg (by omega)).trans (if_neg (by omega))

/-- An evaluation with a reading missing changes neither state nor counts (R467). -/
theorem evaluateKey_invalid {k ending : Nat} {dry : Bool} {m : Option Nat} {s t : State} (ht : t = s.evaluateKey k m ending dry) (h1 : s.keyState k ≠ 1)
    (h : m = none ∨ (s.elec (s.keySelf k)).reading = none) :
    t.keyState k = s.keyState k ∧ (t.keyw k).np = (s.keyw k).np ∧ (t.keyw k).nr = (s.keyw k).nr ∧ (t.keyw k).negative = (s.keyw k).negative ∧ (t.keyw k).uncover = (s.keyw k).uncover ∧
    t = { s with live := t.live, keys := t.keys } := by
  have hnode : ∀ u : State, u.keyState k = s.keyState k → u = { s with live := u.live, keys := u.keys } → u.keys = s.keys →
      ∀ w, w = u.modKey k (fun x => { x with node := m }) → w.keyState k = s.keyState k ∧ (w.keyw k).np = (s.keyw k).np ∧ (w.keyw k).nr = (s.keyw k).nr ∧
        (w.keyw k).negative = (s.keyw k).negative ∧ (w.keyw k).uncover = (s.keyw k).uncover ∧ w = { s with live := w.live, keys := w.keys } := by
    intro u hst hfr hkeys w hw
    have hwk : w.keyw k = { s.keyw k with node := m } := by
      rw [hw, State.keyw_modKey_self]
      unfold State.keyw
      rw [hkeys]
    have hwf : w = { s with live := w.live, keys := w.keys } := by
      rw [hw]
      exact congrArg (fun y : State => y.modKey k (fun x => { x with node := m })) hfr
    rw [hwk]
    exact ⟨by rw [hw]; exact hst, rfl, rfl, rfl, rfl, hwf⟩
  unfold State.evaluateKey at ht
  dsimp only at ht
  rw [if_neg h1] at ht
  cases m with
  | none => exact hnode s rfl rfl rfl t ht
  | some n =>
    have hread : (s.elec (s.keySelf k)).reading = none := by
      rcases h with h | h
      · cases h
      · exact h
    rw [hread] at ht
    exact hnode (s.setReg (0x6200 + k) 0x11 n) (State.reg_setReg_of_ne _ _ _ _ _ _ (entryKey_inst_ne (by decide))) rfl rfl t ht

/-- A covered key stays covered while its reading is that of a cover (R474). -/
theorem evaluateKey_covered {k m ending v : Nat} {dry : Bool} {s : State} (h2 : s.keyState k = 2) (hv : (s.elec (s.keySelf k)).reading = some v)
    (hd : (s.keyCfg k 6 : Int) ≤ (s.deltas k m v).1) (h9 : s.keyCfg k 9 ≠ 0) : (s.evaluateKey k (some m) ending dry).keyState k = 2 := by
  have hset : ∀ (u : State) (n : Nat) (x : Int), n % 256 ≠ 0x10 → (u.setRegI (0x6200 + k) n x).keyState k = u.keyState k := fun u n x hn =>
    State.reg_of_liveAt (by rw [State.setRegI_eq, State.liveAt_setLive, if_neg (entryKey_inst_ne hn)])
  unfold State.evaluateKey
  dsimp only
  rw [if_neg (by omega), hv]
  dsimp only
  rw [if_pos h2, if_neg (Int.not_lt.2 hd), if_neg (by omega)]
  have hkeep : ∀ (u : State) f, (u.modKey k f).keyState k = u.keyState k := fun _ _ => rfl
  rw [hkeep, hset _ _ _ (by decide), hset _ _ _ (by decide), hkeep]
  exact (State.reg_setReg_of_ne _ _ _ _ _ _ (entryKey_inst_ne (by decide))).trans h2

/-! ### Water -/

theorem State.reg_waterEvent (s : State) (d reason mask j k : Nat) (hk : k % 256 ≠ 0x12) : (s.waterEvent d reason mask).reg j k = s.reg j k := by
  unfold State.waterEvent
  exact State.each_keeps (P := fun t => t.reg j k = s.reg j k) _ _ (fun t n h => (State.reg_event _ _ _ _ _ _ _ _ _ _ hk).trans h) s rfl

/-- What the judgement of water shows, from the state that holds the mask. -/
theorem State.waterJudged_spec {w : State} {d mask : Nat} (r0 wr dr limit : Nat) (hC : w.reg (0x6100 + d) 0xC = mask) (hB : w.reg (0x6100 + d) 0xB = r0) {t : State}
    (ht : t = if r0 = 0 then (if 2 ≤ wr then (w.setReg (0x6100 + d) 0xB 1).waterEvent d 1 mask else w)
      else if limit ≤ dr then (w.setReg (0x6100 + d) 0xB 0).waterEvent d 2 mask else w) :
    t.reg (0x6100 + d) 0xC = mask ∧ (r0 = 0 → (t.reg (0x6100 + d) 0xB = 1 ↔ 2 ≤ wr)) := by
  have hset : ∀ v r, ((w.setReg (0x6100 + d) 0xB v).waterEvent d r mask).reg (0x6100 + d) 0xC = mask := fun v r => by
    rw [State.reg_waterEvent _ _ _ _ _ _ (by decide), State.reg_setReg_of_ne _ _ _ _ _ _ (entryKey_inst_ne (by decide)), hC]
  by_cases h0 : r0 = 0
  · rw [if_pos h0] at ht
    by_cases hrun : 2 ≤ wr
    · rw [if_pos hrun] at ht
      rw [ht]
      refine ⟨hset _ _, fun _ => iff_of_true ?_ hrun⟩
      rw [State.reg_waterEvent _ _ _ _ _ _ (by decide), State.reg_setReg_self]
    · rw [if_neg hrun] at ht
      rw [ht]
      exact ⟨hC, fun _ => iff_of_false (by omega) hrun⟩
  · rw [if_neg h0] at ht
    refine ⟨?_, fun h => absurd h h0⟩
    split at ht
    · rw [ht]; exact hset _ _
    · rw [ht]; exact hC

theorem State.waterStep_spec (d : Nat) (s : State) :
    (s.waterStep d).reg (0x6100 + d) 0xC = (((s.electrodes d 1 ++ s.electrodes d 2).filter s.wetElectrode).map (fun e => 2 ^ (e % 16))).sum ∧
    (s.reg (0x6100 + d) 0xB = 0 → ((s.waterStep d).reg (0x6100 + d) 0xB = 1 ↔
      s.use (0x6100 + d) 8 ≤ ((s.electrodes d 1 ++ s.electrodes d 2).filter s.wetElectrode).length ∧ 1 ≤ (s.kdie d).wetRun)) := by
  have hmask : ∀ (n : Nat) f, ((s.setReg (0x6100 + d) 0xC n).modKdie d f).reg (0x6100 + d) 0xC = n := fun _ _ => State.reg_setReg_self _ _ _ _
  have hstate : ∀ (n : Nat) f, ((s.setReg (0x6100 + d) 0xC n).modKdie d f).reg (0x6100 + d) 0xB = s.reg (0x6100 + d) 0xB := fun _ _ =>
    State.reg_setReg_of_ne _ _ _ _ _ _ (entryKey_inst_ne (by decide))
  unfold State.waterStep
  extract_lets es wet mask many g wr dr s1
  obtain ⟨h1, h2⟩ := State.waterJudged_spec (s.reg (0x6100 + d) 0xB) wr dr (s.use (0x6100 + d) 9) (hmask mask _) (hstate mask _) (t := _) rfl
  refine ⟨h1, fun h0 => (h2 h0).trans ?_⟩
  by_cases hmany : s.use (0x6100 + d) 8 ≤ wet.length
  · have hwr : wr = g.wetRun + 1 := if_pos (decide_eq_true hmany)
    rw [hwr]
    exact ⟨fun h => ⟨hmany, Nat.le_of_succ_le_succ h⟩, fun h => Nat.succ_le_succ h.2⟩
  · have hwr : wr = 0 := if_neg (by simpa [many] using hmany)
    rw [hwr]
    exact iff_of_false (by decide) (fun h => hmany h.1)

/-! ### The obligation -/

theorem State.dies_driftKey (s : State) (k : Nat) (dry : Bool) : (s.driftKey k dry).keys.dies = s.keys.dies := by
  unfold State.driftKey
  split
  · rfl
  · split <;> rfl

theorem State.dies_driftElec (s : State) (e : Nat) (dry : Bool) : (s.driftElec e dry).keys.dies = s.keys.dies := by
  unfold State.driftElec
  dsimp only
  split
  · rfl
  · split <;> rfl

/-- A wake scan of the key that wakes (R477). -/
theorem wakeScan_scans {d k due : Nat} (a b : List Nat) {s : State} (hp : s.powerState = 2) (he : s.use (0x6100 + d) 1 = 1) (hdue : (s.kdie d).wakeDue = some due)
    (hk : (s.keysOn d).find? (fun k => decide (s.keyCfg k 0xF = 1)) = some k) : ∃ (t : State) (x : Int × Int),
      x = (s.arriveAt due).deltas k (((s.arriveAt due).readingOf d 0 32 b false).getD 0) (((s.arriveAt due).readingOf d 0 64 a false).getD 0) ∧
      exec (.wakeScan d a b) s = .next (if (s.keyCfg k 5 : Int) ≤ x.1 ∧ (s.keyCfg k 7 = 0 ∨ (s.keyCfg k 7 : Int) ≤ x.2) then t.wakeFrom 3 else t) ∧
      (t.kdie d).wakeDue = some (due + ms 100) ∧ t = { s with now := t.now, clock := t.clock, free := t.free, live := t.live, keys := t.keys } := by
  have hx : exec (.wakeScan d a b) s = execWakeScan d a b s := rfl
  unfold execWakeScan at hx
  rw [if_neg (by simp [hp, he])] at hx
  split at hx
  case h_2 hno => exact absurd hdue (hno k due hk)
  rename_i k' due' hk' hdue'
  obtain rfl : k = k' := Option.some.inj (hk.symm.trans hk')
  obtain rfl : due = due' := Option.some.inj (hdue.symm.trans hdue')
  extract_lets s1 e v m x s2 s3 cand at hx
  have hs1 : Eff 137438953606 s s1 := State.modKdie_eff _ d _ (State.arriveAt_eff s due (Eff.refl _ s) rfl) rfl
  have hs1d : (s1.kdie d).wakeDue = some (due + ms 100) := by
    unfold s1
    rw [State.kdie_modKdie_self]
  have hxe : x = (s.arriveAt due).deltas k (((s.arriveAt due).readingOf d 0 32 b false).getD 0) (((s.arriveAt due).readingOf d 0 64 a false).getD 0) := rfl
  have hcand : cand = decide ((s.keyCfg k 5 : Int) ≤ x.1 ∧ (s.keyCfg k 7 = 0 ∨ (s.keyCfg k 7 : Int) ≤ x.2)) := by
    unfold cand
    rw [Bool.decide_and, Bool.decide_or]
  clear_value s1 x cand
  have hs2 : Eff 137438953600 s1 s2 := State.modKey_eff _ _ _ (State.modElec_eff _ _ _ (State.setReg_eff _ _ _ _ (State.setReg_eff s1 _ _ _ (Eff.refl _ s1) rfl) rfl) rfl) rfl
  have hs2d : s2.keys.dies = s1.keys.dies := rfl
  clear_value s2
  have hs3 : Eff 137438953664 s2 s3 := State.useFree_eff _ (State.driftElec_eff _ _ _ (State.driftKey_eff s2 _ _ (Eff.refl _ s2) rfl) rfl) rfl
  have hs3d : s3.keys.dies = s2.keys.dies := ((s2.driftKey k _).dies_driftElec e _).trans (s2.dies_driftKey k _)
  clear_value s3
  refine ⟨s3, x, hxe, ?_, ?_, ?_⟩
  · rw [hx, hcand]
    simp only [decide_eq_true_eq]
  · unfold State.kdie at hs1d ⊢
    rw [hs3d, hs2d, hs1d]
  · exact (Eff.call (Eff.call (Eff.call (Eff.refl 137438953670 s) hs1 rfl) hs2 rfl) hs3 rfl).frame

/-- Settles O51: the scan cycle, its phases, the decisions for a key, water, recapture and the wake scan. -/
theorem keysAreScanned : Obligations.KeysAreScanned := by
  unfold Obligations.KeysAreScanned
  refine ⟨fun d s h => ?_, fun d s u hs hp hsh hk hc hu => scanCycle_starts hs hp hsh hk hc hu, fun d a n counts q s ok hn hok => ⟨fun h => ?_, fun h hpos => ?_⟩, fun d t s => ?_,
    fun d bs s h => ?_, fun d c bs s hc hp => selfFrameDone_reads bs hc hp, fun d bs s h => ?_, fun d c bs s hc => mutualPhaseDone_ends bs hc,
    fun k m v ending np dm ds dry s t h3 ht hnp => decideKey_released h3 ht hnp, fun k m v ending nr dm ds dry s t h3 ht hnr => decideKey_pressed h3 ht hnr,
    fun k reason report s => ⟨fun h => State.releaseKey_unpressed reason report h, fun h => ?_⟩, fun k ending dry m s t ht h1 h => evaluateKey_invalid ht h1 h,
    fun k m ending v dry s h2 hv hd h9 => evaluateKey_covered h2 hv hd h9, driftStep_spec, State.waterStep_spec, fun req d v s u hd hv h hu => ?_, fun req d v s hd hv h1 h => ?_,
    fun d reason k s hk h5 => State.recaptureDie_keyState reason hk h5, fun d a b s h => ?_, fun d k due a b s hp he hdue hk => wakeScan_scans a b hp he hdue hk⟩
  · refine if_pos ?_
    rcases h with h | h | h | h | h <;> simp [h]
  · exact State.readingOf_few (by rwa [hok] at h)
  · exact ⟨_, State.readingOf_enough hok h, nearest_bounds _ hpos⟩
  · unfold State.burstUsable
    simp only [Bool.and_eq_true, List.all_eq_true, decide_eq_true_eq]
  · rw [exec_selfFrameDone]
    unfold execSelfFrameDone
    split
    · rfl
    · next c hc =>
      refine if_pos ?_
      rcases h with h | h
      · rw [h] at hc; cases hc
      · exact h
  · rw [exec_mutualPhaseDone, execMutualPhaseDone, h]
  · refine ⟨?_, ?_, ?_⟩
    · rw [State.keyState_releaseKey, if_pos ⟨rfl, h⟩]
    all_goals
      obtain ⟨-, hkeys⟩ := State.releaseKey_pressed reason report h
      unfold State.keyw
      rw [hkeys]
      exact congrArg _ ((s.setKeyState k 3).keyw_modKey_self k (fun x => { x with np := 0, nr := 0, negative := 0 }))
  · have hx := recapture_admits req d v s hd hv (by rwa [Nat.one_mul])
    rw [Nat.one_mul, ← hu] at hx
    exact hx
  · obtain ⟨o, hobj, hbase, hsub⟩ : ∃ o, objectAt (0x6100 + d) = some (o, d) ∧ o.base = 0x6100 ∧ o.sub? 0xF = some ⟨15, 15, "recapture", .u8, .wo, .live, .blank, .only [1], 0⟩ := by
      interval_cases d <;> exact ⟨_, rfl, rfl, rfl⟩
    have hx : (v : Int) ≠ 1 := by omega
    rw [exec_recapture, execRecapture, objectIndex, if_pos hd, Nat.one_mul,
      State.submitNumber_outOfRange hobj hsub (by omega) (by rw [hbase]; decide) rfl rfl hv (by simp [SubEntry.inRange, hx]) h]
  · rw [exec_wakeScan]
    unfold execWakeScan
    by_cases hg : s.powerState ≠ 2 ∨ s.use (0x6100 + d) 1 ≠ 1
    · rw [if_pos hg]
    · rw [if_neg hg]
      rcases h with h | h | h | h
      · exact absurd (.inl h) hg
      · exact absurd (.inr h) hg
      · rw [h]
        split
        · next hdue => cases hdue
        · rfl
      · rw [h]

end Sys2Proof.Machine
end

section
/-! PROOF of the haptic channels: what the operations on a channel change (R486 to R511). -/
set_option Elab.async false
namespace Sys2Proof.Machine

/-! ### A channel's own state -/

theorem State.hap_modHap (s : State) (c d : Nat) (f : Haptic → Haptic) : (s.modHap c f).hap d = if c = d then f (s.hap c) else s.hap d := by
  simp only [State.hap, State.modHap, Tab.getD_put]

theorem State.hap_modHap_self (s : State) (c : Nat) (f : Haptic → Haptic) : (s.modHap c f).hap c = f (s.hap c) := by
  rw [State.hap_modHap, if_pos rfl]

theorem State.hap_of_haptics {s t : State} (h : t.haptics = s.haptics) (c : Nat) : t.hap c = s.hap c := by
  unfold State.hap
  rw [h]

theorem State.reg_endPlay (s : State) (p : HapticPlay) (status j k : Nat) (hk : k % 256 ≠ 0x12) : (s.endPlay p status).reg j k = s.reg j k := by
  unfold State.endPlay State.endEntry
  split
  · exact State.reg_event _ _ _ _ _ _ _ _ _ _ hk
  · rfl

theorem State.haptics_endPlay (s : State) (p : HapticPlay) (status : Nat) : (s.endPlay p status).haptics = s.haptics := by
  rw [(State.endPlay_eff s p status (Eff.refl 17593261891712 s) rfl).frame]
  rfl

theorem State.haptics_event (s : State) (i a b c d e f : Nat) : (s.event i a b c d e f).haptics = s.haptics := by
  rw [(State.event_eff s i a b c d e f (Eff.refl 17593261891712 s) rfl).frame]
  rfl

theorem State.now_endPlay (s : State) (p : HapticPlay) (status : Nat) : (s.endPlay p status).now = s.now :=
  (State.endPlay_eff s p status (Eff.refl 17593261891712 s) rfl).now_eq

theorem State.reg_reflexDropped (s : State) (c : Nat) (t : HapticTrigger) (reason j k : Nat) (h12 : k % 256 ≠ 0x12) (h45 : k % 256 ≠ 0x45) (h20 : k % 256 ≠ 0x20) :
    (s.reflexDropped c t reason).reg j k = s.reg j k := by
  have h : ∀ d, ((s.inc (0x6600 + d) 0x45).inc (0x6400 + c) 0x20).reg j k = s.reg j k := fun d =>
    (State.reg_setReg_of_ne _ _ _ _ _ _ (entryKey_inst_ne (Ne.symm h20))).trans (State.reg_setReg_of_ne _ _ _ _ _ _ (entryKey_inst_ne (Ne.symm h45)))
  unfold State.reflexDropped
  dsimp only
  split
  · split
    · exact h _
    · exact (State.reg_event _ _ _ _ _ _ _ _ _ _ h12).trans (h _)
  · exact (State.reg_event _ _ _ _ _ _ _ _ _ _ h12).trans (h _)

theorem State.haptics_reflexDropped (s : State) (c : Nat) (t : HapticTrigger) (reason : Nat) : (s.reflexDropped c t reason).haptics = s.haptics := by
  rw [(State.reflexDropped_eff s c t reason (Eff.refl 17593261891712 s) rfl).frame]
  rfl

theorem State.reg_abandonPiezo (s : State) (p : Nat → Bool) (j k : Nat) (hk : k % 256 ≠ 5) : (s.abandonPiezo p).reg j k = s.reg j k := by
  unfold State.abandonPiezo
  exact State.each_keeps (P := fun t => t.reg j k = s.reg j k) _ _ (fun t n h => (State.reg_setReg_of_ne _ _ _ _ _ _ (entryKey_inst_ne (Ne.symm hk))).trans h) _ rfl

theorem State.haptics_abandonPiezo (s : State) (p : Nat → Bool) : (s.abandonPiezo p).haptics = s.haptics := by
  rw [(State.abandonPiezo_eff s p (Eff.refl 536871040 s) rfl).frame]
  rfl

/-! ### The state code of a channel -/

theorem State.hapState_setHapState (s : State) (c v : Nat) : (s.setHapState c v).hapState c = v := by
  unfold State.setHapState
  split
  · next h => exact (State.reg_setReg_self _ _ _ _).trans h.symm
  · exact State.reg_setReg_self _ _ _ _

theorem State.reg_setHapState (s : State) (c v j k : Nat) (h18 : k % 256 ≠ 0x18) (h5 : k % 256 ≠ 5) : (s.setHapState c v).reg j k = s.reg j k := by
  unfold State.setHapState
  split
  · refine (State.reg_setReg_of_ne _ _ _ _ _ _ (entryKey_inst_ne (Ne.symm h18))).trans ?_
    split <;> rfl
  · exact (State.reg_setReg_of_ne _ _ _ _ _ _ (entryKey_inst_ne (Ne.symm h18))).trans (State.reg_abandonPiezo _ _ _ _ h5)

/-- A change of state code keeps the channel but for the moment it fell idle. -/
theorem State.hap_setHapState (s : State) (c v : Nat) : ∃ n, (s.setHapState c v).hap c = { s.hap c with idleAt := n } := by
  unfold State.setHapState
  split
  · split
    · exact ⟨(s.hap c).idleAt, rfl⟩
    · exact ⟨s.now, s.hap_modHap_self c (fun h => { h with idleAt := s.now })⟩
  · exact ⟨(s.hap c).idleAt, State.hap_of_haptics (s.haptics_abandonPiezo _) c⟩

/-! ### An effect that is over -/

/-- An effect over: no effect runs, all else of the channel stays. -/
theorem State.hap_effectOver (s : State) (c status : Nat) : (s.effectOver c status).hap c = { s.hap c with running := none } := by
  have hlearn : ∀ (u : State) (b : Prop) [Decidable b] v, (if b then u.setReg (0x6400 + c) 0x23 v else u).haptics = u.haptics := by
    intro u b _ v
    split <;> rfl
  have hover : ∀ u : State, u.haptics = (s.modHap c (fun h => { h with running := none })).haptics → u.hap c = { s.hap c with running := none } := fun u hu =>
    (State.hap_of_haptics hu c).trans (s.hap_modHap_self c (fun h => { h with running := none }))
  unfold State.effectOver
  split
  · next hr => exact congrArg (fun r => { s.hap c with running := r }) hr
  · next e _ =>
    dsimp only
    cases e.play with
    | none => exact hover _ (hlearn _ _ _)
    | some p => exact hover _ ((State.haptics_endPlay _ _ _).trans (hlearn _ _ _))

theorem State.reg_effectOver (s : State) (c status j k : Nat) (h12 : k % 256 ≠ 0x12) (h23 : k % 256 ≠ 0x23) : (s.effectOver c status).reg j k = s.reg j k := by
  have hlearn : ∀ (u : State) (b : Prop) [Decidable b] v, (if b then u.setReg (0x6400 + c) 0x23 v else u).reg j k = u.reg j k := by
    intro u b _ v
    split
    · exact State.reg_setReg_of_ne _ _ _ _ _ _ (entryKey_inst_ne (Ne.symm h23))
    · rfl
  unfold State.effectOver
  split
  · rfl
  · next e _ =>
    dsimp only
    cases e.play with
    | none => exact hlearn _ _ _
    | some p => exact (State.reg_endPlay _ _ _ _ _ h12).trans (hlearn _ _ _)

theorem State.now_effectOver (s : State) (c status : Nat) : (s.effectOver c status).now = s.now :=
  (State.effectOver_eff s c status (Eff.refl 17868139798656 s) rfl).now_eq

/-! ### What waits on a channel -/

theorem State.startWaiting_idle {s : State} {c : Nat} (scaled : Bool) (h : (s.hap c).play = none) : s.startWaiting c scaled = s := by
  unfold State.startWaiting
  rw [h]

theorem State.busyWaiting_idle {s : State} {c : Nat} (h : (s.hap c).play = none) : s.busyWaiting c = s := by
  unfold State.busyWaiting
  rw [h]

theorem State.busyWaiting_keeps (s : State) (c : Nat) : (s.busyWaiting c).hap c = { s.hap c with play := ((s.busyWaiting c).hap c).play } ∧ (s.busyWaiting c).hapState c = s.hapState c := by
  unfold State.busyWaiting
  split
  · exact ⟨rfl, rfl⟩
  · split
    · exact ⟨rfl, rfl⟩
    · refine ⟨?_, State.reg_endPlay _ _ _ _ _ (by decide)⟩
      rw [State.hap_of_haptics (State.haptics_endPlay _ _ _) c, State.hap_modHap_self]

/-- The end of an effect on a channel where no PLAY waits: it rests. -/
theorem State.effectEnds_rests {s : State} (c st : Nat) (h : (s.hap c).play = none) :
    ((s.effectEnds c st).hap c).running = none ∧ (s.effectEnds c st).hapState c = (if (s.hap c).limited then 5 else 2) := by
  obtain ⟨n, hn⟩ := (s.effectOver c st).hap_setHapState c (s.restState c)
  rw [s.hap_effectOver] at hn
  have hplay : (((s.effectOver c st).setHapState c (s.restState c)).hap c).play = none := by rw [hn]; exact h
  have hrun : (((s.effectOver c st).setHapState c (s.restState c)).hap c).running = none := by rw [hn]
  have hstate := (s.effectOver c st).hapState_setHapState c (s.restState c)
  unfold State.effectEnds
  dsimp only
  rw [State.busyWaiting_idle hplay, State.startWaiting_idle false hplay, ite_self]
  exact ⟨hrun, hstate⟩

end Sys2Proof.Machine
end

section
/-! PROOF of the haptic onsets, triggers and stages (R492 to R499, R517, R526). -/
set_option Elab.async false
namespace Sys2Proof.Machine

/-! ### An onset -/

theorem State.hap_announce (s : State) (c t : Nat) :
    (s.announce c t).hap c = { s.hap c with edges := ((s.hap c).edges.filter (fun e => decide (s.now ≤ e + 1000000))) ++ [t] } :=
  s.hap_modHap_self c (fun h => { h with edges := (h.edges.filter (fun e => decide (s.now ≤ e + 1000000))) ++ [t] })

theorem State.mem_edges_announce (s : State) (c t : Nat) : t ∈ ((s.announce c t).hap c).edges := by
  rw [State.hap_announce]
  exact List.mem_append_right _ (List.mem_singleton.2 rfl)

theorem State.mem_edges_announce_of_mem {s : State} {c x : Nat} (t : Nat) (h : x ∈ (s.hap c).edges) (hx : s.now ≤ x + 1000000) : x ∈ ((s.announce c t).hap c).edges := by
  rw [State.hap_announce]
  exact List.mem_append_left _ (List.mem_filter.2 ⟨h, decide_eq_true hx⟩)

/-- The moment of an onset: within the limit of its source (R497). -/
theorem State.onsetTime_spec (s : State) (src : TriggerSource) (p : Option HapticPlay) :
    (src = .pin → s.now ≤ s.onsetTime src p ∧ s.onsetTime src p ≤ s.now + us 8) ∧ (src = .reflex → s.now ≤ s.onsetTime src p ∧ s.onsetTime src p ≤ s.now + us 4) ∧
    (src = .software → s.now ≤ s.onsetTime src p + 100 ∧ s.onsetTime src p ≤ s.now + 100) := by
  have hmod : ∀ n : Nat, Config.freeNat s.free % (n + 1) ≤ n := fun n => Nat.lt_succ_iff.1 (Nat.mod_lt _ (Nat.succ_pos n))
  refine ⟨fun h => ?_, fun h => ?_, fun h => ?_⟩
  · subst h
    have := hmod (us 8)
    change s.now ≤ s.now + _ ∧ s.now + _ ≤ _
    omega
  · subst h
    have := hmod (us 4)
    change s.now ≤ s.now + _ ∧ s.now + _ ≤ _
    omega
  · subst h
    have := hmod 200
    unfold State.onsetTime
    cases p with
    | none => dsimp only; omega
    | some p =>
      dsimp only
      split <;> omega

/-- An onset begins the overdrive or the first segment, counts and is stamped (R487, R492, R503). -/
theorem State.onset_spec (s : State) (c : Nat) (tr : HapticTrigger) (scaled : Bool) (p : Option HapticPlay) :
    (s.onset c tr scaled p).hapState c = 3 ∧ (∃ r, ((s.onset c tr scaled p).hap c).running = some r ∧ r.trigger = tr ∧ r.descriptor = s.effectBytes tr.effect ∧
      r.onset = s.onsetTime tr.source p ∧ r.phaseAt = s.onsetTime tr.source p ∧ r.play = p ∧
      (scaled = false → r.level = field (s.effectBytes tr.effect) 4 2 ∧ r.phase = field (s.effectBytes tr.effect) 0xC 2 * (phaseCycle / 360)) ∧
      (field (s.effectBytes tr.effect) 6 2 = 0 → r.stage = .segment 0 ∧ r.stageEnd = s.onsetTime tr.source p + segmentNs (s.effectBytes tr.effect) 0) ∧
      (field (s.effectBytes tr.effect) 6 2 ≠ 0 → r.stage = .overdrive ∧ r.stageEnd = s.onsetTime tr.source p + us (field (s.effectBytes tr.effect) 6 2))) ∧
    (s.onset c tr scaled p).reg (0x6400 + c) 0x1E = satAdd (entryBits (0x6400 + c) 0x1E) (s.reg (0x6400 + c) 0x1E) 1 ∧
    (s.onset c tr scaled p).reg (0x6400 + c) 0x21 = s.onsetTime tr.source p ∧ (s.onset c tr scaled p).reg (0x6400 + c) 0x1D = 0 ∧
    (s.onset c tr scaled p).reg (0x6500 + tr.effect) 3 = satAdd (entryBits (0x6500 + tr.effect) 3) (s.reg (0x6500 + tr.effect) 3) 1 ∧
    s.onsetTime tr.source p ∈ ((s.onset c tr scaled p).hap c).edges ∧
    (s.onset c tr scaled p).onsets.map (fun o => (o.channel, o.effect, o.time)) = s.onsets.map (fun o => (o.channel, o.effect, o.time)) ++ [(c, tr.effect, s.onsetTime tr.source p)] := by
  have hrecent : s.now ≤ s.onsetTime tr.source p + 1000000 := by
    obtain ⟨h1, h2, h3⟩ := s.onsetTime_spec tr.source p
    cases hsrc : tr.source with
    | pin => exact le_trans (hsrc ▸ h1 hsrc).1 (Nat.le_add_right _ _)
    | reflex => exact le_trans (hsrc ▸ h2 hsrc).1 (Nat.le_add_right _ _)
    | software =>
      have h4 := (h3 hsrc).1
      rw [hsrc] at h4
      omega
  unfold State.onset
  extract_lets d od level r follows at0 e s1 s2 s3
  have hplain : scaled = false → e.level = field (s.effectBytes tr.effect) 4 2 ∧ e.phase = field (s.effectBytes tr.effect) 0xC 2 * (phaseCycle / 360) := by
    intro hs
    subst hs
    exact ⟨rfl, rfl⟩
  have hseg : field (s.effectBytes tr.effect) 6 2 = 0 → e.stage = .segment 0 ∧ e.stageEnd = s.onsetTime tr.source p + segmentNs (s.effectBytes tr.effect) 0 :=
    fun h => ⟨if_pos h, if_pos h⟩
  have hover : field (s.effectBytes tr.effect) 6 2 ≠ 0 → e.stage = .overdrive ∧ e.stageEnd = s.onsetTime tr.source p + us (field (s.effectBytes tr.effect) 6 2) :=
    fun h => ⟨if_neg h, if_neg h⟩
  have he : e.trigger = tr ∧ e.descriptor = s.effectBytes tr.effect ∧ e.onset = s.onsetTime tr.source p ∧ e.phaseAt = s.onsetTime tr.source p ∧ e.play = p := ⟨rfl, rfl, rfl, rfl, rfl⟩
  have hat : at0 = s.onsetTime tr.source p := rfl
  have hs1 : Eff 275414777984 s s1 := State.setHapState_eff _ c 3 (State.modHap_eff s c _ (Eff.refl _ s) rfl) rfl
  have hstate : s1.hapState c = 3 := State.hapState_setHapState _ c 3
  have hreg : ∀ j k, k % 256 ≠ 0x18 → k % 256 ≠ 5 → s1.reg j k = s.reg j k := fun j k h18 h5 => (State.reg_setHapState _ c 3 j k h18 h5).trans rfl
  have hrun : (s1.hap c).running = some e := by
    obtain ⟨n, hn⟩ := (s.modHap c (fun h => { h with running := some e })).hap_setHapState c 3
    exact (congrArg Haptic.running hn).trans (congrArg Haptic.running (s.hap_modHap_self c (fun h => { h with running := some e })))
  clear_value s1 e at0
  obtain ⟨he1, he2, he3, he4, he5⟩ := he
  have hne : ∀ (u : State) (i : Nat) {a b : Nat} (x : Nat) (j : Nat), a % 256 ≠ b % 256 → (u.setReg i a x).reg j b = u.reg j b := fun u i _ _ x j hab =>
    State.reg_setReg_of_ne _ _ _ _ _ _ (entryKey_inst_ne hab)
  have h18 : s2.reg (0x6400 + c) 0x18 = 3 := by
    unfold s2 State.inc State.count
    rw [hne _ _ _ _ (by decide), hne _ _ _ _ (by decide), hne _ _ _ _ (by decide), hne _ _ _ _ (by decide)]
    exact hstate
  have h1E : s2.reg (0x6400 + c) 0x1E = satAdd (entryBits (0x6400 + c) 0x1E) (s.reg (0x6400 + c) 0x1E) 1 := by
    unfold s2 State.inc State.count
    rw [hne _ _ _ _ (by decide), hne _ _ _ _ (by decide), hne _ _ _ _ (by decide), State.reg_setReg_self, hreg _ _ (by decide) (by decide)]
  have h21 : s2.reg (0x6400 + c) 0x21 = at0 := by
    unfold s2 State.inc State.count
    rw [hne _ _ _ _ (by decide), hne _ _ _ _ (by decide), State.reg_setReg_self]
  have h1D : s2.reg (0x6400 + c) 0x1D = 0 := by
    unfold s2 State.inc State.count
    rw [hne _ _ _ _ (by decide), State.reg_setReg_self]
  have h3 : s2.reg (0x6500 + tr.effect) 3 = satAdd (entryBits (0x6500 + tr.effect) 3) (s.reg (0x6500 + tr.effect) 3) 1 := by
    unfold s2 State.inc State.count
    rw [State.reg_setReg_self, hne _ _ _ _ (by decide), hne _ _ _ _ (by decide), hne _ _ _ _ (by decide), hreg _ _ (by decide) (by decide)]
  have hs2 : s2.haptics = s1.haptics ∧ s2.onsets = s1.onsets ∧ s2.now = s1.now := ⟨rfl, rfl, rfl⟩
  obtain ⟨hs2h, hs2o, hs2n⟩ := hs2
  clear_value s2
  have hs3 : s3.onsets.map (fun o => (o.channel, o.effect, o.time)) = s2.onsets.map (fun o => (o.channel, o.effect, o.time)) ++ [(c, tr.effect, at0)] := by
    unfold s3
    rw [List.map_append]
    rfl
  have hs3r : ∀ j k, s3.reg j k = s2.reg j k := fun _ _ => rfl
  have hs3h : s3.haptics = s2.haptics := rfl
  have hs3n : s3.now = s2.now := rfl
  clear_value s3
  have hhap : s3.hap c = s1.hap c := State.hap_of_haptics (hs3h.trans hs2h) c
  have hnow : (s3.announce c at0).now = s.now := hs3n.trans (hs2n.trans hs1.now_eq)
  obtain ⟨w, hw⟩ : ∃ w, w = ((s3.announce c at0).announce c e.stageEnd).useFree.useFree := ⟨_, rfl⟩
  rw [← hw]
  have hwr : ∀ j k, w.reg j k = s2.reg j k := fun j k => by rw [hw]; exact hs3r j k
  have hwh : w.hap c = ((s3.announce c at0).announce c e.stageEnd).hap c := by rw [hw]; rfl
  have hwo : w.onsets = s3.onsets := by rw [hw]; rfl
  clear hw
  have hwrun : (w.hap c).running = some e := by rw [hwh, State.hap_announce, State.hap_announce, hhap, hrun]
  have hwe : at0 ∈ (w.hap c).edges := by
    rw [hwh]
    exact State.mem_edges_announce_of_mem _ (s3.mem_edges_announce c at0) (by rw [hnow, hat]; exact hrecent)
  refine ⟨(hwr _ _).trans h18, ⟨e, hwrun, he1, he2, he3, he4, he5, hplain, hseg, hover⟩, (hwr _ _).trans h1E, (hwr _ _).trans (h21.trans hat), (hwr _ _).trans h1D, (hwr _ _).trans h3,
    hat ▸ hwe, ?_⟩
  rw [hwo, hs3, hs2o, hs1.onsets_eq, hat]

/-! ### A trigger -/

theorem State.hapTrigger_held {s : State} {c : Nat} {tr : HapticTrigger} (hp : s.powerState < 2) (h1 : s.hapState c = 1) (he : s.effectBytes tr.effect ≠ []) :
    ((s.hapTrigger c tr).hap c).held = some tr ∧ (s.hapTrigger c tr).hapState c = 1 := by
  unfold State.hapTrigger
  dsimp only
  rw [if_neg (by omega), if_neg (by rw [not_or, not_or]; exact ⟨by omega, by omega, he⟩), if_pos h1, State.hap_modHap_self]
  refine ⟨rfl, ?_⟩
  cases (s.hap c).held with
  | none => exact h1
  | some o => exact (State.reg_reflexDropped _ _ _ _ _ _ (by decide) (by decide) (by decide)).trans h1

theorem State.hapTrigger_plays {s : State} {c : Nat} {tr : HapticTrigger} (hp : s.powerState < 2) (h2 : 2 ≤ s.hapState c) (h4 : s.hapState c ≤ 4) (he : s.effectBytes tr.effect ≠ []) :
    ((s.hap c).running = none → s.hapTrigger c tr = s.onset c tr false none) ∧
      (∀ r, (s.hap c).running = some r →
        (outranked tr r s.now = true → s.hapTrigger c tr = s.reflexDropped c tr 2) ∧
        (outranked tr r s.now = false → s.hapTrigger c tr = ((if r.triggered ≠ s.now then s else if r.trigger.source = .software then s.inc (0x6400 + c) 0x20
          else s.reflexDropped c r.trigger 2).effectOver c Status.aborted).onset c tr true none)) := by
  have hgate : ¬(s.hapState c = 0 ∨ 5 ≤ s.hapState c ∨ s.effectBytes tr.effect = []) := by
    rw [not_or, not_or]
    exact ⟨by omega, by omega, he⟩
  refine ⟨fun hr => ?_, fun r hr => ⟨fun ho => ?_, fun ho => ?_⟩⟩
  all_goals
    conv_lhs => unfold State.hapTrigger
    dsimp only
    rw [if_neg (by omega), if_neg hgate, if_neg (by omega), hr]
  · dsimp only
    rw [if_pos ho]
  · dsimp only
    rw [if_neg (by rw [ho]; decide)]

/-! ### An edge of a pin -/

/-- What the pin lane holds after a pin's word (R517). -/
theorem State.pinLane_spec (s : State) (pin w : Nat) (again : Bool) :
    s.pinLane pin w again = { s with free := (s.pinLane pin w again).free, live := (s.pinLane pin w again).live, reflex := (s.pinLane pin w again).reflex } ∧
    (s.pinLane pin w again).reflex.haptics = s.reflex.haptics ∧
    (s.pinLane pin w again).reflex.sprites = (if again then s.reflex.sprites.filter (fun p => decide (p.2.2 ≠ 512 + pin)) else s.reflex.sprites) ++
      (if bits w 33 31 = 0 then [] else [(bits w 30 24, bits w 33 31, 512 + pin)]) ∧
    (s.pinLane pin w again).reflex.tones = (if again ∧ bit w 37 = true then s.reflex.tones.erase (bits w 40 38) else s.reflex.tones) ++ (if bit w 37 then [bits w 40 38] else []) ∧
    (again = false → (s.pinLane pin w again).reg (0x6600 + hapDie pin) 0x43 = satAdd (entryBits (0x6600 + hapDie pin) 0x43) (s.reg (0x6600 + hapDie pin) 0x43) 1) ∧
    (again = true → (s.pinLane pin w again).reg (0x6600 + hapDie pin) 0x45 = satAdd (entryBits (0x6600 + hapDie pin) 0x45) (s.reg (0x6600 + hapDie pin) 0x45) 1) := by
  unfold State.pinLane
  extract_lets r gone s1 r1 s2
  have h1 : s1 = { s with free := s1.free, live := s1.live, reflex := s1.reflex } ∧ s1.reflex.haptics = s.reflex.haptics ∧
      s1.reflex.sprites = (if again then s.reflex.sprites.filter (fun p => decide (p.2.2 ≠ 512 + pin)) else s.reflex.sprites) ∧
      s1.reflex.tones = (if again ∧ bit w 37 = true then s.reflex.tones.erase (bits w 40 38) else s.reflex.tones) ∧
      (again = false → s1.reg (0x6600 + hapDie pin) 0x43 = satAdd (entryBits (0x6600 + hapDie pin) 0x43) (s.reg (0x6600 + hapDie pin) 0x43) 1) ∧
      (again = true → s1.reg (0x6600 + hapDie pin) 0x45 = satAdd (entryBits (0x6600 + hapDie pin) 0x45) (s.reg (0x6600 + hapDie pin) 0x45) 1) := by
    cases again with
    | true =>
      refine ⟨rfl, rfl, rfl, ?_, fun h => ?_, fun _ => (State.reg_setReg_self gone _ _ _).trans rfl⟩
      · simp only [true_and]
        rfl
      · cases h
    | false =>
      refine ⟨rfl, rfl, rfl, rfl, fun _ => State.reg_setReg_self s _ _ _, fun h => ?_⟩
      cases h
  clear_value s1
  obtain ⟨hf1, hh1, hs1, ht1, hn1, ho1⟩ := h1
  have h2 : s2 = { s with free := s2.free, live := s2.live, reflex := s2.reflex } ∧ s2.reflex.haptics = s.reflex.haptics ∧
      s2.reflex.sprites = s1.reflex.sprites ++ (if bits w 33 31 = 0 then [] else [(bits w 30 24, bits w 33 31, 512 + pin)]) ∧ s2.reflex.tones = s1.reflex.tones ∧ s2.live = s1.live := by
    unfold s2
    split
    · exact ⟨hf1, hh1, (List.append_nil _).symm, rfl, rfl⟩
    · exact ⟨congrArg (fun y : State => { y with reflex := { s1.reflex with sprites := s1.reflex.sprites ++ [(bits w 30 24, bits w 33 31, 512 + pin)] } }) hf1, hh1, rfl, rfl, rfl⟩
  clear_value s2
  obtain ⟨hf2, hh2, hs2, ht2, hl2⟩ := h2
  have hreg : ∀ j k, s2.reg j k = s1.reg j k := fun j k => State.reg_congr hl2 (by rw [hf2, hf1]) (by rw [hf2, hf1]) j k
  split
  · refine ⟨congrArg (fun y : State => { y with reflex := { s2.reflex with tones := s2.reflex.tones ++ [bits w 40 38] } }) hf2, hh2, hs2.trans (by rw [hs1]), ?_,
      fun h => (hreg _ _).trans (hn1 h), fun h => (hreg _ _).trans (ho1 h)⟩
    rw [← ht1, ← ht2]
  · refine ⟨hf2, hh2, hs2.trans (by rw [hs1]), ?_, fun h => (hreg _ _).trans (hn1 h), fun h => (hreg _ _).trans (ho1 h)⟩
    rw [← ht1, ← ht2, List.append_nil]

theorem htrigEdge_ignored {pin : Nat} {up : Bool} {s : State} (h : s.serving = false ∨ 2 * s.dies ≤ pin ∨ s.shellUp (hapDie pin) = false ∨ s.hapServed pin = false ∨ s.cfg (0x6400 + pin) 0x14 = 0 ∨
    (up = true ∧ s.cfg (0x6400 + pin) 0x14 = 2) ∨ (up = false ∧ s.cfg (0x6400 + pin) 0x14 = 1) ∨
    (∃ l, (s.hap pin).lastEdge = some l ∧ s.now < l + us (s.cfg (0x6400 + pin) 0x17))) : exec (.htrigEdge pin up) s = .next s := by
  rw [exec_htrigEdge]
  unfold execHtrigEdge
  refine if_pos ?_
  rcases h with h | h | h | h | h | ⟨hup, h⟩ | ⟨hup, h⟩ | ⟨l, hl, h⟩
  · simp [h]
  · simp [h]
  · simp [h]
  · simp [h]
  · cases up <;> simp [h]
  · simp [h, hup]
  · simp [h, hup]
  · rw [hl]
    simp [h]

/-- An edge of the selected kind triggers its effect and its reflex (R496, R517). -/
theorem htrigEdge_triggers {pin c ef w : Nat} {up : Bool} {s t : State} (hs : s.serving = true) (hpin : pin < 2 * s.dies) (hsh : s.shellUp (hapDie pin) = true) (hserved : s.hapServed pin = true)
    (hkind : s.cfg (0x6400 + pin) 0x14 = 3 ∨ s.cfg (0x6400 + pin) 0x14 = (if up then 1 else 2)) (hrearm : ∀ l, (s.hap pin).lastEdge = some l → l + us (s.cfg (0x6400 + pin) 0x17) ≤ s.now)
    (hc : c = s.cfg (0x6400 + pin) 0x15) (hef : ef = s.cfg (0x6400 + pin) 0x16) (hw : w = s.cfg (0x6600 + hapDie pin) (0x41 + pin % 2))
    (ht : t = (s.modHap pin (fun h => { h with lastEdge := some s.now })).hapTrigger c { effect := ef, scale := 1000, source := .pin, origin := 512 + pin }) :
    ∃ (u : State) (again : Bool), exec (.htrigEdge pin up) s = .next (u.event (s.hapticHolder pin) 0x48 (512 + pin) Status.ok (hapDie pin) (if up then 1 else 2)
        (c + 256 * ef + 65536 * ofBool (decide (s.hapState c = 0 ∨ 5 ≤ s.hapState c ∨ s.effectBytes ef = [] ∨
          (s.hapState c ≠ 1 ∧ ∃ r, (s.hap c).running = some r ∧ outranked { effect := ef, scale := 1000, source := .pin, origin := 512 + pin } r s.now = true))))) ∧
      (again = true → ∃ l, (s.hap pin).lastEdge = some l ∧ s.now < l + 1500) ∧
      u = { t with free := u.free, live := u.live, reflex := u.reflex } ∧ u.reflex.haptics = s.reflex.haptics ∧
      u.reflex.sprites = (if again then s.reflex.sprites.filter (fun p => decide (p.2.2 ≠ 512 + pin)) else s.reflex.sprites) ++
        (if bits w 33 31 = 0 then [] else [(bits w 30 24, bits w 33 31, 512 + pin)]) ∧
      u.reflex.tones = (if again ∧ bit w 37 = true then s.reflex.tones.erase (bits w 40 38) else s.reflex.tones) ++ (if bit w 37 then [bits w 40 38] else []) ∧
      (again = false → u.reg (0x6600 + hapDie pin) 0x43 = satAdd (entryBits (0x6600 + hapDie pin) 0x43) (t.reg (0x6600 + hapDie pin) 0x43) 1) ∧
      (again = true → u.reg (0x6600 + hapDie pin) 0x45 = satAdd (entryBits (0x6600 + hapDie pin) 0x45) (t.reg (0x6600 + hapDie pin) 0x45) 1) := by
  have hx : exec (.htrigEdge pin up) s = execHtrigEdge pin up s := rfl
  unfold execHtrigEdge at hx
  extract_lets sel kind early c' eff' trig s1 beaten dropped w' s2 s4 at hx
  have hk : kind = true := by
    unfold kind
    rcases hkind with h | h
    · have h' : sel = 3 := h
      cases up <;> simp [h']
    · have h' : sel = if up then 1 else 2 := h
      cases up <;> simp [h']
  have hearly : early = false := by
    unfold early
    split
    · rfl
    · next l hl => exact decide_eq_false (Nat.not_lt.2 (hrearm l hl))
  rw [if_neg (by simp [hs, hk, hearly, hsh, hserved]; omega)] at hx
  have hdrop : dropped = decide (s.hapState c = 0 ∨ 5 ≤ s.hapState c ∨ s.effectBytes ef = [] ∨
      (s.hapState c ≠ 1 ∧ ∃ r, (s.hap c).running = some r ∧ outranked { effect := ef, scale := 1000, source := .pin, origin := 512 + pin } r s.now = true)) := by
    have hbeaten : beaten = decide (∃ r, (s.hap c).running = some r ∧ outranked { effect := ef, scale := 1000, source := .pin, origin := 512 + pin } r s.now = true) := by
      unfold beaten trig c' eff'
      rw [← hc, ← hef]
      cases (s.hap c).running with
      | none => simp
      | some r => simp
    unfold dropped
    rw [hbeaten]
    unfold c' eff'
    rw [← hc, ← hef]
    by_cases hex : ∃ r, (s.hap c).running = some r ∧ outranked { effect := ef, scale := 1000, source := .pin, origin := 512 + pin } r s.now = true
    · simp only [hex, decide_true, Bool.true_and, and_true, ← Bool.decide_or, or_assoc]
    · simp only [hex, decide_false, Bool.false_and, and_false, or_false, Bool.or_false]
  have hs1 : s1 = t := by
    rw [ht]
    unfold s1 trig c' eff'
    rw [← hc, ← hef]
  have hw' : w' = w := hw.symm
  have htr : t.reflex = s.reflex := by
    rw [ht]
    exact (State.hapTrigger_eff _ _ _ (State.modHap_eff s pin _ (Eff.refl 18968188297408 s) rfl) rfl).reflex_eq
  obtain ⟨again, hagain⟩ : ∃ b, b = ((s.hap pin).lastEdge.map (fun t => decide (s.now < t + 1500) && Config.freeBool s1.free)).getD false := ⟨_, rfl⟩
  have hs2 : s2 = t.pinLane pin w again := by
    unfold s2
    rw [← hagain, hs1, hw']
  have hs4 : s4 = { s2 with free := s4.free, live := s4.live } := rfl
  have hs4r : ∀ k, k % 256 ≠ 0x44 → s4.reg (0x6600 + hapDie pin) k = s2.reg (0x6600 + hapDie pin) k := fun k hk =>
    State.reg_setReg_of_ne s2 _ _ _ _ _ (entryKey_inst_ne (Ne.symm hk))
  have hs4x : s4.reflex = s2.reflex := rfl
  obtain ⟨hframe, hhap, hspr, htone, hnew, hrep⟩ := t.pinLane_spec pin w again
  rw [← hs2] at hframe hhap hspr htone hnew hrep
  rw [htr] at hhap hspr htone
  rw [hdrop, show c' = c from hc.symm, show eff' = ef from hef.symm] at hx
  clear_value s2 s4
  refine ⟨s4, again, hx, fun h => ?_, ?_, ?_, ?_, ?_, fun h => (hs4r _ (by decide)).trans (hnew h), fun h => (hs4r _ (by decide)).trans (hrep h)⟩
  · cases hl : (s.hap pin).lastEdge with
    | none =>
      rw [hagain, hl] at h
      cases h
    | some l =>
      rw [hagain, hl] at h
      exact ⟨l, rfl, of_decide_eq_true (Bool.and_elim_left h)⟩
  · rw [hs4, hframe]
  · rw [hs4x]; exact hhap
  · rw [hs4x]; exact hspr
  · rw [hs4x]; exact htone

/-! ### The stages of an effect -/

/-- The end of a stage: the next segment, or the end of the body (R492). -/
theorem segmentEnd_stages {c n : Nat} {r : HapticEffect} {s : State} (hr : (s.hap c).running = some r)
    (hn : (r.stage = .overdrive ∧ n = 0) ∨ (∃ k, r.stage = .segment k ∧ n = k + 1)) :
    ∃ x : HapticEffect, x = { r with phase := (s.arriveAt r.stageEnd).phaseNow c r, phaseAt := max s.now r.stageEnd, fullDrive := x.fullDrive } ∧ (r.fullDrive = true → x.fullDrive = true) ∧
    (n < field r.descriptor 1 1 → ∃ t : State, exec (.segmentEnd c) s = .next t ∧ (t.hap c).running = some { x with stage := .segment n, stageEnd := r.stageEnd + segmentNs r.descriptor n } ∧
      r.stageEnd + segmentNs r.descriptor n ∈ (t.hap c).edges ∧ t = { s.arriveAt r.stageEnd with haptics := t.haptics }) ∧
    (field r.descriptor 1 1 ≤ n → exec (.segmentEnd c) s = .next (((s.arriveAt r.stageEnd).modHap c (fun h => { h with running := some x })).bodyEnds c x)) := by
  have hx : ∃ ended : Bool, exec (.segmentEnd c) s = .next (if n < field r.descriptor 1 1 then
      ((s.arriveAt r.stageEnd).modHap c (fun h => { h with running := some { r with
        phase := (s.arriveAt r.stageEnd).phaseNow c r, phaseAt := (s.arriveAt r.stageEnd).now, stage := .segment n, stageEnd := r.stageEnd + segmentNs r.descriptor n,
        fullDrive := r.fullDrive || ended || fullDriveAt r.descriptor r.trigger.scale n 4 } })).announce c (r.stageEnd + segmentNs r.descriptor n)
      else ((s.arriveAt r.stageEnd).modHap c (fun h => { h with running := some { r with
        phase := (s.arriveAt r.stageEnd).phaseNow c r, phaseAt := (s.arriveAt r.stageEnd).now, fullDrive := r.fullDrive || ended } })).bodyEnds c { r with
        phase := (s.arriveAt r.stageEnd).phaseNow c r, phaseAt := (s.arriveAt r.stageEnd).now, fullDrive := r.fullDrive || ended }) := by
    rw [exec_segmentEnd]
    unfold execSegmentEnd
    rw [hr]
    rcases hn with ⟨hst, rfl⟩ | ⟨k, hst, rfl⟩
    · exact ⟨false, by dsimp only; rw [hst]⟩
    · exact ⟨fullDriveAt r.descriptor r.trigger.scale k 6, by dsimp only; rw [hst]⟩
  obtain ⟨ended, hx⟩ := hx
  by_cases hlt : n < field r.descriptor 1 1
  · rw [if_pos hlt] at hx
    refine ⟨{ r with phase := (s.arriveAt r.stageEnd).phaseNow c r, phaseAt := max s.now r.stageEnd, fullDrive := r.fullDrive || ended || fullDriveAt r.descriptor r.trigger.scale n 4 }, rfl,
      fun h => by simp [h], fun _ => ⟨_, hx, ?_, State.mem_edges_announce _ _ _, rfl⟩, fun hge => absurd hlt (Nat.not_lt.2 hge)⟩
    rw [State.hap_announce, State.hap_modHap_self]
    rfl
  · rw [if_neg hlt] at hx
    exact ⟨{ r with phase := (s.arriveAt r.stageEnd).phaseNow c r, phaseAt := max s.now r.stageEnd, fullDrive := r.fullDrive || ended }, rfl, fun h => by simp [h],
      fun h => absurd h hlt, fun _ => hx⟩

/-- The body ends: the effect ends, or braking begins and is cut by a PLAY that waits (R499, R501). -/
theorem State.bodyEnds_brakes {c : Nat} {r : HapticEffect} {s v : State} (hb : brakes r.descriptor = true)
    (hv : v = ((s.modHap c (fun h => { h with running := some { r with stage := .braking, stageEnd := s.now + us (field r.descriptor 8 2), brakeStart := s.now } })).setHapState c 4).announce c s.now) :
    ((∀ p, (s.hap c).play = some p → p.placed = false ∨ s.now < p.dueAt ∨ s.isShed p.inst = true ∨ us (field r.descriptor 8 2) ≤ us (s.hapCfg c 0xF)) → s.bodyEnds c r = v) ∧
    (∀ p, (s.hap c).play = some p → p.placed = true → p.dueAt ≤ s.now → s.isShed p.inst = false → us (s.hapCfg c 0xF) < us (field r.descriptor 8 2) →
      s.bodyEnds c r = (v.effectOver c Status.aborted).startWaiting c true) := by
  have hx : ∀ {t : State}, t = s.bodyEnds c r → ((s.hap c).play = none → t = v) ∧ ∀ p, (s.hap c).play = some p →
      t = if p.placed ∧ p.dueAt ≤ s.now ∧ !s.isShed p.inst ∧ us (s.hapCfg c 0xF) < us (field r.descriptor 8 2) then (v.effectOver c Status.aborted).startWaiting c true else v := by
    intro t ht
    unfold State.bodyEnds at ht
    rw [if_neg (by rw [hb]; decide)] at ht
    dsimp only at ht
    rw [← hv] at ht
    refine ⟨fun hp => ?_, fun p hp => ?_⟩
    · rw [hp] at ht
      exact ht
    · rw [hp] at ht
      exact ht
  obtain ⟨hnone, hsome⟩ := hx rfl
  refine ⟨fun h => ?_, fun p hp hpl hdue hsh hlt => ?_⟩
  · cases hp : (s.hap c).play with
    | none => exact hnone hp
    | some p =>
      rw [hsome p hp]
      refine if_neg fun ⟨hpl, hdue, hsh, hlt⟩ => ?_
      rcases h p hp with h | h | h | h
      · rw [h] at hpl; cases hpl
      · omega
      · rw [h] at hsh; cases hsh
      · omega
  · rw [hsome p hp]
    exact if_pos ⟨hpl, hdue, by rw [hsh]; rfl, hlt⟩

end Sys2Proof.Machine
end

section
/-! PROOF of the haptic channels' queue entries, protection and energy (R494, R495, R501, R504 to R508). -/
set_option Elab.async false
namespace Sys2Proof.Machine

/-! ### The entries of a haptic queue -/

theorem State.placePlay_spec (s : State) (c : Nat) (p : HapticPlay) :
    ∃ q : HapticPlay, ((s.placePlay c p).hap c).play = some q ∧ q = { p with placed := true, late := q.late, dueAt := q.dueAt } ∧ s.placePlay c p = { s with free := (s.placePlay c p).free, haptics := (s.placePlay c p).haptics } ∧
      (q.late = true ↔ p.startTime ≠ 0 ∧ p.startTime < s.now) ∧ s.now + 12000 ≤ q.dueAt ∧ (p.startTime = 0 ∨ p.startTime < s.now → q.dueAt ≤ s.now + 20000) ∧
      (s.now + 12000 ≤ p.startTime → q.dueAt = p.startTime) ∧ q.dueAt ∈ ((s.placePlay c p).hap c).edges := by
  unfold State.placePlay
  extract_lets late due
  have hlate : late = true ↔ p.startTime ≠ 0 ∧ p.startTime < s.now := decide_eq_true_iff
  have hdue : s.now + 12000 ≤ due ∧ (p.startTime = 0 ∨ p.startTime < s.now → due ≤ s.now + 20000) ∧ (s.now + 12000 ≤ p.startTime → due = p.startTime) := by
    have hmod : Config.freeNat s.free % 8001 ≤ 8000 := Nat.lt_succ_iff.1 (Nat.mod_lt _ (by decide))
    unfold due
    by_cases hnow : p.startTime = 0 ∨ late = true
    · rw [if_pos hnow]
      rw [hlate] at hnow
      exact ⟨by omega, fun _ => by omega, fun h => by omega⟩
    · rw [if_neg hnow]
      rw [hlate] at hnow
      exact ⟨by omega, fun h => by omega, fun h => by omega⟩
  clear_value late due
  obtain ⟨h1, h2, h3⟩ := hdue
  refine ⟨{ p with placed := true, late := late, dueAt := due }, ?_, rfl, rfl, hlate, h1, h2, h3, State.mem_edges_announce _ _ _⟩
  have h : ((s.modHap c (fun h => { h with play := some { p with placed := true, late := late, dueAt := due } })).announce c due).hap c = _ := State.hap_announce _ _ _
  exact (congrArg Haptic.play h).trans (congrArg Haptic.play (s.hap_modHap_self c (fun h => { h with play := some { p with placed := true, late := late, dueAt := due } })))

theorem State.hap_fetched (s : State) (e : Entry) (c : Nat) : (s.fetched e).hap c = s.hap c := rfl

/-- PLAY once it is taken (R494, R495, R645). -/
theorem play_taken {e : Entry} {op ef sc st c : Nat} {z : Bool} {s : State} (hf : s.canFetch e 6 = true) (hc : c = (s.sq e.inst e.q).target) (hp : (s.hap c).play = none) :
    (op ≠ 1 ∨ 1 < e.flags ∨ z = false ∨ 255 < ef ∨ 1000 < sc → exec (.play e op ef sc st z) s = .next ((s.fetched e).stopQueue e.inst e.q Status.range)) ∧
    (op = 1 → e.flags ≤ 1 → z = true → ef ≤ 255 → sc ≤ 1000 →
      (s.effectBytes ef = [] → exec (.play e op ef sc st z) s = .next ((s.fetched e).endEntry e.inst e.q e.tag (bit e.flags 0) Status.range)) ∧
      (s.effectBytes ef ≠ [] → s.hapState c = 5 → exec (.play e op ef sc st z) s = .next ((s.fetched e).endEntry e.inst e.q e.tag (bit e.flags 0) Status.busy)) ∧
      (s.effectBytes ef ≠ [] → s.hapState c = 6 → exec (.play e op ef sc st z) s = .next ((s.fetched e).endEntry e.inst e.q e.tag (bit e.flags 0) Status.hwFault)) ∧
      (s.effectBytes ef ≠ [] → s.hapState c ≠ 5 → s.hapState c ≠ 6 → ∃ (t : State) (p : HapticPlay), exec (.play e op ef sc st z) s = .next t ∧ (t.hap c).play = some p ∧ p.effect = ef ∧
        p.scale = sc ∧ p.inst = e.inst ∧ p.q = e.q ∧ p.tag = e.tag ∧ p.completion = bit e.flags 0 ∧ p.startTime = st ∧ p.placed = !s.boardHolds c ∧
        t = { s with free := t.free, insts := t.insts, haptics := t.haptics } ∧
        (s.boardHolds c = false → (p.late = true ↔ st ≠ 0 ∧ st < s.now) ∧ s.now + 12000 ≤ p.dueAt ∧ (st = 0 ∨ st < s.now → p.dueAt ≤ s.now + 20000) ∧
          (s.now + 12000 ≤ st → p.dueAt = st) ∧ p.dueAt ∈ (t.hap c).edges))) := by
  have hx : exec (.play e op ef sc st z) s = execPlay e op ef sc st z s := rfl
  unfold execPlay at hx
  dsimp only at hx
  rw [← hc, if_neg (by rw [hp]; decide), if_neg (by rw [hf]; decide)] at hx
  refine ⟨fun h => hx.trans (if_pos ?_), fun hop hfl hz hef hsc => ?_⟩
  · rcases h with h | h | h | h | h <;> simp [entryFlagsOk, h]
  rw [if_neg (by simp [entryFlagsOk, hop, hfl, hz]; omega)] at hx
  refine ⟨fun h => ?_, fun h h5 => ?_, fun h h6 => ?_, fun h h5 h6 => ?_⟩
  · rw [if_pos h] at hx
    exact hx
  · rw [if_neg h, if_pos h5] at hx
    exact hx
  · rw [if_neg h, if_neg (by omega), if_pos h6] at hx
    exact hx
  · rw [if_neg h, if_neg h5, if_neg h6] at hx
    cases hb : s.boardHolds c with
    | true =>
      rw [if_pos hb] at hx
      refine ⟨_, _, hx, congrArg Haptic.play (State.hap_modHap_self (s.fetched e) c _), rfl, rfl, rfl, rfl, rfl, rfl, rfl, rfl, rfl, fun h => ?_⟩
      cases h
    | false =>
      rw [if_neg (by rw [hb]; decide)] at hx
      obtain ⟨q, hq, hqe, hframe, hlate, h1, h2, h3, h4⟩ := (s.fetched e).placePlay_spec c { inst := e.inst, q := e.q, tag := e.tag, completion := entryCompletion e, effect := ef, scale := sc, startTime := st, dueAt := s.now + ms (s.use 0x2500 9) }
      refine ⟨_, q, hx, hq, by rw [hqe], by rw [hqe], by rw [hqe], by rw [hqe], by rw [hqe], ?_, by rw [hqe], by rw [hqe]; rfl, ?_, fun _ => ⟨hlate, h1, h2, h3, h4⟩⟩
      · rw [hqe]; rfl
      · exact hframe.trans rfl

/-- STOP once it is taken (R495). -/
theorem stop_taken {e : Entry} {c : Nat} {z : Bool} {s : State} (hf : s.canFetch e 6 = true) (hc : c = (s.sq e.inst e.q).target) (hp : (s.hap c).play = none) :
    (1 < e.flags ∨ z = false → exec (.stop e z) s = .next ((s.fetched e).stopQueue e.inst e.q Status.range)) ∧
    (e.flags ≤ 1 → z = true → ((s.hap c).running = none → exec (.stop e z) s = .next ((s.fetched e).endEntry e.inst e.q e.tag (bit e.flags 0) Status.ok)) ∧
      (∀ r, (s.hap c).running = some r → r.play = none ∨ r.stage = .braking → exec (.stop e z) s = .next ((s.fetched e).endEntry e.inst e.q e.tag (bit e.flags 0) Status.ok)) ∧
      (∀ r p, (s.hap c).running = some r → r.play = some p → r.stage ≠ .braking → ∃ t : State, (t.hap c).running = some { r with play := none } ∧ t = { s with insts := t.insts, haptics := t.haptics } ∧
        exec (.stop e z) s = .next (((t.endPlay p Status.aborted).brakeNow c).endEntry e.inst e.q e.tag (bit e.flags 0) Status.ok))) := by
  have hx : exec (.stop e z) s = execStop e z s := rfl
  unfold execStop at hx
  dsimp only at hx
  rw [← hc, if_neg (by rw [hp]; decide), if_neg (by rw [hf]; decide)] at hx
  refine ⟨fun h => hx.trans (if_pos ?_), fun hfl hz => ?_⟩
  · rcases h with h | h <;> simp [entryFlagsOk, h]
  rw [if_neg (by simp [entryFlagsOk, hfl, hz])] at hx
  refine ⟨fun hr => ?_, fun r hr h => ?_, fun r p hr hpl hst => ?_⟩
  · rw [hr] at hx
    exact hx
  · rw [hr] at hx
    dsimp only at hx
    cases hpl : r.play with
    | none =>
      rw [hpl] at hx
      exact hx
    | some p =>
      rw [hpl] at hx
      dsimp only at hx
      rw [if_pos (h.resolve_left (by rw [hpl]; exact Option.some_ne_none p))] at hx
      exact hx
  · rw [hr] at hx
    dsimp only at hx
    rw [hpl] at hx
    dsimp only at hx
    rw [if_neg hst] at hx
    exact ⟨(s.fetched e).modHap c (fun h => { h with running := some { r with play := none } }), congrArg Haptic.running (State.hap_modHap_self (s.fetched e) c _), rfl, hx⟩

/-! ### A PLAY whose time has come -/

theorem playStartTime_comes {c : Nat} {p : HapticPlay} {s t : State} (hp : (s.hap c).play = some p) (ht : t = (s.arriveAt p.dueAt).modHap c (fun h => { h with play := none })) :
    (p.placed = false ∨ s.isShed p.inst = true → exec (.playStartTime c) s = .next s) ∧
    (p.placed = true → s.isShed p.inst = false → s.hapState c = 5 → exec (.playStartTime c) s = .next (t.endPlay p Status.busy)) ∧
    (p.placed = true → s.isShed p.inst = false → s.hapState c = 0 ∨ s.hapState c = 6 → exec (.playStartTime c) s = .next (t.endPlay p Status.hwFault)) ∧
    (p.placed = true → s.isShed p.inst = false → s.hapState c = 1 → exec (.playStartTime c) s = .next (s.arriveAt p.dueAt)) ∧
    (p.placed = true → s.isShed p.inst = false → s.hapState c ∉ [0, 1, 5, 6] → (s.hap c).running = none →
      exec (.playStartTime c) s = .next ((s.arriveAt p.dueAt).startWaiting c false)) ∧
    (p.placed = true → s.isShed p.inst = false → s.hapState c ∉ [0, 1, 5, 6] → ∀ r, (s.hap c).running = some r →
      (r.stage ≠ .braking ∨ r.stageEnd - max s.now p.dueAt ≤ us (s.hapCfg c 0xF) → exec (.playStartTime c) s = .next (s.arriveAt p.dueAt)) ∧
      (r.stage = .braking → us (s.hapCfg c 0xF) < r.stageEnd - max s.now p.dueAt →
        exec (.playStartTime c) s = .next (((s.arriveAt p.dueAt).effectOver c Status.aborted).startWaiting c true))) := by
  have hx : exec (.playStartTime c) s = execPlayStartTime c s := rfl
  unfold execPlayStartTime at hx
  rw [hp] at hx
  dsimp only at hx
  rw [← ht] at hx
  have hgo : p.placed = true → s.isShed p.inst = false → ¬((!p.placed) = true ∨ s.isShed p.inst = true) := fun h1 h2 => by simp [h1, h2]
  have hrest : s.hapState c ∉ [0, 1, 5, 6] → s.hapState c ≠ 5 ∧ ¬(s.hapState c = 0 ∨ s.hapState c = 6) ∧ s.hapState c ≠ 1 := fun h => by
    simp only [List.mem_cons, List.not_mem_nil, or_false, not_or] at h
    omega
  refine ⟨fun h => hx.trans (if_pos ?_), fun h1 h2 h5 => ?_, fun h1 h2 h06 => ?_, fun h1 h2 h => ?_, fun h1 h2 hst hr => ?_, fun h1 h2 hst r hr => ⟨fun h => ?_, fun hb hlt => ?_⟩⟩
  · rcases h with h | h <;> simp [h]
  · rw [if_neg (hgo h1 h2), if_pos h5] at hx
    exact hx
  · rw [if_neg (hgo h1 h2), if_neg (by omega), if_pos h06] at hx
    exact hx
  · rw [if_neg (hgo h1 h2), if_neg (by omega), if_neg (by omega), if_pos h] at hx
    exact hx
  · obtain ⟨h5, h06, h1'⟩ := hrest hst
    rw [if_neg (hgo h1 h2), if_neg h5, if_neg h06, if_neg h1', hr] at hx
    exact hx
  all_goals
    obtain ⟨h5, h06, h1'⟩ := hrest hst
    rw [if_neg (hgo h1 h2), if_neg h5, if_neg h06, if_neg h1', hr] at hx
    dsimp only at hx
    rw [show (s.arriveAt p.dueAt).now = max s.now p.dueAt from rfl] at hx
  · by_cases hb : r.stage = .braking
    · rw [if_neg (fun hh => hh hb), if_neg (Nat.not_lt.2 (h.resolve_left fun hh => hh hb))] at hx
      exact hx
    · rw [if_pos hb] at hx
      exact hx
  · rw [if_neg (fun hh => hh hb), if_pos hlt] at hx
    exact hx

theorem State.startWaiting_waits {c : Nat} {scaled : Bool} {p : HapticPlay} {s t : State} (hp : (s.hap c).play = some p) (ht : t = s.modHap c (fun h => { h with play := none })) :
    (p.placed = false ∨ s.now < p.dueAt ∨ s.isShed p.inst = true → s.startWaiting c scaled = s) ∧
    (p.placed = true → p.dueAt ≤ s.now → s.isShed p.inst = false → s.effectBytes p.effect = [] → s.startWaiting c scaled = t.endPlay p Status.range) ∧
    (p.placed = true → p.dueAt ≤ s.now → s.isShed p.inst = false → s.effectBytes p.effect ≠ [] →
      s.startWaiting c scaled = t.onset c { effect := p.effect, scale := p.scale, source := .software, origin := 0 } scaled (some p)) := by
  have hgo : p.placed = true → p.dueAt ≤ s.now → s.isShed p.inst = false → ¬((!p.placed) = true ∨ s.now < p.dueAt ∨ s.isShed p.inst = true) := fun h1 h2 h3 => by
    simp [h1, h3]
    omega
  unfold State.startWaiting
  rw [hp]
  dsimp only
  rw [← ht]
  refine ⟨fun h => if_pos ?_, fun h1 h2 h3 he => ?_, fun h1 h2 h3 he => ?_⟩
  · rcases h with h | h | h <;> simp [h]
  · rw [if_neg (hgo h1 h2 h3), if_pos he]
  · rw [if_neg (hgo h1 h2 h3), if_neg he]

/-! ### Trips -/

theorem State.reg_henFall (s : State) (c st status j k : Nat) (h12 : k % 256 ≠ 0x12) (h23 : k % 256 ≠ 0x23) (h18 : k % 256 ≠ 0x18) (h5 : k % 256 ≠ 5) :
    (s.henFall c st status).reg j k = s.reg j k := by
  unfold State.henFall
  dsimp only
  split
  · exact (State.reg_setHapState _ _ _ _ _ h18 h5).trans (s.reg_effectOver _ _ _ _ h12 h23)
  · exact (State.reg_endPlay _ _ _ _ _ h12).trans ((State.reg_setHapState _ _ _ _ _ h18 h5).trans (s.reg_effectOver _ _ _ _ h12 h23))

/-- HEN falls: nothing runs, waits or is held any more. -/
theorem State.henFall_spec (s : State) (c st status : Nat) :
    (s.henFall c st status).hapState c = st ∧ ((s.henFall c st status).hap c).running = none ∧ ((s.henFall c st status).hap c).hen = false ∧ ((s.henFall c st status).hap c).held = none ∧
    ((s.henFall c st status).hap c).play = none ∧ ((s.henFall c st status).hap c).edges = (s.hap c).edges := by
  obtain ⟨w, hw⟩ : ∃ w, w = ((s.effectOver c status).modHap c (fun h => { h with hen := false, henFell := if h.hen then some s.now else h.henFell, ready := none, held := none, play := none })) := ⟨_, rfl⟩
  have hwh : (w.hap c).running = none ∧ (w.hap c).hen = false ∧ (w.hap c).held = none ∧ (w.hap c).play = none ∧ (w.hap c).edges = (s.hap c).edges := by
    rw [hw, State.hap_modHap_self, State.hap_effectOver]
    exact ⟨rfl, rfl, rfl, rfl, rfl⟩
  obtain ⟨n, hn⟩ := w.hap_setHapState c st
  have hst := w.hapState_setHapState c st
  have hgoal : ∀ t : State, t.hapState c = (w.setHapState c st).hapState c → t.hap c = (w.setHapState c st).hap c →
      t.hapState c = st ∧ (t.hap c).running = none ∧ (t.hap c).hen = false ∧ (t.hap c).held = none ∧ (t.hap c).play = none ∧ (t.hap c).edges = (s.hap c).edges := by
    intro t h1 h2
    rw [h1, h2, hn, hst]
    exact ⟨rfl, hwh⟩
  unfold State.henFall
  dsimp only
  rw [← hw]
  cases (s.hap c).play with
  | none => exact hgoal _ rfl rfl
  | some q => exact hgoal _ (State.reg_endPlay _ _ _ _ _ (by decide)) (State.hap_of_haptics (State.haptics_endPlay _ _ _) c)

/-- A trip cuts the drive and is latched with its reason (R504, R505). -/
theorem State.hapTrip_trips {c r : Nat} {s : State} (h6 : s.hapState c ≠ 6) (h0 : s.hapState c ≠ 0) :
    (s.hapTrip c r).hapState c = 6 ∧ (s.hapTrip c r).reg (0x6400 + c) 0x19 = r ∧ ((s.hapTrip c r).hap c).running = none ∧
      ((s.hapTrip c r).hap c).hen = false ∧ ((s.hapTrip c r).hap c).held = none ∧ ((s.hapTrip c r).hap c).play = none ∧ s.now ∈ ((s.hapTrip c r).hap c).edges := by
  obtain ⟨hst, hrun, hhen, hheld, hplay, hedges⟩ := (s.announce c s.now).henFall_spec c 6 Status.hwFault
  have hmem := s.mem_edges_announce c s.now
  unfold State.hapTrip
  rw [if_neg (by omega)]
  dsimp only
  generalize (s.announce c s.now).henFall c 6 Status.hwFault = w at *
  have hhap : ∀ a b d e f g h : Nat, ((w.setReg (0x6400 + c) 0x19 r).event a b d e f g h).hap c = w.hap c := fun _ _ _ _ _ _ _ => State.hap_of_haptics ((State.haptics_event _ _ _ _ _ _ _ _).trans rfl) c
  rw [hhap, hedges]
  refine ⟨?_, ?_, hrun, hhen, hheld, hplay, hmem⟩
  · exact (State.reg_event _ _ _ _ _ _ _ _ _ _ (by decide)).trans ((State.reg_setReg_of_ne _ _ _ _ _ _ (entryKey_inst_ne (by decide))).trans hst)
  · exact (State.reg_event _ _ _ _ _ _ _ _ _ _ (by decide)).trans (State.reg_setReg_self _ _ _ _)

/-! ### Sense frames -/

/-- The largest motion of a segment is kept with the effect (R500). -/
def HapticEffect.moved (m : Nat) (e : HapticEffect) : HapticEffect :=
  match e.stage with
  | .segment _ => { e with largest := max e.largest m }
  | _ => e

theorem HapticEffect.moved_keeps (m : Nat) (e : HapticEffect) : (e.moved m).descriptor = e.descriptor ∧ (e.moved m).stage = e.stage := by
  unfold HapticEffect.moved
  split <;> exact ⟨rfl, rfl⟩

theorem State.motional_moved {s t : State} {c m : Nat} (hlive : t.live = s.live) (htaken : t.taken = s.taken) (hpart : t.part = s.part) (hgrade : t.grade = s.grade)
    (hhap : t.hap c = { s.hap c with running := (s.hap c).running.map (HapticEffect.moved m) }) : t.motional c = s.motional c := by
  have hcfg : t.hapCfg c 0xA = s.hapCfg c 0xA := by
    unfold State.hapCfg State.use State.useI State.takenAt
    rw [htaken, hpart, hgrade]
  have hcar : ∀ d st, t.carrier c d st = s.carrier c d st := fun d st => by
    unfold State.carrier State.carrierQ16
    rw [State.reg_congr hlive hpart hgrade]
  unfold State.motional
  rw [hhap, hcfg]
  dsimp only
  cases (s.hap c).running with
  | none => rfl
  | some e =>
    obtain ⟨hd, hst⟩ := HapticEffect.moved_keeps m e
    dsimp only [Option.map_some]
    rw [hd, hst, hcar]

/-- A sense frame of a channel: what it stores, and what it trips or ends (R490, R501, R504). -/
theorem State.senseChannel_spec (c : Nat) (v i : Int) (s : State) : ∃ u : State, (u.hap c).voltage = v ∧ (u.hap c).lastV = some v ∧ (u.hap c).block = (s.hap c).block + (v * i).natAbs ∧
    (u.hap c).senseRun = (if 99 * 8388607 ≤ 100 * v.natAbs ∧ 3277 < s.stageCode c then (s.hap c).senseRun + 1 else 0) ∧ u.hapState c = s.hapState c ∧
    u = { s with free := u.free, live := u.live, haptics := u.haptics } ∧ s.senseChannel c v i = (if s.hapCfg c 4 * 8388607 < v.natAbs * s.hapCfg c 7 then u.hapTrip c 1
      else if 192 ≤ (u.hap c).senseRun then u.hapTrip c 2 else if s.hapState c = 4 ∧ u.motional c < s.hapCfg c 0xE * senseDen then u.brakingEnds c else u) := by
  unfold State.senseChannel
  extract_lets h dv amp s1 s2 near run s3 m s4
  have hrun : run = if 99 * 8388607 ≤ 100 * v.natAbs ∧ 3277 < s.stageCode c then h.senseRun + 1 else 0 := by
    unfold run near
    simp only [Bool.and_eq_true, decide_eq_true_eq]
  have h1 : (s1.hap c).voltage = v ∧ (s1.hap c).lastV = some v ∧ (s1.hap c).block = (s.hap c).block + (v * i).natAbs := by
    unfold s1
    rw [State.hap_modHap_self]
    exact ⟨rfl, rfl, rfl⟩
  have h1f : s1 = { s with haptics := s1.haptics } := rfl
  have h1s : s1.hapState c = s.hapState c := rfl
  clear_value s1 run
  have h2 : s2.hap c = s1.hap c ∧ s2 = { s1 with free := s2.free, live := s2.live } ∧ s2.hapState c = s1.hapState c := by
    unfold s2
    split
    · exact ⟨rfl, rfl, State.reg_setReg_of_ne s1 _ _ _ _ _ (entryKey_inst_ne (by decide))⟩
    · exact ⟨rfl, rfl, rfl⟩
  obtain ⟨h2h, h2f, h2s⟩ := h2
  clear_value s2
  have h3 : s3.hap c = { s2.hap c with senseRun := run } := s2.hap_modHap_self c (fun x => { x with senseRun := run })
  have h3f : s3 = { s2 with haptics := s3.haptics } := rfl
  have h3s : s3.hapState c = s2.hapState c := rfl
  clear_value s3
  have h4 : s4.hap c = { s3.hap c with running := (s3.hap c).running.map (HapticEffect.moved m) } :=
    s3.hap_modHap_self c (fun x => { x with running := x.running.map (HapticEffect.moved m) })
  have h4f : s4 = { s3 with haptics := s4.haptics } := rfl
  have h4s : s4.hapState c = s3.hapState c := rfl
  have hm : s4.motional c = m := State.motional_moved rfl rfl rfl rfl h4
  clear_value s4
  obtain ⟨hv, hl, hb⟩ := h1
  have hsr : (s4.hap c).senseRun = run := by rw [h4, h3]
  refine ⟨s4, ?_, ?_, ?_, hsr.trans hrun, ?_, ?_, ?_⟩
  · rw [h4, h3, h2h]; exact hv
  · rw [h4, h3, h2h]; exact hl
  · rw [h4, h3, h2h]; exact hb
  · rw [h4s, h3s, h2s, h1s]
  · rw [h4f, h3f, h2f, h1f]
  · rw [hsr, hm]

/-! ### Resonance, on-time and energy -/

theorem clampInt_spec {lo hi : Int} (h : lo ≤ hi) (v : Int) : lo ≤ clampInt lo hi v ∧ clampInt lo hi v ≤ hi ∧ (lo ≤ v → v ≤ hi → clampInt lo hi v = v) := by
  unfold clampInt
  omega

theorem resonanceTrack_tracks {c : Nat} {x : Int} {r : HapticEffect} {s : State} (hr : (s.hap c).running = some r) : (s.hapCfg c 0xD = 0 → exec (.resonanceTrack c x) s = .next s) ∧
    (s.hapCfg c 0xD ≠ 0 → s.hapCfg c 0xB ≤ s.hapCfg c 0xC → ∃ (t : State) (v : Int), exec (.resonanceTrack c x) s = .next t ∧ t.regI (0x6400 + c) 0x1B = v ∧ t = { s with live := t.live, haptics := t.haptics } ∧
      SameLiveBut s t [entryKey (0x6400 + c) 0x1B] ∧ 65536 * (s.hapCfg c 0xB : Int) ≤ v ∧ v ≤ 65536 * s.hapCfg c 0xC ∧
      (65536 * (s.hapCfg c 0xB : Int) ≤ s.regI (0x6400 + c) 0x1B → s.regI (0x6400 + c) 0x1B ≤ 65536 * s.hapCfg c 0xC →
        s.regI (0x6400 + c) 0x1B - 65536 * s.hapCfg c 0xD ≤ v ∧ v ≤ s.regI (0x6400 + c) 0x1B + 65536 * s.hapCfg c 0xD) ∧
      (65536 * (s.hapCfg c 0xB : Int) ≤ x → x ≤ 65536 * s.hapCfg c 0xC → s.regI (0x6400 + c) 0x1B - 65536 * s.hapCfg c 0xD ≤ x →
        x ≤ s.regI (0x6400 + c) 0x1B + 65536 * s.hapCfg c 0xD → v = x)) := by
  have hx : exec (.resonanceTrack c x) s = execResonanceTrack c x s := rfl
  unfold execResonanceTrack at hx
  rw [hr] at hx
  dsimp only at hx
  refine ⟨fun h => ?_, fun hd hle => ?_⟩
  · rw [if_pos (by rw [h]; rfl)] at hx
    exact hx
  · rw [if_neg (by omega)] at hx
    generalize hr0 : s.regI (0x6400 + c) 0x1B = r0 at *
    obtain ⟨y, hy⟩ : ∃ y, y = clampInt (r0 - 65536 * s.hapCfg c 0xD) (r0 + 65536 * s.hapCfg c 0xD) x := ⟨_, rfl⟩
    obtain ⟨v, hv⟩ : ∃ v, v = clampInt (65536 * (s.hapCfg c 0xB : Int)) (65536 * (s.hapCfg c 0xC : Int)) y := ⟨_, rfl⟩
    rw [← hy, ← hv] at hx
    obtain ⟨hy1, hy2, hy3⟩ := clampInt_spec (lo := r0 - 65536 * s.hapCfg c 0xD) (hi := r0 + 65536 * s.hapCfg c 0xD) (by omega) x
    obtain ⟨hv1, hv2, -⟩ := clampInt_spec (lo := 65536 * (s.hapCfg c 0xB : Int)) (hi := 65536 * (s.hapCfg c 0xC : Int)) (by omega) y
    rw [← hy] at hy1 hy2 hy3
    rw [← hv] at hv1 hv2
    refine ⟨_, v, hx, ?_, rfl, ?_, hv1, hv2, fun h1 h2 => ?_, fun h1 h2 h3 h4 => ?_⟩
    · unfold State.regI
      rw [State.setRegI_eq, State.liveAt_setLive, if_pos rfl]
      rfl
    · intro j k hk
      rw [State.setRegI_eq, State.liveAt_setLive, if_neg (fun he => hk (by rw [← he]; exact List.mem_singleton.2 rfl))]
      rfl
    · unfold clampInt at hv
      omega
    · have hyx := hy3 h3 h4
      unfold clampInt at hv
      omega

theorem onTimeLimit_cuts {c : Nat} {r : HapticEffect} {s : State} (hr : (s.hap c).running = some r) : ∃ (u : State) (w : Nat), exec (.onTimeLimit c) s =
      .next ((u.event (s.hapticHolder c) 0x42 c Status.ok (hapDie c) 1 w).effectEnds c Status.aborted) ∧ u.now = max s.now (r.onset + ms (s.hapCfg c 5)) ∧
    u.reg (0x6400 + c) 0x1F = satAdd (entryBits (0x6400 + c) 0x1F) (s.reg (0x6400 + c) 0x1F) 1 ∧ w = s.reg (0x6400 + c) 0x1C + r.trigger.effect * 2 ^ 32 ∧
    u = { s with now := u.now, clock := u.clock, live := u.live, haptics := u.haptics } := by
  have hr' : ((s.arriveAt (r.onset + ms (s.hapCfg c 5))).hap c).running = some r := hr
  refine ⟨((s.arriveAt (r.onset + ms (s.hapCfg c 5))).announce c (s.arriveAt (r.onset + ms (s.hapCfg c 5))).now).inc (0x6400 + c) 0x1F, _, ?_, rfl, ?_, rfl, rfl⟩
  · rw [exec_onTimeLimit]
    unfold execOnTimeLimit
    rw [hr]
    dsimp only
    unfold State.cutOnTime
    rw [hr']
    rfl
  · exact (State.reg_setReg_self _ _ _ _).trans rfl

end Sys2Proof.Machine
end

section
/-! PROOF of the haptic channels' energy window, clearing and frame, and of the obligation (R504 to R508). -/
set_option Elab.async false
namespace Sys2Proof.Machine

/-! ### The energy window -/

theorem State.judgeEnergy_within {c : Nat} {s : State} (hlim : (s.hap c).limited = false) (h : (s.hap c).window.sum * (s.hapCfg c 7 * s.hapCfg c 8) ≤ s.hapCfg c 6 * energyDen) :
    s.judgeEnergy c = s := by
  unfold State.judgeEnergy
  dsimp only
  rw [if_neg (fun hh => absurd hh.2 (Nat.not_lt.2 h)), if_neg (fun hh => by rw [hlim] at hh; exact Bool.false_ne_true hh.1)]

theorem State.judgeEnergy_stays {c : Nat} {s : State} (hlim : (s.hap c).limited = true) (h : 3 * (s.hapCfg c 6 * energyDen) < 4 * ((s.hap c).window.sum * (s.hapCfg c 7 * s.hapCfg c 8))) :
    s.judgeEnergy c = s := by
  unfold State.judgeEnergy
  dsimp only
  rw [if_neg (fun hh => by rw [hlim] at hh; exact Bool.false_ne_true hh.1), if_neg (fun hh => absurd hh.2 (Nat.not_le.2 h))]

/-- The window sum passes the limit: LIMITED begins and the effect is cut (R504). -/
theorem State.judgeEnergy_limits {c : Nat} {s : State} (hlim : (s.hap c).limited = false) (h : s.hapCfg c 6 * energyDen < (s.hap c).window.sum * (s.hapCfg c 7 * s.hapCfg c 8)) :
    ((s.judgeEnergy c).hap c).limited = true ∧ ((s.judgeEnergy c).hap c).running = none ∧ (2 ≤ s.hapState c → s.hapState c ≤ 4 → (s.judgeEnergy c).hapState c = 5) := by
  unfold State.judgeEnergy
  dsimp only
  rw [if_pos ⟨by rw [hlim]; rfl, h⟩]
  generalize ((s.hap c).running.map (·.trigger.effect)).getD 0 = eff
  obtain ⟨t, ht⟩ : ∃ t, t = (((s.announce c s.now).effectOver c Status.hwFault).modHap c (fun x => { x with limited := true })).energyEvent c eff 2 := ⟨_, rfl⟩
  rw [← ht]
  have hth : (t.hap c).limited = true ∧ (t.hap c).running = none := by
    rw [ht]
    unfold State.energyEvent
    rw [State.hap_of_haptics (State.haptics_event _ _ _ _ _ _ _ _) c, State.hap_modHap_self, State.hap_effectOver]
    exact ⟨rfl, rfl⟩
  clear ht
  by_cases hst : 2 ≤ s.hapState c ∧ s.hapState c ≤ 4
  · rw [if_pos hst]
    obtain ⟨hk, hs⟩ := (t.setHapState c 5).busyWaiting_keeps c
    obtain ⟨n, hn⟩ := t.hap_setHapState c 5
    rw [hk, hn]
    exact ⟨hth.1, hth.2, fun _ _ => hs.trans (State.hapState_setHapState _ _ _)⟩
  · rw [if_neg hst]
    exact ⟨hth.1, hth.2, fun h2 h4 => absurd ⟨h2, h4⟩ hst⟩

/-- The window sum has fallen to 75 %: LIMITED ends (R506). -/
theorem State.judgeEnergy_frees {c : Nat} {s : State} (hlim : (s.hap c).limited = true) (h : 4 * ((s.hap c).window.sum * (s.hapCfg c 7 * s.hapCfg c 8)) ≤ 3 * (s.hapCfg c 6 * energyDen))
    (h5 : s.hapState c = 5) (hp : (s.hap c).play = none) : ((s.judgeEnergy c).hap c).limited = false ∧ (s.judgeEnergy c).hapState c = 2 := by
  unfold State.judgeEnergy
  dsimp only
  rw [if_neg (fun hh => by rw [hlim] at hh; exact Bool.false_ne_true hh.1), if_pos ⟨hlim, h⟩, if_pos h5]
  generalize ((s.hap c).running.map (·.trigger.effect)).getD 0 = eff
  obtain ⟨t, ht⟩ : ∃ t, t = (s.modHap c (fun x => { x with limited := false })).energyEvent c eff 3 := ⟨_, rfl⟩
  rw [← ht]
  have hth : (t.hap c).limited = false ∧ (t.hap c).play = none := by
    rw [ht]
    unfold State.energyEvent
    rw [State.hap_of_haptics (State.haptics_event _ _ _ _ _ _ _ _) c, State.hap_modHap_self]
    exact ⟨rfl, hp⟩
  clear ht
  obtain ⟨n, hn⟩ := t.hap_setHapState c 2
  rw [State.startWaiting_idle false (by rw [hn]; exact hth.2), hn]
  exact ⟨hth.1, State.hapState_setHapState _ _ _⟩

/-- A block of energy: what enters the judgement, and what the block's end adds after it (R504). -/
theorem energyBlock_judges {c : Nat} {s : State} (h : s.hapState c ≠ 0 ∨ (s.hap c).window ≠ []) :
    ∃ v t : State, exec (.energyBlock c) s = .next t ∧ (v.hap c).window = ((s.hap c).window ++ [(s.hap c).block]).drop ((s.hap c).window.length + 1 - 1000) ∧ (v.hap c).block = 0 ∧
      (v.hap c).limited = (s.hap c).limited ∧ (v.hap c).running = (s.hap c).running ∧ (v.hap c).play = (s.hap c).play ∧ v.hapState c = s.hapState c ∧ (∀ k, v.hapCfg c k = s.hapCfg c k) ∧
      v = { s with now := v.now, clock := v.clock, live := v.live, haptics := v.haptics } ∧ v.now = max s.now ((s.hap c).blockAt + ms 1) ∧
      t = { v.judgeEnergy c with free := t.free, sapflow := t.sapflow } := by
  have hx : exec (.energyBlock c) s = execEnergyBlock c s := rfl
  unfold execEnergyBlock at hx
  extract_lets h0 s1 win fs s2 s3 b draw at hx
  rw [if_neg (by rintro ⟨h1, h2⟩; rcases h with h | h; exacts [h h1, h h2])] at hx
  have hs2 : s2.hap c = { s.hap c with window := win, block := 0, blockAt := s1.now } := s1.hap_modHap_self c (fun x => { x with window := win, block := 0, blockAt := s1.now })
  have hs2s : s2.hapState c = s.hapState c := State.reg_setReg_of_ne (s1.modHap c _) _ _ _ _ _ (entryKey_inst_ne (by decide))
  refine ⟨s2, _, hx, by rw [hs2], by rw [hs2], by rw [hs2], by rw [hs2], by rw [hs2], hs2s, fun _ => rfl, rfl, rfl, ?_⟩
  split <;> rfl

theorem energyBlock_ends {c sum lim : Nat} {w : List Nat} {s : State} (h : s.hapState c ≠ 0 ∨ (s.hap c).window ≠ [])
    (hw : w = ((s.hap c).window ++ [(s.hap c).block]).drop ((s.hap c).window.length + 1 - 1000)) (hsum : sum = w.sum * (s.hapCfg c 7 * s.hapCfg c 8))
    (hlim : lim = s.hapCfg c 6 * (senseDen * senseDen * 96000)) :
    ((s.hap c).limited = false → sum ≤ lim → ∃ t : State, exec (.energyBlock c) s = .next t ∧ (t.hap c).window = w ∧ (t.hap c).block = 0 ∧ (t.hap c).limited = false ∧ (t.hap c).running = (s.hap c).running ∧
      t.hapState c = s.hapState c ∧ t.now = max s.now ((s.hap c).blockAt + ms 1) ∧ t = { s with now := t.now, clock := t.clock, free := t.free, live := t.live, sapflow := t.sapflow, haptics := t.haptics }) ∧
    ((s.hap c).limited = false → lim < sum → ∃ t : State, exec (.energyBlock c) s = .next t ∧ (t.hap c).limited = true ∧ (t.hap c).running = none ∧
      (2 ≤ s.hapState c → s.hapState c ≤ 4 → t.hapState c = 5)) ∧
    ((s.hap c).limited = true → 3 * lim < 4 * sum → ∃ t : State, exec (.energyBlock c) s = .next t ∧ (t.hap c).limited = true ∧ t.hapState c = s.hapState c) ∧
    ((s.hap c).limited = true → 4 * sum ≤ 3 * lim → s.hapState c = 5 → (s.hap c).play = none → ∃ t : State, exec (.energyBlock c) s = .next t ∧ (t.hap c).limited = false ∧ t.hapState c = 2) := by
  obtain ⟨v, t, hx, hwin, hblock, hl, hrun, hplay, hst, hcfg, hframe, hnow, ht⟩ := energyBlock_judges h
  rw [← hw] at hwin
  have hden : lim = v.hapCfg c 6 * energyDen := by rw [hcfg]; exact hlim
  have hvs : (v.hap c).window.sum * (v.hapCfg c 7 * v.hapCfg c 8) = sum := by rw [hwin, hcfg, hcfg, hsum]
  have hth : t.hap c = (v.judgeEnergy c).hap c := by rw [ht]; rfl
  have hts : t.hapState c = (v.judgeEnergy c).hapState c := by rw [ht]; rfl
  refine ⟨fun hf hle => ?_, fun hf hlt => ?_, fun hf hlt => ?_, fun hf hle h5 hp => ?_⟩
  · rw [State.judgeEnergy_within (hl.trans hf) (by rw [hvs, ← hden]; exact hle)] at ht hth hts
    refine ⟨t, hx, by rw [hth, hwin], by rw [hth, hblock], by rw [hth, hl, hf], by rw [hth, hrun], by rw [hts, hst], ?_, ?_⟩
    · rw [ht]; exact hnow
    · rw [ht, hframe]
  · obtain ⟨h1, h2, h3⟩ := State.judgeEnergy_limits (hl.trans hf) (by rw [hvs, ← hden]; exact hlt)
    exact ⟨t, hx, by rw [hth, h1], by rw [hth, h2], fun ha hb => hts.trans (h3 (by rw [hst]; exact ha) (by rw [hst]; exact hb))⟩
  · rw [State.judgeEnergy_stays (hl.trans hf) (by rw [hvs, ← hden]; exact hlt)] at hth hts
    exact ⟨t, hx, by rw [hth, hl, hf], by rw [hts, hst]⟩
  · obtain ⟨h1, h2⟩ := State.judgeEnergy_frees (hl.trans hf) (by rw [hvs, ← hden]; exact hle) (hst.trans h5) (hplay.trans hp)
    exact ⟨t, hx, by rw [hth, h1], hts.trans h2⟩

/-! ### Clearing a fault -/

theorem State.hapUnfault_spec (c : Nat) (s : State) : (s.hapCfg c 1 = 1 → s.powerState ≤ 1 → (s.hapUnfault c).hapState c = 1 ∧ ((s.hapUnfault c).hap c).hen = true ∧
      ((s.hapUnfault c).hap c).ready = some (s.now + us (s.hapCfg c 0x10))) ∧
    (s.hapCfg c 1 ≠ 1 ∨ 2 ≤ s.powerState → (s.hapUnfault c).hapState c = 0) ∧ (s.hapUnfault c).reg (0x6400 + c) 0x19 = 0 := by
  unfold State.hapUnfault
  dsimp only
  obtain ⟨w, hw⟩ : ∃ w, w = (s.setReg (0x6400 + c) 0x19 0).event (s.hapticHolder c) 0x0041 c Status.ok (hapDie c) (s.reg (0x6400 + c) 0x19) 0 := ⟨_, rfl⟩
  rw [← hw]
  have h19 : w.reg (0x6400 + c) 0x19 = 0 := by
    rw [hw]
    exact (State.reg_event _ _ _ _ _ _ _ _ _ _ (by decide)).trans (State.reg_setReg_self _ _ _ _)
  have hwe : Eff 17593261891712 s w := by
    rw [hw]
    exact State.event_eff _ _ _ _ _ _ _ _ (State.setReg_eff s _ _ _ (Eff.refl _ s) rfl) rfl
  have hcfg : w.hapCfg c 0x10 = s.hapCfg c 0x10 := by rw [hwe.frame]; rfl
  clear hw
  by_cases hoff : s.hapCfg c 1 ≠ 1 ∨ 2 ≤ s.powerState
  · rw [if_pos hoff]
    exact ⟨fun h1 h2 => absurd hoff (by omega), fun _ => State.hapState_setHapState _ _ _, (State.reg_setHapState _ _ _ _ _ (by decide) (by decide)).trans h19⟩
  · rw [if_neg hoff]
    unfold State.henRise
    obtain ⟨x, hxx⟩ : ∃ x, x = w.modHap c (fun h => { h with hen := true, ready := some (w.now + us (w.hapCfg c 0x10)), lastV := none, blockAt := if h.blockAt = 0 then w.now else h.blockAt }) := ⟨_, rfl⟩
    rw [← hxx]
    have hxh : (x.hap c).hen = true ∧ (x.hap c).ready = some (s.now + us (s.hapCfg c 0x10)) := by
      rw [hxx, State.hap_modHap_self, hwe.now_eq, hcfg]
      exact ⟨rfl, rfl⟩
    have hx19 : x.reg (0x6400 + c) 0x19 = 0 := by rw [hxx]; exact h19
    obtain ⟨n, hn⟩ := x.hap_setHapState c 1
    rw [hn]
    exact ⟨fun _ _ => ⟨State.hapState_setHapState _ _ _, hxh.1, hxh.2⟩, fun h => absurd h hoff, (State.reg_setHapState _ _ _ _ _ (by decide) (by decide)).trans hx19⟩

theorem hapticClear_clears {req : Requester} {c v : Nat} {s u : State} (hc : c < 16) (hv : v < 256) (h : s.admits req (0x6400 + c) 0x1A (leBytes 1 v) = true)
    (hu : u = s.admitted req (0x6400 + c) 0x1A (leBytes 1 v)) :
    (u.reg (0x6400 + c) 0x19 = 0 → exec (.hapticClear req c v) s = .next (u.concluded req (0x6400 + c) 0x1A (leBytes 1 v) Status.ok)) ∧
    (u.reg (0x6400 + c) 0x19 ≠ 0 → u.hapServed c = false ∨ u.senseBusUp c = false →
      exec (.hapticClear req c v) s = .next (u.useFree.concluded req (0x6400 + c) 0x1A (leBytes 1 v) Status.busy)) ∧
    (∀ w, u.reg (0x6400 + c) 0x19 ≠ 0 → u.hapServed c = true → u.senseBusUp c = true → w = (State.hapUnfault (u.modHap c (fun h => { h with ampLow := false })) c).useFree →
      ((u.hap c).ampLow = false → exec (.hapticClear req c v) s = .next (w.concluded req (0x6400 + c) 0x1A (leBytes 1 v) Status.ok)) ∧
      ((u.hap c).ampLow = true → exec (.hapticClear req c v) s = .next (w.concluded req (0x6400 + c) 0x1A (leBytes 1 v) Status.ok) ∨
        exec (.hapticClear req c v) s = .next (u.useFree.concluded req (0x6400 + c) 0x1A (leBytes 1 v) Status.busy))) := by
  have hx := hapticClear_admits req c v s hc hv (by rwa [Nat.one_mul])
  rw [Nat.one_mul, ← hu] at hx
  unfold State.hapClearWrite at hx
  refine ⟨fun h0 => ?_, fun h0 hout => ?_, fun w h0 hserved hbus hw => ⟨fun hamp => ?_, fun hamp => ?_⟩⟩
  · rw [if_pos h0] at hx
    exact hx
  · rw [if_neg h0, if_pos (by rcases hout with hout | hout <;> simp [hout])] at hx
    exact hx
  · rw [if_neg h0, if_neg (by simp [hserved, hbus, hamp]), ← hw] at hx
    exact hx
  · rw [if_neg h0] at hx
    cases hfree : Config.freeBool u.free with
    | true =>
      rw [if_pos (.inl ⟨hamp, hfree⟩)] at hx
      exact .inr hx
    | false =>
      rw [if_neg (by simp [hserved, hbus, hfree]), ← hw] at hx
      exact .inl hx

/-! ### What the haptic commands leave -/

/-- The union of what the channels' commands may change. -/
theorem haptic_eff {c b : Nat} {up : Bool} {l : List Int} {x : Int} {s t : State} {i : Instr}
    (hi : i ∈ [Instr.playStartTime c, .htrigEdge c up, .reflexTrigger c, .ampReadyExpiry c, .segmentEnd c, .senseFrame b l, .brakeTimeout c,
      .resonanceTrack c x, .ampFault c, .engineLost c, .onTimeLimit c, .energyBlock c]) (h : exec i s = .next t) : Eff 19518212546758 s t := by
  have hof : Eff.Outcome 19518212546758 s (exec i s) → Eff 19518212546758 s t := by
    rintro ⟨u, hu, he⟩
    rw [h] at hu
    cases hu
    exact he
  apply hof
  simp only [List.mem_cons, List.not_mem_nil, or_false] at hi
  rcases hi with rfl | rfl | rfl | rfl | rfl | rfl | rfl | rfl | rfl | rfl | rfl | rfl
  · exact (execPlayStartTime_eff c s).mono rfl
  · exact (execHtrigEdge_eff c up s).mono rfl
  · exact (execReflexTrigger_eff c s).mono rfl
  · exact (execAmpReadyExpiry_eff c s).mono rfl
  · exact (execSegmentEnd_eff c s).mono rfl
  · exact (execSenseFrame_eff b l s).mono rfl
  · exact (execBrakeTimeout_eff c s).mono rfl
  · exact (execResonanceTrack_eff c x s).mono rfl
  · exact (execAmpFault_eff c s).mono rfl
  · exact (execEngineLost_eff c s).mono rfl
  · exact (execOnTimeLimit_eff c s).mono rfl
  · exact (execEnergyBlock_eff c s).mono rfl

/-! ### The obligation -/

/-- The amplifier is ready: what was held or waits starts, unless the channel is in LIMITED (R486, R499). -/
theorem ampReadyExpiry_rises {c d : Nat} {s t : State} (hr : (s.hap c).ready = some d) (h1 : s.hapState c = 1)
    (ht : t = ((s.arriveAt d).modHap c (fun h => { h with ready := none, held := none })).setHapState c (if (s.hap c).limited then 5 else 2)) :
    ((s.hap c).limited = true → (s.hap c).held = none → exec (.ampReadyExpiry c) s = .next (t.busyWaiting c)) ∧
    (∀ tr, (s.hap c).limited = true → (s.hap c).held = some tr → exec (.ampReadyExpiry c) s = .next ((t.reflexDropped c tr 1).busyWaiting c)) ∧
    ((s.hap c).limited = false → (s.hap c).held = none → exec (.ampReadyExpiry c) s = .next (t.startWaiting c false)) ∧
    (∀ tr, (s.hap c).limited = false → (s.hap c).held = some tr → s.effectBytes tr.effect = [] → exec (.ampReadyExpiry c) s = .next (t.reflexDropped c tr 1)) ∧
    (∀ tr, (s.hap c).limited = false → (s.hap c).held = some tr → s.effectBytes tr.effect ≠ [] → exec (.ampReadyExpiry c) s = .next (t.onset c tr false none)) := by
  have hx : exec (.ampReadyExpiry c) s = execAmpReadyExpiry c s := rfl
  unfold execAmpReadyExpiry at hx
  rw [hr] at hx
  dsimp only at hx
  rw [if_neg (by omega), show s.restState c = if (s.hap c).limited then 5 else 2 from rfl, ← ht] at hx
  clear ht
  refine ⟨fun hl hh => ?_, fun tr hl hh => ?_, fun hl hh => ?_, fun tr hl hh he => ?_, fun tr hl hh he => ?_⟩
  · rw [if_pos hl, hh] at hx
    exact hx
  · rw [if_pos hl, hh] at hx
    exact hx
  · rw [if_neg (by rw [hl]; decide), hh] at hx
    exact hx
  · rw [if_neg (by rw [hl]; decide), hh] at hx
    dsimp only at hx
    rwa [if_pos he] at hx
  · rw [if_neg (by rw [hl]; decide), hh] at hx
    dsimp only at hx
    rwa [if_neg he] at hx

/-- Settles O52: the entries, onsets, triggers, stages, trips, energy and clearing of a channel. -/
theorem hapticEffects : Obligations.HapticEffects := by
  unfold Obligations.HapticEffects
  refine ⟨fun e op ef sc st z s => ⟨fun h => ?_, fun hp hf => ?_⟩, fun e op ef sc st c z s hf hc hp => play_taken hf hc hp, fun e c z s hf hc hp => stop_taken hf hc hp, fun c s h => ?_,
    fun c p s t hp ht => playStartTime_comes hp ht, fun c scaled p s t hp ht => State.startWaiting_waits hp ht, fun c tr scaled p d s t hd ht => ?_,
    fun c tr s => ⟨fun h => ?_, fun hp h => ?_, fun hp h1 he => State.hapTrigger_held hp h1 he, fun hp h2 h4 he => State.hapTrigger_plays hp h2 h4 he⟩, fun pin up s h => htrigEdge_ignored h,
    fun pin c ef w up s t hs hpin hsh hserved hkind hrearm hc hef hw ht => htrigEdge_triggers hs hpin hsh hserved hkind hrearm hc hef hw ht, fun c s h => ?_, fun c r s h => ?_,
    fun c s h => ?_, fun c d s t hr h1 ht => ampReadyExpiry_rises hr h1 ht, fun c s h => ⟨?_, ?_, fun x => ?_, ?_⟩, fun c n r s hr hn => segmentEnd_stages hr hn, fun c r s => rfl,
    fun c r s hr => ⟨fun hb => ⟨?_, ?_⟩, fun hb => ?_⟩, fun c r s => ⟨fun hb => ?_, fun v hb hv => State.bodyEnds_brakes hb hv⟩, fun c s => ?_, fun c st s h => State.effectEnds_rests c st h,
    fun b l s => ⟨fun h => ?_, fun h => ?_⟩, State.senseChannel_spec, fun c x r s hr => resonanceTrack_tracks hr, fun c s => ⟨rfl, fun h => ?_, fun h => ?_⟩,
    fun c r s => ⟨fun h => ?_, fun h6 h0 => State.hapTrip_trips h6 h0⟩, fun c r s hr => onTimeLimit_cuts hr, fun c s h0 hw => ?_, fun c sum lim w s h hw hsum hlim => energyBlock_ends h hw hsum hlim,
    fun req c v s u hc hv h hu => hapticClear_clears hc hv h hu, fun req c v s hc hv h1 h => ?_, State.hapUnfault_spec, fun c b up l x s t ⟨i, hi, h⟩ => ?_⟩
  · exact ⟨if_pos h, if_pos h⟩
  · have hno : ¬(s.hap (s.sq e.inst e.q).target).play.isSome = true := by rw [hp]; decide
    have hclosed : (!s.canFetch e 6) = true := by rw [hf]; rfl
    exact ⟨(if_neg hno).trans (if_pos hclosed), (if_neg hno).trans (if_pos hclosed)⟩
  · rw [exec_playStartTime, execPlayStartTime, h]
  · obtain ⟨h1, h2, h3⟩ := s.onsetTime_spec tr.source p
    subst hd ht
    exact ⟨s.onsetTime tr.source p, h1, h2, h3, s.onset_spec c tr scaled p⟩
  · unfold State.hapTrigger
    exact if_pos h
  · unfold State.hapTrigger
    exact (if_neg (by omega)).trans (if_pos h)
  · rw [exec_reflexTrigger, execReflexTrigger, h]
  · refine ⟨{ s with reflex := { s.reflex with haptics := s.reflex.haptics.erase r } }, ?_, rfl, rfl, rfl, rfl⟩
    rw [exec_reflexTrigger, execReflexTrigger, h]
  · rw [exec_ampReadyExpiry]
    unfold execAmpReadyExpiry
    split
    · rfl
    · next d hd =>
      refine if_pos ?_
      rcases h with h | h
      · rw [h] at hd; cases hd
      · exact h
  · rw [exec_segmentEnd, execSegmentEnd, h]
  · rw [exec_brakeTimeout, execBrakeTimeout, h]
  · rw [exec_resonanceTrack, execResonanceTrack, h]
  · rw [exec_onTimeLimit, execOnTimeLimit, h]
  · rw [exec_segmentEnd]
    unfold execSegmentEnd
    rw [hr]
    dsimp only
    rw [hb]
  · rw [exec_brakeTimeout, execBrakeTimeout, hr]
    exact if_pos hb
  · rw [exec_brakeTimeout, execBrakeTimeout, hr]
    exact if_neg hb
  · refine ⟨s.announce c s.now, ?_, s.mem_edges_announce c s.now, rfl⟩
    unfold State.bodyEnds
    exact if_pos (by rw [hb]; rfl)
  · have hmod : Config.freeNat s.free % 2001 ≤ 2000 := Nat.lt_succ_iff.1 (Nat.mod_lt _ (by decide))
    exact ⟨_, s.now + 12000 + Config.freeNat s.free % 2001, rfl, s.mem_edges_announce c _, by omega, by omega, rfl⟩
  · rw [exec_senseFrame, execSenseFrame, if_pos (by rw [h]; rfl)]
  · rw [exec_senseFrame, execSenseFrame, if_neg (by rw [h]; decide)]
  · rw [exec_engineLost, execEngineLost, if_pos h]
  · rw [exec_engineLost, execEngineLost, if_neg (by rw [h]; decide)]
  · unfold State.hapTrip
    exact if_pos h
  · rw [exec_energyBlock]
    unfold execEnergyBlock
    exact if_pos ⟨h0, hw⟩
  · obtain ⟨o, hobj, hbase, hsub⟩ : ∃ o, objectAt (0x6400 + c) = some (o, c) ∧ o.base = 0x6400 ∧ o.sub? 0x1A = some ⟨26, 26, "clear", .u8, .wo, .live, .blank, .only [1], 0⟩ := by
      interval_cases c <;> exact ⟨_, rfl, rfl, rfl⟩
    have hx : (v : Int) ≠ 1 := by omega
    rw [exec_hapticClear, execHapticClear, objectIndex, if_pos hc, Nat.one_mul,
      State.submitNumber_outOfRange hobj hsub (by omega) (by rw [hbase]; decide) rfl rfl hv (by simp [SubEntry.inRange, hx]) h]
  · have he := haptic_eff hi h
    exact ⟨SameRings.of_eff he, he.mem_eq, he.taken_eq, he.heads_eq, he.gfx_eq, he.keys_eq, he.audio_eq, he.lanes_eq, he.fuses_eq, he.dir_eq⟩

end Sys2Proof.Machine
end

section
/-! PROOF about the audio crosspoint: tone requests, safe-loads and the swap of a row's banks (R530, R532, R533, R540). -/
set_option Elab.async false
namespace Sys2Proof.Machine

/-! ### Tone requests -/

theorem State.toneGen_modTone_self (s : State) (g : Nat) (f : ToneGen → ToneGen) : (s.modTone g f).toneGen g = f (s.toneGen g) := by
  simp [State.toneGen, State.modTone]

theorem State.toneGen_setReg (s : State) (i k v g : Nat) : (s.setReg i k v).toneGen g = s.toneGen g := rfl

theorem State.requestTone_again {g : Nat} {s : State} (h : (s.toneGen g).requested = true ∨ (s.toneGen g).ignored = true) : s.requestTone g = s :=
  if_pos h

theorem State.requestTone_counts {g : Nat} {s : State} (hr : (s.toneGen g).requested = false) (hi : (s.toneGen g).ignored = false) :
    s.requestTone g = (s.inc (0x6810 + g) 9).modTone g
      (fun t => { t with requested := decide (s.use (0x6810 + g) 1 ≠ 0), ignored := !decide (s.use (0x6810 + g) 1 ≠ 0) }) := by
  unfold State.requestTone
  rw [if_neg (by rw [hr, hi]; rintro (h | h) <;> exact Bool.false_ne_true h)]

theorem requestTone_spec (g : Nat) (s : State) (hr : (s.toneGen g).requested = false) (hi : (s.toneGen g).ignored = false) :
    (s.requestTone g).reg (0x6810 + g) 9 = satAdd (entryBits (0x6810 + g) 9) (s.reg (0x6810 + g) 9) 1 ∧
      ((s.requestTone g).toneGen g).requested = decide (s.use (0x6810 + g) 1 ≠ 0) ∧ ((s.requestTone g).toneGen g).ignored = decide (s.use (0x6810 + g) 1 = 0) ∧
      SameLiveBut s (s.requestTone g) [entryKey (0x6810 + g) 9] ∧ s.requestTone g = { s with live := (s.requestTone g).live, audio := (s.requestTone g).audio } := by
  rw [State.requestTone_counts hr hi, State.toneGen_modTone_self]
  refine ⟨State.reg_setReg_self _ _ _ _, rfl, ?_, s.sameLiveBut_setReg _ _ _, rfl⟩
  by_cases h : s.use (0x6810 + g) 1 = 0 <;> simp [h]

/-- A request taken at a sample starts the generator, in the phase it plays in or from the beginning (R540). -/
theorem toneAdvance_starts (g : Nat) (s : State) (h : (s.toneGen g).requested = true) :
    (s.toneAdvance g).reg (0x6810 + g) 8 = 1 ∧ ((s.toneAdvance g).toneGen g).requested = false ∧ ((s.toneAdvance g).toneGen g).ignored = false ∧
      ((s.toneAdvance g).toneGen g).sinceReq = 0 ∧ ((s.toneAdvance g).toneGen g).releasing = false ∧
      ((s.toneAdvance g).toneGen g).phase = (if s.reg (0x6810 + g) 8 = 1 then (s.toneGen g).phase else 0) := by
  obtain ⟨u, hu⟩ : ∃ u, u = (if (s.toneGen g).ignored then s.modTone g (fun x => { x with ignored := false }) else s) := ⟨_, rfl⟩
  have hut : u.toneGen g = { s.toneGen g with ignored := false } ∧ u.reg (0x6810 + g) 8 = s.reg (0x6810 + g) 8 := by
    rw [hu]
    split
    · exact ⟨State.toneGen_modTone_self _ _ (fun x => { x with ignored := false }), rfl⟩
    · rename_i hi
      refine ⟨?_, rfl⟩
      generalize s.toneGen g = x at hi
      obtain ⟨_, ign, _, _, _, _⟩ := x
      cases ign <;> simp_all
  obtain ⟨hg, hp⟩ := hut
  have hreq : (u.toneGen g).requested = true := by rw [hg]; exact h
  unfold State.toneAdvance
  extract_lets s' t lvl n playing step now r
  rw [if_pos (show t.requested = true from (congrArg (fun v => (v.toneGen g).requested) hu).symm.trans hreq)]
  refine ⟨State.reg_setReg_self _ _ _ _, ?_⟩
  rw [State.toneGen_setReg, State.toneGen_modTone_self]
  have hs' : s' = u := hu.symm
  refine ⟨rfl, ?_, rfl, rfl, ?_⟩
  · show (s'.toneGen g).ignored = false
    rw [hs', hg]
  · show (if s'.reg (0x6810 + g) 8 = 1 then (s'.toneGen g).phase else 0) = _
    rw [hs', hp, hg]

/-- A value other than 1 is no start of a tone (R540). -/
theorem toneStart_outOfRange {req : Requester} {g v : Nat} {s : State} (hg : g < 8) (hv : v < 256) (hx : v ≠ 1)
    (h : s.reaches req (0x6810 + g) 7 (leBytes 1 v) = true) : exec (.toneStart req g v) s = .next (s.turnedAway req (0x6810 + g) 7 (leBytes 1 v)) := by
  obtain ⟨o, hobj, hbase, hsub⟩ : ∃ o, objectAt (0x6810 + g) = some (o, g) ∧ o.base = 0x6810 ∧
      o.sub? 7 = some ⟨7, 7, "start", .u8, .wo, .live, .blank, .only [1], 0⟩ := by interval_cases g <;> exact ⟨_, rfl, rfl, rfl⟩
  have hi : (v : Int) ≠ 1 := by omega
  have hout := State.submitNumber_outOfRange hobj hsub (by omega) (by rw [hbase]; decide) rfl rfl hv (by simp [SubEntry.inRange, hi]) h
  rw [exec_toneStart, execToneStart, objectIndex, if_pos hg, Nat.one_mul, hout]

/-! ### Safe-loads -/

theorem State.row_modRow_self (s : State) (i : Nat) (f : XpRow → XpRow) : (s.modRow i f).row i = f (s.row i) := by
  simp [State.row, State.modRow]

theorem State.row_modRow (s : State) (i j : Nat) (f : XpRow → XpRow) : (s.modRow i f).row j = if i = j then f (s.row i) else s.row j := by
  simp [State.row, State.modRow]

theorem State.audio_event (s : State) (i a b c d e f : Nat) : (s.event i a b c d e f).audio = s.audio :=
  (State.event_eff s i a b c d e f (Eff.refl 17593261891712 s) rfl).audio_eq

theorem State.row_of_audio {s t : State} (h : t.audio = s.audio) (i : Nat) : t.row i = s.row i := by
  unfold State.row
  rw [h]

theorem safeLoad_spec (req : Requester) (i at_ : Nat) (s u : State) (hi : i < 128) (hv : at_ < 256 ^ 8)
    (ha : s.admits req (0x6900 + i) 0x41 (leBytes 8 at_) = true) (hu : u = s.admitted req (0x6900 + i) 0x41 (leBytes 8 at_)) :
    exec (.safeLoad req i at_) s = .next ((u.safeLoadWrite i at_).2.concluded req (0x6900 + i) 0x41 (leBytes 8 at_) (u.safeLoadWrite i at_).1) := by
  have h := safeLoad_admits req i at_ s hi hv (by rw [Nat.one_mul]; exact ha)
  rw [Nat.one_mul, ← show u = s.admitted req (26880 + i) 65 (leBytes 8 at_) from hu] at h
  exact h

theorem safeLoadWrite_range {i at_ : Nat} {u : State} (h : u.now + sec 10 < at_) : u.safeLoadWrite i at_ = (Status.range, u) := if_pos h

theorem safeLoadWrite_busy {i at_ : Nat} {u : State} (h : at_ ≤ u.now + sec 10) (hp : (u.row i).pending.isSome = true) :
    u.safeLoadWrite i at_ = (Status.busy, u) := by
  unfold State.safeLoadWrite
  rw [if_neg (Nat.not_lt.2 h), if_pos hp]

theorem safeLoadWrite_late {i at_ : Nat} {u : State} (hp : (u.row i).pending = none) (h0 : at_ ≠ 0) (hl : at_ < u.now) :
    u.safeLoadWrite i at_ = (Status.pending, u.swapRow i at_ true) := by
  unfold State.safeLoadWrite
  rw [if_neg (by omega), if_neg (by simp [hp]), if_pos ⟨h0, hl⟩]

theorem safeLoadWrite_waits {i at_ : Nat} {u : State} (h : at_ ≤ u.now + sec 10) (hp : (u.row i).pending = none) (hl : at_ = 0 ∨ u.now ≤ at_) :
    u.safeLoadWrite i at_ = (Status.pending, (u.modRow i (fun r => { r with pending := some at_ })).setReg (0x6900 + i) 0x42 1) := by
  unfold State.safeLoadWrite
  rw [if_neg (Nat.not_lt.2 h), if_neg (by simp [hp]), if_neg (by omega)]

theorem State.bankIsB_setPending (u : State) (i v : Nat) (f : XpRow → XpRow) : ((u.modRow i f).setReg (0x6900 + i) 0x42 v).bankIsB i = u.bankIsB i := by
  unfold State.bankIsB
  rw [State.reg_setReg_of_ne _ _ _ _ _ _ (entryKey_inst_ne (by decide))]
  rfl

theorem safeLoadWrite_waiting (u : State) (i at_ : Nat) : ∃ t : State, (u.modRow i (fun r => { r with pending := some at_ })).setReg (0x6900 + i) 0x42 1 = t ∧
    (t.row i).pending = some at_ ∧ t.reg (0x6900 + i) 0x42 = 1 ∧ t.editBank i = u.editBank i ∧ t.activeBank i = u.activeBank i ∧
    t = { u with live := t.live, audio := t.audio } := by
  have hrow : ((u.modRow i (fun r => { r with pending := some at_ })).setReg (0x6900 + i) 0x42 1).row i = { u.row i with pending := some at_ } :=
    u.row_modRow_self i (fun r => { r with pending := some at_ })
  refine ⟨_, rfl, by rw [hrow], State.reg_setReg_self _ _ _ _, ?_, ?_, rfl⟩
  · unfold State.editBank
    rw [State.bankIsB_setPending, hrow]
  · unfold State.activeBank
    rw [State.bankIsB_setPending, hrow]

/-! ### The swap of a row's banks -/

/-- A row's record after its swap: both banks hold the edit bank (R533). -/
def State.rowSwapped (s : State) (i : Nat) : XpRow :=
  { s.row i with
    bankA := s.editBank i, bankB := s.editBank i, pending := none, copyUntil := s.now + Config.freeNat s.free % 50001
    ramps := s.rampRow i s.rampSamples (fun o => Tab.find? (s.editBank i) o), muted := false }

/-- The state after a row's swap, before its event. -/
def State.swapped (s : State) (i : Nat) : State :=
  ((((s.modRow i (fun _ => s.rowSwapped i)).setReg (0x6900 + i) 0x43 (if s.bankIsB i then 0 else 1)).setReg (0x6900 + i) 0x42 0).setReg (0x6900 + i) 0x4B s.now).useFree

theorem State.swapRow_eq (s : State) (i q : Nat) (late : Bool) :
    s.swapRow i q late = (s.swapped i).event (s.rowHolder i) 0x51 i (if late then Status.late else Status.ok) 0xFF (if s.bankIsB i then 1 else 2) q := by
  unfold State.swapRow State.swapped
  dsimp only
  cases s.bankIsB i <;> rfl

theorem State.row_swapped (s : State) (i : Nat) : (s.swapped i).row i = s.rowSwapped i := s.row_modRow_self i (fun _ => s.rowSwapped i)

theorem State.reg_swapped (s : State) (i : Nat) : (s.swapped i).reg (0x6900 + i) 0x43 = (if s.bankIsB i then 0 else 1) ∧
    (s.swapped i).reg (0x6900 + i) 0x42 = 0 ∧ (s.swapped i).reg (0x6900 + i) 0x4B = s.now := by
  generalize hv : (if s.bankIsB i then 0 else 1) = v
  have hreg : ∀ k, (s.swapped i).reg (0x6900 + i) k =
      ((((s.modRow i (fun _ => s.rowSwapped i)).setReg (0x6900 + i) 0x43 v).setReg (0x6900 + i) 0x42 0).setReg (0x6900 + i) 0x4B s.now).reg (0x6900 + i) k := by
    intro k
    rw [← hv]
    rfl
  refine ⟨?_, ?_, (hreg _).trans (State.reg_setReg_self _ _ _ _)⟩
  · rw [hreg, State.reg_setReg_of_ne _ _ _ _ _ _ (entryKey_inst_ne (by decide)), State.reg_setReg_of_ne _ _ _ _ _ _ (entryKey_inst_ne (by decide)), State.reg_setReg_self]
  · rw [hreg, State.reg_setReg_of_ne _ _ _ _ _ _ (entryKey_inst_ne (by decide)), State.reg_setReg_self]

theorem State.sameLiveBut_swapped (s : State) (i : Nat) :
    SameLiveBut s (s.swapped i) [entryKey (0x6900 + i) 0x43, entryKey (0x6900 + i) 0x42, entryKey (0x6900 + i) 0x4B] := by
  have h := (((SameLiveBut.of_live (s := s) (t := s.modRow i (fun _ => s.rowSwapped i)) (ks := [entryKey (0x6900 + i) 0x43, entryKey (0x6900 + i) 0x42, entryKey (0x6900 + i) 0x4B]) rfl rfl rfl).setLive
    (i := 0x6900 + i) (sub := 0x43) (.num (if s.bankIsB i then 0 else 1 : Nat)) (by simp)).setLive (i := 0x6900 + i) (sub := 0x42) (.num (0 : Nat)) (by simp)).setLive
      (i := 0x6900 + i) (sub := 0x4B) (.num s.now) (by simp)
  exact h.trans_live rfl rfl rfl

theorem State.frame_swapped (s : State) (i : Nat) : s.swapped i = { s with free := (s.swapped i).free, live := (s.swapped i).live, audio := (s.swapped i).audio } := by
  unfold State.swapped
  generalize s.rowSwapped i = r
  generalize (if s.bankIsB i then 0 else 1) = v
  rfl

theorem swapRow_spec (i q : Nat) (late : Bool) (s : State) :
    ∃ t : State, s.swapRow i q late = t.event (s.rowHolder i) 0x51 i (if late then Status.late else Status.ok) 0xFF (if s.bankIsB i then 1 else 2) q ∧
    (t.row i).bankA = s.editBank i ∧ (t.row i).bankB = s.editBank i ∧ (t.row i).pending = none ∧ (t.row i).muted = false ∧ s.now ≤ (t.row i).copyUntil ∧ (t.row i).copyUntil ≤ s.now + 50000 ∧
    t.reg (0x6900 + i) 0x43 = (if s.bankIsB i then 0 else 1) ∧ t.reg (0x6900 + i) 0x42 = 0 ∧ t.reg (0x6900 + i) 0x4B = s.now ∧ t = { s with free := t.free, live := t.live, audio := t.audio } ∧
    SameLiveBut s t [entryKey (0x6900 + i) 0x43, entryKey (0x6900 + i) 0x42, entryKey (0x6900 + i) 0x4B] := by
  have hcopy : (s.rowSwapped i).copyUntil = s.now + Config.freeNat s.free % 50001 := rfl
  obtain ⟨h43, h42, h4B⟩ := s.reg_swapped i
  refine ⟨s.swapped i, s.swapRow_eq i q late, ?_⟩
  rw [State.row_swapped, hcopy]
  exact ⟨rfl, rfl, rfl, rfl, Nat.le_add_right _ _, by omega, h43, h42, h4B, s.frame_swapped i, s.sameLiveBut_swapped i⟩

theorem State.nodeGain_of_ramp {s : State} {i o : Nat} {r : Ramp} (h : Tab.find? (s.row i).ramps o = some r) : s.nodeGain i o = some r.value := by
  simp only [State.nodeGain, h]

theorem State.nodeGain_of_still {s : State} {i o : Nat} (h : Tab.find? (s.row i).ramps o = none) :
    s.nodeGain i o = (s.nodeGoal i o).map (fun (g : Int) => (g : Rat)) := by
  simp only [State.nodeGain, State.nodeGoal, h]
  split <;> rfl

theorem State.find?_foldl_ramp (s : State) (i n : Nat) (goal : Nat → Option Int) (o : Nat) : ∀ (l : List Nat) (t : Tab Ramp),
    Tab.find? (l.foldl (fun t o => if goal o = s.nodeGoal i o then t else Tab.put t o (rampOver (s.nodeGain i o) (goal o) n)) t) o =
      if o ∈ l ∧ goal o ≠ s.nodeGoal i o then some (rampOver (s.nodeGain i o) (goal o) n) else Tab.find? t o
  | [], t => by simp
  | k :: l, t => by
    rw [List.foldl_cons, State.find?_foldl_ramp s i n goal o l]
    by_cases hk : k = o
    · subst hk
      by_cases hg : goal k = s.nodeGoal i k <;> simp [hg, Tab.find?_put]
    · have hk' : o ≠ k := fun e => hk e.symm
      by_cases hg : goal k = s.nodeGoal i k <;> simp [hg, hk, hk', Tab.find?_put]

/-- What the ramps of a swapped row hold of an output. -/
theorem State.find?_rampRow (s : State) {i n o : Nat} (goal : Nat → Option Int) (ho : o < 64) : Tab.find? (s.rampRow i n goal) o =
    if goal o ≠ s.nodeGoal i o then some (rampOver (s.nodeGain i o) (goal o) n) else Tab.find? (s.row i).ramps o := by
  unfold State.rampRow
  rw [State.find?_foldl_ramp]
  simp [ho]

theorem swapRow_gains (i q o : Nat) (late : Bool) (s : State) (ho : o < 64) :
    (Tab.find? (s.editBank i) o ≠ s.nodeGoal i o → (s.swapRow i q late).nodeGain i o = some ((s.nodeGain i o).getD (-1200))) ∧
    (Tab.find? (s.editBank i) o = s.nodeGoal i o → (s.swapRow i q late).nodeGain i o = s.nodeGain i o) := by
  have hrow : (s.swapRow i q late).row i = s.rowSwapped i := by
    rw [s.swapRow_eq, State.row_of_audio (State.audio_event _ _ _ _ _ _ _ _), State.row_swapped]
  have hfind : Tab.find? ((s.swapRow i q late).row i).ramps o = if Tab.find? (s.editBank i) o ≠ s.nodeGoal i o then
      some (rampOver (s.nodeGain i o) (Tab.find? (s.editBank i) o) s.rampSamples) else Tab.find? (s.row i).ramps o := by
    rw [hrow]
    exact s.find?_rampRow _ ho
  have hgoal : (s.swapRow i q late).nodeGoal i o = Tab.find? (s.editBank i) o := by
    unfold State.nodeGoal State.activeBank
    rw [hrow]
    exact congrArg (fun t => Tab.find? t o) (ite_self _)
  constructor
  · intro h
    rw [if_pos h] at hfind
    rw [State.nodeGain_of_ramp hfind]
    rfl
  · intro h
    rw [if_neg (not_not.2 h)] at hfind
    cases hs : Tab.find? (s.row i).ramps o with
    | some r => rw [State.nodeGain_of_ramp (hfind.trans hs), State.nodeGain_of_ramp hs]
    | none => rw [State.nodeGain_of_still (hfind.trans hs), State.nodeGain_of_still hs, hgoal, h]

theorem rampOver_spec (v : Option Rat) (g : Option Int) (n : Nat) : (rampOver v g n).value = v.getD (-1200) ∧ (rampOver v g n).goal = g ∧
    (rampOver v g n).value + (max n 1 : Nat) * (rampOver v g n).step = (match g with | none => -1200 | some x => (x : Rat)) := by
  refine ⟨rfl, rfl, ?_⟩
  have hn : ((max n 1 : Nat) : Rat) ≠ 0 := Nat.cast_ne_zero.2 (by omega)
  cases g <;> (simp only [rampOver]; rw [mul_div_cancel₀ _ hn]; ring)

end Sys2Proof.Machine
end

section
/-! PROOF about the audio crosspoint's clock and its ports (R530, R536 to R538). -/
set_option Elab.async false
namespace Sys2Proof.Machine

/-! ### The clock -/

theorem State.xpo_modXpo (s : State) (o p : Nat) (f : XpOutput → XpOutput) : (s.modXpo o f).xpo p = if o = p then f (s.xpo o) else s.xpo p := by
  simp [State.xpo, State.modXpo]

theorem State.xpo_modXpo_self (s : State) (o : Nat) (f : XpOutput → XpOutput) : (s.modXpo o f).xpo o = f (s.xpo o) := by
  rw [State.xpo_modXpo, if_pos rfl]

theorem State.row_setReg (s : State) (i k v j : Nat) : (s.setReg i k v).row j = s.row j := rfl

theorem State.xpo_of_audio {s t : State} (h : t.audio = s.audio) (o : Nat) : t.xpo o = s.xpo o := by
  unfold State.xpo
  rw [h]

theorem State.reg_abandonPilots (s : State) (p : Nat → Bool) (j k : Nat) (hk : k % 256 ≠ 0xB) : (s.abandonPilots p).reg j k = s.reg j k := by
  unfold State.abandonPilots
  exact State.reg_each _ _ _ _ (fun t n => State.reg_setReg_of_ne _ _ _ _ _ _ (entryKey_inst_ne (Ne.symm hk))) _

theorem State.abandonPilots_keeps (s : State) (p : Nat → Bool) : (s.abandonPilots p).audio = s.audio ∧
    (s.abandonPilots p).survey.pilotRunning = s.survey.pilotRunning.filter (fun o => !p o) := by
  unfold State.abandonPilots
  exact State.each_keeps (P := fun t => t.audio = s.audio ∧ t.survey.pilotRunning = s.survey.pilotRunning.filter (fun o => !p o)) _ (fun t o => t.inc (0x2620 + o) 0xB)
    (fun t n ht => ht) ({ s with survey := { s.survey with pilotRunning := s.survey.pilotRunning.filter (fun o => !p o) } } : State) ⟨rfl, rfl⟩

theorem State.abandonPilots_all (s : State) : (s.abandonPilots (fun _ => true)).survey.pilotRunning = [] := by
  rw [(s.abandonPilots_keeps _).2]
  simp

/-- What a change of the clock leaves: the state shown, no measurement running, and nothing else but the crosspoint's own. -/
theorem State.clockChanged (s : State) (v : Nat) (a : Audio) : ∃ t : State, (({ s with audio := a } : State).setReg 0x6800 5 v).abandonPilots (fun _ => true) = t ∧
    t.reg 0x6800 5 = v ∧ t.audio = a ∧ t.survey.pilotRunning = [] ∧ t = { s with live := t.live, survey := t.survey, audio := t.audio } := by
  obtain ⟨u, hu⟩ : ∃ u, u = ({ s with audio := a } : State).setReg 0x6800 5 v := ⟨_, rfl⟩
  have hreg : u.reg 0x6800 5 = v := by rw [hu]; exact State.reg_setReg_self _ _ _ _
  have hframe : u = { s with live := u.live, audio := u.audio } := by rw [hu]; rfl
  have haudio : u.audio = a := by rw [hu]; rfl
  rw [← hu]
  have he := State.abandonPilots_eff u (fun _ => true) (Eff.refl 2199560126592 u) rfl
  refine ⟨_, rfl, (u.reg_abandonPilots _ _ _ (by decide)).trans hreg, (u.abandonPilots_keeps _).1.trans haudio, u.abandonPilots_all, ?_⟩
  generalize u.abandonPilots (fun _ => true) = t at he
  have hf := he.frame
  rw [hframe] at hf
  exact hf

theorem mclkLost_elsewhere {s : State} (h : s.serving = false ∨ s.reg 0x6800 5 ≠ 1) : exec .mclkLost s = .next s := by
  have hx : exec .mclkLost s = execMclkLost s := rfl
  rw [hx, execMclkLost, if_pos (by rcases h with h | h <;> simp [h])]

theorem mclkLost_internal {s : State} (h : s.serving = true) (h5 : s.reg 0x6800 5 = 1) (h1 : s.use 0x6800 1 = 0) : exec .mclkLost s =
    .next (({ (s.setReg 0x6800 5 0) with audio := { s.audio with lostZero := true, switching := none } } : State).abandonPilots (fun _ => true)) := by
  have hx : exec .mclkLost s = execMclkLost s := rfl
  rw [hx, execMclkLost, if_neg (by simp [h, h5]), if_pos h1]

theorem mclkLost_switches {s : State} (h : s.serving = true) (h5 : s.reg 0x6800 5 = 1) (h1 : s.use 0x6800 1 ≠ 0) :
    ∃ t : State, exec .mclkLost s = .next (t.event 0 0x53 0xFFFF Status.ok 0xFF 5 0) ∧ t.reg 0x6800 5 = 2 ∧
    t.audio = { s.audio with lostZero := true, switching := none } ∧ t.survey.pilotRunning = [] ∧ t = { s with live := t.live, survey := t.survey, audio := t.audio } := by
  obtain ⟨t, ht, h⟩ := s.clockChanged 2 { s.audio with lostZero := true, switching := none }
  have hx : exec .mclkLost s = execMclkLost s := rfl
  refine ⟨t, ?_, h⟩
  rw [hx, execMclkLost, if_neg (by simp [*]), if_neg h1, ← ht]
  rfl

/-! ### The return to AUDIO_MCLK -/

theorem mclkRestored_elsewhere {s : State} (h : s.serving = false ∨ s.reg 0x6800 5 ≠ 2 ∨ s.use 0x6800 1 ≠ 1 ∨ s.audio.switching.isSome = true) :
    exec .mclkRestored s = .next s := by
  have hx : exec .mclkRestored s = execMclkRestored s := rfl
  rw [hx, execMclkRestored, if_pos (by rcases h with h | h | h | h <;> simp [h])]

/-- An output of a fold that treats each output of a list once, by what it alone holds. -/
theorem State.xpo_each_modXpo (f : State → XpOutput → XpOutput) (hf : ∀ t o g x, f (t.modXpo o g) x = f t x) (k : Nat) : ∀ (l : List Nat) (s : State), l.Nodup →
    (s.each l (fun t o => t.modXpo o (f t))).xpo k = if k ∈ l then f s (s.xpo k) else s.xpo k
  | [], s, _ => by simp [State.each]
  | o :: l, s, hl => by
    obtain ⟨ho, hl⟩ := List.nodup_cons.1 hl
    rw [State.each, State.xpo_each_modXpo f hf k l _ hl, State.xpo_modXpo, hf]
    by_cases hk : o = k
    · subst hk
      simp [ho]
    · have hk' : k ≠ o := fun e => hk e.symm
      simp [hk, hk']

theorem State.each_modXpo_keeps (f : State → XpOutput → XpOutput) (l : List Nat) (s : State) :
    s.each l (fun t o => t.modXpo o (f t)) = { s with audio := (s.each l (fun t o => t.modXpo o (f t))).audio } ∧
    (s.each l (fun t o => t.modXpo o (f t))).audio = { s.audio with outputs := (s.each l (fun t o => t.modXpo o (f t))).audio.outputs } := by
  refine State.each_keeps (P := fun t => t = { s with audio := t.audio } ∧ t.audio = { s.audio with outputs := t.audio.outputs }) _ _ ?_ _ ⟨rfl, rfl⟩
  rintro t o ⟨h, ha⟩
  refine ⟨?_, ?_⟩
  · unfold State.modXpo
    rw [h]
  · have hput : ∀ (a b : Audio) (x : Tab XpOutput), a = { b with outputs := a.outputs } → ({ a with outputs := x } : Audio) = { b with outputs := x } := by
      intro _ _ _ h
      rw [h]
    exact hput _ _ _ ha

theorem mclkRestored_mutes {s : State} (h : s.serving = true) (h5 : s.reg 0x6800 5 = 2) (h1 : s.use 0x6800 1 = 1) (hs : s.audio.switching = none) :
    ∃ t : State, exec .mclkRestored s = .next t ∧ t.audio.switching = some 1 ∧
    (∀ o, o < 64 → (t.xpo o).mute = some (rampOver (some (((s.xpo o).mute.map (fun (r : Ramp) => r.value)).getD 0)) none s.rampSamples)) ∧ t = { s with audio := t.audio } := by
  have hx : exec .mclkRestored s = execMclkRestored s := rfl
  rw [hx, execMclkRestored, if_neg (by simp [*])]
  have hxpo : ∀ o, o < 64 → (s.outputsToMute.xpo o).mute = some (rampOver (some (((s.xpo o).mute.map (fun (r : Ramp) => r.value)).getD 0)) none s.rampSamples) := by
    intro o ho
    unfold State.outputsToMute
    rw [State.xpo_each_modXpo
      (fun t x => { x with mute := some (rampOver (some ((x.mute.map (fun (r : Ramp) => r.value)).getD 0)) none t.rampSamples) })
      (fun _ _ _ _ => rfl) o (List.range 64) s List.nodup_range, if_pos (List.mem_range.2 ho)]
  have hkeep : s.outputsToMute = { s with audio := s.outputsToMute.audio } :=
    (State.each_modXpo_keeps (fun t x => { x with mute := some (rampOver (some ((x.mute.map (fun (r : Ramp) => r.value)).getD 0)) none t.rampSamples) }) (List.range 64) s).1
  obtain ⟨u, hu⟩ : ∃ u, u = s.outputsToMute := ⟨_, rfl⟩
  rw [← hu] at hkeep hxpo
  dsimp only
  rw [← hu]
  refine ⟨_, rfl, rfl, hxpo, ?_⟩
  generalize u.audio = a at hkeep
  rw [hkeep]

theorem State.switchClock_none {s : State} (h : s.audio.switching = none) : s.switchClock = s := by
  unfold State.switchClock
  rw [h]

theorem State.switchClock_waits {s : State} {k : Nat} (h : s.audio.switching = some k)
    (hm : s.audio.outputs.any (fun x => x.2.mute.any (fun (r : Ramp) => decide (r.goal = none))) = true) : s.switchClock = s := by
  unfold State.switchClock
  rw [h]
  exact if_pos hm

theorem State.switchClock_switches {s : State} {k : Nat} (h : s.audio.switching = some k)
    (hm : s.audio.outputs.any (fun x => x.2.mute.any (fun (r : Ramp) => decide (r.goal = none))) = false) :
    ∃ t : State, t.reg 0x6800 5 = k ∧ t.audio = { s.audio with switching := none } ∧
      t = { s with live := t.live, survey := t.survey, audio := t.audio } ∧ s.switchClock = (if s.reg 0x6800 5 = 2 ∧ k = 1 then t.event 0 0x53 0xFFFF Status.ok 0xFF 6 0 else t) := by
  obtain ⟨t, ht, hr, ha, -, hf⟩ := s.clockChanged k { s.audio with switching := none }
  refine ⟨t, hr, ha, hf, ?_⟩
  rw [← ht]
  clear ht hf ha hr
  unfold State.switchClock
  rw [h]
  dsimp only
  rw [hm, if_neg Bool.false_ne_true]
  by_cases hb : s.reg 0x6800 5 = 2 ∧ k = 1
  · rw [if_pos hb, if_pos (decide_eq_true hb)]
  · rw [if_neg hb, if_neg (by rw [decide_eq_false hb]; exact Bool.false_ne_true)]

/-! ### The ports -/

theorem tdm_elsewhere {p : Nat} {dr : Bool} {s : State} (h : s.serving = false ∨ s.dies ≤ p ∨ s.tdmState p ≠ 1 ∨ s.use (0x6808 + p) 2 = 1) :
    exec (.tdmSlip p dr) s = .next s ∧ exec (.tdmNoClock p) s = .next s := by
  have hx : exec (.tdmSlip p dr) s = execTdmSlip p dr s := rfl
  have hy : exec (.tdmNoClock p) s = execTdmNoClock p s := rfl
  have hg : (!s.serving) = true ∨ s.dies ≤ p ∨ s.tdmState p ≠ 1 ∨ s.use (0x6808 + p) 2 = 1 := by rcases h with h | h | h | h <;> simp [h]
  rw [hx, hy, execTdmSlip, execTdmNoClock]
  exact ⟨if_pos hg, if_pos hg⟩

theorem nodup_portOutputs (p : Nat) : ((List.range 8).map (8 * p + ·)).Nodup :=
  List.Nodup.map (fun _ _ h => Nat.add_left_cancel h) List.nodup_range

theorem mem_portOutputs {p k : Nat} (hk : k < 8) : 8 * p + k ∈ (List.range 8).map (8 * p + ·) :=
  List.mem_map.2 ⟨k, List.mem_range.2 hk, rfl⟩

theorem State.audio_portEvent (s : State) (p r : Nat) : (s.portEvent p r).audio = s.audio := State.audio_event _ _ _ _ _ _ _ _

theorem tdmSlip_spec {p : Nat} {dr : Bool} {s : State} (hs : s.serving = true) (hp : p < s.dies) (ht : s.tdmState p = 1) (h2 : s.use (0x6808 + p) 2 ≠ 1) :
    ∃ t u : State, exec (.tdmSlip p dr) s = .next u ∧ t.reg (0x6808 + p) 0x11 = satAdd (entryBits (0x6808 + p) 0x11) (s.reg (0x6808 + p) 0x11) 1 ∧ t.reg (0x6808 + p) 0x13 = s.now ∧
      t = { s with live := t.live } ∧ SameLiveBut s t [entryKey (0x6808 + p) 0x11, entryKey (0x6808 + p) 0x13] ∧ u = { t.portEvent p 1 with audio := u.audio } ∧
      (∀ k, k < 8 → (u.xpo (8 * p + k)).transmit = slipped dr (s.xpo (8 * p + k)).transmit) ∧ u.audio.rows = s.audio.rows ∧ u.audio.streams = s.audio.streams := by
  have hx : exec (.tdmSlip p dr) s = execTdmSlip p dr s := rfl
  rw [hx, execTdmSlip, if_neg (by simp [*])]
  obtain ⟨t, hteq⟩ : ∃ t, t = (s.inc (0x6808 + p) 0x11).setReg (0x6808 + p) 0x13 s.now := ⟨_, rfl⟩
  have hcount : t.reg (0x6808 + p) 0x11 = satAdd (entryBits (0x6808 + p) 0x11) (s.reg (0x6808 + p) 0x11) 1 := by
    rw [hteq, State.reg_setReg_of_ne _ _ _ _ _ _ (entryKey_inst_ne (by decide))]
    exact State.reg_setReg_self _ _ _ _
  have htime : t.reg (0x6808 + p) 0x13 = s.now := by rw [hteq]; exact State.reg_setReg_self _ _ _ _
  have hframe : t = { s with live := t.live } := by rw [hteq]; rfl
  have hlive : SameLiveBut s t [entryKey (0x6808 + p) 0x11, entryKey (0x6808 + p) 0x13] := by
    rw [hteq]
    exact ((SameLiveBut.refl s _).setLive (i := 0x6808 + p) (sub := 0x11) (.num _) (by simp)).setLive (i := 0x6808 + p) (sub := 0x13) (.num s.now) (by simp)
  have haudio : (t.portEvent p 1).audio = s.audio := by rw [State.audio_portEvent, hteq]; rfl
  dsimp only
  rw [← hteq]
  have hxpo := fun o => State.xpo_each_modXpo (fun _ y => { y with transmit := slipped dr y.transmit }) (fun _ _ _ _ => rfl) o ((List.range 8).map (8 * p + ·)) (t.portEvent p 1)
    (nodup_portOutputs p)
  obtain ⟨hk, hka⟩ := State.each_modXpo_keeps (fun _ y => { y with transmit := slipped dr y.transmit }) ((List.range 8).map (8 * p + ·)) (t.portEvent p 1)
  generalize (t.portEvent p 1).each ((List.range 8).map (8 * p + ·)) (fun t o => t.modXpo o (fun y => { y with transmit := slipped dr y.transmit })) = u at hxpo hk hka
  rw [haudio] at hka
  refine ⟨t, u, rfl, hcount, htime, hframe, hlive, hk, fun k hk8 => ?_, by rw [hka], by rw [hka]⟩
  rw [hxpo, if_pos (mem_portOutputs hk8), State.xpo_of_audio haudio]

theorem slipped_spec (dr : Bool) (l : List Int) (h2 : 2 ≤ l.length) (h4 : l.length ≤ 4) :
    (slipped dr l).length = (if dr then max 2 (l.length - 1) else min 4 (l.length + 1)) ∧ ∀ x ∈ slipped dr l, x ∈ l := by
  unfold slipped
  cases dr
  · rw [if_neg Bool.false_ne_true]
    split
    · exact ⟨by simp only [Bool.false_eq_true, if_false]; omega, fun x hx => hx⟩
    · refine ⟨by simp only [List.length_cons, Bool.false_eq_true, if_false]; omega, fun x hx => ?_⟩
      rcases List.mem_cons.1 hx with rfl | hx
      · cases l with
        | nil => exact absurd h2 (by simp)
        | cons a l => exact List.mem_cons_self
      · exact hx
  · rw [if_pos rfl]
    split
    · exact ⟨by simp only [if_true]; omega, fun x hx => hx⟩
    · exact ⟨by simp only [List.length_drop, if_true]; omega, fun x hx => List.mem_of_mem_drop hx⟩

/-- A row of a fold that treats each row of a list once, by what it alone holds. -/
theorem State.row_each_modRow (f : State → XpRow → XpRow) (hf : ∀ t i g x, f (t.modRow i g) x = f t x) (k : Nat) : ∀ (l : List Nat) (s : State), l.Nodup →
    (s.each l (fun t i => t.modRow i (f t))).row k = if k ∈ l then f s (s.row k) else s.row k
  | [], s, _ => by simp [State.each]
  | i :: l, s, hl => by
    obtain ⟨hi, hl⟩ := List.nodup_cons.1 hl
    rw [State.each, State.row_each_modRow f hf k l _ hl, State.row_modRow, hf]
    by_cases hk : i = k
    · subst hk
      simp [hi]
    · have hk' : k ≠ i := fun e => hk e.symm
      simp [hk, hk']

/-- A row of the fold that begins the fade of those that carry a signal. -/
theorem State.row_each_fade (k : Nat) : ∀ (l : List Nat) (s : State), l.Nodup → k ∈ l → (s.row k).level ≠ 0 →
    ((s.each l (fun t i => if (t.row i).level = 0 then t else t.modRow i (fun r => { r with fade := 48, fadeFrom := r.level, ramp := none }))).row k) =
      { s.row k with fade := 48, fadeFrom := (s.row k).level, ramp := none }
  | [], s, _, hk, _ => absurd hk List.not_mem_nil
  | i :: l, s, hl, hk, hlev => by
    obtain ⟨hi, hl⟩ := List.nodup_cons.1 hl
    rw [State.each]
    rcases List.mem_cons.1 hk with rfl | hk
    · rw [if_neg hlev]
      have hkeep := State.each_keeps_mem (P := fun t => t.row k = { s.row k with fade := 48, fadeFrom := (s.row k).level, ramp := none }) l
        (fun t i => if (t.row i).level = 0 then t else t.modRow i (fun r => { r with fade := 48, fadeFrom := r.level, ramp := none })) (fun t n hn ht => by
          split
          · exact ht
          · rw [State.row_modRow, if_neg (show n ≠ k from fun e => hi (e ▸ hn))]
            exact ht) (s.modRow k (fun r => { r with fade := 48, fadeFrom := r.level, ramp := none }))
        (s.row_modRow_self k (fun r => { r with fade := 48, fadeFrom := r.level, ramp := none }))
      exact hkeep
    · have hne : i ≠ k := fun e => hi (e ▸ hk)
      by_cases h0 : (s.row i).level = 0
      · rw [if_pos h0]
        exact State.row_each_fade k l s hl hk hlev
      · rw [if_neg h0]
        have hrow : (s.modRow i (fun r => { r with fade := 48, fadeFrom := r.level, ramp := none })).row k = s.row k := by rw [State.row_modRow, if_neg hne]
        have h := State.row_each_fade k l (s.modRow i (fun r => { r with fade := 48, fadeFrom := r.level, ramp := none })) hl hk (by rw [hrow]; exact hlev)
        rw [hrow] at h
        exact h

theorem State.frame_fadeInputs (s : State) (p : Nat) : s.fadeInputs p = { s with audio := (s.fadeInputs p).audio } := by
  unfold State.fadeInputs
  refine State.each_keeps (P := fun t => t = { s with audio := t.audio }) _ _ (fun t i ht => ?_) _ rfl
  split
  · exact ht
  · unfold State.modRow
    rw [ht]

theorem tdmNoClock_spec {p : Nat} {s : State} (hs : s.serving = true) (hp : p < s.dies) (ht : s.tdmState p = 1) (h2 : s.use (0x6808 + p) 2 ≠ 1) :
    ∃ t : State, exec (.tdmNoClock p) s = .next (t.portEvent p 2) ∧ t.tdmState p = 2 ∧ t = { s with live := t.live, audio := t.audio } ∧ SameLiveBut s t [entryKey (0x6808 + p) 0xF] ∧
      ∀ k, k < 8 → (s.row (8 * p + k)).level ≠ 0 → (t.row (8 * p + k)).fade = 48 ∧ (t.row (8 * p + k)).fadeFrom = (s.row (8 * p + k)).level := by
  have hx : exec (.tdmNoClock p) s = execTdmNoClock p s := rfl
  rw [hx, execTdmNoClock, if_neg (by simp [*])]
  have hframe := s.frame_fadeInputs p
  have hrow := fun k hk => State.row_each_fade (8 * p + k) _ s (nodup_portOutputs p) (mem_portOutputs (p := p) (k := k) hk)
  obtain ⟨u, hu⟩ : ∃ u, u = s.fadeInputs p := ⟨_, rfl⟩
  rw [← hu] at hframe ⊢
  refine ⟨_, rfl, State.reg_setReg_self _ _ _ _, ?_, ?_, fun k hk hlev => ?_⟩
  · show ({ u with live := (u.setReg (0x6808 + p) 0xF 2).live } : State) = { s with live := (u.setReg (0x6808 + p) 0xF 2).live, audio := u.audio }
    generalize (u.setReg (0x6808 + p) 0xF 2).live = l
    generalize u.audio = a at hframe
    rw [hframe]
  · have hul : u.live = s.live ∧ u.part = s.part ∧ u.grade = s.grade := by rw [hframe]; exact ⟨rfl, rfl, rfl⟩
    exact (SameLiveBut.of_live hul.1 hul.2.1 hul.2.2).setLive (i := 0x6808 + p) (sub := 0xF) (.num (2 : Nat)) (by simp)
  · have h : (u.setReg (0x6808 + p) 0xF 2).row (8 * p + k) = { s.row (8 * p + k) with fade := 48, fadeFrom := (s.row (8 * p + k)).level, ramp := none } := by
      rw [State.row_setReg, ← hrow k hk hlev, hu]
      rfl
    rw [h]
    exact ⟨rfl, rfl⟩

theorem tdmClockRestored_elsewhere {p : Nat} {s : State} (h : s.serving = false ∨ s.tdmState p ≠ 2) : exec (.tdmClockRestored p) s = .next s := by
  have hx : exec (.tdmClockRestored p) s = execTdmClockRestored p s := rfl
  rw [hx, execTdmClockRestored, if_pos (by rcases h with h | h <;> simp [h])]

theorem State.frame_each_modRow (f : State → XpRow → XpRow) (l : List Nat) (s : State) :
    s.each l (fun t i => t.modRow i (f t)) = { s with audio := (s.each l (fun t i => t.modRow i (f t))).audio } := by
  refine State.each_keeps (P := fun t => t = { s with audio := t.audio }) _ _ (fun t i ht => ?_) _ rfl
  unfold State.modRow
  rw [ht]

theorem tdmClockRestored_spec {p : Nat} {s : State} (hs : s.serving = true) (ht : s.tdmState p = 2) :
    ∃ t : State, exec (.tdmClockRestored p) s = .next (t.portEvent p 3) ∧ t.tdmState p = 1 ∧ t = { s with live := t.live, audio := t.audio } ∧
    SameLiveBut s t [entryKey (0x6808 + p) 0xF] ∧ ∀ k, k < 8 → (t.row (8 * p + k)).fade = 0 ∧ (t.row (8 * p + k)).ramp = some (rampOver none (some 0) s.rampSamples) := by
  have hx : exec (.tdmClockRestored p) s = execTdmClockRestored p s := rfl
  rw [hx, execTdmClockRestored, if_neg (by simp [*])]
  have hframe := State.frame_each_modRow (fun t r => { r with fade := 0, ramp := some (rampOver none (some 0) t.rampSamples) }) ((List.range 8).map (8 * p + ·)) s
  have hrow := fun k => State.row_each_modRow (fun t r => { r with fade := 0, ramp := some (rampOver none (some 0) t.rampSamples) }) (fun _ _ _ _ => rfl) k
    ((List.range 8).map (8 * p + ·)) s (nodup_portOutputs p)
  dsimp only
  generalize s.each ((List.range 8).map (8 * p + ·)) (fun t i => t.modRow i (fun r => { r with fade := 0, ramp := some (rampOver none (some 0) t.rampSamples) })) = u at hframe hrow ⊢
  refine ⟨_, rfl, State.reg_setReg_self _ _ _ _, ?_, ?_, fun k hk => ?_⟩
  · show ({ u with live := (u.setReg (0x6808 + p) 0xF 1).live } : State) = { s with live := (u.setReg (0x6808 + p) 0xF 1).live, audio := u.audio }
    generalize (u.setReg (0x6808 + p) 0xF 1).live = l
    generalize u.audio = a at hframe
    rw [hframe]
  · have hul : u.live = s.live ∧ u.part = s.part ∧ u.grade = s.grade := by rw [hframe]; exact ⟨rfl, rfl, rfl⟩
    exact (SameLiveBut.of_live hul.1 hul.2.1 hul.2.2).setLive (i := 0x6808 + p) (sub := 0xF) (.num (1 : Nat)) (by simp)
  · have h : (u.setReg (0x6808 + p) 0xF 1).row (8 * p + k) = { s.row (8 * p + k) with fade := 0, ramp := some (rampOver none (some 0) s.rampSamples) } := by
      rw [State.row_setReg, hrow, if_pos (mem_portOutputs hk)]
    rw [h]
    exact ⟨rfl, rfl⟩

end Sys2Proof.Machine
end

section
/-! PROOF about the audio crosspoint's buffers and streams (R541 to R543). -/
set_option Elab.async false
namespace Sys2Proof.Machine

/-! ### Samples -/

theorem signedOf_bounds (w v : Nat) : -((2 ^ w : Nat) : Int) ≤ 2 * signedOf w v ∧ 2 * signedOf w v ≤ ((2 ^ w : Nat) : Int) - 1 ∨ w = 0 := by
  rcases Nat.eq_zero_or_pos w with h | h
  · exact Or.inr h
  · left
    obtain ⟨n, rfl⟩ : ∃ n, w = n + 1 := ⟨w - 1, by omega⟩
    have hlt : v % 2 ^ (n + 1) < 2 ^ (n + 1) := Nat.mod_lt _ (by positivity)
    have hp : 2 ^ (n + 1) = 2 * 2 ^ n := by ring
    unfold signedOf
    rw [Nat.add_sub_cancel]
    generalize v % 2 ^ (n + 1) = x at hlt
    generalize 2 ^ (n + 1) = y at hlt hp
    generalize 2 ^ n = k at hp
    split <;> omega

theorem audioSamples_spec (f : Nat) (bs : List Byte) :
    (audioSamples f bs).length = bs.length / (if f = 1 then 2 else 4) ∧ ∀ x ∈ audioSamples f bs, -8388608 ≤ x ∧ x ≤ 8388607 := by
  unfold audioSamples
  by_cases h : f = 1
  · rw [if_pos h, if_pos h]
    refine ⟨by simp, fun x hx => ?_⟩
    obtain ⟨k, -, rfl⟩ := List.mem_map.1 hx
    rcases signedOf_bounds 16 (field bs (2 * k) 2) with ⟨h1, h2⟩ | h0
    · norm_num at h1 h2
      omega
    · exact absurd h0 (by decide)
  · rw [if_neg h, if_neg h]
    refine ⟨by simp, fun x hx => ?_⟩
    obtain ⟨k, -, rfl⟩ := List.mem_map.1 hx
    rcases signedOf_bounds 24 (field bs (4 * k + 1) 3) with ⟨h1, h2⟩ | h0
    · norm_num at h1 h2
      omega
    · exact absurd h0 (by decide)

/-! ### Buffers join their stream -/

theorem audioEntry_fails {e : Entry} {op a l f bf st : Nat} {z : Bool} {host : List Byte} {s : State} (h : s.canFetch e 3 = false) :
    exec (.buffer e op a l f bf st z host) s = .next (s.fetchFails e 3) ∧ exec (.audioStop e z) s = .next (s.fetchFails e 3) := by
  have hg : (!s.canFetch e 3) = true := by simp [h]
  exact ⟨if_pos hg, if_pos hg⟩

theorem buffer_malformed {e : Entry} {op a l f bf st : Nat} {z : Bool} {host : List Byte} {s : State} (hf : s.canFetch e 3 = true)
    (h : op ≠ 1 ∨ 1 < e.flags ∨ z = false ∨ f = 0 ∨ 3 < f ∨ 1 < bf ∨ l < 4 ∨ 16777216 < l ∨ l % (if f = 1 then 2 else 4) ≠ 0) :
    exec (.buffer e op a l f bf st z host) s = .next ((s.fetched e).stopQueue e.inst e.q Status.range) := by
  have hx : exec (.buffer e op a l f bf st z host) s = execBuffer e op a l f bf st z host s := rfl
  rw [hx, execBuffer, if_neg (by simp [hf]), if_pos]
  simpa [entryFlagsOk] using h

theorem buffer_joins {e : Entry} {a l f bf st n : Nat} {host : List Byte} {s : State} (hf : s.canFetch e 3 = true) (hfl : e.flags ≤ 1) (h1 : 1 ≤ f) (h3 : f ≤ 3)
    (hbf : bf ≤ 1) (hl4 : 4 ≤ l) (hlm : l ≤ 16777216) (hlr : l % (if f = 1 then 2 else 4) = 0) (hn : n = (s.sq e.inst e.q).target - 64) :
    ∃ (t : State) (b : AudioBuffer), exec (.buffer e 1 a l f bf st true host) s = .next t ∧ (t.stream n).buffers = (s.stream n).buffers ++ [b] ∧
      b.inst = e.inst ∧ b.q = e.q ∧ b.tag = e.tag ∧ b.completion = bit e.flags 0 ∧ b.start = st ∧ b.size = (if f = 1 then 2 else 4) ∧ b.consumed = (s.sq e.inst e.q).progress / b.size ∧ b.started = decide (b.consumed ≠ 0) ∧ b.late = decide (st ≠ 0 ∧ st < s.now) ∧
      (bf = 1 → b.samples = audioSamples f ((s.fetched e).readIda (BusSource.audio.serving s.trunk e.inst) a l)) ∧ (bf = 0 → l ≤ host.length → b.samples = audioSamples f (host.take l)) ∧
      (t.sq e.inst e.q).progress = 0 ∧ t = { s with insts := t.insts, audio := t.audio } := by
  have hx : exec (.buffer e 1 a l f bf st true host) s = execBuffer e 1 a l f bf st true host s := rfl
  unfold execBuffer at hx
  rw [if_neg (by simp [hf])] at hx
  extract_lets s1 size raw before b at hx
  rw [if_neg (by simp [entryFlagsOk, hfl, hlr, size]; omega)] at hx
  refine ⟨_, b, hx, ?_, rfl, rfl, rfl, rfl, rfl, rfl, rfl, rfl, rfl, fun h => ?_, fun h hlen => ?_, ?_, rfl⟩
  · rw [State.stream_modStream, if_pos hn.symm]
    rfl
  · show audioSamples f raw = _
    simp only [raw]
    rw [if_pos h]
  · show audioSamples f raw = _
    simp only [raw]
    rw [if_neg (by omega), List.take_append_of_le_length hlen]
  · exact congrArg Sq.progress (s1.modSq_keeps e.inst e.q (fun q => { q with progress := 0 })).1

/-! ### STOP -/

theorem audioStop_spec {e : Entry} {z : Bool} {s : State} (hf : s.canFetch e 3 = true) :
    (1 < e.flags ∨ z = false → exec (.audioStop e z) s = .next ((s.fetched e).stopQueue e.inst e.q Status.range)) ∧
    (e.flags ≤ 1 → z = true →
      exec (.audioStop e z) s = .next (((s.fetched e).stopStream ((s.sq e.inst e.q).target - 64)).endEntry e.inst e.q e.tag (bit e.flags 0) Status.ok)) := by
  have hx : exec (.audioStop e z) s = execAudioStop e z s := rfl
  rw [hx, execAudioStop, if_neg (by simp [hf])]
  refine ⟨fun h => if_pos (by simpa [entryFlagsOk] using h), fun hfl hz => ?_⟩
  rw [if_neg (by simp [entryFlagsOk, hfl, hz])]
  rfl

theorem State.stream_of_audio {s t : State} (h : t.audio = s.audio) (n : Nat) : t.stream n = s.stream n := by
  unfold State.stream
  rw [h]

theorem State.audio_endBuffer (s : State) (b : AudioBuffer) (status : Nat) : (s.endBuffer b status).audio = s.audio :=
  (State.endBuffer_eff s b status (Eff.refl 17593261891712 s) rfl).audio_eq

theorem State.audio_streamEvent (s : State) (n reason tag : Nat) : (s.streamEvent n reason tag).audio = s.audio := State.audio_event _ _ _ _ _ _ _ _

theorem State.audio_endBuffers (status : Nat) : ∀ (l : List AudioBuffer) (s : State), (l.foldl (fun t b => t.endBuffer b status) s).audio = s.audio
  | [], _ => rfl
  | b :: l, s => (State.audio_endBuffers status l (s.endBuffer b status)).trans (s.audio_endBuffer b status)

theorem stopStream_audio (n : Nat) (s : State) : ∃ tag, ∀ m, (s.stopStream n).stream m = if n = m then
    { s.stream n with
      buffers := (s.stream n).buffers.filter (fun b => !b.started), playing := false, fade := if (s.stream n).last = 0 then 0 else 48
      fadeFrom := (s.stream n).last, tag := tag } else s.stream m := by
  unfold State.stopStream
  extract_lets st on tag s1
  refine ⟨tag, fun m => ?_⟩
  have hfold := State.audio_endBuffers Status.aborted on s
  have hs1 : s1.stream m = if n = m then
    { s.stream n with
      buffers := (s.stream n).buffers.filter (fun b => !b.started), playing := false, fade := if (s.stream n).last = 0 then 0 else 48
      fadeFrom := (s.stream n).last, tag := tag } else s.stream m := by
    simp only [s1]
    rw [State.stream_modStream, State.stream_of_audio hfold]
    split
    · rename_i h
      rw [← h]
    · rfl
  split
  · exact hs1
  · rw [State.stream_of_audio (State.audio_streamEvent _ _ _ _)]
    exact hs1

theorem stopStream_spec (n : Nat) (s : State) : ((s.stopStream n).stream n).buffers = (s.stream n).buffers.filter (fun b => !b.started) ∧
    ((s.stopStream n).stream n).playing = false ∧ ((s.stopStream n).stream n).fade = (if (s.stream n).last = 0 then 0 else 48) ∧
    ((s.stream n).buffers.all (fun b => !b.started) = true → (s.stopStream n).out = s.out ∧ (s.stopStream n).insts = s.insts) ∧
    ((s.stopStream n).stream n).fadeFrom = (s.stream n).last ∧ ∀ k, k ≠ n → (s.stopStream n).stream k = s.stream k := by
  obtain ⟨tag, h⟩ := stopStream_audio n s
  have hn := h n
  rw [if_pos rfl] at hn
  rw [hn]
  refine ⟨rfl, rfl, rfl, fun hall => ?_, rfl, fun k hk => by rw [h k, if_neg (Ne.symm hk)]⟩
  have hon : (s.stream n).buffers.filter (·.started) = [] := by
    rw [List.filter_eq_nil_iff]
    intro b hb hst
    have hb' := List.all_eq_true.1 hall b hb
    rw [hst] at hb'
    exact Bool.false_ne_true hb'
  unfold State.stopStream
  dsimp only
  rw [hon, if_pos rfl]
  exact ⟨rfl, rfl⟩

/-! ### A sample of a stream -/

theorem State.stream_modStream_self (s : State) (n : Nat) (f : AudioStream → AudioStream) : (s.modStream n f).stream n = f (s.stream n) := by
  rw [State.stream_modStream, if_pos rfl]

theorem streamPlay_waits {n prev : Nat} {b : AudioBuffer} {rest : List AudioBuffer} {s : State} (hh : (s.stream n).held = false) (hfade : (s.stream n).fade = 0)
    (hb : (s.stream n).buffers = b :: rest) (hs : b.started = false) (hn : s.now < b.start) :
    s.streamPlay n prev = (0, s.modStream n (fun x => { x with playing := false })) := by
  unfold State.streamPlay
  dsimp only
  rw [if_neg (show ¬ (s.stream n).held = true by rw [hh]; exact Bool.false_ne_true), if_neg (show ¬ 0 < (s.stream n).fade by omega), hb]
  dsimp only
  rw [if_pos ⟨by simp [hs], hn⟩]

theorem streamPlay_plays {n prev : Nat} {b : AudioBuffer} {rest : List AudioBuffer} {s : State} (hh : (s.stream n).held = false) (hfade : (s.stream n).fade = 0)
    (hb : (s.stream n).buffers = b :: rest) (hs : b.started = true ∨ b.start ≤ s.now) : ∃ c : AudioBuffer, c.started = true ∧ c.consumed = b.consumed + 1 ∧ c.samples = b.samples ∧
    (s.streamPlay n prev).1 = b.samples.getD b.consumed 0 ∧ (s.streamPlay n prev).2.stream n =
      { s.stream n with buffers := if decide (b.samples.length ≤ b.consumed + 1) then rest else c :: rest, playing := true, tag := b.tag } := by
  unfold State.streamPlay
  dsimp only
  rw [if_neg (show ¬ (s.stream n).held = true by rw [hh]; exact Bool.false_ne_true), if_neg (show ¬ 0 < (s.stream n).fade by omega), hb]
  dsimp only
  rw [if_neg (by rcases hs with h | h <;> simp [h])]
  generalize (if b.started = true then b.late else b.late || decide (b.start ≠ 0 ∧ b.start ≤ prev)) = late
  generalize decide (b.samples.length ≤ b.consumed + 1) = done
  refine ⟨{ b with started := true, late := late, consumed := b.consumed + 1 }, rfl, rfl, rfl, rfl, ?_⟩
  have hs1 := s.stream_modStream_self n (fun x => { x with
    buffers := if done then rest else { b with started := true, late := late, consumed := b.consumed + 1 } :: rest, playing := true, tag := b.tag })
  generalize s.modStream n (fun x => { x with
    buffers := if done then rest else { b with started := true, late := late, consumed := b.consumed + 1 } :: rest, playing := true, tag := b.tag }) = s1 at hs1 ⊢
  have hs2 : (if (s.stream n).playing = true then s1 else s1.streamEvent n 1 b.tag).audio = s1.audio := by
    split
    · rfl
    · exact State.audio_streamEvent _ _ _ _
  generalize (if (s.stream n).playing = true then s1 else s1.streamEvent n 1 b.tag) = s2 at hs2 ⊢
  refine (State.stream_of_audio ?_ n).trans hs1
  split
  · exact (State.audio_endBuffer _ _ _).trans hs2
  · exact hs2

theorem streamPlay_spec (n prev : Nat) (b : AudioBuffer) (rest : List AudioBuffer) (s : State) (hh : (s.stream n).held = false) (hfade : (s.stream n).fade = 0)
    (hb : (s.stream n).buffers = b :: rest) :
    (b.started = false → s.now < b.start → (s.streamPlay n prev).1 = 0 ∧ ((s.streamPlay n prev).2.stream n).buffers = b :: rest ∧ ((s.streamPlay n prev).2.stream n).playing = false) ∧
    (b.started = true ∨ b.start ≤ s.now → (s.streamPlay n prev).1 = b.samples.getD b.consumed 0 ∧ ((s.streamPlay n prev).2.stream n).playing = true ∧
      (b.samples.length ≤ b.consumed + 1 → ((s.streamPlay n prev).2.stream n).buffers = rest) ∧
      (b.consumed + 1 < b.samples.length → ∃ c, ((s.streamPlay n prev).2.stream n).buffers = c :: rest ∧ c.started = true ∧ c.consumed = b.consumed + 1 ∧ c.samples = b.samples)) := by
  constructor
  · intro hs hn
    rw [streamPlay_waits hh hfade hb hs hn]
    dsimp only
    rw [State.stream_modStream_self s n (fun x => { x with playing := false })]
    exact ⟨rfl, hb, rfl⟩
  · intro hs
    obtain ⟨c, h1, h2, h3, hv, hst⟩ := streamPlay_plays (prev := prev) hh hfade hb hs
    rw [hst]
    refine ⟨hv, rfl, fun h => if_pos (decide_eq_true h), fun h => ⟨c, if_neg ?_, h1, h2, h3⟩⟩
    rw [decide_eq_false (by omega)]
    exact Bool.false_ne_true

end Sys2Proof.Machine
end

section
/-! PROOF about the audio crosspoint's sample period, its outputs and slots, silence and the amplifiers (R536, R540, R549, R550), and of the obligation. -/
set_option Elab.async false
namespace Sys2Proof.Machine

/-! ### An output's sample -/

theorem State.transmit_modXpo (s : State) (o : Nat) (f : XpOutput → XpOutput) (h : (f (s.xpo o)).transmit = (s.xpo o).transmit) :
    ((s.modXpo o f).xpo o).transmit = (s.xpo o).transmit := by
  rw [State.xpo_modXpo_self, h]

theorem State.transmit_duckStep (s : State) (o : Nat) (x : Rat) : ((s.duckStep o x).2.xpo o).transmit = (s.xpo o).transmit :=
  s.transmit_modXpo o (fun y => { y with duck := _, duckPeaks := _ }) rfl

theorem State.transmit_limitStep (s : State) (o : Nat) (x : Rat) : ((s.limitStep o x).2.xpo o).transmit = (s.xpo o).transmit := by
  unfold State.limitStep
  extract_lets i thr m exact_ need r k q r1 s1
  have hs1 : (s1.xpo o).transmit = (s.xpo o).transmit := s.transmit_modXpo o (fun y => { y with reduction := r1 }) rfl
  split
  · exact s.transmit_modXpo o (fun y => { y with reduction := 0 }) rfl
  · dsimp only
    split
    · exact hs1
    · exact hs1

theorem State.transmit_judgeOutput (s : State) (o : Nat) (x : Rat) : ((s.judgeOutput o x).xpo o).transmit = (s.xpo o).transmit := by
  unfold State.judgeOutput
  extract_lets m xs loud s1
  have hs1 : (s1.xpo o).transmit = (s.xpo o).transmit :=
    s.transmit_modXpo o (fun r => { r with peaks := xs, loudAt := if loud then s.now else r.loudAt }) rfl
  split
  · have ha : ((s1.setReg (0x6A00 + o) 0x11 0).silenceEvent (128 + o) 2).audio = (s1.setReg (0x6A00 + o) 0x11 0).audio :=
      (State.silenceEvent_eff (s1.setReg (0x6A00 + o) 0x11 0) (128 + o) 2 (Eff.refl 17593261891712 _) rfl).audio_eq
    rw [State.xpo_of_audio ha]
    exact hs1
  · exact hs1

theorem State.transmit_muteStep (s : State) (o : Nat) (x : Rat) : ((s.muteStep o x).2.xpo o).transmit = (s.xpo o).transmit := by
  unfold State.muteStep
  split
  · rfl
  · rename_i r hr
    rw [State.xpo_modXpo_self]
    split
    · rfl
    · split <;> rfl

theorem State.transmit_pilotStep (s : State) (o : Nat) : ((s.pilotStep o).2.xpo o).transmit = (s.xpo o).transmit := by
  unfold State.pilotStep
  extract_lets live want x x1 g gone v
  split
  · rfl
  · refine (congrArg XpOutput.transmit (s.xpo_modXpo_self o (fun _ => { x1 with pilotAt := x1.pilotAt + 1, pilot := x1.pilot.bind Ramp.next }))).trans ?_
    show x1.transmit = x.transmit
    simp only [x1]
    repeat' split
    all_goals rfl

theorem State.xpo_transmit (s : State) (o : Nat) (z : Int) : (s.transmit o z).xpo o = { s.xpo o with transmit := (s.xpo o).transmit.drop 1 ++ [z] } :=
  s.xpo_modXpo_self o (fun y => { y with transmit := y.transmit.drop 1 ++ [z] })

theorem outputStep_gated {o : Nat} {s : State} (h : bit (s.reg 0x6800 8) (o / 8) = true) :
    ((s.outputStep o).xpo o).tap = 0 ∧ ((s.outputStep o).xpo o).transmit = (s.xpo o).transmit.drop 1 ++ [0] := by
  unfold State.outputStep
  rw [if_pos h, State.xpo_transmit, State.xpo_modXpo_self]
  exact ⟨rfl, rfl⟩

theorem outputStep_sends {o : Nat} {s : State} (h : bit (s.reg 0x6800 8) (o / 8) = false) :
    ∃ z : Int, -8388607 ≤ z ∧ z ≤ 8388607 ∧ ((s.outputStep o).xpo o).transmit = (s.xpo o).transmit.drop 1 ++ [z] := by
  unfold State.outputStep
  rw [if_neg (by rw [h]; exact Bool.false_ne_true)]
  extract_lets s1 d l s2 line m p
  have hd : (d.2.xpo o).transmit = (s.xpo o).transmit := s1.transmit_duckStep o (s1.equalise o (s.mixOf o))
  clear_value d
  have hl : (l.2.xpo o).transmit = (s.xpo o).transmit := (d.2.transmit_limitStep o d.1).trans hd
  clear_value l
  have hs2 : (s2.xpo o).transmit = (s.xpo o).transmit := (l.2.transmit_judgeOutput o l.1).trans hl
  clear_value s2
  have hm : (m.2.xpo o).transmit = (s.xpo o).transmit :=
    (State.transmit_muteStep _ o _).trans ((s2.transmit_modXpo o (fun y => { y with line := line, eqRamp := y.eqRamp - 1 }) rfl).trans hs2)
  clear_value m
  have hp : (p.2.xpo o).transmit = (s.xpo o).transmit :=
    (State.transmit_pilotStep _ o).trans ((m.2.transmit_modXpo o (fun y => { y with tap := m.1 }) rfl).trans hm)
  clear_value p
  obtain ⟨h1, h2, -⟩ := clampInt_spec (lo := -8388607) (hi := 8388607) (by decide) (roundRat (m.1 + p.1) (Config.freeBool p.2.free))
  refine ⟨_, h1, h2, ?_⟩
  rw [← hp]
  exact congrArg XpOutput.transmit (p.2.xpo_transmit o (clampInt (-8388607) 8388607 (roundRat (m.1 + p.1) (Config.freeBool p.2.free))))

/-- A sum clamped at each step lies within its bounds. -/
theorem foldl_bounded {α : Type} {lo hi : Int} (f : Int → α → Int) (hf : ∀ a r, lo ≤ a ∧ a ≤ hi → lo ≤ f a r ∧ f a r ≤ hi) :
    ∀ (l : List α) (a : Int), lo ≤ a ∧ a ≤ hi → lo ≤ l.foldl f a ∧ l.foldl f a ≤ hi
  | [], _, h => h
  | r :: l, a, h => foldl_bounded f hf l (f a r) (hf a r h)

theorem mixOf_bounds (o : Nat) (s : State) : -(2 ^ 47) ≤ s.mixOf o ∧ s.mixOf o ≤ 2 ^ 47 - 1 := by
  refine foldl_bounded _ (fun a r h => ?_) _ _ (by decide)
  cases s.nodeGain r.1 o with
  | none => exact h
  | some g =>
    obtain ⟨h1, h2, -⟩ := clampInt_spec (lo := -(2 ^ 47)) (hi := 2 ^ 47 - 1) (by decide) (a + alignProduct (scaleBy r.2.level g) (bit (Config.freeNat s.free) r.1))
    exact ⟨h1, h2⟩

/-! ### What the slots carry -/

theorem slotWord_two_periods {o : Nat} {a b c : Int} {s : State} (h : ¬ (s.use (0x6808 + o / 8) 7 = 2 ∧ s.use (0x6808 + o / 8) 9 = o % 8))
    (h3 : (s.xpo o).transmit.length = 3) : (((s.transmit o a).transmit o b).transmit o c).slotWord o = a := by
  refine (if_neg h).trans ?_
  rw [State.xpo_transmit, State.xpo_transmit, State.xpo_transmit]
  match hl : (s.xpo o).transmit, h3 with
  | [x, y, z], _ => rfl

theorem mem_sendFrame (o : Nat) (s : State) : (o, s.slotWord o) ∈ s.sendFrame.audio.sent ↔ o < 64 ∧ o / 8 < s.dies ∧ s.tdmState (o / 8) = 1 := by
  show (o, s.slotWord o) ∈ ((List.range 64).filter (fun o => decide (o / 8 < s.dies ∧ s.tdmState (o / 8) = 1))).map (fun o => (o, s.slotWord o)) ↔ _
  simp only [List.mem_map, List.mem_filter, List.mem_range, decide_eq_true_eq, Prod.mk.injEq]
  constructor
  · rintro ⟨x, hx, rfl, -⟩
    exact hx
  · exact fun h => ⟨o, h, rfl, rfl⟩

/-! ### The sample period -/

theorem samplePeriod_elsewhere {rx : List (Nat × Int)} {s : State} (h : s.serving = false) : exec (.samplePeriod rx) s = .next s := by
  have hx : exec (.samplePeriod rx) s = execSamplePeriod rx s := rfl
  rw [hx, execSamplePeriod, if_pos (by simp [h])]

theorem State.silentPeriod_spec (s : State) : s.silentPeriod = { s with audio := s.silentPeriod.audio } ∧
    ∀ o, o < 64 → (s.silentPeriod.xpo o).transmit = (s.xpo o).transmit.drop 1 ++ [0] := by
  have hxpo := fun o => State.xpo_each_modXpo (fun _ y => { y with transmit := y.transmit.drop 1 ++ [0] }) (fun _ _ _ _ => rfl) o (List.range 64) s List.nodup_range
  obtain ⟨hk, -⟩ := State.each_modXpo_keeps (fun _ y => { y with transmit := y.transmit.drop 1 ++ [0] }) (List.range 64) s
  obtain ⟨u, hu⟩ : ∃ u, u = s.each (List.range 64) (fun t o => t.transmit o 0) := ⟨_, rfl⟩
  have hux : ∀ o, u.xpo o = if o ∈ List.range 64 then { s.xpo o with transmit := (s.xpo o).transmit.drop 1 ++ [0] } else s.xpo o := by
    intro o
    rw [hu]
    exact hxpo o
  have huk : u = { s with audio := u.audio } := by
    rw [hu]
    exact hk
  have hsilent : s.silentPeriod = u.sendFrame := by
    rw [hu]
    rfl
  rw [hsilent]
  refine ⟨?_, fun o ho => ?_⟩
  · unfold State.sendFrame
    rw [huk]
  · show (u.xpo o).transmit = _
    rw [hux, if_pos (List.mem_range.2 ho)]

theorem samplePeriod_succession {rx : List (Nat × Int)} {s : State} (h : s.serving = true) (hs : s.health.succession = true) :
    ∃ t : State, exec (.samplePeriod rx) s = .next t ∧ t.reg 0x6800 7 = s.now ∧ t.reg 0x6800 6 = s.reg 0x6800 6 + 1 ∧
    (∀ o, o < 64 → (t.xpo o).transmit = (s.xpo o).transmit.drop 1 ++ [0]) ∧ t = { s with live := t.live, audio := t.audio } := by
  have hx : exec (.samplePeriod rx) s = execSamplePeriod rx s := rfl
  rw [hx, execSamplePeriod, if_neg (by simp [h])]
  dsimp only
  rw [if_pos hs]
  obtain ⟨u, hu⟩ : ∃ u, u = (s.setReg 0x6800 7 s.now).setReg 0x6800 6 (s.reg 0x6800 6 + 1) := ⟨_, rfl⟩
  have h7 : u.reg 0x6800 7 = s.now := by rw [hu, State.reg_setReg_of_ne _ _ _ _ _ _ (by decide), State.reg_setReg_self]
  have h6 : u.reg 0x6800 6 = s.reg 0x6800 6 + 1 := by rw [hu, State.reg_setReg_self]
  have hframe : u = { s with live := u.live } := by rw [hu]; rfl
  have hxpo : ∀ o, u.xpo o = s.xpo o := fun o => by rw [hu]; rfl
  rw [← hu]
  clear hu
  obtain ⟨hk, ht⟩ := u.silentPeriod_spec
  generalize u.silentPeriod = t at hk ht
  have hreg : ∀ j k, t.reg j k = u.reg j k := fun j k => by rw [hk]; rfl
  refine ⟨t, rfl, by rw [hreg, h7], by rw [hreg, h6], fun o ho => by rw [ht o ho, hxpo], ?_⟩
  have hlive : t.live = u.live := by rw [hk]
  rw [hlive]
  generalize t.audio = a at hk
  generalize u.live = l at hframe
  rw [hk, hframe]

theorem samplePeriod_runs {rx : List (Nat × Int)} {s u w x y : State} (h : s.serving = true) (hs : s.health.succession = false)
    (hu : u = (if s.active.filter (fun e => isAudioIndex (e.1 / 256)) = s.taken.filter (fun e => isAudioIndex (e.1 / 256)) then (s.setReg 0x6800 7 s.now).setReg 0x6800 6 (s.reg 0x6800 6 + 1)
      else ((s.setReg 0x6800 7 s.now).setReg 0x6800 6 (s.reg 0x6800 6 + 1)).audioUptake))
    (hw : w = u.each ((Tab.keys u.audio.rows).filter (fun i => (u.row i).pending.any (fun (k : Nat) => decide (k ≤ u.now)))) (fun t i => t.swapRow i ((t.row i).pending.getD 0) false))
    (hx' : x = w.takeInputs (s.reg 0x6800 7) rx (List.range 128)) (hy : y = ((x.each (List.range 64) (fun t o => t.outputStep o)).advanceRamps.switchClock).judgeAmps) :
    exec (.samplePeriod rx) s = .next (if w.audio.lostZero then ({ w with audio := { w.audio with lostZero := false } } : State).outputsFromMute.silentPeriod
      else (y.setReg 0x6800 8 (((List.range 8).filter (fun q => y.sectionGated q)).foldl (fun (v q : Nat) => v + 2 ^ q) 0)).sendFrame.reportAmps) := by
  have hx : exec (.samplePeriod rx) s = execSamplePeriod rx s := rfl
  rw [hx, execSamplePeriod, if_neg (by simp [h])]
  extract_lets prev s1 s2 due s3
  rw [if_neg (show ¬ s.health.succession = true by rw [hs]; exact Bool.false_ne_true)]
  have h2 : s2 = u := hu.symm
  have h3 : s3 = w := by
    rw [hw, ← h2]
  clear_value s3 s2
  subst h3
  rw [hy, hx']
  split <;> rfl

/-! ### Silence and the amplifiers -/

theorem silenceHoldExpiry_elsewhere {n : Nat} {s : State}
    (h : s.serving = false ∨ 192 ≤ n ∨ s.reg (if n < 128 then 0x6900 + n else 0x6A00 + (n - 128)) (if n < 128 then 0x48 else 0x11) = 1) :
    exec (.silenceHoldExpiry n) s = .next s := by
  have hx : exec (.silenceHoldExpiry n) s = execSilenceHoldExpiry n s := rfl
  rw [hx, execSilenceHoldExpiry]
  by_cases hg : s.serving = false ∨ 192 ≤ n
  · rw [if_pos (by rcases hg with h | h <;> simp [h])]
  · have h1 : s.reg (if n < 128 then 0x6900 + n else 0x6A00 + (n - 128)) (if n < 128 then 0x48 else 0x11) = 1 := by
      rcases h with h | h | h
      · exact absurd (Or.inl h) hg
      · exact absurd (Or.inr h) hg
      · exact h
    split
    · rfl
    · exact if_pos h1

theorem silenceHoldExpiry_silences {n i k at_ : Nat} {s : State} (hs : s.serving = true) (hn : n < 192) (hi : i = (if n < 128 then 0x6900 + n else 0x6A00 + (n - 128)))
    (hk : k = (if n < 128 then 0x48 else 0x11)) (hr : s.reg i k ≠ 1)
    (hat : at_ = (if n < 128 then (s.row n).loudAt + ms (s.use i 0x47) else (s.xpo (n - 128)).loudAt + ms (s.use i 0xF))) :
    ∃ t : State, exec (.silenceHoldExpiry n) s = .next (t.silenceEvent n 1).judgeAmps ∧ t.reg i k = 1 ∧ t.now = max s.now at_ ∧ t = { s with now := t.now, clock := t.clock, live := t.live } ∧
      SameLiveBut s t [entryKey i k] := by
  have hx : exec (.silenceHoldExpiry n) s = execSilenceHoldExpiry n s := rfl
  rw [hx, execSilenceHoldExpiry, if_neg (by simp [hs, hn])]
  dsimp only
  rw [← hi, ← hk, if_neg hr]
  have hat' : (if n < 128 then (s.row n).loudAt else (s.xpo (n - 128)).loudAt) + ms (s.use i (if n < 128 then 0x47 else 0xF)) = at_ := by
    rw [hat]
    split <;> rfl
  rw [hat']
  exact ⟨(s.arriveAt at_).setReg i k 1, rfl, State.reg_setReg_self _ _ _ _, rfl, rfl,
    (SameLiveBut.of_live (s := s) (t := s.arriveAt at_) rfl rfl rfl).setLive (i := i) (sub := k) (.num (1 : Nat)) (by simp)⟩

theorem setAmp_same {p : Nat} {on : Bool} {s : State} (h : s.reg (0x6808 + p) 0x10 = ofBool on) : s.setAmp p on = s := if_pos h

theorem setAmp_changes {p : Nat} {on : Bool} {s : State} (h : s.reg (0x6808 + p) 0x10 ≠ ofBool on) :
    ∃ t : State, s.setAmp p on = t.event 0 0x54 p Status.ok p (if on then 1 else 2) (t.reg (0x6808 + p) 0x12) ∧ t.reg (0x6808 + p) 0x10 = ofBool on ∧
      t.reg (0x6808 + p) 0x12 = satAdd (entryBits (0x6808 + p) 0x12) (s.reg (0x6808 + p) 0x12) 1 ∧ t = { s with live := t.live, pins := t.pins } ∧
      (s.use (0x6808 + p) 7 = 1 → s.use (0x6808 + p) 8 < 32 → Tab.getD t.pins.gpio (s.use (0x6808 + p) 8) false = on) := by
  unfold State.setAmp
  rw [if_neg h]
  obtain ⟨u, hu⟩ : ∃ u, u = (s.setReg (0x6808 + p) 0x10 (ofBool on)).inc (0x6808 + p) 0x12 := ⟨_, rfl⟩
  have h10 : u.reg (0x6808 + p) 0x10 = ofBool on := by
    rw [hu]
    exact (State.reg_setReg_of_ne _ _ _ _ _ _ (entryKey_inst_ne (by decide))).trans (State.reg_setReg_self _ _ _ _)
  have h12 : u.reg (0x6808 + p) 0x12 = satAdd (entryBits (0x6808 + p) 0x12) (s.reg (0x6808 + p) 0x12) 1 := by
    rw [hu]
    refine (State.reg_setReg_self _ _ _ _).trans ?_
    rw [State.reg_setReg_of_ne _ _ _ _ _ _ (entryKey_inst_ne (by decide))]
  have hframe : u = { s with live := u.live } := by rw [hu]; rfl
  have hpins : u.pins = s.pins := by rw [hu]; rfl
  dsimp only
  rw [← hu]
  clear hu
  by_cases hg : s.use (0x6808 + p) 7 = 1 ∧ s.use (0x6808 + p) 8 < 32
  · rw [if_pos hg]
    refine ⟨_, rfl, h10, h12, ?_, fun _ _ => by simp⟩
    generalize u.live = l at hframe
    rw [hframe]
  · rw [if_neg hg]
    refine ⟨u, rfl, h10, h12, ?_, fun h7 h8 => absurd ⟨h7, h8⟩ hg⟩
    rw [hpins]
    exact hframe

/-! ### What the crosspoint's commands leave -/

theorem audio_eff {e : Entry} {op a l f bf st p g n : Nat} {z dr : Bool} {host : List Byte} {rx : List (Nat × Int)} {s t : State} {i : Instr}
    (hi : i ∈ [Instr.toneRequest g, .mclkLost, .mclkRestored, .tdmSlip p dr, .tdmNoClock p, .tdmClockRestored p, .buffer e op a l f bf st z host, .audioStop e z,
      .silenceHoldExpiry n, .samplePeriod rx]) (h : exec i s = .next t) : Eff 20342846530758 s t := by
  have hof : Eff.Outcome 20342846530758 s (exec i s) → Eff 20342846530758 s t := by
    rintro ⟨u, hu, he⟩
    rw [h] at hu
    cases hu
    exact he
  apply hof
  simp only [List.mem_cons, List.not_mem_nil, or_false] at hi
  rcases hi with rfl | rfl | rfl | rfl | rfl | rfl | rfl | rfl | rfl | rfl
  · exact (execToneRequest_eff g s).mono rfl
  · exact (execMclkLost_eff s).mono rfl
  · exact (execMclkRestored_eff s).mono rfl
  · exact (execTdmSlip_eff p dr s).mono rfl
  · exact (execTdmNoClock_eff p s).mono rfl
  · exact (execTdmClockRestored_eff p s).mono rfl
  · exact (execBuffer_eff e op a l f bf st z host s).mono rfl
  · exact (execAudioStop_eff e z s).mono rfl
  · exact (execSilenceHoldExpiry_eff n s).mono rfl
  · exact (execSamplePeriod_eff rx s).mono rfl

/-! ### The obligation -/

/-- Settles O60: the crosspoint's commands case by case; a swap through the row's new record, an output's sample through the steps that keep its
transmit line, and the frame by the union of the commands' effects. -/
theorem audioCrosspoint : Obligations.AudioCrosspoint := by
  unfold Obligations.AudioCrosspoint
  refine ⟨fun g s => ⟨fun h => ?_, fun h => ?_⟩, fun req g v s hg hv h => ?_, fun req g v s hg hv hx h => toneStart_outOfRange hg hv hx h,
    fun g s => ⟨State.requestTone_again, requestTone_spec g s⟩, fun g s t h ht => ?_, fun req i at_ s u hi hv h hu => ?_, fun i q late s => swapRow_spec i q late s,
    fun i q o late s ho => swapRow_gains i q o late s ho, rampOver_spec, fun s h => mclkLost_elsewhere h, fun s h h5 h1 => mclkLost_internal h h5 h1,
    fun s h h5 h1 => mclkLost_switches h h5 h1, fun s h => mclkRestored_elsewhere h, fun s h h5 h1 hs => mclkRestored_mutes h h5 h1 hs,
    fun k s => ⟨State.switchClock_none, State.switchClock_waits, State.switchClock_switches⟩, fun p dr s h => tdm_elsewhere h,
    fun p dr s hs hp ht h2 => ⟨tdmSlip_spec hs hp ht h2, tdmNoClock_spec hs hp ht h2⟩, slipped_spec, fun p s h => tdmClockRestored_elsewhere h,
    fun p s hs ht => tdmClockRestored_spec hs ht, fun e op a l f bf st z host s h => audioEntry_fails h, fun e op a l f bf st z host s hf h => buffer_malformed hf h,
    fun e a l f bf st n host s hf hfl h1 h3 hbf h4 hl hlr hn => buffer_joins hf hfl h1 h3 hbf h4 hl hlr hn, audioSamples_spec, fun e z s hf => audioStop_spec hf,
    stopStream_spec, streamPlay_spec, fun rx s h => samplePeriod_elsewhere h, fun rx s h hs => samplePeriod_succession h hs,
    fun rx s u w x y h hs hu hw hx hy => samplePeriod_runs h hs hu hw hx hy, fun o s => ⟨outputStep_gated, outputStep_sends, (mixOf_bounds o s).1, (mixOf_bounds o s).2⟩,
    fun o a b c s h h3 => slotWord_two_periods h h3, mem_sendFrame, fun n s h => silenceHoldExpiry_elsewhere h,
    fun n i k at_ s hs hn hi hk hr hat => silenceHoldExpiry_silences hs hn hi hk hr hat, fun p on s => ⟨setAmp_same, setAmp_changes⟩, ?_⟩
  · exact if_neg (by rw [h]; exact Bool.false_ne_true)
  · exact if_pos h
  · have hs := toneStart_admits req g v s hg (by simpa using hv) (by rw [Nat.one_mul]; exact h)
    rwa [Nat.one_mul] at hs
  · rw [ht]
    exact toneAdvance_starts g s h
  · rw [safeLoad_spec req i at_ s u hi hv h hu]
    refine ⟨fun hr => by rw [safeLoadWrite_range hr], fun hr hp => by rw [safeLoadWrite_busy hr hp], fun hp h0 hl => by rw [safeLoadWrite_late hp h0 hl], fun hp hr hl => ?_⟩
    rw [safeLoadWrite_waits hr hp hl]
    obtain ⟨t, ht, hspec⟩ := safeLoadWrite_waiting u i at_
    exact ⟨t, by rw [ht], hspec⟩
  · rintro e op a l f bf st p g n z dr host rx s t ⟨i, hi, h⟩
    have he := audio_eff hi h
    exact ⟨SameRings.of_eff he, he.mem_eq, he.heads_eq, he.gfx_eq, he.keys_eq, he.haptics_eq, he.lanes_eq, he.streams_eq, he.fuses_eq, he.dir_eq⟩

end Sys2Proof.Machine
end

section
/-! PROOF about the field lanes: the choice of the next request and the frame sent (R572, R578 to R580, R592). -/
set_option Elab.async false
namespace Sys2Proof.Machine

/-! ### Lanes and partners -/

theorem State.lane_modLane (s : State) (n m : Nat) (f : LaneWork → LaneWork) : (s.modLane n f).lane m = if n = m then f (s.lane n) else s.lane m := by
  simp [State.lane, State.modLane]

theorem State.lane_modLane_self (s : State) (n : Nat) (f : LaneWork → LaneWork) : (s.modLane n f).lane n = f (s.lane n) := by
  rw [State.lane_modLane, if_pos rfl]

theorem State.partner_modPartner_self (s : State) (p : Nat) (f : PartnerWork → PartnerWork) : (s.modPartner p f).partner p = f (s.partner p) := by
  simp [State.partner, State.modPartner]

theorem State.lane_of_lanes {s t : State} (h : t.lanes = s.lanes) (n : Nat) : t.lane n = s.lane n := by
  unfold State.lane
  rw [h]

theorem State.partner_of_lanes {s t : State} (h : t.lanes = s.lanes) (p : Nat) : t.partner p = s.partner p := by
  unfold State.partner
  rw [h]

theorem State.lanes_event (s : State) (i a b c d e f : Nat) : (s.event i a b c d e f).lanes = s.lanes :=
  (State.event_eff s i a b c d e f (Eff.refl 17593261891712 s) rfl).lanes_eq

/-! ### The schedule -/

theorem laneSchedule_elsewhere {n : Nat} {s : State} (h : s.serving = false ∨ s.laneCount ≤ n) : exec (.laneSchedule n) s = .next s := by
  have hx : exec (.laneSchedule n) s = execLaneSchedule n s := rfl
  rw [hx, execLaneSchedule, if_pos (by rcases h with h | h <;> simp [h])]

theorem laneSchedule_resends {n : Nat} {t : LaneTransaction} {s : State} (hs : s.serving = true) (hn : n < s.laneCount) (hc : (s.lane n).current = some t) :
    (t.resend = false ∨ s.laneRuns n = false ∨ s.laneState n = 3 → exec (.laneSchedule n) s = .next s) ∧
    (t.resend = true → s.laneRuns n = true → s.laneState n ≠ 3 → exec (.laneSchedule n) s = .next ((s.arriveAt (s.lane n).freeAt).laneSend n t.partner t.request t.left)) := by
  have hx : exec (.laneSchedule n) s = execLaneSchedule n s := rfl
  rw [hx, execLaneSchedule, if_neg (by simp [hs, hn]), hc]
  exact ⟨fun h => if_pos (by rcases h with h | h | h <;> simp [h]), fun hr hl h3 => if_neg (by simp [hr, hl, h3])⟩

theorem laneSchedule_chooses {n : Nat} {s u : State} (hs : s.serving = true) (hn : n < s.laneCount) (hc : (s.lane n).current = none)
    (hu : u = (if s.laneChanged n then s.laneUptake n else s)) :
    (u.laneRuns n = false ∨ u.laneState n = 3 ∨ (u.lane n).stopped = true → exec (.laneSchedule n) s = .next u) ∧
    (u.laneRuns n = true → u.laneState n ≠ 3 → (u.lane n).stopped = false → exec (.laneSchedule n) s = .next ((u.arriveAt (u.lane n).freeAt).laneChoose n)) := by
  have hx : exec (.laneSchedule n) s = execLaneSchedule n s := rfl
  rw [hx, execLaneSchedule, if_neg (by simp [hs, hn]), hc]
  dsimp only
  rw [← hu]
  exact ⟨fun h => if_pos (by rcases h with h | h | h <;> simp [h]), fun hr h3 hst => if_neg (by simp [hr, h3, hst])⟩

/-! ### The next request -/

theorem laneChoose_ack {n p q : Nat} {rest : List (Nat × Nat)} {s : State} (h : (s.lane n).acks = (p, q) :: rest) :
    ∃ t : State, s.laneChoose n = t.laneSend n p (.eventAck q) 0 ∧ (t.lane n).acks = rest ∧ t = { s with lanes := t.lanes } := by
  unfold State.laneChoose
  rw [h]
  exact ⟨s.modLane n (fun w => { w with acks := rest }), rfl, congrArg LaneWork.acks (s.lane_modLane_self n (fun w => { w with acks := rest })), rfl⟩

theorem laneTakeGroup_online {n : Nat} {e : Nat × Nat} {es : List (Nat × Nat)} {s : State} (h : s.partnerState e.2 = 2) :
    s.laneTakeGroup n (e :: es) = (some e, s.modLane n (fun w => { w with groups := es })) := by
  rw [State.laneTakeGroup, if_pos h]

theorem laneChoose_group {n p g : Nat} {rest : List (Nat × Nat)} {s : State} (ha : (s.lane n).acks = []) (hg : (s.lane n).groups = (g, p) :: rest)
    (hp : s.partnerState p = 2) :
    ∃ t : State, s.laneChoose n = t.laneCommandTo n p (s.reg (0x7900 + g) 2) (s.regBytes (0x7900 + g) 3) (.group g) ∧ (t.lane n).groups = rest ∧ t = { s with lanes := t.lanes } := by
  unfold State.laneChoose
  rw [ha]
  dsimp only
  rw [hg, laneTakeGroup_online (e := (g, p)) hp]
  exact ⟨s.modLane n (fun w => { w with groups := rest }), rfl, congrArg LaneWork.groups (s.lane_modLane_self n (fun w => { w with groups := rest })), rfl⟩

theorem laneTakeQueue_held {n : Nat} {e : Nat × LaneRequest} {es : List (Nat × LaneRequest)} {s : State} (h : s.heldBack e.2 = true) :
    s.laneTakeQueue n (e :: es) = ((s.laneTakeQueue n es).1, (s.laneTakeQueue n es).2.modLane n (fun w => { w with queue := e :: w.queue })) := by
  rw [State.laneTakeQueue, if_pos h]

theorem laneTakeQueue_online {n : Nat} {e : Nat × LaneRequest} {es : List (Nat × LaneRequest)} {s : State} (h : s.heldBack e.2 = false) (hp : s.partnerState e.1 = 2) :
    s.laneTakeQueue n (e :: es) = (some e, s.modLane n (fun w => { w with queue := es })) := by
  rw [State.laneTakeQueue, if_neg (by rw [h]; exact Bool.false_ne_true), if_pos hp]

theorem laneTakeQueue_aborts {n : Nat} {e : Nat × LaneRequest} {es : List (Nat × LaneRequest)} {s : State} (h : s.heldBack e.2 = false) (hp : s.partnerState e.1 ≠ 2) :
    s.laneTakeQueue n (e :: es) = (s.endLaneEntry e.2.origin Status.aborted).laneTakeQueue n es := by
  rw [State.laneTakeQueue, if_neg (by rw [h]; exact Bool.false_ne_true), if_neg hp]

theorem laneChoose_queue {n p : Nat} {r : LaneRequest} {rest : List (Nat × LaneRequest)} {s : State} (ha : (s.lane n).acks = []) (hg : (s.lane n).groups = [])
    (hq : (s.lane n).queue = (p, r) :: rest) (hh : s.heldBack r = false) (hp : s.partnerState p = 2) :
    ∃ t : State, (t.lane n).queue = rest ∧ t = { s with lanes := t.lanes } ∧
      s.laneChoose n = (match r with
        | .command _ o v orig => t.laneCommandTo n p o v orig
        | _ => t.laneBegin n p r) := by
  obtain ⟨u, hu⟩ : ∃ u, u = s.modLane n (fun w => { w with groups := [] }) := ⟨_, rfl⟩
  have huq : (u.lane n).queue = (p, r) :: rest := by
    rw [hu, s.lane_modLane_self n (fun w => { w with groups := [] })]
    exact hq
  have hframe : u = { s with lanes := u.lanes } := by rw [hu]; rfl
  have hup : u.partnerState p = 2 := by rw [hu]; exact hp
  have huh : u.heldBack r = false := by rw [hu]; exact hh
  have hgroups : s.laneTakeGroup n [] = (none, u) := by rw [State.laneTakeGroup, hu]
  refine ⟨u.modLane n (fun w => { w with queue := rest }), congrArg LaneWork.queue (u.lane_modLane_self n (fun w => { w with queue := rest })), ?_, ?_⟩
  · rw [hframe]
    rfl
  · unfold State.laneChoose
    rw [ha]
    dsimp only
    rw [hg, hgroups]
    dsimp only
    rw [huq, laneTakeQueue_online (e := (p, r)) huh hup]
    cases r <;> rfl

theorem laneTakeQueue_held_keeps {n p : Nat} {r : LaneRequest} {rest : List (Nat × LaneRequest)} {s : State} (h : s.heldBack r = true) :
    (s.laneTakeQueue n ((p, r) :: rest)).1 = (s.laneTakeQueue n rest).1 ∧
      ((s.laneTakeQueue n ((p, r) :: rest)).2.lane n).queue = (p, r) :: ((s.laneTakeQueue n rest).2.lane n).queue := by
  rw [laneTakeQueue_held (e := (p, r)) h]
  exact ⟨rfl, congrArg LaneWork.queue (State.lane_modLane_self _ n (fun w => { w with queue := (p, r) :: w.queue }))⟩

theorem heldBack_iff (r : LaneRequest) (s : State) : s.heldBack r = true ↔ ∃ i q tag k b, r.origin = .entry i q tag k b ∧ s.isShed i = true := by
  unfold State.heldBack
  cases r.origin with
  | entry i q tag k b => exact ⟨fun h => ⟨i, q, tag, k, b, rfl, h⟩, fun ⟨_, _, _, _, _, he, h⟩ => by cases he; exact h⟩
  | group g => exact ⟨fun h => absurd h Bool.false_ne_true, fun ⟨_, _, _, _, _, he, _⟩ => by cases he⟩
  | nobody => exact ⟨fun h => absurd h Bool.false_ne_true, fun ⟨_, _, _, _, _, he, _⟩ => by cases he⟩

/-! ### The partner due -/

/-- A partner is due before another, or at the same time with the lower number (R580). -/
def State.dueBefore (s : State) (p q : Nat) : Prop :=
  (s.partner p).nextDue < (s.partner q).nextDue ∨ ((s.partner p).nextDue = (s.partner q).nextDue ∧ p ≤ q)

/-- A partner is polled and its time has come (R580). -/
def State.pollDue (s : State) (p : Nat) : Prop := s.pollPeriod p ≠ 0 ∧ (s.partner p).nextDue ≤ s.now

/-- The best due partner of those seen so far. -/
def State.DueBest (s : State) (seen : List Nat) (b : Option Nat) : Prop :=
  (∀ p, b = some p → p ∈ seen ∧ s.pollDue p ∧ ∀ q ∈ seen, s.pollDue q → s.dueBefore p q) ∧ (b = none → ∀ q ∈ seen, ¬ s.pollDue q)

/-- One step of the choice among the partners due. -/
def State.dueStep (s : State) (b : Option Nat) (p : Nat) : Option Nat :=
  if s.pollPeriod p = 0 ∨ s.now < (s.partner p).nextDue then b
  else match b with
    | none => some p
    | some q => if (s.partner p).nextDue < (s.partner q).nextDue then some p else b

theorem State.pollDue_iff (s : State) (p : Nat) : s.pollDue p ↔ ¬ (s.pollPeriod p = 0 ∨ s.now < (s.partner p).nextDue) := by
  unfold State.pollDue
  omega

theorem State.dueStep_best {s : State} {seen : List Nat} {b : Option Nat} {p : Nat} (hp : ∀ q ∈ seen, q < p) (h : s.DueBest seen b) :
    s.DueBest (seen ++ [p]) (s.dueStep b p) := by
  obtain ⟨hsome, hnone⟩ := h
  unfold State.dueStep
  by_cases hd : s.pollPeriod p = 0 ∨ s.now < (s.partner p).nextDue
  · rw [if_pos hd]
    have hpd : ¬ s.pollDue p := fun h => (s.pollDue_iff p).1 h hd
    refine ⟨fun r hr => ?_, fun hb q hq => ?_⟩
    · obtain ⟨h1, h2, h3⟩ := hsome r hr
      refine ⟨List.mem_append_left _ h1, h2, fun q hq hqd => ?_⟩
      rcases List.mem_append.1 hq with hq | hq
      · exact h3 q hq hqd
      · exact absurd (List.mem_singleton.1 hq ▸ hqd) hpd
    · rcases List.mem_append.1 hq with hq | hq
      · exact hnone hb q hq
      · rw [List.mem_singleton.1 hq]
        exact hpd
  · rw [if_neg hd]
    have hpd : s.pollDue p := (s.pollDue_iff p).2 hd
    have hpp : s.dueBefore p p := Or.inr ⟨rfl, Nat.le_refl p⟩
    cases b with
    | none =>
      refine ⟨fun r hr => ?_, fun h => by cases h⟩
      cases hr
      refine ⟨by simp, hpd, fun q hq hqd => ?_⟩
      rcases List.mem_append.1 hq with hq | hq
      · exact absurd hqd (hnone rfl q hq)
      · rw [List.mem_singleton.1 hq]
        exact hpp
    | some r =>
      obtain ⟨h1, h2, h3⟩ := hsome r rfl
      dsimp only
      by_cases hlt : (s.partner p).nextDue < (s.partner r).nextDue
      · rw [if_pos hlt]
        refine ⟨fun x hx => ?_, fun h => by cases h⟩
        cases hx
        refine ⟨by simp, hpd, fun q hq hqd => ?_⟩
        rcases List.mem_append.1 hq with hq | hq
        · have hrq := h3 q hq hqd
          unfold State.dueBefore at hrq ⊢
          omega
        · rw [List.mem_singleton.1 hq]
          exact hpp
      · rw [if_neg hlt]
        refine ⟨fun x hx => ?_, fun h => by cases h⟩
        cases hx
        refine ⟨List.mem_append_left _ h1, h2, fun q hq hqd => ?_⟩
        rcases List.mem_append.1 hq with hq | hq
        · exact h3 q hq hqd
        · rw [List.mem_singleton.1 hq]
          have := hp r h1
          unfold State.dueBefore
          omega

theorem State.foldl_dueStep_best {s : State} : ∀ (l seen : List Nat) (b : Option Nat), (seen ++ l).Pairwise (· < ·) → s.DueBest seen b →
    s.DueBest (seen ++ l) (l.foldl s.dueStep b)
  | [], seen, b, _, h => by rw [List.append_nil]; exact h
  | p :: l, seen, b, hl, h => by
    have hsplit : seen ++ p :: l = (seen ++ [p]) ++ l := by simp
    rw [hsplit] at hl ⊢
    have hp : ∀ q ∈ seen, q < p := fun q hq => (List.pairwise_append.1 (List.pairwise_append.1 hl).1).2.2 q hq p (List.mem_singleton.2 rfl)
    exact State.foldl_dueStep_best l (seen ++ [p]) _ hl (State.dueStep_best hp h)

theorem partnersOf_ascending (n : Nat) : (partnersOf n).Pairwise (· < ·) := by
  unfold partnersOf
  refine List.Pairwise.map _ (fun a b h => ?_) List.pairwise_lt_range
  exact Nat.add_lt_add_left h _

theorem duePartner_spec {n p : Nat} {s : State} (h : s.duePartner n = some p) : p ∈ partnersOf n ∧ s.pollPeriod p ≠ 0 ∧ (s.partner p).nextDue ≤ s.now ∧
    ∀ q ∈ partnersOf n, s.pollPeriod q ≠ 0 → (s.partner q).nextDue ≤ s.now → (s.partner p).nextDue < (s.partner q).nextDue ∨ ((s.partner p).nextDue = (s.partner q).nextDue ∧ p ≤ q) := by
  have hbest := State.foldl_dueStep_best (s := s) (partnersOf n) [] none (partnersOf_ascending n) ⟨fun p h => (by cases h), fun _ q hq => absurd hq List.not_mem_nil⟩
  obtain ⟨h1, ⟨h2, h3⟩, h4⟩ := hbest.1 p h
  exact ⟨h1, h2, h3, fun q hq hq1 hq2 => h4 q hq ⟨hq1, hq2⟩⟩

theorem pollPartner_spec {n p m : Nat} {s : State} (hp : s.pollPeriod p ≠ 0) (hd : (s.partner p).nextDue ≤ s.now)
    (hm : m = (s.now - (s.partner p).nextDue) / us (s.pollPeriod p)) : ∃ t : State, s.pollPartner n p = t.laneBegin n p .poll ∧
    s.now < (t.partner p).nextDue ∧ (t.partner p).nextDue ≤ s.now + us (s.pollPeriod p) ∧ t.reg (0x7000 + n) 0xF = satAdd (entryBits (0x7000 + n) 0xF) (s.reg (0x7000 + n) 0xF) m ∧
    t = { s with live := t.live, lanes := t.lanes } := by
  have hper : 0 < us (s.pollPeriod p) := by unfold us; omega
  have hdiv := Nat.div_add_mod (s.now - (s.partner p).nextDue) (us (s.pollPeriod p))
  have hmod := Nat.mod_lt (s.now - (s.partner p).nextDue) hper
  rw [← hm] at hdiv
  have hnext : ((s.modPartner p (fun x => { x with nextDue := (s.partner p).nextDue + us (s.pollPeriod p) * (m + 1) })).partner p).nextDue =
      (s.partner p).nextDue + us (s.pollPeriod p) * (m + 1) :=
    congrArg PartnerWork.nextDue (s.partner_modPartner_self p (fun x => { x with nextDue := (s.partner p).nextDue + us (s.pollPeriod p) * (m + 1) }))
  rw [Nat.mul_succ] at hnext
  refine ⟨(s.modPartner p (fun x => { x with nextDue := (s.partner p).nextDue + us (s.pollPeriod p) * (m + 1) })).count (0x7000 + n) 0xF m, ?_, ?_, ?_, State.reg_setReg_self _ _ _ _, rfl⟩
  · rw [hm]
    rfl
  · refine lt_of_lt_of_eq ?_ hnext.symm
    omega
  · refine le_of_eq_of_le hnext ?_
    omega

/-! ### A frame sent -/

theorem laneSend_spec {n p l : Nat} {r : LaneRequest} {s : State} (hr : r.type ≠ 6) : ∃ (c : LaneTransaction) (f : Nat × List Byte),
    ((s.laneSend n p r l).lane n).current = some c ∧ c.partner = p ∧ c.request = r ∧ c.left = l ∧ c.started = s.now ∧
    c.resend = false ∧ s.now + s.laneTimeout p ≤ c.deadline ∧ f = encodeFrame (s.laneMode n) 0 (p % 32) r.type (s.partner p).txAlive (s.requestPayload p r) ∧
    (∃ d, d.lane = n ∧ d.identifier = f.1 ∧ d.data = f.2 ∧ (s.laneSend n p r l).lanes.sent = s.lanes.sent ++ [d]) ∧ ((s.laneSend n p r l).partner p).txAlive = ((s.partner p).txAlive + 1) % 16 ∧
    (s.laneSend n p r l).reg (0x7000 + n) 0xB = satAdd (entryBits (0x7000 + n) 0xB) (s.reg (0x7000 + n) 0xB) 1 := by
  unfold State.laneSend
  extract_lets x f stop ack s1 s2 s3
  rw [if_neg (by simp [ack, hr])]
  have hlane := s3.lane_modLane_self n (fun w => { w with
    current := some { partner := p, request := r, left := l, started := s.now, deadline := stop + s.laneTimeout p } })
  refine ⟨_, f, congrArg LaneWork.current hlane, rfl, rfl, rfl, rfl, rfl, ?_, rfl, ⟨{ lane := n, identifier := f.1, data := f.2 }, rfl, rfl, rfl, rfl⟩, ?_, ?_⟩
  · show s.now + s.laneTimeout p ≤ s.now + s.wireNs n f.2.length + s.laneTimeout p
    omega
  · exact congrArg PartnerWork.txAlive (s.partner_modPartner_self p (fun y => { y with
      txAlive := (y.txAlive + 1) % 16, requests := if ack then y.requests else min 15 (y.requests + 1) }))
  · exact State.reg_setReg_self _ _ _ _

end Sys2Proof.Machine
end

section
/-! PROOF about the field lanes: received frames and their answers (R573, R582, R584, R597, R598). -/
set_option Elab.async false
namespace Sys2Proof.Machine

/-! ### A received frame -/

theorem lane_commands (n : Nat) (x : LaneFrame) (s : State) : exec (.descriptor n x) s = .next (s.laneReceive n 9 x) ∧ exec (.response n x) s = .next (s.laneReceive n 10 x) ∧
    exec (.ack n x) s = .next (s.laneReceive n 11 x) ∧ exec (.data n x) s = .next (s.laneReceive n 12 x) ∧ exec (.event n x) s = .next (s.laneReceive n 13 x) ∧
    exec (.nak n x) s = .next (s.laneReceive n 14 x) := ⟨rfl, rfl, rfl, rfl, rfl, rfl⟩

theorem laneReceive_ignored {n want : Nat} {x : LaneFrame} {s : State}
    (h : s.laneRuns n = false ∨ s.laneState n = 3 ∨ (s.laneMode n = 2 ∧ (bit x.identifier 5 = true ∨ 2048 ≤ x.identifier))) : s.laneReceive n want x = s := by
  unfold State.laneReceive
  dsimp only
  rw [if_pos (by rcases h with h | h | h <;> simp [h])]

theorem laneReceive_other {n want : Nat} {x : LaneFrame} {f : LaneRx} {s : State} (hf : f = decodeFrame (s.laneMode n) x) (hc : f.crcOk = true) (hb : f.broken = false)
    (hd : f.dir = 1) (ht : f.type ≠ want) : s.laneReceive n want x = s := by
  unfold State.laneReceive
  dsimp only
  rw [← hf]
  split
  · rfl
  · rw [if_pos ⟨hc, by simp [hb], hd, ht⟩]

theorem crcDiscard_keeps (n : Nat) (s : State) : (s.crcDiscard n).reg (0x7A00 + n) 7 = s.reg (0x7A00 + n) 7 ∧ (s.crcDiscard n).reg (0x7A00 + n) 6 = s.reg (0x7A00 + n) 6 ∧
    (s.crcDiscard n).reg (0x7A00 + n) 8 = satAdd (entryBits (0x7A00 + n) 8) (s.reg (0x7A00 + n) 8) 1 ∧ (s.crcDiscard n).reg (0x7A00 + n) 0xD = s.now := by
  obtain ⟨u, hu⟩ : ∃ u, u = (s.inc (0x7A00 + n) 8).setReg (0x7A00 + n) 0xD s.now := ⟨_, rfl⟩
  have hD : u.reg (0x7A00 + n) 0xD = s.now := by rw [hu]; exact State.reg_setReg_self _ _ _ _
  have hinc : ∀ k, k % 256 ≠ 0xD → u.reg (0x7A00 + n) k = (s.inc (0x7A00 + n) 8).reg (0x7A00 + n) k := fun k hk => by
    rw [hu]
    exact State.reg_setReg_of_ne _ _ _ _ _ _ (entryKey_inst_ne (Ne.symm hk))
  have h8 : u.reg (0x7A00 + n) 8 = satAdd (entryBits (0x7A00 + n) 8) (s.reg (0x7A00 + n) 8) 1 := (hinc 8 (by decide)).trans (State.reg_setReg_self _ _ _ _)
  have hkeep : ∀ k, k % 256 ≠ 0xD → k % 256 ≠ 8 → u.reg (0x7A00 + n) k = s.reg (0x7A00 + n) k := fun k hk hk8 =>
    (hinc k hk).trans (State.reg_setReg_of_ne _ _ _ _ _ _ (entryKey_inst_ne (Ne.symm hk8)))
  have hall : ∀ k, k % 256 ≠ 0x12 → (s.crcDiscard n).reg (0x7A00 + n) k = u.reg (0x7A00 + n) k := by
    intro k hk
    unfold State.crcDiscard
    dsimp only
    rw [← hu]
    split
    · rfl
    · cases (s.lane n).crcAt with
      | none => exact State.reg_event _ _ _ _ _ _ _ _ _ _ hk
      | some l =>
        dsimp only
        split
        · exact State.reg_event _ _ _ _ _ _ _ _ _ _ hk
        · rfl
  exact ⟨(hall 7 (by decide)).trans (hkeep 7 (by decide) (by decide)), (hall 6 (by decide)).trans (hkeep 6 (by decide) (by decide)), (hall 8 (by decide)).trans h8,
    (hall 0xD (by decide)).trans hD⟩

/-- The state in which a received frame is judged: the gap runs, the frame is counted and the check unit shows its value. -/
def State.frameCounted (s : State) (n running : Nat) : State :=
  (((s.modLane n (fun w => { w with freeAt := s.now + s.laneGap n })).inc (0x7A00 + n) 7).setReg (0x7A00 + n) 6 running)

theorem frameCounted_spec (n running : Nat) (s : State) : (s.frameCounted n running).reg (0x7A00 + n) 7 = satAdd (entryBits (0x7A00 + n) 7) (s.reg (0x7A00 + n) 7) 1 ∧
    (s.frameCounted n running).reg (0x7A00 + n) 6 = running ∧ (s.frameCounted n running).reg (0x7A00 + n) 8 = s.reg (0x7A00 + n) 8 ∧
    (s.frameCounted n running).now = s.now ∧ ((s.frameCounted n running).lane n).freeAt = s.now + s.laneGap n := by
  refine ⟨?_, State.reg_setReg_self _ _ _ _, ?_, rfl, congrArg LaneWork.freeAt (s.lane_modLane_self n (fun w => { w with freeAt := s.now + s.laneGap n }))⟩
  · exact (State.reg_setReg_of_ne _ _ _ _ _ _ (entryKey_inst_ne (by decide))).trans (State.reg_setReg_self _ _ _ _)
  · exact (State.reg_setReg_of_ne _ _ _ _ _ _ (entryKey_inst_ne (by decide))).trans (State.reg_setReg_of_ne _ _ _ _ _ _ (entryKey_inst_ne (by decide)))

theorem laneReceive_takes {n want : Nat} {x : LaneFrame} {f : LaneRx} {s : State} (hf : f = decodeFrame (s.laneMode n) x) (hr : s.laneRuns n = true) (h3 : s.laneState n ≠ 3)
    (hid : s.laneMode n = 2 → bit x.identifier 5 = false ∧ x.identifier < 2048) (ht : f.crcOk = true → f.broken = false → f.dir = 1 → f.type = want) :
    (s.laneMode n = 1 → x.gapless = false → ∃ u : State, s.laneReceive n want x = u.attemptFails n false ∧ u.reg (0x7000 + n) 0xE = satAdd (entryBits (0x7000 + n) 0xE) (s.reg (0x7000 + n) 0xE) 1 ∧
        (u.lane n).freeAt = s.now + s.laneGap n) ∧
      (s.laneMode n ≠ 1 ∨ x.gapless = true → f.crcOk = false → ∃ u : State, s.laneReceive n want x = u.attemptFails n false ∧ u.reg (0x7A00 + n) 7 = satAdd (entryBits (0x7A00 + n) 7) (s.reg (0x7A00 + n) 7) 1 ∧
        u.reg (0x7A00 + n) 6 = f.running ∧ u.reg (0x7A00 + n) 8 = satAdd (entryBits (0x7A00 + n) 8) (s.reg (0x7A00 + n) 8) 1 ∧ u.reg (0x7A00 + n) 0xD = s.now) ∧
      (s.laneMode n ≠ 1 ∨ x.gapless = true → f.crcOk = true → ∃ u : State, s.laneReceive n want x = u.judgeFrame n f x.rtt x.shift ∧ u.reg (0x7A00 + n) 7 = satAdd (entryBits (0x7A00 + n) 7) (s.reg (0x7A00 + n) 7) 1 ∧
        u.reg (0x7A00 + n) 6 = f.running ∧ (u.lane n).freeAt = s.now + s.laneGap n) := by
  obtain ⟨h7, h6, h8, hnow, hfree⟩ := frameCounted_spec n f.running s
  have hrecv : s.laneReceive n want x = if s.laneMode n = 1 ∧ (!x.gapless) = true
      then ((s.modLane n (fun w => { w with freeAt := s.now + s.laneGap n })).inc (0x7000 + n) 0xE).attemptFails n false
      else if (!f.crcOk) = true then ((s.frameCounted n f.running).crcDiscard n).attemptFails n false else (s.frameCounted n f.running).judgeFrame n f x.rtt x.shift := by
    unfold State.laneReceive
    dsimp only
    rw [← hf, if_neg (by
      rintro (h | h | ⟨h, h'⟩)
      · simp [hr] at h
      · exact h3 h
      · obtain ⟨h1, h2⟩ := hid h
        rcases h' with h' | h'
        · exact Bool.false_ne_true (h1.symm.trans h')
        · omega), if_neg (fun ⟨hc, hb, hd, hw⟩ => hw (ht hc (by simpa using hb) hd))]
    rfl
  rw [hrecv]
  refine ⟨fun hm hg => ?_, fun hm hc => ?_, fun hm hc => ?_⟩
  · rw [if_pos ⟨hm, by simp [hg]⟩]
    exact ⟨_, rfl, State.reg_setReg_self _ _ _ _, congrArg LaneWork.freeAt (s.lane_modLane_self n (fun w => { w with freeAt := s.now + s.laneGap n }))⟩
  · rw [if_neg (by rcases hm with h | h <;> simp [h]), if_pos (by simp [hc])]
    obtain ⟨c7, c6, c8, cD⟩ := crcDiscard_keeps n (s.frameCounted n f.running)
    exact ⟨_, rfl, c7.trans h7, c6.trans h6, by rw [c8, h8], by rw [cD, hnow]⟩
  · rw [if_neg (by rcases hm with h | h <;> simp [h]), if_neg (by simp [hc])]
    exact ⟨_, rfl, h7, h6, hfree⟩

/-! ### A frame that passes its check value -/

/-- The transaction that a frame of a partner answers, if any (R568). -/
def State.answered (s : State) (n p : Nat) (f : LaneRx) : Option LaneTransaction :=
  match (s.lane n).current.bind (fun (t : LaneTransaction) => if t.resend then none else some t) with
  | none => none
  | some t => if t.partner = p ∧ answers t.request f then some t else none

theorem State.answered_none {n p : Nat} {f : LaneRx} {s : State} (h : ∀ c, (s.lane n).current = some c → c.resend = true ∨ c.partner ≠ p ∨ answers c.request f = false) :
    s.answered n p f = none := by
  unfold State.answered
  cases hc : (s.lane n).current with
  | none => rfl
  | some c =>
    dsimp only [Option.bind]
    cases hr : c.resend
    · rw [if_neg Bool.false_ne_true]
      dsimp only
      rw [if_neg]
      rintro ⟨h1, h2⟩
      rcases h c hc with h | h | h
      · exact Bool.false_ne_true (hr.symm.trans h)
      · exact h h1
      · exact Bool.false_ne_true (h.symm.trans h2)
    · rw [if_pos rfl]

theorem State.answered_some {n p : Nat} {f : LaneRx} {t : LaneTransaction} {s : State} (hc : (s.lane n).current = some t) (hr : t.resend = false) (hp : t.partner = p)
    (ha : answers t.request f = true) : s.answered n p f = some t := by
  unfold State.answered
  rw [hc]
  dsimp only [Option.bind]
  rw [hr, if_neg Bool.false_ne_true]
  exact if_pos ⟨hp, ha⟩

/-- A frame that nobody asked for and that is taken all the same (R598). -/
def State.unasked (s : State) (n p : Nat) (f : LaneRx) : Bool :=
  (s.answered n p f).isNone && decide (f.type = 13 ∧ s.laneMode n = 2 ∧ s.partnerState p = 2) && s.descFlag p 2

theorem judgeFrame_eq {n p rtt : Nat} {sh : Int} {f : LaneRx} {s : State} (hp : p = 32 * n + f.node) : s.judgeFrame n f rtt sh =
    if f.dir = 0 ∨ f.broken = true ∨ (!s.payloadFits p f) = true ∨ ((s.answered n p f).isNone = true ∧ (!s.unasked n p f) = true) then s.attemptFails n false
    else
      match s.judgeAlive p f (s.unasked n p f) with
      | .repeats => if s.unasked n p f then s.aliveError n p f true else (s.aliveError n p f true).attemptFails n true
      | .skip => if s.unasked n p f then s.aliveError n p f false else (s.aliveError n p f false).attemptFails n true
      | .accept =>
        match s.answered n p f with
        | none => (if (((s.lane n).current.bind (fun (t : LaneTransaction) => if t.resend then none else some t)).map (·.partner)) = some p then
            ((s.acceptFrame n p f).trimNode n f.node sh).modPartner p (fun x => { x with requests := 1 }) else (s.acceptFrame n p f).trimNode n f.node sh).uplink n p f.payload
        | some t => (((((s.acceptFrame n p f).trimNode n f.node sh).measureCable n p rtt).laneSpan n t.started (s.lane n).freeAt)).deliverAnswer n t f := by
  subst hp
  rfl

theorem judgeFrame_refuses {n rtt : Nat} {sh : Int} {f : LaneRx} {s : State} (h : f.dir = 0 ∨ f.broken = true ∨ s.payloadFits (32 * n + f.node) f = false) :
    s.judgeFrame n f rtt sh = s.attemptFails n false := by
  rw [judgeFrame_eq rfl, if_pos (by rcases h with h | h | h <;> simp [h])]

theorem judgeFrame_unanswered {n p rtt : Nat} {sh : Int} {f : LaneRx} {s : State} (hp : p = 32 * n + f.node)
    (hc : ∀ c, (s.lane n).current = some c → c.resend = true ∨ c.partner ≠ p ∨ answers c.request f = false)
    (h : f.type ≠ 13 ∨ s.laneMode n ≠ 2 ∨ s.partnerState p ≠ 2 ∨ s.descFlag p 2 = false) : s.judgeFrame n f rtt sh = s.attemptFails n false := by
  rw [judgeFrame_eq hp, if_pos]
  refine Or.inr (Or.inr (Or.inr ⟨by rw [State.answered_none hc]; rfl, ?_⟩))
  unfold State.unasked
  rcases h with h | h | h | h <;> simp [h]

theorem judgeFrame_answers {n p rtt : Nat} {sh : Int} {t : LaneTransaction} {f : LaneRx} {s : State} (hp : p = 32 * n + f.node) (hc : (s.lane n).current = some t)
    (hr : t.resend = false) (htp : t.partner = p) (ha : answers t.request f = true) (hd : f.dir ≠ 0) (hb : f.broken = false) (hf : s.payloadFits p f = true) :
    (s.judgeAlive p f false = .accept → s.judgeFrame n f rtt sh =
        (((((s.acceptFrame n p f).trimNode n f.node sh).measureCable n p rtt).laneSpan n t.started (s.lane n).freeAt).deliverAnswer n t f)) ∧
      (s.judgeAlive p f false = .repeats → s.judgeFrame n f rtt sh = (s.aliveError n p f true).attemptFails n true) ∧
      (s.judgeAlive p f false = .skip → s.judgeFrame n f rtt sh = (s.aliveError n p f false).attemptFails n true) := by
  have hans := State.answered_some hc hr htp ha
  have hun : s.unasked n p f = false := by
    unfold State.unasked
    rw [hans]
    rfl
  rw [judgeFrame_eq hp, hans, hun, if_neg (by simp [hd, hb, hf])]
  refine ⟨fun h => ?_, fun h => ?_, fun h => ?_⟩ <;> rw [h]
  · rfl
  · rfl

theorem judgeFrame_unsolicited {n p rtt : Nat} {sh : Int} {f : LaneRx} {s : State} (hp : p = 32 * n + f.node) (hc : (s.lane n).current = none) (ht : f.type = 13)
    (hm : s.laneMode n = 2) (hst : s.partnerState p = 2) (hfl : s.descFlag p 2 = true) (hd : f.dir ≠ 0) (hb : f.broken = false) (hf : s.payloadFits p f = true) :
    (s.judgeAlive p f true = .accept → s.judgeFrame n f rtt sh = ((s.acceptFrame n p f).trimNode n f.node sh).uplink n p f.payload) ∧
      (s.judgeAlive p f true = .repeats → s.judgeFrame n f rtt sh = s.aliveError n p f true) := by
  have hans : s.answered n p f = none := State.answered_none (fun c h => by rw [hc] at h; cases h)
  have hun : s.unasked n p f = true := by
    unfold State.unasked
    rw [hans, hfl]
    simp [ht, hm, hst]
  rw [judgeFrame_eq hp, hans, hun, if_neg (by simp [hd, hb, hf])]
  refine ⟨fun h => ?_, fun h => ?_⟩ <;> rw [h]
  · rw [hc]
    rfl
  · rfl

theorem trimNode_still {n node : Nat} {sh : Int} {s : State} (h : s.use 0x2600 7 ≠ 1 ∨ sh.natAbs ≤ 12500) : s.trimNode n node sh = s := by
  unfold State.trimNode
  dsimp only
  rw [if_pos (by rcases h with h | h <;> simp [h])]

theorem acceptFrame_spec (n p : Nat) (f : LaneRx) (s : State) : ((s.acceptFrame n p f).partner p).rxAlive = some f.alive ∧ ((s.acceptFrame n p f).partner p).requests = 0 ∧
    ((s.acceptFrame n p f).partner p).aliveRun = 0 ∧ (s.acceptFrame n p f).reg (0x7100 + p) 0x13 = s.now := by
  have hpart : (s.acceptFrame n p f).partner p = { s.partner p with rxAlive := some f.alive, requests := 0, aliveRun := 0 } :=
    s.partner_modPartner_self p (fun x => { x with rxAlive := some f.alive, requests := 0, aliveRun := 0 })
  rw [hpart]
  exact ⟨rfl, rfl, rfl, State.reg_setReg_self _ _ _ _⟩

/-! ### An answer delivered -/

theorem deliverAnswer_poll {n : Nat} {t : LaneTransaction} {f : LaneRx} {s : State} (hf : f.type ≠ 14) (hr : t.request = .poll) :
    ∃ u : State, s.deliverAnswer n t f = u.laneSucceeds n t.partner ∧ u.reg (0x7100 + t.partner) 0xC = field f.payload 0 1 ∧
      u.regBytes (0x7100 + t.partner) 0xB = f.payload.drop 1 ∧ (bit (field f.payload 0 1) 0 = true → s.descFlag t.partner 1 = true → (u.partner t.partner).fetch = true) ∧ u = { s with live := u.live, lanes := u.lanes } := by
  unfold State.deliverAnswer
  dsimp only
  rw [if_neg hf, hr]
  dsimp only
  obtain ⟨v, hv⟩ : ∃ v, v = (s.setReg (0x7100 + t.partner) 0xC (field f.payload 0 1)).setRegBytes (0x7100 + t.partner) 0xB (f.payload.drop 1) := ⟨_, rfl⟩
  have hC : v.reg (0x7100 + t.partner) 0xC = field f.payload 0 1 := by
    rw [hv]
    exact (State.reg_of_liveAt (State.liveAt_setRegBytes_of_ne (entryKey_inst_ne (by decide)))).trans
      (State.reg_setReg_self s (0x7100 + t.partner) 0xC (field f.payload 0 1))
  have hB : v.regBytes (0x7100 + t.partner) 0xB = f.payload.drop 1 := by
    rw [hv]
    exact State.regBytes_setRegBytes _ _ _ _
  have hframe : v = { s with live := v.live } := by rw [hv]; rfl
  rw [← hv]
  clear hv
  by_cases hfetch : bit (field f.payload 0 1) 0 = true ∧ s.descFlag t.partner 1 = true
  · rw [if_pos hfetch]
    refine ⟨_, rfl, hC, hB, fun _ _ => congrArg PartnerWork.fetch (v.partner_modPartner_self t.partner (fun x => { x with fetch := true })), ?_⟩
    rw [hframe]
    rfl
  · rw [if_neg hfetch]
    refine ⟨v, rfl, hC, hB, fun h1 h2 => absurd ⟨h1, h2⟩ hfetch, ?_⟩
    have hlanes : v.lanes = s.lanes := by rw [hframe]
    rw [hlanes]
    exact hframe

theorem deliverAnswer_command {n q o : Nat} {v : List Byte} {orig : LaneOrigin} {t : LaneTransaction} {f : LaneRx} {s : State} (hf : f.type ≠ 14)
    (hr : t.request = .command q o v orig) : s.deliverAnswer n t f = (s.laneResult orig t.partner (ackStatus (field f.payload 1 1)) (if field f.payload 1 1 = 0 then 2 else 3)).laneSucceeds n t.partner := by
  unfold State.deliverAnswer
  dsimp only
  rw [if_neg hf, hr]

theorem deliverAnswer_read {n o : Nat} {orig : LaneOrigin} {t : LaneTransaction} {f : LaneRx} {s : State} (hf : f.type ≠ 14) (hr : t.request = .read o orig) :
    s.deliverAnswer n t f = ((s.storeResult n orig (f.payload.drop 1)).laneResult orig t.partner Status.ok 2).laneSucceeds n t.partner := by
  unfold State.deliverAnswer
  dsimp only
  rw [if_neg hf, hr]

theorem deliverAnswer_nak {n : Nat} {t : LaneTransaction} {f : LaneRx} {s : State} (hf : f.type = 14) : (t.request = .poll ∨ t.request = .fetch → s.deliverAnswer n t f = s.laneFails n t) ∧
    (t.request.type = 3 ∨ t.request.type = 4 → s.deliverAnswer n t f = (s.laneResult t.request.origin t.partner (if field f.payload 0 1 = 3 then Status.typeLength else Status.notPresent) 3).laneSucceeds n t.partner) := by
  unfold State.deliverAnswer
  dsimp only
  rw [if_pos hf]
  cases hr : t.request <;> simp [LaneRequest.type]

end Sys2Proof.Machine
end

section
/-! PROOF about the field lanes: attempts that fail, partners and lanes that change state, and LANE entries (R563, R565, R577, R579, R583, R584, R605). -/
set_option Elab.async false
namespace Sys2Proof.Machine

/-! ### Attempts that fail -/

theorem attemptFails_idle {n : Nat} {a : Bool} {s : State} (h : (s.lane n).current = none) : s.attemptFails n a = s := by
  unfold State.attemptFails
  rw [h]

theorem attemptFails_resent {n : Nat} {a : Bool} {t : LaneTransaction} {s : State} (h : (s.lane n).current = some t) (hr : t.resend = true) : s.attemptFails n a = s := by
  unfold State.attemptFails
  rw [h]
  exact if_pos hr

theorem attemptFails_retries {n : Nat} {a : Bool} {t : LaneTransaction} {s : State} (h : (s.lane n).current = some t) (hr : t.resend = false) (hl : t.left ≠ 0)
    (hp : s.partnerState t.partner ≠ 3) : ((s.attemptFails n a).lane n).current = some { t with aliveError := a, left := t.left - 1, resend := true } ∧
      s.attemptFails n a = { s with lanes := (s.attemptFails n a).lanes } := by
  have heq : s.attemptFails n a = (s.laneSpan n t.started (s.lane n).freeAt).modLane n (fun w => { w with
      current := some { { t with aliveError := a } with left := t.left - 1, resend := true } }) := by
    unfold State.attemptFails
    rw [h]
    dsimp only
    rw [if_neg (by rw [hr]; exact Bool.false_ne_true), if_neg (by rintro (h | h) <;> contradiction)]
  rw [heq]
  refine ⟨congrArg LaneWork.current (State.lane_modLane_self _ n (fun w => { w with current := some { { t with aliveError := a } with left := t.left - 1, resend := true } })), rfl⟩

theorem attemptFails_fails {n : Nat} {a : Bool} {t : LaneTransaction} {s : State} (h : (s.lane n).current = some t) (hr : t.resend = false)
    (hl : t.left = 0 ∨ s.partnerState t.partner = 3) : s.attemptFails n a = (s.laneSpan n t.started (s.lane n).freeAt).laneFails n { t with aliveError := a } := by
  unfold State.attemptFails
  rw [h]
  dsimp only
  rw [if_neg (by rw [hr]; exact Bool.false_ne_true), if_pos hl]

theorem responseTimeout_idle {n : Nat} {s : State} (h : (s.lane n).current = none) : exec (.responseTimeout n) s = .next s := by
  have hx : exec (.responseTimeout n) s = execResponseTimeout n s := rfl
  rw [hx, execResponseTimeout, h]

theorem responseTimeout_spec {n : Nat} {t : LaneTransaction} {s : State} (h : (s.lane n).current = some t) : (t.resend = true → exec (.responseTimeout n) s = .next s) ∧
    (t.resend = false → ∃ u : State, exec (.responseTimeout n) s = .next (u.attemptFails n false) ∧ u.now = max s.now t.deadline ∧ (u.lane n).freeAt = u.now + u.laneGap n ∧ (u.lane n).current = some t ∧
      u.reg (0x7000 + n) 0xD = satAdd (entryBits (0x7000 + n) 0xD) (s.reg (0x7000 + n) 0xD) 1 ∧ u = { s with now := u.now, clock := u.clock, live := u.live, lanes := u.lanes }) := by
  have hx : exec (.responseTimeout n) s = execResponseTimeout n s := rfl
  rw [hx, execResponseTimeout, h]
  refine ⟨fun hr => if_pos hr, fun hr => ?_⟩
  dsimp only
  rw [if_neg (by rw [hr]; exact Bool.false_ne_true)]
  obtain ⟨v, hv⟩ : ∃ v, v = (s.arriveAt t.deadline).inc (0x7000 + n) 0xD := ⟨_, rfl⟩
  have hnow : v.now = max s.now t.deadline := by rw [hv]; rfl
  have hreg : v.reg (0x7000 + n) 0xD = satAdd (entryBits (0x7000 + n) 0xD) (s.reg (0x7000 + n) 0xD) 1 := by
    rw [hv]
    exact State.reg_setReg_self _ _ _ _
  have hlane : v.lane n = s.lane n := by rw [hv]; rfl
  have hframe : v = { s with now := v.now, clock := v.clock, live := v.live } := by rw [hv]; rfl
  rw [← hv]
  clear hv
  have hmod := v.lane_modLane_self n (fun w => { w with freeAt := v.now + v.laneGap n })
  refine ⟨_, rfl, hnow, congrArg LaneWork.freeAt hmod, (congrArg LaneWork.current hmod).trans (by rw [hlane]; exact h), hreg, ?_⟩
  show ({ v with lanes := (v.modLane n (fun w => { w with freeAt := v.now + v.laneGap n })).lanes } : State) = { s with
    now := v.now, clock := v.clock, live := v.live, lanes := (v.modLane n (fun w => { w with freeAt := v.now + v.laneGap n })).lanes }
  generalize (v.modLane n (fun w => { w with freeAt := v.now + v.laneGap n })).lanes = l
  clear hmod hlane hreg hnow
  generalize v.now = a at hframe
  generalize v.clock = b at hframe
  generalize v.live = c at hframe
  rw [hframe]

theorem echoMismatch_elsewhere {n : Nat} {s : State} (h : s.laneRuns n = false ∨ s.laneMode n ≠ 1) : exec (.echoMismatch n) s = .next s := by
  have hx : exec (.echoMismatch n) s = execEchoMismatch n s := rfl
  rw [hx, execEchoMismatch, if_pos (by rcases h with h | h <;> simp [h])]

theorem echoMismatch_fails {n : Nat} {s : State} (h : s.laneRuns n = true) (hm : s.laneMode n = 1) : ∃ u : State, exec (.echoMismatch n) s = .next (u.attemptFails n false) ∧
    u.reg (0x7000 + n) 0xE = satAdd (entryBits (0x7000 + n) 0xE) (s.reg (0x7000 + n) 0xE) 1 ∧ (u.lane n).freeAt = s.now + s.laneGap n ∧ u = { s with live := u.live, lanes := u.lanes } := by
  have hx : exec (.echoMismatch n) s = execEchoMismatch n s := rfl
  rw [hx, execEchoMismatch, if_neg (by simp [h, hm])]
  exact ⟨_, rfl, State.reg_setReg_self _ _ _ _,
    congrArg LaneWork.freeAt ((s.inc (0x7000 + n) 0xE).lane_modLane_self n (fun w => { w with freeAt := s.now + s.laneGap n })), rfl⟩

/-! ### Transactions that fail -/

theorem laneFails_spec (n : Nat) (t : LaneTransaction) (s : State) : ∃ u v : State, v = u.laneResult t.request.origin t.partner Status.timeout (if t.aliveError then 5 else 4) ∧
    u.reg (0x7100 + t.partner) 0x10 = satAdd (entryBits (0x7100 + t.partner) 0x10) (s.reg (0x7100 + t.partner) 0x10) 1 ∧ u.reg (0x7100 + t.partner) 0x11 = satAdd (entryBits (0x7100 + t.partner) 0x11) (s.reg (0x7100 + t.partner) 0x11) 1 ∧
    u = { s with live := u.live } ∧ (t.request.type ≠ 1 → s.laneFails n t = (if v.partnerState t.partner = 2 ∧ v.use (0x7100 + t.partner) 5 ≤ v.reg (0x7100 + t.partner) 0x11 then v.setPartner t.partner 3 1 else v).laneIdle n) ∧
    (t.request.type = 1 → s.laneFails n t = (if v.partnerState t.partner = 1 then v.setPartner t.partner (if (v.partner t.partner).identity.isSome then 3 else 4) 1 else v).laneIdle n) := by
  refine ⟨(s.inc (0x7100 + t.partner) 0x10).inc (0x7100 + t.partner) 0x11, _, rfl, ?_, ?_, rfl, fun h => ?_, fun h => ?_⟩
  · exact (State.reg_setReg_of_ne _ _ _ _ _ _ (entryKey_inst_ne (by decide))).trans (State.reg_setReg_self _ _ _ _)
  · refine (State.reg_setReg_self _ _ _ _).trans ?_
    rw [show (s.inc (0x7100 + t.partner) 0x10).reg (0x7100 + t.partner) 0x11 = s.reg (0x7100 + t.partner) 0x11 from
      State.reg_setReg_of_ne _ _ _ _ _ _ (entryKey_inst_ne (by decide))]
  · unfold State.laneFails
    cases hr : t.request with
    | discover k => exact absurd (by rw [hr]; rfl) h
    | poll | command | read | fetch | eventAck => rfl
  · unfold State.laneFails
    cases hr : t.request with
    | discover k => rfl
    | poll | command | read | fetch | eventAck => rw [hr] at h; exact absurd h (by simp [LaneRequest.type])

/-! ### States of partners and lanes -/

theorem recoveryExpiry_spec (p : Nat) (s : State) : (s.serving = false ∨ s.partnerState p < 3 ∨ s.laneState (p / 32) = 4 → exec (.recoveryExpiry p) s = .next s) ∧
    (s.serving = true → 3 ≤ s.partnerState p → s.laneState (p / 32) ≠ 4 →
      exec (.recoveryExpiry p) s = .next ((s.arriveAt ((s.partner p).attempted + ms (s.use (0x7100 + p) 6))).setPartner p 1 0)) := by
  have hx : exec (.recoveryExpiry p) s = execRecoveryExpiry p s := rfl
  rw [hx, execRecoveryExpiry]
  exact ⟨fun h => if_pos (by rcases h with h | h | h <;> simp [h]), fun h h3 h4 => if_neg (by simp [h, h4]; omega)⟩

/-- A partner's state is set, and what waits for it is brought up to date, before its event (R577, R605). -/
def State.partnerMoved (s : State) (p st : Nat) : State :=
  let s1 : State := if s.partnerState p = 2 ∧ st = 3 then
      (((s.lane (p / 32)).queue.filter (fun e => e.1 = p)).foldl (fun (t : State) e => t.endLaneEntry e.2.origin Status.aborted) s).modLane (p / 32) (fun w => { w with
        queue := w.queue.filter (fun e => e.1 ≠ p) })
    else s
  let s2 := if st = 1 then ((s1.modLane (p / 32) (fun w => { w with offsets := Tab.erase w.offsets (p % 32) })).offsetBytes (p / 32) (p % 32)).modPartner p (fun x => { x with
      page := 0, pageCount := 0, pages := [], fresh := true, alive := false, rxAlive := none, requests := 0, aliveRun := 0, fetch := false })
    else s1
  let s3 := s2.setReg (0x7100 + p) 8 st
  let s3b := if 3 ≤ st then s3.modPartner p (fun x => { x with attempted := s3.now }) else s3
  s3b.setReg (0x7100 + p) 0x14 (s3b.pollPeriod p)

theorem State.setPartner_eq (s : State) (p st c : Nat) : s.setPartner p st c = if s.partnerState p = st then s.partnerMoved p st
    else (s.partnerMoved p st).event ((s.partnerMoved p st).partnerHolder p (p / 32)) 0x0061 p Status.ok (p / 32 / 8) st
      (field ((s.partnerMoved p st).desc p) 2 2 + 65536 * field ((s.partnerMoved p st).desc p) 4 2 + 2 ^ 32 * field ((s.partnerMoved p st).desc p) 1 1 + 2 ^ 40 * c) := rfl

theorem State.now_endLaneEntries (status : Nat) : ∀ (l : List (Nat × LaneRequest)) (s : State), (l.foldl (fun (t : State) e => t.endLaneEntry e.2.origin status) s).now = s.now
  | [], _ => rfl
  | e :: l, s => (State.now_endLaneEntries status l _).trans (State.endLaneEntry_eff s e.2.origin status (Eff.refl 17593261891712 s) rfl).now_eq

theorem partnerMoved_spec (p st : Nat) (s : State) : (s.partnerMoved p st).partnerState p = st ∧ (st = 1 → ((s.partnerMoved p st).partner p).alive = false ∧
    ((s.partnerMoved p st).partner p).rxAlive = none ∧ ((s.partnerMoved p st).partner p).page = 0 ∧ ((s.partnerMoved p st).partner p).fresh = true) ∧
    (3 ≤ st → ((s.partnerMoved p st).partner p).attempted = s.now) := by
  unfold State.partnerMoved
  extract_lets s1 s2 s3 s3b
  have hnow1 : s1.now = s.now := by
    simp only [s1]
    split
    · exact State.now_endLaneEntries Status.aborted _ s
    · rfl
  clear_value s1
  have hs2 : s2.now = s.now ∧ (st = 1 → s2.partner p = { s1.partner p with
      page := 0, pageCount := 0, pages := [], fresh := true, alive := false, rxAlive := none, requests := 0, aliveRun := 0, fetch := false }) := by
    simp only [s2]
    by_cases h : st = 1
    · rw [if_pos h]
      exact ⟨hnow1, fun _ => State.partner_modPartner_self _ p (fun x => { x with
        page := 0, pageCount := 0, pages := [], fresh := true, alive := false, rxAlive := none, requests := 0, aliveRun := 0, fetch := false })⟩
    · rw [if_neg h]
      exact ⟨hnow1, fun h' => absurd h' h⟩
  obtain ⟨hnow2, hp2⟩ := hs2
  clear_value s2
  have hstate : s3b.reg (0x7100 + p) 8 = st := by
    simp only [s3b]
    split
    · exact State.reg_setReg_self _ _ _ _
    · exact State.reg_setReg_self _ _ _ _
  refine ⟨(State.reg_setReg_of_ne _ _ _ _ _ _ (entryKey_inst_ne (by decide))).trans hstate, fun h => ?_, fun h => ?_⟩
  · have hpart : s3b.partner p = s2.partner p := by
      simp only [s3b]
      rw [if_neg (by omega)]
      rfl
    have hfin : (s3b.setReg (0x7100 + p) 0x14 (s3b.pollPeriod p)).partner p = s2.partner p := hpart
    rw [hfin, hp2 h]
    exact ⟨rfl, rfl, rfl, rfl⟩
  · have hpart : s3b.partner p = { s3.partner p with attempted := s3.now } := by
      simp only [s3b]
      rw [if_pos h]
      exact s3.partner_modPartner_self p (fun x => { x with attempted := s3.now })
    have hfin : (s3b.setReg (0x7100 + p) 0x14 (s3b.pollPeriod p)).partner p = { s3.partner p with attempted := s3.now } := hpart
    rw [hfin]
    exact hnow2

theorem setPartner_spec (p st c : Nat) (s : State) : (s.setPartner p st c).partnerState p = st ∧ (st = 1 → ((s.setPartner p st c).partner p).alive = false ∧ ((s.setPartner p st c).partner p).rxAlive = none ∧
    ((s.setPartner p st c).partner p).page = 0 ∧ ((s.setPartner p st c).partner p).fresh = true) ∧
    (3 ≤ st → ((s.setPartner p st c).partner p).attempted = s.now) := by
  have h := partnerMoved_spec p st s
  rw [State.setPartner_eq]
  generalize s.partnerMoved p st = t at h ⊢
  split
  · exact h
  · rw [State.partner_of_lanes (State.lanes_event _ _ _ _ _ _ _ _)]
    exact ⟨(State.reg_event _ _ _ _ _ _ _ _ _ _ (by decide)).trans h.1, h.2⟩

theorem laneState_setLaneState (n st : Nat) (s : State) : (s.setLaneState n st).laneState n = st := by
  unfold State.setLaneState
  split
  · rename_i h
    exact h
  · exact (State.reg_event _ _ _ _ _ _ _ _ _ _ (by decide)).trans (State.reg_setReg_self _ _ _ _)

theorem reg_setLaneState (n st k : Nat) (s : State) (h9 : k % 256 ≠ 9) (h12 : k % 256 ≠ 0x12) : (s.setLaneState n st).reg (0x7000 + n) k = s.reg (0x7000 + n) k := by
  unfold State.setLaneState
  split
  · rfl
  · exact (State.reg_event _ _ _ _ _ _ _ _ _ _ h12).trans (State.reg_setReg_of_ne _ _ _ _ _ _ (entryKey_inst_ne (Ne.symm h9)))

theorem laneBusOffRecovery_spec (n : Nat) (s : State) : (s.serving = false ∨ s.laneState n ≠ 3 → exec (.laneBusOffRecovery n) s = .next s) ∧
    (s.serving = true → s.laneState n = 3 → ∃ t : State, exec (.laneBusOffRecovery n) s = .next t ∧ t.laneState n = 1) := by
  have hx : exec (.laneBusOffRecovery n) s = execLaneBusOffRecovery n s := rfl
  rw [hx, execLaneBusOffRecovery]
  refine ⟨fun h => ?_, fun h h3 => ?_⟩
  · rw [if_neg (by rcases h with h | h <;> simp [h])]
  · rw [if_pos ⟨h, h3⟩]
    exact ⟨_, rfl, laneState_setLaneState n 1 s⟩

theorem laneErrorPassive_elsewhere {n st : Nat} {s : State} (h : s.laneRuns n = false ∨ s.laneMode n ≠ 2 ∨ st = 0 ∨ 3 < st ∨ s.laneState n = 3) :
    exec (.laneErrorPassive n st) s = .next s := by
  have hx : exec (.laneErrorPassive n st) s = execLaneErrorPassive n st s := rfl
  rw [hx, execLaneErrorPassive, if_pos (by rcases h with h | h | h | h | h <;> simp [h])]

theorem laneErrorPassive_moves {n st : Nat} {s : State} (h : s.laneRuns n = true) (hm : s.laneMode n = 2) (h0 : st ≠ 0) (h3 : st ≤ 3) (hb : s.laneState n ≠ 3) :
    ∃ t : State, exec (.laneErrorPassive n st) s = .next t ∧ t.laneState n = st ∧
      t.reg (0x7000 + n) 0x10 = (if st = 3 then satAdd (entryBits (0x7000 + n) 0x10) (s.reg (0x7000 + n) 0x10) 1 else s.reg (0x7000 + n) 0x10) := by
  have hx : exec (.laneErrorPassive n st) s = execLaneErrorPassive n st s := rfl
  rw [hx, execLaneErrorPassive, if_neg (by simp [h, hm, h0, hb]; omega)]
  refine ⟨_, rfl, laneState_setLaneState n st _, (reg_setLaneState n st 0x10 _ (by decide) (by decide)).trans ?_⟩
  split
  · exact State.reg_setReg_self _ _ _ _
  · rfl

/-! ### LANE entries -/

theorem laneEntry_fails {e : Entry} {op : Nat} {b : LaneEntry} {s : State} (h : s.canFetch e 4 = false) :
    exec (.laneCommand e op b) s = .next (s.fetchFails e 4) ∧ exec (.laneRead e b) s = .next (s.fetchFails e 4) := by
  have hg : ∀ ok r, s.laneEntry e ok b r = s.fetchFails e 4 := by
    intro ok r
    unfold State.laneEntry
    dsimp only
    rw [if_pos (by simp [h])]
  exact ⟨congrArg Host.Outcome.next (hg _ _), congrArg Host.Outcome.next (hg _ _)⟩

theorem laneEntry_malformed {e : Entry} {ok : Bool} {b : LaneEntry} {r : LaneOrigin → LaneRequest} {s : State} (hf : s.canFetch e 4 = true)
    (h : ok = false ∨ 1 < e.flags ∨ b.object = 0 ∨ 254 < b.object ∨ 1 < b.laneFlags ∨ b.reservedZero = false) :
    s.laneEntry e ok b r = (s.fetched e).stopQueue e.inst e.q Status.range := by
  unfold State.laneEntry
  dsimp only
  rw [if_neg (by simp [hf]), if_pos (by rcases h with h | h | h | h | h | h <;> simp [entryFlagsOk, h])]

theorem laneCommand_malformed {e : Entry} {op : Nat} {b : LaneEntry} {s : State} (hf : s.canFetch e 4 = true)
    (h : 1 < e.flags ∨ b.object = 0 ∨ 254 < b.object ∨ 1 < b.laneFlags ∨ b.reservedZero = false ∨ op ≠ 1 ∨ b.length = 0 ∨ 40 < b.length ∨ b.resultAddr ≠ 0 ∨ allZero (b.value.drop b.length) = false) :
    exec (.laneCommand e op b) s = .next ((s.fetched e).stopQueue e.inst e.q Status.range) := by
  refine congrArg Host.Outcome.next (laneEntry_malformed hf ?_)
  rcases h with h | h | h | h | h | h | h | h | h | h
  · exact Or.inr (Or.inl h)
  · exact Or.inr (Or.inr (Or.inl h))
  · exact Or.inr (Or.inr (Or.inr (Or.inl h)))
  · exact Or.inr (Or.inr (Or.inr (Or.inr (Or.inl h))))
  · exact Or.inr (Or.inr (Or.inr (Or.inr (Or.inr h))))
  all_goals exact Or.inl (by simp [h])

theorem laneRead_malformed {e : Entry} {b : LaneEntry} {s : State} (hf : s.canFetch e 4 = true)
    (h : 1 < e.flags ∨ b.object = 0 ∨ 254 < b.object ∨ 1 < b.laneFlags ∨ b.reservedZero = false ∨ b.length = 0 ∨ 58 < b.length) :
    exec (.laneRead e b) s = .next ((s.fetched e).stopQueue e.inst e.q Status.range) := by
  refine congrArg Host.Outcome.next (laneEntry_malformed hf ?_)
  rcases h with h | h | h | h | h | h | h
  · exact Or.inr (Or.inl h)
  · exact Or.inr (Or.inr (Or.inl h))
  · exact Or.inr (Or.inr (Or.inr (Or.inl h)))
  · exact Or.inr (Or.inr (Or.inr (Or.inr (Or.inl h))))
  · exact Or.inr (Or.inr (Or.inr (Or.inr (Or.inr h))))
  all_goals exact Or.inl (by simp [h])

theorem laneEntry_judged {e : Entry} {b : LaneEntry} {r : LaneOrigin → LaneRequest} {tg : Nat} {o : LaneOrigin} {s u : State} (hf : s.canFetch e 4 = true) (hfl : e.flags ≤ 1)
    (h0 : b.object ≠ 0) (h254 : b.object ≤ 254) (hlf : b.laneFlags ≤ 1) (hz : b.reservedZero = true) (htg : tg = (s.sq e.inst e.q).target)
    (ho : o = .entry e.inst e.q e.tag (bit e.flags 0) b) (hu : u = s.fetched e) :
    ((0x1000 ≤ tg ∧ b.partner ≠ tg - 0x1000) ∨ (tg < 0x1000 ∧ b.partner / 32 ≠ tg) → s.laneEntry e true b r = u.endEntry e.inst e.q e.tag (bit e.flags 0) Status.deniedInstance) ∧
    ((0x1000 ≤ tg ∧ b.partner = tg - 0x1000) ∨ (tg < 0x1000 ∧ b.partner / 32 = tg) →
      (s.laneState (b.partner / 32) = 0 ∨ s.laneState (b.partner / 32) = 4 → s.laneEntry e true b r = u.endEntry e.inst e.q e.tag (bit e.flags 0) Status.aborted) ∧
      (s.laneState (b.partner / 32) ≠ 0 → s.laneState (b.partner / 32) ≠ 4 → s.laneEntry e true b r =
        u.modLane (b.partner / 32) (fun w => { w with queue := w.queue ++ [(b.partner, r o)] }))) := by
  have hok : ¬ ((!true) = true ∨ (!entryFlagsOk e) = true ∨ b.object = 0 ∨ 254 < b.object ∨ 1 < b.laneFlags ∨ (!b.reservedZero) = true) := by
    simp [entryFlagsOk, hfl, h0, hz]
    omega
  unfold State.laneEntry
  dsimp only
  rw [if_neg (by simp [hf]), if_neg hok, ← htg, ← hu]
  have hstate : u.laneState (b.partner / 32) = s.laneState (b.partner / 32) := by rw [hu]; rfl
  rw [hstate]
  refine ⟨fun h => ?_, fun h => ?_⟩
  · rw [if_pos]
    · rfl
    · rcases h with ⟨h1, h2⟩ | ⟨h1, h2⟩
      · rw [if_pos h1]
        simp [h2]
      · rw [if_neg (by omega)]
        simp [h2]
  · rw [if_neg]
    · refine ⟨fun hl => ?_, fun hl0 hl4 => ?_⟩
      · rw [if_pos hl]
        rfl
      · rw [if_neg (by rintro (h | h) <;> contradiction), ho]
        rfl
    · rcases h with ⟨h1, h2⟩ | ⟨h1, h2⟩
      · rw [if_pos h1]
        simp [h2]
      · rw [if_neg (by omega)]
        simp [h2]

/-- A LANE entry of a well-formed body, as its lane takes it. -/
theorem laneEntry_spec {e : Entry} {b : LaneEntry} {tg : Nat} {o : LaneOrigin} {s u : State} (hf : s.canFetch e 4 = true) (hfl : e.flags ≤ 1)
    (h0 : b.object ≠ 0) (h254 : b.object ≤ 254) (hlf : b.laneFlags ≤ 1) (hz : b.reservedZero = true) (hlen : 1 ≤ b.length) (htg : tg = (s.sq e.inst e.q).target)
    (ho : o = .entry e.inst e.q e.tag (bit e.flags 0) b) (hu : u = s.fetched e) {i : Instr} (hi : i ∈ [Instr.laneCommand e 1 b, .laneRead e b])
    (hread : i = .laneRead e b → b.length ≤ 58) (hcmd : i = .laneCommand e 1 b → b.length ≤ 40 ∧ b.resultAddr = 0 ∧ allZero (b.value.drop b.length) = true) :
    ((0x1000 ≤ tg ∧ b.partner ≠ tg - 0x1000) ∨ (tg < 0x1000 ∧ b.partner / 32 ≠ tg) → exec i s = .next (u.endEntry e.inst e.q e.tag (bit e.flags 0) Status.deniedInstance)) ∧
    ((0x1000 ≤ tg ∧ b.partner = tg - 0x1000) ∨ (tg < 0x1000 ∧ b.partner / 32 = tg) →
      (s.laneState (b.partner / 32) = 0 ∨ s.laneState (b.partner / 32) = 4 → exec i s = .next (u.endEntry e.inst e.q e.tag (bit e.flags 0) Status.aborted)) ∧
      (s.laneState (b.partner / 32) ≠ 0 → s.laneState (b.partner / 32) ≠ 4 → ∃ t : State, exec i s = .next t ∧ t = { u with lanes := t.lanes } ∧ (t.lane (b.partner / 32)).queue = (s.lane (b.partner / 32)).queue ++
        [(b.partner, if i = .laneRead e b then .read b.object o else .command 0 b.object ((b.value ++ List.replicate 40 0).take b.length) o)])) := by
  obtain ⟨r, hr, hro⟩ : ∃ r : LaneOrigin → LaneRequest, exec i s = .next (s.laneEntry e true b r) ∧
      r o = if i = .laneRead e b then .read b.object o else .command 0 b.object ((b.value ++ List.replicate 40 0).take b.length) o := by
    rcases List.mem_cons.1 hi with h | h
    · obtain ⟨h40, hra, haz⟩ := hcmd h
      refine ⟨fun o => .command 0 b.object ((b.value ++ List.replicate 40 0).take b.length) o, ?_, ?_⟩
      · rw [h]
        show Host.Outcome.next (s.laneEntry e (decide (1 = 1 ∧ 1 ≤ b.length ∧ b.length ≤ 40 ∧ b.resultAddr = 0) && allZero (b.value.drop b.length)) b _) = _
        rw [haz, decide_eq_true ⟨rfl, hlen, h40, hra⟩]
        rfl
      · rw [if_neg (by rw [h]; exact fun h' => by cases h')]
    · have h := List.mem_singleton.1 h
      refine ⟨fun o => .read b.object o, ?_, by rw [if_pos h]⟩
      rw [h]
      show Host.Outcome.next (s.laneEntry e (decide (1 ≤ b.length ∧ b.length ≤ 58)) b _) = _
      rw [decide_eq_true ⟨hlen, hread h⟩]
  obtain ⟨h1, h2⟩ := laneEntry_judged (r := r) hf hfl h0 h254 hlf hz htg ho hu
  rw [hr]
  refine ⟨fun h => by rw [h1 h], fun h => ⟨fun hl => by rw [(h2 h).1 hl], fun hl0 hl4 => ?_⟩⟩
  rw [(h2 h).2 hl0 hl4, ← hro]
  refine ⟨_, rfl, rfl, (congrArg LaneWork.queue (u.lane_modLane_self (b.partner / 32) (fun w => { w with queue := w.queue ++ [(b.partner, r o)] }))).trans ?_⟩
  rw [hu]
  rfl

end Sys2Proof.Machine
end

section
/-! PROOF about the field lanes' group commands (R585, R586, R590, R593). -/
set_option Elab.async false
namespace Sys2Proof.Machine

/-! ### A slot's results -/

theorem field_byte : ∀ (bs : List Byte) (k : Nat), field bs k 1 = (bs.getD k 0).toNat
  | [], k => by simp [field, slice, leNat]
  | b :: bs, 0 => by simp [field, slice, leNat]
  | b :: bs, k + 1 => (field_byte bs k).trans (by simp)

theorem field_byte_lt (bs : List Byte) (k : Nat) : field bs k 1 < 256 := by
  rw [field_byte]
  exact BitVec.isLt _

theorem field_byte_set (bs : List Byte) {k v : Nat} (j : Nat) (hk : k < bs.length) (hv : v < 256) :
    field (bs.set k (BitVec.ofNat 8 v)) j 1 = if j = k then v else field bs j 1 := by
  rw [field_byte, field_byte, List.getD_eq_getElem?_getD, List.getD_eq_getElem?_getD, List.getElem?_set]
  by_cases h : k = j
  · subst h
    simp [hk]
    omega
  · rw [if_neg h, if_neg (fun e => h e.symm)]

/-- Writing one nibble leaves the others. -/
theorem groupResult_setNibble {bs : List Byte} {p v : Nat} (q : Nat) (hp : p / 2 < bs.length) (hv : v < 16) :
    groupResult (setNibble bs p v) q = if q = p then v else groupResult bs q := by
  have hb := field_byte_lt bs (p / 2)
  have hval : (if p % 2 = 0 then field bs (p / 2) 1 / 16 * 16 + v else field bs (p / 2) 1 % 16 + 16 * v) < 256 := by split <;> omega
  unfold groupResult setNibble
  dsimp only
  rw [field_byte_set bs (q / 2) hp hval]
  by_cases hq : q / 2 = p / 2
  · rw [if_pos hq, hq]
    generalize field bs (p / 2) 1 = b at hb
    by_cases hpar : p % 2 = 0 <;> by_cases hqar : q % 2 = 0 <;> simp only [hpar, hqar, if_true, if_false]
    · rw [if_pos (by omega)]; omega
    · rw [if_neg (by omega)]; omega
    · rw [if_neg (by omega)]; omega
    · rw [if_pos (by omega)]; omega
  · rw [if_neg hq, if_neg (show q ≠ p from fun e => hq (by rw [e]))]

theorem length_setNibble (bs : List Byte) (p v : Nat) : (setNibble bs p v).length = bs.length := List.length_set

theorem groupResult_pending (q : Nat) : ∀ (ts : List Nat) (bs : List Byte), bs.length = 1024 → (∀ p ∈ ts, p < 2048) →
    groupResult (ts.foldl (fun (b : List Byte) p => setNibble b p 1) bs) q = if q ∈ ts then 1 else groupResult bs q
  | [], bs, _, _ => by simp
  | p :: ts, bs, hl, ht => by
    have hp : p < 2048 := ht p List.mem_cons_self
    rw [List.foldl_cons, groupResult_pending q ts _ (by rw [length_setNibble, hl]) (fun x hx => ht x (List.mem_cons_of_mem p hx)),
      groupResult_setNibble q (by omega) (by decide)]
    by_cases hq : q ∈ ts <;> by_cases he : q = p <;> simp [hq, he]

theorem groupResult_blank (q : Nat) : groupResult (List.replicate 1024 0) q = 0 := by
  unfold groupResult
  rw [field_byte, List.getD_eq_getElem?_getD, List.getElem?_replicate]
  by_cases h : q / 2 < 1024
  · rw [if_pos h]
    exact ite_self _
  · rw [if_neg h]
    exact ite_self _

theorem groupTargets_lt {bs : List Byte} : ∀ p ∈ groupTargets bs, p < 2048 := fun _ hp => List.mem_range.1 (List.mem_filter.1 hp).1

/-! ### A group starts -/

/-- The results of a slot whose targets are all pending (R593). -/
def groupMarks (ts : List Nat) : List Byte := ts.foldl (fun (b : List Byte) p => setNibble b p 1) (List.replicate 1024 0)

/-- A slot shows that it runs, with the results it begins with (R585). -/
def State.groupBegun (s : State) (g : Nat) (bs : List Byte) : State :=
  let i := 0x7900 + g
  let s1 := (((((s.setReg i 6 1).setReg i 7 0).setRegBytes i 8 bs).setReg i 9 0).setReg i 0xA 0).setReg i 0xB s.now
  { s1 with lanes := { s1.lanes with owners := Tab.put s1.lanes.owners g (s.groupHolder g) } }

/-- The targets of a slot on one lane are handed to it, or end there (R585, R586). -/
def State.groupSpread (g : Nat) (ts : List Nat) (t : State) (n : Nat) : State :=
  let here := ts.filter (fun p => p / 32 = n)
  if here = [] then t
  else if t.laneState n = 4 ∨ !t.laneServed (n / 8) then here.foldl (fun (u : State) p => u.groupTarget g p 7) t
  else if t.laneState n = 0 then here.foldl (fun (u : State) p => u.groupTarget g p 6) t
  else t.modLane n (fun w => { w with groups := w.groups ++ here.map (fun p => (g, p)) })

/-- The targets of a slot on one lane that runs are handed to it. -/
def State.groupJoin (g : Nat) (ts : List Nat) (t : State) (n : Nat) : State :=
  if ts.filter (fun p => p / 32 = n) = [] then t
  else t.modLane n (fun w => { w with groups := w.groups ++ (ts.filter (fun p => p / 32 = n)).map (fun p => (g, p)) })

theorem groupStartWrite_range {req : Requester} {g v : Nat} {ts : List Nat} {u : State} (ht : ts = groupTargets (u.regBytes (0x7900 + g) 1))
    (h : v ≠ 1 ∨ ts = [] ∨ (∃ p ∈ ts, 32 * u.laneCount ≤ p ∨ u.use (0x7100 + p) 1 = 0) ∨ (u.regBytes (0x7900 + g) 3).length = 0 ∨ 40 < (u.regBytes (0x7900 + g) 3).length) :
    u.groupStartWrite req g v = (Status.range, u) := by
  unfold State.groupStartWrite
  dsimp only
  rw [← ht, if_pos]
  rcases h with h | h | ⟨p, hp, h⟩ | h | h
  · exact Or.inl h
  · exact Or.inr (Or.inl h)
  · exact Or.inr (Or.inr (Or.inl (List.any_eq_true.2 ⟨p, hp, decide_eq_true h⟩)))
  · exact Or.inr (Or.inr (Or.inr (Or.inl h)))
  · exact Or.inr (Or.inr (Or.inr (Or.inr h)))

theorem groupStartWrite_accepted {req : Requester} {g : Nat} {ts : List Nat} {u : State} (ht : ts = groupTargets (u.regBytes (0x7900 + g) 1)) (hne : ts ≠ [])
    (hall : ∀ p ∈ ts, p < 32 * u.laneCount ∧ u.use (0x7100 + p) 1 ≠ 0) (h1 : 1 ≤ (u.regBytes (0x7900 + g) 3).length) (h40 : (u.regBytes (0x7900 + g) 3).length ≤ 40) :
    ((∃ k, instanceOf? req = some k ∧ ∃ p ∈ ts, u.partnerHolder p (p / 32) ≠ k) → u.groupStartWrite req g 1 = (Status.deniedInstance, u)) ∧
    ((∀ k, instanceOf? req = some k → ∀ p ∈ ts, u.partnerHolder p (p / 32) = k) → u.groupStartWrite req g 1 =
      if u.reg (0x7900 + g) 6 = 1 then (Status.busy, u) else (Status.pending, (u.groupBegun g (groupMarks ts)).each (List.range u.laneCount) (State.groupSpread g ts))) := by
  have hrange : ¬ (1 ≠ 1 ∨ ts = [] ∨ ts.any (fun p => decide (32 * u.laneCount ≤ p ∨ u.use (0x7100 + p) 1 = 0)) = true ∨ (u.regBytes (0x7900 + g) 3).length = 0 ∨
      40 < (u.regBytes (0x7900 + g) 3).length) := by
    rintro (h | h | h | h | h)
    · exact h rfl
    · exact hne h
    · obtain ⟨p, hp, h⟩ := List.any_eq_true.1 h
      obtain ⟨h3, h4⟩ := hall p hp
      rcases of_decide_eq_true h with h | h
      · omega
      · exact h4 h
    · omega
    · omega
  unfold State.groupStartWrite
  dsimp only
  rw [← ht, if_neg hrange]
  refine ⟨fun ⟨k, hk, p, hp, hh⟩ => ?_, fun h => ?_⟩
  · rw [hk]
    dsimp only
    rw [if_pos]
    rw [Bool.not_eq_true', List.all_eq_false]
    exact ⟨p, hp, by simpa using hh⟩
  · rw [if_neg]
    · rfl
    · rw [Bool.not_eq_true', Bool.not_eq_false, List.all_eq_true]
      intro p hp
      cases hk : instanceOf? req with
      | none => rfl
      | some k => exact decide_eq_true (h k hk p hp)

theorem frame_groupBegun (g : Nat) (bs : List Byte) (u : State) : u.groupBegun g bs = { u with live := (u.groupBegun g bs).live, lanes := (u.groupBegun g bs).lanes } ∧
    ∀ n, (u.groupBegun g bs).lane n = u.lane n := by
  obtain ⟨w, hw⟩ : ∃ w, w = (((((u.setReg (0x7900 + g) 6 1).setReg (0x7900 + g) 7 0).setRegBytes (0x7900 + g) 8 bs).setReg (0x7900 + g) 9 0).setReg (0x7900 + g) 0xA 0).setReg
    (0x7900 + g) 0xB u.now := ⟨_, rfl⟩
  have he : Eff 128 u w := by
    rw [hw]
    have h8 := State.setRegBytes_eff _ (0x7900 + g) 8 bs (State.setReg_eff _ (0x7900 + g) 7 0 (State.setReg_eff u (0x7900 + g) 6 1 (Eff.refl 128 u) rfl) rfl) rfl
    exact State.setReg_eff _ (0x7900 + g) 0xB u.now (State.setReg_eff _ (0x7900 + g) 0xA 0 (State.setReg_eff _ (0x7900 + g) 9 0 h8 rfl) rfl) rfl
  have hframe : w = { u with live := w.live } := he.frame
  have hbegun : u.groupBegun g bs = { w with lanes := { w.lanes with owners := Tab.put w.lanes.owners g (u.groupHolder g) } } := by rw [hw]; rfl
  have hlanes : w.lanes.lanes = u.lanes.lanes := congrArg Lanes.lanes he.lanes_eq
  rw [hbegun]
  clear hbegun hw he
  refine ⟨?_, fun n => congrArg (fun t : Tab LaneWork => Tab.getD t n ({} : LaneWork)) hlanes⟩
  generalize ({ w.lanes with owners := Tab.put w.lanes.owners g (u.groupHolder g) } : Lanes) = l
  show ({ w with lanes := l } : State) = { u with live := w.live, lanes := l }
  generalize w.live = b at hframe
  rw [hframe]

theorem groupBegun_spec (g : Nat) (bs : List Byte) (u : State) : (u.groupBegun g bs).reg (0x7900 + g) 6 = 1 ∧ (u.groupBegun g bs).reg (0x7900 + g) 9 = 0 ∧
    (u.groupBegun g bs).reg (0x7900 + g) 0xA = 0 ∧ (u.groupBegun g bs).reg (0x7900 + g) 0xB = u.now ∧ (u.groupBegun g bs).regBytes (0x7900 + g) 8 = bs ∧
    (u.groupBegun g bs) = { u with live := (u.groupBegun g bs).live, lanes := (u.groupBegun g bs).lanes } ∧
    (∀ n, (u.groupBegun g bs).lane n = u.lane n) ∧
    (∀ j k, k % 256 < 6 ∨ j < 0x7900 → k < 256 → (u.groupBegun g bs).reg j k = u.reg j k) := by
  have hat : ∀ j k, (u.groupBegun g bs).liveAt j k = ((((((u.setReg (0x7900 + g) 6 1).setReg (0x7900 + g) 7 0).setRegBytes (0x7900 + g) 8 bs).setReg (0x7900 + g) 9 0).setReg (0x7900 + g) 0xA 0).setReg
      (0x7900 + g) 0xB u.now).liveAt j k := fun j k => rfl
  refine ⟨?_, ?_, ?_, ?_, ?_, (frame_groupBegun g bs u).1, (frame_groupBegun g bs u).2, fun j k hjk hk => ?_⟩
  · rw [State.reg_of_liveAt (hat _ _), State.reg_setReg_of_ne _ _ _ _ _ _ (entryKey_inst_ne (by decide)), State.reg_setReg_of_ne _ _ _ _ _ _ (entryKey_inst_ne (by decide)),
      State.reg_setReg_of_ne _ _ _ _ _ _ (entryKey_inst_ne (by decide)), State.reg_of_liveAt (State.liveAt_setRegBytes_of_ne (entryKey_inst_ne (by decide))),
      State.reg_setReg_of_ne _ _ _ _ _ _ (entryKey_inst_ne (by decide)), State.reg_setReg_self]
  · rw [State.reg_of_liveAt (hat _ _), State.reg_setReg_of_ne _ _ _ _ _ _ (entryKey_inst_ne (by decide)), State.reg_setReg_of_ne _ _ _ _ _ _ (entryKey_inst_ne (by decide)),
      State.reg_setReg_self]
  · rw [State.reg_of_liveAt (hat _ _), State.reg_setReg_of_ne _ _ _ _ _ _ (entryKey_inst_ne (by decide)), State.reg_setReg_self]
  · rw [State.reg_of_liveAt (hat _ _), State.reg_setReg_self]
  · rw [State.regBytes_of_liveAt (hat _ _), State.regBytes_of_liveAt (State.liveAt_setReg_of_ne (entryKey_inst_ne (by decide))),
      State.regBytes_of_liveAt (State.liveAt_setReg_of_ne (entryKey_inst_ne (by decide))), State.regBytes_of_liveAt (State.liveAt_setReg_of_ne (entryKey_inst_ne (by decide))),
      State.regBytes_setRegBytes]
  · have hne : ∀ m, 6 ≤ m → m < 256 → entryKey (0x7900 + g) m ≠ entryKey j k := by
      intro m h6 hm
      unfold entryKey
      omega
    rw [State.reg_of_liveAt (hat _ _), State.reg_setReg_of_ne _ _ _ _ _ _ (hne 0xB (by decide) (by decide)), State.reg_setReg_of_ne _ _ _ _ _ _ (hne 0xA (by decide) (by decide)),
      State.reg_setReg_of_ne _ _ _ _ _ _ (hne 9 (by decide) (by decide)), State.reg_of_liveAt (State.liveAt_setRegBytes_of_ne (hne 8 (by decide) (by decide))),
      State.reg_setReg_of_ne _ _ _ _ _ _ (hne 7 (by decide) (by decide)), State.reg_setReg_of_ne _ _ _ _ _ _ (hne 6 (by decide) (by decide))]

theorem groupJoin_keeps (g : Nat) (ts : List Nat) (t : State) (n : Nat) : State.groupJoin g ts t n = { t with lanes := (State.groupJoin g ts t n).lanes } := by
  unfold State.groupJoin
  split <;> rfl

theorem lane_groupJoin (g : Nat) (ts : List Nat) (t : State) (n m : Nat) : ((State.groupJoin g ts t n).lane m).groups =
    if n = m then (t.lane m).groups ++ (ts.filter (fun p => p / 32 = m)).map (fun p => (g, p)) else (t.lane m).groups := by
  unfold State.groupJoin
  split
  · rename_i h
    split
    · rename_i hn
      rw [← hn, h]
      simp
    · rfl
  · rw [State.lane_modLane]
    split
    · rename_i hn
      rw [← hn]
    · rfl

theorem each_groupJoin (g : Nat) (ts : List Nat) (m : Nat) : ∀ (l : List Nat) (t : State), l.Nodup → ((t.each l (State.groupJoin g ts)).lane m).groups =
    if m ∈ l then (t.lane m).groups ++ (ts.filter (fun p => p / 32 = m)).map (fun p => (g, p)) else (t.lane m).groups
  | [], t, _ => by simp [State.each]
  | n :: l, t, hl => by
    obtain ⟨hn, hl⟩ := List.nodup_cons.1 hl
    rw [State.each, each_groupJoin g ts m l _ hl, lane_groupJoin]
    by_cases h : n = m
    · subst h
      simp [hn]
    · have h' : m ≠ n := fun e => h e.symm
      simp [h, h']

theorem each_groupJoin_frame (g : Nat) (ts : List Nat) (l : List Nat) (s : State) : s.each l (State.groupJoin g ts) = { s with lanes := (s.each l (State.groupJoin g ts)).lanes } := by
  refine State.each_keeps (P := fun t => t = { s with lanes := t.lanes }) _ _ (fun t n ht => ?_) _ rfl
  have h := groupJoin_keeps g ts t n
  generalize (State.groupJoin g ts t n).lanes = b at h
  rw [h, ht]

/-- Where every target's lane runs, the targets are handed to their lanes. -/
theorem groupStart_running {g : Nat} {ts : List Nat} {u : State} (ht : ∀ p ∈ ts, p < 2048)
    (h : ∀ p ∈ ts, u.laneState (p / 32) ≠ 4 ∧ u.laneState (p / 32) ≠ 0 ∧ u.laneServed (p / 32 / 8) = true) (l : List Nat) :
    (u.groupBegun g (groupMarks ts)).each l (State.groupSpread g ts) = (u.groupBegun g (groupMarks ts)).each l (State.groupJoin g ts) := by
  obtain ⟨-, -, -, -, -, hframe, -, hreg⟩ := groupBegun_spec g (groupMarks ts) u
  generalize hv : u.groupBegun g (groupMarks ts) = v at hframe hreg
  refine State.each_congr (P := fun t => t = { v with lanes := t.lanes }) (fun t n hP => ⟨?_, ?_⟩) l v rfl
  · unfold State.groupSpread State.groupJoin
    dsimp only
    by_cases hh : ts.filter (fun p => p / 32 = n) = []
    · rw [if_pos hh, if_pos hh]
    · rw [if_neg hh, if_neg hh]
      obtain ⟨p, hp⟩ := List.exists_mem_of_ne_nil _ hh
      obtain ⟨hpt, hpn⟩ := List.mem_filter.1 hp
      have hpn : p / 32 = n := of_decide_eq_true hpn
      obtain ⟨h4, h0, hserved⟩ := h p hpt
      have hlt := ht p hpt
      rw [hpn] at h4 h0 hserved
      have hstate : t.laneState n = u.laneState n := by
        rw [hP]
        exact hreg (0x7000 + n) 9 (Or.inr (by omega)) (by decide)
      have hserve : t.laneServed (n / 8) = true := by
        rw [hP, ← hserved]
        unfold State.laneServed State.coreActive
        rw [← hreg (0x2008 + n / 8) 2 (Or.inl (by decide)) (by decide)]
        have hhealth : v.health = u.health := by rw [hframe]
        rw [← hhealth]
        rfl
      rw [hstate, hserve, if_neg (by simp [h4]), if_neg h0]
  · have hk := groupJoin_keeps g ts t n
    generalize (State.groupJoin g ts t n).lanes = b at hk
    rw [hk, hP]

theorem groupStart_pending {g : Nat} {ts : List Nat} {u : State} (ht : ∀ p ∈ ts, p < 2048)
    (h : ∀ p ∈ ts, u.laneState (p / 32) ≠ 4 ∧ u.laneState (p / 32) ≠ 0 ∧ u.laneServed (p / 32 / 8) = true) :
    ∃ t : State, (u.groupBegun g (groupMarks ts)).each (List.range u.laneCount) (State.groupSpread g ts) = t ∧ t.reg (0x7900 + g) 6 = 1 ∧
          t.reg (0x7900 + g) 9 = 0 ∧ t.reg (0x7900 + g) 0xA = 0 ∧ t.reg (0x7900 + g) 0xB = u.now ∧ (∀ p, p < 2048 → groupResult (t.regBytes (0x7900 + g) 8) p = if p ∈ ts then 1 else 0) ∧
          (∀ n, n < u.laneCount → (t.lane n).groups = (u.lane n).groups ++ (ts.filter (fun p => p / 32 = n)).map (fun p => (g, p))) ∧ t = { u with live := t.live, lanes := t.lanes } := by
  rw [groupStart_running ht h]
  obtain ⟨h6, h9, hA, hB, h8, hframe, hlane, -⟩ := groupBegun_spec g (groupMarks ts) u
  have hgroups := fun n => each_groupJoin g ts n (List.range u.laneCount) (u.groupBegun g (groupMarks ts)) List.nodup_range
  have hkeep := each_groupJoin_frame g ts (List.range u.laneCount) (u.groupBegun g (groupMarks ts))
  generalize u.groupBegun g (groupMarks ts) = v at *
  generalize v.each (List.range u.laneCount) (State.groupJoin g ts) = t at *
  have hreg : ∀ j k, t.reg j k = v.reg j k := fun j k => by rw [hkeep]; rfl
  have hbytes : ∀ j k, t.regBytes j k = v.regBytes j k := fun j k => by rw [hkeep]; rfl
  refine ⟨t, rfl, by rw [hreg, h6], by rw [hreg, h9], by rw [hreg, hA], by rw [hreg, hB], fun p hp => ?_, fun n hn => ?_, ?_⟩
  · rw [hbytes, h8, groupMarks, groupResult_pending p ts _ List.length_replicate ht, groupResult_blank]
  · rw [hgroups, if_pos (List.mem_range.2 hn), hlane]
  · have hlive : t.live = v.live := by rw [hkeep]
    rw [hlive]
    generalize t.lanes = l at hkeep
    generalize v.live = b at hframe
    rw [hkeep, hframe]

theorem groupStart_spec (req : Requester) (g v : Nat) (s u : State) (hg : g < 16) (hv : v < 256) (h : s.admits req (0x7900 + g) 4 (leBytes 1 v) = true)
    (hu : u = s.admitted req (0x7900 + g) 4 (leBytes 1 v)) :
    exec (.groupStart req g v) s = .next ((u.groupStartWrite req g v).2.concluded req (0x7900 + g) 4 (leBytes 1 v) (u.groupStartWrite req g v).1) := by
  have hs := groupStart_admits req g v s hg (by simpa using hv) (by rw [Nat.one_mul]; exact h)
  rw [Nat.one_mul, ← show u = s.admitted req (30976 + g) 4 (leBytes 1 v) from hu] at hs
  exact hs

/-- A value other than 1 is no start of a group (R585). -/
theorem groupStart_outOfRange {req : Requester} {g v : Nat} {s : State} (hg : g < 16) (hv : v < 256) (hx : v ≠ 1)
    (h : s.reaches req (0x7900 + g) 4 (leBytes 1 v) = true) : exec (.groupStart req g v) s = .next (s.turnedAway req (0x7900 + g) 4 (leBytes 1 v)) := by
  obtain ⟨o, hobj, hbase, hsub⟩ : ∃ o, objectAt (0x7900 + g) = some (o, g) ∧ o.base = 0x7900 ∧
      o.sub? 4 = some ⟨4, 4, "start", .u8, .wo, .live, .blank, .only [1], 0⟩ := by interval_cases g <;> exact ⟨_, rfl, rfl, rfl⟩
  have hi : (v : Int) ≠ 1 := by omega
  have hout := State.submitNumber_outOfRange hobj hsub (by omega) (by rw [hbase]; decide) rfl rfl hv (by simp [SubEntry.inRange, hi]) h
  rw [exec_groupStart, execGroupStart, objectIndex, if_pos hg, Nat.one_mul, hout]

/-! ### Results and the timeout -/

theorem groupTarget_elsewhere {g p v : Nat} {s : State} (h : 16 ≤ g ∨ s.reg (0x7900 + g) 6 ≠ 1 ∨ groupResult (s.regBytes (0x7900 + g) 8) p ≠ 1) : s.groupTarget g p v = s :=
  if_pos h

theorem groupTarget_takes {g p v : Nat} {bs : List Byte} {s : State} (hg : g < 16) (h6 : s.reg (0x7900 + g) 6 = 1) (hp : groupResult (s.regBytes (0x7900 + g) 8) p = 1)
    (hbs : bs = setNibble (s.regBytes (0x7900 + g) 8) p v) : ∃ t : State, t.regBytes (0x7900 + g) 8 = bs ∧
      t.reg (0x7900 + g) 9 = s.reg (0x7900 + g) 9 + (if v = 2 then 1 else 0) ∧ t.reg (0x7900 + g) 0xA = s.reg (0x7900 + g) 0xA + (if v = 2 then 0 else 1) ∧ t = { s with live := t.live } ∧
      (countResult bs 1 ≠ 0 → s.groupTarget g p v = t) ∧
      (countResult bs 1 = 0 → (s.groupTarget g p v).reg (0x7900 + g) 6 = 2 ∧ (s.groupTarget g p v).reg (0x7900 + g) 7 = (if t.reg (0x7900 + g) 0xA = 0 then Status.ok else Status.partly) ∧
        (s.groupTarget g p v).reg (0x7900 + g) 0xC = s.now) := by
  obtain ⟨t, ht⟩ : ∃ t, t = ((s.setRegBytes (0x7900 + g) 8 bs).setReg (0x7900 + g) 9 (s.reg (0x7900 + g) 9 + ofBool (v = 2))).setReg (0x7900 + g) 0xA (s.reg (0x7900 + g) 0xA + ofBool (v ≠ 2)) :=
    ⟨_, rfl⟩
  have heq : s.groupTarget g p v = if countResult bs 1 ≠ 0 then t else
      (((t.setReg (0x7900 + g) 6 2).setReg (0x7900 + g) 7 (if t.reg (0x7900 + g) 0xA = 0 then Status.ok else Status.partly)).setReg (0x7900 + g) 0xC t.now).event (t.groupOwner g) 0x0063 g
        (if t.reg (0x7900 + g) 0xA = 0 then Status.ok else Status.partly) 0xFF 0
        (countResult bs 2 + 65536 * countResult bs 3 + 2 ^ 32 * countResult bs 4 + 2 ^ 48 * (countResult bs 5 + countResult bs 6 + countResult bs 7)) := by
    unfold State.groupTarget
    dsimp only
    rw [if_neg (by rintro (h | h | h) <;> omega), ← hbs, ← ht]
  have h8 : t.regBytes (0x7900 + g) 8 = bs := by
    rw [ht, State.regBytes_of_liveAt (State.liveAt_setReg_of_ne (entryKey_inst_ne (by decide))), State.regBytes_of_liveAt (State.liveAt_setReg_of_ne (entryKey_inst_ne (by decide))),
      State.regBytes_setRegBytes]
  have h9 : t.reg (0x7900 + g) 9 = s.reg (0x7900 + g) 9 + (if v = 2 then 1 else 0) := by
    rw [ht, State.reg_setReg_of_ne _ _ _ _ _ _ (entryKey_inst_ne (by decide)), State.reg_setReg_self]
    by_cases h : v = 2 <;> simp [h, ofBool]
  have hA : t.reg (0x7900 + g) 0xA = s.reg (0x7900 + g) 0xA + (if v = 2 then 0 else 1) := by
    rw [ht, State.reg_setReg_self]
    by_cases h : v = 2 <;> simp [h, ofBool]
  have hframe : t = { s with live := t.live } := by rw [ht]; rfl
  have hnow : t.now = s.now := by rw [ht]; rfl
  clear ht
  refine ⟨t, h8, h9, hA, hframe, fun h => by rw [heq, if_pos h], fun h => ?_⟩
  rw [heq, if_neg (by omega)]
  generalize (if t.reg (0x7900 + g) 0xA = 0 then Status.ok else Status.partly) = st
  refine ⟨?_, ?_, ?_⟩
  · rw [State.reg_event _ _ _ _ _ _ _ _ _ _ (by decide), State.reg_setReg_of_ne _ _ _ _ _ _ (entryKey_inst_ne (by decide)),
      State.reg_setReg_of_ne _ _ _ _ _ _ (entryKey_inst_ne (by decide)), State.reg_setReg_self]
  · rw [State.reg_event _ _ _ _ _ _ _ _ _ _ (by decide), State.reg_setReg_of_ne _ _ _ _ _ _ (entryKey_inst_ne (by decide)), State.reg_setReg_self]
  · rw [State.reg_event _ _ _ _ _ _ _ _ _ _ (by decide), State.reg_setReg_self, hnow]

theorem groupTimeout_elsewhere {g : Nat} {s : State} (h : s.reg (0x7900 + g) 6 ≠ 1) : exec (.groupTimeout g) s = .next s := by
  have hx : exec (.groupTimeout g) s = execGroupTimeout g s := rfl
  rw [hx, execGroupTimeout, if_pos h]

theorem lanes_groupTargets (g v : Nat) : ∀ (l : List Nat) (s : State), (l.foldl (fun (t : State) p => t.groupTarget g p v) s).lanes = s.lanes
  | [], _ => rfl
  | p :: l, s => (lanes_groupTargets g v l _).trans (State.groupTarget_eff s g p v (Eff.refl 17593261891712 s) rfl).lanes_eq

theorem Tab.getD_mapValues {α : Type} (f : α → α) (d : α) (k : Nat) (t : Tab α) : Tab.getD (t.map (fun e => (e.1, f e.2))) k d = if (Tab.find? t k).isSome then f (Tab.getD t k d) else d := by
  unfold Tab.getD
  rw [Tab.find?_map]
  cases Tab.find? t k <;> rfl

theorem groupTimeout_ends {g : Nat} {s u : State} (h : s.reg (0x7900 + g) 6 = 1)
    (hu : u = ((List.range 2048).filter (fun p => groupResult (s.regBytes (0x7900 + g) 8) p = 1)).foldl (fun (t : State) p => t.groupTarget g p 4)
      (s.arriveAt (s.reg (0x7900 + g) 0xB + ms (s.reg (0x7900 + g) 5)))) :
    ∃ t : State, exec (.groupTimeout g) s = .next t ∧ t = { u with lanes := t.lanes } ∧ ∀ n, (t.lane n).groups = (s.lane n).groups.filter (fun x => x.1 ≠ g) := by
  have hx : exec (.groupTimeout g) s = execGroupTimeout g s := rfl
  rw [hx, execGroupTimeout, if_neg (fun hh => hh h)]
  have hlanes : u.lanes = s.lanes := by
    rw [hu]
    exact lanes_groupTargets g 4 _ _
  dsimp only
  have hfold : ((List.range 2048).filter (fun p => groupResult ((s.arriveAt (s.reg (0x7900 + g) 0xB + ms (s.reg (0x7900 + g) 5))).regBytes (0x7900 + g) 8) p = 1)).foldl
      (fun (t : State) p => t.groupTarget g p 4) (s.arriveAt (s.reg (0x7900 + g) 0xB + ms (s.reg (0x7900 + g) 5))) = u := hu.symm
  rw [hfold]
  refine ⟨_, rfl, rfl, fun n => ?_⟩
  have hn : u.lane n = s.lane n := State.lane_of_lanes hlanes n
  rw [← hn]
  refine (congrArg LaneWork.groups (Tab.getD_mapValues (fun w : LaneWork => { w with
      groups := w.groups.filter (fun x => x.1 ≠ g)
      current := w.current.map (fun (t : LaneTransaction) => if t.request.origin = .group g then { t with request := t.request.withOrigin .nobody } else t) }) {} n u.lanes.lanes)).trans ?_
  unfold State.lane Tab.getD
  cases Tab.find? u.lanes.lanes n <;> rfl

end Sys2Proof.Machine
end

section
/-! PROOF about the stream check units (R594, R595, R600 to R604), and of the lanes' and units' obligation. -/
set_option Elab.async false
namespace Sys2Proof.Machine

/-! ### What a load of the register leaves -/

theorem State.reg_streamLoad_of_ne (s : State) (u j k : Nat) (h8 : k % 256 ≠ 8) (h9 : k % 256 ≠ 9) : (s.streamLoad u).reg j k = s.reg j k :=
  (State.reg_setReg_of_ne _ _ _ _ _ _ (entryKey_inst_ne (Ne.symm h9))).trans (State.reg_setReg_of_ne _ _ _ _ _ _ (entryKey_inst_ne (Ne.symm h8)))

theorem State.reg_streamLoad (s : State) (u : Nat) : (s.streamLoad u).reg (0x7A40 + u) 8 = (s.streamParams u).init :=
  (State.reg_setReg_of_ne _ _ _ _ _ _ (entryKey_inst_ne (by decide))).trans (State.reg_setReg_self _ _ _ _)

theorem State.shellUp_streamLoad (s : State) (u d : Nat) : (s.streamLoad u).shellUp d = s.shellUp d := by
  unfold State.shellUp
  rw [s.reg_streamLoad_of_ne u _ _ (by decide) (by decide)]

theorem State.idaOk_streamLoad (s : State) (u i a n : Nat) : (s.streamLoad u).idaOk i a n = s.idaOk i a n := by
  have hquota : (s.streamLoad u).quota i = s.quota i := by
    unfold State.quota
    rw [s.reg_streamLoad_of_ne u _ _ (by decide) (by decide)]
  have hstack : ∀ p, (s.streamLoad u).stackFor i p = s.stackFor i p := by
    intro p
    unfold State.stackFor
    rw [s.reg_streamLoad_of_ne u _ _ (by decide) (by decide)]
    simp only [State.shellUp_streamLoad]
    rfl
  have hpage : ∀ p, (s.streamLoad u).pageReached i p = s.pageReached i p := by
    intro p
    unfold State.pageReached
    rw [hstack]
    rfl
  unfold State.idaOk State.belowQuota
  rw [hquota]
  congr 2
  exact funext hpage

theorem State.readIda_streamLoad (s : State) (u : Nat) (b : BusAttr) (a n : Nat) : (s.streamLoad u).readIda b a n = s.readIda b a n := by
  unfold State.readIda
  dsimp only
  rw [State.idaOk_streamLoad]
  rfl

/-! ### An entry starts -/

theorem streamStart_busy {e : Entry} {op : Nat} {b : StreamEntry} {s : State} (h : (s.streamRun (s.sq e.inst e.q).target).isSome = true) : s.streamStart e op b = s := if_pos h

theorem streamStart_fails {e : Entry} {op : Nat} {b : StreamEntry} {s : State} (h : s.streamRun (s.sq e.inst e.q).target = none) (hf : s.canFetch e 5 = false) :
    s.streamStart e op b = s.fetchFails e 5 := by
  unfold State.streamStart
  dsimp only
  rw [if_neg (by simp [h]), if_pos (by simp [hf])]

/-- The register of a unit as an entry finds it (R601). -/
def State.streamReady (w : State) (u : Nat) (b : StreamEntry) : State := if bit b.streamFlags 2 then w.streamLoad u else w

/-- The bytes that an entry reads (R601). -/
def State.streamGot (w : State) (u : Nat) (e : Entry) (b : StreamEntry) (n : Nat) : List Byte :=
  if bit b.streamFlags 0 then w.readIda (BusSource.stream.serving u e.inst) b.src n else ((b.host.getD []) ++ List.replicate n 0).take n

/-- An entry as its unit runs it (R601). -/
def streamRunOf (e : Entry) (op : Nat) (b : StreamEntry) (got : List Byte) : StreamRun :=
  ⟨e.inst, e.q, e.tag, entryCompletion e, op, { b with host := none }, got.take b.length, got.drop b.length⟩

theorem streamStart_fetched {e : Entry} {op u : Nat} {b : StreamEntry} {sp : Nat × Nat} {s w : State} (hf : s.canFetch e 5 = true) (hr : s.streamRun u = none)
    (hu : u = (s.sq e.inst e.q).target) (hw : w = s.fetched e) (hsp : sp = w.streamSpan u op b) : s.streamStart e op b =
    if (!streamBodyOk op e b) = true then w.stopQueue e.inst e.q Status.range
    else if (bit b.streamFlags 0 = true ∧ (!w.idaOk e.inst b.src sp.1) = true) ∨ (bit b.streamFlags 1 = true ∧ sp.2 ≠ 0 ∧ (!w.idaOk e.inst b.dst sp.2) = true) then
      (w.streamLoad u).streamEnd u e.inst e.q e.tag (entryCompletion e) Status.deniedInstance
    else if (!bit b.streamFlags 0) = true ∧ b.host = none then (w.streamLoad u).faultInstance e.inst Status.hwFault
    else { w.streamReady u b with streams := Tab.put (w.streamReady u b).streams u (streamRunOf e op b ((w.streamReady u b).streamGot u e b sp.1)) } := by
  subst hsp
  unfold State.streamStart
  dsimp only
  rw [← hu, ← hw, if_neg (by simp [hr]), if_neg (by simp [hf])]
  rfl

theorem streamBodyOk_iff (op : Nat) (e : Entry) (b : StreamEntry) : streamBodyOk op e b = true ↔
    1 ≤ op ∧ op ≤ 3 ∧ e.flags ≤ 1 ∧ b.reservedZero = true ∧ 1 ≤ b.length ∧ b.length ≤ 16777216 ∧ b.streamFlags < 16 := by
  simp [streamBodyOk, entryFlagsOk]
  tauto

theorem stream_commands {e : Entry} {op : Nat} {b : StreamEntry} {i : Instr} (s : State) (h : i = .copy e op b ∨ (i = .append e b ∧ op = 2) ∨ (i = .check e b ∧ op = 3)) :
    exec i s = .next (s.streamStart e op b) := by
  rcases h with rfl | ⟨rfl, rfl⟩ | ⟨rfl, rfl⟩
  · rfl
  · rfl
  · rfl

theorem streamStart_starts {e : Entry} {op u : Nat} {b : StreamEntry} {sp : Nat × Nat} {s w : State} (hf : s.canFetch e 5 = true) (hr : s.streamRun u = none)
    (hu : u = (s.sq e.inst e.q).target) (hw : w = s.fetched e) (hsp : sp = w.streamSpan u op b) (hok : streamBodyOk op e b = true)
    (hsrc : bit b.streamFlags 0 = true → w.idaOk e.inst b.src sp.1 = true) (hdst : bit b.streamFlags 1 = true → sp.2 ≠ 0 → w.idaOk e.inst b.dst sp.2 = true)
    (hhost : bit b.streamFlags 0 = true ∨ b.host.isSome = true) : ∃ (t : State) (r : StreamRun), s.streamStart e op b = t ∧ t.streamRun u = some r ∧ r.opcode = op ∧ r.inst = e.inst ∧
      r.q = e.q ∧ r.tag = e.tag ∧ r.completion = bit e.flags 0 ∧
          (bit b.streamFlags 0 = true → r.data = (w.readIda (BusSource.stream.serving u e.inst) b.src sp.1).take b.length ∧
            r.trailing = (w.readIda (BusSource.stream.serving u e.inst) b.src sp.1).drop b.length) ∧
          (∀ hb, bit b.streamFlags 0 = false → b.host = some hb → sp.1 ≤ hb.length → r.data = hb.take b.length ∧ r.trailing = (hb.take sp.1).drop b.length) ∧
          t.reg (0x7A40 + u) 8 = (if bit b.streamFlags 2 then (w.streamParams u).init else s.reg (0x7A40 + u) 8) ∧ t = { w with live := t.live, streams := t.streams } := by
  have hden : ¬ ((bit b.streamFlags 0 = true ∧ (!w.idaOk e.inst b.src sp.1) = true) ∨ (bit b.streamFlags 1 = true ∧ sp.2 ≠ 0 ∧ (!w.idaOk e.inst b.dst sp.2) = true)) := by
    rintro (⟨h0, h⟩ | ⟨h1, h2, h⟩)
    · simp [hsrc h0] at h
    · simp [hdst h1 h2] at h
  have hnohost : ¬ ((!bit b.streamFlags 0) = true ∧ b.host = none) := by
    rintro ⟨h0, h⟩
    rcases hhost with hh | hh
    · simp [hh] at h0
    · rw [h] at hh
      exact absurd hh (by decide)
  rw [streamStart_fetched hf hr hu hw hsp, if_neg (by simp [hok]), if_neg hden, if_neg hnohost]
  have hgot : (w.streamReady u b).streamGot u e b sp.1 = w.streamGot u e b sp.1 := by
    unfold State.streamReady State.streamGot
    by_cases h2 : bit b.streamFlags 2 = true
    · rw [if_pos h2, State.readIda_streamLoad]
    · rw [if_neg h2]
  have hreg : (w.streamReady u b).reg (0x7A40 + u) 8 = (if bit b.streamFlags 2 then (w.streamParams u).init else s.reg (0x7A40 + u) 8) := by
    unfold State.streamReady
    split
    · exact State.reg_streamLoad _ _
    · rw [hw]
      rfl
  have hframe : w.streamReady u b = { w with live := (w.streamReady u b).live } := by
    unfold State.streamReady
    split <;> rfl
  have hlen : sp.1 = b.length + (if op = 3 then w.streamWidth u else 0) := by rw [hsp]; rfl
  rw [hgot]
  generalize w.streamReady u b = v at hreg hframe ⊢
  refine ⟨_, streamRunOf e op b (w.streamGot u e b sp.1), rfl, (Tab.find?_put _ _ _ _).trans (if_pos rfl), rfl, rfl, rfl, rfl, rfl, fun h => ?_, fun hb h0 hh hl => ?_, hreg, ?_⟩
  · unfold streamRunOf State.streamGot
    dsimp only
    rw [if_pos h]
    exact ⟨rfl, rfl⟩
  · unfold streamRunOf State.streamGot
    dsimp only
    rw [if_neg (by rw [h0]; exact Bool.false_ne_true), hh]
    dsimp only [Option.getD]
    rw [List.take_append_of_le_length hl, List.take_take, Nat.min_eq_left (by omega)]
    exact ⟨rfl, rfl⟩
  · dsimp only
    generalize v.live = l at hframe
    rw [hframe]

theorem stream_spec {e : Entry} {op u : Nat} {b : StreamEntry} {sp : Nat × Nat} {s w : State} {i : Instr} (hf : s.canFetch e 5 = true) (hr : s.streamRun u = none)
    (hu : u = (s.sq e.inst e.q).target) (hw : w = s.fetched e) (hsp : sp = w.streamSpan u op b) (hi : i = .copy e op b ∨ (i = .append e b ∧ op = 2) ∨ (i = .check e b ∧ op = 3)) :
    (op = 0 ∨ 3 < op ∨ 1 < e.flags ∨ b.reservedZero = false ∨ b.length = 0 ∨ 16777216 < b.length ∨ 16 ≤ b.streamFlags → exec i s = .next (w.stopQueue e.inst e.q Status.range)) ∧
    (1 ≤ op → op ≤ 3 → e.flags ≤ 1 → b.reservedZero = true → 1 ≤ b.length → b.length ≤ 16777216 → b.streamFlags < 16 →
      ((bit b.streamFlags 0 = true ∧ w.idaOk e.inst b.src sp.1 = false) ∨ (bit b.streamFlags 1 = true ∧ sp.2 ≠ 0 ∧ w.idaOk e.inst b.dst sp.2 = false) →
        exec i s = .next ((w.streamLoad u).streamEnd u e.inst e.q e.tag (bit e.flags 0) Status.deniedInstance)) ∧
      ((bit b.streamFlags 0 = true → w.idaOk e.inst b.src sp.1 = true) → (bit b.streamFlags 1 = true → sp.2 ≠ 0 → w.idaOk e.inst b.dst sp.2 = true) →
        (bit b.streamFlags 0 = false → b.host = none → exec i s = .next ((w.streamLoad u).faultInstance e.inst Status.hwFault)) ∧
        (bit b.streamFlags 0 = true ∨ b.host.isSome = true → ∃ (t : State) (r : StreamRun), exec i s = .next t ∧ t.streamRun u = some r ∧ r.opcode = op ∧ r.inst = e.inst ∧ r.q = e.q ∧ r.tag = e.tag ∧ r.completion = bit e.flags 0 ∧
          (bit b.streamFlags 0 = true → r.data = (w.readIda (BusSource.stream.serving u e.inst) b.src sp.1).take b.length ∧
            r.trailing = (w.readIda (BusSource.stream.serving u e.inst) b.src sp.1).drop b.length) ∧
          (∀ hb, bit b.streamFlags 0 = false → b.host = some hb → sp.1 ≤ hb.length → r.data = hb.take b.length ∧ r.trailing = (hb.take sp.1).drop b.length) ∧
          t.reg (0x7A40 + u) 8 = (if bit b.streamFlags 2 then (w.streamParams u).init else s.reg (0x7A40 + u) 8) ∧ t = { w with live := t.live, streams := t.streams }))) := by
  rw [stream_commands s hi]
  refine ⟨fun h => ?_, fun h1 h3 hfl hz hl hlm hsf => ⟨fun h => ?_, fun hsrc hdst => ⟨fun h0 hh => ?_, fun hh => ?_⟩⟩⟩
  · have hbad : ¬ streamBodyOk op e b = true := by
      rw [streamBodyOk_iff]
      rintro ⟨h1, h2, h3, h4, h5, h6, h7⟩
      rcases h with h | h | h | h | h | h | h
      · omega
      · omega
      · omega
      · exact Bool.false_ne_true (h.symm.trans h4)
      · omega
      · omega
      · omega
    rw [streamStart_fetched hf hr hu hw hsp, if_pos (by simpa using hbad)]
  · rw [streamStart_fetched hf hr hu hw hsp, if_neg (by simp [(streamBodyOk_iff op e b).2 ⟨h1, h3, hfl, hz, hl, hlm, hsf⟩]), if_pos]
    · rfl
    · rcases h with ⟨h, h'⟩ | ⟨h, h', h''⟩
      · exact Or.inl ⟨h, by simp [h']⟩
      · exact Or.inr ⟨h, h', by simp [h'']⟩
  · rw [streamStart_fetched hf hr hu hw hsp, if_neg (by simp [(streamBodyOk_iff op e b).2 ⟨h1, h3, hfl, hz, hl, hlm, hsf⟩]), if_neg, if_pos ⟨by simp [h0], hh⟩]
    rintro (⟨h, h'⟩ | ⟨h, h', h''⟩)
    · exact Bool.false_ne_true (h0.symm.trans h)
    · simp [hdst h h'] at h''
  · obtain ⟨t, r, ht, hspec⟩ := streamStart_starts hf hr hu hw hsp ((streamBodyOk_iff op e b).2 ⟨h1, h3, hfl, hz, hl, hlm, hsf⟩) hsrc hdst hh
    exact ⟨t, r, by rw [ht], hspec⟩

/-! ### An entry's end -/

theorem streamEntryDone_idle {u : Nat} {s : State} (h : s.streamRun u = none) : exec (.streamEntryDone u) s = .next s := by
  have hx : exec (.streamEntryDone u) s = execStreamEntryDone u s := rfl
  rw [hx, execStreamEntryDone, h]

/-- The state in which an entry's bytes have been stored and fed to the register. -/
def State.streamFed (s : State) (u : Nat) (r : StreamRun) (x v : Nat) : State :=
  ((({ s with streams := Tab.erase s.streams u } : State).streamStore u r (if r.opcode = 2 then r.data ++ s.streamBytes u v else r.data)).setReg (0x7A40 + u) 8 x).count
    (0x7A40 + u) 9 r.data.length

theorem streamEntryDone_eq {u x v : Nat} {r : StreamRun} {s : State} (h : s.streamRun u = some r) (hx : x = Crc.run (s.streamParams u) (s.reg (0x7A40 + u) 8) r.data)
    (hv : v = Crc.final (s.streamParams u) x) : exec (.streamEntryDone u) s = .next (if r.opcode = 1 then (s.streamFed u r x v).streamEnd u r.inst r.q r.tag r.completion Status.ok
      else ((if r.opcode = 3 then ((s.streamFed u r x v).setReg (0x7A40 + u) 0xC v).streamCompare u r v else (Status.ok, (s.streamFed u r x v).setReg (0x7A40 + u) 0xC v)).2.streamLoad u).streamEnd
        u r.inst r.q r.tag r.completion
        (if r.opcode = 3 then ((s.streamFed u r x v).setReg (0x7A40 + u) 0xC v).streamCompare u r v else (Status.ok, (s.streamFed u r x v).setReg (0x7A40 + u) 0xC v)).1) := by
  have hxx : exec (.streamEntryDone u) s = execStreamEntryDone u s := rfl
  rw [hxx, execStreamEntryDone, h]
  dsimp only
  rw [← hx, ← hv]
  unfold State.streamFed
  split <;> rfl

theorem State.streamStore_streams (s : State) (u : Nat) (x : Tab StreamRun) (r : StreamRun) (bs : List Byte) :
    (({ s with streams := x } : State).streamStore u r bs).streams = x ∧ (∀ j k, (({ s with streams := x } : State).streamStore u r bs).reg j k = s.reg j k) := by
  have he := State.streamStore_eff ({ s with streams := x } : State) u r bs (Eff.refl 17592188149760 _) rfl
  exact ⟨he.streams_eq, fun j k => State.reg_of_eff he rfl rfl rfl j k⟩

theorem streamFed_spec (u x v : Nat) (r : StreamRun) (s : State) : (s.streamFed u r x v).reg (0x7A40 + u) 8 = x ∧
    (s.streamFed u r x v).reg (0x7A40 + u) 9 = satAdd (entryBits (0x7A40 + u) 9) (s.reg (0x7A40 + u) 9) r.data.length ∧ (s.streamFed u r x v).streamRun u = none ∧
    (∀ k, k % 256 ≠ 8 → k % 256 ≠ 9 → (s.streamFed u r x v).reg (0x7A40 + u) k = s.reg (0x7A40 + u) k) ∧
    (bit r.body.streamFlags 3 = true → s.streamFed u r x v = { s with live := (s.streamFed u r x v).live, streams := (s.streamFed u r x v).streams }) ∧
    (bit r.body.streamFlags 3 = false → bit r.body.streamFlags 1 = false → (s.streamFed u r x v).out.hostData = s.out.hostData ++
      [(r.inst, r.body.dst, if r.opcode = 2 then r.data ++ s.streamBytes u v else r.data)]) ∧
    (bit r.body.streamFlags 3 = false → bit r.body.streamFlags 1 = true → (s.streamFed u r x v).imem =
      (s.writeIda (BusSource.stream.serving u r.inst) r.body.dst (if r.opcode = 2 then r.data ++ s.streamBytes u v else r.data)).imem) := by
  unfold State.streamFed
  generalize (if r.opcode = 2 then r.data ++ s.streamBytes u v else r.data) = bs
  obtain ⟨hst, hreg⟩ := s.streamStore_streams u (Tab.erase s.streams u) r bs
  obtain ⟨w, hw⟩ : ∃ w, w = ({ s with streams := Tab.erase s.streams u } : State).streamStore u r bs := ⟨_, rfl⟩
  rw [← hw] at hst hreg ⊢
  have h9 : ((w.setReg (0x7A40 + u) 8 x).count (0x7A40 + u) 9 r.data.length).reg (0x7A40 + u) 9 = satAdd (entryBits (0x7A40 + u) 9) (s.reg (0x7A40 + u) 9) r.data.length := by
    refine (State.reg_setReg_self _ _ _ _).trans ?_
    rw [State.reg_setReg_of_ne _ _ _ _ _ _ (entryKey_inst_ne (by decide)), hreg]
  refine ⟨(State.reg_setReg_of_ne _ _ _ _ _ _ (entryKey_inst_ne (by decide))).trans (State.reg_setReg_self _ _ _ _), h9, ?_, fun k hk8 hk9 => ?_, fun h3 => ?_, fun h3 h1 => ?_,
    fun h3 h1 => ?_⟩
  · show Tab.find? w.streams u = none
    rw [hst, Tab.find?_erase, if_pos rfl]
  · exact ((State.reg_setReg_of_ne _ _ _ _ _ _ (entryKey_inst_ne (Ne.symm hk9))).trans (State.reg_setReg_of_ne _ _ _ _ _ _ (entryKey_inst_ne (Ne.symm hk8)))).trans (hreg _ _)
  · have hw3 : w = { s with streams := Tab.erase s.streams u } := by
      rw [hw]
      exact if_pos h3
    rw [hw3]
    rfl
  · show w.out.hostData = _
    rw [hw, State.streamStore, if_neg (by rw [h3]; exact Bool.false_ne_true), if_neg (by rw [h1]; exact Bool.false_ne_true)]
  · show w.imem = _
    rw [hw, State.streamStore, if_neg (by rw [h3]; exact Bool.false_ne_true), if_pos h1]
    unfold State.writeIda
    dsimp only
    split
    · rename_i hc
      rw [if_pos (show (s.unitsWrite (BusSource.stream.serving u r.inst).inst && s.idaOk (BusSource.stream.serving u r.inst).inst r.body.dst bs.length) = true from hc)]
    · rename_i hc
      rw [if_neg (show ¬ (s.unitsWrite (BusSource.stream.serving u r.inst).inst && s.idaOk (BusSource.stream.serving u r.inst).inst r.body.dst bs.length) = true from hc)]

theorem streamEntryDone_spec {u x v : Nat} {r : StreamRun} {s : State} (h : s.streamRun u = some r) (hx : x = Crc.run (s.streamParams u) (s.reg (0x7A40 + u) 8) r.data)
    (hv : v = Crc.final (s.streamParams u) x) : ∃ t : State, t.reg (0x7A40 + u) 8 = x ∧
    t.reg (0x7A40 + u) 9 = satAdd (entryBits (0x7A40 + u) 9) (s.reg (0x7A40 + u) 9) r.data.length ∧ t.streamRun u = none ∧
    (r.opcode = 1 → exec (.streamEntryDone u) s = .next (t.streamEnd u r.inst r.q r.tag r.completion Status.ok)) ∧
    (r.opcode ≠ 1 → ∃ w : State, w = t.setReg (0x7A40 + u) 0xC v ∧ (r.opcode ≠ 3 ∨ r.trailing = s.streamBytes u v → exec (.streamEntryDone u) s = .next ((w.streamLoad u).streamEnd u r.inst r.q r.tag r.completion Status.ok)) ∧
      (r.opcode = 3 → r.trailing ≠ s.streamBytes u v → ∃ y : State, y.reg (0x7A40 + u) 0xB = satAdd (entryBits (0x7A40 + u) 0xB) (s.reg (0x7A40 + u) 0xB) 1 ∧
        exec (.streamEntryDone u) s = .next ((y.streamLoad u).streamEnd u r.inst r.q r.tag r.completion Status.range))) ∧
    (bit r.body.streamFlags 3 = true → t = { s with live := t.live, streams := t.streams }) ∧
    (bit r.body.streamFlags 3 = false → bit r.body.streamFlags 1 = false → t.out.hostData = s.out.hostData ++ [(r.inst, r.body.dst, if r.opcode = 2 then r.data ++ s.streamBytes u v else r.data)]) ∧
    (bit r.body.streamFlags 3 = false → bit r.body.streamFlags 1 = true → t.imem = (s.writeIda (BusSource.stream.serving u r.inst) r.body.dst (if r.opcode = 2 then r.data ++ s.streamBytes u v else r.data)).imem) := by
  obtain ⟨h8, h9, hrun, hreg, hkept, hhost, himem⟩ := streamFed_spec u x v r s
  refine ⟨s.streamFed u r x v, h8, h9, hrun, fun h1 => ?_, fun h1 => ⟨_, rfl, fun hc => ?_, fun h3 hne => ?_⟩, hkept, hhost, himem⟩
  · rw [streamEntryDone_eq h hx hv, if_pos h1]
  all_goals
    rw [streamEntryDone_eq h hx hv, if_neg h1]
    generalize s.streamFed u r x v = t at hreg ⊢
    obtain ⟨w, hw⟩ : ∃ w, w = t.setReg (0x7A40 + u) 0xC v := ⟨_, rfl⟩
    have hwreg : ∀ k, k % 256 ≠ 8 → k % 256 ≠ 9 → k % 256 ≠ 0xC → w.reg (0x7A40 + u) k = s.reg (0x7A40 + u) k := fun k h8 h9 hC => by
      rw [hw, State.reg_setReg_of_ne _ _ _ _ _ _ (entryKey_inst_ne (Ne.symm hC)), hreg k h8 h9]
    have hbytes : w.streamBytes u v = s.streamBytes u v := by
      unfold State.streamBytes
      rw [hwreg 1 (by decide) (by decide) (by decide), hwreg 6 (by decide) (by decide) (by decide)]
    rw [← hw]
  · have hcmp : (if r.opcode = 3 then w.streamCompare u r v else (Status.ok, w)) = (Status.ok, w) := by
      split
      · rename_i h3
        unfold State.streamCompare
        rw [if_pos (by rw [hbytes]; exact hc.resolve_left (fun hn => hn h3))]
      · rfl
    rw [hcmp]
  · rw [if_pos h3]
    unfold State.streamCompare
    rw [if_neg (by rw [hbytes]; exact hne)]
    refine ⟨_, ?_, rfl⟩
    refine (State.reg_event _ _ _ _ _ _ _ _ _ _ (by decide)).trans ((State.reg_setReg_self _ _ _ _).trans ?_)
    rw [hwreg 0xB (by decide) (by decide) (by decide)]

/-! ### Presets -/

theorem streamPreset_outOfRange {req : Requester} {u v : Nat} {s : State} (hu : u < 16) (hv : v < 256) (hx : v = 0 ∨ 3 < v)
    (h : s.reaches req (0x7A40 + u) 7 (leBytes 1 v) = true) : exec (.streamPreset req u v) s = .next (s.turnedAway req (0x7A40 + u) 7 (leBytes 1 v)) := by
  obtain ⟨o, hobj, hbase, hsub⟩ : ∃ o, objectAt (0x7A40 + u) = some (o, u) ∧ o.base = 0x7A40 ∧
      o.sub? 7 = some ⟨7, 7, "preset", .u8, .wo, .live, .blank, .span 1 3, 0⟩ := by interval_cases u <;> exact ⟨_, rfl, rfl, rfl⟩
  have hi : ¬ (1 ≤ (v : Int) ∧ (v : Int) ≤ 3) := by omega
  have hout := State.submitNumber_outOfRange hobj hsub (by omega) (by rw [hbase]; decide) rfl rfl hv (fun p g => by simp [SubEntry.inRange]; omega) h
  rw [exec_streamPreset, execStreamPreset, objectIndex, if_pos hu, Nat.one_mul, hout]

/-- A unit's parameters are set as a row of R603 gives them. -/
def State.streamSet (s : State) (u a b c d e f : Nat) : State :=
  (((((s.setReg (0x7A40 + u) 1 a).setReg (0x7A40 + u) 2 b).setReg (0x7A40 + u) 3 c).setReg (0x7A40 + u) 4 d).setReg (0x7A40 + u) 5 e).setReg (0x7A40 + u) 6 f

theorem streamSet_spec (u a b c d e f : Nat) (s : State) : (s.streamSet u a b c d e f).reg (0x7A40 + u) 1 = a ∧ (s.streamSet u a b c d e f).reg (0x7A40 + u) 2 = b ∧
    (s.streamSet u a b c d e f).reg (0x7A40 + u) 3 = c ∧ (s.streamSet u a b c d e f).reg (0x7A40 + u) 4 = d ∧ (s.streamSet u a b c d e f).reg (0x7A40 + u) 5 = e ∧
    (s.streamSet u a b c d e f).reg (0x7A40 + u) 6 = f := by
  have hne : ∀ (t : State) (j k v : Nat), j % 256 ≠ k % 256 → (t.setReg (0x7A40 + u) j v).reg (0x7A40 + u) k = t.reg (0x7A40 + u) k := fun t j k v h =>
    State.reg_setReg_of_ne _ _ _ _ _ _ (entryKey_inst_ne h)
  unfold State.streamSet
  refine ⟨?_, ?_, ?_, ?_, ?_, State.reg_setReg_self _ _ _ _⟩
  · rw [hne _ 6 1 _ (by decide), hne _ 5 1 _ (by decide), hne _ 4 1 _ (by decide), hne _ 3 1 _ (by decide), hne _ 2 1 _ (by decide), State.reg_setReg_self]
  · rw [hne _ 6 2 _ (by decide), hne _ 5 2 _ (by decide), hne _ 4 2 _ (by decide), hne _ 3 2 _ (by decide), State.reg_setReg_self]
  · rw [hne _ 6 3 _ (by decide), hne _ 5 3 _ (by decide), hne _ 4 3 _ (by decide), State.reg_setReg_self]
  · rw [hne _ 6 4 _ (by decide), hne _ 5 4 _ (by decide), State.reg_setReg_self]
  · rw [hne _ 6 5 _ (by decide), State.reg_setReg_self]

theorem streamPresetWrite_busy {u v : Nat} {w : State} (h1 : 1 ≤ v) (h3 : v ≤ 3) (hr : (w.streamRun u).isSome = true) : w.streamPresetWrite u v = (Status.busy, w) := by
  unfold State.streamPresetWrite
  interval_cases v
  · exact if_pos hr
  · exact if_pos hr
  · exact if_pos hr

theorem streamPresetWrite_sets {u v : Nat} {w : State} (h1 : 1 ≤ v) (h3 : v ≤ 3) (hr : w.streamRun u = none) : w.streamPresetWrite u v = (Status.ok,
    (w.streamSet u (if v = 1 then 8 else if v = 2 then 16 else 32) (if v = 1 then 0x2F else if v = 2 then 0x1021 else 0x1EDC6F41) (if v = 1 then 0xFF else if v = 2 then 0xFFFF else 0xFFFFFFFF)
      (if v = 3 then 3 else 0) (if v = 1 then 0xFF else if v = 2 then 0 else 0xFFFFFFFF) (if v = 2 then 1 else 0)).streamLoad u) := by
  have hn : ¬ (w.streamRun u).isSome = true := by rw [hr]; exact Bool.false_ne_true
  unfold State.streamPresetWrite
  interval_cases v
  · exact if_neg hn
  · exact if_neg hn
  · exact if_neg hn

theorem streamPreset_spec (req : Requester) (u v : Nat) (s w : State) (hu : u < 16) (hv : v < 256) (h : s.admits req (0x7A40 + u) 7 (leBytes 1 v) = true)
    (hw : w = s.admitted req (0x7A40 + u) 7 (leBytes 1 v)) :
    (1 ≤ v → v ≤ 3 → (w.streamRun u).isSome = true → exec (.streamPreset req u v) s = .next (w.concluded req (0x7A40 + u) 7 (leBytes 1 v) Status.busy)) ∧
    (1 ≤ v → v ≤ 3 → w.streamRun u = none → ∃ t : State, exec (.streamPreset req u v) s = .next (t.concluded req (0x7A40 + u) 7 (leBytes 1 v) Status.ok) ∧
      t.reg (0x7A40 + u) 1 = (if v = 1 then 8 else if v = 2 then 16 else 32) ∧ t.reg (0x7A40 + u) 2 = (if v = 1 then 0x2F else if v = 2 then 0x1021 else 0x1EDC6F41) ∧
      t.reg (0x7A40 + u) 3 = (if v = 1 then 0xFF else if v = 2 then 0xFFFF else 0xFFFFFFFF) ∧ t.reg (0x7A40 + u) 4 = (if v = 3 then 3 else 0) ∧
      t.reg (0x7A40 + u) 5 = (if v = 1 then 0xFF else if v = 2 then 0 else 0xFFFFFFFF) ∧ t.reg (0x7A40 + u) 6 = (if v = 2 then 1 else 0) ∧ t.reg (0x7A40 + u) 8 = t.reg (0x7A40 + u) 3 ∧ t = { w with live := t.live }) := by
  have hs := streamPreset_admits req u v s hu (by simpa using hv) (by rw [Nat.one_mul]; exact h)
  rw [Nat.one_mul, ← show w = s.admitted req (31296 + u) 7 (leBytes 1 v) from hw] at hs
  rw [hs]
  refine ⟨fun h1 h3 hr => by rw [streamPresetWrite_busy h1 h3 hr], fun h1 h3 hr => ?_⟩
  have heq := streamPresetWrite_sets h1 h3 hr
  have he := State.streamPresetWrite_eff w u v (Eff.refl 128 w) rfl
  rw [heq] at he ⊢
  obtain ⟨s1, s2, s3, s4, s5, s6⟩ := streamSet_spec u (if v = 1 then 8 else if v = 2 then 16 else 32) (if v = 1 then 0x2F else if v = 2 then 0x1021 else 0x1EDC6F41)
    (if v = 1 then 0xFF else if v = 2 then 0xFFFF else 0xFFFFFFFF) (if v = 3 then 3 else 0) (if v = 1 then 0xFF else if v = 2 then 0 else 0xFFFFFFFF) (if v = 2 then 1 else 0) w
  generalize w.streamSet u _ _ _ _ _ _ = t at *
  have hk := fun k h8 h9 => t.reg_streamLoad_of_ne u (0x7A40 + u) k h8 h9
  refine ⟨_, rfl, (hk 1 (by decide) (by decide)).trans s1, (hk 2 (by decide) (by decide)).trans s2, (hk 3 (by decide) (by decide)).trans s3, (hk 4 (by decide) (by decide)).trans s4,
    (hk 5 (by decide) (by decide)).trans s5, (hk 6 (by decide) (by decide)).trans s6, ?_, he.frame⟩
  rw [State.reg_streamLoad, hk 3 (by decide) (by decide)]
  show t.reg (0x7A40 + u) 3 % 2 ^ t.reg (0x7A40 + u) 1 = t.reg (0x7A40 + u) 3
  rw [s1, s3]
  interval_cases v <;> rfl

/-! ### What the lanes' and the units' commands leave -/

theorem lane_eff {e : Entry} {op n p g u st : Nat} {b : LaneEntry} {x : LaneFrame} {s t : State} {i : Instr}
    (hi : i ∈ [Instr.laneSchedule n, .descriptor n x, .response n x, .ack n x, .data n x, .event n x, .nak n x, .responseTimeout n, .recoveryExpiry p, .laneBusOffRecovery n,
      .laneErrorPassive n st, .laneCommand e op b, .laneRead e b, .groupTimeout g, .echoMismatch n, .streamEntryDone u]) (h : exec i s = .next t) : Eff 30787401426118 s t := by
  have hof : Eff.Outcome 30787401426118 s (exec i s) → Eff 30787401426118 s t := by
    rintro ⟨w, hw, he⟩
    rw [h] at hw
    cases hw
    exact he
  apply hof
  simp only [List.mem_cons, List.not_mem_nil, or_false] at hi
  rcases hi with rfl | rfl | rfl | rfl | rfl | rfl | rfl | rfl | rfl | rfl | rfl | rfl | rfl | rfl | rfl | rfl
  · exact (execLaneSchedule_eff n s).mono rfl
  · exact (execDescriptor_eff n x s).mono rfl
  · exact (execResponse_eff n x s).mono rfl
  · exact (execAck_eff n x s).mono rfl
  · exact (execData_eff n x s).mono rfl
  · exact (execEvent_eff n x s).mono rfl
  · exact (execNak_eff n x s).mono rfl
  · exact (execResponseTimeout_eff n s).mono rfl
  · exact (execRecoveryExpiry_eff p s).mono rfl
  · exact (execLaneBusOffRecovery_eff n s).mono rfl
  · exact (execLaneErrorPassive_eff n st s).mono rfl
  · exact (execLaneCommand_eff e op b s).mono rfl
  · exact (execLaneRead_eff e b s).mono rfl
  · exact (execGroupTimeout_eff g s).mono rfl
  · exact (execEchoMismatch_eff n s).mono rfl
  · exact (execStreamEntryDone_eff u s).mono rfl

/-! ### The obligation -/

/-- Settles O59: the lanes' commands case by case; the partner due by the best of those seen so far, a group's results nibble by nibble, and an entry's
end through the state in which its bytes have been fed. -/
theorem lanesAndStreams : Obligations.LanesAndStreams := by
  unfold Obligations.LanesAndStreams
  refine ⟨fun n s h => laneSchedule_elsewhere h, fun n t s hs hn hc => laneSchedule_resends hs hn hc, fun n s u hs hn hc hu => laneSchedule_chooses hs hn hc hu,
    fun n p s => ⟨fun q rest h => laneChoose_ack h, fun g rest ha hg hp => laneChoose_group ha hg hp, fun r rest ha hg hq hh hp => ?_,
      fun r rest hh hp => laneTakeQueue_aborts (e := (p, r)) hh hp, fun r rest h => laneTakeQueue_held_keeps h, fun r => heldBack_iff r s⟩,
    fun n p s h => duePartner_spec h, fun n p m s hp hd hm => pollPartner_spec hp hd hm, fun n p l r s hr => laneSend_spec hr, lane_commands,
    fun n want x f s hf => ⟨laneReceive_ignored, laneReceive_other hf, laneReceive_takes hf⟩,
    fun n p rtt sh t f s => ⟨judgeFrame_refuses, judgeFrame_unanswered, judgeFrame_answers, judgeFrame_unsolicited⟩, fun n node sh s h => trimNode_still h, acceptFrame_spec,
    fun n t f s hf => ⟨deliverAnswer_poll hf, fun q o v orig hr => deliverAnswer_command hf hr, fun o orig hr => deliverAnswer_read hf hr⟩, fun n t f s hf => deliverAnswer_nak hf,
    fun n s h => responseTimeout_idle h, fun n t s h => responseTimeout_spec h, fun n s => ⟨echoMismatch_elsewhere, echoMismatch_fails⟩,
    fun n a t s => ⟨attemptFails_idle, attemptFails_resent, attemptFails_retries, attemptFails_fails⟩, laneFails_spec, recoveryExpiry_spec, setPartner_spec,
    fun n st s => ⟨(laneBusOffRecovery_spec n s).1, (laneBusOffRecovery_spec n s).2, laneErrorPassive_elsewhere, laneErrorPassive_moves⟩, fun e op b s h => laneEntry_fails h,
    fun e op b s hf => ⟨laneCommand_malformed hf, laneRead_malformed hf⟩,
    fun e b tg o s u hf hfl h0 h254 hlf hz hlen htg ho hu i hi hread hcmd => laneEntry_spec hf hfl h0 h254 hlf hz hlen htg ho hu hi hread hcmd,
    fun req g v ts s u hg hv h hu hts => ?_, fun g p v bs s => ⟨groupTarget_elsewhere, groupTarget_takes⟩, fun g s u => ⟨groupTimeout_elsewhere, groupTimeout_ends⟩,
    fun e op b s => ⟨fun h => ?_, fun h hf => ?_⟩, fun e op u b sp s w i hf hr hu hw hsp hi => stream_spec hf hr hu hw hsp hi, fun u s h => streamEntryDone_idle h,
    fun u x v r s h hx hv => streamEntryDone_spec h hx hv, fun req g v s hg hv hx h => groupStart_outOfRange hg hv hx h,
    fun req u v s hu hv hx h => streamPreset_outOfRange hu hv hx h, fun req u v s w hu hv h hw => streamPreset_spec req u v s w hu hv h hw, ?_⟩
  · obtain ⟨t, h1, h2, h3⟩ := laneChoose_queue ha hg hq hh hp
    exact ⟨t, h1, h2, by cases r <;> exact h3⟩
  · rw [groupStart_spec req g v s u hg hv h hu]
    refine ⟨fun h1 hr => ?_, fun h1 hne hall hlen hmax => ⟨fun k hk hh => ?_, fun hown => ⟨fun h6 => ?_, fun h6 => ?_, fun h6 hlanes => ?_⟩⟩⟩
    · rw [groupStartWrite_range hts (Or.inr hr)]
    all_goals
      subst h1
      obtain ⟨hdenied, hstart⟩ := groupStartWrite_accepted (req := req) hts hne hall hlen hmax
    · rw [hdenied ⟨k, hk, hh⟩]
    · rw [hstart hown, if_pos h6]
    · have he := State.groupStartWrite_eff u req g 1 (Eff.refl 21991308402816 u) rfl
      have hstatus : (u.groupStartWrite req g 1).1 = Status.pending := by rw [hstart hown, if_neg h6]
      exact ⟨_, by rw [hstatus], SameRings.of_eff he⟩
    · rw [hstart hown, if_neg h6]
      obtain ⟨t, ht, hspec⟩ := groupStart_pending (g := g) (ts := ts) (u := u) (fun p hp => groupTargets_lt p (hts ▸ hp)) hlanes
      exact ⟨t, by rw [ht], hspec⟩
  · exact ⟨congrArg Host.Outcome.next (streamStart_busy h), congrArg Host.Outcome.next (streamStart_busy h), congrArg Host.Outcome.next (streamStart_busy h)⟩
  · exact ⟨congrArg Host.Outcome.next (streamStart_fails h hf), congrArg Host.Outcome.next (streamStart_fails h hf), congrArg Host.Outcome.next (streamStart_fails h hf)⟩
  · rintro e op n p g u st b x s t ⟨i, hi, h⟩
    have he := lane_eff hi h
    exact ⟨SameRings.of_eff he, he.mem_eq, he.heads_eq, he.gfx_eq, he.keys_eq, he.haptics_eq, he.audio_eq, he.pins_eq, he.fuses_eq, he.dir_eq⟩

end Sys2Proof.Machine
end

section
/-! O13. The boot state as the blocks take a ring up: which of them leaves the register 0x2100.01 as it was. -/
set_option Elab.async false
namespace Sys2Proof.Machine

/-! ### The operations of the state -/

theorem State.bootState_of_eff {c : Nat} {s t : State} (he : Eff c s t) (h4 : Nat.testBit c 4 = false) (h5 : Nat.testBit c 5 = false)
    (h7 : Nat.testBit c 7 = false) : t.bootState = s.bootState := State.reg_of_eff he h4 h5 h7 0x2100 1

theorem State.bootState_setLive_of_ne (s : State) (i k : Nat) (v : Val) (h : entryKey i k ≠ entryKey 0x2100 1) :
    (s.setLive i k v).bootState = s.bootState :=
  State.reg_of_liveAt ((State.liveAt_setLive _ _ _ _ _ _).trans (if_neg h))

@[simp] theorem State.bootState_setLive (s : State) (i k : Nat) (v : Val) (h : k % 256 ≠ 1) : (s.setLive i k v).bootState = s.bootState :=
  State.bootState_setLive_of_ne _ _ _ _ (entryKey_inst_ne h)

theorem State.bootState_setReg (s : State) (i k v : Nat) (h : k % 256 ≠ 1) : (s.setReg i k v).bootState = s.bootState :=
  State.bootState_setLive _ _ _ _ h

/-- An object's first entry is that of the boot state in 0x2100 alone. -/
@[simp] theorem State.bootState_setLive_first (s : State) (i : Nat) (v : Val) (h : i ≠ 0x2100) : (s.setLive i 1 v).bootState = s.bootState :=
  State.bootState_setLive_of_ne _ _ _ _ (fun he => h (by simp only [entryKey] at he; omega))

@[simp] theorem State.bootState_inc (s : State) (i k : Nat) (h : k % 256 ≠ 1) : (s.inc i k).bootState = s.bootState :=
  State.bootState_setReg _ _ _ _ h

@[simp] theorem State.bootState_incH (s : State) (o g k : Nat) (h : k % 256 ≠ 1) : (s.incH o g k).bootState = s.bootState :=
  State.bootState_setReg _ _ _ _ h

@[simp] theorem State.bootState_raise (s : State) (i k v : Nat) (h : k % 256 ≠ 1) : (s.raise i k v).bootState = s.bootState :=
  State.bootState_setReg _ _ _ _ h

@[simp] theorem State.bootState_setH (s : State) (o g k v : Nat) (h : k % 256 ≠ 1) : (s.setH o g k v).bootState = s.bootState :=
  State.bootState_setReg _ _ _ _ h

@[simp] theorem State.bootState_event (s : State) (i a b c d e f : Nat) : (s.event i a b c d e f).bootState = s.bootState :=
  State.reg_event _ _ _ _ _ _ _ _ _ _ (by decide)

theorem State.bootState_ite {p : Prop} [Decidable p] {t u : State} {b : Nat} (ht : t.bootState = b) (hu : u.bootState = b) :
    (if p then t else u).bootState = b := by
  split
  · exact ht
  · exact hu

@[simp] theorem State.bootState_useFree (s : State) : s.useFree.bootState = s.bootState := rfl
@[simp] theorem State.bootState_takeUp (s : State) (p : Nat → Bool) : (s.takeUp p).bootState = s.bootState := rfl
@[simp] theorem State.bootState_modInst (s : State) (i : Nat) (f : Inst → Inst) : (s.modInst i f).bootState = s.bootState := rfl
@[simp] theorem State.bootState_modSq (s : State) (i q : Nat) (f : Sq → Sq) : (s.modSq i q f).bootState = s.bootState := rfl
@[simp] theorem State.bootState_modHead (s : State) (g : Nat) (f : Head → Head) : (s.modHead g f).bootState = s.bootState := rfl
@[simp] theorem State.bootState_modComp (s : State) (g : Nat) (f : Composer → Composer) : (s.modComp g f).bootState = s.bootState := rfl
@[simp] theorem State.bootState_modCano (s : State) (g : Nat) (f : Canopy → Canopy) : (s.modCano g f).bootState = s.bootState := rfl
@[simp] theorem State.bootState_modRegion (s : State) (r : Nat) (f : Region → Region) : (s.modRegion r f).bootState = s.bootState := rfl
@[simp] theorem State.bootState_modHap (s : State) (c : Nat) (f : Haptic → Haptic) : (s.modHap c f).bootState = s.bootState := rfl
@[simp] theorem State.bootState_modKey (s : State) (k : Nat) (f : KeyWork → KeyWork) : (s.modKey k f).bootState = s.bootState := rfl
@[simp] theorem State.bootState_modElec (s : State) (e : Nat) (f : ElectrodeWork → ElectrodeWork) : (s.modElec e f).bootState = s.bootState := rfl
@[simp] theorem State.bootState_modLane (s : State) (n : Nat) (f : LaneWork → LaneWork) : (s.modLane n f).bootState = s.bootState := rfl
@[simp] theorem State.bootState_modPartner (s : State) (p : Nat) (f : PartnerWork → PartnerWork) : (s.modPartner p f).bootState = s.bootState := rfl
@[simp] theorem State.bootState_modRow (s : State) (i : Nat) (f : XpRow → XpRow) : (s.modRow i f).bootState = s.bootState := rfl
@[simp] theorem State.bootState_modXpo (s : State) (o : Nat) (f : XpOutput → XpOutput) : (s.modXpo o f).bootState = s.bootState := rfl

theorem State.bootState_each (s : State) (l : List Nat) (f : State → Nat → State) (hf : ∀ t n, (f t n).bootState = t.bootState) :
    (s.each l f).bootState = s.bootState := State.reg_each l f 0x2100 1 hf s

theorem State.bootState_each_mem (s : State) (l : List Nat) (f : State → Nat → State)
    (hf : ∀ t, ∀ n ∈ l, (f t n).bootState = t.bootState) : (s.each l f).bootState = s.bootState :=
  State.each_keeps_mem (P := fun t => t.bootState = s.bootState) _ _ (fun t n hn h => (hf t n hn).trans h) s rfl

theorem State.bootState_foldl {α : Type} (f : State → α → State) (l : List α) (hf : ∀ t, ∀ x ∈ l, (f t x).bootState = t.bootState) (s : State) :
    (l.foldl f s).bootState = s.bootState := by
  induction l generalizing s with
  | nil => rfl
  | cons x xs ih =>
    rw [List.foldl_cons, ih (fun t y hy => hf t y (List.mem_cons_of_mem _ hy)), hf s x List.mem_cons_self]

/-! ### Heads and regions -/

@[simp] theorem State.bootState_endEntry (s : State) (i q tag : Nat) (c : Bool) (status : Nat) : (s.endEntry i q tag c status).bootState = s.bootState := by
  unfold State.endEntry State.queueEvent
  split
  · exact State.bootState_event _ _ _ _ _ _ _ _
  · rfl

@[simp] theorem State.bootState_clipAfterCommit (s : State) (g : Nat) : (s.clipAfterCommit g).bootState = s.bootState :=
  State.bootState_setH _ _ _ _ _ (by decide)

@[simp] theorem State.bootState_regionEvent (s : State) (r a b c d : Nat) : (s.regionEvent r a b c d).bootState = s.bootState :=
  State.reg_regionEvent _ _ _ _ _ _ _ _ (by decide)

@[simp] theorem State.bootState_regionEnter (s : State) (r st : Nat) : (s.regionEnter r st).bootState = s.bootState := by
  unfold State.regionEnter
  split
  · rfl
  · simp

@[simp] theorem State.bootState_regionsLatch (s : State) (g : Nat) : (s.regionsLatch g).bootState = s.bootState := by
  unfold State.regionsLatch
  refine State.bootState_each _ _ _ (fun t r => ?_)
  rw [State.bootState_modRegion]
  split
  · rfl
  · dsimp only
    split <;> simp

@[simp] theorem State.bootState_regionGuard (s : State) (r : Nat) (g : Option Nat) : (s.regionGuard r g).bootState = s.bootState := by
  unfold State.regionGuard
  dsimp only
  split
  · rfl
  · cases g with
    | none => simp
    | some k => dsimp only; split <;> simp

@[simp] theorem State.bootState_chooseGuard (s : State) (g : Nat) : (s.chooseGuard g).bootState = s.bootState := by
  unfold State.chooseGuard
  dsimp only
  split
  · rfl
  · have hrun : ∀ (l : List Nat) (k : Option Nat), (s.each l (fun t r => t.regionGuard r k)).bootState = s.bootState :=
      fun l k => State.bootState_each _ _ _ (fun t r => State.bootState_regionGuard t r k)
    split
    · exact hrun _ _
    · exact (State.bootState_regionEvent _ _ _ _ _ _).trans (hrun _ _)

@[simp] theorem State.bootState_reverify (s : State) (g : Nat) : (s.reverify g).bootState = s.bootState := by
  unfold State.reverify
  rw [State.bootState_chooseGuard]
  refine State.bootState_each _ _ _ (fun t r => ?_)
  dsimp only
  split
  · exact State.bootState_regionEnter _ _ _
  · rfl

@[simp] theorem State.bootState_refreshFetch (s : State) (d : Nat) : (s.refreshFetch d).bootState = s.bootState := by
  unfold State.refreshFetch
  refine (State.bootState_each _ _ _ (fun t g => ?_)).trans (State.bootState_each _ _ _ (fun t l => by simp))
  have hg : 0x300A + 256 * g ≠ 0x2100 := by omega
  dsimp only
  split <;> simp [hg]

@[simp] theorem State.bootState_canopyEvent (s : State) (g reason : Nat) : (s.canopyEvent g reason).bootState = s.bootState := by
  unfold State.canopyEvent
  split
  · exact State.bootState_event _ _ _ _ _ _ _ _
  · rfl

@[simp] theorem State.bootState_canopyEnter (s : State) (g st : Nat) : (s.canopyEnter g st).bootState = s.bootState := by
  unfold State.canopyEnter
  dsimp only
  split
  · rfl
  · refine State.bootState_ite ?_ (State.bootState_ite ?_ (State.bootState_ite ?_ ?_)) <;> simp <;>
      exact State.bootState_ite (by simp) (by simp)

@[simp] theorem State.bootState_surfaceEnds (s : State) (g n : Nat) : (s.surfaceEnds g n).bootState = s.bootState := rfl

@[simp] theorem State.bootState_canopyDecide (s v : State) (g : Nat) (change again : Bool) :
    (s.canopyDecide v g change again).bootState = s.bootState := by
  unfold State.canopyDecide
  extract_lets next ch b s1 st done
  have hs1 : s1.bootState = s.bootState := (State.bootState_setReg _ _ _ _ (by decide)).trans (State.bootState_setReg _ _ _ _ (by decide))
  clear_value done st s1
  split
  · refine (State.bootState_canopyEnter _ _ _).trans (State.bootState_ite ?_ hs1)
    exact (State.bootState_surfaceEnds _ _ _).trans hs1
  · refine State.bootState_ite ?_ (State.bootState_ite ?_ (State.bootState_ite ?_ hs1))
    · exact (State.bootState_canopyEnter _ _ _).trans ((State.bootState_modCano _ _ _).trans hs1)
    · refine (State.bootState_canopyEnter _ _ _).trans (State.bootState_ite ?_ hs1)
      exact (State.bootState_surfaceEnds _ _ _).trans ((State.bootState_inc _ _ _ (by decide)).trans hs1)
    · exact (State.bootState_modCano _ _ _).trans ((State.bootState_inc _ _ _ (by decide)).trans hs1)

@[simp] theorem State.bootState_recompose (s : State) (g f : Nat) : (s.recompose g f).bootState = s.bootState := rfl

end Sys2Proof.Machine
end

section
/-! O13. The boot state as a ring that is taken up, or a lender, reaches the port, the keys, the haptics, the audio, the lanes and the
instances. -/
set_option Elab.async false
namespace Sys2Proof.Machine

/-! ### The port, the keys and the haptics -/

@[simp] theorem State.bootState_commReset (s : State) : s.commReset.bootState = s.bootState := by
  have hsent : ∀ (t : State) (n : Nat) (bs : List Byte), ((t.sendMcan n bs).armHeartbeat).bootState = t.bootState := fun _ _ _ => rfl
  unfold State.commReset
  refine (hsent _ _ _).trans ((State.bootState_setReg _ _ _ _ (by decide)).trans ((State.bootState_setReg _ _ _ _ (by decide)).trans ?_))
  exact (State.bootState_setLive_first _ _ _ (by decide)).trans rfl

@[simp] theorem State.bootState_mcanUptake (s old : State) : (s.mcanUptake old).bootState = s.bootState := by
  have hrepeat : (s.repeatUptake old).bootState = s.bootState := by
    unfold State.repeatUptake
    exact State.bootState_ite rfl rfl
  unfold State.mcanUptake
  exact State.bootState_ite ((State.bootState_commReset _).trans hrepeat) (State.bootState_ite hrepeat hrepeat)

@[simp] theorem State.bootState_releaseKey (s : State) (k r : Nat) (b : Bool) : (s.releaseKey k r b).bootState = s.bootState := by
  unfold State.releaseKey
  have h : ((((s.setKeyState k 3).modKey k (fun x => { x with np := 0, nr := 0, negative := 0 })).dispatchRelease k)).bootState = s.bootState :=
    (State.reg_dispatchRelease _ _ _ _ (by decide) (by decide)).trans (State.bootState_setReg s _ _ _ (by decide))
  refine State.bootState_ite rfl (State.bootState_ite ?_ h)
  exact (State.reg_keyEvent _ _ _ _ _ _ _ (by decide)).trans h

@[simp] theorem State.bootState_capture (s : State) (k : Nat) (a b : Bool) : (s.capture k a b).bootState = s.bootState := by
  unfold State.capture
  extract_lets e s1
  have h : s1.bootState = s.bootState := (State.bootState_modKey _ _ _).trans (State.bootState_setReg s _ _ _ (by decide))
  exact State.bootState_ite h ((State.bootState_setReg _ _ _ _ (by decide)).trans ((State.bootState_modElec _ _ _).trans h))

@[simp] theorem State.bootState_keyTaken (s old : State) (k : Nat) (b : Bool) : (s.keyTaken k old b).bootState = s.bootState := by
  have h := State.bootState_releaseKey s k 6 true
  unfold State.keyTaken
  refine State.bootState_ite (State.bootState_ite ?_ rfl) (State.bootState_ite h (State.bootState_ite ?_ rfl))
  · exact (State.bootState_setReg _ _ _ _ (by decide)).trans h
  · exact (State.bootState_capture _ _ _ _).trans h

@[simp] theorem State.bootState_keyUptake (s : State) (d : Nat) : (s.keyUptake d).bootState = s.bootState := by
  unfold State.keyUptake
  refine (State.bootState_each _ _ _ (fun t k => State.bootState_keyTaken _ _ _ _)).trans ?_
  exact State.bootState_each _ _ _ (fun t e => State.bootState_ite rfl (State.bootState_setReg _ _ _ _ (by decide)))

@[simp] theorem State.bootState_hapStart (s : State) : s.hapStart.bootState = s.bootState :=
  State.bootState_each _ _ _ (fun t c => State.bootState_setReg t _ _ _ (by decide))

/-! ### The audio crosspoint and the lanes -/

@[simp] theorem State.bootState_settlePort (s : State) (p : Nat) : (s.settlePort p).bootState = s.bootState := by
  have h : ∀ v, (s.setReg (0x6808 + p) 0xF v).bootState = s.bootState := fun v => State.bootState_setReg _ _ _ _ (by decide)
  unfold State.settlePort
  exact State.bootState_ite rfl (State.bootState_ite (h 0) (State.bootState_ite rfl (h 1)))

@[simp] theorem State.bootState_openRow (s : State) (i : Nat) : (s.openRow i).bootState = s.bootState := by
  unfold State.openRow
  exact State.bootState_ite rfl rfl

@[simp] theorem State.bootState_audioStart (s : State) : s.audioStart.bootState = s.bootState := by
  unfold State.audioStart
  extract_lets src s1 s2 s3
  have h1 : s1.bootState = s.bootState := rfl
  have h2 : s2.bootState = s1.bootState :=
    State.bootState_each _ _ _ (fun t i => State.bootState_ite rfl ((State.bootState_openRow _ i).trans (State.bootState_modRow _ _ _)))
  have h3 : s3.bootState = s2.bootState := State.bootState_each _ _ _ (fun t o => State.bootState_ite rfl (State.bootState_modXpo _ _ _))
  clear_value s3 s2 s1
  refine (State.bootState_each _ _ _ (fun t p => State.bootState_settlePort t p)).trans ?_
  exact (State.bootState_setReg _ _ _ _ (by decide)).trans (h3.trans (h2.trans h1))

@[simp] theorem State.bootState_setLaneUnit (s : State) (n : Nat) : (s.setLaneUnit n).bootState = s.bootState := by
  have hn : 0x7A00 + n ≠ 0x2100 := by omega
  unfold State.setLaneUnit
  dsimp only
  split <;> simp [hn]

@[simp] theorem State.bootState_setLaneState (s : State) (n st : Nat) : (s.setLaneState n st).bootState = s.bootState := by
  unfold State.setLaneState
  refine State.bootState_ite rfl ?_
  exact (State.bootState_event _ _ _ _ _ _ _ _).trans (State.bootState_setReg _ _ _ _ (by decide))

@[simp] theorem State.bootState_endLaneEntry (s : State) (o : LaneOrigin) (status : Nat) : (s.endLaneEntry o status).bootState = s.bootState := by
  unfold State.endLaneEntry
  split
  · exact State.bootState_endEntry _ _ _ _ _ _
  · rfl

@[simp] theorem State.bootState_offsetBytes (s : State) (n node : Nat) : (s.offsetBytes n node).bootState = s.bootState := by
  unfold State.offsetBytes
  exact State.bootState_setLive _ _ _ _ (by decide)

@[simp] theorem State.bootState_setPartner (s : State) (p st c : Nat) : (s.setPartner p st c).bootState = s.bootState := by
  have hmoved : (s.partnerMoved p st).bootState = s.bootState := by
    have hended : ∀ (l : List (Nat × LaneRequest)),
        (l.foldl (fun (t : State) e => t.endLaneEntry e.2.origin Status.aborted) s).bootState = s.bootState :=
      fun l => State.bootState_foldl _ _ (fun t e _ => State.bootState_endLaneEntry _ _ _) _
    unfold State.partnerMoved
    refine (State.bootState_setReg _ _ _ _ (by decide)).trans ?_
    have hset : ∀ t : State, (t.setReg (0x7100 + p) 8 st).bootState = t.bootState := fun t => State.bootState_setReg _ _ _ _ (by decide)
    refine State.bootState_ite ((State.bootState_modPartner _ _ _).trans ((hset _).trans ?_)) ((hset _).trans ?_) <;>
      refine State.bootState_ite ?_ (State.bootState_ite ((State.bootState_modLane _ _ _).trans (hended _)) rfl) <;>
      refine (State.bootState_modPartner _ _ _).trans ((State.bootState_offsetBytes _ _ _).trans ((State.bootState_modLane _ _ _).trans ?_)) <;>
      exact State.bootState_ite ((State.bootState_modLane _ _ _).trans (hended _)) rfl
  rw [State.setPartner_eq]
  exact State.bootState_ite hmoved ((State.bootState_event _ _ _ _ _ _ _ _).trans hmoved)

@[simp] theorem State.bootState_laneTaken (s u : State) (n : Nat) : (s.laneTaken u n).bootState = u.bootState := by
  unfold State.laneTaken
  refine (State.bootState_each _ _ _ (fun t p => ?_)).trans (State.bootState_ite rfl (State.bootState_ite ?_ rfl))
  · refine State.bootState_ite (State.bootState_ite ?_ (State.bootState_ite ?_ rfl)) (State.bootState_ite (State.bootState_ite rfl ?_)
      (State.bootState_ite ?_ (State.bootState_setReg _ _ _ _ (by decide)))) <;> exact State.bootState_setPartner _ _ _ _
  · exact (State.bootState_setLaneState _ _ _).trans (State.bootState_setLaneUnit _ _)

@[simp] theorem State.bootState_lanesStart (s : State) : s.lanesStart.bootState = s.bootState :=
  State.bootState_each _ _ _ (fun t n => (State.bootState_laneTaken t _ n).trans (State.bootState_takeUp _ _))

/-! ### The regulators, the instances and the lenders -/

@[simp] theorem State.bootState_vrStart (s : State) : s.vrStart.bootState = s.bootState := by
  unfold State.vrStart
  refine State.bootState_ite rfl (State.bootState_each _ _ _ (fun t d => ?_))
  refine State.bootState_ite ?_ ((State.bootState_event _ _ _ _ _ _ _ _).trans ?_) <;>
    exact (State.bootState_useFree _).trans ((State.bootState_setReg _ _ _ _ (by decide)).trans (State.bootState_setReg _ _ _ _ (by decide)))

/-- The boot state is no entry that an instance holds. -/
theorem State.bootState_notin_instDefaults (s : State) (i : Nat) : entryKey 0x2100 1 ∉ s.instDefaults i := by
  have hgrant : (objectAt 0x2100).all (fun p => decide (p.1.grant = .readable)) = true := by decide +kernel
  intro h
  unfold State.instDefaults at h
  obtain ⟨e, he, hkey⟩ := List.mem_map.1 h
  have hcond := (List.mem_filter.1 he).2
  rw [hkey, show entryKey 0x2100 1 / 256 = 0x2100 from rfl] at hcond
  cases hat : objectAt 0x2100 with
  | none =>
    rw [hat] at hcond
    exact absurd hcond (by simp)
  | some p =>
    rw [hat] at hcond hgrant
    obtain ⟨o, k⟩ := p
    dsimp only at hcond
    have hheld : s.grantHeld i o k = false := if_pos (Or.inr (Or.inl (of_decide_eq_true hgrant)))
    cases hsub : o.sub? (entryKey 0x2100 1 % 256) with
    | none => simp [hsub] at hcond
    | some r => simp [hsub, hheld] at hcond

@[simp] theorem State.bootState_toDefault (s : State) (key : Nat) (h : key ≠ entryKey 0x2100 1) : (s.toDefault key).bootState = s.bootState := by
  have hkey : entryKey (key / 256) (key % 256) ≠ entryKey 0x2100 1 := by
    unfold entryKey at *
    omega
  unfold State.toDefault
  exact State.bootState_ite (State.bootState_setLive_of_ne _ _ _ _ hkey) (State.bootState_setLive_of_ne _ _ _ _ hkey)

@[simp] theorem State.bootState_membersDefault (s : State) (g : Nat) : (s.membersDefault g).bootState = s.bootState := by
  unfold State.membersDefault
  have h : ∀ f, ((s.modCano g f).setReg (0x4200 + g) 5 0).bootState = s.bootState := fun f => State.bootState_setReg _ _ _ _ (by decide)
  exact State.bootState_ite (h _) (h _)

@[simp] theorem State.bootState_enterActive (s : State) : (s.enterActive 0).bootState = s.bootState := by
  unfold State.enterActive
  have hstate : ∀ t : State, (t.instEnter 0 1 Status.ok).bootState = t.bootState :=
    fun t => State.reg_instEnter t 0 1 _ _ _ (by decide) (by decide)
  refine (hstate _).trans ((State.bootState_each _ _ _ (fun t u => ?_)).trans ?_)
  · exact (State.reg_streamLoad_of_ne _ _ _ _ (by decide) (by decide)).trans rfl
  · refine (State.bootState_foldl _ _ (fun t k hk => ?_) _).trans ((State.bootState_each _ _ _ (fun t r => ?_)).trans ?_)
    · exact State.bootState_toDefault _ _ (fun he => State.bootState_notin_instDefaults _ 0 (he ▸ hk))
    · unfold State.setEditBank
      exact State.bootState_modRow _ _ _
    · exact State.bootState_foldl _ _ (fun t g _ => State.bootState_membersDefault _ _) _

@[simp] theorem State.bootState_lendingEvent (s : State) (d r l : Nat) : (s.lendingEvent d r l).bootState = s.bootState := by
  unfold State.lendingEvent
  exact State.bootState_foldl _ _ (fun t i _ => State.bootState_event _ _ _ _ _ _ _ _) _

@[simp] theorem State.bootState_stopUnserved (s : State) : s.stopUnserved.bootState = s.bootState := by
  unfold State.stopUnserved
  refine State.bootState_each _ _ _ (fun t n => State.bootState_ite ?_ rfl)
  exact (State.bootState_event _ _ _ _ _ _ _ _).trans rfl

@[simp] theorem State.bootState_startLending (s : State) (f : Nat) : (s.startLending f).bootState = s.bootState := by
  have h : ∀ l, (s.setReg (0x2708 + f) 3 l).bootState = s.bootState := fun l => State.bootState_setReg _ _ _ _ (by decide)
  unfold State.startLending
  split
  · exact (State.bootState_stopUnserved _).trans ((State.bootState_lendingEvent _ _ _ _).trans (h _))
  · exact (State.bootState_reverify _ _).trans ((State.bootState_reverify _ _).trans ((State.bootState_lendingEvent _ _ _ _).trans (h _)))

end Sys2Proof.Machine
end

section
/-! O13. A commit that waits on a head and whose record names the boot state. -/
set_option Elab.async false
namespace Sys2Proof.Machine

/-! ### The commit -/

/-- A commit with one record, which would set the boot state to 5. -/
def latchBait : PendingCommit := { inst := 0, q := 0, tag := 0, completion := false, late := false, records := [(0x2100, 1, .num 5)], images := [] }

theorem State.bootState_latchCommit_latchBait (s : State) (g : Nat) : (s.latchCommit g latchBait).bootState = 5 := by
  have hset : ∀ t : State, (t.setLive 0x2100 1 (.num 5)).bootState = 5 := fun t => State.reg_setReg_self t 0x2100 1 5
  unfold State.latchCommit
  refine (State.bootState_endEntry _ _ _ _ _ _).trans (State.bootState_ite ?_ ?_)
  · exact (State.bootState_incH _ _ _ _ (by decide)).trans ((State.bootState_incH _ _ _ _ (by decide)).trans (hset _))
  · exact (State.bootState_incH _ _ _ _ (by decide)).trans (hset _)

@[simp] theorem State.bootState_membersTaken (s : State) (g : Nat) : (s.membersTaken g).bootState = s.bootState := by
  unfold State.membersTaken
  split
  · rfl
  · exact (State.bootState_modCano _ _ _).trans (State.bootState_setReg _ _ _ _ (by decide))

theorem State.bootState_latchDecision_latchBait {s : State} {g : Nat} (h : (s.head g).pending = [latchBait]) : (s.latchDecision g).bootState = 5 := by
  unfold State.latchDecision
  rw [h]
  extract_lets ps hs again member s0 s1 s2 s3 v
  have h1 : s1.bootState = 5 := State.bootState_latchCommit_latchBait _ _
  have h3 : s3.bootState = s1.bootState := (State.bootState_each _ _ _ (fun t k => State.bootState_modHead _ _ _)).trans (State.bootState_modHead _ _ _)
  clear_value v s3 s1
  refine (State.bootState_each _ _ _ (fun t k => ?_)).trans (h3.trans h1)
  refine State.bootState_ite ((State.bootState_recompose _ _ _).trans ?_) ?_ <;>
    exact (State.bootState_canopyDecide _ _ _ _ _).trans ((State.bootState_refreshFetch _ _).trans ((State.bootState_regionsLatch _ _).trans
      ((State.bootState_clipAfterCommit _ _).trans (State.bootState_modComp _ _ _))))

theorem State.bootState_beginRun_latchBait {s : State} {g : Nat} (ht : s.timingHead g = g) (hr : (s.head g).running = false)
    (hs : (s.head g).startPending = false) (h : (s.head g).pending = [latchBait]) : (s.beginRun g).bootState = 5 := by
  unfold State.beginRun
  dsimp only
  rw [ht, hr, hs, if_neg (by decide)]
  refine (State.bootState_each _ _ _ (fun t k => State.bootState_modComp _ _ _)).trans (State.bootState_latchDecision_latchBait ?_)
  rw [State.head_modHead, if_pos rfl, h]
  rfl

/-! ### A device of two dies whose head 3 holds it -/

/-- The ring that enables head 3 alone. -/
def enableHead3 : Tab Val := [(entryKey 0x3300 1, .num 1)]

/-- What the uptake of `enableHead3` finds: a UX-3804 whose heads 0 to 2 run, and whose head 3 has a link and does not run while the commit
waits for it. -/
structure State.Baited (s : State) : Prop where
  part    : s.part = .ux3804
  grade   : s.grade = smallReset.grade
  hpd     : s.pins.hpd = [0, 1, 2, 3]
  single  : ∀ g, g < 4 → (s.head g).pairedTaken = false
  running : ∀ g, g < 3 → (s.head g).running = true
  stopped : (s.head 3).running = false ∧ (s.head 3).startPending = false
  pending : (s.head 3).pending = [latchBait]
  link    : s.reg 0x3302 1 = 6

theorem State.Baited.of_eq {s t : State} (h : s.Baited) (hp : t.part = s.part) (hg : t.grade = s.grade) (hpins : t.pins = s.pins)
    (hheads : t.heads = s.heads) (hreg : t.reg 0x3302 1 = s.reg 0x3302 1) : t.Baited := by
  have hhead : ∀ g, t.head g = s.head g := fun g => by unfold State.head; rw [hheads]
  obtain ⟨part, grade, hpd, single, running, stopped, pending, link⟩ := h
  exact { part := hp.trans part, grade := hg.trans grade, hpd := (congrArg (·.hpd) hpins).trans hpd
          single := fun g hg => (congrArg (·.pairedTaken) (hhead g)).trans (single g hg)
          running := fun g hg => (congrArg (·.running) (hhead g)).trans (running g hg)
          stopped := by rw [hhead]; exact stopped
          pending := (congrArg (·.pending) (hhead 3)).trans pending, link := hreg.trans link }

theorem State.Baited.of_eff {c : Nat} {s t : State} (h : s.Baited) (he : Eff c s t) (h4 : Nat.testBit c 4 = false) (h5 : Nat.testBit c 5 = false)
    (hpins : Nat.testBit c 18 = false) (hheads : Nat.testBit c 31 = false) (hreg : t.reg 0x3302 1 = s.reg 0x3302 1) : t.Baited :=
  h.of_eq (he.part_eq h4) (he.grade_eq h5) (he.pins_eq hpins) (he.heads_eq hheads) hreg

theorem State.Baited.setLive {s : State} (h : s.Baited) (i k : Nat) (v : Val) (hk : entryKey i k ≠ entryKey 0x3302 1) : (s.setLive i k v).Baited :=
  h.of_eq rfl rfl rfl rfl (State.reg_of_liveAt ((State.liveAt_setLive _ _ _ _ _ _).trans (if_neg hk)))

theorem State.Baited.setReg {s : State} (h : s.Baited) (i k v : Nat) (hk : entryKey i k ≠ entryKey 0x3302 1) : (s.setReg i k v).Baited :=
  State.Baited.setLive h i k _ hk

theorem State.Baited.each {s : State} (h : s.Baited) (l : List Nat) (f : State → Nat → State) (hf : ∀ t, ∀ n ∈ l, t.Baited → (f t n).Baited) :
    (s.each l f).Baited := State.each_keeps_mem (P := State.Baited) l f hf s h

theorem State.Baited.dieList {s : State} (h : s.Baited) : s.dieList = [0, 1] := by
  unfold State.dieList State.dies
  rw [h.part]
  rfl

theorem State.Baited.dies {s : State} (h : s.Baited) : s.dies = 2 := by
  unfold State.dies
  rw [h.part]
  rfl

theorem State.Baited.timingHead {s : State} (h : s.Baited) {g : Nat} (hg : g < 4) : s.timingHead g = g := by
  unfold State.timingHead
  rw [h.single _ (by omega)]
  rfl

theorem State.Baited.pairOf {s : State} (h : s.Baited) {g : Nat} (hg : g < 4) : s.pairOf g = [g] := by
  unfold State.pairOf
  rw [h.single _ (by omega)]
  rfl

/-! ### What the ring says -/

theorem State.Baited.use_fresh {s : State} (h : s.Baited) (ht : s.taken = []) (i k : Nat) : s.use i k = smallReset.use i k := by
  unfold State.use State.useI State.takenAt
  rw [ht, h.part, h.grade]
  rfl

theorem State.Baited.use_taken {s : State} (h : s.Baited) (ht : s.taken = enableHead3) {i k : Nat} (hk : entryKey i k ≠ entryKey 0x3300 1) :
    s.use i k = smallReset.use i k := by
  have hfind : Tab.find? s.taken (entryKey i k) = none := by
    rw [ht]
    unfold enableHead3
    simp [Tab.find?, hk.symm]
  unfold State.use State.useI State.takenAt Tab.getD
  rw [hfind, h.part, h.grade]
  rfl

theorem State.use_enable_taken {s : State} (ht : s.taken = enableHead3) : s.use 0x3300 1 = 1 := by
  unfold State.use State.useI State.takenAt
  rw [ht]
  rfl

theorem State.Baited.cfg_enable {s : State} (h : s.Baited) (ha : s.active = enableHead3) {g : Nat} (hg : g < 3) : s.cfg (0x3000 + 256 * g) 1 ≠ 1 := by
  unfold State.cfg State.cfgI State.activeAt
  rw [ha, h.part, h.grade]
  have hall : (List.range 3).all (fun g => decide ((Tab.getD enableHead3 (entryKey (0x3000 + 256 * g) 1)
    (defaultAt .ux3804 smallReset.grade (0x3000 + 256 * g) 1)).toInt.toNat ≠ 1)) = true := by decide +kernel
  exact of_decide_eq_true (List.all_eq_true.1 hall g (List.mem_range.2 hg))

theorem State.takeUpWhere_fresh {s : State} (ha : s.active = enableHead3) (ht : s.taken = []) (p : Nat → Bool) (hp : p (entryKey 0x3300 1) = false) :
    s.takeUpWhere p = s := by
  have htaken : (s.takeUpWhere p).taken = s.taken := by
    unfold State.takeUpWhere
    dsimp only
    rw [ha, ht]
    unfold enableHead3
    simp [hp]
  calc s.takeUpWhere p = { s with taken := (s.takeUpWhere p).taken } := rfl
    _ = { s with taken := s.taken } := by rw [htaken]
    _ = s := rfl

theorem State.takeUpWhere_taken {s : State} (ha : s.active = enableHead3) (ht : s.taken = enableHead3) (p : Nat → Bool) : s.takeUpWhere p = s := by
  have htaken : (s.takeUpWhere p).taken = s.taken := by
    unfold State.takeUpWhere
    dsimp only
    rw [ha, ht]
    unfold enableHead3
    cases hp : p (entryKey 0x3300 1) <;> simp [hp, Tab.put]
  calc s.takeUpWhere p = { s with taken := (s.takeUpWhere p).taken } := rfl
    _ = { s with taken := s.taken } := by rw [htaken]
    _ = s := rfl

end Sys2Proof.Machine
end

section
/-! O13. The heads take the ring `enableHead3` up: heads 0 to 2 run and wait for their next frame, and head 3 latches the commit that waits. -/
set_option Elab.async false
namespace Sys2Proof.Machine

/-! ### A head that runs -/

theorem State.Baited.retrainAtUptake {s : State} (h : s.Baited) {g : Nat} (hg : g < 4) : s.retrainAtUptake g = s := by
  unfold State.retrainAtUptake
  refine if_neg (fun hc => ?_)
  obtain ⟨-, -, -, hany, -⟩ := hc
  rw [h.pairOf hg] at hany
  simp at hany

theorem State.Baited.modHead {s : State} (h : s.Baited) (g : Nat) (f : Head → Head) (hpaired : ∀ x, (f x).pairedTaken = x.pairedTaken)
    (hrun : ∀ x, (f x).running = x.running) (hstart : ∀ x, (f x).startPending = x.startPending) (hpending : ∀ x, (f x).pending = x.pending) :
    (s.modHead g f).Baited := by
  have hhead : ∀ k, (s.modHead g f).head k = s.head k ∨ (s.modHead g f).head k = f (s.head k) := by
    intro k
    rw [State.head_modHead]
    split
    · next hk => exact Or.inr (hk ▸ rfl)
    · exact Or.inl rfl
  have hkeep : ∀ {α : Type} (field : Head → α), (∀ x, field (f x) = field x) → ∀ k, field ((s.modHead g f).head k) = field (s.head k) := by
    intro α field hfield k
    rcases hhead k with hk | hk <;> rw [hk]
    exact hfield _
  obtain ⟨part, grade, hpd, single, running, ⟨stopped, unstarted⟩, pending, link⟩ := h
  exact { part := part, grade := grade, hpd := hpd, link := link
          single := fun k hk => (hkeep (·.pairedTaken) hpaired k).trans (single k hk)
          running := fun k hk => (hkeep (·.running) hrun k).trans (running k hk)
          stopped := ⟨(hkeep (·.running) hrun 3).trans stopped, (hkeep (·.startPending) hstart 3).trans unstarted⟩
          pending := (hkeep (·.pending) hpending 3).trans pending }

theorem State.Baited.headRing_running {s : State} (h : s.Baited) (ha : s.active = enableHead3) {g : Nat} (hg : g < 3) :
    s.headRing g = s.modHead g (fun x => { x with uptake := true }) := by
  have hgen : s.generates g = true := by
    unfold State.generates
    rw [h.running g hg]
    rfl
  have hcfg : decide (s.cfg (0x3000 + 256 * g) 1 ≠ 1) = true := decide_eq_true (h.cfg_enable ha hg)
  have hpair : s.each (s.pairOf g) (fun u k => u.retrainAtUptake k) = s := by
    rw [h.pairOf (by omega)]
    exact h.retrainAtUptake (by omega)
  unfold State.headRing
  dsimp only
  rw [h.timingHead (by omega), hgen, hcfg, hpair, ite_self]
  simp

/-! ### Head 3 -/

theorem State.Baited.takingHeads {s : State} (h : s.Baited) : s.takingHeads 3 = [3] := by
  unfold State.takingHeads
  rw [if_neg (fun hc => absurd hc.2 (by decide))]
  exact h.pairOf (by decide)

theorem State.takeUpWhere_enable {s : State} (ha : s.active = enableHead3) (ht : s.taken = []) (p : Nat → Bool) (hp : p (entryKey 0x3300 1) = true) :
    (s.takeUpWhere p).taken = enableHead3 := by
  unfold State.takeUpWhere
  dsimp only
  rw [ha, ht]
  unfold enableHead3
  simp [hp, Tab.put]

theorem State.headKey_enable (s : State) : s.headKey 3 (entryKey 0x3300 1) = true := by
  unfold State.headKey
  simp [entryKey]

theorem State.Baited.takeUpWhere {s : State} (h : s.Baited) (p : Nat → Bool) : (s.takeUpWhere p).Baited := h.of_eq rfl rfl rfl rfl rfl

/-- No layer leaves the head. -/
theorem State.Baited.layersMoved {s u : State} (h : s.Baited) (ht : s.taken = []) (hu : u.Baited) (hut : u.taken = enableHead3) (g : Nat) :
    u.layersMoved g s = u := by
  unfold State.layersMoved
  have hnone : (s.layersOf g).filter (fun l => decide (u.layerHead l ≠ g)) = [] := by
    refine List.filter_eq_nil_iff.2 (fun l hl => ?_)
    unfold State.layersOf at hl
    obtain ⟨hr, hc⟩ := List.mem_filter.1 hl
    have hold : s.layerHead l = g := by
      have := (Bool.and_eq_true _ _ ▸ hc).1
      exact of_decide_eq_true this
    have hnew : u.layerHead l = s.layerHead l := by
      unfold State.layerHead
      rw [hu.use_taken hut (by unfold entryKey; omega), h.use_fresh ht]
    simp [hnew, hold]
  rw [hnone]
  rfl

/-- No protected region of the head is switched on or off. -/
theorem State.Baited.regionUptake {s : State} (h : s.Baited) (ha : s.active = enableHead3) (ht : s.taken = enableHead3) {r : Nat} (hr : r < 64) :
    s.regionUptake r = s := by
  have huse : s.regionUse r 1 ≠ 1 := by
    unfold State.regionUse
    rw [h.use_taken ht (by unfold entryKey; omega)]
    have hall : (List.range 64).all (fun r => decide (smallReset.use (0x4300 + r) 1 ≠ 1)) = true := by decide +kernel
    exact of_decide_eq_true (List.all_eq_true.1 hall r (List.mem_range.2 hr))
  have htake : s.takeUp (fun i => i = 0x4300 + r) = s := State.takeUpWhere_taken ha ht _
  unfold State.regionUptake
  dsimp only
  rw [htake]
  simp [huse]

theorem State.Baited.takeCfg {s : State} (h : s.Baited) : (s.takeCfg 3).Baited := by
  unfold State.takeCfg State.setH
  refine State.Baited.setReg (h.modHead 3 _ ?_ ?_ ?_ ?_) (0x3007 + 256 * 3) 1 _ (by decide) <;> exact fun _ => rfl

theorem State.Baited.canopyTaken {s : State} (h : s.Baited) (old : State) : (s.canopyTaken 3 old).Baited :=
  (h.setReg (0x4200 + 3) 5 _ (by decide)).of_eq rfl rfl rfl rfl rfl

theorem State.Baited.uptakeValues {s : State} (h : s.Baited) (ha : s.active = enableHead3) (ht : s.taken = []) :
    (s.uptakeValues 3).Baited ∧ (s.uptakeValues 3).taken = enableHead3 := by
  have htook : (s.takeUpWhere (s.headKey 3)).taken = enableHead3 := State.takeUpWhere_enable ha ht _ s.headKey_enable
  have hmoved := h.layersMoved ht (h.takeUpWhere (s.headKey 3)) htook 3
  have hregions : ∀ l : List Nat, (∀ r ∈ l, r < 64) →
      (s.takeUpWhere (s.headKey 3)).each l (fun v r => v.regionUptake r) = s.takeUpWhere (s.headKey 3) := by
    intro l hl
    refine State.each_keeps_mem (P := fun v => v = s.takeUpWhere (s.headKey 3)) l _ (fun v r hr hv => ?_) _ rfl
    rw [hv]
    exact (h.takeUpWhere _).regionUptake ha htook (hl r hr)
  unfold State.uptakeValues
  rw [h.takingHeads]
  extract_lets e both hs s1 s2 s3 s4
  have hs1 : s1 = s.takeUpWhere (s.headKey 3) := rfl
  have hs2 : s2 = s1 := if_neg (by simp [both, e])
  have hs3 : s3 = s1 := by
    have : s3 = s2.layersMoved 3 s := rfl
    rw [this, hs2, hs1, hmoved]
  have hs4 : s4 = s1 := by
    have : s4 = if s3.claimed 1 3 then s3 else s3.each ((List.range 8).map (8 * 3 + ·)) (fun v r => v.regionUptake r) := rfl
    rw [this, hs3, hs1, hregions _ (by decide), ite_self]
  have hb : s4.Baited := by rw [hs4, hs1]; exact h.takeUpWhere _
  have hst : s4.taken = enableHead3 := by rw [hs4, hs1]; exact htook
  have hone : ∀ f : State → Nat → State, s4.each hs f = f s4 3 := fun _ => rfl
  clear_value s4
  rw [hone]
  refine ⟨State.Baited.modHead (hb.takeCfg.canopyTaken s) 3 _ ?_ ?_ ?_ ?_, hst⟩ <;> exact fun _ => rfl

theorem State.Baited.enableTaken {s : State} (h : s.Baited) (ht : s.taken = enableHead3) : s.enableTaken 3 = s := by
  have hon : s.use (0x3000 + 256 * s.timingHead 3) 1 = 1 := by
    rw [h.timingHead (by decide)]
    exact State.use_enable_taken ht
  have hlink : s.linkState 3 = 6 := h.link
  unfold State.enableTaken
  dsimp only
  rw [hon, hlink]
  simp

theorem State.Baited.modeTaken {s u : State} (h : s.Baited) (ht : s.taken = []) (hu : u.Baited) (hut : u.taken = enableHead3) : u.modeTaken 3 s = u := by
  have huse : ∀ i k, entryKey i k ≠ entryKey 0x3300 1 → s.use i k = u.use i k :=
    fun i k hk => (h.use_fresh ht i k).trans (hu.use_taken hut hk).symm
  have hmode : s.ringMode 3 = u.ringMode 3 := by
    unfold State.ringMode State.modeAt
    rw [h.timingHead (by decide), hu.timingHead (by decide)]
    simp (disch := decide) only [huse]
  have hcfg : s.linkCfg 3 = u.linkCfg 3 := by
    unfold State.linkCfg
    refine List.map_congr_left (fun k hk => huse _ _ ?_)
    simp only [List.mem_cons, List.not_mem_nil, or_false] at hk
    unfold entryKey
    omega
  unfold State.modeTaken
  dsimp only
  rw [hmode, hcfg]
  simp

theorem State.Baited.headRing_stopped {s : State} (h : s.Baited) (ha : s.active = enableHead3) (ht : s.taken = []) : (s.headRing 3).bootState = 5 := by
  obtain ⟨hu, hut⟩ := h.uptakeValues ha ht
  have hlink : (s.uptakeValues 3).linkState 3 = 6 := hu.link
  have hgen : s.generates 3 = false := by
    unfold State.generates
    rw [h.stopped.1, h.stopped.2]
    rfl
  have htake : (s.headTake 3).bootState = 5 := by
    unfold State.headTake
    rw [h.takingHeads, h.pairOf (by decide)]
    refine (State.bootState_refreshFetch _ _).trans ((State.bootState_clipAfterCommit _ _).trans ?_)
    have hmode : (s.uptakeValues 3).each [3] (fun u g => (u.enableTaken g).modeTaken g s) = s.uptakeValues 3 :=
      (congrArg (fun u : State => u.modeTaken 3 s) (hu.enableTaken hut)).trans (h.modeTaken ht hu hut)
    have hsame : ¬decide ([3] ≠ [3]) = true := by decide
    rw [hmode, if_neg hsame, if_pos hlink]
    exact State.bootState_beginRun_latchBait (hu.timingHead (by decide)) hu.stopped.1 hu.stopped.2 hu.pending
  unfold State.headRing
  dsimp only
  rw [h.timingHead (by decide), hgen]
  exact htake

end Sys2Proof.Machine
end

section
/-! O13. A device of two dies goes OPERATIONAL with the ring `enableHead3` while the commit waits, by which the statement is refuted. -/
set_option Elab.async false
namespace Sys2Proof.Machine

/-! ### Before the heads -/

/-- `State.Baited`, with the ring active and nothing of it taken up. -/
structure State.BaitedFresh (s : State) : Prop where
  baited : s.Baited
  active : s.active = enableHead3
  taken  : s.taken = []

theorem State.BaitedFresh.of_eff {c : Nat} {s t : State} (h : s.BaitedFresh) (he : Eff c s t) (h4 : Nat.testBit c 4 = false)
    (h5 : Nat.testBit c 5 = false) (hactive : Nat.testBit c 8 = false) (htaken : Nat.testBit c 10 = false) (hpins : Nat.testBit c 18 = false)
    (hheads : Nat.testBit c 31 = false) (hreg : t.reg 0x3302 1 = s.reg 0x3302 1) : t.BaitedFresh :=
  ⟨h.baited.of_eff he h4 h5 hpins hheads hreg, (he.active_eq hactive).trans h.active, (he.taken_eq htaken).trans h.taken⟩

theorem State.BaitedFresh.setLive {s : State} (h : s.BaitedFresh) (i k : Nat) (v : Val) (hk : entryKey i k ≠ entryKey 0x3302 1) :
    (s.setLive i k v).BaitedFresh := ⟨h.baited.setLive i k v hk, h.active, h.taken⟩

theorem State.BaitedFresh.setReg {s : State} (h : s.BaitedFresh) (i k v : Nat) (hk : entryKey i k ≠ entryKey 0x3302 1) :
    (s.setReg i k v).BaitedFresh := State.BaitedFresh.setLive h i k _ hk

theorem State.BaitedFresh.each {s : State} (h : s.BaitedFresh) (l : List Nat) (f : State → Nat → State)
    (hf : ∀ t, ∀ n ∈ l, t.BaitedFresh → (f t n).BaitedFresh) : (s.each l f).BaitedFresh := State.each_keeps_mem (P := State.BaitedFresh) l f hf s h

theorem State.BaitedFresh.takeUp {s : State} (h : s.BaitedFresh) (p : Nat → Bool) (hp : p 0x3300 = false) : s.takeUp p = s :=
  State.takeUpWhere_fresh h.active h.taken _ hp

theorem State.Baited.bootEnter {s : State} (h : s.Baited) : (s.bootEnter 8).Baited :=
  h.of_eff (State.bootEnter_eff s 8 (Eff.refl 192 s) rfl) rfl rfl rfl rfl (State.bootEnter_reg _ _ _ _ (by decide) (by decide))

theorem State.Baited.setTrunk {s : State} (h : s.Baited) (t : Nat) : (s.setTrunk t).Baited := by
  have hroles : (s.each s.dieList (fun u d => u.setReg (0x2008 + d) 1 (if d = t then 2 else 1))).Baited :=
    h.each _ _ (fun u d hd hu => hu.setReg _ _ _ (by have := State.dieList_lt hd; unfold entryKey; omega))
  have hmarked : ∀ {u : State}, u.Baited → u.markSram.Baited := by
    intro u hu
    unfold State.markSram State.secureUse
    have hperm := hu.each u.dieList (fun t d => { t with worlds := { t.worlds with
        perm := (List.range 64).foldl (fun p k => if k < t.secureGranules d then Tab.put p (sramGranule d k) 1 else Tab.erase p (sramGranule d k)) t.worlds.perm } })
      (fun t d _ ht => ht.of_eq rfl rfl rfl rfl rfl)
    refine hperm.each _ _ (fun t d hd ht => ?_)
    have := State.dieList_lt hd
    exact (ht.setReg _ _ _ (by unfold entryKey; omega)).setReg _ _ _ (by unfold entryKey; omega)
  exact hmarked (hroles.setReg 0x2000 4 t (by decide))

theorem State.BaitedFresh.showPrevious {s : State} (h : s.BaitedFresh) : s.showPrevious.BaitedFresh := by
  unfold State.showPrevious
  split <;> exact ((h.setReg _ _ _ (by decide)).setReg _ _ _ (by decide)).setLive _ _ _ (by decide)

theorem State.BaitedFresh.copyDraft {s : State} (h : s.BaitedFresh) : s.copyDraft.BaitedFresh := by
  unfold State.copyDraft
  have hdraft : ({ s with draft := s.active } : State).BaitedFresh := ⟨h.baited.of_eq rfl rfl rfl rfl rfl, h.active, h.taken⟩
  exact (hdraft.setReg _ _ _ (by decide)).setLive _ _ _ (by decide)

/-- What the device holds when the uptake begins. -/
def State.ringStarted (s : State) (vals : Tab Val) (version : Nat) (label : List Byte) (prev : Option HeldRing) : State :=
  let s0 := (s.bootEnter 8).setReg 0x2100 6 s.now
  let s1 : State := { s0 with mcan := { s0.mcan with serving := false, sessions := [] }, previous := prev, taken := [] }
  let s2 := ((((s1.activate vals version label).setReg 0x2110 8 version).showPrevious).copyDraft).setTrunk s.trunk
  s2.setRegBytes 0x2220 2 s2.reservedBytes

theorem State.goOperational_bootState (s : State) (vals : Tab Val) (version : Nat) (label : List Byte) (prev : Option HeldRing) :
    (s.goOperational vals version label prev).bootState = (s.ringStarted vals version label prev).takeAll.bootState := by
  unfold State.goOperational
  extract_lets s0 m s1 s2 s3 s4 s5 s6 s7
  have h4 : s4.bootState = s3.bootState := (State.bootState_vrStart s3.commReset).trans (State.bootState_commReset s3)
  have h5 : s5.bootState = s4.bootState := State.bootState_enterActive _
  have h6 : s6.bootState = s5.bootState := State.bootState_each _ _ _ (fun t d => State.bootState_startLending t d)
  have h7 : s7.bootState = s6.bootState := State.bootState_each _ _ _ (fun t d => State.bootState_setReg _ _ _ _ (by decide))
  have h3 : s3 = (s.ringStarted vals version label prev).takeAll := rfl
  clear_value s7 s6 s5 s4 s3
  exact (State.reg_sendVector _ _ _ _ _).trans (h7.trans (h6.trans (h5.trans (h4.trans (congrArg State.bootState h3)))))

theorem State.Baited.ringStarted {s : State} (h : s.Baited) : (s.ringStarted enableHead3 0 [] none).BaitedFresh := by
  unfold State.ringStarted
  extract_lets s0 m s1 s2
  have h0 : s0.Baited := h.bootEnter.setReg _ _ _ (by decide)
  have h1 : s1.Baited ∧ s1.taken = [] := ⟨h0.of_eq rfl rfl rfl rfl rfl, rfl⟩
  clear_value s1
  have hact : ((s1.activate enableHead3 0 []).setReg 0x2110 8 0).BaitedFresh :=
    { baited := (((h1.1.of_eq (t := { s1 with active := enableHead3 }) rfl rfl rfl rfl rfl).setReg 0x2110 1 0 (by decide)).setLive 0x2110 2 _
        (by decide)).setReg 0x2110 8 0 (by decide)
      active := rfl, taken := h1.2 }
  have hdraft := hact.showPrevious.copyDraft
  have heff := State.setTrunk_eff _ s.trunk (Eff.refl 67108992 ((s1.activate enableHead3 0 []).setReg 0x2110 8 0).showPrevious.copyDraft) rfl
  have htrunk : s2.BaitedFresh := ⟨hdraft.baited.setTrunk _, (heff.active_eq rfl).trans hdraft.active, (heff.taken_eq rfl).trans hdraft.taken⟩
  exact htrunk.setLive _ _ _ (by decide)

/-! ### The uptake -/

theorem State.BaitedFresh.hpdResample {s : State} (h : s.BaitedFresh) {g : Nat} (hg : g < 4) : (s.hpdResample g).BaitedFresh := by
  have hhigh : s.pins.hpd.contains g = true := by
    rw [h.baited.hpd]
    interval_cases g <;> rfl
  unfold State.hpdResample
  rw [if_pos hhigh]
  exact h.setReg _ _ _ (by unfold entryKey; omega)

theorem State.BaitedFresh.hapUptake {s : State} (h : s.BaitedFresh) {c : Nat} (hc : c < 4) : (s.hapUptake c).BaitedFresh := by
  have hphase : (s.bringPhase c).BaitedFresh :=
    h.of_eff (State.bringPhase_eff s c (Eff.refl 274877906944 s) rfl) rfl rfl rfl rfl rfl rfl rfl
  have htake : (s.bringPhase c).takeUp (fun i => i = 0x6400 + c) = s.bringPhase c := hphase.takeUp _ (by simp; omega)
  have huse : ∀ k, s.hapCfg c k = (s.bringPhase c).hapCfg c k := fun _ => rfl
  have hoff : (s.bringPhase c).hapCfg c 1 ≠ 1 := by
    unfold State.hapCfg
    rw [hphase.baited.use_fresh hphase.taken]
    have hall : (List.range 4).all (fun c => decide (smallReset.use (0x6400 + c) 1 ≠ 1)) = true := by decide +kernel
    exact of_decide_eq_true (List.all_eq_true.1 hall c (List.mem_range.2 hc))
  unfold State.hapUptake
  dsimp only
  rw [htake]
  have hfall : ((s.bringPhase c).henFall c 0 Status.aborted).BaitedFresh :=
    hphase.of_eff (State.henFall_eff _ c 0 _ (Eff.refl 17868676669568 _) rfl) rfl rfl rfl rfl rfl rfl
      (State.reg_henFall _ _ _ _ _ _ (by decide) (by decide) (by decide) (by decide))
  have hend : (if s.hapState c = 0 then s.bringPhase c else (s.bringPhase c).henFall c 0 Status.aborted).BaitedFresh := by
    split
    · exact hphase
    · exact hfall
  simpa [huse, hoff] using hend

theorem State.BaitedFresh.effectUptake {s : State} (h : s.BaitedFresh) : s.effectUptake.BaitedFresh := by
  unfold State.effectUptake
  rw [h.takeUp _ (by decide)]
  refine h.each _ _ (fun t n _ ht => ?_)
  dsimp only
  split
  · exact ht
  · exact ht.setReg _ _ _ (entryKey_inst_ne (by decide))

theorem State.BaitedFresh.lanesUptake {s : State} (h : s.BaitedFresh) : s.lanesUptake = s := by
  have hsame : ∀ n, s.laneRateChanged n = false := by
    intro n
    unfold State.laneRateChanged
    rw [h.active, h.taken]
    have hkey : laneRateKey n (entryKey 0x3300 1) = false := by
      unfold laneRateKey
      exact decide_eq_false (fun hc => by have := hc.1; unfold entryKey at this; omega)
    unfold enableHead3
    simp [hkey]
  unfold State.lanesUptake
  simp [hsame, State.each]

theorem State.BaitedFresh.headRing {s : State} (h : s.BaitedFresh) {g : Nat} (hg : g < 3) : (s.headRing g).BaitedFresh := by
  rw [h.baited.headRing_running h.active hg]
  exact ⟨h.baited.modHead g _ (fun _ => rfl) (fun _ => rfl) (fun _ => rfl) (fun _ => rfl), h.active, h.taken⟩

theorem State.BaitedFresh.ringUptake {s : State} (h : s.BaitedFresh) (old : State) : (s.ringUptake old).bootState = 5 := by
  unfold State.ringUptake
  rw [h.takeUp _ (by decide)]
  extract_lets s1 s2 s3 s4
  have h2 : s2.BaitedFresh := h.each _ _ (fun t c hc ht => ht.hapUptake (by rw [h.baited.dies] at hc; exact List.mem_range.1 hc))
  have h3 : s3.BaitedFresh := by
    have : s3 = s2.effectUptake := State.BaitedFresh.lanesUptake h2.effectUptake
    rw [this]
    exact h2.effectUptake
  have h4 : s4.bootState = 5 := by
    have hheads : s4 = (((s3.headRing 0).headRing 1).headRing 2).headRing 3 := by
      have : s4 = s3.each (List.range (2 * s.dies)) (fun t k => t.headRing k) := rfl
      rw [this, h.baited.dies, show List.range (2 * 2) = [0, 1, 2, 3] from rfl]
      simp only [State.each]
    have hlast := ((h3.headRing (g := 0) (by decide)).headRing (g := 1) (by decide)).headRing (g := 2) (by decide)
    rw [hheads]
    exact hlast.baited.headRing_stopped hlast.active hlast.taken
  exact (State.bootState_mcanUptake _ _).trans h4

theorem State.BaitedFresh.takeAll {s : State} (h : s.BaitedFresh) : s.takeAll.bootState = 5 := by
  unfold State.takeAll
  extract_lets s0 s1
  have h0 : s0.BaitedFresh := h.each _ _ (fun t g hg ht => ht.hpdResample (by rw [h.baited.dies] at hg; exact List.mem_range.1 hg))
  have h1 : s1.bootState = 5 := by
    have : s1 = s0.ringUptake s := congrArg (fun t : State => t.ringUptake s) (h0.takeUp _ (by decide))
    rw [this]
    exact h0.ringUptake s
  clear_value s1
  refine (State.bootState_lanesStart _).trans ((State.bootState_audioStart _).trans ((State.bootState_hapStart _).trans ?_))
  exact (State.bootState_each _ _ _ (fun t d => State.bootState_keyUptake t d)).trans h1

/-! ### The counterexample -/

/-- A UX-3804 after reset, of whose heads 0 to 2 run and head 3 has a link and a commit that waits. -/
def baitedReset : State :=
  { smallReset with
    live := Tab.put smallReset.live (entryKey 0x3302 1) (.num 6)
    pins := { smallReset.pins with hpd := [0, 1, 2, 3] }
    heads := [(0, { running := true }), (1, { running := true }), (2, { running := true }), (3, { pending := [latchBait] })] }

theorem baitedReset_baited : baitedReset.Baited where
  part := rfl
  grade := rfl
  hpd := rfl
  single g hg := by interval_cases g <;> rfl
  running g hg := by interval_cases g <;> rfl
  stopped := ⟨rfl, rfl⟩
  pending := rfl
  link := by decide +kernel

/-- Refutes O13: its last clause speaks of every state that goes OPERATIONAL. Where a commit whose record names the boot state (0x2100.01)
waits on a head, the uptake of a ring that enables the head starts its generator, the commit latches, and the boot state is the record's
value. -/
theorem not_trainingAndInitialRing : ¬ Obligations.TrainingAndInitialRing := by
  intro h
  obtain ⟨-, -, -, -, -, -, -, -, hstate⟩ := h
  have h5 : (baitedReset.goOperational enableHead3 0 [] none).bootState = 5 :=
    (State.goOperational_bootState _ _ _ _ _).trans baitedReset_baited.ringStarted.takeAll
  have h8 := hstate baitedReset enableHead3 0 [] none
  rw [h5] at h8
  exact absurd h8 (by decide)

end Sys2Proof.Machine
end
